-- ==== Sys2Proof/Word.lean ====
section
/-! DEFINITION. Words, octets, octet strings and finite maps kept as plain data (spec 00, R1 and R2). -/

namespace Sys2Proof

/-- An octet (spec 00, Terms). -/
abbrev Byte := BitVec 8

/-- A word is always 72 bits (spec 00, Terms). -/
abbrev Word := BitVec 72

/-- A string of octets, octet 0 first (R2). -/
abbrev Bytes := List Byte

/-- A finite map as plain data: pairs with strictly rising keys. -/
abbrev Map (α : Type) := List (Nat × α)

end Sys2Proof
end

