-- ==== Sys2Proof/Syntax.lean ====
section
/-! DEFINITION. The commands the block takes (the rows of the table of operations and events) and their operands. -/

namespace Sys2Proof

/-- The four allowance classes (R128). -/
inductive EngClass where
  | le | hc | be | aead
  deriving DecidableEq, Repr

/-- An amount of engine work in each class: ENG cycles for LE, HC and BE, octets for AEAD (R128). -/
structure Work where
  le : Nat
  hc : Nat
  be : Nat
  aead : Nat
  deriving DecidableEq, Repr

/-- A message: the channel slot it came in on and its sequence (R42, R77). -/
structure JobRef where
  chan : Nat
  seq : Nat
  deriving DecidableEq, Repr

/-- A dispatched job run to its end, with the work its engines did (R129, R173; log 12). -/
structure JobRun where
  j : JobRef
  used : Work
  deriving DecidableEq, Repr

/-- Where a frame came from or goes to (R24): encapsulation 0 UDP/IPv4, 1 UDP/IPv6, 2 raw. -/
structure Peer where
  encap : Nat
  addr : Nat
  udp : Nat
  deriving DecidableEq, Repr

/-- The carrier's own lengths (R41). -/
inductive Carrier where
  /-- UDP length and IP payload length. -/
  | udp (udpLen ipPayload : Nat)
  /-- Ethernet frame length with FCS, and whether the frame is tagged. -/
  | raw (frameLen : Nat) (tagged : Bool)
  deriving DecidableEq, Repr

/-- A received Opfel frame (R23, R41, R42): `peer` is its source, `dst` its destination IP address, or MAC address in raw mode, `dport` its UDP destination
port, or EtherType in raw mode; `held` octets of it arrived, `header` is octets 0-39 and `body` the octets after them, both as received. -/
structure OpfelIn where
  port : Nat
  peer : Peer
  dst : Nat
  dport : Nat
  carrier : Carrier
  held : Nat
  header : Bytes
  body : Bytes
  deriving DecidableEq, Repr

/-- A received Ethernet frame as the receive filter sees it (R19, R22, R23). -/
structure EthFrame where
  len : Nat
  fcsOk : Bool
  vlan : Option Nat
  dst : Nat
  etherType : Nat
  dstIp : Nat
  fragment : Bool
  options : Bool
  proto : Nat
  udpPort : Nat
  sumOk : Bool
  sumZero : Bool
  deriving DecidableEq, Repr

/-- What every PTP message says of itself (R33): its transport, 0 Annex C, 1 Annex D, 2 Annex E, and its domain. -/
structure PtpHdr where
  transport : Nat
  domain : Nat
  deriving DecidableEq, Repr

/-- A PTP Announce message beside its master: what it says of itself, its UTC offset and its announce interval in ns (R33). -/
structure PtpAnnounce where
  h : PtpHdr
  utcOffset : Int
  interval : Nat
  deriving DecidableEq, Repr

/-- The port whose hardware stamps a message, and the error of that timestamp in ns (R34). -/
structure PtpStamp where
  port : Nat
  err : Int
  deriving DecidableEq, Repr

/-- The instants that a delay response tells: when the request was received and, peer to peer, when the response was sent (R33). -/
structure PtpTimes where
  rx : Int
  tx : Int
  deriving DecidableEq, Repr

/-- Where an ANNOUNCE came from: the port that received it, its source, and the sequence of its header (R28, R29). -/
structure AnnounceSrc where
  port : Nat
  peer : Peer
  seq : Nat
  deriving DecidableEq, Repr

/-- An ANNOUNCE that has wholly arrived: where it came from, and its body (R28). -/
structure AnnounceMsg where
  src : AnnounceSrc
  body : Bytes
  deriving DecidableEq, Repr

/-- A PTP master as the best-master comparison ranks it (R33): the lower rank is the better master. -/
structure PtpMaster where
  ident : Nat
  rank : Nat
  deriving DecidableEq, Repr

/-- A reassembled HANDSHAKE request (R79). -/
structure HsReq where
  tenant : Nat
  ident : Nat
  cookie : Nat
  port : Nat
  peer : Peer
  declared : Nat
  body : Bytes
  deriving DecidableEq, Repr

/-- A microword issued on lattice engine `le` (R222), with what its nanoword fixes beyond the operation (R224): grain code,
span code, modulus register, pattern, compression width or twiddle stride, and mask register (log 10). -/
structure Mw where
  le : Nat
  secret : Bool
  safePoint : Bool
  dest : BitVec 5
  src1 : BitVec 5
  src2 : BitVec 5
  wait : BitVec 4
  addr : BitVec 14
  g : Nat
  sp : Nat
  q : Nat
  pat : Nat
  mask : Nat
  deriving DecidableEq, Repr

/-- A message whose segments have not all arrived (R44, R56, R79, R379): of a channel, by its slot and sequence; a HANDSHAKE request, by its source, tenant and
identifier; a PEER message, by its link handle and sequence, a HELLO apart from the others; an ANNOUNCE, by its source, port and sequence. -/
inductive PartRef where
  | message (j : JobRef)
  | handshake (src : Peer) (tenant ident : Nat)
  | peer (hello : Bool) (handle seq : Nat)
  | announce (src : Peer) (port seq : Nat)
  deriving DecidableEq, Repr

/-- What discovery reads from a flash (R339): its SFDP tables (0 none, 1 valid, 2 invalid), the read protocols they list, coded as PROTOCOL_MAX, whether they
list the commands that change the protocol, and `wide`: its default address width is 4 octets. -/
structure Discovery where
  ok : Bool
  jedec : Nat
  sfdp : Nat
  density : Nat
  page : Nat
  protocols : List Nat
  erases : List (Nat × Nat)
  wide : Bool
  switches : Bool
  deriving DecidableEq, Repr

/-- The read of one region (R340): whether it ended without a timeout, and the octets that it gave the measurement digest engine. -/
structure Measured where
  readOk : Bool
  data : Bytes
  deriving DecidableEq, Repr

/-- A PEER HELLO message (R380). -/
structure Hello where
  sender : Nat
  receiver : Nat
  gen : Nat
  version : Nat
  spare : Nat
  groupId : Nat
  config : Nat
  epoch : Nat
  initDigest : Nat
  share : Bytes
  kem : Bytes
  idKey : Bytes
  sig : Bytes
  deriving DecidableEq, Repr

/-- The header of a PEER message other than HELLO (R379). -/
structure PeerHdr where
  sender : Nat
  receiver : Nat
  gen : Nat
  seq : Nat
  deriving DecidableEq, Repr

/-- A heartbeat's body (R381). -/
structure HeartbeatBody where
  term : Nat
  sequencer : Nat
  flags : Nat
  reachable : Nat
  commit : Nat
  lastTerm : Nat
  lastIndex : Nat
  deriving DecidableEq, Repr

/-- A group log entry with its body (R376). -/
structure GEntry where
  term : Nat
  index : Nat
  kind : Nat
  origin : Nat
  body : Bytes
  deriving DecidableEq, Repr

/-- A group write on its way to the sequencer (R386). -/
structure GWrite where
  tag : Nat
  kind : Nat
  body : Bytes
  deriving DecidableEq, Repr

/-- A snapshot of the group's applied state (R389), or one of the `parts` that it travels in where one message cannot hold it (R57): its limits and records
are divided among them. -/
structure GSnapshot where
  term : Nat
  index : Nat
  counter : Nat
  sealedCounter : Nat
  lastSealed : Nat
  authority : Nat
  limits : List (Nat × Nat)
  records : List Bytes
  part : Nat
  parts : Nat
  deriving DecidableEq, Repr

/-- The sources of a hardware fault (*Fault classes*, R445). -/
inductive FaultKind where
  | leParity | clusterParity | storeParity | hashParity | engineParity | rsaCheck | gateAbort | portParity
  deriving DecidableEq, Repr

/-- A hardware fault: the unit it is charged to, the job it struck, and the memory fault record (R266, R445). -/
structure HwFault where
  kind : FaultKind
  unit : Nat
  job : Option JobRef
  element : Option Nat
  record : Nat
  deriving DecidableEq, Repr

/-- A working-store word lost, by the region that held it (*Lost working-store words*, R447). -/
inductive LostWord where
  | jobInput (j : JobRef)
  | egress (j : JobRef)
  | matrix (digest : Nat)
  | loadedKey (handle : Nat)
  | volatileKey (handle : Nat)
  | drbg (d : Nat)
  | channel (slot : Nat)
  | stream (chan n : Nat)
  | ringArchived
  | ringUnarchived (seq : Nat)
  | eventLog (row : Nat)
  | dictShadow
  | firmware
  deriving DecidableEq, Repr


/-- The commands of the block, one constructor per row of the table of operations and events. -/
inductive Instr where
  /-- LINK_DOWN (R30). -/
  | linkDown (port : Nat)
  /-- LINK_UP (R27). -/
  | linkUp (port : Nat) (speed : Nat) (partnerFec : List Nat) (conflicts : List Nat)
  /-- FAILBACK_HOLD_EXPIRY (R32). -/
  | failbackHoldExpiry (port : Nat)
  /-- PORT_CONFIG_CHANGE (R21). -/
  | portConfigChange (port : Nat)
  /-- ETHERNET_FRAME_RECEIVE (R23). -/
  | ethernetFrameReceive (port : Nat) (f : EthFrame)
  /-- ARP_REQUEST (R25). -/
  | arpRequest (port : Nat) (target : BitVec 32)
  /-- NEIGHBOUR_SOLICITATION (R25). -/
  | neighbourSolicitation (port : Nat) (target : BitVec 128)
  /-- ECHO_REQUEST (R25). -/
  | echoRequest (port : Nat) (v6 : Bool) (payload : Bytes)
  /-- ANNOUNCE_INTERVAL_EXPIRY (R27). -/
  | announceIntervalExpiry (port : Nat)
  /-- ANNOUNCE_SEND (R28). -/
  | announceSend (port : Nat)
  /-- ANNOUNCE_RECEIVE (R28). -/
  | announceReceive (src : AnnounceSrc) (body : Bytes) (key : Bytes) (cert : Bytes)
  /-- PTP_ANNOUNCE_MESSAGE (R33). -/
  | ptpAnnounceMessage (port : Nat) (m : PtpMaster) (a : PtpAnnounce)
  /-- PTP_SYNC_MESSAGE (R37). -/
  | ptpSyncMessage (k : PtpStamp) (h : PtpHdr) (masterId : Nat) (t1 : Int)
  /-- PTP_DELAY_REQUEST_TIMER (R33). -/
  | ptpDelayRequestTimer (k : PtpStamp)
  /-- PTP_DELAY_RESPONSE (R33). -/
  | ptpDelayResponse (k : PtpStamp) (h : PtpHdr) (r : PtpTimes)
  /-- ANNOUNCE_RECEIPT_TIMEOUT (R37). -/
  | announceReceiptTimeout (port : Nat)
  /-- HOLDOVER_LIMIT_EXPIRY (R37). -/
  | holdoverLimitExpiry
  /-- REFCLK_SD_LOST (R433). -/
  | refclkSdLost
  /-- REFCLK_SD_RETURN (R127). -/
  | refclkSdReturn
  /-- OPFEL_FRAME (R45). -/
  | opfelFrame (f : OpfelIn)
  /-- REASSEMBLY_TIMEOUT (R56). -/
  | reassemblyTimeout (p : PartRef)
  /-- CREDIT (R63). -/
  | credit (f : OpfelIn)
  /-- COMPLETION_RELEASE (R14). -/
  | completionRelease (j : JobRef)
  /-- HANDSHAKE_REQUEST (R81). -/
  | handshakeRequest (r : HsReq)
  /-- HANDSHAKE_REPLY (R82). -/
  | handshakeReply (tenant : Nat) (ident : Nat) (src : Peer)
  /-- PENDING_EXPIRY (R86). -/
  | pendingExpiry (chan : Nat)
  /-- KEEPALIVE_EXPIRY (R87). -/
  | keepaliveExpiry (chan : Nat)
  /-- PING (R91). -/
  | ping (j : JobRef)
  /-- CLOSE (R88). -/
  | close (j : JobRef)
  /-- CLOSE_DRAINED (R88). -/
  | closeDrained (chan : Nat)
  /-- CLOSE_NOW (R89). -/
  | closeNow (j : JobRef)
  /-- RETIRE (R94). -/
  | retire (j : JobRef)
  /-- SUBSCRIBE (R91). -/
  | subscribe (j : JobRef)
  /-- TENANT_RESET (R99). -/
  | tenantReset (j : JobRef)
  /-- TENANT_STATE_WRITE (R72). -/
  | tenantStateWrite (j : JobRef) (tenant : Nat) (enabled : Bool)
  /-- ENROL (R98). -/
  | enrol (j : JobRef)
  /-- SET_KEEPALIVE (R91). -/
  | setKeepalive (j : JobRef)
  /-- READ (R109). -/
  | read (j : JobRef)
  /-- WRITE (R110). -/
  | write (j : JobRef)
  /-- SEALED_WRITE (R119). -/
  | sealedWrite (j : JobRef)
  /-- DESCRIBE (R118). -/
  | describe (j : JobRef)
  /-- JOURNAL_COMMIT (R113). -/
  | journalCommit (programOk : Bool)
  /-- EVENT_CLEAR (R117). -/
  | eventClear (j : JobRef) (idx : Nat) (sub : Nat) (count : Nat) (mask : Nat)
  /-- JOB_DISPATCH (R134). -/
  | jobDispatch (j : JobRef) (units : List Nat)
  /-- LAP_BOUNDARY (R135). -/
  | lapBoundary
  /-- LAP_LENGTH_CHANGE (R125). -/
  | lapLengthChange
  /-- BUDGET_EXHAUSTED (R137). -/
  | budgetExhausted (tenant : Nat) (cls : EngClass)
  /-- SAFE_POINT_REACHED (R232). -/
  | safePointReached (unit : Nat)
  /-- ML_KEM_KEYGEN (R155). -/
  | mlKemKeygen (r : JobRun)
  /-- ML_KEM_KEYGEN_FROM_SEED (R155). -/
  | mlKemKeygenFromSeed (r : JobRun)
  /-- ML_KEM_ENCAPS (R155). -/
  | mlKemEncaps (r : JobRun)
  /-- ML_KEM_DECAPS (R156). -/
  | mlKemDecaps (r : JobRun)
  /-- ML_DSA_KEYGEN (R157). -/
  | mlDsaKeygen (r : JobRun)
  /-- ML_DSA_SIGN (R159). -/
  | mlDsaSign (r : JobRun)
  /-- ML_DSA_VERIFY (R157). -/
  | mlDsaVerify (r : JobRun)
  /-- ML_DSA_SIGN_MU (R157). -/
  | mlDsaSignMu (r : JobRun)
  /-- ML_DSA_VERIFY_MU (R157). -/
  | mlDsaVerifyMu (r : JobRun)
  /-- ML_DSA_HASH_SIGN (R157). -/
  | mlDsaHashSign (r : JobRun)
  /-- ML_DSA_HASH_VERIFY (R157). -/
  | mlDsaHashVerify (r : JobRun)
  /-- SLH_DSA_KEYGEN (R161). -/
  | slhDsaKeygen (r : JobRun)
  /-- SLH_DSA_SIGN (R162). -/
  | slhDsaSign (r : JobRun)
  /-- SLH_DSA_VERIFY (R161). -/
  | slhDsaVerify (r : JobRun)
  /-- SLH_DSA_HASH_SIGN (R161). -/
  | slhDsaHashSign (r : JobRun)
  /-- SLH_DSA_HASH_VERIFY (R161). -/
  | slhDsaHashVerify (r : JobRun)
  /-- FN_DSA_VERIFY (R163). -/
  | fnDsaVerify (r : JobRun)
  /-- HQC_KEYGEN (R164). -/
  | hqcKeygen (r : JobRun)
  /-- HQC_ENCAPS (R164). -/
  | hqcEncaps (r : JobRun)
  /-- HQC_DECAPS (R164). -/
  | hqcDecaps (r : JobRun)
  /-- MCELIECE_KEYGEN (R165). -/
  | mcelieceKeygen (r : JobRun)
  /-- MCELIECE_ENCAPS (R166). -/
  | mcelieceEncaps (r : JobRun)
  /-- MCELIECE_DECAPS (R164). -/
  | mcelieceDecaps (r : JobRun)
  /-- STATEFUL_KEYGEN (R167). -/
  | statefulKeygen (r : JobRun)
  /-- STATEFUL_SIGN (R168). -/
  | statefulSign (r : JobRun)
  /-- STATEFUL_VERIFY (R167). -/
  | statefulVerify (r : JobRun)
  /-- RESERVATION_COMMIT (R169). -/
  | reservationCommit (handle : Nat) (ok : Bool)
  /-- ECC_KEYGEN (R177). -/
  | eccKeygen (r : JobRun)
  /-- ECC_SIGN (R178). -/
  | eccSign (r : JobRun)
  /-- ECC_VERIFY (R177). -/
  | eccVerify (r : JobRun)
  /-- ECC_AGREE (R179). -/
  | eccAgree (r : JobRun)
  /-- ECC_HASH_SIGN (R177). -/
  | eccHashSign (r : JobRun)
  /-- ECC_HASH_VERIFY (R177). -/
  | eccHashVerify (r : JobRun)
  /-- RSA_KEYGEN (R182). -/
  | rsaKeygen (r : JobRun)
  /-- RSA_SIGN (R181). -/
  | rsaSign (r : JobRun)
  /-- RSA_VERIFY (R180). -/
  | rsaVerify (r : JobRun)
  /-- RSA_DECRYPT (R181). -/
  | rsaDecrypt (r : JobRun)
  /-- RSA_ENCRYPT (R180). -/
  | rsaEncrypt (r : JobRun)
  /-- RSA_HASH_SIGN (R181). -/
  | rsaHashSign (r : JobRun)
  /-- RSA_HASH_VERIFY (R180). -/
  | rsaHashVerify (r : JobRun)
  /-- AEAD_ENCRYPT (R183). -/
  | aeadEncrypt (r : JobRun)
  /-- AEAD_DECRYPT (R183). -/
  | aeadDecrypt (r : JobRun)
  /-- DIGEST (R186). -/
  | digest (r : JobRun)
  /-- MAC (R186). -/
  | mac (r : JobRun)
  /-- MAC_VERIFY (R186). -/
  | macVerify (r : JobRun)
  /-- EXTRACT (R187). -/
  | extract (r : JobRun)
  /-- EXPAND (R187). -/
  | expand (r : JobRun)
  /-- EXTRACT_EXPAND (R187). -/
  | extractExpand (r : JobRun)
  /-- RANDOM_OCTETS (R188). -/
  | randomOctets (r : JobRun)
  /-- GEN_SYMMETRIC (R189). -/
  | genSymmetric (r : JobRun)
  /-- IMPORT_PUBLIC (R189). -/
  | importPublic (r : JobRun)
  /-- EXPORT_PUBLIC (R189). -/
  | exportPublic (r : JobRun)
  /-- DESTROY (R190). -/
  | destroy (r : JobRun)
  /-- KUM_CREATE (R323). -/
  | kumCreate (r : JobRun)
  /-- KUM_IMPORT (R323). -/
  | kumImport (r : JobRun)
  /-- KUM_REPLACE (R323). -/
  | kumReplace (r : JobRun)
  /-- KUM_DESTROY (R323). -/
  | kumDestroy (r : JobRun)
  /-- KUM_SET_ATTR (R323). -/
  | kumSetAttr (r : JobRun)
  /-- KUM_COMMIT (R324). -/
  | kumCommit (domain : Nat) (ok : Bool)
  /-- KEY_LOAD (R328). -/
  | keyLoad (handle : Nat)
  /-- SERVER_SHARE (R191). -/
  | serverShare (r : JobRun)
  /-- CLIENT_SHARE (R191). -/
  | clientShare (r : JobRun)
  /-- CLIENT_HANDSHAKE (R191). -/
  | clientHandshake (r : JobRun)
  /-- HANDSHAKE_SECRETS (R191). -/
  | handshakeSecrets (r : JobRun)
  /-- APP_SECRETS (R191). -/
  | appSecrets (r : JobRun)
  /-- RESUMPTION (R191). -/
  | resumption (r : JobRun)
  /-- STAMP (R193). -/
  | stamp (r : JobRun)
  /-- QUOTE (R371). -/
  | quote (r : JobRun)
  /-- COMPARE (R285). -/
  | compare (r : JobRun)
  /-- STREAM_MESSAGE (R277). -/
  | streamMessage (r : JobRun)
  /-- OWNER_KERNEL_JOB (R243). -/
  | ownerKernelJob (j : JobRef)
  /-- OWNER_KERNEL_COST_LIMIT (R243). -/
  | ownerKernelCostLimit (j : JobRef)
  /-- FETCH (R370). -/
  | fetch (j : JobRef)
  /-- HEAD (R369). -/
  | head (j : JobRef)
  /-- CHECKPOINT (R362). -/
  | checkpoint (j : JobRef)
  /-- NOP (R268). -/
  | nop (w : Mw)
  /-- ADD (R251). -/
  | add (w : Mw)
  /-- SUB (R251). -/
  | sub (w : Mw)
  /-- ADDM (R251). -/
  | addm (w : Mw)
  /-- SUBM (R251). -/
  | subm (w : Mw)
  /-- REDB (R251). -/
  | redb (w : Mw)
  /-- MULM (R251). -/
  | mulm (w : Mw)
  /-- MULW (R251). -/
  | mulw (w : Mw)
  /-- DOT (R251). -/
  | dot (w : Mw)
  /-- REDW (R251). -/
  | redw (w : Mw)
  /-- CLMUL (R251). -/
  | clmul (w : Mw)
  /-- BASEMUL (R251). -/
  | basemul (w : Mw)
  /-- CT18 (R253). -/
  | ct18 (w : Mw)
  /-- GS18 (R253). -/
  | gs18 (w : Mw)
  /-- CT36L (R253). -/
  | ct36l (w : Mw)
  /-- CT36U (R253). -/
  | ct36u (w : Mw)
  /-- CT36_TOP_SUM (R254). -/
  | ct36TopSum (w : Mw)
  /-- CT36_TOP_DIFF (R254). -/
  | ct36TopDiff (w : Mw)
  /-- GS36L (R253). -/
  | gs36l (w : Mw)
  /-- GS36U (R253). -/
  | gs36u (w : Mw)
  /-- GS36_TOP_SUM (R254). -/
  | gs36TopSum (w : Mw)
  /-- GS36_TOP_DIFF (R254). -/
  | gs36TopDiff (w : Mw)
  /-- AND (R255). -/
  | and (w : Mw)
  /-- OR (R255). -/
  | or (w : Mw)
  /-- XOR (R255). -/
  | xor (w : Mw)
  /-- ANDN (R255). -/
  | andn (w : Mw)
  /-- SHL (R255). -/
  | shl (w : Mw)
  /-- SHR (R255). -/
  | shr (w : Mw)
  /-- ROL64 (R255). -/
  | rol64 (w : Mw)
  /-- CMPLT (R255). -/
  | cmplt (w : Mw)
  /-- CMPEQ (R255). -/
  | cmpeq (w : Mw)
  /-- MOVM (R255). -/
  | movm (w : Mw)
  /-- POPC (R255). -/
  | popc (w : Mw)
  /-- MFROMV (R255). -/
  | mfromv (w : Mw)
  /-- ANDR (R255). -/
  | andr (w : Mw)
  /-- ORR (R255). -/
  | orr (w : Mw)
  /-- PERM (R256). -/
  | perm (w : Mw)
  /-- UNPACK_Z (R257). -/
  | unpackZ (w : Mw)
  /-- UNPACK_S (R257). -/
  | unpackS (w : Mw)
  /-- PACK (R257). -/
  | pack (w : Mw)
  /-- COMPRESS (R258). -/
  | compress (w : Mw)
  /-- DECOMPRESS (R258). -/
  | decompress (w : Mw)
  /-- BYTE_ENCODE (R258). -/
  | byteEncode (w : Mw)
  /-- BYTE_DECODE (R258). -/
  | byteDecode (w : Mw)
  /-- BITPACK (R258). -/
  | bitpack (w : Mw)
  /-- BITUNPACK (R258). -/
  | bitunpack (w : Mw)
  /-- P2R_HI (R258). -/
  | p2rHi (w : Mw)
  /-- P2R_LO (R258). -/
  | p2rLo (w : Mw)
  /-- DEC88_HI (R258). -/
  | dec88Hi (w : Mw)
  /-- DEC88_LO (R258). -/
  | dec88Lo (w : Mw)
  /-- DEC32_HI (R258). -/
  | dec32Hi (w : Mw)
  /-- DEC32_LO (R258). -/
  | dec32Lo (w : Mw)
  /-- MKHINT88 (R258). -/
  | mkhint88 (w : Mw)
  /-- MKHINT32 (R258). -/
  | mkhint32 (w : Mw)
  /-- USEHINT88 (R258). -/
  | usehint88 (w : Mw)
  /-- USEHINT32 (R258). -/
  | usehint32 (w : Mw)
  /-- CBD2 (R259). -/
  | cbd2 (w : Mw)
  /-- CBD3 (R259). -/
  | cbd3 (w : Mw)
  /-- COMPACT (R260). -/
  | compact (w : Mw)
  /-- CT_COMPACT (R260). -/
  | ctCompact (w : Mw)
  /-- SECAND (R261). -/
  | secand (w : Mw)
  /-- SECMULM (R261). -/
  | secmulm (w : Mw)
  /-- A2B (R261). -/
  | a2b (w : Mw)
  /-- B2A (R261). -/
  | b2a (w : Mw)
  /-- DECL_BIT (R262). -/
  | declBit (w : Mw)
  /-- DECL_BIT2 (R262). -/
  | declBit2 (w : Mw)
  /-- DECL_BIT3 (R262). -/
  | declBit3 (w : Mw)
  /-- AADD (R263). -/
  | aadd (w : Mw)
  /-- ASUB (R263). -/
  | asub (w : Mw)
  /-- AAND (R263). -/
  | aand (w : Mw)
  /-- ASHR (R263). -/
  | ashr (w : Mw)
  /-- AADDI (R263). -/
  | aaddi (w : Mw)
  /-- ALDI (R263). -/
  | aldi (w : Mw)
  /-- ASETW (R263). -/
  | asetw (w : Mw)
  /-- AFROMV (R263). -/
  | afromv (w : Mw)
  /-- ABCAST (R263). -/
  | abcast (w : Mw)
  /-- MCOUNT (R263). -/
  | mcount (w : Mw)
  /-- LDC (R264). -/
  | ldc (w : Mw)
  /-- STC (R264). -/
  | stc (w : Mw)
  /-- LDQ (R202). -/
  | ldq (w : Mw)
  /-- LDS (R264). -/
  | lds (w : Mw)
  /-- STS (R264). -/
  | sts (w : Mw)
  /-- RELEASE (R264). -/
  | release (w : Mw)
  /-- GATHER16_C (R265). -/
  | gather16C (w : Mw)
  /-- SCATTER16_C (R265). -/
  | scatter16C (w : Mw)
  /-- GATHER16_S (R265). -/
  | gather16S (w : Mw)
  /-- SCATTER16_S (R265). -/
  | scatter16S (w : Mw)
  /-- SOPEN (R267). -/
  | sopen (w : Mw)
  /-- SABSORB (R267). -/
  | sabsorb (w : Mw)
  /-- SFINAL (R267). -/
  | sfinal (w : Mw)
  /-- SSQUEEZE (R267). -/
  | ssqueeze (w : Mw)
  /-- SCLOSE (R267). -/
  | sclose (w : Mw)
  /-- MASK_DRAW (R268). -/
  | maskDraw (w : Mw)
  /-- DRBG_DRAW (R269). -/
  | drbgDraw (w : Mw)
  /-- KEY_FETCH (R269). -/
  | keyFetch (w : Mw)
  /-- KEY_BUS_DELIVERY_DONE (R219). -/
  | keyBusDeliveryDone (le : Nat)
  /-- MBOX_READ (R268). -/
  | mboxRead (w : Mw)
  /-- MATRIX_REQ (R270). -/
  | matrixReq (w : Mw)
  /-- MATRIX_ANSWER (R270). -/
  | matrixAnswer (le : Nat)
  /-- MATRIX_DONE (R270). -/
  | matrixDone (w : Mw)
  /-- NEXT (R226). -/
  | next (w : Mw)
  /-- JUMP (R226). -/
  | jump (w : Mw)
  /-- BRZ (R226). -/
  | brz (w : Mw)
  /-- BRNZ (R226). -/
  | brnz (w : Mw)
  /-- CALL (R226). -/
  | call (w : Mw)
  /-- RET (R226). -/
  | ret (w : Mw)
  /-- LOOP (R227). -/
  | loop (w : Mw)
  /-- EXIT (R238). -/
  | exit (w : Mw)
  /-- WAIT_WATCHDOG (R231). -/
  | waitWatchdog (le : Nat)
  /-- ENTROPY_STALL_TIMEOUT (R301). -/
  | entropyStallTimeout (le : Nat)
  /-- MASK_GENERATOR_RESEED (R209). -/
  | maskGeneratorReseed (le : Nat)
  /-- CS_REPAIR (R236). -/
  | csRepair (cluster : Nat) (nano : Bool) (addr : Nat)
  /-- FLOOR_RAISE (R241). -/
  | floorRaise (j : JobRef) (floor : Nat)
  /-- INSTALL (R244). -/
  | install (j : JobRef)
  /-- DISCARD (R244). -/
  | discard (j : JobRef)
  /-- REMOVE (R244). -/
  | remove (j : JobRef) (binding : Nat)
  /-- KERNEL_COMMIT (R246). -/
  | kernelCommit (ok : Bool)
  /-- SOURCE_WARMUP_DONE (R290). -/
  | sourceWarmupDone (src : Nat)
  /-- SOURCE_WINDOW_END (R291). -/
  | sourceWindowEnd (src : Nat) (samples : List Bool)
  /-- REPETITION_COUNT_FAIL (R291). -/
  | repetitionCountFail (src : Nat)
  /-- BLOCK_CONDITIONED (R293). -/
  | blockConditioned (src : Nat)
  /-- RESTART (R294). -/
  | restart (j : JobRef) (src : Nat)
  /-- DISABLE (R294). -/
  | disable (j : JobRef) (src : Nat)
  /-- RESEED_ALL (R299). -/
  | reseedAll (j : JobRef)
  /-- RAW_SAMPLE_READ (R302). -/
  | rawSampleRead (j : JobRef)
  /-- RAW_SAMPLE_REFILL (R302). -/
  | rawSampleRefill (samples : List Bool)
  /-- DRBG_INSTANTIATE (R298). -/
  | drbgInstantiate (drbg : Nat)
  /-- DRBG_RESEED (R299). -/
  | drbgReseed (drbg : Nat)
  /-- ENTROPY_WAIT_TIMEOUT (R301). -/
  | entropyWaitTimeout (j : JobRef)
  /-- KEYS_RESET (R331). -/
  | keysReset (j : JobRef)
  /-- PRESENCE_CHANGE (R352). -/
  | presenceChange (n : Nat) (level : Bool)
  /-- GATE_START (R339). -/
  | gateStart (n : Nat) (d : Discovery)
  /-- REGION_MEASURED (R340). -/
  | regionMeasured (n : Nat) (r : Nat) (m : Measured)
  /-- GATE_DECIDED (R348). -/
  | gateDecided (n : Nat)
  /-- LINE_RELEASE (R349). -/
  | lineRelease (line : Nat)
  /-- PWRGD_IN_FALL (R350). -/
  | pwrgdInFall
  /-- FORCE_RELEASE (R351). -/
  | forceRelease (j : JobRef) (lines : Nat)
  /-- REMEASURE (R350). -/
  | remeasure (j : JobRef) (lines : Nat)
  /-- FLASH_COMMAND (R343). -/
  | flashCommand (n : Nat) (code : Nat) (addr : Option Nat)
  /-- UPDATE_WINDOW_OPEN (R346). -/
  | updateWindowOpen (j : JobRef) (w : Nat) (chan : Nat) (start : Nat) (len : Nat) (expires : Nat)
  /-- UPDATE_WINDOW_CLOSE (R346). -/
  | updateWindowClose (j : JobRef) (w : Nat)
  /-- UPDATE_WINDOW_EXPIRY (R346). -/
  | updateWindowExpiry (w : Nat)
  /-- SLOT_ARCHIVED (R366). -/
  | slotArchived (programOk : Bool)
  /-- CHECKPOINT_SIGNED (R364). -/
  | checkpointSigned
  /-- RING_WAIT_TIMEOUT (R367). -/
  | ringWaitTimeout (j : JobRef)
  /-- HELLO_INIT (R380). -/
  | helloInit (h : Hello)
  /-- HELLO_REPLY (R380). -/
  | helloReply (h : Hello)
  /-- HEARTBEAT (R381). -/
  | heartbeat (h : PeerHdr) (b : HeartbeatBody)
  /-- HEARTBEAT_INSTANT (R381). -/
  | heartbeatInstant
  /-- CLAIM (R383). -/
  | claim (h : PeerHdr) (term : Nat) (claimant : Nat) (lastTerm : Nat) (lastIndex : Nat)
  /-- GRANT (R383). -/
  | grant (h : PeerHdr) (term : Nat) (granted : Bool) (lastTerm : Nat) (lastIndex : Nat)
  /-- APPEND (R385). -/
  | append (h : PeerHdr) (term : Nat) (prevTerm : Nat) (prevIndex : Nat) (commit : Nat) (entries : List GEntry)
  /-- ACK (R385). -/
  | ack (h : PeerHdr) (term : Nat) (lastTerm : Nat) (lastIndex : Nat) (success : Bool)
  /-- FORWARD (R386). -/
  | forward (h : PeerHdr) (w : GWrite)
  /-- RESULT (R386). -/
  | result (h : PeerHdr) (tag : Nat) (term : Nat) (index : Nat) (status : Nat)
  /-- PEER_FETCH (R389). -/
  | peerFetch (h : PeerHdr) (index : Nat)
  /-- ENTRIES (R389). -/
  | entries (h : PeerHdr) (entries : List GEntry) (snapshot : Option GSnapshot)
  /-- READ_INDEX (R387). -/
  | readIndex (h : PeerHdr) (tag : Nat)
  /-- READ_REPLY (R387). -/
  | readReply (h : PeerHdr) (tag : Nat) (commit : Nat)
  /-- STEP_DOWN_TIMEOUT (R384). -/
  | stepDownTimeout
  /-- WRITE_TIMEOUT (R386). -/
  | writeTimeout (tag : Nat)
  /-- GROUP_BUFFER_DRAIN (R385). -/
  | groupBufferDrain
  /-- IDCODE (R400). -/
  | idcode
  /-- SAMPLE_PRELOAD (R400). -/
  | samplePreload
  /-- EXTEST (R401). -/
  | extest
  /-- EXTEST_EXIT (R401). -/
  | extestExit
  /-- LC_STATUS (R401). -/
  | lcStatus
  /-- LC_CMD_OPEN (R395). -/
  | lcCmdOpen (spare : BitVec 8) (token : BitVec 128)
  /-- LC_CMD_LOCK (R395). -/
  | lcCmdLock (spare : BitVec 8) (token : BitVec 128)
  /-- LC_CMD_UNLOCK (R395). -/
  | lcCmdUnlock (spare : BitVec 8) (token : BitVec 128)
  /-- LC_CMD_PERSONALIZE (R395). -/
  | lcCmdPersonalize (spare : BitVec 8) (token : BitVec 128)
  /-- LC_CMD_RMA (R395). -/
  | lcCmdRma (spare : BitVec 8) (token : BitVec 128)
  /-- LC_CMD_TERMINAL (R395). -/
  | lcCmdTerminal (spare : BitVec 8) (token : BitVec 128)
  /-- TRANSITION_RELEASE (R398). -/
  | transitionRelease (j : JobRef) (value : Bytes)
  /-- TRANSITION_RETURN (R398). -/
  | transitionReturn (j : JobRef) (value : Bytes)
  /-- TRANSITION_TERMINAL (R398). -/
  | transitionTerminal (j : JobRef) (value : Bytes)
  /-- TRANSITION_FIELD_SEAL (R398). -/
  | transitionFieldSeal (j : JobRef) (value : Bytes)
  /-- FUSE_PROGRAM_DONE (R397). -/
  | fuseProgramDone
  /-- DEBUG_CHALLENGE (R403). -/
  | debugChallenge
  /-- DEBUG_CHALLENGE_EXPIRY (R403). -/
  | debugChallengeExpiry
  /-- DEBUG_RESPONSE (R404). -/
  | debugResponse (digest : Nat) (pk : Bytes) (sig : Bytes)
  /-- DEBUG_OPEN_COMPLETE (R405). -/
  | debugOpenComplete
  /-- DICT_TXN (R402). -/
  | dictTxn (payload : Bytes)
  /-- DICT_READ (R402). -/
  | dictRead (payload : Bytes)
  /-- MEM_ACCESS (R406). -/
  | memAccess (write : Bool) (memory : Nat) (addr : Nat) (word : BitVec 72)
  /-- BYPASS (R400). -/
  | bypass
  /-- TAMPER_ALARM (R411). -/
  | tamperAlarm (src : Nat)
  /-- BATTERY_SAMPLE (R418). -/
  | batterySample (seen : List Nat)
  /-- TAMPER_HOLD_SAMPLE (R417). -/
  | tamperHoldSample
  /-- RESUME (R412). -/
  | resume (j : JobRef)
  /-- AON_CHANGEOVER (R457). -/
  | aonChangeover (toBattery : Bool)
  /-- REFCLK_LOST (R426). -/
  | refclkLost
  /-- REFCLK_RESTORED (R428). -/
  | refclkRestored
  /-- CRYSTAL_LOST (R434). -/
  | crystalLost
  /-- CRYSTAL_RESTORED (R434). -/
  | crystalRestored
  /-- GATE_ABORT (R435). -/
  | gateAbort (unit : Nat)
  /-- CLUSTER_WAKE (R435). -/
  | clusterWake (cluster : Nat)
  /-- SSC_APPLY (R425). -/
  | sscApply
  /-- COLD_RESET (R441). -/
  | coldReset
  /-- COLD_START (R442). -/
  | coldStart (banks33 : BitVec 8) (bankBad : BitVec 8) (compat : Bool)
  /-- SYSRST_N_ASSERT (R442). -/
  | sysrstNAssert
  /-- WARM_RESET (R444). -/
  | warmReset (j : JobRef)
  /-- WARM_START (R441). -/
  | warmStart
  /-- FENCE_REQUEST (R220). -/
  | fenceRequest (j : JobRef) (cluster : Nat) (les : Nat)
  /-- FENCE_RELEASE (R220). -/
  | fenceRelease (j : JobRef) (cluster : Nat) (les : Nat)
  /-- HARDWARE_FAULT (R446). -/
  | hardwareFault (f : HwFault)
  /-- AES_FENCE_TIMEOUT (R449). -/
  | aesFenceTimeout (unit : Nat)
  /-- WORD_LOST (R447). -/
  | wordLost (bank : Option Nat) (w : LostWord)
  /-- BANK_COPY_DONE (R450). -/
  | bankCopyDone (bank : Nat) (lost : List LostWord)
  /-- ALWAYS_ON_RESET (R441). -/
  | alwaysOnReset
  /-- TAMPER_SOURCE_CLEAR (R409). -/
  | tamperSourceClear (src : Nat)
  deriving DecidableEq, Repr

end Sys2Proof
end

