-- ==== Sys2Proof/Config.lean ====
section
/-! DEFINITION. What the spec leaves open or takes from a standard it only names: free values, cryptographic primitives
(uninterpreted), and firmware-sourced values. Nothing here has a body, so no proof can lean on a value. -/

namespace Sys2Proof

/-- The cryptographic primitives the spec names by reference to a standard (00 R6). Their values are uninterpreted (log 5). -/
inductive Prim where
  | sha2_256 | sha2_384 | sha2_512 | sha3_256 | sha3_384 | sha3_512 | shake128 | shake256 | sha2_224 | sha3_224
  | cshake128 | cshake256 | kmac128 | kmac256 | hmac | hkdfExtract | hkdfExpand | kdfCounter | keccakF | hashCompress
  | aesGcmSeal | aesGcmOpen | aesCtr | gcmTag | aesKeyWrap | aesKeyUnwrap | ctrDrbg | gmac
  | mlKemKeygen | mlKemEncaps | mlKemDecaps | mlDsaKeygen | mlDsaSign | mlDsaVerify
  | slhDsaKeygen | slhDsaSign | slhDsaVerify | fnDsaVerify
  | hqcKeygen | hqcEncaps | hqcDecaps | mcelieceKeygen | mcelieceEncaps | mcelieceDecaps
  | statefulKeygen | statefulSign | statefulVerify
  | eccKeygen | eccSign | eccVerify | ecdh | x25519 | rsaKeygen | rsaPrivate | rsaPublic | rsaVerify
  | expandMatrix
  | tlsDerive | publicCheck | certificate | deviceDerive
  deriving DecidableEq, Repr

namespace Config

/-- A primitive's output for its inputs. Its length is fixed by the caller to the length the spec gives. -/
opaque prim : Prim → List Bytes → Bytes

/-- A primitive's yes-or-no answer: a signature or tag that verifies, a public key that passes its standard's check. -/
opaque check : Prim → List Bytes → Bool

/-- The `n`-th free value: random draws and every value the spec calls undefined or leaves unstated (log 6). -/
opaque free : Nat → Nat

/-- The result the spec leaves unstated for these operands (log 9): the first number names the operation. -/
opaque unstated : Nat → List Nat → Nat

/-- Values the management firmware supplies: FW_VERSION, INDEX_LIST and the like (05 R106, R121; log 15). -/
opaque firmware : Nat → Nat

/-- The octets of a PEER body whose layout the spec does not give, by its operation code and what it holds (log 105). -/
opaque peerBody : Nat → List Nat → List Bytes → Bytes

/-- The body of an EVENT frame of a class, which the spec does not lay out (log 17). -/
opaque eventBody : Nat → Nat → Bytes

/-- The octets of a PTP delay request, which IEEE 1588 lays out (02 R33; log 99). -/
opaque ptpRequest : List Nat → Bytes

/-- Rows of a firmware-sourced table (05 R121; log 15). -/
opaque firmwareRows : Nat → List Bytes

end Config
end Sys2Proof
end

