-- ==== Sys2Proof/Machine/Map.lean ====
section
/-! DEFINITION. Operations on finite maps kept in one canonical form (strictly rising keys), and on octet strings. -/

namespace Sys2Proof

/-- The value stored under key `k`, if any. -/
def Map.find {α : Type} : Map α → Nat → Option α
  | [], _ => none
  | (k', v) :: m, k => if k = k' then some v else Map.find m k

/-- The value under key `k`, or `d` where the map lists none. -/
def Map.getD {α : Type} (m : Map α) (k : Nat) (d : α) : α :=
  match Map.find m k with
  | some v => v
  | none => d

/-- Store `v` under `k`, keeping the keys strictly rising. -/
def Map.put {α : Type} : Map α → Nat → α → Map α
  | [], k, v => [(k, v)]
  | (k', v') :: m, k, v =>
    if k < k' then (k, v) :: (k', v') :: m
    else if k = k' then (k, v) :: m
    else (k', v') :: Map.put m k v

/-- Remove key `k`. -/
def Map.erase {α : Type} : Map α → Nat → Map α
  | [], _ => []
  | (k', v') :: m, k => if k = k' then m else (k', v') :: Map.erase m k

/-- Store `v` under `k` in a map whose unlisted keys read as `d`: the default is not listed. -/
def Map.store {α : Type} [DecidableEq α] (m : Map α) (k : Nat) (v d : α) : Map α :=
  if v = d then Map.erase m k else Map.put m k v

/-- Apply `f` to the value under `k`, if there is one. -/
def Map.update {α : Type} (m : Map α) (k : Nat) (f : α → α) : Map α :=
  match Map.find m k with
  | some v => Map.put m k (f v)
  | none => m

/-- Apply `f` to every value. -/
def Map.mapVals {α : Type} (f : α → α) (m : Map α) : Map α := m.map (fun p => (p.1, f p.2))

/-- The keys are all above `b` and strictly rising. -/
def Map.above {α : Type} : Nat → Map α → Bool
  | _, [] => true
  | b, (k, _) :: m => decide (b < k) && Map.above k m

/-- The canonical form: strictly rising keys. -/
def Map.wf {α : Type} : Map α → Bool
  | [] => true
  | (k, _) :: m => Map.above k m

/-- The number that a big-endian octet string spells (R2). -/
def beNat (b : Bytes) : Nat := b.foldl (fun a x => a * 256 + x.toNat) 0

/-- The `n` octets that spell `v`, most significant first (R2). -/
def beBytes : Nat → Nat → Bytes
  | 0, _ => []
  | n + 1, v => BitVec.ofNat 8 (v / 256 ^ n) :: beBytes n v

/-- An octet string cut or zero-padded to exactly `n` octets. -/
def fit (n : Nat) (b : Bytes) : Bytes := (b ++ List.replicate n 0).take n

/-- `n` octets of `b` from offset `o`. -/
def slice (b : Bytes) (o n : Nat) : Bytes := (b.drop o).take n

/-- The big-endian number in the `n` octets of `b` from offset `o`. -/
def fieldAt (b : Bytes) (o n : Nat) : Nat := beNat (slice b o n)

/-- The ASCII octets of a name. -/
def ascii (t : String) : Bytes := t.toList.map (fun c => BitVec.ofNat 8 c.toNat)

/-- All octets of a slice are zero: a field "spare, checked" passes (R3). -/
def zeros (b : Bytes) : Bool := b.all (fun x => x == 0)

/-- `⌈a / b⌉`. -/
def ceilDiv (a b : Nat) : Nat := (a + (b - 1)) / b

/-- Bits `[hi:lo]` of a number. -/
def bitsOf (v hi lo : Nat) : Nat := v / 2 ^ lo % 2 ^ (hi + 1 - lo)

/-- Bit `i` of a number. -/
def bitAt (v i : Nat) : Bool := v / 2 ^ i % 2 == 1

/-- A number with bit `i` set to `b`. -/
def setBit (v i : Nat) (b : Bool) : Nat :=
  v - (v / 2 ^ i % 2) * 2 ^ i + (if b then 2 ^ i else 0)

/-- The numbers below `n` that satisfy `p`, rising. -/
def upTo (n : Nat) (p : Nat → Bool) : List Nat := (List.range n).filter p

/-- Add two's complement encoding: a signed number as `n` octets' worth of bits. -/
def twos (bits : Nat) (i : Int) : Nat := (i % (2 ^ bits : Nat)).toNat

end Sys2Proof
end

