-- ==== Sys2Proof/Machine/State.lean ====
section
/-! DEFINITION. The state of the block: every piece of state the spec gives the NM72, as plain data, and the state after reset. -/

namespace Sys2Proof
namespace Machine

/-- Where a step stops. -/
inductive Fault where
  /-- An access to a memory or an address that does not exist (R400, R406). Safe. No command raises it: MEM_ACCESS completes there too (log 113). -/
  | addressOutsideMemory (memory addr : Nat)
  deriving DecidableEq, Repr

/-- What the model does not answer. -/
inductive Refusal where
  /-- The command has no meaning in this model. Raised by the arms of `exec` only. Safe. -/
  | notModelled (mnemonic : String)
  deriving DecidableEq, Repr

/-- No work. -/
def noWork : Work := ⟨0, 0, 0, 0⟩

/-- Whether the part is down (in reset), held in TAMPER_HOLD by a source (R417), or started (R416, R442). -/
inductive Phase where
  | down
  | hold (src : Nat)
  | up
  deriving DecidableEq, Repr

/-- Clocks and datum (02 R35-R38, 20 R423-R434). Times are in ns (datum, rtc) and FAB cycles (fab). `waiting` is the cause of a warm reset that waits
for REFCLK (R430). -/
structure Clocks where
  refclk : Bool
  sd : Bool
  xtal : Bool
  gated : Bool
  coasting : Bool
  datum : Nat
  frac : Nat
  incr : Nat
  maxDatum : Nat
  rtc : Nat
  aonFrac : Nat
  fab : Nat
  lossAt : Nat
  aonOnTamperOsc : Bool
  onBattery : Bool
  sscDepth : Nat
  sscRate : Nat
  sscProfile : Nat
  compat : Bool
  waiting : Option Nat
  deriving DecidableEq, Repr

/-- Pins (15 R334, R335, R349; 18 R396; 20 R427, R442; 19 R414). -/
structure Pins where
  lines : Nat
  pres : Nat
  pwrgd : Bool
  pwrHold : Bool
  vppOk : Bool
  sysrstLow : Bool
  safe : Bool
  txIdle : Bool
  deriving DecidableEq, Repr

/-- What a port holds beyond its dictionary entries (02 R20, R21, R25, R27, R28, R32): `retrain` that a write of SPEED or FEC waits to retrain the
link; `announce` the ANNOUNCE body that waits for its signature. -/
structure Port where
  retrain : Bool
  upSince : Nat
  announceSeq : Nat
  announceDue : Nat
  announce : Option Bytes
  echoSec : Nat
  echoCount : Nat
  badAddrs : List Nat
  partnerFec : List Nat
  deriving DecidableEq, Repr

/-- The PTP servo's state for one port (02 R33, R34, R37): `heard` when its master's last Announce came, in FAB cycles, and `interval` that master's announce
interval; `good` and `bad` count the Syncs of an acquisition or of its loss, `near` the
last Syncs in a row within LOCK_THRESHOLD; `sync` the times t1 and t2 of its last Sync, `asked` the timestamp of the delay request that waits for its response. -/
structure PtpPort where
  master : Option PtpMaster
  good : Nat
  near : Nat
  bad : Nat
  stepped : Bool
  delay : Int
  heard : Nat
  interval : Nat
  sync : Option (Int × Int)
  asked : Option Int
  deriving DecidableEq, Repr

/-- PTP (02 R33-R37). -/
structure Ptp where
  cur : Option Nat
  ports : Map PtpPort
  holdoverAt : Nat
  deriving DecidableEq, Repr

/-- What the ports' transmitters are handed, oldest first (02 R25, R27, R31, R33; 03 R46, R52, R53). -/
inductive TxFrame where
  /-- An Opfel frame: the port, the port whose addresses it carries, its destination, header and payload, and the key and nonce under which AES-256-GCM
  protects it, where it is protected (R45). -/
  | opfel (port srcPort : Nat) (peer : Peer) (header payload : Bytes) (prot : Option (Bytes × Bytes))
  /-- A frame broadcast to every station: ANNOUNCE (R27). -/
  | announce (port encap : Nat) (header payload : Bytes)
  | gratuitousArp (port forPort addr : Nat)
  | unsolicitedNa (port forPort addr : Nat)
  | arpReply (port forPort addr : Nat)
  | neighbourAdvert (port forPort addr : Nat)
  | echoReply (port : Nat) (v6 : Bool) (payload : Bytes)
  | neighbourProbe (port addr : Nat)
  /-- A delay request in a domain, over a transport, and its hardware timestamp (R33, R34). -/
  | ptpDelayRequest (port : Nat) (h : PtpHdr) (peerToPeer : Bool) (stamp : Int)
  deriving DecidableEq, Repr

/-- A frame as a transmitter is handed it (02 R22-R24, R31; 03 R45): its VLAN tag word, its source MAC address; for IP the source address and, over IPv4, DF;
for UDP the source port, the destination port and the computed checksum; for Opfel the octets after the header, enciphered and tagged. -/
structure Wire where
  frame : TxFrame
  vlan : Option Nat
  srcMac : Nat
  srcIp : Nat
  df : Bool
  udp : Option (Nat × Nat × Nat)
  body : Bytes
  deriving DecidableEq, Repr

/-- A completion that no port could carry when it was to go out (02 R30): one that no slot keeps, whole; or a cached one that is to be sent again. -/
inductive TxWait where
  | refusal (chan tenant handle queue seq opcode status detail cookie key : Nat) (result : Bytes)
  | again (j : JobRef)
  deriving DecidableEq, Repr

/-- A HANDSHAKE, PEER or ANNOUNCE message whose segments are arriving (02 R28, 03 R53-R56, 04 R79, 17 R379), with what its first segment's header said. -/
structure Partial where
  kind : Nat
  src : Peer
  port : Nat
  tenant : Nat
  queue : Nat
  handle : Nat
  seq : Nat
  opcode : Nat
  length : Nat
  segCount : Nat
  cookie : Nat
  key : Nat
  segs : Map Bytes
  firstAt : Nat
  deriving DecidableEq, Repr

/-- The state of a channel (04 R86-R89): `closing` while an abortive close waits for running jobs to stop. -/
inductive ChanState where
  | pending | opened | draining | closing
  deriving DecidableEq, Repr

/-- A channel slot in use (03 R48-R63, 04 R73-R94). -/
structure Channel where
  tenant : Nat
  gen : Nat
  role : Nat
  cred : Nat
  enrol : Bool
  ordered : Bool
  state : ChanState
  rxKey : Bytes
  txKey : Bytes
  keepalive : Nat
  lastAuth : Nat
  high : Nat
  seen : List Nat
  floor : Nat
  released : Nat
  grant : Nat
  spent : Nat
  notice : Nat
  mask : Nat
  closeSeq : Option Nat
  pk : Bytes
  enrolSeq : Option Nat
  peer : Peer
  port : Nat
  deriving DecidableEq, Repr

/-- A handshake whose request has passed checks 1 to 8 (04 R82). -/
structure Handshake where
  tenant : Nat
  ident : Nat
  cookie : Nat
  port : Nat
  peer : Peer
  role : Nat
  cred : Nat
  enrol : Bool
  body : Bytes
  stalledAt : Option Nat
  deriving DecidableEq, Repr

/-- The state of a job slot (04 R92, R93; 06 R134-R139). -/
inductive JobState where
  | reassembling | queued | running | suspended | done | released
  deriving DecidableEq, Repr

/-- A bound owner kernel: its binding and image (10 R242, R243). -/
structure Kernel where
  binding : Nat
  image : Bytes
  deriving DecidableEq, Repr

/-- A job slot: job tag, input, result and accounts (01 R8, R11; 03 R54-R67; 04 R92, R93; 06 R134-R140). `kernel` is the owner kernel bound when
the job was classified (R246); `sentAs` the grant and segment size its completion was first sent with (R47);
`prec` that a retry or a move gives it precedence over every queue head (R446, R449); `handle` and `hdrTenant` the channel and tenant fields of its header
(R52, R54); `slotless` that it is a refusal kept while its queue had no slot free (R50, R93); `kumChecked` that it is a KUM which has passed steps 1 to 4 and waits for
its domain (R322); `isSealed` its tenant's MODE when it was classified (R136). `lapCharged` and `lapBorrowed` are what it was charged in the running lap, on its
tenant's allowance and as borrowed work (R139); `switched` that its core gave it up to another message (R284); `extra` what saving and loading a hash message has
cost it (R284), `mid` the octets of its data in the midstate that its context holds (R282, R283, R287). -/
structure Job where
  chan : Nat
  seq : Nat
  handle : Nat
  hdrTenant : Nat
  order : Nat
  tenant : Nat
  queue : Nat
  kind : Nat
  opcode : Nat
  key : Nat
  cookie : Nat
  length : Nat
  segCount : Nat
  segs : Map Bytes
  firstAt : Nat
  needsAck : Bool
  credits : Nat
  reserve : Nat
  state : JobState
  units : List Nat
  borrowed : Bool
  admitted : Nat
  charged : Work
  lapCharged : Work
  lapBorrowed : Work
  epoch : Nat
  retried : Bool
  faultUnit : Option Nat
  waitSince : Option Nat
  drawn : Bytes
  status : Nat
  detail : Nat
  result : Bytes
  resKey : Nat
  index : Option Nat
  stamp : Option (Nat × Nat × Nat)
  kernel : Option Kernel
  rnd : Option Nat
  sentAs : Option (Nat × Nat)
  prec : Bool
  isSealed : Bool
  switched : Bool
  slotless : Bool
  kumChecked : Bool
  extra : Work
  mid : Nat
  deriving DecidableEq, Repr

/-- What a tenant holds beyond its entries (02 R31, R32; 04 R81, R99-R101; 06 R134-R137): `moved` is the port its frames have failed over to. -/
structure Tenant where
  moved : Option Nat
  charge : Work
  deficit : Work
  own : Work
  borrowed : Work
  resetting : Bool
  resetReqs : List JobRef
  hsSec : Nat
  hsCount : Nat
  deriving DecidableEq, Repr

/-- Work of the owner's reserve (R130): the signing of a CHECKPOINT, of a port's ANNOUNCE, or a flash channel's boot-gate signature check. -/
inductive ReserveItem where
  | checkpoint
  | announce (port : Nat)
  | gate (chan : Nat)
  deriving DecidableEq, Repr

/-- The lap scheduler (06 R124-R142): `ckptDue` and `reseedDue` that an instant fell due under an interval since rewritten; `expiredTo` the greatest datum up
to which key expiry has run (R141); `lengthAt` the first datum second at or after the last write of the lap length (R125). -/
structure Lap where
  start : Nat
  length : Nat
  short : Option Nat
  turn : Map Nat
  bturn : Map Nat
  nextCkpt : Nat
  nextReseed : Nat
  fabAt : Nat
  ckptDue : Bool
  reseedDue : Bool
  expiredTo : Nat
  lengthAt : Nat
  deriving DecidableEq, Repr

/-- Who an engine belongs to (06 R130-R133). -/
inductive Holder where
  | pool | reserve | tenant (t : Nat)
  deriving DecidableEq, Repr

/-- An engine: LE, Keccak core, SHA-2 core, BE or AES-GCM core (06 R130-R133, 20 R435, 21 R449). Its latched events are 1 tenant
reset, 2 abortive close, 3 fence request, 4 lap-end suspension, 5 preemption of a borrowed job, 6 take-over of a pool unit (R232). -/
structure Engine where
  job : Option JobRef
  holder : Holder
  fenced : Bool
  ownerFence : Bool
  selfTest : Bool
  latched : List Nat
  faults : List Nat
  fenceAt : Nat
  deriving DecidableEq, Repr

/-- A register group or word value with its secrecy tag (09 R196, R204). -/
structure Tagged where
  val : Nat
  sec : Bool
  deriving DecidableEq, Repr

/-- A vector register: 1,152 bits and one tag per word, bit w for word w (09 R196, R204). -/
structure VReg where
  val : Nat
  tags : Nat
  deriving DecidableEq, Repr

/-- A modulus descriptor (09 R202). -/
structure Descriptor where
  q : Nat
  qnegInv : Nat
  barrettM : Nat
  barrettS : Nat
  grain : Nat
  rom : Bool
  deriving DecidableEq, Repr

/-- A hash stream that a job holds (09 R211, 11 R267). -/
structure HStream where
  fn : Nat
  unit : Nat
  data : Bytes
  finalised : Bool
  squeezed : Nat
  sec : Bool
  inBuf : Nat
  outBuf : Nat
  deriving DecidableEq, Repr

/-- The registers and sequencer of a lattice engine (09 R196, 10 R226, R227, R234). -/
structure LeRegs where
  v : Map VReg
  a : Map Tagged
  m : Map Tagged
  q : Map Descriptor
  upc : Nat
  secret : Bool
  stack : List Nat
  mailbox : List Tagged
  deriving DecidableEq, Repr

/-- The mapping of window W4 (09 R218). -/
structure W4Map where
  digest : Nat
  size : Nat
  writing : Bool
  words : Map Nat
  seed : Option (Nat × Nat × Bytes)
  deriving DecidableEq, Repr

/-- A lattice engine (09 R196-R219, 10 R230-R238). `waiting` is the wait code it waits on (7: a DRBG_DRAW held at issue); `unread` says that an
answer to MATRIX_REQ is in the mailbox (R270). -/
structure Le where
  regs : LeRegs
  job : Option JobRef
  usesKey : Bool
  scratchAt : Nat
  scratch : Nat
  highWord : Nat
  input : Bytes
  output : Map Nat
  outMax : Nat
  w4 : Option W4Map
  keyState : Nat
  maskBuf : Nat
  maskCount : Nat
  maskStopped : Bool
  maskTenant : Option Nat
  streams : Map HStream
  waited : Nat
  billed : Nat
  waiting : Option Nat
  matrixAsked : Option Nat
  unread : Bool
  deriving DecidableEq, Repr

/-- A cluster's shared parts (07 R166, 09 R213-R216, 20 R435): `badWords` are the words of its control store (false) and nanostore (true) that a fetch has found faulty and
that wait to be rewritten (10 R236). -/
structure Cluster where
  freeBlocks : Nat
  resident : Option Nat
  powered : Bool
  seeds : Nat
  badWords : List (Bool × Nat)
  deriving DecidableEq, Repr

/-- An expanded-matrix cache entry, least recently used first in its list (01 R9, 09 R218). -/
structure Matrix where
  digest : Nat
  size : Nat
  words : Map Nat
  seed : Option (Nat × Nat × Bytes)
  deriving DecidableEq, Repr

/-- A Gelyth patch slot (10 R239). -/
structure Patch where
  version : Nat
  svn : Nat
  image : Bytes
  deriving DecidableEq, Repr

/-- Control stores, kernels and patches (10 R221-R247): `committed` are the kernels that the private flash holds, bound or not (R246, R247). -/
structure Stores where
  bound : Map Kernel
  committed : Map Kernel
  staged : Map Nat
  verifying : Option Kernel
  slotA : Option Patch
  slotB : Option Patch
  micro : Map Nat
  nano : Map Nat
  tenantsServed : Bool
  deriving DecidableEq, Repr

/-- A digest stream context (12 R274-R280). -/
structure DStream where
  tenant : Nat
  opcode : Nat
  key : Nat
  params : Bytes
  data : Bytes
  part : Nat
  finished : Bool
  deriving DecidableEq, Repr

/-- A noise source (13 R289-R294): whether its warm-up is done, the samples waiting to be conditioned, its last sample and how often that repeated. -/
structure Source where
  warm : Bool
  left : List Bool
  lastBit : Option Bool
  run : Nat
  deriving DecidableEq, Repr

/-- A DRBG (13 R297-R301): states 0 UNINSTANTIATED, 1 SERVING, 2 RESEEDING, 3 STOPPED; the FAB time when it last left SERVING. -/
structure Drbg where
  state : Nat
  calls : Nat
  reseeds : Nat
  last : Nat
  value : Nat
  seeds : Nat
  heldAt : Nat
  deriving DecidableEq, Repr

/-- A consumer waiting for a pool block (13 R295, R299): class 1, 2 or 3, the DRBG, whether it instantiates, the job. -/
structure EntReq where
  cls : Nat
  drbg : Nat
  inst : Bool
  scheduled : Bool
  job : Option JobRef
  deriving DecidableEq, Repr

/-- The entropy function (13 R289-R305): sources, pool, waiting consumers, DRBGs; the raw sample buffer, and the samples that will refill it. -/
structure Entropy where
  src : Map Source
  pool : List Nat
  received : Nat
  reqs : List EntReq
  drbgs : Map Drbg
  instCount : Nat
  raw : Option (Nat × List Bool)
  rawNext : Option (Nat × List Bool)
  deriving DecidableEq, Repr

/-- A key record, volatile or persistent (14 R312-R319, 07 R167-R171). -/
structure KeyRec where
  handle : Nat
  typ : Nat
  set : Nat
  order : Nat
  classes : Nat
  ops : Nat
  notBefore : Nat
  notAfter : Nat
  useLimit : Nat
  digest : Nat
  pub : Bytes
  secret : Bytes
  limit : Nat
  next : Nat
  total : Nat
  batch : Nat
  skipped : Nat
  uses : Nat
  usesLimit : Nat
  ranges : List (Nat × Nat)
  session : Nat
  masks : List Bytes
  traversal : Nat
  deriving DecidableEq, Repr

/-- One place of a key-journal slot (14 R323-R326): `key` is the last record where the place is a tombstone; `kek` the key under which its secret is
wrapped (R309). -/
structure Place where
  key : KeyRec
  tombstone : Bool
  counter : Nat
  reserved : Nat
  kumDigest : Nat
  manifest : Nat
  committed : Bool
  kek : Nat
  deriving DecidableEq, Repr

/-- A KUM between its check and the end of its commit (14 R322-R324): `marked` once its commit mark is written. -/
structure KumCommit where
  domain : Nat
  op : Nat
  j : JobRef
  key : KeyRec
  provisional : Option Nat
  counter : Nat
  kumDigest : Nat
  marked : Bool
  deriving DecidableEq, Repr

/-- A reservation commit in progress (07 R169, 14 R318): the new index limit or use limit. -/
structure Reservation where
  handle : Nat
  uses : Bool
  limit : Nat
  deriving DecidableEq, Repr

/-- The key store (14 R307-R333). Domains 0-63 are tenants, 64 is the device, 65 the group. `old` keeps a record as it stood before a KUM, for the
jobs classified before it: the first classification number after it, and the record (R323). -/
structure Keys where
  vol : Map KeyRec
  volGen : Map Nat
  pGen : Map Nat
  slots : Map (List Place)
  recs : Map KeyRec
  ctr : Map Nat
  manifest : Map Nat
  lastKum : Map (Nat × Bytes)
  rolled : List Nat
  loaded : List Nat
  commits : List KumCommit
  reserves : List Reservation
  old : List (Nat × KeyRec)
  oldHeld : List (Nat × Nat)
  secret : Nat
  hasSecret : Bool
  formatted : Bool
  testRoot : Bool
  deriving DecidableEq, Repr

/-- A flash channel's state beyond its entries (15 R334-R352): held after its gate, the address width under TRACKED, what discovery found (`found`, the page
size, the erase types by code and size), the cuts since the last FILTER_CUT benchmark and the second of that one, when its flash was found present, and the
channel's entries as they stood when its gate began (R338); the clock of its region reads in MHz, whether SFDP lists the commands that change the protocol and
the protocol that the flash was put into before PASS, coded as PASS_PROTOCOL (R334, R339); the last command that reached the F side, and whether one
has been cut whose FI CS_N has not risen (R344). -/
structure Flash where
  held : Bool
  addr4 : Bool
  found : Bool
  page : Nat
  erases : List (Nat × Nat)
  lastCutSec : Option Nat
  cuts : Nat
  presentAt : Nat
  cfg : Map Nat
  clock : Nat
  switches : Bool
  pass : Nat
  seen : Option (Nat × Option Nat)
  cutting : Bool
  deriving DecidableEq, Repr

/-- The boot gate's sequencer (15 R349-R351): when each line's condition 1 first held, when a line of each order was last released, the lines that
FORCE_RELEASE has named, and whether the gate's CHECKPOINT has been made. -/
structure Gate where
  since : Map Nat
  lastRelease : Map Nat
  forced : List Nat
  reported : Bool
  deriving DecidableEq, Repr

/-- A benchmark record with its signature slots (16 R357-R366); `slot` is the archive slot of its record, once it has one. -/
structure Bench where
  seq : Nat
  epoch : Nat
  datum : Nat
  quality : Nat
  kind : Nat
  verdict : Nat
  channel : Nat
  region : Nat
  flags : Nat
  digest : Nat
  prev : Nat
  sigSlots : Nat
  sigs : Bytes
  signed : Bool
  archived : Nat
  slot : Nat
  deriving DecidableEq, Repr

/-- The traverse (16 R357-R370). `demand` lists the CHECKPOINT jobs with the seq of their CHECKPOINT, once it is appended; `nextSlot` is the archive
slot to program next. -/
structure Traverse where
  ring : List Bench
  archive : List Bench
  epoch : Nat
  nextSeq : Nat
  headHash : Nat
  signing : Bool
  held : Nat
  waiters : List JobRef
  demand : List (JobRef × Option Nat)
  pending : List Bench
  tamperSec : Map Nat
  tamperCarry : Map Nat
  epochRecords : Nat
  epochHasCheckpoint : Bool
  nextSlot : Nat
  deriving DecidableEq, Repr

/-- A PEER message that has wholly arrived (17 R379): its link, number, operation and body, and where it came from. -/
structure PeerMsg where
  sender : Nat
  receiver : Nat
  gen : Nat
  seq : Nat
  opcode : Nat
  body : Bytes
  peer : Peer
  port : Nat
  deriving DecidableEq, Repr

/-- A peer link (17 R379-R381): `peer` and `port` are where its frames go; state 0 NONE, 1 LINKING, 2 UP, 3 UNREACHABLE; its keys, numbers and window; what the peer's last heartbeat said
(`commit`, `lastTerm`, `lastIndex`, `hbTerm`, `hbFlags`); the highest index the peer has acknowledged. -/
structure Link where
  state : Nat
  gen : Nat
  txKey : Bytes
  rxKey : Bytes
  txSeq : Nat
  high : Nat
  seen : List Nat
  silent : Nat
  heard : Nat
  init : Bytes
  secret : Bytes
  commit : Nat
  lastTerm : Nat
  lastIndex : Nat
  hbTerm : Nat
  hbFlags : Nat
  stored : Nat
  peer : Peer
  port : Nat
  deriving DecidableEq, Repr

/-- A group write that this member asked for (17 R386): the job that waits for it, where one does, and its place in the log once known. -/
structure OwnWrite where
  tag : Nat
  job : Option JobRef
  kind : Nat
  body : Bytes
  sentAt : Nat
  place : Option (Nat × Nat)
  deriving DecidableEq, Repr

/-- PEER messages this member sends (17 *PEER operations*). -/
inductive PeerOut where
  | helloInit (dst gen : Nat) (body : Bytes)
  | helloReply (dst gen : Nat) (body : Bytes)
  | heartbeat (dst : Nat) (b : HeartbeatBody)
  | append (dst term prevTerm prevIndex commit : Nat) (entries : List GEntry)
  | ack (dst term lastTerm lastIndex : Nat) (success : Bool)
  | claim (dst term claimant lastTerm lastIndex : Nat)
  | grant (dst term : Nat) (granted : Bool) (lastTerm lastIndex : Nat)
  | forward (dst : Nat) (w : GWrite)
  | result (dst tag term index status : Nat)
  | fetch (dst index : Nat)
  | entries (dst : Nat) (es : List GEntry) (snap : Option GSnapshot)
  | readIndex (dst tag : Nat)
  | readReply (dst tag commit : Nat)
  deriving DecidableEq, Repr

/-- The Tsusto group (17 R374-R389): the log from `base` + 1 on, the BBRAM group buffer and the entries that wait for it, the term granted in, the
grants of a claim, the group limits, the writes of this member and those it serves as sequencer (member, tag, term, index), and the READs that wait for an
index; `inbox` the PEER messages that have wholly arrived, `announced` the ANNOUNCE messages, `snap` the parts of a snapshot that have come; `out` the messages handed to the ports, each with its link generation and number. `amnesia`: BBRAM was lost and no commit index has been learnt
since (R387). -/
structure Group where
  log : List GEntry
  base : Nat
  baseTerm : Nat
  commit : Nat
  applied : Nat
  grantedIn : Nat
  grants : List Nat
  links : Map Link
  limits : Map Nat
  buffer : List Nat
  undrained : List Nat
  stepDown : Bool
  stepAt : Nat
  needFetch : Bool
  amnesia : Bool
  writes : List OwnWrite
  served : List (Nat × Nat × Nat × Nat)
  reads : List (Nat × JobRef × Option Nat)
  nextTag : Nat
  lastInstant : Nat
  kek : Option Bytes
  inbox : List PeerMsg
  announced : List AnnounceMsg
  snap : List GSnapshot
  out : List (Nat × Nat × PeerOut)
  deriving DecidableEq, Repr

/-- Fuses, life cycle and debug (18 R391-R407): `opening` is the seq from which the CHECKPOINT of a debug opening is sought and whether its tenant resets
have begun; `poked` holds the words that MEM_ACCESS wrote to memories whose layout the spec does not give (log 51). -/
structure LifeCycle where
  fuses : Nat
  dur : Nat
  tokens : Map Nat
  floor : Nat
  serial : Nat
  step : Nat
  fjoix : Nat
  enrolBad : Bool
  prog : Option Nat
  enrolNew : Nat × Nat
  record : Option (Nat × Nat × Nat × Nat)
  result : Nat
  chal : Option (Nat × Nat)
  opening : Option (Nat × Bool)
  debugOpen : Bool
  ir : Nat
  dr : Nat
  extest : Bool
  poked : Map Nat
  deriving DecidableEq, Repr

/-- A tamper ring entry (19 R420). -/
structure RingEntry where
  source : Nat
  rank : Nat
  flags : Nat
  detected : Nat
  count : Nat
  deriving DecidableEq, Repr

/-- The tamper controller (19 R408-R422): `conds` the sources whose condition holds, which no reset touches (R409, R417). -/
structure Tamper where
  conds : List Nat
  ring : List RingEntry
  rank : Nat
  quiesce : Bool
  clear : Nat
  parity : List Nat
  clockRank : Nat
  clockSources : List Nat
  restarted : List Nat
  deriving DecidableEq, Repr

/-- An event-log entry (21 R453). -/
structure LogEntry where
  seq : Nat
  datum : Nat
  kind : Nat
  unitType : Nat
  cluster : Nat
  unit : Nat
  tenant : Nat
  status : Nat
  record : Nat
  deriving DecidableEq, Repr

/-- The fault function (21 R445-R454): the log, fenced banks and copies in progress, bank and cluster faults, fenced ports. -/
structure Faults where
  log : List LogEntry
  seq : Nat
  bankFaults : Map (List Nat)
  clusterFaults : Map (List Nat)
  portFaults : Map (List Nat)
  copying : List Nat
  portFenced : List Nat
  deriving DecidableEq, Repr

/-- One write of a dictionary transaction (05 R107, R110): the entry, its type code and value octets, or the clear request of
an EVENT32. -/
structure DWrite where
  idx : Nat
  sub : Nat
  typ : Nat
  val : Bytes
  deriving DecidableEq, Repr

/-- A transaction being journalled (05 R113). -/
structure Journal where
  j : Option JobRef
  writes : List DWrite
  sealedAs : Option (Nat × Nat)
  payload : Bytes
  deriving DecidableEq, Repr

/-- Dictionary transactions (05 R112-R115). -/
structure Dtx where
  epoch : Nat
  resetEpoch : Nat
  snaps : Map (Map Nat)
  journal : Option Journal
  commits : Nat
  certs : Map Bytes
  deriving DecidableEq, Repr

/-- The state of the block. -/
structure State where
  /-- The commands that wait, first in first out: the model's queue. -/
  pending : List Instr
  /-- The MODEL'S own field: how many free values have been drawn (log 6). -/
  free : Nat
  phase : Phase
  dict : Map Nat
  dtx : Dtx
  clk : Clocks
  pins : Pins
  ports : Map Port
  ptp : Ptp
  tx : List Wire
  waits : List TxWait
  parts : List Partial
  hsIn : List HsReq
  chans : Map Channel
  gens : Map Nat
  freed : List Nat
  hs : List Handshake
  jobs : List Job
  order : Nat
  tenants : Map Tenant
  lap : Lap
  rwork : List ReserveItem
  units : Map Engine
  les : Map Le
  saved : Map Le
  cmem : Map Tagged
  clus : Map Cluster
  mcache : List Matrix
  kern : Stores
  dstreams : Map DStream
  ent : Entropy
  keys : Keys
  stampSeq : Nat
  flash : Map Flash
  gate : Gate
  trav : Traverse
  grp : Group
  lc : LifeCycle
  tamp : Tamper
  flt : Faults
  deriving DecidableEq, Repr

/-- The state right after cold reset: PORST_N has been asserted and nothing has started (20 R441, R442; log 3, log 4). -/
def State.reset : State where
  pending := []
  free := 0
  phase := .down
  dict := []
  dtx := ⟨0, 0, [], none, 0, []⟩
  clk := { refclk := true, sd := true, xtal := true, gated := false, coasting := false, datum := 0, frac := 0,
           incr := 13743895347, maxDatum := 0, rtc := 0, aonFrac := 0, fab := 0, lossAt := 0, aonOnTamperOsc := false,
           onBattery := false, sscDepth := 0, sscRate := 32, sscProfile := 0, compat := false,
           waiting := none }
  pins := { lines := 0, pres := 0xFFFFFFFE, pwrgd := true, pwrHold := true, vppOk := true, sysrstLow := false,
            safe := false, txIdle := false }
  ports := []
  ptp := ⟨some 0, [], 0⟩
  tx := []
  waits := []
  parts := []
  hsIn := []
  chans := []
  gens := []
  freed := []
  hs := []
  jobs := []
  order := 0
  tenants := []
  lap := ⟨0, 1000, none, [], [], 0, 0, 0, false, false, 0, 0⟩
  rwork := []
  units := []
  les := []
  saved := []
  cmem := []
  clus := []
  mcache := []
  kern := { bound := [], committed := [], staged := [], verifying := none, slotA := none, slotB := none, micro := [],
            nano := [], tenantsServed := true }
  dstreams := []
  ent := ⟨[], [], 0, [], [], 0, none, none⟩
  keys := { vol := [], volGen := [], pGen := [], slots := [], recs := [], ctr := [], manifest := [], lastKum := [],
            rolled := [], loaded := [], commits := [], reserves := [], old := [], oldHeld := [], secret := 0, hasSecret := true, formatted := true,
            testRoot := false }
  stampSeq := 1
  flash := []
  gate := ⟨[], [], [], false⟩
  trav := { ring := [], archive := [], epoch := 0, nextSeq := 0, headHash := 0, signing := false, held := 0, waiters := [],
            demand := [], pending := [], tamperSec := [], tamperCarry := [], epochRecords := 0,
            epochHasCheckpoint := false, nextSlot := 0 }
  grp := { log := [], base := 0, baseTerm := 0, commit := 0, applied := 0, grantedIn := 0, grants := [], links := [],
           limits := [], buffer := [], undrained := [], stepDown := false, stepAt := 0, needFetch := false, amnesia := false,
           writes := [], served := [], reads := [], nextTag := 0, lastInstant := 0, kek := none, inbox := [], announced := [], snap := [], out := [] }
  lc := { fuses := 0xFFFFFFFF * 2 ^ 256 + 0xFFFF * 2 ^ 128 + 0xFFFF, dur := 0, tokens := [], floor := 0, serial := 0, step := 1, fjoix := 0,
          enrolBad := false, prog := none, enrolNew := (0, 0), record := none, result := 0, chal := none, opening := none, debugOpen := false,
          ir := 1, dr := 0, extest := false, poked := [] }
  tamp := ⟨[], [], 0, false, 0, [], 0, [], []⟩
  flt := ⟨[], 0, [], [], [], [], []⟩

end Machine
end Sys2Proof
end

