-- ==== Sys2Proof/Machine/Entries.lean ====
section
/-! DEFINITION. The object dictionary's entries, row by row as the chapters' entry tables give them (05 R102-R106). -/

namespace Sys2Proof
namespace Machine

/-- One row of an entry table: indices `idx … idx + count - 1`, subindices `sub, sub + stride, …` (`subs` of them), type code and
size (R104), access 0 RO 1 RW 2 WO 3 W1 (R105), rights [7:4] read [3:0] write in bit order O A U V, persistence 0 V 1 P 2 S
3 F 4 other source 5 V kept across warm resets (R106), default, range, defined flags of an EVENT32, name. -/
structure Row where
  idx : Nat
  count : Nat
  sub : Nat
  subs : Nat
  stride : Nat
  typ : Nat
  size : Nat
  access : Nat
  rights : Nat
  pers : Nat
  dflt : Nat
  lo : Nat
  hi : Option Nat
  flags : Nat
  name : String
  deriving DecidableEq, Repr

/-- Entries of R39. -/
def rowsR39 : List Row := [
  ⟨0x1400, 4, 0x01, 1, 1, 1, 1, 1, 0xF8, 1, 1, 0, some 1, 0, "ENABLE"⟩,
  ⟨0x1400, 4, 0x02, 1, 1, 14, 1, 1, 0xF8, 1, 0, 0, some 2, 0, "SPEED"⟩,
  ⟨0x1400, 4, 0x03, 1, 1, 14, 1, 1, 0xF8, 1, 0, 0, some 3, 0, "FEC"⟩,
  ⟨0x1400, 4, 0x04, 1, 1, 3, 2, 1, 0xF8, 1, 1518, 1518, some 9216, 0, "MAX_FRAME"⟩,
  ⟨0x1400, 4, 0x05, 1, 1, 3, 2, 1, 0xF8, 1, 0, 0, none, 0, "VLAN"⟩,
  ⟨0x1400, 4, 0x06, 1, 1, 14, 1, 1, 0xF8, 1, 2, 0, some 3, 0, "ENCAP"⟩,
  ⟨0x1400, 4, 0x07, 1, 1, 12, 4, 1, 0xF8, 1, 0, 0, none, 0, "IPV4"⟩,
  ⟨0x1400, 4, 0x08, 1, 1, 2, 1, 1, 0xF8, 1, 24, 8, some 30, 0, "IPV4_PREFIX"⟩,
  ⟨0x1400, 4, 0x09, 1, 1, 12, 16, 1, 0xF8, 1, 0, 0, none, 0, "IPV6"⟩,
  ⟨0x1400, 4, 0x0A, 1, 1, 3, 2, 1, 0xF8, 1, 47218, 0, none, 0, "UDP_PORT"⟩,
  ⟨0x1400, 4, 0x10, 1, 1, 14, 1, 0, 0xF0, 0, 0, 0, none, 0, "LINK_STATE"⟩,
  ⟨0x1400, 4, 0x11, 1, 1, 14, 1, 0, 0xF0, 0, 1, 0, none, 0, "FEC_ACTIVE"⟩,
  ⟨0x1400, 4, 0x12, 1, 1, 12, 6, 0, 0xF0, 4, 0, 0, none, 0, "MAC"⟩,
  ⟨0x1400, 4, 0x13, 1, 1, 15, 4, 1, 0xC8, 0, 0, 0, none, 7, "LINK_EVENTS"⟩,
  ⟨0x1400, 4, 0x14, 1, 1, 5, 8, 0, 0xC0, 0, 0, 0, none, 0, "RX_DROPPED"⟩,
  ⟨0x1410, 1, 0x01, 1, 1, 3, 2, 1, 0xF8, 1, 34998, 0, none, 0, "ETHERTYPE"⟩,
  ⟨0x1410, 1, 0x02, 1, 1, 3, 2, 1, 0xF8, 1, 10, 0, some 600, 0, "ANNOUNCE_INTERVAL"⟩,
  ⟨0x1410, 1, 0x03, 1, 1, 1, 1, 1, 0xF8, 1, 1, 0, some 1, 0, "ECHO_ENABLE"⟩,
  ⟨0x1410, 1, 0x04, 1, 1, 3, 2, 1, 0xF8, 1, 1000, 0, none, 0, "FAILBACK_HOLD"⟩,
  ⟨0x1440, 64, 0x01, 1, 1, 2, 1, 1, 0xC8, 1, 0, 0, some 3, 0, "PRIMARY_PORT"⟩,
  ⟨0x1440, 64, 0x02, 1, 1, 2, 1, 1, 0xC8, 1, 255, 0, none, 0, "ALTERNATE_PORT"⟩]

/-- Entries of R40. -/
def rowsR40 : List Row := [
  ⟨0x1100, 1, 0x01, 1, 1, 9, 10, 0, 0xF0, 4, 0, 0, none, 0, "DATUM"⟩,
  ⟨0x1100, 1, 0x02, 1, 1, 14, 1, 0, 0xF0, 0, 0, 0, none, 0, "QUALITY"⟩,
  ⟨0x1100, 1, 0x03, 1, 1, 7, 8, 0, 0xF0, 0, 0, 0, none, 0, "OFFSET"⟩,
  ⟨0x1100, 1, 0x04, 1, 1, 4, 4, 0, 0xF0, 0, 0, 0, none, 0, "PATH_DELAY"⟩,
  ⟨0x1100, 1, 0x05, 1, 1, 6, 4, 0, 0xF0, 0, 0, 0, none, 0, "FREQ_ADJ"⟩,
  ⟨0x1100, 1, 0x06, 1, 1, 12, 10, 0, 0xF0, 0, 0, 0, none, 0, "MASTER_ID"⟩,
  ⟨0x1100, 1, 0x07, 1, 1, 6, 4, 0, 0xF0, 0, 37, 0, none, 0, "UTC_OFFSET"⟩,
  ⟨0x1100, 1, 0x08, 1, 1, 15, 4, 1, 0xC8, 0, 0, 0, none, 7, "QUALITY_EVENTS"⟩,
  ⟨0x1101, 1, 0x01, 1, 1, 2, 1, 1, 0xF8, 1, 0, 0, none, 0, "PTP_PORT"⟩,
  ⟨0x1101, 1, 0x02, 1, 1, 2, 1, 1, 0xF8, 1, 1, 0, none, 0, "PTP_BACKUP"⟩,
  ⟨0x1101, 1, 0x03, 1, 1, 14, 1, 1, 0xF8, 1, 2, 0, some 2, 0, "TRANSPORT"⟩,
  ⟨0x1101, 1, 0x04, 1, 1, 14, 1, 1, 0xF8, 1, 0, 0, some 1, 0, "DELAY_MECH"⟩,
  ⟨0x1101, 1, 0x05, 1, 1, 2, 1, 1, 0xF8, 1, 0, 0, some 127, 0, "DOMAIN"⟩,
  ⟨0x1101, 1, 0x06, 1, 1, 4, 4, 1, 0xF8, 1, 100, 0, none, 0, "LOCK_THRESHOLD"⟩,
  ⟨0x1101, 1, 0x07, 1, 1, 4, 4, 1, 0xF8, 1, 1000, 0, none, 0, "UNLOCK_THRESHOLD"⟩,
  ⟨0x1101, 1, 0x08, 1, 1, 4, 4, 1, 0xF8, 1, 1000, 0, none, 0, "STEP_THRESHOLD"⟩,
  ⟨0x1101, 1, 0x09, 1, 1, 4, 4, 1, 0xF8, 1, 3600, 60, some 604800, 0, "HOLDOVER_LIMIT"⟩,
  ⟨0x1101, 1, 0x0A, 1, 1, 2, 1, 1, 0xF8, 1, 3, 2, some 10, 0, "ANNOUNCE_TIMEOUT"⟩]

/-- Entries of R70. -/
def rowsR70 : List Row := [
  ⟨0x1600, 1, 0x01, 1, 1, 2, 1, 0, 0xF0, 0, 2, 0, none, 0, "VERSION"⟩,
  ⟨0x1600, 1, 0x02, 1, 1, 4, 4, 1, 0xF8, 1, 2000, 10, some 60000, 0, "REASSEMBLY_TIMEOUT"⟩,
  ⟨0x1600, 1, 0x03, 1, 1, 3, 2, 1, 0xF8, 1, 64, 0, none, 0, "INITIAL_CREDITS"⟩,
  ⟨0x1600, 1, 0x04, 1, 1, 3, 2, 1, 0xF8, 1, 4096, 1, some 32767, 0, "MAX_BALANCE"⟩,
  ⟨0x1600, 1, 0x10, 1, 1, 5, 8, 0, 0xC0, 0, 0, 0, none, 0, "DROP_FORMAT"⟩,
  ⟨0x1600, 1, 0x11, 1, 1, 5, 8, 0, 0xC0, 0, 0, 0, none, 0, "DROP_CARRIER"⟩,
  ⟨0x1600, 1, 0x12, 1, 1, 5, 8, 0, 0xC0, 0, 0, 0, none, 0, "DROP_AUTH"⟩,
  ⟨0x1600, 1, 0x13, 1, 1, 5, 8, 0, 0xC0, 0, 0, 0, none, 0, "DISCARD_TIMEOUT"⟩,
  ⟨0x1600, 1, 0x14, 1, 1, 5, 8, 0, 0xC0, 0, 0, 0, none, 0, "DROP_STRAY"⟩,
  ⟨0x1600, 1, 0x15, 1, 1, 5, 8, 0, 0xC0, 0, 0, 0, none, 0, "RETRY_SEEN"⟩,
  ⟨0x1640, 64, 0x01, 1, 1, 4, 4, 1, 0xC8, 1, 256, 0, none, 0, "POOL_SHARE"⟩,
  ⟨0x1640, 64, 0x02, 1, 1, 4, 4, 0, 0xC0, 0, 0, 0, none, 0, "POOL_IN_USE"⟩]

/-- Entries of R75. -/
def rowsR75 : List Row := [
  ⟨0x1800, 64, 0x01, 1, 1, 14, 1, 1, 0xC8, 1, 1, 0, some 1, 0, "STATE"⟩,
  ⟨0x1800, 64, 0x02, 1, 1, 4, 4, 1, 0xE8, 1, 18087934, 0, none, 0, "FAMILIES"⟩,
  ⟨0x1800, 64, 0x03, 1, 1, 3, 2, 1, 0xC8, 1, 1024, 0, none, 0, "MAX_CHANNELS"⟩,
  ⟨0x1800, 64, 0x04, 1, 1, 3, 2, 1, 0xC8, 1, 256, 1, some 10000, 0, "HS_RATE"⟩,
  ⟨0x1800, 64, 0x08, 8, 1, 4, 4, 1, 0xC8, 1, 256, 0, none, 0, "QUEUE_DEPTH"⟩,
  ⟨0x1800, 64, 0x20, 8, 2, 11, 48, 1, 0xCC, 1, 0, 0, none, 0, "CRED_DIGEST"⟩,
  ⟨0x1800, 64, 0x21, 8, 2, 3, 2, 1, 0xCC, 1, 0, 0, none, 0, "CRED_INFO"⟩,
  ⟨0x1800, 64, 0x30, 1, 1, 3, 2, 0, 0xC0, 0, 0, 0, none, 0, "OPEN_CHANNELS"⟩,
  ⟨0x1800, 64, 0x31, 1, 1, 4, 4, 0, 0xC0, 0, 0, 0, none, 0, "SLOTS_IN_USE"⟩,
  ⟨0x1800, 64, 0x32, 1, 1, 15, 4, 1, 0xCC, 0, 0, 0, none, 31, "FAULT_EVENTS"⟩,
  ⟨0x1800, 64, 0x33, 1, 1, 15, 4, 1, 0xCC, 0, 0, 0, none, 1, "RESET_EVENTS"⟩,
  ⟨0x1800, 64, 0x34, 1, 1, 15, 4, 1, 0xCC, 0, 0, 0, none, 1, "EXPIRED_EVENTS"⟩,
  ⟨0x1800, 64, 0x35, 1, 1, 5, 8, 0, 0xC0, 0, 0, 0, none, 0, "HS_DROPPED"⟩]

/-- Entries of R121. -/
def rowsR121 : List Row := [
  ⟨0x0000, 1, 0x01, 1, 1, 2, 1, 0, 0xF0, 0, 1, 0, none, 0, "DICT_VERSION"⟩,
  ⟨0x0000, 1, 0x02, 1, 1, 5, 8, 0, 0xF0, 1, 0, 0, none, 0, "EPOCH"⟩,
  ⟨0x0000, 1, 0x03, 1, 1, 5, 8, 0, 0xF0, 4, 0, 0, none, 0, "OLDEST_EPOCH"⟩,
  ⟨0x0000, 1, 0x04, 1, 1, 3, 2, 0, 0xF0, 4, 0, 0, none, 0, "INDEX_COUNT"⟩,
  ⟨0x0000, 1, 0x05, 1, 1, 16, 2, 0, 0xF0, 4, 0, 0, none, 0, "INDEX_LIST"⟩,
  ⟨0x0000, 1, 0x06, 1, 1, 5, 8, 0, 0xC0, 1, 0, 0, none, 0, "JOURNAL_COMMITS"⟩]

/-- Entries of R122. -/
def rowsR122 : List Row := [
  ⟨0x1000, 1, 0x01, 1, 1, 11, 48, 0, 0xF0, 4, 0, 0, none, 0, "IDENTITY"⟩,
  ⟨0x1000, 1, 0x02, 1, 1, 13, 16, 0, 0xF0, 0, 0, 0, none, 0, "PART"⟩,
  ⟨0x1000, 1, 0x03, 1, 1, 12, 16, 0, 0xF0, 3, 0, 0, none, 0, "SERIAL"⟩,
  ⟨0x1000, 1, 0x04, 1, 1, 2, 1, 0, 0xF0, 3, 0, 0, none, 0, "SILICON_STEP"⟩,
  ⟨0x1000, 1, 0x05, 1, 1, 4, 4, 0, 0xF0, 4, 0, 0, none, 0, "FW_VERSION"⟩,
  ⟨0x1000, 1, 0x06, 1, 1, 4, 4, 0, 0xF0, 4, 0, 0, none, 0, "PATCH_VERSION"⟩,
  ⟨0x1000, 1, 0x07, 1, 1, 2, 1, 0, 0xF0, 3, 0, 0, none, 0, "PATCH_FLOOR"⟩,
  ⟨0x1010, 1, 0x01, 1, 1, 14, 1, 0, 0xF0, 3, 0, 0, none, 0, "LIFECYCLE"⟩,
  ⟨0x1010, 1, 0x02, 1, 1, 2, 1, 0, 0xC0, 3, 0, 0, none, 0, "TEST_USES"⟩,
  ⟨0x1010, 1, 0x03, 1, 1, 1, 1, 0, 0xF0, 0, 0, 0, some 1, 0, "DEBUG_OPEN"⟩,
  ⟨0x1010, 1, 0x04, 1, 1, 1, 1, 0, 0xF0, 3, 0, 0, some 1, 0, "FIELD_SEAL"⟩,
  ⟨0x1010, 1, 0x05, 1, 1, 1, 1, 0, 0xF0, 4, 0, 0, some 1, 0, "KEYS_LOST"⟩,
  ⟨0x1010, 1, 0x06, 1, 1, 5, 8, 0, 0xF0, 4, 0, 0, none, 0, "BOOT_EPOCH"⟩,
  ⟨0x1030, 1, 0x01, 1, 1, 11, 48, 3, 0xF0, 3, 0, 0, none, 0, "ENROL_DIGEST"⟩,
  ⟨0x1030, 1, 0x02, 1, 1, 2, 1, 3, 0xF0, 3, 0, 0, none, 0, "ENROL_SET"⟩,
  ⟨0x1030, 1, 0x03, 1, 1, 11, 48, 0, 0xF0, 1, 0, 0, none, 0, "OWNER_DIGEST"⟩,
  ⟨0x1030, 1, 0x04, 1, 1, 9, 10, 0, 0xF0, 1, 0, 0, none, 0, "OWNED_SINCE"⟩,
  ⟨0x1030, 1, 0x05, 1, 1, 11, 48, 1, 0xF8, 2, 0, 0, none, 0, "POLICY_KEY"⟩,
  ⟨0x1030, 1, 0x06, 1, 1, 5, 8, 0, 0xF0, 1, 0, 0, none, 0, "SEALED_COUNTER"⟩,
  ⟨0x1030, 1, 0x07, 1, 1, 11, 48, 0, 0xF0, 1, 0, 0, none, 0, "LAST_SEALED"⟩]

/-- Entries of R143. -/
def rowsR143 : List Row := [
  ⟨0x1900, 64, 0x01, 1, 1, 14, 1, 1, 0xE8, 1, 0, 0, some 1, 0, "MODE"⟩,
  ⟨0x1900, 64, 0x02, 1, 1, 4, 4, 1, 0xE8, 1, 0, 0, some 64000, 0, "ALLOW_LE"⟩,
  ⟨0x1900, 64, 0x03, 1, 1, 4, 4, 1, 0xE8, 1, 0, 0, some 256000, 0, "ALLOW_HC"⟩,
  ⟨0x1900, 64, 0x04, 1, 1, 4, 4, 1, 0xE8, 1, 0, 0, some 16000, 0, "ALLOW_BE"⟩,
  ⟨0x1900, 64, 0x05, 1, 1, 4, 4, 1, 0xE8, 1, 0, 0, some 25000000, 0, "ALLOW_AEAD"⟩,
  ⟨0x1900, 64, 0x10, 1, 1, 4, 4, 0, 0xC0, 0, 0, 0, none, 0, "HELD"⟩,
  ⟨0x1900, 64, 0x11, 1, 1, 16, 16, 0, 0xC0, 5, 0, 0, none, 0, "USAGE"⟩,
  ⟨0x1900, 64, 0x12, 1, 1, 15, 4, 1, 0xCC, 0, 0, 0, none, 31, "SUSPEND_EVENTS"⟩]

/-- Entries of R144. -/
def rowsR144 : List Row := [
  ⟨0x1A00, 1, 0x01, 1, 1, 14, 1, 1, 0xF8, 1, 3, 0, some 4, 0, "LAP_LENGTH"⟩,
  ⟨0x1A00, 1, 0x02, 1, 1, 2, 1, 1, 0xC8, 1, 1, 1, some 8, 0, "RESERVE_LE"⟩,
  ⟨0x1A00, 1, 0x03, 1, 1, 2, 1, 1, 0xC8, 1, 1, 1, some 8, 0, "RESERVE_HC"⟩,
  ⟨0x1A00, 1, 0x04, 1, 1, 2, 1, 1, 0xC8, 1, 1, 0, some 4, 0, "RESERVE_BE"⟩,
  ⟨0x1A00, 1, 0x05, 1, 1, 14, 1, 0, 0xF0, 0, 3, 0, none, 0, "LAP_ACTIVE"⟩,
  ⟨0x1A00, 1, 0x06, 1, 1, 5, 8, 0, 0xC0, 5, 0, 0, none, 0, "LAP_NUMBER"⟩,
  ⟨0x1A00, 1, 0x07, 1, 1, 4, 4, 0, 0xC0, 0, 63000, 0, none, 0, "POOL_LE"⟩,
  ⟨0x1A00, 1, 0x08, 1, 1, 4, 4, 0, 0xC0, 0, 254000, 0, none, 0, "POOL_HC"⟩,
  ⟨0x1A00, 1, 0x09, 1, 1, 4, 4, 0, 0xC0, 0, 15000, 0, none, 0, "POOL_BE"⟩,
  ⟨0x1A00, 1, 0x0A, 1, 1, 4, 4, 0, 0xC0, 0, 25000000, 0, none, 0, "POOL_AEAD"⟩,
  ⟨0x1A00, 1, 0x0B, 1, 1, 5, 8, 0, 0xC0, 0, 0x3e803e803e803e8, 0, none, 0, "SCALE"⟩,
  ⟨0x1A00, 1, 0x0C, 1, 1, 15, 4, 1, 0xC8, 0, 0, 0, none, 15, "LAP_EVENTS"⟩]

/-- Entries of R220. -/
def rowsR220 : List Row := [
  ⟨0x2000, 16, 0x01, 1, 1, 14, 1, 0, 0xF0, 0, 0, 0, none, 0, "CLUSTER_STATE"⟩,
  ⟨0x2000, 16, 0x02, 1, 1, 4, 4, 0, 0xC0, 0, 0, 0, none, 0, "LE_STATE"⟩,
  ⟨0x2000, 16, 0x03, 1, 1, 11, 48, 0, 0xC0, 0, 0, 0, none, 0, "RESIDENT_MCE"⟩,
  ⟨0x2000, 16, 0x04, 1, 1, 3, 2, 0, 0xC0, 0, 176, 0, none, 0, "SCRATCH_FREE"⟩,
  ⟨0x2000, 16, 0x05, 1, 1, 5, 8, 0, 0xC0, 0, 0, 0, none, 0, "MASK_RESEEDS"⟩,
  ⟨0x2000, 16, 0x06, 1, 1, 2, 1, 1, 0xC8, 0, 0, 0, some 15, 0, "FENCE_REQUEST"⟩,
  ⟨0x2000, 16, 0x07, 1, 1, 15, 4, 1, 0xC8, 0, 0, 0, none, 31, "ENGINE_EVENTS"⟩]

/-- Entries of R248. -/
def rowsR248 : List Row := [
  ⟨0x2400, 1, 0x01, 1, 1, 14, 1, 0, 0xF0, 4, 0, 0, none, 0, "ACTIVE_PATCH"⟩,
  ⟨0x2400, 1, 0x02, 1, 1, 2, 1, 0, 0xF0, 4, 0, 0, none, 0, "PATCH_SVN"⟩,
  ⟨0x2400, 1, 0x03, 1, 1, 4, 4, 0, 0xC0, 1, 0, 0, none, 0, "SLOT_A"⟩,
  ⟨0x2400, 1, 0x04, 1, 1, 4, 4, 0, 0xC0, 1, 0, 0, none, 0, "SLOT_B"⟩,
  ⟨0x2400, 1, 0x05, 1, 1, 2, 1, 2, 0x08, 0, 0, 0, none, 0, "FLOOR_RAISE"⟩,
  ⟨0x2400, 1, 0x06, 1, 1, 11, 48, 1, 0xF8, 2, 0, 0, none, 0, "KERNEL_KEY"⟩,
  ⟨0x2400, 1, 0x07, 1, 1, 15, 4, 1, 0xC8, 0, 0, 0, none, 3, "PATCH_EVENTS"⟩,
  ⟨0x2400, 1, 0x08, 1, 1, 5, 8, 0, 0xC0, 0, 0, 0, none, 0, "CS_REPAIRS"⟩,
  ⟨0x2410, 1, 0x01, 1, 1, 16, 8, 0, 0xC0, 4, 0, 0, none, 0, "LIBRARY"⟩,
  ⟨0x2420, 1, 0x01, 64, 1, 12, 1000, 2, 0x08, 0, 0, 0, none, 0, "STAGE"⟩,
  ⟨0x2421, 1, 0x01, 1, 1, 14, 1, 2, 0x08, 0, 0, 1, some 3, 0, "INSTALL"⟩,
  ⟨0x2421, 1, 0x02, 1, 1, 2, 1, 2, 0x08, 0, 0, 0, none, 0, "REMOVE_BINDING"⟩,
  ⟨0x2421, 1, 0x03, 1, 1, 14, 1, 0, 0xC0, 0, 0, 0, none, 0, "INSTALL_STATE"⟩,
  ⟨0x2421, 1, 0x04, 1, 1, 4, 4, 0, 0xC0, 0, 0, 0, none, 0, "INSTALL_RESULT"⟩,
  ⟨0x2421, 1, 0x05, 1, 1, 15, 4, 1, 0xC8, 0, 0, 0, none, 3, "INSTALL_EVENTS"⟩,
  ⟨0x2430, 1, 0x01, 1, 1, 16, 64, 0, 0xF0, 1, 0, 0, none, 0, "KERNELS"⟩]

/-- Entries of R288. -/
def rowsR288 : List Row := [
  ⟨0x2080, 1, 0x01, 1, 1, 2, 1, 0, 0xC0, 0, 128, 0, none, 0, "KECCAK_IDLE"⟩,
  ⟨0x2080, 1, 0x02, 1, 1, 2, 1, 0, 0xC0, 0, 128, 0, none, 0, "SHA2_IDLE"⟩,
  ⟨0x2080, 1, 0x03, 1, 1, 3, 2, 0, 0xC0, 0, 4096, 0, none, 0, "CONTEXTS_FREE"⟩,
  ⟨0x2080, 1, 0x04, 1, 1, 5, 8, 0, 0xC0, 5, 0, 0, none, 0, "SWITCHES"⟩,
  ⟨0x2080, 1, 0x05, 1, 1, 3, 2, 0, 0xC0, 0, 0, 0, none, 0, "SECRET_STREAMS"⟩,
  ⟨0x20C0, 64, 0x01, 1, 1, 3, 2, 1, 0xC8, 1, 64, 0, some 4096, 0, "STREAM_LIMIT"⟩,
  ⟨0x20C0, 64, 0x02, 1, 1, 3, 2, 0, 0xC0, 0, 0, 0, none, 0, "STREAMS_OPEN"⟩,
  ⟨0x20C0, 64, 0x03, 1, 1, 15, 4, 1, 0xCC, 0, 0, 0, none, 3, "STREAM_EVENTS"⟩]

/-- Entries of R306. -/
def rowsR306 : List Row := [
  ⟨0x2800, 1, 0x01, 1, 1, 14, 1, 0, 0xF0, 0, 0, 0, none, 0, "ENTROPY_STATE"⟩,
  ⟨0x2800, 1, 0x02, 1, 1, 2, 1, 0, 0xF0, 5, 0, 0, none, 0, "HEALTHY_COUNT"⟩,
  ⟨0x2800, 1, 0x03, 1, 1, 2, 1, 0, 0xC0, 0, 0, 0, none, 0, "POOL_BLOCKS"⟩,
  ⟨0x2800, 1, 0x04, 1, 1, 4, 4, 1, 0xC8, 1, 60, 10, some 86400, 0, "RESEED_INTERVAL"⟩,
  ⟨0x2800, 1, 0x05, 1, 1, 1, 1, 2, 0x08, 0, 0, 0, some 1, 0, "RESEED_ALL"⟩,
  ⟨0x2800, 1, 0x06, 1, 1, 15, 4, 1, 0xC8, 0, 0, 0, none, 31, "ENTROPY_EVENTS"⟩,
  ⟨0x2800, 1, 0x07, 1, 1, 5, 8, 0, 0xC0, 5, 0, 0, none, 0, "BLOCKS_MADE"⟩,
  ⟨0x2800, 1, 0x08, 1, 1, 5, 8, 0, 0xC0, 0, 0, 0, none, 0, "PR_REQUESTS"⟩,
  ⟨0x2810, 1, 0x01, 1, 1, 12, 40, 0, 0x80, 0, 0, 0, none, 0, "RAW_SAMPLE"⟩,
  ⟨0x2810, 1, 0x02, 1, 1, 2, 1, 1, 0x88, 0, 0, 0, some 15, 0, "SAMPLE_SOURCE"⟩,
  ⟨0x2820, 16, 0x01, 1, 1, 14, 1, 0, 0xC0, 5, 0, 0, none, 0, "SOURCE_STATE"⟩,
  ⟨0x2820, 16, 0x02, 1, 1, 2, 1, 0, 0xC0, 5, 0, 0, none, 0, "FAILURES"⟩,
  ⟨0x2820, 16, 0x03, 1, 1, 14, 1, 0, 0xC0, 5, 0, 0, none, 0, "LAST_CAUSE"⟩,
  ⟨0x2820, 16, 0x04, 1, 1, 1, 1, 2, 0x08, 0, 0, 0, some 1, 0, "RESTART"⟩,
  ⟨0x2820, 16, 0x05, 1, 1, 1, 1, 2, 0x08, 0, 0, 0, some 1, 0, "DISABLE"⟩,
  ⟨0x2820, 16, 0x06, 1, 1, 5, 8, 0, 0xC0, 5, 0, 0, none, 0, "WINDOWS_PASSED"⟩,
  ⟨0x2840, 64, 0x01, 1, 1, 14, 1, 0, 0xC0, 0, 0, 0, none, 0, "DRBG_STATE"⟩,
  ⟨0x2840, 64, 0x02, 1, 1, 4, 4, 0, 0xC0, 0, 0, 0, none, 0, "CALLS_SINCE_RESEED"⟩,
  ⟨0x2840, 64, 0x03, 1, 1, 5, 8, 0, 0xC0, 5, 0, 0, none, 0, "RESEEDS"⟩,
  ⟨0x2840, 64, 0x04, 1, 1, 9, 10, 0, 0xC0, 0, 0, 0, none, 0, "LAST_RESEED"⟩]

/-- Entries of R332. -/
def rowsR332 : List Row := [
  ⟨0x2C00, 1, 0x01, 1, 1, 4, 4, 0, 0xC0, 0, 65536, 0, none, 0, "VOLATILE_FREE"⟩,
  ⟨0x2C00, 1, 0x02, 1, 1, 3, 2, 0, 0xC0, 1, 0, 0, none, 0, "RECORDS_FREE"⟩,
  ⟨0x2C00, 1, 0x03, 1, 1, 3, 2, 0, 0xC0, 0, 0, 0, none, 0, "RSA_PRESENT"⟩,
  ⟨0x2C00, 1, 0x04, 1, 1, 3, 2, 0, 0xC0, 0, 0, 0, none, 0, "MCE_PRESENT"⟩,
  ⟨0x2C00, 1, 0x05, 1, 1, 11, 48, 1, 0xF8, 2, 0, 0, none, 0, "DEVICE_AUTHORITY"⟩,
  ⟨0x2C00, 1, 0x06, 1, 1, 5, 8, 0, 0xF0, 4, 0, 0, none, 0, "DEVICE_COUNTER"⟩,
  ⟨0x2C00, 1, 0x07, 1, 1, 15, 4, 1, 0xC8, 0, 0, 0, none, 31, "KEY_EVENTS"⟩,
  ⟨0x2C00, 1, 0x08, 1, 1, 1, 1, 2, 0x08, 0, 0, 0, some 1, 0, "KEYS_RESET"⟩,
  ⟨0x2C00, 1, 0x09, 1, 1, 4, 4, 0, 0xC0, 0, 1113088, 0, none, 0, "MATERIAL_FREE"⟩,
  ⟨0x2C01, 1, 0x01, 1, 1, 16, 1000, 0, 0xF0, 1, 0, 0, none, 0, "CERT_ID_SIG"⟩,
  ⟨0x2C01, 1, 0x02, 1, 1, 16, 1000, 0, 0xF0, 1, 0, 0, none, 0, "CERT_ID_SIG_EC"⟩,
  ⟨0x2C01, 1, 0x03, 1, 1, 16, 1000, 0, 0xF0, 1, 0, 0, none, 0, "CERT_ID_KEM"⟩,
  ⟨0x2C01, 1, 0x04, 1, 1, 16, 1000, 0, 0xF0, 1, 0, 0, none, 0, "CERT_TRV_SIG"⟩,
  ⟨0x2C01, 1, 0x05, 1, 1, 16, 1000, 0, 0xF0, 1, 0, 0, none, 0, "CERT_TRV_SLH"⟩,
  ⟨0x2C01, 1, 0x06, 1, 1, 16, 1000, 0, 0xF0, 1, 0, 0, none, 0, "CERT_CA"⟩]

/-- Entries of R333. -/
def rowsR333 : List Row := [
  ⟨0x2C40, 64, 0x01, 1, 1, 3, 2, 1, 0xC8, 1, 1024, 0, some 65535, 0, "VOLATILE_LIMIT"⟩,
  ⟨0x2C40, 64, 0x02, 1, 1, 11, 48, 1, 0xC8, 1, 0, 0, none, 0, "AUTHORITY"⟩,
  ⟨0x2C40, 64, 0x03, 1, 1, 5, 8, 0, 0xE0, 4, 0, 0, none, 0, "COUNTER"⟩,
  ⟨0x2C40, 64, 0x04, 1, 1, 3, 2, 0, 0xC0, 0, 0, 0, none, 0, "VOLATILE_IN_USE"⟩,
  ⟨0x2C40, 64, 0x05, 1, 1, 16, 56, 0, 0xC0, 1, 0, 0, none, 0, "RECORDS"⟩]

/-- Entries of R353. -/
def rowsR353 : List Row := [
  ⟨0x3000, 32, 0x01, 1, 1, 1, 1, 1, 0xC8, 1, 1, 0, some 1, 0, "ENABLE"⟩,
  ⟨0x3000, 32, 0x02, 1, 1, 14, 1, 0, 0xC0, 0, 0, 0, none, 0, "MODE"⟩,
  ⟨0x3000, 32, 0x03, 1, 1, 14, 1, 1, 0xC8, 1, 0, 0, some 4, 0, "PROTOCOL_MAX"⟩,
  ⟨0x3000, 32, 0x04, 1, 1, 3, 2, 1, 0xC8, 1, 200, 25, some 200, 0, "CLOCK_MAX"⟩,
  ⟨0x3000, 32, 0x05, 1, 1, 14, 1, 1, 0xC8, 1, 2, 0, some 2, 0, "ADDR_MODE"⟩,
  ⟨0x3000, 32, 0x06, 1, 1, 14, 1, 1, 0xC8, 2, 1, 0, some 1, 0, "ON_FAIL"⟩,
  ⟨0x3000, 32, 0x07, 1, 1, 14, 1, 1, 0xC8, 1, 0, 0, some 3, 0, "PASS_PROTOCOL"⟩,
  ⟨0x3000, 32, 0x10, 1, 1, 1, 1, 0, 0xC0, 0, 0, 0, some 1, 0, "PRESENT"⟩,
  ⟨0x3000, 32, 0x11, 1, 1, 12, 3, 0, 0xC0, 0, 0, 0, none, 0, "JEDEC_ID"⟩,
  ⟨0x3000, 32, 0x12, 1, 1, 4, 4, 0, 0xC0, 0, 0, 0, none, 0, "DENSITY"⟩,
  ⟨0x3000, 32, 0x13, 1, 1, 14, 1, 0, 0xC0, 0, 0, 0, none, 0, "SFDP_STATE"⟩,
  ⟨0x3000, 32, 0x14, 1, 1, 14, 1, 0, 0xC0, 0, 0, 0, none, 0, "PROTOCOL"⟩,
  ⟨0x3000, 32, 0x15, 1, 1, 14, 1, 0, 0xC0, 0, 0, 0, none, 0, "GATE_STATE"⟩,
  ⟨0x3000, 32, 0x16, 1, 1, 15, 4, 1, 0xC8, 0, 0, 0, none, 7, "CUT_EVENTS"⟩,
  ⟨0x3000, 32, 0x17, 1, 1, 5, 8, 0, 0xC0, 0, 0, 0, none, 0, "LAST_CUT"⟩,
  ⟨0x3000, 32, 0x18, 1, 1, 15, 4, 1, 0xC8, 0, 0, 0, none, 3, "PRESENCE_EVENTS"⟩]

/-- Entries of R354. -/
def rowsR354 : List Row := [
  ⟨0x3101, 31, 0x01, 1, 1, 2, 1, 1, 0xF8, 2, 0, 0, some 8, 0, "REGION_COUNT"⟩,
  ⟨0x3101, 31, 0x10, 8, 4, 4, 4, 1, 0xF8, 2, 0, 0, none, 0, "START"⟩,
  ⟨0x3101, 31, 0x11, 8, 4, 4, 4, 1, 0xF8, 2, 0, 0, none, 0, "LENGTH"⟩,
  ⟨0x3101, 31, 0x12, 8, 4, 11, 48, 1, 0xF8, 2, 0, 0, none, 0, "EXPECT"⟩,
  ⟨0x3101, 31, 0x13, 8, 4, 3, 2, 1, 0xF8, 2, 0, 0, none, 0, "RFLAGS"⟩,
  ⟨0x3101, 31, 0x30, 8, 1, 14, 1, 0, 0xF0, 0, 255, 0, none, 0, "VERDICT"⟩,
  ⟨0x3101, 31, 0x38, 8, 1, 11, 48, 0, 0xF0, 0, 0, 0, none, 0, "DIGEST"⟩]

/-- Entries of R355. -/
def rowsR355 : List Row := [
  ⟨0x3201, 31, 0x01, 1, 1, 12, 64, 1, 0xC8, 2, 0x55555555555555555555555555555555555555555555555555555555555555555555555555555555555555555555555555555555555555555555555555555555, 0, none, 0, "CLASSES"⟩,
  ⟨0x3201, 31, 0x02, 1, 1, 2, 1, 1, 0xC8, 2, 0, 0, some 8, 0, "PROTECT_COUNT"⟩,
  ⟨0x3201, 31, 0x10, 8, 2, 4, 4, 1, 0xC8, 2, 0, 0, none, 0, "PROT_START"⟩,
  ⟨0x3201, 31, 0x11, 8, 2, 4, 4, 1, 0xC8, 2, 0, 0, none, 0, "PROT_LENGTH"⟩,
  ⟨0x3200, 1, 0x01, 1, 1, 2, 1, 0, 0xC0, 0, 0, 0, none, 0, "WINDOWS_OPEN"⟩,
  ⟨0x3200, 1, 0x10, 8, 4, 2, 1, 1, 0xC8, 0, 255, 0, none, 0, "CHANNEL"⟩,
  ⟨0x3200, 1, 0x11, 8, 4, 4, 4, 1, 0xC8, 0, 0, 0, none, 0, "START"⟩,
  ⟨0x3200, 1, 0x12, 8, 4, 4, 4, 1, 0xC8, 0, 0, 0, none, 0, "LENGTH"⟩,
  ⟨0x3200, 1, 0x13, 8, 4, 9, 10, 1, 0xC8, 0, 0, 0, none, 0, "EXPIRES"⟩]

/-- Entries of R356. -/
def rowsR356 : List Row := [
  ⟨0x3300, 1, 0x01, 32, 1, 5, 8, 1, 0xC8, 2, 0, 0, none, 0, "LINE"⟩,
  ⟨0x3300, 1, 0x21, 1, 1, 4, 4, 0, 0xF0, 0, 0, 0, none, 0, "RELEASED"⟩,
  ⟨0x3300, 1, 0x22, 1, 1, 4, 4, 2, 0x08, 0, 0, 0, none, 0, "FORCE_RELEASE"⟩,
  ⟨0x3300, 1, 0x23, 1, 1, 4, 4, 2, 0x08, 0, 0, 0, none, 0, "REMEASURE"⟩,
  ⟨0x3300, 1, 0x24, 1, 1, 1, 1, 1, 0xC8, 1, 1, 0, some 1, 0, "PWRGD_REGATE"⟩,
  ⟨0x3300, 1, 0x25, 1, 1, 15, 4, 1, 0xC8, 0, 0, 0, none, 7, "RELEASE_EVENTS"⟩]

/-- Entries of R373. -/
def rowsR373 : List Row := [
  ⟨0x3800, 1, 0x01, 1, 1, 5, 8, 0, 0xF0, 1, 0, 0, none, 0, "HEAD_SEQ"⟩,
  ⟨0x3800, 1, 0x02, 1, 1, 11, 48, 0, 0xF0, 1, 0, 0, none, 0, "HEAD_HASH"⟩,
  ⟨0x3800, 1, 0x03, 1, 1, 5, 8, 0, 0xF0, 1, 0, 0, none, 0, "EPOCH_FIRST_SEQ"⟩,
  ⟨0x3800, 1, 0x04, 1, 1, 5, 8, 0, 0xF0, 1, 0, 0, none, 0, "LAST_CHECKPOINT"⟩,
  ⟨0x3800, 1, 0x05, 1, 1, 4, 4, 1, 0xF8, 1, 3600, 60, some 86400, 0, "CHECKPOINT_INTERVAL"⟩,
  ⟨0x3800, 1, 0x06, 1, 1, 2, 1, 1, 0xF8, 2, 0, 0, some 3, 0, "COSIGN"⟩,
  ⟨0x3800, 1, 0x07, 1, 1, 5, 8, 0, 0xF0, 0, 0, 0, none, 0, "RING_OLDEST"⟩,
  ⟨0x3800, 1, 0x08, 1, 1, 5, 8, 0, 0xF0, 1, 0, 0, none, 0, "ARCHIVE_OLDEST"⟩,
  ⟨0x3800, 1, 0x09, 1, 1, 3, 2, 0, 0xC0, 0, 0, 0, none, 0, "PENDING_SLOTS"⟩,
  ⟨0x3800, 1, 0x0A, 1, 1, 15, 4, 1, 0xC8, 0, 0, 0, none, 15, "TRAVERSE_EVENTS"⟩]

/-- Entries of R390. -/
def rowsR390 : List Row := [
  ⟨0x4400, 1, 0x01, 1, 1, 12, 16, 1, 0xF8, 2, 0, 0, none, 0, "GROUP_ID"⟩,
  ⟨0x4400, 1, 0x02, 1, 1, 2, 1, 1, 0xF8, 2, 0, 0, some 8, 0, "MEMBER_COUNT"⟩,
  ⟨0x4400, 1, 0x03, 1, 1, 4, 4, 1, 0xC8, 1, 100, 10, some 10000, 0, "WRITE_TIMEOUT"⟩,
  ⟨0x4400, 1, 0x04, 1, 1, 11, 48, 0, 0xF0, 4, 0, 0, none, 0, "CONFIG_DIGEST"⟩,
  ⟨0x4400, 1, 0x05, 1, 1, 2, 1, 0, 0xF0, 4, 0, 0, none, 0, "MY_INDEX"⟩,
  ⟨0x4400, 1, 0x06, 1, 1, 11, 48, 1, 0xF8, 2, 0, 0, none, 0, "GROUP_AUTHORITY"⟩,
  ⟨0x4400, 1, 0x07, 1, 1, 5, 8, 0, 0xF0, 1, 0, 0, none, 0, "GROUP_COUNTER"⟩,
  ⟨0x4401, 1, 0x01, 1, 1, 14, 1, 0, 0xF0, 0, 0, 0, none, 0, "ROLE"⟩,
  ⟨0x4401, 1, 0x02, 1, 1, 1, 1, 0, 0xF0, 0, 0, 0, some 1, 0, "QUORATE"⟩,
  ⟨0x4401, 1, 0x03, 1, 1, 5, 8, 0, 0xF0, 4, 0, 0, none, 0, "TERM"⟩,
  ⟨0x4401, 1, 0x04, 1, 1, 2, 1, 0, 0xF0, 0, 255, 0, none, 0, "SEQUENCER"⟩,
  ⟨0x4401, 1, 0x05, 1, 1, 5, 8, 0, 0xF0, 1, 0, 0, none, 0, "COMMIT_INDEX"⟩,
  ⟨0x4401, 1, 0x06, 1, 1, 5, 8, 0, 0xC0, 1, 0, 0, none, 0, "LAST_INDEX"⟩,
  ⟨0x4401, 1, 0x07, 1, 1, 2, 1, 0, 0xC0, 0, 0, 0, none, 0, "REACHABLE"⟩,
  ⟨0x4401, 1, 0x08, 1, 1, 5, 8, 0, 0xC0, 0, 0, 0, none, 0, "DISCARDED"⟩,
  ⟨0x4401, 1, 0x09, 1, 1, 15, 4, 1, 0xC8, 0, 0, 0, none, 31, "GROUP_EVENTS"⟩,
  ⟨0x4410, 8, 0x01, 1, 1, 11, 48, 1, 0xF8, 2, 0, 0, none, 0, "IDENTITY"⟩,
  ⟨0x4410, 8, 0x02, 1, 1, 2, 1, 1, 0xF8, 2, 0, 0, some 3, 0, "WEIGHT"⟩,
  ⟨0x4410, 8, 0x03, 1, 1, 14, 1, 0, 0xC0, 0, 0, 0, none, 0, "LINK"⟩,
  ⟨0x4410, 8, 0x04, 1, 1, 9, 10, 0, 0xC0, 0, 0, 0, none, 0, "LAST_HEARD"⟩,
  ⟨0x4410, 8, 0x05, 1, 1, 5, 8, 0, 0xC0, 0, 0, 0, none, 0, "MATCH_INDEX"⟩]

/-- Entries of R407. -/
def rowsR407 : List Row := [
  ⟨0x5000, 1, 0x01, 1, 1, 12, 48, 2, 0x08, 0, 0, 0, none, 0, "TRANSITION"⟩,
  ⟨0x5000, 1, 0x02, 1, 1, 4, 4, 0, 0xC0, 4, 0, 0, none, 0, "LC_STATUS"⟩,
  ⟨0x5000, 1, 0x03, 1, 1, 1, 1, 1, 0xF8, 1, 0, 0, some 1, 0, "DEBUG_CONSENT"⟩,
  ⟨0x5000, 1, 0x04, 1, 1, 2, 1, 0, 0xF0, 3, 0, 0, none, 0, "OWNER_CYCLES"⟩,
  ⟨0x5000, 1, 0x05, 1, 1, 2, 1, 0, 0xC0, 5, 0, 0, none, 0, "TOKEN_FAILURES"⟩,
  ⟨0x5000, 1, 0x06, 1, 1, 15, 4, 1, 0xC8, 0, 0, 0, none, 31, "LC_EVENTS"⟩,
  ⟨0x5000, 1, 0x07, 1, 1, 11, 48, 0, 0xF0, 3, 0, 0, none, 0, "FJOIX_KEY"⟩]

/-- Entries of R422. -/
def rowsR422 : List Row := [
  ⟨0x4000, 16, 0x01, 1, 1, 14, 1, 1, 0xC8, 2, 0, 0, some 7, 0, "RESPONSE"⟩,
  ⟨0x4000, 16, 0x02, 1, 1, 4, 4, 1, 0xC8, 2, 0, 0, none, 0, "PARAM"⟩,
  ⟨0x4000, 16, 0x03, 1, 1, 14, 1, 0, 0xC0, 0, 0, 0, none, 0, "STATE"⟩,
  ⟨0x4000, 16, 0x04, 1, 1, 15, 4, 1, 0xC8, 4, 0, 0, none, 7, "EVENTS"⟩,
  ⟨0x4000, 16, 0x05, 1, 1, 9, 10, 0, 0xC0, 4, 0, 0, none, 0, "LAST"⟩,
  ⟨0x4010, 1, 0x01, 1, 1, 16, 24, 0, 0xC0, 4, 0, 0, none, 0, "RING"⟩,
  ⟨0x4020, 1, 0x01, 1, 1, 14, 1, 0, 0xF0, 0, 0, 0, none, 0, "TAMPER_STATE"⟩,
  ⟨0x4020, 1, 0x02, 1, 1, 3, 2, 0, 0xC0, 0, 0, 0, none, 0, "ASSERTED"⟩,
  ⟨0x4020, 1, 0x03, 1, 1, 1, 1, 2, 0x08, 0, 0, 0, some 1, 0, "RESUME"⟩,
  ⟨0x4020, 1, 0x04, 1, 1, 14, 1, 1, 0xC8, 1, 1, 0, some 3, 0, "BATTERY_PERIOD"⟩,
  ⟨0x4020, 1, 0x05, 1, 1, 2, 1, 0, 0xC0, 4, 0, 0, none, 0, "PENDING"⟩,
  ⟨0x4020, 1, 0x06, 1, 1, 2, 1, 0, 0xC0, 5, 0, 0, none, 0, "RESTARTS"⟩,
  ⟨0x4020, 1, 0x07, 1, 1, 15, 4, 1, 0xC8, 4, 0, 0, none, 31, "TAMPER_EVENTS"⟩]

/-- Entries of R444. -/
def rowsR444 : List Row := [
  ⟨0x1200, 1, 0x01, 1, 1, 14, 1, 0, 0xF0, 0, 0, 0, none, 0, "CLK_STATE"⟩,
  ⟨0x1200, 1, 0x02, 1, 1, 14, 1, 1, 0xF8, 1, 0, 0, some 1, 0, "CLK_MODE"⟩,
  ⟨0x1200, 1, 0x03, 1, 1, 1, 1, 0, 0xF0, 4, 0, 0, some 1, 0, "COMPAT_STRAP"⟩,
  ⟨0x1200, 1, 0x04, 1, 1, 2, 1, 1, 0xC8, 1, 0, 0, some 16, 0, "SSC_DEPTH"⟩,
  ⟨0x1200, 1, 0x05, 1, 1, 2, 1, 1, 0xC8, 1, 32, 20, some 120, 0, "SSC_RATE"⟩,
  ⟨0x1200, 1, 0x06, 1, 1, 14, 1, 1, 0xC8, 1, 0, 0, some 1, 0, "SSC_PROFILE"⟩,
  ⟨0x1200, 1, 0x07, 1, 1, 15, 4, 1, 0xC8, 0, 0, 0, none, 63, "CLOCK_EVENTS"⟩,
  ⟨0x1200, 1, 0x08, 1, 1, 9, 10, 0, 0xC0, 0, 0, 0, none, 0, "LAST_LOSS"⟩,
  ⟨0x1200, 1, 0x09, 1, 1, 4, 4, 0, 0xC0, 0, 0, 0, none, 0, "LAST_LOSS_LENGTH"⟩,
  ⟨0x1201, 1, 0x01, 1, 1, 14, 1, 0, 0xF0, 4, 0, 0, none, 0, "RESET_CAUSE"⟩,
  ⟨0x1201, 1, 0x02, 1, 1, 1, 1, 2, 0x08, 0, 0, 0, some 1, 0, "WARM_RESET"⟩,
  ⟨0x1201, 1, 0x03, 1, 1, 4, 4, 0, 0xC0, 5, 0, 0, none, 0, "WARM_RESETS"⟩]

/-- Entries of R454. -/
def rowsR454 : List Row := [
  ⟨0x4800, 1, 0x01, 1, 1, 15, 4, 1, 0xC8, 0, 0, 0, none, 127, "FAULT_EVENTS"⟩,
  ⟨0x4800, 1, 0x02, 1, 1, 5, 8, 0, 0xC0, 0, 0, 0, none, 0, "RETRIES"⟩,
  ⟨0x4800, 1, 0x03, 1, 1, 5, 8, 0, 0xC0, 0, 0, 0, none, 0, "RETRY_FAILURES"⟩,
  ⟨0x4800, 1, 0x04, 1, 1, 5, 8, 0, 0xC0, 0, 0, 0, none, 0, "FAULT_CYCLES"⟩,
  ⟨0x4800, 1, 0x05, 1, 1, 3, 2, 0, 0xF0, 0, 0, 0, none, 0, "FENCED_UNITS"⟩,
  ⟨0x4801, 1, 0x01, 1, 1, 16, 36, 0, 0xC0, 0, 0, 0, none, 0, "EVENT_LOG"⟩,
  ⟨0x4802, 1, 0x01, 1, 1, 5, 8, 0, 0xC0, 1, 0, 0, none, 0, "BANKS_FENCED"⟩,
  ⟨0x4802, 1, 0x02, 1, 1, 3, 2, 0, 0xC0, 1, 0xFFFF, 0, none, 0, "SPARE_MAP"⟩]

/-- Entries of R467. -/
def rowsR467 : List Row := [
  ⟨0x1202, 1, 0x01, 1, 1, 2, 1, 0, 0xF0, 4, 0, 0, none, 0, "BANK_VOLTAGE"⟩,
  ⟨0x1202, 1, 0x02, 1, 1, 2, 1, 0, 0xC0, 4, 0, 0, none, 0, "BANK_FAULT"⟩,
  ⟨0x1202, 1, 0x03, 1, 1, 6, 4, 0, 0xF0, 0, 0, 0, none, 0, "DIE_TEMP"⟩,
  ⟨0x1202, 1, 0x04, 1, 1, 6, 4, 0, 0xC0, 5, 0, 0, none, 0, "DIE_TEMP_MAX"⟩,
  ⟨0x1202, 1, 0x05, 1, 1, 4, 4, 0, 0xC0, 0, 0, 0, none, 0, "CORE_POWER"⟩,
  ⟨0x1202, 1, 0x06, 1, 1, 1, 1, 0, 0xC0, 4, 0, 0, some 1, 0, "PWR_HOLD_NOW"⟩]

/-- The entries that Gelyth firmware defines from 0x6000 to 0x6FFF: which exist is the firmware's (R121; log 15). -/
opaque firmwareRowsOf : Nat → List Row
/-- Every one of them is RO, readable by roles O and A, and takes its value from the firmware (R121). -/
def rowsR121d (idx : Nat) : List Row := (firmwareRowsOf idx).map (fun (r : Row) => { r with idx := idx, count := 1, access := 0, rights := 0xC0, pers := 4 })

/-- The tables that hold the entries of an index, by index range (R103). -/
def rowsAt (idx : Nat) : List Row :=
  match idx / 256 with
  | 0x00 => rowsR121
  | 0x10 => rowsR122
  | 0x11 => rowsR40
  | 0x12 => rowsR444 ++ rowsR467
  | 0x14 => rowsR39
  | 0x16 => rowsR70
  | 0x18 => rowsR75
  | 0x19 => rowsR143
  | 0x1A => rowsR144
  | 0x20 => rowsR220 ++ rowsR288
  | 0x24 => rowsR248
  | 0x28 => rowsR306
  | 0x2C => rowsR332 ++ rowsR333
  | 0x30 => rowsR353
  | 0x31 => rowsR354
  | 0x32 => rowsR355
  | 0x33 => rowsR356
  | 0x38 => rowsR373
  | 0x40 => rowsR422
  | 0x44 => rowsR390
  | 0x48 => rowsR454
  | 0x50 => rowsR407
  | n => if 0x60 ≤ n ∧ n < 0x70 then rowsR121d idx else []

/-- The row covers this entry. -/
def Row.covers (r : Row) (idx sub : Nat) : Bool :=
  decide (r.idx ≤ idx) && decide (idx < r.idx + r.count) &&
    decide (r.sub ≤ sub) && (sub - r.sub) % r.stride == 0 && decide ((sub - r.sub) / r.stride < r.subs)

/-- The last subindex the row defines. -/
def Row.last (r : Row) : Nat := r.sub + (r.subs - 1) * r.stride

/-- The row of an entry other than subindex .00. -/
def rowOf (idx sub : Nat) : Option Row := (rowsAt idx).find? (fun r => r.covers idx sub)

/-- The index exists: some row covers it (R102, R103). -/
def indexExists (idx : Nat) : Bool :=
  (rowsAt idx).any (fun r => decide (r.idx ≤ idx) && decide (idx < r.idx + r.count))

/-- The highest subindex defined under an index: what subindex .00 holds (R102). -/
def highestSub (idx : Nat) : Nat :=
  ((rowsAt idx).filter (fun r => decide (r.idx ≤ idx) && decide (idx < r.idx + r.count))).foldl (fun m r => max m r.last) 0

/-- The least response a tamper source accepts, and its default (*Tamper sources*, R408). -/
def tamperMin : Nat → Nat
  | 0 | 1 | 2 | 3 => 6
  | 4 | 5 | 6 => 0
  | 7 | 8 => 3
  | 9 => 1
  | 10 => 3
  | 11 => 2
  | 12 | 13 => 3
  | 14 => 1
  | _ => 2

/-- The default response of a tamper source (R408). -/
def tamperDefault : Nat → Nat
  | 0 | 1 | 2 | 3 => 6
  | 4 | 5 | 6 => 0
  | 7 | 8 => 3
  | 9 => 2
  | 10 => 3
  | 11 => 6
  | 12 => 5
  | 13 => 3
  | 14 => 2
  | _ => 2

/-- The default PARAM of a tamper source (R408): -20 and 125 degrees for TEMP. -/
def tamperParam : Nat → Nat
  | 5 | 6 => 1
  | 9 => 0xEC7D
  | _ => 0

/-- The value an entry holds until something changes it: the Reset column, with the defaults that depend on the index
(R39, R106, R353, R356, R408). -/
def dflt (idx sub : Nat) : Nat :=
  if idx / 64 = 0x1440 / 64 ∧ sub = 1 then (idx - 0x1440) % 4
  else if 0x3000 ≤ idx ∧ idx < 0x3020 ∧ sub = 4 then (if 1 ≤ idx - 0x3000 ∧ idx - 0x3000 ≤ 8 then 200 else 100)
  else if idx = 0x3300 ∧ 2 ≤ sub ∧ sub ≤ 32 then 2 ^ (32 + (sub - 1))
  else if 0x4000 ≤ idx ∧ idx < 0x4010 ∧ sub = 1 then tamperDefault (idx - 0x4000)
  else if 0x4000 ≤ idx ∧ idx < 0x4010 ∧ sub = 2 then tamperParam (idx - 0x4000)
  else match rowOf idx sub with
    | some r => r.dflt
    | none => 0

/-- The key of an entry in the dictionary map. -/
def ekey (idx sub : Nat) : Nat := idx * 256 + sub

/-- The stored value of an entry: what was last written, or its default (R106). -/
def State.rd (s : State) (idx sub : Nat) : Nat := Map.getD s.dict (ekey idx sub) (dflt idx sub)

/-- Store an entry's value. The default is not listed, so equal dictionaries are equal data. -/
def State.wr (s : State) (idx sub v : Nat) : State :=
  { s with dict := Map.store s.dict (ekey idx sub) v (dflt idx sub) }

end Machine
end Sys2Proof
end

