-- ==== Sys2Proof/Machine/Ops.lean ====
section
/-! DEFINITION. Named operations over the state: reading parts with their defaults, free values, event entries, the event log,
frames and notices, job slots, and benchmarks. -/

namespace Sys2Proof
namespace Machine

/-- What a meaning answers. -/
abbrev Out := Host.Outcome State Fault Refusal

/-- The spec names no effect beyond this state. -/
def done (s : State) : Out := .next s

/-- Do `t` where the command's condition holds; an event whose condition does not hold changes nothing (log 8). -/
def when (c : Bool) (s : State) (t : State) : Out := if c then .next t else .next s

/-- The part has started and its root-derived domains run (R416, R427). -/
def State.runs (s : State) : Bool := s.phase == .up && !s.clk.gated

/-! ### Parts with defaults -/

/-- A port never touched since reset. -/
def portInit : Port := ⟨false, 0, 0, 0, none, 0, 0, [], []⟩
/-- A tenant with nothing charged. -/
def tenantInit : Tenant := ⟨none, noWork, noWork, noWork, noWork, false, [], 0, 0⟩
/-- An idle engine of the pool. -/
def engineInit : Engine := ⟨none, .pool, false, false, false, [], [], 0⟩
/-- A cluster with its whole scratch pool of 176 blocks free (R213). -/
def clusterInit : Cluster := ⟨176, none, true, 0, []⟩
/-- A source before its warm-up. -/
def sourceInit : Source := ⟨false, [], none, 0⟩
/-- An uninstantiated DRBG. -/
def drbgInit : Drbg := ⟨0, 0, 0, 0, 0, 0, 0⟩
/-- A flash channel nothing has discovered. -/
def flashInit : Flash := ⟨false, false, false, 256, [], none, 0, 0, [], 25, false, 0, none, false⟩
/-- A link never made. -/
def linkInit : Link := ⟨0, 0, [], [], 0, 0, [], 0, 0, [], [], 0, 0, 0, 0, 0, 0, ⟨0, 0, 0⟩, 0⟩
/-- No master selected on the port, and the announce interval of the default profiles, 2 s, in FAB cycles (log 99). -/
def ptpInit : PtpPort := ⟨none, 0, 0, 0, false, 0, 0, 2500000000, none, none⟩

def State.port (s : State) (p : Nat) : Port := Map.getD s.ports p portInit
def State.setPort (s : State) (p : Nat) (v : Port) : State := { s with ports := Map.put s.ports p v }
def State.ten (s : State) (t : Nat) : Tenant := Map.getD s.tenants t tenantInit
def State.setTen (s : State) (t : Nat) (v : Tenant) : State := { s with tenants := Map.put s.tenants t v }
def State.engine (s : State) (u : Nat) : Engine := Map.getD s.units u engineInit
def State.setEngine (s : State) (u : Nat) (v : Engine) : State := { s with units := Map.put s.units u v }
def State.cluster (s : State) (c : Nat) : Cluster := Map.getD s.clus c clusterInit
def State.setCluster (s : State) (c : Nat) (v : Cluster) : State := { s with clus := Map.put s.clus c v }
def State.drbg (s : State) (d : Nat) : Drbg := Map.getD s.ent.drbgs d drbgInit
/-- A DRBG changes; the time at which it leaves SERVING is kept (R301). -/
def State.setDrbg (s : State) (d : Nat) (v : Drbg) : State :=
  { s with ent := { s.ent with drbgs := Map.put s.ent.drbgs d (if (s.drbg d).state = 1 ∧ v.state ≠ 1 then { v with heldAt := s.clk.fab } else v) } }
def State.source (s : State) (n : Nat) : Source := Map.getD s.ent.src n sourceInit
def State.setSource (s : State) (n : Nat) (v : Source) : State :=
  { s with ent := { s.ent with src := Map.put s.ent.src n v } }
def State.chanFlash (s : State) (n : Nat) : Flash := Map.getD s.flash n flashInit
def State.setFlash (s : State) (n : Nat) (v : Flash) : State := { s with flash := Map.put s.flash n v }
def State.link (s : State) (i : Nat) : Link := Map.getD s.grp.links i linkInit
def State.setLink (s : State) (i : Nat) (v : Link) : State :=
  { s with grp := { s.grp with links := Map.put s.grp.links i v } }
def State.ptpPort (s : State) (p : Nat) : PtpPort := Map.getD s.ptp.ports p ptpInit
def State.setPtpPort (s : State) (p : Nat) (v : PtpPort) : State :=
  { s with ptp := { s.ptp with ports := Map.put s.ptp.ports p v } }

/-! ### Work -/

end Machine

def Work.add (a b : Work) : Work := ⟨a.le + b.le, a.hc + b.hc, a.be + b.be, a.aead + b.aead⟩
def Work.sub (a b : Work) : Work := ⟨a.le - b.le, a.hc - b.hc, a.be - b.be, a.aead - b.aead⟩
def Work.min (a b : Work) : Work := ⟨Nat.min a.le b.le, Nat.min a.hc b.hc, Nat.min a.be b.be, Nat.min a.aead b.aead⟩
def Work.max (a b : Work) : Work := ⟨Nat.max a.le b.le, Nat.max a.hc b.hc, Nat.max a.be b.be, Nat.max a.aead b.aead⟩
def Work.get (w : Work) : EngClass → Nat
  | .le => w.le
  | .hc => w.hc
  | .be => w.be
  | .aead => w.aead

namespace Machine

/-- The four classes in their order (R128). -/
def classes : List EngClass := [.le, .hc, .be, .aead]

/-! ### Free values and uninterpreted primitives -/

/-- The next free value (log 6). -/
def State.draw (s : State) : Nat := Config.free s.free
/-- The state after one free value has been drawn. -/
def State.drawn (s : State) : State := { s with free := s.free + 1 }
/-- `n` free octets from the next free value. -/
def State.drawBytes (s : State) (n : Nat) : Bytes := beBytes n (s.draw % 2 ^ (8 * n))
/-- A primitive's output, fitted to the `n` octets the spec gives it (log 5). -/
def prim (n : Nat) (p : Prim) (args : List Bytes) : Bytes := fit n (Config.prim p args)
/-- A 384-bit digest as a number. -/
def sha3 (b : Bytes) : Nat := beNat (prim 48 .sha3_384 [b])

/-! ### Datum -/

/-- TIME80 of a datum in ns: whole seconds in octets 0-5, nanoseconds in octets 6-9 (R35). -/
def time80 (ns : Nat) : Nat := (ns / 1000000000) % 2 ^ 48 * 2 ^ 32 + ns % 1000000000
/-- The datum in ns that a TIME80 names. -/
def ofTime80 (v : Nat) : Nat := v / 2 ^ 32 * 1000000000 + v % 2 ^ 32
/-- Datum quality: 0 FREE, 1 HOLDOVER, 2 LOCKED (entry 0x1100.02). -/
def State.quality (s : State) : Nat := s.rd 0x1100 2
/-- FAB cycles in one millisecond (R423). -/
def msFab : Nat := 1250000

/-! ### Counters and event entries -/

/-- Add `n` to a U64 statistic. -/
def State.inc (s : State) (idx sub n : Nat) : State := s.wr idx sub ((s.rd idx sub + n) % 2 ^ 64)

/-- The flags of `a` together with those of `b`, eight bits. -/
def orFlags (a b : Nat) : Nat := (BitVec.ofNat 8 a ||| BitVec.ofNat 8 b).toNat

/-- An EVENT32 after one occurrence: the count plus one modulo 2^24, and the flags set (R116). -/
def eventAdd (v flags : Nat) : Nat := (v / 256 + 1) % 2 ^ 24 * 256 + orFlags (v % 256) flags

/-- Octets of an EVENT32 clear request whose flags `flags` an occurrence has set again since its comparison (R117). -/
def DWrite.keepSet (w : DWrite) (idx sub flags : Nat) : DWrite :=
  if w.idx = idx ∧ w.sub = sub ∧ w.typ = 15 then
    { w with val := beBytes 4 (beNat w.val / 256 * 256 + (BitVec.ofNat 8 (beNat w.val) &&& ~~~(BitVec.ofNat 8 flags)).toNat) }
  else w
/-- A journalled clear leaves set what an occurrence sets after the comparison (R117). -/
def Dtx.keepSet (d : Dtx) (idx sub flags : Nat) : Dtx :=
  match d.journal with
  | some g => { d with journal := some { g with writes := g.writes.map (fun w => w.keepSet idx sub flags) } }
  | none => d

/-- One occurrence of an event entry (R116). -/
def State.event (s : State) (idx sub flags : Nat) : State :=
  { s.wr idx sub (eventAdd (s.rd idx sub) flags) with dtx := s.dtx.keepSet idx sub flags }

/-- An EVENT32 after a clear with mask `m`: the count stays, the masked flags go (R117). -/
def eventClear (v m : Nat) : Nat := v / 256 * 256 + (BitVec.ofNat 8 v &&& ~~~(BitVec.ofNat 8 m)).toNat

/-! ### Life cycle and identity -/

/-- Segment `i` of the fuse word (R392). -/
def segOf (w i : Nat) : Nat := w / 2 ^ (16 * i) % 65536
/-- Segment `i` is programmed. -/
def segSet (w i : Nat) : Bool := segOf w i == 0xFFFF
/-- A series of `n` segments from `b` has a gap (R393). -/
def seriesGap (w b n : Nat) : Bool :=
  (List.range (n - 1)).any (fun i => !segSet w (b + i) && segSet w (b + i + 1))
/-- How many segments of a series are programmed. -/
def seriesCount (w b n : Nat) : Nat := ((List.range n).filter (fun i => segSet w (b + i))).length

/-- The life-cycle state that the fuse word decodes to (R391, R393). -/
def decodeWord (w : Nat) : Nat :=
  if (List.range 27).any (fun i => segOf w i != 0 && segOf w i != 0xFFFF) then 6
  else if seriesGap w 0 8 || seriesGap w 8 8 || seriesGap w 17 4 || seriesGap w 21 3 then 6
  else if segSet w 25 then 6
  else if segSet w 24 then 5
  else if segSet w 16 then
    (if seriesCount w 17 4 = seriesCount w 21 3 + 1 then 4
     else if seriesCount w 17 4 = seriesCount w 21 3 then 3 else 6)
  else if seriesCount w 0 8 = 0 ∧ seriesCount w 8 8 = 0 then 0
  else if seriesCount w 0 8 = seriesCount w 8 8 + 1 then 1
  else if seriesCount w 0 8 = seriesCount w 8 8 then 2
  else 6

/-- The life-cycle state (entry 0x1010.01). -/
def State.lifecycle (s : State) : Nat := decodeWord s.lc.fuses
/-- BLANK, TEST_OPEN and RETURNED have debug always open; elsewhere a Fjoix response opens it (R391, R403). -/
def State.debug (s : State) : Bool :=
  s.lifecycle == 0 || s.lifecycle == 1 || s.lifecycle == 5 || s.lc.debugOpen
/-- The life-cycle class of derivations (R308). -/
def lcClass (st : Nat) : Nat := if st ≤ 2 then 0 else if st ≤ 4 then 1 else 2

/-- derive(root, label, L) (R308), with the test root in force while debug is open (R309); in TERMINAL nothing is derived. -/
def State.deriveBytes (s : State) (label : Bytes) (n : Nat) : Bytes :=
  if s.lifecycle = 6 then [] else
  let root := if s.keys.testRoot then prim 32 .sha3_256 [ascii "NM72 TEST ROOT"] else beBytes 32 s.lc.dur
  prim n .kmac256 [root, label ++ [BitVec.ofNat 8 (lcClass s.lifecycle), if s.keys.testRoot then 1 else 0],
    ascii "NM72 DERIVE"]

/-- A derivation under an ASCII label. -/
def State.derive (s : State) (label : String) (n : Nat) : Bytes := s.deriveBytes (ascii label) n
/-- The order of the P-384 group (FIPS 186-5, SP 800-186). -/
def p384Order : Nat := 0xFFFFFFFFFFFFFFFFFFFFFFFFFFFFFFFFFFFFFFFFFFFFFFFFC7634D81F4372DDF581A0DB248B0A77AECEC196ACCC52973
/-- The private scalar of the ID-SIG companion (*Derivations*, R309). -/
def State.companion (s : State) : Bytes := beBytes 48 (beNat (s.derive "ID-SIG-P384" 56) % (p384Order - 1) + 1)
/-- The ID-SIG public key (R309, R310). -/
def State.idSigPk (s : State) : Bytes := prim 2592 .mlDsaKeygen [[3], s.derive "ID-SIG" 32]
/-- The device identity digest in force (R310; entry 0x1000.01). -/
def State.identity (s : State) : Nat := sha3 s.idSigPk
/-- A signature by an identity key over a message with a context string (R310). -/
def State.idSign (s : State) (label : String) (ctx : String) (msg : Bytes) : Bytes :=
  prim 4627 .mlDsaSign [[3], s.derive label 32, ascii ctx, msg]

/-! ### The event log -/

/-- Append a row to the event log; the oldest of 4,096 is overwritten and flagged LOG_OVERWRITTEN (R453). -/
def State.logRow (s : State) (kind unitType cluster unit tenant status record : Nat) : State :=
  let e : LogEntry := ⟨s.flt.seq + 1, s.clk.datum, kind, unitType, cluster, unit, tenant, status, record⟩
  let t := { s with flt := { s.flt with
    seq := s.flt.seq + 1
    log := (if s.flt.log.length < 4096 then s.flt.log else s.flt.log.drop 1) ++ [e] } }
  if s.flt.log.length < 4096 then t
  else { t.wr 0x4800 1 (s.rd 0x4800 1 / 256 * 256 + orFlags (s.rd 0x4800 1 % 256) 64) with dtx := s.dtx.keepSet 0x4800 1 64 }

/-! ### Benchmarks -/

/-- The 128 octets of a benchmark record (R357). -/
def Bench.octets (b : Bench) : Bytes :=
  beBytes 8 b.seq ++ beBytes 8 b.epoch ++ beBytes 10 (time80 b.datum) ++ beBytes 1 b.quality ++ beBytes 1 b.kind ++
    beBytes 1 b.verdict ++ beBytes 1 b.channel ++ beBytes 1 b.region ++ beBytes 1 b.flags ++ beBytes 48 b.digest ++
    beBytes 48 b.prev

/-- The hash that the next record carries as prev (R357). -/
def Bench.hash (b : Bench) : Nat := sha3 b.octets

/-- The record that the traverse's head is: the last archived (R366, entry 0x3800.01). -/
def State.headBench (s : State) : Option Bench := s.trav.archive.getLast?
/-- The seq of the head, 0 where nothing is archived. -/
def State.headSeq (s : State) : Nat := match s.headBench with | some b => b.seq | none => 0
/-- The hash of the head. -/
def State.headDigest (s : State) : Nat := match s.headBench with | some b => b.hash | none => 0
/-- The seq of the last archived CHECKPOINT (entry 0x3800.04). -/
def State.lastCheckpoint (s : State) : Nat := match (s.trav.archive.filter (fun b => b.kind == 0x0C)).getLast? with | some b => b.seq | none => 0

/-- Slots the ring holds that wait for the archive (entry 0x3800.09). -/
def State.pendingSlots (s : State) : Nat := s.trav.ring.foldl (fun n b => n + (1 + b.sigSlots - b.archived)) 0

/-- Slots that a record takes with its signatures. -/
def Bench.slots (b : Bench) : Nat := 1 + b.sigSlots
/-- A record whose slots beyond the archived ones are lost (R366, R447). -/
def Bench.cutShort (b : Bench) : Bench := { b with sigSlots := b.archived - 1, signed := true }
/-- The oldest archived records of the ring are overwritten until `n` more slots fit (R365). -/
def trimRing (n : Nat) : List Bench → List Bench
  | [] => []
  | b :: r =>
    if ((b :: r).map Bench.slots).sum + n ≤ 16384 then b :: r
    else if b.archived = b.slots then trimRing n r else b :: r
/-- `n` more slots would not fit: so many of the ring's 16,384 wait for the archive (R367). -/
def State.ringFull (s : State) (n : Nat) : Bool := decide (16384 < s.pendingSlots + n)

/-- Reserve work that still stands: the signing has not ended, the port's link is up, the channel is at its gate (R27, R130, R347). -/
def State.standing (s : State) : ReserveItem → Bool
  | .checkpoint => s.trav.signing
  | .announce p => (s.port p).announce.isSome
  | .gate n => s.rd (0x3000 + n) 2 == 1
/-- Reserve work becomes ready, behind what became ready before it (R130). -/
def State.enqueueReserve (s : State) (i : ReserveItem) : State :=
  let w := s.rwork.filter s.standing
  { s with rwork := if w.contains i then w else w ++ [i] }
/-- Reserve work ends. -/
def State.dropReserve (s : State) (i : ReserveItem) : State := { s with rwork := s.rwork.filter (fun x => x != i) }
/-- Append a record to the ring: its sequence, epoch, datum and quality are read now (R357, R359). A CHECKPOINT is counted, and its
signing is reserve work (R16, R130, R362); the record that leaves no slot free flags RING_FULL (R367). -/
def State.append (s : State) (b : Bench) : State :=
  let b := { b with seq := s.trav.nextSeq, epoch := s.trav.epoch, datum := s.clk.datum, quality := s.quality, prev := s.trav.headHash,
                    flags := orFlags b.flags (if s.debug then 32 else 0) }
  let isCkpt := b.kind == 0x0C
  let t := { s with trav := { s.trav with
    ring := trimRing b.slots s.trav.ring ++ [b]
    nextSeq := s.trav.nextSeq + 1
    headHash := b.hash
    epochRecords := s.trav.epochRecords + b.slots
    signing := s.trav.signing || isCkpt
    epochHasCheckpoint := s.trav.epochHasCheckpoint || isCkpt
    demand := if isCkpt && bitAt b.region 2 then s.trav.demand.map (fun (d : JobRef × Option Nat) => (d.1, some (d.2.getD b.seq))) else s.trav.demand } }
  let t := if isCkpt then (t.enqueueReserve .checkpoint).event 0x3800 0xA 1 else t
  if t.ringFull 1 then t.event 0x3800 0xA 4 else t

/-- Records that waited for room are appended in the order in which they arose; a CHECKPOINT behind one that is being signed is held (R359, R362, R367). -/
def State.drainPending (s : State) : Nat → State
  | 0 => s
  | n + 1 =>
    match s.trav.pending with
    | [] => s
    | b :: rest =>
      if s.ringFull b.slots then s
      else
        let t := { s with trav := { s.trav with pending := rest } }
        if b.kind = 0x0C ∧ s.trav.signing then { t with trav := { t.trav with held := orFlags t.trav.held b.region } }.drainPending n
        else (t.append b).drainPending n

/-- Make a benchmark: it is appended, or waits behind a full ring in the order in which it arose (R359, R367). -/
def State.bench (s : State) (kind verdict channel region flags digest sigSlots : Nat) : State :=
  let b : Bench := { seq := 0, epoch := 0, datum := 0, quality := 0, kind, verdict, channel, region, flags, digest, prev := 0,
                     sigSlots, sigs := [], signed := sigSlots == 0, archived := 0, slot := 0 }
  if s.trav.pending = [] ∧ !s.ringFull b.slots then s.append b
  else { s with trav := { s.trav with pending := s.trav.pending ++ [b] } }

/-- Signature slots of a CHECKPOINT: 37 for ML-DSA-87, 233 for SLH-DSA, 1 for ECDSA (R364). -/
def cosignSlots (c : Nat) : Nat := 37 + (if c % 2 = 1 then 233 else 0) + (if c / 2 % 2 = 1 then 1 else 0)

/-- The reserve has a BE in service (R130). -/
def State.reserveBe (s : State) : Bool :=
  (List.range 16).any (fun n =>
    let e := Map.getD s.units (768 + n) engineInit
    e.holder == .reserve && !e.fenced && !e.ownerFence && !e.selfTest && !e.latched.contains 3)
/-- The co-signatures that will be made: COSIGN, with ECDSA only where the reserve has a BE (R363). -/
def State.cosign (s : State) : Nat :=
  (if bitAt (s.rd 0x3800 6) 0 then 1 else 0) + (if bitAt (s.rd 0x3800 6) 1 && s.reserveBe then 2 else 0)

/-- A CHECKPOINT trigger with reason bits (R362): made now, or held while one is being signed. -/
def State.checkpoint (s : State) (reasons : Nat) : State :=
  if s.trav.signing then { s with trav := { s.trav with held := orFlags s.trav.held reasons } }
  else s.bench 0x0C 2 0xFF reasons (1 + s.cosign * 8) s.identity (cosignSlots s.cosign)

/-- Append a record, then the CHECKPOINT that SEGMENT_LIMIT asks for at 1,200 slots of an epoch without one (R362). -/
def State.record (s : State) (kind verdict channel region flags digest : Nat) : State :=
  let t := s.bench kind verdict channel region flags digest 0
  if !t.trav.epochHasCheckpoint && t.trav.pending == [] && decide (1200 ≤ t.trav.epochRecords) then t.checkpoint 16 else t

/-! ### Channels and frames -/

/-- A channel's handle (R77). -/
def handleOf (slot : Nat) (c : Channel) : Nat := c.tenant * 2 ^ 26 + c.gen * 2 ^ 16 + slot

/-- The handle of the channel that a message came in on (R77). -/
def State.handleFor (s : State) (r : JobRef) : Nat :=
  match Map.find s.chans r.chan with
  | some c => handleOf r.chan c
  | none => 0

/-- The link of a port is up (entry 0x140p.10). -/
def State.linkUp (s : State) (p : Nat) : Bool :=
  s.rd (0x1400 + p) 0x10 == 1 || s.rd (0x1400 + p) 0x10 == 2

/-- The port that carries a tenant's frames, with the port whose addresses they bear (R31, R32): none while neither can. -/
def State.egress (s : State) (t : Nat) : Option (Nat × Nat) :=
  let p := s.rd (0x1440 + t) 1
  match (s.ten t).moved with
  | some q => if s.linkUp q then some (q, p) else if s.linkUp p then some (p, p) else none
  | none => if s.linkUp p then some (p, p) else none

/-- The largest segment a port and encapsulation send (*Segment size when sending*, R53). -/
def segmentSize (maxFrame encap : Nat) : Nat :=
  if 9082 ≤ maxFrame then 8960 else if encap = 1 then 1392 else 1408

/-- The 40 octets of an Opfel header (R42). -/
def headerOctets (kind flags tenant queue handle seq opcode status detail length segIdx segCount cookie key credits : Nat) :
    Bytes :=
  beBytes 1 (2 * 16 + kind) ++ beBytes 1 flags ++ beBytes 1 tenant ++ beBytes 1 queue ++ beBytes 4 handle ++ beBytes 8 seq ++
    beBytes 2 opcode ++ beBytes 1 status ++ beBytes 1 detail ++ beBytes 4 length ++ beBytes 2 segIdx ++ beBytes 2 segCount ++
    beBytes 4 cookie ++ beBytes 4 key ++ beBytes 2 (credits % 65536) ++ beBytes 2 0

/-- The 12-octet nonce of a segment (R46): role 0 host, 1 PEER, 2 COMPLETION, 3 EVENT or CREDIT. -/
def nonceOctets (handle role segIdx seq : Nat) : Bytes :=
  beBytes 4 handle ++ beBytes 8 (role * 2 ^ 62 + segIdx % 2 ^ 15 * 2 ^ 47 + seq % 2 ^ 47)

/-! ### Protection (R45) and what a transmitter is handed (R22-R24, R26) -/

/-- Two octet strings, bit by bit. -/
def xorBytes (a b : Bytes) : Bytes := List.zipWith (fun x y => x ^^^ y) a b
/-- The AES-256 counter stream and the tag of AES-GCM (SP 800-38D; log 5). -/
def gcmStream (key nonce : Bytes) (n : Nat) : Bytes := prim n .aesCtr [key, nonce]
def gcmTag (key nonce aad cipher : Bytes) : Bytes := prim 16 .gcmTag [key, nonce, aad, cipher]
/-- AES-256-GCM of a payload with the header as associated data: the ciphertext and its 128-bit tag. -/
def gcmSeal (key nonce aad plain : Bytes) : Bytes :=
  let cipher := xorBytes plain (gcmStream key nonce plain.length)
  cipher ++ gcmTag key nonce aad cipher
/-- What a protected body opens to: none where its tag does not check. -/
def gcmOpen (key nonce aad body : Bytes) : Option Bytes :=
  let n := body.length - 16
  if 16 ≤ body.length ∧ body.drop n = gcmTag key nonce aad (body.take n) then some (xorBytes (body.take n) (gcmStream key nonce n)) else none

/-- The MAC address of a port (R26). -/
def State.mac (s : State) (p : Nat) : Nat :=
  let d := beBytes 48 s.identity
  beNat ([(0x0A : Byte)] ++ d.take 4 ++ [(d.getD 4 0 &&& 0xFC) ||| BitVec.ofNat 8 p])
/-- The IPv6 link-local address of a port: fe80::/64 and the modified EUI-64 identifier. -/
def State.linkLocal (s : State) (p : Nat) : Nat :=
  let m := beBytes 6 (s.mac p)
  0xFE80 * 2 ^ 112 + beNat ([(m.getD 0 0) ^^^ 2] ++ slice m 1 2 ++ [0xFF, 0xFE] ++ slice m 3 3)
/-- The IPv6 addresses a port uses: one found in use elsewhere is not used (R25). -/
def State.ipv6s (s : State) (p : Nat) : List Nat :=
  ([s.linkLocal p] ++ (if s.rd (0x1400 + p) 9 = 0 then [] else [s.rd (0x1400 + p) 9])).filter (fun a => !((s.port p).badAddrs.contains a))
/-- The IPv6 address that a port sends from: its global address, but the link-local one to a link-local destination or where it has no other (log 99); of the
ones it uses, and the unspecified address where it uses none (R25). -/
def State.ipv6From (s : State) (p dst : Nat) : Nat :=
  let g := s.rd (0x1400 + p) 9
  let want := if dst / 2 ^ 118 = 0xFE80 / 2 ^ 6 ∨ g = 0 then s.linkLocal p else g
  if (s.ipv6s p).contains want then want else (s.ipv6s p).headD 0

/-- The checksum of the Internet protocols over 16-bit words: the complement of their ones' complement sum, 0xFFFF in place of 0. -/
def inetSum (b : Bytes) : Nat :=
  let words := (List.range (ceilDiv b.length 2)).map (fun i => beNat (fit 2 (slice b (2 * i) 2)))
  65535 - words.sum % 65535
/-- The UDP checksum over the pseudo-header of an address family (width `w` octets), the UDP header and the datagram. -/
def udpSum (w src dst sport dport : Nat) (data : Bytes) : Nat :=
  inetSum (beBytes w src ++ beBytes w dst ++ beBytes 4 (data.length + 8) ++ beBytes 4 17 ++ beBytes 2 sport ++ beBytes 2 dport ++
    beBytes 2 (data.length + 8) ++ beBytes 2 0 ++ data)

/-- The port that a frame leaves on, and the port whose addresses it carries. -/
def TxFrame.ports : TxFrame → Nat × Nat
  | .opfel p q _ _ _ _ => (p, q)
  | .announce p _ _ _ | .echoReply p _ _ | .neighbourProbe p _ | .ptpDelayRequest p _ _ _ => (p, p)
  | .gratuitousArp p q _ | .unsolicitedNa p q _ | .arpReply p q _ | .neighbourAdvert p q _ => (p, q)
/-- The UDP port and multicast addresses of PTP's event messages (IEEE 1588 Annexes C and D; log 99): a request of a peer's delay stays on the link. -/
def ptpEventPort : Nat := 319
def ptpGroup (transport : Nat) (peerToPeer : Bool) : Nat :=
  if transport = 0 then (if peerToPeer then 0xE000006B else 0xE0000181)
  else if peerToPeer then 0xFF02 * 2 ^ 112 + 0x6B else 0xFF0E * 2 ^ 112 + 0x181
/-- The octets of an Opfel frame after its header; of other frames, their message. -/
def TxFrame.body : TxFrame → Bytes
  | .opfel _ _ _ header payload prot => match prot with
    | some (k, n) => gcmSeal k n header payload
    | none => payload
  | .announce _ _ _ payload => payload
  | .echoReply _ _ payload => payload
  | .ptpDelayRequest p h peerToPeer stamp => fit (if peerToPeer then 54 else 44) (Config.ptpRequest [p, h.domain, if peerToPeer then 1 else 0, stamp.natAbs])
  | _ => []
/-- A frame as its port's transmitter is handed it: tagged with the VLAN ID and priority where the ID is non-zero (R22), from the addresses of the port it
stands for (R24), with DF over IPv4 and a computed UDP checksum (R23). -/
def State.wire (s : State) (f : TxFrame) : Wire :=
  let tag := s.rd (0x1400 + f.ports.1) 5
  let q := f.ports.2
  let v4 := s.rd (0x1400 + q) 7
  let up := s.rd (0x1400 + q) 0xA
  let udp := fun (encap dst sport dport : Nat) (header : Bytes) =>
    if encap = 0 then some (sport, dport, udpSum 4 v4 dst sport dport (header ++ f.body))
    else if encap = 1 then some (sport, dport, udpSum 16 (s.ipv6From q dst) dst sport dport (header ++ f.body)) else none
  let from_ := fun (encap dst : Nat) => if encap = 0 then v4 else if encap = 1 then s.ipv6From q dst else 0
  let base : Wire := { frame := f, vlan := if tag % 4096 = 0 then none else some tag, srcMac := s.mac q, srcIp := 0, df := false, udp := none, body := f.body }
  match f with
  | .opfel _ _ peer header _ _ =>
    { base with srcIp := from_ peer.encap peer.addr, df := peer.encap == 0, udp := udp peer.encap peer.addr up peer.udp header }
  | .announce _ e header _ =>
    let dst := if e = 0 then 0xFFFFFFFF else 0xFF02 * 2 ^ 112 + 1
    { base with srcIp := from_ e dst, df := e == 0, udp := udp e dst up up header }
  | .echoReply _ v6 _ => { base with srcIp := if v6 then s.ipv6From q 0 else v4, df := !v6 }
  | .ptpDelayRequest _ h peerToPeer _ =>
    let dst := ptpGroup h.transport peerToPeer
    { base with srcIp := from_ h.transport dst, df := h.transport == 0, udp := udp h.transport dst ptpEventPort ptpEventPort [] }
  | .unsolicitedNa _ _ a | .neighbourAdvert _ _ a => { base with srcIp := a }
  | _ => base
/-- Hand frames to the ports' transmitters, in order. -/
def State.transmit (s : State) (fs : List TxFrame) : State := { s with tx := s.tx ++ fs.map s.wire }

/-- Blocks a payload of `n` octets takes: none up to 64 octets, else ⌈n / 1,152⌉ (R58, R62). -/
def blocksOf (n : Nat) : Nat := if n ≤ 64 then 0 else ceilDiv n 1152

/-- Blocks that a tenant's loaded Classic McEliece public keys take (R166, R327). -/
def State.keyBlocks (s : State) (t : Nat) : Nat :=
  (((s.keys.vol ++ s.keys.recs).map (fun p => p.2)).filter (fun (k : KeyRec) =>
    (k.typ == 0x1A || k.typ == 0x1B) && k.handle / 2 ^ 24 % 64 == t && (k.handle / 2 ^ 30 == 0 || s.keys.loaded.contains k.handle))).foldl
      (fun n k => n + ceilDiv k.pub.length 1152) 0

/-- Blocks a tenant holds, ingress and egress (entry 0x1640+t.02; R60, R62, R93). -/
def State.poolInUse (s : State) (t : Nat) : Nat :=
  (s.jobs.filter (fun j => j.tenant == t)).foldl (fun n j => n + j.credits + j.reserve) 0 + s.keyBlocks t

/-- A channel's balance: the grant less what it has spent (R59). -/
def Channel.balance (c : Channel) : Nat := c.grant - c.spent

/-- A tenant's uncommitted blocks U (R61). -/
def State.uncommitted (s : State) (t : Nat) : Nat :=
  s.rd (0x1640 + t) 1 - (s.poolInUse t +
    (s.chans.filter (fun p => p.2.tenant == t)).foldl (fun n p => n + p.2.balance) 0)

/-- The channel with its cumulative grant raised before a frame is built (R59, R61). -/
def State.raiseGrant (s : State) (c : Channel) : Channel :=
  let target := Nat.min 32767 (s.rd 0x1600 4)
  { c with grant := c.grant + Nat.min (s.uncommitted c.tenant) (target - c.balance) }

/-- Flags octet of a segment sent on a channel (R42). -/
def segFlags (ordered : Bool) (i n : Nat) : Nat :=
  (if ordered then 128 else 0) + (if i + 1 = n then 64 else 0) + (if i = 0 then 32 else 0)

/-- The frames of a message sent under a handle: header, and payload protected under the key and the nonce of the handle (R45, R46, R52, R53). -/
def framesOf (size port src handle : Nat) (c : Channel) (kind role tenant queue seq opcode status detail cookie key : Nat)
    (payload : Bytes) : List TxFrame :=
  let n := Nat.max 1 (ceilDiv payload.length size)
  (List.range n).map (fun i =>
    .opfel port src c.peer
      (headerOctets kind (segFlags c.ordered i n) tenant queue handle seq opcode status detail payload.length i n cookie key c.grant)
      (slice payload (i * size) size) (some (c.txKey, nonceOctets handle role i seq)))

/-- Send a message on a channel from the NM72, with the tenant and handle that its header carries: raise the grant (R61), split it (R53), hand it to the
port, the primary where no port can carry it (R24, R31; log 101). -/
def State.sendAs (s : State) (slot : Nat) (c : Channel) (tenant handle kind role queue seq opcode status detail cookie key : Nat)
    (payload : Bytes) : State :=
  let c' := s.raiseGrant c
  let ps := (s.egress c.tenant).getD (s.rd (0x1440 + c.tenant) 1, s.rd (0x1440 + c.tenant) 1)
  let size := segmentSize (s.rd (0x1400 + ps.1) 4) c.peer.encap
  { s with chans := Map.put s.chans slot c' }.transmit
    (framesOf size ps.1 ps.2 handle c' kind role tenant queue seq opcode status detail cookie key payload)
/-- Send a completion that no slot keeps, once a port can carry it (R30, R50). -/
def State.sendRefusal (s : State) (slot : Nat) (c : Channel) (tenant handle queue seq opcode status detail cookie key : Nat) (result : Bytes) : State :=
  if (s.egress c.tenant).isSome then s.sendAs slot c tenant handle 0x2 2 queue seq opcode status detail cookie key result
  else { s with
    chans := Map.put s.chans slot c
    waits := s.waits ++ [.refusal slot tenant handle queue seq opcode status detail cookie key result] }
/-- Send a message under the channel's own tenant and handle. -/
def State.sendOn (s : State) (slot : Nat) (c : Channel) (kind role queue seq opcode status detail cookie key : Nat) (payload : Bytes) : State :=
  s.sendAs slot c c.tenant (handleOf slot c) kind role queue seq opcode status detail cookie key payload

/-- Send an EVENT or CREDIT on a channel with the channel's next notice sequence (R52); no frame goes out on a channel under an abortive close (R89). -/
def State.notice (s : State) (slot kind opcode status detail : Nat) (payload : Bytes) : State :=
  match Map.find s.chans slot with
  | none => s
  | some c => if c.state = .closing then s else s.sendOn slot { c with notice := c.notice + 1 } kind 3 0 c.notice opcode status detail 0 0 payload

/-- EVENT frames of class bit `cls` to every subscribed channel, of tenant `t` or of every tenant (R91, R305, R382). -/
def State.notify (s : State) (cls : Nat) (t : Option Nat) (what : Nat) : State :=
  (s.chans.filter (fun p => bitAt p.2.mask cls && (t == none || t == some p.2.tenant) && p.2.state != .pending)).foldl
    (fun u p => u.notice p.1 0x7 0 0 0 (Config.eventBody cls what)) s

/-- The body of a CREDIT frame (R63). -/
def creditBody (c : Channel) : Bytes := beBytes 8 c.high ++ beBytes 8 (if c.ordered then c.released else 0)

/-- Answer a message that asked for it with a CREDIT frame (R63). -/
def State.sendCredit (s : State) (slot : Nat) : State :=
  match Map.find s.chans slot with
  | none => s
  | some c => s.notice slot 0x6 0 0 0 (creditBody c)

/-! ### Engines (06 *Engines*) -/

/-- Unit numbers: LE e is e; Keccak core, SHA-2 core, BE and AES-GCM core n follow in blocks of 256. -/
def keccakUnit (n : Nat) : Nat := 256 + n
def shaUnit (n : Nat) : Nat := 512 + n
def beUnit (n : Nat) : Nat := 768 + n
def aesUnit (n : Nat) : Nat := 1024 + n

/-- The class of a unit. -/
def unitClass (u : Nat) : EngClass := if u < 256 then .le else if u < 768 then .hc else if u < 1024 then .be else .aead

/-- A unit that may take work now: it runs nothing, and is neither fenced nor under self-test. -/
def Engine.idle (e : Engine) : Bool := e.job == none && !e.fenced && !e.ownerFence && !e.selfTest

/-! ### Job slots -/

/-- The job slot of a message. -/
def State.findJob (s : State) (r : JobRef) : Option Job := s.jobs.find? (fun j => j.chan == r.chan && j.seq == r.seq)

/-- Apply `f` to the job slot of a message. -/
def State.mapJob (s : State) (r : JobRef) (f : Job → Job) : State :=
  { s with jobs := s.jobs.map (fun j => if j.chan == r.chan && j.seq == r.seq then f j else j) }

/-- Free the job slot of a message, and its blocks (R60, R93). -/
def State.dropJob (s : State) (r : JobRef) : State :=
  { s with jobs := s.jobs.filter (fun j => !(j.chan == r.chan && j.seq == r.seq)) }

/-- A job's reference. -/
def Job.ref (j : Job) : JobRef := ⟨j.chan, j.seq⟩

/-- A job has not been given a status yet. -/
def Job.live (j : Job) : Bool := j.state == .queued || j.state == .running || j.state == .suspended || j.state == .reassembling

/-- A job slot once its job has ended: input blocks freed, the result kept, no engine held (R13, R60, R93). Its reservation stands until the last segment
of its COMPLETION has been handed to the port (R62). -/
def Job.ended (j : Job) (status detail : Nat) (result : Bytes) (resKey : Nat) : Job :=
  { j with state := .done, status, detail, result, resKey, segs := [], credits := 0, units := [],
           reserve := Nat.max j.reserve (blocksOf result.length), waitSince := none }

/-- Statuses that are sent at once and not cached (R50). -/
def uncached (st : Nat) : Bool := [0x12, 0x13, 0x14, 0x40, 0x41].contains st

/-- Forget a message: its slot and credits go, and its sequence is unseen again (R50, R56). -/
def State.unsee (s : State) (r : JobRef) : State :=
  { s.dropJob r with chans := Map.update s.chans r.chan (fun c => { c with seen := c.seen.filter (fun q => q != r.seq) }) }

/-- A fence that was latched on an engine takes effect once the engine has left its job (R220, R238, R449). -/
def Engine.leave (e : Engine) : Engine :=
  { e with job := none, latched := [], fenced := e.fenced || e.ownerFence || e.latched.contains 3 }

/-- Free the engines a job runs on, and a BE job's save area of two blocks (R137, R469). -/
def State.freeEngines (s : State) (j : Job) : State :=
  j.units.foldl (fun u e =>
    let u := if (u.engine e).job = some j.ref then u.setEngine e (u.engine e).leave else u
    if 768 ≤ e ∧ e < 1024 then u.setCluster (e - 768) { u.cluster (e - 768) with freeBlocks := (u.cluster (e - 768)).freeBlocks + 2 }
    else u) s

/-! ### Dictionary records -/

/-- A failure record (R111). -/
def failRecord (epoch position value : Nat) : Bytes := beBytes 8 epoch ++ beBytes 1 position ++ beBytes 3 0 ++ beBytes 4 value
/-- The result of a completion: a DICT message that ends with another status than OK carries a failure record (R111). -/
def State.resultOf (s : State) (kind status : Nat) (result : Bytes) : Bytes :=
  if kind = 0x4 ∧ status ≠ 0 ∧ result = [] then failRecord s.dtx.epoch 0xFF 0 else result
/-- The values that an epoch leaves are held: those of the last 256 epochs (R115). -/
def State.holdEpoch (s : State) : State :=
  { s with dtx := { s.dtx with snaps := (Map.put s.dtx.snaps s.dtx.epoch s.dict).filter (fun p => decide (s.dtx.epoch < p.1 + 256)) } }

/-- Send a message's uncached status at once; its sequence is unseen again (R50). On a channel under an abortive close nothing is sent (R89). -/
def State.sendNow (s : State) (j : Job) (status detail : Nat) : State :=
  match Map.find s.chans j.chan with
  | none => s.dropJob j.ref
  | some c =>
    (if c.state = .closing then s
     else s.sendRefusal j.chan c j.hdrTenant j.handle j.queue j.seq j.opcode status detail j.cookie j.key (s.resultOf j.kind status [])).unsee j.ref

/-- The flag in FAULT_EVENTS of a status (R75). -/
def faultFlag : Nat → Nat
  | 0x51 => 1
  | 0x52 => 2
  | 0x53 => 4
  | 0x54 => 8
  | 0x55 => 16
  | _ => 0
/-- A fault status: MEM, WINDOW, TAINT, ENGINE_FAULT or RETRY_EXHAUSTED (R75). -/
def isFaultStatus (st : Nat) : Bool := decide (0x51 ≤ st) && decide (st ≤ 0x55)
/-- A JOB or STREAM message that ends with a fault status counts in its tenant's FAULT_EVENTS, and an EVENT is sent (R75, R91). -/
def State.countFault (s : State) (j : Job) (status : Nat) : State :=
  if isFaultStatus status && (j.kind == 0x1 || j.kind == 0x3) then (s.event (0x1800 + j.tenant) 0x32 (faultFlag status)).notify 2 (some j.tenant) status
  else s

/-- A job ends with a status and result; its COMPLETION is released later (R13, R14), but an uncached status is sent at once (R50). A job keeps the status of
whatever ended it first (R101). `resKey` is the handle its completion carries where that is not the message's own (R52). -/
def State.finish (s : State) (r : JobRef) (status detail : Nat) (result : Bytes) (resKey : Option Nat) : State :=
  match s.findJob r with
  | none => s
  | some j =>
    if !j.live then s
    else if uncached status then (s.freeEngines j).sendNow j status detail
    else
      ((s.freeEngines j).mapJob r (fun j => j.ended status detail (s.resultOf j.kind status result) (resKey.getD j.key))).countFault j status

end Machine
end Sys2Proof
end

