-- ==== Sys2Proof/Machine/Operands.lean ====
section
/-! DEFINITION. Operands of a lattice engine: registers, groups, lanes, window addresses, and the ends of its jobs
(09 R196-R219). -/

namespace Sys2Proof
namespace Machine

/-! ### Lanes -/

/-- Lane `i` of width `g` (R1). -/
def laneAt (g v i : Nat) : Nat := v / 2 ^ (g * i) % 2 ^ g
/-- The first `n` lanes of width `g`, lane 0 first. -/
def lanesOf (g n v : Nat) : List Nat := (List.range n).map (laneAt g v)
/-- Lanes put together again. -/
def ofLanes (g : Nat) (ls : List Nat) : Nat := ls.foldr (fun x acc => x % 2 ^ g + 2 ^ g * acc) 0
/-- The lane width of a grain code: 18, 36 or 72 (R224). -/
def grainOf (g : Nat) : Nat := if g = 0 then 18 else if g = 1 then 36 else 72
/-- The registers of a span code: 1, 2 or 4 (R197, R224). -/
def spanOf (sp : Nat) : Nat := if sp = 0 then 1 else if sp = 1 then 2 else 4
/-- Lanes of width `g` in `span` registers of 1,152 bits. -/
def laneCount (g span : Nat) : Nat := 1152 * span / g
/-- The low `n` bits of `i` in reverse order. -/
def bitRev : Nat → Nat → Nat
  | 0, _ => 0
  | n + 1, i => i % 2 * 2 ^ n + bitRev n (i / 2)
/-- `b ^ e mod q` by repeated squaring over `n` bits of `e`. -/
def powMod (q : Nat) : Nat → Nat → Nat → Nat
  | 0, _, _ => 1 % q
  | n + 1, b, e => (if e % 2 = 1 then b else 1) * powMod q n (b * b % q) (e / 2) % q
/-- The number of set bits among the low `n` bits. -/
def popCount : Nat → Nat → Nat
  | 0, _ => 0
  | n + 1, v => v % 2 + popCount n (v / 2)

/-! ### Registers -/

/-- An LE that runs no job: every register at its reset value (R196, R198). -/
def leRegsInit : LeRegs := ⟨[], [], [], [], 0, false, [], []⟩
/-- An LE that runs no job. -/
def leInit : Le where
  regs := leRegsInit
  job := none
  usesKey := false
  scratchAt := 0
  scratch := 0
  highWord := 0
  input := []
  output := []
  outMax := 0
  w4 := none
  keyState := 0
  maskBuf := 0
  maskCount := 0
  maskStopped := false
  maskTenant := none
  streams := []
  waited := 0
  billed := 0
  waiting := none
  matrixAsked := none
  unread := false
/-- Lattice engine `e` = 4 · cluster + index. -/
def State.le (s : State) (e : Nat) : Le := Map.getD s.les e leInit
def State.setLe (s : State) (e : Nat) (l : Le) : State := { s with les := Map.put s.les e l }
/-- The cluster of a lattice engine. -/
def clusterOf (e : Nat) : Nat := e / 4

/-- Preset descriptors Q0 to Q3 (*Preset modulus descriptors*, R202). -/
def presetQ : Nat → Descriptor
  | 0 => ⟨3329, 0x30CFF, 0x4EBE, 26, 0, true⟩
  | 1 => ⟨8380417, 0xFFC7FDFFF, 0x802007, 46, 1, true⟩
  | _ => ⟨0, 0, 0, 0, 0, false⟩

def Le.vreg (l : Le) (i : Nat) : VReg := Map.getD l.regs.v i ⟨0, 0⟩
def Le.areg (l : Le) (i : Nat) : Tagged := Map.getD l.regs.a i ⟨0, false⟩
def Le.mreg (l : Le) (i : Nat) : Tagged := Map.getD l.regs.m i ⟨2 ^ 256 - 1, false⟩
def Le.desc (l : Le) (i : Nat) : Descriptor := Map.getD l.regs.q i (presetQ i)
def Le.setV (l : Le) (i : Nat) (v : VReg) : Le := { l with regs := { l.regs with v := Map.put l.regs.v i v } }
/-- An A register holds 36 bits (R196). -/
def Le.setA (l : Le) (i v : Nat) (sec : Bool) : Le :=
  { l with regs := { l.regs with a := Map.put l.regs.a i ⟨v % 2 ^ 36, sec⟩ } }
def Le.setM (l : Le) (i v : Nat) (sec : Bool) : Le := { l with regs := { l.regs with m := Map.put l.regs.m i ⟨v, sec⟩ } }
def Le.setQ (l : Le) (i : Nat) (d : Descriptor) : Le := { l with regs := { l.regs with q := Map.put l.regs.q i d } }

/-- The first register of the span-`n` group that a field names: its low bits are treated as zero (R197). -/
def groupBase (f : BitVec 5) (n : Nat) : Nat := f.toNat / n * n
/-- The A register that a field names: its low four bits (R223). -/
def aIdx (f : BitVec 5) : Nat := f.toNat % 16

/-- A group's value, register 0 lowest (R1, R197). -/
def Le.groupVal (l : Le) (b n : Nat) : Nat := ofLanes 1152 ((List.range n).map (fun i => (l.vreg (b + i)).val))
/-- A group holds a secret word (R204). -/
def Le.groupSec (l : Le) (b n : Nat) : Bool := (List.range n).any (fun i => (l.vreg (b + i)).tags != 0)
/-- All sixteen words of a register tagged alike. -/
def tagsOf (sec : Bool) : Nat := if sec then 0xFFFF else 0
/-- Write a group, every word of it with one tag (R204). -/
def Le.setGroup (l : Le) (b n v : Nat) (sec : Bool) : Le :=
  (List.range n).foldl (fun l i => l.setV (b + i) ⟨laneAt 1152 v i, tagsOf sec⟩) l
/-- Word `k` of a register (R1). -/
def VReg.word (r : VReg) (k : Nat) : Tagged := ⟨laneAt 72 r.val k, bitAt r.tags k⟩
/-- A register with word `k` replaced. -/
def VReg.setWord (r : VReg) (k : Nat) (t : Tagged) : VReg :=
  ⟨ofLanes 72 ((lanesOf 72 16 r.val).set k t.val), setBit r.tags k t.sec⟩
/-- Sixteen tagged words as a register (R1, R204). -/
def regOfWords (ws : List Tagged) : VReg :=
  ⟨ofLanes 72 (ws.map (fun t => t.val)), ws.zipIdx.foldl (fun m p => m + (if p.1.sec then 2 ^ p.2 else 0)) 0⟩

/-- The descriptor in two words, the first in bits [71:0] (*Field map: modulus descriptor*; log 22). -/
def descOfBits (v : Nat) : Descriptor :=
  ⟨bitsOf v 143 108, bitsOf v 107 72, bitsOf v 71 36, bitsOf v 35 30, bitsOf v 29 29, bitAt v 28⟩
/-- A descriptor's 144 bits (*Field map: modulus descriptor*). -/
def bitsOfDesc (d : Descriptor) : Nat :=
  d.q * 2 ^ 108 + d.qnegInv * 2 ^ 72 + d.barrettM * 2 ^ 36 + d.barrettS * 2 ^ 30 + d.grain * 2 ^ 29 + (if d.rom then 2 ^ 28 else 0)

/-! ### The stored form of a word (R1, R7) -/

/-- The nine parity bits of a word's 72 data bits: bit `p` makes the number of ones in data bits [8p+7:8p] and itself even (R7). -/
def parityBits (v : Nat) : Nat := ((List.range 9).map (fun p => popCount 8 (laneAt 8 v p) % 2 * 2 ^ p)).sum
/-- A word as a memory or a register file stores it: 72 data bits, nine parity bits, and the secrecy tag twice (R1, R7). -/
def Tagged.stored (t : Tagged) : Nat := t.val % 2 ^ 72 + parityBits t.val * 2 ^ 72 + (if t.sec then 3 * 2 ^ 81 else 0)
/-- What a read of a stored word finds: the word, or a parity-class fault where a parity bit does not match its octet or the two tags disagree; nothing
is corrected (R7; log 96). -/
def readStored (w : Nat) : Option Tagged :=
  if laneAt 9 (w / 2 ^ 72) 0 = parityBits (w % 2 ^ 72) ∧ bitAt w 81 = bitAt w 82 then some ⟨w % 2 ^ 72, bitAt w 81⟩ else none

/-! ### Ends of jobs on an LE -/

/-- A core of the function's kind, `i` of its cluster's eight (R267, 01 *Contents of one cluster*). -/
def coreUnit (fn c i : Nat) : Nat := if 5 ≤ fn ∧ fn ≤ 7 then shaUnit (8 * c + i) else keccakUnit (8 * c + i)
/-- Free the hash cores of the streams an LE holds, a fence latched on one taking effect (R211, R220). -/
def State.closeStreams (s : State) (l : Le) : State :=
  l.streams.foldl (fun u p => u.setEngine p.2.unit (u.engine p.2.unit).leave) s

/-- The key of a cluster-memory word. -/
def cmKey (c a : Nat) : Nat := c * 2 ^ 18 + a
/-- A cluster-memory word; never written words are zero and public (R441). -/
def State.cword (s : State) (c a : Nat) : Tagged := Map.getD s.cmem (cmKey c a) ⟨0, false⟩
/-- The stored form of word `a` of a cluster's memory: State holds the word, and these bits follow from it (log 96). -/
def State.storedWord (s : State) (c a : Nat) : Nat := (s.cword c a).stored
/-- Write a cluster-memory word of 72 bits with its tag. -/
def State.setCword (s : State) (c a : Nat) (t : Tagged) : State :=
  { s with cmem := Map.store s.cmem (cmKey c a) ⟨t.val % 2 ^ 72, t.sec⟩ ⟨0, false⟩ }

/-- The canonical form of cluster memory: keys strictly rising, and no word listed that an unlisted one reads as. -/
def Memory.wf (m : Map Tagged) : Bool := Map.wf m && m.all (fun p => p.2 != ⟨0, false⟩)

/-- Clear the secret words of a scratch allocation (R217). -/
def State.clearScratch (s : State) (c at_ n : Nat) : State :=
  { s with cmem := s.cmem.filter (fun p => !(p.2.sec && decide (cmKey c at_ ≤ p.1) && decide (p.1 < cmKey c (at_ + n)))) }

/-- What is cleared when a job leaves an LE, and its scratch blocks freed (R211, R215, R217). The mask generator keeps its
count of registers delivered (R209). -/
def State.clearLe (s : State) (e : Nat) : State :=
  let l := s.le e
  let c := clusterOf e
  let t := (s.closeStreams l).clearScratch c l.scratchAt l.scratch
  let t := t.setCluster c { t.cluster c with freeBlocks := (t.cluster c).freeBlocks + l.scratch / 512 }
  t.setLe e { leInit with maskCount := l.maskCount, maskTenant := l.maskTenant, maskStopped := l.maskStopped }

/-- A job ends on its LE with a status (R207, R212, R228, R238); the cluster's ENGINE_EVENTS counts a fault with `clFlag` (R220). -/
def State.leEnd (s : State) (e status detail clFlag : Nat) (result : Bytes) : State :=
  match (s.le e).job with
  | none => s
  | some r =>
    let t := s.clearLe e
    let t := t.setEngine e (t.engine e).leave
    let t := if (s.findJob r).isSome ∧ isFaultStatus status then t.event (0x2000 + clusterOf e) 7 clFlag else t
    t.finish r status detail result none

/-! ### Window addresses -/

/-- The words of window W5: 4,096 where the kernel takes a key (R215). -/
def Le.keyWords (l : Le) : Nat := if l.usesKey then 4096 else 0

/-- The limit of a window in words; none where the window is absent (R211, R212, R215, R218). -/
def Le.limit (l : Le) : Nat → Option Nat
  | 0 => some (if l.input.length ≤ 64 then 8 else 128 * blocksOf l.input.length)
  | 1 => some (l.scratch - l.keyWords - 640)
  | 2 => some 16384
  | 3 => some (if l.outMax ≤ 64 then 8 else 128 * blocksOf l.outMax)
  | 4 => l.w4.map (fun m => m.size)
  | 5 => if l.usesKey then some 4096 else none
  | _ => none

/-- The cause of refusing an access of `n` words at a window address, 0 where it may be made (R212, R266): 1 window not
allowed, 2 spare field non-zero, 3 offset beyond the limit. -/
def Le.windowCause (l : Le) (allowed : List Nat) (addr n : Nat) : Nat :=
  let w := bitsOf addr 35 33
  if !allowed.contains w then 1
  else match l.limit w with
    | none => 1
    | some lim => if bitsOf addr 32 24 ≠ 0 then 2 else if lim < bitsOf addr 23 0 + n then 3 else 0

/-- The cluster-memory address behind a window offset of W1, W2 or W5 (R213, R215). -/
def Le.phys (l : Le) (w off : Nat) : Nat :=
  if w = 2 then off else if w = 5 then l.scratchAt + l.scratch - l.keyWords + off else l.scratchAt + 640 + off

/-- Word `k` of the job's input: octets 9k to 9k + 8, the first in bits [7:0] (R212, R258; log 19). -/
def inputWord (b : Bytes) (k : Nat) : Nat := (slice b (9 * k) 9).foldr (fun x acc => x.toNat + 256 * acc) 0

/-- Coefficient `n` of an expanded matrix, below the scheme's modulus: those of its first polynomial first (R9; log 107). -/
def matrixCoeff (fam set : Nat) (rho : Bytes) (n : Nat) : Nat :=
  beNat (prim 3 .expandMatrix [beBytes 1 fam, beBytes 1 set, rho, beBytes 2 n]) % (if fam = 1 then 3329 else 8380417)
/-- Word `i` of a mapped entry: what the kernel wrote, or the coefficients of the seed, in four 18-bit lanes for ML-KEM and in two 36-bit lanes for ML-DSA,
lane 0 lowest (R9, R218). -/
def W4Map.word (m : W4Map) (i : Nat) : Nat :=
  match m.seed with
  | some (fam, set, rho) =>
    if fam = 1 then ((List.range 4).map (fun k => matrixCoeff fam set rho (4 * i + k) * 2 ^ (18 * k))).sum
    else ((List.range 2).map (fun k => matrixCoeff fam set rho (2 * i + k) * 2 ^ (36 * k))).sum
  | none => Map.getD m.words i 0

/-- Read the word at a window address that may be read (R212). -/
def State.readWindow (s : State) (e : Nat) (addr : Nat) : Tagged :=
  let l := s.le e
  let off := bitsOf addr 23 0
  match bitsOf addr 35 33 with
  | 0 => ⟨inputWord l.input off, false⟩
  | 4 => ⟨match l.w4 with | some m => m.word off | none => 0, false⟩
  | w => s.cword (clusterOf e) (l.phys w off)

/-- Write the word at a window address that may be written: W1, W4 while expanding, or W3 by a release (R212, R218). -/
def State.writeWindow (s : State) (e : Nat) (addr : Nat) (t : Tagged) : State :=
  let l := s.le e
  let off := bitsOf addr 23 0
  match bitsOf addr 35 33 with
  | 3 => s.setLe e { l with output := Map.store l.output off (t.val % 2 ^ 72) 0 }
  | 4 => s.setLe e { l with w4 := l.w4.map (fun m => { m with words := Map.store m.words off (t.val % 2 ^ 72) 0 }) }
  | w => (s.setLe e { l with highWord := Nat.max l.highWord (640 + off) }).setCword (clusterOf e) (l.phys w off) t

end Machine
end Sys2Proof
end

