-- ==== Sys2Proof/Machine/Flags.lean ====
section
/-! DEFINITION. Lane results: modular reduction, transforms, packing, rounding and sampling (09 R199-R203, 11 R251-R262). -/

namespace Sys2Proof
namespace Machine

/-! ### Reduction (R203) -/

/-- Conditional subtraction for x < 2q (R203). -/
def condSub (q x : Nat) : Nat := if q ≤ x then x - q else x
/-- Montgomery reduction of t < q · 2^g: t · 2^-g mod q in [0, 2q) (R203). -/
def mont (g : Nat) (d : Descriptor) (t : Nat) : Nat := (t + t * d.qnegInv % 2 ^ g * d.q) / 2 ^ g
/-- A wrong result within the lane, outside the bounds of R203 (log 9). -/
def wrong (op g : Nat) (args : List Nat) : Nat := Config.unstated op args % 2 ^ g

/-- ADDM of one lane (R251). -/
def addm (g : Nat) (d : Descriptor) (a b : Nat) : Nat :=
  if a < d.q ∧ b < d.q then condSub d.q (a + b) else wrong 1 g [d.q, a, b]
/-- SUBM of one lane (R251). -/
def subm (g : Nat) (d : Descriptor) (a b : Nat) : Nat :=
  if a < d.q ∧ b < d.q then condSub d.q (a + d.q - b) else wrong 2 g [d.q, a, b]
/-- REDB of one lane (R203, R251). -/
def redb (g : Nat) (d : Descriptor) (a : Nat) : Nat := if a < 2 ^ d.barrettS then a % d.q else wrong 3 g [d.q, a]
/-- REDW of one wide lane (R251). -/
def redw (g : Nat) (d : Descriptor) (t : Nat) : Nat := if t < d.q * 2 ^ g then mont g d t else wrong 4 g [d.q, t]
/-- MULM of one lane (R251). -/
def mulm (g : Nat) (d : Descriptor) (a b : Nat) : Nat := if a * b < d.q * 2 ^ g then mont g d (a * b) else wrong 5 g [d.q, a, b]
/-- Carry-less product over the low `n` bits of `b` (R200, R251). -/
def clmul : Nat → Nat → Nat → Nat
  | 0, _, _ => 0
  | n + 1, a, b => Nat.xor (if b % 2 = 1 then a else 0) (clmul n (2 * a) (b / 2))

/-! ### Twiddles and butterflies (R253, R254) -/

/-- The ROM's twiddle ζ_k of a grain code (R254). BitRev7 of a k of eight bits is not stated (log 9). -/
def romZeta (g k : Nat) : Nat :=
  if g = 0 then
    (if k < 128 then powMod 3329 7 17 (bitRev 7 k) * 2 ^ 18 % 3329 else Config.unstated 6 [k] % 3329)
  else powMod 8380417 8 1753 (bitRev 8 k) * 2 ^ 36 % 8380417

/-- The twiddle index of a Cooley–Tukey block, blocks numbered from `b0` (R254). -/
def ctIndex (d b0 b : Nat) : Nat := 128 / d + (b0 + b)
/-- The twiddle index of a Gentleman–Sande block (R254). -/
def gsIndex (d b0 b : Nat) : Nat := 256 / d - 1 - (b0 + b)
/-- The factor K of a GS pass (R253). -/
def gsK (g : Nat) : Nat := if g = 0 then 8 else 4096

/-- A CT pair: the sum and the difference (R253). -/
def ctPair (g : Nat) (d : Descriptor) (z a b : Nat) : Nat × Nat :=
  if a + 2 * d.q < 2 ^ g then (a + mulm g d z b, a + 2 * d.q - mulm g d z b)
  else (wrong 7 g [d.q, z, a, b], wrong 8 g [d.q, z, a, b])
/-- A GS pair (R253): `k` is K for the grain. -/
def gsPair (g k : Nat) (d : Descriptor) (z a b : Nat) : Nat × Nat :=
  if a < k * d.q ∧ b < k * d.q then ((a + b) % 2 ^ g, mulm g d z (b + k * d.q - a))
  else (wrong 9 g [d.q, z, a, b], wrong 10 g [d.q, z, a, b])

/-- A butterfly pass over `n` lanes at distance `d`: lane `j` with its partner, `zeta` of the pair's block and first lane. -/
def butterfly (pair : Nat → Nat → Nat → Nat × Nat) (zeta : Nat → Nat → Nat) (d n : Nat) (ls : List Nat) : List Nat :=
  (List.range n).map (fun i =>
    let b := i / (2 * d)
    if i % (2 * d) < d then (pair (zeta b i) (ls.getD i 0) (ls.getD (i + d) 0)).1
    else (pair (zeta b (i - d)) (ls.getD (i - d) 0) (ls.getD i 0)).2)

/-- γi of BASEMUL (R251). -/
def gammaOf (i : Nat) : Nat := powMod 3329 8 17 (2 * bitRev 7 i + 1) * 2 ^ 18 % 3329
/-- One pair of BASEMUL (R251). -/
def basemulPair (d : Descriptor) (i a0 a1 b0 b1 : Nat) : Nat × Nat :=
  if a0 < 2 * d.q ∧ a1 < 2 * d.q ∧ b0 < 2 * d.q ∧ b1 < 2 * d.q then
    ((mulm 18 d a0 b0 + mulm 18 d (mulm 18 d a1 b1) (gammaOf i)) % 2 ^ 18, (mulm 18 d a0 b1 + mulm 18 d a1 b0) % 2 ^ 18)
  else (wrong 11 18 [i, a0, a1, b0, b1], wrong 12 18 [i, a0, a1, b0, b1])
/-- BASEMUL over 128 pairs (R251). -/
def basemul (d : Descriptor) (a b : List Nat) : List Nat :=
  (List.range 256).map (fun i =>
    let k := i / 2
    let p := basemulPair d k (a.getD (2 * k) 0) (a.getD (2 * k + 1) 0) (b.getD (2 * k) 0) (b.getD (2 * k + 1) 0)
    if i % 2 = 0 then p.1 else p.2)

/-! ### Lane masks (R196) -/

/-- The bit of a mask register that lane `i` uses at a grain code (R196). -/
def maskBit (g i : Nat) : Nat := i * (if g = 0 then 1 else if g = 1 then 2 else 4)
/-- Lane `i` is enabled. -/
def enabled (g m i : Nat) : Bool := bitAt m (maskBit g i)
/-- MFROMV: the bit of each lane is its most significant bit, every other bit 0 (R255). -/
def maskFrom (g : Nat) (ls : List Nat) : Nat :=
  (ls.zipIdx).foldl (fun m p => m + (if 2 ^ (grainOf g - 1) ≤ p.1 then 2 ^ maskBit g p.2 else 0)) 0

/-! ### Permutations (R256) -/

/-- The pattern is defined at a grain code for N lanes (*Permutation patterns*). -/
def permDefined (g n p : Nat) : Bool :=
  p == 0 || p == 1 || p == 2 || (decide (3 ≤ p) && decide (p ≤ 10) && decide (2 ^ (p - 3) < n)) || (p == 11 && g == 0) ||
    (decide (0x10 ≤ p) && decide (p ≤ 0x17) && decide (2 ^ (p - 0x10 + 1) ≤ n)) ||
    (decide (0x18 ≤ p) && decide (p ≤ 0x1F) && decide (2 ^ (p - 0x18 + 1) ≤ n))

/-- The input lane that output lane `j` takes. -/
def permSource (n logn p j : Nat) : Nat :=
  if p = 0 then j
  else if p = 1 then bitRev logn j
  else if p = 2 then n - 1 - j
  else if p ≤ 10 then (j + n - 2 ^ (p - 3)) % n
  else if p = 11 then (j + n - 1) % n
  else if p < 0x18 then
    let b := 2 ^ (p - 0x10 + 1)
    j / b * b + (if j % b % 2 = 0 then j % b / 2 else j % b / 2 + b / 2)
  else
    let b := 2 ^ (p - 0x18 + 1)
    j / b * b + (if j % b < b / 2 then 2 * (j % b) else 2 * (j % b - b / 2) + 1)

/-- PERM over N lanes; pattern 0x0B negates the lane that wraps (R256). A wrapped lane at or above q is not stated. -/
def permLanes (q n logn p : Nat) (ls : List Nat) : List Nat :=
  (List.range n).map (fun j =>
    let a := ls.getD (permSource n logn p j) 0
    if p = 11 ∧ j = 0 then (if a = 0 then 0 else if a < q then q - a else wrong 13 18 [q, a]) else a)

/-! ### Octet streams (R258) -/

/-- The octets of a group, octet j in bits [8j+7:8j] (R258). -/
def octetAt (v j : Nat) : Nat := v / 2 ^ (8 * j) % 256
/-- `n` octets of a group from octet `o` as one number, octet `o` lowest. -/
def octetsNat (v o n : Nat) : Nat := v / 2 ^ (8 * o) % 2 ^ (8 * n)
/-- A group with `n` octets from octet `o` replaced (R258). -/
def setOctets (v o n x : Nat) : Nat := v - octetsNat v o n * 2 ^ (8 * o) + x % 2 ^ (8 * n) * 2 ^ (8 * o)
/-- Coefficients packed d bits each, least significant first (R258). -/
def packBits (d : Nat) (ls : List Nat) : Nat := ofLanes d ls

/-! ### Compression (R258) -/

/-- Round-half-up of a · 2^d / q modulo 2^d, for a < q (R258). -/
def compress (d a : Nat) : Nat := if a < 3329 then (2 * a * 2 ^ d + 3329) / (2 * 3329) % 2 ^ d else wrong 14 18 [d, a]
/-- Round-half-up of q · a / 2^d (R258). -/
def decompress (d a : Nat) : Nat := (2 * 3329 * a + 2 ^ d) / 2 ^ (d + 1) % 2 ^ 18

/-! ### FIPS 204 rounding (R258) -/

/-- The ML-DSA modulus. -/
def qDsa : Nat := 8380417
/-- The centred remainder's distance above r: `r mod± m` as a pair (negative, magnitude). -/
def centred (m r : Nat) : Bool × Nat := if r % m ≤ m / 2 then (false, r % m) else (true, m - r % m)
/-- A signed number modulo q (R258: low parts are given modulo q). -/
def modQ (p : Bool × Nat) : Nat := if p.1 ∧ p.2 ≠ 0 then qDsa - p.2 else p.2
/-- Power2Round with d = 13: (r1, r0 mod q). -/
def power2Round (r : Nat) : Nat × Nat :=
  let c := centred 8192 r
  ((if c.1 then r + c.2 else r - c.2) / 8192, modQ c)
/-- Decompose with 2γ2 = m: r1 and r0 as (negative, magnitude). -/
def decompose (m r : Nat) : Nat × Bool × Nat :=
  let c := centred m r
  let t := if c.1 then r + c.2 else r - c.2
  if t = qDsa - 1 then (0, (if c.1 then (true, c.2 + 1) else if c.2 = 0 then (true, 1) else (false, c.2 - 1))) else (t / m, c)
/-- A rounding operation works on lanes below q. -/
def inQ (op : Nat) (f : Nat → Nat) (a : Nat) : Nat := if a < qDsa then f a else wrong op 36 [a]
/-- MakeHint(z, r) (R258). -/
def makeHint (m z r : Nat) : Nat := if (decompose m r).1 = (decompose m ((r + z) % qDsa)).1 then 0 else 1
/-- UseHint(h, r) (R258). -/
def useHint (m h r : Nat) : Nat :=
  let p := decompose m r
  let k := (qDsa - 1) / m
  if h = 0 then p.1
  else if !p.2.1 && p.2.2 != 0 then (p.1 + 1) % k
  else (p.1 + k - 1) % k

/-! ### Sampling (R259, R260) -/

/-- One coefficient of SamplePolyCBD with parameter η from the octet stream `v` (R259). -/
def cbd (q eta v i : Nat) : Nat :=
  let x := popCount eta (v / 2 ^ (2 * eta * i) % 2 ^ eta)
  let y := popCount eta (v / 2 ^ (2 * eta * i + eta) % 2 ^ eta)
  (x + q - y) % q
/-- The lanes of a source that a mask selects, in order (R260). -/
def selected (g m : Nat) (ls : List Nat) : List Nat := (ls.zipIdx.filter (fun p => enabled g m p.2)).map (fun p => p.1)
/-- COMPACT: the selected lanes from lane `o` of the destination onwards (R260). -/
def compact (o : Nat) (sel dst : List Nat) : List Nat :=
  dst.zipIdx.map (fun p => if o ≤ p.2 ∧ p.2 < o + sel.length then sel.getD (p.2 - o) 0 else p.1)

end Machine
end Sys2Proof
end

