-- ==== Sys2Proof/Machine/KeyOps.lean ====
section
/-! DEFINITION. Key handles, the key tables and what zeroisation does to them (14 R312-R319, R327-R331). -/

namespace Sys2Proof
namespace Machine

/-- Fields of a key handle (R312). -/
def keyScope (h : Nat) : Nat := h / 2 ^ 30 % 4
def keyTenant (h : Nat) : Nat := h / 2 ^ 24 % 64
def keyGen (h : Nat) : Nat := h / 2 ^ 16 % 256
def keySlot (h : Nat) : Nat := h % 2 ^ 16
/-- A key handle (R312). -/
def keyHandle (scope tenant gen slot : Nat) : Nat := scope * 2 ^ 30 + tenant * 2 ^ 24 + gen * 2 ^ 16 + slot
/-- The generation after a slot has been freed: 1 to 255 (R312). -/
def nextGen (g : Nat) : Nat := if 255 ≤ g then 1 else g + 1

/-- Where a persistent handle's record and journal slot are kept. A group record that another member made may carry a number that a record of this member
has: the two are kept apart, and no record is made under a number in use on either side (R312; log 36). -/
def recKey (h : Nat) : Nat := if keyScope h = 2 then 65536 + keySlot h else keySlot h

/-- The generation a volatile slot is at. -/
def State.volGen (s : State) (i : Nat) : Nat := Map.getD s.keys.volGen i 1
/-- The generation a persistent slot, shared by scopes 1 to 3, is at (R312). -/
def State.persGen (s : State) (i : Nat) : Nat := Map.getD s.keys.pGen i 1
/-- Persistent slots are freed: their generations rise (R312). -/
def freedGens (pGen : Map Nat) (ks : List KeyRec) : Map Nat :=
  ks.foldl (fun m (k : KeyRec) => Map.put m (keySlot k.handle) (nextGen (keyGen k.handle))) pGen

/-- The domain of a persistent record (R320): a tenant's 0 to 63, the device 64, the group 65. -/
def domainOf (scope tenant : Nat) : Nat := if scope = 1 then tenant else if scope = 3 then 64 else 65

/-- Persistent records of a scope and tenant are known: debug closed, keys not lost, the domain not rolled back (R309, R326, R330). -/
def State.domainKnown (s : State) (scope tenant : Nat) : Bool :=
  !s.debug && (scope == 2 || (s.rd 0x1010 5 == 0 && !s.keys.rolled.contains (domainOf scope tenant)))

/-- The record in the slot that a handle names, whatever its generation. -/
def State.keyAt (s : State) (h : Nat) : Option KeyRec :=
  if keyScope h = 0 then Map.find s.keys.vol (keySlot h)
  else if s.domainKnown (keyScope h) (keyTenant h) then Map.find s.keys.recs (recKey h) else none

/-- A job's input, segment by segment in index order. -/
def Job.payload (j : Job) : Bytes := (j.segs.map (fun p => p.2)).flatten

/-- The key a handle names (R313). -/
def State.key (s : State) (h : Nat) : Option KeyRec :=
  match s.keyAt h with
  | some k => if k.handle = h then some k else none
  | none => none

/-- The record that a job uses: the one that stood at its classification (R11, R323). Where only attributes have changed since, the counts of the
record in force go on. -/
def State.keyFor (s : State) (j : Job) : Option KeyRec :=
  match s.keys.old.find? (fun o => o.2.handle == j.key && decide (j.order < o.1)) with
  | none => s.key j.key
  | some o => match s.key j.key with
    | none => some o.2
    | some k =>
      if k.digest = o.2.digest then
        some { k with classes := o.2.classes, ops := o.2.ops, notBefore := o.2.notBefore, notAfter := o.2.notAfter, useLimit := o.2.useLimit }
      else some o.2

/-- A stateful key whose indices this device counts by itself: not one of the group (R168, R377). -/
def KeyRec.counts (k : KeyRec) : Bool := k.typ == 0x1C && keyScope k.handle != 2
/-- Apply `f` to every record of one stateful key: as it is named now, as earlier jobs name it, and as a KUM under way will leave it. Its indices are one
sequence, whatever handle names it, so that none is given twice (R168, R171, R323). -/
def State.countAll (s : State) (digest : Nat) (f : KeyRec → KeyRec) : State :=
  let g := fun (k : KeyRec) => if k.counts && k.digest == digest then f k else k
  { s with keys := { s.keys with
      vol := Map.mapVals g s.keys.vol
      recs := Map.mapVals g s.keys.recs
      old := s.keys.old.map (fun o => (o.1, g o.2))
      commits := s.keys.commits.map (fun (c : KumCommit) => { c with key := g c.key }) } }
/-- The handle under which a record's reservations are made: its own, or that of the record that its key has become (R169, R323). -/
def State.countHandle (s : State) (k : KeyRec) : Nat :=
  if (s.key k.handle).any (fun c => c.digest == k.digest) || !k.counts then k.handle
  else match ((s.keys.recs ++ s.keys.vol).map (fun p => p.2)).find? (fun (c : KeyRec) => c.counts && c.digest == k.digest) with
    | some c => c.handle
    | none => k.handle

/-- Apply `f` to the counts of the record that a job uses: of a stateful key, to all of its records. -/
def State.bumpKey (s : State) (j : Job) (f : KeyRec → KeyRec) : State :=
  match (s.keyFor j).filter KeyRec.counts with
  | some k => s.countAll k.digest f
  | none =>
  let cur := match s.keys.old.find? (fun o => o.2.handle == j.key && decide (j.order < o.1)) with
    | none => s.key j.key
    | some o => match s.key j.key with
      | some k => if k.digest = o.2.digest then some k else none
      | none => none
  match cur with
  | some k =>
    if keyScope k.handle = 0 then { s with keys := { s.keys with vol := Map.put s.keys.vol (keySlot k.handle) (f k) } }
    else { s with keys := { s.keys with recs := Map.put s.keys.recs (recKey k.handle) (f k) } }
  | none => { s with keys := { s.keys with old := s.keys.old.map (fun o => if o.2.handle == j.key && decide (j.order < o.1) then (o.1, f o.2) else o) } }

/-- Keep a record for the jobs classified before now that name it, with its material where that stands in the region (R323, R328). -/
def State.retireKey (s : State) (k : KeyRec) : State :=
  if s.jobs.any (fun (j : Job) => j.live && j.key == k.handle) then
    { s with keys := { s.keys with
        old := s.keys.old ++ [(s.order, k)]
        oldHeld := if keyScope k.handle = 0 ∨ s.keys.loaded.contains k.handle then s.keys.oldHeld ++ [(s.order, k.handle)] else s.keys.oldHeld } }
  else s

/-- Zeroise the records kept for jobs that have all ended (R323). -/
def State.sweepKeys (s : State) : State :=
  let old := s.keys.old.filter (fun o => s.jobs.any (fun (j : Job) => j.live && j.key == o.2.handle && decide (j.order < o.1)))
  { s with keys := { s.keys with old := old, oldHeld := s.keys.oldHeld.filter (fun p => old.any (fun o => o.1 == p.1 && o.2.handle == p.2)) } }
/-- The material of the record that a job uses stands in the region: a volatile key's, a loaded record's, or one kept for earlier jobs (R323, R328). -/
def State.keyPresent (s : State) (k : KeyRec) : Bool :=
  keyScope k.handle == 0 || (s.keys.loaded.contains k.handle && (match s.key k.handle with | some c => c.digest == k.digest | none => false)) ||
    s.keys.old.any (fun o => s.keys.oldHeld.contains (o.1, o.2.handle) && o.2.handle == k.handle && o.2.digest == k.digest)

/-- A DESTROY of the handle waits or runs (R190). -/
def State.destroying (s : State) (h : Nat) : Bool := s.jobs.any (fun (j : Job) => j.live && j.kind == 0x1 && j.opcode == 0x1013 && j.key == h)

/-- What the members of a group may use in all: a stateful key's indices, and no more than its use limit (R172, R318, R377). -/
def KeyRec.cap (k : KeyRec) : Nat := if k.total = 0 then k.useLimit else if k.useLimit = 0 then k.total else Nat.min k.total k.useLimit
/-- The group limit that a reservation asks for above `g`: a batch of indices, or 64 uses (R169, R318, R377). -/
def KeyRec.reserveNext (k : KeyRec) (g : Nat) : Nat := Nat.min (g + (if k.total = 0 then 64 else k.batch)) k.cap
/-- A group key's next range begins where the current one is used up; a range of a stateful key's indices is one of as many uses (R377). -/
def KeyRec.nextRange (k : KeyRec) : KeyRec :=
  let at_ := if k.total = 0 then k.usesLimit ≤ k.uses else k.limit ≤ k.next
  match k.ranges with
  | (a, b) :: rest =>
    if at_ then (if k.total = 0 then { k with uses := a, usesLimit := b, ranges := rest } else { k with next := a, limit := b, usesLimit := k.uses + (b - a), ranges := rest }) else k
  | [] => k
/-- A key handle inside a payload of tenant `t`: the key, or its refusal with detail (R78, R313). -/
def State.payloadKey (s : State) (t h : Nat) : Except (Nat × Nat) KeyRec :=
  match s.keyAt h with
  | some k =>
    if keyTenant k.handle ≠ keyTenant h ∨ keyScope k.handle ≠ keyScope h ∨ keyTenant h ≠ t then .error (0x10, 2)
    else if k.handle ≠ h then .error (0x11, 0)
    else .ok k
  | none => .error (0x10, 2)

/-- Put a key back under its slot. -/
def State.setKey (s : State) (k : KeyRec) : State :=
  if keyScope k.handle = 0 then { s with keys := { s.keys with vol := Map.put s.keys.vol (keySlot k.handle) k } }
  else { s with keys := { s.keys with recs := Map.put s.keys.recs (recKey k.handle) k } }

/-- Zeroise one volatile key: its slot is freed and its generation rises (R312, R314). -/
def State.dropVolatile (s : State) (i : Nat) : State :=
  { s with keys := { s.keys with
      vol := Map.erase s.keys.vol i
      volGen := Map.put s.keys.volGen i (nextGen (s.volGen i)) } }

/-- Zeroise the volatile keys of one tenant, or of all (R314, R330). -/
def State.zeroVolatile (s : State) (t : Option Nat) : State :=
  (s.keys.vol.filter (fun p => t == none || t == some (keyTenant p.2.handle))).foldl (fun u p => u.dropVolatile p.1) s

/-- Volatile keys a tenant holds; a job that will make one holds its reservation (R329; entry 0x2C40+t.04). -/
def State.volatileInUse (s : State) (t : Nat) : Nat :=
  (s.keys.vol.filter (fun p => keyTenant p.2.handle == t)).length

end Machine
end Sys2Proof
end

