-- ==== Sys2Proof/Machine/Catalogue.lean ====
section
/-! DEFINITION. The opcodes that exist, their sizes, key rules, lengths, results and costs (07 R145-R174, 08 R175-R195, 12 R275, R285, 16 R369,
10 R243). -/

namespace Sys2Proof
namespace Machine

/-! ### Opcodes -/

def opFam (op : Nat) : Nat := op / 256
def opSet (op : Nat) : Nat := op / 16 % 16
def opOp (op : Nat) : Nat := op % 16

/-- Opcodes a JOB message may carry, owner kernels apart (R145, R175, R285, R369). -/
def jobExists (op : Nat) : Bool :=
  let st := opSet op
  let o := opOp op
  match opFam op with
  | 0x01 => decide (1 ≤ st ∧ st ≤ 3) && decide (o ≤ 3)
  | 0x02 => decide (1 ≤ st ∧ st ≤ 3) && decide (o ≤ 6)
  | 0x03 => decide (1 ≤ st ∧ st ≤ 12) && [0, 1, 2, 5, 6].contains o
  | 0x04 => decide (1 ≤ st ∧ st ≤ 2) && o == 2
  | 0x05 => decide (1 ≤ st ∧ st ≤ 3) && decide (o ≤ 2)
  | 0x06 => decide (1 ≤ st ∧ st ≤ 5) && decide (o ≤ 2)
  | 0x07 => decide (1 ≤ st ∧ st ≤ 4) && decide (o ≤ 2)
  | 0x08 =>
    if st = 1 ∨ st = 2 then [0, 1, 2, 3, 5, 6].contains o
    else if st = 3 then decide (o ≤ 2) else if st = 4 then o == 0 || o == 3 else false
  | 0x09 => decide (1 ≤ st ∧ st ≤ 3) && decide (o ≤ 6)
  | 0x0C => decide (1 ≤ st ∧ st ≤ 3) && (o == 1 || o == 2)
  | 0x0D =>
    if 1 ≤ st ∧ st ≤ 6 then decide (o ≤ 2) else if 7 ≤ st ∧ st ≤ 10 then o == 0
    else if st = 11 ∨ st = 12 then o == 1 || o == 2 else false
  | 0x0E => if 1 ≤ st ∧ st ≤ 3 then decide (o ≤ 2) else if 4 ≤ st ∧ st ≤ 6 then o == 1 else false
  | 0x0F => st == 1 && o == 0
  | 0x10 => st == 1 && decide (o ≤ 4)
  | 0x11 => if st = 1 then decide (o ≤ 5) else if st = 2 ∨ st = 3 then o == 0 else false
  | 0x20 => decide (1 ≤ st ∧ st ≤ 8) && o == 0
  | 0x30 => st == 1 && decide (o ≤ 2)
  | _ => false

/-- Opcodes a STREAM message may carry (R275). -/
def streamExists (op : Nat) : Bool := (opFam op == 0x0D || opFam op == 0x20) && jobExists op

/-- The bit of the family bitmap (R75). -/
def familyBit (op : Nat) : Nat :=
  if opFam op = 0x20 then 20 else if opFam op = 0x30 then 24 else if opFam op = 0x80 then 31 else opFam op

/-! ### Sizes -/

/-- A row of a size table by set, from 1. -/
def bySet (l : List Nat) (st : Nat) : Nat := l.getD (st - 1) 0
/-- n of an SLH-DSA set. -/
def slhN (st : Nat) : Nat := bySet [16, 16, 24, 24, 32, 32, 16, 16, 24, 24, 32, 32] st
/-- The RSA modulus length k (R180). -/
def rsaK (st : Nat) : Nat := bySet [256, 384, 512] st
/-- Digest lengths of the *Pre-hash functions* table (R158). -/
def hashLen (f : Nat) : Nat := bySet [32, 48, 64, 32, 48, 64, 32, 64] f

/-- The public-key length of a family and set; for a stateful key the longest of the set, its own following from its SP 800-208 type (log 23). -/
def pubLen (fam st : Nat) : Nat :=
  match fam with
  | 0x01 => bySet [800, 1184, 1568] st
  | 0x02 => bySet [1312, 1952, 2592] st
  | 0x03 => 2 * slhN st
  | 0x04 => bySet [897, 1793] st
  | 0x05 => bySet [2249, 4522, 7245] st
  | 0x06 => bySet [261120, 524160, 1044992, 1047319, 1357824] st
  | 0x07 => bySet [56, 60, 68, 68] st
  | 0x08 => bySet [65, 97, 32, 32] st
  | 0x09 => 4 + rsaK st
  | _ => 0
/-- The signature length of a family and set; for a stateful key the longest that the set signs (log 23). -/
def sigLen (fam st : Nat) : Nat :=
  match fam with
  | 0x02 => bySet [2420, 3309, 4627] st
  | 0x03 => bySet [7856, 17088, 16224, 35664, 29792, 49856, 7856, 17088, 16224, 35664, 29792, 49856] st
  | 0x07 => bySet [9164, 36828, 2820, 18469] st
  | 0x08 => bySet [64, 96, 64] st
  | 0x09 => rsaK st
  | _ => 0
/-- Ciphertext and shared-secret lengths of a KEM. -/
def ctLen (fam st : Nat) : Nat :=
  match fam with
  | 0x01 => bySet [768, 1088, 1568] st
  | 0x05 => bySet [4433, 8978, 14421] st
  | 0x06 => bySet [96, 156, 208, 194, 208] st
  | _ => 0
def ssLen (fam : Nat) : Nat := if fam = 0x05 then 64 else 32

/-- The secret and public key types of a family (*Key types*, R316). -/
def privType (fam : Nat) : Nat :=
  match fam with
  | 0x01 => 0x10
  | 0x02 => 0x12
  | 0x03 => 0x14
  | 0x05 => 0x18
  | 0x06 => 0x1A
  | 0x07 => 0x1C
  | 0x08 => 0x20
  | 0x09 => 0x22
  | _ => 0
def pubType (fam : Nat) : Nat := if fam = 0x04 then 0x17 else if privType fam = 0 then 0 else privType fam + 1
/-- The family of a key type. -/
def famOfType (t : Nat) : Nat :=
  match t with
  | 0x10 | 0x11 => 0x01
  | 0x12 | 0x13 => 0x02
  | 0x14 | 0x15 => 0x03
  | 0x17 => 0x04
  | 0x18 | 0x19 => 0x05
  | 0x1A | 0x1B => 0x06
  | 0x1C | 0x1D => 0x07
  | 0x20 | 0x21 => 0x08
  | 0x22 | 0x23 => 0x09
  | _ => 0
/-- A type is a secret asymmetric key. -/
def isPrivate (t : Nat) : Bool := [0x10, 0x12, 0x14, 0x18, 0x1A, 0x1C, 0x20, 0x22].contains t
/-- A type has a public part. -/
def hasPublic (t : Nat) : Bool := famOfType t != 0

/-- The octets of the secret form of a key (*Key types*, R316); a KDF secret's own length stands with it. -/
def secretOctets (typ st : Nat) : Nat :=
  match typ with
  | 0x01 => 32
  | 0x02 => 64
  | 0x03 => 65
  | 0x04 => 192
  | 0x10 => 64
  | 0x12 => 32
  | 0x14 => 4 * slhN st
  | 0x18 => 64
  | 0x1A => bySet [6492, 13608, 13932, 13948, 14120] st
  | 0x1C => 48
  | 0x20 => if st = 2 then 48 else 32
  | 0x22 => 5 * rsaK st / 2
  | _ => 0
/-- Shares of a secret key: order + 1 for ML-KEM, ML-DSA and HQC, else 2 (R316). -/
def sharesOf (typ order : Nat) : Nat := if typ = 0x10 ∨ typ = 0x12 ∨ typ = 0x18 then order + 1 else 2
/-- The words of the material region a key takes (R327). -/
def materialWords (typ st order pub : Nat) : Nat :=
  (if secretOctets typ st = 0 then 0 else sharesOf typ order * ceilDiv (secretOctets typ st) 9) + (if typ = 0x1C then 512 else 0) +
    (if typ = 0x1A ∨ typ = 0x1B then 0 else ceilDiv pub 9)

/-- A key's material comes to the region: its secret is split into shares, all but the first of them free values, and a stateful key has the traversal state
of where it stands, a free value (R151; log 124). -/
def State.split (s : State) (k : KeyRec) : KeyRec :=
  { k with
    masks := (List.range (sharesOf k.typ k.order - 1)).map (fun i => beBytes (secretOctets k.typ k.set) (Config.free (s.free + i) % 2 ^ (8 * secretOctets k.typ k.set)))
    traversal := if k.typ = 0x1C then Config.free (s.free + 2) else 0 }
/-- The free values of a split are used up. -/
def State.splitDone (s : State) : State := { s with free := s.free + 3 }
/-- Share `i` of a key's secret: the first is the secret XOR every other (R151, R316). -/
def KeyRec.share (k : KeyRec) : Nat → Bytes
  | 0 => k.masks.foldl xorBytes (fit (secretOctets k.typ k.set) k.secret)
  | i + 1 => k.masks.getD i []

/-! ### Key rules (R146, R147, R150, R176, R186, R189-R193) -/

/-- What an opcode takes in the key field. -/
inductive KeyUse where
  | none | secretKey | publicKey | symmetric | optionalSymmetric | session | any | volatileKey | stamp
  | kernel
  deriving DecidableEq, Repr

def keyUse (op : Nat) : KeyUse :=
  let o := opOp op
  match opFam op with
  | 0x01 | 0x05 | 0x06 => if o = 1 then .publicKey else if o = 2 then .secretKey else .none
  | 0x02 | 0x03 | 0x04 | 0x07 =>
    if o = 0 then .none else if o = 2 ∨ o = 4 ∨ o = 6 then .publicKey else .secretKey
  | 0x08 => if o = 0 then .none else if o = 2 ∨ o = 6 then .publicKey else .secretKey
  | 0x09 => if o = 0 then .none else if o = 2 ∨ o = 4 ∨ o = 6 then .publicKey else .secretKey
  | 0x0C => .symmetric
  | 0x0D => if o = 0 then .none else .symmetric
  | 0x0E => .optionalSymmetric
  | 0x10 => if o = 2 then .any else if o = 3 then .volatileKey else .none
  | 0x11 => if opSet op = 1 then (if o ≤ 1 then .none else .session) else if opSet op = 2 then .stamp else .none
  | 0x80 => .kernel
  | _ => .none

/-- The bit of the operation mask that an opcode needs (*Operation mask bits*). -/
def opsNeeded (op : Nat) : Nat :=
  let o := opOp op
  match opFam op with
  | 0x01 | 0x05 | 0x06 => if o = 1 then 2 else 3
  | 0x02 | 0x03 | 0x04 | 0x07 => if o = 2 ∨ o = 4 ∨ o = 6 then 1 else 0
  | 0x08 => if o = 2 ∨ o = 6 then 1 else if o = 3 then 4 else 0
  | 0x09 => if o = 2 ∨ o = 6 then 1 else if o = 3 then 6 else if o = 4 then 5 else 0
  | 0x0C => if o = 1 then 5 else 6
  | 0x0D => 7
  | 0x11 => if opSet op = 1 then 8 else 0
  | _ => 8
/-- The bit of the engine-class mask that an opcode needs (R146, R176). -/
def classNeeded (op : Nat) : Nat :=
  match opFam op with
  | 0x08 | 0x09 => 1
  | 0x0C => 3
  | 0x0D => 2
  | 0x0E => 5
  | _ => 0
/-- The class of a STAMP's signing key. -/
def stampClass (typ : Nat) : Nat := if typ = 0x20 then 1 else 0

/-- A key's type and set fit the opcode; a session key is usable by the TLS operations alone (R146, R147, R186, R187, R191, R193). -/
def keyFits (op : Nat) (k : KeyRec) : Bool :=
  match keyUse op with
  | .secretKey => k.typ == privType (opFam op) && k.set == opSet op
  | .publicKey => (k.typ == privType (opFam op) || k.typ == pubType (opFam op)) && k.set == opSet op
  | .symmetric =>
    if opFam op = 0x0C then k.typ == 0x01
    else if opSet op ≤ 6 then k.typ == 0x02 else k.typ == 0x02 || k.typ == 0x03
  | .optionalSymmetric => k.typ == 0x01 || k.typ == 0x02 || k.typ == 0x03
  | .session => k.typ == 0x04
  | .any => hasPublic k.typ
  | .volatileKey => true
  | .stamp => k.typ == 0x12 || k.typ == 0x14 || (k.typ == 0x20 && k.set != 4)
  | .kernel => k.typ != 0x04
  | .none => false

/-- The key is inside its validity, judged against the greatest datum reached (R141, R315, R318). -/
def State.keyValid (s : State) (k : KeyRec) : Bool :=
  (k.notBefore == 0 || decide (ofTime80 k.notBefore ≤ s.clk.maxDatum)) && (k.notAfter == 0 || decide (s.clk.maxDatum ≤ ofTime80 k.notAfter)) &&
    (k.useLimit == 0 || decide (k.uses < k.useLimit))

/-- The header key handle's checks (step 8 of R67): the refusing status and detail. -/
def State.keyCheck (s : State) (t op h kernUse : Nat) : Option (Nat × Nat) :=
  let use := keyUse op
  if h = 0 then
    (if use = .none ∨ use = .publicKey ∨ use = .optionalSymmetric then none
     else if use = .kernel then (if kernUse = 1 then some (0x30, 0) else none) else some (0x10, 2))
  else if (use = .none ∧ 1 ≤ opFam op ∧ opFam op ≤ 9) ∨ (use = .kernel ∧ kernUse = 0) then some (0x30, 0)
  else match s.key h with
    | none => some (0x10, 2)
    | some k =>
      if keyTenant h ≠ t ∨ s.destroying h then some (0x10, 2)
      else if use = .none ∨ !keyFits op k then some (0x30, 0)
      else if use = .volatileKey then (if keyScope h = 0 then none else some (0x15, 0))
      else if use = .kernel then (if kernUse = 0 ∨ !bitAt k.classes 0 then some (0x30, 0) else if s.keyValid k then none else some (0x31, 0))
      else if use = .any then none
      else if use = .session then none
      else if !bitAt k.ops (opsNeeded op) ∨ !bitAt k.classes (if use = .stamp then stampClass k.typ else classNeeded op) then some (0x30, 0)
      else if s.keyValid k then none else some (0x31, 0)

/-! ### Declared lengths (step 9 of R67) -/

/-- A length between bounds. -/
def within (lo hi d : Nat) : Bool := decide (lo ≤ d) && decide (d ≤ hi)
/-- The largest declared length of a JOB or STREAM (R57). -/
def maxJob : Nat := 16777216

/-- The declared length is one the opcode's layout allows; `h` is the key field (R66, R147, R155-R193). -/
def lengthOk (op h d : Nat) : Bool :=
  let f := opFam op
  let st := opSet op
  let o := opOp op
  let p := if h = 0 then pubLen f st else 0
  match f with
  | 0x01 | 0x05 | 0x06 => if o = 0 then d == 4 else if o = 3 then d == 68 else if o = 1 then d == p else d == ctLen f st
  | 0x02 | 0x03 =>
    if o = 0 then d == 4 || d == (if f = 0x02 then 36 else 4 + 3 * slhN st)
    else if o = 1 then within 4 maxJob d
    else if o = 2 then within (4 + p + sigLen f st) maxJob d
    else if o = 3 then d == 68
    else if o = 4 then d == 68 + p + sigLen f st
    else if o = 5 then within 36 323 d
    else within (36 + p + sigLen f st) (323 + p + sigLen f st) d
  | 0x04 => within (6 + p) maxJob d
  | 0x07 => if o = 0 then d == 12 else if o = 1 then true else within 8 maxJob d
  | 0x08 =>
    if o = 0 then d == 4
    else if o = 1 then within 4 maxJob d
    else if o = 2 then within (4 + p + sigLen f st) maxJob d
    else if o = 3 then d == 4 + pubLen f st
    else if o = 5 then d == 36 || d == 52 || d == 68
    else d == 36 + p + sigLen f st || d == 52 + p + sigLen f st || d == 68 + p + sigLen f st
  | 0x09 =>
    let k := rsaK st
    if o = 0 then d == 4
    else if o = 1 then within 4 maxJob d
    else if o = 2 then within (4 + p + k) maxJob d
    else if o = 3 then within (4 + k) (259 + k) d
    else if o = 4 then within (4 + p) (259 + p + (k - 66)) d
    else if o = 5 then d == 36 || d == 52 || d == 68
    else d == 36 + p + k || d == 52 + p + k || d == 68 + p + k
  | 0x0C =>
    if st = 1 then within (if o = 1 then 20 else 36) maxJob d
    else if o = 1 then (if st = 2 then within 20 maxJob d && (d - 4) % 8 == 0 else within 5 65540 d)
    else within (if st = 2 then 28 else 20) 65548 d && (d - 4) % 8 == 0
  | 0x0D => within 8 maxJob d
  | 0x0E => within 12 maxJob d
  | 0x0F => d == 8
  | 0x10 =>
    if o = 0 then d == 40 else if o = 1 then within 44 maxJob d else if o = 4 then within 7379 maxJob d else d == 0
  | 0x11 =>
    if st = 1 then
      (if o = 0 then d == 1220 else if o = 1 then d == 4
       else if o = 2 then d == 1156 || d == 1172 else d == 36 || d == 52)
    else if st = 2 then d == 36 || d == 52 || d == 68 else d == 36
  | 0x20 => within (4 + hashLen st) maxJob d
  | 0x30 => if o = 0 then d == 12 else d == 0
  | _ => true

/-! ### Results -/

/-- The digest or tag length of a family 0x0D message with its out_len (R186). -/
def hashOut (st outLen : Nat) : Nat := if st ≤ 6 then (if outLen = 0 then hashLen st else outLen) else outLen

/-- The longest public key that EXPORT_PUBLIC returns, and the longest signature that a stamp carries (R62; *Key types*, R194). -/
def longestPublic : Nat := pubLen 0x06 5
def longestStampSig : Nat := sigLen 0x03 6
/-- The longest result of a job as requested: what its payload `pl` fixes, else the longest that its opcode can return (R62; log 66). -/
def maxResult (op : Nat) (pl : Bytes) : Nat :=
  let f := opFam op
  let st := opSet op
  let o := opOp op
  let d := pl.length
  match f with
  | 0x01 | 0x05 | 0x06 => if o = 0 ∨ o = 3 then pubLen f st + 48 else if o = 1 then ctLen f st + ssLen f else ssLen f
  | 0x02 | 0x03 | 0x04 | 0x07 =>
    if o = 0 then pubLen f st + 48 else if o = 2 ∨ o = 4 ∨ o = 6 then 1 else sigLen f st
  | 0x08 => if o = 0 then pubLen f st + 48 else if o = 2 ∨ o = 6 then 1 else if o = 3 then (if st = 2 then 49 else 33) else sigLen f st
  | 0x09 => if o = 0 then pubLen f st + 48 else if o = 2 ∨ o = 6 then 1 else rsaK st
  | 0x0C =>
    if st = 1 then (if o = 1 then d - 20 - fieldAt pl 4 4 + 28 else d - 36 - fieldAt pl 4 4 + 1)
    else if o = 1 then ceilDiv (d - 4) 8 * 8 + 8 else d - 4 - 8 + 1
  | 0x0D => if o = 2 then 1 else hashOut st (fieldAt pl 0 4)
  | 0x0E => if o = 0 then hashLen st else fieldAt pl 4 4
  | 0x0F => fieldAt pl 0 4
  | 0x10 => if o = 2 then longestPublic + 48 else if o = 3 then 0 else if o = 4 then 60 else 48
  | 0x11 =>
    if st = 1 then bySet [1120, 1216, 96, 96, 144, 48] (o + 1)
    else if st = 2 then 126 + (d - 4) + longestStampSig
    else 166 + 4627 + 29792 + 96
  | 0x20 => 1
  | 0x30 => if o = 0 then 262144 else if o = 1 then 80 else 8
  | _ => 0

/-! ### Costs (R173, R174, R195): ENG cycles at 1,250 per µs (R129) -/

/-- Cycles of a tenth of a microsecond. -/
def tenths (n : Nat) : Nat := n * 125
/-- The message term's hundredths of a microsecond per KiB by hash function (*Message terms*): numbers 1 to 8 of the *Pre-hash functions* table,
9 and 10 cSHAKE, 11 and 12 KMAC. -/
def termRate (f : Nat) : Nat := bySet [41, 26, 26, 15, 19, 28, 12, 15, 12, 15, 12, 15] f
/-- The message term of `n` octets in cycles. -/
def msgTerm (f n : Nat) : Nat := n * termRate f * 25 / 2048
/-- The function that hashes the message of a signature (R174). -/
def msgHash (fam st : Nat) : Nat :=
  match fam with
  | 0x03 => if st ≤ 2 then 1 else if st ≤ 6 then 3 else 8
  | 0x08 => if st = 1 then 1 else if st = 2 then 2 else 3
  | _ => 8

/-- ML-KEM, ML-DSA and FN-DSA rows: LE typical, LE worst, HC typical, HC worst in tenths of µs, by 3 · (set − 1) + kind
(0 KEYGEN, 1 ENCAPS or SIGN, 2 DECAPS or VERIFY). -/
def kemRow (i : Nat) : Nat × Nat × Nat × Nat :=
  [(267, 294, 16, 18), (213, 220, 10, 14), (400, 407, 14, 18), (400, 440, 30, 33), (320, 334, 16, 24), (582, 596, 22, 30),
   (582, 640, 50, 55), (457, 481, 24, 37), (800, 824, 32, 45)].getD i (0, 0, 0, 0)
def dsaRow (i : Nat) : Nat × Nat × Nat × Nat :=
  [(640, 704, 50, 56), (800, 9270, 24, 283), (267, 302, 26, 46), (1067, 1174, 74, 82), (1333, 12930, 31, 384), (400, 452, 35, 64),
   (1600, 1760, 136, 150), (2133, 27230, 40, 500), (640, 736, 62, 115)].getD i (0, 0, 0, 0)
/-- SLH-DSA hash-core cycles: KEYGEN, SIGN, VERIFY of sets 1 to 6, listed in tenths of µs; three quarters for sets 7 to 12. -/
def slhRow (st kind : Nat) : Nat :=
  let r := ([[69000, 512000, 853], [1100, 25600, 512], [104000, 960000, 1300], [1700, 42000, 780], [91000, 860000, 1900],
    [4400, 86000, 800]].getD ((st - 1) % 6) []).getD kind 0
  if st ≤ 6 then tenths r else tenths r * 3 / 4
/-- HQC and Classic McEliece: LE typical, LE worst, HC in tenths of µs. -/
def hqcRow (i : Nat) : Nat × Nat :=
  [(2000, 60), (3200, 100), (4000, 140), (4200, 110), (6800, 190), (8600, 260), (7400, 180), (11900, 310), (15000, 440)].getD i (0, 0)
def mceRow (i : Nat) : Nat × Nat × Nat :=
  [(400000, 3760000, 200), (1600, 1900, 20), (25600, 25600, 30), (950000, 8930000, 240), (3000, 3600, 20), (44000, 44000, 30),
   (2300000, 21620000, 300), (5600, 6800, 30), (78000, 78000, 40), (2400000, 22560000, 300), (5600, 6800, 30), (80000, 80000, 40),
   (3100000, 29140000, 340), (7200, 8750, 30), (88000, 88000, 40)].getD i (0, 0, 0)
/-- BE costs in tenths of µs: ECC by set (KEYGEN, SIGN, VERIFY, AGREE). -/
def eccRow (st kind : Nat) : Nat :=
  ([[300, 320, 640, 560], [750, 800, 1600, 1400], [180, 200, 400, 0], [178, 0, 0, 178]].getD (st - 1) []).getD kind 0
/-- RSA by set: secret typical and worst, public typical and worst, KEYGEN typical and worst, in tenths of µs. -/
def rsaRow (st i : Nat) : Nat :=
  ([[2000, 2200, 107, 110, 400000, 4200000], [6400, 7000, 240, 260, 1300000, 14000000],
    [14550, 16000, 420, 460, 3100000, 33000000]].getD (st - 1) []).getD i 0

/-- The bit length of a number below 2^n. -/
def bitLength : Nat → Nat → Nat
  | 0, _ => 0
  | n + 1, v => if v = 0 then 0 else 1 + bitLength n (v / 2)
/-- The set bits of a number below 2^n. -/
def popcount : Nat → Nat → Nat
  | 0, _ => 0
  | n + 1, v => v % 2 + popcount n (v / 2)
/-- A public RSA cost, for an exponent other than 65537 scaled by it (R195). -/
def scaleExp (c e : Nat) : Nat := if e = 65537 then c else c * (bitLength 32 e + popcount 32 e) / 18

/-- Second-order masking divides LE costs by 0.45 (R173). -/
def maskCost (order c : Nat) : Nat := if order = 2 then c * 20 / 9 else c

/-- Typical and worst cost of a signature by a key of a family and set on `n` message octets (R174, R195): kind 1 SIGN, 2 VERIFY. -/
def signCost (fam st order kind n : Nat) (term : Bool) : Work × Work :=
  let m := if term then msgTerm (msgHash fam st) n else 0
  match fam with
  | 0x02 =>
    let r := dsaRow (3 * (st - 1) + kind)
    (⟨maskCost order (tenths r.1) + m, tenths r.2.2.1 + m, 0, 0⟩, ⟨maskCost order (tenths r.2.1) + m, tenths r.2.2.2 + m, 0, 0⟩)
  | 0x03 =>
    let c := slhRow st kind
    (⟨c / 8 + m, c + m, 0, 0⟩, ⟨c + m, c + m, 0, 0⟩)
  | 0x08 =>
    let c := tenths (eccRow st kind)
    let hc := if st = 3 then tenths 4 else 0
    (⟨0, hc + m, c + m, 0⟩, ⟨0, hc * 11 / 10 + m, c * 11 / 10 + m, 0⟩)
  | _ => (noWork, noWork)

/-- The heights of LMS and XMSS types and the group (hash function and width) each belongs to, by the codes of SP 800-208 (log 23). -/
def lmsHeight (typ : Nat) : Option (Nat × Nat) := if 5 ≤ typ ∧ typ ≤ 24 then some ((typ - 5) / 5, 5 + (typ - 5) % 5 * 5) else none
/-- The group an LM-OTS type belongs to. -/
def lmotsGroup (typ : Nat) : Option Nat := if 1 ≤ typ ∧ typ ≤ 16 then some ((typ - 1) / 4) else none
def xmssHeight (oid : Nat) : Option Nat :=
  if 1 ≤ oid ∧ oid ≤ 3 then [10, 16, 20][oid - 1]? else if 0x0D ≤ oid ∧ oid ≤ 0x15 then [10, 16, 20][(oid - 0x0D) % 3]? else none
/-- Total height and layers of an XMSS^MT OID. -/
def xmssmtShape (oid : Nat) : Option (Nat × Nat) :=
  let i := if 1 ≤ oid ∧ oid ≤ 8 then some (oid - 1) else if 0x21 ≤ oid ∧ oid ≤ 0x38 then some ((oid - 0x21) % 8) else none
  match i with
  | some k => [(20, 2), (20, 4), (40, 2), (40, 4), (40, 8), (60, 3), (60, 6), (60, 12)][k]?
  | none => none
/-- The number of indices of a key that KEYGEN makes, none where it names anything else than R167 lists. -/
def statefulTotal (set typ ots levels : Nat) : Option Nat :=
  if set = 1 ∨ set = 2 then
    match lmsHeight typ, lmotsGroup ots with
    | some (g, h), some g' =>
      if g = g' ∧ h ≤ 20 ∧ (if set = 1 then levels = 1 else 2 ≤ levels ∧ levels ≤ 4) then some (2 ^ (h * levels)) else none
    | _, _ => none
  else if ots ≠ 0 then none
  else if set = 3 then (match xmssHeight typ with | some h => if levels = 1 then some (2 ^ h) else none | none => none)
  else match xmssmtShape typ with
    | some (h, d) => if h ≤ 40 ∧ levels = d then some (2 ^ h) else none
    | none => none
/-- The octets of a node of a parameter set: 24 for the 192-bit functions, else 32 (log 23). -/
def statefulN (set typ : Nat) : Nat :=
  let short := if set ≤ 2 then (typ - 5) / 5 % 2 == 1
    else if set = 3 then (decide (0x0D ≤ typ) && decide (typ ≤ 0x0F)) || decide (0x13 ≤ typ)
    else (decide (0x21 ≤ typ) && decide (typ ≤ 0x28)) || decide (0x31 ≤ typ)
  if short then 24 else 32
/-- Public-key lengths of SP 800-208: type codes, I and the root; OID, root and SEED (log 23). -/
def statefulPubLen (set typ : Nat) : Nat :=
  let n := statefulN set typ
  if set = 1 then 24 + n else if set = 2 then 28 + n else 4 + 2 * n
/-- The chains of a one-time signature. -/
def otsChains (set ots n : Nat) : Nat :=
  if set ≤ 2 then (if n = 32 then [265, 133, 67, 34] else [200, 101, 51, 26]).getD ((ots - 1) % 4) 0 else if n = 32 then 67 else 51
/-- Signature lengths of SP 800-208 (log 23). -/
def statefulSigLen (set typ ots levels : Nat) : Nat :=
  let n := statefulN set typ
  let p := otsChains set ots n
  if set ≤ 2 then
    let one := 12 + n + n * p + n * (match lmsHeight typ with | some (_, h) => h | none => 0)
    if set = 1 then one else 4 + (levels - 1) * (one + 24 + n) + one
  else if set = 3 then 4 + n + n * (p + (xmssHeight typ).getD 0)
  else match xmssmtShape typ with
    | some (h, d) => ceilDiv h 8 + n + n * (h + d * p)
    | none => 0
/-- A parameter set that SP 800-208 approves, and so one the NM72 verifies (R167; log 23). -/
def statefulKnown (set typ ots levels : Nat) : Bool :=
  if set ≤ 2 then
    (match lmsHeight typ, lmotsGroup ots with | some (g, _), some g' => g == g' | _, _ => false) && (set == 1 || (decide (1 ≤ levels) && decide (levels ≤ 8)))
  else if set = 3 then (xmssHeight typ).isSome else (xmssmtShape typ).isSome
/-- The octets of one LMS signature (log 23). -/
def lmsSigLen (typ ots : Nat) : Nat :=
  let n := statefulN 1 typ
  12 + n + n * otsChains 1 ots n + n * (match lmsHeight typ with | some (_, h) => h | none => 0)
/-- LMS signatures, one of each level from the top down, each but the last before the public key of the next level, whose types it is of: every type code
and the length are right (R167; log 23). -/
def lmsFits : Nat → Nat → Nat → Bytes → Bool
  | k, typ, ots, b =>
    let n := statefulN 1 typ
    let q := lmsSigLen typ ots
    statefulKnown 1 typ ots 1 && fieldAt b 4 4 == ots && fieldAt b (8 + n + n * otsChains 1 ots n) 4 == typ &&
      (match k with
       | 0 => b.length == q
       | m + 1 => lmsFits m (fieldAt b q 4) (fieldAt b (q + 4) 4) (b.drop (q + 24 + statefulN 1 (fieldAt b q 4))))
/-- A signature's type codes and its length are those of a public key of type codes `x` (R167). -/
def statefulSigFits (set : Nat) (x : Nat × Nat × Nat) (sig : Bytes) : Bool :=
  if set = 1 then lmsFits 0 x.1 x.2.1 sig
  else if set = 2 then fieldAt sig 0 4 + 1 == x.2.2 && lmsFits (x.2.2 - 1) x.1 x.2.1 (sig.drop 4)
  else sig.length == statefulSigLen set x.1 x.2.1 x.2.2
/-- What a public key begins with, as SP 800-208 lays it out (log 23). -/
def statefulHead (set typ ots levels : Nat) : Bytes :=
  if set = 1 then beBytes 4 typ ++ beBytes 4 ots else if set = 2 then beBytes 4 levels ++ beBytes 4 typ ++ beBytes 4 ots else beBytes 4 typ
/-- The type code, LM-OTS code and levels that a public key's head holds. -/
def headTypes (st : Nat) (pub : Bytes) : Nat × Nat × Nat :=
  if st = 1 then (fieldAt pub 0 4, fieldAt pub 4 4, 1)
  else if st = 2 then (fieldAt pub 4 4, fieldAt pub 8 4, fieldAt pub 0 4)
  else (fieldAt pub 0 4, 0, 1)
/-- The type code, LM-OTS code and levels of a stateful operation: in the options of a KEYGEN, else at the head of the public key, as SP 800-208 lays
it out (R167; log 23). -/
def statefulTypes (st kind : Nat) (pl : Bytes) (key : Option KeyRec) : Nat × Nat × Nat :=
  if kind = 0 then (fieldAt pl 0 4, fieldAt pl 4 4, fieldAt pl 8 1)
  else headTypes st (match key with | some k => k.pub | none => slice pl 8 (fieldAt pl 0 4))
/-- The number of indices of a key with this public key. -/
def publicTotal (set : Nat) (pub : Bytes) : Nat :=
  let x := headTypes set pub
  (statefulTotal set x.1 x.2.1 (if set = 4 then (match xmssmtShape x.1 with | some (_, d) => d | none => 0) else x.2.2)).getD 0
/-- A stateful parameter set uses SHAKE256, not SHA-256, by the codes of SP 800-208 (log 23). -/
def statefulShake (st typ : Nat) : Bool :=
  if st ≤ 2 then decide (15 ≤ typ) else if st = 3 then decide (0x10 ≤ typ) else decide (0x29 ≤ typ)
/-- The row of the *Stateful hash-based catalogue* that a parameter set, or one tree of it, takes its figures from. -/
def statefulRow (st typ ots : Nat) : Option (Nat × Nat × Nat) :=
  if st ≤ 2 then
    if (typ = 7 ∧ ots = 3) ∨ (typ = 17 ∧ ots = 11) then some (9000000, 2100, 140)
    else if (typ = 8 ∧ ots = 3) ∨ (typ = 18 ∧ ots = 11) then some (287000000, 2800, 140)
    else none
  else if st = 3 then
    if typ = 1 ∨ typ = 0x10 then some (720000, 5200, 360)
    else if typ = 3 ∨ typ = 0x12 then some (720000000, 7000, 360)
    else none
  else
    if [1, 4, 7, 0x29, 0x2C, 0x2F].contains typ then some (720000, 5200, 360)
    else if [3, 6, 0x2B, 0x2E].contains typ then some (720000000, 7000, 360)
    else none
/-- The layers of an XMSS^MT set, and the levels of an HSS key. -/
def statefulLevels (st typ levels : Nat) : Nat := if st = 4 then bySet [2, 4, 2, 4, 8, 3, 6, 12] ((typ - 1) % 8 + 1) else levels
/-- Hash-core cycles of a stateful operation (*Stateful hash-based catalogue*): VERIFY costs a tree for each level, SIGN of several levels at most 1.3
trees; what the table does not give is not stated (log 23). -/
def statefulCost (st kind typ ots levels : Nat) : Nat :=
  match statefulRow st typ ots with
  | none => Config.unstated 43 [st, kind, typ, ots, levels] % 2 ^ 40
  | some r =>
    let c := fun n => let t := tenths n; if statefulShake st typ then t * 3 / 4 else t
    let one := st = 1 ∨ st = 3
    if kind = 2 then c r.2.2 * statefulLevels st typ levels
    else if one then c (if kind = 0 then r.1 else r.2.1)
    else if kind = 1 then c r.2.1 + Config.unstated 43 [st, kind, typ, ots, levels] % (c r.2.1 * 3 / 10 + 1)
    else Config.unstated 43 [st, kind, typ, ots, levels] % 2 ^ 40

/-- The catalogue: typical and worst cost of an opcode for its payload and key (R134, R173; logs 68, 137). -/
def cost (op : Nat) (pl : Bytes) (key : Option KeyRec) : Work × Work :=
  let f := opFam op
  let st := opSet op
  let o := opOp op
  let d := pl.length
  let order := match key with | some r => r.order | none => if bitAt (fieldAt pl 0 1) 0 ∧ (o = 0 ∨ o = 3) then 2 else 1
  let p := if key = none then pubLen f st else 0
  match f with
  | 0x01 =>
    let r := kemRow (3 * (st - 1) + (if o = 3 then 0 else o))
    let g := if o = 1 then 1 else order
    (⟨maskCost g (tenths r.1), tenths r.2.2.1, 0, 0⟩, ⟨maskCost g (tenths r.2.1), tenths r.2.2.2, 0, 0⟩)
  | 0x02 =>
    if o = 0 then
      let r := dsaRow (3 * (st - 1))
      (⟨maskCost order (tenths r.1), tenths r.2.2.1, 0, 0⟩, ⟨maskCost order (tenths r.2.1), tenths r.2.2.2, 0, 0⟩)
    else if o = 1 then signCost f st order 1 (d - 4) true
    else if o = 2 then signCost f st 1 2 (d - 4 - p - sigLen f st) true
    else signCost f st (if o = 3 ∨ o = 5 then order else 1) (if o = 3 ∨ o = 5 then 1 else 2) 0 false
  | 0x03 =>
    if o = 0 then
      let c := slhRow st 0
      (⟨c / 8, c, 0, 0⟩, ⟨c, c, 0, 0⟩)
    else if o = 1 then signCost f st 1 1 (d - 4) true
    else if o = 2 then signCost f st 1 2 (d - 4 - p - sigLen f st) true
    else signCost f st 1 (if o = 5 then 1 else 2) 0 false
  | 0x04 =>
    let c := if st = 1 then (320, 10) else (640, 18)
    let m := msgTerm 8 (d - 6 - p - fieldAt pl (4 + p + fieldAt pl 1 1) 2)
    (⟨tenths c.1 + m, tenths c.2 + m, 0, 0⟩, ⟨tenths c.1 + m, tenths c.2 + m, 0, 0⟩)
  | 0x05 =>
    let r := hqcRow (3 * (st - 1) + o)
    let g := if o = 1 then 1 else order
    (⟨maskCost g (tenths r.1), tenths r.2, 0, 0⟩, ⟨maskCost g (tenths r.1), tenths r.2, 0, 0⟩)
  | 0x06 =>
    let r := mceRow (3 * (st - 1) + o)
    (⟨tenths r.1, tenths r.2.2, 0, 0⟩, ⟨tenths r.2.1, tenths r.2.2, 0, 0⟩)
  | 0x07 =>
    let x := statefulTypes st o pl key
    let c := statefulCost st o x.1 x.2.1 x.2.2
    let m := if o = 0 then 0 else msgTerm (if statefulShake st x.1 then 8 else 1) (if o = 1 then d else d - 8 - fieldAt pl 0 4 - fieldAt pl 4 4)
    (⟨c / 8 + m, c + m, 0, 0⟩, ⟨c + m, c + m, 0, 0⟩)
  | 0x08 =>
    if o = 1 then signCost f st 1 1 (d - 4) true
    else if o = 2 then signCost f st 1 2 (d - 4 - p - sigLen f st) true
    else if o = 5 ∨ o = 6 then signCost f st 1 (if o = 5 then 1 else 2) 0 false
    else
      let c := tenths (eccRow st o)
      let hc := if st = 3 then tenths 4 else 0
      (⟨0, hc, c, 0⟩, ⟨0, hc * 11 / 10, if st = 4 then c else c * 11 / 10, 0⟩)
  | 0x09 =>
    let m := if o = 1 then msgTerm (fieldAt pl 1 1) (d - 4)
             else if o = 2 then msgTerm (fieldAt pl 1 1) (d - 4 - p - rsaK st) else 0
    if o = 0 then (⟨0, 0, tenths (rsaRow st 4), 0⟩, ⟨0, 0, tenths (rsaRow st 5), 0⟩)
    else if o = 1 ∨ o = 3 ∨ o = 5 then (⟨0, m, tenths (rsaRow st 0) + m, 0⟩, ⟨0, m, tenths (rsaRow st 1) + m, 0⟩)
    else
      let e := match key with | some r => fieldAt r.pub 0 4 | none => fieldAt pl 4 4
      (⟨0, m, scaleExp (tenths (rsaRow st 2)) e + m, 0⟩, ⟨0, m, scaleExp (tenths (rsaRow st 3)) e + m, 0⟩)
  | 0x0C =>
    let w : Work := ⟨0, 0, 0, if st = 1 then d - 20 + 512 else 6 * (d - 4) + 512⟩
    (w, w)
  | 0x0D =>
    let w : Work := ⟨0, tenths 1 + msgTerm st (d - 8 - (if o = 2 then hashOut st (fieldAt pl 0 4) else 0)), 0, 0⟩
    (w, w)
  | 0x0E =>
    let w : Work := ⟨0, tenths 1 + msgTerm (bySet [1, 2, 3, 1, 2, 12] st) (d - 12), 0, 0⟩
    (w, w)
  | 0x0F => (⟨0, 0, 0, fieldAt pl 0 4 + 512⟩, ⟨0, 0, 0, fieldAt pl 0 4 + 512⟩)
  | 0x10 =>
    if o = 0 then
      let w : Work := ⟨0, 0, 0, secretOctets (fieldAt pl 0 1) 1 + 512⟩
      (w, w)
    else if o = 4 then
      let m := msgTerm 8 (d - 4627)
      let wr := fieldAt pl 156 4 ≠ 0
      (⟨tenths (if wr then 1440 else 640), tenths (if wr then 94 else 62) + m, 0, 0⟩,
       ⟨tenths (if wr then 1560 else 736), tenths (if wr then 160 else 115) + m, 0, 0⟩)
    else (noWork, noWork)
  | 0x11 =>
    if st = 1 then
      match o with
      | 0 => (⟨tenths 334, tenths 20, tenths 356, 0⟩, ⟨tenths 334, tenths 28, tenths 392, 0⟩)
      | 1 => (⟨tenths 400, tenths 30, tenths 178, 0⟩, ⟨tenths 440, tenths 30, tenths 196, 0⟩)
      | 2 => (⟨tenths 582, tenths 30, tenths 178, 0⟩, ⟨tenths 596, tenths 30, tenths 196, 0⟩)
      | 3 => (⟨0, tenths 3, 0, 0⟩, ⟨0, tenths 3, 0, 0⟩)
      | 4 => (⟨0, tenths 7, 0, 0⟩, ⟨0, tenths 7, 0, 0⟩)
      | _ => (⟨0, 187, 0, 0⟩, ⟨0, 187, 0, 0⟩)
    else if st = 2 then
      match key with
      | some r => signCost (famOfType r.typ) r.set r.order 1 (126 + (d - 4)) true
      | none => (noWork, noWork)
    else
      let a := signCost 0x02 3 1 1 166 true
      let b := if bitAt (fieldAt pl 0 1) 0 then signCost 0x03 11 1 1 166 true else (noWork, noWork)
      let c := if bitAt (fieldAt pl 0 1) 1 then signCost 0x08 2 1 1 176 true else (noWork, noWork)
      (Work.add (Work.add a.1 b.1) c.1, Work.add (Work.add a.2 b.2) c.2)
  | 0x20 =>
    let w : Work := ⟨0, tenths 1 + msgTerm st (d - 4 - hashLen st), 0, 0⟩
    (w, w)
  | _ => (noWork, noWork)

/-! ### Owner kernels (R242, R243) -/

def Kernel.version (k : Kernel) : Nat := fieldAt k.image 8 4
def Kernel.keyUse (k : Kernel) : Nat := fieldAt k.image 7 1
def Kernel.base (k : Kernel) : Nat := fieldAt k.image 12 2
def Kernel.nMicro (k : Kernel) : Nat := fieldAt k.image 14 2
def Kernel.entry (k : Kernel) : Nat := fieldAt k.image 16 2
def Kernel.constOff (k : Kernel) : Nat := fieldAt k.image 18 2
def Kernel.nConst (k : Kernel) : Nat := fieldAt k.image 20 2
def Kernel.scratch (k : Kernel) : Nat := fieldAt k.image 22 2
def Kernel.lenMin (k : Kernel) : Nat := fieldAt k.image 24 4
def Kernel.lenMax (k : Kernel) : Nat := fieldAt k.image 28 4
def Kernel.resultMax (k : Kernel) : Nat := fieldAt k.image 32 4
/-- Typical and worst costs in the header (R243). -/
def Kernel.cost (k : Kernel) : Work × Work :=
  (⟨fieldAt k.image 36 4, fieldAt k.image 44 4, 0, 0⟩, ⟨fieldAt k.image 40 4, fieldAt k.image 48 4, 0, 0⟩)
/-- The 48 bits of microword `i` of an image, and its sequencing kind (R222, R242). -/
def Kernel.word (k : Kernel) (i : Nat) : Nat := fieldAt k.image (64 + 6 * i) 6
def mwSeq (v : Nat) : Nat := bitsOf v 16 14
/-- An address lies in a kernel's own range. -/
def Kernel.owns (k : Kernel) (a : Nat) : Bool := decide (k.base ≤ a) && decide (a < k.base + k.nMicro)
/-- The octets of an image by its header (R242). -/
def Kernel.size (k : Kernel) : Nat := 64 + 6 * k.nMicro + 9 * k.nConst + 2592 + 4627

/-- The image of the patch in force; none where the baseline is (R239, entry 0x2400.01). -/
def State.patchImage (s : State) : Option Bytes :=
  match s.rd 0x2400 1 with
  | 1 => s.kern.slotA.map (fun p => p.image)
  | 2 => s.kern.slotB.map (fun p => p.image)
  | _ => none
/-- What the control store, the nanostore and the library table were loaded from: 0 the baseline, else the patch (R239). -/
def State.storeId (s : State) : Nat := match s.patchImage with | some b => 1 + beNat b | none => 0
/-- The rows of the library table, which a patch may change (R247, R248; log 15). -/
def State.library (s : State) : List Bytes := Config.firmwareRows (0x2410 + 2 ^ 24 * s.storeId)

/-! ### STREAM messages (R274, R275, R278, R284) -/

/-- A hash message: a family 0x0D or 0x20 JOB, or a STREAM message. -/
def Job.hashMessage (j : Job) : Bool := j.kind == 0x3 || (j.kind == 0x1 && (j.opcode / 256 == 0x0D || j.opcode / 256 == 0x20))
/-- The number of a stream context (R274). -/
def streamKey (chan n : Nat) : Nat := chan * 16 + n % 16
/-- The context that a STREAM message names. -/
def State.streamOf (s : State) (j : Job) : Option DStream := Map.find s.dstreams (streamKey j.chan (fieldAt j.payload 0 1))
/-- START and FINISH of a STREAM message (R275). -/
def startBit (b : Bytes) : Bool := bitAt (fieldAt b 1 1) 0
def finishBit (b : Bytes) : Bool := bitAt (fieldAt b 1 1) 1
/-- The length of the expected value that a FINISH carries (R275). -/
def expectedLen (op outLen : Nat) : Nat :=
  if opFam op = 0x20 then hashLen (opSet op) else if opOp op = 2 then hashOut (opSet op) outLen else 0
/-- The out_len of the parameters a STREAM message works under. -/
def State.streamOut (s : State) (j : Job) : Nat :=
  if startBit j.payload then fieldAt j.payload 8 4 else match s.streamOf j with
    | some c => fieldAt c.params 0 4
    | none => 0
/-- A STREAM message's cost: its data, with N and S at a START, as a single message is charged (R195, R284). -/
def State.streamCost (s : State) (j : Job) : Work :=
  let b := j.payload
  ⟨0, tenths 1 + msgTerm (opSet j.opcode) (b.length - 8 - (if startBit b then 8 else 0) -
    (if finishBit b then expectedLen j.opcode (s.streamOut j) else 0)), 0, 0⟩
/-- A STREAM message's result: a count, or what the digest gives (R278). -/
def State.streamMax (s : State) (j : Job) : Nat :=
  if !finishBit j.payload then 8
  else if opFam j.opcode = 0x20 ∨ opOp j.opcode = 2 then 1 else hashOut (opSet j.opcode) (s.streamOut j)

/-- A job's costs by the catalogue or its kernel's header (R134, R243). -/
def State.jobCost (s : State) (j : Job) : Work × Work :=
  match j.kernel with
  | some k => k.cost
  | none => if j.kind = 0x3 then (s.streamCost j, s.streamCost j) else cost j.opcode j.payload (if j.key = 0 then none else s.keyFor j)

/-- A job's longest result (R62). -/
def State.jobMax (s : State) (j : Job) : Nat :=
  match j.kernel with
  | some k => k.resultMax
  | none => if j.kind = 0x3 then s.streamMax j else maxResult j.opcode j.payload

/-- An operation draws from the tenant's DRBG (R152, R178, R180, R184, R188): deterministic signing, seeds and nonces from the host draw
nothing. -/
def drawsTenant (op : Nat) (pl : Bytes) : Bool :=
  let o := opOp op
  let det := bitAt (fieldAt pl 0 1) 0
  match opFam op with
  | 0x01 => o == 0 || o == 1
  | 0x05 | 0x06 => o != 2
  | 0x02 => (o == 0 && pl.length == 4) || ((o == 1 || o == 3 || o == 5) && !det)
  | 0x03 => (o == 0 && pl.length == 4) || ((o == 1 || o == 5) && !det)
  | 0x07 => o == 0 || o == 1
  | 0x08 => o == 0 || ((o == 1 || o == 5) && !det && opSet op != 3)
  | 0x09 => o == 0 || o == 1 || o == 3 || o == 4 || o == 5
  | 0x0C => opSet op == 1 && o == 1 && det
  | 0x0F => true
  | 0x10 => o == 0
  | 0x11 => (opSet op == 1 && decide (o ≤ 1)) || opSet op == 2 || opSet op == 3
  | _ => false

/-- A job needs randomness in the sense of FAMINE (R152, R303): every operation of families 0x01 to 0x09 that does not verify, masks and blinding
included, but deterministic SLH-DSA signing; and what draws from the tenant's DRBG. -/
def needsRandom (op : Nat) (pl : Bytes) : Bool :=
  let o := opOp op
  let f := opFam op
  let verifies := o == 2 || o == 4 || o == 6
  if f = 0x01 ∨ f = 0x05 ∨ f = 0x06 then true
  else if f = 0x02 ∨ f = 0x07 then !verifies
  else if f = 0x03 then !verifies && !((o == 1 || o == 5) && bitAt (fieldAt pl 0 1) 0)
  else if f = 0x08 then !(o == 2 || o == 6)
  else if f = 0x09 then !(o == 2 || o == 6)
  else if f = 0x11 ∧ opSet op = 1 ∧ o = 2 then true
  else drawsTenant op pl

end Machine
end Sys2Proof
end

