-- ==== Sys2Proof/Machine/Draw.lean ====
section
/-! DEFINITION. The entropy pool, the DRBGs and their generate calls (13 R295-R304). -/

namespace Sys2Proof
namespace Machine

/-- The number of a tenant's DRBG: cluster DRBGs are 0 to 15. -/
def tenantDrbg (t : Nat) : Nat := 16 + t
/-- The class of a DRBG's instantiation and reseeds (R295). -/
def drbgClass (d : Nat) : Nat := if d < 16 then 1 else 2
/-- The personalisation string (*DRBG instances*). -/
def persona (d : Nat) : Bytes :=
  if d < 16 then ascii "NM72 CLUSTER DRBG" ++ beBytes 1 d else ascii "NM72 TENANT DRBG" ++ beBytes 1 (d - 16)

/-- ENTROPY_STATE: 0 STARTING, 1 READY, 2 FAMINE (R296). -/
def State.entropyState (s : State) : Nat := s.rd 0x2800 1
/-- HEALTHY_COUNT: sources in HEALTHY (R306). -/
def State.healthy (s : State) : Nat := (upTo 16 (fun i => s.rd (0x2820 + i) 1 == 2)).length

/-- A request waits for a pool block; a DRBG has one waiting instantiation or reseed of its own at most, prediction-resistance requests
apart (R295). -/
def State.request (s : State) (r : EntReq) : State :=
  if r.cls != 3 && s.ent.reqs.any (fun q => q.drbg == r.drbg && q.cls != 3 && q.scheduled == r.scheduled) then s
  else { s with ent := { s.ent with reqs := s.ent.reqs ++ [r] } }

/-- Ask for a DRBG's instantiation where it holds no state, or for its reseed before the 2^20-th call (R298, R299). -/
def State.askSeed (s : State) (d : Nat) : State :=
  let g := s.drbg d
  if g.state = 0 then s.request ⟨drbgClass d, d, true, false, none⟩
  else if g.state = 1 ∧ 2 ^ 20 ≤ g.calls + 1 then
    (s.setDrbg d { g with state := 2 }).request ⟨drbgClass d, d, false, false, none⟩
  else s

/-- A DRBG can make a generate call now (R298, R299, R303). -/
def State.serving (s : State) (d : Nat) : Bool := (s.drbg d).state == 1 && decide ((s.drbg d).calls + 1 < 2 ^ 20)

/-- The output of one generate call. -/
def drbgOutput (g : Drbg) (n : Nat) (addl : Bytes) : Bytes := prim n .ctrDrbg [[2], beBytes 48 g.value, addl]
/-- A DRBG after one generate call of `n` octets, on which its next state depends too (R297). -/
def Drbg.called (g : Drbg) (n : Nat) (addl : Bytes) : Drbg :=
  { g with calls := g.calls + 1, value := beNat (prim 48 .ctrDrbg [[3], beBytes 48 g.value, beBytes 4 n, addl]) }

/-- One generate call of `n` octets, at most 65,536 (R297). -/
def State.generate (s : State) (d n : Nat) (addl : Bytes) : Option (State × Bytes) :=
  if s.serving d then some (s.setDrbg d ((s.drbg d).called n addl), drbgOutput (s.drbg d) n addl) else none

/-- The additional input of a tenant DRBG's generate call; zero for a draw that no message requests, as the handshake's own (*DRBG instances*). -/
def drawInput (handle seq : Nat) : Bytes := beBytes 4 handle ++ beBytes 8 seq

/-- `n` octets by ⌈n / 65,536⌉ calls made one after another (R300). -/
def State.generateCalls : Nat → State → Nat → Nat → Bytes → Option (State × Bytes)
  | 0, s, _, _, _ => some (s, [])
  | k + 1, s, d, n, addl =>
    match s.generate d (Nat.min n 65536) addl with
    | none => none
    | some (t, out) =>
      match State.generateCalls k t d (n - 65536) addl with
      | none => none
      | some (u, rest) => some (u, out ++ rest)

/-- The calls of a draw of `n` octets that the DRBG serves before a reseed holds it, made one after another (R299, R300). -/
def State.someCalls : Nat → State → Nat → Nat → Bytes → State × Bytes
  | 0, s, _, _, _ => (s, [])
  | k + 1, s, d, n, addl =>
    match s.generate d (Nat.min n 65536) addl with
    | none => (s, [])
    | some (t, out) =>
      let r := State.someCalls k t d (n - 65536) addl
      (r.1, out ++ r.2)

/-- A draw of `n` octets (R300). -/
def State.drawFrom (s : State) (d n : Nat) (addl : Bytes) : Option (State × Bytes) :=
  s.generateCalls (Nat.max 1 (ceilDiv n 65536)) d n addl

/-- A mask-generator seed from the cluster's DRBG: its count and MASK_RESEEDS rise (R209, R297). -/
def State.maskSeed (s : State) (e : Nat) : Option State :=
  let c := e / 4
  let g := s.drbg c
  match s.generate c 32 (beBytes 1 (e % 4) ++ beBytes 8 g.seeds) with
  | none => none
  | some (t, _) =>
    let t := t.setDrbg c { t.drbg c with seeds := g.seeds + 1 }
    some (t.setCluster c { t.cluster c with seeds := (t.cluster c).seeds + 1 })

/-- Waiting requests in the order they are served (R295). -/
def servedOrder (rs : List EntReq) : List EntReq :=
  rs.filter (fun r => r.cls == 1) ++ rs.filter (fun r => r.cls == 2) ++ rs.filter (fun r => r.cls == 3)

/-- The nonce of an instantiation: boot epoch and count of instantiations (R297). -/
def State.seedNonce (s : State) : Bytes := beBytes 8 s.trav.epoch ++ beBytes 8 s.ent.instCount

/-- A DRBG instantiated with one block (R297, R298). -/
def State.instantiate (s : State) (d block : Nat) : State :=
  let v := beNat (prim 48 .ctrDrbg [[0], beBytes 32 block, s.seedNonce, persona d])
  let t := s.setDrbg d { s.drbg d with state := 1, calls := 0, value := v }
  { t with ent := { t.ent with instCount := s.ent.instCount + 1 } }

/-- A DRBG reseeded with one block (R297, R299). -/
def State.reseed (s : State) (d block : Nat) : State :=
  let g := s.drbg d
  s.setDrbg d { g with state := 1, calls := 0, reseeds := g.reseeds + 1, last := s.clk.datum,
                       value := beNat (prim 48 .ctrDrbg [[1], beBytes 48 g.value, beBytes 32 block]) }

/-- A prediction-resistance request whose job has ended is withdrawn, and its DRBG serves again unless another reseed holds it (R299). -/
def State.withdrawRequests (s : State) : State :=
  let dead := fun (r : EntReq) => r.cls == 3 && (match r.job with | some j => !s.jobs.any (fun (x : Job) => x.chan == j.chan && x.seq == j.seq && x.live) | none => true)
  let keep := s.ent.reqs.filter (fun r => !dead r)
  (s.ent.reqs.filter dead).foldl (fun u r =>
    if (u.drbg r.drbg).state = 2 ∧ !keep.any (fun q => q.drbg == r.drbg && !q.scheduled) then u.setDrbg r.drbg { u.drbg r.drbg with state := 1 } else u)
    { s with ent := { s.ent with reqs := keep } }

/-- A conditioned entropy block, erased from the pool; a free value where the pool holds none (R293, R307; log 6). -/
def State.takeBlock (s : State) : State × Nat :=
  match s.ent.pool with
  | b :: rest => ({ s with ent := { s.ent with pool := rest } }, b)
  | [] => (s.drawn, s.draw % 2 ^ 256)

/-- Give the pool's next block to the request that is next in order, if the entropy function is READY and the request is `inst` on
`d` (R295, R303): the block is erased. A DRBG for which another reseed on count or demand waits stays held (R299). -/
def State.serveNext (s : State) (d : Nat) (inst : Bool) : State :=
  match s.ent.pool, servedOrder s.ent.reqs with
  | b :: rest, r :: rs =>
    if s.entropyState = 1 ∧ r.drbg = d ∧ r.inst = inst then
      let t := { s with ent := { s.ent with pool := rest, reqs := rs } }
      if inst then t.instantiate d b
      else
        let u := t.reseed d b
        let u := if rs.any (fun q => q.drbg == d && !q.scheduled && !q.inst) then u.setDrbg d { u.drbg d with state := 2 } else u
        if r.cls = 3 then u.inc 0x2800 8 1 else u
    else s
  | _, _ => s

/-- A block enters the pool, or is discarded where the pool holds 64 (R295). -/
def State.addBlock (s : State) (b : Nat) : State :=
  let t := s.inc 0x2800 7 1
  if t.ent.pool.length < 64 then
    { t with ent := { t.ent with pool := t.ent.pool ++ [b], received := t.ent.received + 1 } }
  else t

/-- An entropy occurrence (R305): flags 1 SOURCE_FAIL, 2 DISABLED, 4 FAMINE, 8 RECOVERED, 16 EMPTY_READ; an EVENT frame except for an
empty read, to tenant 0 alone or to every tenant. -/
def State.entropyEvent (s : State) (flags : Nat) (all : Bool) : State :=
  let t := s.event 0x2800 6 flags
  if flags = 16 then t else t.notify 7 (if all then none else some 0) flags

/-- The DRBGs' requests when the entropy function becomes READY from STARTING (R296). -/
def State.instantiateAll (s : State) : State :=
  (List.range 16).foldl (fun u d => u.request ⟨1, d, true, false, none⟩) s

/-- Every stopped DRBG asks for a reseed, a cluster DRBG never instantiated for its instantiation (R304). -/
def State.reseedStopped (s : State) : State :=
  (List.range 80).foldl (fun u d =>
    if (u.drbg d).state = 3 then u.request ⟨drbgClass d, d, false, false, none⟩
    else if d < 16 ∧ (u.drbg d).state = 0 then u.request ⟨1, d, true, false, none⟩ else u) s

/-- ENTROPY_STATE follows the sources and the pool upwards: STARTING or FAMINE to READY (R296, R304, R305). -/
def State.entropyUp (s : State) : State :=
  if s.entropyState = 0 ∧ 4 ≤ s.healthy ∧ 2 ≤ s.ent.received then (s.wr 0x2800 1 1).instantiateAll
  else if s.entropyState = 2 ∧ 4 ≤ s.healthy ∧ 2 ≤ s.ent.pool.length then
    ((s.wr 0x2800 1 1).entropyEvent 8 true).reseedStopped
  else s

/-- Every DRBG that holds state stops when FAMINE begins (R303). -/
def State.stopDrbgs (s : State) : State :=
  { s with ent := { s.ent with drbgs := Map.mapVals (fun g => if g.state = 0 then g else { g with state := 3 }) s.ent.drbgs } }

/-- ZEROIZE_VOLATILE or higher empties the pool and zeroises every DRBG; the entropy function starts again as at cold reset, with no sample left over from
before, but for the sources' states and failure counts and what counts since the last cold reset (R295; log 135). -/
def State.zeroEntropy (s : State) : State :=
  { s.wr 0x2800 1 0 with ent := { s.ent with
      pool := []
      received := 0
      reqs := []
      raw := none
      rawNext := none
      src := Map.mapVals (fun (x : Source) => { x with left := [], lastBit := none, run := 0 }) s.ent.src
      drbgs := Map.mapVals (fun g => { drbgInit with reseeds := g.reseeds }) s.ent.drbgs } }

/-- A tenant's DRBG is zeroised (R100, R298). -/
def State.zeroDrbg (s : State) (d : Nat) : State := s.setDrbg d { drbgInit with reseeds := (s.drbg d).reseeds }

end Machine
end Sys2Proof
end

