-- ==== Sys2Proof/Machine/ChannelOps.lean ====
section
/-! DEFINITION. Releasing completions, freeing channels, abortive closes and tenant resets (01 R14, 03 R47-R52, 04 R86-R101). -/

namespace Sys2Proof
namespace Machine

/-- The ports that carry a channel's frames (R31), the primary where neither link is up. -/
def State.ports2 (s : State) (t : Nat) : Nat × Nat := (s.egress t).getD (s.rd (0x1440 + t) 1, s.rd (0x1440 + t) 1)
/-- The segment size in force for a channel (R53). -/
def State.txSize (s : State) (c : Channel) : Nat := segmentSize (s.rd (0x1400 + (s.ports2 c.tenant).1) 4) c.peer.encap

/-- The highest sequence below the window or at the floor (R49, R94). -/
def Channel.low (c : Channel) : Nat := Nat.max c.floor (c.high - 1024)

/-- On an ordered channel every earlier sequence has been released, or was abandoned below the window (R14, R51). -/
def State.orderReady (s : State) (slot seq : Nat) (c : Channel) : Bool :=
  !c.ordered ||
    (s.jobs.all (fun (j : Job) => j.chan != slot || decide (seq ≤ j.seq) || j.state == .released) &&
      decide (seq ≤ (c.seen.filter (fun q => decide (c.low < q) && decide (q < seq))).length + c.low + 1))

/-- Hand a job's completion to the port, and keep it cached (R14, R47, R50, R52). -/
def State.sendCompletion (s : State) (j : Job) (c : Channel) : State :=
  let size := s.txSize c
  let u := s.sendAs j.chan c j.hdrTenant j.handle 0x2 2 j.queue j.seq j.opcode j.status j.detail j.cookie j.resKey j.result
  let g := match Map.find u.chans j.chan with | some c' => c'.grant | none => c.grant
  let u := { u with chans := Map.update u.chans j.chan (fun c => { c with released := Nat.max c.released j.seq }) }
  u.mapJob j.ref (fun (j : Job) => { j with state := .released, sentAs := some (g, size), reserve := blocksOf j.result.length })

/-- Notice of the loss of a completion that had been handed to a port; its sequence stays retired (R447, R448). -/
def State.noticeLost (s : State) (r : JobRef) : State := (s.notice r.chan 0x7 1 0x51 0xFF (beBytes 8 r.seq)).dropJob r
/-- Release a job's completion where its order allows and a port can carry it (R14, R30); of a lost one, its notice (R448). -/
def State.release (s : State) (r : JobRef) : State :=
  match s.findJob r, Map.find s.chans r.chan with
  | some j, some c =>
    if j.state = .done ∧ c.state ≠ .closing ∧ (s.egress c.tenant).isSome ∧ s.orderReady r.chan r.seq c then s.sendCompletion j c
    else if j.state = .released ∧ j.sentAs = none ∧ (s.egress c.tenant).isSome then s.noticeLost r else s
  | _, _ => s

/-- Send a cached completion again, as first sent (R15, R47, R55), once a port can carry it (R30). -/
def State.resend (s : State) (j : Job) : State :=
  match j.sentAs, Map.find s.chans j.chan with
  | some (g, size), some c =>
    let ps := s.ports2 c.tenant
    let c' := { c with grant := g }
    if (s.egress c.tenant).isNone then { s with waits := s.waits ++ [.again j.ref] } else s.transmit (framesOf size ps.1 ps.2 j.handle c' 0x2 2 j.hdrTenant j.queue j.seq j.opcode j.status j.detail j.cookie j.resKey j.result)
  | _, _ => s

/-- The channel that a waiting completion is for. -/
def TxWait.chan : TxWait → Nat
  | .refusal slot _ _ _ _ _ _ _ _ _ _ => slot
  | .again j => j.chan
/-- Completions that could not be sent go out, oldest first, where a port can carry them now (R30). -/
def State.sendWaiting (s : State) : State :=
  s.waits.foldl (fun u w => match w, Map.find u.chans w.chan with
    | .refusal slot tenant handle queue seq opcode status detail cookie key result, some c =>
      u.sendRefusal slot c tenant handle queue seq opcode status detail cookie key result
    | .again j, some _ => (match u.findJob j with | some x => u.resend x | none => u)
    | _, none => u) { s with waits := [] }

/-- Free what has left a channel's window or is at its floor (R93, R94). -/
def State.trim (s : State) (slot : Nat) : State :=
  match Map.find s.chans slot with
  | none => s
  | some c =>
    { s with
      jobs := s.jobs.filter (fun (j : Job) => !(j.chan == slot && j.state == .released && decide (j.seq ≤ c.low)))
      chans := Map.put s.chans slot { c with seen := c.seen.filter (fun q => decide (c.low < q)) } }

/-- The generation after a channel slot has been freed: 1 to 1,023 (R77). -/
def nextChanGen (g : Nat) : Nat := if 1023 ≤ g then 1 else g + 1

/-- Free a channel: its keys, completions, slots, blocks, streams and credits go, its slot's generation rises, and its jobs' requests for reseeds are withdrawn
(R90, R299). -/
def State.freeChannel (s : State) (slot : Nat) : State :=
  match Map.find s.chans slot with
  | none => s
  | some c =>
    State.withdrawRequests { s with
      chans := Map.erase s.chans slot
      gens := Map.put s.gens slot (nextChanGen c.gen)
      freed := s.freed ++ [slot]
      waits := s.waits.filter (fun w => w.chan != slot)
      jobs := s.jobs.filter (fun (j : Job) => j.chan != slot)
      dstreams := s.dstreams.filter (fun p => p.1 / 16 != slot) }

/-- Clear the saved context of a suspended job and free its scratch allocation and streams (R217, R232). -/
def State.clearSaved (s : State) (j : Job) : State :=
  match Map.find s.saved j.order with
  | none => s.freeEngines j
  | some l =>
    let s := s.freeEngines j
    let c := clusterOf (j.units.headD 0)
    let t := (s.closeStreams l).clearScratch c l.scratchAt l.scratch
    { t.setCluster c { t.cluster c with freeBlocks := (t.cluster c).freeBlocks + l.scratch / 512 } with
      saved := Map.erase t.saved j.order }

/-- Latch an event for every engine a job runs on (R232, R469). -/
def State.latchJob (s : State) (j : Job) (ev : Nat) : State :=
  j.units.foldl (fun u e => u.setEngine e { u.engine e with
    latched := if (u.engine e).latched.contains ev then (u.engine e).latched else (u.engine e).latched ++ [ev] }) s

/-- The job runs on engines now. -/
def Job.running (j : Job) : Bool := j.state == .running

/-- A channel under an abortive close is freed once its last running job has stopped (R89, R90). -/
def State.settleChannel (s : State) (slot : Nat) : State :=
  match Map.find s.chans slot with
  | some c =>
    if c.state = .closing ∧ !s.jobs.any (fun (j : Job) => j.chan == slot && j.running) then s.freeChannel slot else s
  | none => s

/-- Close a channel abortively: undispatched and suspended jobs end, running jobs stop at their next safe point (R89, R139). -/
def State.abortChannel (s : State) (slot : Nat) : State :=
  let mine := s.jobs.filter (fun (j : Job) => j.chan == slot)
  let t := (mine.filter (fun (j : Job) => j.state == .suspended)).foldl (fun u j => u.clearSaved j) s
  let t := (mine.filter Job.running).foldl (fun u j => u.latchJob j 2) t
  let t := { t with
    jobs := t.jobs.filter (fun (j : Job) => !(j.chan == slot && j.live && !j.running))
    chans := Map.update t.chans slot (fun c => { c with state := .closing }) }
  t.settleChannel slot

/-- Release every completion of a tenant that its channels' order allows, lowest sequence first (R99); `n` bounds the passes. -/
def State.releaseAll (s : State) (t : Nat) : Nat → State
  | 0 => s
  | n + 1 =>
    match (s.jobs.filter (fun (j : Job) => j.tenant == t && j.state == .done &&
        (match Map.find s.chans j.chan with | some c => s.orderReady j.chan j.seq c && c.state != .closing | none => false))).head? with
    | some j => (s.release j.ref).releaseAll t n
    | none => s

/-- The tenant's channels, by slot. -/
def State.chansOf (s : State) (t : Nat) : List Nat := (s.chans.filter (fun p => p.2.tenant == t)).map (fun p => p.1)

/-- A message that waits for a tenant reset to end: TENANT_RESET, or the WRITE of a STATE (R99). -/
def State.awaitsReset (s : State) (r : JobRef) : Bool := s.tenants.any (fun p => p.2.resetReqs.contains r)
/-- A message joins those that the reset of a tenant answers (R99, R101). -/
def State.joinReset (s : State) (t : Nat) (r : JobRef) : State := s.setTen t { s.ten t with resetReqs := (s.ten t).resetReqs ++ [r] }
/-- A TENANT_RESET that its channel's role allows: role O for any tenant, role A for its own (R99). -/
def Job.resetAllowed (j : Job) (c : Channel) : Bool :=
  let t := fieldAt j.payload 0 1
  decide (t < 64) && (c.role == 1 || (c.role == 2 && t == c.tenant))
/-- A TENANT_RESET of a tenant, from a channel of its own, that has not been served yet (R101). -/
def State.asksSame (s : State) (t : Nat) (j : Job) : Bool :=
  j.kind == 0x5 && j.opcode == 6 && j.state == .queued && j.tenant == t && fieldAt j.payload 0 1 == t &&
    (match Map.find s.chans j.chan with | some c => j.resetAllowed c | none => false)
/-- Answer a tenant reset's request: OK, sent before its own channel is freed, or dropped where its port is down (R99, R100). The WRITE of several STATEs is
answered by the last of its resets, or by that of its own tenant. -/
def State.answerReset (s : State) (t : Nat) (r : JobRef) : State :=
  match s.findJob r, Map.find s.chans r.chan with
  | some j, some c =>
    if c.tenant ≠ t ∧ s.tenants.any (fun p => p.1 != t && p.2.resetReqs.contains r) then s
    else
      let u := s.finish r 0 0 j.result none
      match u.findJob r with
      | some j => if c.tenant = t ∧ c.state ≠ .closing ∧ j.state = .done ∧ (u.egress t).isSome then u.sendCompletion j c else u
      | none => u
  | _, _ => s

/-- A tenant reset ends once the tenant's running jobs have stopped: completions go out, channels are freed, volatile keys and the DRBG are
zeroised, the DRBG's request for a block withdrawn, and the requests are answered (R99, R100). -/
def State.settleReset (s : State) (t : Nat) : State :=
  let ten := s.ten t
  if ten.resetting ∧ !s.jobs.any (fun (j : Job) => j.tenant == t && j.running) then
    let u := if (s.egress t).isSome then s.releaseAll t s.jobs.length else s
    let u := ten.resetReqs.foldl (fun u r => u.answerReset t r) u
    let u := (u.chansOf t).foldl (fun u slot => u.freeChannel slot) u
    let u := { u with ent := { u.ent with reqs := u.ent.reqs.filter (fun r => r.drbg != tenantDrbg t) } }
    let u := ((u.zeroVolatile (some t)).zeroDrbg (tenantDrbg t)).event (0x1800 + t) 0x33 1
    u.setTen t { u.ten t with resetting := false, resetReqs := [] }
  else s

/-- Start a tenant reset, or join the one that runs (R99, R101): undispatched and suspended jobs end with TENANT_RESET, a draining CLOSE
among them; running jobs stop at their next safe point. Requests of the same kind that wait on the tenant's own channels join. -/
def State.resetTenant (s : State) (t : Nat) (req : Option JobRef) : State :=
  let ten := s.ten t
  let same := if ten.resetting then [] else (s.jobs.filter (fun (j : Job) => s.asksSame t j && req != some j.ref)).map Job.ref
  let reqs := ten.resetReqs ++ req.toList ++ same
  if ten.resetting then s.setTen t { ten with resetReqs := reqs }
  else
    let keep := fun (j : Job) => reqs.contains j.ref
    let mine := s.jobs.filter (fun (j : Job) => j.tenant == t && !keep j)
    let u := (mine.filter (fun (j : Job) => j.state == .suspended)).foldl (fun u j => u.clearSaved j) s
    let u := (mine.filter Job.running).foldl (fun u j => u.latchJob j 1) u
    let u := { u with jobs := u.jobs.map (fun (j : Job) =>
      if j.tenant == t && !keep j && j.live && !j.running then j.ended 0x60 0 (s.resultOf j.kind 0x60 []) j.key else j) }
    (u.setTen t { u.ten t with resetting := true, resetReqs := reqs }).settleReset t

/-- Channels and tenants that wait for running jobs to stop go on where none runs any more (R89, R99). -/
def State.settle (s : State) : State :=
  let t := ((s.chans.filter (fun p => p.2.state == .closing)).map (fun p => p.1)).foldl (fun u slot => u.settleChannel slot) s
  (((t.tenants.filter (fun p => p.2.resetting)).map (fun p => p.1)).foldl (fun u i => u.settleReset i) t).sweepKeys.withdrawRequests

end Machine
end Sys2Proof
end

