-- ==== Sys2Proof/Machine/Schedule.lean ====
section
/-! DEFINITION. The lap scheduler: units and holdings, budgets, charges, admission, and what dispatch, suspension and the end of a job do
(06 R124-R142, 09 R198, R213-R217, 10 R232-R237, 21 R446, R449). -/

namespace Sys2Proof
namespace Machine

/-! ### Units, reserve and holdings (R130, R131, R133) -/

/-- The cluster of a unit. -/
def unitCluster (u : Nat) : Nat :=
  if u < 256 then u / 4 else if u < 768 then u % 256 / 8 else if u < 1024 then u % 256 else u % 256 / 2
/-- The unit exists (*Allowance classes*). -/
def unitExists (u : Nat) : Bool :=
  decide (u < 64) || (decide (256 ≤ u) && decide (u < 384)) || (decide (512 ≤ u) && decide (u < 640)) ||
    (decide (768 ≤ u) && decide (u < 784)) || (decide (1024 ≤ u) && decide (u < 1056))
/-- The units of a holding block: an LE, a hash-core pair, a BE or an AES-GCM core. -/
def blockUnits (cl : EngClass) (b : Nat) : List Nat :=
  match cl with
  | .le => [b]
  | .hc => [keccakUnit b, shaUnit b]
  | .be => [beUnit b]
  | .aead => [aesUnit b]
def blockCount : EngClass → Nat
  | .le => 64
  | .hc => 128
  | .be => 16
  | .aead => 32
/-- The type of a unit as event-log rows give it: 1 LE, 2 Keccak core, 3 SHA-2 core, 4 BE, 5 AES-GCM core (R453). -/
def unitType (u : Nat) : Nat := if u < 256 then 1 else if u < 512 then 2 else if u < 768 then 3 else if u < 1024 then 4 else 5
/-- A unit's index within its cluster (R453). -/
def unitIndex (u : Nat) : Nat := if u < 256 then u % 4 else if u < 768 then u % 8 else if u < 1024 then 0 else u % 2
/-- The units of a cluster. -/
def clusterUnits (c : Nat) : List Nat :=
  (List.range 4).map (fun i => 4 * c + i) ++ (List.range 8).map (fun i => keccakUnit (8 * c + i)) ++ (List.range 8).map (fun i => shaUnit (8 * c + i)) ++ [beUnit c] ++
    (List.range 2).map (fun i => aesUnit (2 * c + i))
/-- The allowance units of a holding block (*Allowance classes*). -/
def blockValue : EngClass → Nat
  | .le | .be => 1000
  | .hc => 2000
  | .aead => 781250
/-- Installed capacity per ms. -/
def installed (cl : EngClass) : Nat := blockCount cl * blockValue cl
/-- The place of a class in the order LE, HC, BE, AEAD. -/
def classIndex : EngClass → Nat
  | .le => 0
  | .hc => 1
  | .be => 2
  | .aead => 3

/-- A unit out of service: fenced, or with a fence latched or asked for, or under self-test. -/
def Engine.out (e : Engine) : Bool := e.fenced || e.ownerFence || e.selfTest || e.latched.contains 3
/-- A block that can serve: none of its units is out of service. -/
def State.blockOk (s : State) (cl : EngClass) (b : Nat) : Bool := (blockUnits cl b).all (fun u => !(s.engine u).out)
/-- Every unit of a block runs nothing. -/
def State.blockIdle (s : State) (cl : EngClass) (b : Nat) : Bool := (blockUnits cl b).all (fun u => (s.engine u).job == none)
def State.blockHolder (s : State) (cl : EngClass) (b : Nat) : Holder := (s.engine ((blockUnits cl b).headD 0)).holder
/-- Give a block to a holder; a job that runs on it is preempted at its next safe point (R133). -/
def State.giveBlock (s : State) (cl : EngClass) (b : Nat) (h : Holder) : State :=
  (blockUnits cl b).foldl (fun v u =>
    let e := v.engine u
    v.setEngine u { e with holder := h, latched := if e.job.isSome && h != .pool && !e.latched.contains 6 then e.latched ++ [6] else e.latched }) s
/-- The serving blocks of a class with a holder, highest first: the order of R130. -/
def State.blocksWith (s : State) (cl : EngClass) (h : Holder) : List Nat :=
  ((List.range (blockCount cl)).filter (fun b => s.blockHolder cl b == h && s.blockOk cl b)).reverse
/-- The CHECKPOINT that is being signed carries a co-signature: 3 SLH-DSA, 4 ECDSA (R363). -/
def State.cosigned (s : State) (i : ReserveItem) (bit : Nat) : Bool := i == .checkpoint && s.trav.ring.any (fun b => b.kind == 0x0C && !b.signed && bitAt b.flags bit)
/-- The cluster of a hash-core pair. -/
def pairCluster (p : Nat) : Nat := unitCluster (keccakUnit p)
/-- What an item of reserve work holds: its LE, its hash-core pairs and its BE. -/
structure ReserveHold where
  item : ReserveItem
  le : Nat
  pairs : List Nat
  be : Option Nat
  deriving DecidableEq, Repr
/-- The work that reserve units run: each item in its order takes a free reserve LE, where it can one whose cluster has a free reserve pair, and a pair; a
CHECKPOINT with an SLH-DSA co-signature up to eight pairs of its LE's cluster, one with an ECDSA co-signature a BE (R130, R363; log 114). -/
def State.giveReserve (s : State) : List ReserveItem → List Nat → List Nat → List Nat → List ReserveHold
  | [], _, _, _ => []
  | i :: rest, les, pairs, bes =>
    let near := les.find? (fun e => pairs.any (fun p => pairCluster p == unitCluster e))
    match (match near with | some e => some e | none => les.head?) with
    | none => s.giveReserve rest les pairs bes
    | some e =>
      let mine := if near.isSome then (pairs.filter (fun p => pairCluster p == unitCluster e)).take (if s.cosigned i 3 then 8 else 1) else pairs.take 1
      let be := if s.cosigned i 4 then bes.head? else none
      if mine = [] ∨ (s.cosigned i 4 ∧ be = none) then s.giveReserve rest les pairs bes
      else ⟨i, e, mine, be⟩ :: s.giveReserve rest (les.filter (fun x => x != e)) (pairs.filter (fun p => !mine.contains p)) (bes.filter (fun x => some x != be))
/-- The reserve blocks of a class that no tenant's job runs on any more: one taken over serves once that job has left it (R130, R133). -/
def State.reserveFree (s : State) (cl : EngClass) : List Nat := (s.blocksWith cl .reserve).filter (fun b => s.blockIdle cl b)
/-- The reserve work that runs, with the units of each item. -/
def State.reserveRunning (s : State) : List ReserveHold :=
  s.giveReserve (s.rwork.filter s.standing) (s.reserveFree .le) (s.reserveFree .hc) (s.reserveFree .be)
/-- An item of reserve work runs; until then it waits for units held by earlier reserve work (R130). -/
def State.reserveRuns (s : State) (i : ReserveItem) : Bool := s.reserveRunning.any (fun h => h.item == i)
/-- Units that do not serve go back to the pool: they are replaced, and return to it later (R133). -/
def State.dropFenced (s : State) (cl : EngClass) : State :=
  (List.range (blockCount cl)).foldl (fun u b =>
    if u.blockOk cl b ∨ u.blockHolder cl b = .pool then u else u.giveBlock cl b .pool) s
/-- How many blocks of a class the reserve is to hold (R130). -/
def State.reserveSize (s : State) (cl : EngClass) : Nat := if cl = .aead then 0 else s.rd 0x1A00 (2 + classIndex cl)
/-- A tenant holds units: its MODE is SEALED, or a job classified while it was has not ended (R131, R136). -/
def State.holds (s : State) (t : Nat) : Bool := s.rd (0x1900 + t) 1 == 1 || s.jobs.any (fun (j : Job) => j.tenant == t && j.isSealed && j.live)
/-- How many blocks of a class a tenant is to hold: its allowance while its MODE is SEALED (R131); afterwards what it holds, until the jobs admitted in that
mode have finished (R136). -/
def State.holdingSize (s : State) (t : Nat) (cl : EngClass) : Nat :=
  if s.rd (0x1900 + t) 1 = 1 then s.rd (0x1900 + t) (2 + classIndex cl) / blockValue cl
  else if s.holds t then (s.blocksWith cl (.tenant t)).length else 0
/-- The block the reserve takes next: from the pool, else from the highest-numbered sealed tenant that holds one (R130, R133). -/
def State.reservePick (s : State) (cl : EngClass) : Option Nat :=
  match s.blocksWith cl .pool with
  | b :: _ => some b
  | [] => ((List.range 64).reverse.findSome? (fun t => (s.blocksWith cl (.tenant t)).head?))
/-- Fill or empty the reserve of a class; `n` bounds the steps. -/
def State.fitReserve (s : State) (cl : EngClass) : Nat → State
  | 0 => s
  | n + 1 =>
    let held := s.blocksWith cl .reserve
    if held.length < s.reserveSize cl then
      match s.reservePick cl with
      | some b => (s.giveBlock cl b .reserve).fitReserve cl n
      | none => s
    else if s.reserveSize cl < held.length then (s.giveBlock cl (held.getLastD 0) .pool).fitReserve cl n
    else s
/-- The cluster of a block. -/
def blockCluster (cl : EngClass) (b : Nat) : Nat := unitCluster ((blockUnits cl b).headD 0)
/-- Blocks of a class in a cluster that are the tenant's, or the pool's and free to take: `busy` counts those that run a job. -/
def State.offered (s : State) (t : Nat) (cl : EngClass) (busy : Bool) (c : Nat) : Nat :=
  ((s.blocksWith cl (.tenant t) ++ (s.blocksWith cl .pool).filter (fun b => busy || s.blockIdle cl b)).filter (fun b => blockCluster cl b == c)).length
/-- The first `k` or fewer clusters, of those listed with the LEs and hash-core pairs that each offers, that together offer `le` LEs and `hc` pairs. -/
def coverOf : Nat → List (Nat × Nat × Nat) → Nat → Nat → Option (List Nat)
  | _, [], le, hc => if le = 0 ∧ hc = 0 then some [] else none
  | k, (c, a, b) :: rest, le, hc =>
    if le = 0 ∧ hc = 0 then some []
    else if k = 0 then none
    else match coverOf (k - 1) rest (le - a) (hc - b) with
      | some cs => some (c :: cs)
      | none => coverOf k rest le hc
/-- The fewest clusters in which a sealed tenant's LEs and hash-core pairs can lie (R131); those where it holds units come first. None where no clusters offer
so many. -/
def State.clustersFor (s : State) (t : Nat) (busy : Bool) : Option (List Nat) :=
  let mine := fun c => s.blocksWith .le (.tenant t) ++ s.blocksWith .hc (.tenant t) != [] &&
    ((s.blocksWith .le (.tenant t)).any (fun b => blockCluster .le b == c) || (s.blocksWith .hc (.tenant t)).any (fun b => blockCluster .hc b == c))
  let cs := (List.range 16).filter mine ++ (List.range 16).filter (fun c => !mine c)
  let offers := cs.map (fun c => (c, s.offered t .le busy c, s.offered t .hc busy c))
  (List.range 17).findSome? (fun k => coverOf k offers (s.holdingSize t .le) (s.holdingSize t .hc))
/-- The block a sealed tenant takes next: in the fewest clusters that serve it, the highest-numbered block first (R131; log 26). `busy` lets it take units that
run a job. -/
def State.holdingPick (s : State) (t : Nat) (cl : EngClass) (busy : Bool) : Option Nat :=
  let cs := (s.clustersFor t busy).getD (List.range 16)
  let pool := (s.blocksWith cl .pool).filter (fun b => busy || s.blockIdle cl b)
  match pool.find? (fun b => cs.contains (blockCluster cl b)) with
  | some b => some b
  | none => if cl = .be ∨ cl = .aead then pool.head? else none
/-- A tenant's idle LEs and hash-core pairs outside the fewest clusters go back to the pool, where units it can take at once stand in those (R131). -/
def State.gather (s : State) (t : Nat) (cl : EngClass) : State :=
  match s.clustersFor t false with
  | none => s
  | some cs =>
    if cl = .be ∨ cl = .aead then s
    else ((s.blocksWith cl (.tenant t)).filter (fun b => !cs.contains (blockCluster cl b) && s.blockIdle cl b)).foldl (fun u b => u.giveBlock cl b .pool) s
/-- Fill or empty a tenant's holding of a class. -/
def State.fitHolding (s : State) (t : Nat) (cl : EngClass) (busy : Bool) : Nat → State
  | 0 => s
  | n + 1 =>
    let held := s.blocksWith cl (.tenant t)
    if held.length < s.holdingSize t cl then
      match s.holdingPick t cl busy with
      | some b => (s.giveBlock cl b (.tenant t)).fitHolding t cl busy n
      | none => s
    else if s.holdingSize t cl < held.length then (s.giveBlock cl (held.headD 0) .pool).fitHolding t cl busy n
    else s
/-- Tenants that hold blocks or are to hold some. -/
def State.holders (s : State) : List Nat :=
  (List.range 64).filter (fun t => s.holds t || s.units.any (fun p => p.2.holder == .tenant t))
/-- A sealed tenant is left with fewer blocks than its allowance, and than it held in `old` (R133). -/
def State.sealedShort (old s : State) : Bool :=
  s.holders.any (fun t => classes.any (fun cl =>
    decide ((s.blocksWith cl (.tenant t)).length < s.holdingSize t cl) && decide ((s.blocksWith cl (.tenant t)).length < (old.blocksWith cl (.tenant t)).length)))
/-- The pool's capacity of a class per ms (entries 0x1A00.07 to .0A): a hash core counts half its pair. -/
def State.poolCapacity (s : State) (cl : EngClass) : Nat :=
  ((List.range (blockCount cl)).map (fun b =>
    ((blockUnits cl b).filter (fun u => (s.engine u).holder == .pool && !(s.engine u).out)).length *
      (blockValue cl / (blockUnits cl b).length))).sum
/-- The allowances of the pooled tenants in a class. -/
def State.pooledSum (s : State) (cl : EngClass) : Nat :=
  ((List.range 64).map (fun t => if s.rd (0x1900 + t) 1 = 1 then 0 else s.rd (0x1900 + t) (2 + classIndex cl))).sum
/-- The ratio that every pooled budget of a class is multiplied by, in per mille (R133). -/
def State.scaleNow (s : State) (cl : EngClass) : Nat :=
  if s.poolCapacity cl < s.pooledSum cl then s.poolCapacity cl * 1000 / s.pooledSum cl else 1000
/-- SCALE follows the pool's capacity, and a change is flagged SCALED (R133). -/
def State.rescale (s : State) : State :=
  let v := s.scaleNow .le * 2 ^ 48 + s.scaleNow .hc * 2 ^ 32 + s.scaleNow .be * 2 ^ 16 + s.scaleNow .aead
  if s.rd 0x1A00 0xB = v then s else (s.wr 0x1A00 0xB v).event 0x1A00 0xC 4
/-- The reserve is placed anew, as its entries are written: on the highest serving blocks of each class, whoever held them (R130). -/
def State.placeReserve (s : State) (cl : EngClass) : State :=
  let serving := ((List.range (blockCount cl)).filter (fun b => s.blockOk cl b)).reverse
  let top := serving.take (s.reserveSize cl)
  let t := ((s.blocksWith cl .reserve).filter (fun b => !top.contains b)).foldl (fun u b => u.giveBlock cl b .pool) s
  (top.filter (fun b => t.blockHolder cl b != .reserve)).foldl (fun u b => u.giveBlock cl b .reserve) t
/-- Reserve, holdings and pool follow the entries and the fences, from how they stood in `old`: `busy` after a fence, when units that run a job are taken
over; after a write units are taken as each becomes free (R130, R131, R133, R136). -/
def State.rebalanceFrom (old s : State) (busy : Bool) : State :=
  let t := classes.foldl (fun u cl => u.dropFenced cl) s
  let t := classes.foldl (fun u cl => u.fitReserve cl 16) t
  let t := s.holders.foldl (fun u i => classes.foldl (fun u cl => (if busy then u else u.gather i cl).fitHolding i cl busy 256) u) t
  let t := if t.holders.any (fun _ => true) && old.sealedShort t then t.event 0x1A00 0xC 8 else t
  t.rescale
def State.rebalance (s : State) (busy : Bool) : State := s.rebalanceFrom s busy
/-- RESERVE_LE, RESERVE_HC or RESERVE_BE is written (R130). -/
def State.reserveWritten (s : State) : State := s.rebalanceFrom (classes.foldl (fun u cl => u.placeReserve cl) s) false

/-! ### Budgets and charges (R128, R134-R139) -/

/-- The lap lengths of entry 0x1A00.01 in µs (R124). -/
def lapMicros (code : Nat) : Nat := [125, 250, 500, 1000, 2000].getD code 1000
/-- The budget of a pooled tenant in the running lap (R126, R128, R133). -/
def State.budget (s : State) (t : Nat) (cl : EngClass) : Nat :=
  let v := s.rd (0x1900 + t) (2 + classIndex cl)
  let b := if cl = .aead then v * s.lap.length / 1000 else v * s.lap.length * 5 / 4
  let b := match s.lap.short with
    | some n => b * n / (s.lap.length * 1000)
    | none => b
  b * (s.rd 0x1A00 0xB / 2 ^ (48 - 16 * classIndex cl) % 2 ^ 16) / 1000

/-- A job's typical cost in a class. -/
def State.typ (s : State) (j : Job) (cl : EngClass) : Nat := (s.jobCost j).1.get cl
/-- E: what the tenant's running jobs on own allowance, `r` apart, may still take (R134). -/
def State.commitment (s : State) (r : JobRef) (t : Nat) (cl : EngClass) : Nat :=
  ((s.jobs.filter (fun (j : Job) => j.tenant == t && j.running && !j.borrowed && !j.isSealed && j.ref != r)).map (fun (j : Job) => s.typ j cl - j.charged.get cl)).sum
/-- What a job must find left of its tenant's budget: the typical cost, of a job already on its way the rest of it (R134, R138). -/
def State.need (s : State) (j : Job) (cl : EngClass) : Nat :=
  if j.state = .suspended ∨ j.running then s.typ j cl - j.charged.get cl else s.typ j cl
/-- A job can be admitted on its tenant's own allowance (R134, R138). -/
def State.ownAdmissible (s : State) (j : Job) : Bool :=
  classes.all (fun cl =>
    let b := s.budget j.tenant cl
    let c := (s.ten j.tenant).charge.get cl
    let e := s.commitment j.ref j.tenant cl
    s.typ j cl == 0 || (b != 0 && (decide (c + e + s.need j cl ≤ b) || (decide (b < s.need j cl) && c == 0 && e == 0))))

/-- Charge work to a job and its tenant (R129, R135, R140); a sealed tenant's work is counted, and draws on no budget. -/
def State.charge (s : State) (r : JobRef) (w : Work) : State :=
  match s.findJob r with
  | none => s
  | some j =>
    let t := s.mapJob r (fun (j : Job) => { j with
      charged := j.charged.add w
      lapCharged := if j.borrowed then j.lapCharged else j.lapCharged.add w
      lapBorrowed := if j.borrowed then j.lapBorrowed.add w else j.lapBorrowed })
    let ten := t.ten j.tenant
    if j.borrowed then t.setTen j.tenant { ten with borrowed := ten.borrowed.add w }
    else t.setTen j.tenant { ten with charge := if j.isSealed then ten.charge else ten.charge.add w, own := ten.own.add w }

/-- The most that a job is charged: its worst cost, and a hash message what saving and loading it has cost besides (R173, R284). -/
def State.worstOf (s : State) (j : Job) : Work := (s.jobCost j).2.add j.extra
/-- Cycles that a kernel's LE has waited and that its job has not been charged (R129). -/
def State.unbilled (s : State) (j : Job) : Nat := ((j.units.filter (fun u => decide (u < 256))).map (fun u => (s.le u).waited - (s.le u).billed)).sum
/-- The waits so far count as charged. -/
def State.billWaits (s : State) (j : Job) : State :=
  if j.kernel.isSome then (j.units.filter (fun u => decide (u < 256))).foldl (fun u e => u.setLe e { u.le e with billed := (u.le e).waited }) s else s
/-- What a running job's engines have done and it has not been charged: a free amount, within its worst cost; of an owner kernel, which is charged as its
microwords run, what its LE has waited (R129, R135, R173; log 12). -/
def State.soFar (s : State) (j : Job) : Work :=
  let left := (s.worstOf j).sub j.charged
  if j.kernel.isSome then (⟨s.unbilled j, 0, 0, 0⟩ : Work).min left
  else ⟨Config.free s.free % (left.le + 1), Config.free (s.free + 1) % (left.hc + 1), Config.free (s.free + 2) % (left.be + 1), Config.free (s.free + 3) % (left.aead + 1)⟩
/-- Charges accrue as the engine works: a running job is charged up to now (R135). -/
def State.accrue (s : State) (j : Job) : State := ({ s with free := s.free + 4 }.charge j.ref (s.soFar j)).billWaits j
/-- Jobs running in a class on their tenant's own allowance. -/
def State.ownRunning (s : State) (cl : EngClass) : List Job :=
  s.jobs.filter (fun (j : Job) => j.running && !j.borrowed && !j.isSealed && s.typ j cl != 0)
/-- Lap-end suspension is latched for every job of a tenant whose C has reached its budget (R137). -/
def State.latchSpent (s : State) : State :=
  classes.foldl (fun u cl => ((u.ownRunning cl).filter (fun (j : Job) => decide (u.budget j.tenant cl ≤ (u.ten j.tenant).charge.get cl))).foldl
    (fun v (j : Job) => v.latchJob j 4) u) s
/-- Every running job is charged up to now. -/
def State.accrueAll (s : State) : State := ((s.jobs.filter Job.running).foldl (fun u j => u.accrue j) s).latchSpent

/-- The cycles of a context save or restore of a unit, charged in the class of the unit (R137, R216, R469); of a hash core a free number, at most 0.35 µs
(R284). -/
def State.switchWork (s : State) (u : Nat) : Work :=
  if u < 256 then ⟨300, 0, 0, 0⟩ else if u < 768 then ⟨0, s.draw % 438, 0, 0⟩ else if u < 1024 then ⟨0, 0, 300, 0⟩ else noWork
/-- A job is charged the saves or restores of its units: a hash message in addition to its work, another job within its worst cost (R173, R284). -/
def State.chargeSwitch (s : State) (r : JobRef) (units : List Nat) : State :=
  units.foldl (fun u e =>
    let w := u.switchWork e
    match u.findJob r with
    | none => u
    | some j =>
      if j.hashMessage then (u.drawn.mapJob r (fun (j : Job) => { j with extra := j.extra.add w })).charge r w
      else u.drawn.charge r (w.min ((u.worstOf j).sub j.charged))) s
/-- Octets of a hash message's data that its midstate holds when its run is broken off, up to the last block boundary: a free number (R282, R283). -/
def State.midOf (s : State) (j : Job) : Nat := if j.hashMessage then j.mid + s.draw % (j.payload.length - j.mid + 1) else 0

/-- Withdraw what an abandoned attempt was charged in the running lap, from C and from the borrowed counters as each was charged; C never falls below the
deficit (R139, R446). -/
def State.withdraw (s : State) (r : JobRef) : State :=
  match s.findJob r with
  | none => s
  | some j =>
    let ten := s.ten j.tenant
    let c := if j.isSealed then ten.charge else (ten.charge.sub j.lapCharged).max ten.deficit
    let gone := if j.isSealed then j.lapCharged else ten.charge.sub c
    let kept := j.charged.sub (j.lapCharged.add j.lapBorrowed)
    let t := s.mapJob r (fun (j : Job) => { j with
      charged := kept
      lapCharged := noWork
      lapBorrowed := noWork
      extra := if j.hashMessage then kept else noWork })
    t.setTen j.tenant { ten with charge := c, own := ten.own.sub gone, borrowed := ten.borrowed.sub j.lapBorrowed }

/-! ### Ends of jobs -/

/-- A job leaves its engines: its LE is cleared, its streams closed, its engines free (R211, R217). -/
def State.unload (s : State) (j : Job) : State :=
  if j.state = .suspended then s.clearSaved j
  else
    let t := (j.units.filter (fun u => decide (u < 256))).foldl (fun u e => u.clearLe e) s
    t.freeEngines j

/-- A running or suspended job ends: it leaves its engines and gets its status (R13, R217). A fault status at an LE counts in the cluster's ENGINE_EVENTS with
`clFlag` (R220). -/
def State.endJob (s : State) (r : JobRef) (status detail clFlag : Nat) (result : Bytes) (key : Option Nat) : State :=
  match s.findJob r with
  | none => s
  | some j =>
    let t := s.unload j
    let t := t.mapJob r (fun (j : Job) => { j with units := [] })
    let t := if isFaultStatus status ∧ clFlag ≠ 0 then t.event (0x2000 + clusterOf (j.units.headD 0)) 7 clFlag else t
    (t.finish r status detail result key).settle

/-- A running job is ended by something other than its own work: it is charged up to now (R135, R139). -/
def State.cutJob (s : State) (j : Job) (status detail clFlag : Nat) : State :=
  (if j.running then s.accrue j else s).endJob j.ref status detail clFlag [] none

/-- A job's slot is dropped without a completion, as under an abortive close (R89). -/
def State.discardJob (s : State) (r : JobRef) : State :=
  match s.findJob r with
  | none => s
  | some j => ((s.unload j).dropJob r).settle

/-- Back to its queue with precedence, to be run again from its inputs (R139, R446, R449), a STREAM message from its context as last written (R287). -/
def State.requeue (s : State) (j : Job) : State :=
  (s.unload j).mapJob j.ref (fun (j : Job) => { j with state := .queued, units := [], prec := true, borrowed := false, mid := if j.kind = 0x3 then j.mid else 0 })

/-- A move: the charge of the abandoned attempt, made and withdrawn, leaves what it was, and the job is run again from its inputs (R139, R449). -/
def State.moveJob (s : State) (j : Job) : State := (s.withdraw j.ref).requeue j

/-! ### Queue heads and turns (R92, R134, R140) -/

/-- Messages that the lap scheduler dispatches: JOB and STREAM. -/
def Job.scheduled (j : Job) : Bool := j.kind == 0x1 || j.kind == 0x3
/-- A DICT or CONTROL message that the management cores have taken and not yet ended: it waits for a reset, for its channel to drain, for the journal, for
the ring or for the group. -/
def State.inHand (s : State) (j : Job) : Bool :=
  !j.scheduled && (s.awaitsReset j.ref || (match Map.find s.chans j.chan with | some c => c.closeSeq == some j.seq || c.enrolSeq == some j.seq | none => false) ||
    (s.dtx.journal.any (fun g => g.j == some j.ref)) || s.trav.waiters.contains j.ref || s.grp.reads.any (fun r => r.2.1 == j.ref) ||
    s.grp.writes.any (fun w => w.job == some j.ref))
/-- The head of its queue: queued, with no earlier message in the queue (R92). What the engines run and what the management cores carry out wait for their
own kind only: R99 and R112 bound CONTROL and DICT messages from their classification (log 110). -/
def State.isHead (s : State) (j : Job) : Bool :=
  j.state == .queued && !s.inHand j &&
    s.jobs.all (fun (x : Job) => !(x.tenant == j.tenant && x.queue == j.queue && x.scheduled == j.scheduled && x.state == .queued && !s.inHand x &&
      decide (x.order < j.order)))
/-- A head, a retry or a move, or a suspended job, of a pooled tenant, that its own allowance admits. -/
def State.ownReady (s : State) (j : Job) : Bool :=
  !j.isSealed && (j.state == .suspended || s.isHead j) && s.ownAdmissible j
/-- No pooled tenant has work that is admissible on own allowance, other than `r` (R140). -/
def State.noOwnWork (s : State) (r : JobRef) : Bool :=
  s.jobs.all (fun (x : Job) => x.ref == r || !(s.ownReady x && classes.any (fun cl => s.typ x cl != 0)))
/-- Units of a class that the pool could give now. -/
def State.poolIdle (s : State) (cl : EngClass) : List Nat :=
  ((List.range (blockCount cl)).flatMap (fun b => blockUnits cl b)).filter (fun u => (s.engine u).holder == .pool && (s.engine u).idle)
/-- How far a tenant is from its turn, after the tenant last served (R134, R140). -/
def turnAfter (last t : Nat) : Nat := (t + 63 - last) % 64
/-- It is the tenant's turn in a class among the tenants that wait: no waiting tenant stands before it, or there are units for all (R134). -/
def State.turnOk (s : State) (turn : Map Nat) (wait : Job → Bool) (t : Nat) (cl : EngClass) : Bool :=
  let waiting := s.jobs.filter (fun (x : Job) => wait x && s.typ x cl != 0)
  decide (waiting.length ≤ (s.poolIdle cl).length) ||
    waiting.all (fun (x : Job) => decide (turnAfter (Map.getD turn (classIndex cl) 63) t ≤ turnAfter (Map.getD turn (classIndex cl) 63) x.tenant))

/-- Latch preemption for the most recently admitted borrowed job that runs on a pool unit of a class (R140, R446), one for each job that waits on its own
allowance. -/
def State.preemptBorrowed (s : State) (cl : EngClass) : State :=
  let on := s.jobs.filter (fun (x : Job) => x.running && x.borrowed && x.units.any (fun u => unitClass u == cl))
  let going := on.filter (fun (x : Job) => x.units.any (fun u => (s.engine u).latched.contains 5))
  let waiting := s.jobs.filter (fun (x : Job) => (s.ownReady x || (x.state == .queued && x.prec && !x.isSealed && s.ownAdmissible x)) && s.typ x cl != 0)
  let cands := on.filter (fun (x : Job) => !x.units.any (fun u => (s.engine u).latched.contains 5))
  if waiting.length ≤ going.length then s else match cands.foldl (fun (best : Option Job) x => match best with
      | some a => if a.admitted < x.admitted then some x else some a
      | none => some x) none with
  | some x => s.latchJob x 5
  | none => s

/-! ### Suspension (R137, R138, R216, R232, R283) -/

/-- Flags of SUSPEND_EVENTS for the classes of a job's units. -/
def suspendFlags (units : List Nat) (preempted : Bool) : Nat :=
  (classes.filter (fun cl => units.any (fun u => unitClass u == cl))).foldl (fun f cl => f + 2 ^ classIndex cl) (if preempted then 16 else 0)

/-- The microsequencer state of R234: the resume address, the class and the stack depth in one word with the mailbox's count, the eight stack entries, and
the mailbox's four words (log 112). -/
def Le.sequencerWords (l : Le) : List Tagged :=
  let r := l.regs
  ⟨r.upc % 2 ^ 14 + (if r.secret then 2 ^ 14 else 0) + r.stack.length % 16 * 2 ^ 15 + r.mailbox.length % 8 * 2 ^ 19, false⟩ ::
    (List.range 8).map (fun i => ⟨r.stack.getD i 0 % 2 ^ 72, false⟩) ++ (List.range 4).map (fun i => r.mailbox.getD i ⟨0, false⟩)
/-- What a context save writes, in the order of R216 and R234, with the tags: V0 to V31, A0 to A15, M0 to M7 in four words each, Q0 to Q3 in two each, and the
microsequencer state (log 112). -/
def Le.contextWords (l : Le) : List Tagged :=
  (List.range 512).map (fun k => (l.vreg (k / 16)).word (k % 16)) ++ (List.range 16).map (fun k => l.areg k) ++
    (List.range 32).map (fun k => ⟨laneAt 72 (l.mreg (k / 4)).val (k % 4), (l.mreg (k / 4)).sec⟩) ++
    (List.range 8).map (fun k => ⟨laneAt 72 (bitsOfDesc (l.desc (k / 2))) (k % 2), false⟩) ++ l.sequencerWords
/-- They are written into the context save area, words 0 onwards of the scratch allocation (R215, R216; log 112). -/
def State.saveContext (s : State) (e : Nat) (l : Le) : State :=
  l.contextWords.zipIdx.foldl (fun u p => u.setCword (clusterOf e) (l.scratchAt + p.2) p.1) s
/-- Save a running job's context and suspend it (R137, R216): it is charged its work so far and the save, and keeps its scratch allocation and
its streams; a hash message's midstate is in its context (R283). -/
def State.suspendJob (s : State) (j : Job) (preempted : Bool) : State :=
  let t := (s.accrue j).chargeSwitch j.ref j.units
  let t := (j.units.filter (fun u => decide (u < 256))).foldl (fun u e =>
    let l := u.le e
    { (u.saveContext e l).setLe e { leInit with maskCount := l.maskCount, maskTenant := l.maskTenant, maskStopped := l.maskStopped } with
      saved := Map.put u.saved j.order l }) t
  let t := j.units.foldl (fun u e => u.setEngine e (u.engine e).leave) t
  let t := { t.drawn.mapJob j.ref (fun (j : Job) => { j with state := .suspended, waitSince := none, admitted := s.order, mid := t.midOf j }) with order := s.order + 1 }
  t.event (0x1900 + j.tenant) 0x12 (suspendFlags j.units preempted)

end Machine
end Sys2Proof
end

