-- ==== Sys2Proof/Machine/Issue.lean ====
section
/-! DEFINITION. The outcome of issuing a microword on a lattice engine (10 R222-R233, 09 R206, R212, 11 R249-R250, R266, R268). -/

namespace Sys2Proof
namespace Machine

/-- The job of an LE is charged up to now (R135). -/
def State.accrueOn (s : State) (e : Nat) : State :=
  match (s.le e).job with
  | some r => match s.findJob r with
    | some j => if j.running then s.accrue j else s
    | none => s
  | none => s
/-- A job ends on its LE, charged for what it has done, and channels or tenants that waited for it to stop are settled (R89, R99, R135). -/
def State.leDone (s : State) (e status detail clFlag : Nat) (result : Bytes) : State :=
  ((s.accrueOn e).leEnd e status detail clFlag result).settle

/-- The memory fault record (R266). -/
def faultRecord (cause : Nat) (gather : Bool) (element e addr : Nat) : Nat :=
  cause * 2 ^ 68 + (if gather then 2 ^ 67 else 0) + element * 2 ^ 60 + clusterOf e * 2 ^ 56 + (e % 4) * 2 ^ 54 + addr % 2 ^ 36

/-! ### Issue -/

/-- The tenant of the job on an LE; 0xFF where it has none (R453). -/
def State.leTenant (s : State) (e : Nat) : Nat :=
  match (s.le e).job.bind s.findJob with
  | some j => j.tenant
  | none => 0xFF
/-- What comes of a microword at issue. -/
inductive Issue where
  /-- It issues, with this state after it. -/
  | go (s : State)
  /-- TAINT_FAULT before any effect (R206, R207). -/
  | taint
  /-- ENGINE_FAULT (R228). -/
  | engine
  /-- A window or element fault after the effects of `s`, with its detail and record (R212, R266). -/
  | window (s : State) (detail record : Nat)
  /-- The LE holds the microword at issue, waiting on the condition of a code; `s` is the rest of the state. -/
  | hold (s : State) (code : Nat)

/-- End the job of an LE with WINDOW_FAULT and write its fault record into the event log, with the job's tenant (R212, R266, R453). -/
def State.windowFault (s : State) (e detail record : Nat) : State :=
  (s.leDone e 0x52 detail 2 []).logRow 2 1 (clusterOf e) (e % 4) (s.leTenant e) 0x52 record

/-- The microword at an LE's address is one of its cluster's control store that a fetch has found faulty: the LE stalls until it is rewritten (R236). -/
def State.wordBad (s : State) (e : Nat) : Bool := (s.cluster (clusterOf e)).badWords.contains (false, (s.le e).regs.upc)
/-- The condition of a wait code on an LE (*Wait conditions*, R230): `stream` is the condition of STREAM_READY for the operation
at hand. -/
def waitHolds (l : Le) (stream : Bool) (code : Nat) : Bool :=
  match code with
  | 1 => stream
  | 3 => decide (0 < l.maskBuf)
  | 4 => l.keyState == 2
  | 5 => l.regs.mailbox.length != 0
  | _ => true

/-- The LE waits at this microword on the condition of a wait code (R231). -/
def Le.held (l : Le) (code : Nat) : Le := { l with waiting := some code }
/-- The LE has issued: it waits no longer, and its class is the microword's (R222, R231). -/
def Le.issued (l : Le) (sec : Bool) : Le := { l with waiting := none, waited := 0, billed := 0, regs := { l.regs with secret := sec } }

/-- Issue a microword of an operation on its LE (R222-R233). An LE without a job, with its clock stopped (R427) or at a word that waits to be rewritten (R236)
issues nothing; a safe point with an event
latched is not issued (R232: the event is acted on by SAFE_POINT_REACHED); a program fault of R228 or R268 ends the job; a wait whose
condition does not hold keeps the LE waiting; otherwise the operation's body decides. -/
def issue (s : State) (w : Mw) (defined secretOnly : Bool) (need : Option Nat) (stream : Bool)
    (body : State → Le → Issue) : Out :=
  let l := s.le w.le
  if l.job = none ∨ s.clk.gated ∨ s.wordBad w.le then .next s
  else if w.safePoint && (s.engine w.le).latched != [] then .next s
  else if !defined || decide (7 ≤ w.wait.toNat) || (secretOnly && !w.secret) || (need != none && need != some w.wait.toNat) then
    .next (s.leDone w.le 0x54 0 0 [])
  else if !waitHolds l stream w.wait.toNat then .next (s.setLe w.le (l.held w.wait.toNat))
  else match body (s.setLe w.le (l.issued w.secret)) (l.issued w.secret) with
    | .go t => .next t
    | .taint => .next (s.leDone w.le 0x53 0 1 [])
    | .engine => .next (s.leDone w.le 0x54 0 0 [])
    | .window t d r => .next (t.windowFault w.le d r)
    | .hold t code => .next (t.setLe w.le (l.held code))

end Machine
end Sys2Proof
end

