-- ==== Sys2Proof/Machine/Pass.lean ====
section
/-! DEFINITION. The shapes of a pass: its defined variants, the groups it reads and writes, and its tags (09 R197-R206, 11 R249-R252). -/

namespace Sys2Proof
namespace Machine

/-- "All nine" variants (R249). -/
def nine (w : Mw) : Bool := decide (w.g < 3) && decide (w.sp < 3)
/-- Grains 18 and 36, every span (R251). -/
def narrow (w : Mw) : Bool := decide (w.g < 2) && decide (w.sp < 3)
/-- One grain, every span. -/
def oneGrain (w : Mw) (g : Nat) : Bool := w.g == g && decide (w.sp < 3)
/-- One grain over span 4. -/
def whole (w : Mw) (g : Nat) : Bool := w.g == g && w.sp == 2
/-- The nanoword names Q0 at grain 18 and Q1 at grain 36, or, where it has modulus variants, Q2 or Q3 (R252). -/
def namesQ (w : Mw) (variants : Bool) : Bool := w.q == w.g || (variants && (w.q == 2 || w.q == 3))
/-- A pass may use a descriptor: it holds a modulus (R202) and its grain bit is the pass's grain (R250). -/
def descOk (d : Descriptor) (g : Nat) : Bool := d.q != 0 && d.grain == g

/-- One-operand lane map over `n` lanes of width `g`. -/
def map1 (g n : Nat) (f : Nat → Nat) (a : Nat) : Nat := ofLanes g ((lanesOf g n a).map f)
/-- Two-operand lane map. -/
def map2 (g n : Nat) (f : Nat → Nat → Nat) (a b : Nat) : Nat :=
  ofLanes g ((List.range n).map (fun i => f (laneAt g a i) (laneAt g b i)))

/-- The state after a pass that writes a group (R204, R250). -/
def State.writeGroup (s : State) (w : Mw) (l : Le) (n v : Nat) (sec : Bool) : State :=
  s.setLe w.le (l.setGroup (groupBase w.dest n) n v sec)

/-- A pass over V groups: `n1`, `n2` and `n3` registers of src1, src2 and the destination are read (0: not read), `nd` registers
written; `modular` says that it names the descriptor Q[w.q]. Its result is secret when any word it reads is (R204). -/
def vpass (s : State) (w : Mw) (defined modular : Bool) (n1 n2 n3 nd : Nat) (f : Descriptor → Nat → Nat → Nat → Nat) : Out :=
  issue s w defined false none true (fun t l =>
    if modular && !descOk (l.desc w.q) w.g then .engine
    else
      .go (t.writeGroup w l nd
        (f (l.desc w.q) (l.groupVal (groupBase w.src1 n1) n1) (l.groupVal (groupBase w.src2 n2) n2)
          (l.groupVal (groupBase w.dest n3) n3))
        (l.groupSec (groupBase w.src1 n1) n1 || l.groupSec (groupBase w.src2 n2) n2 || l.groupSec (groupBase w.dest n3) n3)))

/-- A pass whose src2 is an A register: `taints` says that a secret A[src2] raises TAINT_FAULT; `ok` is what its value must meet, else
ENGINE_FAULT. -/
def apass (s : State) (w : Mw) (defined taints : Bool) (n1 n3 nd : Nat) (ok : Nat → Bool) (f : Nat → Nat → Nat → Nat) : Out :=
  issue s w defined false none true (fun t l =>
    if taints && (l.areg (aIdx w.src2)).sec then .taint
    else if !ok (l.areg (aIdx w.src2)).val then .engine
    else
      .go (t.writeGroup w l nd
        (f (l.areg (aIdx w.src2)).val (l.groupVal (groupBase w.src1 n1) n1) (l.groupVal (groupBase w.dest n3) n3))
        (l.groupSec (groupBase w.src1 n1) n1 || l.groupSec (groupBase w.dest n3) n3 || (l.areg (aIdx w.src2)).sec)))

end Machine
end Sys2Proof
end

