-- ==== Sys2Proof/Machine/ARegs.lean ====
section
/-! DEFINITION. A-register operations (11 R263). -/

namespace Sys2Proof
namespace Machine

/-- A[dest] := f of A[src1] and A[src2], modulo 2^36; the tag is P over both (R263). -/
def areg2 (s : State) (w : Mw) (f : Nat → Nat → Nat) : Out :=
  issue s w true false none true (fun t l =>
    let a := l.areg (aIdx w.src1)
    let b := l.areg (aIdx w.src2)
    .go (t.setLe w.le (l.setA (aIdx w.dest) (f a.val b.val) (a.sec || b.sec))))

/-- AADD (R263). -/
def execAadd (w : Mw) (s : State) : Out := areg2 s w (fun a b => a + b)
/-- ASUB (R263). -/
def execAsub (w : Mw) (s : State) : Out := areg2 s w (fun a b => a + 2 ^ 36 - b)
/-- AAND (R263). -/
def execAand (w : Mw) (s : State) : Out := areg2 s w Nat.land
/-- ASHR: by A[src2][5:0] (R263). -/
def execAshr (w : Mw) (s : State) : Out := areg2 s w (fun a b => a / 2 ^ (b % 64))

/-- An operation with a 14-bit immediate, public class only: in secret class the LE ends the job with ENGINE_FAULT (R226, R263; log 20). -/
def aimm (s : State) (w : Mw) (f : Nat → Nat → Nat) (reads : Bool) : Out :=
  issue s w (!w.secret) false none true (fun t l =>
    let a := l.areg (aIdx w.src1)
    .go (t.setLe w.le (l.setA (aIdx w.dest) (f a.val w.addr.toNat) (reads && a.sec))))

/-- AADDI (R263). -/
def execAaddi (w : Mw) (s : State) : Out := aimm s w (fun a i => a + i) true
/-- ALDI (R263). -/
def execAldi (w : Mw) (s : State) : Out := aimm s w (fun _ i => i) false
/-- ASETW: a window address (R212, R263). -/
def execAsetw (w : Mw) (s : State) : Out := aimm s w (fun a i => i % 8 * 2 ^ 33 + a % 2 ^ 24) true

/-- AFROMV: bits [35:0] of word 0 of register src1, with its tag (R263). -/
def execAfromv (w : Mw) (s : State) : Out :=
  issue s w true false none true (fun t l =>
    let v := (l.vreg w.src1.toNat).word 0
    .go (t.setLe w.le (l.setA (aIdx w.dest) v.val v.sec)))

/-- ABCAST: every 36-bit lane of the span-4 group dest := A[src2] (R263). -/
def execAbcast (w : Mw) (s : State) : Out :=
  issue s w true false none true (fun t l =>
    let a := l.areg (aIdx w.src2)
    .go (t.writeGroup w l 4 (ofLanes 36 (List.replicate 128 a.val)) a.sec))

/-- MCOUNT: the set bits of M[mask_reg], with its tag (R263). -/
def execMcount (w : Mw) (s : State) : Out :=
  issue s w true false none true (fun t l =>
    let m := l.mreg w.mask
    .go (t.setLe w.le (l.setA (aIdx w.dest) (popCount 256 m.val) m.sec)))

end Machine
end Sys2Proof
end

