-- ==== Sys2Proof/Machine/HashRules.lean ====
section
/-! DEFINITION. Hash, XOF, MAC and compare payloads, and the contexts of digest streams (08 R186, 12 R274-R280, R285). -/

namespace Sys2Proof
namespace Machine

/-- The function of a family 0x0D or 0x20 set (*Pre-hash functions*, R175). -/
def hashPrim : Nat → Prim
  | 1 => .sha2_256
  | 2 => .sha2_384
  | 3 => .sha2_512
  | 4 => .sha3_256
  | 5 => .sha3_384
  | 6 => .sha3_512
  | 7 => .shake128
  | 8 => .shake256
  | 9 => .cshake128
  | 10 => .cshake256
  | 11 => .kmac128
  | _ => .kmac256

/-- The out_len, n_len, s_len and spare octets of a parameter block obey R186 for set `st` and operation `o` (0 DIGEST, 1 MAC, 2 MAC_VERIFY). -/
def hashParamsOk (st o : Nat) (b : Bytes) : Bool :=
  let out := fieldAt b 0 4
  let n := fieldAt b 4 1
  let c := fieldAt b 5 1
  decide (8 + n + c ≤ b.length) && fieldAt b 6 2 == 0 && (n == 0 || st == 9 || st == 10) && (c == 0 || decide (9 ≤ st)) &&
    (if 7 ≤ st then decide (1 ≤ out) && decide (out ≤ 65536)
     else if o = 0 then out == 0 else out == 0 || (decide (16 ≤ out) && decide (out ≤ hashLen st)))

/-- The octets of a parameter block: its eight fixed octets, N and S. -/
def hashHead (b : Bytes) : Nat := 8 + fieldAt b 4 1 + fieldAt b 5 1

/-- The digest or tag of a message under a parameter block and, where keyed, a key's secret octets (R186; log 5). -/
def hashValue (st o : Nat) (params key msg : Bytes) : Bytes :=
  let out := hashOut st (fieldAt params 0 4)
  let n := slice params 8 (fieldAt params 4 1)
  let c := slice params (8 + fieldAt params 4 1) (fieldAt params 5 1)
  if st ≤ 6 then (if o = 0 then prim (hashLen st) (hashPrim st) [msg] else (prim (hashLen st) .hmac [[BitVec.ofNat 8 st], key, msg]).take out)
  else if st ≤ 8 then prim out (hashPrim st) [msg]
  else if st ≤ 10 then prim out (hashPrim st) [n, c, msg]
  else prim out (hashPrim st) [key, c, msg]

/-- A verdict octet: 0 valid or equal, 1 otherwise (R149, R285). -/
def verdict (ok : Bool) : Bytes := [if ok then 0 else 1]

/-- The secret octets of a key; a KDF secret goes without its length prefix (R186, R316). -/
def KeyRec.material (k : KeyRec) : Bytes := if k.typ = 0x03 then slice k.secret 1 (fieldAt k.secret 0 1) else k.secret
/-- The secret octets of the key that a job names; none where it names none. -/
def State.keySecret (s : State) (j : Job) : Bytes :=
  match s.keyFor j with
  | some k => k.material
  | none => []

/-! ### Digest streams -/

/-- Contexts a tenant holds (entry 0x20C0+t.02). -/
def State.streamsOpen (s : State) (t : Nat) : Nat := (s.dstreams.filter (fun p => p.2.tenant == t)).length
/-- Contexts allocated: the streams', and those that displaced or suspended single jobs have borrowed for their midstate (R282, R283). -/
def State.contextsUsed (s : State) : Nat :=
  s.dstreams.length + (s.jobs.filter (fun (j : Job) => j.kind == 0x1 && j.hashMessage && ((j.state == .queued && j.switched) || j.state == .suspended))).length
/-- The operation of a stream's opcode in the sense of R186: COMPARE works as a DIGEST. -/
def streamOpn (op : Nat) : Nat := if opFam op = 0x20 then 0 else opOp op
/-- The parameter block of a COMPARE stream: out_len, n_len and s_len 0, whatever its function (R285). -/
def startParamsOk (op : Nat) (b : Bytes) : Bool :=
  if opFam op = 0x20 then decide (8 ≤ b.length) && zeros (b.take 8) else hashParamsOk (opSet op) (streamOpn op) b
/-- The context a message works in: a START's fresh one, or the stream's. -/
def State.streamCtx (s : State) (j : Job) : Option DStream :=
  let b := j.payload
  if startBit b then
    some { tenant := j.tenant, opcode := j.opcode, key := j.key, params := slice b 8 (hashHead (b.drop 8)), data := [], part := 0, finished := false }
  else s.streamOf j
/-- Where the expected value, or the data, begins. -/
def streamBody (b : Bytes) : Nat := 8 + (if startBit b then hashHead (b.drop 8) else 0)
/-- The data of a STREAM message. -/
def streamData (op outLen : Nat) (b : Bytes) : Bytes := b.drop (streamBody b + (if finishBit b then expectedLen op outLen else 0))

/-- The status that refuses a STREAM message, if any (R274-R277, R280). -/
def State.streamRefusal (s : State) (j : Job) : Option Nat :=
  let b := j.payload
  let part := fieldAt b 4 4
  if 16 ≤ fieldAt b 0 1 ∨ 4 ≤ fieldAt b 1 1 ∨ fieldAt b 2 2 ≠ 0 then some 0x26
  else if startBit b ∧ (part ≠ 0 ∨ !startParamsOk j.opcode (b.drop 8)) then some 0x26
  else if startBit b ∧ (s.streamOf j).isNone ∧
      (s.rd (0x20C0 + j.tenant) 1 ≤ s.streamsOpen j.tenant ∨ 4096 ≤ s.contextsUsed) then some 0x40
  else match s.streamCtx j with
    | none => some 0x20
    | some c =>
      let out := fieldAt c.params 0 4
      if c.opcode ≠ j.opcode then some 0x20
      else if opFam j.opcode = 0x0D ∧ opOp j.opcode ≠ 0 ∧ c.key ≠ j.key then some 0x30
      else if b.length < streamBody b + (if finishBit b then expectedLen j.opcode out else 0) then some 0x26
      else if part < c.part ∨ c.part + 63 < part then some 0x26
      else if part = c.part ∧ opSet j.opcode = 1 ∧ 2 ^ 61 ≤ c.data.length + (streamData j.opcode out b).length then some 0x24
      else none

/-- A STREAM message that is next in part order (R277). -/
def State.streamNext (s : State) (j : Job) : Bool :=
  match s.streamCtx j with
  | some c => fieldAt j.payload 4 4 == c.part
  | none => false

end Machine
end Sys2Proof
end

