-- ==== Sys2Proof/Machine/Admission.lean ====
section
/-! DEFINITION. Admission and dispatch of jobs, budgets running out, safe points, and laps (06 R124-R142, 10 R232, R237, 12 R281-R283). -/

namespace Sys2Proof
namespace Machine

/-! ### What a job needs -/

/-- The classes whose units a job occupies: an LE, a BE, an AES-GCM core; a hash core of its own only where it needs no other (R162, R281; log 11). -/
def State.unitNeeds (s : State) (j : Job) : List EngClass :=
  let w := [EngClass.le, .be, .aead].filter (fun cl => s.typ j cl != 0)
  if w = [] ∧ s.typ j .hc ≠ 0 then [.hc] else w
/-- A hash message of this opcode runs on a SHA-2 core, not on a Keccak core (R281). -/
def onSha (op : Nat) : Bool :=
  if opFam op = 0x0E then decide (opSet op ≤ 5) else if opFam op = 0x11 then true else decide (opSet op ≤ 3)
/-- The kernel takes a key (R215). -/
def takesKey (j : Job) : Bool :=
  match j.kernel with
  | some k => decide (1 ≤ k.keyUse % 4 ∧ k.keyUse % 4 ≤ 2)
  | none => match keyUse j.opcode with
    | .secretKey | .symmetric | .session | .stamp => true
    | _ => false
/-- A job's scratch need in words: an owner kernel's from its header; a Gelyth kernel's is fixed by its opcode, and no less than R215's minimum
(log 28). -/
def scratchNeed (j : Job) : Nat :=
  match j.kernel with
  | some k => k.scratch * 512
  | none =>
    let lo := if takesKey j then 10 else 2
    (lo + Config.unstated 44 [j.opcode] % (33 - lo)) * 512
/-- The microword address a job starts at (R237). -/
def entryAddr (j : Job) : Nat :=
  match j.kernel with
  | some k => (k.base + k.entry) % 2 ^ 14
  | none => Config.unstated 45 [j.opcode] % 0x3000
/-- The masking order of the key a job names, 0 where it has no key (R237). -/
def State.orderOf (s : State) (j : Job) : Nat := if j.key = 0 then 0 else match s.keyFor j with | some k => k.order % 4 | none => 0

/-! ### The scratch pool (R213, R215) -/

/-- The first word of the scratch pool. -/
def scratchBase : Nat := 172032
/-- The scratch allocations of a cluster: where each begins, and its words. -/
def State.allocations (s : State) (c : Nat) : List (Nat × Nat) :=
  ((s.les.filter (fun p => clusterOf p.1 == c && p.2.job != none)).map (fun p => (p.2.scratchAt, p.2.scratch))) ++
    ((s.saved.filter (fun p => s.jobs.any (fun (j : Job) => j.order == p.1 && clusterOf (j.units.headD 0) == c))).map
      (fun p => (p.2.scratchAt, p.2.scratch)))
/-- The first place in the pool where `n` words are free. -/
def State.scratchPlace (s : State) (c n : Nat) : Option Nat :=
  ((List.range 176).map (fun k => scratchBase + 512 * k)).find? (fun a =>
    decide (a + n ≤ scratchBase + 90112) && (s.allocations c).all (fun p => decide (a + n ≤ p.1) || decide (p.1 + p.2 ≤ a)))
/-- Blocks that sealed tenants' LEs keep reserved in a cluster, LE `e` apart (R215). -/
def State.sealedBlocks (s : State) (c e : Nat) : Nat :=
  ((List.range 4).map (fun i =>
    let u := 4 * c + i
    if u = e then 0 else match (s.engine u).holder with
      | .tenant _ => 32 - (s.le u).scratch / 512
      | _ => 0)).sum
/-- LE `e` can take a job of this scratch need. -/
def State.scratchFits (s : State) (e n : Nat) : Bool :=
  decide (n / 512 + s.sealedBlocks (clusterOf e) e ≤ (s.cluster (clusterOf e)).freeBlocks) && (s.scratchPlace (clusterOf e) n).isSome

/-! ### Choice of units (R131, R140, R166, R281, R446; log 11) -/

/-- A unit that a job may use: held by its sealed tenant, or of the pool (R131, R136). -/
def State.mayUse (s : State) (j : Job) (u : Nat) : Bool :=
  (s.engine u).holder == (if j.isSealed then .tenant j.tenant else .pool) && (s.engine u).idle && !(s.engine u).out &&
    (s.cluster (unitCluster u)).powered
/-- Units of a class and, for hash cores, of the kind that a job needs, that its tenant may use now. -/
def State.freeUnits (s : State) (j : Job) (cl : EngClass) : List Nat :=
  ((List.range (blockCount cl)).flatMap (fun b => blockUnits cl b)).filter (fun u =>
    s.mayUse j u && (cl != .hc || (decide (512 ≤ u) == onSha j.opcode)) && (cl != .le || s.scratchFits u (scratchNeed j)) &&
      (cl != .be || decide (2 + s.sealedBlocks (unitCluster u) u ≤ (s.cluster (unitCluster u)).freeBlocks)))
/-- Idle cores of a cluster among candidates. -/
def inCluster (us : List Nat) (c : Nat) : Nat := (us.filter (fun u => unitCluster u == c)).length
/-- A hash message takes the cluster with the most idle cores of its kind, the lowest-numbered where several tie (R281). -/
def bestHashCluster (us : List Nat) (c : Nat) : Bool :=
  (List.range 16).all (fun d => decide (inCluster us d < inCluster us c) || (inCluster us d == inCluster us c && decide (c ≤ d)))
/-- A retry runs on another engine, in another cluster where one is free (R446). -/
def retryFits (us : List Nat) (fault : Option Nat) (u : Nat) : Bool :=
  match fault with
  | some f => u != f && (unitCluster u != unitCluster f || us.all (fun v => unitCluster v == unitCluster f))
  | none => true
/-- A Classic McEliece KEYGEN has the resident key area of a cluster as its scratch, running or suspended (R213). -/
def State.mcelieceKeygenIn (s : State) (c : Nat) : Bool :=
  s.jobs.any (fun (x : Job) => (x.running || x.state == .suspended) && x.kind == 0x1 && opFam x.opcode == 0x06 && opOp x.opcode == 0 &&
    unitCluster (x.units.headD 0) == c)
/-- The Classic McEliece public key that a job uses by its handle (R166). -/
def State.mceliecePublic (s : State) (j : Job) : Option KeyRec :=
  if j.kind = 0x1 ∧ opFam j.opcode = 0x06 ∧ opOp j.opcode = 1 ∧ j.key ≠ 0 then s.keyFor j else none
/-- A job that names a Classic McEliece key goes first to a cluster where its public key is resident; one McEliece KEYGEN runs in a cluster
(R166, R213). -/
def State.mcelieceFits (s : State) (j : Job) (us : List Nat) (u : Nat) : Bool :=
  if opFam j.opcode ≠ 0x06 then true
  else if opOp j.opcode = 0 then !s.mcelieceKeygenIn (unitCluster u)
  else match s.mceliecePublic j with
    | some k => (s.cluster (unitCluster u)).resident == some k.digest ||
        (!s.mcelieceKeygenIn (unitCluster u) && us.all (fun v => (s.cluster (unitCluster v)).resident != some k.digest))
    | none => true
/-- One unit fits a job's need of a class. -/
def State.unitFits (s : State) (j : Job) (cl : EngClass) (u : Nat) : Bool :=
  let free := s.freeUnits j cl
  let us := free.filter (retryFits (free.filter (fun v => some v != j.faultUnit)) (if unitClass (j.faultUnit.getD u) = cl then j.faultUnit else none))
  us.contains u && (cl != .hc || bestHashCluster us (unitCluster u)) && (cl != .le || s.mcelieceFits j us u)
/-- The units fit the job's needs, class by class. -/
def State.unitsFit (s : State) (j : Job) (units : List Nat) : Bool :=
  decide (units.map unitClass = s.unitNeeds j) && (units.zip (s.unitNeeds j)).all (fun p => s.unitFits j p.2 p.1)

/-! ### Conditions before admission (R62, R168, R277, R301, R303, R318, R328) -/

/-- What stands before a job's admission. -/
inductive Ready where
  /-- The job ends with this status. -/
  | over (status : Nat)
  /-- The job waits in its queue, uncharged. -/
  | wait (s : State)
  /-- Nothing. -/
  | go

/-- Start a reservation of indices or uses unless one is in progress (R169, R318). -/
def State.startReservation (s : State) (k : KeyRec) (uses : Bool) : State :=
  if s.keys.reserves.any (fun r => r.handle == s.countHandle k && r.uses == uses) then s
  else
    let limit := if uses then Nat.min (k.usesLimit + 64) k.useLimit else Nat.min (k.limit + k.batch) k.total
    { s with keys := { s.keys with reserves := s.keys.reserves ++ [⟨s.countHandle k, uses, limit⟩] } }

/-- A stateful SIGN (R167, R168). -/
def Job.statefulSign (j : Job) : Bool := j.kind == 0x1 && j.opcode / 256 == 0x07 && j.opcode % 16 == 1
/-- The member is on the quorate side (entry 0x4401.02). -/
def State.quorate (s : State) : Bool := s.rd 0x4401 2 == 1

/-- The group has granted every index or use of a key, and this member has no range left (R377). -/
def State.groupSpent (s : State) (k : KeyRec) (n : Nat) : Bool :=
  keyScope k.handle == 2 && k.ranges == [] && decide (n ≤ Map.getD s.grp.limits k.handle 0)

/-- Another job that names the same key runs, or was classified before, at its first segment, and has not been dispatched (R168). -/
def State.earlierNamer (s : State) (j : Job) : Bool :=
  s.jobs.any (fun (x : Job) => x.ref != j.ref && x.kind == 0x1 && x.key == j.key &&
    (x.running || x.state == .suspended || ((x.state == .queued || x.state == .reassembling) && decide (x.order < j.order))))
/-- A stateful key gives an index below its committed limit (R168, R171, R172). A new key has committed none, so the first SIGN that waits for it starts the
reservation (log 132). -/
def State.indexReady (s : State) (j : Job) (k : KeyRec) : Ready :=
  if j.index.isSome then .go
  else if k.total ≤ k.next ∨ (s.groupSpent k k.cap ∧ k.limit ≤ k.next) then .over 0x31
  else if keyScope k.handle = 2 ∧ !s.quorate then .over 0x63
  else if k.limit ≤ k.next then .wait (s.startReservation k false)
  else .go

/-- A key with a use limit is used below its committed reservation (R318). -/
def State.usesReady (s : State) (j : Job) (k : KeyRec) : Ready :=
  if k.useLimit = 0 ∨ j.prec ∨ j.index.isSome then .go
  else if k.useLimit ≤ k.uses ∨ (s.groupSpent k k.cap ∧ k.usesLimit ≤ k.uses) then .over 0x31
  else if keyScope k.handle = 2 ∧ !s.quorate then .over 0x63
  else if k.usesLimit ≤ k.uses then .wait (s.startReservation k true)
  else .go

/-- An earlier job that names the same session key has not ended (R192). -/
def State.earlierUser (s : State) (j : Job) : Bool :=
  s.jobs.any (fun (x : Job) => x.key == j.key && decide (x.order < j.order) && x.live && x.kind == 0x1)

/-- The key's own conditions: loaded; jobs that name one stateful key go one at a time, in classification order (R168); its index and its uses (R328). -/
def State.keyReady (s : State) (j : Job) : Ready :=
  if j.key = 0 ∨ (j.kind ≠ 0x1 ∧ j.kind ≠ 0x3) then .go
  else match s.keyFor j with
    | none => .go
    | some k =>
      if !s.keyPresent k then .wait s
      else if k.typ = 0x1C ∧ s.earlierNamer j then .wait s
      else if k.typ = 0x04 ∧ s.earlierUser j then .wait s
      else match (if j.statefulSign then s.indexReady j k else .go) with
        | .go => s.usesReady j k
        | r => r

/-- Wait for randomness from now on (R301). -/
def State.waitRandom (s : State) (j : Job) : State :=
  s.mapJob j.ref (fun (j : Job) => { j with waitSince := some (j.waitSince.getD s.clk.fab) })
/-- RANDOM_OCTETS with PREDICTION_RESISTANCE (R188). -/
def Job.predicts (j : Job) : Bool := j.kind == 0x1 && j.opcode == 0x0F10 && bitAt (fieldAt j.payload 4 1) 0
/-- Randomness: ENTROPY_FAIL during FAMINE; the tenant's DRBG instantiated and not held, waiting for that also while the entropy function is STARTING;
prediction resistance asks for its reseed once (R188, R298, R299, R301, R303). -/
def State.randomReady (s : State) (j : Job) : Ready :=
  if j.kind ≠ 0x1 ∨ !needsRandom j.opcode j.payload then .go
  else if s.entropyState = 2 then .over 0x50
  else if !drawsTenant j.opcode j.payload then .go
  else
    let d := tenantDrbg j.tenant
    if !s.serving d then .wait ((s.askSeed d).waitRandom j)
    else if j.predicts ∧ j.rnd = none then
      let t := (s.setDrbg d { s.drbg d with state := 2 }).request ⟨3, d, false, false, some j.ref⟩
      .wait ((t.waitRandom j).mapJob j.ref (fun (j : Job) => { j with rnd := some 0 }))
    else .go

/-- A STREAM message is dispatched when it is next in part order; one that its stream refuses waits for STREAM_MESSAGE to refuse it (R277). -/
def State.streamReady (s : State) (j : Job) : Ready :=
  if j.kind ≠ 0x3 then .go
  else match s.streamRefusal j with
    | some _ => .wait s
    | none => if s.streamNext j ∧ !s.jobs.any (fun (x : Job) => x.running && x.kind == 0x3 && x.chan == j.chan &&
        fieldAt x.payload 0 1 == fieldAt j.payload 0 1) then .go else .wait s

/-- `n` blocks can be reserved for a job: with them the tenant holds no more than its pool share, balances not counted (R62; log 66). What the job has
reserved already counts once. -/
def State.blocksFit (s : State) (j : Job) (n : Nat) : Bool := decide (s.poolInUse j.tenant - j.reserve + n ≤ s.rd (0x1640 + j.tenant) 1)
/-- Blocks that every DICT message reserves for its result of up to 65,536 octets (R62, R107). -/
def dictBlocks : Nat := blocksOf 65536
/-- A job is a transaction that has been classified and not yet ended. -/
def Job.isTxn (j : Job) : Bool := j.kind == 0x4 && (j.opcode == 2 || j.opcode == 3) && (j.state == .queued || j.state == .reassembling)
/-- Transactions are applied one at a time, in the order of their classification (R112). -/
def State.myTurn (s : State) (j : Job) : Bool :=
  s.dtx.journal.isNone && !s.jobs.any (fun (x : Job) => x.isTxn && decide (x.order < j.order) && !s.awaitsReset x.ref)
/-- The blocks of the longest result fit the tenant's pool share (R62); a retry or a move keeps its reservation (R446, R451). -/
def State.resultFits (s : State) (j : Job) : Bool := s.blocksFit j (blocksOf (s.jobMax j))

/-- The domain that an APPLY_KUM's message names (R320). -/
def kumDomain (b : Bytes) : Nat := domainOf (fieldAt b 5 1) (fieldAt b 6 1)
/-- APPLY_KUM. -/
def Job.isKum (j : Job) : Bool := j.kind == 0x1 && j.opcode == 0x1014
/-- A KUM of the same domain that was classified before has not ended: KUMs of one domain are applied one at a time, in classification order (R322). One
of whose message no first segment has come names no domain yet. -/
def State.earlierKum (s : State) (j : Job) : Bool :=
  s.jobs.any (fun (x : Job) => x.isKum && x.live && x.ref != j.ref && decide (x.order < j.order) && (Map.find x.segs 0).isSome &&
    kumDomain x.payload == kumDomain j.payload) ||
    s.keys.commits.any (fun c => c.domain == kumDomain j.payload && c.j != j.ref)

/-- Everything that stands before admission, in turn. A KUM that has passed steps 1 to 4 waits for its domain (R322). -/
def State.ready (s : State) (j : Job) : Ready :=
  if !s.kern.tenantsServed && (s.typ j .le != 0 || s.typ j .hc != 0) then .over 0x54
  else if j.isKum && j.kumChecked && s.earlierKum j then .wait s
  else match s.randomReady j with
  | .go => match s.keyReady j with
    | .go => match s.streamReady j with
      | .go => if s.resultFits j then .go else .wait s
      | r => r
    | r => r
  | r => r

/-! ### Starting a job -/

/-- The state of an LE at dispatch: registers at reset, the inbound mailbox with its two words, its windows set up (R198, R211-R215, R237). -/
def State.freshLe (s : State) (e : Nat) (j : Job) (at_ : Nat) : Le :=
  let old := s.le e
  { leInit with
    regs := { leRegsInit with
      upc := entryAddr j
      mailbox := [⟨j.length % 2 ^ 32, false⟩, ⟨s.orderOf j * 2 ^ 16 + j.opcode, false⟩] }
    job := some j.ref
    usesKey := takesKey j
    scratchAt := at_
    scratch := scratchNeed j
    highWord := 0
    input := j.payload
    outMax := s.jobMax j
    maskCount := old.maskCount
    maskTenant := some j.tenant
    maskStopped := old.maskStopped }

/-- A job of another tenant on the LE: the mask generator takes a new seed, or stops until it can (R209, R210). -/
def State.maskForTenant (s : State) (e t : Nat) : State :=
  if (s.le e).maskTenant = some t then s
  else match s.maskSeed e with
    | some u => u.setLe e { u.le e with maskCount := 0, maskStopped := false }
    | none => (s.askSeed (clusterOf e)).setLe e { s.le e with maskStopped := true }

/-- The hash function of an SLH-DSA or stateful job's cores: 7 SHA-2, 1 Keccak; none for other jobs (R162, R167). -/
def State.signCore (s : State) (j : Job) : Option Nat :=
  if j.kind ≠ 0x1 ∨ j.kernel.isSome then none
  else if opFam j.opcode = 0x03 then some (if opSet j.opcode ≤ 6 then 7 else 1)
  else if opFam j.opcode = 0x07 then
    some (if statefulShake (opSet j.opcode) (statefulTypes (opSet j.opcode) (opOp j.opcode) j.payload (if j.key = 0 then none else s.keyFor j)).1 then 1 else 7)
  else none
/-- Such a job drives up to 8 cores of its cluster through hash streams: those idle when it starts (R162, R211; log 72). -/
def State.openCores (s : State) (e : Nat) (j : Job) : State :=
  match s.signCore j with
  | none => s
  | some fn =>
    let free := ((List.range 8).map (coreUnit fn (clusterOf e))).filter (fun u => (s.engine u).idle && (s.engine u).holder == (s.engine e).holder)
    free.zipIdx.foldl (fun u p => (u.setEngine p.1 { u.engine p.1 with job := some j.ref }).setLe e
      { u.le e with streams := Map.put (u.le e).streams p.2 ⟨fn, p.1, [], false, 0, true, 0, 0⟩ }) s
/-- Put a job on an LE (R198, R213, R215). -/
def State.startLe (s : State) (e : Nat) (j : Job) : State :=
  let c := clusterOf e
  let at_ := (s.scratchPlace c (scratchNeed j)).getD scratchBase
  let t := s.maskForTenant e j.tenant
  let t := t.setLe e (t.freshLe e j at_)
  (t.setCluster c { t.cluster c with freeBlocks := (t.cluster c).freeBlocks - scratchNeed j / 512 }).openCores e j

/-- A Classic McEliece job makes its key resident, or evicts the resident key (R166, R213). -/
def State.startMceliece (s : State) (e : Nat) (j : Job) : State :=
  if opFam j.opcode ≠ 0x06 ∨ j.kind ≠ 0x1 then s
  else
    let c := clusterOf e
    if opOp j.opcode = 0 then s.setCluster c { s.cluster c with resident := none }
    else match s.mceliecePublic j with
      | some k => s.setCluster c { s.cluster c with resident := some k.digest }
      | none => s
/-- A job loads the public key it names where it is not resident: the load is charged to it (R166, R174). -/
def State.loadCost (s : State) (j : Job) (units : List Nat) : Work :=
  match s.mceliecePublic j with
  | some k => if units.any (fun u => decide (u < 256) && (s.cluster (clusterOf u)).resident != some k.digest)
      then ⟨tenths (bySet [300, 600, 1200, 1200, 1550] (opSet j.opcode)), 0, 0, 0⟩ else noWork
  | none => noWork

/-- One unit starts on a job: an LE with its windows and mailbox, a BE with its save area (R469). -/
def State.startUnit (s : State) (u : Nat) (j : Job) : State :=
  let t := s.setEngine u { s.engine u with job := some j.ref, latched := [] }
  if u < 256 then (t.startLe u j).startMceliece u j
  else if 768 ≤ u ∧ u < 1024 then t.setCluster (u - 768) { t.cluster (u - 768) with freeBlocks := (t.cluster (u - 768)).freeBlocks - 2 }
  else t

/-- After a use is counted, a reservation of uses starts when the gap is half a batch of 64 or less (R169, R318). -/
def State.reserveUses (s : State) (k : KeyRec) : State :=
  if k.useLimit ≠ 0 ∧ k.usesLimit - k.uses ≤ 32 ∧ k.usesLimit < k.useLimit then s.startReservation k true else s

/-- A stateful SIGN takes its index at dispatch, and a reservation starts when the gap is small (R168, R169); a key with a use limit counts its use
(R318); a stamp takes its datum and number, a quote its datum and head (R194, R371). A retry takes none of them again (R171, R194). -/
def State.takeNumbers (s : State) (j : Job) : State :=
  let t := match s.keyFor j with
    | some k =>
      if j.statefulSign ∧ j.index = none then
        let k' := { k with next := k.next + 1, uses := if k.useLimit = 0 then k.uses else k.uses + 1 }
        let t := (s.bumpKey j (fun r => ({ r with next := k'.next, uses := k'.uses } : KeyRec).nextRange)).mapJob j.ref (fun (x : Job) => { x with index := some k.next })
        (if k'.limit - k'.next ≤ k.batch / 2 ∧ k'.limit < k'.total then t.startReservation k' false else t).reserveUses k'
      else if k.useLimit ≠ 0 ∧ !j.prec ∧ j.index = none then
        (s.bumpKey j (fun r => ({ r with uses := k.uses + 1 } : KeyRec).nextRange)).reserveUses { k with uses := k.uses + 1 }
      else s
    | none => s
  if j.kind = 0x1 ∧ j.opcode = 0x1120 ∧ j.stamp = none then
    { t with stampSeq := t.stampSeq + 1 }.mapJob j.ref (fun (x : Job) => { x with stamp := some (s.clk.datum, s.quality, s.stampSeq) })
  else if j.kind = 0x1 ∧ j.opcode = 0x1130 ∧ j.stamp = none then
    t.mapJob j.ref (fun (x : Job) => { x with stamp := some (s.clk.datum, s.quality, s.headSeq) })
  else t

/-- The turn of a class moves to the tenant served (R134, R140). -/
def State.served (s : State) (t : Nat) (cls : List EngClass) (borrowed : Bool) : State :=
  cls.foldl (fun u cl =>
    if borrowed then { u with lap := { u.lap with bturn := Map.put u.lap.bturn (classIndex cl) t } }
    else { u with lap := { u.lap with turn := Map.put u.lap.turn (classIndex cl) t } }) s

/-- A loaded record is used: it is the most recently used one (R328). -/
def State.touchKey (s : State) (h : Nat) : State :=
  if s.keys.loaded.contains h then { s with keys := { s.keys with loaded := s.keys.loaded.filter (fun x => x != h) ++ [h] } } else s

/-- A START takes its context as it is dispatched: a free one, or its stream's, whose state it discards (R274). -/
def State.startStream (s : State) (j : Job) : State :=
  if j.kind = 0x3 ∧ startBit j.payload then match s.streamCtx j with
    | some c => { s with dstreams := Map.put s.dstreams (streamKey j.chan (fieldAt j.payload 0 1)) c }
    | none => s
  else s

/-- A job starts on its units (R134, R237, R274). -/
def State.launch (s : State) (j : Job) (units : List Nat) (borrowed : Bool) : State :=
  let t := units.foldl (fun u e => u.startUnit e j) ((s.takeNumbers j).startStream j)
  let t := { t.mapJob j.ref (fun (x : Job) => { x with
      state := .running
      units := units
      borrowed := borrowed
      admitted := s.order
      reserve := blocksOf (s.jobMax j)
      waitSince := none
      drawn := []
      switched := false
      prec := false }) with order := s.order + 1 }
  let t := if j.switched then t.chargeSwitch j.ref units else t
  let t := if s.loadCost j units = noWork then t else t.charge j.ref (s.loadCost j units)
  (t.touchKey j.key).served j.tenant (units.map unitClass) borrowed

/-- The words of a matrix-cache entry (*Matrix-cache entry sizes*): by family and set of the job's opcode; for another family the largest. -/
def matrixSize (opcode : Nat) : Nat :=
  match opcode / 256, opcode / 16 % 16 with
  | 1, 1 => 256
  | 1, 2 => 576
  | 1, 3 => 1024
  | 2, 1 => 2048
  | 2, 2 => 3840
  | _, _ => 7168

/-- The entries that LEs have mapped through W4, one each at most (R218). -/
def State.w4Maps (s : State) : List W4Map := s.les.filterMap (fun p => p.2.w4)
/-- Some job has mapped the entry of a digest (R218). -/
def State.mapped (s : State) (dg : Nat) : Bool := s.w4Maps.any (fun m => m.digest == dg)

/-- The words that entries being expanded take. -/
def State.expanding (s : State) : Nat := (s.w4Maps.map (fun m => if m.writing then m.size else 0)).sum
/-- `n` more words fit beside these entries in 2 Mi (R8, R9). -/
def State.matrixFits (s : State) (n : Nat) (c : List Matrix) : Bool := decide ((c.map (fun (e : Matrix) => e.size)).sum + s.expanding + n ≤ 2 ^ 21)

/-- The cache after dropping the least recently used entries that no job has mapped until `n` more words fit in 2 Mi (R9, R218). -/
def State.makeRoom (s : State) (n : Nat) : Nat → List Matrix → List Matrix
  | 0, c => c
  | k + 1, c =>
    if s.matrixFits n c then c
    else match c.find? (fun (e : Matrix) => !s.mapped e.digest) with
      | none => c
      | some e => State.makeRoom s n k (c.filter (fun (x : Matrix) => x.digest != e.digest))

/-- A job that goes on has its W4 entry mapped again: found, or expanded once more within its worst cost, the least recently used making room (R216, R218). -/
def State.remap (s : State) (r : JobRef) (l : Le) : State :=
  match l.w4 with
  | none => s
  | some m =>
    if !m.writing ∧ s.mcache.any (fun e => e.digest == m.digest) then
      { s with mcache := s.mcache.filter (fun (x : Matrix) => x.digest != m.digest) ++ s.mcache.filter (fun (x : Matrix) => x.digest == m.digest) }
    else
      let c := s.makeRoom m.size s.mcache.length s.mcache
      let t := match s.findJob r with | some j => s.accrue j | none => s
      { t with mcache := if m.writing then c else c ++ [⟨m.digest, m.size, m.words, m.seed⟩] }

/-- Words of the context save area (R215). -/
def State.areaWords (s : State) (c at' n : Nat) : List Tagged := (List.range n).map (fun i => s.cword c (at' + i))
/-- The registers and the microsequencer state that words of the form of `Le.contextWords` spell. -/
def regsOfWords (ws : List Tagged) : LeRegs :=
  let w : Nat → Tagged := fun i => ws.getD i ⟨0, false⟩
  let wide : Nat → Nat → Tagged := fun i n => ⟨ofLanes 72 ((List.range n).map (fun k => (w (i + k)).val)), (List.range n).any (fun k => (w (i + k)).sec)⟩
  let seq := (w 568).val
  { v := (List.range 32).map (fun i => (i, regOfWords ((List.range 16).map (fun k => w (16 * i + k)))))
    a := (List.range 16).map (fun i => (i, ⟨(w (512 + i)).val % 2 ^ 36, (w (512 + i)).sec⟩))
    m := (List.range 8).map (fun i => (i, ⟨(wide (528 + 4 * i) 4).val % 2 ^ 256, (wide (528 + 4 * i) 4).sec⟩))
    q := (List.range 4).map (fun i => (i, descOfBits (wide (560 + 2 * i) 2).val))
    upc := seq % 2 ^ 14
    secret := bitAt seq 14
    stack := (List.range (bitsOf seq 18 15)).map (fun i => (w (569 + i)).val)
    mailbox := (List.range (bitsOf seq 21 19)).map (fun i => w (577 + i)) }
/-- A restore reads the save area (R216): it gives the registers of the save while the area holds their words, and otherwise those that its words spell. -/
def State.restoredRegs (s : State) (c : Nat) (l : Le) : LeRegs :=
  let ws := s.areaWords c l.scratchAt l.contextWords.length
  if ws = l.contextWords then l.regs else regsOfWords ws
/-- A suspended job goes on in its own cluster: its context is restored from its save area and the restore charged (R138, R216). -/
def State.resume (s : State) (j : Job) (units : List Nat) (borrowed : Bool) : State :=
  let t := (units.zip j.units).foldl (fun u p =>
    let u := u.setEngine p.1 { u.engine p.1 with job := some j.ref, latched := [] }
    if 256 ≤ p.1 then u
    else match Map.find u.saved j.order with
      | none => u
      | some l =>
        let u := (u.maskForTenant p.1 j.tenant).remap j.ref l
        let keep := u.le p.1
        { u.setLe p.1 { l with
            regs := u.restoredRegs (clusterOf p.1) l
            waiting := none
            waited := 0
            maskBuf := 0
            maskCount := keep.maskCount
            maskStopped := keep.maskStopped
            maskTenant := some j.tenant } with saved := Map.erase u.saved j.order }) s
  let t := { t.mapJob j.ref (fun (x : Job) => { x with state := .running, units := units, borrowed := borrowed, admitted := s.order }) with
    order := s.order + 1 }
  (t.chargeSwitch j.ref units).served j.tenant (units.map unitClass) borrowed

/-- The units that can take the part of a suspended job that stood on unit `u`: of its kind, in the cluster of its context; a hash message, whose state is in
its stream's context, goes to the cluster with the most idle cores of its kind (R138, R281, R283). -/
def State.resumeUnits (s : State) (j : Job) (u : Nat) : List Nat :=
  let us := ((List.range (blockCount (unitClass u))).flatMap (fun b => blockUnits (unitClass u) b)).filter (fun v => s.mayUse j v && decide (v / 256 = u / 256))
  us.filter (fun v => if unitClass u = .hc then bestHashCluster us (unitCluster v) else unitCluster v == unitCluster u)
/-- Each part of a suspended job finds a unit. -/
def State.canResume (s : State) (j : Job) : Bool := j.units.all (fun u => s.resumeUnits j u != [])
/-- The units on which a suspended job can resume (R138). -/
def State.resumeFits (s : State) (j : Job) (units : List Nat) : Bool :=
  decide (units.length = j.units.length) && (units.zip j.units).all (fun p => (s.resumeUnits j p.2).contains p.1)

/-! ### Displacement of hash messages (R282, R283) -/

/-- A running hash message that one of a pooled tenant may displace: another tenant's, on a pool core of the kind; a single JOB needs a free context (R282,
R283). -/
def State.displaceable (s : State) (tenant : Nat) (sha : Bool) (r : Job) : Bool :=
  r.running && r.hashMessage && r.tenant != tenant && onSha r.opcode == sha &&
    r.units.all (fun u => (s.engine u).holder == .pool) && (r.kind == 0x3 || decide (s.contextsUsed < 4096))
/-- The tenant's HC charge fraction stands at least 1/64 above the other's; a zero budget has no fraction (R282; log 115). -/
def State.fractionAbove (s : State) (r w : Nat) : Bool :=
  let c := (s.ten r).charge.hc
  let b := s.budget r .hc
  let c' := (s.ten w).charge.hc
  let b' := s.budget w .hc
  b != 0 && b' != 0 && decide (64 * c * b' ≥ 64 * c' * b + b * b')
/-- `x`'s fraction is greater than `y`'s, or equal with the later admission. -/
def State.prefer (s : State) (x y : Job) : Bool :=
  let l := (s.ten x.tenant).charge.hc * s.budget y.tenant .hc
  let r := (s.ten y.tenant).charge.hc * s.budget x.tenant .hc
  decide (r < l) || (l == r && decide (y.admitted < x.admitted))
/-- The one of some candidates that a hash message of a tenant, admitted on own allowance, displaces (R282). -/
def State.chosen (s : State) (tenant : Nat) (c : List Job) : Option Job :=
  match (c.filter (fun (r : Job) => r.borrowed)).foldl (fun (best : Option Job) r => match best with
      | some a => if a.admitted < r.admitted then some r else some a
      | none => some r) none with
  | some r => some r
  | none => (c.filter (fun (r : Job) => !r.borrowed && s.fractionAbove r.tenant tenant)).foldl (fun (best : Option Job) r => match best with
      | some a => if s.prefer r a then some r else some a
      | none => some r) none
/-- The message that a hash message admitted on own allowance displaces (R282); a sealed tenant's displaces none (R283). -/
def State.displaced (s : State) (w : Job) : Option Job :=
  if w.isSealed then none else s.chosen w.tenant (s.jobs.filter (fun (r : Job) => s.displaceable w.tenant (onSha w.opcode) r))
/-- The message that an LE kernel's opening of a stream displaces, in the LE's own cluster (R211, R282). -/
def State.displacedByOpening (s : State) (e fn : Nat) : Option Job :=
  match (s.le e).job with
  | none => none
  | some r => match s.findJob r with
    | none => none
    | some j =>
      if j.isSealed ∨ j.borrowed then none
      else s.chosen j.tenant (s.jobs.filter (fun (x : Job) => s.displaceable j.tenant (decide (5 ≤ fn ∧ fn ≤ 7)) x &&
        x.units.all (fun u => unitCluster u == clusterOf e)))
/-- A message is displaced: it is charged its work and the save, goes back to the head of its queue with its charges standing, and the switch is counted (R282,
R284). -/
def State.displace (s : State) (r : Job) : State :=
  let t := (s.accrue r).chargeSwitch r.ref r.units
  let t := (t.drawn.unload r).mapJob r.ref (fun (x : Job) => { x with state := .queued, units := [], borrowed := false, switched := true, mid := t.midOf r })
  (t.event (0x1900 + r.tenant) 0x12 (2 + 16)).inc 0x2080 4 1

/-! ### JOB_DISPATCH (R92, R134, R138, R140, R446) -/

/-- The suspended jobs of the tenant that were suspended before this one go first (R138): admission numbers rise. -/
def State.earlierSuspended (s : State) (j : Job) : Bool :=
  s.jobs.any (fun (x : Job) => x.tenant == j.tenant && x.state == .suspended && decide (x.admitted < j.admitted) && s.canResume x)
/-- Every class that the job uses has an idle pool unit, and no pooled tenant has own work (R140). -/
def State.mayBorrow (s : State) (j : Job) : Bool := s.noOwnWork j.ref && classes.all (fun cl => s.typ j cl == 0 || s.poolIdle cl != [])
/-- How a job is admitted now: on own or held units, on borrowed ones, or not at all. -/
def State.admission (s : State) (j : Job) : Option Bool :=
  if j.isSealed then some false
  else if s.ownAdmissible j then some false
  else if s.mayBorrow j then some true
  else none
/-- Another job goes before the queue heads of these classes: a resumption or a retry that its tenant's allowance admits and that has a unit, of the same
tenant also one that may borrow (R134, R138, R446). -/
def State.precedenceWaits (s : State) (j : Job) (cls : List EngClass) : Bool :=
  s.jobs.any (fun (x : Job) => x.ref != j.ref && (x.state == .suspended || (x.state == .queued && x.prec)) && cls.any (fun cl => s.typ x cl != 0) &&
    x.isSealed == j.isSealed && (if x.tenant = j.tenant then (s.admission x).isSome else !j.isSealed && s.ownAdmissible x) &&
    (if x.state = .suspended then s.canResume x else (s.unitNeeds x).all (fun cl => s.freeUnits x cl != [])))
/-- A head can be admitted: a CONTROL message at once, a DICT message where its result's blocks can be reserved and a transaction has its turn, a JOB or
STREAM message where nothing stands before it and a unit is free (R92). -/
def State.canAdmit (s : State) (x : Job) : Bool :=
  s.isHead x && (if !x.scheduled then x.kind != 0x4 || (s.blocksFit x dictBlocks && (!x.isTxn || s.myTurn x)) else (s.admission x).isSome && (match s.ready x with | .go => true | _ => false) && (s.unitNeeds x).all (fun cl => s.freeUnits x cl != []))
/-- A head of a lower-numbered queue of the tenant can be admitted (R92). -/
def State.lowerQueue (s : State) (j : Job) : Bool := s.jobs.any (fun (x : Job) => x.tenant == j.tenant && x.scheduled == j.scheduled && decide (x.queue < j.queue) && s.canAdmit x)
/-- A pooled job that its tenant's own allowance cannot admit and that waits to be served on borrowed capacity: a head, or a suspended job (R140). -/
def State.borrower (s : State) (x : Job) : Bool := !x.isSealed && (x.state == .suspended || s.isHead x) && !s.ownAdmissible x
/-- It is the job's turn (R134, R140); retries and moves, resumptions on own allowance, and sealed tenants' jobs, take no turns. -/
def State.turnFits (s : State) (j : Job) (borrowed : Bool) : Bool :=
  j.isSealed || j.prec || (j.state == .suspended && !borrowed) ||
    (s.unitNeeds j).all (fun cl =>
      if borrowed then s.turnOk s.lap.bturn s.borrower j.tenant cl
      else s.turnOk s.lap.turn (fun x => s.ownReady x && s.isHead x) j.tenant cl)

/-- A job admitted on own allowance that finds no unit: a hash message displaces another, else a borrowed job is preempted (R140, R282, R446). -/
def State.makeWay (s : State) (j : Job) : Option State :=
  match (s.unitNeeds j).find? (fun cl => (s.freeUnits j cl) == []) with
  | none => none
  | some cl =>
    if j.isSealed then none
    else if j.hashMessage then (s.displaced j).map (fun r => s.displace r)
    else some (s.preemptBorrowed cl)

/-- Admit and start a job that nothing stands before. -/
def State.startJob (s : State) (j : Job) (units : List Nat) : State :=
  match s.admission j with
  | none => s
  | some borrowed =>
    if s.lowerQueue j ∨ (!j.prec && s.precedenceWaits j (s.unitNeeds j)) ∨ !s.turnFits j borrowed then s
    else if s.unitsFit j units then s.launch j units borrowed
    else if borrowed then s
    else match s.makeWay j with
      | some t => if t.unitsFit j units then t.launch j units false else t
      | none => s

/-- Resume a suspended job (R138); a hash message that finds no idle core displaces another, as at its first dispatch (R282). -/
def State.admitSuspended (s : State) (j : Job) (units : List Nat) : State :=
  match s.admission j with
  | none => s
  | some borrowed =>
    if s.earlierSuspended j ∨ !s.turnFits j borrowed then s
    else if s.resumeFits j units then s.resume j units borrowed
    else if borrowed ∨ j.isSealed then s
    else if s.canResume j then s
    else if j.hashMessage then match s.displaced j with
      | some r => let t := s.displace r; if t.resumeFits j units then t.resume j units false else t
      | none => s
    else s.preemptBorrowed (unitClass (j.units.headD 0))

/-- JOB_DISPATCH (R134): a queue head, resumption or retry is admitted and started. -/
def execJobDispatch (j : JobRef) (units : List Nat) (s : State) : Out :=
  match s.findJob j with
  | none => .next s
  | some x =>
    let s := (s.rebalance false).accrueAll
    if s.phase ≠ .up ∨ s.clk.gated ∨ (s.ten x.tenant).resetting ∨ s.rd (0x1800 + x.tenant) 1 = 0 then .next s
    else if x.state = .suspended then .next (s.admitSuspended x units)
    else if x.state = .queued ∧ x.scheduled ∧ (x.prec ∨ s.isHead x) then
      match s.ready x with
      | .over st => .next ((s.mapJob j (fun (j : Job) => { j with units := [] })).finish j st 0 [] none)
      | .wait t => .next t
      | .go => .next (s.startJob x units)
    else .next s

/-! ### BUDGET_EXHAUSTED and SAFE_POINT_REACHED -/

/-- An amount of one class. -/
def workIn (cls : EngClass) (n : Nat) : Work :=
  match cls with
  | .le => ⟨n, 0, 0, 0⟩
  | .hc => ⟨0, n, 0, 0⟩
  | .be => ⟨0, 0, n, 0⟩
  | .aead => ⟨0, 0, 0, n⟩
/-- Jobs are charged in a class, each within its worst cost, until the tenant's C has reached its budget (R137, R173; log 12). -/
def State.topUp (s : State) (cls : EngClass) (mine : List Job) : State :=
  mine.foldl (fun u (x : Job) => match u.findJob x.ref with
    | some y => u.charge x.ref (workIn cls (Nat.min (u.budget x.tenant cls - (u.ten x.tenant).charge.get cls) ((u.worstOf y).get cls - y.charged.get cls)))
    | none => u) s
/-- BUDGET_EXHAUSTED: the tenant's jobs on own allowance have worked until C reached the budget, so lap-end suspension is latched for every one of them that
runs in the class; it cannot come while their worst costs leave C below it (R137). -/
def execBudgetExhausted (tenant : Nat) (cls : EngClass) (s : State) : Out :=
  let mine := (s.ownRunning cls).filter (fun (j : Job) => j.tenant == tenant)
  let t := (mine.foldl (fun u (j : Job) => u.accrue j) s).topUp cls mine
  when (!s.clk.gated && mine != [] && decide (t.budget tenant cls ≤ (t.ten tenant).charge.get cls)) s t.latchSpent

/-- The units that a running job occupies: its own, and the cores of its hash streams. -/
def State.occupied (s : State) (j : Job) : List Nat :=
  j.units ++ (j.units.filter (fun u => decide (u < 256))).flatMap (fun u => (s.le u).streams.map (fun p => p.2.unit))
/-- R140's conditions for a running job, with the pool units that it occupies counted as idle (R137). -/
def State.mayContinue (s : State) (j : Job) : Bool :=
  !s.ownAdmissible j && s.noOwnWork j.ref &&
    classes.all (fun cl => s.typ j cl == 0 || s.poolIdle cl != [] || (s.occupied j).any (fun u => unitClass u == cl && (s.engine u).holder == .pool))

/-- The LE stands before an owner kernel's EXIT, which is a safe point for rank 1 only (R238). -/
def State.atExit (s : State) (e : Nat) (j : Job) : Bool :=
  match j.kernel with
  | some k => decide (e < 256) && k.owns (s.le e).regs.upc && mwSeq (k.word ((s.le e).regs.upc - k.base)) == 7
  | none => false
/-- The job's KUM has its commit mark: its engines reach no safe point until BBRAM is written, and it is done (R13, R324). -/
def State.marked (s : State) (r : JobRef) : Bool := s.keys.commits.any (fun c => c.j == r && c.marked)
/-- The engine is an LE that holds a DRBG_DRAW at issue, which is no safe point (R269). -/
def State.drawHeld (s : State) (unit : Nat) : Bool := decide (unit < 256) && (s.le unit).waiting == some 7
/-- SAFE_POINT_REACHED: the highest-ranked latched event is acted on and the rest are cleared (R232, R449, R469): tenant reset, abortive close, fence,
then lap-end suspension, preemption and take-over. A job suspended at the end of its budget goes on as borrowed work where it may (R137). A fence of an AES-GCM core
waits for the end of its job or for AES_FENCE_TIMEOUT (R449). -/
def execSafePointReached (unit : Nat) (s : State) : Out :=
  let e := s.engine unit
  match e.job with
  | none => .next s
  | some r =>
    match s.findJob r with
    | none => .next s
    | some j =>
      if e.latched = [] ∨ s.clk.gated ∨ s.marked r ∨ s.drawHeld unit then .next s
      else if e.latched.contains 1 then .next (s.cutJob j 0x60 0 0)
      else if e.latched.contains 2 then .next ((s.accrue j).discardJob r)
      else if s.atExit unit j then .next s
      else if e.latched.contains 3 then .next (if 1024 ≤ unit then s else s.moveJob j)
      else
        let t := s.accrue j
        if e.latched = [4] ∧ t.mayContinue ((t.findJob r).getD j) then
          let u := j.units.foldl (fun u i => u.setEngine i { u.engine i with latched := [] }) t
          .next (u.mapJob r (fun (x : Job) => { x with borrowed := true, admitted := s.order }))
        else .next (s.suspendJob j (e.latched.contains 5 || e.latched.contains 6))

/-! ### Laps (R124-R127, R135, R138, R141) -/

/-- The length of a lap in ns. -/
def State.lapNs (s : State) : Nat := s.lap.length * 1000
/-- The datum instant of the next lap boundary. -/
def State.nextBoundary (s : State) : Nat := (s.lap.start / s.lapNs + 1) * s.lapNs

/-- Charges at a boundary, once running jobs have been charged up to it: C becomes what was charged beyond the budget, carried as the deficit; latched lap-end suspensions lapse (R135, R137). -/
def State.refill (s : State) : State :=
  let t := { s with
    tenants := s.tenants.map (fun p =>
      let excess : Work := ⟨p.2.charge.le - s.budget p.1 .le, p.2.charge.hc - s.budget p.1 .hc, p.2.charge.be - s.budget p.1 .be,
        p.2.charge.aead - s.budget p.1 .aead⟩
      (p.1, { p.2 with charge := excess, deficit := excess }))
    units := Map.mapVals (fun (e : Engine) => { e with latched := e.latched.filter (fun x => x != 4) }) s.units
    jobs := s.jobs.map (fun (j : Job) => { j with lapCharged := noWork, lapBorrowed := noWork }) }
  t

/-- The first whole second of the datum at or after an instant. -/
def secondFrom (ns : Nat) : Nat := (ns + 999999999) / 1000000000 * 1000000000
/-- 0x1A00.01 is written: the length waits for the first datum instant from now on whose nanosecond field is 0 (R125). -/
def State.lengthWritten (s : State) : State := { s with lap := { s.lap with lengthAt := secondFrom s.clk.datum } }
/-- The lap length that entry 0x1A00.01 asks for takes effect: one is pending, and its instant has come (R125). -/
def State.lengthDue (s : State) : Bool := s.rd 0x1A00 1 != s.rd 0x1A00 5 && decide (s.lap.lengthAt ≤ s.clk.datum)
/-- The length of the lap that begins. -/
def State.lengthNow (s : State) : Nat := if s.lengthDue then lapMicros (s.rd 0x1A00 1) else s.lap.length
/-- LAP_ACTIVE follows, and the change is counted (R125). -/
def State.takeLength (s : State) : State :=
  if s.lengthDue then (s.wr 0x1A00 5 (s.rd 0x1A00 1)).event 0x1A00 0xC 2 else s
/-- A lap begins now; a short one is counted with flag SHORT and budgets follow its length (R124, R126, R135). -/
def State.beginLap (s : State) (short : Option Nat) : State :=
  let len := s.lengthNow
  let t := (s.accrueAll.refill).takeLength
  let t := { t with lap := { t.lap with start := s.clk.datum, short := short, length := len, fabAt := s.clk.fab } }
  let t := t.inc 0x1A00 6 1
  if short.isSome then t.event 0x1A00 0xC 1 else t

/-- A short lap from now to the next boundary of the datum (R126, R127). -/
def State.shortLap (s : State) : State :=
  let n := s.lengthNow * 1000
  s.beginLap (some ((s.clk.datum / n + 1) * n - s.clk.datum))

/-- A key's not-after has passed (R141). -/
def State.expired (s : State) (k : KeyRec) : Bool := k.notAfter != 0 && decide (ofTime80 k.notAfter < s.clk.maxDatum)
/-- A job that has not been dispatched names a key whose not-after, as it stood when the job was classified, has passed (R11, R141). A job that was dispatched
and waits to run again, after a retry, a move or a displacement, runs to completion. -/
def State.keyLate (s : State) (j : Job) : Bool :=
  (j.state == .queued || j.state == .reassembling) && j.scheduled && !j.prec && !j.switched && j.key != 0 &&
    (match s.keyFor j with | some k => s.expired k | none => false)
/-- At a key's expiry, jobs naming it that have not been dispatched end with KEY_EXPIRED, and an EVENT is sent, once (R141). -/
def State.expireKeys (s : State) : State :=
  let since := s.lap.expiredTo
  let ks := ((s.keys.vol.map (fun p => p.2)) ++ (s.keys.recs.map (fun p => p.2))).filter (fun (k : KeyRec) => s.expired k)
  let t := (s.jobs.filter s.keyLate).foldl (fun u (j : Job) => u.finish j.ref 0x31 0 [] none) { s with lap := { s.lap with expiredTo := s.clk.maxDatum } }
  ks.foldl (fun u k => if since ≤ ofTime80 k.notAfter then u.notify 3 (some (keyTenant k.handle)) k.handle else u) t

/-- The next whole multiple of an interval of `n` seconds after an instant (R141). -/
def nextMultiple (n instant : Nat) : Nat := (instant / (n * 1000000000) + 1) * (n * 1000000000)

/-- Scheduled reseeds: each cluster DRBG and each instantiated tenant DRBG asks for a block; none during FAMINE (R299, R303). -/
def State.scheduledReseed (s : State) : State :=
  if s.entropyState ≠ 1 then s
  else (List.range 80).foldl (fun u d => if (u.drbg d).state = 1 ∨ (u.drbg d).state = 2 then u.request ⟨drbgClass d, d, false, true, none⟩ else u) s

/-- The scheduled CHECKPOINT, where an instant of it has fallen due (R141). -/
def State.dueCheckpoint (s : State) : State :=
  let t := if s.lap.ckptDue ∨ s.lap.nextCkpt ≤ s.clk.datum then s.checkpoint 2 else s
  { t with lap := { s.lap with
    ckptDue := false
    nextCkpt := if s.lap.nextCkpt ≤ s.clk.datum then nextMultiple (s.rd 0x3800 5) s.clk.datum else s.lap.nextCkpt } }
/-- The scheduled reseed, likewise. -/
def State.dueReseed (s : State) : State :=
  let t := if s.lap.reseedDue ∨ s.lap.nextReseed ≤ s.clk.datum then s.scheduledReseed else s
  { t with lap := { s.lap with
    reseedDue := false
    nextReseed := if s.lap.nextReseed ≤ s.clk.datum then nextMultiple (s.rd 0x2800 4) s.clk.datum else s.lap.nextReseed } }
/-- Activities that fell due run at a lap boundary (R141). -/
def State.dueActivities (s : State) : State := s.expireKeys.dueCheckpoint.dueReseed
/-- CHECKPOINT_INTERVAL is rewritten: an instant already due still runs at its boundary, and the next is a multiple of the new interval (R141). -/
def State.checkpointInterval (s : State) : State :=
  { s with lap := { s.lap with
    ckptDue := s.lap.ckptDue || decide (s.lap.nextCkpt ≤ s.clk.datum)
    nextCkpt := nextMultiple (s.rd 0x3800 5) s.clk.datum } }
/-- RESEED_INTERVAL is rewritten (R141). -/
def State.reseedInterval (s : State) : State :=
  { s with lap := { s.lap with
    reseedDue := s.lap.reseedDue || decide (s.lap.nextReseed ≤ s.clk.datum)
    nextReseed := nextMultiple (s.rd 0x2800 4) s.clk.datum } }

/-- Engines released by the owner whose self-test passed return to service at the next lap boundary (R220, R133). -/
def State.endSelfTests (s : State) : State :=
  let back := s.units.filter (fun p => p.2.selfTest)
  let whole := (List.range 16).filter (fun c => (clusterUnits c).all (fun u => (s.engine u).selfTest))
  let t := back.foldl (fun u p =>
    let v := u.setEngine p.1 { u.engine p.1 with selfTest := false, fenced := false, faults := [] }
    if whole.contains (unitCluster p.1) then v else v.logRow 5 (unitType p.1) (unitCluster p.1) (unitIndex p.1) 0xFF 0 0) s
  let t := whole.foldl (fun u c => u.logRow 5 6 c 0 0xFF 0 0) t
  if back = [] then t else t.rebalance false

/-- What happens at every boundary, whatever begins there. -/
def State.boundary (s : State) (short : Option Nat) : State := ((s.beginLap short).endSelfTests.rebalance false).dueActivities

/-- The running lap has come to its end: by the datum or, while REFCLK_SD is absent, by FAB cycles at the nominal length, of a short lap at its own (R124,
R127). -/
def State.lapOver (s : State) : Bool :=
  if s.clk.sd then decide (s.nextBoundary ≤ s.clk.datum) || decide (s.clk.datum < s.lap.start)
  else decide ((match s.lap.short with | some n => n * 5 / 4 | none => s.lap.length * 1250) ≤ s.clk.fab - s.lap.fabAt)

/-- LAP_BOUNDARY (R124, R135). -/
def execLapBoundary (s : State) : Out := when (s.phase == .up && !s.clk.gated && s.lapOver) s (s.boundary none)

/-- LAP_LENGTH_CHANGE: at the first datum second boundary after its write a new lap length takes effect (R125). -/
def execLapLengthChange (s : State) : Out :=
  when (s.phase == .up && !s.clk.gated && s.lengthDue) s (s.boundary none)

end Machine
end Sys2Proof
end

