-- ==== Sys2Proof/Machine/Frames.lean ====
section
/-! DEFINITION. Opfel frames: acceptance, classification, reassembly, credits and release (03 R41-R67, 04 R73-R76, R92-R95). -/

namespace Sys2Proof

open Machine

/-! ### Header fields (R42) -/

def OpfelIn.version (f : OpfelIn) : Nat := fieldAt f.header 0 1 / 16
def OpfelIn.kind (f : OpfelIn) : Nat := fieldAt f.header 0 1 % 16
def OpfelIn.flags (f : OpfelIn) : Nat := fieldAt f.header 1 1
def OpfelIn.tenant (f : OpfelIn) : Nat := fieldAt f.header 2 1 % 64
def OpfelIn.queue (f : OpfelIn) : Nat := fieldAt f.header 3 1 % 8
def OpfelIn.handle (f : OpfelIn) : Nat := fieldAt f.header 4 4
def OpfelIn.seq (f : OpfelIn) : Nat := fieldAt f.header 8 8
def OpfelIn.opcode (f : OpfelIn) : Nat := fieldAt f.header 16 2
def OpfelIn.length (f : OpfelIn) : Nat := fieldAt f.header 20 4
def OpfelIn.segIndex (f : OpfelIn) : Nat := fieldAt f.header 24 2
def OpfelIn.segCount (f : OpfelIn) : Nat := fieldAt f.header 26 2
def OpfelIn.cookie (f : OpfelIn) : Nat := fieldAt f.header 28 4
def OpfelIn.key (f : OpfelIn) : Nat := fieldAt f.header 32 4
def OpfelIn.needsAck (f : OpfelIn) : Bool := bitAt f.flags 4

/-- A PEER frame of a HELLO (R380). -/
def OpfelIn.isHello (f : OpfelIn) : Bool := f.kind == 0x8 && (f.opcode == 1 || f.opcode == 2)
/-- The length of the frame's tag: ANNOUNCE, HANDSHAKE and the HELLO of a peer carry none (*Frame kinds*, R380). -/
def OpfelIn.tagLen (f : OpfelIn) : Nat := if f.kind = 0x9 ∨ f.kind = 0xA ∨ f.isHello then 0 else 16

/-- The frame is one that R43 drops: its version, its kind or direction, or shorter than its header and tag. -/
def OpfelIn.badFormat (f : OpfelIn) : Bool :=
  decide (f.held < 40) || f.version != 2 || !([0x1, 0x3, 0x4, 0x5, 0x6, 0x8, 0x9, 0xA].contains f.kind) || decide (f.held < 40 + f.tagLen)

/-- The carrier's octets for the Opfel frame (R41): none where its lengths disagree. -/
def OpfelIn.carried (f : OpfelIn) : Option Nat :=
  match f.carrier with
  | .udp u ip => if u = ip ∧ 8 ≤ u ∧ u ≤ f.held + 8 then some (u - 8) else none
  | .raw n tagged =>
    let h := if tagged then 22 else 18
    if h ≤ n ∧ n ≤ f.held + h then some (n - h) else none

/-- The octets after the header that the carrier gives the frame (R41). -/
def OpfelIn.inside (f : OpfelIn) : Bytes := f.body.take (f.carried.getD 40 - 40)

/-- The carrier's lengths disagree with each other or with the octets received, or L is negative (R41, R64). -/
def OpfelIn.badCarrier (f : OpfelIn) : Bool :=
  match f.carried with
  | none => true
  | some n => decide (n < 40 + f.tagLen)

/-- What the frame opens to under a key, in a nonce role: none where its tag fails (R45, R46, R64). -/
def OpfelIn.opened (f : OpfelIn) (key : Bytes) (role : Nat) : Option Bytes :=
  gcmOpen key (nonceOctets f.handle role f.segIndex f.seq) f.header f.inside

/-- The segment's own structure (R54). -/
def OpfelIn.segmentOk (f : OpfelIn) : Bool :=
  decide (1 ≤ f.segCount) && decide (f.segCount ≤ 32768) && decide (f.segIndex < f.segCount) &&
    (bitAt f.flags 5 == (f.segIndex == 0)) && (bitAt f.flags 6 == (f.segIndex + 1 == f.segCount))

/-- The message that a HANDSHAKE, ANNOUNCE or PEER frame is a segment of (R44, R79, R379). -/
def OpfelIn.part (f : OpfelIn) : PartRef :=
  if f.kind = 0xA then .handshake f.peer f.tenant f.seq else if f.kind = 0x9 then .announce f.peer f.port f.seq else .peer f.isHello f.handle f.seq

namespace Machine

/-! ### Refusals -/

/-- A new job slot for a message's first segment (R11, R93). -/
def newJob (s : State) (slot : Nat) (c : Channel) (f : OpfelIn) (kernel : Option Kernel) : Job where
  chan := slot
  seq := f.seq
  handle := f.handle
  hdrTenant := f.tenant
  order := s.order
  tenant := c.tenant
  queue := f.queue
  kind := f.kind
  opcode := f.opcode
  key := f.key
  cookie := f.cookie
  length := f.length
  segCount := f.segCount
  segs := []
  firstAt := s.clk.datum
  needsAck := f.needsAck
  credits := blocksOf f.length
  reserve := 0
  state := .reassembling
  units := []
  borrowed := false
  admitted := 0
  charged := noWork
  lapCharged := noWork
  lapBorrowed := noWork
  epoch := s.dtx.epoch
  retried := false
  faultUnit := none
  waitSince := none
  drawn := []
  status := 0
  detail := 0
  result := []
  resKey := 0
  index := none
  stamp := none
  kernel := kernel
  rnd := none
  sentAs := none
  prec := false
  isSealed := s.rd (0x1900 + c.tenant) 1 == 1
  switched := false
  slotless := false
  kumChecked := false
  extra := noWork
  mid := 0

/-- The sequence is seen from now on, and H rises to it (R49). -/
def Channel.accept (c : Channel) (seq : Nat) : Channel :=
  { c with high := Nat.max c.high seq, seen := if c.seen.contains seq then c.seen else seq :: c.seen }

/-- The sequence lies in the range that R48 and R49 accept. -/
def Channel.inRange (c : Channel) (seq : Nat) : Bool :=
  seq != 0 && decide (seq < 2 ^ 47) && decide (seq ≤ c.high + 1024) && decide (c.low < seq)

/-- A queue of a tenant has a free job slot (R93); a refusal kept without a slot takes none (log 24). -/
def State.queueFree (s : State) (t q : Nat) : Bool :=
  decide ((s.jobs.filter (fun j => j.tenant == t && j.queue == q && !j.slotless)).length < s.rd (0x1800 + t) (8 + q))

/-- The debit of a message at its classification: its whole cost, where the balance covers it (R60; log 102). -/
def Channel.debit (c : Channel) (n : Nat) : Channel := if n ≤ c.balance then { c with spent := c.spent + n } else c

/-- H rises on the arrival of a sequence beyond it that is in range, whether it comes to be seen or not (R49). -/
def Channel.raise (c : Channel) (seq : Nat) : Channel := { c with high := if c.inRange seq then Nat.max c.high seq else c.high }

/-- Refuse a new message: its cost is debited and its blocks return to the share; uncached statuses, and any status of a sequence out of range, are sent at
once and leave the sequence unseen; others are cached against it, in a slot where its queue has one. A message that came whole in one segment is answered
where it asks (R49-R51, R60, R63, R67, R93; logs 24, 102). -/
def State.refuse (s : State) (slot : Nat) (c : Channel) (f : OpfelIn) (status detail : Nat) : State :=
  let c := if status = 0x41 then c else c.debit (blocksOf f.length)
  let t := if uncached status || !c.inRange f.seq then
      (s.sendRefusal slot (c.raise f.seq) f.tenant f.handle f.queue f.seq f.opcode status detail f.cookie f.key (s.resultOf f.kind status [])).trim slot
    else
      ({ s with
        jobs := s.jobs ++ [{ (newJob s slot c f none).ended status detail (s.resultOf f.kind status []) f.key with slotless := !s.queueFree c.tenant f.queue }]
        order := s.order + 1
        chans := Map.put s.chans slot (c.accept f.seq) }).trim slot
  if f.needsAck && f.segCount == 1 then t.sendCredit slot else t

/-! ### Classification (R67) -/

/-- The classes of engine that an opcode's catalogue row uses, `typ` the type of the key it names and `head` the beginning of its payload (R129, R131, R174,
R195): a stamp signs as its key does, a quote with the co-signatures it asks for. -/
def usesClass (op typ : Nat) (head : Bytes) (cl : EngClass) : Bool :=
  let f := opFam op
  let o := opOp op
  let pq := decide (1 ≤ f ∧ f ≤ 7)
  let service := f == 0x11 && opSet op == 1
  match cl with
  | .le => pq || f == 0x80 || (service && decide (o ≤ 2)) || (op == 0x1120 && typ != 0x20) || op == 0x1130 || op == 0x1014
  | .hc => pq || f == 0x80 || (f == 0x08 && (opSet op == 3 || o == 1 || o == 2)) || (f == 0x09 && (o == 1 || o == 2)) || f == 0x0D || f == 0x0E ||
      f == 0x20 || f == 0x11 || op == 0x1014
  | .be => f == 0x08 || f == 0x09 || (service && decide (o ≤ 2)) || (op == 0x1120 && typ == 0x20) || (op == 0x1130 && bitAt (fieldAt head 0 1) 1)
  | .aead => f == 0x0C || f == 0x0F || op == 0x1010

/-- A tenant is sealed (entry 0x1900+t.01). -/
def State.sealed (s : State) (t : Nat) : Bool := s.rd (0x1900 + t) 1 == 1
/-- A tenant holds a unit of a class (R131). -/
def State.holdsClass (s : State) (t : Nat) (cl : EngClass) : Bool := s.units.any (fun p => p.2.holder == .tenant t && unitClass p.1 == cl)

/-- CONTROL operations open to every role (*Roles*, R73). -/
def commonControl (op : Nat) : Bool := [1, 2, 3, 4, 5, 8].contains op

/-- The role's rights for a kind and opcode, `typ` the type of the key named and `head` the beginning of the payload (step 7; R73, R75, R96, R119, R131,
R369). DESCRIBE counts as a DICT read for an enrolment channel (log 131). -/
def State.roleAllows (s : State) (c : Channel) (kind op typ : Nat) (head : Bytes) : Bool :=
  if c.enrol then (kind == 0x5 && [1, 2, 3, 7].contains op) || (kind == 0x4 && (op == 1 || op == 4))
  else if kind = 0x4 then op != 3 || c.role == 1
  else if kind = 0x5 then c.role == 1 || (c.role == 2 && op != 7) || commonControl op
  else
    bitAt (s.rd (0x1800 + c.tenant) 2) (familyBit op) &&
      (match c.role with
       | 1 | 2 => true
       | 3 => opFam op != 0x80
       | 4 => opFam op == 0x30 || op == 0x1130
       | _ => false) &&
      (op != 0x3012 || c.role == 1) &&
      (!s.sealed c.tenant || classes.all (fun cl => !usesClass op typ head cl || s.holdsClass c.tenant cl))

/-- The kernel bound to an opcode of family 0x80 (R243). -/
def State.boundKernel (s : State) (op : Nat) : Option Kernel :=
  if opFam op = 0x80 then Map.find s.kern.bound (op % 256) else none

/-- Kind and opcode known (step 4). -/
def State.known (s : State) (kind op : Nat) : Bool :=
  match kind with
  | 0x1 => jobExists op || (s.boundKernel op).isSome
  | 0x3 => streamExists op
  | 0x4 => decide (1 ≤ op ∧ op ≤ 4)
  | 0x5 => decide (1 ≤ op ∧ op ≤ 8)
  | _ => false

/-- The largest declared length of a kind (R57). -/
def maxLength (kind : Nat) : Nat := if kind = 0x1 ∨ kind = 0x3 then maxJob else 65536

/-- Declared lengths that the operation allows (step 9; R66, R91, R97, R107, R108, R119, R243, R275). -/
def State.lengthAllowed (s : State) (kind op h d : Nat) : Bool :=
  match kind with
  | 0x1 => match s.boundKernel op with
    | some k => within k.lenMin k.lenMax d
    | none => lengthOk op h d
  | 0x3 => decide (8 ≤ d)
  | 0x4 => match op with
    | 1 => within 22 400 d && (d - 16) % 6 == 0
    | 2 => decide (14 ≤ d)
    | 3 => decide (7283 ≤ d)
    | _ => d == 4
  | 0x5 => match op with
    | 4 => d == 8
    | 5 => d == 4
    | 6 => d == 1
    | 7 => sigLen 0x02 (s.rd 0x1030 2) != 0 && d == 128 + sigLen 0x02 (s.rd 0x1030 2)
    | 8 => d == 4
    | _ => d == 0
  | _ => true

/-- A message that makes a volatile key, by its opcode and the beginning of its payload, where TO_KEY stands (R179, R187, R329; log 31). -/
def makesKey (op : Nat) (head : Bytes) : Bool :=
  (decide (1 ≤ opFam op ∧ opFam op ≤ 9) && (opOp op == 0 || (opFam op == 1 && opOp op == 3))) || op == 0x1010 || op == 0x1011 ||
    op == 0x1110 || op == 0x1111 || ((opFam op == 0x0E || (opFam op == 8 && opOp op == 3)) && bitAt (fieldAt head 0 1) 0)

/-- The masking order asked for: 0 for a type that has none (R153, R315). -/
def keygenOrder (fam : Nat) (b : Bytes) : Nat := if fam = 1 ∨ fam = 2 ∨ fam = 5 then 1 + fieldAt b 0 1 % 2 else 0
/-- The words that the key a message makes may take (R327, R329). -/
def newKeyWords (op : Nat) (head : Bytes) (len : Nat) : Nat :=
  if op = 0x1010 then materialWords (fieldAt head 0 1) 1 0 0
  else if op = 0x1011 then materialWords (fieldAt head 4 1) (fieldAt head 5 1) 0 (len - 44)
  else if opFam op = 0x11 then materialWords 0x04 1 0 0
  else if opFam op = 0x0E then materialWords (fieldAt head 1 1) 1 0 0
  else if opFam op = 8 ∧ opOp op = 3 then materialWords 0x03 1 0 0
  else materialWords (privType (opFam op)) (opSet op) (keygenOrder (opFam op) head) (pubLen (opFam op) (opSet op))
/-- The pool blocks of the Classic McEliece public key that a message makes (R327, R329). -/
def newKeyBlocks (op : Nat) (head : Bytes) (len : Nat) : Nat :=
  if opFam op = 0x06 ∧ opOp op = 0 then ceilDiv (pubLen 6 (opSet op)) 1152
  else if op = 0x1011 ∧ fieldAt head 4 1 = 0x1B then ceilDiv (len - 44) 1152 else 0
/-- The secret type of the key an opcode generates, 0 where it generates none. -/
def newKeyType (op : Nat) : Nat := if opOp op = 0 ∨ opOp op = 3 then privType (opFam op) else 0

/-- The beginning of a job's payload: its first segment. -/
def Job.head (j : Job) : Bytes := Map.getD j.segs 0 []
/-- Live jobs that hold a key reservation (R329). -/
def Job.reservesKey (j : Job) : Bool := j.kind == 0x1 && makesKey j.opcode j.head && j.live

/-- Material words of the volatile keys and of the reservations of live jobs (R327, R329). -/
def State.volatileWords (s : State) : Nat :=
  (s.keys.vol.map (fun p => materialWords p.2.typ p.2.set p.2.order p.2.pub.length)).sum +
    ((s.jobs.filter Job.reservesKey).map (fun j => newKeyWords j.opcode j.head j.length)).sum

/-- Volatile secret keys of a type, reservations included. -/
def State.volatileOf (s : State) (typ : Nat) : Nat :=
  (s.keys.vol.filter (fun p => p.2.typ == typ)).length + (s.jobs.filter (fun j => j.reservesKey && newKeyType j.opcode == typ)).length

/-- The words of the material region that a record takes (R327). -/
def KeyRec.words (k : KeyRec) : Nat := materialWords k.typ k.set k.order k.pub.length
/-- The records kept for jobs classified before a KUM or a DESTROY whose own material stands in the region (R323, R328). -/
def State.heldOld (s : State) : List KeyRec :=
  (s.keys.old.filter (fun o => s.keys.oldHeld.contains (o.1, o.2.handle))).map (fun o => o.2)
/-- The loaded persistent records, and those kept for earlier jobs. -/
def State.loadedRecs (s : State) : List KeyRec := ((s.keys.recs.filter (fun p => s.keys.loaded.contains p.2.handle)).map (fun p => p.2)) ++ s.heldOld
/-- Words of the material region that they take. -/
def State.loadedWords (s : State) : Nat := (s.loadedRecs.map KeyRec.words).sum
/-- A running or suspended job names the record, so that it cannot be evicted (R328). -/
def State.pinned (s : State) (h : Nat) : Bool := s.jobs.any (fun (j : Job) => j.key == h && (j.running || j.state == .suspended))
/-- The loaded records that cannot be evicted, those kept for earlier jobs among them (R323, R328). -/
def State.pinnedRecs (s : State) : List KeyRec := s.loadedRecs.filter (fun k => s.pinned k.handle || !s.keys.loaded.contains k.handle)
/-- Blocks of the ingress/egress pool that a record's Classic McEliece public key takes while it is loaded (R166, R327). -/
def KeyRec.poolBlocks (k : KeyRec) : Nat := if k.typ = 0x1A ∨ k.typ = 0x1B then ceilDiv k.pub.length 1152 else 0
/-- A tenant's pool share has room for `n` blocks more (R8, R166, R327). -/
def State.poolRoom (s : State) (t n : Nat) : Bool := n == 0 || decide (s.poolInUse t + n ≤ s.rd (0x1640 + t) 1)
/-- Blocks that a tenant's live jobs will take for the Classic McEliece public keys they make. -/
def State.keyBlocksAhead (s : State) (t : Nat) : Nat :=
  ((s.jobs.filter (fun j => j.reservesKey && j.tenant == t)).map (fun j => newKeyBlocks j.opcode j.head j.length)).sum

/-- A message that would make a key finds a descriptor and room for its material, once every loaded record that can be evicted has been (step 10, R8, R10,
R328, R329). -/
def State.keyRoom (s : State) (t op : Nat) (head : Bytes) (len : Nat) : Bool :=
  let pend := (s.jobs.filter (fun j => j.reservesKey && j.tenant == t)).length
  decide (s.volatileInUse t + pend < s.rd (0x2C40 + t) 1) &&
    decide (s.keys.vol.length + (s.jobs.filter Job.reservesKey).length < 65536) &&
    decide (s.volatileWords + (s.pinnedRecs.map KeyRec.words).sum + newKeyWords op head len ≤ 1113088) &&
    (newKeyType op != 0x22 || decide (s.volatileOf 0x22 + (s.pinnedRecs.filter (fun k => k.typ == 0x22)).length < 4096)) &&
    (newKeyType op != 0x1A || decide (s.volatileOf 0x1A + (s.pinnedRecs.filter (fun k => k.typ == 0x1A)).length < 256)) &&
    (newKeyBlocks op head len == 0 || s.poolRoom t (s.keyBlocksAhead t + newKeyBlocks op head len))

/-- A free job slot in the selected queue (R93, R329). -/
def State.slotFree (s : State) (t q kind op : Nat) (head : Bytes) (len : Nat) : Bool :=
  s.queueFree t q && (kind != 0x1 || !makesKey op head || s.keyRoom t op head len)

/-- The type of the key that a handle names, 0 where it names none. -/
def State.keyType (s : State) (h : Nat) : Nat := match s.key h with | some k => k.typ | none => 0
/-- A channel takes no new message: it drains, or its tenant is under reset (step 2; R88, R99). -/
def State.shut (s : State) (c : Channel) : Bool := c.state == .draining || (s.ten c.tenant).resetting

/-- The first failing check of the *Classification order* table, with its status and detail (R67), `pl` being the segment's payload; in QUIESCED, JOB and
STREAM messages are refused with TAMPER_ABORT (R412; log 27: before the opcode is looked at). -/
def State.classify (s : State) (c : Channel) (f : OpfelIn) (pl : Bytes) : Option (Nat × Nat) :=
  let head := if f.segIndex = 0 then pl else []
  if f.tenant ≠ f.handle / 2 ^ 26 ∨ f.tenant ≠ c.tenant then some (0x10, 1)
  else if s.shut c then some (0x12, 0)
  else if f.seq = 0 ∨ 2 ^ 47 ≤ f.seq ∨ c.high + 1024 < f.seq then some (0x14, 0)
  else if f.seq ≤ c.low then some (0x13, 0)
  else if s.tamp.quiesce ∧ (f.kind = 0x1 ∨ f.kind = 0x3) then some (0x62, 0)
  else if !s.known f.kind f.opcode then some (0x20, 0)
  else if !f.segmentOk then some (0x21, f.segIndex % 256)
  else if maxLength f.kind < f.length then some (0x24, 0)
  else if !s.roleAllows c f.kind f.opcode (s.keyType f.key) head then some (0x15, 0)
  else match (if f.kind = 0x1 ∨ f.kind = 0x3 then
      s.keyCheck c.tenant f.opcode f.key (match s.boundKernel f.opcode with | some k => k.keyUse % 4 | none => 0) else none) with
  | some e => some e
  | none =>
    if !s.lengthAllowed f.kind f.opcode f.key f.length then some (0x26, 0)
    else if !s.slotFree c.tenant f.queue f.kind f.opcode head f.length then some (0x40, 0)
    else if c.balance < blocksOf f.length then some (0x41, 0)
    else none

/-! ### Segments -/

/-- The octets of a message that have arrived. -/
def Job.arrived (j : Job) : Nat := (j.segs.map (fun p => p.2.length)).sum

/-- The segment carries what the first one carried (R54). -/
def Job.matchesSegment (j : Job) (f : OpfelIn) : Bool :=
  f.segmentOk && j.kind == f.kind && j.hdrTenant == f.tenant && j.queue == f.queue && j.handle == f.handle && j.opcode == f.opcode &&
    j.length == f.length && j.segCount == f.segCount && j.cookie == f.cookie && j.key == f.key

/-- The message is wholly received: answer NEEDS_ACK (R63). -/
def State.received (s : State) (j : Job) : State := if j.needsAck then s.sendCredit j.chan else s

/-- The first segment of a message has arrived after another and shows that it would make a key: its reservation is made now, or refused (R329; log 31). -/
def State.lateReserve (s : State) (j : Job) (f : OpfelIn) (pl : Bytes) : Bool :=
  f.segIndex != 0 || j.segs == [] || j.kind != 0x1 || makesKey j.opcode [] || !makesKey j.opcode pl || s.keyRoom j.tenant j.opcode pl j.length
/-- A segment of a message being reassembled (R54, R55, R65); the last one that arrives answers NEEDS_ACK even where it ends the message (R63). -/
def State.addSegment (s : State) (j : Job) (f : OpfelIn) (pl : Bytes) : State :=
  let j' := { j with segs := Map.put j.segs f.segIndex pl, needsAck := j.needsAck || f.needsAck }
  let refused := fun (status detail : Nat) =>
    let t := s.finish j.ref status detail [] none
    if j.segCount ≤ j.segs.length + 1 then t.received j' else t
  if !j.matchesSegment f then refused 0x21 (f.segIndex % 256)
  else if (Map.find j.segs f.segIndex).isSome then s
  else if !s.lateReserve j f pl then refused 0x40 0
  else if j'.length < j'.arrived then refused 0x24 0
  else if j'.segs.length < j'.segCount then s.mapJob j.ref (fun _ => j')
  else if j'.arrived < j'.length then refused 0x25 0
  else (s.mapJob j.ref (fun _ => { j' with state := .queued })).received j'

/-- A new message's first segment that passes classification: it takes its slot, its credits and its place in its queue; CLOSE starts the
drain at once (R49, R60, R88, R92). -/
def State.admitMessage (s : State) (slot : Nat) (c : Channel) (f : OpfelIn) (pl : Bytes) : State :=
  let closes := f.kind = 0x5 ∧ f.opcode = 2
  let c' := { (c.accept f.seq).debit (blocksOf f.length) with
    state := if closes then .draining else c.state
    closeSeq := if closes then some f.seq else c.closeSeq }
  let j := newJob s slot c f (s.boundKernel f.opcode)
  let t := ({ s with
    jobs := s.jobs ++ [j]
    order := s.order + 1
    chans := Map.put s.chans slot c' }).trim slot
  t.addSegment j f pl

/-- A segment of a message that reached a status already, or that runs (R15, R55); one whose completion was lost is a stray (R447). -/
def State.repeated (s : State) (j : Job) (f : OpfelIn) : State :=
  match j.state with
  | .released => if f.segIndex = 0 ∧ j.sentAs.isSome then s.resend j else s.inc 0x1600 0x14 1
  | .done => if f.segIndex = 0 then s else s.inc 0x1600 0x14 1
  | _ => s

/-- An authentic JOB, STREAM, DICT or CONTROL segment with its payload (R49, R67); a first segment at the floor or below the window is classified, whatever
became of its message (R49, R94); a sequence that is seen and has no slot has lost its completion (R447). -/
def State.message (s : State) (slot : Nat) (f : OpfelIn) (pl : Bytes) : State :=
  match Map.find s.chans slot with
  | none => s
  | some c =>
    let fresh := match s.classify c f pl with
      | some (st, detail) => s.refuse slot c f st detail
      | none => s.admitMessage slot c f pl
    match s.findJob ⟨slot, f.seq⟩ with
    | some j =>
      if j.state = .reassembling then s.addSegment j f pl
      else if f.segIndex = 0 ∧ f.seq ≤ c.low then fresh
      else s.repeated j f
    | none => if c.seen.contains f.seq ∧ c.low < f.seq then s.inc 0x1600 0x14 1 else fresh

/-- An authentic CREDIT frame: dropped and counted unless it is empty and its sequence is one that R48 and R49 accept; it takes its sequence, and every one
answers NEEDS_ACK; on a channel that takes no new message the sequence is not taken (R48, R49, R57, R63, R88; log 103). -/
def State.creditIn (s : State) (slot : Nat) (f : OpfelIn) (pl : Bytes) : State :=
  match Map.find s.chans slot with
  | none => s
  | some c =>
    if f.length ≠ 0 ∨ pl ≠ [] ∨ f.segCount ≠ 1 ∨ !f.segmentOk ∨ f.tenant ≠ f.handle / 2 ^ 26 ∨ f.tenant ≠ c.tenant ∨ !c.inRange f.seq then s.inc 0x1600 0x14 1
    else
      let t := if s.shut c then s else ({ s with chans := Map.put s.chans slot (c.accept f.seq) }).trim slot
      if f.needsAck then t.sendCredit slot else t

/-- The channel's first authentic frame opens it; every one restarts its keepalive, and its source is where frames go from now on (R24, R86,
R87). -/
def Channel.heard (c : Channel) (now : Nat) (peer : Peer) (port : Nat) : Channel :=
  { c with lastAuth := now, peer, port, state := if c.state = .pending then .opened else c.state }

/-- Count a frame received with RETRY set (entry 0x1600.15). -/
def State.countRetry (s : State) (f : OpfelIn) : State := if bitAt f.flags 3 then s.inc 0x1600 0x15 1 else s

/-- A frame of a kind that a channel carries: its key is found by slot and generation (R45), and its authentic payload goes to its kind (R86). -/
def State.channelFrame (s : State) (f : OpfelIn) : State :=
  let slot := f.handle % 2 ^ 16
  match Map.find s.chans slot with
  | none => s.inc 0x1600 0x12 1
  | some c =>
    if c.gen ≠ f.handle / 2 ^ 16 % 1024 then s.inc 0x1600 0x12 1
    else match f.opened c.rxKey 0 with
      | none => s.inc 0x1600 0x12 1
      | some pl =>
        if c.state = .closing then s
        else
          let t := { s with chans := Map.put s.chans slot (c.heard s.clk.datum f.peer f.port) }.countRetry f
          if f.kind = 0x6 then t.creditIn slot f pl else t.message slot f pl

/-! ### HANDSHAKE and PEER messages in segments (R53-R57, R79, R379) -/

/-- What the first segment of a HANDSHAKE or PEER message begins (R54). -/
def newPartial (s : State) (f : OpfelIn) : Partial :=
  { kind := f.kind, src := f.peer, port := f.port, tenant := f.tenant, queue := f.queue, handle := f.handle, seq := f.seq, opcode := f.opcode,
    length := f.length, segCount := f.segCount, cookie := f.cookie, key := f.key, segs := [], firstAt := s.clk.datum }
/-- The segment carries what the first one carried (R54). -/
def Partial.matchesSegment (p : Partial) (f : OpfelIn) : Bool :=
  f.segmentOk && p.kind == f.kind && p.tenant == f.tenant && p.queue == f.queue && p.handle == f.handle && p.seq == f.seq && p.opcode == f.opcode &&
    p.length == f.length && p.segCount == f.segCount && p.cookie == f.cookie && p.key == f.key
/-- The octets that have arrived, and the message they make in index order. -/
def Partial.arrived (p : Partial) : Nat := (p.segs.map (fun x => x.2.length)).sum
def Partial.body (p : Partial) : Bytes := (p.segs.map (fun x => x.2)).flatten

/-- What a segment does to the message it belongs to. -/
inductive Joined where
  /-- The message is refused, with this status and detail. -/
  | refused (status detail : Nat)
  /-- More segments are to come. -/
  | more (p : Partial)
  /-- The message is whole. -/
  | whole (p : Partial)
/-- A segment joins its message (R54, R55, R57, R65). -/
def Partial.join (p : Partial) (f : OpfelIn) (pl : Bytes) : Joined :=
  let p' := { p with segs := Map.put p.segs f.segIndex pl }
  if !p.matchesSegment f then .refused 0x21 (f.segIndex % 256)
  else if 65536 < p.length then .refused 0x24 0
  else if (Map.find p.segs f.segIndex).isSome then .more p
  else if p'.length < p'.arrived then .refused 0x24 0
  else if p'.segs.length < p'.segCount then .more p'
  else if p'.arrived < p'.length then .refused 0x25 0
  else .whole p'

/-- Whether a partial message is the one that a reference names: a HANDSHAKE by source, tenant and identifier (R79), a PEER message by its link handle and
number (R379), an ANNOUNCE by source, port and sequence (R28). -/
def Partial.named (p : Partial) : PartRef → Bool
  | .message _ => false
  | .handshake src t ident => p.kind == 0xA && p.src == src && p.tenant == t && p.seq == ident
  | .peer hello handle seq => p.kind == 0x8 && (p.opcode == 1 || p.opcode == 2) == hello && p.handle == handle && p.seq == seq
  | .announce src port seq => p.kind == 0x9 && p.src == src && p.port == port && p.seq == seq
def State.findPart (s : State) (r : PartRef) : Option Partial := s.parts.find? (fun p => p.named r)
def State.dropPart (s : State) (r : PartRef) : State := { s with parts := s.parts.filter (fun p => !p.named r) }
def State.putPart (s : State) (r : PartRef) (p : Partial) : State := { s with parts := s.parts.filter (fun x => !x.named r) ++ [p] }

/-- A HANDSHAKE frame from the NM72 (R79, R81, R82): no key, so nothing is wrapped. -/
def State.sendHandshake (s : State) (port : Nat) (peer : Peer) (tenant channel ident status detail cookie credits : Nat) (body : Bytes) : State :=
  let size := segmentSize (s.rd (0x1400 + port) 4) peer.encap
  let n := Nat.max 1 (ceilDiv body.length size)
  s.transmit ((List.range n).map (fun i =>
    .opfel port port peer
      (headerOctets 0xA (segFlags false i n) tenant 0 channel ident 0 status detail body.length i n cookie 0 credits) (slice body (i * size) size) none))

/-- A HANDSHAKE frame: the request is reassembled under its source, tenant and identifier, and waits whole for HANDSHAKE_REQUEST; a first frame whose header is
not that of a request is dropped, a later one breaks its message (R53-R57, R65, R79; log 104). -/
def State.handshakeFrame (s : State) (f : OpfelIn) : State :=
  let s := s.countRetry f
  if (f.queue ≠ 0 ∨ f.handle ≠ 0 ∨ f.opcode ≠ 0 ∨ f.key ≠ 0 ∨ f.seq = 0) ∧ (s.findPart f.part).isNone then s
  else match ((s.findPart f.part).getD (newPartial s f)).join f f.inside with
    | .refused st detail => (s.dropPart f.part).sendHandshake f.port f.peer f.tenant 0 f.seq st detail f.cookie 0 []
    | .more p => s.putPart f.part p
    | .whole p =>
      { s.dropPart f.part with
        hsIn := s.hsIn ++ [{ tenant := p.tenant, ident := p.seq, cookie := p.cookie, port := f.port, peer := f.peer, declared := p.length, body := p.body }] }

/-- COMPLETION_RELEASE: a completion is released where its channel's order allows (R14, R50-R52). -/
def execCompletionRelease (j : JobRef) (s : State) : Out := when s.runs s ((s.release j).trim j.chan)

end Machine
end Sys2Proof
end

