-- ==== Sys2Proof/Machine/StreamOps.lean ====
section
/-! DEFINITION. Hash streams, masks, keys, the mailbox and the matrix of a lattice engine (11 R267-R270, 09 R209-R219). -/

namespace Sys2Proof
namespace Machine

/-- Code 0 to 9 of a stream's function (R267). -/
def streamPrim : Nat → Prim
  | 0 => .shake128
  | 1 => .shake256
  | 2 => .sha3_256
  | 3 => .sha3_384
  | 4 => .sha3_512
  | 5 => .sha2_256
  | 6 => .sha2_384
  | 7 => .sha2_512
  | 8 => .cshake128
  | _ => .cshake256
/-- The digest length of a fixed-length function. -/
def streamLength : Nat → Option Nat
  | 2 => some 32
  | 3 => some 48
  | 4 => some 64
  | 5 => some 32
  | 6 => some 48
  | 7 => some 64
  | _ => none
/-- The free core a stream opens on: of the holder that the LE belongs to (R211), the lowest-numbered (log 11). -/
def State.freeCore (s : State) (e fn : Nat) : Option Nat :=
  ((List.range 8).map (coreUnit fn (clusterOf e))).find? (fun u =>
    (s.engine u).idle && (s.engine u).holder == (s.engine e).holder)

/-- The spare bits of a stream operand: bits [2:0] name the stream, `fields` the others it uses (R267). -/
def streamSpare (v lo hi : Nat) : Bool := bitsOf v 35 (hi + 1) == 0 && (decide (lo ≤ 3) || bitsOf v (lo - 1) 3 == 0)

/-- `n` octets of a register, octet 0 first (R258). -/
def regOctets (v n : Nat) : Bytes := (List.range n).map (fun j => BitVec.ofNat 8 (octetAt v j))
/-- A register whose first octets are given and whose other octets are zero (R258). -/
def octetsReg (b : Bytes) : Nat := b.foldr (fun x acc => x.toNat + 256 * acc) 0

/-- An opening that waits for a core is a hash message: it displaces a running one where R282 lets it. The microword must be about to issue. -/
def State.openingWay (s : State) (w : Mw) (fn : Nat) : State :=
  if (s.le w.le).job = none ∨ s.clk.gated ∨ (w.safePoint ∧ (s.engine w.le).latched ≠ []) ∨ w.wait ≠ 1 ∨ (s.freeCore w.le fn).isSome then s
  else match s.displacedByOpening w.le fn with
    | some r => s.displace r
    | none => s
/-- SOPEN: a free core of the function's kind, if need be one that another message is displaced from (R267, R282). -/
def execSopen (w : Mw) (s : State) : Out :=
  let l0 := s.le w.le
  let a := l0.areg (aIdx w.src2)
  let n := a.val % 8
  let fn := bitsOf a.val 7 4
  let bad := !streamSpare a.val 4 7 || decide (9 < fn) || (Map.find l0.streams n).isSome
  let s := if a.sec || bad then s else s.openingWay w fn
  issue s w true false (some 1) (a.sec || bad || (s.freeCore w.le fn).isSome) (fun t l =>
    if a.sec then .taint
    else if bad then .engine
    else match t.freeCore w.le fn with
      | none => .hold t 1
      | some u =>
        .go ((t.setEngine u { t.engine u with job := l.job }).setLe w.le
          { l with streams := Map.put l.streams n ⟨fn, u, [], false, 0, false, 0, 0⟩ }))

/-- The stream that an absorb names, with its octet count; none where the operand or the stream's state is a program fault (R267). -/
def Le.absorbs (l : Le) (v : Nat) (final : Bool) : Option (HStream × Nat) :=
  let n := bitsOf v 23 8
  if !streamSpare v 8 23 || decide (144 < n) || (n == 0 && !final) then none
  else match Map.find l.streams (v % 8) with
    | some h => if h.finalised then none else some (h, n)
    | none => none
/-- The input buffer of two registers has room for the absorb (R211). -/
def HStream.accepts (h : HStream) (n : Nat) : Bool := decide (h.inBuf + n ≤ 288)
/-- An absorb of octets 0 to n − 1 of register src1 into the input buffer, and for FINAL the padding (R211, R267). -/
def absorbOp (s : State) (w : Mw) (final : Bool) : Out :=
  let a := (s.le w.le).areg (aIdx w.src2)
  let ready := a.sec || (match (s.le w.le).absorbs a.val final with | some (h, n) => h.accepts n | none => true)
  issue s w true false (some 1) ready (fun t l =>
    let r := l.vreg w.src1.toNat
    if a.sec then .taint
    else match l.absorbs a.val final with
      | none => .engine
      | some (h, n) =>
        let h' := { h with
          data := h.data ++ regOctets r.val n
          finalised := final
          inBuf := h.inBuf + n
          sec := h.sec || bitsOf r.tags (ceilDiv n 9 - 1) 0 != 0 && n != 0 }
        .go (t.setLe w.le { l with streams := Map.put l.streams (a.val % 8) h' }))

/-- SABSORB (R267). -/
def execSabsorb (w : Mw) (s : State) : Out := absorbOp s w false
/-- SFINAL (R267). -/
def execSfinal (w : Mw) (s : State) : Out := absorbOp s w true

/-- The stream that a squeeze names, with its octet count; none where it is a program fault (R267). -/
def Le.squeezes (l : Le) (v : Nat) : Option (HStream × Nat) :=
  let n := bitsOf v 23 8
  if !streamSpare v 8 23 || decide (144 < n) then none
  else match Map.find l.streams (v % 8) with
    | some h => if !h.finalised || (match streamLength h.fn with | some m => decide (m < h.squeezed + n) | none => false) then none else some (h, n)
    | none => none
/-- The output buffer holds what the squeeze takes (R211). -/
def HStream.delivers (h : HStream) (n : Nat) : Bool := decide (n ≤ h.outBuf)
/-- SSQUEEZE: the next n output octets into register dest, the rest zero, tagged as the stream (R211, R267). -/
def execSsqueeze (w : Mw) (s : State) : Out :=
  let a := (s.le w.le).areg (aIdx w.src2)
  let ready := a.sec || (match (s.le w.le).squeezes a.val with | some (h, n) => h.delivers n | none => true)
  issue s w true false (some 1) ready (fun t l =>
    if a.sec then .taint
    else match l.squeezes a.val with
      | none => .engine
      | some (h, n) =>
        let out := slice (prim (h.squeezed + n) (streamPrim h.fn) [h.data]) h.squeezed n
        let l' := { l with streams := Map.put l.streams (a.val % 8) { h with squeezed := h.squeezed + n, outBuf := h.outBuf - n } }
        .go (t.setLe w.le (l'.setV w.dest.toNat ⟨octetsReg out, tagsOf h.sec⟩)))

/-- SCLOSE: the stream closes and its core is cleared and free (R267). -/
def execSclose (w : Mw) (s : State) : Out :=
  issue s w true false none true (fun t l =>
    let a := l.areg (aIdx w.src2)
    if a.sec then .taint
    else if a.val / 8 ≠ 0 then .engine
    else match Map.find l.streams (a.val % 8) with
      | none => .engine
      | some h => .go ((t.setEngine h.unit (t.engine h.unit).leave).setLe w.le
          { l with streams := Map.erase l.streams (a.val % 8) }))

/-- MASK_DRAW: the next register from the mask generator, secret (R209, R268). -/
def execMaskDraw (w : Mw) (s : State) : Out :=
  issue s w true false (some 3) true (fun t l =>
    .go (t.drawn.setLe w.le ({ l with maskBuf := l.maskBuf - 1 }.setV w.dest.toNat ⟨t.draw % 2 ^ 1152, 0xFFFF⟩)))

/-- DRBG_DRAW: 144 octets from the tenant's DRBG, secret; held at issue while the DRBG cannot serve (R268, R269). -/
def execDrbgDraw (w : Mw) (s : State) : Out :=
  issue s w true false none true (fun t l =>
    match l.job with
    | none => .engine
    | some r =>
      let d := tenantDrbg (match t.findJob r with | some j => j.tenant | none => 0)
      match t.generate d 144 (drawInput (t.handleFor r) r.seq) with
      | none => .hold (t.askSeed d) 7
      | some (u, out) => .go (u.setLe w.le (l.setV w.dest.toNat ⟨octetsReg out, 0xFFFF⟩)))

/-- KEY_FETCH: starts the key bus, or ENGINE_FAULT in a job that names no key (R268, R269). -/
def execKeyFetch (w : Mw) (s : State) : Out :=
  issue s w true false none true (fun t l =>
    match l.job with
    | none => .engine
    | some r =>
      match t.findJob r with
      | none => .engine
      | some j => if j.key = 0 then .engine else .go (t.setLe w.le { l with keyState := 1 }))

/-- MBOX_READ: the oldest word of the mailbox, public (R268). -/
def execMboxRead (w : Mw) (s : State) : Out :=
  issue s w true false (some 5) true (fun t l =>
    match l.regs.mailbox with
    | [] => .hold t 5
    | x :: rest =>
      .go (t.setLe w.le ({ l with
          regs := { l.regs with mailbox := rest }
          unread := if rest = [] then false else l.unread }.setA (aIdx w.dest) x.val false)))

/-- The seed digest in words 0 to 3 of a register, word 0 most significant (R268). -/
def seedDigest (r : VReg) : Nat :=
  (List.range 4).foldl (fun acc k => acc * 2 ^ 64 + (r.word k).val % 2 ^ 64) 0

/-- MATRIX_REQ (R268, R270). -/
def execMatrixReq (w : Mw) (s : State) : Out :=
  issue s w true false none true (fun t l =>
    let r := l.vreg w.src1.toNat
    if r.tags ≠ 0 then .taint
    else if l.unread || l.matrixAsked != none || l.w4 != none then .engine
    else .go (t.setLe w.le { l with matrixAsked := some (seedDigest r) }))

/-- MATRIX_DONE: the entry that W4 maps for writing becomes visible, unless another of its digest came first (R218, R268, R270). -/
def execMatrixDone (w : Mw) (s : State) : Out :=
  issue s w true false (some 6) true (fun t l =>
    match l.w4 with
    | none => .engine
    | some m =>
      if !m.writing then .engine
      else
        let t := t.setLe w.le { l with w4 := some { m with writing := false } }
        .go (if t.mcache.any (fun e => e.digest == m.digest) then t
             else { t with mcache := t.mcache ++ [⟨m.digest, m.size, m.words, m.seed⟩] }))

/-- MATRIX_ANSWER: hit or miss posted to the mailbox, with W4 mapped for reading or writing (R218, R270). Room can always be made, and a miss never waits (R218). -/
def execMatrixAnswer (le : Nat) (s : State) : Out :=
  let l := s.le le
  match (if s.clk.gated then none else l.matrixAsked), l.job with
  | some dg, some r =>
    let post := fun (m : W4Map) (v : Nat) =>
      { l with
        w4 := some m
        matrixAsked := none
        unread := true
        regs := { l.regs with mailbox := l.regs.mailbox ++ [⟨v, false⟩] } }
    match s.mcache.find? (fun e => e.digest == dg) with
    | some e =>
      .next ({ s with mcache := s.mcache.filter (fun (x : Matrix) => x.digest != dg) ++ [e] }.setLe le (post ⟨dg, e.size, false, e.words, e.seed⟩ 0))
    | none =>
      let n := matrixSize (match s.findJob r with | some j => j.opcode | none => 0)
      let c := s.makeRoom n s.mcache.length s.mcache
      .next ({ s with mcache := c }.setLe le (post ⟨dg, n, true, [], none⟩ 1))
  | _, _ => .next s

end Machine
end Sys2Proof
end

