-- ==== Sys2Proof/Machine/JobRow.lean ====
section
/-! DEFINITION. What every job's row shares: the checks that it runs, its draws, its charge and its end; making keys; the matrix cache
(01 R9-R13, 07 R146-R154, R173, 14 R312-R319, R327-R329). -/

namespace Sys2Proof
namespace Machine

/-! ### Results -/

/-- A job's outcome: the state it leaves, its status, its result and, where it made a key, the key's handle (R52, R150). -/
structure Done where
  st : State
  status : Nat
  out : Bytes
  key : Option Nat

/-- A job's run: it has ended, or it goes on waiting. -/
inductive Ran where
  | done (d : Done)
  | stay (s : State)

/-- OK with a result. -/
def ok (s : State) (out : Bytes) : Ran := .done ⟨s, 0, out, none⟩
/-- OK with a result and a new key. -/
def okKey (s : State) (out : Bytes) (h : Nat) : Ran := .done ⟨s, 0, out, some h⟩
/-- Another status, and no result (R13). -/
def fails (s : State) (status : Nat) : Ran := .done ⟨s, status, [], none⟩
/-- The payload breaks its layout (R66): PARAM_LENGTH, in the job's row once it has been dispatched (R157; log 133). -/
def guardParam (s : State) (c : Bool) (k : Ran) : Ran := if c then k else fails s 0x26

/-- What is left to charge of a job's work, never above its worst cost in any class (R129, R173; log 12). -/
def State.leftOf (s : State) (j : Job) (used : Work) : Work := (((used.add j.extra).max j.charged).min (s.worstOf j)).sub j.charged
/-- The hash cores that a hash-based signature's LE holds (R162). -/
def State.coresHeld (s : State) (j : Job) : Nat := ((j.units.filter (fun u => decide (u < 256))).map (fun u => (s.le u).streams.length)).sum
/-- The work of a job that has ended by itself: of a hash-based signature, the listed hash-core cost, and of its LE that cost divided by the cores it held
(R162); of a hash message, its blocks and 0.1 µs (R284). -/
def State.wholeWork (s : State) (j : Job) (used : Work) : Work :=
  if (s.signCore j).isSome then ⟨ceilDiv (s.jobCost j).1.hc (Nat.max 1 (s.coresHeld j)), (s.jobCost j).1.hc, used.be, used.aead⟩
  else if j.hashMessage then (s.jobCost j).1
  else used
/-- A hash-based signature's LE holds no core yet: it waits at its opening (R162, R211). -/
def State.coreless (s : State) (j : Job) : Bool := (s.signCore j).isSome && j.units.any (fun u => decide (u < 256) && (s.le u).streams == [])
/-- It opens its streams on the cores that are idle by now, or on one that another message is displaced from (R162, R282). -/
def State.askCores (s : State) (j : Job) : State :=
  (j.units.filter (fun u => decide (u < 256))).foldl (fun u e =>
    let fn := (s.signCore j).getD 1
    let u := if (u.freeCore e fn).isSome then u else match u.displacedByOpening e fn with
      | some r => u.displace r
      | none => u
    u.openCores e j) s
/-- A job that its own row does not end, an APPLY_KUM with its commit, is charged its typical cost (R129, R135). -/
def State.chargeTypical (s : State) (r : JobRef) : State :=
  match s.findJob r with
  | some j => if j.kind = 0x1 then s.charge r (s.leftOf j (s.jobCost j).1) else s
  | none => s
/-- Charge a job's work and end it. -/
def State.conclude (s : State) (j : Job) (used : Work) (d : Done) : Out :=
  let t := if d.status = 0x26 then d.st else d.st.charge j.ref (s.leftOf j (s.wholeWork j used))
  .next (t.endJob j.ref d.status (if d.status = 0x51 then 0xFF else if d.status = 0x10 then 2 else 0) 0 d.out d.key)

/-- An event was latched on one of the job's engines. -/
def State.latchedOn (s : State) (j : Job) (ev : Nat) : Bool := j.units.any (fun u => (s.engine u).latched.contains ev)

/-- Operations that run masked: key generation, ENCAPS and what uses a private key, of ML-KEM, ML-DSA, HQC and Classic McEliece (R152, R153). -/
def maskedOp (op : Nat) : Bool :=
  [1, 5, 6].contains (opFam op) || (opFam op == 2 && [0, 1, 3, 5].contains (opOp op))
/-- The LEs of a masked job. -/
def Job.maskedLes (j : Job) : List Nat := if maskedOp j.opcode then j.units.filter (fun u => decide (u < 256)) else []
/-- A masked job finds no mask data: a generator of its LEs has stopped with its buffer empty (R210). -/
def State.maskDry (s : State) (j : Job) : Bool := j.maskedLes.any (fun u => (s.le u).maskStopped && (s.le u).maskBuf == 0)
/-- It waits on mask data, for ENTROPY_STALL_TIMEOUT to end it (R210, R301). -/
def State.maskStall (s : State) (j : Job) : State :=
  j.maskedLes.foldl (fun u e =>
    let l := u.le e
    (u.askSeed (clusterOf e)).setLe e { l with waiting := some 3, waited := if l.waiting = some 3 then l.waited else 0 }) s
/-- Its operation has drawn mask refresh: the buffer is used up, and the generator has delivered a free number of registers, up to its reseed point (R152,
R209; log 108). -/
def State.masksUsed (s : State) (j : Job) : State :=
  j.maskedLes.foldl (fun u e =>
    let l := u.le e
    u.drawn.setLe e { l with waiting := none, maskBuf := 0, maskCount := Nat.min 65536 (l.maskCount + u.draw) }) s

/-- The row of an operation of a kind: a dispatched job of the row's opcodes runs to its end. A tenant reset or an abortive close that is latched ends it
without its effect (R89, R99); a masked one waits while its LE has no mask data (R210), a hash-based signature while its LE
holds no hash core (R162). -/
def runRow (kind : Nat) (r : JobRun) (takes : Nat → Bool) (body : State → Job → Ran) (s : State) : Out :=
  match s.findJob r.j with
  | none => .next s
  | some j =>
    if j.state ≠ .running ∨ j.kind ≠ kind ∨ j.kernel.isSome ∨ !takes j.opcode ∨ s.clk.gated ∨ s.marked j.ref then .next s
    else if s.latchedOn j 1 then .next ((s.charge j.ref (s.leftOf j r.used)).endJob j.ref 0x60 0 0 [] none)
    else if s.latchedOn j 2 then .next ((s.charge j.ref (s.leftOf j r.used)).discardJob j.ref)
    else if s.coreless j then .next (s.askCores j)
    else if s.maskDry j then .next (s.maskStall j)
    else match body s j with
      | .stay t => .next t
      | .done d => s.conclude j r.used { d with st := d.st.masksUsed j }

/-- The row of a JOB message's operation. -/
def jobRow (r : JobRun) (takes : Nat → Bool) (body : State → Job → Ran) (s : State) : Out := runRow 0x1 r takes body s

/-- Opcodes of a family and operation. -/
def famOp (fam o op : Nat) : Bool := opFam op == fam && opOp op == o

/-! ### Draws (R152, R159, R298-R303) -/

/-- A job on an engine finds that its tenant's DRBG does not serve: it stalls, with a seed asked for, and ends with ENTROPY_FAIL after 2,500 ENG cycles, 2 µs
(R301). -/
def State.stallDraw (s : State) (j : Job) : Ran :=
  match (s.findJob j.ref).bind (fun (x : Job) => x.waitSince) with
  | some w => if w + 2500 ≤ s.clk.fab then fails s 0x50 else .stay (s.askSeed (tenantDrbg j.tenant))
  | none => .stay ((s.waitRandom j).askSeed (tenantDrbg j.tenant))

/-- Draw `n` octets from the tenant's DRBG; without them the job stalls. Of a draw of several calls the calls that the DRBG serves are made and their octets
kept, and the rest wait for its reseed (R299-R301). -/
def State.take (s : State) (j : Job) (n : Nat) (k : State → Bytes → Ran) : Ran :=
  let addl := drawInput (s.handleFor j.ref) j.seq
  let left := n - j.drawn.length
  if left = 0 then k s j.drawn
  else match s.drawFrom (tenantDrbg j.tenant) left addl with
    | some (t, b) => k t (j.drawn ++ b)
    | none =>
      let r := s.someCalls (ceilDiv left 65536) (tenantDrbg j.tenant) left addl
      if r.2 = [] then s.stallDraw j
      else .stay (((r.1.mapJob j.ref (fun (x : Job) => { x with drawn := j.drawn ++ r.2, waitSince := some s.clk.fab })).askSeed (tenantDrbg j.tenant)))

/-- Draw until a draw of `n` octets is accepted, `m` times at most; `none` where all are rejected (R165, R182). -/
def State.drawUntil (s : State) (j : Job) (n : Nat) (accept : Bytes → Bool) : Nat → Option (State × Option Bytes)
  | 0 => some (s, none)
  | m + 1 =>
    match s.drawFrom (tenantDrbg j.tenant) n (drawInput (s.handleFor j.ref) j.seq) with
    | none => none
    | some (t, b) => if accept b then some (t, some b) else t.drawUntil j n accept m

/-- As `take`, of the first draw accepted; RETRY_EXHAUSTED after `m` rejections. -/
def State.takeUntil (s : State) (j : Job) (n m : Nat) (accept : Bytes → Bool) (k : State → Bytes → Ran) : Ran :=
  match s.drawUntil j n accept m with
  | some (t, some b) => k t b
  | some (t, none) => fails t 0x55
  | none => s.stallDraw j

/-! ### Keys (R150, R312-R319, R327-R329) -/

/-- One octet. -/
def oct (n : Nat) : Bytes := [BitVec.ofNat 8 n]

/-- The key digest (R319). -/
def keyDigest (typ set : Nat) (pub material : Bytes) : Nat :=
  if hasPublic typ then sha3 (ascii "NM72 KEY" ++ oct (if isPrivate typ then typ + 1 else typ) ++ oct set ++ pub)
  else sha3 (ascii "NM72 KEY" ++ oct typ ++ oct 1 ++ prim 32 .kmac256 [material, [], ascii "NM72 KEY ID"])

/-- A key with every attribute open: what a KEYGEN, an agreement or a derivation makes until a KUM names attributes (R150; log 32). -/
def openKey (typ set order : Nat) (pub secret : Bytes) : KeyRec :=
  { handle := 0, typ, set, order, classes := 0x2F, ops := 0x3FF, notBefore := 0, notAfter := 0, useLimit := 0,
    digest := keyDigest typ set pub (if typ = 0x03 then slice secret 1 (fieldAt secret 0 1) else secret), pub, secret,
    limit := 0, next := 0, total := 0, batch := 0, skipped := 0, uses := 0, usesLimit := 0, ranges := [], session := 0, masks := [], traversal := 0 }

/-- The secret form of a KDF secret: its length, its octets, and zeros (R316). -/
def kdfSecret (b : Bytes) : Bytes := fit 65 (oct b.length ++ b)

/-- The lowest number from `i` on that a map does not list. -/
def firstFree {α : Type} : Map α → Nat → Nat
  | [], i => i
  | (k, _) :: m, i => if k = i then firstFree m (i + 1) else i

/-- Secret keys of a type for which the material region has room set aside: those in it, and those that live jobs will make (R10, R329). -/
def State.presentOf (s : State) (typ : Nat) : Nat := s.volatileOf typ + (s.loadedRecs.filter (fun k => k.typ == typ)).length
/-- Secret keys of a type that stand in the material region (R332). -/
def State.heldOf (s : State) (typ : Nat) : Nat :=
  (s.keys.vol.filter (fun p => p.2.typ == typ)).length + (s.loadedRecs.filter (fun k => k.typ == typ)).length
/-- Material of `words` words and `rsa`, `mce` more secret keys fit (R10, R327). -/
def State.materialFits (s : State) (words rsa mce : Nat) : Bool :=
  decide (s.volatileWords + s.loadedWords + words ≤ 1113088) && decide (s.presentOf 0x22 + rsa ≤ 4096) && decide (s.presentOf 0x1A + mce ≤ 256)
/-- The least recently used loaded record that no running or suspended job names (R328). -/
def State.evictable (s : State) : Option Nat := s.keys.loaded.find? (fun h => !s.pinned h)
/-- Evict loaded records until the material fits (R328); none where it cannot. -/
def State.makeFit (s : State) (words rsa mce : Nat) : Nat → Option State
  | 0 => if s.materialFits words rsa mce then some s else none
  | n + 1 =>
    if s.materialFits words rsa mce then some s
    else match s.evictable with
      | none => none
      | some h => ({ s with keys := { s.keys with loaded := s.keys.loaded.filter (fun x => x != h) } }.event 0x2C00 7 16).makeFit words rsa mce n

/-- Make a volatile key in the lowest free slot (R150, R312; log 16): the state and the key's handle. A key whose reservation could not be made at
classification ends its job with QUEUE_FULL (R329; log 31); VOLATILE_LIMIT counts as it was read then (R11). -/
def State.makeKey (s : State) (j : Job) (k : KeyRec) (f : State → KeyRec → Ran) : Ran :=
  let i := firstFree s.keys.vol 0
  if 65536 ≤ i ∨ (!j.reservesKey && decide (s.rd (0x2C40 + j.tenant) 1 ≤ s.volatileInUse j.tenant)) ∨ !s.poolRoom j.tenant k.poolBlocks then fails s 0x40
  else match s.makeFit (if j.reservesKey then 0 else k.words) 0 0 s.keys.loaded.length with
    | none => fails s 0x40
    | some t =>
      let k := t.split { k with handle := keyHandle 0 j.tenant (t.volGen i) i }
      f { t.splitDone with keys := { t.keys with vol := Map.put t.keys.vol i k } } k

/-! ### Public keys and the matrix cache (R147, R148, R154) -/

/-- The public key of a public-key operation: inline, or of the record named (R147). -/
def State.pubOf (s : State) (j : Job) (inl : Bytes) : Bytes :=
  match s.keyFor j with
  | some k => k.pub
  | none => inl
/-- A public key has its family's encoding, a P-256 or P-384 point uncompressed, and passes its standard's check (R148, R177). -/
def publicOk (fam set : Nat) (pk : Bytes) : Bool :=
  (fam != 8 || decide (3 ≤ set) || pk.head? == some 4) && Config.check .publicCheck [oct fam, oct set, pk]
/-- An inline public key passes its standard's check; a record's was checked when it was made (R148). -/
def pubGood (j : Job) (pk : Bytes) : Bool := j.key != 0 || publicOk (opFam j.opcode) (opSet j.opcode) pk
/-- The octets of the inline key's place. -/
def inlineLen (j : Job) : Nat := if j.key = 0 then pubLen (opFam j.opcode) (opSet j.opcode) else 0

/-- The matrix of a seed is used: found, or expanded and inserted, and the most recently used from now on (R9, R154, R218). -/
def State.useMatrix (s : State) (fam set : Nat) (rho : Bytes) : State :=
  let dg := beNat (prim 32 .sha3_256 [oct fam ++ oct set ++ rho])
  let n := matrixSize (fam * 256 + set * 16)
  match s.mcache.find? (fun e => e.digest == dg) with
  | some e => { s with mcache := s.mcache.filter (fun (x : Matrix) => x.digest != dg) ++ [e] }
  | none =>
    let c := s.makeRoom n s.mcache.length s.mcache
    { s with mcache := c ++ [⟨dg, n, [], some (fam, set, rho)⟩] }
/-- ρ in a public key: last 32 octets for ML-KEM, first 32 for ML-DSA (FIPS 203, FIPS 204). -/
def rhoOf (fam : Nat) (pk : Bytes) : Bytes := if fam = 1 then pk.drop (pk.length - 32) else pk.take 32
/-- The matrix that a family's public key names, where the family has one. -/
def State.matrixOf (s : State) (fam set : Nat) (pk : Bytes) : State := if fam = 1 ∨ fam = 2 then s.useMatrix fam set (rhoOf fam pk) else s

end Machine
end Sys2Proof
end

