-- ==== Sys2Proof/Machine/GroupOps.lean ====
section
/-! DEFINITION. The Tsusto group's members, log and messages, as the rules of other chapters use them (17 R374-R387). -/

namespace Sys2Proof
namespace Machine

/-! ### Members (R374, R381) -/

/-- GROUP_ID, MEMBER_COUNT, and a member's identity and weight. -/
def State.groupId (s : State) : Nat := s.rd 0x4400 1
def State.memberCount (s : State) : Nat := s.rd 0x4400 2
def State.memberId (s : State) (i : Nat) : Nat := s.rd (0x4410 + i) 1
def State.weight (s : State) (i : Nat) : Nat := s.rd (0x4410 + i) 2
/-- The index under which an identity stands in the list. -/
def State.indexOf (s : State) (identity : Nat) : Option Nat := (List.range s.memberCount).find? (fun i => s.memberId i == identity)
/-- MY_INDEX: none outside any group; the test identity of open debug stands in no list (R374, R375). -/
def State.myIndex (s : State) : Option Nat := if s.groupId = 0 ∨ s.debug then none else s.indexOf s.identity
/-- MY_INDEX as entry 0x4400.05 reports it. -/
def State.me (s : State) : Nat := s.myIndex.getD 0xFF
/-- The weights of members. -/
def State.weights (s : State) (ms : List Nat) : Nat := (ms.map s.weight).sum
/-- Members whose weight exceeds half the total (R374). -/
def State.quorum (s : State) (ms : List Nat) : Bool := decide (s.weights (List.range s.memberCount) < 2 * s.weights ms)
/-- A member is reachable: itself, or over a link with a frame inside the last three heartbeat instants (R381). -/
def State.reaches (s : State) (i : Nat) : Bool := some i == s.myIndex || (s.link i).state == 2
/-- The reachable members. -/
def State.reachable (s : State) : List Nat := (List.range s.memberCount).filter s.reaches
/-- CONFIG_DIGEST (entry 0x4400.04). -/
def State.configDigest (s : State) : Nat :=
  sha3 (beBytes 16 s.groupId ++ ((List.range s.memberCount).map (fun i => beBytes 48 (s.memberId i) ++ beBytes 1 (s.weight i))).flatten)

/-- ROLE: 0 NONE, 1 FOLLOWER, 2 CLAIMANT, 3 SEQUENCER, 4 CATCHING_UP; TERM; SEQUENCER. -/
def State.role (s : State) : Nat := s.rd 0x4401 1
def State.term (s : State) : Nat := s.rd 0x4401 3
def State.sequencer (s : State) : Nat := s.rd 0x4401 4

/-! ### The log (R376) -/

/-- The last (term, index) held. -/
def Group.last (g : Group) : Nat × Nat := match g.log.getLast? with | some e => (e.term, e.index) | none => (g.baseTerm, g.base)
/-- The term of an index in the log, none where it is not held. -/
def Group.termAt (g : Group) (i : Nat) : Option Nat := if i = g.base then some g.baseTerm else (g.log.find? (fun e => e.index == i)).map (fun e => e.term)
/-- (term, index) pairs compare by term, then by index. -/
def atLeast (a b : Nat × Nat) : Bool := decide (b.1 < a.1) || (a.1 == b.1 && decide (b.2 ≤ a.2))
/-- The member that a message goes to. -/
def PeerOut.dst : PeerOut → Nat
  | .helloInit d _ _ | .helloReply d _ _ | .heartbeat d _ | .append d _ _ _ _ _ | .ack d _ _ _ _ | .claim d _ _ _ _ | .grant d _ _ _ _ | .forward d _
  | .result d _ _ _ _ | .fetch d _ | .entries d _ _ | .readIndex d _ | .readReply d _ _ => d
/-- A link handle (R379). -/
def linkHandle (sender receiver gen : Nat) : Nat := 0xFE * 2 ^ 24 + sender * 2 ^ 16 + receiver * 2 ^ 8 + gen
/-- The octets of a heartbeat body (*Field map: heartbeat body*). -/
def heartbeatOctets (b : HeartbeatBody) (datum : Nat) : Bytes :=
  beBytes 8 b.term ++ beBytes 1 b.sequencer ++ beBytes 1 b.flags ++ beBytes 1 b.reachable ++ beBytes 1 0 ++ beBytes 8 b.commit ++ beBytes 8 b.lastTerm ++
    beBytes 8 b.lastIndex ++ beBytes 10 (time80 datum)
/-- The 128 octets of a log entry (*Field map: group log entry*), and the entry as it travels: a body of more than 56 octets goes after it (R376). -/
def entryOctets (e : GEntry) : Bytes :=
  beBytes 8 e.term ++ beBytes 8 e.index ++ beBytes 1 e.kind ++ beBytes 1 e.origin ++ beBytes 2 0 ++ beBytes 4 e.body.length ++
    prim 48 .sha3_384 [e.body] ++ fit 56 (if e.body.length ≤ 56 then e.body else [])
def entryTravels (e : GEntry) : Bytes := entryOctets e ++ (if e.body.length ≤ 56 then [] else e.body)
/-- The octets of a snapshot (log 105). -/
def snapshotOctets (g : GSnapshot) : Bytes :=
  Config.peerBody 0 ([g.term, g.index, g.counter, g.sealedCounter, g.lastSealed, g.authority, g.part, g.parts] ++ g.limits.flatMap (fun p => [p.1, p.2])) g.records
/-- The bodies of the PEER operations that both sides of a link speak of (*PEER operations*; log 105). -/
def appendBody (term prevTerm prevIndex commit : Nat) (es : List GEntry) : Bytes := Config.peerBody 0x11 [term, prevTerm, prevIndex, commit] (es.map entryTravels)
def ackBody (term lastTerm lastIndex : Nat) (success : Bool) : Bytes := Config.peerBody 0x12 [term, lastTerm, lastIndex, if success then 1 else 0] []
def claimBody (term claimant lastTerm lastIndex : Nat) : Bytes := Config.peerBody 0x13 [term, claimant, lastTerm, lastIndex] []
def grantBody (term : Nat) (granted : Bool) (lastTerm lastIndex : Nat) : Bytes := Config.peerBody 0x14 [term, if granted then 1 else 0, lastTerm, lastIndex] []
def forwardBody (w : GWrite) : Bytes := Config.peerBody 0x15 [w.tag, w.kind] [w.body]
def resultBody (tag term index status : Nat) : Bytes := Config.peerBody 0x16 [tag, term, index, status] []
def peerFetchBody (index : Nat) : Bytes := Config.peerBody 0x17 [index] []
def entriesBody (es : List GEntry) (snap : Option GSnapshot) : Bytes := Config.peerBody 0x18 [] ((snap.toList.map snapshotOctets) ++ es.map entryTravels)
def readIndexBody (tag : Nat) : Bytes := Config.peerBody 0x19 [tag] []
def readReplyBody (tag commit : Nat) : Bytes := Config.peerBody 0x1A [tag, commit] []
/-- The operation code and body of a message sent at a datum. -/
def PeerOut.message (datum : Nat) : PeerOut → Nat × Bytes
  | .helloInit _ _ b => (1, b)
  | .helloReply _ _ b => (2, b)
  | .heartbeat _ b => (0x10, heartbeatOctets b datum)
  | .append _ t pt pi c es => (0x11, appendBody t pt pi c es)
  | .ack _ t lt li ok => (0x12, ackBody t lt li ok)
  | .claim _ t c lt li => (0x13, claimBody t c lt li)
  | .grant _ t g lt li => (0x14, grantBody t g lt li)
  | .forward _ w => (0x15, forwardBody w)
  | .result _ tag t i st => (0x16, resultBody tag t i st)
  | .fetch _ i => (0x17, peerFetchBody i)
  | .entries _ es sn => (0x18, entriesBody es sn)
  | .readIndex _ tag => (0x19, readIndexBody tag)
  | .readReply _ tag c => (0x1A, readReplyBody tag c)
/-- The frames of a PEER message on a link: HELLO in the clear, every other under the link's key and nonce role 1 (R53, R379, R380). -/
def State.peerFrames (s : State) (l : Link) (seq : Nat) (m : PeerOut) : List TxFrame :=
  let op := (m.message s.clk.datum).1
  let body := (m.message s.clk.datum).2
  let size := segmentSize (s.rd (0x1400 + l.port) 4) l.peer.encap
  let n := Nat.max 1 (ceilDiv body.length size)
  let handle := linkHandle s.me m.dst l.gen
  (List.range n).map (fun i =>
    .opfel l.port l.port l.peer (headerOctets 0x8 (segFlags false i n) 0 0 handle seq op 0 0 body.length i n 0 0 0) (slice body (i * size) size)
      (if op ≤ 2 then none else some (l.txKey, nonceOctets handle 1 i seq)))
/-- Hand a message to a link's port, under the link's generation and with the next number of its direction (R379; log 105). -/
def State.post (s : State) (m : PeerOut) : State :=
  let l := s.link m.dst
  let t := s.setLink m.dst { l with txSeq := l.txSeq + 1 }
  { t with grp := { t.grp with out := t.grp.out ++ [(l.gen, l.txSeq + 1, m)] } }.transmit (s.peerFrames l (l.txSeq + 1) m)
/-- What a PEER message may hold of entries or records, beside its operation's own fields (R57; log 105). -/
def peerRoom : Nat := 65536 - 32
/-- A list divided in order among messages: each takes as many items as it has room for, at least one. -/
def divide {α : Type} (size : α → Nat) (xs : List α) : List (List α) :=
  (xs.foldl (fun (acc : List (List α)) x => match acc with
    | c :: cs => if (c.map size).sum + size x ≤ peerRoom then (c ++ [x]) :: cs else [x] :: c :: cs
    | [] => [[x]]) []).reverse
/-- Entries divided among messages; no entries go in one. -/
def divideEntries (es : List GEntry) : List (List GEntry) := if es = [] then [[]] else divide (fun e => (entryTravels e).length) es
/-- APPEND of the entries from `i` on, to a member, in as many messages as they need (R57, R385). -/
def State.postAppend (s : State) (dst i : Nat) : State :=
  (divideEntries (s.grp.log.filter (fun (e : GEntry) => decide (i ≤ e.index)))).foldl (fun u es =>
    let j := match es with | e :: _ => e.index | [] => i
    u.post (.append dst s.term ((s.grp.termAt (j - 1)).getD 0) (j - 1) s.grp.commit es)) s
/-- ENTRIES to a member, in as many messages as they need (R57, R389). -/
def State.postEntries (s : State) (dst : Nat) (es : List GEntry) : State := (divideEntries es).foldl (fun u c => u.post (.entries dst c none)) s
/-- The parts that a snapshot travels in (R57, R389; log 105). -/
def snapshotParts (g : GSnapshot) : List GSnapshot :=
  let bare : GSnapshot := { g with limits := [], records := [] }
  let ps : List GSnapshot := (divide List.length g.records).map (fun c => { bare with records := c }) ++ (divide (fun _ => 16) g.limits).map (fun c => { bare with limits := c })
  if ps.length ≤ 1 then [{ g with part := 0, parts := 1 }] else ps.zipIdx.map (fun p => { p.1 with part := p.2, parts := ps.length })
/-- A snapshot to a member (R389). -/
def State.postSnapshot (s : State) (dst : Nat) (g : GSnapshot) : State := (snapshotParts g).foldl (fun u p => u.post (.entries dst [] (some p))) s
/-- The other reachable members. -/
def State.peersUp (s : State) : List Nat := s.reachable.filter (fun i => some i != s.myIndex)
/-- An entry joins the log: a long one is stored when its body is programmed, at once here; a compact one in the BBRAM buffer of 8 entries, or it waits for
the drain (R385). -/
def Group.store (g : Group) (e : GEntry) : Group :=
  let g' := { g with log := g.log ++ [e] }
  if 56 < e.body.length then g'
  else if g.buffer.length < 8 ∧ g.undrained = [] then { g' with buffer := g.buffer ++ [e.index] }
  else { g' with undrained := g.undrained ++ [e.index] }
/-- The entries that are stored: up to the first that waits for the drain. -/
def Group.stored (g : Group) : List GEntry := g.log.takeWhile (fun (e : GEntry) => !g.undrained.contains e.index)
/-- The last (term, index) stored. -/
def Group.lastStored (g : Group) : Nat × Nat := match g.stored.getLast? with | some e => (e.term, e.index) | none => (g.baseTerm, g.base)
/-- The sequencer appends an entry at the next index of its term and sends it to every reachable member (R385). -/
def State.appendEntry (s : State) (kind origin : Nat) (body : Bytes) : State × (Nat × Nat) :=
  let e : GEntry := ⟨s.term, s.grp.last.2 + 1, kind, origin, body⟩
  let t := { s with grp := s.grp.store e }
  (t.peersUp.foldl (fun u i => u.postAppend i e.index) t, (e.term, e.index))
/-- The body of a RESERVE. -/
def reserveBody (handle limit member : Nat) : Bytes := beBytes 4 handle ++ beBytes 8 limit ++ beBytes 1 member
/-- The group limit G of a key (R377). -/
def State.groupLimit (s : State) (h : Nat) : Nat := Map.getD s.grp.limits h 0
/-- G as the entries appended and not yet applied will leave it. -/
def State.pendingLimit (s : State) (h : Nat) : Nat :=
  match (s.grp.log.filter (fun (e : GEntry) => decide (s.grp.applied < e.index) && e.kind == 3 && fieldAt e.body 0 4 == h)).getLast? with
  | some e => fieldAt e.body 4 8
  | none => s.groupLimit h
/-- The body that the sequencer appends: a RESERVE goes on from the limit that its log will leave (R377, R386). -/
def State.ordered (s : State) (kind : Nat) (body : Bytes) : Bytes :=
  if kind ≠ 3 then body
  else
    let h := fieldAt body 0 4
    match s.key h with
    | some k => reserveBody h (k.reserveNext (s.pendingLimit h)) (fieldAt body 12 1)
    | none => body
/-- A write of this member ends with a status (R386). -/
def State.endWrite (s : State) (w : OwnWrite) (status : Nat) (result : Bytes) : State :=
  let t := { s with grp := { s.grp with writes := s.grp.writes.filter (fun x => x.tag != w.tag) } }
  match w.job with
  | some j => (t.chargeTypical j).endJob j status 0 0 result none
  | none => t
/-- A group write of this member: appended where it is the sequencer, else forwarded; a sequencer that steps down accepts none, and it ends with
QUORUM_LOST (R384, R386). -/
def State.submit (s : State) (job : Option JobRef) (kind : Nat) (body : Bytes) : State :=
  let tag := s.grp.nextTag
  let w := fun (p : Option (Nat × Nat)) => (⟨tag, job, kind, body, s.clk.fab, p⟩ : OwnWrite)
  let t := { s with grp := { s.grp with nextTag := tag + 1 } }
  if s.role = 3 ∧ s.grp.stepDown then t.endWrite (w none) 0x63 []
  else if s.role = 3 then
    let r := t.appendEntry kind s.me (s.ordered kind body)
    { r.1 with grp := { r.1.grp with writes := r.1.grp.writes ++ [w (some r.2)] } }
  else
    { t with grp := { t.grp with writes := t.grp.writes ++ [w none] } }.post (.forward s.sequencer ⟨tag, kind, body⟩)
/-- A write of this member's job waits for its outcome. -/
def State.writing (s : State) (j : JobRef) : Bool := s.grp.writes.any (fun w => w.job == some j)

/-- What the sequencer finds for a KUM or SEALED_WRITE against the group's state together with what it has appended and not committed: 0 to append,
OK_ALREADY, or COUNTER_STALE (R119, R322, R377). -/
def State.verdictOf (s : State) (kind : Nat) (body : Bytes) : Nat :=
  let counter := fun (b : Bytes) => if kind = 2 then fieldAt b 56 8 else fieldAt b 48 8
  let digest := fun (b : Bytes) => if kind = 2 then fieldAt b 160 48 else sha3 b
  let waiting := (s.grp.log.filter (fun (e : GEntry) => decide (s.grp.applied < e.index) && e.kind == kind)).getLast?
  let c := match waiting with
    | some e => counter e.body
    | none => if kind = 2 then Map.getD s.keys.ctr 65 0 else s.rd 0x1030 6
  let d := match waiting with
    | some e => digest e.body
    | none => if kind = 2 then (match Map.find s.keys.lastKum 65 with | some p => p.1 | none => 0) else s.rd 0x1030 7
  if kind ≠ 2 ∧ kind ≠ 4 then 0
  else if counter body = c ∧ digest body = d then 0x01
  else if counter body = c + 1 then 0 else 0x32

/-! ### Starts -/

/-- A start of a member: FOLLOWER, or CATCHING_UP where its BBRAM was lost, with no sequencer known (R382, R387). -/
def State.groupStart (s : State) : State := if s.myIndex.isSome then s.wr 0x4401 1 (if s.grp.amnesia then 4 else 1) else s

/-! ### Quorum (R382, R386) -/

/-- The group's values of one of its counted entries: GROUP_EVENTS with a flag. -/
def State.groupEvent (s : State) (flag : Nat) : State := s.event 0x4401 9 flag
/-- Every write of this member ends with QUORUM_LOST. -/
def State.endWrites (s : State) : State := s.grp.writes.foldl (fun u w => u.endWrite w 0x63 []) s
/-- A sequencer ends what it has appended and not committed, for its own jobs and for other members (R382, R384, R386). -/
def State.endUncommitted (s : State) : State :=
  let open_ := s.grp.served.filter (fun p => decide (s.grp.commit < p.2.2.2))
  let t := open_.foldl (fun u (p : Nat × Nat × Nat × Nat) => u.post (.result p.1 p.2.1 p.2.2.1 p.2.2.2 0x63)) s
  ({ t with grp := { t.grp with served := [] } }).endWrites
/-- A reachable peer that heartbeats as the quorate sequencer of a term (R382). -/
def State.leads (s : State) (i : Nat) : Bool :=
  s.reaches i && some i != s.myIndex && (s.link i).hbTerm == s.term && bitAt (s.link i).hbFlags 0 && bitAt (s.link i).hbFlags 1
/-- The member is quorate (R382). -/
def State.quorateNow (s : State) : Bool :=
  if s.role = 0 ∨ s.myIndex = none then false
  else if s.role = 3 then s.quorum s.reachable
  else (List.range s.memberCount).any s.leads
/-- QUORATE follows reachability: a change is counted and sent as an EVENT; a member that stops being quorate ends its writes, and a sequencer sets STEP_DOWN
(R382, R386). -/
def State.reviewQuorum (s : State) : State :=
  let q := s.quorateNow
  if q = (s.rd 0x4401 2 == 1) then s
  else
    let t := ((s.wr 0x4401 2 (if q then 1 else 0)).groupEvent (if q then 2 else 1)).notify 6 none (if q then 1 else 0)
    if q then t
    else if t.role = 3 then ({ t with grp := { t.grp with stepDown := true } }).endUncommitted
    else t.endWrites
/-- The membership list may have changed (R374, R375): a new member starts as FOLLOWER, one that is removed reports NONE and erases its group records; links to
members whose place another took are dropped. -/
def State.regroup (old s : State) : State :=
  let t := { s with grp := { s.grp with links := s.grp.links.filter (fun p => old.memberId p.1 == s.memberId p.1) } }
  if t.myIndex.isNone then
    if t.role = 0 then t
    else
      let u := (t.endUncommitted.wr 0x4401 1 0).wr 0x4401 4 0xFF
      let u := { u with
        grp := { State.reset.grp with grantedIn := u.grp.grantedIn, out := u.grp.out, nextTag := u.grp.nextTag, lastInstant := u.grp.lastInstant }
        keys := { u.keys with
          pGen := freedGens u.keys.pGen ((u.keys.recs.filter (fun (p : Nat × KeyRec) => decide (65536 ≤ p.1))).map (fun (p : Nat × KeyRec) => p.2))
          recs := u.keys.recs.filter (fun p => decide (p.1 < 65536))
          slots := u.keys.slots.filter (fun p => decide (p.1 < 65536))
          loaded := u.keys.loaded.filter (fun h => keyScope h != 2) } }
      u.reviewQuorum
  else if t.role = 0 then t.groupStart else t.reviewQuorum

end Machine
end Sys2Proof
end

