-- ==== Sys2Proof/Machine/PqJobs.lean ====
section
/-! DEFINITION. Jobs of the post-quantum families: KEYGEN, ENCAPS, DECAPS, SIGN and VERIFY in all their forms (07 R146-R172). -/

namespace Sys2Proof
namespace Machine

/-! ### Key generation (R150-R153, R155, R157, R161, R164, R165) -/

/-- Keygen options: MASK2 for families 0x01, 0x02 and 0x05 alone, the rest spare. -/
def keygenOptions (fam : Nat) (b : Bytes) : Bool :=
  decide (fieldAt b 0 1 ≤ (if fam = 1 ∨ fam = 2 ∨ fam = 5 then 1 else 0)) && zeros (slice b 1 3)
/-- The primitive that makes a family's key pair. -/
def keygenPrim : Nat → Prim
  | 0x01 => .mlKemKeygen
  | 0x02 => .mlDsaKeygen
  | 0x03 => .slhDsaKeygen
  | 0x05 => .hqcKeygen
  | 0x06 => .mcelieceKeygen
  | 0x07 => .statefulKeygen
  | 0x08 => .eccKeygen
  | _ => .rsaKeygen
/-- What a public key begins with: 0x04 for a P-256 or P-384 point, e = 65537 for RSA (R177, R180, R182). -/
def publicHead (fam set : Nat) : Bytes := if fam = 8 ∧ set ≤ 2 then [4] else if fam = 9 then beBytes 4 65537 else []
/-- The public key that a seed gives. -/
def publicOf (fam set : Nat) (seed : Bytes) : Bytes :=
  publicHead fam set ++ prim (pubLen fam set - (publicHead fam set).length) (keygenPrim fam) [oct set, seed]
/-- The secret form kept for a seed: the seed itself, with PK.root for SLH-DSA; expanded for Classic McEliece and RSA (R151, R316). -/
def secretOf (fam set : Nat) (seed : Bytes) : Bytes :=
  if fam = 3 then seed ++ (publicOf 3 set seed).drop (slhN set)
  else if fam = 6 ∨ fam = 9 then prim (secretOctets (privType fam) set) (keygenPrim fam) [oct set, seed, oct 1]
  else fit (secretOctets (privType fam) set) seed
/-- The seed octets a family draws. -/
def seedLen (fam set : Nat) : Nat := if fam = 3 then 3 * slhN set else if fam = 6 then 32 else secretOctets (privType fam) set
/-- The key pair of a seed becomes a provisional key; the result is the public key and the key digest (R150). -/
def finishKeygen (s : State) (j : Job) (order : Nat) (seed : Bytes) : Ran :=
  let fam := opFam j.opcode
  let set := opSet j.opcode
  let pub := publicOf fam set seed
  s.makeKey j (openKey (privType fam) set order pub (secretOf fam set seed)) (fun t k =>
    okKey (t.matrixOf fam set pub) (pub ++ beBytes 48 k.digest) k.handle)
/-- KEYGEN with the seed drawn, or supplied after the options. -/
def keygenBody (s : State) (j : Job) : Ran :=
  let b := j.payload
  let fam := opFam j.opcode
  guardParam s (keygenOptions fam b)
    (if b.length = 4 then s.take j (seedLen fam (opSet j.opcode)) (fun t seed => finishKeygen t j (keygenOrder fam b) seed)
     else finishKeygen s j (keygenOrder fam b) (b.drop 4))

/-! ### Encapsulation and decapsulation (R155, R156, R164) -/

/-- The KEM primitives. -/
def encapsPrim (fam : Nat) : Prim := if fam = 1 then .mlKemEncaps else if fam = 5 then .hqcEncaps else .mcelieceEncaps
def decapsPrim (fam : Nat) : Prim := if fam = 1 then .mlKemDecaps else if fam = 5 then .hqcDecaps else .mcelieceDecaps
/-- The randomness an ENCAPS draws; for Classic McEliece its error vector's 32 octets (log 33). -/
def encapsDraw (fam set : Nat) : Nat := if fam = 5 then bySet [16, 24, 32] set + 16 else 32
/-- Ciphertext and shared secret of an encapsulation. -/
def encapsulate (fam set : Nat) (pk m : Bytes) : Bytes × Bytes :=
  (prim (ctLen fam set) (encapsPrim fam) [oct set, pk, m], prim (ssLen fam) (encapsPrim fam) [oct set, pk, m, oct 1])
/-- The shared secret of a decapsulation, implicit rejection included. -/
def decapsulate (fam set : Nat) (sk ct : Bytes) : Bytes := prim (ssLen fam) (decapsPrim fam) [oct set, sk, ct]
/-- ENCAPS. -/
def encapsBody (s : State) (j : Job) : Ran :=
  let fam := opFam j.opcode
  let set := opSet j.opcode
  let pk := s.pubOf j j.payload
  if !pubGood j pk then ok s [1]
  else s.take j (encapsDraw fam set) (fun t m =>
    let r := encapsulate fam set pk m
    ok (t.matrixOf fam set pk) (r.1 ++ r.2))
/-- DECAPS: implicit rejection never shows (R156, R164). -/
def decapsBody (s : State) (j : Job) : Ran :=
  match s.keyFor j with
  | none => fails s 0x10
  | some k => ok (s.matrixOf (opFam j.opcode) (opSet j.opcode) k.pub) (decapsulate (opFam j.opcode) (opSet j.opcode) k.secret j.payload)

/-! ### Signatures (R157-R163) -/

/-- The form of a signing or verifying operation: 0 message, 1 μ, 2 digest. -/
def formOf (o : Nat) : Nat := if o = 3 ∨ o = 4 then 1 else if o = 5 ∨ o = 6 then 2 else 0
/-- The primitives of a family's signatures. -/
def signPrim (fam : Nat) : Prim := if fam = 2 then .mlDsaSign else if fam = 3 then .slhDsaSign else .eccSign
def verifyPrim (fam : Nat) : Prim := if fam = 2 then .mlDsaVerify else if fam = 3 then .slhDsaVerify else if fam = 4 then .fnDsaVerify else .eccVerify
/-- The signature preamble is one that the operation allows (R157, R158, R161, R163, R177). -/
def preambleOk (fam o : Nat) (b : Bytes) : Bool :=
  let signs := o == 1 || o == 3 || o == 5
  let form := formOf o
  let ph := fieldAt b 2 1
  decide (fieldAt b 0 1 ≤ (if signs then 1 else 0)) && fieldAt b 3 1 == 0 && ((form != 1 && fam != 8) || fieldAt b 1 1 == 0) &&
    (if form = 2 then decide (1 ≤ ph) && decide (ph ≤ (if fam = 8 then 3 else 8)) else ph == 0)
/-- What a signature is made of, besides its key: set, form, pre-hash function, context and message. -/
def sigHead (set form ph : Nat) : Bytes := oct set ++ oct form ++ oct ph
/-- A signature over a context and message with the randomiser `rnd` (R159). -/
def signature (fam set form ph : Nat) (sk ctx msg rnd : Bytes) : Bytes :=
  prim (sigLen fam set) (signPrim fam) [sigHead set form ph, sk, ctx, msg, rnd]
/-- The ML-DSA signing loop reaches acceptance within 64 iterations (R160). -/
def loopEnds (fam set form ph : Nat) (sk ctx msg rnd : Bytes) : Bool :=
  fam != 2 || Config.check .mlDsaSign [sigHead set form ph, sk, ctx, msg, rnd]
/-- A signature verifies. -/
def verifies (fam set form ph : Nat) (pk ctx msg sig : Bytes) : Bool := Config.check (verifyPrim fam) [sigHead set form ph, pk, ctx, msg, sig]
/-- The octets a hedged signature draws: rnd, opt_rand, or the additional data of RFC 6979; Ed25519 draws none (R159, R161, R178). -/
def rndLen (fam set : Nat) : Nat := if fam = 3 then slhN set else if fam = 8 ∧ set = 3 then 0 else 32
/-- Sign with a key: hedged, or with the randomiser that DETERMINISTIC gives; RETRY_EXHAUSTED after 64 iterations (R159, R160). -/
def signWith (s : State) (j : Job) (k : KeyRec) (fam set form ph : Nat) (det : Bool) (ctx msg : Bytes) (f : State → Bytes → Ran) : Ran :=
  s.take j (if det then 0 else rndLen fam set) (fun t rnd =>
    let rnd := if det ∧ fam = 2 then List.replicate 32 0 else if det ∧ fam = 3 then slice k.secret (2 * slhN set) (slhN set) else rnd
    if loopEnds fam set form ph k.secret ctx msg rnd then f (t.matrixOf fam set k.pub) (signature fam set form ph k.secret ctx msg rnd)
    else fails (t.matrixOf fam set k.pub) 0x55)
/-- The payload's length suits the form: exact for μ and digests. -/
def formLen (fam o : Nat) (b : Bytes) (fixed : Nat) : Bool :=
  match formOf o with
  | 0 => decide (fixed ≤ b.length)
  | 1 => b.length == fixed + 64
  | _ => b.length == fixed + hashLen (if fam = 9 then fieldAt b 1 1 else fieldAt b 2 1)
/-- SIGN, SIGN_MU and HASH_SIGN. -/
def signBody (s : State) (j : Job) : Ran :=
  let b := j.payload
  let fam := opFam j.opcode
  let o := opOp j.opcode
  let c := fieldAt b 1 1
  match s.keyFor j with
  | none => fails s 0x10
  | some k => guardParam s (preambleOk fam o b && formLen fam o b (4 + c))
      (signWith s j k fam (opSet j.opcode) (formOf o) (fieldAt b 2 1) (bitAt (fieldAt b 0 1) 0) (slice b 4 c) (b.drop (4 + c)) ok)
/-- VERIFY, VERIFY_MU and HASH_VERIFY: preamble, [pk], context, signature, message; the verdict is the result (R149). -/
def verifyBody (s : State) (j : Job) : Ran :=
  let b := j.payload
  let fam := opFam j.opcode
  let set := opSet j.opcode
  let o := opOp j.opcode
  let p := inlineLen j
  let c := fieldAt b 1 1
  let n := sigLen fam set
  let pk := s.pubOf j (slice b 4 p)
  guardParam s (preambleOk fam o b && formLen fam o b (4 + p + c + n))
    (ok (s.matrixOf fam set pk) (verdict (pubGood j pk &&
      verifies fam set (formOf o) (fieldAt b 2 1) pk (slice b (4 + p) c) (b.drop (4 + p + c + n)) (slice b (4 + p + c) n))))
/-- FN-DSA VERIFY: the signature's length stands before it, and bounds the verdict (R163). -/
def fnVerifyBody (s : State) (j : Job) : Ran :=
  let b := j.payload
  let set := opSet j.opcode
  let p := inlineLen j
  let c := fieldAt b 1 1
  let n := fieldAt b (4 + p + c) 2
  let pk := s.pubOf j (slice b 4 p)
  guardParam s (preambleOk 4 2 b && decide (6 + p + c + n ≤ b.length))
    (ok s (verdict (pubGood j pk && decide (n ≤ bySet [666, 1280] set) &&
      verifies 4 set 0 0 pk (slice b (4 + p) c) (b.drop (6 + p + c + n)) (slice b (6 + p + c) n))))

/-! ### Stateful hash-based signatures (R167, R168, R171) -/

/-- The public key of a stateful key: its type codes, then what its seed gives (R167; log 23). -/
def statefulPublic (set typ ots levels : Nat) (seed : Bytes) : Bytes :=
  let h := statefulHead set typ ots levels
  h ++ prim (statefulPubLen set typ - h.length) .statefulKeygen [oct set, h, seed]
/-- KEYGEN of a stateful key: nothing is reserved yet, so its first SIGN waits for a reservation (R168, R169). -/
def statefulKeygenBody (s : State) (j : Job) : Ran :=
  let b := j.payload
  let set := opSet j.opcode
  let batch := fieldAt b 10 2
  match statefulTotal set (fieldAt b 0 4) (fieldAt b 4 4) (fieldAt b 8 1) with
  | none => fails s 0x26
  | some n => guardParam s (fieldAt b 9 1 == 0 && decide (1 ≤ batch) && decide (batch ≤ 1024))
      (s.take j 48 (fun t seed =>
        let pub := statefulPublic set (fieldAt b 0 4) (fieldAt b 4 4) (fieldAt b 8 1) seed
        t.makeKey j { openKey 0x1C set 0 pub seed with total := n, batch := batch } (fun t k =>
          okKey t (pub ++ beBytes 48 k.digest) k.handle)))
/-- SIGN with the index that dispatch gave; the traversal state moves on (R151, R168, R171). -/
def statefulSignBody (s : State) (j : Job) : Ran :=
  match s.keyFor j, j.index with
  | some k, some i => s.take j 32 (fun t rnd =>
      let x := statefulTypes k.set 1 [] (some k)
      ok (t.drawn.bumpKey j (fun r => { r with traversal := t.draw })) (prim (statefulSigLen k.set x.1 x.2.1 x.2.2) .statefulSign [oct k.set, k.secret, k.pub, beBytes 8 i, rnd, j.payload]))
  | _, _ => fails s 0x10
/-- VERIFY of a stateful signature: lengths, public key, signature, message; type codes or lengths that are wrong give VERDICT_INVALID (R167). -/
def statefulVerifyBody (s : State) (j : Job) : Ran :=
  let b := j.payload
  let p := fieldAt b 0 4
  let n := fieldAt b 4 4
  let pk := s.pubOf j (slice b 8 p)
  let x := headTypes (opSet j.opcode) pk
  guardParam s (decide (8 + p + n ≤ b.length) && (j.key == 0 || p == 0))
    (ok s (verdict (pk.length == statefulPubLen (opSet j.opcode) x.1 && statefulKnown (opSet j.opcode) x.1 x.2.1 x.2.2 &&
      statefulSigFits (opSet j.opcode) x (slice b (8 + p) n) && Config.check .statefulVerify [oct (opSet j.opcode), pk, b.drop (8 + p + n), slice b (8 + p) n])))

/-! ### The rows -/

/-- ML_KEM_KEYGEN (R155). -/
def execMlKemKeygen (r : JobRun) (s : State) : Out := jobRow r (famOp 1 0) keygenBody s
/-- ML_KEM_KEYGEN_FROM_SEED (R155). -/
def execMlKemKeygenFromSeed (r : JobRun) (s : State) : Out := jobRow r (famOp 1 3) keygenBody s
/-- ML_KEM_ENCAPS (R155). -/
def execMlKemEncaps (r : JobRun) (s : State) : Out := jobRow r (famOp 1 1) encapsBody s
/-- ML_KEM_DECAPS (R156). -/
def execMlKemDecaps (r : JobRun) (s : State) : Out := jobRow r (famOp 1 2) decapsBody s
/-- ML_DSA_KEYGEN (R157). -/
def execMlDsaKeygen (r : JobRun) (s : State) : Out := jobRow r (famOp 2 0) keygenBody s
/-- ML_DSA_SIGN (R157, R159, R160). -/
def execMlDsaSign (r : JobRun) (s : State) : Out := jobRow r (famOp 2 1) signBody s
/-- ML_DSA_VERIFY (R157). -/
def execMlDsaVerify (r : JobRun) (s : State) : Out := jobRow r (famOp 2 2) verifyBody s
/-- ML_DSA_SIGN_MU (R157). -/
def execMlDsaSignMu (r : JobRun) (s : State) : Out := jobRow r (famOp 2 3) signBody s
/-- ML_DSA_VERIFY_MU (R157). -/
def execMlDsaVerifyMu (r : JobRun) (s : State) : Out := jobRow r (famOp 2 4) verifyBody s
/-- ML_DSA_HASH_SIGN (R157, R158). -/
def execMlDsaHashSign (r : JobRun) (s : State) : Out := jobRow r (famOp 2 5) signBody s
/-- ML_DSA_HASH_VERIFY (R157, R158). -/
def execMlDsaHashVerify (r : JobRun) (s : State) : Out := jobRow r (famOp 2 6) verifyBody s
/-- SLH_DSA_KEYGEN (R161). -/
def execSlhDsaKeygen (r : JobRun) (s : State) : Out := jobRow r (famOp 3 0) keygenBody s
/-- SLH_DSA_SIGN (R161, R162). -/
def execSlhDsaSign (r : JobRun) (s : State) : Out := jobRow r (famOp 3 1) signBody s
/-- SLH_DSA_VERIFY (R161). -/
def execSlhDsaVerify (r : JobRun) (s : State) : Out := jobRow r (famOp 3 2) verifyBody s
/-- SLH_DSA_HASH_SIGN (R161). -/
def execSlhDsaHashSign (r : JobRun) (s : State) : Out := jobRow r (famOp 3 5) signBody s
/-- SLH_DSA_HASH_VERIFY (R161). -/
def execSlhDsaHashVerify (r : JobRun) (s : State) : Out := jobRow r (famOp 3 6) verifyBody s
/-- FN_DSA_VERIFY (R163). -/
def execFnDsaVerify (r : JobRun) (s : State) : Out := jobRow r (famOp 4 2) fnVerifyBody s
/-- HQC_KEYGEN (R164). -/
def execHqcKeygen (r : JobRun) (s : State) : Out := jobRow r (famOp 5 0) keygenBody s
/-- HQC_ENCAPS (R164). -/
def execHqcEncaps (r : JobRun) (s : State) : Out := jobRow r (famOp 5 1) encapsBody s
/-- HQC_DECAPS (R164). -/
def execHqcDecaps (r : JobRun) (s : State) : Out := jobRow r (famOp 5 2) decapsBody s
/-- MCELIECE_KEYGEN: at most 32 attempts, each with a fresh seed (R165). -/
def execMcelieceKeygen (r : JobRun) (s : State) : Out :=
  jobRow r (famOp 6 0) (fun s j => guardParam s (keygenOptions 6 j.payload)
    (s.takeUntil j 32 32 (fun b => Config.check .mcelieceKeygen [oct (opSet j.opcode), b]) (fun t seed => finishKeygen t j 0 seed))) s
/-- MCELIECE_ENCAPS (R166). -/
def execMcelieceEncaps (r : JobRun) (s : State) : Out := jobRow r (famOp 6 1) encapsBody s
/-- MCELIECE_DECAPS (R164). -/
def execMcelieceDecaps (r : JobRun) (s : State) : Out := jobRow r (famOp 6 2) decapsBody s
/-- STATEFUL_KEYGEN (R167). -/
def execStatefulKeygen (r : JobRun) (s : State) : Out := jobRow r (famOp 7 0) statefulKeygenBody s
/-- STATEFUL_SIGN (R168). -/
def execStatefulSign (r : JobRun) (s : State) : Out := jobRow r (famOp 7 1) statefulSignBody s
/-- STATEFUL_VERIFY (R167). -/
def execStatefulVerify (r : JobRun) (s : State) : Out := jobRow r (famOp 7 2) statefulVerifyBody s

end Machine
end Sys2Proof
end

