-- ==== Sys2Proof/Machine/ClassicalJobs.lean ====
section
/-! DEFINITION. Elliptic curves, RSA, AES-GCM, key wrap, hashes, MACs, key derivation, random octets, compares and streams
(08 R175-R188, 12 R274-R285). -/

namespace Sys2Proof
namespace Machine

/-! ### ECC (R177-R179) -/

/-- The octets of a shared secret. -/
def agreeLen (set : Nat) : Nat := if set = 2 then 48 else 32
/-- The value that ECDH or X25519 gives: the x-coordinate, or the X25519 output (R179). -/
def sharedValue (set : Nat) (sk peer : Bytes) : Bytes := if set = 4 then prim 32 .x25519 [sk, peer] else prim (agreeLen set) .ecdh [oct set, sk, peer]
/-- It is a secret: the peer's point is uncompressed and on the curve; of X25519, the output is not all zero (R179). -/
def agrees (set : Nat) (sk peer : Bytes) : Bool :=
  if set = 4 then !zeros (sharedValue set sk peer) else peer.head? == some 4 && Config.check .ecdh [oct set, sk, peer]
/-- A shared secret, or nothing (R179). -/
def agreed (set : Nat) (sk peer : Bytes) : Option Bytes := if agrees set sk peer then some (sharedValue set sk peer) else none
/-- AGREE: to the host, or to a provisional KDF secret (R179). -/
def agreeBody (s : State) (j : Job) : Ran :=
  let b := j.payload
  let toKey := bitAt (fieldAt b 0 1) 0
  match s.keyFor j with
  | none => fails s 0x10
  | some k => guardParam s (decide (fieldAt b 0 1 ≤ 1) && zeros (slice b 1 3))
      (if !toKey ∧ !bitAt k.ops 9 then fails s 0x30
       else match agreed (opSet j.opcode) k.secret (b.drop 4) with
         | none => ok s [1]
         | some z => if toKey then s.makeKey j (openKey 0x03 1 0 [] (kdfSecret z)) (fun t n => okKey t [0] n.handle) else ok s (0 :: z))

/-! ### RSA (R180-R182) -/

/-- The RSA preamble: padding, hash and label suit the operation (R180). -/
def rsaPreamble (o : Nat) (b : Bytes) : Bool :=
  let p := fieldAt b 0 1
  decide (1 ≤ fieldAt b 1 1) && decide (fieldAt b 1 1 ≤ 6) && fieldAt b 3 1 == 0 &&
    (if o = 3 ∨ o = 4 then p == 3 else (p == 1 || p == 2) && fieldAt b 2 1 == 0)
/-- A public exponent that the NM72 accepts: odd, from 3 to 2^32 − 1 (R180). -/
def exponentOk (pk : Bytes) : Bool := decide (3 ≤ fieldAt pk 0 4) && fieldAt pk 0 4 % 2 == 1
/-- The operands of an RSA operation besides its data: set, padding and hash. -/
def rsaHead (set : Nat) (b : Bytes) : Bytes := oct set ++ b.take 2
/-- The octets that blinding draws: a base and two 64-bit multipliers (R181). -/
def blindLen (set : Nat) : Nat := rsaK set + 16
/-- RSA KEYGEN: at most 5 × (k × 4) candidates for each of two primes (R182). -/
def rsaKeygenBody (s : State) (j : Job) : Ran :=
  let set := opSet j.opcode
  let h := rsaK set / 2
  let m := 20 * rsaK set
  guardParam s (keygenOptions 9 j.payload)
    (s.takeUntil j h m (fun b => Config.check .rsaKeygen [oct set, b]) (fun t p =>
      t.takeUntil j h m (fun b => Config.check .rsaKeygen [oct set, b, p]) (fun u q => finishKeygen u j 0 (p ++ q))))
/-- SIGN and HASH_SIGN: blinded CRT with the salt of PSS; a result that fails its check is a hardware fault (R181). -/
def rsaSignBody (s : State) (j : Job) : Ran :=
  let b := j.payload
  let set := opSet j.opcode
  match s.keyFor j with
  | none => fails s 0x10
  | some k => guardParam s (rsaPreamble (opOp j.opcode) b && formLen 9 (opOp j.opcode) b 4)
      (s.take j (blindLen set + (if fieldAt b 0 1 = 1 then hashLen (fieldAt b 1 1) else 0)) (fun t r =>
        ok t (prim (rsaK set) .rsaPrivate [rsaHead set b ++ oct (formOf (opOp j.opcode)), k.secret, b.drop 4, r.drop (blindLen set)])))
/-- VERIFY and HASH_VERIFY. -/
def rsaVerifyBody (s : State) (j : Job) : Ran :=
  let b := j.payload
  let set := opSet j.opcode
  let p := inlineLen j
  let n := rsaK set
  let pk := s.pubOf j (slice b 4 p)
  guardParam s (rsaPreamble (opOp j.opcode) b && formLen 9 (opOp j.opcode) b (4 + p + n))
    (ok s (verdict (pubGood j pk && exponentOk pk &&
      Config.check .rsaVerify [rsaHead set b ++ oct (formOf (opOp j.opcode)), pk, b.drop (4 + p + n), slice b (4 + p) n])))
/-- DECRYPT: OAEP, 0x01 for every failure and for a ciphertext not below n (R181). -/
def rsaDecryptBody (s : State) (j : Job) : Ran :=
  let b := j.payload
  let set := opSet j.opcode
  let l := fieldAt b 2 1
  match s.keyFor j with
  | none => fails s 0x10
  | some k => guardParam s (rsaPreamble 3 b && b.length == 4 + l + rsaK set)
      (s.take j (blindLen set) (fun t _ =>
        let args := [rsaHead set b, k.secret, slice b 4 l, b.drop (4 + l)]
        let n := beNat (prim 2 .rsaPrivate (args ++ [oct 1])) % (rsaK set - 2 * hashLen (fieldAt b 1 1) - 1)
        ok t (if beNat (b.drop (4 + l)) < beNat (k.pub.drop 4) ∧ Config.check .rsaPrivate args then 0 :: prim n .rsaPrivate args else [1])))
/-- ENCRYPT: OAEP with its seed drawn (R180). -/
def rsaEncryptBody (s : State) (j : Job) : Ran :=
  let b := j.payload
  let set := opSet j.opcode
  let p := inlineLen j
  let l := fieldAt b 2 1
  let h := hashLen (fieldAt b 1 1)
  let pk := s.pubOf j (slice b 4 p)
  guardParam s (rsaPreamble 4 b && decide (4 + p + l ≤ b.length) && decide (b.length + 2 * h + 2 ≤ 4 + p + l + rsaK set))
    (if !pubGood j pk ∨ !exponentOk pk then ok s [1]
     else s.take j h (fun t seed => ok t (prim (rsaK set) .rsaPublic [rsaHead set b, pk, slice b (4 + p) l, b.drop (4 + p + l), seed])))

/-! ### AES-GCM and key wrap (R183-R185) -/

/-- The GCM payload of an operation is well formed: spare bits, aad_len, a zero nonce with DEVICE_NONCE, and a result no longer than 16 MiB (R57, R183;
log 109). -/
def gcmOk (enc : Bool) (b : Bytes) : Bool :=
  let a := fieldAt b 4 4
  decide (fieldAt b 0 1 ≤ (if enc then 1 else 0)) && zeros (slice b 1 3) && decide (20 + a + (if enc then 0 else 16) ≤ b.length) &&
    (!bitAt (fieldAt b 0 1) 0 || zeros (slice b 8 12)) && (!enc || decide (b.length + 8 ≤ 16777216 + a))
/-- ENCRYPT and wrap. -/
def aeadEncryptBody (s : State) (j : Job) : Ran :=
  let b := j.payload
  let set := opSet j.opcode
  let key := s.keySecret j
  if set = 1 then
    let a := fieldAt b 4 4
    guardParam s (gcmOk true b)
      (s.take j (if bitAt (fieldAt b 0 1) 0 then 12 else 0) (fun t d =>
        let nonce := if bitAt (fieldAt b 0 1) 0 then d else slice b 8 12
        ok t (nonce ++ prim (b.length - 20 - a + 16) .aesGcmSeal [key, nonce, slice b 20 a, b.drop (20 + a)])))
  else guardParam s (zeros (b.take 4)) (ok s (prim (ceilDiv (b.length - 4) 8 * 8 + 8) .aesKeyWrap [oct set, key, b.drop 4]))
/-- DECRYPT and unwrap: nothing that fails its check is released. -/
def aeadDecryptBody (s : State) (j : Job) : Ran :=
  let b := j.payload
  let set := opSet j.opcode
  let key := s.keySecret j
  if set = 1 then
    let a := fieldAt b 4 4
    let args := [key, slice b 8 12, slice b 20 a, b.drop (20 + a)]
    guardParam s (gcmOk false b)
      (ok s (if Config.check .aesGcmOpen args then 0 :: prim (b.length - 36 - a) .aesGcmOpen args else [1]))
  else
    let args := [oct set, key, b.drop 4]
    let pad := if set = 3 then beNat (prim 1 .aesKeyUnwrap (args ++ [oct 1])) % 8 else 0
    guardParam s (zeros (b.take 4))
      (ok s (if Config.check .aesKeyUnwrap args then 0 :: prim (b.length - 12 - pad) .aesKeyUnwrap args else [1]))

/-! ### Hash, XOF, MAC, compare (R186, R285) -/

/-- DIGEST, MAC and MAC_VERIFY. -/
def hashBody (s : State) (j : Job) : Ran :=
  let b := j.payload
  let set := opSet j.opcode
  let o := opOp j.opcode
  let h := hashHead b
  let n := if o = 2 then hashOut set (fieldAt b 0 4) else 0
  guardParam s (hashParamsOk set o b && decide (h + n ≤ b.length))
    (let v := hashValue set o (b.take h) (s.keySecret j) (b.drop (h + n))
     ok s (if o = 2 then verdict (v == slice b h n) else v))
/-- COMPARE: EQUAL or NOT_EQUAL (R285). -/
def compareBody (s : State) (j : Job) : Ran :=
  let b := j.payload
  let set := opSet j.opcode
  let d := hashLen set
  guardParam s (zeros (b.take 4))
    (ok s (verdict (prim d (hashPrim set) [b.drop (4 + d)] == slice b 4 d)))

/-! ### Key derivation (R187, R316) -/

/-- The hash length of an HKDF or counter-mode set. -/
def kdfHash (set : Nat) : Nat := bySet [32, 48, 64, 32, 48, 32] set
/-- The longest output of an operation. -/
def kdfMax (set : Nat) : Nat := if set ≤ 3 then 255 * kdfHash set else 65536
/-- An output of `n` octets fits a key type: 32 for AES-256, 64 for HMAC, 16 to 64 for a KDF secret (R316; log 34). -/
def kdfTypeOk (typ n : Nat) : Bool :=
  match typ with
  | 0x01 => n == 32
  | 0x02 => n == 64
  | 0x03 => decide (16 ≤ n) && decide (n ≤ 64)
  | _ => false
/-- The output of a derivation. -/
def kdfOutput (set o n : Nat) (salt info ikm : Bytes) : Bytes :=
  if 4 ≤ set then prim n .kdfCounter [oct set, ikm, info, salt]
  else
    let prk := if o = 1 then ikm else prim (kdfHash set) .hkdfExtract [oct set, salt, ikm]
    if o = 0 then prk else prim n .hkdfExpand [oct set, prk, info]
/-- EXTRACT, EXPAND and EXTRACT_EXPAND. -/
def kdfBody (s : State) (j : Job) : Ran :=
  let b := j.payload
  let set := opSet j.opcode
  let o := opOp j.opcode
  let toKey := bitAt (fieldAt b 0 1) 0
  let l := fieldAt b 8 2
  let i := fieldAt b 10 2
  let n := if o = 0 then kdfHash set else fieldAt b 4 4
  let ikm := b.drop (12 + l + i)
  guardParam s (decide (fieldAt b 0 1 ≤ 1) && zeros (slice b 2 2) && decide (12 + l + i ≤ b.length) && (j.key == 0 || ikm == []) &&
      decide (n ≤ kdfMax set) && (!toKey || kdfTypeOk (fieldAt b 1 1) n))
    (match s.keyFor j with
     | some k =>
       if !toKey ∧ !bitAt k.ops 9 then fails s 0x30
       else kdfResult s j toKey (fieldAt b 1 1) (kdfOutput set o n (slice b 12 l) (slice b (12 + l) i) k.material)
     | none => kdfResult s j toKey (fieldAt b 1 1) (kdfOutput set o n (slice b 12 l) (slice b (12 + l) i) ikm))
where
  /-- The output, in the result or as a key. -/
  kdfResult (s : State) (j : Job) (toKey : Bool) (typ : Nat) (v : Bytes) : Ran :=
    if toKey then s.makeKey j (openKey typ 1 0 [] (if typ = 0x03 then kdfSecret v else v)) (fun t k => okKey t [] k.handle) else ok s v

/-! ### Random octets (R188, R300) -/

/-- RANDOM_OCTETS. A prediction-resistance reseed was served before its dispatch (R299). -/
def randomBody (s : State) (j : Job) : Ran :=
  let b := j.payload
  let n := fieldAt b 0 4
  guardParam s (decide (1 ≤ n) && decide (n ≤ 1048576) && decide (fieldAt b 4 1 ≤ 1) && zeros (slice b 5 3))
    (s.take j n (fun t v => ok t v))

/-! ### The rows -/

/-- ECC_KEYGEN (R177). -/
def execEccKeygen (r : JobRun) (s : State) : Out := jobRow r (famOp 8 0) keygenBody s
/-- ECC_SIGN (R177, R178). -/
def execEccSign (r : JobRun) (s : State) : Out := jobRow r (famOp 8 1) signBody s
/-- ECC_VERIFY (R177). -/
def execEccVerify (r : JobRun) (s : State) : Out := jobRow r (famOp 8 2) verifyBody s
/-- ECC_AGREE (R179). -/
def execEccAgree (r : JobRun) (s : State) : Out := jobRow r (famOp 8 3) agreeBody s
/-- ECC_HASH_SIGN (R177). -/
def execEccHashSign (r : JobRun) (s : State) : Out := jobRow r (famOp 8 5) signBody s
/-- ECC_HASH_VERIFY (R177). -/
def execEccHashVerify (r : JobRun) (s : State) : Out := jobRow r (famOp 8 6) verifyBody s
/-- RSA_KEYGEN (R182). -/
def execRsaKeygen (r : JobRun) (s : State) : Out := jobRow r (famOp 9 0) rsaKeygenBody s
/-- RSA_SIGN (R180, R181). -/
def execRsaSign (r : JobRun) (s : State) : Out := jobRow r (famOp 9 1) rsaSignBody s
/-- RSA_VERIFY (R180). -/
def execRsaVerify (r : JobRun) (s : State) : Out := jobRow r (famOp 9 2) rsaVerifyBody s
/-- RSA_DECRYPT (R181). -/
def execRsaDecrypt (r : JobRun) (s : State) : Out := jobRow r (famOp 9 3) rsaDecryptBody s
/-- RSA_ENCRYPT (R180). -/
def execRsaEncrypt (r : JobRun) (s : State) : Out := jobRow r (famOp 9 4) rsaEncryptBody s
/-- RSA_HASH_SIGN (R180, R181). -/
def execRsaHashSign (r : JobRun) (s : State) : Out := jobRow r (famOp 9 5) rsaSignBody s
/-- RSA_HASH_VERIFY (R180). -/
def execRsaHashVerify (r : JobRun) (s : State) : Out := jobRow r (famOp 9 6) rsaVerifyBody s
/-- AEAD_ENCRYPT (R183-R185). -/
def execAeadEncrypt (r : JobRun) (s : State) : Out := jobRow r (famOp 0x0C 1) aeadEncryptBody s
/-- AEAD_DECRYPT (R183-R185). -/
def execAeadDecrypt (r : JobRun) (s : State) : Out := jobRow r (famOp 0x0C 2) aeadDecryptBody s
/-- DIGEST (R186). -/
def execDigest (r : JobRun) (s : State) : Out := jobRow r (famOp 0x0D 0) hashBody s
/-- MAC (R186). -/
def execMac (r : JobRun) (s : State) : Out := jobRow r (famOp 0x0D 1) hashBody s
/-- MAC_VERIFY (R186). -/
def execMacVerify (r : JobRun) (s : State) : Out := jobRow r (famOp 0x0D 2) hashBody s
/-- EXTRACT (R187). -/
def execExtract (r : JobRun) (s : State) : Out := jobRow r (famOp 0x0E 0) kdfBody s
/-- EXPAND (R187). -/
def execExpand (r : JobRun) (s : State) : Out := jobRow r (famOp 0x0E 1) kdfBody s
/-- EXTRACT_EXPAND (R187). -/
def execExtractExpand (r : JobRun) (s : State) : Out := jobRow r (famOp 0x0E 2) kdfBody s
/-- RANDOM_OCTETS (R188). -/
def execRandomOctets (r : JobRun) (s : State) : Out := jobRow r (famOp 0x0F 0) randomBody s
/-- COMPARE (R285). -/
def execCompare (r : JobRun) (s : State) : Out := jobRow r (famOp 0x20 0) compareBody s

end Machine
end Sys2Proof
end

