-- ==== Sys2Proof/Machine/ServiceJobs.lean ====
section
/-! DEFINITION. Key management jobs, the TLS 1.3 hybrid key schedule, datum stamps and attestation quotes (08 R189-R194, 14 R315-R319, 16 R371). -/

namespace Sys2Proof
namespace Machine

/-! ### Attribute blocks (R315-R317) -/

/-- The set exists in the family's numbering. -/
def setExists (fam set : Nat) : Bool := jobExists (fam * 256 + set * 16 + (if fam = 4 then 2 else 0))
/-- A type and set that an attribute block may name, with the order it takes. -/
def typeOk (typ set order : Nat) : Bool :=
  if typ = 0x01 ∨ typ = 0x02 ∨ typ = 0x03 then set == 1 && order == 0
  else famOfType typ != 0 && setExists (famOfType typ) set &&
    (if typ = 0x10 ∨ typ = 0x12 ∨ typ = 0x18 then order == 1 || order == 2 else order == 0)
/-- A 40-octet attribute block keeps its limits, for an owner tenant (R315, R317). -/
def attrOk (t : Nat) (a : Bytes) : Bool :=
  typeOk (fieldAt a 0 1) (fieldAt a 1 1) (fieldAt a 2 1) && fieldAt a 3 1 == 0 && !bitAt (fieldAt a 4 1) 4 && decide (fieldAt a 4 1 < 64) &&
    fieldAt a 5 1 == 0 && decide (fieldAt a 6 2 < 1024) && fieldAt a 8 1 == t && decide (fieldAt a 9 1 ≤ 3) && fieldAt a 38 2 == 0
/-- A key with the attributes of a block. -/
def withAttrs (k : KeyRec) (a : Bytes) : KeyRec :=
  { k with typ := fieldAt a 0 1, set := fieldAt a 1 1, order := fieldAt a 2 1, classes := fieldAt a 4 1, ops := fieldAt a 6 2,
           notBefore := fieldAt a 10 10, notAfter := fieldAt a 20 10, useLimit := fieldAt a 30 8 }

/-! ### Family 0x10 (R189, R190) -/

/-- The octets GEN_SYMMETRIC draws for a type; a KDF secret's length is not stated (log 35). -/
def genLen (typ : Nat) : Nat := if typ = 0x01 then 32 else if typ = 0x02 then 64 else 16 + Config.unstated 47 [] % 49
/-- GEN_SYMMETRIC. -/
def genBody (s : State) (j : Job) : Ran :=
  let a := j.payload
  let typ := fieldAt a 0 1
  guardParam s (attrOk j.tenant a && decide (typ ≤ 3))
    (s.take j (genLen typ) (fun t v =>
      t.makeKey j (withAttrs (openKey typ 1 0 [] (if typ = 0x03 then kdfSecret v else v)) a) (fun t k => okKey t (beBytes 48 k.digest) k.handle)))
/-- IMPORT_PUBLIC: a key that fails its standard's check is refused with KEY_USAGE. -/
def importBody (s : State) (j : Job) : Ran :=
  let b := j.payload
  let fam := fieldAt b 0 1
  let set := fieldAt b 1 1
  let a := slice b 4 40
  let pk := b.drop 44
  guardParam s (pubType fam != 0 && setExists fam set && fieldAt b 2 2 == 0 && attrOk j.tenant a && fieldAt a 0 1 == pubType fam && fieldAt a 1 1 == set)
    (if pk.length ≠ (if fam = 7 then statefulPubLen set (headTypes set pk).1 else pubLen fam set) ∨ !publicOk fam set pk then fails s 0x30
     else s.makeKey j (withAttrs (openKey (pubType fam) set 0 pk []) a) (fun t k => okKey t (beBytes 48 k.digest) k.handle))
/-- EXPORT_PUBLIC. -/
def exportBody (s : State) (j : Job) : Ran :=
  match s.keyFor j with
  | some k => if hasPublic k.typ then ok s (k.pub ++ beBytes 48 k.digest) else fails s 0x30
  | none => fails s 0x10
/-- DESTROY: the key is zeroised once every job classified before that names it has ended (R190). -/
def destroyBody (s : State) (j : Job) : Ran :=
  match s.key j.key with
  | none => fails s 0x10
  | some k =>
    if s.jobs.any (fun (x : Job) => x.live && x.key == j.key && decide (x.order < j.order)) then .stay s
    else ok (s.dropVolatile (keySlot k.handle)) []

/-! ### TLS 1.3 with X25519MLKEM768 (R191, R192): sessions 1 OFFERED, 2 SHARED, 3 HANDSHAKE, 4 APPLICATION -/

/-- The hash length a payload's first octet names. -/
def tlsHash (b : Bytes) : Nat := if fieldAt b 0 1 = 1 then 32 else 48
/-- The first four octets of a TLS payload, and its length: `n` octets and `th` transcript hashes. -/
def tlsOk (o : Nat) (b : Bytes) (n th : Nat) : Bool :=
  (fieldAt b 0 1 == 1 || fieldAt b 0 1 == 2) && decide (fieldAt b 1 1 ≤ (if o = 4 then 1 else 0)) && fieldAt b 2 2 == 0 &&
    b.length == 4 + n + th * tlsHash b
/-- Secrets derived from a schedule secret and a transcript hash. -/
def tlsOut (b secret th : Bytes) (label : String) (n : Nat) : Bytes := prim (n * tlsHash b) .tlsDerive [b.take 1, ascii label, secret, th]
/-- The schedule secret that follows. -/
def tlsNext (b secret th : Bytes) (label : String) : Bytes := prim 192 .tlsDerive [b.take 1, ascii label, secret, th]
/-- The session after an operation. -/
def State.tlsMove (s : State) (k : KeyRec) (st : Nat) (secret : Bytes) : State := s.setKey { k with session := st, secret := secret }
/-- SERVER_SHARE. -/
def serverShareBody (s : State) (j : Job) : Ran :=
  let b := j.payload
  let ek := slice b 4 1184
  guardParam s (tlsOk 0 b 1216 0)
    (if !publicOk 1 2 ek then ok s [1]
     else s.take j 64 (fun t r =>
       match agreed 4 (r.drop 32) (b.drop 1188) with
       | none => ok t [1]
       | some z =>
         let e := encapsulate 1 2 ek (r.take 32)
         let k := { openKey 0x04 1 0 [] (tlsNext b (e.2 ++ z) [] "shared") with session := 2 }
         t.makeKey j k (fun t k => okKey (t.matrixOf 1 2 ek) (e.1 ++ publicOf 8 4 (r.drop 32)) k.handle)))
/-- CLIENT_SHARE. -/
def clientShareBody (s : State) (j : Job) : Ran :=
  let b := j.payload
  guardParam s (tlsOk 1 b 0 0)
    (s.take j 96 (fun t r =>
      let ek := publicOf 1 2 (r.take 64)
      t.makeKey j { openKey 0x04 1 0 [] (fit 192 r) with session := 1 } (fun t k =>
        okKey (t.matrixOf 1 2 ek) (ek ++ publicOf 8 4 (r.drop 64)) k.handle)))
/-- A TLS operation on a session key in the state it requires; KEY_USAGE in another. -/
def onSession (s : State) (j : Job) (st : Nat) (f : KeyRec → Ran) : Ran :=
  match s.key j.key with
  | some k => if k.typ = 0x04 ∧ k.session = st then f k else fails s 0x30
  | none => fails s 0x10
/-- CLIENT_HANDSHAKE. -/
def clientHandshakeBody (s : State) (j : Job) : Ran :=
  let b := j.payload
  guardParam s (tlsOk 2 b 1120 1) (onSession s j 1 (fun k =>
    match agreed 4 (slice k.secret 64 32) (slice b 1092 32) with
    | none => ok s [1]
    | some z =>
      let ss := tlsNext b (decapsulate 1 2 (k.secret.take 64) (slice b 4 1088) ++ z) [] "shared"
      ok (s.tlsMove k 3 (tlsNext b ss (b.drop 1124) "handshake")) (tlsOut b ss (b.drop 1124) "hs traffic" 2)))
/-- HANDSHAKE_SECRETS. -/
def handshakeSecretsBody (s : State) (j : Job) : Ran :=
  let b := j.payload
  guardParam s (tlsOk 3 b 0 1) (onSession s j 2 (fun k =>
    ok (s.tlsMove k 3 (tlsNext b k.secret (b.drop 4) "handshake")) (tlsOut b k.secret (b.drop 4) "hs traffic" 2)))
/-- APP_SECRETS: with NO_RESUME the session key is destroyed. -/
def appSecretsBody (s : State) (j : Job) : Ran :=
  let b := j.payload
  guardParam s (tlsOk 4 b 0 1) (onSession s j 3 (fun k =>
    ok (if bitAt (fieldAt b 1 1) 0 then s.dropVolatile (keySlot k.handle) else s.tlsMove k 4 (tlsNext b k.secret (b.drop 4) "application"))
      (tlsOut b k.secret (b.drop 4) "ap traffic" 3)))
/-- RESUMPTION: the session key is destroyed. -/
def resumptionBody (s : State) (j : Job) : Ran :=
  let b := j.payload
  guardParam s (tlsOk 5 b 0 1) (onSession s j 4 (fun k =>
    ok (s.dropVolatile (keySlot k.handle)) (tlsOut b k.secret (b.drop 4) "res master" 1)))

/-! ### STAMP (R193, R194) -/

/-- The body of a stamp. -/
def stampOctets (s : State) (k : KeyRec) (datum quality seq alg : Nat) (digest : Bytes) : Bytes :=
  oct 1 ++ oct quality ++ oct alg ++ oct 0 ++ beBytes 10 (time80 datum) ++ beBytes 8 s.trav.epoch ++ beBytes 8 seq ++ beBytes 48 s.identity ++
    beBytes 48 k.digest ++ digest
/-- STAMP: body and signature. -/
def stampBody (s : State) (j : Job) : Ran :=
  let b := j.payload
  let alg := fieldAt b 0 1
  match s.keyFor j, j.stamp with
  | some k, some (datum, quality, seq) =>
    guardParam s (decide (1 ≤ alg) && decide (alg ≤ 6) && zeros (slice b 1 3) && b.length == 4 + hashLen alg)
      (let body := stampOctets s k datum quality seq alg (b.drop 4)
       let name := ascii "NM72 DATUM STAMP"
       let fam := famOfType k.typ
       signWith s j k fam k.set 0 0 false (if fam = 8 then [] else name) (if fam = 8 then name ++ body else body) (fun t sig => ok t (body ++ sig)))
  | _, _ => fails s 0x10

/-! ### QUOTE (R371) -/

/-- The record with a seq in the archive. -/
def State.archived (s : State) (seq : Nat) : Option Bench := s.trav.archive.find? (fun b => b.seq == seq)
/-- The co-signatures of R363 over a message under a context string. -/
def State.coSign (s : State) (slh ecdsa : Bool) (ctx : String) (msg : Bytes) : Bytes × Bytes :=
  (if slh then prim 29792 .slhDsaSign [oct 11, s.derive "TRV-SLH" 96, ascii ctx, msg] else [],
   if ecdsa then prim 96 .eccSign [oct 2, s.companion, ascii ctx ++ msg] else [])
/-- QUOTE: body and signatures. -/
def quoteBody (s : State) (j : Job) : Ran :=
  let b := j.payload
  let f := if s.debug then 0 else fieldAt b 0 1 % 4
  match j.stamp with
  | none => fails s 0x54
  | some (datum, quality, seq) =>
    guardParam s (decide (fieldAt b 0 1 < 4) && zeros (slice b 1 3))
      (let ckpt := match (s.trav.archive.filter (fun b => b.kind == 0x0C && decide (b.seq ≤ seq))).getLast? with | some c => c.seq | none => 0
       let hash := match s.archived seq with | some h => h.hash | none => 0
       let body := oct 1 ++ oct quality ++ oct (f + (if s.debug then 4 else 0) + 8 * s.rd 0x1010 5) ++ oct j.tenant ++ beBytes 10 (time80 datum) ++
         beBytes 8 s.trav.epoch ++ beBytes 8 seq ++ beBytes 8 ckpt ++ beBytes 48 hash ++ beBytes 48 s.identity ++ slice b 4 32
       let co := s.coSign (bitAt f 0) (bitAt f 1) "NM72 QUOTE" body
       ok s (body ++ s.idSign "TRV-SIG" "NM72 QUOTE" body ++ co.1 ++ co.2))

/-! ### The rows -/

/-- GEN_SYMMETRIC (R189). -/
def execGenSymmetric (r : JobRun) (s : State) : Out := jobRow r (fun op => op == 0x1010) genBody s
/-- IMPORT_PUBLIC (R189). -/
def execImportPublic (r : JobRun) (s : State) : Out := jobRow r (fun op => op == 0x1011) importBody s
/-- EXPORT_PUBLIC (R189). -/
def execExportPublic (r : JobRun) (s : State) : Out := jobRow r (fun op => op == 0x1012) exportBody s
/-- DESTROY (R190). -/
def execDestroy (r : JobRun) (s : State) : Out := jobRow r (fun op => op == 0x1013) destroyBody s
/-- SERVER_SHARE (R191). -/
def execServerShare (r : JobRun) (s : State) : Out := jobRow r (fun op => op == 0x1110) serverShareBody s
/-- CLIENT_SHARE (R191). -/
def execClientShare (r : JobRun) (s : State) : Out := jobRow r (fun op => op == 0x1111) clientShareBody s
/-- CLIENT_HANDSHAKE (R191). -/
def execClientHandshake (r : JobRun) (s : State) : Out := jobRow r (fun op => op == 0x1112) clientHandshakeBody s
/-- HANDSHAKE_SECRETS (R191). -/
def execHandshakeSecrets (r : JobRun) (s : State) : Out := jobRow r (fun op => op == 0x1113) handshakeSecretsBody s
/-- APP_SECRETS (R191). -/
def execAppSecrets (r : JobRun) (s : State) : Out := jobRow r (fun op => op == 0x1114) appSecretsBody s
/-- RESUMPTION (R191). -/
def execResumption (r : JobRun) (s : State) : Out := jobRow r (fun op => op == 0x1115) resumptionBody s
/-- STAMP (R193). -/
def execStamp (r : JobRun) (s : State) : Out := jobRow r (fun op => op == 0x1120) stampBody s
/-- QUOTE (R371). -/
def execQuote (r : JobRun) (s : State) : Out := jobRow r (fun op => op == 0x1130) quoteBody s

end Machine
end Sys2Proof
end

