-- ==== Sys2Proof/Machine/KeyStore.lean ====
section
/-! DEFINITION. Persistent records: the journal, the checks and effects of key update messages, loading, reservations, the start and loss of the key
store (07 R168-R172, 14 R308-R331). -/

namespace Sys2Proof
namespace Machine

/-! ### The journal (R323-R326) -/

/-- The domain of a handle. -/
def handleDomain (h : Nat) : Nat := domainOf (keyScope h) (keyTenant h)
/-- The committed place that holds a slot's current state: the later, by counter and then by what it reserves; across domains, the one that is no
tombstone (R326). -/
def currentPlace (ps : List Place) : Option Place :=
  (ps.filter (fun p => p.committed)).foldl (fun (best : Option Place) p => match best with
    | none => some p
    | some q =>
      if handleDomain p.key.handle ≠ handleDomain q.key.handle then (if q.tombstone then some p else some q)
      else if q.counter < p.counter ∨ (q.counter = p.counter ∧ q.reserved ≤ p.reserved) then some p else some q) none
/-- The places of a persistent slot. -/
def State.places (s : State) (rk : Nat) : List Place := Map.getD s.keys.slots rk []
/-- The KEK that wraps a record's secret: for the group's records the group's, else the storage KEK, derived from DUR with the BBRAM secret before the label; the
test root takes the place of both while debug is open (R309, R376). -/
def State.kekOf (s : State) (h : Nat) : Nat :=
  if keyScope h = 2 then beNat (s.grp.kek.getD [])
  else
    let test := prim 32 .sha3_256 [ascii "NM72 TEST ROOT"]
    beNat (s.deriveBytes ((if s.keys.testRoot then test else beBytes 32 s.keys.secret) ++ ascii "STORAGE-KEK") 32)
/-- Write a new place beside the one that holds the current state (R324 step 1). -/
def State.writePlace (s : State) (rk : Nat) (p : Place) : State :=
  { s with keys := { s.keys with slots := Map.put s.keys.slots rk ((currentPlace (s.places rk)).toList ++ [{ p with kek := s.kekOf p.key.handle }]) } }
/-- The counter of the KUM that wrote a record. -/
def State.recordCounter (s : State) (rk : Nat) : Nat := match currentPlace (s.places rk) with | some p => p.counter | none => 0
/-- The manifest over records with the counters that wrote them, in ascending handle order (R325). -/
def manifestOf (rs : List (KeyRec × Nat)) : Nat :=
  sha3 ((rs.mergeSort (fun a b => decide (a.1.handle ≤ b.1.handle))).map (fun r => beBytes 4 r.1.handle ++ beBytes 8 r.2 ++ beBytes 48 r.1.digest)).flatten /
    2 ^ 256
/-- The live records of a domain. -/
def State.domainRecords (s : State) (d : Nat) : List (KeyRec × Nat) :=
  (s.keys.recs.filter (fun p => handleDomain p.2.handle == d)).map (fun p => (p.2, s.recordCounter p.1))
/-- The manifest of a record's domain once a KUM of the given op and counter has left the record so (R324, R325). -/
def State.manifestAfter (s : State) (op : Nat) (k : KeyRec) (counter : Nat) : Nat :=
  manifestOf ((s.domainRecords (handleDomain k.handle)).filter (fun r => r.1.handle != k.handle) ++ (if op = 4 then [] else [(k, counter)]))
/-- What a journal slot reserves for a record: Λ of a stateful key, else the reserved uses (R324). -/
def reservedOf (k : KeyRec) : Nat := if k.total = 0 then k.usesLimit else k.limit
/-- A persistent slot is taken: by a record of any scope, or by a KUM whose commit is under way (R312, R322). -/
def State.slotTaken (s : State) (i : Nat) : Bool :=
  (Map.find s.keys.recs i).isSome || (Map.find s.keys.recs (65536 + i)).isSome || s.keys.commits.any (fun c => c.op != 4 && keySlot c.key.handle == i) ||
    s.grp.writes.any (fun w => w.kind == 2 && decide (fieldAt w.body 4 1 ≤ 2) && keySlot (fieldAt w.body 212 4) == i)
/-- The lowest free persistent slot for a new record, shared by scopes 1 to 3 (R312). -/
def State.freeRecord (s : State) : Option Nat := (List.range 16384).find? (fun i => !s.slotTaken i)

/-! ### What a KUM does once committed (R323) -/

/-- Apply one op with the record it leaves, the domain's counter and the KUM's digest. -/
def State.applyKum (s : State) (op : Nat) (k : KeyRec) (counter digest : Nat) : State :=
  let rk := recKey k.handle
  let d := handleDomain k.handle
  let t := match Map.find s.keys.recs rk with | some old => if 3 ≤ op then (if op = 5 then { s.retireKey old with keys := { (s.retireKey old).keys with oldHeld := s.keys.oldHeld } } else s.retireKey old) else s | none => s
  let m := s.manifestAfter op k counter
  let t := { t with keys := { t.keys with
    recs := if op = 4 then Map.erase t.keys.recs rk else Map.put t.keys.recs rk k
    pGen := if op = 4 then freedGens t.keys.pGen [k] else t.keys.pGen
    loaded := if op = 5 then t.keys.loaded else t.keys.loaded.filter (fun h => h != k.handle)
    ctr := Map.put t.keys.ctr d counter } }
  { t with keys := { t.keys with
      manifest := if d < 65 then Map.put t.keys.manifest d m else t.keys.manifest
      lastKum := Map.put t.keys.lastKum d (digest, beBytes 4 k.handle ++ beBytes 8 counter ++ beBytes 48 digest) } }
/-- The provisional key of a tenant with a digest (R322 step 7). -/
def State.provisional (s : State) (t digest : Nat) : Option KeyRec :=
  ((s.keys.vol.map (fun p => p.2)).find? (fun (k : KeyRec) => keyTenant k.handle == t && k.digest == digest && k.typ != 0x04))
/-- A provisional key becomes a record: its volatile slot is freed (R323). -/
def State.dropProvisional (s : State) (h : Option Nat) : State :=
  match h with
  | none => s
  | some h => match s.key h with
    | some k => (s.retireKey k).dropVolatile (keySlot h)
    | none => s

/-! ### The KUM checks (R320-R322) -/

/-- Fields of a KUM. -/
def kumOp (b : Bytes) : Nat := fieldAt b 4 1
def kumScope (b : Bytes) : Nat := fieldAt b 5 1
def kumTenant (b : Bytes) : Nat := fieldAt b 6 1
def kumWrap (b : Bytes) : Nat := fieldAt b 156 4
def kumAttrs (b : Bytes) : Bytes := slice b 116 40
/-- The public octets that travel for a type. -/
def wrapPub (typ set : Nat) : Nat := if hasPublic typ then pubLen (famOfType typ) set else 0
/-- The lengths it may have: of a stateful key, with nodes of 32 or of 24 octets (log 23). -/
def wrapPubs (typ set : Nat) : List Nat :=
  if famOfType typ = 7 then [wrapPub typ set, wrapPub typ set - (if set ≤ 2 then 8 else 16)] else [wrapPub typ set]
/-- wrap_len is the length of the wrapped material that the attributes describe (R321). -/
def wrapOk (b : Bytes) : Bool :=
  let typ := fieldAt (kumAttrs b) 0 1
  let set := fieldAt (kumAttrs b) 1 1
  let n := kumWrap b
  let fixed := 1584 + wrapPub typ set
  if kumOp b = 2 ∨ (kumOp b = 3 ∧ n ≠ 0) then
    (if typ = 0x03 then decide (fixed + 17 ≤ n) && decide (n ≤ fixed + 65)
     else (wrapPubs typ set).any (fun p => n == 1584 + p + (if isPrivate typ || typ ≤ 2 then secretOctets typ set else 0)))
  else n == 0
/-- Step 1: state, role, and the domain's health. -/
def State.kumAllowed (s : State) (j : Job) (b : Bytes) : Bool :=
  s.lifecycle == 4 && !s.debug &&
    (match Map.find s.chans j.chan with
     | some c => c.role == 1 || (c.role == 2 && kumScope b == 1 && kumTenant b == c.tenant)
     | none => false) &&
    (kumScope b == 2 || s.domainKnown (kumScope b) (kumTenant b))
/-- Step 2: the layout. -/
def kumFormat (b : Bytes) : Bool :=
  fieldAt b 0 4 == 0x4E4D4B55 && decide (1 ≤ kumOp b ∧ kumOp b ≤ 5) && decide (1 ≤ kumScope b ∧ kumScope b ≤ 3) && decide (kumTenant b < 64) &&
    fieldAt b 7 1 == 0 && ((fieldAt b 64 4 == 0) == (kumOp b == 1 || kumOp b == 2)) &&
    (if kumOp b = 4 then zeros (kumAttrs b) else attrOk (kumTenant b) (kumAttrs b) && fieldAt (kumAttrs b) 9 1 == kumScope b) &&
    (kumOp b == 4 || wrapOk b) && (kumOp b != 4 || kumWrap b == 0) && b.length == 160 + kumWrap b + 2592 + 4627
/-- The group ID followed by 32 zero octets, as a binding. -/
def State.groupBinding (s : State) : Nat := s.groupId * 2 ^ 256
/-- Step 3: the binding. -/
def State.kumBound (s : State) (b : Bytes) : Bool :=
  if kumScope b = 2 then s.myIndex.isSome && fieldAt b 8 48 == s.groupBinding else fieldAt b 8 48 == s.identity
/-- The authority of a domain. -/
def State.authority (s : State) (scope tenant : Nat) : Nat :=
  if scope = 1 then s.rd (0x2C40 + tenant) 2 else if scope = 3 then s.rd 0x2C00 5 else s.rd 0x4400 6
/-- A message signed by the ML-DSA-87 key that it carries, with a context string. -/
def signedBy (ctx : String) (b : Bytes) : Bool :=
  let n := b.length - 4627
  Config.check .mlDsaVerify [sigHead 3 0 0, slice b (n - 2592) 2592, ascii ctx, b.take n, b.drop n]
/-- The ML-DSA-87 public key that a signed message carries. -/
def carriedKey (b : Bytes) : Bytes := slice b (b.length - 4627 - 2592) 2592
/-- Step 4: the authority. -/
def State.kumAuthorised (s : State) (b : Bytes) : Bool :=
  let a := s.authority (kumScope b) (kumTenant b)
  a != 0 && sha3 (carriedKey b) == a && signedBy "NM72 KUM" b

/-- ID-KEM's secret seeds and public key (R309, R310). -/
def State.idKem (s : State) : Bytes := s.derive "ID-KEM" 64
def State.idKemPk (s : State) : Bytes := publicOf 1 3 s.idKem
/-- Unwrap a KUM's material: secret and public octets (R321). -/
def State.unwrap (s : State) (b : Bytes) : Option (Bytes × Bytes) :=
  let n := kumWrap b
  let head := b.take 160
  let ss := decapsulate 1 3 s.idKem (slice b 160 1568)
  let w := prim 32 .kmac256 [ss, head, ascii "NM72 KUM WRAP"]
  let args := [w, List.replicate 12 0, head, slice b 1728 (n - 1568)]
  let p := wrapPub (fieldAt (kumAttrs b) 0 1) (fieldAt (kumAttrs b) 1 1)
  if Config.check .aesGcmOpen args then
    let v := prim (n - 1584) .aesGcmOpen args
    some (v.take (n - 1584 - p), v.drop (n - 1584 - p))
  else none
/-- A record from unwrapped material; a stateful key's indices are not stated to travel (log 23). -/
def materialKey (b : Bytes) (m : Bytes × Bytes) : KeyRec :=
  let a := kumAttrs b
  let typ := fieldAt a 0 1
  let set := fieldAt a 1 1
  let k := withAttrs (openKey typ set 0 m.2 (if typ = 0x03 then fit 65 m.1 else m.1)) a
  if typ = 0x1C then { k with total := publicTotal k.set m.2, batch := 1 + Config.unstated 49 [beNat m.2] % 1024 } else k

/-- What step 7 gives: a refusal, or the record that the KUM leaves and the provisional key it takes. -/
inductive KumFound where
  | refused (status : Nat)
  | found (k : KeyRec) (provisional : Option Nat)
/-- The new material of CREATE, IMPORT and REPLACE, and its digest check. -/
def State.kumMaterial (s : State) (b : Bytes) : KumFound :=
  let digest := fieldAt b 68 48
  if kumWrap b = 0 then
    match s.provisional (kumTenant b) digest with
    | none => .refused 0x10
    | some k =>
      if k.typ ≠ fieldAt (kumAttrs b) 0 1 ∨ k.set ≠ fieldAt (kumAttrs b) 1 1 then .refused 0x30
      else .found (withAttrs k (kumAttrs b)) (some k.handle)
  else match s.unwrap b with
    | none => .refused 0x15
    | some m => let k := materialKey b m
      if k.digest = digest then .found k none else .refused 0x15
/-- The target of REPLACE, DESTROY and SET_ATTR. -/
def State.kumTarget (s : State) (b : Bytes) : Except Nat KeyRec :=
  let h := fieldAt b 64 4
  if keyScope h ≠ kumScope b then .error 0x10
  else match s.payloadKey (kumTenant b) h with
    | .error e => .error e.1
    | .ok k => .ok k
/-- Step 7. -/
def State.kumFind (s : State) (b : Bytes) : KumFound :=
  let op := kumOp b
  if op = 1 ∨ op = 2 then
    match s.kumMaterial b with
    | .refused st => .refused st
    | .found k p => match s.freeRecord with
      | none => .refused 0x40
      | some i =>
        .found { k with handle := keyHandle (kumScope b) (kumTenant b) (s.persGen i) i } p
  else match s.kumTarget b with
    | .error st => .refused st
    | .ok old =>
      if op = 3 then
        match s.kumMaterial b with
        | .refused st => .refused st
        | .found k p =>
          if old.typ ≠ k.typ ∨ old.set ≠ k.set then .refused 0x30 else .found { k with handle := old.handle, uses := 0, usesLimit := 0, skipped := 0 } p
      else if old.digest ≠ fieldAt b 68 48 then .refused 0x15
      else if op = 4 then .found old none
      else if old.typ ≠ fieldAt (kumAttrs b) 0 1 ∨ old.set ≠ fieldAt (kumAttrs b) 1 1 then .refused 0x30
      else .found (withAttrs old (kumAttrs b)) none

/-! ### Group records (R376) -/

/-- The attribute block of a key (R315). -/
def attrOctets (k : KeyRec) : Bytes :=
  oct k.typ ++ oct k.set ++ oct k.order ++ oct 0 ++ oct k.classes ++ oct 0 ++ beBytes 2 k.ops ++ oct (keyTenant k.handle) ++ oct (keyScope k.handle) ++
    beBytes 10 k.notBefore ++ beBytes 10 k.notAfter ++ beBytes 8 k.useLimit ++ beBytes 2 0
/-- Octets 0 to 183 of a record in the form of a journal slot. -/
def slotHead (k : KeyRec) (counter kum : Nat) : Bytes :=
  beBytes 4 0x4E4D4B53 ++ beBytes 4 k.handle ++ beBytes 8 counter ++ beBytes 8 (reservedOf k) ++ beBytes 48 kum ++ beBytes 16 0 ++ attrOctets k ++
    beBytes 48 k.digest ++ beBytes 4 k.pub.length ++ beBytes 4 (k.secret.length + 16)
/-- A record with its secret under a KEK. -/
def recordOctets (kek : Bytes) (k : KeyRec) (counter kum : Nat) : Bytes :=
  let head := slotHead k counter kum
  head ++ k.pub ++ prim (k.secret.length + 16) .aesGcmSeal [kek, beBytes 4 k.handle ++ beBytes 8 counter, head, k.secret]
/-- The record that such octets hold; a stateful key's indices are not stated to travel (log 23). -/
def recordKey (kek b : Bytes) : KeyRec :=
  let p := fieldAt b 176 4
  let n := fieldAt b 180 4 - 16
  let a := slice b 88 40
  let sec := prim n .aesGcmOpen [kek, slice b 4 12, b.take 184, b.drop (184 + p)]
  let k : KeyRec := { withAttrs (openKey (fieldAt a 0 1) (fieldAt a 1 1) 0 (slice b 184 p) sec) a with handle := fieldAt b 4 4, digest := fieldAt b 128 48 }
  if k.typ = 0x1C then { k with total := publicTotal k.set k.pub, batch := 1 + Config.unstated 49 [beNat k.pub] % 1024 } else k
/-- The body of a GROUP_KUM. -/
def groupKumBody (kek b : Bytes) (k : KeyRec) : Bytes := b.take 160 ++ beBytes 48 (sha3 b) ++ recordOctets kek k (fieldAt b 56 8) (sha3 b)

/-! ### APPLY_KUM (R322, R324) -/

/-- A KUM that passed its checks goes to its commit: its slot is being written (R324). -/
def State.startCommit (s : State) (j : Job) (b : Bytes) (k : KeyRec) (p : Option Nat) : State :=
  let counter := fieldAt b 56 8
  let digest := sha3 b
  let t := s.writePlace (recKey k.handle)
    ⟨k, kumOp b == 4, counter, reservedOf k, if kumOp b = 4 then 2 ^ 384 - 1 else digest, s.manifestAfter (kumOp b) k counter, false, 0⟩
  { t with keys := { t.keys with commits := t.keys.commits ++ [⟨kumDomain b, kumOp b, j.ref, k, p, counter, digest, false⟩] } }
/-- A KUM that has passed steps 1 to 4 goes back to its queue, charged for its work so far, and waits there for its domain (R322). -/
def State.parkKum (s : State) (j : Job) : State :=
  ((s.accrue j).unload j).mapJob j.ref (fun (x : Job) => { x with state := .queued, units := [], borrowed := false, kumChecked := true })
/-- APPLY_KUM for the ops in `ops`: the first failing check is its status; one that has waited for its domain is checked from step 5 (R322). -/
def kumBody (ops : Nat → Bool) (s : State) (j : Job) : Ran :=
  let b := j.payload
  let d := kumDomain b
  if !ops (kumOp b) ∨ s.keys.commits.any (fun c => c.j == j.ref) ∨ s.writing j.ref then .stay s
  else if !j.kumChecked && !s.kumAllowed j b then fails s 0x15
  else if !j.kumChecked && !kumFormat b then fails s 0x26
  else if !j.kumChecked && !s.kumBound b then fails s 0x15
  else if !j.kumChecked && !s.kumAuthorised b then fails s 0x15
  else if s.earlierKum j then .stay (s.parkKum j)
  else if kumScope b = 2 then
    match (if s.role = 3 then s.verdictOf 2 (b.take 160 ++ beBytes 48 (sha3 b)) else 0) with
    | 0x01 => .done ⟨s, 0x01, (match Map.find s.keys.lastKum 65 with | some p => p.2 | none => []), none⟩
    | 0x32 => fails s 0x32
    | _ => match s.kumFind b with
      | .refused st => fails s st
      | .found k _ => if !s.quorate then fails s 0x63 else .stay (s.submit (some j.ref) 2 (groupKumBody (s.grp.kek.getD []) b k))
  else
    let counter := Map.getD s.keys.ctr d 0
    match Map.find s.keys.lastKum d with
    | some p => if fieldAt b 56 8 = counter ∧ p.1 = sha3 b then .done ⟨s, 0x01, p.2, none⟩ else kumNext s j b counter
    | none => kumNext s j b counter
where
  /-- Steps 6 to 8. -/
  kumNext (s : State) (j : Job) (b : Bytes) (counter : Nat) : Ran :=
    if fieldAt b 56 8 ≠ counter + 1 then fails s 0x32
    else match s.kumFind b with
      | .refused st => fails s st
      | .found k p => .stay (s.startCommit j b k p)

/-- The counts that a record has reached, carried to the record a commit leaves (R171). -/
def KeyRec.withCounts (k src : KeyRec) : KeyRec :=
  { k with next := src.next, limit := src.limit, skipped := src.skipped, uses := src.uses, usesLimit := src.usesLimit, ranges := src.ranges, session := src.session, traversal := src.traversal }
/-- The record that a commit leaves: SET_ATTR and CREATE keep the counts that their key has reached meanwhile; REPLACE those of the indices of a provisional
key, its use count and skipped count being reset (R171, R323). -/
def State.commitKey (s : State) (c : KumCommit) : KeyRec :=
  match (if c.op = 5 then s.key c.key.handle else c.provisional.bind s.key) with
  | some k => if c.op = 3 then { c.key with next := k.next, limit := k.limit, ranges := k.ranges } else c.key.withCounts k
  | none => c.key
/-- The new place of a slot is erased. -/
def State.dropPlace (s : State) (rk : Nat) : State :=
  { s with keys := { s.keys with slots := Map.update s.keys.slots rk (fun ps => ps.filter (fun (p : Place) => p.committed)) } }
/-- An APPLY_KUM ends with its commit, charged its cost up to then (R129, R135). -/
def State.endKum (s : State) (r : JobRef) (status detail : Nat) (out : Bytes) : State :=
  (s.chargeTypical r).endJob r status detail 0 out none
/-- The commit mark is written: the place holds the record as it is now (R324 step 2). -/
def State.markPlace (s : State) (c : KumCommit) : State :=
  let k := s.commitKey c
  { s with keys := { s.keys with
      commits := s.keys.commits.map (fun (x : KumCommit) => if x.domain = c.domain then { x with marked := true } else x)
      slots := Map.update s.keys.slots (recKey c.key.handle) (fun (ps : List Place) => ps.map (fun (p : Place) =>
        if p.committed then p else { p with key := k, reserved := reservedOf k, committed := true })) } }
/-- KUM_COMMIT: the slot and its commit mark are programmed, or the program fails; and, the next time, BBRAM is written and the completion made (R324). One whose
message has ended before its mark does nothing (R13); the journal is not written while debug is open (R309). -/
def execKumCommit (domain : Nat) (ok : Bool) (s : State) : Out :=
  match s.keys.commits.find? (fun c => c.domain == domain) with
  | none => .next s
  | some c =>
    if !s.runs then .next s
    else
    let rk := recKey c.key.handle
    let t := { s with keys := { s.keys with commits := s.keys.commits.filter (fun x => x.domain != domain) } }
    if c.marked then
      let t := (t.applyKum c.op (s.commitKey c) c.counter c.kumDigest).dropProvisional c.provisional
      .next (t.endKum c.j 0 0 (beBytes 4 c.key.handle ++ beBytes 8 c.counter ++ beBytes 48 c.kumDigest))
    else if s.debug then .next t
    else if !s.jobs.any (fun (j : Job) => j.ref == c.j && j.live) then .next (t.dropPlace rk)
    else if ok then .next (s.markPlace c)
    else .next ((t.dropPlace rk).endKum c.j 0x51 0xFF [])

/-- KUM_CREATE, which also refuses a KUM whose op is none of the five (R322, R323). -/
def execKumCreate (r : JobRun) (s : State) : Out :=
  jobRow r (fun op => op == 0x1014) (kumBody (fun o => o == 1 || o == 0 || decide (5 < o))) s
/-- KUM_IMPORT (R323). -/
def execKumImport (r : JobRun) (s : State) : Out := jobRow r (fun op => op == 0x1014) (kumBody (fun o => o == 2)) s
/-- KUM_REPLACE (R323). -/
def execKumReplace (r : JobRun) (s : State) : Out := jobRow r (fun op => op == 0x1014) (kumBody (fun o => o == 3)) s
/-- KUM_DESTROY (R323). -/
def execKumDestroy (r : JobRun) (s : State) : Out := jobRow r (fun op => op == 0x1014) (kumBody (fun o => o == 4)) s
/-- KUM_SET_ATTR (R323). -/
def execKumSetAttr (r : JobRun) (s : State) : Out := jobRow r (fun op => op == 0x1014) (kumBody (fun o => o == 5)) s

/-! ### Loading and reservations (R168-R172, R318, R328) -/

/-- The record that a job waits to be loaded under a handle (R323, R328). -/
def State.wantedKey (s : State) (handle : Nat) : Option KeyRec :=
  (s.jobs.filter (fun (j : Job) => j.state == .queued && j.key == handle)).findSome? (fun j => (s.keyFor j).filter (fun k => !s.keyPresent k))
/-- A record's material is in the region: as the loaded record, or as one kept for earlier jobs. -/
def State.putLoaded (s : State) (k : KeyRec) : State :=
  let f := fun (c : KeyRec) => if c.handle = k.handle ∧ c.digest = k.digest then s.split c else c
  let s : State := { s.splitDone with keys := { s.keys with recs := Map.mapVals f s.keys.recs, old := s.keys.old.map (fun o => (o.1, f o.2)) } }
  if (s.key k.handle).any (fun c => c.digest == k.digest) then { s with keys := { s.keys with loaded := s.keys.loaded ++ [k.handle] } }
  else { s with keys := { s.keys with oldHeld := s.keys.oldHeld ++
    ((s.keys.old.filter (fun o => o.2.handle == k.handle && o.2.digest == k.digest)).take 1).map (fun o => (o.1, k.handle)) } }
/-- A record's secret unwraps: its journal slot was written under the KEK in force (R309). -/
def State.unwraps (s : State) (handle : Nat) : Bool := (s.places (recKey handle)).all (fun p => p.kek == s.kekOf handle)
/-- KEY_LOAD: a record that a job waits for is loaded, the least recently used making room; a Classic McEliece public key's blocks are its tenant's (R327, R328;
log 31). -/
def execKeyLoad (handle : Nat) (s : State) : Out :=
  match (if s.runs ∧ keyScope handle ≠ 0 ∧ s.unwraps handle then s.wantedKey handle else none) with
  | none => .next s
  | some k => if !s.poolRoom (keyTenant k.handle) k.poolBlocks then .next s else match s.makeFit k.words (if k.typ = 0x22 then 1 else 0) (if k.typ = 0x1A then 1 else 0) s.keys.loaded.length with
    | none => .next s
    | some t => .next (t.putLoaded k)

/-- A head waits for its key's reservation and for nothing else of the key: a stateful SIGN for an index, another job for a use (R168, R318). -/
def State.awaitsReservation (s : State) (j : Job) : Bool :=
  match s.keyFor j with
  | some k => !s.earlierNamer j && j.index.isNone &&
      ((j.statefulSign && decide (k.limit ≤ k.next) && decide (k.next < k.total)) ||
        (k.useLimit != 0 && !j.prec && decide (k.usesLimit ≤ k.uses) && decide (k.uses < k.useLimit)))
  | none => false
/-- Jobs that wait for a key's reservation end with MEM_FAULT, detail 0xFF (R171). -/
def State.failWaiters (s : State) (h : Nat) : State :=
  (s.jobs.filter (fun (j : Job) => (s.keyFor j).any (fun k => s.countHandle k == h) && j.state == .queued && j.kind == 0x1 && s.isHead j && s.awaitsReservation j)).foldl
    (fun u (j : Job) => u.finish j.ref 0x51 0xFF [] none) s
/-- A KUM's commit is under way for the record or with its key: a reservation's place would take the KUM's (R324). -/
def State.kumOver (s : State) (k : KeyRec) : Bool :=
  s.keys.commits.any (fun c => keyScope k.handle != 2 && (c.key.handle == k.handle || c.provisional == some k.handle))
/-- RESERVATION_COMMIT (R169, R171, R318): the limit rises when its commit completes; a group key's reservation goes to the group log (R377); one of a record
that a KUM has removed counts for the jobs classified before it (R323). -/
def execReservationCommit (handle : Nat) (ok : Bool) (s : State) : Out :=
  match s.keys.reserves.find? (fun r => r.handle == handle), s.key handle with
  | some r, some k =>
    if !s.runs ∨ s.kumOver k then .next s
    else
    let t := { s with keys := { s.keys with reserves := s.keys.reserves.filter (fun x => !(x.handle == handle && x.uses == r.uses)) } }
    if keyScope handle = 2 then
      let body := reserveBody handle (k.reserveNext (s.groupLimit handle)) s.me
      if s.grp.writes.any (fun w => w.kind == 3 && w.body.take 4 == body.take 4) ∨ !s.quorate then .next s else .next (t.submit none 3 body)
    else if ok then
      let k' := if r.uses then { k with usesLimit := r.limit } else { k with limit := r.limit }
      let t := (t.setKey k').countAll k.digest (fun c => if r.uses ∨ k.typ ≠ 0x1C then c else { c with limit := r.limit })
      if keyScope handle = 0 then .next t
      else
        let c := s.recordCounter (recKey handle)
        let m := match currentPlace (s.places (recKey handle)) with | some p => (p.kumDigest, p.manifest) | none => (0, 0)
        .next (t.writePlace (recKey handle) ⟨k', false, c, reservedOf k', m.1, m.2, true, 0⟩)
    else .next (t.failWaiters handle)
  | some r, none => .next { s with keys := { s.keys with
      reserves := s.keys.reserves.filter (fun x => x.handle != r.handle)
      old := if ok then s.keys.old.map (fun o => (o.1, if o.2.handle = handle then (if r.uses then { o.2 with usesLimit := r.limit } else { o.2 with limit := r.limit }) else o.2))
        else s.keys.old } }
  | none, _ => .next s

/-! ### Loss, reset and start (R170, R309, R326, R330, R331, R468) -/

/-- ZEROIZE_VOLATILE and every reset: volatile keys, loaded copies and DRBG states go (R314, R330). -/
def State.zeroKeys (s : State) : State :=
  let t := s.zeroVolatile none
  { t with keys := { t.keys with loaded := [], old := [], oldHeld := [] } }
/-- The BBRAM secret goes: persistent records are unrecoverable, the group KEK among what it wraps, and KEYS_LOST reads 1 (R330, R376). -/
def State.loseKeys (s : State) : State :=
  let t := { s with
    keys := { s.keys with
      secret := 0
      hasSecret := false
      recs := s.keys.recs.filter (fun p => decide (p.1 < 65536))
      slots := s.keys.slots.filter (fun p => decide (p.1 < 65536))
      loaded := s.keys.loaded.filter (fun h => keyScope h != 2) }
    grp := { s.grp with kek := none } }
  (t.wr 0x1010 5 1).event 0x2C00 7 8
/-- KEYS_RESET (R331), recorded as a POLICY benchmark. Jobs classified before go on with their records (R11); a KUM whose commit is under way loses its place
with the journal slots, and ends with MEM_FAULT, as where its program fails (R322; log 127). -/
def State.keysReset (s : State) : State :=
  let gone := s.keys.recs.filter (fun p => decide (p.1 < 65536))
  let cut := s.keys.commits.filter (fun c => c.domain != 65)
  let b := (gone.foldl (fun (u : State) p => u.retireKey p.2) s).takeBlock
  let s := b.1
  let t := { s with keys := { s.keys with
    recs := s.keys.recs.filter (fun p => decide (65536 ≤ p.1))
    pGen := freedGens s.keys.pGen (gone.map (fun (p : Nat × KeyRec) => p.2))
    slots := s.keys.slots.filter (fun p => decide (65536 ≤ p.1))
    commits := s.keys.commits.filter (fun c => c.domain == 65)
    loaded := s.keys.loaded.filter (fun h => keyScope h == 2)
    manifest := (List.range 65).foldl (fun m d => Map.put m d (manifestOf [])) s.keys.manifest
    rolled := []
    secret := b.2
    hasSecret := true } }
  cut.foldl (fun u c => u.endJob c.j 0x51 0xFF 0 [] none) ((t.wr 0x1010 5 0).record 5 2 0xFF 2 1 0)

/-- Uncommitted places are discarded and counted (R326 step 1). -/
def State.discardPlaces (s : State) : State :=
  s.keys.slots.foldl (fun u p =>
    if p.2.all (fun q => q.committed) then u
    else { u with keys := { u.keys with slots := Map.put u.keys.slots p.1 (p.2.filter (fun q => q.committed)) } }.event 0x2C00 7 2) s
/-- A committed place one counter ahead is rolled forward; its KUM is then the last one applied in its domain (R322, R326 step 2). -/
def State.rollForward (s : State) : State :=
  s.keys.slots.foldl (fun u (p : Nat × List Place) => p.2.foldl (fun v (q : Place) =>
    let d := handleDomain q.key.handle
    if d < 65 ∧ q.committed ∧ q.counter = Map.getD v.keys.ctr d 0 + 1 then
      { v with keys := { v.keys with
          ctr := Map.put v.keys.ctr d q.counter
          manifest := Map.put v.keys.manifest d q.manifest
          lastKum := Map.put v.keys.lastKum d (q.kumDigest, beBytes 4 q.key.handle ++ beBytes 8 q.counter ++ beBytes 48 q.kumDigest) } }.event 0x2C00 7 1
    else v) u) s
/-- A record at a start: unused indices and uses below what was reserved are lost, and the lost indices are counted (R170, R318). -/
def KeyRec.restarted (k : KeyRec) (reserved : Nat) : KeyRec :=
  if k.total = 0 then { k with uses := if k.useLimit = 0 then k.uses else reserved, usesLimit := reserved }
  else { k with skipped := k.skipped + (reserved - k.next), next := reserved, limit := reserved, uses := k.usesLimit }
/-- The records that the journal holds (R326 step 3). -/
def State.scannedRecords (s : State) : Map KeyRec :=
  (s.keys.slots.filter (fun p => decide (p.1 < 65536))).foldl (fun (m : Map KeyRec) (p : Nat × List Place) => match currentPlace p.2 with
    | some q =>
      if q.tombstone then m
      else
        let last := match Map.find s.keys.recs p.1 with | some k => if k.handle = q.key.handle then k else q.key | none => q.key
        Map.put m p.1 ({ q.key with next := last.next, skipped := last.skipped, uses := last.uses, usesLimit := last.usesLimit }.restarted q.reserved)
    | none => m) (s.keys.recs.filter (fun p => decide (65536 ≤ p.1)))
/-- A domain is rolled back: its manifest differs from BBRAM's, or a place stands above its counter (R326 step 4). -/
def State.isRolled (s : State) (d : Nat) : Bool :=
  manifestOf (s.domainRecords d) != Map.getD s.keys.manifest d (manifestOf []) ||
    s.keys.slots.any (fun p => p.2.any (fun (q : Place) => handleDomain q.key.handle == d && decide (Map.getD s.keys.ctr d 0 < q.counter)))
/-- BBRAM is formatted after a loss: counters from the journal, manifests recomputed (R330, R468). -/
def State.formatKeys (s : State) : State :=
  let top := fun (d : Nat) => (s.keys.slots.map (fun (p : Nat × List Place) => (p.2.map (fun (q : Place) => if handleDomain q.key.handle = d then q.counter else 0)).foldl Nat.max 0)).foldl
    Nat.max 0
  let t := { s with keys := { s.keys with recs := s.scannedRecords } }
  { t with keys := { t.keys with
      ctr := (List.range 65).foldl (fun m d => Map.put m d (top d)) t.keys.ctr
      manifest := (List.range 65).foldl (fun m d => Map.put m d (manifestOf (t.domainRecords d))) t.keys.manifest
      formatted := true } }
/-- The key store at every start (R326, R170, R468). While debug is open the journal is not read (R309), but where BBRAM is formatted (R468; log 116). -/
def State.startKeys (s : State) : State :=
  if s.debug then (if s.keys.formatted then s else if s.lifecycle = 4 then s.formatKeys.loseKeys else s.formatKeys)
  else
    let t := s.discardPlaces
    let t := if t.keys.formatted then t else if s.lifecycle = 4 then t.formatKeys.loseKeys else t.formatKeys
    let t := t.rollForward
    let t := { t with keys := { t.keys with
      recs := Map.mapVals (fun (k : KeyRec) => if keyScope k.handle = 2 then (k.restarted (reservedOf k)).nextRange else k) t.scannedRecords } }
    (List.range 65).foldl (fun u d =>
      if u.isRolled d ∧ !u.keys.rolled.contains d then { u with keys := { u.keys with rolled := u.keys.rolled ++ [d] } }.event 0x2C00 7 4 else u) t

end Machine
end Sys2Proof
end

