-- ==== Sys2Proof/Machine/FlashGate.lean ====
section
/-! DEFINITION. Flash channels, the boot gate, the reset lines, the write filter and update windows (15 R334-R356). -/

namespace Sys2Proof
namespace Machine

/-! ### Channels (R338) -/

/-- Flash channels and lines are served by policy in PERSONALIZED and OWNED; elsewhere, and in EXTEST, channels stay GATED and lines low (R391, R401;
log 50). -/
def State.boardServed (s : State) : Bool := (s.lifecycle == 3 || s.lifecycle == 4) && !s.lc.extest
/-- The ring has no room for a record now (R367). -/
def State.ringBusy (s : State) : Bool := s.trav.pending != [] || s.ringFull 1
/-- MODE of a channel: 0 GATED, 1 OWNED, 2 PASS; channel 0 is always OWNED. -/
def State.chanMode (s : State) (n : Nat) : Nat := if n = 0 then 1 else s.rd (0x3000 + n) 2
/-- An entry of a channel as it stood when the gate began (R338). -/
def State.gateCfg (s : State) (n idx sub : Nat) : Nat := Map.getD (s.chanFlash n).cfg (ekey idx sub) (dflt idx sub)
/-- The channel's configuration, regions and filter policy, as the dictionary lists them now. -/
def State.chanEntries (s : State) (n : Nat) : Map Nat :=
  s.dict.filter (fun p => p.1 / 256 == 0x3000 + n || p.1 / 256 == 0x3100 + n || p.1 / 256 == 0x3200 + n)
/-- The channel mask, ORDER and DELAY of a line (R356). -/
def State.lineMask (s : State) (l : Nat) : Nat := s.rd 0x3300 (1 + l) / 2 ^ 32
def State.lineOrder (s : State) (l : Nat) : Nat := bitsOf (s.rd 0x3300 (1 + l)) 31 24
def State.lineDelay (s : State) (l : Nat) : Nat := s.rd 0x3300 (1 + l) % 2 ^ 24
/-- The channels a line waits for. -/
def State.lineChans (s : State) (l : Nat) : List Nat := (List.range 32).filter (fun n => n != 0 && bitAt (s.lineMask l) n)
/-- A line is released, that is high (entry 0x3300.21). -/
def State.released (s : State) (l : Nat) : Bool := bitAt s.pins.lines l
/-- The channel's bank was in neither voltage range at the last cold start: it stays GATED and its lines are released as for an absent channel (R459). -/
def State.bankOut (s : State) (n : Nat) : Bool := bitAt (s.rd 0x1202 2) (n / 4)
/-- A channel that no gate waits for: disabled or absent (R349), or of a bank out of range (R459). ENABLE 0 counts once the channel is GATED and not held: written
during a gate, it acts from the next one on (R338, R353). -/
def State.chanIdle (s : State) (n : Nat) : Bool :=
  (s.rd (0x3000 + n) 1 == 0 && s.chanMode n == 0 && !(s.chanFlash n).held) || s.rd (0x3000 + n) 0x10 == 0 || s.bankOut n
/-- Condition 1 of R349. -/
def State.chansReady (s : State) (l : Nat) : Bool := (s.lineChans l).all (fun n => s.chanMode n == 2 || s.chanIdle n)
/-- A line whose mask names a held channel is not released at this gate (R349). -/
def State.lineHeld (s : State) (l : Nat) : Bool := (s.lineChans l).any (fun n => (s.chanFlash n).held)
/-- When condition 1 first held, line by line (R349). -/
def State.watchLines (s : State) : State :=
  { s with gate := { s.gate with since := (List.range 32).foldl (fun m l =>
      if s.released l ∨ !s.chansReady l then Map.erase m l else match Map.find m l with
        | some _ => m
        | none => Map.put m l s.clk.fab) s.gate.since } }
/-- When every line has been released or is held, a CHECKPOINT is written, once a gate (R349, R362). -/
def State.endGate (s : State) : State :=
  if !s.gate.reported && (List.range 32).all (fun l => s.released l || s.lineHeld l) then
    { s.checkpoint 1 with gate := { s.gate with reported := true } }
  else s
/-- Lines are asserted: driven low (R335, R350). -/
def State.assertLines (s : State) (p : Nat → Bool) : State :=
  { s with pins := { s.pins with lines := (List.range 32).foldl (fun m l => if p l then setBit m l false else m) s.pins.lines },
           gate := { s.gate with reported := false, since := s.gate.since.filter (fun x => !p x.1), forced := s.gate.forced.filter (fun l => !p l) } }

/-! ### Update windows (R346) -/

/-- Fields of an update window: 0 CHANNEL, 1 START, 2 LENGTH, 3 EXPIRES. -/
def State.window (s : State) (w i : Nat) : Nat := s.rd 0x3200 (0x10 + 4 * w + i)
/-- The window is open. -/
def State.windowOpen (s : State) (w : Nat) : Bool := s.window w 0 != 0xFF
/-- An UPDATE_WINDOW benchmark of a window with these fields: 1 OPENED, 2 EXPIRED, 3 CLOSED by write, 4 CHANNEL_LEFT_PASS (R358). -/
def State.windowRecordOf (s : State) (f : Nat → Nat) (w event : Nat) : State :=
  s.record 0x0B 2 (f 0) w 3 (beNat (beBytes 1 event ++ beBytes 3 0 ++ beBytes 4 (f 1) ++ beBytes 4 (f 2) ++ beBytes 10 (f 3) ++ beBytes 26 0))
/-- A window closes. -/
def State.closeWindow (s : State) (w event : Nat) : State :=
  if s.windowOpen w then (s.windowRecordOf (s.window w) w event).wr 0x3200 (0x10 + 4 * w) 0xFF else s
/-- A channel leaves PASS: its windows close (R346). -/
def State.leavePass (s : State) (n : Nat) : State :=
  (List.range 8).foldl (fun u w => if u.window w 0 = n then u.closeWindow w 4 else u) s

/-- A channel goes to GATED: its gate is abandoned, undecided regions read 0xFF (R338, R352). -/
def State.toGated (s : State) (n : Nat) : State :=
  let t := if s.chanMode n = 2 then s.leavePass n else s
  let t := (t.wr (0x3000 + n) 2 0).wr (0x3000 + n) 0x15 0
  (t.setFlash n { t.chanFlash n with held := false, seen := none, cutting := false }).watchLines
/-- Every channel from 1 to 31 goes to GATED. -/
def State.gateAll (s : State) : State := (List.range 31).foldl (fun u n => u.toGated (n + 1)) s

/-- PRESENCE_CHANGE: the level of PRES_N[n], debounced: high takes the channel to GATED and asserts its lines (R338, R350, R352). -/
def execPresenceChange (n : Nat) (level : Bool) (s : State) : Out :=
  if !s.runs ∨ n = 0 ∨ 31 < n ∨ bitAt s.pins.pres n = level then .next s
  else
    let t := { s with pins := { s.pins with pres := setBit s.pins.pres n level } }
    let t := (t.wr (0x3000 + n) 0x10 (if level then 0 else 1)).event (0x3000 + n) 0x18 (if level then 2 else 1)
    if level then .next ((t.toGated n).assertLines (fun l => (s.lineChans l).contains n)).watchLines
    else .next ((t.setFlash n { t.chanFlash n with held := false, presentAt := s.clk.fab }).watchLines)

/-! ### Gates (R338-R340, R347, R348) -/

/-- The channel's bank is at 3.3 V. -/
def State.bank33 (s : State) (n : Nat) : Bool := bitAt (s.rd 0x1202 1) (n / 4)
/-- The OWNED protocols of a channel, coded as PROTOCOL_MAX: single and quad SDR, 4S-4D-4D unless its bank is at 3.3 V, 8D-8D-8D on channels 1 to 8 (R334). -/
def State.ownedProtocols (s : State) (n : Nat) : List Nat :=
  if s.bank33 n then [1, 2] else if 1 ≤ n ∧ n ≤ 8 then [1, 2, 3, 4] else [1, 2, 3]
/-- The fastest read protocol that the flash, the channel and PROTOCOL_MAX allow (R339). -/
def State.readProtocol (s : State) (n : Nat) (d : Discovery) : Nat :=
  let top := s.rd (0x3000 + n) 3
  (((s.ownedProtocols n).filter (fun p => d.protocols.contains p && (top == 0 || decide (p ≤ top)))).foldl Nat.max 1)
/-- The clock of reads in a protocol, in MHz: the FLS clock divided by 8, 4 or 2, or undivided in 8D-8D-8D, within CLOCK_MAX and, for a bank at 3.3 V, 66 MHz
(R334, R339). -/
def State.readClock (s : State) (n p : Nat) : Nat :=
  let most := Nat.min (s.rd (0x3000 + n) 4) (if s.bank33 n then 66 else 200)
  if p = 4 ∧ 200 ≤ most then 200 else if 100 ≤ most then 100 else if 50 ≤ most then 50 else 25
/-- The PASS protocols of a channel, coded as PASS_PROTOCOL (R334). -/
def State.passProtocols (s : State) (n : Nat) : List Nat :=
  if s.bank33 n then [0, 1] else if n ≤ 8 then [0, 1, 3] else [0, 1, 2]
/-- The protocol that the flash is put into before PASS: PASS_PROTOCOL, where the channel can carry it and SFDP lists the commands, else 1S-1S-1S (R334, R339;
log 117). -/
def State.passProtocol (s : State) (n : Nat) : Nat :=
  let p := s.gateCfg n (0x3000 + n) 7
  if (s.chanFlash n).switches && (s.passProtocols n).contains p then p else 0
/-- The channel goes to PASS, its flash switched to the pass protocol first (R338, R339). -/
def State.toPass (s : State) (n : Nat) : State :=
  (s.setFlash n { s.chanFlash n with held := false, pass := s.passProtocol n, seen := none, cutting := false }).wr (0x3000 + n) 2 2
/-- The pins of a channel (R338, R344): the level of F RST_N; whether the F side is driven; whether F CS_N is held high and the F side idle behind a cut;
and what the FI outputs give: 0 high-impedance with a weak pull-up, 1 the flash's signals, 2 all ones in a read phase. -/
structure ChannelPins where
  rstN : Bool
  driven : Bool
  csHeld : Bool
  fiOut : Nat
  deriving DecidableEq, Repr
/-- What a channel's pins do: at high impedance while REFCLK is lost, the flash in reset while the channel is GATED, and a cut command kept from the flash until
FI CS_N rises (R338, R344, R427). -/
def State.channelPins (s : State) (n : Nat) : ChannelPins :=
  if s.pins.safe then ⟨true, false, false, 0⟩
  else match s.chanMode n with
    | 0 => ⟨false, false, false, 0⟩
    | 1 => ⟨true, true, false, 0⟩
    | _ => ⟨true, true, (s.chanFlash n).cutting, if (s.chanFlash n).cutting then 2 else 1⟩
/-- GATE_START: the channel enters OWNED; reset and discovery of its flash, unless its bank is out of range (R338, R339, R459). Without a valid SFDP it is read
in 1S-1S-1S at 25 MHz with 3-octet addresses. -/
def execGateStart (n : Nat) (d : Discovery) (s : State) : Out :=
  let ok := d.ok && d.sfdp == 1
  let p := if ok then s.readProtocol n d else 1
  let t := s.setFlash n { s.chanFlash n with found := d.ok, page := if d.page = 0 then 256 else d.page, erases := d.erases, addr4 := s.rd (0x3000 + n) 5 == 1 || (s.rd (0x3000 + n) 5 == 2 && d.sfdp == 1 && d.wide),
                                             cfg := s.chanEntries n, clock := if ok then s.readClock n p else 25, switches := ok && d.switches }
  let t := ((t.wr (0x3000 + n) 2 1).wr (0x3000 + n) 0x15 2).wr (0x3000 + n) 0x11 (d.jedec % 2 ^ 24)
  let t := (t.wr (0x3000 + n) 0x12 (if ok then d.density % 2 ^ 32 else 0)).wr (0x3000 + n) 0x13 (if d.ok then d.sfdp % 4 else 0)
  let t := t.wr (0x3000 + n) 0x14 p
  let t := (List.range 8).foldl (fun u r => u.wr (0x3100 + n) (0x30 + r) 0xFF) t
  when (s.phase == .up && !s.clk.gated && s.boardServed && decide (1 ≤ n) && decide (n ≤ 31) && s.chanMode n == 0 && !(s.chanFlash n).held && s.rd (0x3000 + n) 1 == 1 &&
      s.rd (0x3000 + n) 0x10 == 1 && !s.bankOut n) s t

/-- The regions in use at this gate. -/
def State.regionCount (s : State) (n : Nat) : Nat := Nat.min 8 (s.gateCfg n (0x3100 + n) 1)
/-- A SIGNED region: its signature check is reserve work (R130, R347). -/
def State.signedRegion (s : State) (n r : Nat) : Bool := decide (2 ≤ s.gateCfg n (0x3100 + n) (0x13 + 4 * r) % 4)
/-- The octets of a region that its digests cover, read in one pass in ascending address: all of it, or of a SIGNED one those before its trailer (R340, R347; log
117). -/
def State.covered (s : State) (n r : Nat) (m : Measured) : Bytes :=
  if s.signedRegion n r then m.data.take (m.data.length - 7232) else m.data
/-- The SHA-384 of a region, by the channel's measurement digest engine (R273, R340). -/
def State.regionDigest (s : State) (n r : Nat) (m : Measured) : Nat := beNat (prim 48 .sha2_384 [s.covered n r m])
/-- The trailer of a SIGNED region is in order and its signature verifies (R347). -/
def trailerOk (tr : Bytes) (expect sha : Nat) : Bool :=
  tr.length == 7232 && fieldAt tr 0 4 == 0x4E4D4654 && fieldAt tr 4 1 == 1 && zeros (slice tr 5 3) && zeros (slice tr 7227 5) &&
    sha3 (slice tr 8 2592) == expect &&
    Config.check .mlDsaVerify [oct 3, ascii "SHA-384", slice tr 8 2592, ascii "NM72 FLASH REGION", beBytes 48 sha, slice tr 2600 4627]
/-- A region runs past the density, which SFDP gives; without a valid SFDP no density is known (R339, R340; log 117). -/
def State.pastDensity (s : State) (n last : Nat) : Bool := s.rd (0x3000 + n) 0x13 == 1 && decide (s.rd (0x3000 + n) 0x12 < last)
/-- A region's verdict: 0 MATCH, 1 SIGNED_OK, 2 UNKNOWN, 3 MISMATCH (R340, R347). -/
def State.judge (s : State) (n r : Nat) (m : Measured) : Nat :=
  let e := fun sub => s.gateCfg n (0x3100 + n) (sub + 4 * r)
  let sha := s.regionDigest n r m
  if !(s.chanFlash n).found || !m.readOk || m.data.length != e 0x11 || s.pastDensity n (e 0x10 + e 0x11) then 3
  else match e 0x13 % 4 with
    | 0 => 2
    | 1 => if sha = e 0x12 then 0 else 3
    | _ => if 7232 ≤ e 0x11 ∧ trailerOk (m.data.drop (m.data.length - 7232)) (e 0x12) sha then 1 else 3
/-- A region's verdict, its digest, and one FLASH_REGION benchmark or two (R347, R358). -/
def State.regionVerdict (s : State) (n r : Nat) (m : Measured) : State :=
  let v := s.judge n r m
  let x := bitsOf (s.gateCfg n (0x3100 + n) (0x13 + 4 * r)) 3 2
  let sha := s.regionDigest n r m
  let t := (s.wr (0x3100 + n) (0x30 + r) v).wr (0x3100 + n) (0x38 + r) sha
  let t := t.record 0x01 v n r 0 sha
  if x = 1 then t.record 0x01 v n r 1 (sha3 (s.covered n r m))
  else if x = 2 then t.record 0x01 v n r 2 (beNat (prim 32 .sha2_256 [s.covered n r m]) * 2 ^ 128) else t
/-- Regions are read in ascending address: every region of the gate that begins lower has its verdict (R340). -/
def State.regionTurn (s : State) (n r : Nat) : Bool :=
  (List.range (s.regionCount n)).all (fun i =>
    !decide (s.gateCfg n (0x3100 + n) (0x10 + 4 * i) < s.gateCfg n (0x3100 + n) (0x10 + 4 * r)) || s.rd (0x3100 + n) (0x30 + i) != 0xFF)
/-- REGION_MEASURED: the verdict and its record; the signature check of a SIGNED region waits for reserve units that earlier reserve work holds (R130, R347,
R358). -/
def execRegionMeasured (n r : Nat) (m : Measured) (s : State) : Out :=
  let u := s.enqueueReserve (.gate n)
  let t := if !s.signedRegion n r then s.regionVerdict n r m else if u.reserveRuns (.gate n) then (u.dropReserve (.gate n)).regionVerdict n r m else u
  when (s.phase == .up && !s.clk.gated && decide (1 ≤ n) && decide (n ≤ 31) && s.chanMode n == 1 && decide (r < s.regionCount n) && s.regionTurn n r &&
      s.rd (0x3100 + n) (0x30 + r) == 0xFF) s t

/-- The policy of a channel is satisfied (R348). -/
def State.satisfied (s : State) (n : Nat) : Bool :=
  (List.range (s.regionCount n)).all (fun r => !bitAt (s.gateCfg n (0x3100 + n) (0x13 + 4 * r)) 4 || decide (s.rd (0x3100 + n) (0x30 + r) ≤ 1))

/-! ### Releasing lines (R349-R351) -/

/-- Channels of a line whose policy is not satisfied (R358). -/
def State.unsatisfied (s : State) (l : Nat) : Nat :=
  ((s.lineChans l).filter (fun n => s.rd (0x3000 + n) 0x15 == 4 || s.rd (0x3000 + n) 0x15 == 5)).foldl (fun m n => m + 2 ^ n) 0
/-- A line is driven high, with a RESET_RELEASE benchmark (R349, R351, R358). -/
def State.releaseLine (s : State) (l : Nat) (forced : Bool) : State :=
  let u := s.unsatisfied l
  let detail := beNat (beBytes 4 (s.lineMask l) ++ beBytes 4 u ++ beBytes 1 (s.lineOrder l) ++ beBytes 39 0)
  let t := { s with pins := { s.pins with lines := setBit s.pins.lines l true },
                    gate := { s.gate with since := Map.erase s.gate.since l, lastRelease := Map.put s.gate.lastRelease (s.lineOrder l) s.clk.fab,
                                          forced := s.gate.forced.filter (fun x => x != l) } }
  ((t.event 0x3300 0x25 (if forced then 3 else 1)).record 0x09 (if u = 0 ∧ !forced then 0 else 3) l 0xFF (if forced then 7 else 3) detail).endGate
/-- Every channel of a line has been decided, or waits for no gate (R351). -/
def State.lineDecided (s : State) (l : Nat) : Bool := (s.lineChans l).all (fun n => s.chanMode n == 2 || (s.chanFlash n).held || s.chanIdle n)
/-- A held channel goes to PASS by force (R351). -/
def State.forcePass (s : State) (n : Nat) : State :=
  if (s.chanFlash n).held then (s.toPass n).wr (0x3000 + n) 0x15 5 else s
/-- Lines may be released: in PERSONALIZED and OWNED (R391), not in QUIESCED (R412), and while the ring has room for the benchmark (R367). -/
def State.mayRelease (s : State) : Bool := s.boardServed && !s.tamp.quiesce && !s.ringBusy
/-- Release the lines that FORCE_RELEASE has named and whose channels are decided, PWRGD_IN being high (R349, R351). -/
def State.forceLines (s : State) : State :=
  (s.gate.forced.filter (fun l => s.lineDecided l)).foldl (fun u l =>
    if u.released l ∨ !u.mayRelease ∨ !u.pins.pwrgd then u else ((((u.lineChans l).foldl (fun v n => v.forcePass n) u).watchLines).releaseLine l true)) s
/-- FORCE_RELEASE of some lines (R351). -/
def State.forceRelease (s : State) (lines : Nat) : State :=
  { s with gate := { s.gate with forced := s.gate.forced ++ (List.range 32).filter (fun l => bitAt lines l && !s.released l && !s.gate.forced.contains l) } }.forceLines

/-- GATE_DECIDED: every region has a verdict, so the channel goes to PASS or is held (R338, R348). -/
def execGateDecided (n : Nat) (s : State) : Out :=
  let ok := s.satisfied n
  let pass := ok || s.gateCfg n (0x3000 + n) 6 == 1
  let t := if pass then (s.toPass n).wr (0x3000 + n) 0x15 (if ok then 3 else 5)
    else (((s.wr (0x3000 + n) 2 0).wr (0x3000 + n) 0x15 4).setFlash n { s.chanFlash n with held := true }).event 0x3300 0x25 4
  when (s.phase == .up && !s.clk.gated && decide (1 ≤ n) && decide (n ≤ 31) && s.chanMode n == 1 &&
      (List.range (s.regionCount n)).all (fun r => s.rd (0x3100 + n) (0x30 + r) != 0xFF)) s
    ((t.watchLines).forceLines).endGate

/-- DELAY has passed since condition 1 first held and since the last release of a lower order (R349). -/
def State.delayOver (s : State) (l : Nat) : Bool :=
  let lower := (s.gate.lastRelease.filter (fun p => decide (p.1 < s.lineOrder l))).foldl (fun m p => Nat.max m p.2) 0
  match Map.find s.gate.since l with
  | some t => decide (Nat.max t lower + s.lineDelay l * 1250 ≤ s.clk.fab)
  | none => false
/-- Every line of lower order that this gate will release has been released (R349). -/
def State.lowerDone (s : State) (l : Nat) : Bool :=
  (List.range 32).all (fun k => !decide (s.lineOrder k < s.lineOrder l) || s.released k || s.lineHeld k)
/-- LINE_RELEASE: the line's conditions hold, PWRGD_IN being high (R349); a line that FORCE_RELEASE named and that could not be released before is
released by force (R351). -/
def execLineRelease (line : Nat) (s : State) : Out :=
  if s.phase ≠ .up ∨ s.clk.gated ∨ 32 ≤ line ∨ s.released line ∨ !s.mayRelease ∨ !s.pins.pwrgd then .next s
  else if s.gate.forced.contains line ∧ s.lineDecided line then .next s.forceLines
  else when (s.chansReady line && s.lowerDone line && s.delayOver line && !s.lineHeld line) s (s.releaseLine line false)

/-- PWRGD_IN_FALL: with PWRGD_REGATE, every line and every channel begins again (R338, R350). -/
def execPwrgdInFall (s : State) : Out :=
  let t := { s with pins := { s.pins with pwrgd := false } }
  when (s.runs && s.pins.pwrgd) s (if s.rd 0x3300 0x24 = 1 then ((t.assertLines (fun _ => true)).gateAll).watchLines else t)

/-- A line is being gated: it is asserted, and a channel of its mask is at its gate or waits for one (R350). -/
def State.lineGating (s : State) (l : Nat) : Bool :=
  !s.released l && (s.lineChans l).any (fun n => !s.chanIdle n && (s.chanMode n == 1 || (s.chanMode n == 0 && !(s.chanFlash n).held)))
/-- REMEASURE of some lines: they and every line that shares a channel are asserted, and the channels are gated again; a line already being gated joins
that gate (R338, R350). -/
def State.remeasure (s : State) (lines : Nat) : State :=
  let named := (List.range 32).filter (fun l => bitAt lines l && !s.lineGating l)
  let shares := fun l => named.contains l || named.any (fun k => (s.lineChans k).any (fun n => (s.lineChans l).contains n))
  let hit := (List.range 32).filter shares
  let chans := (List.range 32).filter (fun n => hit.any (fun l => (s.lineChans l).contains n))
  (chans.foldl (fun u n => u.toGated n) (s.assertLines shares)).watchLines

/-! ### The write filter (R343-R345) -/

/-- The class of a command code: 0 CUT, 1 PASS, 2 ADDRESSED, 3 WINDOWED (R343, R355). -/
def State.cmdClass (s : State) (n code : Nat) : Nat := s.gateCfg n (0x3200 + n) 1 / 256 ^ (63 - code / 4) % 256 / 2 ^ (2 * (code % 4)) % 4
/-- The range that an ADDRESSED command affects: its erase block, or the page (R343). -/
def State.affected (s : State) (n code addr : Nat) : Nat × Nat :=
  let size := match (s.chanFlash n).erases.find? (fun e => e.1 == code) with
    | some e => Nat.max 1 e.2
    | none => (s.chanFlash n).page
  (addr / size * size, size)
/-- The range lies wholly outside every protected window. -/
def State.outsideProtected (s : State) (n : Nat) (r : Nat × Nat) : Bool :=
  (List.range (Nat.min 8 (s.gateCfg n (0x3200 + n) 2))).all (fun p =>
    let b := s.gateCfg n (0x3200 + n) (0x10 + 2 * p)
    decide (r.1 + r.2 ≤ b) || decide (b + s.gateCfg n (0x3200 + n) (0x11 + 2 * p) ≤ r.1))
/-- The range lies wholly inside one open update window of the channel. -/
def State.insideWindow (s : State) (n : Nat) (r : Nat × Nat) : Bool :=
  (List.range 8).any (fun w => s.window w 0 == n && decide (s.window w 1 ≤ r.1) && decide (r.1 + r.2 ≤ s.window w 1 + s.window w 2))
/-- The filter cuts the command (R343). -/
def State.cuts (s : State) (n code : Nat) (addr : Option Nat) : Bool :=
  match s.cmdClass n code with
  | 0 => true
  | 1 => false
  | 2 => match addr with
    | some a => !(s.outsideProtected n (s.affected n code a) || s.insideWindow n (s.affected n code a))
    | none => true
  | _ => !(List.range 8).any (fun w => s.window w 0 == n)
/-- A cut: kept from the flash until FI CS_N rises, counted, LAST_CUT written, and the first in each datum second recorded (R344, R345). -/
def State.cut (s : State) (n code : Nat) (addr : Option Nat) : State :=
  let cls := s.cmdClass n code
  let valid := if cls = 2 ∧ addr.isSome then 1 else 0
  let a := if valid = 1 then addr.getD 0 % 2 ^ 32 else 0
  let sec := s.clk.datum / 1000000000
  let f := s.chanFlash n
  let t := (s.event (0x3000 + n) 0x16 (if cls = 0 then 1 else if cls = 2 then 2 else 4)).wr (0x3000 + n) 0x17 (code % 256 * 2 ^ 56 + valid * 2 ^ 32 + a)
  let f := { f with seen := none, cutting := true }
  if f.lastCutSec = some sec ∨ s.ringBusy then t.setFlash n { f with cuts := f.cuts + 1 }
  else (t.setFlash n { f with cuts := 0, lastCutSec := some sec }).record 0x0A 2 n 0xFF 3
    (beNat (beBytes 1 code ++ beBytes 1 valid ++ beBytes 4 a ++ beBytes 4 ((f.cuts + 1) % 2 ^ 32) ++ beBytes 38 0))
/-- A command that passes has reached the F side; 0xB7 and 0xE9 change the address width under TRACKED (R343). -/
def State.passed (s : State) (n code : Nat) (addr : Option Nat) : State :=
  let f := s.chanFlash n
  s.setFlash n { f with seen := some (code, addr), cutting := false,
                        addr4 := if s.gateCfg n (0x3000 + n) 5 = 2 ∧ (code = 0xB7 ∨ code = 0xE9) then code == 0xB7 else f.addr4 }
/-- FLASH_COMMAND: FI CS_N has been high since the last command; the filter cuts this one or passes it (R343, R344). -/
def execFlashCommand (n code : Nat) (addr : Option Nat) (s : State) : Out :=
  let a := addr.map (fun x => if (s.chanFlash n).addr4 then x % 2 ^ 32 else x % 2 ^ 24)
  if s.phase ≠ .up ∨ s.clk.gated ∨ n = 0 ∨ 31 < n ∨ 255 < code ∨ s.chanMode n ≠ 2 then .next s
  else if s.cuts n code a then .next (s.cut n code a)
  else .next (s.passed n code a)

/-- UPDATE_WINDOW_EXPIRY: the datum has passed EXPIRES (R346). -/
def execUpdateWindowExpiry (w : Nat) (s : State) : Out :=
  when (s.runs && decide (w < 8) && s.windowOpen w && decide (ofTime80 (s.window w 3) < s.clk.datum)) s (s.closeWindow w 2)

end Machine
end Sys2Proof
end

