-- ==== Sys2Proof/Machine/LaneOps.lean ====
section
/-! DEFINITION. Lane arithmetic (11 R251, R252) and NOP (11 R268). -/

namespace Sys2Proof
namespace Machine

/-- A lane operation on two groups of span n and grain g that gives a group of the same shape. -/
def lane2 (s : State) (w : Mw) (defined modular : Bool) (f : Nat → Descriptor → Nat → Nat → Nat) : Out :=
  vpass s w defined modular (spanOf w.sp) (spanOf w.sp) 0 (spanOf w.sp)
    (fun d a b _ => map2 (grainOf w.g) (laneCount (grainOf w.g) (spanOf w.sp)) (f (grainOf w.g) d) a b)

/-- The lanes of a narrow group of the microword's shape. -/
def narrowLanes (w : Mw) : Nat := laneCount (grainOf w.g) (spanOf w.sp)

/-- NOP: no effect (R268). -/
def execNop (w : Mw) (s : State) : Out := issue s w true false none true (fun t _ => .go t)

/-- ADD: (a + b) mod 2^g (R251). -/
def execAdd (w : Mw) (s : State) : Out := lane2 s w (nine w) false (fun _ _ a b => a + b)

/-- SUB: (a − b) mod 2^g (R251). -/
def execSub (w : Mw) (s : State) : Out := lane2 s w (nine w) false (fun g _ a b => a + 2 ^ g - b)

/-- ADDM (R251). -/
def execAddm (w : Mw) (s : State) : Out := lane2 s w (narrow w && namesQ w true) true Machine.addm

/-- SUBM (R251). -/
def execSubm (w : Mw) (s : State) : Out := lane2 s w (narrow w && namesQ w true) true Machine.subm

/-- REDB: Barrett reduction (R203, R251). -/
def execRedb (w : Mw) (s : State) : Out :=
  vpass s w (narrow w && namesQ w true) true (spanOf w.sp) 0 0 (spanOf w.sp)
    (fun d a _ _ => map1 (grainOf w.g) (narrowLanes w) (Machine.redb (grainOf w.g) d) a)

/-- MULM: Montgomery product (R203, R251). -/
def execMulm (w : Mw) (s : State) : Out := lane2 s w (narrow w && namesQ w true) true Machine.mulm

/-- MULW: the exact product in a wide lane (R251). -/
def execMulw (w : Mw) (s : State) : Out :=
  vpass s w (narrow w) false (spanOf w.sp) (spanOf w.sp) 0 (2 * spanOf w.sp)
    (fun _ a b _ => ofLanes (2 * grainOf w.g) ((List.range (narrowLanes w)).map
      (fun i => laneAt (grainOf w.g) a i * laneAt (grainOf w.g) b i)))

/-- DOT: the product accumulated into the wide lane (R251). -/
def execDot (w : Mw) (s : State) : Out :=
  vpass s w (narrow w) false (spanOf w.sp) (spanOf w.sp) (2 * spanOf w.sp) (2 * spanOf w.sp)
    (fun _ a b c => ofLanes (2 * grainOf w.g) ((List.range (narrowLanes w)).map
      (fun i => laneAt (2 * grainOf w.g) c i + laneAt (grainOf w.g) a i * laneAt (grainOf w.g) b i)))

/-- REDW: Montgomery reduction of wide lanes (R251). -/
def execRedw (w : Mw) (s : State) : Out :=
  vpass s w (narrow w && namesQ w true) true (2 * spanOf w.sp) 0 0 (spanOf w.sp)
    (fun d a _ _ => ofLanes (grainOf w.g) ((lanesOf (2 * grainOf w.g) (narrowLanes w) a).map (Machine.redw (grainOf w.g) d)))

/-- CLMUL: the carry-less product, 71 bits in a 72-bit lane (R251). -/
def execClmul (w : Mw) (s : State) : Out :=
  vpass s w (oneGrain w 1) false (spanOf w.sp) (spanOf w.sp) 0 (2 * spanOf w.sp)
    (fun _ a b _ => ofLanes 72 ((List.range (narrowLanes w)).map (fun i => Machine.clmul 36 (laneAt 36 a i) (laneAt 36 b i))))

/-- BASEMUL (R251). -/
def execBasemul (w : Mw) (s : State) : Out :=
  vpass s w (whole w 0 && w.q == 0) true 4 4 0 4
    (fun d a b _ => ofLanes 18 (Machine.basemul d (lanesOf 18 256 a) (lanesOf 18 256 b)))

end Machine
end Sys2Proof
end

