-- ==== Sys2Proof/Machine/Logic.lean ====
section
/-! DEFINITION. Logic, comparison, selection and reduction over words (11 R255). -/

namespace Sys2Proof
namespace Machine

/-- Bitwise logic on the words of two groups of a span (R255). -/
def bitwise (s : State) (w : Mw) (f : Nat → Nat → Nat) : Out :=
  vpass s w (decide (w.sp < 3)) false (spanOf w.sp) (spanOf w.sp) 0 (spanOf w.sp)
    (fun _ a b _ => map2 72 (16 * spanOf w.sp) f a b)

/-- AND (R255). -/
def execAnd (w : Mw) (s : State) : Out := bitwise s w Nat.land
/-- OR (R255). -/
def execOr (w : Mw) (s : State) : Out := bitwise s w Nat.lor
/-- XOR (R255). -/
def execXor (w : Mw) (s : State) : Out := bitwise s w Nat.xor
/-- ANDN: a AND NOT b (R255). -/
def execAndn (w : Mw) (s : State) : Out := bitwise s w (fun a b => Nat.land a (2 ^ 72 - 1 - b))

/-- A shift by bits [6:0] of A[src2] (R255). -/
def shift (s : State) (w : Mw) (defined : Bool) (f : Nat → Nat → Nat) : Out :=
  apass s w defined false (spanOf w.sp) 0 (spanOf w.sp) (fun _ => true)
    (fun n a _ => map1 (grainOf w.g) (laneCount (grainOf w.g) (spanOf w.sp)) (f (n % 128)) a)

/-- SHL (R255). -/
def execShl (w : Mw) (s : State) : Out := shift s w (nine w) (fun n a => if grainOf w.g ≤ n then 0 else a * 2 ^ n)
/-- SHR, logical (R255). -/
def execShr (w : Mw) (s : State) : Out := shift s w (nine w) (fun n a => a / 2 ^ n)
/-- ROL64: bits [63:0] rotated left by n mod 64, bits [71:64] zero (R255). -/
def execRol64 (w : Mw) (s : State) : Out :=
  shift s w (oneGrain w 2) (fun n a => a % 2 ^ 64 * 2 ^ (n % 64) % 2 ^ 64 + a % 2 ^ 64 / 2 ^ (64 - n % 64))

/-- A lane comparison: all ones or zero (R255). -/
def compareLanes (s : State) (w : Mw) (p : Nat → Nat → Bool) : Out :=
  vpass s w (nine w) false (spanOf w.sp) (spanOf w.sp) 0 (spanOf w.sp)
    (fun _ a b _ => map2 (grainOf w.g) (laneCount (grainOf w.g) (spanOf w.sp))
      (fun x y => if p x y then 2 ^ grainOf w.g - 1 else 0) a b)

/-- CMPLT, unsigned (R255). -/
def execCmplt (w : Mw) (s : State) : Out := compareLanes s w (fun a b => decide (a < b))
/-- CMPEQ (R255). -/
def execCmpeq (w : Mw) (s : State) : Out := compareLanes s w (fun a b => a == b)

/-- MOVM: the lanes that M[mask_reg] enables take src1's, others stay; a secret M makes the whole result secret (R204, R255). -/
def execMovm (w : Mw) (s : State) : Out :=
  issue s w (nine w) false none true (fun t l =>
    let n := spanOf w.sp
    let g := grainOf w.g
    let a := l.groupVal (groupBase w.src1 n) n
    let d := l.groupVal (groupBase w.dest n) n
    let m := l.mreg w.mask
    .go (t.writeGroup w l n
      (ofLanes g ((List.range (laneCount g n)).map (fun i => if enabled w.g m.val i then laneAt g a i else laneAt g d i)))
      (l.groupSec (groupBase w.src1 n) n || l.groupSec (groupBase w.dest n) n || m.sec)))

/-- POPC: the number of set bits of each lane (R255). -/
def execPopc (w : Mw) (s : State) : Out :=
  vpass s w (nine w) false (spanOf w.sp) 0 0 (spanOf w.sp)
    (fun _ a _ _ => map1 (grainOf w.g) (laneCount (grainOf w.g) (spanOf w.sp)) (popCount (grainOf w.g)) a)

/-- MFROMV: M[mask_reg] takes the top bit of each lane, and src1's tag (R255). -/
def execMfromv (w : Mw) (s : State) : Out :=
  issue s w (nine w) false none true (fun t l =>
    let n := spanOf w.sp
    let b := groupBase w.src1 n
    .go (t.setLe w.le (l.setM w.mask
      (maskFrom w.g (lanesOf (grainOf w.g) (laneCount (grainOf w.g) n) (l.groupVal b n))) (l.groupSec b n))))

/-- A reduction of every word of a group into word 0 of one register, words 1 to 15 zero (R255). -/
def reduceWords (s : State) (w : Mw) (f : Nat → Nat → Nat) (z : Nat) : Out :=
  vpass s w (decide (w.sp < 3)) false (spanOf w.sp) 0 0 1
    (fun _ a _ _ => (lanesOf 72 (16 * spanOf w.sp) a).foldl f z)

/-- ANDR (R255). -/
def execAndr (w : Mw) (s : State) : Out := reduceWords s w Nat.land (2 ^ 72 - 1)
/-- ORR (R255). -/
def execOrr (w : Mw) (s : State) : Out := reduceWords s w Nat.lor 0

end Machine
end Sys2Proof
end

