-- ==== Sys2Proof/Machine/Masked.lean ====
section
/-! DEFINITION. Masked operations and declassification (11 R261, R262). -/

namespace Sys2Proof
namespace Machine

/-- The `k` mask registers that a pass draws from the mask generator: free values (R209; log 6). -/
def State.masks (s : State) (k : Nat) : List Nat := (List.range k).map (fun i => Config.free (s.free + i) % 2 ^ 1152)
/-- The state after `k` mask registers have been drawn. -/
def State.masksDrawn (s : State) (k : Nat) : State := { s with free := s.free + k }
/-- The LE after `k` registers have left its mask buffer. -/
def Le.takeMasks (l : Le) (k : Nat) : Le := { l with maskBuf := l.maskBuf - k }
/-- The registers of a group. -/
def Le.regsOf (l : Le) (b n : Nat) : List Nat := (List.range n).map (fun i => (l.vreg (b + i)).val)
/-- Registers put together as a group value. -/
def ofRegs (rs : List Nat) : Nat := ofLanes 1152 rs

/-- A masked operation: order 1 on a span-2 group or order 2 on a span-4 group, drawing 1 or 3 mask registers under MASK_READY and held at
issue while the buffer has fewer (R261). The fourth register of an order-2 group is ignored, its tag too, and written as zero. -/
def masked (s : State) (w : Mw) (defined modular two : Bool)
    (f : Nat → Descriptor → List Nat → List Nat → List Nat → List Nat) : Out :=
  issue s w (defined && (w.sp == 1 || w.sp == 2)) false (some 3) true (fun t l =>
    let n := spanOf w.sp
    let k := 2 * w.sp - 1
    let a := groupBase w.src1 n
    let b := groupBase w.src2 n
    let d := l.desc w.q
    if modular && !descOk d w.g then .engine
    else if l.maskBuf < k then .hold t 3
    else .go ((t.masksDrawn k).writeGroup w (l.takeMasks k) n
      (ofRegs (f (w.sp + 1) d (t.masks k) (l.regsOf a (w.sp + 1)) (l.regsOf b (w.sp + 1))))
      (l.groupSec a (w.sp + 1) || (two && l.groupSec b (w.sp + 1)))))

/-- The ISW shares of x AND y: `r` holds r01, then r02 and r12 (R261). -/
def isw (m : Nat) (r x y : List Nat) : List Nat :=
  let p := fun i j => Nat.land (x.getD i 0) (y.getD j 0)
  let c := fun k i j => Nat.xor (Nat.xor (r.getD k 0) (p i j)) (p j i)
  if m = 2 then [Nat.xor (p 0 0) (r.getD 0 0), Nat.xor (p 1 1) (c 0 0 1)]
  else [Nat.xor (Nat.xor (p 0 0) (r.getD 0 0)) (r.getD 1 0), Nat.xor (Nat.xor (p 1 1) (c 0 0 1)) (r.getD 2 0),
        Nat.xor (Nat.xor (p 2 2) (c 1 0 2)) (c 2 1 2)]

/-- Lane `i` of each of some registers. -/
def lanesAt (g i : Nat) (rs : List Nat) : List Nat := rs.map (fun r => laneAt g r i)
/-- The arithmetic value that shares add up to. -/
def addShares (q : Nat) (xs : List Nat) : Nat := xs.sum % q
/-- The Boolean value that shares combine to. -/
def xorShares (xs : List Nat) : Nat := xs.foldl Nat.xor 0
/-- `m` arithmetic shares of `v` modulo q, all but the last drawn from masks. -/
def arithShares (q m v : Nat) (r : List Nat) : List Nat :=
  (r.take (m - 1)).map (fun x => x % q) ++ [(v + (m - 1) * q - ((r.take (m - 1)).map (fun x => x % q)).sum) % q]
/-- `m` Boolean shares of `v`, all but the last drawn from masks. -/
def boolShares (m v : Nat) (r : List Nat) : List Nat := r.take (m - 1) ++ [xorShares (v :: r.take (m - 1))]

/-- Registers of shares from a lane operation: `f` gives the `m` shares of each lane. -/
def shareLanes (g m : Nat) (f : Nat → List Nat) : List Nat :=
  (List.range m).map (fun k => ofLanes g ((List.range (1152 / g)).map (fun i => (f i).getD k 0)))

/-- SECAND: ISW shares of x AND y at grain 72 (R261). -/
def execSecand (w : Mw) (s : State) : Out := masked s w (w.g == 2) false true (fun m _ r x y => isw m r x y)

/-- SECMULM: arithmetic shares of x·y·2^−g mod q, each in [0, q) (R261). -/
def execSecmulm (w : Mw) (s : State) : Out :=
  masked s w (decide (w.g < 2) && w.q == w.g) true true (fun m d r x y =>
    shareLanes (grainOf w.g) m (fun i =>
      arithShares d.q m (condSub d.q (mont (grainOf w.g) d (addShares d.q (lanesAt (grainOf w.g) i x) * addShares d.q (lanesAt (grainOf w.g) i y))))
        (lanesAt (grainOf w.g) i r)))

/-- A2B: Boolean shares, g bits, of the value of arithmetic shares mod q (R261). -/
def execA2b (w : Mw) (s : State) : Out :=
  masked s w (decide (w.g < 2) && w.q == w.g) true false (fun m d r x _ =>
    shareLanes (grainOf w.g) m (fun i => boolShares m (addShares d.q (lanesAt (grainOf w.g) i x)) (lanesAt (grainOf w.g) i r)))

/-- B2A: arithmetic shares of the value of Boolean shares, for x < q; for another x the result is not stated (R261; log 9). -/
def execB2a (w : Mw) (s : State) : Out :=
  masked s w (decide (w.g < 2) && w.q == w.g) true false (fun m d r x _ =>
    shareLanes (grainOf w.g) m (fun i =>
      let v := xorShares (lanesAt (grainOf w.g) i x)
      if v < d.q then arithShares d.q m v (lanesAt (grainOf w.g) i r)
      else (List.range m).map (fun k => wrong 28 (grainOf w.g) [d.q, v, k])))

/-- A declassification of bit A[src2][10:0] of `m` shares in a group of `n` registers, drawing `k` mask registers (R262). -/
def declassify (s : State) (w : Mw) (n m k : Nat) : Out :=
  issue s w true true (if k = 0 then none else some 3) true (fun t l =>
    let b := groupBase w.src1 n
    let p := (l.areg (aIdx w.src2)).val % 2 ^ 11
    if 1152 ≤ p then .engine
    else if l.maskBuf < k then .hold t 3
    else .go ((t.masksDrawn k).setLe w.le ((l.takeMasks k).setA (aIdx w.dest)
      (xorShares ((l.regsOf b m).map (fun v => v / 2 ^ p % 2))) false)))

/-- DECL_BIT (R262). -/
def execDeclBit (w : Mw) (s : State) : Out := declassify s w 1 1 0
/-- DECL_BIT2 (R262). -/
def execDeclBit2 (w : Mw) (s : State) : Out := declassify s w 2 2 1
/-- DECL_BIT3 (R262). -/
def execDeclBit3 (w : Mw) (s : State) : Out := declassify s w 4 3 2

end Machine
end Sys2Proof
end

