-- ==== Sys2Proof/Machine/MemoryOps.lean ====
section
/-! DEFINITION. Loads, stores, descriptor loads, gathers and scatters of a lattice engine (11 R264-R266, 09 R202, R212). -/

namespace Sys2Proof
namespace Machine

/-- The `n` words from a window address (R212). -/
def State.readWords (s : State) (e addr n : Nat) : List Tagged := (List.range n).map (fun i => s.readWindow e (addr + i))

/-- A group loaded from words, each with its own tag (R204). -/
def Le.loadGroup (l : Le) (b n : Nat) (ws : List Tagged) : Le :=
  (List.range n).foldl (fun l i => l.setV (b + i) (regOfWords ((ws.drop (16 * i)).take 16))) l

/-- The words of a group, register by register. -/
def Le.groupWords (l : Le) (b n : Nat) : List Tagged :=
  (List.range (16 * n)).map (fun k => (l.vreg (b + k / 16)).word (k % 16))

/-- Write words at a window address onwards (R212). -/
def State.writeWords (s : State) (e addr : Nat) (ws : List Tagged) : State :=
  ws.zipIdx.foldl (fun u p => u.writeWindow e (addr + p.2) p.1) s

/-- The windows that the matrix entry may be written through: W4 while the job expands the entry (R218). -/
def Le.matrixWritable (l : Le) : List Nat :=
  match l.w4 with
  | some m => if m.writing then [4] else []
  | none => []

/-- A load of a group from A[src2] (R264): a secret address taints (R206), a refused access is a window fault (R212, R266). -/
def loadOp (s : State) (w : Mw) (allowed : List Nat) : Out :=
  issue s w (decide (w.sp < 3)) false none true (fun t l =>
    let a := l.areg (aIdx w.src2)
    let n := spanOf w.sp
    let c := l.windowCause allowed a.val (16 * n)
    if a.sec then .taint
    else if c ≠ 0 then .window t 0xFF (faultRecord c false 0 w.le a.val)
    else .go (t.setLe w.le (l.loadGroup (groupBase w.dest n) n (t.readWords w.le a.val (16 * n)))))

/-- LDC: W1, W2 or W5 (R264). -/
def execLdc (w : Mw) (s : State) : Out := loadOp s w [1, 2, 5]
/-- LDS: W0 or W4 (R264). -/
def execLds (w : Mw) (s : State) : Out := loadOp s w [0, 4]

/-- A window address lies in the output window W3, where a secret word goes only by a release store (R206, R212). -/
def inOutput (v : Nat) : Bool := bitsOf v 35 33 == 3

/-- A store of the group src1 at A[src2] (R264): `taints` says that a secret word taints; a release writes public words (R205). -/
def storeOp (s : State) (w : Mw) (secretOnly taints release : Bool) (allowed : Le → List Nat) : Out :=
  issue s w (decide (w.sp < 3)) secretOnly none true (fun t l =>
    let a := l.areg (aIdx w.src2)
    let n := spanOf w.sp
    let b := groupBase w.src1 n
    let c := l.windowCause (allowed l) a.val (16 * n)
    if a.sec || ((taints || (!release && inOutput a.val)) && l.groupSec b n) then .taint
    else if c ≠ 0 then .window t 0xFF (faultRecord c false 0 w.le a.val)
    else .go (t.writeWords w.le a.val ((l.groupWords b n).map (fun x => if release then { x with sec := false } else x))))

/-- STC: W1 (R264). -/
def execStc (w : Mw) (s : State) : Out := storeOp s w false false false (fun _ => [1])
/-- STS: W4 while expanding; a secret word taints (R264). -/
def execSts (w : Mw) (s : State) : Out := storeOp s w false true false Le.matrixWritable
/-- RELEASE: W3, secret class only; the words become public (R205, R264). -/
def execRelease (w : Mw) (s : State) : Out := storeOp s w true false true (fun _ => [3])

/-- The fields keep the limits of their table, the spare bits are zero, and rom_twiddle names a modulus and grain the ROM holds (R202). -/
def descValid (v : Nat) : Bool :=
  let d := descOfBits v
  let g := if d.grain = 0 then 18 else 36
  d.q % 2 == 1 && decide (3 ≤ d.q) && decide (d.q < 2 ^ (g - 1)) && decide (d.qnegInv < 2 ^ g) && (d.q * d.qnegInv + 1) % 2 ^ g == 0 &&
    decide (g + 1 ≤ d.barrettS) && decide (d.barrettS ≤ 2 * g) && d.barrettM == 2 ^ d.barrettS / d.q && bitsOf v 27 0 == 0 &&
    (!d.rom || (d.q == 3329 && d.grain == 0) || (d.q == 8380417 && d.grain == 1))

/-- LDQ: two public words from W1 or W2 become the descriptor named in dest (R202, R264). -/
def execLdq (w : Mw) (s : State) : Out :=
  issue s w true false none true (fun t l =>
    let a := l.areg (aIdx w.src2)
    let c := l.windowCause [1, 2] a.val 2
    if a.sec then .taint
    else if c ≠ 0 then .window t 0xFF (faultRecord c false 0 w.le a.val)
    else
      let x := t.readWindow w.le a.val
      let y := t.readWindow w.le (a.val + 1)
      if x.sec || y.sec then .taint
      else if !descValid (x.val + 2 ^ 72 * y.val) then .engine
      else .go (t.setLe w.le (l.setQ (w.dest.toNat % 4) (descOfBits (x.val + 2 ^ 72 * y.val)))))

/-- The cause of refusing one element, whose address word has 72 bits: 1 window, 2 spare, 3 limit, 0 none (R265, R266). -/
def Le.elementCause (l : Le) (allowed : List Nat) (v : Nat) : Nat :=
  let c := l.windowCause allowed (v % 2 ^ 36) 1
  if c = 1 then 1 else if v / 2 ^ 36 ≠ 0 then 2 else c

/-- Gather elements in index order up to the first that faults (R265, R266): the destination, and the faulting element with its cause. -/
def gatherFrom (s : State) (e : Nat) (allowed : List Nat) : List (Tagged × Nat) → VReg → VReg × Option (Nat × Nat)
  | [], d => (d, none)
  | (x, k) :: rest, d =>
    let c := (s.le e).elementCause allowed x.val
    if c = 0 then gatherFrom s e allowed rest (d.setWord k (s.readWindow e (x.val % 2 ^ 36))) else (d, some (k, c))

/-- A gather (R265). -/
def gatherOp (s : State) (w : Mw) (allowed : List Nat) : Out :=
  issue s w true false none true (fun t l =>
    let addrs := l.groupWords w.src1.toNat 1
    if addrs.any (fun x => x.sec) then .taint
    else match gatherFrom t w.le allowed addrs.zipIdx (l.vreg w.dest.toNat) with
      | (d, none) => .go (t.setLe w.le (l.setV w.dest.toNat d))
      | (d, some (k, c)) =>
        .window (t.setLe w.le (l.setV w.dest.toNat d)) k (faultRecord c true k w.le ((addrs.getD k ⟨0, false⟩).val)))

/-- GATHER16_C: W1, W2 or W5 (R264, R265). -/
def execGather16C (w : Mw) (s : State) : Out := gatherOp s w [1, 2, 5]
/-- GATHER16_S: W0 or W4 (R264, R265). -/
def execGather16S (w : Mw) (s : State) : Out := gatherOp s w [0, 4]

/-- Scatter elements in index order up to the first that faults; of two that name one word the higher-numbered remains (R265). -/
def scatterFrom (e : Nat) (allowed : List Nat) : List ((Tagged × Tagged) × Nat) → State → State × Option (Nat × Nat)
  | [], s => (s, none)
  | (p, k) :: rest, s =>
    let c := (s.le e).elementCause allowed p.1.val
    if c = 0 then scatterFrom e allowed rest (s.writeWindow e (p.1.val % 2 ^ 36) p.2) else (s, some (k, c))

/-- A scatter: its data is the register named in src2 (R264, R265). -/
def scatterOp (s : State) (w : Mw) (taints : Bool) (allowed : Le → List Nat) : Out :=
  issue s w true false none true (fun t l =>
    let addrs := l.groupWords w.src1.toNat 1
    let data := l.groupWords w.src2.toNat 1
    if addrs.any (fun x => x.sec) || (addrs.zip data).any (fun p => p.2.sec && (taints || inOutput p.1.val)) then .taint
    else match scatterFrom w.le (allowed l) (addrs.zip data).zipIdx t with
      | (u, none) => .go u
      | (u, some (k, c)) => .window u k (faultRecord c true k w.le ((addrs.getD k ⟨0, false⟩).val)))

/-- SCATTER16_C: W1 (R264, R265). -/
def execScatter16C (w : Mw) (s : State) : Out := scatterOp s w false (fun _ => [1])
/-- SCATTER16_S: W4 while expanding; a secret word taints (R264, R265). -/
def execScatter16S (w : Mw) (s : State) : Out := scatterOp s w true Le.matrixWritable

end Machine
end Sys2Proof
end

