-- ==== Sys2Proof/Machine/Packing.lean ====
section
/-! DEFINITION. Permutation, packing, encodings, rounding, sampling and compaction (11 R256-R260). -/

namespace Sys2Proof
namespace Machine

/-- PERM over a span-4 group (R256). Pattern 0x0B takes Q0's q, so Q0 must be a modulus of grain 18 (R250). -/
def execPerm (w : Mw) (s : State) : Out :=
  issue s w (decide (w.g < 3) && w.sp == 2 && permDefined w.g (laneCount (grainOf w.g) 4) w.pat) false none true (fun t l =>
    let g := grainOf w.g
    let n := laneCount g 4
    let b := groupBase w.src1 4
    if w.pat == 0x0B && !descOk (l.desc 0) 0 then .engine
    else .go (t.writeGroup w l 4 (ofLanes g (permLanes (l.desc 0).q n (8 - w.g) w.pat (lanesOf g n (l.groupVal b 4)))) (l.groupSec b 4)))

/-- A widening of narrow lanes into a group of twice the span at twice the grain (R257). -/
def unpack (s : State) (w : Mw) (f : Nat → Nat → Nat) : Out :=
  vpass s w (narrow w) false (spanOf w.sp) 0 0 (2 * spanOf w.sp)
    (fun _ a _ _ => ofLanes (2 * grainOf w.g)
      ((lanesOf (grainOf w.g) (laneCount (grainOf w.g) (spanOf w.sp)) a).map (f (grainOf w.g))))

/-- UNPACK_Z: zero-extended (R257). -/
def execUnpackZ (w : Mw) (s : State) : Out := unpack s w (fun _ a => a)
/-- UNPACK_S: sign-extended (R257). -/
def execUnpackS (w : Mw) (s : State) : Out :=
  unpack s w (fun g a => if 2 ^ (g - 1) ≤ a then a + (2 ^ (2 * g) - 2 ^ g) else a)
/-- PACK: the low g bits of each wide lane (R257). -/
def execPack (w : Mw) (s : State) : Out :=
  vpass s w (narrow w) false (2 * spanOf w.sp) 0 0 (spanOf w.sp)
    (fun _ a _ _ => ofLanes (grainOf w.g) (lanesOf (2 * grainOf w.g) (laneCount (grainOf w.g) (spanOf w.sp)) a))

/-- A lane map over a whole span-4 group. -/
def lane4 (s : State) (w : Mw) (defined : Bool) (f : Nat → Nat) : Out :=
  vpass s w defined false 4 0 0 4 (fun _ a _ _ => map1 (grainOf w.g) (laneCount (grainOf w.g) 4) f a)

/-- COMPRESS_d (R258). -/
def execCompress (w : Mw) (s : State) : Out :=
  lane4 s w (whole w 0 && [1, 4, 5, 10, 11].contains w.pat) (Machine.compress w.pat)
/-- DECOMPRESS_d (R258). -/
def execDecompress (w : Mw) (s : State) : Out :=
  lane4 s w (whole w 0 && [1, 4, 5, 10, 11].contains w.pat) (Machine.decompress w.pat)

/-- An encoding: `k` octets at octet A[src2] of a destination that is also read (R258). -/
def encodeAt (s : State) (w : Mw) (defined : Bool) (k : Nat) : Out :=
  apass s w defined true 4 4 4 (fun o => decide (o + k ≤ 576))
    (fun o a d => setOctets d o k (packBits w.pat (lanesOf (grainOf w.g) (laneCount (grainOf w.g) 4) a)))
/-- A decoding: `k` octets from octet A[src2] of src1 into lanes (R258). -/
def decodeAt (s : State) (w : Mw) (defined : Bool) (k : Nat) : Out :=
  apass s w defined true 4 0 4 (fun o => decide (o + k ≤ 576))
    (fun o a _ => ofLanes (grainOf w.g) (lanesOf w.pat (laneCount (grainOf w.g) 4) (octetsNat a o k)))

/-- BYTE_ENCODE_d: 256 lanes to 32d octets (R258). -/
def execByteEncode (w : Mw) (s : State) : Out := encodeAt s w (whole w 0 && [1, 4, 5, 10, 11, 12].contains w.pat) (32 * w.pat)
/-- BYTE_DECODE_d: 32d octets to 256 lanes, unreduced (R258). -/
def execByteDecode (w : Mw) (s : State) : Out := decodeAt s w (whole w 0 && [1, 4, 5, 10, 11, 12].contains w.pat) (32 * w.pat)
/-- BITPACK_d: 128 lanes to 16d octets (R258). -/
def execBitpack (w : Mw) (s : State) : Out := encodeAt s w (whole w 1 && [3, 4, 6, 10, 13, 18, 20].contains w.pat) (16 * w.pat)
/-- BITUNPACK_d: 16d octets to 128 lanes (R258). -/
def execBitunpack (w : Mw) (s : State) : Out := decodeAt s w (whole w 1 && [3, 4, 6, 10, 13, 18, 20].contains w.pat) (16 * w.pat)

/-- A FIPS 204 rounding of the lanes of one group (R258). -/
def round1 (s : State) (w : Mw) (op : Nat) (f : Nat → Nat) : Out := lane4 s w (whole w 1) (inQ op f)
/-- A FIPS 204 rounding of the lanes of two groups (R258). -/
def round2 (s : State) (w : Mw) (f : Nat → Nat → Nat) : Out :=
  vpass s w (whole w 1) false 4 4 0 4 (fun _ a b _ => map2 36 128 f a b)

/-- 2γ2 for γ2 = (q − 1)/88. -/
def gamma88 : Nat := 2 * ((qDsa - 1) / 88)
/-- 2γ2 for γ2 = (q − 1)/32. -/
def gamma32 : Nat := 2 * ((qDsa - 1) / 32)

/-- P2R_HI (R258). -/
def execP2rHi (w : Mw) (s : State) : Out := round1 s w 20 (fun a => (power2Round a).1)
/-- P2R_LO (R258). -/
def execP2rLo (w : Mw) (s : State) : Out := round1 s w 21 (fun a => (power2Round a).2)
/-- DEC88_HI (R258). -/
def execDec88Hi (w : Mw) (s : State) : Out := round1 s w 22 (fun a => (decompose gamma88 a).1)
/-- DEC88_LO (R258). -/
def execDec88Lo (w : Mw) (s : State) : Out := round1 s w 23 (fun a => modQ (decompose gamma88 a).2)
/-- DEC32_HI (R258). -/
def execDec32Hi (w : Mw) (s : State) : Out := round1 s w 24 (fun a => (decompose gamma32 a).1)
/-- DEC32_LO (R258). -/
def execDec32Lo (w : Mw) (s : State) : Out := round1 s w 25 (fun a => modQ (decompose gamma32 a).2)

/-- MakeHint with z = a and r = b (R258); operands at or above q are not stated (log 9). -/
def hintLane (m a b : Nat) : Nat := if a < qDsa ∧ b < qDsa then makeHint m a b else wrong 26 36 [m, a, b]
/-- UseHint with h = b and r = a (R258); an operand at or above q, or a hint above 1, is not stated (log 9). -/
def useLane (m a b : Nat) : Nat := if a < qDsa ∧ b ≤ 1 then useHint m b a else wrong 27 36 [m, a, b]

/-- MKHINT88 (R258). -/
def execMkhint88 (w : Mw) (s : State) : Out := round2 s w (hintLane gamma88)
/-- MKHINT32 (R258). -/
def execMkhint32 (w : Mw) (s : State) : Out := round2 s w (hintLane gamma32)
/-- USEHINT88 (R258). -/
def execUsehint88 (w : Mw) (s : State) : Out := round2 s w (useLane gamma88)
/-- USEHINT32 (R258). -/
def execUsehint32 (w : Mw) (s : State) : Out := round2 s w (useLane gamma32)

/-- SamplePolyCBD with parameter η from a group of `n` registers into 256 lanes under Q0 (R259); Q0 must be a modulus of grain 18 (R250). -/
def sampleCbd (s : State) (w : Mw) (eta n : Nat) : Out :=
  issue s w true false none true (fun t l =>
    let b := groupBase w.src1 n
    if !descOk (l.desc 0) 0 then .engine
    else .go (t.writeGroup w l 4 (ofLanes 18 ((List.range 256).map (cbd (l.desc 0).q eta (l.groupVal b n)))) (l.groupSec b n)))

/-- CBD2 (R259). -/
def execCbd2 (w : Mw) (s : State) : Out := sampleCbd s w 2 1
/-- CBD3 (R259). -/
def execCbd3 (w : Mw) (s : State) : Out := sampleCbd s w 3 2

/-- COMPACT: the selected lanes into consecutive destination lanes from lane A[src2]; its source, mask and offset must be public (R260). -/
def execCompact (w : Mw) (s : State) : Out :=
  issue s w (decide (w.g < 2) && w.sp == 2) false none true (fun t l =>
    let g := grainOf w.g
    let n := laneCount g 4
    let b := groupBase w.src1 4
    let c := groupBase w.dest 4
    let m := l.mreg w.mask
    let o := l.areg (aIdx w.src2)
    if l.groupSec b 4 || m.sec || o.sec then .taint
    else .go (t.writeGroup w l 4
      (ofLanes g (Machine.compact o.val (selected w.g m.val (lanesOf g n (l.groupVal b 4))) (lanesOf g n (l.groupVal c 4))))
      (l.groupSec c 4)))

/-- CT_COMPACT: the selected lanes from lane 0, the rest zero (R260). -/
def execCtCompact (w : Mw) (s : State) : Out :=
  issue s w (decide (w.g < 2) && w.sp == 2) false none true (fun t l =>
    let g := grainOf w.g
    let n := laneCount g 4
    let b := groupBase w.src1 4
    let m := l.mreg w.mask
    .go (t.writeGroup w l 4
      (ofLanes g (Machine.compact 0 (selected w.g m.val (lanesOf g n (l.groupVal b 4))) (List.replicate n 0)))
      (l.groupSec b 4 || m.sec)))

end Machine
end Sys2Proof
end

