-- ==== Sys2Proof/Machine/Transforms.lean ====
section
/-! DEFINITION. Butterflies (11 R253, R254). -/

namespace Sys2Proof
namespace Machine

/-- A butterfly pass (R253, R254): `k` is the index of the ROM's twiddle for a block number at distance 2^t; with rom_twiddle 0 lane j of the
src2 group is ζ for the pair whose first lane is j, and the group's tag counts. -/
def transform (s : State) (w : Mw) (defined : Bool) (pair : Descriptor → Nat → Nat → Nat → Nat × Nat) (k : Nat → Nat) : Out :=
  issue s w defined false none true (fun t l =>
    let d := l.desc w.q
    let g := grainOf w.g
    if !descOk d w.g then .engine
    else
      let b := groupBase w.src1 4
      let z := groupBase w.src2 4
      let tw := l.groupVal z 4
      .go (t.writeGroup w l 4
        (ofLanes g (butterfly (pair d) (fun blk j => if d.rom then romZeta w.g (k blk) else laneAt g tw j) (2 ^ w.pat) (laneCount g 4)
          (lanesOf g (laneCount g 4) (l.groupVal b 4))))
        (l.groupSec b 4 || (!d.rom && l.groupSec z 4))))

/-- The nanoword's variant: Q0 at grain 18 or Q1 at grain 36 over span 4 with twiddle strides up to `top` (R253). -/
def layer (w : Mw) (g top : Nat) : Bool := whole w g && w.q == g && decide (w.pat ≤ top)

/-- CT18 (R253). -/
def execCt18 (w : Mw) (s : State) : Out := transform s w (layer w 0 7) (ctPair 18) (ctIndex (2 ^ w.pat) 0)

/-- GS18 (R253). -/
def execGs18 (w : Mw) (s : State) : Out := transform s w (layer w 0 7) (gsPair 18 (gsK 0)) (gsIndex (2 ^ w.pat) 0)

/-- CT36L: coefficients 0 to 127 (R253). -/
def execCt36l (w : Mw) (s : State) : Out := transform s w (layer w 1 6) (ctPair 36) (ctIndex (2 ^ w.pat) 0)

/-- CT36U: coefficients 128 to 255, blocks numbered from 64/d (R253, R254). -/
def execCt36u (w : Mw) (s : State) : Out :=
  transform s w (layer w 1 6) (ctPair 36) (ctIndex (2 ^ w.pat) (64 / 2 ^ w.pat))

/-- GS36L (R253). -/
def execGs36l (w : Mw) (s : State) : Out := transform s w (layer w 1 6) (gsPair 36 (gsK 1)) (gsIndex (2 ^ w.pat) 0)

/-- GS36U (R253, R254). -/
def execGs36u (w : Mw) (s : State) : Out :=
  transform s w (layer w 1 6) (gsPair 36 (gsK 1)) (gsIndex (2 ^ w.pat) (64 / 2 ^ w.pat))

/-- A TOP pass: the lower group in src1, the upper in src2, ζ_1 from the ROM, which the descriptor must ask for (R254). -/
def topPass (s : State) (w : Mw) (f : Descriptor → Nat → Nat → Nat → Nat) : Out :=
  issue s w (whole w 1 && w.q == 1) false none true (fun t l =>
    let d := l.desc w.q
    let a := groupBase w.src1 4
    let b := groupBase w.src2 4
    if !descOk d w.g || !d.rom then .engine
    else .go (t.writeGroup w l 4 (map2 36 128 (f d (romZeta 1 1)) (l.groupVal a 4) (l.groupVal b 4)) (l.groupSec a 4 || l.groupSec b 4)))

/-- CT36_TOP_SUM: a + M(ζ_1, b) (R254). -/
def execCt36TopSum (w : Mw) (s : State) : Out := topPass s w (fun d z a b => (ctPair 36 d z a b).1)

/-- CT36_TOP_DIFF: a + 2q − M(ζ_1, b) (R254). -/
def execCt36TopDiff (w : Mw) (s : State) : Out := topPass s w (fun d z a b => (ctPair 36 d z a b).2)

/-- GS36_TOP_SUM: a + b (R254). -/
def execGs36TopSum (w : Mw) (s : State) : Out := topPass s w (fun d z a b => (gsPair 36 (gsK 1) d z a b).1)

/-- GS36_TOP_DIFF: M(ζ_1, b + Kq − a) (R254). -/
def execGs36TopDiff (w : Mw) (s : State) : Out := topPass s w (fun d z a b => (gsPair 36 (gsK 1) d z a b).2)

end Machine
end Sys2Proof
end

