-- ==== Sys2Proof/Machine/Nano.lean ====
section
/-! DEFINITION. The nanoword indices: the operation of each, its fixed fields, how it reads the microword's fields, and its cycle_count
(10 R223, R224, 11 R249-R268). -/

namespace Sys2Proof
namespace Machine

/-- What a nanoword index stands for: its operation with the fields that the index fixes; how dest, src1 and src2 are read (0: spare; 1, 2, 4 or 8: a
V group of so many registers; 100: an A register; 101: a descriptor); its cycle_count; secret_only; imm_use. -/
structure Nano where
  run : Mw → State → Out
  g : Nat
  sp : Nat
  q : Nat
  pat : Nat
  dest : Nat
  src1 : Nat
  src2 : Nat
  cycles : Nat
  secretOnly : Bool
  imm : Bool

/-- A nanoword that is neither secret_only nor reads an immediate. -/
def shape (run : Mw → State → Out) (g sp q pat dest src1 src2 cycles : Nat) : Nano :=
  ⟨run, g, sp, q, pat, dest, src1, src2, cycles, false, false⟩

/-- A family of nanowords that differ in grain and span (R249). -/
structure NanoFamily where
  base : Nat
  variant : Nat → Nat → Bool
  make : Nat → Nat → Nano

def nineV (g s : Nat) : Bool := decide (g < 3) && decide (s < 3)
def narrowV (g s : Nat) : Bool := decide (g < 2) && decide (s < 3)
def grain36V (g s : Nat) : Bool := g == 1 && decide (s < 3)
def grain72V (g s : Nat) : Bool := g == 2 && decide (s < 3)
/-- Order 1 over span 2 and order 2 over span 4 (R261). -/
def maskedV (k g s : Nat) : Bool := g == k && (s == 1 || s == 2)
def maskedW (g s : Nat) : Bool := decide (g < 2) && (s == 1 || s == 2)

/-- Families under R249. -/
def families0 : List NanoFamily := [
  ⟨0x040, nineV, fun g s => shape execAdd g s g 0 (spanOf s) (spanOf s) (spanOf s) 2⟩,
  ⟨0x050, nineV, fun g s => shape execSub g s g 0 (spanOf s) (spanOf s) (spanOf s) 2⟩,
  ⟨0x060, narrowV, fun g s => shape execAddm g s g 0 (spanOf s) (spanOf s) (spanOf s) 2⟩,
  ⟨0x070, narrowV, fun g s => shape execSubm g s g 0 (spanOf s) (spanOf s) (spanOf s) 2⟩,
  ⟨0x080, narrowV, fun g s => shape execRedb g s g 0 (spanOf s) (spanOf s) 0 5⟩,
  ⟨0x090, narrowV, fun g s => shape execMulm g s g 0 (spanOf s) (spanOf s) (spanOf s) 5⟩,
  ⟨0x0A0, narrowV, fun g s => shape execMulw g s g 0 (2 * spanOf s) (spanOf s) (spanOf s) 5⟩,
  ⟨0x0B0, narrowV, fun g s => shape execDot g s g 0 (2 * spanOf s) (spanOf s) (spanOf s) 5⟩,
  ⟨0x0D0, narrowV, fun g s => shape execRedw g s g 0 (spanOf s) (2 * spanOf s) 0 5⟩,
  ⟨0x0E0, grain36V, fun g s => shape execClmul g s g 0 (2 * spanOf s) (spanOf s) (spanOf s) 5⟩,
  ⟨0x300, narrowV, fun g s => shape execAddm g s 2 0 (spanOf s) (spanOf s) (spanOf s) 2⟩,
  ⟨0x310, narrowV, fun g s => shape execSubm g s 2 0 (spanOf s) (spanOf s) (spanOf s) 2⟩]
/-- Families under R249. -/
def families1 : List NanoFamily := [
  ⟨0x320, narrowV, fun g s => shape execRedb g s 2 0 (spanOf s) (spanOf s) 0 5⟩,
  ⟨0x330, narrowV, fun g s => shape execMulm g s 2 0 (spanOf s) (spanOf s) (spanOf s) 5⟩,
  ⟨0x370, narrowV, fun g s => shape execRedw g s 2 0 (spanOf s) (2 * spanOf s) 0 5⟩,
  ⟨0x380, narrowV, fun g s => shape execAddm g s 3 0 (spanOf s) (spanOf s) (spanOf s) 2⟩,
  ⟨0x390, narrowV, fun g s => shape execSubm g s 3 0 (spanOf s) (spanOf s) (spanOf s) 2⟩,
  ⟨0x3a0, narrowV, fun g s => shape execRedb g s 3 0 (spanOf s) (spanOf s) 0 5⟩,
  ⟨0x3b0, narrowV, fun g s => shape execMulm g s 3 0 (spanOf s) (spanOf s) (spanOf s) 5⟩,
  ⟨0x3f0, narrowV, fun g s => shape execRedw g s 3 0 (spanOf s) (2 * spanOf s) 0 5⟩,
  ⟨0x140, nineV, fun g s => shape execShl g s g 0 (spanOf s) (spanOf s) 100 1⟩,
  ⟨0x150, nineV, fun g s => shape execShr g s g 0 (spanOf s) (spanOf s) 100 1⟩,
  ⟨0x160, grain72V, fun g s => shape execRol64 g s g 0 (spanOf s) (spanOf s) 100 1⟩,
  ⟨0x170, nineV, fun g s => shape execCmplt g s g 0 (spanOf s) (spanOf s) (spanOf s) 1⟩]
/-- Families under R249. -/
def families2 : List NanoFamily := [
  ⟨0x180, nineV, fun g s => shape execCmpeq g s g 0 (spanOf s) (spanOf s) (spanOf s) 1⟩,
  ⟨0x190, nineV, fun g s => shape execMovm g s g 0 (spanOf s) (spanOf s) 0 1⟩,
  ⟨0x1A0, nineV, fun g s => shape execPopc g s g 0 (spanOf s) (spanOf s) 0 1⟩,
  ⟨0x1B0, nineV, fun g s => shape execMfromv g s g 0 0 (spanOf s) 0 1⟩,
  ⟨0x210, narrowV, fun g s => shape execUnpackZ g s g 0 (2 * spanOf s) (spanOf s) 0 3⟩,
  ⟨0x340, narrowV, fun g s => shape execUnpackS g s g 0 (2 * spanOf s) (spanOf s) 0 3⟩,
  ⟨0x350, narrowV, fun g s => shape execPack g s g 0 (spanOf s) (2 * spanOf s) 0 3⟩,
  ⟨0x220, maskedV 2, fun g s => shape execSecand g s g 0 (spanOf s) (spanOf s) (spanOf s) (if s = 1 then 5 else 9)⟩,
  ⟨0x230, maskedW, fun g s => shape execSecmulm g s g 0 (spanOf s) (spanOf s) (spanOf s) (if s = 1 then 5 else 9)⟩,
  ⟨0x240, maskedW, fun g s => shape execA2b g s g 0 (spanOf s) (spanOf s) 0 (if s = 1 then 5 else 9)⟩,
  ⟨0x250, maskedW, fun g s => shape execB2a g s g 0 (spanOf s) (spanOf s) 0 (if s = 1 then 5 else 9)⟩]
/-- Every family under R249. -/
def families : List NanoFamily := families0 ++ families1 ++ families2

/-- Indices that their rows list themselves. -/
def single0 (i : Nat) : Option Nano :=
  if i = 0x000 then some (shape execNop 0 0 0 0 0 0 0 1)
  else if i = 0x10 then some (shape execLdc 0 2 0 0 4 0 100 12)
  else if i = 0x11 then some (shape execStc 0 2 0 0 0 4 100 12)
  else if i = 0x20 then some (shape execLds 0 2 0 0 4 0 100 408)
  else if i = 0x21 then some (shape execSts 0 2 0 0 0 4 100 408)
  else if i = 0x22 then some { shape execRelease 0 2 0 0 0 4 100 408 with secretOnly := true }
  else if i = 0x14 then some (shape execLdc 0 1 0 0 2 0 100 12)
  else if i = 0x15 then some (shape execStc 0 1 0 0 0 2 100 12)
  else if i = 0x24 then some (shape execLds 0 1 0 0 2 0 100 408)
  else if i = 0x25 then some (shape execSts 0 1 0 0 0 2 100 408)
  else if i = 0x26 then some { shape execRelease 0 1 0 0 0 2 100 408 with secretOnly := true }
  else if i = 0x18 then some (shape execLdc 0 0 0 0 1 0 100 12)
  else if i = 0x19 then some (shape execStc 0 0 0 0 0 1 100 12)
  else if i = 0x28 then some (shape execLds 0 0 0 0 1 0 100 408)
  else none
/-- Indices that their rows list themselves. -/
def single1 (i : Nat) : Option Nano :=
  if i = 0x29 then some (shape execSts 0 0 0 0 0 1 100 408)
  else if i = 0x2a then some { shape execRelease 0 0 0 0 0 1 100 408 with secretOnly := true }
  else if i = 0x012 then some (shape execLdq 0 0 0 0 101 0 100 64)
  else if i = 0x030 then some (shape execGather16C 0 0 0 0 1 1 0 28)
  else if i = 0x031 then some (shape execScatter16C 0 0 0 0 0 1 1 28)
  else if i = 0x032 then some (shape execGather16S 0 0 0 0 1 1 0 440)
  else if i = 0x033 then some (shape execScatter16S 0 0 0 0 0 1 1 440)
  else if i = 0xc0 then some (shape execAadd 0 0 0 0 100 100 100 1)
  else if i = 0xc1 then some (shape execAsub 0 0 0 0 100 100 100 1)
  else if i = 0xc2 then some (shape execAand 0 0 0 0 100 100 100 1)
  else if i = 0xc3 then some (shape execAshr 0 0 0 0 100 100 100 1)
  else if i = 0x0C4 then some { shape execAaddi 0 0 0 0 100 100 0 1 with imm := true }
  else if i = 0x0C5 then some { shape execAldi 0 0 0 0 100 0 0 1 with imm := true }
  else if i = 0x0C6 then some { shape execAsetw 0 0 0 0 100 100 0 1 with imm := true }
  else none
/-- Indices that their rows list themselves. -/
def single2 (i : Nat) : Option Nano :=
  if i = 0x0C7 then some (shape execAfromv 0 0 0 0 100 1 0 1)
  else if i = 0x0C8 then some (shape execAbcast 1 2 0 0 4 0 100 1)
  else if i = 0x0C9 then some (shape execMcount 0 0 0 0 100 0 0 1)
  else if 0x0F0 ≤ i ∧ i ≤ 0x0FB ∧ i % 4 = 0 then some (shape execAnd 2 (2 - (i - 0x0F0) / 4) 0 0 (spanOf (2 - (i - 0x0F0) / 4)) (spanOf (2 - (i - 0x0F0) / 4)) (spanOf (2 - (i - 0x0F0) / 4)) 1)
  else if 0x0F0 ≤ i ∧ i ≤ 0x0FB ∧ i % 4 = 1 then some (shape execOr 2 (2 - (i - 0x0F0) / 4) 0 0 (spanOf (2 - (i - 0x0F0) / 4)) (spanOf (2 - (i - 0x0F0) / 4)) (spanOf (2 - (i - 0x0F0) / 4)) 1)
  else if 0x0F0 ≤ i ∧ i ≤ 0x0FB ∧ i % 4 = 2 then some (shape execXor 2 (2 - (i - 0x0F0) / 4) 0 0 (spanOf (2 - (i - 0x0F0) / 4)) (spanOf (2 - (i - 0x0F0) / 4)) (spanOf (2 - (i - 0x0F0) / 4)) 1)
  else if 0x0F0 ≤ i ∧ i ≤ 0x0FB ∧ i % 4 = 3 then some (shape execAndn 2 (2 - (i - 0x0F0) / 4) 0 0 (spanOf (2 - (i - 0x0F0) / 4)) (spanOf (2 - (i - 0x0F0) / 4)) (spanOf (2 - (i - 0x0F0) / 4)) 1)
  else if 0x260 ≤ i ∧ i ≤ 0x26B ∧ i % 4 = 0 then some (shape execAndr 2 (2 - (i - 0x260) / 4) 0 0 1 (spanOf (2 - (i - 0x260) / 4)) 0 1)
  else if 0x260 ≤ i ∧ i ≤ 0x26B ∧ i % 4 = 1 then some (shape execOrr 2 (2 - (i - 0x260) / 4) 0 0 1 (spanOf (2 - (i - 0x260) / 4)) 0 1)
  else if 0x100 ≤ i ∧ i ≤ 0x107 then some (shape execCt18 0 2 0 (i - 0x100) 4 4 4 6)
  else if 0x110 ≤ i ∧ i ≤ 0x117 then some (shape execGs18 0 2 0 (i - 0x110) 4 4 4 6)
  else if 0x120 ≤ i ∧ i ≤ 0x126 then some (shape execCt36l 1 2 1 (i - 0x120) 4 4 4 6)
  else if i = 0x127 then some (shape execCt36TopSum 1 2 1 0 4 4 4 6)
  else if i = 0x128 then some (shape execCt36TopDiff 1 2 1 0 4 4 4 6)
  else none
/-- Indices that their rows list themselves. -/
def single3 (i : Nat) : Option Nano :=
  if 0x129 ≤ i ∧ i ≤ 0x12f then some (shape execCt36u 1 2 1 (i - 0x129) 4 4 4 6)
  else if 0x130 ≤ i ∧ i ≤ 0x136 then some (shape execGs36l 1 2 1 (i - 0x130) 4 4 4 6)
  else if i = 0x137 then some (shape execGs36TopSum 1 2 1 0 4 4 4 6)
  else if i = 0x138 then some (shape execGs36TopDiff 1 2 1 0 4 4 4 6)
  else if 0x139 ≤ i ∧ i ≤ 0x13f then some (shape execGs36u 1 2 1 (i - 0x139) 4 4 4 6)
  else if i = 0x1C0 then some (shape execCbd2 0 2 0 0 4 1 0 3)
  else if i = 0x1C1 then some (shape execCbd3 0 2 0 0 4 2 0 3)
  else if i = 0x1c4 then some (shape execCompact 0 2 0 0 4 4 100 3)
  else if i = 0x1c6 then some (shape execCtCompact 0 2 0 0 4 4 0 3)
  else if i = 0x1c5 then some (shape execCompact 1 2 0 0 4 4 100 3)
  else if i = 0x1c7 then some (shape execCtCompact 1 2 0 0 4 4 0 3)
  else if i = 0x1C8 then some (shape execBasemul 0 2 0 0 4 4 4 5)
  else if 0x1d0 ≤ i ∧ i ≤ 0x1d4 then some (shape execCompress 0 2 0 ([1, 4, 5, 10, 11].getD (i - 0x1d0) 0) 4 4 0 3)
  else if 0x1d8 ≤ i ∧ i ≤ 0x1dc then some (shape execDecompress 0 2 0 ([1, 4, 5, 10, 11].getD (i - 0x1d8) 0) 4 4 0 3)
  else none
/-- Indices that their rows list themselves. -/
def single4 (i : Nat) : Option Nano :=
  if 0x1e0 ≤ i ∧ i ≤ 0x1e5 then some (shape execByteEncode 0 2 0 ([1, 4, 5, 10, 11, 12].getD (i - 0x1e0) 0) 4 4 100 3)
  else if 0x1e8 ≤ i ∧ i ≤ 0x1ed then some (shape execByteDecode 0 2 0 ([1, 4, 5, 10, 11, 12].getD (i - 0x1e8) 0) 4 4 100 3)
  else if 0x200 ≤ i ∧ i ≤ 0x206 then some (shape execBitpack 1 2 0 ([3, 4, 6, 10, 13, 18, 20].getD (i - 0x200) 0) 4 4 100 3)
  else if 0x208 ≤ i ∧ i ≤ 0x20e then some (shape execBitunpack 1 2 0 ([3, 4, 6, 10, 13, 18, 20].getD (i - 0x208) 0) 4 4 100 3)
  else if i = 0x1f0 then some (shape execP2rHi 1 2 0 0 4 4 0 3)
  else if i = 0x1f1 then some (shape execP2rLo 1 2 0 0 4 4 0 3)
  else if i = 0x1f2 then some (shape execDec88Hi 1 2 0 0 4 4 0 3)
  else if i = 0x1f3 then some (shape execDec88Lo 1 2 0 0 4 4 0 3)
  else if i = 0x1f4 then some (shape execDec32Hi 1 2 0 0 4 4 0 3)
  else if i = 0x1f5 then some (shape execDec32Lo 1 2 0 0 4 4 0 3)
  else if i = 0x1f6 then some (shape execMkhint88 1 2 0 0 4 4 4 3)
  else if i = 0x1f7 then some (shape execMkhint32 1 2 0 0 4 4 4 3)
  else if i = 0x1f8 then some (shape execUsehint88 1 2 0 0 4 4 4 3)
  else if i = 0x1f9 then some (shape execUsehint32 1 2 0 0 4 4 4 3)
  else none
/-- Indices that their rows list themselves. -/
def single5 (i : Nat) : Option Nano :=
  if i = 0x270 then some { shape execDeclBit 2 0 0 0 100 1 100 1 with secretOnly := true }
  else if i = 0x271 then some { shape execDeclBit2 2 1 0 0 100 2 100 1 with secretOnly := true }
  else if i = 0x272 then some { shape execDeclBit3 2 2 0 0 100 4 100 3 with secretOnly := true }
  else if 0x280 ≤ i ∧ i < 0x2E0 ∧ permDefined ((i - 0x280) / 32) (laneCount (grainOf ((i - 0x280) / 32)) 4) ((i - 0x280) % 32) then some (shape execPerm ((i - 0x280) / 32) 2 0 ((i - 0x280) % 32) 4 4 0 3)
  else if i = 0x2E0 then some (shape execSopen 0 0 0 0 0 0 100 8)
  else if i = 0x2E1 then some (shape execSabsorb 0 0 0 0 0 1 100 8)
  else if i = 0x2E2 then some (shape execSfinal 0 0 0 0 0 1 100 8)
  else if i = 0x2E3 then some (shape execSsqueeze 0 0 0 0 1 0 100 8)
  else if i = 0x2E4 then some (shape execSclose 0 0 0 0 0 0 100 2)
  else if i = 0x2F0 then some (shape execMaskDraw 0 0 0 0 1 0 0 2)
  else if i = 0x2F1 then some (shape execDrbgDraw 0 0 0 0 1 0 0 2508)
  else if i = 0x2F4 then some (shape execKeyFetch 0 0 0 0 0 0 0 1)
  else if i = 0x2F8 then some (shape execMboxRead 0 0 0 0 100 0 0 1)
  else if i = 0x2F9 then some (shape execMatrixReq 0 0 0 0 0 1 0 1)
  else none
/-- Indices that their rows list themselves. -/
def single6 (i : Nat) : Option Nano :=
  if i = 0x2FA then some (shape execMatrixDone 0 0 0 0 0 0 0 1)
  else none

/-- A member of a family. -/
def NanoFamily.at_ (f : NanoFamily) (i : Nat) : Option Nano :=
  let g := (i - f.base) % 4
  let s := 2 - (i - f.base) / 4
  if f.base ≤ i ∧ i ≤ f.base + 0xA ∧ f.variant g s then some (f.make g s) else none
/-- The nanoword of an index, none where the index is undefined (R249). -/
def nano (i : Nat) : Option Nano :=
  match families.findSome? (fun f => f.at_ i) with
  | some n => some n
  | none => single0 i <|> single1 i <|> single2 i <|> single3 i <|> single4 i <|> single5 i <|> single6 i

/-! ### The bits of a nanoword (R224, R225, R250-R268) -/

/-- The pipeline class of an index: 0 logic, 1 add, 2 permute, 3 multiply, 4 butterfly, 5 memory (R201; the Class columns and sentences of the tables). -/
def nanoClass (i : Nat) : Nat :=
  let p := i / 16
  if [0x04, 0x05, 0x06, 0x07, 0x30, 0x31, 0x38, 0x39].contains p then 1
  else if i = 0x1C8 ∨ [0x08, 0x09, 0x0A, 0x0B, 0x0D, 0x0E, 0x22, 0x23, 0x24, 0x25, 0x32, 0x33, 0x37, 0x3A, 0x3B, 0x3F].contains p then 3
  else if 0x10 ≤ p ∧ p ≤ 0x13 then 4
  else if (0x1C ≤ p ∧ p ≤ 0x21) ∨ (0x28 ≤ p ∧ p ≤ 0x2D) ∨ p = 0x34 ∨ p = 0x35 then 2
  else if (1 ≤ p ∧ p ≤ 3) ∨ p = 0x2E ∨ i = 0x2F1 then 5
  else 0
/-- The unit of an index (*Field map: nanoword*): that of its class, but for what another unit does. -/
def nanoUnit (i : Nat) : Nat :=
  let p := i / 16
  if p = 0 then 0 else if p = 0x0C then 10 else if p = 0x27 then 11 else if p = 0x2E then 7
  else if i = 0x2F0 ∨ i = 0x2F1 then 8 else if i = 0x2F4 then 9 else if p = 0x2F then 12
  else nanoClass i + 1
/-- The reduce field (R251, R252): 1 ADDM and SUBM, 2 REDB, 3 MULM, REDW and BASEMUL. -/
def nanoReduce (i : Nat) : Nat :=
  let p := i / 16
  if [0x06, 0x07, 0x30, 0x31, 0x38, 0x39].contains p then 1
  else if [0x08, 0x32, 0x3A].contains p then 2
  else if i = 0x1C8 ∨ [0x09, 0x0D, 0x33, 0x37, 0x3B, 0x3F].contains p then 3 else 0
/-- The mem_op field (R225, R264). -/
def nanoMemOp (i : Nat) : Nat :=
  if i = 0x012 then 8
  else if i / 16 = 1 then (if i % 4 = 0 then 1 else 2)
  else if i / 16 = 2 then 3 + i % 4
  else if i = 0x030 ∨ i = 0x032 then 6
  else if i = 0x031 ∨ i = 0x033 then 7 else 0
/-- The tag_rule field (*Tag codes used in the operation tables*). -/
def nanoTagRule (i : Nat) : Nat :=
  if i / 16 = 0x27 then 1 else if i / 16 = 2 ∧ i % 4 = 2 then 2 else if i = 0x2F0 ∨ i = 0x2F1 then 3 else 0
/-- The src2_kind field: 0 none, 1 a V group, 2 an A register (R223). -/
def Nano.src2Kind (n : Nano) : Nat := if n.src2 = 0 then 0 else if n.src2 = 100 then 2 else 1
/-- The row of an index names its grain. -/
def namesGrain (i : Nat) : Bool := (decide (2 ≤ nanoUnit i) && decide (nanoUnit i ≤ 5)) || (decide (0x140 ≤ i) && decide (i < 0x1C0))
/-- The row of an index names its span. -/
def namesSpan (i : Nat) : Bool := namesGrain i || nanoUnit i == 1 || nanoUnit i == 11 || (decide (0x010 ≤ i) && decide (i < 0x030) && i != 0x012)
/-- The row of an index names its modulus descriptor (R251-R253, R259). -/
def namesModulus (i : Nat) (n : Nano) : Bool := decide (n.g < 2) && ([2, 4, 5].contains (nanoUnit i) || i == 0x1C0 || i == 0x1C1)
/-- The lane distance of a butterfly, as its logarithm (R253). -/
def strideOf (i : Nat) (n : Nano) : Nat := if [0x127, 0x128, 0x137, 0x138].contains i then 7 else n.pat
/-- The fields that the tables of Vector operations fix for an index: low bit, width and value. The cycle_count is the table's in the baseline; a patch may
change it (R247). -/
def nanoFixed (i : Nat) (n : Nano) (baseline : Bool) : List (Nat × Nat × Nat) :=
  [(284, 4, nanoUnit i), (266, 2, n.src2Kind), (265, 1, if i / 16 = 0x34 then 1 else 0), (262, 3, nanoReduce i),
    (255, 1, if i / 16 = 0x19 ∨ (0x1C4 ≤ i ∧ i ≤ 0x1C7) then 1 else 0), (248, 4, nanoMemOp i), (244, 4, nanoTagRule i), (240, 4, nanoClass i),
    (223, 1, if n.imm then 1 else 0), (222, 1, if n.secretOnly then 1 else 0), (220, 2, 0)] ++
    (if baseline then [(224, 16, n.cycles)] else []) ++
    (if namesGrain i then [(270, 2, n.g)] else []) ++ (if namesSpan i then [(268, 2, n.sp)] else []) ++
    (if namesModulus i n then [(260, 2, n.q)] else []) ++ (if nanoUnit i = 5 then [(256, 4, strideOf i n)] else []) ++
    (if 0x280 ≤ i ∧ i < 0x2E0 then [(212, 8, n.pat)] else [])
/-- A field of a word set to a value. -/
def placeField (v : Nat) (f : Nat × Nat × Nat) : Nat := v - bitsOf v (f.1 + f.2.1 - 1) f.1 * 2 ^ f.1 + f.2.2 % 2 ^ f.2.1 * 2 ^ f.1

end Machine
end Sys2Proof
end

