-- ==== Sys2Proof/Machine/Sequencer.lean ====
section
/-! DEFINITION. The microsequencer of a lattice engine and what ends its waits (10 R226-R231, R236, R238, 09 R209, R210, R219, 13 R301). -/

namespace Sys2Proof
namespace Machine

/-- The owner kernel that an LE's job runs, if any. -/
def State.kernelOn (s : State) (l : Le) : Option Kernel :=
  match l.job with
  | some r => match s.findJob r with
    | some j => j.kernel
    | none => none
  | none => none

/-- The library entry points: the U16 addresses of entry 0x2410.01's rows (R229, R248). -/
def libraryEntry (lib : List Bytes) (a : Nat) : Bool := lib.any (fun r => fieldAt r 0 2 == a)

/-- A transfer of control of a job of family 0x80 is allowed (R229). -/
def Kernel.transferOk (k : Kernel) (lib : List Bytes) (own target : Nat) : Bool :=
  if target < 0x3000 then !k.owns own || libraryEntry lib target else k.owns target

/-- Go to an address, or ENGINE_FAULT where R229 forbids the transfer; `l` is the engine after the microword's own effect. -/
def goTo (s : State) (e : Nat) (l : Le) (target : Nat) : Issue :=
  let a := target % 2 ^ 14
  let ok := match s.kernelOn l with
    | some k => k.transferOk s.library l.regs.upc a
    | none => true
  if ok then .go (s.setLe e { l with regs := { l.regs with upc := a } }) else .engine

/-- An LE waits at another microword than one with this wait code. -/
def Le.waitsElsewhere (l : Le) (code : Nat) : Bool := l.waiting != none && l.waiting != some code
/-- A microword that only sequences issues (R226-R228, R230): `legal` says that its kind is legal in its class; it waits as any other, and a stream it does
not use is ready (log 18). -/
def sequence (s : State) (w : Mw) (legal : Bool) (body : State → Le → Issue) : Out :=
  let l := s.le w.le
  if l.job = none ∨ s.clk.gated ∨ s.wordBad w.le ∨ l.waitsElsewhere w.wait.toNat ∨ (w.safePoint ∧ (s.engine w.le).latched ≠ []) then .next s
  else if !legal ∨ 7 ≤ w.wait.toNat then .next (s.leDone w.le 0x54 0 0 [])
  else if !waitHolds l true w.wait.toNat then .next (s.setLe w.le (l.held w.wait.toNat))
  else match body (s.setLe w.le (l.issued w.secret)) (l.issued w.secret) with
    | .go t => .next t
    | .taint => .next (s.leDone w.le 0x53 0 1 [])
    | .engine => .next (s.leDone w.le 0x54 0 0 [])
    | .window t d r => .next (t.windowFault w.le d r)
    | .hold t code => .next (t.setLe w.le (l.held code))

/-- NEXT: own address + 1, public class only (R226). -/
def execNext (w : Mw) (s : State) : Out := sequence s w (!w.secret) (fun t l => goTo t w.le l (l.regs.upc + 1))

/-- JUMP: addr (R226). -/
def execJump (w : Mw) (s : State) : Out := sequence s w true (fun t l => goTo t w.le l w.addr.toNat)

/-- A branch on A[c], which must be public (R206, R226, R227). -/
def branch (s : State) (w : Mw) (taken : Nat → Bool) : Out :=
  sequence s w (!w.secret) (fun t l =>
    let a := l.areg (aIdx w.src2)
    if a.sec then .taint
    else if taken a.val then goTo t w.le l w.addr.toNat
    else goTo t w.le l (l.regs.upc + 1))

/-- BRZ (R226). -/
def execBrz (w : Mw) (s : State) : Out := branch s w (fun a => a == 0)
/-- BRNZ (R226). -/
def execBrnz (w : Mw) (s : State) : Out := branch s w (fun a => a != 0)

/-- CALL: pushes own address + 1; ENGINE_FAULT with 8 entries on the stack (R226, R228). -/
def execCall (w : Mw) (s : State) : Out :=
  sequence s w (!w.secret) (fun t l =>
    if 8 ≤ l.regs.stack.length then .engine
    else goTo t w.le { l with regs := { l.regs with stack := (l.regs.upc + 1) % 2 ^ 14 :: l.regs.stack } } w.addr.toNat)

/-- RET: pops; ENGINE_FAULT with an empty stack (R226, R228). -/
def execRet (w : Mw) (s : State) : Out :=
  sequence s w (!w.secret) (fun t l =>
    match l.regs.stack with
    | [] => .engine
    | a :: rest => goTo t w.le { l with regs := { l.regs with stack := rest } } a)

/-- LOOP on a public count (R206, R227). -/
def execLoop (w : Mw) (s : State) : Out :=
  sequence s w true (fun t l =>
    let c := aIdx w.src2
    let a := l.areg c
    if a.sec then .taint
    else if a.val = 0 then goTo t w.le l (l.regs.upc + 1)
    else if a.val = 1 then goTo t w.le (l.setA c 0 false) (l.regs.upc + 1)
    else goTo t w.le (l.setA c (a.val - 1) false) w.addr.toNat)

/-- The first `n` octets of window W3: octet 9k + i of word k is bits [8i+7:8i] (R238, R258; log 19). -/
def Le.result (l : Le) (n : Nat) : Bytes :=
  (List.range n).map (fun i => BitVec.ofNat 8 (Map.getD l.output (i / 9) 0 / 2 ^ (8 * (i % 9))))

/-- EXIT: OK with the first n octets of W3, unless an event of rank 1 is latched (R206, R238): then TENANT_RESET, or under an abortive close
nothing at all (R89). A secret n taints; an n beyond the opcode's maximum is WINDOW_FAULT; a spare wait code is ENGINE_FAULT (R228, R230). -/
def execExit (w : Mw) (s : State) : Out :=
  let l := s.le w.le
  match l.job with
  | none => .next s
  | some r =>
    if l.waitsElsewhere w.wait.toNat ∨ s.clk.gated ∨ s.wordBad w.le then .next s
    else if (s.engine w.le).latched.contains 1 then .next (s.leDone w.le 0x60 0 0 [])
    else if (s.engine w.le).latched.contains 2 then
      let t := ((s.accrueOn w.le).clearLe w.le).setEngine w.le (s.engine w.le).leave
      .next (t.dropJob r).settle
    else if 7 ≤ w.wait.toNat then .next (s.leDone w.le 0x54 0 0 [])
    else if !waitHolds l true w.wait.toNat then .next (s.setLe w.le (l.held w.wait.toNat))
    else
      let a := l.areg (aIdx w.src2)
      if a.sec then .next (s.leDone w.le 0x53 0 1 [])
      else if l.outMax < a.val then .next (s.leDone w.le 0x52 0xFF 2 [])
      else .next (s.leDone w.le 0 0 0 (l.result a.val))

/-- WAIT_WATCHDOG: one microword has waited 65,536 cycles (R231). -/
def execWaitWatchdog (le : Nat) (s : State) : Out :=
  let l := s.le le
  when (!s.clk.gated && l.job != none && l.waiting != none && l.waiting != some 3 && l.waiting != some 7 && decide (65536 ≤ l.waited)) s
    (s.leDone le 0x54 0 4 [])

/-- ENTROPY_STALL_TIMEOUT: a mask, DRBG or masked-operation stall has lasted 2,500 cycles (R210, R261, R269, R301). -/
def execEntropyStallTimeout (le : Nat) (s : State) : Out :=
  let l := s.le le
  when (!s.clk.gated && l.job != none && (l.waiting == some 3 || l.waiting == some 7) && decide (2500 ≤ l.waited)) s (s.leDone le 0x50 0 0 [])

/-- MASK_GENERATOR_RESEED: at its reseed point the generator takes a seed from the cluster DRBG, or stops until it can (R209, R210). -/
def execMaskGeneratorReseed (le : Nat) (s : State) : Out :=
  let l := s.le le
  if s.clk.gated ∨ (l.maskCount < 65536 ∧ !l.maskStopped) then .next s
  else match s.maskSeed le with
    | none => .next ((s.askSeed (clusterOf le)).setLe le { l with maskStopped := true })
    | some t => .next (t.setLe le { l with maskStopped := false, maskCount := 0 })

/-- CS_REPAIR: the management cores rewrite a word that a fetch of the cluster has found faulty, and the LEs that stalled at it go on, from the firmware's copy, which undoes what MEM_ACCESS wrote
there; CS_REPAIRS counts it (R236, R248, R406). -/
def execCsRepair (cluster : Nat) (nano : Bool) (addr : Nat) (s : State) : Out :=
  let c := s.cluster cluster
  let k := if nano then { s.kern with nano := Map.erase s.kern.nano addr } else { s.kern with micro := Map.erase s.kern.micro addr }
  let t := { s.setCluster cluster { c with badWords := c.badWords.filter (fun x => x != (nano, addr)) } with kern := k }
  when (s.runs && decide (cluster < 16) && c.badWords.contains (nano, addr)) s (t.inc 0x2400 8 1)

/-- The key bus writes a key's shares into W5, share after share, each as words of its own, nine octets a word and every word secret (R219, R316; log 14). -/
def State.deliverKey (s : State) (e : Nat) (k : KeyRec) : State :=
  let n := ceilDiv (secretOctets k.typ k.set) 9
  (List.range (Nat.min 4096 (sharesOf k.typ k.order * n))).foldl (fun u i =>
    u.setCword (clusterOf e) ((u.le e).phys 5 i) ⟨inputWord (k.share (i / n)) (i % n), true⟩) s

/-- KEY_BUS_DELIVERY_DONE: every share is in W5; a key whose class mask lacks LE ends the job with KEY_USAGE (R219). -/
def execKeyBusDeliveryDone (le : Nat) (s : State) : Out :=
  let l := s.le le
  match l.job with
  | none => .next s
  | some r =>
    if l.keyState ≠ 1 ∨ s.clk.gated then .next s
    else match s.findJob r with
      | none => .next s
      | some j => match s.keyFor j with
        | none => .next (s.leDone le 0x30 0 0 [])
        | some k =>
          if !bitAt k.classes 0 then .next (s.leDone le 0x30 0 0 [])
          else
            .next ((s.deliverKey le k).setLe le { l with keyState := 2 })

end Machine
end Sys2Proof
end

