-- ==== Sys2Proof/Machine/Kernels.lean ====
section
/-! DEFINITION. Owner kernels and patches: microwords of an image, running them, the loader's checks, installing, and what every start loads
(10 R221-R247). -/

namespace Sys2Proof
namespace Machine

/-! ### Microwords of an image (R222, R242) -/

/-- Fields of a microword. -/
def mwWait (v : Nat) : Nat := bitsOf v 20 17
def mwSrc2 (v : Nat) : Nat := bitsOf v 25 21
def mwSrc1 (v : Nat) : Nat := bitsOf v 30 26
def mwDest (v : Nat) : Nat := bitsOf v 35 31
def mwNano (v : Nat) : Nat := bitsOf v 45 36
def mwAddr (v : Nat) : Nat := bitsOf v 13 0
/-- The 288 bits of a nanoword: as MEM_ACCESS wrote it; else what the tables of Vector operations fix for its index, the rest as Gelyth writes it, its spare
bits zero (R221, R224, R239; log 10). -/
def State.nanoWord (s : State) (i : Nat) : Nat :=
  match Map.find s.kern.nano i with
  | some v => v
  | none =>
    let v := Config.unstated 51 [i, s.storeId] % 2 ^ 288
    match nano i with
    | some n => (nanoFixed i n (s.storeId == 0)).foldl placeField v
    | none => v - bitsOf v 221 220 * 2 ^ 220
/-- The cycle_count of a nanoword in the nanostore (R224). -/
def State.nanoCycles (s : State) (i : Nat) : Nat := bitsOf (s.nanoWord i) 239 224
/-- The spare bits of a nanoword are zero; with others it is undefined (R3, R224). -/
def State.nanoClean (s : State) (i : Nat) : Bool := bitsOf (s.nanoWord i) 221 220 == 0
/-- The mask register that a nanoword names. -/
def State.nanoMask (s : State) (i : Nat) : Nat := bitsOf (s.nanoWord i) 254 252
/-- The kernels whose microwords and constants stand in the control stores: those bound, and those that a job in progress runs (R246). -/
def State.kernelsHeld (s : State) : List Kernel :=
  s.kern.bound.map (fun p => p.2) ++ (s.jobs.filter (fun (j : Job) => j.live)).filterMap (fun (j : Job) => j.kernel)
/-- The 48 bits of a microword in the control store: as MEM_ACCESS wrote it, an owner kernel's, else Gelyth's (R221, R406). -/
def State.microWord (s : State) (a : Nat) : Nat :=
  match Map.find s.kern.micro a with
  | some v => v
  | none => match s.kernelsHeld.find? (fun k => k.owns a) with
    | some k => k.word (a - k.base)
    | none => Config.unstated 57 [1, a, s.storeId] % 2 ^ 48
/-- A microword issued on an LE, with its nanoword's fields (R222, R224). -/
def State.mwOf (s : State) (e v : Nat) (n : Nano) : Mw where
  le := e
  secret := bitAt v 47
  safePoint := bitAt v 46
  dest := BitVec.ofNat 5 (mwDest v)
  src1 := BitVec.ofNat 5 (mwSrc1 v)
  src2 := BitVec.ofNat 5 (mwSrc2 v)
  wait := BitVec.ofNat 4 (mwWait v)
  addr := BitVec.ofNat 14 (mwAddr v)
  g := n.g
  sp := n.sp
  q := n.q
  pat := n.pat
  mask := s.nanoMask (mwNano v)
/-- The sequencing kind of a microword runs (R226). -/
def runSeq (seq : Nat) (w : Mw) (s : State) : Out :=
  match seq with
  | 0 => execNext w s
  | 1 => execJump w s
  | 2 => execBrz w s
  | 3 => execBrnz w s
  | 4 => execCall w s
  | 5 => execRet w s
  | 6 => execLoop w s
  | _ => execExit w s
/-- The cost of a sequencing kind in ENG cycles (R226). -/
def seqCost (seq : Nat) : Nat := if seq = 2 ∨ seq = 3 then 2 else if 4 ≤ seq ∧ seq ≤ 6 then 1 else 0

/-! ### Running a kernel (R229, R232, R238, R243) -/

/-- The cycles that a stream's core has worked: one block after another by its function's figure, the padding's among them (*Hash core throughput*, R271). -/
def HStream.busy (h : HStream) : Nat :=
  let row := [(168, 24, 1), (136, 24, 1), (136, 24, 1), (104, 24, 1), (72, 24, 1), (64, 32, 9), (128, 40, 17), (128, 40, 17), (168, 24, 1), (136, 24, 1)].getD h.fn (168, 24, 1)
  row.2.1 * ((if h.finalised then ceilDiv (h.data.length + row.2.2) row.1 else h.data.length / row.1) + (ceilDiv h.squeezed row.1 - 1))
/-- What the cores of an LE's streams have worked between two states of the LE. -/
def coreWork (l l' : Le) : Nat :=
  (l'.streams.map (fun p => p.2.busy - (match Map.find l.streams p.1 with | some h => h.busy | none => 0))).sum
/-- The work of a run of microwords: how many have issued, the cycles that they can have taken at most (R235), those that waits of theirs took, and the cycles
of hash cores (R129). -/
structure RunWork where
  words : Nat
  most : Nat
  waits : Nat
  cores : Nat
  deriving DecidableEq, Repr
/-- Run microwords of the kernel from the LE's address on, until the job ends, waits, leaves the kernel's range, comes to a word that waits to be rewritten
(R236), or comes to a safe point where an event is latched or which is not the first; at an EXIT only a latched event of rank 1 acts (R238). `n` bounds the
microwords. -/
def runKernel (k : Kernel) (e : Nat) (r : JobRef) : Nat → Bool → RunWork → State → Out × RunWork
  | 0, _, c, s => (.next s, c)
  | n + 1, first, c, s =>
    let l := s.le e
    let v := k.word (l.regs.upc - k.base)
    let exits := mwSeq v == 7
    let ends := (s.engine e).latched.any (fun x => x == 1 || x == 2)
    if l.job ≠ some r ∨ !k.owns l.regs.upc ∨ (bitAt v 46 ∧ (!first ∨ ((s.engine e).latched ≠ [] ∧ !exits))) ∨ s.wordBad e ∨
        (s.cluster (clusterOf e)).badWords.contains (true, mwNano v) then (.next s, c)
    else match if s.nanoClean (mwNano v) then nano (mwNano v) else none with
      | none => (.next (s.leDone e 0x54 0 0 []), c)
      | some d =>
        let w := s.mwOf e v d
        let c' : RunWork := ⟨c.words + 1, c.most + s.nanoCycles (mwNano v) + seqCost (mwSeq v), c.waits + (l.waited - l.billed), c.cores⟩
        match if exits && bitAt v 46 && ends then .next s else d.run { w with safePoint := w.safePoint && !exits } s with
        | .next t =>
          if (t.le e).job = some r ∧ (t.le e).waiting ≠ none then (.next t, c)
          else if (t.le e).job ≠ some r then (.next t, c')
          else match runSeq (mwSeq v) { w with wait := 0 } t with
            | .next u => runKernel k e r n false { c' with cores := c.cores + coreWork l (t.le e) } u
            | o => (o, c')
        | o => (o, c')

/-- A kernel's job that is charged this much more reaches the worst cost of its LE, or of the hash cores that it has used (R243). -/
def Kernel.spent (k : Kernel) (j : Job) (used : Work) : Bool :=
  decide (k.cost.2.le ≤ j.charged.le + used.le) || (decide (0 < j.charged.hc + used.hc) && decide (k.cost.2.hc ≤ j.charged.hc + used.hc))
/-- The running job of a kernel and its LE. -/
def State.kernelJob (s : State) (r : JobRef) : Option (Job × Kernel × Nat) :=
  match s.findJob r with
  | some j => match j.kernel with
    | some k => if j.state = .running ∧ !s.clk.gated then some (j, k, (j.units.filter (fun u => decide (u < 256))).headD 0) else none
    | none => none
  | none => none
/-- The charge of a run: its LE's waits, and for its path a free number from the microwords issued, one a cycle, to the path's worst; its streams' cores by
their blocks (R129, R221, R235; log 12). -/
def State.runCharge (s : State) (c : RunWork) : Work := ⟨c.waits + c.words + s.draw % (c.most - c.words + 1), c.cores, 0, 0⟩
/-- OWNER_KERNEL_JOB: the job runs its kernel to the next safe point and is charged for it; where that reaches the worst cost of the header, the job ends with
ENGINE_FAULT instead and releases nothing (R129, R243). -/
def execOwnerKernelJob (j : JobRef) (s : State) : Out :=
  match s.kernelJob j with
  | none => .next s
  | some (x, k, e) =>
    let used := s.runCharge (runKernel k e j 16385 true ⟨0, 0, 0, 0⟩ s.drawn).2
    let t := s.drawn.charge j (used.min (k.cost.2.sub x.charged))
    if k.spent x used then .next (t.leDone e 0x54 0 0 []) else (runKernel k e j 16385 true ⟨0, 0, 0, 0⟩ t).1
/-- What the running path and the wait of a kernel's LE may still be charged before the next safe point (R235). -/
def State.pathLeft (s : State) (e : Nat) : Nat := 16384 + ((s.le e).waited - (s.le e).billed)
/-- OWNER_KERNEL_COST_LIMIT: within the running path the charge reaches the worst cost of the LE, or of the cores that its streams hold: ENGINE_FAULT, not
retried, nothing released (R243). -/
def execOwnerKernelCostLimit (j : JobRef) (s : State) : Out :=
  match s.kernelJob j with
  | none => .next s
  | some (x, k, e) =>
    let le := decide (k.cost.2.le ≤ x.charged.le + s.pathLeft e)
    let hc := (s.le e).streams != [] && decide (k.cost.2.hc ≤ x.charged.hc + 8 * s.pathLeft e)
    let used : Work := ⟨if le then k.cost.2.le - x.charged.le else 0, if hc && !le then k.cost.2.hc - x.charged.hc else 0, 0, 0⟩
    when (le || hc) s ((s.charge j used).leDone e 0x54 0 0 [])

/-! ### The loader's checks (R245) -/

/-- The row of a library entry point: worst cycles to its first safe point, from its last safe point to RET, and stack depth (R248). -/
def libraryRow (lib : List Bytes) (a : Nat) : Option (Nat × Nat × Nat) :=
  (lib.find? (fun r => fieldAt r 0 2 == a)).map (fun r => (fieldAt r 2 2, fieldAt r 4 2, fieldAt r 6 1))
/-- What the loader's checks read of the nanostore and the library table that are loaded: the cycle_count of each index, and the rows (R245, R247). -/
structure Loaded where
  cycles : Nat → Nat
  library : List Bytes
def State.loadedStore (s : State) : Loaded := ⟨s.nanoCycles, s.library⟩
/-- What a check gives: none where it passes, else the offset of the failing item. -/
abbrev Failing := Option Nat
/-- The offset of the first failing item of a list. -/
def firstBad (xs : List (Nat × Bool)) : Failing := (xs.find? (fun p => !p.2)).map (fun p => p.1)

/-- Step 1: magic, kind, format, length, header ranges. -/
def Kernel.headerCheck (k : Kernel) (room : Nat) : Failing :=
  let f := fieldAt k.image
  firstBad [(0, f 0 4 == 0x4E4D4B31), (4, f 4 1 == 1 || f 4 1 == 2), (5, f 5 1 == 1), (7, decide (k.keyUse ≤ 2)),
    (12, decide (0x3000 ≤ k.base) && decide (k.base ≤ 0x3FFF)), (14, decide (1 ≤ k.nMicro) && decide (k.nMicro ≤ 4096)),
    (16, decide (k.entry < k.nMicro)), (18, decide (k.constOff ≤ 2047)), (20, decide (k.nConst ≤ 2048 - k.constOff)),
    (22, decide (2 ≤ k.scratch) && decide (k.scratch ≤ 32)),
    (28, decide (k.lenMax ≤ 16777216)), (32, decide (k.resultMax ≤ 16777216)), (40, decide (k.cost.1.le ≤ k.cost.2.le)),
    (48, decide (k.cost.1.hc ≤ k.cost.2.hc)), (52, zeros (slice k.image 52 12)), (64, decide (k.size ≤ room))]
/-- The kernel key that an image carries, and its offset. -/
def Kernel.keyAt (k : Kernel) : Nat := k.size - 4627 - 2592
/-- The security version that a patch carries, whose place the layout does not give (log 9). -/
def svnOf (k : Kernel) : Nat := Config.unstated 53 [beNat k.image] % 17
/-- A version exceeds the one bound to the same opcode, where one is (R242). -/
def State.versionRises (s : State) (k : Kernel) : Bool := match Map.find s.kern.bound k.binding with | some o => decide (o.version < k.version) | none => true
/-- Versions held in the patch slots. -/
def slotVersion (p : Option Patch) : Nat := match p with | some x => x.version | none => 0
/-- The patch key of the boot ROM: its value is not given (log 15). -/
def romPatchKey : Nat := Config.firmware 0x2400
/-- Step 2: the key, the signature and the version rule (R240, R242). -/
def State.signatureCheck (s : State) (k : Kernel) : Failing :=
  let key := slice k.image k.keyAt 2592
  let patch := fieldAt k.image 4 1 == 2
  firstBad [(k.keyAt, if patch then beNat key == romPatchKey else s.rd 0x2400 6 != 0 && sha3 key == s.rd 0x2400 6),
    (k.keyAt + 2592, Config.check .mlDsaVerify [oct 3, key, ascii "NM72 OWNER KERNEL", k.image.take (k.keyAt + 2592), slice k.image (k.keyAt + 2592) 4627]),
    (8, if patch then decide (Nat.max (slotVersion s.kern.slotA) (slotVersion s.kern.slotB) < k.version) && decide (s.lc.floor ≤ svnOf k)
        else s.versionRises k)]
/-- A job of the kernel is in progress. -/
def State.kernelBusy (s : State) (k : Kernel) : Bool := s.jobs.any (fun (j : Job) => j.live && j.kernel == some k)
/-- Step 3: the microword range and the constants range, apart from every kernel held but one that this replaces and that no job runs (R246). -/
def State.rangeCheck (s : State) (k : Kernel) : Failing :=
  let others := s.kernelsHeld.filter (fun o => !(o.binding == k.binding && !s.kernelBusy o))
  firstBad [(12, decide (k.base + k.nMicro ≤ 0x4000) && others.all (fun o => apartK k.base k.nMicro o.base o.nMicro)),
    (18, others.all (fun o => k.nConst == 0 || o.nConst == 0 || apartK k.constOff k.nConst o.constOff o.nConst))]
where
  /-- Two ranges do not meet. -/
  apartK (a n b m : Nat) : Bool := decide (a + n ≤ b) || decide (b + m ≤ a)
/-- A register field suits its kind: spare bits zero, groups aligned (R197, R223). -/
def fieldFits (kind v : Nat) : Bool :=
  if kind = 0 then v == 0 else if kind = 100 then decide (v < 16) else if kind = 101 then decide (v < 4) else v % kind == 0 && decide (v + kind ≤ 32)
/-- Step 4 for one microword (R222, R223, R226, R227, R230). -/
def wordOk (v : Nat) : Bool :=
  match nano (mwNano v) with
  | none => false
  | some d =>
    let seq := mwSeq v
    let test := decide (2 ≤ seq ∧ seq ≤ 3) || seq == 6
    let usesAddr := decide (1 ≤ seq ∧ seq ≤ 4) || seq == 6
    fieldFits d.dest (mwDest v) && fieldFits d.src1 (mwSrc1 v) &&
      (if test || (seq == 7 && d.src2 == 0) then d.src2 == 0 && decide (mwSrc2 v < 16) else fieldFits d.src2 (mwSrc2 v)) &&
      (usesAddr || d.imm || mwAddr v == 0) && !(usesAddr && d.imm) && decide (mwWait v ≤ 6)
/-- Step 5 for one microword: the kind is legal for the class, and secret_only only in secret class (R205, R226). -/
def classOk (v : Nat) : Bool :=
  match nano (mwNano v) with
  | none => false
  | some d => if bitAt v 47 then [1, 6, 7].contains (mwSeq v) && !d.imm else !d.secretOnly
/-- The first microword that breaks a rule. -/
def Kernel.wordsCheck (k : Kernel) (p : Nat → Bool) : Failing := (List.range k.nMicro).find? (fun i => !p (k.word i))

/-- A place in the kernel with its stack of return addresses. -/
abbrev FlowPlace := Nat × List Nat
/-- The places that may follow a place: a library routine returns to its caller (R226, R227, R245). -/
def Kernel.successors (k : Kernel) (c : FlowPlace) : List FlowPlace :=
  let v := k.word (c.1 - k.base)
  let next := c.1 + 1
  let dst := mwAddr v
  let jump := if k.owns dst then [(dst, c.2)] else match c.2 with | a :: rest => [(a, rest)] | [] => []
  match mwSeq v with
  | 0 => [(next, c.2)]
  | 1 => jump
  | 4 => if k.owns dst then [(dst, next :: c.2)] else [(next, c.2)]
  | 5 => match c.2 with | a :: rest => [(a, rest)] | [] => []
  | 7 => []
  | _ => (next, c.2) :: jump
/-- The places reached from some places in `n` rounds, while the stack is no deeper than nine. -/
def Kernel.reach (k : Kernel) : Nat → List FlowPlace → List FlowPlace
  | 0, cs => cs
  | n + 1, cs =>
    let more := ((cs.filter (fun c => k.owns c.1 && decide (c.2.length ≤ 8))).flatMap (fun c => k.successors c)).filter (fun c => !cs.contains c)
    if more = [] then cs else k.reach n (cs ++ more.eraseDups)
/-- Every place a run can reach. -/
def Kernel.places (k : Kernel) : List FlowPlace := k.reach (k.nMicro * 512) [(k.base + k.entry, [])]
/-- A transfer target lies in the range or is a library entry point. -/
def Kernel.targetOk (k : Kernel) (m : Loaded) (a : Nat) : Bool := k.owns a || libraryEntry m.library a
/-- The target of a microword's transfer, if it has one, is allowed. -/
def Kernel.goesWell (k : Kernel) (m : Loaded) (v : Nat) : Bool := !(decide (1 ≤ mwSeq v ∧ mwSeq v ≤ 4) || mwSeq v == 6) || k.targetOk m (mwAddr v)
/-- The library routine that a microword may go to: a transfer of any kind out of the kernel's range (R229, R248). -/
def Kernel.libraryAt (k : Kernel) (m : Loaded) (a : Nat) : Option (Nat × Nat × Nat) :=
  let v := k.word (a - k.base)
  if (decide (1 ≤ mwSeq v ∧ mwSeq v ≤ 4) || mwSeq v == 6) && !k.owns (mwAddr v) then libraryRow m.library (mwAddr v) else none
/-- Step 6: targets of every word, then recursion and stack depth along the flow, a library routine's own depth counted at whatever kind of transfer goes to
it; endless recursion passes any depth. -/
def Kernel.flowCheck (k : Kernel) (m : Loaded) : Failing :=
  match k.wordsCheck (k.goesWell m) with
  | some i => some i
  | none => (k.places.find? (fun c =>
    let deep := match k.libraryAt m c.1 with | some (_, _, d) => (if mwSeq (k.word (c.1 - k.base)) = 4 then 1 else 0) + d | none => 0
    !k.owns c.1 || decide (8 < c.2.length + deep))).map (fun c => c.1 - k.base)
/-- The places that follow through no library routine, and those that one returns to. -/
def Kernel.direct (k : Kernel) (m : Loaded) (c : FlowPlace) : List FlowPlace :=
  match k.libraryAt m c.1 with
  | none => k.successors c
  | some _ => if mwSeq (k.word (c.1 - k.base)) = 1 ∨ mwSeq (k.word (c.1 - k.base)) = 4 then [] else [(c.1 + 1, c.2)]
def Kernel.returns (k : Kernel) (m : Loaded) (c : FlowPlace) : List FlowPlace :=
  match k.libraryAt m c.1 with
  | none => []
  | some _ => if mwSeq (k.word (c.1 - k.base)) = 4 then [(c.1 + 1, c.2)] else match c.2 with | a :: rest => [(a, rest)] | [] => []
/-- The cost of a microword. -/
def Kernel.costOf (k : Kernel) (m : Loaded) (a : Nat) : Nat :=
  let v := k.word (a - k.base)
  m.cycles (mwNano v) + seqCost (mwSeq v)
/-- Places from which a path goes on: in the range, and not at a safe point. -/
def Kernel.goesOn (k : Kernel) (cs : List FlowPlace) : List FlowPlace := cs.filter (fun d => k.owns d.1 && !bitAt (k.word (d.1 - k.base)) 46)
/-- The longest path from a place to the next safe point, a library routine's first one among them, in cycles; the fuel runs out on a cycle without one. -/
def Kernel.path (k : Kernel) (m : Loaded) : Nat → FlowPlace → Nat
  | 0, _ => 0
  | n + 1, c =>
    let lib := match k.libraryAt m c.1 with | some (x, _, _) => x | none => 0
    k.costOf m c.1 + (k.goesOn (k.direct m c)).foldl (fun x d => Nat.max x (k.path m n d)) lib
/-- The longest path from the last safe point of a library routine on. -/
def Kernel.afterLibrary (k : Kernel) (m : Loaded) (c : FlowPlace) : Nat :=
  match k.libraryAt m c.1 with
  | some (_, d, _) => d + (k.goesOn (k.returns m c)).foldl (fun y x => Nat.max y (k.path m 16385 x)) 0
  | none => 0
/-- Step 7: waiting microwords are safe points, and the path limits hold, from every place a run can reach and from every word of the range (R231, R235). -/
def Kernel.pathCheck (k : Kernel) (m : Loaded) : Failing :=
  match k.wordsCheck (fun v => mwWait v == 0 || bitAt v 46) with
  | some i => some i
  | none => ((k.places ++ (List.range k.nMicro).map (fun i => (k.base + i, []))).find? (fun (c : FlowPlace) =>
      decide (16384 < k.path m 16385 c) || decide (16384 < k.afterLibrary m c))).map (fun (c : FlowPlace) => c.1 - k.base)
/-- The loader's checks from step 4 on (R245, R247): the failing step and offset. -/
def State.laterChecks (s : State) (k : Kernel) : Option (Nat × Nat) :=
  [(4, k.wordsCheck (fun v => wordOk v && s.nanoClean (mwNano v))), (5, k.wordsCheck classOk), (6, k.flowCheck s.loadedStore), (7, k.pathCheck s.loadedStore),
   (8, firstBad [(18, decide (k.constOff + k.nConst ≤ 2048)), (22, decide ((if k.keyUse = 0 then 2 else 10) ≤ k.scratch))])].findSome?
    (fun p => p.2.map (fun o => (p.1, o)))
/-- All the loader's checks in order. A patch's microcode and nanostore stand in its encrypted body, so steps 3 to 8 are a kernel's (R240). -/
def State.loaderChecks (s : State) (k : Kernel) : Option (Nat × Nat) :=
  match k.headerCheck 64000 with
  | some o => some (1, o)
  | none => match s.signatureCheck k with
    | some o => some (2, o)
    | none =>
      if fieldAt k.image 4 1 = 2 then none
      else match s.rangeCheck k with
        | some o => some (3, o)
        | none => s.laterChecks k

/-! ### Installing (R244, R246) -/

/-- The staged image, cut to its length (R244). -/
def State.stagedImage (s : State) : Kernel :=
  let b := ((List.range 64).map (fun i => beBytes 1000 (Map.getD s.kern.staged (i + 1) 0))).flatten
  let k : Kernel := ⟨fieldAt b 6 1, b⟩
  { k with image := b.take k.size }
/-- A subindex of STAGE is written. -/
def State.stage (s : State) (sub v : Nat) : State := { s with kern := { s.kern with staged := Map.store s.kern.staged sub v 0 } }
/-- INSTALL: the staged image begins to be verified (R244). -/
def State.install (s : State) : State := { s.wr 0x2421 3 1 with kern := { s.kern with verifying := some s.stagedImage } }
/-- The image has been verified: it is refused, or its writing to the device flash begins (R244, R245). -/
def State.verified (s : State) : State :=
  match s.kern.verifying with
  | none => s
  | some k => if s.rd 0x2421 3 ≠ 1 ∨ !s.runs then s else match s.loaderChecks k with
    | some (step, off) =>
      { ((s.wr 0x2421 3 4).wr 0x2421 4 (step * 2 ^ 24 + off % 2 ^ 24)).event 0x2421 5 2 with kern := { s.kern with verifying := none } }
    | none => (s.wr 0x2421 3 2).wr 0x2421 4 0
/-- DISCARD: STAGE is zeroed (R244). -/
def State.discardStage (s : State) : State := { s with kern := { s.kern with staged := [] } }
/-- The SHA-384 of an image, as KERNEL and PATCH benchmarks carry it (R358). -/
def Kernel.digest (k : Kernel) : Nat := beNat (prim 48 .sha2_384 [k.image])
/-- REMOVE: the kernel of a binding is unbound, with a KERNEL benchmark of verdict UNKNOWN; where none is bound the removal is counted as refused (R244,
R246, R358; log 42). -/
def State.removeKernel (s : State) (b : Nat) : State :=
  match Map.find s.kern.bound b with
  | none => s.event 0x2421 5 2
  | some k => ({ s with kern := { s.kern with bound := Map.erase s.kern.bound b, committed := Map.erase s.kern.committed b } }.event 0x2421 5 1).record 4 2 0 b 0 k.digest
/-- The kernel's constants stand in every cluster's constants region, public (R242). -/
def State.placeConstants (s : State) (k : Kernel) : State :=
  (List.range 16).foldl (fun u c => (List.range k.nConst).foldl (fun v i =>
    v.setCword c (14336 + k.constOff + i) ⟨fieldAt k.image (64 + 6 * k.nMicro + 9 * i) 9, false⟩) u) s
/-- The kernel is committed and in force: bound, with its constants (R246). -/
def State.bindKernel (s : State) (k : Kernel) : State :=
  { s with kern := { s.kern with bound := Map.put s.kern.bound k.binding k, committed := Map.put s.kern.committed k.binding k } }.placeConstants k
/-- The patch slot that is not in use takes a new patch (R240). -/
def State.storePatch (s : State) (k : Kernel) : State :=
  let p : Patch := ⟨k.version, svnOf k, k.image⟩
  if s.rd 0x2400 1 = 1 then { s.wr 0x2400 4 k.version with kern := { s.kern with slotB := some p } }
  else { s.wr 0x2400 3 k.version with kern := { s.kern with slotA := some p } }
/-- KERNEL_COMMIT: the verified image's commit mark is programmed, and it is bound or stored; a program operation that fails is made again. A kernel whose
ranges jobs of the one it replaces have come to use meanwhile waits until they have ended (R246; log 43). -/
def execKernelCommit (ok : Bool) (s : State) : Out :=
  let s := s.verified
  match s.kern.verifying with
  | none => .next s
  | some k =>
    let t := { s with kern := { s.kern with verifying := none } }
    let patch := fieldAt k.image 4 1 == 2
    let t := if patch then t.storePatch k else t.bindKernel k
    let t := (t.wr 0x2421 3 3).event 0x2421 5 1
    when (s.runs && ok && (patch || (s.rangeCheck k).isNone)) s (if patch then t else t.record 4 1 0 k.binding 0 k.digest)

/-! ### Loading at a start (R239, R247) -/

/-- The patch key: derived from the family root of the boot ROM, whose value is not given, for the silicon stepping; in TERMINAL
nothing is derived, and no patch decrypts (*Device keys*, R308; log 15). -/
def State.patchKey (s : State) : Bytes :=
  if s.lifecycle = 6 then [] else
  prim 32 .kmac256 [beBytes 32 (Config.firmware 0x2402 % 2 ^ 256),
    ascii "PATCH" ++ oct (s.lc.step % 256) ++ [BitVec.ofNat 8 (lcClass s.lifecycle), if s.debug then 1 else 0], ascii "NM72 DERIVE"]
/-- A slot qualifies: signed with ML-DSA-87 under the patch key of the boot ROM, decrypted, and at the floor or above (R239, R242). -/
def State.slotQualifies (s : State) (p : Patch) : Bool :=
  let n := p.image.length - 4627
  decide (s.lc.floor ≤ p.svn) && s.lifecycle != 6 &&
    Config.check .mlDsaVerify [oct 3, beBytes 2592 romPatchKey, ascii "NM72 OWNER KERNEL", p.image.take n, p.image.drop n] &&
    Config.check .aesGcmOpen [s.patchKey, p.image]
/-- The slots in the order they are tried: higher version first (R239). -/
def State.slotOrder (s : State) : List (Nat × Patch) :=
  let a := (s.kern.slotA.toList).map (fun p => (1, p))
  let b := (s.kern.slotB.toList).map (fun p => (2, p))
  if slotVersion s.kern.slotA < slotVersion s.kern.slotB then b ++ a else a ++ b
/-- The control store and nanostore are loaded, with PATCH benchmarks of what was tried (R239, R358). -/
def State.loadPatch (s : State) : State :=
  let digest := fun (p : Patch) => beNat (prim 48 .sha2_384 [p.image])
  let tried := s.slotOrder.takeWhile (fun x => !s.slotQualifies x.2)
  let s' := tried.foldl (fun u x => u.record 3 3 0 x.1 0 (digest x.2)) s
  match s.slotOrder.find? (fun x => s.slotQualifies x.2) with
  | some x =>
    let t := ((s'.wr 0x2400 1 x.1).wr 0x2400 2 x.2.svn).record 3 1 0 x.1 0 (digest x.2)
    let t := if tried = [] then t else t.event 0x2400 7 1
    { t with kern := { t.kern with tenantsServed := true } }
  | none =>
    let t := ((s'.wr 0x2400 1 0).wr 0x2400 2 0).record 3 0 0 0 0 (Config.firmware 0x2401 % 2 ^ 384)
    let t := if s.lc.floor ≠ 0 then t.event 0x2400 7 2 else if s.slotOrder = [] then t else t.event 0x2400 7 1
    { t with kern := { t.kern with tenantsServed := s.lc.floor == 0 } }
/-- Every committed kernel is checked again, from step 4 on, against the nanostore and the library table that this start has loaded; one that fails stays
committed and is left unbound (R247). -/
def State.recheckKernels (s : State) : State :=
  s.kern.committed.foldl (fun u p =>
    match s.laterChecks p.2 with
    | some _ => { u with kern := { u.kern with bound := Map.erase u.kern.bound p.1 } }.record 4 3 0 p.1 0 p.2.digest
    | none => ({ u with kern := { u.kern with bound := Map.put u.kern.bound p.1 p.2 } }.placeConstants p.2).record 4 1 0 p.1 0 p.2.digest) s

/-- The floor's fuses are programmed (R241). -/
def State.raiseFloor (s : State) (f : Nat) : State := { s with lc := { s.lc with floor := f } }

end Machine
end Sys2Proof
end

