-- ==== Sys2Proof/Machine/Datum.lean ====
section
/-! DEFINITION. Datum time: quality, steps, PTP and the loss of REFCLK_SD (02 R33-R38, 06 R126, R127, R142, 20 R433). -/

namespace Sys2Proof
namespace Machine

/-- An integer as its magnitude. -/
def magnitude (i : Int) : Nat := i.natAbs

/-! ### Quality and steps (R36, R37) -/

/-- The acquisition of the port that carries PTP begins again; what the backup has heard stays (R36, R37; log 39). -/
def Ptp.restart (p : Ptp) : Ptp :=
  match p.cur with
  | some c => { p with ports := Map.update p.ports c (fun (x : PtpPort) => { x with good := 0, bad := 0, stepped := false }) }
  | none => p
/-- Datum quality changes: counted in QUALITY_EVENTS and sent as an EVENT (R37). -/
def State.setQuality (s : State) (q : Nat) : State :=
  if s.quality = q then s
  else
    let t := { s with ptp := { s.ptp.restart with holdoverAt := if q = 1 then s.clk.rtc else s.ptp.holdoverAt } }
    ((t.wr 0x1100 2 q).event 0x1100 8 (if q = 1 then 2 else if q = 0 then 4 else 0)).notify 0 none 1
/-- A datum step: logged with the datum before and after, counted with STEP, sent as an EVENT; the running lap ends and a short lap begins, in which
activities whose instants were passed fall due once; a lap length that waits waits for a second of the new datum (R36, R125, R126, R142; log 134). -/
def State.stepDatum (s : State) (ns : Nat) : State :=
  let before := time80 s.clk.datum
  let t := { s with clk := { s.clk with datum := ns, frac := 0, maxDatum := Nat.max s.clk.maxDatum ns } }
  let t := t.logRow 8 0 0xFF 0 0xFF 0 before
  let t := (t.event 0x1100 8 1).notify 0 none 0
  t.lengthWritten.shortLap.dueActivities

/-! ### PTP (R33, R37) -/

/-- The port named by an entry of 0x1101, where it names one. -/
def portNamed (v : Nat) : Option Nat := if v ≤ 3 then some v else none
/-- The hardware timestamp of an instant: the datum within 8 ns (R34). -/
def State.stampNow (s : State) (err : Int) : Int := (s.clk.datum : Int) + (if err < -8 then -8 else if 8 < err then 8 else err)
/-- A PTP message of the configured transport and domain (entries 0x1101.03 and .05). -/
def State.ptpFits (s : State) (h : PtpHdr) : Bool := h.transport == s.rd 0x1101 3 && h.domain == s.rd 0x1101 5
/-- The backup port, where it is not the one that carries PTP now. Once moved, PTP returns to PTP_PORT when that entry is written (log 100). -/
def State.ptpBackup (s : State) : Option Nat :=
  match portNamed (s.rd 0x1101 2) with
  | some b => if s.ptp.cur = some b ∨ s.rd 0x1101 1 = 0xFF then none else some b
  | none => none
/-- The port carries PTP or listens as backup (R33, R37). -/
def State.ptpOn (s : State) (p : Nat) : Bool := s.clk.sd && s.linkUp p && (s.ptp.cur == some p || s.ptpBackup == some p)
/-- The backup port is locked (R37). -/
def State.backupLocked (s : State) : Option Nat :=
  match s.ptpBackup with
  | some b => if s.linkUp b ∧ (s.ptpPort b).master.isSome ∧ 16 ≤ (s.ptpPort b).near then some b else none
  | none => none
/-- PTP moves to a port; entry 0x1100.06 names the master there (R33, R37, R40). -/
def State.movePtp (s : State) (p : Nat) : State :=
  let t := { s with ptp := { s.ptp with cur := some p } }
  let t := t.setPtpPort p { t.ptpPort p with bad := 0, heard := if (t.ptpPort p).master.isNone then t.clk.fab else (t.ptpPort p).heard }
  t.wr 0x1100 6 (match (s.ptpPort p).master with | some m => m.ident % 2 ^ 80 | none => 0)
/-- The PTP port has gone down: PTP moves to the backup where that is up (R33). -/
def State.ptpLinkDown (s : State) (p : Nat) : State :=
  match s.ptpBackup with
  | some b => if s.ptp.cur = some p ∧ s.linkUp b then s.movePtp b else s
  | none => s
/-- PTP_PORT has been written: PTP is carried there from now on, or is off and a LOCKED datum goes to HOLDOVER (R37, R40). -/
def State.ptpPortWritten (s : State) : State :=
  match portNamed (s.rd 0x1101 1) with
  | some p => if s.ptp.cur = some p then s else s.movePtp p
  | none =>
    let t := { s with ptp := { s.ptp with cur := none } }.wr 0x1100 6 0
    if s.quality = 2 then t.setQuality 1 else t

/-- PTP_ANNOUNCE_MESSAGE: the better master is selected, and its announce interval in ns is kept (R33). -/
def execPtpAnnounceMessage (port : Nat) (m : PtpMaster) (a : PtpAnnounce) (s : State) : Out :=
  let x := s.ptpPort port
  let keep : Bool := match x.master with
    | some o => o.ident != m.ident && decide (o.rank ≤ m.rank)
    | none => false
  let same : Bool := match x.master with
    | some o => o.ident == m.ident
    | none => false
  if s.phase ≠ .up ∨ !s.ptpOn port ∨ !s.ptpFits a.h ∨ keep then .next s
  else
    let x := { x with master := some m, heard := s.clk.fab, interval := a.interval * 5 / 4 }
    let t := s.setPtpPort port (if same then x else { x with good := 0, near := 0, bad := 0, stepped := false, sync := none, asked := none })
    .next (if s.ptp.cur = some port then (t.wr 0x1100 6 (m.ident % 2 ^ 80)).wr 0x1100 7 (twos 32 a.utcOffset) else t)

/-- The adjustment of the increment that the servo chooses, in units of 10^-12, within 500 ppm: the servo's law is not stated (R35; log 40). -/
def State.servoAdj (s : State) : Int := (s.draw % 1000000001 : Nat) - 500000000
/-- The servo adjusts the increment (R35, R36). -/
def State.servo (s : State) : State :=
  let a := s.servoAdj
  let t := s.drawn.wr 0x1100 5 (twos 32 a)
  { t with clk := { t.clk with incr := ((13743895347 : Int) + 13743895347 * a / 1000000000000).toNat } }

/-- The Syncs in a row within LOCK_THRESHOLD, this one with its offset included (R37). -/
def State.nearNow (s : State) (p : Nat) (off : Int) : Nat := if magnitude off ≤ s.rd 0x1101 6 then (s.ptpPort p).near + 1 else 0
/-- A Sync on the port that carries PTP: the offset, a step where the master's first offset beyond the threshold calls for one, the servo, and LOCKED or
HOLDOVER (R36, R37). -/
def State.syncOn (s : State) (p : Nat) (off : Int) : State :=
  let x := { s.ptpPort p with near := s.nearNow p off }
  let t := s.wr 0x1100 3 (twos 64 off)
  if s.quality = 2 then
    let bad := if s.rd 0x1101 7 < magnitude off then x.bad + 1 else 0
    let t := (t.setPtpPort p { x with bad }).servo
    if 4 ≤ bad then t.setQuality 1 else t
  else if s.rd 0x1101 8 < magnitude off ∧ !x.stepped then
    (t.setPtpPort p { x with good := 0, stepped := true }).stepDatum ((s.clk.datum : Int) - off).toNat
  else
    let good := if magnitude off ≤ s.rd 0x1101 6 then x.good + 1 else 0
    let t := (t.setPtpPort p { x with good }).servo
    if 16 ≤ good then t.setQuality 2 else t

/-- PTP_SYNC_MESSAGE with the master's time `t1`, stamped by hardware with the error that `k` gives (R34, R36, R37); the backup port's are judged against
LOCK_THRESHOLD alone. -/
def execPtpSyncMessage (k : PtpStamp) (h : PtpHdr) (masterId : Nat) (t1 : Int) (s : State) : Out :=
  let port := k.port
  let x := s.ptpPort port
  let t2 := s.stampNow k.err
  let off := t2 - t1 - x.delay
  match x.master with
  | none => .next s
  | some m =>
    if s.phase ≠ .up ∨ !s.ptpOn port ∨ !s.ptpFits h ∨ m.ident ≠ masterId then .next s
    else
      let t := s.setPtpPort port { x with sync := some (t1, t2) }
      if s.ptp.cur = some port then .next (t.syncOn port off)
      else .next (t.setPtpPort port { t.ptpPort port with near := s.nearNow port off, good := if magnitude off ≤ s.rd 0x1101 6 then x.good + 1 else 0 })

/-- PTP_DELAY_REQUEST_TIMER: a delay request is sent and stamped on the PTP port or its backup (R33, R34, R37). -/
def execPtpDelayRequestTimer (k : PtpStamp) (s : State) : Out :=
  let port := k.port
  let stamp := s.stampNow k.err
  when (s.phase == .up && s.ptpOn port && (s.rd 0x1101 4 == 1 || (s.ptpPort port).master.isSome)) s
    ((s.setPtpPort port { s.ptpPort port with asked := some stamp }).transmit [.ptpDelayRequest port ⟨s.rd 0x1101 3, s.rd 0x1101 5⟩ (s.rd 0x1101 4 == 1) stamp])

/-- The mean path delay: half of the two directions' sum. End to end from the last Sync and the request that the master received; peer to peer from
the request that the peer received and answered, the answer being stamped now (IEEE 1588; R33). -/
def State.pathDelay (s : State) (k : PtpStamp) (r : PtpTimes) : Option Int :=
  let x := s.ptpPort k.port
  match x.asked with
  | none => none
  | some t3 =>
    if s.rd 0x1101 4 = 1 then some (((s.stampNow k.err - t3) - (r.tx - r.rx)) / 2)
    else match x.sync with
      | some (t1, t2) => some (((t2 - t1) + (r.rx - t3)) / 2)
      | none => none
/-- PTP_DELAY_RESPONSE: the mean of the two directions is the path delay (R33). A negative mean has no stated form in entry 0x1100.04 (log 9). -/
def execPtpDelayResponse (k : PtpStamp) (h : PtpHdr) (r : PtpTimes) (s : State) : Out :=
  let port := k.port
  match s.pathDelay k r with
  | none => .next s
  | some d =>
    let t := s.setPtpPort port { s.ptpPort port with delay := d, asked := none }
    when (s.phase == .up && s.ptpOn port && s.ptpFits h) s
      (if s.ptp.cur = some port then t.wr 0x1100 4 ((if d < 0 then Config.unstated 50 [magnitude d] else d.toNat) % 2 ^ 32) else t)

/-- The port has had no master for announceReceiptTimeout announce intervals (entry 0x1101.0A). -/
def State.noMaster (s : State) (port : Nat) : Bool :=
  decide ((s.ptpPort port).heard + s.rd 0x1101 0xA * (s.ptpPort port).interval ≤ s.clk.fab)
/-- ANNOUNCE_RECEIPT_TIMEOUT: the port has had no master for the interval; PTP moves to a locked backup, else LOCKED becomes HOLDOVER (R37). -/
def execAnnounceReceiptTimeout (port : Nat) (s : State) : Out :=
  let t := s.setPtpPort port { s.ptpPort port with master := none, good := 0, near := 0, bad := 0, stepped := false, sync := none, asked := none }
  if s.phase ≠ .up ∨ !s.noMaster port then .next s
  else if s.ptp.cur = some port then
    match s.backupLocked with
    | some b => .next (t.movePtp b)
    | none =>
      let t := t.wr 0x1100 6 0
      .next (if s.quality = 2 then t.setQuality 1 else t)
  else when (s.ptpBackup == some port) s t

/-- HOLDOVER has lasted longer than HOLDOVER_LIMIT (R37). -/
def State.holdoverOver (s : State) : Bool := s.quality == 1 && decide (s.ptp.holdoverAt + s.rd 0x1101 9 * 1000000000 < s.clk.rtc)
/-- HOLDOVER_LIMIT_EXPIRY (R37). -/
def execHoldoverLimitExpiry (s : State) : Out := when (s.phase == .up && s.holdoverOver) s (s.setQuality 0)

end Machine
end Sys2Proof
end

