-- ==== Sys2Proof/Machine/Ports.lean ====
section
/-! DEFINITION. The Ethernet ports: links, failover, the receive filter, ARP, neighbour discovery, echo and ANNOUNCE, and the loss of REFCLK_SD
(02 R19-R32, 20 R433). -/

namespace Sys2Proof
namespace Machine

/-! ### Addresses (R23, R31) -/

/-- Some tenant of port `p` is carried by port `q` (R31). -/
def State.standsIn (s : State) (q p : Nat) : Bool :=
  q != p && s.tenants.any (fun x => x.2.moved == some q && s.rd (0x1440 + x.1) 1 == p)
/-- The ports whose addresses a port answers for: its own, and those it stands in for (R23, R31). -/
def State.answersFor (s : State) (q : Nat) : List Nat := q :: (List.range 4).filter (fun p => s.standsIn q p)
/-- The port has failed over: another carries tenants of its (R27). -/
def State.failedOver (s : State) (p : Nat) : Bool := (List.range 4).any (fun q => s.standsIn q p)

/-! ### Failover and failback (R31, R32) -/

/-- One gratuitous ARP for a port's IPv4 address and one unsolicited neighbour advertisement for each of its IPv6 addresses, sent on port `q`. -/
def State.proclaim (s : State) (q p : Nat) : State :=
  s.transmit ((if s.rd (0x1400 + p) 7 = 0 then [] else [.gratuitousArp q p (s.rd (0x1400 + p) 7)]) ++ (s.ipv6s p).map (fun a => .unsolicitedNa q p a))
/-- Tenants bound to `p` as primary and to `q` as alternate, not carried elsewhere now. -/
def State.movers (s : State) (p q : Nat) : List Nat :=
  (List.range 64).filter (fun t => s.rd (0x1440 + t) 1 == p && s.rd (0x1440 + t) 2 == q && (s.ten t).moved.isNone)
/-- Failover of the tenants of `p` to `q` (R31): counted in LINK_EVENTS with FAILOVER and entered in the event log (log 41). -/
def State.failover (s : State) (p q : Nat) : State :=
  if s.linkUp p ∨ !s.linkUp q ∨ p = q ∨ s.movers p q = [] then s
  else
    let first := !s.standsIn q p
    let t := (s.movers p q).foldl (fun u i => u.setTen i { u.ten i with moved := some q }) s
    if first then (((t.event (0x1400 + p) 0x13 2).logRow 7 8 0xFF p 0xFF 0 0).notify 1 (some 0) p).proclaim q p else t
/-- Failover wherever a primary is down and an alternate up; what waited for a port goes out (R30, R31; log 41). -/
def State.failovers (s : State) : State :=
  ((List.range 4).foldl (fun u p => (List.range 4).foldl (fun u q => u.failover p q) u) s).sendWaiting
/-- The tenants of `p` move back to it (R32). -/
def State.failback (s : State) (p : Nat) : State :=
  { s with tenants := s.tenants.map (fun (x : Nat × Tenant) => if s.rd (0x1440 + x.1) 1 = p then (x.1, { x.2 with moved := none }) else x) }.proclaim p p
/-- A link is declared down, with its new LINK_STATE: counted; tenants it carried for another port go back to that port at once, without a gratuitous ARP, or
wait (log 101); failover begins; PTP moves (R30, R31, R33, R449). -/
def State.portDown (s : State) (p st : Nat) : State :=
  let t := ((s.wr (0x1400 + p) 0x10 st).event (0x1400 + p) 0x13 1).notify 1 (some 0) p
  let t := t.setPort p { t.port p with announce := none }
  let t := { t with tenants := Map.mapVals (fun (x : Tenant) => if x.moved = some p then { x with moved := none } else x) t.tenants }
  (t.failovers).ptpLinkDown p

/-- LINK_DOWN (R30). -/
def execLinkDown (port : Nat) (s : State) : Out := when (s.phase == .up && s.linkUp port) s (s.portDown port 0)

/-- The FEC of a link at a speed, as FEC_ACTIVE reports it: 1 none, 2 BASE-R, 3 RS-FEC (R20). -/
def fecOf (setting speed : Nat) (partner : List Nat) : Nat :=
  let allowed := if speed = 25 then [3, 2] else [2]
  if setting = 0 then (allowed.find? (fun f => partner.contains f)).getD 1
  else if setting = 3 ∧ speed = 10 then (if partner.contains 2 then 2 else 1)
  else setting
/-- A link may come up at a speed: the port is enabled, not fenced, and set to that speed or AUTO (R19, R39). -/
def State.mayLink (s : State) (p speed : Nat) : Bool :=
  decide (p < 4) && s.clk.sd && !s.clk.gated && !s.clk.coasting && s.rd (0x1400 + p) 0x10 == 0 && s.rd (0x1400 + p) 1 == 1 && !(s.port p).retrain &&
    ((speed == 25 && s.rd (0x1400 + p) 2 != 2) || (speed == 10 && s.rd (0x1400 + p) 2 != 1))
/-- LINK_UP: the link's FEC, duplicate address detection, an ANNOUNCE due at once; it may be an alternate that a failed port waits for (R20, R25, R27,
R31). -/
def execLinkUp (port speed : Nat) (partnerFec conflicts : List Nat) (s : State) : Out :=
  let bad := ([s.linkLocal port] ++ (if s.rd (0x1400 + port) 9 = 0 then [] else [s.rd (0x1400 + port) 9])).filter (fun a => conflicts.contains a)
  let t := (s.wr (0x1400 + port) 0x10 (if speed = 25 then 2 else 1)).wr (0x1400 + port) 0x11 (fecOf (s.rd (0x1400 + port) 3) speed partnerFec)
  let t := t.setPort port { t.port port with upSince := s.clk.fab, badAddrs := bad, partnerFec := partnerFec, announceDue := s.clk.fab }
  let t := t.transmit (([s.linkLocal port] ++ (if s.rd (0x1400 + port) 9 = 0 then [] else [s.rd (0x1400 + port) 9])).map (fun a => TxFrame.neighbourProbe port a))
  when (s.phase == .up && s.mayLink port speed) s
    ((t.event (0x1400 + port) 0x13 (if bad = [] then 0 else 4)).notify 1 (some 0) port).failovers

/-- FAILBACK_HOLD_EXPIRY: the failed port has been up for the hold time (R32). -/
def execFailbackHoldExpiry (port : Nat) (s : State) : Out :=
  when (s.phase == .up && s.linkUp port && s.failedOver port && s.rd 0x1410 4 != 0 &&
      decide ((s.port port).upSince + s.rd 0x1410 4 * msFab ≤ s.clk.fab)) s (s.failback port)

/-- PORT_CONFIG_CHANGE: a write of SPEED or FEC retrains the link, which is down meanwhile (R21, R30). -/
def execPortConfigChange (port : Nat) (s : State) : Out :=
  let t := s.setPort port { s.port port with retrain := false }
  when (s.phase == .up && (s.port port).retrain) s (if s.linkUp port then t.portDown port 0 else t)

/-- Every link drops at once, so no port takes over from another (R427, R431, R433). -/
def State.dropLinks (s : State) : State :=
  let t := (List.range 4).foldl (fun u p => if s.linkUp p then
    (((u.wr (0x1400 + p) 0x10 0).event (0x1400 + p) 0x13 1).setPort p { u.port p with announce := none }).notify 1 (some 0) p else u) s
  { t with tenants := Map.mapVals (fun (x : Tenant) => { x with moved := none }) t.tenants }

/-- REFCLK_SD_LOST: every link drops, the always-on clock carries the datum at quality FREE (R38, R433); in reset the loss itself is not counted. -/
def execRefclkSdLost (s : State) : Out :=
  let t := { s with clk := { s.clk with sd := false, aonFrac := 0 } }.dropLinks
  when s.clk.sd s (if s.phase = .down then t.setQuality 0 else (t.event 0x1200 7 16).setQuality 0)

/-- REFCLK_SD_RETURN: the counter resumes; the lap in progress ends and a short lap runs, with no step (R38, R127). -/
def execRefclkSdReturn (s : State) : Out :=
  let t := { s with clk := { s.clk with sd := true } }
  when (!s.clk.sd) s (if s.phase ≠ .up ∨ s.clk.gated then t else t.shortLap)

/-! ### The receive filter (R19, R22, R23) -/

/-- A frame that the port's size, FCS or VLAN rules drop (R22), or PAUSE and PFC (R19). -/
def State.badFrame (s : State) (p : Nat) (f : EthFrame) : Bool :=
  let vid := s.rd (0x1400 + p) 5 % 4096
  !f.fcsOk || decide (s.rd (0x1400 + p) 4 < f.len) || (f.vlan.isSome && decide (9216 < f.len + 4)) || f.etherType == 0x8808 ||
    (match f.vlan with | some v => v % 4096 != vid | none => vid != 0)
/-- The UDP ports and multicast addresses of PTP (IEEE 1588 Annexes C and D). -/
def ptpUdp (u : Nat) : Bool := u == 319 || u == 320
/-- The port receives Opfel in an encapsulation: 0 IPv4, 1 IPv6, 2 raw (entry 0x140p.06). -/
def State.receivesIn (s : State) (p encap : Nat) : Bool :=
  match s.rd (0x1400 + p) 6, encap with
  | 0, 0 | 1, 1 | 2, 0 | 2, 1 | 3, 2 => true
  | _, _ => false
/-- An Opfel frame is addressed to a port: to an address and the UDP port of that port or of one it stands in for, or to such a port's MAC address under the
configured EtherType (R23, R31). -/
def State.addressed (s : State) (p encap dst dport : Nat) : Bool :=
  s.receivesIn p encap && (s.answersFor p).any (fun q => match encap with
    | 0 => dst != 0 && s.rd (0x1400 + q) 7 == dst && s.rd (0x1400 + q) 0xA == dport
    | 1 => (s.ipv6s q).contains dst && s.rd (0x1400 + q) 0xA == dport
    | _ => s.mac q == dst && s.rd 0x1410 1 == dport)
/-- The destinations of ANNOUNCE, by encapsulation (R27). -/
def allNodes (encap : Nat) : Nat := if encap = 0 then 0xFFFFFFFF else if encap = 1 then 0xFF02 * 2 ^ 112 + 1 else 0xFFFFFFFFFFFF
/-- An ANNOUNCE comes to every station (R27, R28). -/
def State.announced (s : State) (p encap dst dport : Nat) : Bool :=
  s.receivesIn p encap && dst == allNodes encap && dport == (if encap = 2 then s.rd 0x1410 1 else s.rd (0x1400 + p) 0xA)
/-- The protocol above Ethernet is one the port takes: ARP, PTP, the raw EtherType, ICMP, ICMPv6, and UDP to its port and address, unbroken (R23, R25, R33).
PTP's own ports and EtherType pass whatever TRANSPORT and PTP_PORT say (log 100). -/
def State.protocolOk (s : State) (p : Nat) (f : EthFrame) : Bool :=
  let udp := fun (encap : Nat) => f.proto == 17 && (f.sumOk || (f.sumZero && encap == 0)) &&
    (ptpUdp f.udpPort || s.addressed p encap f.dstIp f.udpPort || s.announced p encap f.dstIp f.udpPort)
  if f.etherType = 0x0806 ∨ f.etherType = 0x88F7 then true
  else if f.etherType = 0x0800 then !f.fragment && !f.options && (f.proto == 1 || udp 0)
  else if f.etherType = 0x86DD then !f.options && !f.fragment && (f.proto == 58 || udp 1)
  else s.addressed p 2 f.dst f.etherType || s.announced p 2 f.dst f.etherType
/-- ETHERNET_FRAME_RECEIVE: frames that the filter drops are counted in RX_DROPPED; what it passes reaches the functions whose commands these are
(R22, R23). A frame for another station changes nothing. -/
def execEthernetFrameReceive (port : Nat) (f : EthFrame) (s : State) : Out :=
  when (s.phase == .up && s.linkUp port && (s.badFrame port f ||
      (!s.protocolOk port f && (bitAt f.dst 40 || (s.answersFor port).any (fun p => s.mac p == f.dst))))) s
    (s.inc (0x1400 + port) 0x14 1)

/-- ARP_REQUEST for an address the port answers for (R25, R31). -/
def execArpRequest (port : Nat) (target : BitVec 32) (s : State) : Out :=
  let mine := (s.answersFor port).filter (fun p => target.toNat != 0 && s.rd (0x1400 + p) 7 == target.toNat)
  when (s.phase == .up && s.linkUp port) s
    (s.transmit ((mine.take 1).map (fun p => .arpReply port p target.toNat)))
/-- NEIGHBOUR_SOLICITATION for an address the port answers for (R25, R31). -/
def execNeighbourSolicitation (port : Nat) (target : BitVec 128) (s : State) : Out :=
  let mine := (s.answersFor port).filter (fun p => (s.ipv6s p).contains target.toNat)
  when (s.phase == .up && s.linkUp port) s
    (s.transmit ((mine.take 1).map (fun p => .neighbourAdvert port p target.toNat)))
/-- ECHO_REQUEST: answered up to 1,472 octets and 1,000 times a second while echo is enabled, else dropped and counted (R25). The second is one of the
datum, and a longer request is counted too (log 100). -/
def execEchoRequest (port : Nat) (v6 : Bool) (payload : Bytes) (s : State) : Out :=
  let sec := s.clk.datum / 1000000000
  let n := if (s.port port).echoSec = sec then (s.port port).echoCount else 0
  let t := s.setPort port { s.port port with echoSec := sec, echoCount := n + 1 }
  when (s.phase == .up && s.linkUp port) s
    (if s.rd 0x1410 3 = 1 ∧ payload.length ≤ 1472 ∧ n < 1000 then t.transmit [.echoReply port v6 payload]
     else s.inc (0x1400 + port) 0x14 1)

/-! ### ANNOUNCE (R27-R29) -/

/-- KEYS_LOST (entry 0x1010.05). -/
def State.keysLost (s : State) : Bool := s.rd 0x1010 5 == 1
/-- Octets 0-127 of an ANNOUNCE body (R28). -/
def State.announceBody (s : State) (p : Nat) : Bytes :=
  let enc := s.rd (0x1400 + p) 6
  beBytes 48 s.identity ++ beBytes 10 (time80 s.clk.datum) ++ beBytes 1 s.quality ++ beBytes 1 s.lifecycle ++ beBytes 8 s.trav.epoch ++ beBytes 1 p ++
    beBytes 1 (if s.rd (0x1400 + p) 0x10 = 2 then 25 else 10) ++ beBytes 1 ((if s.debug then 1 else 0) + (if s.keysLost then 2 else 0)) ++ beBytes 1 0 ++
    beBytes 6 (s.mac p) ++ beBytes 2 (if enc = 3 then 0 else s.rd (0x1400 + p) 0xA) ++ beBytes 4 (s.rd (0x1400 + p) 7) ++
    beBytes 16 (s.rd (0x1400 + p) 9) ++ beBytes 16 (s.rd 0x4400 1) ++ beBytes 8 s.dtx.epoch ++ beBytes 4 0
/-- ANNOUNCE_INTERVAL_EXPIRY: the signing of a new body is queued as reserve work (R27). -/
def execAnnounceIntervalExpiry (port : Nat) (s : State) : Out :=
  when (s.phase == .up && s.linkUp port && s.rd 0x1410 2 != 0 && !s.failedOver port && (s.port port).announce.isNone &&
      decide ((s.port port).announceDue ≤ s.clk.fab)) s
    ((s.setPort port { s.port port with announce := some (s.announceBody port), announceDue := s.clk.fab + s.rd 0x1410 2 * 100 * msFab }).enqueueReserve (.announce port))
/-- The encapsulations an ANNOUNCE goes out in: 0 IPv4, 1 IPv6, 2 raw (R27). -/
def State.announceEncaps (s : State) (p : Nat) : List Nat :=
  match s.rd (0x1400 + p) 6 with
  | 0 => if s.rd (0x1400 + p) 7 = 0 then [] else [0]
  | 1 => [1]
  | 2 => (if s.rd (0x1400 + p) 7 = 0 then [] else [0]) ++ [1]
  | _ => [2]
/-- ANNOUNCE_SEND: the signing has had its reserve units, and the signed body goes to every broadcast destination (R27-R29, R130). -/
def execAnnounceSend (port : Nat) (s : State) : Out :=
  match (s.port port).announce with
  | none => .next s
  | some b =>
    if s.phase ≠ .up ∨ !s.reserveRuns (.announce port) then .next s
    else
      let s := s.dropReserve (.announce port)
      let q := (s.port port).announceSeq
      let body := b ++ s.idSign "ID-SIG" "NM72 ANNOUNCE" (beBytes 8 q ++ b)
      let frames := (s.announceEncaps port).flatMap (fun e =>
        let size := segmentSize (s.rd (0x1400 + port) 4) e
        let n := ceilDiv body.length size
        (List.range n).map (fun i => TxFrame.announce port e
          (headerOctets 0x9 (segFlags false i n) 0 0 0 q 0 0 0 body.length i n 0 0 0) (slice body (i * size) size)))
      .next ((s.setPort port { s.port port with announce := none, announceSeq := q + 1 }).transmit frames)

end Machine
end Sys2Proof
end

