-- ==== Sys2Proof/Machine/Resets.lean ====
section
/-! DEFINITION. What cold, warm and always-on resets clear and keep (05 R106, R114, 13 R294-R298, 14 R314, R330, 16 R366, 20 R441-R443). -/

namespace Sys2Proof
namespace Machine

/-! ### Entries (R106, R114) -/

/-- The entry that a rule of its own keeps: the datum's quality, across a warm reset (R38). -/
def keptEntry (cold : Bool) (idx sub : Nat) : Bool := !cold && idx == 0x1100 && sub == 2
/-- An entry keeps its value across a reset: not V, or V "at cold reset" across a warm one (R106). -/
def entryKept (cold : Bool) (k : Nat) : Bool :=
  keptEntry cold (k / 256) (k % 256) ||
    (match rowOf (k / 256) (k % 256) with
     | some r => !(r.pers == 0 || (cold && r.pers == 5))
     | none => true)
/-- V entries take their defaults, and the dictionary's epoch rises by one (R114); a transaction not committed is absent (R113). -/
def State.resetEntries (s : State) (cold : Bool) : State :=
  State.holdEpoch { s with
    dict := s.dict.filter (fun p => entryKept cold p.1)
    dtx := { s.dtx with epoch := s.dtx.epoch + 1, resetEpoch := s.dtx.epoch + 1, snaps := [], journal := none } }

/-! ### Parts (R441) -/

/-- Clocks: a cold reset reloads the datum from the real-time clock, a warm one keeps it (R38). -/
def resetClocks (c : Clocks) (cold : Bool) : Clocks :=
  { c with gated := false, coasting := false, fab := 0, lossAt := 0, waiting := none,
           datum := if cold then c.rtc else c.datum
           frac := if cold then 0 else c.frac
           maxDatum := if cold then c.rtc else c.maxDatum
           incr := if cold then 13743895347 else c.incr }
/-- Pins: every PLAT_RST_N line is low, and presence is sensed again (R335, R338); PWRGD_IN is the board's. -/
def resetPins (p : Pins) : Pins := { p with lines := 0, pres := 0xFFFFFFFE, safe := false, txIdle := false }
/-- Tenants: what USAGE counts runs from the last cold reset (R143); the rest is cleared. -/
def resetTenants (cold : Bool) (m : Map Tenant) : Map Tenant :=
  if cold then [] else Map.mapVals (fun (t : Tenant) => { tenantInit with own := t.own, borrowed := t.borrowed }) m
/-- Engines: fences stay across a warm reset, until the owner releases them or a cold reset (R449). -/
def resetUnits (cold : Bool) (m : Map Engine) : Map Engine :=
  if cold then [] else Map.mapVals (fun (e : Engine) => { engineInit with fenced := e.fenced || e.latched.contains 3, ownerFence := e.ownerFence, selfTest := e.selfTest }) m
/-- The entropy function: a cold reset clears all of it; a warm one keeps the sources and the count of each DRBG's reseeds, and starts the rest again, the
pool and the raw sample buffer empty as their entries say (R106, R294, R298, R306; log 106). -/
def resetEntropy (cold : Bool) (e : Entropy) : Entropy :=
  if cold then ⟨[], [], 0, [], [], 0, none, none⟩
  else { e with pool := [], received := 0, reqs := [], raw := none, rawNext := none,
                drbgs := Map.mapVals (fun (g : Drbg) => { drbgInit with reseeds := g.reseeds }) e.drbgs }
/-- Unarchived slots are lost, signature slots among them: the traverse goes on from its last archived record (R360, R366). -/
def State.resetTraverse (s : State) : State :=
  { s with trav := { s.trav with ring := [], archive := s.trav.archive.map Bench.cutShort, nextSeq := (match s.headBench with | some b => b.seq + 1 | none => 0), headHash := s.headDigest, signing := false,
                                 held := 0, waiters := [], demand := [], pending := [], epochRecords := 0, epochHasCheckpoint := false } }
/-- The group function: links, claims, requests and entries not yet stored go, and each link keeps the number of its last generation; the log is on the
device flash and in BBRAM (R379, R385; log 118). -/
def resetGroup (g : Group) : Group :=
  { g with grants := [], links := Map.mapVals (fun (l : Link) => { linkInit with gen := l.gen }) g.links, stepDown := false, stepAt := 0, needFetch := false, writes := [], served := [], reads := [], lastInstant := 0, inbox := [], announced := [], snap := [], out := [],
           log := g.stored, undrained := [] }
/-- Jobs, channels, engines and everything else in clocked logic and on-chip RAM (R441); the generations of slots begin again at a cold reset alone, and go
on over a warm one (log 4). -/
def State.clearLogic (s : State) (cold : Bool) : State :=
  { s with
    clk := resetClocks s.clk cold
    pins := resetPins s.pins
    ports := []
    ptp := ⟨portNamed (s.rd 0x1101 1), [], if s.quality = 1 then s.ptp.holdoverAt else s.clk.rtc⟩
    tx := if cold then [] else s.tx
    waits := []
    parts := []
    hsIn := []
    chans := []
    gens := if cold then [] else s.chans.foldl (fun m (p : Nat × Channel) => Map.put m p.1 (nextChanGen p.2.gen)) s.gens
    freed := if cold then [] else s.freed ++ s.chans.map (fun p => p.1)
    hs := []
    jobs := []
    order := 0
    tenants := resetTenants cold s.tenants
    lap := { State.reset.lap with length := s.lap.length }
    rwork := []
    units := resetUnits cold s.units
    les := []
    saved := []
    cmem := []
    clus := []
    mcache := []
    kern := { s.kern with staged := [], verifying := none, micro := [], nano := [] }
    dstreams := []
    ent := resetEntropy cold s.ent
    keys := { s.keys with vol := [], volGen := if cold then [] else (s.zeroVolatile none).keys.volGen, loaded := [], commits := [], reserves := [], old := [], oldHeld := [], testRoot := false }
    stampSeq := 1
    flash := []
    gate := ⟨[], [], [], false⟩
    grp := resetGroup s.grp
    lc := { s.lc with
      result := if s.lc.prog.isSome then 1 else 0
      chal := none
      opening := none
      debugOpen := false
      extest := false
      poked := s.lc.poked.filter (fun p => p.1 / 2 ^ 32 == 7 || p.1 / 2 ^ 32 == 10) }
    tamp := { s.tamp with quiesce := false, clear := 0, parity := [], clockRank := 0 }
    flt := { s.flt with log := [], seq := if cold then 0 else s.flt.seq, bankFaults := [], clusterFaults := [], portFaults := [], copying := [] } }

/-- LINK_STATE of a fenced port reads FENCED until ENABLE is written 0 and then 1 (R449). -/
def State.fencedPorts (s : State) : State := s.flt.portFenced.foldl (fun u p => u.wr (0x1400 + p) 0x10 3) s
/-- A cold or warm reset begins: `cause` as RESET_CAUSE codes it (R441, R444). -/
def State.beginReset (s : State) (cold : Bool) (cause : Nat) : State :=
  let t := ((s.clearLogic cold).resetEntries cold).resetTraverse
  { t.fencedPorts.wr 0x1201 1 cause with phase := .down }
/-- A warm reset: LOCKED becomes HOLDOVER (R38), and WARM_RESETS counts it. While a cold reset is in force it has no effect (R443); while REFCLK is lost it
waits (R430). -/
def State.warmReset (s : State) (cause : Nat) : State :=
  if s.phase = .down ∧ s.rd 0x1201 1 = 0 then s
  else if s.clk.gated then { s with clk := { s.clk with waiting := some (s.clk.waiting.getD cause) } }
  else
    let t := s.beginReset false cause
    let t := if s.quality = 2 then (t.wr 0x1100 2 1).event 0x1100 8 2 else t
    t.wr 0x1201 3 ((s.rd 0x1201 3 + 1) % 2 ^ 32)
/-- A cold reset. -/
def State.coldReset (s : State) : State :=
  let t := s.beginReset true 0
  { t with tamp := { t.tamp with restarted := [], rank := 0 } }

/-- COLD_RESET: PORST_N goes low (R441, R443). Fuse programming that has begun goes on (R396). -/
def execColdReset (s : State) : Out := .next s.coldReset

/-- BBRAM entries of the dictionary: KEYS_LOST, the events and times of the tamper sources, PENDING, TAMPER_EVENTS and the group's TERM. -/
def bbramEntry (k : Nat) : Bool :=
  let idx := k / 256
  let sub := k % 256
  (idx == 0x1010 && sub == 5) || (decide (0x4000 ≤ idx) && decide (idx < 0x4010) && (sub == 4 || sub == 5)) || (idx == 0x4020 && (sub == 5 || sub == 7)) ||
    (idx == 0x4401 && sub == 3)
/-- BBRAM is cleared: the secret, domain counters and manifests, the boot epoch, the ring, the life-cycle record, the group buffer with the group's term and
grant, and the format word (R379, R385, R387, R420, R441, R468). -/
def State.clearBbram (s : State) : State :=
  { s with
    dict := s.dict.filter (fun p => !bbramEntry p.1)
    keys := { s.keys with secret := 0, hasSecret := false, formatted := false, ctr := s.keys.ctr.filter (fun p => p.1 == 65), manifest := [], lastKum := s.keys.lastKum.filter (fun p => p.1 == 65) }
    trav := { s.trav with epoch := 0 }
    tamp := { s.tamp with ring := [] }
    grp := { s.grp with grantedIn := 0, log := s.grp.log.takeWhile (fun e => !s.grp.buffer.contains e.index), buffer := [], undrained := [], amnesia := true }
    lc := { s.lc with record := none, poked := s.lc.poked.filter (fun p => p.1 / 2 ^ 32 != 7) } }
/-- ALWAYS_ON_RESET: VBAT and VDD_AON are lost together: BBRAM, the real-time clock, the ring and the pending rank go, and volatile keys, loaded copies and DRBG
states with the BBRAM secret (R330); fuses and flash stay (R441). Both
supplies are independent of the main ones (R457), so it may come at any moment. -/
def execAlwaysOnReset (s : State) : Out :=
  let t := s.clearBbram.zeroVolatile none
  let t := { t with
    keys := { t.keys with loaded := [], old := [], oldHeld := [] }
    ent := { t.ent with drbgs := Map.mapVals (fun (g : Drbg) => { drbgInit with reseeds := g.reseeds }) t.ent.drbgs } }
  .next { t with clk := { t.clk with rtc := 0, aonFrac := 0, onBattery := false, aonOnTamperOsc := false } }
/-- AON_CHANGEOVER: VBAT carries the always-on domain, or VDD_AON again (R457); no tamper alarm. -/
def execAonChangeover (toBattery : Bool) (s : State) : Out := .next { s with clk := { s.clk with onBattery := toBattery } }

end Machine
end Sys2Proof
end

