-- ==== Sys2Proof/Machine/Tamper.lean ====
section
/-! DEFINITION. Tamper sources, responses, battery samples and the ring (19 R408-R421). -/

namespace Sys2Proof
namespace Machine

/-! ### Sources (R408, R409) -/

/-- The response configured for a source, 0 NONE to 7 ZEROIZE_ALL. -/
def State.response (s : State) (src : Nat) : Nat := s.rd (0x4000 + src) 1
/-- A source is ASSERTED. -/
def State.asserted (s : State) (src : Nat) : Bool := s.tamp.conds.contains src
/-- The sources whose condition holds, `src` among them or not. -/
def Tamper.assert (m : Tamper) (src : Nat) (b : Bool) : Tamper :=
  { m with conds := m.conds.filter (fun i => i != src) ++ (if b then [src] else []) }
/-- A source is ASSERTED from now on, or no longer; STATE reports it (R409). -/
def State.setAsserted (s : State) (src : Nat) (b : Bool) : State :=
  { s.wr (0x4000 + src) 3 (if b then 1 else 0) with tamp := s.tamp.assert src b }
/-- STATE of every source as a start finds it (R417). -/
def State.senseSources (s : State) : State := (List.range 16).foldl (fun u i => u.wr (0x4000 + i) 3 (if u.asserted i then 1 else 0)) s
/-- Sources sampled on battery (*Tamper sources*). -/
def onBatterySampled (src : Nat) : Bool := decide (src < 15) && src != 7 && src != 13
/-- The source has a sensor: an unfitted enclosure loop has none (R408). -/
def State.fitted (s : State) (src : Nat) : Bool := decide (src < 16) && (src != 4 || s.rd 0x4004 2 != 0)
/-- ALERT_N is low: a source of NOTIFY or higher has its ALERT flag set, or the part is in TAMPER_HOLD (R414, R417). -/
def State.alertLow (s : State) : Bool :=
  (match s.phase with | .hold _ => true | _ => false) || (List.range 16).any (fun i => decide (2 ≤ s.response i) && bitAt (s.rd (0x4000 + i) 4) 0)

/-! ### Ring and records (R358, R411, R420) -/

/-- A ring entry is archived. -/
def RingEntry.archived (e : RingEntry) : Bool := bitAt e.flags 2
/-- The ring without the entry that a new one overwrites: the oldest archived one, where 32 stand in it; with none archived, the oldest (log 49). -/
def ringRoom (r : List RingEntry) : List RingEntry :=
  if r.length < 32 then r else match r.findIdx? (fun e => e.archived) with
    | some i => r.eraseIdx i
    | none => r.drop 1
/-- A ring entry for an alarm; further occurrences add to the source's entry that is not yet archived (R420). -/
def State.ringAlarm (s : State) (src rank flags : Nat) : State :=
  let r := s.tamp.ring
  let more := fun (e : RingEntry) => if e.source = src ∧ !e.archived then { e with count := (e.count + 1) % 2 ^ 32, flags := orFlags e.flags flags } else e
  let r' := if r.any (fun e => e.source == src && !e.archived) then r.map more else ringRoom r ++ [⟨src, rank, flags, time80 s.clk.rtc, 1⟩]
  { s with tamp := { s.tamp with ring := r' } }
/-- The digest octets of a TAMPER benchmark (R358). -/
def tamperDetail (rank flags detected count : Nat) : Nat := beNat (beBytes 1 rank ++ beBytes 1 flags ++ beBytes 10 detected ++ beBytes 4 count ++ beBytes 32 0)
/-- Occurrences of a source that its next TAMPER benchmark will carry. -/
def State.carryTamper (s : State) (src n : Nat) : State := { s with trav := { s.trav with tamperCarry := Map.store s.trav.tamperCarry src n 0 } }
/-- The TAMPER benchmark of the first occurrence of a source in a datum second; later ones are counted and carried (R358, R367). An alarm before the
start's first record waits behind it (R360). -/
def State.tamperRecord (s : State) (src rank : Nat) : State :=
  let n := Map.getD s.trav.tamperCarry src 0 + 1
  let sec := s.clk.datum / 1000000000
  if Map.find s.trav.tamperSec src = some sec ∨ (s.phase = .up ∧ s.ringBusy) then s.carryTamper src n
  else
    let t := { s with trav := { s.trav with tamperSec := Map.put s.trav.tamperSec src sec } }.carryTamper src 0
    let d := tamperDetail rank 0 (time80 s.clk.datum) n
    if s.phase ≠ .up then
      { t with trav := { t.trav with pending := t.trav.pending ++
          [{ seq := 0, epoch := 0, datum := 0, quality := 0, kind := 8, verdict := 2, channel := 0xFF, region := src, flags := 3, digest := d, prev := 0,
             sigSlots := 0, sigs := [], signed := true, archived := 0, slot := 0 }] } }
    else t.record 8 2 0xFF src 3 d
/-- LOG and NOTIFY: the event-log entry, whose kind is not stated (log 46), the EVENTS count, LAST, the ring entry, the benchmark, ALERT and the notice. -/
def State.logAlarm (s : State) (src : Nat) (battery : Bool) : State :=
  let rank := s.response src
  let t := s.event (0x4000 + src) 4 ((if 2 ≤ rank ∧ !battery then 1 else 0) + (if battery then 2 else 0))
  let t := t.wr (0x4000 + src) 5 (time80 (if battery then s.clk.rtc else s.clk.datum))
  let t := if battery ∨ 5 ≤ rank then t.ringAlarm src rank ((if battery then 1 else 0) + (if (battery ∨ (s.phase = .up ∧ s.clk.gated)) ∧ 2 ≤ rank ∧ rank ≤ 6 then 2 else 0)) else t
  if battery then t
  else
    let t := (t.logRow (Config.unstated 54 [src] % 256) 0 0xFF 0 0xFF 0 0).tamperRecord src rank
    if 2 ≤ rank then t.notify 4 (some 0) src else t

/-! ### Responses (R411-R413, R415) -/

/-- A register, mailbox entry, hash stream or key of the engine is secret. -/
def Le.hasSecret (l : Le) : Bool :=
  l.regs.v.any (fun p => p.2.tags != 0) || l.regs.a.any (fun p => p.2.sec) || l.regs.m.any (fun p => p.2.sec) || l.regs.mailbox.any (fun m => m.sec) ||
    l.streams.any (fun p => p.2.sec) || l.keyState != 0 || (l.usesKey && l.highWord != 0)
/-- A word of a scratch allocation in a cluster is secret (R217, R233). -/
def State.secretScratch (s : State) (c : Nat) (l : Le) : Bool :=
  s.cmem.any (fun p => p.2.sec && decide (cmKey c l.scratchAt ≤ p.1) && decide (p.1 < cmKey c (l.scratchAt + l.scratch)))
/-- The job holds secret-tagged state, or names a secret or an asymmetric secret key (R411). -/
def State.holdsSecret (s : State) (j : Job) : Bool :=
  (match s.keyFor j with | some k => j.key != 0 && (isPrivate k.typ || decide (k.typ < 0x10)) | none => false) ||
    (j.kind == 0x1 && (makesKey j.opcode j.head || needsRandom j.opcode j.payload)) || j.units.any (fun u => decide (u < 256) && ((s.le u).hasSecret || s.secretScratch (clusterOf u) (s.le u))) ||
      (match Map.find s.saved j.order with | some l => l.hasSecret || s.secretScratch (clusterOf (j.units.headD 0)) l | none => false)
/-- ABORT: running and suspended jobs that hold secrets end with TAMPER_ABORT at once (R233, R411, R415). -/
def State.abortSecrets (s : State) : State :=
  (s.jobs.filter (fun (j : Job) => (j.running || j.state == .suspended) && s.holdsSecret j)).foldl (fun u (j : Job) => u.cutJob j 0x62 0 0) s
/-- QUIESCED: windows close, and lines still low stay low (R412); the event octet of such a closure is not stated (log 9). -/
def State.enterQuiesce (s : State) : State :=
  let t := { s with tamp := { s.tamp with quiesce := true } }
  (List.range 8).foldl (fun u w => u.closeWindow w (Config.unstated 55 [w] % 256)) t
/-- TAMPER_EVENTS counts a response of rank 4 or higher. -/
def State.tamperEvent (s : State) (rank : Nat) : State := if rank < 4 then s else s.event 0x4020 7 (2 ^ (rank - 4))
/-- ZEROIZE_VOLATILE: the key working area, channel state, cluster memories, engine and hash-core states, pool and DRBGs are cleared (R295, R411);
ZEROIZE_ALL zeroises the BBRAM secret as well (R330). -/
def State.zeroise (s : State) (rank : Nat) : State :=
  let t := if 6 ≤ rank then { s.zeroKeys.zeroEntropy with cmem := [], les := [], saved := [], dstreams := [], chans := [], mcache := [] } else s
  if rank = 7 then t.loseKeys else t
/-- Carry out a response on main power: every effect up to its rank (R411). A reset waits while REFCLK is lost (R430). -/
def State.respond (s : State) (src rank : Nat) : State :=
  let t := if 3 ≤ rank then s.abortSecrets else s
  let t := (if 4 ≤ rank then t.enterQuiesce else t).tamperEvent rank
  let t := t.zeroise rank
  if 5 ≤ rank then (({ t with tamp := { t.tamp with rank := Nat.max t.tamp.rank rank, restarted := if t.tamp.restarted.contains src then t.tamp.restarted else t.tamp.restarted ++ [src] } }).warmReset 3) else t
/-- The highest pending rank (entry 0x4020.05). -/
def State.pendRank (s : State) (rank : Nat) : State := s.wr 0x4020 5 (Nat.max (s.rd 0x4020 5) rank)

/-- An alarm of rank 3 or higher on main power, by what the part is doing: up; with REFCLK lost, where ranks 3 to 6 are held pending as on battery (R430);
in TAMPER_HOLD, where the start begins again (R416);
or in reset, where it ranks with the pending rank (R419). Rank 7 zeroises at once. -/
def State.alarmResponse (s : State) (src rank : Nat) : State :=
  match s.phase with
  | .up =>
    if s.clk.gated then
      if rank = 7 then s.respond src 7
      else { s with tamp := { s.tamp with
        clockRank := Nat.max s.tamp.clockRank rank
        clockSources := if s.tamp.clockSources.contains src then s.tamp.clockSources else s.tamp.clockSources ++ [src]
        restarted := if 5 ≤ rank ∧ !s.tamp.restarted.contains src then s.tamp.restarted ++ [src] else s.tamp.restarted } }.pendRank rank
    else s.respond src rank
  | .hold _ =>
    let t := ((s.tamperEvent rank).zeroise rank).wr 0x4020 6 ((s.rd 0x4020 6 + 1) % 256)
    { t with tamp := { t.tamp with clear := 0, rank := if 5 ≤ rank then rank else t.tamp.rank, quiesce := t.tamp.quiesce || rank == 4,
                                   restarted := if 5 ≤ rank ∧ !t.tamp.restarted.contains src then t.tamp.restarted ++ [src] else t.tamp.restarted } }
  | .down => if rank = 7 then (s.tamperEvent 7).zeroise 7 else s.pendRank rank

/-- An alarm on main power: logged, and answered where its rank is above that of a response in progress (R411, R413). -/
def State.alarm (s : State) (src : Nat) : State :=
  let rank := s.response src
  let t := s.setAsserted src true
  if rank = 0 then t
  else
    let t := t.logAlarm src false
    if rank < 3 ∨ rank ≤ t.tamp.rank then t else t.alarmResponse src rank
/-- TAMPER_ALARM (R409, R411). -/
def execTamperAlarm (src : Nat) (s : State) : Out := when (s.fitted src && !s.clk.onBattery) s (s.alarm src)
/-- TAMPER_SOURCE_CLEAR: the source's condition holds no longer (R409). -/
def execTamperSourceClear (src : Nat) (s : State) : Out := when (decide (src < 16) && s.asserted src) s (s.setAsserted src false)

/-! ### On battery (R418) -/

/-- An alarm on battery: ZEROIZE_ALL acts at once, ranks 2 to 6 are held pending. -/
def State.batteryAlarm (s : State) (src : Nat) : State :=
  let rank := s.response src
  let t := s.setAsserted src true
  if rank = 0 then t
  else
    let t := t.logAlarm src true
    if rank = 7 then t.loseKeys.tamperEvent 7 else if 2 ≤ rank then t.pendRank rank else t
/-- BATTERY_SAMPLE: `seen` lists the sources whose condition the sample window saw (R418). -/
def execBatterySample (seen : List Nat) (s : State) : Out :=
  when s.clk.onBattery s ((List.range 16).foldl (fun u i =>
    if !onBatterySampled i ∨ !u.fitted i then u
    else if !seen.contains i then u.setAsserted i false
    else if u.asserted i then u else u.batteryAlarm i) s)

end Machine
end Sys2Proof
end

