-- ==== Sys2Proof/Machine/Clocks.lean ====
section
/-! DEFINITION. The loss and return of REFCLK and of the crystal, cluster wakes and spread spectrum (20 R425-R435). -/

namespace Sys2Proof
namespace Machine

/-! ### Loss of REFCLK (R426-R431) -/

/-- The behaviour in force at a loss is NM40-compatible: by the strap or by CLK_MODE (R426). -/
def State.compatClock (s : State) : Bool := s.clk.compat || s.rd 0x1200 2 == 1
/-- The loss is counted with REFCLK_LOST, and its datum recorded (R426). -/
def State.refclkGone (s : State) : State :=
  let t := { s with clk := { s.clk with refclk := false, lossAt := s.clk.rtc } }
  (t.event 0x1200 7 1).wr 0x1200 8 (time80 s.clk.datum)
/-- Native behaviour: the root-derived domains stop, and the pins go to their safe states (R427). -/
def State.haltClocks (s : State) : State :=
  let t := s.wr 0x1200 1 1
  let t := { t with clk := { t.clk with gated := true }, pins := { t.pins with safe := true, txIdle := true } }
  (t.assertLines (fun _ => true)).dropLinks
/-- NM40-compatible behaviour: the PLL coasts, and only the ports go idle (R431). -/
def State.coast (s : State) : State :=
  let t := s.wr 0x1200 1 2
  { t with clk := { t.clk with coasting := true }, pins := { t.pins with txIdle := true } }.dropLinks
/-- REFCLK_LOST (R426, R427, R431); in reset only the clock's absence is kept, since a start waits for REFCLK (R442). -/
def execRefclkLost (s : State) : Out :=
  if !s.clk.refclk then .next s
  else if s.phase = .down then .next { s with clk := { s.clk with refclk := false } }
  else if s.compatClock then .next s.refclkGone.coast
  else .next s.refclkGone.haltClocks

/-! ### Return of REFCLK (R428-R430, R432) -/

/-- The loss has ended: the domains run, the pins leave their safe states, and the loss's length in µs is kept. -/
def State.refclkBack (s : State) : State :=
  let t := { s with clk := { s.clk with refclk := true, gated := false, coasting := false }, pins := { s.pins with safe := false, txIdle := false } }
  (t.wr 0x1200 1 0).wr 0x1200 9 ((s.clk.rtc - s.clk.lossAt) / 1000 % 2 ^ 32)
/-- Jobs that were running on an engine or a core end with CLOCK_LOSS, and are not retried; the work they did is charged
(R135, R428 step 3, R429). -/
def State.clockLoss (s : State) : State := (s.jobs.filter (fun (j : Job) => j.running && j.units != [])).foldl (fun u (j : Job) => u.cutJob j 0x61 0 0) s
/-- Jobs that wait for a DRBG begin their wait again (R429). -/
def State.restartWaits (s : State) : State :=
  { s with jobs := s.jobs.map (fun (j : Job) => if j.waitSince.isSome then { j with waitSince := some s.clk.fab } else j) }
/-- A channel's keepalive has run out. -/
def State.keepaliveOver (s : State) (c : Channel) : Bool :=
  (c.state == .opened || c.state == .draining) && decide (c.keepalive * 1000000 ≤ s.clk.datum - c.lastAuth)
/-- Channels whose keepalive ran out during the loss are closed (R429). -/
def State.closeExpired (s : State) : State :=
  (s.chans.filter (fun p => s.keepaliveOver p.2)).foldl (fun u p => (u.event (0x1800 + p.2.tenant) 0x34 1).abortChannel p.1) s
/-- The restart after a native loss (R428 steps 3 to 6, R429): the lap that ran at the loss has ended, a short lap runs (R127), and what fell due meanwhile
falls due once. -/
def State.restart (s : State) : State :=
  let t := s.clockLoss.restartWaits.gateAll
  t.shortLap.dueActivities.closeExpired
/-- EVENTS of a source with flags. -/
def State.flagSource (s : State) (src flags : Nat) : State :=
  let v := s.rd (0x4000 + src) 4
  s.wr (0x4000 + src) 4 (v / 256 * 256 + orFlags (v % 256) flags)
/-- The sources whose responses were held pending during a loss of REFCLK are flagged PENDING_APPLIED (R419, R430). -/
def State.flagClockSources (s : State) : State :=
  let t := s.tamp.clockSources.foldl (fun u i => u.flagSource i 4) s
  { t with tamp := { t.tamp with clockSources := [] } }
/-- An ABORT or QUIESCE that was held pending is applied, and the pending rank is cleared (R419, R430). -/
def State.clockPending (s : State) (rank : Nat) : State :=
  if rank = 0 then s
  else
    let t := (s.flagClockSources.wr 0x4020 5 0).abortSecrets
    (if rank = 4 then t.enterQuiesce else t).tamperEvent rank
/-- The end of a native loss: a warm start where a response or a reset asked for one, whose step S2 applies what is pending; else what is pending is applied,
and the clocked domains restart, a start in TAMPER_HOLD staying there (R412, R419, R428, R430). -/
def State.endLoss (s : State) : State :=
  let rank := s.tamp.clockRank
  let t := { s with tamp := { s.tamp with clockRank := 0 }, clk := { s.clk with waiting := none } }
  match s.clk.waiting with
  | some cause => t.warmReset cause
  | none =>
    if 5 ≤ rank then t.warmReset 3
    else if s.phase = .up then (t.clockPending rank).restart else t
/-- REFCLK_RESTORED (R428-R430, R432). -/
def execRefclkRestored (s : State) : Out :=
  if s.clk.refclk then .next s
  else if s.phase = .down then .next { s with clk := { s.clk with refclk := true } }
  else if s.clk.gated then .next s.refclkBack.endLoss
  else .next (s.refclkBack.event 0x1200 7 2)

/-! ### The crystal (R434) -/

/-- CRYSTAL_LOST: the always-on clock switches to the tamper oscillator, by force since the crystal has stopped; two occurrences (log 56). -/
def execCrystalLost (s : State) : Out :=
  let t := { s with clk := { s.clk with xtal := false, aonOnTamperOsc := true } }
  when s.clk.xtal s (if s.phase = .down then t else (t.event 0x1200 7 32).event 0x1200 7 4)
/-- CRYSTAL_RESTORED: the crystal has run for 1 s, and the always-on clock goes back to it. -/
def execCrystalRestored (s : State) : Out := when (!s.clk.xtal) s { s with clk := { s.clk with xtal := true, aonOnTamperOsc := false } }

/-! ### Cluster wakes and spread spectrum (R415, R425, R435) -/

/-- The cluster has no job, running or suspended. -/
def State.clusterIdle (s : State) (c : Nat) : Bool :=
  s.units.all (fun p => unitCluster p.1 != c || p.2.job == none) &&
    s.jobs.all (fun (j : Job) => j.state != .suspended || j.units.all (fun u => unitCluster u != c))
/-- A cluster's memories are cleared, and the constants of bound kernels placed again (R242, R415; log 54). -/
def State.clearCluster (s : State) (c : Nat) : State :=
  let t := { s with cmem := s.cmem.filter (fun p => p.1 / 2 ^ 18 != c) }
  let t := t.setCluster c { t.cluster c with resident := none, freeBlocks := 176, powered := true }
  (t.kern.bound.map (fun p => p.2)).foldl (fun u k => (List.range k.nConst).foldl (fun v i =>
    v.setCword c (14336 + k.constOff + i) ⟨fieldAt k.image (64 + 6 * k.nMicro + 9 * i) 9, false⟩) u) t
/-- CLUSTER_WAKE: a cluster without a job was power-gated and is ready again (R435). -/
def execClusterWake (cluster : Nat) (s : State) : Out :=
  when (s.phase == .up && !s.clk.gated && decide (cluster < 16) && s.clusterIdle cluster) s (s.clearCluster cluster)
/-- SSC_APPLY: the spread-spectrum settings of entries 0x1200.04 to .06 take effect (R425). -/
def execSscApply (s : State) : Out :=
  when (s.phase == .up && !s.clk.gated) s
    { s with clk := { s.clk with sscDepth := s.rd 0x1200 4, sscRate := s.rd 0x1200 5, sscProfile := s.rd 0x1200 6 } }

end Machine
end Sys2Proof
end

