-- ==== Sys2Proof/Machine/DictRules.lean ====
section
/-! DEFINITION. Dictionary requests: who may read and write an entry, WRITE payloads and their checks, and the rules that span entries
(05 R102-R120, and the entry tables of the other chapters). -/

namespace Sys2Proof
namespace Machine

/-! ### Rights (R73, R74, R105) -/

/-- Who makes a request: a channel's role (1 O, 2 A, 3 U, 4 V) and tenant; the test access port has role O (R402). -/
structure Asker where
  role : Nat
  tenant : Nat
  /-- The transaction is the body of a SEALED_WRITE (R119). -/
  isSealed : Bool
  /-- The request comes through the test access port (R402). -/
  tap : Bool
  deriving DecidableEq, Repr

/-- Entries indexed by tenant (R74 and the chapters that apply it). -/
def tenantIndexed (idx : Nat) : Bool := [0x1440, 0x1640, 0x1800, 0x1900, 0x20C0, 0x2840, 0x2C40].contains (idx / 64 * 64)
/-- The role stands in a set of rights, bit order O, A, U, V. -/
def inSet (set role : Nat) : Bool := decide (1 ≤ role ∧ role ≤ 4) && bitAt set (4 - role)
/-- The tenant index suits the asker (R74). -/
def Asker.indexOk (a : Asker) (idx : Nat) : Bool := a.role == 1 || !tenantIndexed idx || idx % 64 == a.tenant

/-- An entry exists (R102). -/
def entryExists (idx sub : Nat) : Bool := indexExists idx && (sub == 0 || (rowOf idx sub).isSome)
/-- A read is allowed (R102, R105). -/
def Asker.mayRead (a : Asker) (idx sub : Nat) : Bool :=
  a.indexOk idx && (sub == 0 || (match rowOf idx sub with
    | some r => r.access != 2 && inSet (r.rights / 16) a.role
    | none => false))

/-- Writes that the life-cycle state forbids (R248, R306, R353, R373, R407, R422, R444). -/
def stateForbids (lc idx sub : Nat) : Bool :=
  if 0x1200 ≤ idx ∧ idx ≤ 0x1201 then !(lc == 3 || lc == 4)
  else if 0x2400 ≤ idx ∧ idx ≤ 0x24FF then lc != 4
  else if 0x2800 ≤ idx ∧ idx ≤ 0x28FF then !(lc == 4 || lc == 1)
  else if 0x3000 ≤ idx ∧ idx ≤ 0x3300 then !(lc == 3 || lc == 4)
  else if idx = 0x3800 ∧ (sub = 5 ∨ sub = 6) then lc != 4
  else if 0x4000 ≤ idx ∧ idx ≤ 0x40FF then lc != 4
  else idx == 0x5000 && lc != 4

/-- The entries that DICT_TXN may write, by life-cycle state (R402). -/
def tapWritable (lc idx sub : Nat) : Bool :=
  (lc == 3 && ((idx == 0x1030 && (sub == 1 || sub == 2)) || (decide (0x1100 ≤ idx) && decide (idx ≤ 0x14FF)) ||
      (decide (0x3000 ≤ idx) && decide (idx ≤ 0x33FF)) || (idx == 0x2C01 && decide (1 ≤ sub ∧ sub ≤ 6)))) ||
    (lc == 1 && decide (0x2800 ≤ idx) && decide (idx ≤ 0x28FF))

/-- Entries that are RO for one index (R75, R353). -/
def fixedEntry (idx sub : Nat) : Bool := (idx == 0x1800 && sub == 1) || (idx == 0x3000 && (sub == 1 || sub == 6 || sub == 7))
/-- A field of an update window: CHANNEL, START, LENGTH or EXPIRES (R346). -/
def windowField (idx sub : Nat) : Bool := idx == 0x3200 && decide (0x10 ≤ sub) && decide (sub ≤ 0x2F)
/-- Certificate tables are written through the test access port alone (R402). -/
def isCert (idx : Nat) : Bool := idx == 0x2C01

/-- A write is allowed: access code, rights, tenant index, life-cycle state, and the sealed entries' own rule (step 2 of R110, R120, R346). -/
def State.mayWrite (s : State) (a : Asker) (w : DWrite) (r : Row) : Bool :=
  let lc := s.lifecycle
  if a.tap then tapWritable lc w.idx w.sub && !fixedEntry w.idx w.sub && (r.access != 0 || isCert w.idx)
  else
    r.access != 0 && inSet r.rights a.role && a.indexOk w.idx && !fixedEntry w.idx w.sub && !stateForbids lc w.idx w.sub &&
      (r.pers != 2 || a.isSealed || (w.idx == 0x1030 && w.sub == 5 && s.rd 0x1030 5 == 0)) &&
      (!windowField w.idx w.sub || a.isSealed || ((w.sub - 0x10) % 4 == 0 && beNat w.val == 0xFF))

/-! ### Values (R104) -/

/-- The length fits the type (step 3). -/
def lengthFits (r : Row) (w : DWrite) : Bool := if r.typ = 13 then decide (w.val.length ≤ r.size) else r.typ == 16 || w.val.length == r.size
/-- Ranges that an entry's table gives beside its limits, spare bits among them (R104; log 30). -/
def valueAllowed (idx sub v : Nat) : Bool :=
  if 0x1400 ≤ idx ∧ idx ≤ 0x1403 ∧ sub = 5 then !bitAt v 12
  else if idx = 0x1030 ∧ sub = 2 then decide (1 ≤ v) && decide (v ≤ 3)
  else if idx = 0x1410 ∧ sub = 1 then decide (0x0600 ≤ v) && !([0x0800, 0x0806, 0x8100, 0x86DD, 0x88F7].contains v)
  else if 0x1440 ≤ idx ∧ idx < 0x1480 ∧ sub = 2 then decide (v ≤ 3) || v == 0xFF
  else if idx = 0x1101 ∧ (sub = 1 ∨ sub = 2) then decide (v ≤ 3) || v == 0xFF
  else if 0x1800 ≤ idx ∧ idx < 0x1840 ∧ sub = 2 then
    (List.range 32).all (fun i => !bitAt v i || (decide (1 ≤ i) && decide (i ≤ 0x11)) || i == 20 || i == 24 || i == 31)
  else if 0x1800 ≤ idx ∧ idx < 0x1840 ∧ 0x21 ≤ sub ∧ sub ≤ 0x2F ∧ sub % 2 = 1 then decide (v / 256 ≤ 4)
  else if 0x3009 ≤ idx ∧ idx < 0x3020 ∧ sub = 7 then decide (v ≤ 2)
  else if 0x3101 ≤ idx ∧ idx < 0x3120 ∧ 0x13 ≤ sub ∧ sub < 0x30 ∧ sub % 4 = 3 then decide (v < 32) && decide (v % 4 ≤ 2) && decide (v / 4 % 4 ≤ 2)
  else if idx = 0x3200 ∧ 0x10 ≤ sub ∧ (sub - 0x10) % 4 = 0 then (decide (1 ≤ v) && decide (v ≤ 31)) || v == 0xFF
  else if idx = 0x3300 ∧ 1 ≤ sub ∧ sub ≤ 32 then !bitAt v 32
  else true
/-- A RESPONSE a tamper source accepts (R408, R422). -/
def responseAllowed (src v : Nat) : Bool := decide (tamperMin src ≤ v) && (src != 14 || v == 1 || v == 2)
/-- A PARAM a tamper source accepts: bits its row does not name are spare (R408). -/
def paramAllowed (src v : Nat) : Bool := if src = 4 then decide (v < 4) else if src = 5 ∨ src = 6 then decide (v < 2) else if src = 9 then decide (v < 65536) else v == 0
/-- The value is in its entry's range (step 4, R104, R117 for the mask of a clear). -/
def inRange (r : Row) (w : DWrite) : Bool :=
  let v := beNat w.val
  if r.typ = 15 then (List.range 8).all (fun i => !bitAt (v % 256) i || bitAt r.flags i)
  else if r.typ = 16 then true
  else if r.typ = 9 ∧ 1000000000 ≤ v % 2 ^ 32 then false
  else decide (r.lo ≤ v) && (match r.hi with | some h => decide (v ≤ h) | none => true) && (r.typ != 1 || decide (v ≤ 1)) &&
    valueAllowed w.idx w.sub v &&
    (if 0x4000 ≤ w.idx ∧ w.idx < 0x4010 ∧ w.sub = 1 then responseAllowed (w.idx - 0x4000) v
     else if 0x4000 ≤ w.idx ∧ w.idx < 0x4010 ∧ w.sub = 2 then paramAllowed (w.idx - 0x4000) v else true)
/-- The write-once rule (R105, R123). -/
def State.onceOk (s : State) (r : Row) (w : DWrite) : Bool := r.access != 3 || s.rd w.idx w.sub == 0 || s.rd w.idx w.sub == beNat w.val

/-! ### WRITE payloads (R107, R108) -/

/-- The writes of a WRITE payload from octet 8 on, `n` of them: none where they do not exactly fill it. -/
def parseWrites : Nat → Bytes → Option (List DWrite)
  | 0, b => if b = [] then some [] else none
  | n + 1, b =>
    let len := fieldAt b 4 2
    if b.length < 6 + len then none
    else match parseWrites n (b.drop (6 + len)) with
      | some rest => some (⟨fieldAt b 0 2, fieldAt b 2 1, fieldAt b 3 1, slice b 6 len⟩ :: rest)
      | none => none
/-- A WRITE payload in its format (R108). -/
def parseWrite (b : Bytes) : Option (List DWrite) :=
  let n := fieldAt b 0 1
  if b.length < 8 ∨ n = 0 ∨ 64 < n ∨ !zeros (slice b 1 7) then none else parseWrites n (b.drop 8)

/-- A refusal: status, position, and the value a STALE_CLEAR reports (R111). -/
structure Refused where
  status : Nat
  position : Nat
  value : Nat
  deriving DecidableEq, Repr

/-- Steps 1 to 5 of the *Write checks* for the item at a position, `before` the items ahead of it (R110, R117). -/
def State.itemRefused (s : State) (a : Asker) (pos : Nat) (before : List DWrite) (w : DWrite) : Option Refused :=
  if !entryExists w.idx w.sub then some ⟨0x71, pos, 0⟩
  else match rowOf w.idx w.sub with
    | none => some ⟨0x15, pos, 0⟩
    | some r =>
      if !s.mayWrite a w r then some ⟨0x15, pos, 0⟩
      else if !lengthFits r w then some ⟨0x26, pos, 0⟩
      else if w.typ ≠ r.typ ∨ before.any (fun b => b.idx == w.idx && b.sub == w.sub) ∨ !inRange r w ∨ !s.onceOk r w then some ⟨0x72, pos, 0⟩
      else if r.typ = 15 ∧ beNat w.val / 256 ≠ s.rd w.idx w.sub / 256 then some ⟨0x70, pos, s.rd w.idx w.sub⟩
      else none

/-- The first item refused. -/
def State.itemsRefused (s : State) (a : Asker) : Nat → List DWrite → List DWrite → Option Refused
  | _, _, [] => none
  | pos, before, w :: rest =>
    match s.itemRefused a pos before w with
    | some e => some e
    | none => s.itemsRefused a (pos + 1) (before ++ [w]) rest

/-! ### Rules that span entries (step 6 of R110) -/

/-- The value an entry would hold after the transaction. -/
def State.after (s : State) (ws : List DWrite) (idx sub : Nat) : Nat :=
  match ws.find? (fun w => w.idx == idx && w.sub == sub) with
  | some w => beNat w.val
  | none => s.rd idx sub

/-- A rule over entries: the entries it covers, and whether it holds after the transaction. -/
structure SpanRule where
  covers : Nat → Nat → Bool
  holds : State → Asker → List DWrite → Bool

/-- An index in one of the tenant ranges. -/
def inTenants (base idx : Nat) : Bool := decide (base ≤ idx) && decide (idx < base + 64)
/-- The sum of one subindex over the 64 tenants. -/
def State.tenantSum (s : State) (ws : List DWrite) (base sub : Nat) : Nat :=
  ((List.range 64).map (fun t => s.after ws (base + t) sub)).sum

/-- No RS-FEC with a fixed 10 Gbit/s speed (R20, R21). -/
def ruleFec : SpanRule :=
  ⟨fun idx sub => decide (0x1400 ≤ idx ∧ idx ≤ 0x1403) && (sub == 2 || sub == 3),
   fun s _ ws => (List.range 4).all (fun p => !(s.after ws (0x1400 + p) 2 == 2 && s.after ws (0x1400 + p) 3 == 3))⟩
/-- Lock below unlock threshold, backup port other than the PTP port (R40). -/
def rulePtp : SpanRule :=
  ⟨fun idx sub => idx == 0x1101 && [1, 2, 6, 7].contains sub,
   fun s _ ws => decide (s.after ws 0x1101 6 < s.after ws 0x1101 7) &&
     (decide (3 < s.after ws 0x1101 2) || s.after ws 0x1101 2 != s.after ws 0x1101 1)⟩
/-- A tenant's alternate port differs from its primary (R39). -/
def rulePorts : SpanRule :=
  ⟨fun idx sub => inTenants 0x1440 idx && (sub == 1 || sub == 2),
   fun s _ ws => (List.range 64).all (fun t => s.after ws (0x1440 + t) 1 != s.after ws (0x1440 + t) 2)⟩
/-- The pool shares sum to at most 16,384 blocks (R71). -/
def ruleShares : SpanRule :=
  ⟨fun idx sub => inTenants 0x1640 idx && sub == 1, fun s _ ws => decide (s.tenantSum ws 0x1640 1 ≤ 16384)⟩
/-- The queue depths sum to at most 131,072 (R76). -/
def ruleDepths : SpanRule :=
  ⟨fun idx sub => inTenants 0x1800 idx && decide (8 ≤ sub ∧ sub ≤ 15),
   fun s _ ws => decide (((List.range 8).map (fun q => s.tenantSum ws 0x1800 (8 + q))).sum ≤ 131072)⟩
/-- Credentials: role O for tenant 0 alone, a set 1 to 3 with any role, and role A's limits (R76). -/
def ruleCreds : SpanRule :=
  ⟨fun idx sub => inTenants 0x1800 idx && decide (0x20 ≤ sub ∧ sub ≤ 0x2F),
   fun s a ws => ws.all (fun w => !(inTenants 0x1800 w.idx && decide (0x20 ≤ w.sub ∧ w.sub ≤ 0x2F)) ||
     (let c := (w.sub - 0x20) / 2
      let v := s.after ws w.idx (0x21 + 2 * c)
      let role := v / 256
      !(role == 1 && w.idx != 0x1800) && (role == 0 || (decide (1 ≤ v % 256) && decide (v % 256 ≤ 3))) &&
        (a.role != 2 || (decide (2 ≤ c) && !(w.sub % 2 == 1 && (role == 1 || role == 2))))))⟩
/-- Allowances and the reserve fit the installed capacity; a sealed tenant's are whole units (R132, R144). -/
def ruleAllowances : SpanRule :=
  ⟨fun idx sub => (inTenants 0x1900 idx && decide (1 ≤ sub ∧ sub ≤ 5)) || (idx == 0x1A00 && decide (2 ≤ sub ∧ sub ≤ 4)),
   fun s _ ws => classes.all (fun cl =>
     decide (s.tenantSum ws 0x1900 (2 + classIndex cl) + (if cl = .aead then 0 else s.after ws 0x1A00 (2 + classIndex cl) * blockValue cl) ≤
       installed cl) &&
     (List.range 64).all (fun t => s.after ws (0x1900 + t) 1 != 1 || s.after ws (0x1900 + t) (2 + classIndex cl) % blockValue cl == 0))⟩
/-- COSIGN bit 1 needs a reserve BE (R144, R363). -/
def ruleCosign : SpanRule :=
  ⟨fun idx sub => (idx == 0x1A00 && sub == 4) || (idx == 0x3800 && sub == 6),
   fun s _ ws => !(bitAt (s.after ws 0x3800 6) 1 && s.after ws 0x1A00 4 == 0)⟩
/-- The stream limits sum to at most 4,096 (R288). -/
def ruleStreams : SpanRule :=
  ⟨fun idx sub => inTenants 0x20C0 idx && sub == 1, fun s _ ws => decide (s.tenantSum ws 0x20C0 1 ≤ 4096)⟩
/-- The volatile-key limits sum to at most 65,536 (R333). -/
def ruleVolatile : SpanRule :=
  ⟨fun idx sub => inTenants 0x2C40 idx && sub == 1, fun s _ ws => decide (s.tenantSum ws 0x2C40 1 ≤ 65536)⟩
/-- Two address ranges do not meet. -/
def apart (a n b m : Nat) : Bool := decide (a + n ≤ b) || decide (b + m ≤ a)
/-- Regions in use are 4,096-aligned, of non-zero length, apart, and large enough for a trailer where SIGNED (R354). -/
def ruleRegions : SpanRule :=
  ⟨fun idx sub => decide (0x3101 ≤ idx ∧ idx ≤ 0x311F) && (sub == 1 || decide (0x10 ≤ sub ∧ sub ≤ 0x2F)),
   fun s _ ws => ws.all (fun w => !decide (0x3101 ≤ w.idx ∧ w.idx ≤ 0x311F) ||
     (let n := s.after ws w.idx 1
      let st := fun r => s.after ws w.idx (0x10 + 4 * r)
      let ln := fun r => s.after ws w.idx (0x11 + 4 * r)
      (List.range n).all (fun r => st r % 4096 == 0 && ln r % 4096 == 0 && ln r != 0 &&
        (s.after ws w.idx (0x13 + 4 * r) % 4 != 2 || decide (7232 ≤ ln r)) &&
        (List.range r).all (fun q => apart (st q) (ln q) (st r) (ln r)))))⟩
/-- Protected windows in use are 4,096-aligned with a non-zero length (R355). -/
def ruleProtected : SpanRule :=
  ⟨fun idx sub => decide (0x3201 ≤ idx ∧ idx ≤ 0x321F) && (sub == 2 || decide (0x10 ≤ sub)),
   fun s _ ws => ws.all (fun w => !decide (0x3201 ≤ w.idx ∧ w.idx ≤ 0x321F) ||
     (List.range (s.after ws w.idx 2)).all (fun p => s.after ws w.idx (0x10 + 2 * p) % 4096 == 0 &&
       s.after ws w.idx (0x11 + 2 * p) % 4096 == 0 && s.after ws w.idx (0x11 + 2 * p) != 0))⟩
/-- An update window is opened by writing its four fields together, on a channel, aligned, and with an end at most 86,400 s ahead; an ordinary
write closes one by CHANNEL alone; none opens in QUIESCED (R346, R412). -/
def ruleWindows : SpanRule :=
  ⟨fun idx sub => windowField idx sub,
   fun s a ws => ws.all (fun w => !windowField w.idx w.sub ||
     (let k := (w.sub - 0x10) / 4
      let v := fun i => s.after ws 0x3200 (0x10 + 4 * k + i)
      let has := fun i => ws.any (fun x => x.idx == 0x3200 && x.sub == 0x10 + 4 * k + i)
      (v 0 == 0xFF && has 0) ||
        (a.isSealed && !s.tamp.quiesce && has 0 && has 1 && has 2 && has 3 && decide (1 ≤ v 0) && decide (v 0 ≤ 31) && v 1 % 4096 == 0 && v 2 % 4096 == 0 && v 2 != 0 &&
          decide (s.clk.datum < ofTime80 (v 3)) && decide (ofTime80 (v 3) ≤ s.clk.datum + 86400 * 1000000000))))⟩
/-- A membership list: odd total weight, no identity twice, weights 1 to 3 below MEMBER_COUNT and 0 above, this device's identity in it
(R374). An empty list with no group is no list. -/
def ruleGroup : SpanRule :=
  ⟨fun idx sub => (idx == 0x4400 && (sub == 1 || sub == 2)) || (decide (0x4410 ≤ idx ∧ idx ≤ 0x4417) && (sub == 1 || sub == 2)),
   fun s _ ws =>
     let n := s.after ws 0x4400 2
     let wt := fun i => s.after ws (0x4410 + i) 2
     let dg := fun i => s.after ws (0x4410 + i) 1
     (n == 0 && s.after ws 0x4400 1 == 0) ||
       (((List.range n).map wt).sum % 2 == 1 && (List.range n).all (fun i => (List.range i).all (fun k => dg k != dg i)) &&
         (List.range 8).all (fun i => if i < n then decide (1 ≤ wt i) && decide (wt i ≤ 3) else wt i == 0) &&
         (List.range n).any (fun i => dg i == s.identity))⟩
/-- STAGE and INSTALL are not written while an install is under way (R244). -/
def ruleStage : SpanRule :=
  ⟨fun idx sub => idx == 0x2420 || (idx == 0x2421 && sub == 1),
   fun s _ _ => !(s.rd 0x2421 3 == 1 || s.rd 0x2421 3 == 2)⟩
/-- REMOVE_BINDING is written with REMOVE (R244). -/
def ruleRemove : SpanRule :=
  ⟨fun idx sub => idx == 0x2421 && sub == 1,
   fun _ _ ws => ws.all (fun w => !(w.idx == 0x2421 && w.sub == 1 && beNat w.val == 3) || ws.any (fun x => x.idx == 0x2421 && x.sub == 2))⟩
/-- A write of TRANSITION or WARM_RESET is the only write in its transaction (R398, R444). -/
def ruleAlone : SpanRule :=
  ⟨fun idx sub => (idx == 0x5000 && sub == 1) || (idx == 0x1201 && sub == 2), fun _ _ ws => ws.length == 1⟩
/-- A source of response QUIESCE or higher is ASSERTED or has its ALERT flag set (R422). -/
def State.quiesceHolds (s : State) : Bool :=
  (List.range 16).any (fun i => decide (4 ≤ s.rd (0x4000 + i) 1) && (s.rd (0x4000 + i) 3 == 1 || bitAt (s.rd (0x4000 + i) 4) 0))
/-- RESUME waits for its sources (R422). -/
def ruleResume : SpanRule :=
  ⟨fun idx sub => idx == 0x4020 && sub == 3, fun s _ ws => s.after ws 0x4020 3 != 1 || !s.quiesceHolds⟩
/-- A DISABLED source is not restarted (R294). -/
def ruleRestart : SpanRule :=
  ⟨fun idx sub => decide (0x2820 ≤ idx ∧ idx < 0x2830) && sub == 4,
   fun s _ ws => ws.all (fun w => !(decide (0x2820 ≤ w.idx ∧ w.idx < 0x2830) && w.sub == 4 && beNat w.val == 1) || s.rd w.idx 1 != 4)⟩
/-- KEYS_RESET needs KEYS_LOST or a domain rolled back (R331). -/
def ruleKeysReset : SpanRule :=
  ⟨fun idx sub => idx == 0x2C00 && sub == 8, fun s _ ws => s.after ws 0x2C00 8 != 1 || s.rd 0x1010 5 == 1 || s.keys.rolled != []⟩
/-- FLOOR_RAISE raises the floor, to no more than the patch in use, in OWNED, while PWR_HOLD is asserted (R241). -/
def ruleFloor : SpanRule :=
  ⟨fun idx sub => idx == 0x2400 && sub == 5,
   fun s _ ws => let f := s.after ws 0x2400 5
     decide (s.lc.floor < f) && decide (f ≤ s.rd 0x2400 2) && s.lifecycle == 4 && s.pins.pwrHold⟩
/-- ENROL_DIGEST and ENROL_SET: the first transaction wins, and its fuses are programmed only while PWR_HOLD is asserted and no other programming goes on (R123, R396, R402). -/
def ruleEnrol : SpanRule :=
  ⟨fun idx sub => idx == 0x1030 && (sub == 1 || sub == 2),
   fun s _ ws => let same := s.after ws 0x1030 1 == s.rd 0x1030 1 && s.after ws 0x1030 2 == s.rd 0x1030 2
     !s.lc.enrolBad && (same || (s.rd 0x1030 1 == 0 && s.rd 0x1030 2 == 0 && s.lc.prog.isNone && s.pins.pwrHold))⟩
/-- The rules a transaction is held to, in the chapters' order. -/
def spanRules : List SpanRule :=
  [ruleFec, rulePtp, rulePorts, ruleShares, ruleDepths, ruleCreds, ruleAllowances, ruleCosign, ruleStreams, ruleVolatile, ruleRegions, ruleProtected,
   ruleEnrol, ruleWindows, ruleGroup, ruleFloor, ruleStage, ruleRemove, ruleAlone, ruleResume,
   ruleRestart, ruleKeysReset]

/-- The position of the lowest-numbered write that a rule covers (R110). -/
def firstCovered (r : SpanRule) (ws : List DWrite) : Option Nat := ws.findIdx? (fun w => r.covers w.idx w.sub)
/-- The first rule that the transaction breaks, among those that cover one of its writes. -/
def State.spanRefused (s : State) (a : Asker) (ws : List DWrite) : Option Refused :=
  spanRules.findSome? (fun r => match firstCovered r ws with
    | some p => if r.holds s a ws then none else some ⟨0x72, p, 0⟩
    | none => none)

/-- The refusal of a transaction, if any (R110). -/
def State.txnRefused (s : State) (a : Asker) (ws : List DWrite) : Option Refused :=
  match s.itemsRefused a 0 [] ws with
  | some e => some e
  | none => s.spanRefused a ws

/-- A transaction changes a P or S entry, so it is journalled first (R113). -/
def journalled (ws : List DWrite) : Bool :=
  ws.any (fun w => match rowOf w.idx w.sub with | some r => r.pers == 1 || r.pers == 2 | none => false)

end Machine
end Sys2Proof
end

