-- ==== Sys2Proof/Machine/Entropy.lean ====
section
/-! DEFINITION. Noise sources, their health tests, the pool and the DRBGs (13 R289-R305). -/

namespace Sys2Proof
namespace Machine

/-! ### Health tests (R291) -/

/-- The repetition count test over samples, from the last sample and its run: where it first fails, and the last sample and run after. -/
def repetition : Nat → Option Bool → Nat → List Bool → Option Nat × Option Bool × Nat
  | _, b, n, [] => (none, b, n)
  | i, b, n, x :: xs =>
    let n' := if b = some x then n + 1 else 1
    let r := repetition (i + 1) (some x) n' xs
    (if 41 ≤ n' then some i else r.1, r.2)
/-- The adaptive proportion test over a window: where the first sample's value occurs for the 795th time. -/
def proportion (first : Bool) : Nat → Nat → List Bool → Option Nat
  | _, _, [] => none
  | i, n, x :: xs =>
    let n' := if x = first then n + 1 else n
    if 795 ≤ n' then some i else proportion first (i + 1) n' xs
/-- Octets with samples packed least significant first (R293). -/
def packSamples : Nat → List Bool → Bytes
  | 0, _ => []
  | n + 1, bs => BitVec.ofNat 8 ((List.range 8).foldl (fun v i => if bs.getD i false then v + 2 ^ i else v) 0) :: packSamples n (bs.drop 8)

/-! ### Source states (R290, R294, R296, R303) -/

/-- SOURCE_STATE: 0 OFF, 1 STARTUP, 2 HEALTHY, 3 FAILED, 4 DISABLED. -/
def State.srcState (s : State) (n : Nat) : Nat := s.rd (0x2820 + n) 1
/-- The samples of a source are tested: it runs, also through a warm reset (R294). -/
def State.srcRuns (s : State) (n : Nat) : Bool := decide (n < 16) && !s.clk.gated && (s.srcState n == 2 || s.srcState n == 1)
/-- A dispatched RANDOM_OCTETS job whose calls have not all been made (R300, R303). -/
def Job.callsLeft (j : Job) : Bool := j.state == .running && j.kind == 0x1 && j.opcode == 0x0F10
/-- FAMINE begins (R303, R305): every DRBG stops, and handshakes, queued jobs that need randomness and RANDOM_OCTETS jobs with calls left end with
ENTROPY_FAIL. -/
def State.beginFamine (s : State) : State :=
  let t := ((s.wr 0x2800 1 2).entropyEvent 4 true).stopDrbgs
  let t := t.hs.foldl (fun u h => u.sendHandshake h.port h.peer h.tenant 0 h.ident 0x50 0 h.cookie 0 []) { t with hs := [] }
  let t := (t.jobs.filter Job.callsLeft).foldl (fun u (j : Job) => u.cutJob j 0x50 0 0) t
  ((t.jobs.filter (fun (j : Job) => j.state == .queued && j.kind == 0x1 && j.kernel == none && needsRandom j.opcode j.payload)).foldl
    (fun u (j : Job) => u.finish j.ref 0x50 0 [] none) t).settle
/-- ENTROPY_STATE follows the sources downwards (R296). -/
def State.entropyDown (s : State) : State := if s.entropyState = 1 ∧ s.healthy < 4 then s.beginFamine else s
/-- The raw sample buffer is empty where its source is not HEALTHY (R302). -/
def State.dropRaw (s : State) (n : Nat) : State :=
  { s with ent := { s.ent with
    raw := (match s.ent.raw with | some r => if r.1 = n then none else some r | none => none)
    rawNext := (match s.ent.rawNext with | some r => if r.1 = n then none else some r | none => none) } }
/-- A source fails with a cause: it stops, its unconditioned samples go, and the third failure disables it (R292, R294). -/
def State.failSource (s : State) (n cause : Nat) : State :=
  let k := s.rd (0x2820 + n) 2 + 1
  let t := (s.setSource n sourceInit).wr (0x2820 + n) 2 k
  let t := (t.wr (0x2820 + n) 3 cause).wr (0x2820 + n) 1 (if 3 ≤ k then 4 else 3)
  let t := (t.dropRaw n).entropyEvent 1 false
  (if 3 ≤ k then t.entropyEvent 2 false else t).entropyDown
/-- LAST_CAUSE of a failed test: 1 and 2 after the start-up window, 3 and 4 in it (R290). -/
def State.causeOf (s : State) (n test : Nat) : Nat := if s.srcState n = 1 then test + 2 else test
/-- A window that passed: its samples go to the conditioner, but for the 256 that refill the raw sample buffer (R292, R302; log 37). -/
def State.passWindow (s : State) (n : Nat) (samples : List Bool) (last : Option Bool) (run : Nat) : State :=
  let capture := s.rd 0x2810 2 == n && s.ent.raw == none && s.ent.rawNext == none
  let src := s.source n
  let t := s.setSource n { src with left := src.left ++ (if capture then samples.drop 256 else samples), lastBit := last, run := run }
  let t := if capture then { t with ent := { t.ent with rawNext := some (n, samples.take 256) } } else t
  let t := (t.inc (0x2820 + n) 6 1).wr (0x2820 + n) 1 2
  t.entropyUp

/-- SOURCE_WARMUP_DONE (R290). -/
def execSourceWarmupDone (src : Nat) (s : State) : Out :=
  when (s.srcRuns src && s.srcState src == 1 && !(s.source src).warm) s (s.setSource src { s.source src with warm := true })
/-- SOURCE_WINDOW_END: the window passes, or the test that failed first in sample order fails the source (R290, R291). -/
def execSourceWindowEnd (src : Nat) (samples : List Bool) (s : State) : Out :=
  let x := s.source src
  if !s.srcRuns src ∨ (s.srcState src = 1 ∧ !x.warm) ∨ samples.length ≠ 1024 then .next s
  else
    let r := repetition 0 x.lastBit x.run samples
    match r.1, proportion (samples.headD false) 0 0 samples with
    | none, none => .next (s.passWindow src samples r.2.1 r.2.2)
    | some _, none => .next (s.failSource src (s.causeOf src 1))
    | none, some _ => .next (s.failSource src (s.causeOf src 2))
    | some i, some k => .next (s.failSource src (s.causeOf src (if i ≤ k then 1 else 2)))
/-- REPETITION_COUNT_FAIL (R291, R294). -/
def execRepetitionCountFail (src : Nat) (s : State) : Out := when (s.srcRuns src) s (s.failSource src (s.causeOf src 1))
/-- BLOCK_CONDITIONED: 640 samples make a block, which enters the pool (R293, R295). -/
def execBlockConditioned (src : Nat) (s : State) : Out :=
  let x := s.source src
  let b := beNat (prim 32 .sha3_256 [packSamples 80 x.left])
  when (s.srcRuns src && s.srcState src == 2 && decide (640 ≤ x.left.length)) s ((s.setSource src { x with left := x.left.drop 640 }).addBlock b).entropyUp

/-! ### Effects of writes (R294, R299, R302) -/

/-- RESTART of a source: from FAILED or OFF into STARTUP; nothing in STARTUP or HEALTHY. -/
def State.restartSource (s : State) (n : Nat) : State :=
  if s.srcState n = 3 ∨ s.srcState n = 0 then (s.setSource n sourceInit).wr (0x2820 + n) 1 1 else s
/-- DISABLE of a source: to OFF, without counting a failure; a DISABLED source leaves that state by cold reset only (log 38). -/
def State.disableSource (s : State) (n : Nat) : State :=
  if s.srcState n = 4 then s else (((s.setSource n sourceInit).wr (0x2820 + n) 1 0).dropRaw n).entropyDown
/-- RESEED_ALL: every instantiated DRBG is held until its reseed (R299). -/
def State.reseedAll (s : State) : State :=
  (List.range 80).foldl (fun u d =>
    if (u.drbg d).state = 1 ∨ (u.drbg d).state = 2 then (u.setDrbg d { u.drbg d with state := 2 }).request ⟨drbgClass d, d, false, false, none⟩ else u) s
/-- The value of RAW_SAMPLE (R302). -/
def State.rawValue (s : State) : Bytes :=
  match s.ent.raw with
  | some r => [1, BitVec.ofNat 8 r.1] ++ List.replicate 6 0 ++ packSamples 32 r.2
  | none => List.replicate 40 0
/-- A read of RAW_SAMPLE takes the buffer, or counts an empty read. -/
def State.takeRaw (s : State) : State :=
  if s.ent.raw = none then s.entropyEvent 16 false else { s with ent := { s.ent with raw := none } }
/-- A write of SAMPLE_SOURCE empties the buffer where it names another source. -/
def State.sampleSource (s : State) (old : Nat) : State :=
  if s.rd 0x2810 2 = old then s else { s with ent := { s.ent with raw := none, rawNext := none } }
/-- RAW_SAMPLE_REFILL: the captured samples of a passing window fill the buffer (R302). -/
def execRawSampleRefill (samples : List Bool) (s : State) : Out :=
  match s.ent.rawNext with
  | some r => when (r.2 == samples && !s.clk.gated) s { s with ent := { s.ent with raw := some r, rawNext := none } }
  | none => .next s

/-! ### DRBGs (R298, R299, R301) -/

/-- DRBG_INSTANTIATE (R298). -/
def execDrbgInstantiate (drbg : Nat) (s : State) : Out :=
  when (s.phase != .down && !s.clk.gated) s (s.withdrawRequests.serveNext drbg true)
/-- DRBG_RESEED (R299). -/
def execDrbgReseed (drbg : Nat) (s : State) : Out :=
  when (s.phase != .down && !s.clk.gated) s (s.withdrawRequests.serveNext drbg false)
/-- A job's DRBG does not serve it, or its prediction-resistance reseed has not come (R299, R301). -/
def State.awaitsDrbg (s : State) (j : Job) : Bool :=
  !s.serving (tenantDrbg j.tenant) || s.ent.reqs.any (fun r => r.cls == 3 && r.job == some j.ref)
/-- ENTROPY_WAIT_TIMEOUT: a queued job has waited 2 ms of FAB time for its DRBG, which serves it no more since then (R301). -/
def execEntropyWaitTimeout (j : JobRef) (s : State) : Out :=
  match s.findJob j with
  | none => .next s
  | some x => when (x.state == .queued && x.kind == 0x1 && !s.clk.gated && s.awaitsDrbg x && (match x.waitSince with | some w => decide (Nat.max w (s.drbg (tenantDrbg x.tenant)).heldAt + 2 * msFab ≤ s.clk.fab) | none => false)) s
      ((s.finish j 0x50 0 [] none).settle)

end Machine
end Sys2Proof
end

