-- ==== Sys2Proof/Machine/Streams.lean ====
section
/-! DEFINITION. STREAM messages: parts of a digest, in part order (12 R274-R280, R285). -/

namespace Sys2Proof
namespace Machine

/-- What a FINISH answers for all the octets of its digest (R278, R285). -/
def finishValue (op : Nat) (c : DStream) (key expected data : Bytes) : Bytes :=
  let set := opSet op
  if opFam op = 0x20 then verdict (prim (hashLen set) (hashPrim set) [data] == expected)
  else
    let v := hashValue set (opOp op) c.params key data
    if opOp op = 2 then verdict (v == expected) else v

/-- Absorb a part, on top of what its context holds of it since its last switch (R287); a FINISH answers the digest and leaves the context at its initial state (R277-R279). -/
def streamBodyRun (s : State) (j : Job) : Ran :=
  match s.streamRefusal j, s.streamCtx j with
  | some st, _ => fails s st
  | none, none => fails s 0x20
  | none, some c =>
    let b := j.payload
    let out := fieldAt c.params 0 4
    let data := c.data ++ (streamData j.opcode out b).take j.mid ++ (streamData j.opcode out b).drop j.mid
    let t := if !startBit b ∧ c.finished then s.event (0x20C0 + j.tenant) 3 2 else s
    let put := fun (c : DStream) => { t with dstreams := Map.put t.dstreams (streamKey j.chan (fieldAt b 0 1)) c }
    if finishBit b then
      ok (put { c with data := [], part := 0, finished := true })
        (finishValue j.opcode c (s.keySecret j) (slice b (streamBody b) (expectedLen j.opcode out)) data)
    else ok (put { c with data := data, part := c.part + 1, finished := false }) (beBytes 8 data.length)

/-- STREAM_MESSAGE (R277): a dispatched message absorbs its part; one that its stream refuses ends in its queue. -/
def execStreamMessage (r : JobRun) (s : State) : Out :=
  match s.findJob r.j with
  | none => .next s
  | some j =>
    if j.state = .queued ∧ j.kind = 0x3 ∧ s.isHead j then
      match s.streamRefusal j with
      | some st => .next ((s.finish j.ref st 0 [] none).settle)
      | none => .next s
    else runRow 0x3 r streamExists streamBodyRun s

end Machine
end Sys2Proof
end

