-- ==== Sys2Proof/Machine/Faults.lean ====
section
/-! DEFINITION. Hardware faults, the one retry, fences, spare banks and lost working-store words (20 R435, 21 R445-R454). -/

namespace Sys2Proof
namespace Machine

/-! ### Fault classes (R445) -/

/-- What a hardware fault is charged to: an engine, a cluster, a port, or nothing that can be fenced. -/
inductive Charged where
  | engine (u : Nat)
  | cluster (c : Nat)
  | port (p : Nat)
  | nothing
  deriving DecidableEq, Repr
/-- The unit that the *Fault classes* table charges. A block under a clock gate is an engine, 2048 + c for cluster c, 4096 + n for flash channel n. -/
def chargeOf (f : HwFault) : Charged :=
  match f.kind with
  | .clusterParity | .storeParity => .cluster (unitCluster f.unit)
  | .portParity => .port f.unit
  | .gateAbort => if f.unit < 2048 then .engine f.unit else if f.unit < 4096 then .cluster (f.unit - 2048) else .nothing
  | _ => .engine f.unit
/-- The fault can strike the unit that it names. -/
def faultFits (f : HwFault) : Bool :=
  match f.kind with
  | .leParity | .clusterParity | .storeParity => decide (f.unit < 64)
  | .hashParity => unitExists f.unit && decide (256 ≤ f.unit) && decide (f.unit < 768)
  | .engineParity => unitExists f.unit && decide (768 ≤ f.unit)
  | .rsaCheck => unitExists f.unit && decide (768 ≤ f.unit) && decide (f.unit < 1024)
  | .portParity => decide (f.unit < 4)
  | .gateAbort => unitExists f.unit || (decide (2048 ≤ f.unit) && decide (f.unit < 2064)) || (decide (4096 ≤ f.unit) && decide (f.unit < 4128))
/-- A parity-class fault. -/
def parityClass (k : FaultKind) : Bool := k != .rsaCheck && k != .gateAbort
/-- A fault that an LE raises (ENGINE_EVENTS, R220, R266). -/
def raisedByLe (k : FaultKind) : Bool := k == .leParity || k == .clusterParity || k == .storeParity
/-- The status of a job that is not recovered, and its detail. -/
def faultStatus (f : HwFault) : Nat × Nat :=
  match f.kind with
  | .storeParity | .rsaCheck | .gateAbort => (0x54, 0)
  | .clusterParity => (0x51, f.element.getD 0xFF)
  | _ => (0x51, 0xFF)
/-- The kind of the fault's event-log row (R453). -/
def faultRow (k : FaultKind) : Nat := if k = .gateAbort then 3 else if k = .rsaCheck then 2 else 1
/-- Unit type, cluster and index of the row. -/
def chargedRow : Charged → Nat × Nat × Nat
  | .engine u => (unitType u, unitCluster u, unitIndex u)
  | .cluster c => (6, c, 0)
  | .port p => (8, 0xFF, p)
  | .nothing => (0, 0xFF, 0)

/-! ### Retry (R446) -/

/-- The first fault of a job: its charge in the running lap is withdrawn and counted in FAULT_CYCLES, and it is queued with precedence, its slot, sequence and
result reservation unchanged; randomness is drawn afresh (R159). -/
def State.retryJob (s : State) (j : Job) (unit : Option Nat) : State :=
  let s := s.accrue j
  let w := match s.findJob j.ref with | some x => x.lapCharged.add x.lapBorrowed | none => noWork
  let t := ((s.inc 0x4800 4 (w.le + w.hc + w.be)).inc 0x4800 2 1).withdraw j.ref
  (t.requeue j).mapJob j.ref (fun (x : Job) => { x with retried := true, faultUnit := unit, rnd := none })
/-- A job's attempt is ended by a hardware fault: a tenant reset or an abortive close that is latched acts; the second fault ends the job. `row` is the
event-log row's unit. -/
def State.faultJob (s : State) (j : Job) (unit : Option Nat) (row : Nat × Nat × Nat) (status detail : Nat) : State :=
  if s.latchedOn j 1 then s.cutJob j 0x60 0 0
  else if s.latchedOn j 2 then (s.accrue j).discardJob j.ref
  else if !j.retried then s.retryJob j unit
  else
    let t := (s.inc 0x4800 3 1).cutJob j status detail 0
    t.logRow 10 row.1 row.2.1 row.2.2 j.tenant status 0

/-! ### Fences (R449) -/

/-- Fault times within the last 1,000 ms, and the one now. -/
def State.recent (s : State) (ts : List Nat) : List Nat := (ts.filter (fun t => decide (s.clk.fab < t + 1000 * msFab))) ++ [s.clk.fab]
/-- An engine is fenced: at once where it runs nothing, else latched for its next safe point. -/
def State.fenceEngine (s : State) (u : Nat) (owner : Bool) : State :=
  let e := s.engine u
  s.setEngine u { e with
    fenced := e.fenced || e.job == none
    ownerFence := e.ownerFence || owner
    latched := if e.job = none ∨ e.latched.contains 3 then e.latched else e.latched ++ [3]
    fenceAt := s.clk.fab }
/-- The engine is fenced already, or about to be. -/
def Engine.fencing (e : Engine) : Bool := e.fenced || e.latched.contains 3
/-- Contexts suspended in a cluster go with its scratch: their jobs are moved. -/
def State.moveSuspended (s : State) (c : Nat) : State :=
  (s.jobs.filter (fun (j : Job) => j.state == .suspended && j.units.any (fun u => unitCluster u == c))).foldl (fun u j => u.moveJob j) s
/-- A fence by three faults: logged; an LE's or a cluster's is counted in ENGINE_EVENTS with FENCED; units are replaced (R133). -/
def State.fenceUnits (s : State) (us : List Nat) (row : Nat × Nat × Nat) (owner le : Bool) : State :=
  let t := us.foldl (fun u x => u.fenceEngine x owner) s
  let t := t.logRow 4 row.1 row.2.1 row.2.2 0xFF 0 0
  s.rebalanceFrom (if le then t.event (0x2000 + row.2.1) 7 16 else t) true
/-- A port is fenced at once: its link goes down and LINK_STATE reads FENCED until ENABLE is written 0 and then 1. -/
def State.fencePort (s : State) (p : Nat) : State :=
  let t := if s.linkUp p then s.portDown p 3 else s.wr (0x1400 + p) 0x10 3
  { t with flt := { t.flt with portFenced := if t.flt.portFenced.contains p then t.flt.portFenced else t.flt.portFenced ++ [p] } }.logRow 4 8 0xFF p 0xFF 0 0
/-- A fault is charged: at the third within 1,000 ms the unit is fenced. The flag is FENCE where it is. -/
def State.chargeFault (s : State) (c : Charged) : State × Nat :=
  match c with
  | .engine u =>
    let e := s.engine u
    let ts := s.recent e.faults
    let t := s.setEngine u { e with faults := ts }
    if ts.length < 3 ∨ e.fencing then (t, 0) else (t.fenceUnits [u] (chargedRow c) false (decide (u < 256)), 4)
  | .cluster k =>
    let ts := s.recent (Map.getD s.flt.clusterFaults k [])
    let t := { s with flt := { s.flt with clusterFaults := Map.put s.flt.clusterFaults k ts } }
    if ts.length < 3 ∨ (clusterUnits k).all (fun u => (s.engine u).fencing) then (t, 0)
    else ((t.fenceUnits (clusterUnits k) (chargedRow c) false true).moveSuspended k, 4)
  | .port p =>
    let ts := s.recent (Map.getD s.flt.portFaults p [])
    let t := { s with flt := { s.flt with portFaults := Map.put s.flt.portFaults p ts } }
    if ts.length < 3 ∨ s.flt.portFenced.contains p then (t, 0) else (t.fencePort p, 4)
  | .nothing => (s, 0)

/-! ### PARITY_STORM (R409, R450) -/

/-- A parity-class fault counts towards PARITY_STORM: the source's alarm at 64 within 1 ms. -/
def State.storm (s : State) : State :=
  let ts := (s.tamp.parity.filter (fun t => decide (s.clk.fab < t + msFab))) ++ [s.clk.fab]
  let t := { s with tamp := { s.tamp with parity := ts } }
  if 64 ≤ ts.length ∧ !s.asserted 13 then t.alarm 13 else t

/-! ### HARDWARE_FAULT (R445, R446, R449) -/

/-- The job that a fault strikes: the one on the unit; of a GATE_ABORT, the one whose transaction was ended (R435). -/
def State.struck (s : State) (f : HwFault) : Option Job :=
  match f.kind with
  | .portParity => none
  | .gateAbort => match f.job with
    | some r => (s.findJob r).filter Job.running
    | none => none
  | _ => match (s.engine f.unit).job with
    | some r => (s.findJob r).filter Job.running
    | none => none
/-- The memory fault record of a parity-class fault on a cluster-memory word, from the window address that the LE supplied; other faults have none (R266,
R453). The elements before the faulting one are complete, and R217 clears what they wrote with the rest. -/
def faultRecordOf (f : HwFault) : Nat :=
  if f.kind = .clusterParity then faultRecord 4 f.element.isSome (f.element.getD 0 % 16) f.unit (f.record % 2 ^ 36) else 0
/-- The word whose fetch reported a fault: bit 14 of the command's record names the nanostore, the bits below it the address (R236; log 123). -/
def badWordOf (f : HwFault) : Bool × Nat := (bitAt f.record 14, if bitAt f.record 14 then f.record % 2 ^ 10 else f.record % 2 ^ 14)
/-- A hardware fault. -/
def State.hardwareFault (s : State) (f : HwFault) : State :=
  let j := s.struck f
  let row := chargedRow (chargeOf f)
  let st := faultStatus f
  let ends := match j with
    | some x => x.retried && !s.latchedOn x 1 && !s.latchedOn x 2
    | none => false
  let t := s.logRow (faultRow f.kind) row.1 row.2.1 row.2.2 (match j with | some x => x.tenant | none => 0xFF) (if ends then st.1 else 0) (faultRecordOf f)
  let t := if f.kind = .portParity then t.inc (0x1400 + f.unit) 0x14 1 else t
  let t := if raisedByLe f.kind then t.event (0x2000 + unitCluster f.unit) 7 8 else t
  let c := unitCluster f.unit
  let t := if f.kind = .storeParity ∧ !(t.cluster c).badWords.contains (badWordOf f) then t.setCluster c { t.cluster c with badWords := (t.cluster c).badWords ++ [(badWordOf f)] } else t
  let t := match j with
    | some x => t.faultJob x (if f.unit < 2048 then some f.unit else none) row st.1 st.2
    | none => t
  let r := t.chargeFault (chargeOf f)
  let t := r.1.event 0x4800 1 ((if parityClass f.kind then 1 else 2) + r.2)
  if parityClass f.kind then t.storm else t
/-- HARDWARE_FAULT (R445, R446, R449). -/
def execHardwareFault (f : HwFault) (s : State) : Out := when (s.runs && faultFits f) s (s.hardwareFault f)
/-- AES_FENCE_TIMEOUT: 13.1 µs after the latch the job is moved (R449). -/
def execAesFenceTimeout (unit : Nat) (s : State) : Out :=
  let e := s.engine unit
  match e.job with
  | none => .next s
  | some r =>
    match s.findJob r with
    | none => .next s
    | some j => when (s.runs && decide (1024 ≤ unit) && e.latched.contains 3 && j.running && decide (e.fenceAt + 16375 ≤ s.clk.fab)) s (s.moveJob j)
/-- GATE_ABORT: the block's transactions are ended, the block is reset and its gate closes; it has no job (R435). What the initiator sees is a
HARDWARE_FAULT. -/
def execGateAbort (unit : Nat) (s : State) : Out :=
  let t := if unit < 256 then s.setLe unit { leInit with maskCount := (s.le unit).maskCount, maskTenant := (s.le unit).maskTenant, maskStopped := (s.le unit).maskStopped } else s
  when (s.runs && faultFits ⟨.gateAbort, unit, none, none, 0⟩ && (s.engine unit).job == none) s (t.event 0x1200 7 8)

/-! ### FENCE_REQUEST (R220) -/

/-- Bit `i` of FENCE_REQUEST is 1: LE `i` of the cluster is fenced. -/
def State.requestFence (s : State) (u : Nat) : State :=
  if (s.engine u).fencing then s else s.fenceUnits [u] (chargedRow (.engine u)) true true
/-- Bit `i` is 0: a fenced LE passes its self-test, and returns at the next lap boundary; a request of the owner's that is still latched is dropped. -/
def State.releaseFence (s : State) (u : Nat) : State :=
  let e := s.engine u
  if e.fenced then s.setEngine u { e with selfTest := true, ownerFence := false }
  else s.setEngine u { e with ownerFence := false, latched := if e.ownerFence then e.latched.filter (fun x => x != 3) else e.latched }
/-- The cluster is fenced as a whole. -/
def State.clusterFenced (s : State) (c : Nat) : Bool := (clusterUnits c).all (fun u => (s.engine u).fenced)
/-- FENCE_REQUEST of a cluster is written; a whole fenced cluster is released when all four bits are 0 (log 57). -/
def State.fenceWritten (s : State) (c v : Nat) : State :=
  if s.clusterFenced c then (if v = 0 then (clusterUnits c).foldl (fun u x => u.releaseFence x) s else s)
  else (List.range 4).foldl (fun u i => if bitAt v i then u.requestFence (4 * c + i) else u.releaseFence (4 * c + i)) s

/-! ### Banks and lost words (R447, R448, R450) -/

/-- A bank is fenced and copied into a spare; with both spares in use it is not, and the flag is NO_SPARE. -/
def State.fenceBank (s : State) (b : Nat) : State × Nat :=
  let m := s.rd 0x4802 2
  let take := fun (v : Nat) =>
    let t := (s.wr 0x4802 2 v).wr 0x4802 1 (setBit (s.rd 0x4802 1) b true)
    ({ t with flt := { t.flt with copying := t.flt.copying ++ [b] } }.logRow 4 7 0xFF b 0xFF 0 0, 12)
  if m % 256 = 0xFF then take (m / 256 * 256 + b)
  else if m / 256 = 0xFF then take (b * 256 + m % 256)
  else (s, 16)
/-- A parity-class fault is charged to a bank. -/
def State.chargeBank (s : State) (b : Nat) : State × Nat :=
  let ts := s.recent (Map.getD s.flt.bankFaults b [])
  let t := { s with flt := { s.flt with bankFaults := Map.put s.flt.bankFaults b ts } }
  if ts.length < 3 ∨ bitAt (s.rd 0x4802 1) b then (t, 0) else t.fenceBank b
/-- A completion is lost: before its release it becomes MEM_FAULT; after it, its cache is discarded and the host is told (R447, R448). -/
def State.loseCompletion (s : State) (r : JobRef) : State :=
  match s.findJob r with
  | none => s
  | some j =>
    if j.live then s.cutJob j 0x51 0xFF 0
    else if j.state = .done then (s.mapJob r (fun (x : Job) => { x with status := 0x51, detail := 0xFF, result := [], reserve := 0 })).countFault j 0x51
    else (s.mapJob r (fun (x : Job) => { x with sentAs := none, result := [], reserve := 0 })).release r
/-- Running and suspended jobs that name a key. -/
def State.keyUsers (s : State) (h : Nat) : List Job := s.jobs.filter (fun (j : Job) => j.key == h && (j.running || j.state == .suspended))
/-- A DRBG's state is lost: it is instantiated again (R298). -/
def State.loseDrbg (s : State) (d : Nat) : State :=
  let held := (s.drbg d).state != 0
  let t := { s.zeroDrbg d with ent := { (s.zeroDrbg d).ent with reqs := s.ent.reqs.filter (fun r => r.drbg != d) } }
  if held then t.askSeed d else t
/-- A digest stream's context is broken, and the message that has begun to run on it ends, also while it is displaced, suspended or to be retried (R287). -/
def State.breakStream (s : State) (slot n : Nat) : State :=
  match Map.find s.dstreams (streamKey slot n) with
  | none => s
  | some d =>
    let t := { s with dstreams := Map.erase s.dstreams (streamKey slot n) }.event (0x20C0 + d.tenant) 3 1
    (t.jobs.filter (fun (j : Job) => (j.running || j.state == .suspended || (j.state == .queued && (j.switched || j.prec))) && j.kind == 0x3 && j.chan == slot && streamKey j.chan (fieldAt j.payload 0 1) == streamKey slot n)).foldl
      (fun u (j : Job) => u.cutJob j 0x51 0xFF 0) t
/-- An unarchived ring slot and every later one are discarded, as at power loss (R366, R447); a CHECKPOINT that a job waits for is made again. -/
def State.loseRing (s : State) (q : Nat) : State :=
  let keep := s.trav.ring.filter (fun b => decide (b.seq < q) || decide (0 < b.archived))
  let cutAt := fun (b : Bench) => if b.seq < q then b else b.cutShort
  let cut := keep.map cutAt
  let broken := s.trav.ring.filter (fun b => decide (q ≤ b.seq) && decide (b.archived < b.slots))
  let gone := s.trav.ring.filter (fun b => decide (q ≤ b.seq) && b.archived == 0)
  let last := match cut.getLast? with
    | some b => (b.seq + 1, b.hash)
    | none => (s.headSeq + (if s.trav.archive = [] then 0 else 1), s.headDigest)
  let t := { s with trav := { s.trav with
    ring := cut
    archive := s.trav.archive.map cutAt
    nextSeq := if gone = [] then s.trav.nextSeq else last.1
    headHash := if gone = [] then s.trav.headHash else last.2
    signing := cut.any (fun b => b.kind == 0x0C && !b.signed)
    epochHasCheckpoint := (cut ++ s.trav.archive).any (fun b => b.epoch == s.trav.epoch && b.kind == 0x0C)
    demand := s.trav.demand.map (fun (d : JobRef × Option Nat) => (d.1, if broken.any (fun b => some b.seq == d.2) then none else d.2)) } }
  let t := (t.event 0x3800 0xA 2).drainPending t.trav.pending.length
  let waits := fun (u : State) => u.trav.demand.any (fun (d : JobRef × Option Nat) => d.2 == none)
  if waits t ∧ !waits s then t.checkpoint 4 else t
/-- V entries take their defaults and the epoch rises by one; P and S entries come from the journal (R447). RO entries keep reporting the live state (log 55). -/
def State.loseShadow (s : State) : State :=
  let keep := fun (k : Nat) => match rowOf (k / 256) (k % 256) with
    | some r => !((r.pers == 0 || r.pers == 5) && r.access != 0)
    | none => true
  State.holdEpoch { s with dict := s.dict.filter (fun p => keep p.1), dtx := { s.dtx with epoch := s.dtx.epoch + 1 } }
/-- What becomes of a lost word, by its region (*Lost working-store words*, R447). A matrix entry is discarded; one that an LE reads is recomputed from its
seed while the LE waits, the work charged to its job within its worst cost (R9, R218; log 12). -/
def State.loseRegion (s : State) (w : LostWord) : State :=
  match w with
  | .jobInput j => (match s.findJob j with
    | some x => if x.live then s.cutJob x 0x51 0xFF 0 else s
    | none => s)
  | .egress j => s.loseCompletion j
  | .matrix dg =>
    let reads := fun (l : Le) => match l.w4 with | some m => m.digest == dg && !m.writing | none => false
    let readers := (s.les.filter (fun p => reads p.2)).filterMap (fun p => p.2.job)
    let away := (s.saved.filter (fun p => reads p.2)).filterMap (fun p => (s.jobs.find? (fun (j : Job) => j.order == p.1)).map (fun (j : Job) => j.ref))
    let readers := readers ++ away
    if readers = [] then { s with mcache := s.mcache.filter (fun (m : Matrix) => m.digest != dg) }
    else readers.foldl (fun u r => match u.findJob r with | some j => u.accrue j | none => u) s
  | .loadedKey h =>
    let t := { s with keys := { s.keys with loaded := s.keys.loaded.filter (fun x => x != h) } }
    ((s.keyUsers h).filter Job.running).foldl (fun u (j : Job) => u.faultJob j none (7, 0xFF, 0) 0x51 0xFF) t
  | .volatileKey h =>
    if keyScope h ≠ 0 ∨ s.key h = none then s
    else ((s.jobs.filter (fun (j : Job) => j.key == h && j.live)).foldl (fun u (j : Job) => u.cutJob j 0x51 0xFF 0) s).dropVolatile (keySlot h)
  | .drbg d => if d < 80 then s.loseDrbg d else s
  | .channel slot => if (Map.find s.chans slot).isSome then s.abortChannel slot else s
  | .stream chan n => s.breakStream chan n
  | .ringUnarchived q => s.loseRing q
  | .eventLog i => { s with flt := { s.flt with log := s.flt.log.modify i (fun (e : LogEntry) => { e with kind := 0 }) } }
  | .dictShadow => s.loseShadow
  | .ringArchived | .firmware => s
/-- A word is lost: its region's outcome, the row WORD_LOST, the charge to its bank where one is known, and PARITY_STORM. A matrix-cache word counts towards
no fence (R9). -/
def State.loseWord (s : State) (bank : Option Nat) (w : LostWord) : State :=
  let bank := match w with
    | .matrix _ => none
    | _ => bank
  let t := (s.loseRegion w).logRow 9 (if bank.isSome then 7 else 0) 0xFF (bank.getD 0) 0xFF 0 0
  let r := match bank with
    | some b => t.chargeBank b
    | none => (t, 0)
  (r.1.event 0x4800 1 (33 + r.2)).storm
/-- WORD_LOST: a parity-class fault on a working-store word of a bank (R447). -/
def execWordLost (bank : Option Nat) (w : LostWord) (s : State) : Out :=
  when (s.runs && (match bank with | some b => decide (b < 34) | none => true)) s (s.loseWord bank w)
/-- BANK_COPY_DONE: the spare has taken the bank's place; `lost` are the words that reported a fault during the copy (R450). -/
def execBankCopyDone (bank : Nat) (lost : List LostWord) (s : State) : Out :=
  let t := { s with flt := { s.flt with copying := s.flt.copying.filter (fun b => b != bank) } }.logRow 6 7 0xFF bank 0xFF 0 0
  when (s.runs && s.flt.copying.contains bank) s (lost.foldl (fun u w => u.loseWord none w) t)

/-- FENCED_UNITS: a cluster fenced as a whole counts once (R454; log 57). -/
def State.fencedUnits (s : State) : Nat :=
  let whole := (List.range 16).filter (fun c => s.clusterFenced c)
  let engines := s.units.filter (fun p => p.2.fenced && !whole.contains (unitCluster p.1))
  whole.length + engines.length + s.flt.portFenced.length + ((List.range 34).filter (fun b => bitAt (s.rd 0x4802 1) b)).length

end Machine
end Sys2Proof
end

