-- ==== Sys2Proof/Machine/Channels.lean ====
section
/-! DEFINITION. Handshakes, the life of channels, and CONTROL operations (04 R77-R101). -/

namespace Sys2Proof
namespace Machine

/-! ### Slots (R77) -/

/-- The first slot that has never been freed nor is in use. -/
def State.freshSlot (s : State) : Nat :=
  Nat.max ((s.chans.map (fun p => p.1 + 1)).foldl Nat.max 0) ((s.gens.map (fun p => p.1 + 1)).foldl Nat.max 0)
/-- The slot the next channel takes: one never used, else the least recently freed (R77; log 16). -/
def State.freeSlot (s : State) : Option Nat := if s.freshSlot < 65536 then some s.freshSlot else s.freed.head?
/-- The generation of a slot: 1 until it has been freed (R77; log 4). -/
def State.slotGen (s : State) (slot : Nat) : Nat := Map.getD s.gens slot 1
/-- Channels a tenant holds open or pending (entry 0x1800+t.30). -/
def State.openChannels (s : State) (t : Nat) : Nat := (s.chans.filter (fun p => p.2.tenant == t)).length

/-! ### HANDSHAKE (R79-R85, R96) -/

/-- The public-key and signature sizes of a credential's ML-DSA set (R79). -/
def dsaPk (st : Nat) : Nat := pubLen 0x02 st
def dsaSig (st : Nat) : Nat := sigLen 0x02 st
/-- Fields of a HANDSHAKE request body (R79). -/
def hsCred (b : Bytes) : Nat := fieldAt b 2 1
def hsSet (b : Bytes) : Nat := fieldAt b 3 1
def hsPk (b : Bytes) : Bytes := slice b 1656 (dsaPk (hsSet b))
def hsSig (b : Bytes) : Bytes := slice b (1656 + dsaPk (hsSet b)) (dsaSig (hsSet b))
/-- m_req (R80). -/
def mReq (tenant ident : Nat) (b : Bytes) : Bytes := beBytes 1 tenant ++ beBytes 8 ident ++ b.take (1656 + dsaPk (hsSet b))

/-- Credential `c` of a tenant: its digest, and its role and set, as the handshake checks see it; in PERSONALIZED the enrolment key (R75, R96). -/
def State.credDigest (s : State) (t c : Nat) : Nat :=
  if s.lifecycle = 3 then s.rd 0x1030 1 else s.rd (0x1800 + t) (0x20 + 2 * c)
def State.credRole (s : State) (t c : Nat) : Nat :=
  if s.lifecycle = 3 then 1 else s.rd (0x1800 + t) (0x21 + 2 * c) / 256
def State.credSet (s : State) (t c : Nat) : Nat :=
  if s.lifecycle = 3 then s.rd 0x1030 2 else s.rd (0x1800 + t) (0x21 + 2 * c) % 256

/-- The first failing check, 1 to 5, of the *Handshake checks* table, after the length check that R81 makes before them (R81, R96). -/
def State.hsCheck1 (s : State) (r : HsReq) : Option Nat :=
  let b := r.body
  let c := hsCred b
  let st := hsSet b
  if r.declared < 4 then some 0x26
  else if fieldAt b 0 1 ≠ 1 ∨ st = 0 ∨ 3 < st then some 0x20
  else if r.declared ≠ 1656 + dsaPk st + dsaSig st ∨ 2 ≤ fieldAt b 1 1 then some 0x26
  else if s.rd (0x1800 + r.tenant) 1 ≠ 1 ∨ !(s.lifecycle == 4 || (s.lifecycle == 3 && r.tenant == 0 && c == 0)) then some 0x15
  else if fieldAt b 8 48 ≠ s.identity then some 0x15
  else if 8 ≤ c ∨ s.credRole r.tenant c = 0 ∨ s.credSet r.tenant c ≠ st ∨ sha3 (hsPk b) ≠ s.credDigest r.tenant c then some 0x15
  else none
/-- The first failing check, 6 to 8 (R81). -/
def State.hsCheck2 (s : State) (r : HsReq) : Option Nat :=
  let b := r.body
  if !Config.check .mlDsaVerify [[BitVec.ofNat 8 (hsSet b)], hsPk b, ascii "NM72 HANDSHAKE HOST", mReq r.tenant r.ident b, hsSig b] then some 0x15
  else if s.rd (0x1800 + r.tenant) 3 ≤ s.openChannels r.tenant ∨ s.freeSlot.isNone then some 0x40
  else if s.entropyState ≠ 1 then some 0x50
  else none

/-- The engine time of a handshake is charged to its tenant's LE and BE allowances as for a job, at typical costs (R85; log 29): the verification of host_sig
from check 6 on; an ML-KEM-1024 DECAPS, and an X25519 KEYGEN and AGREE, when checks 1 to 8 pass; the ML-DSA-87 signature of the reply. -/
def hsVerifyWork (st : Nat) : Work := ⟨(signCost 0x02 st 1 2 0 false).1.le, 0, 0, 0⟩
def hsKeyWork : Work := ⟨tenths 800, 0, tenths 356, 0⟩
def hsSignWork : Work := ⟨(signCost 0x02 3 1 1 0 false).1.le, 0, 0, 0⟩
def State.hsCharge (s : State) (t : Nat) (w : Work) : State :=
  s.setTen t { s.ten t with charge := (s.ten t).charge.add w, own := (s.ten t).own.add w }

/-- The tenant has accepted HS_RATE requests in the current second, which is a whole second of the datum (R81; log 129). -/
def State.hsOverRate (s : State) (t : Nat) : Bool :=
  (s.ten t).hsSec == s.clk.datum / 1000000000 && decide (s.rd (0x1800 + t) 4 ≤ (s.ten t).hsCount)
/-- Count a request against HS_RATE (R81, R85). -/
def State.hsCounted (s : State) (t : Nat) : State :=
  let sec := s.clk.datum / 1000000000
  let ten := s.ten t
  s.setTen t { ten with hsSec := sec, hsCount := if ten.hsSec = sec then ten.hsCount + 1 else 1 }

/-- HANDSHAKE_REQUEST (R79-R82): of a request that has wholly arrived: rate, a tenant under reset (log 129), then checks 1 to 8; it waits for its shared
secrets. -/
def execHandshakeRequest (r : HsReq) (s : State) : Out :=
  if !s.runs ∨ !s.linkUp r.port ∨ 64 ≤ r.tenant ∨ !s.hsIn.contains r then .next s
  else
    let s := { s with hsIn := s.hsIn.erase r }
    if s.hsOverRate r.tenant then .next (s.inc (0x1800 + r.tenant) 0x35 1)
    else
      let t := s.hsCounted r.tenant
      let refuse := fun (v : State) (st : Nat) => Host.Outcome.next (v.sendHandshake r.port r.peer r.tenant 0 r.ident st 0 r.cookie 0 [])
      if (s.ten r.tenant).resetting then refuse t 0x60
      else match t.hsCheck1 r with
        | some st => refuse t st
        | none =>
          let t := t.hsCharge r.tenant (hsVerifyWork (hsSet r.body))
          match t.hsCheck2 r with
          | some st => refuse t st
          | none =>
            let c := hsCred r.body
            let h : Handshake := { tenant := r.tenant, ident := r.ident, cookie := r.cookie, port := r.port, peer := r.peer,
                                   role := t.credRole r.tenant c, cred := c, enrol := t.lifecycle == 3, body := r.body, stalledAt := none }
            let t := (t.askSeed (tenantDrbg r.tenant)).hsCharge r.tenant hsKeyWork
            .next { t with hs := t.hs ++ [h] }

/-- The handshake in progress of a tenant with an identifier, from a source (R79). -/
def State.findHs (s : State) (t ident : Nat) (src : Peer) : Option Handshake := s.hs.find? (fun h => h.tenant == t && h.ident == ident && h.peer == src)
/-- A handshake ends. -/
def State.dropHs (s : State) (t ident : Nat) (src : Peer) : State := { s with hs := s.hs.filter (fun h => !(h.tenant == t && h.ident == ident && h.peer == src)) }

/-- Octets 0-115 of the reply body (R82). -/
def State.hsReplyHead (s : State) (h : Handshake) (handle keepalive credits : Nat) (share : Bytes) : Bytes :=
  beBytes 1 1 ++ slice h.body 1 1 ++ beBytes 2 0 ++ beBytes 4 handle ++ beBytes 4 keepalive ++ beBytes 2 credits ++ beBytes 2 0 ++
    prim 48 .sha3_384 [mReq h.tenant h.ident h.body] ++ share ++ beBytes 10 (time80 s.clk.datum) ++ beBytes 1 s.quality ++ beBytes 1 0 ++
    beBytes 8 s.trav.epoch
/-- m_rep (R83): header octets 4-15 and 18, then body octets 0-115. -/
def mRep (handle ident : Nat) (head : Bytes) : Bytes := beBytes 4 handle ++ beBytes 8 ident ++ beBytes 1 0 ++ head

/-- The channel that a handshake opens: PENDING, its keys from K, no EVENT class, floor 0 (R84, R86, R91, R94). -/
def newChannel (s : State) (h : Handshake) (gen credits keepalive : Nat) (k : Bytes) : Channel :=
  { tenant := h.tenant, gen := gen, role := h.role, cred := h.cred, enrol := h.enrol, ordered := bitAt (fieldAt h.body 1 1) 0,
    state := .pending, rxKey := k.take 32, txKey := slice k 32 32, keepalive := keepalive, lastAuth := s.clk.datum, high := 0, seen := [],
    floor := 0, released := 0, grant := credits, spent := 0, notice := 1, mask := 0, closeSeq := none,
    pk := if h.enrol then hsPk h.body else [], enrolSeq := none, peer := h.peer, port := h.port }

/-- The X25519 shared secret that check 9 looks at (R81, R82). -/
def hsShare (h : Handshake) (secret : Bytes) : Bytes := prim 32 .x25519 [secret, slice h.body 56 32]
/-- Allocate the slot, derive K and send the signed reply, its header with the initial grant (R59, R82-R84, R86): the grant is the lesser of INITIAL_CREDITS
and U, and no more than a balance may be (log 102). -/
def State.openChannel (s : State) (h : Handshake) (slot : Nat) (secret : Bytes) : State :=
  let gen := s.slotGen slot
  let keepalive := Nat.min 60000 (Nat.max 100 (fieldAt h.body 4 4))
  let credits := Nat.min (s.rd 0x1600 3) (Nat.min (s.uncommitted h.tenant) (Nat.min 32767 (s.rd 0x1600 4)))
  let handle := h.tenant * 2 ^ 26 + gen * 2 ^ 16 + slot
  let head := s.hsReplyHead h handle keepalive credits (prim 32 .x25519 [secret])
  let m := mRep handle h.ident head
  let ssk := prim 32 .mlKemDecaps [[3], s.derive "ID-KEM" 64, slice h.body 88 1568]
  let k := prim 64 .kmac256 [ssk ++ hsShare h secret, m, ascii "NM72 CHANNEL"]
  let t := { s with
    chans := Map.put s.chans slot (newChannel s h gen credits keepalive k)
    gens := Map.put s.gens slot gen
    freed := s.freed.filter (fun x => x != slot) }
  t.sendHandshake h.port h.peer h.tenant handle h.ident 0 0 h.cookie credits (head ++ s.idSign "ID-SIG" "NM72 HANDSHAKE" m)

/-- A handshake's draw stalls, from now on or from when it began to (R301). -/
def State.hsStall (s : State) (h : Handshake) : State :=
  { s with hs := s.hs.map (fun x => if x = h then { x with stalledAt := some (x.stalledAt.getD s.clk.fab) } else x) }
/-- It has stalled for 2,500 ENG cycles, 2 µs, and its DRBG still does not serve (R301). -/
def State.hsStalled (s : State) (h : Handshake) : Bool :=
  !s.serving (tenantDrbg h.tenant) && (match h.stalledAt with | some w => decide (w + 2500 ≤ s.clk.fab) | none => false)
/-- HANDSHAKE_REPLY (R82-R86): the X25519 value is drawn from the tenant's DRBG, the draw stalling until it serves; check 9 looks at the shared secret; then
the slot is taken and the reply signed and sent; where the tenant has reached MAX_CHANNELS since check 7 it ends with QUEUE_FULL (log 129). A stall of 2 µs
ends it with ENTROPY_FAIL (R298, R301). A tenant disabled meanwhile takes no handshake (R72), and once the unit is OWNED the enrolment key opens no channel
(R98). -/
def execHandshakeReply (tenant ident : Nat) (src : Peer) (s : State) : Out :=
  match s.findHs tenant ident src with
  | none => .next s
  | some h =>
    let u := s.dropHs tenant ident src
    let refuse := fun (v : State) (st : Nat) => Host.Outcome.next (v.sendHandshake h.port h.peer tenant 0 ident st 0 h.cookie 0 [])
    if !s.runs then .next s
    else if (s.ten tenant).resetting then refuse u 0x60
    else if s.rd (0x1800 + tenant) 1 ≠ 1 ∨ (h.enrol ∧ s.lifecycle ≠ 3) then refuse u 0x15
    else if s.entropyState = 2 ∨ s.hsStalled h then refuse u 0x50
    else match u.generate (tenantDrbg tenant) 32 (drawInput 0 0) with
      | none => .next ((s.hsStall h).askSeed (tenantDrbg tenant))
      | some (t, secret) =>
        if beNat (hsShare h secret) = 0 then refuse t 0x15
        else if t.rd (0x1800 + tenant) 3 ≤ t.openChannels tenant then refuse t 0x40
        else match t.freeSlot with
          | none => refuse t 0x40
          | some slot => .next ((t.hsCharge tenant hsSignWork).openChannel h slot secret)

/-! ### Timers (R86, R87) -/

/-- PENDING_EXPIRY: 2 s of the datum without an authentic frame (R86, R89; log 130). -/
def execPendingExpiry (chan : Nat) (s : State) : Out :=
  match Map.find s.chans chan with
  | some c => when (s.runs && c.state == .pending && decide (2000000000 ≤ s.clk.datum - c.lastAuth)) s (s.abortChannel chan)
  | none => .next s

/-- KEEPALIVE_EXPIRY: no authentic frame for the granted keepalive, on an open or a draining channel (R87, R88, R89). -/
def execKeepaliveExpiry (chan : Nat) (s : State) : Out :=
  match Map.find s.chans chan with
  | some c => when (s.runs && (c.state == .opened || c.state == .draining) && decide (c.keepalive * 1000000 ≤ s.clk.datum - c.lastAuth)) s
      ((s.event (0x1800 + c.tenant) 0x34 1).abortChannel chan)
  | none => .next s

/-! ### CONTROL operations (R91) -/

/-- A CONTROL message of an operation waits for the management cores, the head that its tenant's queues give (R92). -/
def State.control (s : State) (j : JobRef) (op : Nat) : Option (Job × Channel) :=
  match s.findJob j, Map.find s.chans j.chan with
  | some x, some c => if x.kind = 0x5 ∧ x.opcode = op ∧ x.state = .queued ∧ s.phase = .up ∧ !s.clk.gated ∧ s.isHead x ∧ !s.lowerQueue x then some (x, c) else none
  | _, _ => none

/-- PING (R91). -/
def execPing (j : JobRef) (s : State) : Out :=
  match s.control j 1 with
  | some _ => .next (s.finish j 0 0 (beBytes 10 (time80 s.clk.datum) ++ beBytes 1 s.quality) none)
  | none => .next s

/-- CLOSE: the channel drains, and its completion waits for CLOSE_DRAINED (R88). -/
def execClose (j : JobRef) (s : State) : Out :=
  match s.control j 2 with
  | some (x, c) => .next { s with chans := Map.put s.chans x.chan { c with state := .draining, closeSeq := some x.seq } }
  | none => .next s

/-- Every message of a channel, `q` apart, that was classified before `before` has been released. -/
def State.drainedTo (s : State) (chan : Nat) (q before : Nat) : Bool :=
  !s.jobs.any (fun (y : Job) => y.chan == chan && y.seq != q && decide (y.order < before) && y.state != .released)
/-- CLOSE_DRAINED: once everything classified before CLOSE is released, its completion goes out and the channel is freed; an enrolment channel that its ENROL
closes is freed once everything on it is released (R88, R90, R98). -/
def execCloseDrained (chan : Nat) (s : State) : Out :=
  match Map.find s.chans chan with
  | none => .next s
  | some c =>
    match c.closeSeq with
    | none => when (s.runs && c.state == .draining && c.enrolSeq.isSome && s.drainedTo chan 0 s.order) s (s.freeChannel chan)
    | some q =>
      match s.findJob ⟨chan, q⟩ with
      | none => .next s
      | some x =>
        if !s.runs ∨ c.state ≠ .draining ∨ x.state ≠ .queued ∨ !s.drainedTo chan q x.order ∨ (s.egress c.tenant).isNone then .next s
        else
          let t := s.finish ⟨chan, q⟩ 0 0 [] none
          match t.findJob ⟨chan, q⟩ with
          | some y => .next ((t.sendCompletion y c).freeChannel chan)
          | none => .next s

/-- CLOSE_NOW: its completion is sent first, then the channel closes abortively (R89). -/
def execCloseNow (j : JobRef) (s : State) : Out :=
  match s.control j 3 with
  | some (_, c) =>
    let t := s.finish j 0 0 [] none
    match t.findJob j with
    | some y => .next ((if (t.egress c.tenant).isSome then t.sendCompletion y c else t).abortChannel j.chan)
    | none => .next s
  | none => .next s

/-- RETIRE: the floor rises to the lesser of r and H, and what stands at or below it is freed (R94). -/
def execRetire (j : JobRef) (s : State) : Out :=
  match s.control j 4 with
  | some (x, c) =>
    let f := Nat.max c.floor (Nat.min (fieldAt x.payload 0 8) c.high)
    .next (({ s with chans := Map.put s.chans j.chan { c with floor := f } }.finish j 0 0 [] none).trim j.chan)
  | none => .next s

/-- The EVENT classes a channel may subscribe to: tamper notices for role O only, bits 31:8 ignored (R91). -/
def grantedMask (role mask : Nat) : Nat := if role = 1 then mask % 256 else setBit (mask % 256) 4 false

/-- SUBSCRIBE (R91). -/
def execSubscribe (j : JobRef) (s : State) : Out :=
  match s.control j 5 with
  | some (x, c) =>
    .next ({ s with chans := Map.put s.chans j.chan { c with mask := grantedMask c.role (fieldAt x.payload 0 4) } }.finish j 0 0 (beBytes 4 c.mask) none)
  | none => .next s

/-- TENANT_RESET: role O for any tenant, role A for its own; other requests are refused with NO_RIGHT (R99). -/
def execTenantReset (j : JobRef) (s : State) : Out :=
  match s.control j 6 with
  | some (x, c) =>
    if !x.resetAllowed c then .next (s.finish j 0x15 0 [] none) else .next (s.resetTenant (fieldAt x.payload 0 1) (some j))
  | none => .next s

/-- SET_KEEPALIVE (R91). -/
def execSetKeepalive (j : JobRef) (s : State) : Out :=
  match s.control j 8 with
  | some (x, c) =>
    let ms := Nat.min 60000 (Nat.max 100 (fieldAt x.payload 0 4))
    .next ({ s with chans := Map.put s.chans j.chan { c with keepalive := ms } }.finish j 0 0 (beBytes 4 ms) none)
  | none => .next s

end Machine
end Sys2Proof
end

