-- ==== Sys2Proof/Machine/LifeCycle.lean ====
section
/-! DEFINITION. Tokens, transitions and their effects, the test access port, enrolment and Fjoix debug (04 R96-R98, 18 R391-R407). -/

namespace Sys2Proof
namespace Machine

/-! ### Tokens and transitions (R394-R396) -/

/-- TEST_USES: OPEN_1 to OPEN_7 programmed (R393). -/
def State.testUses (s : State) : Nat := ((List.range 7).filter (fun i => segSet s.lc.fuses (i + 1))).length
/-- OWNER_CYCLES, k of R395. -/
def State.ownerCycles (s : State) : Nat := seriesCount s.lc.fuses 17 4
/-- The FIELD_SEAL segment is programmed. -/
def State.fieldSeal (s : State) : Bool := segSet s.lc.fuses 26
/-- Locked out: TOKEN_FAILURES has reached 8 (R394). -/
def State.lockedOut (s : State) : Bool := decide (8 ≤ s.rd 0x5000 5)
/-- A token is accepted for a slot (R394). -/
def State.tokenOk (s : State) (slot : Nat) (token : Bytes) : Bool :=
  beNat (prim 32 .cshake256 [token, ascii "NM72 LC TOKEN" ++ oct slot]) == Map.getD s.lc.tokens slot 0
/-- A failed token or a refused debug response (R394): flags TOKEN_FAIL, and LOCKOUT at 8. -/
def State.failToken (s : State) : State :=
  let n := s.rd 0x5000 5 + 1
  (s.wr 0x5000 5 n).event 0x5000 6 (if 8 ≤ n then 10 else 2)

/-- A transition that the *Life-cycle transitions* table lists: where it leads, its token's slot, and its segment. -/
structure Move where
  code : Nat
  target : Nat
  slot : Option Nat
  seg : Nat
  deriving DecidableEq, Repr

/-- The transition of a code from the present state; none where the table lists none (R395), and none but the return where the enrolment entries are unusable
(R123). -/
def State.lcMove (s : State) (code : Nat) : Option Move :=
  let st := s.lifecycle
  let i := seriesCount s.lc.fuses 0 8
  let k := s.ownerCycles
  match code with
  | 1 => if st = 0 then some ⟨1, 1, some 0, 0⟩ else none
  | 2 => if st = 1 then some ⟨2, 2, some 1, 8 + i - 1⟩ else none
  | 3 => if st = 2 ∧ i ≤ 7 then some ⟨3, 1, some (1 + i), i⟩ else none
  | 4 => if st = 2 then some ⟨4, 3, some 9, 16⟩ else none
  | 5 => if st = 3 ∧ k ≤ 3 then some ⟨5, 4, some (10 + k), 17 + k⟩ else none
  | 6 => if st = 4 ∧ k ≤ 3 then some ⟨6, 3, some (10 + k - 1), 21 + k - 1⟩ else none
  | 7 => if st = 4 then some ⟨7, 5, some (10 + k - 1), 24⟩ else none
  | 8 => if st = 3 then some ⟨8, 5, some 14, 24⟩ else none
  | 9 => if st = 4 ∨ st = 6 ∨ (st = 3 ∧ s.lc.enrolBad) then none else some ⟨9, 6, none, 25⟩
  | 10 => if st = 4 then some ⟨10, 6, some (10 + k - 1), 25⟩ else none
  | 11 => if st = 4 then some ⟨11, 4, some (10 + k - 1), 26⟩ else none
  | _ => none
/-- PWR_HOLD is asserted and VPP_FUSE is within its range (R396). -/
def State.fusePower (s : State) : Bool := s.pins.pwrHold && s.pins.vppOk
/-- What R396 asks beside power, an idle programmer and no lockout: for code 4, entropy READY and DUR all zero. -/
def State.personalizable (s : State) (code : Nat) : Bool := code != 4 || (s.entropyState == 1 && s.lc.dur == 0)
/-- A transition starts (R397 steps 1 and 2): the pending record, and the segment being programmed; LC_STATUS reads BUSY. -/
def State.startFuse (s : State) (m : Move) (digest : Nat) : State :=
  { s with lc := { s.lc with record := some (m.code, s.lifecycle, m.target, digest), prog := some m.code, result := 1 } }

/-! ### Effects of transitions (R399) -/

/-- A P or S entry whose table gives a default, so that it can take it (R106; log 52). -/
def defaulted (k : Nat) : Bool :=
  match rowOf (k / 256) (k % 256) with
  | some r => (r.pers == 1 || r.pers == 2) && !(k / 256 == 0x4802) && !(k / 256 == 0x2400 && (k % 256 == 3 || k % 256 == 4))
  | none => false
/-- The entries that a release keeps: 0x1100-0x14FF and 0x3000-0x33FF. -/
def keptAtRelease (k : Nat) : Bool :=
  (decide (0x1100 ≤ k / 256) && decide (k / 256 ≤ 0x14FF)) || (decide (0x3000 ≤ k / 256) && decide (k / 256 ≤ 0x33FF))
/-- P and S entries take their defaults, but for those that `keep` names. -/
def State.defaults (s : State) (keep : Nat → Bool) : State :=
  { s with dict := s.dict.filter (fun p => !defaulted p.1 || keep p.1), dtx := { s.dtx with snaps := [] } }
/-- Records, slots and the BBRAM secret go; domain counters stay (codes 6 to 10; log 136). -/
def State.forgetKeys (s : State) : State :=
  { s with keys := { s.keys with secret := 0, hasSecret := false, slots := [], pGen := freedGens s.keys.pGen (s.keys.recs.map (fun (p : Nat × KeyRec) => p.2)), recs := [], loaded := [], manifest := [], rolled := [], commits := [], old := [], oldHeld := [] } }
/-- The group that the unit was a member of: its log, limits and KEK; the term and the grant stay in BBRAM. -/
def State.forgetGroup (s : State) : State := { s with grp := { State.reset.grp with grantedIn := s.grp.grantedIn } }
/-- Owner kernels are unbound and erased. -/
def State.forgetKernels (s : State) : State := { s with kern := { s.kern with bound := [], committed := [], staged := [], verifying := none } }
/-- Code 4: BBRAM cleared and formatted, the journal formatted, all defaults, no kernels, the archive erased. -/
def State.personalized (s : State) : State :=
  let t := (((s.clearBbram).forgetKeys).defaults (fun _ => false)).forgetKernels.forgetGroup
  { t with keys := { t.keys with formatted := true, ctr := [], lastKum := [] }
           trav := { t.trav with archive := [], nextSlot := 0 } }
/-- The enrolment channel closes under R88 (R98): its ENROL ends with OK, it drains, and it is freed once all that was classified before is released. -/
def State.closeEnrol (s : State) (slot : Nat) : State :=
  match Map.find s.chans slot with
  | some c =>
    match c.enrolSeq with
    | some q =>
      let t := s.finish ⟨slot, q⟩ 0 0 [] none
      if c.state = .closing then t else { t with chans := Map.update t.chans slot (fun c => { c with state := .draining }) }
    | none => s
  | none => s
/-- Code 5: the owner's time begins (R122), and the enrolment channel closes under R88 (R98). -/
def State.owned (s : State) : State :=
  (s.chans.map (fun p => p.1)).foldl (fun u slot => u.closeEnrol slot) (s.wr 0x1030 4 (time80 s.clk.datum))
/-- The effects of a transition, by its code; where debug goes from closed to always open or back, the root follows (R308, R309). -/
def State.lcEffects (s : State) (code : Nat) : State :=
  match code with
  | 1 | 2 | 3 => { s with keys := { s.keys with testRoot := s.debug } }
  | 4 => s.personalized
  | 5 => s.owned
  | 6 => ((s.forgetKeys.defaults keptAtRelease).forgetKernels).forgetGroup
  | 7 | 8 | 9 | 10 => ((s.forgetKeys.defaults (fun _ => false)).forgetKernels).forgetGroup
  | _ => s
/-- Codes whose transition ends in a warm reset (R399). -/
def resetsAfter (code : Nat) : Bool := code == 4 || (decide (6 ≤ code) && decide (code ≤ 10))
/-- R397 steps 4 and 5: the effects, the LIFECYCLE benchmark, and the record cleared. -/
def State.resolveRecord (s : State) (r : Nat × Nat × Nat × Nat) : State :=
  let t := s.lcEffects r.1
  { t.record 6 2 r.2.1 r.2.2.1 1 r.2.2.2 with lc := { t.lc with record := none } }
/-- The segment that a code programs from a fuse word (*Life-cycle transitions*). -/
def segmentOf (w code : Nat) : Nat :=
  match code with
  | 1 => 0
  | 2 => 8 + seriesCount w 8 8
  | 3 => seriesCount w 0 8
  | 4 => 16
  | 5 => 17 + seriesCount w 17 4
  | 6 => 21 + seriesCount w 21 3
  | 7 | 8 => 24
  | 9 | 10 => 25
  | _ => 26
/-- A segment is programmed from 0x0000 to 0xFFFF (R392). -/
def State.burn (s : State) (seg : Nat) : State :=
  if segSet s.lc.fuses seg then s else { s with lc := { s.lc with fuses := s.lc.fuses + (0xFFFF - segOf s.lc.fuses seg) * 2 ^ (16 * seg) } }
/-- The fuses of a transition are programmed: for code 4, DUR from a conditioned block first (R307, R392, R395); 12 stands for
the enrolment entries (R123). -/
def State.programmed (s : State) (code : Nat) : State :=
  let t := if code = 4 then
      let r := s.takeBlock
      { r.1 with lc := { r.1.lc with dur := r.2 } }
    else s
  let t := if code = 12 then (t.wr 0x1030 1 t.lc.enrolNew.1).wr 0x1030 2 t.lc.enrolNew.2 else t.burn (segmentOf t.lc.fuses code)
  { t with lc := { t.lc with prog := none } }
/-- FUSE_PROGRAM_DONE (R397): while the part is not started, the record is left for the start to resolve; while REFCLK is lost the programming is seen to
its end at the restart (R428). -/
def execFuseProgramDone (s : State) : Out :=
  match s.lc.prog, s.lc.record with
  | some code, some r =>
    let t := s.programmed code
    if s.phase = .up ∧ s.clk.gated then .next s
    else if s.phase ≠ .up then .next t
    else
      let t := (t.resolveRecord r).event 0x5000 6 1
      let t := { t with lc := { t.lc with result := 2 } }
      .next (if resetsAfter code then t.warmReset 5 else t)
  | some code, none => .next (s.programmed code)
  | none, _ => .next s

/-! ### The test access port (R400, R401) -/

/-- TRST_N works: FIELD_SEAL is not blown (R400). -/
def State.tapUp (s : State) : Bool := !s.fieldSeal
/-- An instruction is selected, with its data register. -/
def State.select (s : State) (ir dr : Nat) : State := { s with lc := { s.lc with ir := ir, dr := dr } }
/-- Another instruction than EXTEST is selected in EXTEST: leaving it causes a warm reset (R401). -/
def State.leaveExtest (s : State) : State := if s.lc.extest then ({ s with lc := { s.lc with extest := false } }.select 0xFF 0).warmReset 4 else s
/-- A TAP instruction: held in reset by FIELD_SEAL, BYPASS in a state that does not allow it (R400). -/
def State.tap (s : State) (allowed : State → Bool) (k : State → Out) : Out :=
  if !s.tapUp then .next s else if !allowed s.leaveExtest then .next (s.leaveExtest.select 0xFF 0) else k s.leaveExtest
/-- IDCODE (R400). -/
def execIdcode (s : State) : Out := s.tap (fun _ => true) (fun s => .next (s.select 1 (s.lc.step % 16 * 2 ^ 28 + 0x0072 * 2 ^ 12 + 0x9C7)))
/-- SAMPLE/PRELOAD: the boundary register, which the spec does not lay out (log 9). -/
def execSamplePreload (s : State) : Out := s.tap (fun s => s.lifecycle != 6) (fun s => .next (s.drawn.select 2 s.draw))
/-- EXTEST: every PLAT_RST_N line is asserted and every channel GATED (R401). -/
def execExtest (s : State) : Out :=
  let t := (s.gateAll).assertLines (fun _ => true)
  if !s.tapUp then .next s
  else if s.lifecycle = 4 ∨ s.lifecycle = 6 then .next (s.leaveExtest.select 0xFF 0)
  else .next ({ t with lc := { t.lc with extest := true } }.drawn.select 3 t.draw)
/-- Leaving EXTEST causes a warm reset (R401). -/
def execExtestExit (s : State) : Out := when (s.tapUp && s.lc.extest) s s.leaveExtest
/-- BYPASS (R400). -/
def execBypass (s : State) : Out := s.tap (fun _ => true) (fun s => .next (s.select 0xFF 0))
/-- LC_STATUS (*Field map: LC_STATUS*). -/
def State.lcStatusWord (s : State) : Nat :=
  s.lifecycle * 2 ^ 24 + s.lc.result * 2 ^ 16 + s.testUses * 2 ^ 8 + Nat.min 15 (s.rd 0x5000 5) * 16 + (if s.pins.pwrHold then 8 else 0) +
    (if s.debug then 4 else 0) + (if s.lc.prog.isSome then 2 else 0)
/-- LC_STATUS (R401). -/
def execLcStatus (s : State) : Out := s.tap (fun _ => true) (fun s => .next (s.select 0x11 s.lcStatusWord))

/-- The result of a refused LC_CMD: 1 BUSY, 3 BAD_TOKEN, 4 NO_HOLD, 5 NOT_ALLOWED, 6 LOCKED_OUT, 7 NOT_READY. -/
def State.lcRefused (s : State) (r : Nat) : State := { s with lc := { s.lc with result := r } }
/-- LC_CMD at Update-DR (R394-R396, R401); the order of its checks is the model's (log 53). -/
def State.lcCmd (s : State) (code : Nat) (spare : BitVec 8) (token : BitVec 128) : State :=
  let tok := beBytes 16 token.toNat
  if s.lockedOut then s.lcRefused 6
  else if s.lc.prog.isSome then s.lcRefused 1
  else match s.lcMove code with
    | none => s.lcRefused 5
    | some m =>
      if spare ≠ 0 then s.lcRefused 5
      else if (match m.slot with | some n => !s.tokenOk n tok | none => false) then s.failToken.lcRefused 3
      else if !s.fusePower then s.lcRefused 4
      else if !s.personalizable code then s.lcRefused 7
      else s.startFuse m (sha3 (oct code ++ oct spare.toNat ++ tok))
/-- LC_CMD while the part has started, in a state that offers it (R400). -/
def State.tapCmd (s : State) (code : Nat) (spare : BitVec 8) (token : BitVec 128) : Out :=
  s.tap (fun s => s.lifecycle != 4 && s.lifecycle != 6) (fun s => if s.runs then .next ((s.select 0x10 0).lcCmd code spare token) else .next (s.select 0x10 0))
/-- LC_CMD code 1: BLANK to TEST_OPEN (R395). -/
def execLcCmdOpen (spare : BitVec 8) (token : BitVec 128) (s : State) : Out := s.tapCmd 1 spare token
/-- LC_CMD code 2: TEST_OPEN to TEST_SHUT (R395). -/
def execLcCmdLock (spare : BitVec 8) (token : BitVec 128) (s : State) : Out := s.tapCmd 2 spare token
/-- LC_CMD code 3: TEST_SHUT to TEST_OPEN (R395). -/
def execLcCmdUnlock (spare : BitVec 8) (token : BitVec 128) (s : State) : Out := s.tapCmd 3 spare token
/-- LC_CMD code 4: TEST_SHUT to PERSONALIZED (R395). -/
def execLcCmdPersonalize (spare : BitVec 8) (token : BitVec 128) (s : State) : Out := s.tapCmd 4 spare token
/-- LC_CMD code 8: PERSONALIZED to RETURNED (R395). -/
def execLcCmdRma (spare : BitVec 8) (token : BitVec 128) (s : State) : Out := s.tapCmd 8 spare token
/-- LC_CMD code 9: any state but OWNED and TERMINAL to TERMINAL, with no token (R395); not from PERSONALIZED with unusable enrolment entries (R123). -/
def execLcCmdTerminal (spare : BitVec 8) (token : BitVec 128) (s : State) : Out := s.tapCmd 9 spare token

/-! ### ENROL (R96-R98) -/

/-- The enrolment key's signature verifies, under the key that opened the channel (R96, R97). -/
def State.enrolSigned (s : State) (c : Channel) (b : Bytes) : Bool :=
  Config.check .mlDsaVerify [oct (s.rd 0x1030 2), c.pk, ascii "NM72 ENROL", b.take 128, b.drop 128]
/-- An accepted ENROL (R98): credential 0 of tenant 0, a new BBRAM secret, and the transition's start. -/
def State.enrolled (s : State) (m : Move) (j : JobRef) (c : Channel) (b : Bytes) : State :=
  let t := (s.wr 0x1800 0x20 (fieldAt b 48 48)).wr 0x1800 0x21 (0x100 + fieldAt b 96 1)
  let t := t.wr 0x1030 3 (fieldAt b 48 48)
  let r := t.takeBlock
  let t := { r.1 with keys := { r.1.keys with secret := r.2, hasSecret := true }, chans := Map.put r.1.chans j.chan { c with enrolSeq := some j.seq } }
  t.startFuse m (sha3 b)
/-- ENROL: refused, or accepted; its completion comes once its channel has drained (R97, R98). -/
def execEnrol (j : JobRef) (s : State) : Out :=
  match s.control j 7 with
  | none => .next s
  | some (x, c) =>
    let b := x.payload
    let set := fieldAt b 96 1
    let refuse := fun (u : State) (st : Nat) => Host.Outcome.next (u.finish j st 0 [] none)
    if c.enrolSeq = some j.seq then .next s
    else if b.length < 128 ∨ set = 0 ∨ 3 < set ∨ !zeros (slice b 97 15) then refuse s 0x26
    else if s.lifecycle = 4 then refuse s (if fieldAt b 48 48 = s.rd 0x1800 0x20 then 0x01 else 0x15)
    else match s.lcMove 5 with
      | none => refuse s 0x15
      | some m =>
        if fieldAt b 0 48 ≠ s.identity ∨ !s.enrolSigned c b then refuse s 0x15
        else if s.lockedOut ∨ s.lc.prog.isSome then refuse s 0x72
        else if !s.tokenOk (m.slot.getD 0) (slice b 112 16) then refuse s.failToken 0x15
        else if !s.fusePower then refuse s 0x72
        else .next (s.enrolled m j c b)

/-! ### Fjoix debug (R403-R405) -/

/-- 600 s of FAB time. -/
def challengeLife : Nat := 600000 * msFab
/-- The real identity digest, whatever root is in force. -/
def State.realIdentity (s : State) : Nat := { s with keys := { s.keys with testRoot := false } }.identity
/-- The 128 octets of a challenge (*Field map: debug challenge*). -/
def State.challengeOctets (s : State) (nonce : Bytes) : Bytes :=
  oct 1 ++ oct s.lifecycle ++ beBytes 2 0 ++ beBytes 48 s.realIdentity ++ beBytes 16 s.lc.serial ++ beBytes 8 s.trav.epoch ++ nonce ++
    beBytes 10 (time80 s.clk.datum) ++ oct s.quality ++ beBytes 9 0
/-- PERSONALIZED or OWNED. -/
def State.fielded (s : State) : Bool := s.lifecycle == 3 || s.lifecycle == 4
/-- DEBUG_CHALLENGE: a fresh nonce from tenant 0's DRBG; all zero and NOT_READY while entropy is not READY (R403). The read waits for an instantiation
under way. -/
def execDebugChallenge (s : State) : Out :=
  s.tap (fun s => s.fielded && s.runs)
    (fun s => if s.entropyState ≠ 1 then .next ((s.select 0x20 0).lcRefused 7)
     else match s.drawFrom (tenantDrbg 0) 32 (drawInput 0 0) with
       | none => .next (s.askSeed (tenantDrbg 0))
       | some (t, nonce) =>
         let o := s.challengeOctets nonce
         .next ({ t with lc := { t.lc with chal := some (sha3 o, s.clk.fab) } }.select 0x20 (beNat o)))
/-- DEBUG_CHALLENGE_EXPIRY (R403). -/
def execDebugChallengeExpiry (s : State) : Out :=
  match s.lc.chal with
  | some c => when (decide (c.2 + challengeLife ≤ s.clk.fab)) s { s with lc := { s.lc with chal := none } }
  | none => .next s
/-- The conditions of R404. -/
def State.responseOk (s : State) (digest : Nat) (pk sig : Bytes) : Bool :=
  (match s.lc.chal with | some c => c.1 == digest && decide (s.clk.fab < c.2 + challengeLife) | none => false) &&
    sha3 pk == s.lc.fjoix && Config.check .mlDsaVerify [oct 3, pk, ascii "NM72 FJOIX DEBUG", beBytes 48 digest, sig] && !s.fieldSeal &&
      (s.lifecycle != 4 || s.rd 0x5000 3 == 1)
/-- Tenant 0 is charged for the verification (R404). -/
def State.chargeVerify (s : State) : State :=
  let w := (cost 0x0232 [] none).1
  let x := s.ten 0
  s.setTen 0 { x with charge := x.charge.add w, own := x.own.add w }
/-- DEBUG_RESPONSE (R404, R405 step 1). -/
def execDebugResponse (digest : Nat) (pk : Bytes) (sig : Bytes) (s : State) : Out :=
  s.tap (fun s => s.fielded && s.runs)
    (fun s =>
     let t := s.chargeVerify.select 0x21 0
     if s.lc.prog.isSome then .next ((s.select 0x21 0).lcRefused 1)
     else if s.lockedOut then .next ((s.select 0x21 0).lcRefused 6)
     else if !s.responseOk digest pk sig then .next (t.failToken.lcRefused 3)
     else
       let u := { t with lc := { t.lc with chal := none, result := 2, opening := some (s.trav.nextSeq, false) } }
       .next ((u.record 7 2 0xFF 0xFF 1 (sha3 (beBytes 48 digest ++ pk ++ sig))).checkpoint 8))
/-- The DEBUG_OPEN benchmark and its CHECKPOINT are archived (R405, R366). -/
def State.openingArchived (s : State) (q : Nat) : Bool :=
  s.trav.archive.any (fun b => b.kind == 0x0C && bitAt b.region 3 && decide (q ≤ b.seq) && b.archived == b.slots)
/-- R405 steps 3 to 6. -/
def State.openDebug (s : State) : State :=
  let t := s.zeroKeys
  let t := { t with keys := { t.keys with testRoot := true }, lc := { t.lc with debugOpen := true, opening := none } }
  let t := (t.wr 0x1010 3 1).event 0x5000 6 4
  { t with ports := Map.mapVals (fun (p : Port) => { p with announce := none, announceDue := s.clk.fab }) t.ports }
/-- DEBUG_OPEN_COMPLETE (R405): once the records are archived every tenant is reset, and once those resets are complete debug opens. -/
def execDebugOpenComplete (s : State) : Out :=
  match s.lc.opening with
  | none => .next s
  | some (q, begun) =>
    if !s.runs ∨ !(begun || s.openingArchived q) then .next s
    else
      let t := if begun then s else (List.range 64).foldl (fun u i => u.resetTenant i none) s
      let t := { t with lc := { t.lc with opening := some (q, true) } }
      .next (if t.tenants.any (fun p => p.2.resetting) then t else t.openDebug)

/-! ### MEM_ACCESS (R406) -/

/-- Words of the control store and, four to a nanoword, of the nanostore (R221; log 51). -/
def memWords : Nat → Option Nat
  | 1 => some 16384
  | 2 => some 4096
  | _ => none
/-- The memory and the address exist. -/
def memExists (memory addr : Nat) : Bool :=
  decide (memory ≤ 10) && decide (addr < 2 ^ 32) && (match memWords memory with | some n => decide (addr < n) | none => true)
/-- A memory that a state with debug always open may write (*Debug access by state*). -/
def memWritable (memory : Nat) : Bool := [1, 2, 3, 5, 7, 10].contains memory
/-- Memory code and address of a word. -/
def pokeKey (memory addr : Nat) : Nat := memory * 2 ^ 32 + addr
/-- Cluster and word of an address of memory 5, cluster memories first (log 51). -/
def memCluster (addr : Nat) : Option (Nat × Nat) := if addr < 16 * 2 ^ 18 then some (addr / 2 ^ 18, addr % 2 ^ 18) else none
/-- A word of a memory whose contents the spec does not lay out (log 51). -/
def State.poked (s : State) (memory addr : Nat) : Nat :=
  match Map.find s.lc.poked (pokeKey memory addr) with
  | some v => v
  | none => Config.unstated 56 [memory, addr] % 2 ^ 72
/-- A word as MEM_ACCESS reads it: `narrow` is the access of a Fjoix-opened unit. -/
def State.memRead (s : State) (narrow : Bool) (memory addr : Nat) : Nat :=
  match memory with
  | 1 => s.microWord addr
  | 2 => s.nanoWord (addr / 4) / 2 ^ (72 * (addr % 4)) % 2 ^ 72
  | 4 | 6 | 9 => 0
  | 5 => match memCluster addr with
    | some (c, a) => if narrow && (s.cword c a).sec then 0 else (s.cword c a).val
    | none => s.poked memory addr
  | _ => s.poked memory addr
/-- A word written. -/
def State.memWrite (s : State) (memory addr v : Nat) : State :=
  if memory = 1 then { s with kern := { s.kern with micro := Map.put s.kern.micro addr (v % 2 ^ 48) } }
  else if memory = 2 then
    let old := s.nanoWord (addr / 4)
    let at_ := 2 ^ (72 * (addr % 4))
    { s with kern := { s.kern with nano := Map.put s.kern.nano (addr / 4) (old - old / at_ % 2 ^ 72 * at_ + v * at_) } }
  else match (if memory = 5 then memCluster addr else none) with
    | some (c, a) => s.setCword c a ⟨v, false⟩
    | none => { s with lc := { s.lc with poked := Map.put s.lc.poked (pokeKey memory addr) v } }
/-- MEM_ACCESS (R406); what a read of a memory that the state does not reach gives is not stated (log 51). At an address that a memory does not have, a write
is ignored and a read gives a free value (log 113). -/
def execMemAccess (write : Bool) (memory : Nat) (addr : Nat) (word : BitVec 72) (s : State) : Out :=
  s.tap (fun s => s.debug && s.runs)
    (fun s => let narrow := s.fielded
     let dr := fun (v : Nat) => (if write then 2 ^ 111 else 0) + memory * 2 ^ 104 + addr * 2 ^ 72 + v
     if write then .next ((if narrow || !memExists memory addr || !memWritable memory then s else s.memWrite memory addr word.toNat).select 0x40 (dr word.toNat))
     else if !memExists memory addr || (narrow && memory == 0) then .next (s.drawn.select 0x40 (dr (s.draw % 2 ^ 72)))
     else .next (s.select 0x40 (dr (s.memRead narrow memory addr))))

end Machine
end Sys2Proof
end

