-- ==== Sys2Proof/Machine/Traverse.lean ====
section
/-! DEFINITION. The traverse: archiving, retention, checkpoints and their signatures, FETCH, HEAD and CHECKPOINT (16 R357-R371). -/

namespace Sys2Proof
namespace Machine

/-! ### Archive and retention (R366-R368) -/

/-- The areas of the private flash in their order from address 0, in octets: two firmware images, two patches, two areas of owner kernels, certificates, the
dictionary journal, the traverse archive and the key journal (*Private flash layout*, R337). -/
def flashAreas : List Nat := [8, 8, 4, 4, 2, 2, 1, 2, 16, 17].map (fun m => m * 2 ^ 20)
/-- Where an area begins; the key journal also has what a flash of more than 64 MiB holds beside them (R337). -/
def flashAreaStart (i : Nat) : Nat := (flashAreas.take i).sum
def flashAreaSize (octets i : Nat) : Nat := if i = 9 then octets - flashAreaStart 9 else flashAreas.getD i 0
/-- The sectors of 4 KiB of the traverse archive (R337, R368). -/
def archiveSectors : Nat := flashAreas.getD 8 0 / 4096
/-- The last slot a record takes in the archive. -/
def Bench.lastSlot (b : Bench) : Nat := b.slot + b.sigSlots
/-- A record of its epoch's boot segment: no CHECKPOINT of the epoch comes before it (R368). -/
def inBootSegment (arch : List Bench) (b : Bench) : Bool := arch.all (fun c => !(c.epoch == b.epoch && c.kind == 0x0C && decide (c.seq < b.seq)))
/-- The boot epochs whose segments are kept: the last 64 of the archive. -/
def keptEpochs (arch : List Bench) : List Nat := ((arch.map (fun b => b.epoch)).dedup.reverse).take 64
/-- A record that is kept whatever its age. -/
def keptBench (arch : List Bench) (b : Bench) : Bool := inBootSegment arch b && (keptEpochs arch).contains b.epoch
/-- The sectors of 32 slots that hold records. -/
def usedSectors (arch : List Bench) : Nat :=
  (arch.foldl (fun (a : Nat × Nat) b =>
    let lo := Nat.max a.2 (b.slot / 32)
    (a.1 + (b.lastSlot / 32 + 1 - lo), b.lastSlot / 32 + 1)) (0, 0)).1
/-- The oldest sector that holds no slot of a kept segment. -/
def erasableSector (arch : List Bench) : Option Nat :=
  match arch.find? (fun b => !keptBench arch b &&
      arch.all (fun c => !keptBench arch c || decide (c.lastSlot / 32 < b.slot / 32) || decide (b.slot / 32 < c.slot / 32))) with
  | some b => some (b.slot / 32)
  | none => none
/-- Space for the next slot: when all 4,096 sectors hold records and a new one is needed, the oldest erasable one is erased (R368). -/
def makeSector (arch : List Bench) (slot : Nat) : List Bench :=
  if slot % 32 = 0 ∧ archiveSectors ≤ usedSectors arch then
    match erasableSector arch with
    | some k => arch.filter (fun b => b.slot / 32 != k)
    | none => arch
  else arch

/-- CHECKPOINT jobs complete once their CHECKPOINT's signature slots are archived (R369). -/
def State.finishDemands (s : State) : State :=
  let ready := fun (d : JobRef × Option Nat) => match d.2 with
    | some q => s.trav.archive.any (fun b => b.seq == q && b.archived == b.slots)
    | none => false
  let t := (s.trav.demand.filter ready).foldl (fun u d => u.endJob d.1 0 0 0 (beBytes 8 (d.2.getD 0)) none) s
  { t with trav := { t.trav with demand := s.trav.demand.filter (fun d => !ready d) } }

/-- The record whose slot is programmed next. -/
def State.toArchive (s : State) : Option Bench := s.trav.ring.find? (fun b => decide (b.archived < b.slots))
/-- The first slot of a TAMPER record that carries a ring entry marks that entry as archived (R420). -/
def State.markRing (s : State) (b : Bench) : State :=
  if b.kind ≠ 8 then s
  else { s with tamp := { s.tamp with ring := s.tamp.ring.map (fun (e : RingEntry) =>
    if e.source = b.region ∧ !bitAt e.flags 2 ∧ e.detected = b.digest / 2 ^ 288 % 2 ^ 80 then { e with flags := orFlags e.flags 4 } else e) } }
/-- A slot of record `b` is archived (R366): with its first slot the record becomes the head, and EVENTs are sent. -/
def State.archiveSlot (s : State) (b : Bench) : State :=
  let b' := { b with archived := b.archived + 1, slot := if b.archived = 0 then s.trav.nextSlot else b.slot }
  let arch := makeSector s.trav.archive s.trav.nextSlot
  let t := { s with trav := { s.trav with
    ring := s.trav.ring.map (fun (x : Bench) => if x.seq = b.seq then b' else x)
    archive := if b.archived = 0 then arch ++ [b'] else arch.map (fun (x : Bench) => if x.seq = b.seq then b' else x)
    nextSlot := s.trav.nextSlot + 1 } }
  let t := if b.archived = 0 then (t.markRing b).notify 5 (some 0) b.seq else t
  (t.drainPending t.trav.pending.length).finishDemands
/-- SLOT_ARCHIVED: a page program completes, or fails and is made again in the next erased sector (R366, R367). -/
def execSlotArchived (programOk : Bool) (s : State) : Out :=
  match s.toArchive with
  | none => .next s
  | some b =>
    if !s.runs ∨ (b.archived ≠ 0 ∧ !b.signed) then .next s
    else if programOk then .next (s.archiveSlot b)
    else .next ({ s with trav := { s.trav with nextSlot := (s.trav.nextSlot / 32 + 1) * 32 } }.event 0x3800 0xA 2)

/-! ### Checkpoints (R362-R364) -/

/-- The signature slots of a CHECKPOINT. -/
def State.checkpointSigs (s : State) (b : Bench) : Bytes :=
  let co := s.coSign (bitAt b.flags 3) (bitAt b.flags 4) "NM72 CHECKPOINT" b.octets
  fit 4736 (s.idSign "TRV-SIG" "NM72 CHECKPOINT" b.octets) ++ (if bitAt b.flags 3 then fit 29824 co.1 else []) ++
    (if bitAt b.flags 4 then fit 128 co.2 else [])
/-- CHECKPOINT_SIGNED: the signing has had its reserve units (R130, R362, R364). -/
def execCheckpointSigned (s : State) : Out :=
  match s.trav.ring.find? (fun b => b.kind == 0x0C && !b.signed) with
  | none => .next s
  | some b =>
    let t := { s with trav := { s.trav with
      ring := s.trav.ring.map (fun (x : Bench) => if x.seq = b.seq then { x with signed := true, sigs := s.checkpointSigs b } else x)
      archive := s.trav.archive.map (fun (x : Bench) => if x.seq = b.seq then { x with signed := true, sigs := s.checkpointSigs b } else x)
      signing := false
      held := 0 } }
    let t := t.dropReserve .checkpoint
    when (s.runs && s.trav.signing && s.reserveRuns .checkpoint) s (if s.trav.held = 0 then t else t.checkpoint s.trav.held)

/-- A transaction that has waited 1 s on a full ring ends with MEM_FAULT, detail 0xFF (R367). -/
def execRingWaitTimeout (j : JobRef) (s : State) : Out :=
  match s.findJob j with
  | none => .next s
  | some x =>
    when (s.runs && s.trav.waiters.contains j && (match x.waitSince with | some w => decide (w + 1000 * msFab ≤ s.clk.fab) | none => false)) s
      ({ s with trav := { s.trav with waiters := s.trav.waiters.filter (fun r => r != j) } }.finish j 0x51 0xFF [] none)

/-! ### FETCH, HEAD, CHECKPOINT (R369, R370) -/

/-- A record as FETCH returns it. -/
def fetched (sigs : Bool) (b : Bench) : Bytes := b.octets ++ (if sigs && b.kind == 0x0C then fit (128 * b.sigSlots) b.sigs else [])
/-- Its signature slots are asked for and are still being made or archived: it is not shown yet (R366, R370; log 118). -/
def sigsOpen (sigs : Bool) (b : Bench) : Bool := sigs && b.kind == 0x0C && decide (b.archived < b.slots)
/-- Records in seq order without a gap, `max` of them at most, within the longest result. -/
def fetchRun (sigs : Bool) : Nat → Nat → List Bench → List Bench
  | 0, _, _ => []
  | _, _, [] => []
  | n + 1, room, b :: rest =>
    if room < (fetched sigs b).length ∨ sigsOpen sigs b then []
    else match rest with
      | c :: _ => if c.seq = b.seq + 1 then b :: fetchRun sigs n (room - (fetched sigs b).length) rest else [b]
      | [] => [b]
/-- FETCH (R370). -/
def fetchBody (s : State) (j : Job) : Ran :=
  let b := j.payload
  let start := fieldAt b 0 8
  let n := fieldAt b 8 2
  let sigs := bitAt (fieldAt b 10 1) 0
  guardParam s (decide (1 ≤ n) && decide (n ≤ 2048) && decide (fieldAt b 10 1 < 2) && fieldAt b 11 1 == 0)
    (let rs := fetchRun sigs n (262144 - 32) (s.trav.archive.filter (fun r => decide (start ≤ r.seq)))
     let first := match rs with | r :: _ => r.seq | [] => 0
     let next := match rs.getLast? with | some r => r.seq + 1 | none => start
     let flags := (if rs != [] ∧ start < first then 1 else 0) + (if s.trav.archive.all (fun r => decide (r.seq < next)) then 2 else 0)
     ok s (beBytes 8 first ++ beBytes 8 next ++ beBytes 8 s.headSeq ++ beBytes 2 rs.length ++ oct flags ++ beBytes 5 0 ++
       (rs.map (fetched sigs)).flatten))
/-- The seq of the current epoch's first record (entry 0x3800.03). -/
def State.epochFirst (s : State) : Nat :=
  match (s.trav.archive ++ s.trav.ring).find? (fun b => b.epoch == s.trav.epoch) with
  | some b => b.seq
  | none => 0
/-- HEAD (R369). -/
def headBody (s : State) (_ : Job) : Ran :=
  ok s (beBytes 8 s.headSeq ++ beBytes 8 s.trav.epoch ++ beBytes 8 s.epochFirst ++ beBytes 8 s.lastCheckpoint ++ beBytes 48 s.headDigest)
/-- CHECKPOINT: triggered once; the job waits for the archive (R362, R369). -/
def checkpointBody (s : State) (j : Job) : Ran :=
  if s.trav.demand.any (fun d => d.1 == j.ref) then .stay s
  else .stay ({ s with trav := { s.trav with demand := s.trav.demand ++ [(j.ref, none)] } }.checkpoint 4)
/-- FETCH (R370). -/
def execFetch (j : JobRef) (s : State) : Out := jobRow ⟨j, noWork⟩ (fun op => op == 0x3010) fetchBody s
/-- HEAD (R369). -/
def execHead (j : JobRef) (s : State) : Out := jobRow ⟨j, noWork⟩ (fun op => op == 0x3011) headBody s
/-- CHECKPOINT (R362, R369). -/
def execCheckpoint (j : JobRef) (s : State) : Out := jobRow ⟨j, noWork⟩ (fun op => op == 0x3012) checkpointBody s

end Machine
end Sys2Proof
end

