-- ==== Sys2Proof/Machine/Start.lean ====
section
/-! DEFINITION. Cold and warm starts through the steps S1 to S5, TAMPER_HOLD and SYSRST_N (14 R326, 16 R360, R361, 18 R397, 19 R416-R420, 20 R441-R443).
A start is one step: alarms come before it or after it (log 47). -/

namespace Sys2Proof
namespace Machine

/-! ### S1 and S2 (R123, R393, R416, R417, R419) -/

/-- The fuse check fails: an interrupted write of the enrolment fuses, or a state word of no valid form (R123, R393). -/
def State.fuseBad (s : State) : Bool := s.lc.enrolBad || (s.lifecycle == 6 && !segSet s.lc.fuses 25)
/-- S1: programming that had begun has run to its end on hold-up energy (R443); the fuses are read and decoded. Programming of the enrolment entries that a
loss of power cut, no FUSE_PROGRAM_DONE having come before a cold start, leaves them unusable (R123; log 83). -/
def State.readFuses (s : State) : State :=
  let t := match s.lc.prog with
    | some code =>
      if code ≠ 12 then s.programmed code
      else if s.rd 0x1201 1 = 0 then { s with lc := { s.lc with prog := none, enrolBad := true } } else s
    | none => s
  if t.fuseBad then t.alarm 15 else t
/-- Each source that is held pending is flagged PENDING_APPLIED, and ALERT where its response was NOTIFY or higher (R419). -/
def State.flagPending (s : State) : State :=
  let t := (s.tamp.ring.filter (fun e => !e.archived && bitAt e.flags 1)).foldl (fun u e => u.flagSource e.source (if 2 ≤ e.rank then 5 else 4)) s
  t.flagClockSources
/-- The pending rank is applied and cleared (R419): the start itself serves as an ABORT or a RESET. -/
def State.applyPending (s : State) : State :=
  let p := s.rd 0x4020 5
  if p = 0 then s
  else
    let t := s.flagPending.wr 0x4020 5 0
    let t := if p = 4 then { t with tamp := { t.tamp with quiesce := true } } else t
    (if p = 6 then t.zeroise 6 else t).tamperEvent p
/-- Sources of response ABORT or QUIESCE that are still ASSERTED are logged (R417). -/
def State.logStill (s : State) : State :=
  ((List.range 16).filter (fun i => s.asserted i && decide (3 ≤ s.response i) && decide (s.response i ≤ 4))).foldl (fun u i => u.logAlarm i false) s
/-- S1 and S2. -/
def State.startFirst (s : State) : State := s.senseSources.readFuses.applyPending.logStill
/-- The source that caused this restart and is still ASSERTED, of response RESET or higher (R417). -/
def State.holdSource (s : State) : Option Nat :=
  s.tamp.restarted.find? (fun i => s.asserted i && decide (5 ≤ s.response i))

/-! ### S3 to S5 (R309, R326, R360, R361, R397, R420) -/

/-- The fuses show the target of the pending record, FIELD_SEAL by its own segment (R397). -/
def State.recordDone (s : State) (r : Nat × Nat × Nat × Nat) : Bool := s.lifecycle == r.2.2.1 && (r.1 != 11 || s.fieldSeal)
/-- A pending record is resolved: its effects where the transition took place (R397). The benchmark follows DEVICE_FW. -/
def State.resolveEffects (s : State) : State :=
  match s.lc.record with
  | some r => if s.recordDone r then s.lcEffects r.1 else s
  | none => s
/-- The LIFECYCLE benchmark of a transition resolved at the start; the record is cleared, flagged RESOLVED_AT_START (R397). -/
def State.resolveBench (s : State) (pending : Option (Nat × Nat × Nat × Nat)) : State :=
  match pending with
  | some r =>
    let t := if s.recordDone r then s.record 6 2 r.2.1 r.2.2.1 1 r.2.2.2 else s
    { t with lc := { t.lc with record := none } }.event 0x5000 6 16
  | none => s
/-- The first record of an epoch (R360); which firmware area is in use, and its digest, are the firmware's (log 15). -/
def State.deviceFw (s : State) (flags : Nat) : State := s.record 2 1 0 (Config.firmware 2 % 2) flags (Config.firmware 3 % 2 ^ 384)
/-- The boot epoch, and its DEVICE_FW record: a genesis where the archive holds no record (R360, R361, R468). -/
def State.bootEpoch (s : State) : State :=
  let b := s.trav.epoch
  match s.headBench with
  | none => ({ s with trav := { s.trav with epoch := b + 1, nextSeq := 0, headHash := 0 } }.event 0x3800 0xA 8).deviceFw 0
  | some h =>
    { s with trav := { s.trav with epoch := Nat.max (h.epoch + 1) b, nextSeq := h.seq + 1, headHash := h.hash } }.deviceFw
      (if b < h.epoch ∨ !s.keys.formatted then 64 else 0)
/-- Every ring entry not yet archived becomes a TAMPER benchmark (R420). -/
def State.ringRecords (s : State) : State :=
  (s.tamp.ring.filter (fun e => !e.archived)).foldl (fun u e => u.record 8 2 0xFF e.source 3 (tamperDetail e.rank e.flags e.detected e.count)) s
/-- The records of a start in their order: DEVICE_FW first, what alarms in reset left waiting, LIFECYCLE, the ring (R359, R360, R420). -/
def State.startRecords (s : State) (pending : Option (Nat × Nat × Nat × Nat)) : State :=
  let early := s.trav.pending
  let t := { s with trav := { s.trav with pending := [] } }.bootEpoch
  let t := { t with trav := { t.trav with pending := early } }
  ((t.drainPending early.length).resolveBench pending).ringRecords
/-- The lap scheduler starts with a short lap (R124, R126, R141). -/
def State.startLaps (s : State) : State :=
  let code := s.rd 0x1A00 1
  let t := { s.wr 0x1A00 5 code with lap := { s.lap with length := lapMicros code } }.shortLap
  { t with lap := { t.lap with expiredTo := t.clk.maxDatum, nextCkpt := nextMultiple (t.rd 0x3800 5) t.clk.datum, nextReseed := nextMultiple (t.rd 0x2800 4) t.clk.datum } }
/-- S3 to S5: roots and records, the key store, patch and kernels; then service opens (R17), and lines whose channels are all disabled or absent begin
their DELAY (R349). -/
def State.startRest (s : State) : State :=
  let pending := s.lc.record
  let t := s.resolveEffects
  let t := { t with keys := { t.keys with testRoot := t.debug } }
  let t := (t.startRecords pending).startKeys
  let t := { t with keys := { t.keys with formatted := true } }
  let t := ((t.loadPatch).recheckKernels).groupStart
  let t := (t.rebalance false).startLaps
  { t with phase := .up, tamp := { t.tamp with rank := 0, restarted := [], clear := 0 } }.watchLines
/-- A start: S1 and S2, then TAMPER_HOLD or the rest (R416, R417). -/
def State.start (s : State) : State :=
  let t := s.startFirst
  match t.holdSource with
  | some n => { t with phase := .hold n, tamp := { t.tamp with clear := 0 } }.event 0x4020 7 16
  | none => t.startRest

/-- Every source begins its warm-up (R294, R296). -/
def State.startSources (s : State) : State := (List.range 16).foldl (fun u n => (u.setSource n sourceInit).wr (0x2820 + n) 1 1) s
/-- COLD_START: PORST_N is released with REFCLK and the main supplies present (R442). The bank supplies that are 3.3 V, those out of range, and CLK_COMPAT are
sampled; the datum comes from the real-time clock (R38). -/
def execColdStart (banks33 : BitVec 8) (bankBad : BitVec 8) (compat : Bool) (s : State) : Out :=
  let t := ((s.wr 0x1202 1 banks33.toNat).wr 0x1202 2 bankBad.toNat).wr 0x1200 3 (if compat then 1 else 0)
  let t := { t with
    clk := { t.clk with
      compat := compat
      datum := t.clk.rtc
      frac := 0
      maxDatum := t.clk.rtc }
    pins := { t.pins with sysrstLow := false } }
  when (s.phase == .down && s.rd 0x1201 1 == 0 && s.clk.refclk && !s.clk.onBattery) s t.startSources.start
/-- WARM_START: the warm reset ends, for SYSRST_N by its rise; sources and datum have gone on (R38, R294, R441-R443). -/
def execWarmStart (s : State) : Out :=
  let t := { s with pins := { s.pins with sysrstLow := false } }
  when (s.phase == .down && s.rd 0x1201 1 != 0 && s.clk.refclk && !s.clk.onBattery) s t.start
/-- SYSRST_N_ASSERT: a warm reset, unless a cold reset is in force; while REFCLK is lost it waits (R430, R442, R443). -/
def execSysrstNAssert (s : State) : Out :=
  if s.phase = .down ∧ s.rd 0x1201 1 = 0 then .next s
  else .next ({ s with pins := { s.pins with sysrstLow := true } }.warmReset 1)
/-- A source that caused the hold is ASSERTED. -/
def State.holdAsserted (s : State) : Bool := s.tamp.restarted.any (fun i => s.asserted i)
/-- TAMPER_HOLD_SAMPLE: after 100 consecutive clear samples the start goes on from S3 (R417). -/
def execTamperHoldSample (s : State) : Out :=
  match s.phase with
  | .hold _ =>
    let n := if s.holdAsserted then 0 else s.tamp.clear + 1
    let t := { s with tamp := { s.tamp with clear := n } }
    when (!s.clk.gated) s (if n < 100 then t else t.startRest)
  | _ => .next s

end Machine
end Sys2Proof
end

