-- ==== Sys2Proof/Machine/Report.lean ====
section
/-! DEFINITION. What the dictionary's entries read as: values taken from the state they report, tables, and values at an epoch (05 R104, R109, R115, R121,
R122, and the entry tables of the other chapters). -/

namespace Sys2Proof
namespace Machine

/-! ### Values taken from live state -/

/-- The indices that exist, in ascending order (R121). -/
def allIndices : List Nat := (List.range 65536).filter indexExists
/-- OLDEST_EPOCH (R115). -/
def State.oldestEpoch (s : State) : Nat := match s.dtx.snaps with | (e, _) :: _ => e | [] => s.dtx.epoch
/-- Entries of 0x0000 (R121). -/
def State.readSelf (s : State) (sub : Nat) : Option Nat :=
  match sub with
  | 2 => some s.dtx.epoch
  | 3 => some s.oldestEpoch
  | 4 => some allIndices.length
  | 6 => some s.dtx.commits
  | _ => none
/-- PATCH_VERSION: of the slot loaded at this start; the baseline's is the firmware's (R122, R239; log 15). -/
def State.patchVersion (s : State) : Nat :=
  match s.rd 0x2400 1 with
  | 1 => slotVersion s.kern.slotA
  | 2 => slotVersion s.kern.slotB
  | _ => Config.firmware (ekey 0x1000 6)
/-- Entries of 0x1000, 0x1010 and 0x1030 (R122); fuses that failed their check read zero (R123). -/
def State.readIdentity (s : State) (idx sub : Nat) : Option Nat :=
  match idx, sub with
  | 0x1000, 1 => some s.identity
  | 0x1000, 3 => some s.lc.serial
  | 0x1000, 4 => some s.lc.step
  | 0x1000, 5 => some (Config.firmware (ekey 0x1000 5))
  | 0x1000, 6 => some s.patchVersion
  | 0x1000, 7 => some s.lc.floor
  | 0x1010, 1 => some s.lifecycle
  | 0x1010, 2 => some s.testUses
  | 0x1010, 3 => some (if s.debug then 1 else 0)
  | 0x1010, 4 => some (if s.fieldSeal then 1 else 0)
  | 0x1010, 6 => some s.trav.epoch
  | 0x1030, 1 | 0x1030, 2 => if s.lc.enrolBad then some 0 else none
  | _, _ => none
/-- DATUM and PWR_HOLD_NOW (R40, R467). -/
def State.readAnalog (s : State) (idx sub : Nat) : Option Nat :=
  match idx, sub with
  | 0x1100, 1 => some (time80 s.clk.datum)
  | 0x1202, 6 => some (if s.pins.pwrHold then 1 else 0)
  | _, _ => none
/-- What a tenant holds now (R70, R75, R143, R288, R306, R333). -/
def State.readTenant (s : State) (base t sub : Nat) : Option Nat :=
  let held := fun (cl : EngClass) => (s.blocksWith cl (.tenant t)).length
  let d := s.drbg (tenantDrbg t)
  match base, sub with
  | 0x1640, 2 => some (s.poolInUse t)
  | 0x1800, 0x30 => some (s.chansOf t).length
  | 0x1800, 0x31 => some (s.jobs.filter (fun (j : Job) => j.tenant == t)).length
  | 0x1900, 0x10 => some (if s.rd (0x1900 + t) 1 = 0 then 0 else held .aead * 2 ^ 24 + held .be * 2 ^ 16 + held .hc * 2 ^ 8 + held .le)
  | 0x20C0, 2 => some (s.dstreams.filter (fun p => p.2.tenant == t)).length
  | 0x2840, 1 => some d.state
  | 0x2840, 2 => some d.calls
  | 0x2840, 3 => some d.reseeds
  | 0x2840, 4 => some (time80 d.last)
  | 0x2C40, 3 => some (Map.getD s.keys.ctr t 0)
  | 0x2C40, 4 => some (s.volatileInUse t + (s.jobs.filter (fun (j : Job) => j.reservesKey && j.tenant == t)).length)
  | _, _ => none
/-- Octet e of LE_STATE (R130, R220). -/
def State.leState (s : State) (e : Nat) : Nat :=
  let g := s.engine e
  if g.fenced then 0xC0
  else match g.job with
    | some r => 0x40 + (match s.findJob r with | some j => j.tenant | none => 0)
    | none => match g.holder with
      | .pool => 0
      | .reserve => if s.reserveRunning.any (fun h => h.le == e) then 0x40 else 0x80
      | .tenant t => 0x80 + t
/-- Status of a cluster (R220). -/
def State.readCluster (s : State) (c sub : Nat) : Option Nat :=
  match sub with
  | 1 => some (if s.clusterFenced c then 2 else if (s.cluster c).powered then 0 else 1)
  | 2 => some (beNat ((List.range 4).map (fun i => BitVec.ofNat 8 (s.leState (4 * c + i)))))
  | 3 => some ((s.cluster c).resident.getD 0)
  | 4 => some (s.cluster c).freeBlocks
  | 5 => some (s.cluster c).seeds
  | _ => none
/-- Idle cores of a kind, from unit `u` on; those of the pairs that reserve work holds are not idle (R130, R288). -/
def State.idleCores (s : State) (u : Nat) : Nat :=
  let busy := s.reserveRunning.flatMap (fun (h : ReserveHold) => h.pairs)
  ((List.range 128).filter (fun n => (s.engine (u + n)).idle && !busy.contains n)).length
/-- A digest stream or single hash job is keyed (R272). -/
def Job.keyedHash (j : Job) : Bool := j.key != 0 && (opFam j.opcode == 0x0D || opFam j.opcode == 0x0E || j.kind == 0x3)
/-- Cores that run in dual-rail mode: streams that LE jobs hold, suspended ones among them, and that have absorbed a secret word (R211), and keyed hash jobs
that run (R272). -/
def State.secretStreams (s : State) : Nat :=
  ((s.les ++ s.saved).map (fun p => (p.2.streams.filter (fun h => h.2.sec)).length)).sum + (s.jobs.filter (fun (j : Job) => j.running && j.keyedHash)).length
/-- The hash cores device-wide (R288). -/
def State.readHash (s : State) (sub : Nat) : Option Nat :=
  match sub with
  | 1 => some (s.idleCores (keccakUnit 0))
  | 2 => some (s.idleCores (shaUnit 0))
  | 3 => some (4096 - s.contextsUsed)
  | 5 => some s.secretStreams
  | _ => none
/-- Pool capacity, entropy and key store (R144, R306, R332). -/
def State.readShared (s : State) (idx sub : Nat) : Option Nat :=
  match idx, sub with
  | 0x1A00, 7 => some (s.poolCapacity .le)
  | 0x1A00, 8 => some (s.poolCapacity .hc)
  | 0x1A00, 9 => some (s.poolCapacity .be)
  | 0x1A00, 0xA => some (s.poolCapacity .aead)
  | 0x2800, 2 => some s.healthy
  | 0x2800, 3 => some s.ent.pool.length
  | 0x2810, 1 => some (beNat s.rawValue)
  | 0x2C00, 1 => some (65536 - s.keys.vol.length - (s.jobs.filter Job.reservesKey).length)
  | 0x2C00, 2 => some (16384 - s.keys.recs.length)
  | 0x2C00, 3 => some (s.heldOf 0x22)
  | 0x2C00, 4 => some (s.heldOf 0x1A)
  | 0x2C00, 6 => some (Map.getD s.keys.ctr 64 0)
  | 0x2C00, 9 => some (1113088 - s.volatileWords - s.loadedWords)
  | _, _ => none
/-- A number with one bit for each member of a list. -/
def maskOf (l : List Nat) : Nat := (l.map (fun i => 2 ^ i)).sum
/-- Flash, traverse and tamper state (R353, R355, R356, R373, R422). -/
def State.readBoard (s : State) (idx sub : Nat) : Option Nat :=
  match idx, sub with
  | 0x3000, 2 => some 1
  | 0x3200, 1 => some (maskOf ((List.range 8).filter s.windowOpen))
  | 0x3300, 0x21 => some s.pins.lines
  | 0x3800, 1 => some s.headSeq
  | 0x3800, 2 => some s.headDigest
  | 0x3800, 3 => some s.epochFirst
  | 0x3800, 4 => some s.lastCheckpoint
  | 0x3800, 7 => some (match s.trav.ring with | b :: _ => b.seq | [] => 0)
  | 0x3800, 8 => some (match s.trav.archive with | b :: _ => b.seq | [] => 0)
  | 0x3800, 9 => some s.pendingSlots
  | 0x4020, 1 => some (match s.phase with | .hold _ => 2 | _ => if s.tamp.quiesce then 1 else 0)
  | 0x4020, 2 => some (maskOf ((List.range 16).filter s.asserted))
  | _, _ => none
/-- Group state (R390). -/
def State.readGroup (s : State) (idx sub : Nat) : Option Nat :=
  match idx, sub with
  | 0x4400, 4 => some s.configDigest
  | 0x4400, 5 => some s.me
  | 0x4400, 7 => some (Map.getD s.keys.ctr 65 0)
  | 0x4401, 5 => some s.grp.commit
  | 0x4401, 6 => some s.grp.last.2
  | 0x4401, 7 => some (maskOf s.reachable)
  | i, 3 => if 0x4410 ≤ i ∧ i < 0x4418 then some (s.link (i - 0x4410)).state else none
  | i, 4 => if 0x4410 ≤ i ∧ i < 0x4418 then some (s.link (i - 0x4410)).heard else none
  | i, 5 => if 0x4410 ≤ i ∧ i < 0x4418 then some (if s.role = 3 then (s.link (i - 0x4410)).stored else 0) else none
  | _, _ => none
/-- Life cycle, patches and fenced units (R248, R407, R454). -/
def State.readControl (s : State) (idx sub : Nat) : Option Nat :=
  match idx, sub with
  | 0x2400, 3 => some (slotVersion s.kern.slotA)
  | 0x2400, 4 => some (slotVersion s.kern.slotB)
  | 0x4800, 5 => some s.fencedUnits
  | 0x5000, 2 => some s.lcStatusWord
  | 0x5000, 4 => some s.ownerCycles
  | 0x5000, 7 => some s.lc.fjoix
  | _, _ => none
/-- The value of an entry that reports live state; none where the dictionary itself holds it. -/
def State.readLive (s : State) (idx sub : Nat) : Option Nat :=
  if idx = 0 then s.readSelf sub
  else if 0x1400 ≤ idx ∧ idx < 0x1404 then (if sub = 0x12 then some (s.mac (idx - 0x1400)) else none)
  else if tenantIndexed idx then s.readTenant (idx / 64 * 64) (idx % 64) sub
  else if 0x2000 ≤ idx ∧ idx < 0x2010 then s.readCluster (idx - 0x2000) sub
  else if idx = 0x2080 then s.readHash sub
  else if 0x6000 ≤ idx ∧ idx < 0x7000 then some (Config.firmware (ekey idx sub))
  else [s.readIdentity idx sub, s.readAnalog idx sub, s.readShared idx sub, s.readBoard idx sub, s.readGroup idx sub, s.readControl idx sub].findSome? id

/-! ### Tables -/

/-- A certificate in rows of 1,000 octets: its U32 length first, the last row zero-padded (R332; log 59). -/
def certRows (b : Bytes) : List Bytes :=
  let v := beBytes 4 b.length ++ b
  (List.range (ceilDiv v.length 1000)).map (fun i => fit 1000 (slice v (1000 * i) 1000))
/-- A row of KERNELS: the fields as listed, 68 octets, though the table calls the row one of 64 (R248; log 58). -/
def kernelRow (k : Kernel) : Bytes :=
  oct k.binding ++ oct k.keyUse ++ beBytes 2 k.base ++ beBytes 2 k.nMicro ++ beBytes 2 k.scratch ++ beBytes 4 k.version ++ beBytes 4 k.cost.1.le ++
    beBytes 4 k.cost.2.le ++ beBytes 48 k.digest
/-- A row of RECORDS (R333). -/
def recordRow (k : KeyRec) : Bytes := beBytes 4 k.handle ++ oct k.typ ++ oct k.set ++ oct k.order ++ oct 0 ++ beBytes 48 k.digest
/-- A row of RING (R420). -/
def ringRow (e : RingEntry) : Bytes :=
  oct e.source ++ oct e.rank ++ oct e.flags ++ oct 0 ++ beBytes 10 e.detected ++ beBytes 4 e.count ++ beBytes 6 0
/-- A row of EVENT_LOG; a datum step's record is a TIME80 (R453). -/
def logOctets (e : LogEntry) : Bytes :=
  beBytes 8 e.seq ++ beBytes 10 (time80 e.datum) ++ oct e.kind ++ oct e.unitType ++ oct e.cluster ++ oct e.unit ++ oct e.tenant ++ oct e.status ++
    (if e.kind = 8 then beBytes 10 e.record ++ beBytes 2 0 else beBytes 9 e.record ++ beBytes 3 0)
/-- A unit in RETURNED, and one with debug open, reports no certificates (R311, R332). -/
def State.certRowsOf (s : State) (sub : Nat) : List Bytes :=
  if s.debug then [] else match Map.find s.dtx.certs sub with
    | some b => certRows b
    | none => []
/-- The rows of a table. -/
def State.rows (s : State) (idx sub : Nat) : List Bytes :=
  let t := idx % 64
  let usage := fun (w v : Nat) => beBytes 8 w ++ beBytes 8 v
  if idx = 0x0000 then allIndices.map (fun i => beBytes 2 i)
  else if inTenants 0x1900 idx then classes.map (fun cl => usage ((s.ten t).own.get cl) ((s.ten t).borrowed.get cl))
  else if idx = 0x2410 then s.library
  else if idx = 0x2430 then s.kern.bound.map (fun (p : Nat × Kernel) => kernelRow p.2)
  else if idx = 0x2C01 then s.certRowsOf sub
  else if inTenants 0x2C40 idx then (s.domainRecords t).map (fun (p : KeyRec × Nat) => recordRow p.1)
  else if idx = 0x4010 then s.tamp.ring.map ringRow
  else if idx = 0x4801 then s.flt.log.map logOctets
  else Config.firmwareRows (ekey idx sub)

/-! ### A READ's items (R109, R115) -/

/-- The octets of a value of an entry's type and size (R104); PART is text (R122). -/
def valueOctets (idx sub : Nat) (r : Row) (v : Nat) : Bytes := if idx = 0x1000 ∧ sub = 2 then ascii "NM72" else beBytes r.size (v % 2 ^ (8 * r.size))
/-- The value of an entry: an RO one as it stands, another as epoch `e` left it, 0 for the current value (R115). -/
def State.entryAt (s : State) (e idx sub : Nat) (r : Row) : Nat :=
  let now := (s.readLive idx sub).getD (s.rd idx sub)
  if e = 0 ∨ r.access = 0 then now
  else match Map.find s.dtx.snaps e with
    | some d => (s.readLive idx sub).getD (Map.getD d (ekey idx sub) (dflt idx sub))
    | none => now
/-- An item of a READ: index, subindex, first row (R108). -/
abbrev ReadItem := Nat × Nat × Nat
/-- The octets of one item of a READ result, with `room` octets left for it (R109). -/
def State.itemOctets (s : State) (e room : Nat) (it : ReadItem) : Bytes :=
  let head := fun (typ : Nat) (b : Bytes) => beBytes 2 it.1 ++ oct it.2.1 ++ oct typ ++ beBytes 2 b.length ++ b
  if it.2.1 = 0 then head 2 (oct (highestSub it.1))
  else match rowOf it.1 it.2.1 with
    | none => []
    | some r =>
      if r.typ = 16 then
        let rs := s.rows it.1 it.2.1
        let size := match rs with | x :: _ => x.length | [] => Nat.max 1 r.size
        let out := (rs.drop it.2.2).take ((Nat.min 65535 room - 4) / size)
        head 16 (beBytes 2 rs.length ++ beBytes 2 out.length ++ out.flatten)
      else head r.typ (valueOctets it.1 it.2.1 r (s.entryAt e it.1 it.2.1 r))
/-- An item that names a TABLE. -/
def isTable (it : ReadItem) : Bool := match rowOf it.1 it.2.1 with | some r => it.2.1 != 0 && r.typ == 16 | none => false
/-- The result of a READ whose checks passed (R109). -/
def State.readResult (s : State) (e : Nat) (items : List ReadItem) : Bytes :=
  let plain := fun (it : ReadItem) => if isTable it then [] else s.itemOctets e 0 it
  let used := 16 + (items.map (fun it => (plain it).length)).sum
  beBytes 8 (if e = 0 then s.dtx.epoch else e) ++ oct items.length ++ beBytes 7 0 ++
    (items.map (fun it => if isTable it then s.itemOctets e (65536 - used - 6) it else plain it)).flatten

end Machine
end Sys2Proof
end

