-- ==== Sys2Proof/Machine/Apply.lean ====
section
/-! DEFINITION. Dictionary transactions: what a write does once it is applied, the journal, POLICY benchmarks and completions (05 R110-R117, 16 R358,
R367, 18 R398, 20 R444). -/

namespace Sys2Proof
namespace Machine

/-! ### What a written entry does -/

/-- Entries of a port: ENABLE takes the link down, and frees a fenced port when written 0 and then 1; SPEED and FEC retrain it (R21, R39, R449). -/
def State.portWritten (old s : State) (p sub v : Nat) : State :=
  match sub with
  | 1 =>
    if v = 0 then (if s.linkUp p then s.portDown p 0 else s)
    else if old.rd (0x1400 + p) 1 = 0 ∧ s.flt.portFenced.contains p then
      { s with flt := { s.flt with portFenced := s.flt.portFenced.filter (fun x => x != p) } }.wr (0x1400 + p) 0x10 0
    else s
  | 2 | 3 => if old.rd (0x1400 + p) sub = v then s else s.setPort p { s.port p with retrain := true }
  | _ => s
/-- PTP_PORT moves PTP; HOLDOVER_LIMIT applies at once (R37, R40). -/
def State.ptpWritten (s : State) (sub : Nat) : State :=
  if sub = 1 then s.ptpPortWritten else if sub = 9 ∧ s.holdoverOver then s.setQuality 0 else s
/-- A tenant's ports: its frames go by the new primary, or its alternate while that is down (R31); a move back by this write sends no gratuitous ARP
(log 101). -/
def State.bindingWritten (s : State) (t : Nat) : State := (s.setTen t { s.ten t with moved := none }).failovers
/-- INSTALL: 1 installs, 2 discards the staged image, 3 removes the binding named in the same transaction (R244). -/
def State.installWritten (s : State) (ws : List DWrite) (v : Nat) : State :=
  match v with
  | 1 => s.install
  | 2 => s.discardStage
  | _ => match ws.find? (fun w => w.idx == 0x2421 && w.sub == 2) with
    | some w => s.removeKernel (beNat w.val)
    | none => s
/-- The entropy function's controls (R141, R294, R299, R302). -/
def State.entropyWritten (old s : State) (idx sub v : Nat) : State :=
  if idx = 0x2800 then
    (if sub = 4 then s.reseedInterval else if sub = 5 ∧ v = 1 then s.reseedAll else s)
  else if idx = 0x2810 then (if sub = 2 then s.sampleSource (old.rd 0x2810 2) else s)
  else if sub = 4 ∧ v = 1 then s.restartSource (idx - 0x2820)
  else if sub = 5 ∧ v = 1 then s.disableSource (idx - 0x2820)
  else s
/-- A window's CHANNEL: 0xFF closes it, another value opens it; a window that is open closes before it opens anew (R346). -/
def State.windowWritten (old s : State) (w v : Nat) : State :=
  let t := if old.windowOpen w then s.windowRecordOf (old.window w) w 3 else s
  if v = 0xFF then t else t.windowRecordOf (s.window w) w 1
/-- The reset sequencer (R350, R351, R356). -/
def State.sequencerWritten (s : State) (sub v : Nat) : State :=
  if sub ≤ 0x20 then s.watchLines else if sub = 0x22 then s.forceRelease v else if sub = 0x23 then s.remeasure v else s
/-- The owner leaves QUIESCED, and lines whose conditions hold may be released (R412). -/
def State.resumeWritten (s : State) (v : Nat) : State :=
  if v = 1 then (({ s with tamp := { s.tamp with quiesce := false } }).watchLines).forceLines else s
/-- What one write does beside setting its entry's value; `old` is the state before the transaction. -/
def State.entryWritten (old : State) (ws : List DWrite) (s : State) (w : DWrite) : State :=
  let i := w.idx
  let v := beNat w.val
  if 0x1400 ≤ i ∧ i < 0x1404 then State.portWritten old s (i - 0x1400) w.sub v
  else if i = 0x1101 then s.ptpWritten w.sub
  else if inTenants 0x1440 i then s.bindingWritten (i - 0x1440)
  else if inTenants 0x1800 i then (if w.sub = 1 ∧ v = 0 then s.resetTenant (i - 0x1800) none else s)
  else if inTenants 0x1900 i then (if w.sub ≤ 5 then s.rebalance false else s)
  else if i = 0x1A00 then (if w.sub = 1 then s.lengthWritten else if 2 ≤ w.sub ∧ w.sub ≤ 4 then s.reserveWritten else s)
  else if 0x2000 ≤ i ∧ i < 0x2010 then (if w.sub = 6 then s.fenceWritten (i - 0x2000) v else s)
  else if i = 0x2400 then (if w.sub = 5 then s.raiseFloor v else s)
  else if i = 0x2420 then s.stage w.sub v
  else if i = 0x2421 then (if w.sub = 1 then s.installWritten ws v else s)
  else if 0x2800 ≤ i ∧ i < 0x2830 then State.entropyWritten old s i w.sub v
  else if i = 0x2C00 then (if w.sub = 8 ∧ v = 1 then s.keysReset else s)
  else if i = 0x2C01 then { s with dtx := { s.dtx with certs := Map.put s.dtx.certs w.sub w.val } }
  else if 0x3000 ≤ i ∧ i < 0x3020 then (if w.sub = 1 then s.watchLines else s)
  else if i = 0x3200 then (if (w.sub - 0x10) % 4 = 0 then State.windowWritten old s ((w.sub - 0x10) / 4) v else s)
  else if i = 0x3300 then s.sequencerWritten w.sub v
  else if i = 0x3800 then (if w.sub = 5 then s.checkpointInterval else s)
  else if i = 0x4020 then (if w.sub = 3 then s.resumeWritten v else s)
  else if i = 0x4400 ∨ (0x4410 ≤ i ∧ i < 0x4418) then State.regroup old s
  else s

/-! ### Applying a transaction (R112, R115, R117, R358) -/

/-- ENROL_DIGEST and ENROL_SET are fuses: their programming starts, and they take their values when it ends (R123; log 83). -/
def enrolEntry (idx sub : Nat) : Bool := idx == 0x1030 && (sub == 1 || sub == 2)
def State.programEnrol (s : State) (ws : List DWrite) : State :=
  let d := s.after ws 0x1030 1
  let st := s.after ws 0x1030 2
  if ws.any (fun w => enrolEntry w.idx w.sub) && (s.rd 0x1030 1 != d || s.rd 0x1030 2 != st) then
    { s with lc := { s.lc with prog := some 12, enrolNew := (d, st) } } else s
/-- A written entry takes its value; a clear takes the masked flags away; a command entry and a certificate hold none. -/
def State.setEntry (s : State) (w : DWrite) : State :=
  match rowOf w.idx w.sub with
  | none => s
  | some r =>
    if r.typ = 15 then s.wr w.idx w.sub (eventClear (s.rd w.idx w.sub) (beNat w.val % 256))
    else if r.access = 2 ∨ r.typ = 16 ∨ enrolEntry w.idx w.sub then s
    else s.wr w.idx w.sub (beNat w.val)
/-- A transaction that changes an S entry or any entry from 0x3000 to 0x33FF makes a POLICY benchmark (R358). -/
def Journal.policy (g : Journal) : Bool :=
  g.writes.any (fun w => (decide (0x3000 ≤ w.idx) && decide (w.idx ≤ 0x33FF)) || (match rowOf w.idx w.sub with | some r => r.pers == 2 | none => false))
/-- A transaction that would make a POLICY, KERNEL or LIFECYCLE benchmark, or opens or closes a window, waits while the ring is full (R367). -/
def Journal.recorded (g : Journal) : Bool :=
  g.policy || g.writes.any (fun w => (w.idx == 0x2C00 && w.sub == 8) || (w.idx == 0x2421 && w.sub == 1 && beNat w.val != 2) || (w.idx == 0x5000 && w.sub == 1))
/-- A transaction that is journalled before it is applied (R113): SEALED_COUNTER and LAST_SEALED are P entries. -/
def Journal.persists (g : Journal) : Bool := journalled g.writes || g.sealedAs.isSome
/-- The tenants that a transaction disables (R72, R99). -/
def disables (ws : List DWrite) : List Nat :=
  ws.filterMap (fun w => if inTenants 0x1800 w.idx && w.sub == 1 && beNat w.val == 0 then some (w.idx - 0x1800) else none)
/-- A transaction that disables tenants is answered when their resets end, at its own epoch (R99, R111). -/
def State.joinResets (s : State) (g : Journal) : State :=
  match g.j with
  | some r => if disables g.writes = [] then s else
      (disables g.writes).foldl (fun u t => u.joinReset t r) (s.mapJob r (fun (j : Job) => { j with result := failRecord s.dtx.epoch 0xFF 0 }))
  | none => s
/-- Apply a transaction: its writes take effect at the next epoch (R112). -/
def State.applyTxn (s : State) (g : Journal) : State :=
  let t := { s with dtx := { s.dtx with
    epoch := s.dtx.epoch + 1
    commits := s.dtx.commits + (if g.persists then 1 else 0) } }
  let t := g.writes.foldl (fun u w => u.setEntry w) t
  let t := match g.sealedAs with
    | some (c, d) => (t.wr 0x1030 6 c).wr 0x1030 7 d
    | none => t
  let t := t.holdEpoch
  let t := if g.policy then t.record 5 2 0xFF 1 1 (sha3 g.payload) else t
  g.writes.foldl (fun u w => State.entryWritten s g.writes u w) ((t.joinResets g).programEnrol g.writes)

/-! ### Transitions and warm resets (R398, R444) -/

/-- The life-cycle code of a TRANSITION's op. -/
def transitionCode : Nat → Option Nat
  | 1 => some 6
  | 2 => some 7
  | 3 => some 10
  | 4 => some 11
  | _ => none
/-- What a TRANSITION value meets: a status of its own, or the transition; a failed token counts (R394, R396, R398). -/
def State.transitionCheck (s : State) (v : Bytes) : State × (Except Nat Move) :=
  let op := fieldAt v 0 1
  match transitionCode op with
  | none => (s, .error 0x72)
  | some code =>
    if !zeros (slice v 1 15) ∨ (op ≠ 2 ∧ !zeros (slice v 32 16)) then (s, .error 0x26)
    else match s.lcMove code with
      | none => (s, .error 0x15)
      | some m =>
        if s.lockedOut then (s, .error 0x72)
        else if !s.tokenOk (m.slot.getD 0) (slice v 16 16) ∨ (op = 2 ∧ !s.tokenOk 14 (slice v 32 16)) then (s.failToken, .error 0x15)
        else if op = 4 ∧ s.fieldSeal then (s, .error 0x01)
        else if !s.fusePower ∨ s.lc.prog.isSome then (s, .error 0x72)
        else (s, .ok m)
/-- A completion is handed to its port now (R398, R444). -/
def State.answerNow (s : State) (r : JobRef) : State :=
  match s.findJob r, Map.find s.chans r.chan with
  | some j, some c => if j.state = .done ∧ (s.egress c.tenant).isSome then s.sendCompletion j c else s
  | _, _ => s
/-- The value of TRANSITION that a transaction writes. -/
def transitionOf (ws : List DWrite) : Option Bytes := (ws.find? (fun w => w.idx == 0x5000 && w.sub == 1)).map (fun w => w.val)
/-- The transaction asks for a warm reset (R444). -/
def asksReset (ws : List DWrite) : Bool := ws.any (fun w => w.idx == 0x1201 && w.sub == 2 && beNat w.val == 1)

/-! ### Answers -/

/-- The part of a transaction's answer that comes after its completion: programming starts, or the warm reset begins (R398, R444). -/
def State.afterTxn (s : State) (g : Journal) (r : JobRef) : State :=
  match transitionOf g.writes with
  | some v => match (s.transitionCheck v).2 with
    | .ok m => (s.answerNow r).startFuse m (sha3 v)
    | .error _ => s
  | none => if asksReset g.writes then (s.answerNow r).warmReset 2 else s
/-- An applied transaction is answered with a failure record at the new epoch, one that disables a tenant when its reset ends (R99); through the test access port the data register holds it (R107, R400). -/
def State.answerTxn (s : State) (g : Journal) : State :=
  let o := failRecord s.dtx.epoch 0xFF 0
  match g.j with
  | some r => ((if s.awaitsReset r then s else s.finish r 0 0 o none)).afterTxn g r
  | none => { s with lc := { s.lc with dr := beNat o } }
/-- A refused DICT message: the failure record, and the position in the detail octet of a DICT_REFUSED (R111). -/
def State.refuseDict (s : State) (r : JobRef) (e : Refused) : State :=
  s.finish r e.status (if e.status = 0x72 then e.position else 0) (failRecord s.dtx.epoch e.position e.value) none

/-! ### The order of transactions (R112, R113, R367) -/

/-- A transaction waits for a ring slot (R367). -/
def State.waitRing (s : State) (r : JobRef) : State :=
  let t := s.mapJob r (fun (j : Job) => { j with waitSince := some (j.waitSince.getD s.clk.fab) })
  { t with trav := { t.trav with waiters := if t.trav.waiters.contains r then t.trav.waiters else t.trav.waiters ++ [r] } }
/-- It waits no longer. -/
def State.unwaitRing (s : State) (r : JobRef) : State :=
  let t := s.mapJob r (fun (j : Job) => { j with waitSince := none })
  { t with trav := { t.trav with waiters := t.trav.waiters.filter (fun x => x != r) } }
/-- A transaction whose checks passed: it waits for the ring, is journalled, or is applied at once. -/
def State.beginTxn (s : State) (g : Journal) : State :=
  if g.recorded && s.ringBusy then (match g.j with | some r => s.waitRing r | none => s)
  else
    let t := match g.j with | some r => s.unwaitRing r | none => s
    if g.persists then { t with dtx := { t.dtx with journal := some g } } else (t.applyTxn g).answerTxn g
/-- JOURNAL_COMMIT: the commit mark is programmed and the transaction is applied, or a program failure ends it with MEM_FAULT, detail 0xFF (R113). -/
def execJournalCommit (programOk : Bool) (s : State) : Out :=
  match s.dtx.journal with
  | none => .next s
  | some g =>
    if !s.runs then .next s
    else
      let t := { s with dtx := { s.dtx with journal := none } }
      if programOk then .next ((t.applyTxn g).answerTxn g)
      else match g.j with
        | some r => .next (t.finish r 0x51 0xFF [] none)
        | none => .next { t with lc := { t.lc with dr := beNat (failRecord t.dtx.epoch 0xFF 0) } }

end Machine
end Sys2Proof
end

