-- ==== Sys2Proof/Machine/Dictionary.lean ====
section
/-! DEFINITION. The DICT operations READ, WRITE, SEALED_WRITE and DESCRIBE, the writes and reads that have rows of their own, and the dictionary through the
test access port (05 R107-R120, 17 R387, R388, 18 R402). -/

namespace Sys2Proof
namespace Machine

/-! ### DICT jobs (R107) -/

/-- The DICT job that a command serves, with its channel: taken already, or the head that its tenant's queues give (R92), its result's blocks reserved
(R62, R107). -/
def State.dictJob (s : State) (j : JobRef) (op : Nat) : Option (Job × Channel) :=
  match s.findJob j, Map.find s.chans j.chan with
  | some x, some c =>
    if x.kind = 0x4 ∧ x.opcode = op ∧ x.state = .queued ∧ s.runs ∧ !s.awaitsReset j ∧ s.blocksFit x dictBlocks ∧ (s.inHand x ∨ s.isHead x ∧ !s.lowerQueue x) then some (x, c)
    else none
  | _, _ => none
/-- The reservation, while the message is carried out. -/
def State.reserveDict (s : State) (x : Job) : State := s.mapJob x.ref (fun (j : Job) => { j with reserve := dictBlocks })

/-! ### READ (R108, R109, R115, R387) -/

/-- The items of a READ payload from octet 16 on: none where a spare octet is not zero or they do not exactly fill it. -/
def parseItems : Nat → Bytes → Option (List ReadItem)
  | 0, b => if b = [] then some [] else none
  | n + 1, b =>
    if b.length < 6 ∨ fieldAt b 3 1 ≠ 0 then none
    else match parseItems n (b.drop 6) with
      | some rest => some ((fieldAt b 0 2, fieldAt b 2 1, fieldAt b 4 2) :: rest)
      | none => none
/-- A READ payload in its format: its epoch and items. -/
def parseRead (b : Bytes) : Option (Nat × List ReadItem) :=
  let n := fieldAt b 8 1
  if b.length < 16 ∨ n = 0 ∨ 64 < n ∨ !zeros (slice b 9 7) then none
  else match parseItems n (b.drop 16) with
    | some items => some (fieldAt b 0 8, items)
    | none => none
/-- The status of an item that may not be read. -/
def Asker.itemStatus (a : Asker) (it : ReadItem) : Option Nat :=
  if !entryExists it.1 it.2.1 then some 0x71 else if !a.mayRead it.1 it.2.1 then some 0x15 else none
/-- The first item that may not be read, with its position. -/
def Asker.firstRefused (a : Asker) : Nat → List ReadItem → Option Refused
  | _, [] => none
  | pos, it :: rest => match a.itemStatus it with
    | some st => some ⟨st, pos, 0⟩
    | none => a.firstRefused (pos + 1) rest
/-- The position of the second TABLE item. -/
def secondTable (items : List ReadItem) : Option Nat := ((List.range items.length).filter (fun i => (items[i]?.map isTable).getD false))[1]?
/-- The first failing check of a READ (R109): a first row of an item that is no TABLE is part of the format (R108). -/
def State.readRefused (s : State) (a : Asker) (e : Nat) (items : List ReadItem) : Option Refused :=
  if items.any (fun it => it.2.2 != 0 && entryExists it.1 it.2.1 && !isTable it) then some ⟨0x26, 0xFF, 0⟩
  else if e ≠ 0 ∧ e ≠ s.dtx.epoch ∧ (Map.find s.dtx.snaps e).isNone then some ⟨0x73, 0xFF, 0⟩
  else match a.firstRefused 0 items with
    | some r => some r
    | none => (secondTable items).map (fun p => ⟨0x26, p, 0⟩)
/-- What reading does beside its result: RAW_SAMPLE is taken (R302). -/
def State.readEffects (s : State) (items : List ReadItem) : State :=
  if items.any (fun it => it.1 == 0x2810 && it.2.1 == 1) then s.takeRaw else s
/-- An item of group state (R387). -/
def groupItem (it : ReadItem) : Bool := decide (0x4400 ≤ it.1) && decide (it.1 ≤ 0x44FF)
/-- On a quorate member a READ of group state waits for the sequencer's commit index and its application: `none` once it may be answered (R387). -/
def State.readWaits (s : State) (j : JobRef) (items : List ReadItem) : Option State :=
  if !items.any groupItem ∨ !s.quorate ∨ s.role = 3 then none
  else match s.grp.reads.find? (fun r => r.2.1 == j) with
    | none =>
      let tag := s.grp.nextTag
      some ({ s with grp := { s.grp with reads := s.grp.reads ++ [(tag, j, none)], nextTag := tag + 1 } }.post (.readIndex s.sequencer tag))
    | some (_, _, some c) => if c ≤ s.grp.applied then none else some s
    | some (_, _, none) => some s
/-- A READ is answered. -/
def State.serveRead (s : State) (x : Job) (c : Channel) : State :=
  match parseRead x.payload with
  | none => s.refuseDict x.ref ⟨0x26, 0xFF, 0⟩
  | some (e, items) =>
    match s.readRefused ⟨c.role, c.tenant, false, false⟩ e items with
    | some r => s.refuseDict x.ref r
    | none =>
      match s.readWaits x.ref items with
      | some t => t.reserveDict x
      | none =>
        let t := { s with grp := { s.grp with reads := s.grp.reads.filter (fun r => r.2.1 != x.ref) } }
        (t.finish x.ref 0 0 (s.readResult e items) none).readEffects items
/-- READ (R109). -/
def execRead (j : JobRef) (s : State) : Out :=
  match s.dictJob j 1 with
  | some (x, c) => .next (s.serveRead x c)
  | none => .next s
/-- RAW_SAMPLE_READ: a READ that names RAW_SAMPLE (R302). -/
def execRawSampleRead (j : JobRef) (s : State) : Out :=
  match s.dictJob j 1 with
  | some (x, c) => match parseRead x.payload with
    | some (_, items) => if items.any (fun it => it.1 == 0x2810 && it.2.1 == 1) then .next (s.serveRead x c) else .next s
    | none => .next s
  | none => .next s

/-! ### DESCRIBE (R118) -/

/-- P entries whose table names no default. -/
def noDefault (idx sub : Nat) : Bool :=
  (idx == 0 && (sub == 2 || sub == 6)) || (idx == 0x2C00 && sub == 2) || (idx == 0x3800 && (sub ≤ 4 || sub == 8)) || (idx == 0x4400 && sub == 7) ||
    (idx == 0x4401 && (sub == 5 || sub == 6)) || idx == 0x4802
/-- The default of an entry, empty where its value comes from a source. -/
def defaultOctets (idx sub : Nat) (r : Row) : Bytes :=
  if r.typ = 16 ∨ noDefault idx sub ∨ (r.pers = 3 ∧ r.access ≠ 3) ∨ r.pers = 4 then [] else valueOctets idx sub r (dflt idx sub)
/-- An entry descriptor; subindex .00 is a U8 that the index itself gives, and has no name (R102, R118). -/
def descriptor (idx sub : Nat) : Option Bytes :=
  if sub = 0 then (if indexExists idx then some (oct 2 ++ oct 0 ++ oct 4 ++ oct 0xF0 ++ beBytes 2 1 ++ beBytes 2 0 ++ beBytes 32 0 ++ beBytes 2 0) else none)
  else (rowOf idx sub).map (fun r =>
    let d := defaultOctets idx sub r
    oct r.typ ++ oct r.access ++ oct (if r.pers = 5 then 0 else r.pers) ++ oct r.rights ++ beBytes 2 r.size ++ beBytes 2 0 ++ fit 32 (ascii r.name) ++
      beBytes 2 d.length ++ d)
/-- DESCRIBE (R118). -/
def execDescribe (j : JobRef) (s : State) : Out :=
  match s.dictJob j 4 with
  | none => .next s
  | some (x, _) =>
    let b := x.payload
    if b.length ≠ 4 ∨ fieldAt b 3 1 ≠ 0 then .next (s.refuseDict j ⟨0x26, 0xFF, 0⟩)
    else match descriptor (fieldAt b 0 2) (fieldAt b 2 1) with
      | some d => .next (s.finish j 0 0 d none)
      | none => .next (s.refuseDict j ⟨0x71, 0xFF, 0⟩)

/-! ### WRITE (R110-R113) -/

/-- A transaction of a job: its checks, then the journal or its application. -/
def State.checkTxn (s : State) (a : Asker) (g : Journal) (r : JobRef) : State :=
  match s.txnRefused a g.writes with
  | some e => s.refuseDict r e
  | none => match transitionOf g.writes with
    | none => s.beginTxn g
    | some v => match s.transitionCheck v with
      | (t, .error st) => t.refuseDict r ⟨st, if st = 0x01 then 0xFF else 0, 0⟩
      | (t, .ok _) => t.beginTxn g
/-- A WRITE is served. -/
def State.serveWrite (s : State) (x : Job) (c : Channel) : State :=
  match parseWrite x.payload with
  | none => s.refuseDict x.ref ⟨0x26, 0xFF, 0⟩
  | some ws => s.checkTxn ⟨c.role, c.tenant, false, false⟩ ⟨some x.ref, ws, none, x.payload⟩ x.ref

/-! ### SEALED_WRITE (R119, R120, R375-R378, R388) -/

/-- The body of a SEALED_WRITE. -/
def sealedBody (b : Bytes) : Bytes := slice b 64 (fieldAt b 60 2)
/-- The payload has its format (R108, R119). -/
def sealedFormat (b : Bytes) : Bool := b.length == 2656 + fieldAt b 60 2 + 4627 && zeros (slice b 56 4) && zeros (slice b 62 2)
/-- Step 1: bound to this device, or to its group. -/
def State.sealedBound (s : State) (b : Bytes) : Bool := fieldAt b 0 48 == s.identity || (s.myIndex.isSome && fieldAt b 0 48 == s.groupBinding)
/-- A write to the membership list or the group ID (R375). -/
def membership (ws : List DWrite) : Bool :=
  ws.any (fun w => (w.idx == 0x4400 && (w.sub == 1 || w.sub == 2)) || (decide (0x4410 ≤ w.idx) && decide (w.idx < 0x4418)))
/-- The write commits through the group: this device is a member, and it is not the founding list of a member whose log is empty (R119, R375). -/
def State.viaGroup (s : State) (b : Bytes) : Bool :=
  s.myIndex.isSome && !(s.grp.last == (0, 0) && fieldAt b 0 48 == s.identity && (match parseWrite (sealedBody b) with | some ws => membership ws | none => false))
/-- Steps 3 and 4 against this device's own counter: 0 to go on, OK_ALREADY or COUNTER_STALE. -/
def State.sealedCounter (s : State) (b : Bytes) : Nat :=
  if fieldAt b 48 8 = s.rd 0x1030 6 ∧ sha3 b = s.rd 0x1030 7 then 0x01 else if fieldAt b 48 8 = s.rd 0x1030 6 + 1 then 0 else 0x32
/-- Step 5, then the journal, or the group (a member that is not the sequencer checks the body before it forwards the write; log 61). -/
def State.sealedGo (s : State) (x : Job) (b : Bytes) : State :=
  match parseWrite (sealedBody b) with
  | none => s.refuseDict x.ref ⟨0x26, 0xFF, 0⟩
  | some ws =>
    let g : Journal := ⟨some x.ref, ws, some (fieldAt b 48 8, sha3 b), sealedBody b⟩
    if s.viaGroup b then
      match s.txnRefused ⟨1, 0, true, false⟩ ws with
      | some e => s.refuseDict x.ref e
      | none => s.submit (some x.ref) 4 b
    else s.checkTxn ⟨1, 0, true, false⟩ g x.ref
/-- A SEALED_WRITE is served. -/
def State.serveSealed (s : State) (x : Job) (c : Channel) : State :=
  let b := x.payload
  let refuse := fun (st : Nat) => s.refuseDict x.ref ⟨st, 0xFF, 0⟩
  if s.writing x.ref then s
  else if c.role ≠ 1 ∨ s.rd 0x1030 5 = 0 then refuse 0x15
  else if !sealedFormat b then refuse 0x26
  else if !s.sealedBound b then refuse 0x15
  else if sha3 (carriedKey b) ≠ s.rd 0x1030 5 ∨ !signedBy "NM72 SEALED WRITE" b then refuse 0x15
  else if s.viaGroup b ∧ !s.quorate then refuse 0x63
  else
    let v := if !s.viaGroup b then s.sealedCounter b else if s.role = 3 then s.verdictOf 4 b else 0
    if v = 0 then s.sealedGo x b else refuse v
/-- A transaction is served in its turn (R112). -/
def State.serveTxn (s : State) (x : Job) (c : Channel) : State :=
  if !s.myTurn x then s else if x.opcode = 2 then (s.reserveDict x).serveWrite x c else (s.reserveDict x).serveSealed x c
/-- WRITE (R110-R113). -/
def execWrite (j : JobRef) (s : State) : Out :=
  match s.dictJob j 2 with
  | some (x, c) => .next (s.serveTxn x c)
  | none => .next s
/-- SEALED_WRITE (R119). -/
def execSealedWrite (j : JobRef) (s : State) : Out :=
  match s.dictJob j 3 with
  | some (x, c) => .next (s.serveTxn x c)
  | none => .next s

/-! ### Writes with rows of their own -/

/-- The writes of a WRITE or of a SEALED_WRITE's body. -/
def Job.writes (j : Job) : List DWrite := (parseWrite (if j.opcode = 2 then j.payload else sealedBody j.payload)).getD []
/-- A write of a value to an entry. -/
def sets (idx sub v : Nat) (w : DWrite) : Bool := w.idx == idx && w.sub == sub && beNat w.val == v
/-- Serve a transaction that makes the write which a row names. -/
def State.named (s : State) (j : JobRef) (p : List DWrite → Bool) : Out :=
  match s.dictJob j 2, s.dictJob j 3 with
  | some (x, c), _ => if p x.writes then .next (s.serveTxn x c) else .next s
  | none, some (x, c) => if p x.writes then .next (s.serveTxn x c) else .next s
  | none, none => .next s
/-- TENANT_STATE_WRITE: DISABLED resets the tenant (R72, R75). -/
def execTenantStateWrite (j : JobRef) (tenant : Nat) (enabled : Bool) (s : State) : Out :=
  s.named j (fun ws => decide (tenant < 64) && ws.any (sets (0x1800 + tenant) 1 (if enabled then 1 else 0)))
/-- EVENT_CLEAR (R117). -/
def execEventClear (j : JobRef) (idx sub count mask : Nat) (s : State) : Out :=
  s.named j (fun ws => ws.any (fun w => w.typ == 15 && sets idx sub (count * 256 + mask) w))
/-- FLOOR_RAISE (R241). -/
def execFloorRaise (j : JobRef) (floor : Nat) (s : State) : Out := s.named j (fun ws => ws.any (sets 0x2400 5 floor))
/-- INSTALL (R244). -/
def execInstall (j : JobRef) (s : State) : Out := s.named j (fun ws => ws.any (sets 0x2421 1 1))
/-- DISCARD (R244). -/
def execDiscard (j : JobRef) (s : State) : Out := s.named j (fun ws => ws.any (sets 0x2421 1 2))
/-- REMOVE (R244). -/
def execRemove (j : JobRef) (binding : Nat) (s : State) : Out := s.named j (fun ws => ws.any (sets 0x2421 1 3) && ws.any (sets 0x2421 2 binding))
/-- RESTART of a noise source (R294). -/
def execRestart (j : JobRef) (src : Nat) (s : State) : Out := s.named j (fun ws => decide (src < 16) && ws.any (sets (0x2820 + src) 4 1))
/-- DISABLE of a noise source (R294). -/
def execDisable (j : JobRef) (src : Nat) (s : State) : Out := s.named j (fun ws => decide (src < 16) && ws.any (sets (0x2820 + src) 5 1))
/-- RESEED_ALL (R299). -/
def execReseedAll (j : JobRef) (s : State) : Out := s.named j (fun ws => ws.any (sets 0x2800 5 1))
/-- KEYS_RESET (R331). -/
def execKeysReset (j : JobRef) (s : State) : Out := s.named j (fun ws => ws.any (sets 0x2C00 8 1))
/-- FORCE_RELEASE (R351). -/
def execForceRelease (j : JobRef) (lines : Nat) (s : State) : Out := s.named j (fun ws => ws.any (sets 0x3300 0x22 lines))
/-- REMEASURE (R350). -/
def execRemeasure (j : JobRef) (lines : Nat) (s : State) : Out := s.named j (fun ws => ws.any (sets 0x3300 0x23 lines))
/-- UPDATE_WINDOW_OPEN (R346). -/
def execUpdateWindowOpen (j : JobRef) (w chan start len expires : Nat) (s : State) : Out :=
  let at_ := 0x10 + 4 * w
  s.named j (fun ws => decide (w < 8) && ws.any (sets 0x3200 at_ chan) && ws.any (sets 0x3200 (at_ + 1) start) && ws.any (sets 0x3200 (at_ + 2) len) &&
    ws.any (sets 0x3200 (at_ + 3) expires))
/-- UPDATE_WINDOW_CLOSE (R346). -/
def execUpdateWindowClose (j : JobRef) (w : Nat) (s : State) : Out := s.named j (fun ws => decide (w < 8) && ws.any (sets 0x3200 (0x10 + 4 * w) 0xFF))
/-- A TRANSITION of an op with a value (R398). -/
def State.transition (s : State) (j : JobRef) (op : Nat) (value : Bytes) : Out :=
  s.named j (fun ws => transitionOf ws == some value && fieldAt value 0 1 == op)
/-- TRANSITION_RELEASE (R395, R398, R399). -/
def execTransitionRelease (j : JobRef) (value : Bytes) (s : State) : Out := s.transition j 1 value
/-- TRANSITION_RETURN (R395, R398, R399). -/
def execTransitionReturn (j : JobRef) (value : Bytes) (s : State) : Out := s.transition j 2 value
/-- TRANSITION_TERMINAL (R395, R398, R399). -/
def execTransitionTerminal (j : JobRef) (value : Bytes) (s : State) : Out := s.transition j 3 value
/-- TRANSITION_FIELD_SEAL (R395, R398, R399). -/
def execTransitionFieldSeal (j : JobRef) (value : Bytes) (s : State) : Out := s.transition j 4 value
/-- RESUME (R412, R422). -/
def execResume (j : JobRef) (s : State) : Out := s.named j (fun ws => ws.any (sets 0x4020 3 1))
/-- WARM_RESET (R444). -/
def execWarmReset (j : JobRef) (s : State) : Out := s.named j asksReset
/-- A value of FENCE_REQUEST. -/
def fences (cluster : Nat) (ok : Nat → Bool) (ws : List DWrite) : Bool :=
  decide (cluster < 16) && ws.any (fun w => w.idx == 0x2000 + cluster && w.sub == 6 && ok (beNat w.val))
/-- FENCE_REQUEST: the bits of `les` are 1 (R220). -/
def execFenceRequest (j : JobRef) (cluster les : Nat) (s : State) : Out :=
  s.named j (fences cluster (fun v => les != 0 && (List.range 4).all (fun i => !bitAt les i || bitAt v i)))
/-- FENCE_RELEASE: the bits of `les` are 0 (R220). -/
def execFenceRelease (j : JobRef) (cluster les : Nat) (s : State) : Out :=
  s.named j (fences cluster (fun v => les != 0 && (List.range 4).all (fun i => !bitAt les i || !bitAt v i)))

/-! ### The test access port (R402) -/

/-- The public key that a certificate of 0x2C01 must carry (R308, R309). -/
def State.certKey (s : State) (sub : Nat) : Bytes :=
  match sub with
  | 1 => s.idSigPk
  | 2 => prim 96 .eccKeygen [oct 2, s.companion]
  | 3 => s.idKemPk
  | 4 => prim 2592 .mlDsaKeygen [oct 3, s.derive "TRV-SIG" 32]
  | _ => prim 64 .slhDsaKeygen [s.derive "TRV-SLH" 96]
/-- A certificate is accepted once, with the key derived; the device CA's own is held to the first alone (log 59). -/
def State.certOk (s : State) (w : DWrite) : Bool :=
  !isCert w.idx || ((Map.find s.dtx.certs w.sub).isNone && (w.sub == 6 || Config.check .certificate [oct w.sub, w.val, s.certKey w.sub]))
/-- The result of a dictionary access through the test access port stands in its data register. -/
def State.tapResult (s : State) (b : Bytes) : State := { s with lc := { s.lc with dr := beNat b } }
/-- A refused access. -/
def State.tapRefuse (s : State) (e : Refused) : State := s.tapResult (failRecord s.dtx.epoch e.position e.value)
/-- The port's rights (R402). -/
def tapAsker : Asker := ⟨1, 0, false, true⟩
/-- DICT_TXN: held while a transaction is being journalled (R112, R402). -/
def execDictTxn (payload : Bytes) (s : State) : Out :=
  s.tap (fun s => (s.lifecycle == 3 || s.lifecycle == 1) && s.runs)
    (fun s =>
     let t := s.select 0x30 0
     if s.dtx.journal.isSome then .next s
     else match parseWrite payload with
       | none => .next (t.tapRefuse ⟨0x26, 0xFF, 0⟩)
       | some ws => match s.txnRefused tapAsker ws with
         | some e => .next (t.tapRefuse e)
         | none => match ws.findIdx? (fun w => !s.certOk w) with
           | some p => .next (t.tapRefuse ⟨0x72, p, 0⟩)
           | none => .next (t.beginTxn ⟨none, ws, none, payload⟩))
/-- DICT_READ (R402). -/
def execDictRead (payload : Bytes) (s : State) : Out :=
  s.tap (fun s => (s.lifecycle == 3 || s.lifecycle == 1) && s.runs)
    (fun s =>
     let t := s.select 0x31 0
     match parseRead payload with
     | none => .next (t.tapRefuse ⟨0x26, 0xFF, 0⟩)
     | some (e, items) => match s.readRefused tapAsker e items with
       | some r => .next (t.tapRefuse r)
       | none => .next ((t.tapResult (s.readResult e items)).readEffects items))

end Machine
end Sys2Proof
end

