-- ==== Sys2Proof/Machine/GroupLog.lean ====
section
/-! DEFINITION. The group log: what a committed entry does, how commits are found and learnt, how entries are merged and discarded, and following a
sequencer (17 R375-R377, R382, R385-R389). -/

namespace Sys2Proof
namespace Machine

/-! ### What a committed entry does (R376) -/

/-- The digest and octets of a GROUP_KUM's record. -/
def kumRecord (kek body : Bytes) : KeyRec := recordKey kek (body.drop 208)
/-- The record that a GROUP_KUM leaves on this member: attributes alone change under SET_ATTR, and the member that made a key knows its indices. -/
def State.kumLeaves (s : State) (body : Bytes) : KeyRec :=
  let k := kumRecord (s.grp.kek.getD []) body
  match kumOp body, Map.find s.keys.recs (recKey k.handle) with
  | 5, some old => withAttrs old (kumAttrs body)
  | _, _ => match s.provisional (kumTenant body) k.digest with
    | some p => { k with total := p.total, batch := p.batch }
    | none => k
/-- GROUP_KUM (R323, R376): the record, the group counter, and the provisional key of its tenant; new material starts at group limit 0. -/
def State.applyGroupKum (s : State) (body : Bytes) : State :=
  let k := s.kumLeaves body
  let op := kumOp body
  let counter := fieldAt body 56 8
  let digest := fieldAt body 160 48
  let made := (s.provisional (kumTenant body) (fieldAt body 68 48)).map (fun (p : KeyRec) => p.handle)
  let t := s.applyKum op k counter digest
  let t := if kumWrap body = 0 ∧ (op = 1 ∨ op = 3) then t.dropProvisional made else t
  let t := t.writePlace (recKey k.handle) ⟨k, op == 4, counter, reservedOf k, digest, 0, true, 0⟩
  { t with grp := { t.grp with limits := if op = 5 then t.grp.limits else Map.erase t.grp.limits k.handle } }
/-- RESERVE: the named member's next range is from G to G′, and G becomes G′ (R376, R377). -/
def State.applyReserve (s : State) (body : Bytes) : State :=
  let h := fieldAt body 0 4
  let g := s.groupLimit h
  let g' := fieldAt body 4 8
  let t := { s with grp := { s.grp with limits := Map.put s.grp.limits h g' } }
  if fieldAt body 12 1 ≠ s.me then t
  else
    let t := { t with keys := { t.keys with reserves := t.keys.reserves.filter (fun r => r.handle != h) } }
    match t.key h with
    | some k => t.setKey (({ k with ranges := k.ranges ++ [(g, g')] } : KeyRec).nextRange)
    | none => t
/-- SEALED: the group's counter and last payload are set; the transaction is applied where it is bound to the group or to this member (R376). -/
def State.applySealed (s : State) (body : Bytes) : State :=
  let c := fieldAt body 48 8
  let here := fieldAt body 0 48 == s.groupBinding || fieldAt body 0 48 == s.identity
  match (if here then parseWrite (sealedBody body) else none) with
  | some ws => s.applyTxn ⟨none, ws, some (c, sha3 body), sealedBody body⟩
  | none => (s.wr 0x1030 6 c).wr 0x1030 7 (sha3 body)
/-- What a SEALED transaction asks for after its answer: a life-cycle transition or a warm reset (R398, R444). -/
def State.afterSealed (s : State) (body : Bytes) : State :=
  match (if fieldAt body 0 48 == s.groupBinding || fieldAt body 0 48 == s.identity then parseWrite (sealedBody body) else none) with
  | none => s
  | some ws => match transitionOf ws with
    | some v => match s.transitionCheck v with
      | (t, .ok m) => t.startFuse m (sha3 v)
      | (t, .error _) => t
    | none => if asksReset ws then s.warmReset 2 else s
/-- The result of a group write: 60 octets for a KUM, a failure record at the new epoch for a SEALED_WRITE (R111, R323). -/
def State.writeResult (s : State) (w : OwnWrite) : Bytes :=
  if w.kind = 2 then slice w.body 212 4 ++ slice w.body 56 8 ++ slice w.body 160 48 else failRecord s.dtx.epoch 0xFF 0
/-- The completion of a write is sent once this member, its origin, has applied the entry (R386). -/
def State.endApplied (s : State) (e : GEntry) : State :=
  match s.grp.writes.find? (fun w => w.place == some (e.term, e.index)) with
  | none => s
  | some w =>
    let t := s.endWrite w 0 (s.writeResult w)
    match w.job with
    | some j => if e.kind = 4 then t.answerNow j else t
    | none => t
/-- Entries beyond the last 1,024 that have been applied are no longer held (R389). -/
def Group.trim (g : Group) : Group :=
  let keep := Nat.min g.applied (g.last.2 - 1024)
  if keep ≤ g.base then g
  else { g with base := keep, baseTerm := (g.termAt keep).getD g.baseTerm, log := g.log.filter (fun (e : GEntry) => decide (keep < e.index)) }
/-- One committed entry is applied, in index order (R385); nothing is while a reset is in force. -/
def State.applyEntry (s : State) (e : GEntry) : State :=
  if s.phase ≠ .up ∨ e.index ≤ s.grp.applied then s
  else
    let t := { s with grp := { s.grp with applied := e.index } }
    match e.kind with
    | 2 => (t.applyGroupKum e.body).endApplied e
    | 3 => (t.applyReserve e.body).endApplied e
    | 4 => ((t.applySealed e.body).endApplied e).afterSealed e.body
    | _ => t.endApplied e
/-- The commit index rises to `c`: entries are applied, and the requests they answer are served no longer. -/
def State.commitTo (s : State) (c : Nat) : State :=
  if c ≤ s.grp.commit then s
  else
    let t := { s with grp := { s.grp with commit := c, served := s.grp.served.filter (fun p => decide (c < p.2.2.2)) } }
    let t := (t.grp.log.filter (fun (e : GEntry) => decide (e.index ≤ c))).foldl (fun u e => u.applyEntry e) t
    { t with grp := t.grp.trim }

/-! ### Commitment on the sequencer (R375, R385) -/

/-- The members that hold entries up to an index: the sequencer, as far as it has stored them, and those that acknowledged it. -/
def State.holdersOf (s : State) (i : Nat) : List Nat :=
  (List.range s.memberCount).filter (fun m => if some m = s.myIndex then decide (i ≤ s.grp.lastStored.2) else decide (i ≤ (s.link m).stored))
/-- The value that a membership change leaves in an entry. -/
def State.newValue (s : State) (ws : List DWrite) (idx sub : Nat) : Nat :=
  match ws.find? (fun w => w.idx == idx && w.sub == sub) with
  | some w => beNat w.val
  | none => s.rd idx sub
/-- A membership change is acknowledged by a quorum of the new list (R375). -/
def State.newQuorum (s : State) (ws : List DWrite) (ms : List Nat) : Bool :=
  let ids := ms.map s.memberId
  let new := (List.range (s.newValue ws 0x4400 2)).map (fun i => (s.newValue ws (0x4410 + i) 1, s.newValue ws (0x4410 + i) 2))
  decide ((new.map (fun p => p.2)).sum < 2 * ((new.filter (fun p => ids.contains p.1)).map (fun p => p.2)).sum)
/-- An entry's own condition beside a quorum of the list in force: the new list's for a membership change. -/
def State.entryQuorum (s : State) (e : GEntry) : Bool :=
  e.kind != 4 || (match parseWrite (sealedBody e.body) with
    | some ws => !membership ws || s.newQuorum ws (s.holdersOf e.index)
    | none => true)
/-- The index that the sequencer may commit: that of an entry of its own term which a quorum holds; earlier entries commit with it (R385). -/
def State.commitFound (s : State) : Nat :=
  let open_ := s.grp.log.filter (fun (e : GEntry) => decide (s.grp.commit < e.index))
  let able := open_.takeWhile s.entryQuorum
  ((able.filter (fun (e : GEntry) => e.term == s.term && s.quorum (s.holdersOf e.index))).map (fun (e : GEntry) => e.index)).foldl Nat.max s.grp.commit
/-- A sequencer commits what it may; on this member the writes are applied at once. -/
def State.tryCommit (s : State) : State := if s.role = 3 then s.commitTo s.commitFound else s

/-! ### Merging entries (R385) -/

/-- Entries from an index on are discarded. -/
def Group.discardFrom (g : Group) (i : Nat) : Group :=
  { g with
    log := g.log.filter (fun (e : GEntry) => decide (e.index < i))
    buffer := g.buffer.filter (fun x => decide (x < i))
    undrained := g.undrained.filter (fun x => decide (x < i)) }
/-- Discards count one by one in DISCARDED, and as one group change (R385, R390). -/
def State.discardFrom (s : State) (i : Nat) : State :=
  let n := (s.grp.log.filter (fun (e : GEntry) => decide (i ≤ e.index))).length
  if n = 0 then s else (({ s with grp := s.grp.discardFrom i }).inc 0x4401 8 n).groupEvent 8
/-- One received entry: held already, or stored after the entries that conflict with it are discarded. -/
def State.mergeEntry (s : State) (e : GEntry) : State :=
  if e.index ≤ s.grp.commit ∨ e.index ≤ s.grp.base ∨ s.grp.termAt e.index = some e.term then s
  else
    let t := s.discardFrom e.index
    if e.index = t.grp.last.2 + 1 then { t with grp := t.grp.store e } else t
/-- Received entries, in order. -/
def State.mergeEntries (s : State) (es : List GEntry) : State := es.foldl (fun u e => u.mergeEntry e) s
/-- ACK to a member: the last entry stored, up to index `top`, below which the log agrees with the sequencer's. A member without its BBRAM counts towards no
commit (R385, R387). -/
def State.acknowledge (s : State) (dst top : Nat) : State :=
  let l := s.grp.lastStored
  let l := if l.2 ≤ top then l else ((s.grp.termAt top).getD 0, top)
  s.post (.ack dst s.term l.1 l.2 (!s.grp.amnesia))

/-! ### Following a sequencer (R382, R385, R387, R389) -/

/-- The sequencer that this member follows; a change to a member is counted (R390). -/
def State.setSequencer (s : State) (i : Nat) : State :=
  if s.sequencer = i then s else if i = 0xFF then s.wr 0x4401 4 i else (s.wr 0x4401 4 i).groupEvent 4
/-- Leave the role of sequencer or claimant. -/
def State.standDown (s : State) : State :=
  let t := if s.role = 3 then s.endUncommitted else s
  let t := if t.role = 2 ∨ t.role = 3 then t.wr 0x4401 1 1 else t
  { t with grp := { t.grp with grants := [], stepDown := false, stepAt := 0 } }
/-- Take a term from a claim or from a sequencer; BBRAM holds it (R383, R389). -/
def State.adoptTerm (s : State) (term : Nat) : State := if term ≤ s.term then s else s.standDown.wr 0x4401 3 term
/-- The index up to which the log is known to agree with the log of term `term` whose last entry is given: entries of that term come from its sequencer. -/
def Group.agreed (g : Group) (term lastTerm lastIndex : Nat) : Nat :=
  let own := (g.log.filter (fun (e : GEntry) => e.term == term)).foldl (fun n (e : GEntry) => Nat.max n e.index) g.commit
  if g.termAt lastIndex = some lastTerm then Nat.max own lastIndex else own
/-- A catching-up member that has applied what its sequencer had committed has caught up, and one without BBRAM takes part again (R387, R389). -/
def State.caughtUp (s : State) (c : Nat) : State :=
  if s.grp.applied < c then s
  else
    let t := { s with grp := { s.grp with amnesia := false, needFetch := false } }
    if t.role = 4 then t.wr 0x4401 1 1 else t
/-- FETCH from the commit index onwards (R389). -/
def State.askEntries (s : State) (i : Nat) : State := s.post (.fetch i (s.grp.commit + 1))
/-- A member without the group KEK receives it from the sequencer, over no PEER operation that the spec lays out; its group records are fetched again (R330,
R376; log 62). -/
def State.receiveKek (s : State) (i : Nat) : State :=
  if s.grp.kek.isSome then s
  else
    let t := { s.drawn with grp := { s.drawn.grp with kek := some (s.drawBytes 32) } }
    if s.grp.last = (0, 0) then t else t.post (.fetch i 0)
/-- A heartbeat of the quorate sequencer of this member's term, or of a higher one, which it then adopts (R385, R389). -/
def State.follow (s : State) (i : Nat) (b : HeartbeatBody) : State :=
  let higher := decide (s.term < b.term)
  let t := ((s.adoptTerm b.term).setSequencer i).receiveKek i
  let t := if t.role = 2 then t.standDown else t
  let t := if higher then t.wr 0x4401 1 4 else t
  let t := t.commitTo (Nat.min b.commit (t.grp.agreed b.term b.lastTerm b.lastIndex))
  let t := t.caughtUp b.commit
  if t.grp.applied < b.commit then t.askEntries i else t

end Machine
end Sys2Proof
end

