-- ==== Sys2Proof/Machine/Group.lean ====
section
/-! DEFINITION. The Tsusto group's commands: links, heartbeats, claims, the messages of the group log, and their timeouts (17 R379-R389, 02 R28). -/

namespace Sys2Proof
namespace Machine

/-! ### HELLO (R379, R380) -/

/-- The body of a HELLO before its signature; a REPLY carries the digest of the INIT (R380). -/
def helloBody (reply : Bool) (h : Hello) : Bytes :=
  oct h.version ++ oct h.sender ++ oct h.receiver ++ oct h.spare ++ beBytes 16 h.groupId ++ beBytes 48 h.config ++ beBytes 8 h.epoch ++
    (if reply then beBytes 48 h.initDigest else []) ++ h.share ++ h.kem ++ h.idKey
/-- What a HELLO's signature covers: header octets 4 to 15 and the body; it is message 1 of its direction (log 63). -/
def helloSigned (reply : Bool) (h : Hello) : Bytes := beBytes 4 (linkHandle h.sender h.receiver h.gen) ++ beBytes 8 1 ++ helloBody reply h
/-- The whole message. -/
def helloMessage (reply : Bool) (h : Hello) : Bytes := helloBody reply h ++ h.sig
/-- This member's HELLO to another, signed by ID-SIG (R380). -/
def State.hello (s : State) (dst gen initDigest : Nat) (share kem : Bytes) : Hello :=
  let h : Hello := { sender := s.me, receiver := dst, gen, version := 1, spare := 0, groupId := s.groupId, config := s.configDigest, epoch := s.trav.epoch,
                     initDigest, share, kem, idKey := s.idSigPk, sig := [] }
  { h with sig := s.idSign "ID-SIG" "NM72 PEER HELLO" (helloSigned (initDigest != 0) h) }
/-- A HELLO is refused (R380). Whether the other member's log is empty does not travel, so that case is a free choice (log 60). -/
def State.helloRefused (s : State) (reply : Bool) (h : Hello) : Bool :=
  h.groupId != s.groupId || sha3 h.idKey != s.memberId h.sender || h.version != 1 || h.spare != 0 ||
    !Config.check .mlDsaVerify [sigHead 3 0 0, h.idKey, ascii "NM72 PEER HELLO", helloSigned reply h, h.sig] ||
    (s.grp.last == (0, 0) && h.config != s.configDigest && s.draw % 2 == 1)
/-- The keys of a link (R380): octets 0-31 of K protect the direction from the lower index to the higher. -/
def linkKey (ssk ssx init reply : Bytes) : Bytes :=
  prim 64 .kmac256 [ssk ++ ssx, prim 48 .sha3_384 [init] ++ prim 48 .sha3_384 [reply], ascii "NM72 PEER LINK"]
/-- The next generation of a link. -/
def nextLinkGen (g : Nat) : Nat := g % 255 + 1
/-- HELLO_INIT to a higher-indexed member: its link is being made (R379, R380). -/
def State.sendHello (s : State) (i : Nat) : State :=
  let secret := s.drawBytes 32
  let t := s.drawn
  let gen := nextLinkGen (t.link i).gen
  let h := t.hello i gen 0 (prim 32 .x25519 [secret]) t.idKemPk
  let l := t.link i
  let l' := { linkInit with state := 1, gen := gen, heard := l.heard, init := helloMessage false h, secret := secret, peer := l.peer, port := l.port }
  (t.setLink i l').post (.helloInit i gen (helloMessage false h))
/-- A link that is up, with its keys and windows empty, to where its HELLO came from; what had arrived on the old one is gone. -/
def State.linkMade (s : State) (i gen txSeq : Nat) (k : Bytes) (m : PeerMsg) : State :=
  let lower := decide (s.me < i)
  let txKey := if lower then k.take 32 else k.drop 32
  let rxKey := if lower then k.drop 32 else k.take 32
  let t := s.setLink i { linkInit with state := 2, gen := gen, txSeq := txSeq, txKey := txKey, rxKey := rxKey, heard := time80 s.clk.datum, peer := m.peer, port := m.port }
  { t with
    parts := t.parts.filter (fun p => !(p.kind == 0x8 && p.handle / 2 ^ 16 % 256 == i))
    grp := { t.grp with inbox := t.grp.inbox.filter (fun x => x.sender != i) } }
/-- A receiver accepts an ANNOUNCE (R28, R29): its signature over the sequence and octets 0 to 127 verifies under an ID-SIG public key from a valid identity
certificate, the digest of that key is the identity it bears, and DEBUG_OPEN is clear. The NM72 is no test system. -/
def announceOk (m : AnnounceMsg) (key cert : Bytes) : Bool :=
  m.body.length == 4755 && Config.check .certificate [oct 1, cert, key] && sha3 key == fieldAt m.body 0 48 && !bitAt (fieldAt m.body 70 1) 0 &&
    Config.check .mlDsaVerify [sigHead 3 0 0, key, ascii "NM72 ANNOUNCE", beBytes 8 m.src.seq ++ m.body.take 128, m.body.drop 128]
/-- ANNOUNCE_RECEIVE: of an ANNOUNCE that has wholly arrived, with the key and identity certificate it is judged by (log 25). A member finds another of its
group, and the lower-indexed of the two sends HELLO_INIT to where the ANNOUNCE came from (R28, R29, R379, R380). -/
def execAnnounceReceive (src : AnnounceSrc) (body key cert : Bytes) (s : State) : Out :=
  let t := { s with grp := { s.grp with announced := s.grp.announced.filter (fun m => m != ⟨src, body⟩) } }
  if !s.runs ∨ !s.grp.announced.contains ⟨src, body⟩ then .next s
  else match s.myIndex, s.indexOf (fieldAt body 0 48) with
  | some m, some i =>
    when (s.linkUp src.port && fieldAt body 100 16 == s.groupId && announceOk ⟨src, body⟩ key cert && decide (m < i) && (s.link i).state != 2) t
      ((t.setLink i { t.link i with peer := src.peer, port := src.port }).sendHello i)
  | _, _ => .next t

/-! ### Messages that have arrived (R379) -/

/-- The message is of this link, number and operation, with a body that `ok` accepts. -/
def PeerMsg.fits (m : PeerMsg) (h : PeerHdr) (op : Nat) (ok : Bytes → Bool) : Bool :=
  m.sender == h.sender && m.receiver == h.receiver && m.gen == h.gen && m.seq == h.seq && m.opcode == op && ok m.body
/-- The message that a PEER command is about, where it has wholly arrived. -/
def State.peerMsg (s : State) (h : PeerHdr) (op : Nat) (ok : Bytes → Bool) : Option PeerMsg := s.grp.inbox.find? (fun m => m.fits h op ok)
/-- The message has been taken. -/
def State.takeMsg (s : State) (h : PeerHdr) (op : Nat) (ok : Bytes → Bool) : State :=
  { s with grp := { s.grp with inbox := s.grp.inbox.filter (fun m => !m.fits h op ok) } }
/-- A HELLO that has arrived, whatever its number. -/
def State.helloMsg (s : State) (reply : Bool) (h : Hello) : Option PeerMsg :=
  s.grp.inbox.find? (fun m => m.fits ⟨h.sender, h.receiver, h.gen, m.seq⟩ (if reply then 2 else 1) (fun b => b == helloMessage reply h))
/-- The HELLO has been taken. -/
def State.takeHello (s : State) (reply : Bool) (h : Hello) : State :=
  { s with grp := { s.grp with inbox := s.grp.inbox.filter (fun m =>
    !m.fits ⟨h.sender, h.receiver, h.gen, m.seq⟩ (if reply then 2 else 1) (fun b => b == helloMessage reply h)) } }
/-- HELLO_INIT: checked, and answered with HELLO_REPLY (R380). -/
def execHelloInit (h : Hello) (s : State) : Out :=
  match s.helloMsg false h with
  | none => .next s
  | some msg =>
    let s := s.takeHello false h
    if !s.runs ∨ s.myIndex ≠ some h.receiver ∨ h.receiver ≤ h.sender then .next s
    else if msg.seq ≠ 1 ∨ s.helloRefused false h then .next ((s.drawn).groupEvent 16)
    else
      let t := s.drawn
      let m := t.drawBytes 32
      let t := t.drawn
      let secret := t.drawBytes 32
      let t := t.drawn
      let e := encapsulate 1 3 h.kem m
      let r := t.hello h.sender h.gen (sha3 (helloMessage false h)) (prim 32 .x25519 [secret]) e.1
      let k := linkKey e.2 (prim 32 .x25519 [secret, h.share]) (helloMessage false h) (helloMessage true r)
      let t := (t.linkMade h.sender h.gen 0 k msg).post (.helloReply h.sender h.gen (helloMessage true r))
      .next t.reviewQuorum
/-- HELLO_REPLY: checked, and the link keys derived (R380). -/
def execHelloReply (h : Hello) (s : State) : Out :=
  match s.helloMsg true h with
  | none => .next s
  | some msg =>
    let s := s.takeHello true h
    let l := s.link h.sender
    if !s.runs ∨ s.myIndex ≠ some h.receiver ∨ h.sender ≤ h.receiver ∨ l.state ≠ 1 ∨ l.gen ≠ h.gen ∨ h.initDigest ≠ sha3 l.init then .next s
    else if msg.seq ≠ 1 ∨ s.helloRefused true h then .next ((s.drawn).groupEvent 16)
    else
      let k := linkKey (decapsulate 1 3 s.idKem h.kem) (prim 32 .x25519 [l.secret, h.share]) l.init (helloMessage true h)
      .next ((s.drawn).linkMade h.sender h.gen l.txSeq k msg).reviewQuorum

/-! ### Frames on a link (R379, R381) -/

/-- A message that R49 would not call a duplicate nor below the window. -/
def Link.isNew (l : Link) (seq : Nat) : Bool := seq != 0 && decide (l.high < seq + 1024) && !l.seen.contains seq
/-- An authenticated frame has come: the peer is reachable, and its frames go to where this one came from (R381; log 105). -/
def State.heardFrom (s : State) (i : Nat) (peer : Peer) (port : Nat) : State :=
  s.setLink i { s.link i with silent := 0, heard := time80 s.clk.datum, state := 2, peer, port }
/-- A message's number has been seen. -/
def Link.see (l : Link) (seq : Nat) : Link :=
  let high := Nat.max l.high seq
  { l with high, seen := (seq :: l.seen).filter (fun q => decide (high < q + 1024)) }
/-- A PEER command acts on a message that has wholly arrived on a link that still stands (R379). -/
def State.onLink (s : State) (h : PeerHdr) (op : Nat) (ok : Bytes → Bool) (k : State → State) : Out :=
  let l := s.link h.sender
  when (s.runs && s.myIndex == some h.receiver && (l.state == 2 || l.state == 3) && l.gen == h.gen && (s.peerMsg h op ok).isSome) s
    (k (s.takeMsg h op ok).reviewQuorum)
/-- The body of a HEARTBEAT reads as these fields; its datum and its spare bits are the sender's (*Field map: heartbeat body*). -/
def heartbeatReads (b : HeartbeatBody) (o : Bytes) : Bool :=
  o.length == 46 && fieldAt o 0 8 == b.term && fieldAt o 8 1 == b.sequencer && fieldAt o 9 1 % 16 == b.flags && fieldAt o 10 1 == b.reachable &&
    fieldAt o 12 8 == b.commit && fieldAt o 20 8 == b.lastTerm && fieldAt o 28 8 == b.lastIndex

/-! ### Sequencing (R383, R384) -/

/-- No quorate sequencer of this member's term is reachable, or its last heartbeat carried STEP_DOWN (R383). -/
def State.noLeader (s : State) : Bool :=
  !(List.range s.memberCount).any (fun i => s.leads i && !bitAt (s.link i).hbFlags 2) && !(s.role == 3 && s.quorate && !s.grp.stepDown)
/-- The lowest-indexed reachable member. -/
def State.lowest (s : State) : Option Nat := s.reachable.head?
/-- The group KEK is drawn from the tenant 0 DRBG, a free value where that cannot serve (R376; log 62). -/
def State.makeKek (s : State) : State :=
  if s.grp.kek.isSome then s
  else match s.drawFrom (tenantDrbg 0) 32 (drawInput 0 0) with
    | some (t, b) => { t with grp := { t.grp with kek := some b } }
    | none => { s.drawn with grp := { s.drawn.grp with kek := some (s.drawBytes 32) } }
/-- A claimant with a quorum of grants is sequencer, and appends TERM_START (R383). -/
def State.becomeSequencer (s : State) : State :=
  let t := ((s.wr 0x4401 1 3).setSequencer s.me).makeKek
  let t := { t with grp := { t.grp with grants := [], stepDown := false, stepAt := 0, served := [],
                                        links := Map.mapVals (fun (l : Link) => { l with stored := 0 }) t.grp.links } }
  let t := (t.appendEntry 1 t.me []).1
  t.reviewQuorum.tryCommit
/-- Enough grants. -/
def State.countGrants (s : State) : State := if s.quorum s.grp.grants then s.becomeSequencer else s
/-- Claim the next term; the claimant's own grant is in BBRAM first (R383). -/
def State.claimTerm (s : State) : State :=
  let term := s.term + 1
  let t := if s.role = 3 then s.endUncommitted else s
  let t := ((t.wr 0x4401 3 term).wr 0x4401 1 2).setSequencer 0xFF
  let t := { t with grp := { t.grp with grantedIn := term, grants := [t.me], stepDown := false, stepAt := 0 } }
  let t := t.peersUp.foldl (fun u i => u.post (.claim i term u.me u.grp.last.1 u.grp.last.2)) t
  t.reviewQuorum.countGrants
/-- A member may claim (R383, R387). -/
def State.mayClaim (s : State) : Bool :=
  s.role != 0 && s.lowest == s.myIndex && s.quorum s.reachable && s.noLeader && !s.grp.amnesia && !s.grp.needFetch
/-- A claimant whose log is behind fetches from the granter with the highest last entry (R383). -/
def State.fetchBehind (s : State) : State :=
  if !s.grp.needFetch then s
  else
    let best := s.peersUp.foldl (fun (b : Option Nat) i => match b with
      | some j => if atLeast ((s.link j).lastTerm, (s.link j).lastIndex) ((s.link i).lastTerm, (s.link i).lastIndex) then some j else some i
      | none => some i) none
    match best with
    | some i =>
      if atLeast s.grp.last ((s.link i).lastTerm, (s.link i).lastIndex) then { s with grp := { s.grp with needFetch := false } } else s.askEntries i
    | none => { s with grp := { s.grp with needFetch := false } }

/-! ### Heartbeats (R381, R382, R384, R385) -/

/-- The flags of this member's heartbeat (R381). -/
def State.beatFlags (s : State) : Nat :=
  (if s.role = 3 then 1 else 0) + (if s.quorate then 2 else 0) + (if s.role = 3 ∧ s.grp.stepDown then 4 else 0) + (if s.role = 4 then 8 else 0)
/-- This member's heartbeat body. -/
def State.beat (s : State) : HeartbeatBody :=
  { term := s.term, sequencer := s.sequencer, flags := s.beatFlags, reachable := maskOf s.reachable, commit := s.grp.commit, lastTerm := s.grp.last.1,
    lastIndex := s.grp.last.2 }
/-- Links that carry frames. -/
def State.linksUp (s : State) : List Nat :=
  (List.range s.memberCount).filter (fun i => some i != s.myIndex && ((s.link i).state == 2 || (s.link i).state == 3))
/-- A heartbeat on every link; that of a sequencer which steps down starts its millisecond (R384). -/
def State.sendBeats (s : State) : State :=
  let t := s.linksUp.foldl (fun u i => u.post (.heartbeat i u.beat)) s
  if t.role = 3 ∧ t.grp.stepDown ∧ t.grp.stepAt = 0 ∧ t.grp.served.length + t.grp.writes.length ≠ 0 then { t with grp := { t.grp with stepAt := t.clk.fab } } else t
/-- One more instant without a frame; at the third the peer is unreachable (R381). -/
def Link.quiet (l : Link) : Link :=
  if l.state ≠ 2 ∧ l.state ≠ 3 then l else { l with silent := l.silent + 1, state := if 3 ≤ l.silent + 1 then 3 else l.state }
/-- A link is renewed before its sequence reaches 2^47 (R379; log 64). -/
def Link.renewDue (l : Link) : Bool := l.state == 2 && decide (2 ^ 47 ≤ Nat.max l.txSeq l.high + 2 ^ 20)
/-- Links whose numbers run out are made again by their lower-indexed member. -/
def State.renewLinks (s : State) : State :=
  (List.range s.memberCount).foldl (fun u i => if u.me < i ∧ (u.link i).renewDue then u.sendHello i else u) s
/-- HEARTBEAT_INSTANT: every datum instant whose nanosecond field is a multiple of 1,000,000 (R141, R381, R383). -/
def execHeartbeatInstant (s : State) : Out :=
  let now := s.clk.datum / 1000000
  if !s.runs ∨ s.myIndex.isNone ∨ now ≤ s.grp.lastInstant then .next s
  else
    let t := { s with grp := { s.grp with lastInstant := now, links := Map.mapVals Link.quiet s.grp.links } }
    let t := t.reviewQuorum.fetchBehind
    let t := if t.mayClaim then t.claimTerm else t
    .next t.renewLinks.sendBeats
/-- A lower-indexed member that is quorate and holds the sequencer's commit index takes over (R384). -/
def State.yieldTo (s : State) (i : Nat) (b : HeartbeatBody) : State :=
  if s.role = 3 ∧ i < s.me ∧ bitAt b.flags 1 ∧ !bitAt b.flags 3 ∧ b.term = s.term ∧ s.grp.commit ≤ b.lastIndex then
    { s with grp := { s.grp with stepDown := true } }
  else s
/-- HEARTBEAT (R381, R382, R384, R385). -/
def execHeartbeat (h : PeerHdr) (b : HeartbeatBody) (s : State) : Out :=
  s.onLink h 0x10 (heartbeatReads b) (fun u =>
    let i := h.sender
    let u := u.setLink i { u.link i with commit := b.commit, lastTerm := b.lastTerm, lastIndex := b.lastIndex, hbTerm := b.term, hbFlags := b.flags }
    let u := if bitAt b.flags 0 && bitAt b.flags 1 && decide (u.term ≤ b.term) && !(u.role == 3 && u.term == b.term) then u.follow i b else u
    (u.yieldTo i b).reviewQuorum)

/-! ### CLAIM and GRANT (R383, R387) -/

/-- A claim that this member grants. -/
def State.grants (s : State) (term claimant lastTerm lastIndex : Nat) : Bool :=
  decide (s.term < term) && decide (s.grp.grantedIn < term) && atLeast (lastTerm, lastIndex) s.grp.last && s.lowest == some claimant && s.noLeader &&
    !s.grp.amnesia
/-- CLAIM: term and grant are written to BBRAM, then the GRANT is sent (R383). -/
def execClaim (h : PeerHdr) (term claimant lastTerm lastIndex : Nat) (s : State) : Out :=
  s.onLink h 0x13 (fun o => o == claimBody term claimant lastTerm lastIndex) (fun u =>
    if claimant = h.sender ∧ u.grants term claimant lastTerm lastIndex then
      let t := (u.adoptTerm term).setSequencer 0xFF
      let t := { t with grp := { t.grp with grantedIn := term } }
      (t.post (.grant h.sender term true t.grp.last.1 t.grp.last.2)).reviewQuorum
    else u.post (.grant h.sender term false u.grp.last.1 u.grp.last.2))
/-- GRANT: a claimant counts it, or learns that its log is behind (R383). -/
def execGrant (h : PeerHdr) (term : Nat) (granted : Bool) (lastTerm lastIndex : Nat) (s : State) : Out :=
  s.onLink h 0x14 (fun o => o == grantBody term granted lastTerm lastIndex) (fun u =>
    if u.role ≠ 2 ∨ u.term ≠ term then u
    else
      let t := u.setLink h.sender { u.link h.sender with lastTerm := lastTerm, lastIndex := lastIndex }
      if granted then
        { t with grp := { t.grp with grants := if t.grp.grants.contains h.sender then t.grp.grants else t.grp.grants ++ [h.sender] } }.countGrants
      else if !atLeast t.grp.last (lastTerm, lastIndex) then { t with grp := { t.grp with needFetch := true } }.fetchBehind
      else t)

/-! ### The log's messages (R385, R386, R389) -/

/-- APPEND: accepted with a term at least this member's and a prev that its log holds; stored and acknowledged (R385). -/
def execAppend (h : PeerHdr) (term prevTerm prevIndex commit : Nat) (entries : List GEntry) (s : State) : Out :=
  s.onLink h 0x11 (fun o => o == appendBody term prevTerm prevIndex commit entries) (fun u =>
    if term < u.term ∨ (term = u.term ∧ u.role = 3) then u.post (.ack h.sender u.term u.grp.lastStored.1 u.grp.lastStored.2 false)
    else
      let t := (u.adoptTerm term).setSequencer h.sender
      let t := if t.role = 2 then t.standDown else t
      if prevIndex < t.grp.base ∨ t.grp.termAt prevIndex = some prevTerm then
        let t := t.mergeEntries entries
        let top := entries.foldl (fun n (e : GEntry) => Nat.max n e.index) prevIndex
        (t.commitTo (Nat.min commit (Nat.min top t.grp.last.2))).acknowledge h.sender top
      else (t.post (.ack h.sender t.term t.grp.lastStored.1 t.grp.lastStored.2 false)).askEntries h.sender)
/-- ACK: the sequencer learns what a member has stored, and may commit (R385). -/
def execAck (h : PeerHdr) (term lastTerm lastIndex : Nat) (success : Bool) (s : State) : Out :=
  s.onLink h 0x12 (fun o => o == ackBody term lastTerm lastIndex success) (fun u =>
    if u.role ≠ 3 ∨ term ≠ u.term ∨ !success ∨ u.grp.termAt lastIndex ≠ some lastTerm then u
    else (u.setLink h.sender { u.link h.sender with stored := Nat.max (u.link h.sender).stored lastIndex }).tryCommit)
/-- FORWARD: the sequencer checks a group write against its log, appends it, and tells its place or its status (R377, R386; log 65). -/
def execForward (h : PeerHdr) (w : GWrite) (s : State) : Out :=
  s.onLink h 0x15 (fun o => o == forwardBody w) (fun u =>
    if u.role ≠ 3 ∨ u.grp.stepDown ∨ !u.quorate then u.post (.result h.sender w.tag 0 0 0x63)
    else
      let v := u.verdictOf w.kind w.body
      if v ≠ 0 then u.post (.result h.sender w.tag 0 0 v)
      else
        let r := u.appendEntry w.kind h.sender (u.ordered w.kind w.body)
        let t := { r.1 with grp := { r.1.grp with served := r.1.grp.served ++ [(h.sender, w.tag, r.2.1, r.2.2)] } }
        (t.post (.result h.sender w.tag r.2.1 r.2.2 0)).tryCommit)
/-- A write's place is known: its entry may have been applied already. -/
def State.placed (s : State) (w : OwnWrite) (term index : Nat) : State :=
  let t := { s with grp := { s.grp with writes := s.grp.writes.map (fun (x : OwnWrite) => if x.tag = w.tag then { x with place := some (term, index) } else x) } }
  if index ≤ t.grp.applied ∧ t.grp.termAt index = some term then t.endWrite w 0 (t.writeResult w) else t
/-- RESULT: the origin learns a write's place, or its end; a place once told may still end with QUORUM_LOST (R386; log 65). -/
def execResult (h : PeerHdr) (tag term index status : Nat) (s : State) : Out :=
  s.onLink h 0x16 (fun o => o == resultBody tag term index status) (fun u =>
    match u.grp.writes.find? (fun w => w.tag == tag) with
    | none => u
    | some w =>
      if status = 0 then u.placed w term index
      else u.endWrite w status (if status = 0x01 ∧ w.kind = 2 then (match Map.find u.keys.lastKum 65 with | some p => p.2 | none => []) else []))
/-- A snapshot of the group records, counters and limits as applied (R389). -/
def State.snapshot (s : State) : GSnapshot :=
  { term := (s.grp.termAt s.grp.applied).getD s.grp.baseTerm, index := s.grp.applied, counter := Map.getD s.keys.ctr 65 0, sealedCounter := s.rd 0x1030 6,
    lastSealed := s.rd 0x1030 7, authority := s.rd 0x4400 6, limits := s.grp.limits,
    records := (s.keys.recs.filter (fun p => decide (65536 ≤ p.1))).map (fun p =>
      recordOctets (s.grp.kek.getD []) p.2 (s.recordCounter p.1) (match currentPlace (s.places p.1) with | some q => q.kumDigest | none => 0)),
    part := 0, parts := 1 }
/-- PEER_FETCH: answered with entries, or with a snapshot and the entries after it where the index is no longer held (R389). -/
def execPeerFetch (h : PeerHdr) (index : Nat) (s : State) : Out :=
  s.onLink h 0x17 (fun o => o == peerFetchBody index) (fun u =>
    if index ≤ u.grp.base then
      (u.postSnapshot h.sender u.snapshot).postEntries h.sender (u.grp.log.filter (fun (e : GEntry) => decide (u.grp.applied < e.index)))
    else u.postEntries h.sender (u.grp.log.filter (fun (e : GEntry) => decide (index ≤ e.index))))
/-- A snapshot's record as this member holds it: what it was granted stays where it is the same key. -/
def State.snapRecord (s : State) (b : Bytes) : KeyRec :=
  let k := recordKey (s.grp.kek.getD []) b
  match Map.find s.keys.recs (recKey k.handle) with
  | some old => if old.handle = k.handle ∧ old.digest = k.digest then withAttrs old (slice b 88 40) else k
  | none => k
/-- A snapshot replaces the group records, counters and limits (R377, R389). -/
def State.takeSnapshot (s : State) (g : GSnapshot) : State :=
  if g.index < s.grp.applied then s
  else
    let ks := g.records.map (fun b => (s.snapRecord b, fieldAt b 8 8, fieldAt b 24 48, fieldAt b 16 8))
    let t := { s with keys := { s.keys with
      recs := ks.foldl (fun m (p : KeyRec × Nat × Nat × Nat) => Map.put m (recKey p.1.handle) p.1) (s.keys.recs.filter (fun p => decide (p.1 < 65536)))
      slots := s.keys.slots.filter (fun p => decide (p.1 < 65536))
      loaded := s.keys.loaded.filter (fun h => keyScope h != 2)
      ctr := Map.put s.keys.ctr 65 g.counter } }
    let t := ks.foldl (fun u (p : KeyRec × Nat × Nat × Nat) => u.writePlace (recKey p.1.handle) ⟨p.1, false, p.2.1, p.2.2.2, p.2.2.1, 0, true, 0⟩) t
    let t := { t with grp := { t.grp with log := [], base := g.index, baseTerm := g.term, commit := Nat.max t.grp.commit g.index, applied := g.index,
                                          buffer := [], undrained := [], limits := g.limits.foldl (fun m (p : Nat × Nat) => Map.put m p.1 p.2) [] } }
    ((t.wr 0x1030 6 g.sealedCounter).wr 0x1030 7 g.lastSealed).wr 0x4400 6 g.authority
/-- The parts of a snapshot, put together (R57). -/
def joinParts (g : GSnapshot) (ps : List GSnapshot) : GSnapshot :=
  let mine := (List.range g.parts).flatMap (fun i => (ps.find? (fun p => p.part == i)).toList)
  { g with limits := mine.flatMap (fun p => p.limits), records := mine.flatMap (fun p => p.records) }
/-- A snapshot is taken once all of its parts have come (R57, R389). -/
def State.takePart (s : State) (g : GSnapshot) : State :=
  let ps := s.grp.snap.filter (fun p => p.term == g.term && p.index == g.index && p.parts == g.parts && p.part != g.part) ++ [g]
  if g.parts ≤ 1 then s.takeSnapshot g
  else if ps.length < g.parts then { s with grp := { s.grp with snap := ps } }
  else ({ s with grp := { s.grp with snap := [] } }).takeSnapshot (joinParts g ps)
/-- ENTRIES: a snapshot and entries bring a member up to date; while parts of a snapshot are missing it still needs them (R383, R389). -/
def execEntries (h : PeerHdr) (entries : List GEntry) (snapshot : Option GSnapshot) (s : State) : Out :=
  s.onLink h 0x18 (fun o => o == entriesBody entries snapshot) (fun u =>
    let t := match snapshot with
      | some g => u.takePart g
      | none => u
    let t := { t.mergeEntries entries with grp := { (t.mergeEntries entries).grp with needFetch := t.grp.snap != [] } }
    let top := entries.foldl (fun n (e : GEntry) => Nat.max n e.index) t.grp.commit
    let c := (t.link h.sender).commit
    let t := t.commitTo (Nat.min c (Nat.min top t.grp.last.2))
    if t.sequencer = h.sender then (t.caughtUp c).acknowledge h.sender (Nat.min top t.grp.last.2) else t)

/-! ### Reads (R387) -/

/-- READ_INDEX: the quorate sequencer answers with its commit index. -/
def execReadIndex (h : PeerHdr) (tag : Nat) (s : State) : Out :=
  s.onLink h 0x19 (fun o => o == readIndexBody tag) (fun u => if u.role = 3 ∧ u.quorate then u.post (.readReply h.sender tag u.grp.commit) else u)
/-- READ_REPLY: the READ is answered once this member has applied up to the index. -/
def execReadReply (h : PeerHdr) (tag commit : Nat) (s : State) : Out :=
  s.onLink h 0x1A (fun o => o == readReplyBody tag commit) (fun u => { u with grp := { u.grp with reads := u.grp.reads.map (fun r => if r.1 = tag then (r.1, r.2.1, some commit) else r) } })

/-! ### Timeouts and the drain (R384-R386) -/

/-- STEP_DOWN_TIMEOUT: 1 ms after the heartbeat with STEP_DOWN, what is uncommitted ends (R384). -/
def execStepDownTimeout (s : State) : Out :=
  when (s.runs && s.role == 3 && s.grp.stepDown && s.grp.stepAt != 0 && decide (s.grp.stepAt + msFab ≤ s.clk.fab)) s
    { s with grp := { s.grp with stepAt := 0 } }.endUncommitted
/-- WRITE_TIMEOUT: a write not committed within WRITE_TIMEOUT ends with QUORUM_LOST (R386). -/
def execWriteTimeout (tag : Nat) (s : State) : Out :=
  match s.grp.writes.find? (fun w => w.tag == tag) with
  | none => .next s
  | some w => when (s.runs && decide (w.sentAt + s.rd 0x4400 3 * msFab ≤ s.clk.fab)) s (s.endWrite w 0x63 [])
/-- GROUP_BUFFER_DRAIN: the buffer's entries are programmed to the device flash, and entries that waited are stored (R385). -/
def execGroupBufferDrain (s : State) : Out :=
  if !s.runs ∨ s.grp.buffer = [] then .next s
  else
    let t := { s with grp := { s.grp with buffer := s.grp.undrained.take 8, undrained := s.grp.undrained.drop 8 } }
    if s.grp.undrained = [] then .next t
    else if t.role = 3 then .next t.tryCommit
    else if t.sequencer = 0xFF then .next t
    else .next (t.acknowledge t.sequencer (t.grp.agreed t.term 0 0))

end Machine
end Sys2Proof
end

