-- ==== Sys2Proof/Machine/Receive.lean ====
section
/-! DEFINITION. Opfel frames as the ports hand them over: to a channel, to a handshake, to a peer link; and messages whose segments stay away
(02 R23, R31, 03 R41-R45, R53-R56, 04 R79, 17 R379). -/

namespace Sys2Proof
namespace Machine

/-- A segment of a PEER message joins its message, which waits whole for its command; one that is refused is dropped, with no completion (R379). -/
def State.peerPart (s : State) (f : OpfelIn) (pl : Bytes) : State :=
  match ((s.findPart f.part).getD (newPartial s f)).join f pl with
  | .refused _ _ => s.dropPart f.part
  | .more p => s.putPart f.part p
  | .whole p =>
    let t := s.dropPart f.part
    { t with grp := { t.grp with inbox := t.grp.inbox ++ [⟨f.handle / 2 ^ 16 % 256, f.handle / 2 ^ 8 % 256, f.handle % 256, f.seq, f.opcode, p.body, f.peer, f.port⟩] } }

/-- A PEER frame: HELLO in the clear; any other needs a key in the link table and a tag that holds, else it is counted in DROP_AUTH; a message that R49 would
call a duplicate or below the window is dropped (R379, R380). -/
def State.peerFrame (s : State) (f : OpfelIn) : State :=
  let i := f.handle / 2 ^ 16 % 256
  let l := s.link i
  if f.isHello then (s.countRetry f).peerPart f f.inside
  else if f.handle / 2 ^ 24 ≠ 0xFE ∨ s.myIndex ≠ some (f.handle / 2 ^ 8 % 256) ∨ (l.state ≠ 2 ∧ l.state ≠ 3) ∨ l.gen ≠ f.handle % 256 then s.inc 0x1600 0x12 1
  else match f.opened l.rxKey 1 with
    | none => s.inc 0x1600 0x12 1
    | some pl =>
      let t := ((s.countRetry f).heardFrom i f.peer f.port).reviewQuorum
      if (t.findPart f.part).isSome then t.peerPart f pl
      else if !(t.link i).isNew f.seq then t
      else (t.setLink i ((t.link i).see f.seq)).peerPart f pl

/-- An ANNOUNCE frame: the message is reassembled under its source, port and sequence, and waits whole for ANNOUNCE_RECEIVE; one that is refused is dropped
(R28, R44, R53-R57, R65; log 25). -/
def State.announceFrame (s : State) (f : OpfelIn) : State :=
  match ((s.findPart f.part).getD (newPartial s f)).join f f.inside with
  | .refused _ _ => s.dropPart f.part
  | .more p => s.putPart f.part p
  | .whole p =>
    let t := s.dropPart f.part
    { t with grp := { t.grp with announced := t.grp.announced ++ [⟨⟨f.port, f.peer, f.seq⟩, p.body⟩] } }

/-- What an Opfel frame does, up to the handling of its kind (R43-R45, R64). -/
def State.receive (s : State) (f : OpfelIn) : State :=
  if f.badFormat then s.inc 0x1600 0x10 1
  else if f.badCarrier then s.inc 0x1600 0x11 1
  else if f.kind = 0x9 then (s.countRetry f).announceFrame f
  else if f.kind = 0xA then s.handshakeFrame f
  else if f.kind = 0x8 then s.peerFrame f
  else s.channelFrame f

/-- The frame is one that its port takes as Opfel: addressed to it, or an ANNOUNCE to every station (R23, R27, R31). -/
def State.taken (s : State) (f : OpfelIn) : Bool :=
  s.addressed f.port f.peer.encap f.dst f.dport || (f.kind == 0x9 && s.announced f.port f.peer.encap f.dst f.dport)

/-- OPFEL_FRAME (R41-R67). A frame that the receive filter stops is ETHERNET_FRAME_RECEIVE's to count (R23). -/
def execOpfelFrame (f : OpfelIn) (s : State) : Out := when (s.runs && s.linkUp f.port && s.taken f) s (s.receive f)

/-- CREDIT: a CREDIT frame from the host (R63). -/
def execCredit (f : OpfelIn) (s : State) : Out := when (s.runs && s.linkUp f.port && s.taken f && (f.kind == 0x6 || f.badFormat)) s (s.receive f)

/-- The reassembly timeout has run since a message's first segment came (R56). -/
def State.overdue (s : State) (firstAt : Nat) : Bool := decide (s.rd 0x1600 2 * 1000000 ≤ s.clk.datum - firstAt)
/-- REASSEMBLY_TIMEOUT: a message not complete within the timeout of its first segment is discarded and counted; its sequence is unseen again (R56, R379). -/
def execReassemblyTimeout (p : PartRef) (s : State) : Out :=
  match p with
  | .message j => match s.findJob j with
    | some x => when (s.runs && x.state == .reassembling && s.overdue x.firstAt) s ((s.unsee j).inc 0x1600 0x13 1)
    | none => .next s
  | r => match s.findPart r with
    | none => .next s
    | some x =>
      let i := x.handle / 2 ^ 16 % 256
      let t := (s.dropPart r).inc 0x1600 0x13 1
      when (s.runs && s.overdue x.firstAt) s
        (if x.kind = 0xA ∨ x.kind = 0x9 then t else t.setLink i { t.link i with seen := (t.link i).seen.filter (fun q => q != x.seq) })

end Machine
end Sys2Proof
end

