-- ==== Sys2Proof/Machine/Dispatch.lean ====
section
/-! DEFINITION. One arm per command: its meaning, or a refusal by name where the model has none. -/

namespace Sys2Proof
namespace Machine

def exec (i : Instr) (s : State) : Host.Outcome State Fault Refusal :=
  match i with
  | .linkDown port => Sys2Proof.Machine.execLinkDown port s
  | .linkUp port speed partnerFec conflicts => Sys2Proof.Machine.execLinkUp port speed partnerFec conflicts s
  | .failbackHoldExpiry port => Sys2Proof.Machine.execFailbackHoldExpiry port s
  | .portConfigChange port => Sys2Proof.Machine.execPortConfigChange port s
  | .ethernetFrameReceive port f => Sys2Proof.Machine.execEthernetFrameReceive port f s
  | .arpRequest port target => Sys2Proof.Machine.execArpRequest port target s
  | .neighbourSolicitation port target => Sys2Proof.Machine.execNeighbourSolicitation port target s
  | .echoRequest port v6 payload => Sys2Proof.Machine.execEchoRequest port v6 payload s
  | .announceIntervalExpiry port => Sys2Proof.Machine.execAnnounceIntervalExpiry port s
  | .announceSend port => Sys2Proof.Machine.execAnnounceSend port s
  | .announceReceive src body key cert => Sys2Proof.Machine.execAnnounceReceive src body key cert s
  | .ptpAnnounceMessage port m a => Sys2Proof.Machine.execPtpAnnounceMessage port m a s
  | .ptpSyncMessage k h masterId t1 => Sys2Proof.Machine.execPtpSyncMessage k h masterId t1 s
  | .ptpDelayRequestTimer k => Sys2Proof.Machine.execPtpDelayRequestTimer k s
  | .ptpDelayResponse k h r => Sys2Proof.Machine.execPtpDelayResponse k h r s
  | .announceReceiptTimeout port => Sys2Proof.Machine.execAnnounceReceiptTimeout port s
  | .holdoverLimitExpiry => Sys2Proof.Machine.execHoldoverLimitExpiry s
  | .refclkSdLost => Sys2Proof.Machine.execRefclkSdLost s
  | .refclkSdReturn => Sys2Proof.Machine.execRefclkSdReturn s
  | .opfelFrame f => Sys2Proof.Machine.execOpfelFrame f s
  | .reassemblyTimeout p => Sys2Proof.Machine.execReassemblyTimeout p s
  | .credit f => Sys2Proof.Machine.execCredit f s
  | .completionRelease j => Sys2Proof.Machine.execCompletionRelease j s
  | .handshakeRequest r => Sys2Proof.Machine.execHandshakeRequest r s
  | .handshakeReply tenant ident src => Sys2Proof.Machine.execHandshakeReply tenant ident src s
  | .pendingExpiry chan => Sys2Proof.Machine.execPendingExpiry chan s
  | .keepaliveExpiry chan => Sys2Proof.Machine.execKeepaliveExpiry chan s
  | .ping j => Sys2Proof.Machine.execPing j s
  | .close j => Sys2Proof.Machine.execClose j s
  | .closeDrained chan => Sys2Proof.Machine.execCloseDrained chan s
  | .closeNow j => Sys2Proof.Machine.execCloseNow j s
  | .retire j => Sys2Proof.Machine.execRetire j s
  | .subscribe j => Sys2Proof.Machine.execSubscribe j s
  | .tenantReset j => Sys2Proof.Machine.execTenantReset j s
  | .tenantStateWrite j tenant enabled => Sys2Proof.Machine.execTenantStateWrite j tenant enabled s
  | .enrol j => Sys2Proof.Machine.execEnrol j s
  | .setKeepalive j => Sys2Proof.Machine.execSetKeepalive j s
  | .read j => Sys2Proof.Machine.execRead j s
  | .write j => Sys2Proof.Machine.execWrite j s
  | .sealedWrite j => Sys2Proof.Machine.execSealedWrite j s
  | .describe j => Sys2Proof.Machine.execDescribe j s
  | .journalCommit programOk => Sys2Proof.Machine.execJournalCommit programOk s
  | .eventClear j idx sub count mask => Sys2Proof.Machine.execEventClear j idx sub count mask s
  | .jobDispatch j units => Sys2Proof.Machine.execJobDispatch j units s
  | .lapBoundary => Sys2Proof.Machine.execLapBoundary s
  | .lapLengthChange => Sys2Proof.Machine.execLapLengthChange s
  | .budgetExhausted tenant cls => Sys2Proof.Machine.execBudgetExhausted tenant cls s
  | .safePointReached unit => Sys2Proof.Machine.execSafePointReached unit s
  | .mlKemKeygen r => Sys2Proof.Machine.execMlKemKeygen r s
  | .mlKemKeygenFromSeed r => Sys2Proof.Machine.execMlKemKeygenFromSeed r s
  | .mlKemEncaps r => Sys2Proof.Machine.execMlKemEncaps r s
  | .mlKemDecaps r => Sys2Proof.Machine.execMlKemDecaps r s
  | .mlDsaKeygen r => Sys2Proof.Machine.execMlDsaKeygen r s
  | .mlDsaSign r => Sys2Proof.Machine.execMlDsaSign r s
  | .mlDsaVerify r => Sys2Proof.Machine.execMlDsaVerify r s
  | .mlDsaSignMu r => Sys2Proof.Machine.execMlDsaSignMu r s
  | .mlDsaVerifyMu r => Sys2Proof.Machine.execMlDsaVerifyMu r s
  | .mlDsaHashSign r => Sys2Proof.Machine.execMlDsaHashSign r s
  | .mlDsaHashVerify r => Sys2Proof.Machine.execMlDsaHashVerify r s
  | .slhDsaKeygen r => Sys2Proof.Machine.execSlhDsaKeygen r s
  | .slhDsaSign r => Sys2Proof.Machine.execSlhDsaSign r s
  | .slhDsaVerify r => Sys2Proof.Machine.execSlhDsaVerify r s
  | .slhDsaHashSign r => Sys2Proof.Machine.execSlhDsaHashSign r s
  | .slhDsaHashVerify r => Sys2Proof.Machine.execSlhDsaHashVerify r s
  | .fnDsaVerify r => Sys2Proof.Machine.execFnDsaVerify r s
  | .hqcKeygen r => Sys2Proof.Machine.execHqcKeygen r s
  | .hqcEncaps r => Sys2Proof.Machine.execHqcEncaps r s
  | .hqcDecaps r => Sys2Proof.Machine.execHqcDecaps r s
  | .mcelieceKeygen r => Sys2Proof.Machine.execMcelieceKeygen r s
  | .mcelieceEncaps r => Sys2Proof.Machine.execMcelieceEncaps r s
  | .mcelieceDecaps r => Sys2Proof.Machine.execMcelieceDecaps r s
  | .statefulKeygen r => Sys2Proof.Machine.execStatefulKeygen r s
  | .statefulSign r => Sys2Proof.Machine.execStatefulSign r s
  | .statefulVerify r => Sys2Proof.Machine.execStatefulVerify r s
  | .reservationCommit handle ok => Sys2Proof.Machine.execReservationCommit handle ok s
  | .eccKeygen r => Sys2Proof.Machine.execEccKeygen r s
  | .eccSign r => Sys2Proof.Machine.execEccSign r s
  | .eccVerify r => Sys2Proof.Machine.execEccVerify r s
  | .eccAgree r => Sys2Proof.Machine.execEccAgree r s
  | .eccHashSign r => Sys2Proof.Machine.execEccHashSign r s
  | .eccHashVerify r => Sys2Proof.Machine.execEccHashVerify r s
  | .rsaKeygen r => Sys2Proof.Machine.execRsaKeygen r s
  | .rsaSign r => Sys2Proof.Machine.execRsaSign r s
  | .rsaVerify r => Sys2Proof.Machine.execRsaVerify r s
  | .rsaDecrypt r => Sys2Proof.Machine.execRsaDecrypt r s
  | .rsaEncrypt r => Sys2Proof.Machine.execRsaEncrypt r s
  | .rsaHashSign r => Sys2Proof.Machine.execRsaHashSign r s
  | .rsaHashVerify r => Sys2Proof.Machine.execRsaHashVerify r s
  | .aeadEncrypt r => Sys2Proof.Machine.execAeadEncrypt r s
  | .aeadDecrypt r => Sys2Proof.Machine.execAeadDecrypt r s
  | .digest r => Sys2Proof.Machine.execDigest r s
  | .mac r => Sys2Proof.Machine.execMac r s
  | .macVerify r => Sys2Proof.Machine.execMacVerify r s
  | .extract r => Sys2Proof.Machine.execExtract r s
  | .expand r => Sys2Proof.Machine.execExpand r s
  | .extractExpand r => Sys2Proof.Machine.execExtractExpand r s
  | .randomOctets r => Sys2Proof.Machine.execRandomOctets r s
  | .genSymmetric r => Sys2Proof.Machine.execGenSymmetric r s
  | .importPublic r => Sys2Proof.Machine.execImportPublic r s
  | .exportPublic r => Sys2Proof.Machine.execExportPublic r s
  | .destroy r => Sys2Proof.Machine.execDestroy r s
  | .kumCreate r => Sys2Proof.Machine.execKumCreate r s
  | .kumImport r => Sys2Proof.Machine.execKumImport r s
  | .kumReplace r => Sys2Proof.Machine.execKumReplace r s
  | .kumDestroy r => Sys2Proof.Machine.execKumDestroy r s
  | .kumSetAttr r => Sys2Proof.Machine.execKumSetAttr r s
  | .kumCommit domain ok => Sys2Proof.Machine.execKumCommit domain ok s
  | .keyLoad handle => Sys2Proof.Machine.execKeyLoad handle s
  | .serverShare r => Sys2Proof.Machine.execServerShare r s
  | .clientShare r => Sys2Proof.Machine.execClientShare r s
  | .clientHandshake r => Sys2Proof.Machine.execClientHandshake r s
  | .handshakeSecrets r => Sys2Proof.Machine.execHandshakeSecrets r s
  | .appSecrets r => Sys2Proof.Machine.execAppSecrets r s
  | .resumption r => Sys2Proof.Machine.execResumption r s
  | .stamp r => Sys2Proof.Machine.execStamp r s
  | .quote r => Sys2Proof.Machine.execQuote r s
  | .compare r => Sys2Proof.Machine.execCompare r s
  | .streamMessage r => Sys2Proof.Machine.execStreamMessage r s
  | .ownerKernelJob j => Sys2Proof.Machine.execOwnerKernelJob j s
  | .ownerKernelCostLimit j => Sys2Proof.Machine.execOwnerKernelCostLimit j s
  | .fetch j => Sys2Proof.Machine.execFetch j s
  | .head j => Sys2Proof.Machine.execHead j s
  | .checkpoint j => Sys2Proof.Machine.execCheckpoint j s
  | .nop w => Sys2Proof.Machine.execNop w s
  | .add w => Sys2Proof.Machine.execAdd w s
  | .sub w => Sys2Proof.Machine.execSub w s
  | .addm w => Sys2Proof.Machine.execAddm w s
  | .subm w => Sys2Proof.Machine.execSubm w s
  | .redb w => Sys2Proof.Machine.execRedb w s
  | .mulm w => Sys2Proof.Machine.execMulm w s
  | .mulw w => Sys2Proof.Machine.execMulw w s
  | .dot w => Sys2Proof.Machine.execDot w s
  | .redw w => Sys2Proof.Machine.execRedw w s
  | .clmul w => Sys2Proof.Machine.execClmul w s
  | .basemul w => Sys2Proof.Machine.execBasemul w s
  | .ct18 w => Sys2Proof.Machine.execCt18 w s
  | .gs18 w => Sys2Proof.Machine.execGs18 w s
  | .ct36l w => Sys2Proof.Machine.execCt36l w s
  | .ct36u w => Sys2Proof.Machine.execCt36u w s
  | .ct36TopSum w => Sys2Proof.Machine.execCt36TopSum w s
  | .ct36TopDiff w => Sys2Proof.Machine.execCt36TopDiff w s
  | .gs36l w => Sys2Proof.Machine.execGs36l w s
  | .gs36u w => Sys2Proof.Machine.execGs36u w s
  | .gs36TopSum w => Sys2Proof.Machine.execGs36TopSum w s
  | .gs36TopDiff w => Sys2Proof.Machine.execGs36TopDiff w s
  | .and w => Sys2Proof.Machine.execAnd w s
  | .or w => Sys2Proof.Machine.execOr w s
  | .xor w => Sys2Proof.Machine.execXor w s
  | .andn w => Sys2Proof.Machine.execAndn w s
  | .shl w => Sys2Proof.Machine.execShl w s
  | .shr w => Sys2Proof.Machine.execShr w s
  | .rol64 w => Sys2Proof.Machine.execRol64 w s
  | .cmplt w => Sys2Proof.Machine.execCmplt w s
  | .cmpeq w => Sys2Proof.Machine.execCmpeq w s
  | .movm w => Sys2Proof.Machine.execMovm w s
  | .popc w => Sys2Proof.Machine.execPopc w s
  | .mfromv w => Sys2Proof.Machine.execMfromv w s
  | .andr w => Sys2Proof.Machine.execAndr w s
  | .orr w => Sys2Proof.Machine.execOrr w s
  | .perm w => Sys2Proof.Machine.execPerm w s
  | .unpackZ w => Sys2Proof.Machine.execUnpackZ w s
  | .unpackS w => Sys2Proof.Machine.execUnpackS w s
  | .pack w => Sys2Proof.Machine.execPack w s
  | .compress w => Sys2Proof.Machine.execCompress w s
  | .decompress w => Sys2Proof.Machine.execDecompress w s
  | .byteEncode w => Sys2Proof.Machine.execByteEncode w s
  | .byteDecode w => Sys2Proof.Machine.execByteDecode w s
  | .bitpack w => Sys2Proof.Machine.execBitpack w s
  | .bitunpack w => Sys2Proof.Machine.execBitunpack w s
  | .p2rHi w => Sys2Proof.Machine.execP2rHi w s
  | .p2rLo w => Sys2Proof.Machine.execP2rLo w s
  | .dec88Hi w => Sys2Proof.Machine.execDec88Hi w s
  | .dec88Lo w => Sys2Proof.Machine.execDec88Lo w s
  | .dec32Hi w => Sys2Proof.Machine.execDec32Hi w s
  | .dec32Lo w => Sys2Proof.Machine.execDec32Lo w s
  | .mkhint88 w => Sys2Proof.Machine.execMkhint88 w s
  | .mkhint32 w => Sys2Proof.Machine.execMkhint32 w s
  | .usehint88 w => Sys2Proof.Machine.execUsehint88 w s
  | .usehint32 w => Sys2Proof.Machine.execUsehint32 w s
  | .cbd2 w => Sys2Proof.Machine.execCbd2 w s
  | .cbd3 w => Sys2Proof.Machine.execCbd3 w s
  | .compact w => Sys2Proof.Machine.execCompact w s
  | .ctCompact w => Sys2Proof.Machine.execCtCompact w s
  | .secand w => Sys2Proof.Machine.execSecand w s
  | .secmulm w => Sys2Proof.Machine.execSecmulm w s
  | .a2b w => Sys2Proof.Machine.execA2b w s
  | .b2a w => Sys2Proof.Machine.execB2a w s
  | .declBit w => Sys2Proof.Machine.execDeclBit w s
  | .declBit2 w => Sys2Proof.Machine.execDeclBit2 w s
  | .declBit3 w => Sys2Proof.Machine.execDeclBit3 w s
  | .aadd w => Sys2Proof.Machine.execAadd w s
  | .asub w => Sys2Proof.Machine.execAsub w s
  | .aand w => Sys2Proof.Machine.execAand w s
  | .ashr w => Sys2Proof.Machine.execAshr w s
  | .aaddi w => Sys2Proof.Machine.execAaddi w s
  | .aldi w => Sys2Proof.Machine.execAldi w s
  | .asetw w => Sys2Proof.Machine.execAsetw w s
  | .afromv w => Sys2Proof.Machine.execAfromv w s
  | .abcast w => Sys2Proof.Machine.execAbcast w s
  | .mcount w => Sys2Proof.Machine.execMcount w s
  | .ldc w => Sys2Proof.Machine.execLdc w s
  | .stc w => Sys2Proof.Machine.execStc w s
  | .ldq w => Sys2Proof.Machine.execLdq w s
  | .lds w => Sys2Proof.Machine.execLds w s
  | .sts w => Sys2Proof.Machine.execSts w s
  | .release w => Sys2Proof.Machine.execRelease w s
  | .gather16C w => Sys2Proof.Machine.execGather16C w s
  | .scatter16C w => Sys2Proof.Machine.execScatter16C w s
  | .gather16S w => Sys2Proof.Machine.execGather16S w s
  | .scatter16S w => Sys2Proof.Machine.execScatter16S w s
  | .sopen w => Sys2Proof.Machine.execSopen w s
  | .sabsorb w => Sys2Proof.Machine.execSabsorb w s
  | .sfinal w => Sys2Proof.Machine.execSfinal w s
  | .ssqueeze w => Sys2Proof.Machine.execSsqueeze w s
  | .sclose w => Sys2Proof.Machine.execSclose w s
  | .maskDraw w => Sys2Proof.Machine.execMaskDraw w s
  | .drbgDraw w => Sys2Proof.Machine.execDrbgDraw w s
  | .keyFetch w => Sys2Proof.Machine.execKeyFetch w s
  | .keyBusDeliveryDone le => Sys2Proof.Machine.execKeyBusDeliveryDone le s
  | .mboxRead w => Sys2Proof.Machine.execMboxRead w s
  | .matrixReq w => Sys2Proof.Machine.execMatrixReq w s
  | .matrixAnswer le => Sys2Proof.Machine.execMatrixAnswer le s
  | .matrixDone w => Sys2Proof.Machine.execMatrixDone w s
  | .next w => Sys2Proof.Machine.execNext w s
  | .jump w => Sys2Proof.Machine.execJump w s
  | .brz w => Sys2Proof.Machine.execBrz w s
  | .brnz w => Sys2Proof.Machine.execBrnz w s
  | .call w => Sys2Proof.Machine.execCall w s
  | .ret w => Sys2Proof.Machine.execRet w s
  | .loop w => Sys2Proof.Machine.execLoop w s
  | .exit w => Sys2Proof.Machine.execExit w s
  | .waitWatchdog le => Sys2Proof.Machine.execWaitWatchdog le s
  | .entropyStallTimeout le => Sys2Proof.Machine.execEntropyStallTimeout le s
  | .maskGeneratorReseed le => Sys2Proof.Machine.execMaskGeneratorReseed le s
  | .csRepair cluster nano addr => Sys2Proof.Machine.execCsRepair cluster nano addr s
  | .floorRaise j floor => Sys2Proof.Machine.execFloorRaise j floor s
  | .install j => Sys2Proof.Machine.execInstall j s
  | .discard j => Sys2Proof.Machine.execDiscard j s
  | .remove j binding => Sys2Proof.Machine.execRemove j binding s
  | .kernelCommit ok => Sys2Proof.Machine.execKernelCommit ok s
  | .sourceWarmupDone src => Sys2Proof.Machine.execSourceWarmupDone src s
  | .sourceWindowEnd src samples => Sys2Proof.Machine.execSourceWindowEnd src samples s
  | .repetitionCountFail src => Sys2Proof.Machine.execRepetitionCountFail src s
  | .blockConditioned src => Sys2Proof.Machine.execBlockConditioned src s
  | .restart j src => Sys2Proof.Machine.execRestart j src s
  | .disable j src => Sys2Proof.Machine.execDisable j src s
  | .reseedAll j => Sys2Proof.Machine.execReseedAll j s
  | .rawSampleRead j => Sys2Proof.Machine.execRawSampleRead j s
  | .rawSampleRefill samples => Sys2Proof.Machine.execRawSampleRefill samples s
  | .drbgInstantiate drbg => Sys2Proof.Machine.execDrbgInstantiate drbg s
  | .drbgReseed drbg => Sys2Proof.Machine.execDrbgReseed drbg s
  | .entropyWaitTimeout j => Sys2Proof.Machine.execEntropyWaitTimeout j s
  | .keysReset j => Sys2Proof.Machine.execKeysReset j s
  | .presenceChange n level => Sys2Proof.Machine.execPresenceChange n level s
  | .gateStart n d => Sys2Proof.Machine.execGateStart n d s
  | .regionMeasured n r m => Sys2Proof.Machine.execRegionMeasured n r m s
  | .gateDecided n => Sys2Proof.Machine.execGateDecided n s
  | .lineRelease line => Sys2Proof.Machine.execLineRelease line s
  | .pwrgdInFall => Sys2Proof.Machine.execPwrgdInFall s
  | .forceRelease j lines => Sys2Proof.Machine.execForceRelease j lines s
  | .remeasure j lines => Sys2Proof.Machine.execRemeasure j lines s
  | .flashCommand n code addr => Sys2Proof.Machine.execFlashCommand n code addr s
  | .updateWindowOpen j w chan start len expires => Sys2Proof.Machine.execUpdateWindowOpen j w chan start len expires s
  | .updateWindowClose j w => Sys2Proof.Machine.execUpdateWindowClose j w s
  | .updateWindowExpiry w => Sys2Proof.Machine.execUpdateWindowExpiry w s
  | .slotArchived programOk => Sys2Proof.Machine.execSlotArchived programOk s
  | .checkpointSigned => Sys2Proof.Machine.execCheckpointSigned s
  | .ringWaitTimeout j => Sys2Proof.Machine.execRingWaitTimeout j s
  | .helloInit h => Sys2Proof.Machine.execHelloInit h s
  | .helloReply h => Sys2Proof.Machine.execHelloReply h s
  | .heartbeat h b => Sys2Proof.Machine.execHeartbeat h b s
  | .heartbeatInstant => Sys2Proof.Machine.execHeartbeatInstant s
  | .claim h term claimant lastTerm lastIndex => Sys2Proof.Machine.execClaim h term claimant lastTerm lastIndex s
  | .grant h term granted lastTerm lastIndex => Sys2Proof.Machine.execGrant h term granted lastTerm lastIndex s
  | .append h term prevTerm prevIndex commit entries => Sys2Proof.Machine.execAppend h term prevTerm prevIndex commit entries s
  | .ack h term lastTerm lastIndex success => Sys2Proof.Machine.execAck h term lastTerm lastIndex success s
  | .forward h w => Sys2Proof.Machine.execForward h w s
  | .result h tag term index status => Sys2Proof.Machine.execResult h tag term index status s
  | .peerFetch h index => Sys2Proof.Machine.execPeerFetch h index s
  | .entries h entries snapshot => Sys2Proof.Machine.execEntries h entries snapshot s
  | .readIndex h tag => Sys2Proof.Machine.execReadIndex h tag s
  | .readReply h tag commit => Sys2Proof.Machine.execReadReply h tag commit s
  | .stepDownTimeout => Sys2Proof.Machine.execStepDownTimeout s
  | .writeTimeout tag => Sys2Proof.Machine.execWriteTimeout tag s
  | .groupBufferDrain => Sys2Proof.Machine.execGroupBufferDrain s
  | .idcode => Sys2Proof.Machine.execIdcode s
  | .samplePreload => Sys2Proof.Machine.execSamplePreload s
  | .extest => Sys2Proof.Machine.execExtest s
  | .extestExit => Sys2Proof.Machine.execExtestExit s
  | .lcStatus => Sys2Proof.Machine.execLcStatus s
  | .lcCmdOpen spare token => Sys2Proof.Machine.execLcCmdOpen spare token s
  | .lcCmdLock spare token => Sys2Proof.Machine.execLcCmdLock spare token s
  | .lcCmdUnlock spare token => Sys2Proof.Machine.execLcCmdUnlock spare token s
  | .lcCmdPersonalize spare token => Sys2Proof.Machine.execLcCmdPersonalize spare token s
  | .lcCmdRma spare token => Sys2Proof.Machine.execLcCmdRma spare token s
  | .lcCmdTerminal spare token => Sys2Proof.Machine.execLcCmdTerminal spare token s
  | .transitionRelease j value => Sys2Proof.Machine.execTransitionRelease j value s
  | .transitionReturn j value => Sys2Proof.Machine.execTransitionReturn j value s
  | .transitionTerminal j value => Sys2Proof.Machine.execTransitionTerminal j value s
  | .transitionFieldSeal j value => Sys2Proof.Machine.execTransitionFieldSeal j value s
  | .fuseProgramDone => Sys2Proof.Machine.execFuseProgramDone s
  | .debugChallenge => Sys2Proof.Machine.execDebugChallenge s
  | .debugChallengeExpiry => Sys2Proof.Machine.execDebugChallengeExpiry s
  | .debugResponse digest pk sig => Sys2Proof.Machine.execDebugResponse digest pk sig s
  | .debugOpenComplete => Sys2Proof.Machine.execDebugOpenComplete s
  | .dictTxn payload => Sys2Proof.Machine.execDictTxn payload s
  | .dictRead payload => Sys2Proof.Machine.execDictRead payload s
  | .memAccess write memory addr word => Sys2Proof.Machine.execMemAccess write memory addr word s
  | .bypass => Sys2Proof.Machine.execBypass s
  | .tamperAlarm src => Sys2Proof.Machine.execTamperAlarm src s
  | .batterySample seen => Sys2Proof.Machine.execBatterySample seen s
  | .tamperHoldSample => Sys2Proof.Machine.execTamperHoldSample s
  | .resume j => Sys2Proof.Machine.execResume j s
  | .aonChangeover toBattery => Sys2Proof.Machine.execAonChangeover toBattery s
  | .refclkLost => Sys2Proof.Machine.execRefclkLost s
  | .refclkRestored => Sys2Proof.Machine.execRefclkRestored s
  | .crystalLost => Sys2Proof.Machine.execCrystalLost s
  | .crystalRestored => Sys2Proof.Machine.execCrystalRestored s
  | .gateAbort unit => Sys2Proof.Machine.execGateAbort unit s
  | .clusterWake cluster => Sys2Proof.Machine.execClusterWake cluster s
  | .sscApply => Sys2Proof.Machine.execSscApply s
  | .coldReset => Sys2Proof.Machine.execColdReset s
  | .coldStart banks33 bankBad compat => Sys2Proof.Machine.execColdStart banks33 bankBad compat s
  | .sysrstNAssert => Sys2Proof.Machine.execSysrstNAssert s
  | .warmReset j => Sys2Proof.Machine.execWarmReset j s
  | .warmStart => Sys2Proof.Machine.execWarmStart s
  | .fenceRequest j cluster les => Sys2Proof.Machine.execFenceRequest j cluster les s
  | .fenceRelease j cluster les => Sys2Proof.Machine.execFenceRelease j cluster les s
  | .hardwareFault f => Sys2Proof.Machine.execHardwareFault f s
  | .aesFenceTimeout unit => Sys2Proof.Machine.execAesFenceTimeout unit s
  | .wordLost bank w => Sys2Proof.Machine.execWordLost bank w s
  | .bankCopyDone bank lost => Sys2Proof.Machine.execBankCopyDone bank lost s
  | .alwaysOnReset => Sys2Proof.Machine.execAlwaysOnReset s
  | .tamperSourceClear src => Sys2Proof.Machine.execTamperSourceClear src s

end Machine
end Sys2Proof
end

