-- ==== Sys2Proof/Machine/Tick.lean ====
section
/-! DEFINITION. What passes with time on an empty queue: one tick of the datum counter (02 R35, R38; log 1). -/

namespace Sys2Proof
namespace Machine

/-- The period of the always-on clock's resolution in ns (R38). -/
def aonPeriod : Nat := 30500

/-- The datum counter after one tick of 3.2 ns: it adds its increment, held in units of 2^-32 ns (R35); while REFCLK_SD is
absent the always-on clock carries it forward in steps of 30.5 µs (R38). The real-time clock runs beside it. -/
def tickClocks (c : Clocks) : Clocks :=
  let acc := c.aonFrac + 32
  let aonStep := if aonPeriod * 10 ≤ acc then aonPeriod else 0
  let frac := c.frac + c.incr
  let adv := if c.sd then frac / 2 ^ 32 else aonStep
  { c with
    frac := if c.sd then frac % 2 ^ 32 else c.frac
    datum := c.datum + adv
    maxDatum := Nat.max c.maxDatum (c.datum + adv)
    aonFrac := if aonPeriod * 10 ≤ acc then acc - aonPeriod * 10 else acc
    rtc := c.rtc + aonStep
    fab := if c.gated then c.fab else c.fab + 4 }

/-- The octets that the core of a stream's function (R267) takes from its input buffer, or adds to its output buffer, in four ENG cycles, by its throughput
(*Hash core throughput*). -/
def streamRate (fn : Nat) : Nat := [28, 22, 22, 17, 12, 8, 12, 12, 28, 22].getD fn 8
/-- A hash stream after four cycles: its core absorbs from the input buffer and, the last octet absorbed, fills the output buffer of two registers (R211;
log 111). -/
def tickStream (h : HStream) : HStream :=
  if h.inBuf ≠ 0 then { h with inBuf := h.inBuf - streamRate h.fn }
  else if h.finalised then { h with outBuf := Nat.min 288 (h.outBuf + streamRate h.fn) } else h
/-- A lattice engine that runs a job, after four ENG cycles: its mask generator has delivered up to two registers into its buffer of four and
not past its reseed point (R209), its hash streams have gone on (R211), and a wait has lasted four cycles longer (R231). -/
def tickLe (l : Le) : Le :=
  if l.job = none then l
  else
    let add := if l.maskStopped then 0 else Nat.min (Nat.min 2 (4 - l.maskBuf)) (65536 - l.maskCount)
    { l with
      maskBuf := l.maskBuf + add
      maskCount := l.maskCount + add
      streams := Map.mapVals tickStream l.streams
      waited := if l.waiting = none then l.waited else l.waited + 4 }

/-- A 32-bit value as a signed number. -/
def signed32 (v : Nat) : Int := if v < 2 ^ 31 then v else (v : Int) - 2 ^ 32
/-- The sensors report once a millisecond: DIE_TEMP and CORE_POWER are what they measure, free values; DIE_TEMP_MAX the highest DIE_TEMP since cold reset
(*Supplies and sensors*; log 6). -/
def State.sample (s : State) : State :=
  let temp := Config.free s.free % 2 ^ 32
  let top := s.rd 0x1202 4
  let t := { s with free := s.free + 2 }
  ((t.wr 0x1202 3 temp).wr 0x1202 4 (if signed32 top < signed32 temp then temp else top)).wr 0x1202 5 (Config.free (s.free + 1) % 2 ^ 32)
/-- The sensors report with this tick: a millisecond of FAB time ends. -/
def State.samples (s : State) (c : Clocks) : Bool := s.clk.fab / msFab != c.fab / msFab

/-- PWRGD_IN once low may be high again: the table has no row for its rise, so a free value says when (R349; log 45). -/
def State.powerGood (s : State) : State :=
  if s.pins.pwrgd then s else { s with free := s.free + 1, pins := { s.pins with pwrgd := Config.free s.free % 2 == 1 } }

/-- One tick of 3.2 ns: the clocks advance, and four FAB and ENG cycles pass (R423). In a warm reset the datum goes on (R38); in a cold one the real-time
clock alone does, from which COLD_START loads the datum. An image that INSTALL has begun to verify has been verified by then (R244; log 128). -/
def tick (s : State) : State :=
  let c := tickClocks s.clk
  if s.phase = .down then { s with clk := if s.rd 0x1201 1 = 0 then { s.clk with rtc := c.rtc, aonFrac := c.aonFrac } else { c with fab := s.clk.fab } }
  else if s.clk.gated then { s with clk := c }
  else
    let t := { s with clk := c, les := Map.mapVals tickLe s.les }.verified
    (if s.samples c then t.sample else t).powerGood

end Machine
end Sys2Proof
end

