-- ==== Sys2Proof/Safety.lean ====
section
/-! DEFINITION. What counts as a safe run, in the terms the claims use: outcomes, when a command runs, and what it may leave changed. -/

namespace Sys2Proof
namespace Machine

/-- The outcome is a next state: neither a fault nor a refusal. -/
def Goes (o : Out) : Prop := ∃ t, o = .next t

/-- The outcome is a next state that satisfies `P`. -/
def GoesTo (o : Out) (P : State → Prop) : Prop := ∃ t, o = .next t ∧ P t

/-! ### Microwords of a lattice engine -/

/-- A microword whose operation requires the wait `need` issues: its engine runs a job, has its clock and is at no word that waits to be
rewritten, no event waits at a safe point, and the
condition of its wait holds (R222, R230, R232, R268). -/
def Issues (s : State) (w : Mw) (need : Option Nat) : Prop :=
  (s.le w.le).job ≠ none ∧ s.clk.gated = false ∧ s.wordBad w.le = false ∧ (w.safePoint = true → (s.engine w.le).latched = []) ∧ w.wait.toNat < 7 ∧
    (need = none ∨ need = some w.wait.toNat) ∧ waitHolds (s.le w.le) true w.wait.toNat = true

/-- A microword's engine once it has issued. -/
def issuedLe (s : State) (w : Mw) : Le := (s.le w.le).issued w.secret

/-- Nothing differs but one lattice engine. -/
def OnlyLe (s t : State) (e : Nat) : Prop := t = { s with les := t.les } ∧ ∀ x, x ≠ e → t.le x = s.le x

/-- The value and the secrecy of the span-`n` group that a field names (R197, R204). -/
def groupIn (s : State) (w : Mw) (f : BitVec 5) (n : Nat) : Nat := (s.le w.le).groupVal (groupBase f n) n
def secIn (s : State) (w : Mw) (f : BitVec 5) (n : Nat) : Bool := (s.le w.le).groupSec (groupBase f n) n
/-- Lane `i` of width `g` of that group. -/
def laneIn (s : State) (w : Mw) (f : BitVec 5) (n g i : Nat) : Nat := laneAt g (groupIn s w f n) i
/-- The A register that a field names. -/
def aIn (s : State) (w : Mw) (f : BitVec 5) : Tagged := (s.le w.le).areg (aIdx f)
/-- The descriptor that a microword's nanoword names. -/
def descIn (s : State) (w : Mw) : Descriptor := (s.le w.le).desc w.q

/-- The engine of a microword has issued it, and of its registers only the `n` V registers from the destination on differ. -/
def OnlyGroup (s t : State) (w : Mw) (n : Nat) : Prop :=
  OnlyLe s t w.le ∧
    t.le w.le = { issuedLe s w with regs := { (issuedLe s w).regs with v := (t.le w.le).regs.v } } ∧
    ∀ r, (r < groupBase w.dest n ∨ groupBase w.dest n + n ≤ r) → (t.le w.le).vreg r = (s.le w.le).vreg r

/-- A pass has written lanes of width `g` into the span-`n` destination group, every word tagged `sec` (R204), and nothing else. -/
def PassTo (s t : State) (w : Mw) (n g : Nat) (sec : Bool) (lane : Nat → Nat) : Prop :=
  OnlyGroup s t w n ∧
    (∀ r, r < n → ((t.le w.le).vreg (groupBase w.dest n + r)).tags = tagsOf sec) ∧
    ∀ i, i < laneCount g n → laneAt g ((t.le w.le).groupVal (groupBase w.dest n) n) i = lane i

/-- A pass goes to a state in which each lane is what `lane` gives. -/
def Passes (o : Out) (s : State) (w : Mw) (n g : Nat) (sec : Bool) (lane : Nat → Nat) : Prop :=
  GoesTo o (fun t => PassTo s t w n g sec lane)

/-- A pass goes to a state in which each lane is as `P` says of it. -/
def PassesWhere (o : Out) (s : State) (w : Mw) (n g : Nat) (sec : Bool) (P : Nat → Nat → Prop) : Prop :=
  ∃ lane : Nat → Nat, Passes o s w n g sec lane ∧ ∀ i, i < laneCount g n → P i (lane i)

/-- The microword has written one A register, and nothing else. -/
def ATo (s t : State) (w : Mw) (v : Nat) (sec : Bool) : Prop :=
  OnlyLe s t w.le ∧
    t.le w.le = { issuedLe s w with regs := { (issuedLe s w).regs with a := (t.le w.le).regs.a } } ∧
    (∀ r, r ≠ aIdx w.dest → (t.le w.le).areg r = (s.le w.le).areg r) ∧
    (t.le w.le).areg (aIdx w.dest) = ⟨v, sec⟩

/-! ### Jobs -/

/-- No channel is being closed abortively and no tenant is being reset, so nothing waits for a job to stop (R89, R99). -/
def Calm (s : State) : Prop := (∀ p ∈ s.chans, p.2.state ≠ .closing) ∧ ∀ p ∈ s.tenants, p.2.resetting = false

/-- A message's job has ended: status, detail, result and the key handle its completion carries (R13, R50, R52). -/
def JobDone (t : State) (r : JobRef) (status detail : Nat) (out : Bytes) (key : Nat) : Prop :=
  ∃ j, t.findJob r = some j ∧ j.state = .done ∧ j.status = status ∧ j.detail = detail ∧ j.result = out ∧ j.resKey = key ∧ j.units = []

/-- The detail that a job's status carries where its row names no other (R68, R78). -/
def detailOf (status : Nat) : Nat := if status = 0x51 then 0xFF else if status = 0x10 then 2 else 0

/-- A JOB message of an opcode runs: dispatched, on the library kernel, with its engines' clocks running, neither a tenant reset nor an abortive close
latched for it, mask data for the LEs of a masked one, and no KUM of it past its commit mark (R134, R210, R232, R242, R324, R427). -/
def JobRuns (s : State) (r : JobRef) (j : Job) : Prop :=
  s.findJob r = some j ∧ j.state = .running ∧ j.kind = 0x1 ∧ j.kernel = none ∧ s.clk.gated = false ∧ s.latchedOn j 1 = false ∧
    s.latchedOn j 2 = false ∧ s.coreless j = false ∧ s.maskDry j = false ∧ s.marked r = false ∧ Calm s

/-- What the end of a job leaves as it was: every part of the block that no job acts on (R13), and every other message's job. -/
def JobFrame (s t : State) (r : JobRef) : Prop :=
  (t.pending = s.pending ∧ t.phase = s.phase ∧ t.clk = s.clk ∧ t.pins = s.pins ∧ t.ports = s.ports ∧ t.ptp = s.ptp ∧ t.gens = s.gens ∧
    t.freed = s.freed ∧ t.hs = s.hs ∧ t.order = s.order ∧ t.lap = s.lap ∧ t.kern = s.kern ∧ t.stampSeq = s.stampSeq ∧ t.flash = s.flash ∧
    t.gate = s.gate ∧ t.trav = s.trav ∧ t.grp = s.grp ∧ t.lc = s.lc ∧ t.tamp = s.tamp ∧ t.flt = s.flt) ∧
  ∀ x, x ≠ r → t.findJob x = s.findJob x

/-- A job ends so, and nothing else of the block changes than what the end of a job touches. -/
def Ends (o : Out) (s : State) (j : Job) (status : Nat) (out : Bytes) : Prop :=
  GoesTo o (fun t => JobDone t j.ref status (detailOf status) out j.key ∧ JobFrame s t j.ref)

/-- A job ends with OK, a result, and a new volatile key of which `P` holds, whose handle its completion carries (R52, R150). -/
def EndsWithKey (o : Out) (s : State) (j : Job) (out : KeyRec → Bytes) (P : KeyRec → Prop) : Prop :=
  GoesTo o (fun t => ∃ i k, Map.find t.keys.vol i = some k ∧ Map.find s.keys.vol i = none ∧ P k ∧
    JobDone t j.ref 0 0 (out k) k.handle ∧ JobFrame s t j.ref)

/-- The tenant's DRBG can make `n` generate calls (R298, R299). -/
def DrbgReady (s : State) (t n : Nat) : Prop := (s.drbg (tenantDrbg t)).state = 1 ∧ (s.drbg (tenantDrbg t)).calls + n < 2 ^ 20

/-- The octets of a job's draw of at most 65,536 octets (R297, R300). -/
def drawnBy (s : State) (j : Job) (n : Nat) : Bytes := drbgOutput (s.drbg (tenantDrbg j.tenant)) n (drawInput (s.handleFor j.ref) j.seq)

/-- There is room for a volatile key of this material: a slot, the tenant's quota, and the material region (R10, R327, R329). -/
def KeyRoom (s : State) (j : Job) (words : Nat) : Prop :=
  Map.wf s.keys.vol = true ∧ firstFree s.keys.vol 0 < 65536 ∧ (j.reservesKey || decide (s.volatileInUse j.tenant < s.rd (0x2C40 + j.tenant) 1)) = true ∧
    s.materialFits (if j.reservesKey then 0 else words) 0 0 = true

/-- What neither channels nor jobs act on: clocks, pins, ports, the lap, kernels, flash, the gate, the traverse, the group, the life cycle, the tamper
controller and the queue of commands. -/
def FarSame (s t : State) : Prop :=
  t.pending = s.pending ∧ t.phase = s.phase ∧ t.clk = s.clk ∧ t.pins = s.pins ∧ t.ports = s.ports ∧ t.ptp = s.ptp ∧ t.lap = s.lap ∧ t.kern = s.kern ∧
    t.stampSeq = s.stampSeq ∧ t.flash = s.flash ∧ t.gate = s.gate ∧ t.trav = s.trav ∧ t.grp = s.grp ∧ t.lc = s.lc ∧ t.tamp = s.tamp

/-- The channel in a slot has gone: its messages and streams with it, and its slot's generation has risen (R77, R90). -/
def ChannelGone (s t : State) (slot : Nat) (c : Channel) : Prop :=
  Map.find t.chans slot = none ∧ (∀ j ∈ t.jobs, j.chan ≠ slot) ∧ (∀ p ∈ t.dstreams, p.1 / 16 ≠ slot) ∧
    Map.find t.gens slot = some (nextChanGen c.gen) ∧ t.freed = s.freed ++ [slot]

/-- A channel closes abortively: it has gone where none of its jobs runs, and otherwise waits for those to stop (R89). -/
def Aborts (o : Out) (s : State) (slot : Nat) (c : Channel) : Prop :=
  GoesTo o (fun t => FarSame s t ∧
    ((∀ j ∈ s.jobs, j.chan = slot → j.running = false) → ChannelGone s t slot c) ∧
    ((∃ j ∈ s.jobs, j.chan = slot ∧ j.running = true) → ∃ c', Map.find t.chans slot = some c' ∧ c'.state = .closing ∧
      ∀ j ∈ t.jobs, j.chan = slot → j.live = true → j.running = true))

/-- One HANDSHAKE frame has gone out for the request of an identifier: it opens nothing and carries a status (R79, R81, R82). -/
def HandshakeRefused (s t : State) (port : Nat) (peer : Peer) (ident status : Nat) : Prop :=
  ∃ w hdr, t.tx = s.tx ++ [w] ∧ w.frame = .opfel port port peer hdr [] none ∧ fieldAt hdr 8 8 = ident % 2 ^ 64 ∧ fieldAt hdr 18 1 = status % 256 ∧
    fieldAt hdr 4 4 = 0

/-! ### Dictionary transactions -/

/-- A WRITE that is served now: its turn has come, and its checks pass (R108, R110, R112). -/
def TxnRuns (s : State) (r : JobRef) (x : Job) (c : Channel) (ws : List DWrite) : Prop :=
  s.dictJob r 2 = some (x, c) ∧ s.myTurn x = true ∧ parseWrite x.payload = some ws ∧ s.txnRefused ⟨c.role, c.tenant, false, false⟩ ws = none ∧
    Map.wf s.dict = true ∧ Calm s

/-- A transaction has been applied at the next epoch and answered with OK (R107, R111, R112). -/
def TxnDone (s t : State) (r : JobRef) (x : Job) : Prop :=
  t.dtx.epoch = s.dtx.epoch + 1 ∧ JobDone t r 0 0 (failRecord (s.dtx.epoch + 1) 0xFF 0) x.key

/-- A DICT message has been refused at a position: DICT_REFUSED carries the position in its detail (R111). -/
def DictRefused (s t : State) (r : JobRef) (x : Job) (e : Refused) : Prop :=
  JobDone t r e.status (if e.status = 0x72 then e.position else 0) (failRecord s.dtx.epoch e.position e.value) x.key ∧ t.dict = s.dict ∧
    t.dtx = s.dtx

/-- A transaction is in the journal, and nothing of it has been applied (R113). -/
def Journalled (s t : State) (g : Journal) : Prop := t.dtx = { s.dtx with journal := some g } ∧ t.dict = s.dict

/-- What a SEALED_WRITE of a device that is in no group meets, in the order of its checks (R119). -/
def sealedStatus (s : State) (c : Channel) (b : Bytes) : Nat :=
  if c.role ≠ 1 ∨ s.rd 0x1030 5 = 0 then 0x15 else if !sealedFormat b then 0x26
  else if fieldAt b 0 48 ≠ s.identity ∨ sha3 (carriedKey b) ≠ s.rd 0x1030 5 ∨ !signedBy "NM72 SEALED WRITE" b then 0x15 else s.sealedCounter b

/-- A SEALED_WRITE has been refused, or is in the journal with its counter and digest. -/
def SealedServed (s t : State) (r : JobRef) (x : Job) (c : Channel) : Prop :=
  let b := x.payload
  if sealedStatus s c b ≠ 0 then DictRefused s t r x ⟨sealedStatus s c b, 0xFF, 0⟩
  else match parseWrite (sealedBody b) with
    | none => DictRefused s t r x ⟨0x26, 0xFF, 0⟩
    | some ws => match s.txnRefused ⟨1, 0, true, false⟩ ws with
      | some e => DictRefused s t r x e
      | none =>
        let g : Journal := ⟨some r, ws, some (fieldAt b 48 8, sha3 b), sealedBody b⟩
        transitionOf ws = none → (g.recorded && s.ringBusy) = false → Journalled s t g

/-- An entry whose value does nothing but stand in the dictionary: names of ports in common, credits and pools, key quotas, and a tenant's entries but STATE. -/
def quiet (w : DWrite) : Prop :=
  (0x1410 ≤ w.idx ∧ w.idx < 0x1440) ∨ (0x1600 ≤ w.idx ∧ w.idx < 0x1680) ∨ (0x2C40 ≤ w.idx ∧ w.idx < 0x2C80) ∨
    (0x1800 ≤ w.idx ∧ w.idx < 0x1840 ∧ w.sub ≠ 1)

/-! ### Key update messages -/

/-- The job's KUM is the one that its domain applied last (R322). -/
def kumRepeated (s : State) (b : Bytes) : Bool :=
  match Map.find s.keys.lastKum (kumDomain b) with
  | some p => fieldAt b 56 8 == Map.getD s.keys.ctr (kumDomain b) 0 && p.1 == sha3 b
  | none => false
/-- The first failing check of steps 1 to 4 of a KUM, 0 where it passes, or has passed them before (R322). -/
def kumFirst (s : State) (j : Job) (b : Bytes) : Nat :=
  if j.kumChecked then 0
  else if !s.kumAllowed j b then 0x15 else if !kumFormat b then 0x26 else if !s.kumBound b || !s.kumAuthorised b then 0x15 else 0
/-- The first of steps 1 to 6 that a KUM outside a group fails, 0 where it passes them: state and role, layout, binding and authority, counter (R322). -/
def kumEarly (s : State) (j : Job) (b : Bytes) : Nat :=
  if kumFirst s j b ≠ 0 then kumFirst s j b
  else if kumRepeated s b then 0x01 else if fieldAt b 56 8 ≠ Map.getD s.keys.ctr (kumDomain b) 0 + 1 then 0x32 else 0

/-- A job waits in its queue again, with precedence, off its engines (R139, R446, R449). -/
def Requeued (t : State) (j : Job) : Prop :=
  (∃ j', t.findJob j.ref = some j' ∧ j'.state = .queued ∧ j'.prec = true ∧ j'.units = [] ∧ j'.borrowed = false ∧ j'.segs = j.segs ∧ j'.seq = j.seq) ∧
    ∀ u ∈ j.units, (t.engine u).job ≠ some j.ref

/-- The event log holds a row of this kind, unit type, cluster and unit, made at this moment (R453). -/
def LogRow (s t : State) (kind unitType cluster unit : Nat) : Prop :=
  ∃ e ∈ t.flt.log, e.kind = kind ∧ e.unitType = unitType ∧ e.cluster = cluster ∧ e.unit = unit ∧ e.datum = s.clk.datum ∧ s.flt.seq < e.seq

/-! ### Peer links -/

/-- A message of this link, number and operation, with a body that `ok` accepts, has wholly arrived, and its link still stands (R379). -/
def MessageStands (s : State) (h : PeerHdr) (op : Nat) (ok : Bytes → Bool) : Prop :=
  s.runs = true ∧ s.myIndex = some h.receiver ∧ ((s.link h.sender).state = 2 ∨ (s.link h.sender).state = 3) ∧ (s.link h.sender).gen = h.gen ∧
    ∃ m, s.peerMsg h op ok = some m

/-- The state once the message has been taken, before its own effect. -/
def heard (s : State) (h : PeerHdr) (op : Nat) (ok : Bytes → Bool) : State := (s.takeMsg h op ok).reviewQuorum

/-- A message has been handed to a link's port (R379). -/
def Posted (t : State) (m : PeerOut) : Prop := ∃ g n, (g, n, m) ∈ t.grp.out

/-- An entry that follows the log of a member at once (R385). -/
def NextEntry (s : State) (e : GEntry) : Prop :=
  e.index = s.grp.last.2 + 1 ∧ s.grp.base ≤ s.grp.last.2 ∧ s.grp.commit ≤ s.grp.last.2 ∧ ∀ x ∈ s.grp.log, x.index ≤ s.grp.last.2

/-! ### Invariants -/

/-- Cluster memory is in its canonical form: keys strictly rising, and no word listed that an unlisted address reads as (R441). -/
def MemoryInv (s : State) : Prop := Map.wf s.cmem = true ∧ ∀ p ∈ s.cmem, p.2 ≠ ⟨0, false⟩

/-- The dictionary, channels, keys and bound kernels are in canonical form: keys strictly rising. -/
def MapsInv (s : State) : Prop :=
  Map.wf s.dict = true ∧ Map.wf s.chans = true ∧ Map.wf s.keys.vol = true ∧ Map.wf s.keys.recs = true ∧ Map.wf s.kern.bound = true

/-! ### Benchmarks -/

/-- One benchmark more has been made: it stands in the ring with the epoch, datum and number of this moment where there was room, and waits otherwise (R357, R359, R367). -/
def Recorded (s t : State) (kind verdict channel region flags digest : Nat) : Prop :=
  ∃ b : Bench, b.kind = kind ∧ b.verdict = verdict ∧ b.channel = channel ∧ b.region = region ∧ b.flags % 8 = flags ∧ b.digest = digest ∧
    if s.trav.pending = [] ∧ s.ringFull 1 = false then b ∈ t.trav.ring ∧ b.seq = s.trav.nextSeq ∧ b.epoch = s.trav.epoch ∧ b.datum = s.clk.datum
    else b ∈ t.trav.pending

/-- A CHECKPOINT has just been appended for these reasons, and its signing has begun (R362). -/
def Checkpointed (s t : State) (reasons : Nat) : Prop :=
  t.trav.signing = true ∧ ∃ b, t.trav.ring.getLast? = some b ∧ b.kind = 0x0C ∧ b.verdict = 2 ∧ b.channel = 0xFF ∧ b.region = reasons ∧
    b.digest = s.identity ∧ b.seq = s.trav.nextSeq ∧ b.sigSlots = cosignSlots s.cosign ∧ b.signed = false

end Machine
end Sys2Proof
end

