-- ==== Sys2Proof/Certificates/Slice0/Obligations.lean ====
section
/-! DEFINITION. The statements for the provers, from the spec's numbered rules. -/

open Sys2Proof
open Sys2Proof.Machine

/-- ADD, SUB and NOP issue and complete: each lane is the sum or difference modulo 2^g; NOP changes nothing but the issue itself (R199, R251, R268). ADDM, SUBM,
REDB, MULM and REDW, wherever the descriptor named holds a modulus of the pass's grain: within their bounds the lanes are the modular sum and difference,
the Barrett remainder and the Montgomery reduction; outside them the instruction still completes, and the lane is not stated (R251). Where the spec leaves a
point open or is read by inference, this follows the model's choice in logs 9 and 10. It states that these forms complete: nop, add, sub, addm, subm, redb,
mulm, redw. -/
def Obligations.PlainLanesComplete : Prop :=
  (∀ (s : State) (w : Mw), Issues s w none →
    let g := grainOf w.g
    let n := spanOf w.sp
    let sec := secIn s w w.src1 n || secIn s w w.src2 n
    let a := laneIn s w w.src1 n g
    let b := laneIn s w w.src2 n g
    (nine w = true → Passes (exec (.add w) s) s w n g sec (fun i => (a i + b i) % 2 ^ g)) ∧
    (nine w = true → Passes (exec (.sub w) s) s w n g sec (fun i => (a i + 2 ^ g - b i) % 2 ^ g)) ∧
    exec (.nop w) s = .next (s.setLe w.le (issuedLe s w))) ∧
  (∀ (s : State) (w : Mw), Issues s w none → narrow w = true → namesQ w true = true → descOk (descIn s w) w.g = true →
    let g := grainOf w.g
    let n := spanOf w.sp
    let q := (descIn s w).q
    let sec := secIn s w w.src1 n || secIn s w w.src2 n
    let a := laneIn s w w.src1 n g
    let b := laneIn s w w.src2 n g
    let t := laneIn s w w.src1 (2 * n) (2 * g)
    PassesWhere (exec (.addm w) s) s w n g sec (fun i r => q < 2 ^ g → a i < q → b i < q → r = (a i + b i) % q) ∧
    PassesWhere (exec (.subm w) s) s w n g sec (fun i r => q < 2 ^ g → a i < q → b i < q → r = (a i + q - b i) % q) ∧
    PassesWhere (exec (.redb w) s) s w n g (secIn s w w.src1 n)
      (fun i r => q < 2 ^ g → a i < 2 ^ (descIn s w).barrettS → r = a i % q) ∧
    PassesWhere (exec (.mulm w) s) s w n g sec (fun i r => a i * b i < q * 2 ^ g → r = mont g (descIn s w) (a i * b i) % 2 ^ g) ∧
    PassesWhere (exec (.redw w) s) s w n g (secIn s w w.src1 (2 * n)) (fun i r => t i < q * 2 ^ g → r = mont g (descIn s w) (t i) % 2 ^ g))

/-- The Montgomery reduction of t < q · 2^g, under a descriptor whose constants keep the limits of their table, is t · 2^−g mod q, in [0, 2q) (R203). MULW, DOT
and CLMUL: the exact product, its accumulation and the carry-less product fill the wide lanes of a group of twice the span (R251). Where the spec leaves a
point open or is read by inference, this follows the model's choice in logs 9 and 10. It states that these forms complete: mulw, dot, clmul. -/
def Obligations.WideProductsAndReductionComplete : Prop :=
  (∀ (g t : Nat) (d : Descriptor), (d.q * d.qnegInv + 1) % 2 ^ g = 0 → t < d.q * 2 ^ g →
    mont g d t < 2 * d.q ∧ mont g d t * 2 ^ g % d.q = t % d.q) ∧
  (∀ (s : State) (w : Mw), Issues s w none →
    let g := grainOf w.g
    let n := spanOf w.sp
    let sec := secIn s w w.src1 n || secIn s w w.src2 n
    let a := laneIn s w w.src1 n g
    let b := laneIn s w w.src2 n g
    let c := laneIn s w w.dest (2 * n) (2 * g)
    (narrow w = true → Passes (exec (.mulw w) s) s w (2 * n) (2 * g) sec (fun i => a i * b i)) ∧
    (narrow w = true → Passes (exec (.dot w) s) s w (2 * n) (2 * g) (sec || secIn s w w.dest (2 * n))
      (fun i => (c i + a i * b i) % 2 ^ (2 * g))) ∧
    (oneGrain w 1 = true → Passes (exec (.clmul w) s) s w (2 * n) 72 sec (fun i => Machine.clmul 36 (a i) (b i))))

/-- BASEMUL over 128 pairs, with γ_i = 17^(2·BitRev7(i)+1) · 2^18 mod 3,329, for inputs below 2q: the product of two linear polynomials modulo X² − γ, in
Montgomery form (R251). Where the spec leaves a point open or is read by inference, this follows the model's choice in logs 9 and 10. It states that these
forms complete: basemul. -/
def Obligations.BasemulCompletes : Prop :=
  ∀ (s : State) (w : Mw), Issues s w none → whole w 0 = true → w.q = 0 → descOk (descIn s w) 0 = true →
    let d := descIn s w
    let a := laneIn s w w.src1 4 18
    let b := laneIn s w w.src2 4 18
    PassesWhere (exec (.basemul w) s) s w 4 18 (secIn s w w.src1 4 || secIn s w w.src2 4) (fun i r =>
      let k := i / 2
      a (2 * k) < 2 * d.q → a (2 * k + 1) < 2 * d.q → b (2 * k) < 2 * d.q → b (2 * k + 1) < 2 * d.q →
        r = (if i % 2 = 0 then
            Machine.mulm 18 d (a (2 * k)) (b (2 * k)) +
              Machine.mulm 18 d (Machine.mulm 18 d (a (2 * k + 1)) (b (2 * k + 1))) (17 ^ (2 * bitRev 7 k + 1) * 2 ^ 18 % 3329)
          else Machine.mulm 18 d (a (2 * k)) (b (2 * k + 1)) + Machine.mulm 18 d (a (2 * k + 1)) (b (2 * k))) % 2 ^ 18)

/-- The butterflies of one polynomial or half of one: with d = 2^t, block b and ζ its twiddle, CT gives a + M(ζ, b) and a + 2q − M(ζ, b), GS gives a + b and
M(ζ, b + Kq − a); ζ comes from the ROM, or from the src2 group, which then counts for the tag (R253, R254). The TOP passes across two groups, with ζ_1 of
the ROM (R254). Where the spec leaves a point open or is read by inference, this follows the model's choice in logs 9 and 10. It states that these forms
complete: ct18, gs18, ct36l, ct36u, ct36TopSum, ct36TopDiff, gs36l, gs36u, gs36TopSum, gs36TopDiff. -/
def Obligations.AllButterfliesComplete : Prop :=
  (∀ (s : State) (w : Mw), Issues s w none →
    let D := descIn s w
    let d := 2 ^ w.pat
    let sec := secIn s w w.src1 4 || (!D.rom && secIn s w w.src2 4)
    let ct := fun (i : Instr) (g b0 : Nat) =>
      let a := laneIn s w w.src1 4 g
      let z := fun j => if D.rom then romZeta w.g (128 / d + (b0 + j / (2 * d))) else laneIn s w w.src2 4 g j
      ∃ lane, Passes (exec i s) s w 4 g sec lane ∧ ∀ j, j < laneCount g 4 → j % (2 * d) < d → a j + 2 * D.q < 2 ^ g →
        lane j = (a j + Machine.mulm g D (z j) (a (j + d))) % 2 ^ g ∧
        lane (j + d) = (a j + 2 * D.q - Machine.mulm g D (z j) (a (j + d))) % 2 ^ g
    let gs := fun (i : Instr) (g k b0 : Nat) =>
      let a := laneIn s w w.src1 4 g
      let z := fun j => if D.rom then romZeta w.g (256 / d - 1 - (b0 + j / (2 * d))) else laneIn s w w.src2 4 g j
      ∃ lane, Passes (exec i s) s w 4 g sec lane ∧ ∀ j, j < laneCount g 4 → j % (2 * d) < d → a j < k * D.q → a (j + d) < k * D.q →
        lane j = (a j + a (j + d)) % 2 ^ g ∧
        lane (j + d) = Machine.mulm g D (z j) (a (j + d) + k * D.q - a j) % 2 ^ g
    descOk D w.g = true →
    (layer w 0 7 = true → ct (.ct18 w) 18 0 ∧ gs (.gs18 w) 18 8 0) ∧
    (layer w 1 6 = true → ct (.ct36l w) 36 0 ∧ ct (.ct36u w) 36 (64 / d) ∧ gs (.gs36l w) 36 4096 0 ∧ gs (.gs36u w) 36 4096 (64 / d))) ∧
  (∀ (s : State) (w : Mw), Issues s w none → whole w 1 = true → w.q = 1 → descOk (descIn s w) 1 = true → (descIn s w).rom = true →
    let D := descIn s w
    let sec := secIn s w w.src1 4 || secIn s w w.src2 4
    let a := laneIn s w w.src1 4 36
    let b := laneIn s w w.src2 4 36
    let z := romZeta 1 1
    PassesWhere (exec (.ct36TopSum w) s) s w 4 36 sec
      (fun i r => a i + 2 * D.q < 2 ^ 36 → r = (a i + Machine.mulm 36 D z (b i)) % 2 ^ 36) ∧
    PassesWhere (exec (.ct36TopDiff w) s) s w 4 36 sec
      (fun i r => a i + 2 * D.q < 2 ^ 36 → r = (a i + 2 * D.q - Machine.mulm 36 D z (b i)) % 2 ^ 36) ∧
    PassesWhere (exec (.gs36TopSum w) s) s w 4 36 sec
      (fun i r => a i < 4096 * D.q → b i < 4096 * D.q → r = (a i + b i) % 2 ^ 36) ∧
    PassesWhere (exec (.gs36TopDiff w) s) s w 4 36 sec
      (fun i r => a i < 4096 * D.q → b i < 4096 * D.q → r = Machine.mulm 36 D z (b i + 4096 * D.q - a i) % 2 ^ 36))

/-- Logic, shifts, comparisons, selection and reductions complete with the lanes of their table; a secret mask makes the whole result secret (R204, R255).
MFROMV sets the mask bit of each lane whose top bit is set, and no other bit (R255). Where the spec leaves a point open or is read by inference, this
follows the model's choice in log 10. It states that these forms complete: and, or, xor, andn, shl, shr, rol64, cmplt, cmpeq, movm, popc, mfromv, andr, orr.
-/
def Obligations.LogicMasksAndSelectionComplete : Prop :=
  (∀ (s : State) (w : Mw), Issues s w none →
    let g := grainOf w.g
    let n := spanOf w.sp
    let s1 := secIn s w w.src1 n
    let sec := s1 || secIn s w w.src2 n
    let a := laneIn s w w.src1 n g
    let b := laneIn s w w.src2 n g
    let x := laneIn s w w.src1 n 72
    let y := laneIn s w w.src2 n 72
    let k := (aIn s w w.src2).val % 128
    let m := (s.le w.le).mreg w.mask
    (w.sp < 3 →
      Passes (exec (.and w) s) s w n 72 sec (fun i => Nat.land (x i) (y i)) ∧
      Passes (exec (.or w) s) s w n 72 sec (fun i => Nat.lor (x i) (y i)) ∧
      Passes (exec (.xor w) s) s w n 72 sec (fun i => Nat.xor (x i) (y i)) ∧
      Passes (exec (.andn w) s) s w n 72 sec (fun i => Nat.land (x i) (2 ^ 72 - 1 - y i)) ∧
      Passes (exec (.andr w) s) s w 1 72 s1 (fun i => if i = 0 then (lanesOf 72 (16 * n) (groupIn s w w.src1 n)).foldl Nat.land (2 ^ 72 - 1) else 0) ∧
      Passes (exec (.orr w) s) s w 1 72 s1 (fun i => if i = 0 then (lanesOf 72 (16 * n) (groupIn s w w.src1 n)).foldl Nat.lor 0 else 0)) ∧
    (nine w = true →
      Passes (exec (.shl w) s) s w n g (s1 || (aIn s w w.src2).sec) (fun i => if g ≤ k then 0 else a i * 2 ^ k % 2 ^ g) ∧
      Passes (exec (.shr w) s) s w n g (s1 || (aIn s w w.src2).sec) (fun i => a i / 2 ^ k) ∧
      Passes (exec (.cmplt w) s) s w n g sec (fun i => if a i < b i then 2 ^ g - 1 else 0) ∧
      Passes (exec (.cmpeq w) s) s w n g sec (fun i => if a i = b i then 2 ^ g - 1 else 0) ∧
      Passes (exec (.popc w) s) s w n g s1 (fun i => popCount g (a i)) ∧
      Passes (exec (.movm w) s) s w n g (s1 || secIn s w w.dest n || m.sec)
        (fun i => if enabled w.g m.val i then a i else laneIn s w w.dest n g i) ∧
      exec (.mfromv w) s = .next (s.setLe w.le ((issuedLe s w).setM w.mask (maskFrom w.g (lanesOf g (laneCount g n) (groupIn s w w.src1 n))) s1))) ∧
    (oneGrain w 2 = true →
      Passes (exec (.rol64 w) s) s w n 72 (s1 || (aIn s w w.src2).sec)
        (fun i => (x i % 2 ^ 64 * 2 ^ (k % 64) + x i % 2 ^ 64 / 2 ^ (64 - k % 64)) % 2 ^ 64))) ∧
  (∀ (g : Nat) (ls : List Nat), g < 3 → ls.length ≤ laneCount (grainOf g) 4 → (∀ x ∈ ls, x < 2 ^ grainOf g) →
    ∀ b, bitAt (maskFrom g ls) b = true ↔ ∃ i, i < ls.length ∧ maskBit g i = b ∧ 2 ^ (grainOf g - 1) ≤ ls.getD i 0)

/-- Permutations and the packing operations complete: PERM moves lanes by its pattern's table, UNPACK widens, PACK narrows (R256, R257). Compression and the
octet-stream encodings: COMPRESS and DECOMPRESS round half up; an encoding places coefficient c in stream bits from 8·o + c·d on and leaves the other
octets; a decoding reads them back; a secret offset taints and an offset beyond the group is ENGINE_FAULT (R258). Where the spec leaves a point open or is
read by inference, this follows the model's choice in logs 9 and 10. It states that these forms complete: perm, unpackZ, unpackS, pack, compress,
decompress, byteEncode, byteDecode, bitpack, bitunpack. -/
def Obligations.PermutationsAndPackingComplete : Prop :=
  (∀ (s : State) (w : Mw), Issues s w none →
    let g := grainOf w.g
    let n := spanOf w.sp
    let a := laneIn s w w.src1 n g
    let N := laneCount g 4
    let p := laneIn s w w.src1 4 g
    (w.g < 3 → w.sp = 2 →
      (w.pat = 0 → Passes (exec (.perm w) s) s w 4 g (secIn s w w.src1 4) p) ∧
      (w.pat = 1 → Passes (exec (.perm w) s) s w 4 g (secIn s w w.src1 4) (fun j => p (bitRev (8 - w.g) j))) ∧
      (w.pat = 2 → Passes (exec (.perm w) s) s w 4 g (secIn s w w.src1 4) (fun j => p (N - 1 - j))) ∧
      (∀ r, w.pat = 3 + r → r < 8 → 2 ^ r < N →
        PassesWhere (exec (.perm w) s) s w 4 g (secIn s w w.src1 4) (fun j v => ∀ i, i < N → (i + 2 ^ r) % N = j → v = p i)) ∧
      (w.pat = 0x0B → w.g = 0 → descOk ((s.le w.le).desc 0) 0 = false → exec (.perm w) s = .next (s.leDone w.le 0x54 0 0 [])) ∧
      (w.pat = 0x0B → w.g = 0 → descOk ((s.le w.le).desc 0) 0 = true →
        PassesWhere (exec (.perm w) s) s w 4 g (secIn s w w.src1 4) (fun j v =>
          (0 < j → v = p (j - 1)) ∧ (j = 0 → p 255 = 0 → v = 0) ∧
          (j = 0 → 0 < p 255 → p 255 < ((s.le w.le).desc 0).q → v = (((s.le w.le).desc 0).q - p 255) % 2 ^ 18))) ∧
      (∀ r, r < 8 → 2 ^ (r + 1) ≤ N →
        (w.pat = 0x10 + r → PassesWhere (exec (.perm w) s) s w 4 g (secIn s w w.src1 4) (fun j v => ∀ b i, i < 2 ^ r →
          (j = b * 2 ^ (r + 1) + 2 * i → v = p (b * 2 ^ (r + 1) + i)) ∧ (j = b * 2 ^ (r + 1) + 2 * i + 1 → v = p (b * 2 ^ (r + 1) + i + 2 ^ r)))) ∧
        (w.pat = 0x18 + r → PassesWhere (exec (.perm w) s) s w 4 g (secIn s w w.src1 4) (fun j v => ∀ b i, i < 2 ^ r →
          (j = b * 2 ^ (r + 1) + i → v = p (b * 2 ^ (r + 1) + 2 * i)) ∧ (j = b * 2 ^ (r + 1) + i + 2 ^ r → v = p (b * 2 ^ (r + 1) + 2 * i + 1)))))) ∧
    (narrow w = true →
      Passes (exec (.unpackZ w) s) s w (2 * n) (2 * g) (secIn s w w.src1 n) a ∧
      Passes (exec (.unpackS w) s) s w (2 * n) (2 * g) (secIn s w w.src1 n)
        (fun i => if 2 ^ (g - 1) ≤ a i then a i + (2 ^ (2 * g) - 2 ^ g) else a i) ∧
      Passes (exec (.pack w) s) s w n g (secIn s w w.src1 (2 * n)) (fun i => laneIn s w w.src1 (2 * n) (2 * g) i % 2 ^ g))) ∧
  (∀ (s : State) (w : Mw), Issues s w none → w.sp = 2 →
    let g := grainOf w.g
    let a := laneIn s w w.src1 4 g
    let o := (aIn s w w.src2).val
    let sec := secIn s w w.src1 4
    let dc := w.g = 0 ∧ w.pat ∈ [1, 4, 5, 10, 11]
    let de := (w.g = 0 ∧ w.pat ∈ [1, 4, 5, 10, 11, 12])
    let db := (w.g = 1 ∧ w.pat ∈ [3, 4, 6, 10, 13, 18, 20])
    let enc := fun (i : Instr) (k : Nat) =>
      GoesTo (exec i s) (fun t => OnlyGroup s t w 4 ∧
        (∀ r, r < 4 → ((t.le w.le).vreg (groupBase w.dest 4 + r)).tags = tagsOf (sec || secIn s w w.dest 4)) ∧
        (∀ j, j < 576 → j < o ∨ o + k ≤ j →
          octetAt ((t.le w.le).groupVal (groupBase w.dest 4) 4) j = octetAt (groupIn s w w.dest 4) j) ∧
        ∀ c, c < laneCount g 4 → laneAt w.pat (octetsNat ((t.le w.le).groupVal (groupBase w.dest 4) 4) o k) c = a c % 2 ^ w.pat)
    let dec := fun (i : Instr) (k : Nat) =>
      Passes (exec i s) s w 4 g sec (fun c => laneAt w.pat (octetsNat (groupIn s w w.src1 4) o k) c)
    (dc → PassesWhere (exec (.compress w) s) s w 4 18 sec (fun i r => a i < 3329 → r = (2 * a i * 2 ^ w.pat + 3329) / 6658 % 2 ^ w.pat) ∧
      Passes (exec (.decompress w) s) s w 4 18 sec (fun i => (6658 * a i + 2 ^ w.pat) / 2 ^ (w.pat + 1) % 2 ^ 18)) ∧
    ((aIn s w w.src2).sec = false →
      (de → o + 32 * w.pat ≤ 576 → enc (.byteEncode w) (32 * w.pat) ∧ dec (.byteDecode w) (32 * w.pat)) ∧
      (db → o + 16 * w.pat ≤ 576 → enc (.bitpack w) (16 * w.pat) ∧ dec (.bitunpack w) (16 * w.pat)) ∧
      (de → 576 < o + 32 * w.pat → exec (.byteEncode w) s = .next (s.leDone w.le 0x54 0 0 []))) ∧
    ((aIn s w w.src2).sec = true → de → exec (.byteDecode w) s = .next (s.leDone w.le 0x53 0 1 [])))

/-- The FIPS 204 roundings and hints of lanes below q, and the whole of what they give for other lanes left open, complete (R258). Power2Round and Decompose
split a lane below q into a high and a low part that give it back modulo q, the low part centred (R258, FIPS 204). Where the spec leaves a point open or is
read by inference, this follows the model's choice in logs 9 and 10. It states that these forms complete: p2rHi, p2rLo, dec88Hi, dec88Lo, dec32Hi, dec32Lo,
mkhint88, mkhint32, usehint88, usehint32. -/
def Obligations.RoundingsComplete : Prop :=
  (∀ (s : State) (w : Mw), Issues s w none → whole w 1 = true →
    let a := laneIn s w w.src1 4 36
    let b := laneIn s w w.src2 4 36
    let s1 := secIn s w w.src1 4
    let sec := s1 || secIn s w w.src2 4
    let one := fun (i : Instr) (f : Nat → Nat) => PassesWhere (exec i s) s w 4 36 s1 (fun k r => a k < qDsa → r = f (a k))
    let two := fun (i : Instr) (P : Nat → Nat → Prop) (f : Nat → Nat → Nat) =>
      PassesWhere (exec i s) s w 4 36 sec (fun k r => P (a k) (b k) → r = f (a k) (b k))
    one (.p2rHi w) (fun x => (power2Round x).1) ∧ one (.p2rLo w) (fun x => (power2Round x).2) ∧
    one (.dec88Hi w) (fun x => (decompose 190464 x).1) ∧ one (.dec88Lo w) (fun x => modQ (decompose 190464 x).2) ∧
    one (.dec32Hi w) (fun x => (decompose 523776 x).1) ∧ one (.dec32Lo w) (fun x => modQ (decompose 523776 x).2) ∧
    two (.mkhint88 w) (fun z r => z < qDsa ∧ r < qDsa) (fun z r => makeHint 190464 z r) ∧
    two (.mkhint32 w) (fun z r => z < qDsa ∧ r < qDsa) (fun z r => makeHint 523776 z r) ∧
    two (.usehint88 w) (fun r h => r < qDsa ∧ h ≤ 1) (fun r h => useHint 190464 h r) ∧
    two (.usehint32 w) (fun r h => r < qDsa ∧ h ≤ 1) (fun r h => useHint 523776 h r)) ∧
  ((∀ r, r < qDsa → ((power2Round r).1 * 8192 + (power2Round r).2) % qDsa = r ∧ (power2Round r).1 < 1024 ∧
    ((power2Round r).2 ≤ 4096 ∨ qDsa - 4096 < (power2Round r).2)) ∧
  (∀ m r, m = 190464 ∨ m = 523776 → r < qDsa →
    ((decompose m r).1 * m + modQ (decompose m r).2) % qDsa = r ∧ (decompose m r).1 < (qDsa - 1) / m ∧
      (modQ (decompose m r).2 ≤ m / 2 ∨ qDsa - m / 2 ≤ modQ (decompose m r).2)))

/-- SamplePolyCBD and the compactions complete: a coefficient is the difference of two bit sums modulo q; COMPACT writes the selected lanes in order from lane
A[src2] on and leaves the others; CT_COMPACT writes them from lane 0 on and clears the rest; COMPACT of a secret source, mask or offset taints (R259, R260).
Where the spec leaves a point open or is read by inference, this follows the model's choice in logs 9 and 10. It states that these forms complete: cbd2,
cbd3, compact, ctCompact. -/
def Obligations.SamplingAndCompactionComplete : Prop :=
  ∀ (s : State) (w : Mw), Issues s w none →
    let m := (s.le w.le).mreg w.mask
    let o := aIn s w w.src2
    let g := grainOf w.g
    let N := laneCount g 4
    let sel := selected w.g m.val (lanesOf g N (groupIn s w w.src1 4))
    let bits := fun (v e i : Nat) => popCount e (v / 2 ^ i % 2 ^ e)
    let q0 := ((s.le w.le).desc 0).q
    (descOk ((s.le w.le).desc 0) 0 = false → exec (.cbd2 w) s = .next (s.leDone w.le 0x54 0 0 []) ∧ exec (.cbd3 w) s = .next (s.leDone w.le 0x54 0 0 [])) ∧
    (descOk ((s.le w.le).desc 0) 0 = true → q0 < 2 ^ 18 →
      Passes (exec (.cbd2 w) s) s w 4 18 (secIn s w w.src1 1) (fun i =>
        (bits (groupIn s w w.src1 1) 2 (4 * i) + q0 - bits (groupIn s w w.src1 1) 2 (4 * i + 2)) % q0) ∧
      Passes (exec (.cbd3 w) s) s w 4 18 (secIn s w w.src1 2) (fun i =>
        (bits (groupIn s w w.src1 2) 3 (6 * i) + q0 - bits (groupIn s w w.src1 2) 3 (6 * i + 3)) % q0)) ∧
    (w.g < 2 → w.sp = 2 →
      Passes (exec (.ctCompact w) s) s w 4 g (secIn s w w.src1 4 || m.sec) (fun i => if i < sel.length then sel.getD i 0 else 0) ∧
      (secIn s w w.src1 4 = false → m.sec = false → o.sec = false →
        Passes (exec (.compact w) s) s w 4 g (secIn s w w.dest 4) (fun i =>
          if o.val ≤ i ∧ i < o.val + sel.length then sel.getD (i - o.val) 0 else laneIn s w w.dest 4 g i)) ∧
      (secIn s w w.src1 4 || m.sec || o.sec → exec (.compact w) s = .next (s.leDone w.le 0x53 0 1 [])))

/-- The masked operations complete, with enough masks in the buffer: the shares they write are shares of the value that R261 names (ISW for SECAND), made with
masks the generator draws; with too few masks the microword is held at issue (R261, R209, R210). With fewer masks in the buffer than it draws, a masked
operation is held at issue: the engine waits on MASK_READY and nothing else changes (R210, R261). The declassifying operations give one bit of a value,
public, in an A register: bit p of one register, or of the exclusive or of two or three Boolean shares; a position of 1,152 or more is ENGINE_FAULT, and so
is a public-class microword (R205, R262). Where the spec leaves a point open or is read by inference, this follows the model's choice in logs 6, 9, 10, 21
and 125. It states that these forms complete: secand, secmulm, a2b, b2a, declBit, declBit2, declBit3. -/
def Obligations.MaskedAndDeclassifyingOperationsComplete : Prop :=
  (∀ (s : State) (w : Mw), Issues s w (some 3) → (w.sp = 1 ∨ w.sp = 2) →
    let n := spanOf w.sp
    let k := 2 * w.sp - 1
    let o := w.sp + 1
    let g := grainOf w.g
    let d := descIn s w
    let x := fun i => lanesAt g i ((s.le w.le).regsOf (groupBase w.src1 n) o)
    let y := fun i => lanesAt g i ((s.le w.le).regsOf (groupBase w.src2 n) o)
    let s1 := (s.le w.le).groupSec (groupBase w.src1 n) o
    let sec := s1 || (s.le w.le).groupSec (groupBase w.src2 n) o
    let goes := fun (i : Instr) (c : Bool) (P : (Nat → List Nat) → Nat → Prop) => GoesTo (exec i s) (fun t =>
      t = { s with les := t.les, free := s.free + k } ∧ (∀ e, e ≠ w.le → t.le e = s.le e) ∧
        t.le w.le = { (issuedLe s w).takeMasks k with regs := { (issuedLe s w).regs with v := (t.le w.le).regs.v } } ∧
        (∀ r, (r < groupBase w.dest n ∨ groupBase w.dest n + n ≤ r) → (t.le w.le).vreg r = (s.le w.le).vreg r) ∧
        (∀ r, r < n → ((t.le w.le).vreg (groupBase w.dest n + r)).tags = tagsOf c) ∧
        (∀ i, i < 1152 / g → P (fun j => lanesAt g j ((t.le w.le).regsOf (groupBase w.dest n) o)) i))
    k ≤ (s.le w.le).maskBuf →
      (w.g = 2 → goes (.secand w) sec (fun z i => xorShares (z i) = Nat.land (xorShares (x i)) (xorShares (y i)))) ∧
      (w.g < 2 → w.q = w.g → descOk d w.g = true → d.q < 2 ^ g →
        goes (.secmulm w) sec (fun z i =>
          addShares d.q (z i) = mont g d (addShares d.q (x i) * addShares d.q (y i)) % d.q ∧ ∀ v ∈ z i, v < d.q) ∧
        goes (.a2b w) s1 (fun z i => xorShares (z i) = addShares d.q (x i)) ∧
        goes (.b2a w) s1 (fun z i => xorShares (x i) < d.q → addShares d.q (z i) = xorShares (x i) ∧ ∀ v ∈ z i, v < d.q))) ∧
  (∀ (s : State) (w : Mw), Issues s w (some 3) → (w.sp = 1 ∨ w.sp = 2) → (s.le w.le).maskBuf < 2 * w.sp - 1 → w.g = 2 →
    exec (.secand w) s = .next (s.setLe w.le ((s.le w.le).held 3))) ∧
  (∀ (s : State) (w : Mw),
    let p := (aIn s w w.src2).val % 2 ^ 11
    let bit := fun n m => xorShares (((s.le w.le).regsOf (groupBase w.src1 n) m).map (fun v => v / 2 ^ p % 2))
    let masksOut := fun (i : Instr) (k v : Nat) => k ≤ (s.le w.le).maskBuf →
      exec i s = .next ({ s with free := s.free + k }.setLe w.le (((issuedLe s w).takeMasks k).setA (aIdx w.dest) v false)) ∧ v < 2
    (Issues s w none → w.secret = true → p < 1152 → masksOut (.declBit w) 0 (bit 1 1)) ∧
    (Issues s w (some 3) → w.secret = true → p < 1152 → masksOut (.declBit2 w) 1 (bit 2 2) ∧ masksOut (.declBit3 w) 2 (bit 4 3)) ∧
    (Issues s w none → w.secret = true → 1152 ≤ p → exec (.declBit w) s = .next (s.leDone w.le 0x54 0 0 [])) ∧
    (Issues s w none → w.secret = false → exec (.declBit w) s = .next (s.leDone w.le 0x54 0 0 [])))

/-- The A-register operations complete modulo 2^36, their tag propagated from what they read (R263). Where the spec leaves a point open or is read by inference,
this follows the model's choice in logs 10 and 20. It states that these forms complete: aadd, asub, aand, ashr, aaddi, aldi, asetw, afromv, abcast, mcount.
-/
def Obligations.ARegisterOperationsComplete : Prop :=
  ∀ (s : State) (w : Mw), Issues s w none →
    let a := aIn s w w.src1
    let b := aIn s w w.src2
    let m := (s.le w.le).mreg w.mask
    let goes := fun (i : Instr) (v : Nat) (sec : Bool) => GoesTo (exec i s) (fun t => ATo s t w v sec)
    goes (.aadd w) ((a.val + b.val) % 2 ^ 36) (a.sec || b.sec) ∧
    goes (.asub w) ((a.val + 2 ^ 36 - b.val) % 2 ^ 36) (a.sec || b.sec) ∧
    goes (.aand w) (Nat.land a.val b.val % 2 ^ 36) (a.sec || b.sec) ∧
    goes (.ashr w) (a.val / 2 ^ (b.val % 64) % 2 ^ 36) (a.sec || b.sec) ∧
    (w.secret = false →
      goes (.aaddi w) ((a.val + w.addr.toNat) % 2 ^ 36) a.sec ∧
      goes (.aldi w) w.addr.toNat false ∧
      goes (.asetw w) (w.addr.toNat % 8 * 2 ^ 33 + a.val % 2 ^ 24) a.sec) ∧
    goes (.afromv w) (((s.le w.le).vreg w.src1.toNat).val % 2 ^ 36) (bitAt ((s.le w.le).vreg w.src1.toNat).tags 0) ∧
    Passes (exec (.abcast w) s) s w 4 36 b.sec (fun _ => b.val % 2 ^ 36) ∧
    goes (.mcount w) (popCount 256 m.val) m.sec

/-- LDC and LDS complete: with a public address in a window the nanoword allows, every word of the destination group takes the word of memory and its tag (R204,
R212, R264). A load whose address is secret taints; one that leaves its window, names a window it may not use or sets a spare bit ends the job with
WINDOW_FAULT, detail 0xFF, and its record goes into the event log (R206, R212, R266). Where the spec leaves a point open or is read by inference, this
follows the model's choice in log 10. It states that these forms complete: ldc, lds. -/
def Obligations.LoadsCompleteOrStop : Prop :=
  (∀ (s : State) (w : Mw), Issues s w none → w.sp < 3 →
    let n := spanOf w.sp
    let a := aIn s w w.src2
    let loads := fun (i : Instr) => GoesTo (exec i s) (fun t => OnlyGroup s t w n ∧
      ∀ r k, r < n → k < 16 →
        ((t.le w.le).vreg (groupBase w.dest n + r)).word k =
          ⟨(s.readWindow w.le (a.val + (16 * r + k))).val % 2 ^ 72, (s.readWindow w.le (a.val + (16 * r + k))).sec⟩)
    a.sec = false →
      ((s.le w.le).windowCause [1, 2, 5] a.val (16 * n) = 0 → loads (.ldc w)) ∧
      ((s.le w.le).windowCause [0, 4] a.val (16 * n) = 0 → loads (.lds w))) ∧
  (∀ (s : State) (w : Mw), Issues s w none → w.sp < 3 →
    let a := aIn s w w.src2
    let c := (s.le w.le).windowCause [1, 2, 5] a.val (16 * spanOf w.sp)
    (a.sec = true → exec (.ldc w) s = .next (s.leDone w.le 0x53 0 1 [])) ∧
    (a.sec = false → c ≠ 0 → exec (.ldc w) s =
      .next (((s.setLe w.le (issuedLe s w)).leDone w.le 0x52 0xFF 2 []).logRow 2 1 (clusterOf w.le) (w.le % 4) 0xFF 0x52
        (c * 2 ^ 68 + clusterOf w.le * 2 ^ 56 + w.le % 4 * 2 ^ 54 + a.val % 2 ^ 36))))

/-- STC, RELEASE and STS complete: the words of the source group stand at the address they are stored to, and no other word of cluster memory, of the output
window or of the matrix entry differs; RELEASE makes its words public, STS takes public words alone (R204, R205, R218, R264). LDQ completes: two public
words of W1 or W2 that keep the limits of the descriptor's table become the descriptor named; one that breaks them is ENGINE_FAULT, a secret word taints
(R202, R264). Where the spec leaves a point open or is read by inference, this follows the model's choice in logs 10 and 22. It states that these forms
complete: stc, ldq, sts, release. -/
def Obligations.StoresAndDescriptorLoadsComplete : Prop :=
  (∀ (s : State) (w : Mw), Issues s w none → w.sp < 3 →
    let n := spanOf w.sp
    let a := aIn s w w.src2
    let off := bitsOf a.val 23 0
    let word := fun j => ((s.le w.le).vreg (groupBase w.src1 n + j / 16)).word (j % 16)
    a.sec = false → off + 16 * n ≤ 2 ^ 24 →
      ((s.le w.le).windowCause [1] a.val (16 * n) = 0 → (s.le w.le).scratchAt + (s.le w.le).scratch ≤ 2 ^ 18 → Map.wf s.cmem = true →
        GoesTo (exec (.stc w) s) (fun t =>
          t = { s with les := t.les, cmem := t.cmem } ∧ (∀ e, e ≠ w.le → t.le e = s.le e) ∧
          t.le w.le = { issuedLe s w with highWord := Nat.max (s.le w.le).highWord (640 + off + (16 * n - 1)) } ∧
          ∀ c x, x < 2 ^ 18 → t.cword c x =
            if c = clusterOf w.le ∧ (s.le w.le).scratchAt + 640 + off ≤ x ∧ x < (s.le w.le).scratchAt + 640 + off + 16 * n then
              word (x - ((s.le w.le).scratchAt + 640 + off))
            else s.cword c x)) ∧
      (w.secret = true → (s.le w.le).windowCause [3] a.val (16 * n) = 0 → Map.wf (s.le w.le).output = true →
        GoesTo (exec (.release w) s) (fun t => OnlyLe s t w.le ∧ t.le w.le = { issuedLe s w with output := (t.le w.le).output } ∧
          ∀ x, Map.getD (t.le w.le).output x 0 =
            if off ≤ x ∧ x < off + 16 * n then (word (x - off)).val else Map.getD (s.le w.le).output x 0)) ∧
      (∀ m, (s.le w.le).w4 = some m → m.writing = true → Map.wf m.words = true → secIn s w w.src1 n = false →
        (s.le w.le).windowCause [4] a.val (16 * n) = 0 →
        GoesTo (exec (.sts w) s) (fun t => OnlyLe s t w.le ∧ ∃ ws, t.le w.le = { issuedLe s w with w4 := some { m with words := ws } } ∧
          ∀ x, Map.getD ws x 0 = if off ≤ x ∧ x < off + 16 * n then (word (x - off)).val else Map.getD m.words x 0))) ∧
  (∀ (s : State) (w : Mw), Issues s w none →
    let a := aIn s w w.src2
    let x := s.readWindow w.le a.val
    let y := s.readWindow w.le (a.val + 1)
    let v := x.val + 2 ^ 72 * y.val
    let d := descOfBits v
    let g := if d.grain = 0 then 18 else 36
    a.sec = false → (s.le w.le).windowCause [1, 2] a.val 2 = 0 →
      (x.sec = false → y.sec = false → descValid v = true →
        exec (.ldq w) s = .next (s.setLe w.le ((issuedLe s w).setQ (w.dest.toNat % 4) d)) ∧
          d.q % 2 = 1 ∧ 3 ≤ d.q ∧ d.q < 2 ^ (g - 1) ∧ (d.q * d.qnegInv + 1) % 2 ^ g = 0 ∧ d.barrettM = 2 ^ d.barrettS / d.q ∧ v % 2 ^ 28 = 0 ∧
          (d.rom = true → (d.q = 3329 ∧ d.grain = 0) ∨ (d.q = 8380417 ∧ d.grain = 1))) ∧
      (x.sec = false → y.sec = false → descValid v = false → exec (.ldq w) s = .next (s.leDone w.le 0x54 0 0 [])) ∧
      (x.sec = true ∨ y.sec = true → exec (.ldq w) s = .next (s.leDone w.le 0x53 0 1 [])))

/-- Gathers and scatters whose sixteen addresses are public and may be accessed complete: word k of the destination takes element k with its tag; a scattered
word stands at its address unless a higher-numbered element names the same word, and no other word differs (R264, R265). A gather at the first element that
may not be accessed: the job ends with WINDOW_FAULT whose detail is that element's number, and the record that names cause, element and address goes into
the event log; one secret address word taints before any element (R265, R266). Where the spec leaves a point open or is read by inference, this follows the
model's choice in log 10. It states that these forms complete: gather16C, scatter16C, gather16S, scatter16S. -/
def Obligations.GathersAndScattersCompleteOrStop : Prop :=
  (∀ (s : State) (w : Mw), Issues s w none →
    let addr := fun k => ((s.le w.le).vreg w.src1.toNat).word k
    let data := fun k => ((s.le w.le).vreg w.src2.toNat).word k
    let off := fun k => bitsOf (addr k).val 23 0
    let ok := fun (allowed : List Nat) => ∀ k, k < 16 → (s.le w.le).elementCause allowed (addr k).val = 0
    let gathers := fun (i : Instr) => GoesTo (exec i s) (fun t => OnlyLe s t w.le ∧
      t.le w.le = { issuedLe s w with regs := { (issuedLe s w).regs with v := (t.le w.le).regs.v } } ∧
      (∀ r, r ≠ w.dest.toNat → (t.le w.le).vreg r = (s.le w.le).vreg r) ∧
      ∀ k, k < 16 → ((t.le w.le).vreg w.dest.toNat).word k =
        ⟨(s.readWindow w.le (addr k).val).val % 2 ^ 72, (s.readWindow w.le (addr k).val).sec⟩)
    (∀ k, k < 16 → (addr k).sec = false) →
      (ok [1, 2, 5] → gathers (.gather16C w)) ∧
      (ok [0, 4] → gathers (.gather16S w)) ∧
      (ok [1] → (s.le w.le).scratchAt + (s.le w.le).scratch ≤ 2 ^ 18 → Map.wf s.cmem = true →
        GoesTo (exec (.scatter16C w) s) (fun t =>
          t = { s with les := t.les, cmem := t.cmem } ∧ (∀ e, e ≠ w.le → t.le e = s.le e) ∧
          (∃ h, t.le w.le = { issuedLe s w with highWord := h }) ∧
          (∀ k, k < 16 → (∀ j, k < j → j < 16 → off j ≠ off k) → t.cword (clusterOf w.le) ((s.le w.le).scratchAt + 640 + off k) = data k) ∧
          ∀ c x, x < 2 ^ 18 → (c ≠ clusterOf w.le ∨ ∀ k, k < 16 → x ≠ (s.le w.le).scratchAt + 640 + off k) → t.cword c x = s.cword c x)) ∧
      (∀ m, (s.le w.le).w4 = some m → m.writing = true → Map.wf m.words = true → ok [4] → (∀ k, k < 16 → (data k).sec = false) →
        GoesTo (exec (.scatter16S w) s) (fun t => OnlyLe s t w.le ∧ ∃ ws, t.le w.le = { issuedLe s w with w4 := some { m with words := ws } } ∧
          (∀ k, k < 16 → (∀ j, k < j → j < 16 → off j ≠ off k) → Map.getD ws (off k) 0 = (data k).val) ∧
          ∀ x, (∀ k, k < 16 → x ≠ off k) → Map.getD ws x 0 = Map.getD m.words x 0))) ∧
  (∀ (s : State) (w : Mw), Issues s w none →
    let addr := fun k => ((s.le w.le).vreg w.src1.toNat).word k
    let c := fun k => (s.le w.le).elementCause [1, 2, 5] (addr k).val
    ((∃ k, k < 16 ∧ (addr k).sec = true) → exec (.gather16C w) s = .next (s.leDone w.le 0x53 0 1 [])) ∧
    ∀ k, k < 16 → (∀ j, j < 16 → (addr j).sec = false) → (∀ j, j < k → c j = 0) → c k ≠ 0 →
      ∃ l, exec (.gather16C w) s = .next (((s.setLe w.le l).leDone w.le 0x52 k 2 []).logRow 2 1 (clusterOf w.le) (w.le % 4) 0xFF 0x52
        (c k * 2 ^ 68 + 2 ^ 67 + k * 2 ^ 60 + clusterOf w.le * 2 ^ 56 + w.le % 4 * 2 ^ 54 + (addr k).val % 2 ^ 36)) ∧
        ∀ j, j < k → (l.vreg w.dest.toNat).word j =
          ⟨(s.readWindow w.le (addr j).val).val % 2 ^ 72, (s.readWindow w.le (addr j).val).sec⟩)

/-- The stream operations complete: SOPEN takes a free core of its kind, SABSORB and SFINAL append the first n octets of a register and make the stream secret
with a secret word, SSQUEEZE gives the next n octets with the stream's tag, SCLOSE frees the core (R211, R267). Stream operations that break a stream's life
are ENGINE_FAULT: opening an open stream, absorbing after FINAL, squeezing before it or past a fixed length, and naming one that is not open; a secret
operand taints (R267). Where the spec leaves a point open or is read by inference, this follows the model's choice in logs 5, 11, 67 and 111. It states that
these forms complete: sopen, sabsorb, sfinal, ssqueeze, sclose. -/
def Obligations.StreamOperationsCompleteOrStop : Prop :=
  (∀ (s : State) (w : Mw) (n : Nat), n < 8 →
    let a := aIn s w w.src2
    let r := (s.le w.le).vreg w.src1.toNat
    let l := issuedLe s w
    a.sec = false →
      (∀ fn u, Issues s w (some 1) → fn ≤ 9 → a.val = n + 16 * fn → Map.find (s.le w.le).streams n = none → s.freeCore w.le fn = some u →
        exec (.sopen w) s = .next ((s.setEngine u { s.engine u with job := (s.le w.le).job }).setLe w.le
          { l with streams := Map.put l.streams n ⟨fn, u, [], false, 0, false, 0, 0⟩ })) ∧
      (∀ h k, Issues s w (some 1) → k ≤ 144 → a.val = n + 256 * k → Map.find (s.le w.le).streams n = some h → h.finalised = false →
        let h' := fun f => { h with
          data := h.data ++ regOctets r.val k, finalised := f, inBuf := h.inBuf + k, sec := h.sec || bitsOf r.tags (ceilDiv k 9 - 1) 0 != 0 && k != 0 }
        (h.inBuf + k ≤ 288 →
          (k ≠ 0 → exec (.sabsorb w) s = .next (s.setLe w.le { l with streams := Map.put l.streams n (h' false) })) ∧
          exec (.sfinal w) s = .next (s.setLe w.le { l with streams := Map.put l.streams n (h' true) })) ∧
        (288 < h.inBuf + k → k ≠ 0 → exec (.sabsorb w) s = .next (s.setLe w.le ((s.le w.le).held 1)))) ∧
      (∀ h k, Issues s w (some 1) → k ≤ 144 → a.val = n + 256 * k → Map.find (s.le w.le).streams n = some h → h.finalised = true →
        (∀ m, streamLength h.fn = some m → h.squeezed + k ≤ m) →
        let h' := { h with squeezed := h.squeezed + k, outBuf := h.outBuf - k }
        (k ≤ h.outBuf → exec (.ssqueeze w) s = .next (s.setLe w.le (({ l with streams := Map.put l.streams n h' } : Le).setV w.dest.toNat
          ⟨octetsReg (slice (prim (h.squeezed + k) (streamPrim h.fn) [h.data]) h.squeezed k), tagsOf h.sec⟩))) ∧
        (h.outBuf < k → exec (.ssqueeze w) s = .next (s.setLe w.le ((s.le w.le).held 1)))) ∧
      (∀ h, Issues s w none → a.val = n → Map.find (s.le w.le).streams n = some h →
        exec (.sclose w) s = .next ((s.setEngine h.unit (s.engine h.unit).leave).setLe w.le { l with streams := Map.erase l.streams n }))) ∧
  (∀ (s : State) (w : Mw) (n : Nat), n < 8 →
    let a := aIn s w w.src2
    let bad := fun (i : Instr) => exec i s = .next (s.leDone w.le 0x54 0 0 [])
    Issues s w (some 1) →
      (a.sec = false → ∀ h, Map.find (s.le w.le).streams n = some h →
        (∀ fn, fn ≤ 9 → a.val = n + 16 * fn → bad (.sopen w)) ∧
        (∀ k, k ≤ 144 → a.val = n + 256 * k →
          (h.finalised = true → bad (.sabsorb w) ∧ bad (.sfinal w)) ∧ (h.finalised = false → bad (.ssqueeze w)) ∧
          (∀ m, streamLength h.fn = some m → m < h.squeezed + k → bad (.ssqueeze w)))) ∧
      (a.sec = false → Map.find (s.le w.le).streams n = none → ∀ k, 1 ≤ k → k ≤ 144 → a.val = n + 256 * k →
        bad (.sabsorb w) ∧ bad (.sfinal w) ∧ bad (.ssqueeze w)) ∧
      (a.sec = true → exec (.sabsorb w) s = .next (s.leDone w.le 0x53 0 1 [])))

/-- Mask, DRBG, key, mailbox and matrix operations complete (R209, R218, R219, R268-R270). The management cores' answers complete: a matrix request is answered
0 with the entry mapped for reading, or 1 with a new one mapped for writing; the key bus ends with every word of the key's shares secret in W5 (R218, R219,
R270). A mask generator at its reseed point takes a seed from its cluster's DRBG, or stops until that can serve; a repaired control-store word is counted
(R209, R210, R236). Where the spec leaves a point open or is read by inference, this follows the model's choice in logs 6, 8, 14, 107 and 124. It states
that these forms complete: maskDraw, drbgDraw, keyFetch, keyBusDeliveryDone, mboxRead, matrixReq, matrixAnswer, matrixDone, maskGeneratorReseed, csRepair.
-/
def Obligations.EngineServicesComplete : Prop :=
  (∀ (s : State) (w : Mw),
    let l := issuedLe s w
    let seed := (s.le w.le).vreg w.src1.toNat
    (Issues s w (some 3) → exec (.maskDraw w) s =
      .next ({ s with free := s.free + 1 }.setLe w.le (({ l with maskBuf := l.maskBuf - 1 } : Le).setV w.dest.toNat ⟨s.draw % 2 ^ 1152, 0xFFFF⟩))) ∧
    (∀ r j, Issues s w none → (s.le w.le).job = some r → s.findJob r = some j →
      (s.serving (tenantDrbg j.tenant) = true → exec (.drbgDraw w) s =
        .next ((s.setDrbg (tenantDrbg j.tenant) ((s.drbg (tenantDrbg j.tenant)).called 144 (drawInput (s.handleFor r) r.seq))).setLe w.le
          (l.setV w.dest.toNat ⟨octetsReg (drbgOutput (s.drbg (tenantDrbg j.tenant)) 144 (drawInput (s.handleFor r) r.seq)), 0xFFFF⟩))) ∧
      (j.key ≠ 0 → exec (.keyFetch w) s = .next (s.setLe w.le { l with keyState := 1 })) ∧
      (j.key = 0 → exec (.keyFetch w) s = .next (s.leDone w.le 0x54 0 0 []))) ∧
    (∀ x rest, Issues s w (some 5) → (s.le w.le).regs.mailbox = x :: rest → exec (.mboxRead w) s =
      .next (s.setLe w.le (({ l with regs := { l.regs with mailbox := rest }, unread := if rest = [] then false else l.unread } : Le).setA
        (aIdx w.dest) x.val false))) ∧
    (Issues s w none → seed.tags = 0 → (s.le w.le).unread = false → (s.le w.le).matrixAsked = none → (s.le w.le).w4 = none →
      exec (.matrixReq w) s = .next (s.setLe w.le { l with matrixAsked := some (seedDigest seed) })) ∧
    (Issues s w none → seed.tags = 0 → ((s.le w.le).unread = true ∨ (s.le w.le).w4 ≠ none) →
      exec (.matrixReq w) s = .next (s.leDone w.le 0x54 0 0 [])) ∧
    (∀ m, Issues s w (some 6) → (s.le w.le).w4 = some m → m.writing = true →
      GoesTo (exec (.matrixDone w) s) (fun t => t = { s with les := t.les, mcache := t.mcache } ∧
        t.les = (s.setLe w.le { l with w4 := some { m with writing := false } }).les ∧
        t.mcache = if s.mcache.any (fun e => e.digest == m.digest) then s.mcache else s.mcache ++ [⟨m.digest, m.size, m.words, m.seed⟩]))) ∧
  (∀ (s : State) (e : Nat) (r : JobRef) (j : Job), (s.le e).job = some r → s.findJob r = some j → s.clk.gated = false →
    (∀ dg, (s.le e).matrixAsked = some dg →
      (∀ x, s.mcache.find? (fun c => c.digest == dg) = some x → GoesTo (exec (.matrixAnswer e) s) (fun t =>
        (t.le e).w4 = some ⟨dg, x.size, false, x.words, x.seed⟩ ∧ (t.le e).regs.mailbox = (s.le e).regs.mailbox ++ [⟨0, false⟩] ∧
        (t.le e).matrixAsked = none ∧ t.mcache.getLast? = some x ∧ t = { s with les := t.les, mcache := t.mcache } ∧
        ∀ x, x ≠ e → t.le x = s.le x)) ∧
      (let n := matrixSize j.opcode
       s.mcache.find? (fun c => c.digest == dg) = none → GoesTo (exec (.matrixAnswer e) s) (fun t =>
        (t.le e).w4 = some ⟨dg, n, true, [], none⟩ ∧ (t.le e).regs.mailbox = (s.le e).regs.mailbox ++ [⟨1, false⟩] ∧
        (t.le e).matrixAsked = none ∧ t = { s with les := t.les, mcache := t.mcache } ∧ ∀ x, x ≠ e → t.le x = s.le x))) ∧
    (∀ k, (s.le e).keyState = 1 → s.keyFor j = some k →
      (bitAt k.classes 0 = true → GoesTo (exec (.keyBusDeliveryDone e) s) (fun t => (t.le e) = { s.le e with keyState := 2 } ∧
        t = { s with les := t.les, cmem := t.cmem } ∧
        (let n := ceilDiv (secretOctets k.typ k.set) 9
         ∀ i, i < sharesOf k.typ k.order * n → i < 4096 → t.cword (clusterOf e) ((s.le e).phys 5 i) = ⟨inputWord (k.share (i / n)) (i % n), true⟩))) ∧
      (bitAt k.classes 0 = false → exec (.keyBusDeliveryDone e) s = .next (s.leDone e 0x30 0 0 [])))) ∧
  (∀ (s : State) (e : Nat), s.clk.gated = false →
    (65536 ≤ (s.le e).maskCount ∨ (s.le e).maskStopped = true →
      (s.serving (e / 4) = true → GoesTo (exec (.maskGeneratorReseed e) s) (fun t =>
        t.le e = { s.le e with maskStopped := false, maskCount := 0 } ∧ (t.cluster (e / 4)).seeds = (s.cluster (e / 4)).seeds + 1 ∧
          (t.drbg (e / 4)).calls = (s.drbg (e / 4)).calls + 1 ∧ t = { s with les := t.les, clus := t.clus, ent := t.ent })) ∧
      (s.serving (e / 4) = false → GoesTo (exec (.maskGeneratorReseed e) s) (fun t =>
        t.le e = { s.le e with maskStopped := true } ∧ t = { s with les := t.les, ent := t.ent }))) ∧
    ((s.le e).maskCount < 65536 → (s.le e).maskStopped = false → exec (.maskGeneratorReseed e) s = .next s) ∧
    (∀ c nano addr, s.phase = .up → c < 16 → (addr < if nano then 1024 else 16384) → Map.wf s.dict = true →
      ((s.cluster c).badWords.contains (nano, addr) = true → GoesTo (exec (.csRepair c nano addr) s) (fun t => t = { s with dict := t.dict, clus := t.clus, kern := t.kern } ∧
        t.rd 0x2400 8 = (s.rd 0x2400 8 + 1) % 2 ^ 64 ∧ (t.cluster c).badWords = (s.cluster c).badWords.filter (fun x => x != (nano, addr)))) ∧
      ((s.cluster c).badWords.contains (nano, addr) = false → exec (.csRepair c nano addr) s = .next s)))

/-- The sequencing kinds complete: each goes to its target, where R229 allows the transfer, and is ENGINE_FAULT where it does not; a branch or loop on a secret
register taints, a ninth CALL and a RET with an empty stack are ENGINE_FAULT, and so are the public-only kinds in a secret-class microword (R206,
R226-R229). EXIT ends the job of its lattice engine: OK with the first n octets of the output window; a secret n is TAINT_FAULT, one beyond the result's
longest length WINDOW_FAULT, and a latched tenant reset TENANT_RESET; the engine is cleared and free (R206, R217, R232, R238). A microword whose wait does
not hold is held: the engine waits on its condition, and nothing else changes; a safe point with an event latched is not issued (R230-R232). Where the spec
leaves a point open or is read by inference, this follows the model's choice in logs 18 and 19. It states that these forms complete: next, jump, brz, brnz,
call, ret, loop, exit. -/
def Obligations.SequencingAndExitComplete : Prop :=
  (∀ (s : State) (w : Mw), (s.le w.le).job ≠ none → s.clk.gated = false → s.wordBad w.le = false → (s.le w.le).waiting = none →
    (w.safePoint = true → (s.engine w.le).latched = []) → w.wait.toNat < 7 → waitHolds (s.le w.le) true w.wait.toNat = true →
    let l := issuedLe s w
    let a := l.areg (aIdx w.src2)
    let up := (l.regs.upc + 1) % 2 ^ 14
    let allowed := fun (x : Nat) => ∀ k, s.kernelOn l = some k → k.transferOk s.library l.regs.upc x = true
    let faults := fun (i : Instr) => exec i s = .next (s.leDone w.le 0x54 0 0 [])
    let taints := fun (i : Instr) => exec i s = .next (s.leDone w.le 0x53 0 1 [])
    let goes := fun (i : Instr) (l' : Le) (x : Nat) =>
      (allowed x → exec i s = .next (s.setLe w.le { l' with regs := { l'.regs with upc := x } })) ∧ (¬ allowed x → faults i)
    goes (.jump w) l w.addr.toNat ∧
    (w.secret = false → goes (.next w) l up ∧
      (a.sec = false →
        goes (.brz w) l (if a.val = 0 then w.addr.toNat else up) ∧ goes (.brnz w) l (if a.val = 0 then up else w.addr.toNat)) ∧
      (a.sec = true → taints (.brz w) ∧ taints (.brnz w)) ∧
      (l.regs.stack.length < 8 → goes (.call w) { l with regs := { l.regs with stack := up :: l.regs.stack } } w.addr.toNat) ∧
      (8 ≤ l.regs.stack.length → faults (.call w)) ∧
      (∀ x rest, l.regs.stack = x :: rest → goes (.ret w) { l with regs := { l.regs with stack := rest } } (x % 2 ^ 14)) ∧
      (l.regs.stack = [] → faults (.ret w))) ∧
    (a.sec = false →
      (a.val = 0 → goes (.loop w) l up) ∧ (a.val = 1 → goes (.loop w) (l.setA (aIdx w.src2) 0 false) up) ∧
      (2 ≤ a.val → goes (.loop w) (l.setA (aIdx w.src2) (a.val - 1) false) w.addr.toNat)) ∧
    (a.sec = true → taints (.loop w)) ∧
    (w.secret = true → faults (.next w) ∧ faults (.brz w) ∧ faults (.brnz w) ∧ faults (.call w) ∧ faults (.ret w))) ∧
  (∀ (s : State) (w : Mw) (r : JobRef) (j : Job), (s.le w.le).job = some r → s.findJob r = some j → j.state = .running → j.kind = 0x1 →
    (s.le w.le).waiting = none → s.clk.gated = false → Calm s →
    let a := aIn s w w.src2
    let ends := fun (status detail : Nat) (out : Bytes) => GoesTo (exec (.exit w) s) (fun t =>
      JobDone t r status detail out j.key ∧ JobFrame s t r ∧ (t.le w.le).job = none ∧ (t.le w.le).regs = leRegsInit ∧ (t.engine w.le).job = none)
    ((s.engine w.le).latched.contains 1 = true → ends 0x60 0 []) ∧
    ((s.engine w.le).latched.contains 1 = false → (s.engine w.le).latched.contains 2 = false → 7 ≤ w.wait.toNat → ends 0x54 0 []) ∧
    ((s.engine w.le).latched.contains 1 = false → (s.engine w.le).latched.contains 2 = false → w.wait.toNat < 7 →
      waitHolds (s.le w.le) true w.wait.toNat = true →
      (a.sec = true → ends 0x53 0 []) ∧
      (a.sec = false → (s.le w.le).outMax < a.val → ends 0x52 0xFF []) ∧
      (a.sec = false → a.val ≤ (s.le w.le).outMax → ends 0 0 ((List.range a.val).map (fun n =>
        BitVec.ofNat 8 (octetAt (Map.getD (s.le w.le).output (n / 9) 0) (n % 9))))))) ∧
  (∀ (s : State) (w : Mw), (s.le w.le).job ≠ none → s.clk.gated = false → s.wordBad w.le = false → (s.le w.le).waiting = none →
    (w.safePoint = true → (s.engine w.le).latched ≠ [] → ∀ i, i ∈ [Instr.add w, .nop w, .mboxRead w, .jump w] → exec i s = .next s) ∧
    (w.safePoint = false →
      (w.wait = 5 → (s.le w.le).regs.mailbox = [] → ∀ i, i ∈ [Instr.mboxRead w, .jump w] → exec i s = .next (s.setLe w.le ((s.le w.le).held 5))) ∧
      (w.wait = 3 → (s.le w.le).maskBuf = 0 → exec (.maskDraw w) s = .next (s.setLe w.le ((s.le w.le).held 3))) ∧
      (w.wait = 4 → (s.le w.le).keyState ≠ 2 → exec (.nop w) s = .next (s.setLe w.le ((s.le w.le).held 4))) ∧
      (7 ≤ w.wait.toNat → ∀ i, i ∈ [Instr.nop w, .jump w] → exec i s = .next (s.leDone w.le 0x54 0 0 [])) ∧
      (w.wait ≠ 5 → exec (.mboxRead w) s = .next (s.leDone w.le 0x54 0 0 []))))

/-- The watchdogs of a lattice engine: 65,536 cycles on a microword end its job with ENGINE_FAULT, 2,500 on masks, a DRBG or a masked operation with
ENTROPY_FAIL; before that nothing happens (R210, R231, R269, R301). A fault that ends a job at its engine is counted: the tenant's FAULT_EVENTS with the
flag of its status, the cluster's ENGINE_EVENTS with TAINT or WINDOW (R75, R207, R212, R220, R266). Where the spec leaves a point open or is read by
inference, this follows the model's choice in log 8. It states that these forms complete: waitWatchdog, entropyStallTimeout. -/
def Obligations.EngineStopsAreCounted : Prop :=
  (∀ (s : State) (e : Nat) (r : JobRef) (j : Job), (s.le e).job = some r → s.findJob r = some j → j.state = .running → j.kind = 0x1 →
    s.clk.gated = false → Calm s →
    (∀ c, (s.le e).waiting = some c →
      (c ≠ 3 → c ≠ 7 → 65536 ≤ (s.le e).waited → GoesTo (exec (.waitWatchdog e) s) (fun t => JobDone t r 0x54 0 [] j.key ∧ JobFrame s t r)) ∧
      (c = 3 ∨ c = 7 → 2500 ≤ (s.le e).waited → GoesTo (exec (.entropyStallTimeout e) s) (fun t => JobDone t r 0x50 0 [] j.key ∧ JobFrame s t r))) ∧
    ((s.le e).waited < 65536 → exec (.waitWatchdog e) s = .next s) ∧
    ((s.le e).waited < 2500 → exec (.entropyStallTimeout e) s = .next s)) ∧
  (∀ (s : State) (w : Mw) (r : JobRef) (j : Job), Issues s w none → (s.le w.le).job = some r → s.findJob r = some j → j.state = .running →
    j.kind = 0x1 → Calm s → Map.wf s.dict = true → j.tenant < 64 → w.le < 64 → w.sp < 3 →
    let a := aIn s w w.src2
    let counted := fun (i : Instr) (flag cflag : Nat) => GoesTo (exec i s) (fun t =>
      t.rd (0x1800 + j.tenant) 0x32 = eventAdd (s.rd (0x1800 + j.tenant) 0x32) flag ∧
        t.rd (0x2000 + w.le / 4) 7 = eventAdd (s.rd (0x2000 + w.le / 4) 7) cflag)
    (a.sec = true → counted (.ldc w) 4 1) ∧
    (a.sec = false → (s.le w.le).windowCause [1, 2, 5] a.val (16 * spanOf w.sp) ≠ 0 → counted (.ldc w) 2 2))

/-- Key generation from a drawn or given seed completes: the key pair of the seed becomes a new volatile key, and the result is the public key with the key
digest (R150-R153, R155, R157, R161, R164, R177). Key generation that may reject its draws completes: Classic McEliece after at most 32 seeds and RSA after
at most 5 × 4k candidates for a prime make a key of draws their standard accepts, or end with RETRY_EXHAUSTED; a stateful key starts with nothing reserved
(R165, R167-R169, R182). Where the spec leaves a point open or is read by inference, this follows the model's choice in logs 5, 6, 12, 23, 31, 32, 108 and
133. It states that these forms complete: mlKemKeygen, mlKemKeygenFromSeed, mlDsaKeygen, slhDsaKeygen, hqcKeygen, mcelieceKeygen, statefulKeygen, eccKeygen,
rsaKeygen. -/
def Obligations.AllKeyGenerationCompletes : Prop :=
  (∀ (s : State) (r : JobRun) (j : Job), JobRuns s r.j j →
    let b := j.payload
    let set := opSet j.opcode
    let made := fun (i : Instr) (f : Nat) =>
      let seed := if b.length = 4 then drawnBy s j (seedLen f set) else b.drop 4
      let pub := publicOf f set seed
      (keygenOptions f b = true → DrbgReady s j.tenant 1 → KeyRoom s j (materialWords (privType f) set (keygenOrder f b) (pubLen f set)) →
        EndsWithKey (exec i s) s j (fun k => pub ++ beBytes 48 k.digest) (fun k =>
          k.typ = privType f ∧ k.set = set ∧ k.order = keygenOrder f b ∧ k.pub = pub ∧ k.secret = secretOf f set seed ∧
            k.handle = keyHandle 0 j.tenant (s.volGen (firstFree s.keys.vol 0)) (firstFree s.keys.vol 0))) ∧
      (keygenOptions f b = false → Ends (exec i s) s j 0x26 [])
    (famOp 1 0 j.opcode = true → made (.mlKemKeygen r) 1) ∧ (famOp 1 3 j.opcode = true → made (.mlKemKeygenFromSeed r) 1) ∧
    (famOp 2 0 j.opcode = true → made (.mlDsaKeygen r) 2) ∧ (famOp 3 0 j.opcode = true → made (.slhDsaKeygen r) 3) ∧
    (famOp 5 0 j.opcode = true → made (.hqcKeygen r) 5) ∧ (famOp 8 0 j.opcode = true → made (.eccKeygen r) 8)) ∧
  (∀ (s : State) (r : JobRun) (j : Job), JobRuns s r.j j →
    let set := opSet j.opcode
    let b := j.payload
    let made := fun (o : Out) (f : Nat) (accept : Bytes → Prop) =>
      (∃ seed, accept seed ∧ EndsWithKey o s j (fun k => publicOf f set seed ++ beBytes 48 k.digest) (fun k =>
        k.typ = privType f ∧ k.pub = publicOf f set seed ∧ k.secret = secretOf f set seed)) ∨ Ends o s j 0x55 []
    (famOp 6 0 j.opcode = true → keygenOptions 6 b = true → DrbgReady s j.tenant 32 → KeyRoom s j (materialWords 0x1A set 0 (pubLen 6 set)) →
      s.poolRoom j.tenant (ceilDiv (pubLen 6 set) 1152) = true →
      made (exec (.mcelieceKeygen r) s) 6 (fun seed => Config.check .mcelieceKeygen [oct set, seed] = true)) ∧
    (famOp 9 0 j.opcode = true → keygenOptions 9 b = true → DrbgReady s j.tenant (40 * rsaK set) → KeyRoom s j (materialWords 0x22 set 0 (pubLen 9 set)) →
      made (exec (.rsaKeygen r) s) 9 (fun seed => ∃ p q, seed = p ++ q ∧ Config.check .rsaKeygen [oct set, p] = true ∧
        Config.check .rsaKeygen [oct set, q, p] = true)) ∧
    (∀ n, famOp 7 0 j.opcode = true → statefulTotal set (fieldAt b 0 4) (fieldAt b 4 4) (fieldAt b 8 1) = some n → fieldAt b 9 1 = 0 →
      1 ≤ fieldAt b 10 2 → fieldAt b 10 2 ≤ 1024 → DrbgReady s j.tenant 1 → KeyRoom s j (materialWords 0x1C set 0 (statefulPubLen set (fieldAt b 0 4))) →
      EndsWithKey (exec (.statefulKeygen r) s) s j (fun k => k.pub ++ beBytes 48 k.digest) (fun k =>
        k.typ = 0x1C ∧ k.pub = statefulPublic set (fieldAt b 0 4) (fieldAt b 4 4) (fieldAt b 8 1) (drawnBy s j 48) ∧ k.total = n ∧ k.batch = fieldAt b 10 2 ∧ k.next = 0 ∧ k.limit = 0 ∧ k.secret = drawnBy s j 48)))

/-- Encapsulation and decapsulation complete: a public key that fails its standard's check gives 0x01; a ciphertext always gives a shared secret, so that
implicit rejection does not show (R147, R148, R155, R156, R164). Where the spec leaves a point open or is read by inference, this follows the model's choice
in logs 5, 12, 33, 108 and 133. It states that these forms complete: mlKemEncaps, mlKemDecaps, hqcEncaps, hqcDecaps, mcelieceEncaps, mcelieceDecaps. -/
def Obligations.EncapsulationCompletes : Prop :=
  ∀ (s : State) (r : JobRun) (j : Job), JobRuns s r.j j →
    let set := opSet j.opcode
    let pk := s.pubOf j j.payload
    let enc := fun (i : Instr) (f : Nat) => famOp f 1 j.opcode = true → DrbgReady s j.tenant 1 →
      Ends (exec i s) s j 0 (if pubGood j pk then
        prim (ctLen f set) (encapsPrim f) [oct set, pk, drawnBy s j (encapsDraw f set)] ++
          prim (ssLen f) (encapsPrim f) [oct set, pk, drawnBy s j (encapsDraw f set), oct 1] else [1])
    let dec := fun (i : Instr) (f : Nat) => ∀ k, famOp f 2 j.opcode = true → s.keyFor j = some k →
      Ends (exec i s) s j 0 (prim (ssLen f) (decapsPrim f) [oct set, k.secret, j.payload])
    enc (.mlKemEncaps r) 1 ∧ enc (.hqcEncaps r) 5 ∧ enc (.mcelieceEncaps r) 6 ∧
    dec (.mlKemDecaps r) 1 ∧ dec (.hqcDecaps r) 5 ∧ dec (.mcelieceDecaps r) 6

/-- Signing completes: hedged with a draw, or with the randomiser that DETERMINISTIC gives; 64 rejected ML-DSA iterations end with RETRY_EXHAUSTED; a payload
that breaks its layout is PARAM_LENGTH (R157-R161, R168, R171, R177, R178, R181). Where the spec leaves a point open or is read by inference, this follows
the model's choice in logs 5, 12, 23, 108, 132 and 133. It states that these forms complete: mlDsaSign, mlDsaSignMu, mlDsaHashSign, slhDsaSign,
slhDsaHashSign, statefulSign, eccSign, eccHashSign, rsaSign, rsaHashSign. -/
def Obligations.SigningCompletes : Prop :=
  ∀ (s : State) (r : JobRun) (j : Job) (k : KeyRec), JobRuns s r.j j → s.keyFor j = some k →
    let b := j.payload
    let set := opSet j.opcode
    let o := opOp j.opcode
    let c := fieldAt b 1 1
    let det := bitAt (fieldAt b 0 1) 0
    let signs := fun (i : Instr) (f op : Nat) => famOp f op j.opcode = true →
      let rnd := if det ∧ f = 2 then List.replicate 32 0 else if det ∧ f = 3 then slice k.secret (2 * slhN set) (slhN set)
        else if det then [] else drawnBy s j (rndLen f set)
      let head := [sigHead set (formOf o) (fieldAt b 2 1), k.secret, slice b 4 c, b.drop (4 + c), rnd]
      ((preambleOk f o b && formLen f o b (4 + c)) = false → Ends (exec i s) s j 0x26 []) ∧
      ((preambleOk f o b && formLen f o b (4 + c)) = true → (det = true ∨ rndLen f set = 0 ∨ DrbgReady s j.tenant 1) →
        if f == 2 && !Config.check .mlDsaSign head then Ends (exec i s) s j 0x55 []
        else Ends (exec i s) s j 0 (prim (sigLen f set) (signPrim f) head))
    let rsa := fun (i : Instr) (op : Nat) => famOp 9 op j.opcode = true → DrbgReady s j.tenant 1 →
      let n := blindLen set + (if fieldAt b 0 1 = 1 then hashLen (fieldAt b 1 1) else 0)
      ((rsaPreamble o b && formLen 9 o b 4) = true → Ends (exec i s) s j 0 (prim (rsaK set) .rsaPrivate
        [rsaHead set b ++ oct (formOf o), k.secret, b.drop 4, (drawnBy s j n).drop (blindLen set)])) ∧
      ((rsaPreamble o b && formLen 9 o b 4) = false → Ends (exec i s) s j 0x26 [])
    signs (.mlDsaSign r) 2 1 ∧ signs (.mlDsaSignMu r) 2 3 ∧ signs (.mlDsaHashSign r) 2 5 ∧ signs (.slhDsaSign r) 3 1 ∧
    signs (.slhDsaHashSign r) 3 5 ∧ signs (.eccSign r) 8 1 ∧ signs (.eccHashSign r) 8 5 ∧ rsa (.rsaSign r) 1 ∧ rsa (.rsaHashSign r) 5 ∧
    (∀ i, famOp 7 1 j.opcode = true → j.index = some i → DrbgReady s j.tenant 1 → Ends (exec (.statefulSign r) s) s j 0
      (let x := headTypes k.set k.pub
       prim (statefulSigLen k.set x.1 x.2.1 x.2.2) .statefulSign [oct k.set, k.secret, k.pub, beBytes 8 i, drawnBy s j 32, b]))

/-- Verification completes with a verdict: the status is OK and the result one octet, whatever the signature; only a payload that breaks its layout is
PARAM_LENGTH (R148, R149, R157, R161, R163, R167, R177, R180, R186, R285). Where the spec leaves a point open or is read by inference, this follows the
model's choice in logs 5, 12, 23 and 133. It states that these forms complete: mlDsaVerify, mlDsaVerifyMu, mlDsaHashVerify, slhDsaVerify, slhDsaHashVerify,
fnDsaVerify, statefulVerify, eccVerify, eccHashVerify, rsaVerify, rsaHashVerify, macVerify, compare. -/
def Obligations.VerificationCompletes : Prop :=
  ∀ (s : State) (r : JobRun) (j : Job), JobRuns s r.j j →
    let b := j.payload
    let set := opSet j.opcode
    let o := opOp j.opcode
    let p := inlineLen j
    let c := fieldAt b 1 1
    let pk := s.pubOf j (slice b 4 p)
    let verdicts := fun (i : Instr) (well v : Bool) => Ends (exec i s) s j (if well then 0 else 0x26) (if well then verdict v else [])
    let verify := fun (i : Instr) (f op : Nat) => famOp f op j.opcode = true →
      let n := sigLen f set
      verdicts i (preambleOk f o b && formLen f o b (4 + p + c + n)) (pubGood j pk &&
        Config.check (verifyPrim f) [sigHead set (formOf o) (fieldAt b 2 1), pk, slice b (4 + p) c, b.drop (4 + p + c + n), slice b (4 + p + c) n])
    let rsa := fun (i : Instr) (op : Nat) => famOp 9 op j.opcode = true →
      verdicts i (rsaPreamble o b && formLen 9 o b (4 + p + rsaK set)) (pubGood j pk && exponentOk pk &&
        Config.check .rsaVerify [rsaHead set b ++ oct (formOf o), pk, b.drop (4 + p + rsaK set), slice b (4 + p) (rsaK set)])
    verify (.mlDsaVerify r) 2 2 ∧ verify (.mlDsaVerifyMu r) 2 4 ∧ verify (.mlDsaHashVerify r) 2 6 ∧ verify (.slhDsaVerify r) 3 2 ∧
    verify (.slhDsaHashVerify r) 3 6 ∧ verify (.eccVerify r) 8 2 ∧ verify (.eccHashVerify r) 8 6 ∧ rsa (.rsaVerify r) 2 ∧ rsa (.rsaHashVerify r) 6 ∧
    (famOp 4 2 j.opcode = true →
      let n := fieldAt b (4 + p + c) 2
      verdicts (.fnDsaVerify r) (preambleOk 4 2 b && decide (6 + p + c + n ≤ b.length)) (pubGood j pk && decide (n ≤ bySet [666, 1280] set) &&
        Config.check .fnDsaVerify [sigHead set 0 0, pk, slice b (4 + p) c, b.drop (6 + p + c + n), slice b (6 + p + c) n])) ∧
    (famOp 7 2 j.opcode = true →
      let p := fieldAt b 0 4
      let n := fieldAt b 4 4
      let pk := s.pubOf j (slice b 8 p)
      let x := headTypes set pk
      verdicts (.statefulVerify r) (decide (8 + p + n ≤ b.length) && (j.key == 0 || p == 0))
        (pk.length == statefulPubLen set x.1 && statefulKnown set x.1 x.2.1 x.2.2 && statefulSigFits set x (slice b (8 + p) n) &&
          Config.check .statefulVerify [oct set, pk, b.drop (8 + p + n), slice b (8 + p) n])) ∧
    (famOp 0x0D 2 j.opcode = true →
      let h := hashHead b
      let n := hashOut set (fieldAt b 0 4)
      verdicts (.macVerify r) (hashParamsOk set 2 b && decide (h + n ≤ b.length))
        (hashValue set 2 (b.take h) (s.keySecret j) (b.drop (h + n)) == slice b h n)) ∧
    (famOp 0x20 0 j.opcode = true → verdicts (.compare r) (zeros (b.take 4))
      (prim (hashLen set) (hashPrim set) [b.drop (4 + hashLen set)] == slice b 4 (hashLen set)))

/-- Agreement, RSA encryption and authenticated encryption complete; nothing that fails its check is released: the result is then the one octet 0x01 (R179-R181,
R183-R185). Where the spec leaves a point open or is read by inference, this follows the model's choice in logs 5, 12, 109 and 133. It states that these
forms complete: eccAgree, rsaDecrypt, rsaEncrypt, aeadEncrypt, aeadDecrypt. -/
def Obligations.EncryptionAndAgreementComplete : Prop :=
  ∀ (s : State) (r : JobRun) (j : Job), JobRuns s r.j j →
    let b := j.payload
    let set := opSet j.opcode
    let a := fieldAt b 4 4
    let key := s.keySecret j
    let nonce := if bitAt (fieldAt b 0 1) 0 then drawnBy s j 12 else slice b 8 12
    (∀ k, famOp 8 3 j.opcode = true → s.keyFor j = some k → zeros (slice b 1 3) = true →
      let z := if set = 4 then prim 32 .x25519 [k.secret, b.drop 4] else prim (agreeLen set) .ecdh [oct set, k.secret, b.drop 4]
      let good := if set = 4 then !zeros z else (b.drop 4).head? == some 4 && Config.check .ecdh [oct set, k.secret, b.drop 4]
      (fieldAt b 0 1 = 0 → bitAt k.ops 9 = true → Ends (exec (.eccAgree r) s) s j 0
        (if good then 0 :: z else [1])) ∧
      (fieldAt b 0 1 = 0 → bitAt k.ops 9 = false → Ends (exec (.eccAgree r) s) s j 0x30 []) ∧
      (fieldAt b 0 1 = 1 → KeyRoom s j (materialWords 0x03 1 0 0) →
        if good then EndsWithKey (exec (.eccAgree r) s) s j (fun _ => [0]) (fun k' => k'.typ = 0x03 ∧ k'.secret = kdfSecret z)
        else Ends (exec (.eccAgree r) s) s j 0 [1])) ∧
    (∀ k, famOp 9 3 j.opcode = true → s.keyFor j = some k → DrbgReady s j.tenant 1 → rsaPreamble 3 b = true →
      b.length = 4 + fieldAt b 2 1 + rsaK set →
      let args := [rsaHead set b, k.secret, slice b 4 (fieldAt b 2 1), b.drop (4 + fieldAt b 2 1)]
      ∃ m, Ends (exec (.rsaDecrypt r) s) s j 0 (if beNat (b.drop (4 + fieldAt b 2 1)) < beNat (k.pub.drop 4) ∧ Config.check .rsaPrivate args then 0 :: m else [1])) ∧
    (famOp 9 4 j.opcode = true → DrbgReady s j.tenant 1 → rsaPreamble 4 b = true →
      let p := inlineLen j
      let l := fieldAt b 2 1
      let h := hashLen (fieldAt b 1 1)
      let pk := s.pubOf j (slice b 4 p)
      4 + p + l ≤ b.length → b.length + 2 * h + 2 ≤ 4 + p + l + rsaK set →
        Ends (exec (.rsaEncrypt r) s) s j 0 (if pubGood j pk && exponentOk pk then
          prim (rsaK set) .rsaPublic [rsaHead set b, pk, slice b (4 + p) l, b.drop (4 + p + l), drawnBy s j h] else [1])) ∧
    (famOp 0x0C 1 j.opcode = true →
      (set = 1 → gcmOk true b = true → (bitAt (fieldAt b 0 1) 0 = true → DrbgReady s j.tenant 1) →
        Ends (exec (.aeadEncrypt r) s) s j 0 (nonce ++ prim (b.length - 20 - a + 16) .aesGcmSeal [key, nonce, slice b 20 a, b.drop (20 + a)])) ∧
      (set ≠ 1 → zeros (b.take 4) = true → Ends (exec (.aeadEncrypt r) s) s j 0
        (prim (ceilDiv (b.length - 4) 8 * 8 + 8) .aesKeyWrap [oct set, key, b.drop 4]))) ∧
    (famOp 0x0C 2 j.opcode = true →
      (set = 1 → gcmOk false b = true → Ends (exec (.aeadDecrypt r) s) s j 0
        (if Config.check .aesGcmOpen [key, slice b 8 12, slice b 20 a, b.drop (20 + a)] then
          0 :: prim (b.length - 36 - a) .aesGcmOpen [key, slice b 8 12, slice b 20 a, b.drop (20 + a)] else [1])) ∧
      (set ≠ 1 → zeros (b.take 4) = true → ∃ m, Ends (exec (.aeadDecrypt r) s) s j 0
        (if Config.check .aesKeyUnwrap [oct set, key, b.drop 4] then 0 :: m else [1])))

/-- Hashes, MACs, key derivation and random octets complete (R186-R188, R300, R316). Where the spec leaves a point open or is read by inference, this follows
the model's choice in logs 5, 12, 34 and 133. It states that these forms complete: digest, mac, extract, expand, extractExpand, randomOctets. -/
def Obligations.HashKdfAndRandomComplete : Prop :=
  ∀ (s : State) (r : JobRun) (j : Job), JobRuns s r.j j →
    let b := j.payload
    let set := opSet j.opcode
    let h := hashHead b
    let l := fieldAt b 8 2
    let i := fieldAt b 10 2
    let hash := fun (c : Instr) (o : Nat) => famOp 0x0D o j.opcode = true → hashParamsOk set o b = true → h ≤ b.length →
      Ends (exec c s) s j 0 (hashValue set o (b.take h) (s.keySecret j) (b.drop h))
    let derive := fun (c : Instr) (o : Nat) => famOp 0x0E o j.opcode = true →
      let n := if o = 0 then kdfHash set else fieldAt b 4 4
      zeros (slice b 2 2) = true → 12 + l + i ≤ b.length → n ≤ kdfMax set →
        (j.key = 0 → s.keyFor j = none →
          (fieldAt b 0 1 = 0 → Ends (exec c s) s j 0 (kdfOutput set o n (slice b 12 l) (slice b (12 + l) i) (b.drop (12 + l + i)))) ∧
          (fieldAt b 0 1 = 1 → kdfTypeOk (fieldAt b 1 1) n = true → KeyRoom s j (materialWords (fieldAt b 1 1) 1 0 0) →
            EndsWithKey (exec c s) s j (fun _ => []) (fun k => k.typ = fieldAt b 1 1))) ∧
        (∀ k, s.keyFor j = some k → j.key ≠ 0 → b.drop (12 + l + i) = [] → fieldAt b 0 1 = 0 →
          (bitAt k.ops 9 = true → Ends (exec c s) s j 0 (kdfOutput set o n (slice b 12 l) (slice b (12 + l) i) k.material)) ∧
          (bitAt k.ops 9 = false → Ends (exec c s) s j 0x30 []))
    hash (.digest r) 0 ∧ hash (.mac r) 1 ∧ derive (.extract r) 0 ∧ derive (.expand r) 1 ∧ derive (.extractExpand r) 2 ∧
    (famOp 0x0F 0 j.opcode = true → fieldAt b 4 1 ≤ 1 → zeros (slice b 5 3) = true → 1 ≤ fieldAt b 0 4 →
      (fieldAt b 0 4 ≤ 65536 → DrbgReady s j.tenant 1 → Ends (exec (.randomOctets r) s) s j 0 (drawnBy s j (fieldAt b 0 4))) ∧
      (fieldAt b 0 4 ≤ 1048576 → DrbgReady s j.tenant 16 → ∃ out, out.length = fieldAt b 0 4 ∧ Ends (exec (.randomOctets r) s) s j 0 out))

/-- Key management jobs complete: a generated or imported key is a new volatile key with the attributes asked for, EXPORT_PUBLIC gives the public key and
digest, DESTROY zeroises the key once no earlier job names it (R189, R190, R314, R315). Where the spec leaves a point open or is read by inference, this
follows the model's choice in logs 5, 12, 35, 133 and 137. It states that these forms complete: genSymmetric, importPublic, exportPublic, destroy. -/
def Obligations.KeyManagementCompletes : Prop :=
  ∀ (s : State) (r : JobRun) (j : Job), JobRuns s r.j j →
    let b := j.payload
    let attrs := fun (k : KeyRec) (a : Bytes) => k.typ = fieldAt a 0 1 ∧ k.set = fieldAt a 1 1 ∧ k.order = fieldAt a 2 1 ∧ k.classes = fieldAt a 4 1 ∧
      k.ops = fieldAt a 6 2 ∧ k.notBefore = fieldAt a 10 10 ∧ k.notAfter = fieldAt a 20 10 ∧ k.useLimit = fieldAt a 30 8
    (j.opcode = 0x1010 → attrOk j.tenant b = true → fieldAt b 0 1 ≤ 3 → DrbgReady s j.tenant 1 →
      KeyRoom s j (materialWords (fieldAt b 0 1) (fieldAt b 1 1) (fieldAt b 2 1) 0) →
      EndsWithKey (exec (.genSymmetric r) s) s j (fun k => beBytes 48 k.digest) (fun k => attrs k b)) ∧
    (let fam := fieldAt b 0 1
     let a := slice b 4 40
     let pk := b.drop 44
     j.opcode = 0x1011 → pubType fam ≠ 0 → setExists fam (fieldAt b 1 1) = true → fieldAt b 2 2 = 0 → attrOk j.tenant a = true →
      fieldAt a 0 1 = pubType fam → fieldAt a 1 1 = fieldAt b 1 1 →
      KeyRoom s j (materialWords (fieldAt a 0 1) (fieldAt a 1 1) (fieldAt a 2 1) pk.length) →
      (fam ≠ 6 ∨ s.poolRoom j.tenant (ceilDiv pk.length 1152) = true) →
      if decide (pk.length = (if fam = 7 then statefulPubLen (fieldAt b 1 1) (headTypes (fieldAt b 1 1) pk).1 else pubLen fam (fieldAt b 1 1))) &&
          publicOk fam (fieldAt b 1 1) pk then
        EndsWithKey (exec (.importPublic r) s) s j (fun k => beBytes 48 k.digest) (fun k => attrs k a ∧ k.pub = pk)
      else Ends (exec (.importPublic r) s) s j 0x30 []) ∧
    (∀ k, j.opcode = 0x1012 → s.keyFor j = some k → Ends (exec (.exportPublic r) s) s j (if hasPublic k.typ then 0 else 0x30)
      (if hasPublic k.typ then k.pub ++ beBytes 48 k.digest else [])) ∧
    (∀ k, j.opcode = 0x1013 → s.key j.key = some k → Map.wf s.keys.vol = true →
      (s.jobs.any (fun x => x.live && x.key == j.key && decide (x.order < j.order)) = false →
        GoesTo (exec (.destroy r) s) (fun t => JobDone t j.ref 0 0 [] j.key ∧ JobFrame s t j.ref ∧ Map.find t.keys.vol (keySlot k.handle) = none ∧
          t.volGen (keySlot k.handle) = nextGen (s.volGen (keySlot k.handle)))) ∧
      (s.jobs.any (fun x => x.live && x.key == j.key && decide (x.order < j.order)) = true → exec (.destroy r) s = .next s))

/-- The TLS 1.3 operations complete on a session key in the state each requires, move it on or destroy it, and end with KEY_USAGE in another state (R191, R192).
STAMP and QUOTE complete: a stamp signs the datum, quality and number taken at dispatch with the key named; a quote signs the head, the last CHECKPOINT and
the identity with TRV-SIG, and while debug is open it takes no co-signatures (R193, R194, R371). Where the spec leaves a point open or is read by inference,
this follows the model's choice in logs 5, 12, 66, 68, 133 and 137. It states that these forms complete: serverShare, clientShare, clientHandshake,
handshakeSecrets, appSecrets, resumption, stamp, quote. -/
def Obligations.TlsStampAndQuoteComplete : Prop :=
  (∀ (s : State) (r : JobRun) (j : Job), JobRuns s r.j j →
    let b := j.payload
    let ek := slice b 4 1184
    let rs := drawnBy s j 64
    let rc := drawnBy s j 96
    (j.opcode = 0x1110 → tlsOk 0 b 1216 0 = true → DrbgReady s j.tenant 1 → KeyRoom s j (materialWords 0x04 1 0 0) →
      if Config.check .publicCheck [oct 1, oct 2, ek] && !zeros (prim 32 .x25519 [rs.drop 32, b.drop 1188]) then
        EndsWithKey (exec (.serverShare r) s) s j (fun _ => (encapsulate 1 2 ek (rs.take 32)).1 ++ publicOf 8 4 (rs.drop 32))
          (fun k => k.typ = 0x04 ∧ k.session = 2)
      else Ends (exec (.serverShare r) s) s j 0 [1]) ∧
    (j.opcode = 0x1111 → tlsOk 1 b 0 0 = true → DrbgReady s j.tenant 1 → KeyRoom s j (materialWords 0x04 1 0 0) →
      EndsWithKey (exec (.clientShare r) s) s j (fun _ => publicOf 1 2 (rc.take 64) ++ publicOf 8 4 (rc.drop 64)) (fun k => k.typ = 0x04 ∧ k.session = 1)) ∧
    ∀ k, s.key j.key = some k → keyScope k.handle = 0 → Map.wf s.keys.vol = true →
      let becomes := fun (i : Instr) (out : Bytes) (to' : Nat) => GoesTo (exec i s) (fun t => JobDone t j.ref 0 0 out j.key ∧ JobFrame s t j.ref ∧
        ∃ k', Map.find t.keys.vol (keySlot k.handle) = some k' ∧ k'.session = to' ∧ k'.handle = k.handle)
      let destroys := fun (i : Instr) (out : Bytes) => GoesTo (exec i s) (fun t => JobDone t j.ref 0 0 out j.key ∧ JobFrame s t j.ref ∧
        Map.find t.keys.vol (keySlot k.handle) = none)
      let refused := fun (i : Instr) (st : Nat) => k.typ ≠ 0x04 ∨ k.session ≠ st → Ends (exec i s) s j 0x30 []
      (j.opcode = 0x1112 → tlsOk 2 b 1120 1 = true → refused (.clientHandshake r) 1 ∧
        (k.typ = 0x04 → k.session = 1 → if zeros (prim 32 .x25519 [slice k.secret 64 32, slice b 1092 32]) = false then
          ∃ ss, becomes (.clientHandshake r) (tlsOut b ss (b.drop 1124) "hs traffic" 2) 3
          else Ends (exec (.clientHandshake r) s) s j 0 [1])) ∧
      (j.opcode = 0x1113 → tlsOk 3 b 0 1 = true → refused (.handshakeSecrets r) 2 ∧
        (k.typ = 0x04 → k.session = 2 → becomes (.handshakeSecrets r) (tlsOut b k.secret (b.drop 4) "hs traffic" 2) 3)) ∧
      (j.opcode = 0x1114 → tlsOk 4 b 0 1 = true → refused (.appSecrets r) 3 ∧
        (k.typ = 0x04 → k.session = 3 →
          (bitAt (fieldAt b 1 1) 0 = false → becomes (.appSecrets r) (tlsOut b k.secret (b.drop 4) "ap traffic" 3) 4) ∧
          (bitAt (fieldAt b 1 1) 0 = true → destroys (.appSecrets r) (tlsOut b k.secret (b.drop 4) "ap traffic" 3)))) ∧
      (j.opcode = 0x1115 → tlsOk 5 b 0 1 = true → refused (.resumption r) 4 ∧
        (k.typ = 0x04 → k.session = 4 → destroys (.resumption r) (tlsOut b k.secret (b.drop 4) "res master" 1)))) ∧
  (∀ (s : State) (r : JobRun) (j : Job) (d q n : Nat), JobRuns s r.j j → j.stamp = some (d, q, n) →
    let b := j.payload
    let alg := fieldAt b 0 1
    (∀ k, j.opcode = 0x1120 → s.keyFor j = some k → 1 ≤ alg → alg ≤ 6 → zeros (slice b 1 3) = true → b.length = 4 + hashLen alg →
      rndLen (famOfType k.typ) k.set = 0 ∨ DrbgReady s j.tenant 1 →
      let fam := famOfType k.typ
      let body := oct 1 ++ oct q ++ oct alg ++ oct 0 ++ beBytes 10 (time80 d) ++ beBytes 8 s.trav.epoch ++ beBytes 8 n ++ beBytes 48 s.identity ++
        beBytes 48 k.digest ++ b.drop 4
      let head := [sigHead k.set 0 0, k.secret, if fam = 8 then [] else ascii "NM72 DATUM STAMP",
        if fam = 8 then ascii "NM72 DATUM STAMP" ++ body else body, drawnBy s j (rndLen fam k.set)]
      if fam == 2 && !Config.check .mlDsaSign head then Ends (exec (.stamp r) s) s j 0x55 []
      else Ends (exec (.stamp r) s) s j 0 (body ++ prim (sigLen fam k.set) (signPrim fam) head)) ∧
    (j.opcode = 0x1130 → b.length = 36 → alg < 4 → zeros (slice b 1 3) = true →
      let f := if s.debug then 0 else alg
      ∃ body, body.length = 166 ∧ fieldAt body 3 1 = j.tenant % 256 ∧ fieldAt body 22 8 = n % 2 ^ 64 ∧ slice body 134 32 = slice b 4 32 ∧
        Ends (exec (.quote r) s) s j 0 (body ++ s.idSign "TRV-SIG" "NM72 QUOTE" body ++
          (if bitAt f 0 then prim 29792 .slhDsaSign [oct 11, s.derive "TRV-SLH" 96, ascii "NM72 QUOTE", body] else []) ++
          (if bitAt f 1 then prim 96 .eccSign [oct 2, s.derive "ID-SIG-P384" 56, ascii "NM72 QUOTE" ++ body] else []))))

/-- The ports' link events complete at each of the four ports: a link that goes down or retrains reads down, with its flag, and PTP and the tenants bound to it
move to a backup whose link is up; one that comes up has its speed, FEC, the conflicting addresses found, a probe for each of its IPv6 addresses, an
ANNOUNCE due at once and the tenants that wait for it as alternate; failback ends every move once the hold is over and sends a gratuitous ARP and
unsolicited advertisements; the loss of REFCLK_SD drops every link and leaves the datum FREE, and its return starts a short lap; an event that finds the
block not started, or the port already so, changes nothing (R19-R21, R27, R30-R33, R37, R38, R127, R433). Where the spec leaves a point open or is read by
inference, this follows the model's choice in logs 8, 41 and 101. It states that these forms complete: linkDown, linkUp, failbackHoldExpiry,
portConfigChange, refclkSdLost, refclkSdReturn. -/
def Obligations.LinkEventsComplete : Prop :=
  ∀ (s : State) (p : Nat), p < 4 → Map.wf s.dict = true →
    let near := fun (t : State) => t = { s with
      dict := t.dict, dtx := t.dtx, chans := t.chans, tx := t.tx, waits := t.waits, flt := t.flt, tenants := t.tenants, ports := t.ports, ptp := t.ptp }
    let e := 0x1400 + p
    let bound := fun (n a b : Nat) => n < 64 ∧ s.rd (0x1440 + n) 1 = a ∧ s.rd (0x1440 + n) 2 = b ∧ a ≠ b ∧ (s.ten n).moved = none
    let down := fun (t : State) => t.linkUp p = false ∧ t.rd e 0x10 = 0 ∧ bitAt (t.rd e 0x13) 0 = true ∧ (t.port p).announce = none ∧
      (∀ x ∈ t.tenants, x.2.moved ≠ some p) ∧ (∀ b, s.ptp.cur = some p → s.ptpBackup = some b → s.linkUp b = true → t.ptp.cur = some b) ∧
      (∀ n q, q < 4 → bound n p q → s.linkUp q = true → (t.ten n).moved = some q) ∧ near t
    (s.phase = .up → s.linkUp p = true → GoesTo (exec (.linkDown p) s) (fun t => down t ∧ (t.port p).retrain = (s.port p).retrain)) ∧
    (s.phase ≠ .up ∨ s.linkUp p = false → exec (.linkDown p) s = .next s) ∧
    (s.phase = .up → (s.port p).retrain = true → s.linkUp p = true → GoesTo (exec (.portConfigChange p) s) (fun t => down t ∧ (t.port p).retrain = false)) ∧
    (s.phase = .up → (s.port p).retrain = true → s.linkUp p = false →
      exec (.portConfigChange p) s = .next (s.setPort p { s.port p with retrain := false })) ∧
    (s.phase ≠ .up ∨ (s.port p).retrain = false → exec (.portConfigChange p) s = .next s) ∧
    (∀ (speed : Nat) (fec bad : List Nat),
      (s.phase = .up → s.mayLink p speed = true → GoesTo (exec (.linkUp p speed fec bad) s) (fun t =>
        t.rd e 0x10 = (if speed = 25 then 2 else 1) ∧ t.rd e 0x11 = fecOf (s.rd e 3) speed fec ∧
          (t.port p).upSince = s.clk.fab ∧ (t.port p).announceDue = s.clk.fab ∧
          (∀ a, a ∈ (t.port p).badAddrs ↔ a ∈ bad ∧ (a = s.linkLocal p ∨ (a = s.rd e 9 ∧ a ≠ 0))) ∧
          t.rd e 0x13 = eventAdd (s.rd e 0x13) (if (t.port p).badAddrs = [] then 0 else 4) ∧
          (∃ w ∈ t.tx, w.frame = .neighbourProbe p (s.linkLocal p)) ∧ (s.rd e 9 ≠ 0 → ∃ w ∈ t.tx, w.frame = .neighbourProbe p (s.rd e 9)) ∧
          (∀ n q, q < 4 → bound n q p → s.linkUp q = false → (t.ten n).moved = some p) ∧ near t)) ∧
      (s.phase ≠ .up ∨ s.mayLink p speed = false → exec (.linkUp p speed fec bad) s = .next s)) ∧
    (let held := s.rd 0x1410 4 ≠ 0 ∧ (s.port p).upSince + s.rd 0x1410 4 * 1250000 ≤ s.clk.fab;
      (s.phase = .up → s.linkUp p = true → s.failedOver p = true → held →
        GoesTo (exec (.failbackHoldExpiry p) s) (fun t => (∀ x ∈ t.tenants, t.rd (0x1440 + x.1) 1 = p → x.2.moved = none) ∧
          t = { s with tenants := t.tenants, tx := t.tx } ∧ (s.rd e 7 ≠ 0 → ∃ w ∈ t.tx, w.frame = .gratuitousArp p p (s.rd e 7)) ∧
          ∀ a ∈ s.ipv6s p, ∃ w ∈ t.tx, w.frame = .unsolicitedNa p p a)) ∧
      (s.phase ≠ .up ∨ s.linkUp p = false ∨ s.failedOver p = false ∨ ¬ held → exec (.failbackHoldExpiry p) s = .next s)) ∧
    (s.clk.sd = true → GoesTo (exec .refclkSdLost s) (fun t => t.clk = { s.clk with sd := false, aonFrac := 0 } ∧ t.rd 0x1100 2 = 0 ∧
      (∀ q, q < 4 → t.linkUp q = false) ∧ (∀ x ∈ t.tenants, x.2.moved = none) ∧
      t.rd 0x1200 7 = (if s.phase = .down then s.rd 0x1200 7 else eventAdd (s.rd 0x1200 7) 16) ∧
      t = { s with clk := t.clk, dict := t.dict, dtx := t.dtx, chans := t.chans, tx := t.tx, tenants := t.tenants, ports := t.ports, ptp := t.ptp })) ∧
    (s.clk.sd = false → exec .refclkSdLost s = .next s) ∧
    (s.clk.sd = false → s.phase = .up → s.clk.gated = false →
      let n := s.lengthNow * 1000
      GoesTo (exec .refclkSdReturn s) (fun t => t.clk = { s.clk with sd := true } ∧
        t.lap.start = s.clk.datum ∧ t.lap.short = some ((s.clk.datum / n + 1) * n - s.clk.datum) ∧
        t.rd 0x1A00 6 = (s.rd 0x1A00 6 + 1) % 2 ^ 64 ∧
        t = { s with clk := t.clk, tenants := t.tenants, units := t.units, jobs := t.jobs, les := t.les, lap := t.lap, dict := t.dict,
                     dtx := t.dtx, free := t.free })) ∧
    (s.clk.sd = false → s.phase ≠ .up ∨ s.clk.gated = true → exec .refclkSdReturn s = .next { s with clk := { s.clk with sd := true } }) ∧
    (s.clk.sd = true → exec .refclkSdReturn s = .next s)

/-- Frames at the four ports complete: the filter counts a frame it drops by R22 and R23 and leaves every other as it was; ARP and neighbour solicitations for
an address the port answers for are answered, and no other; echo is answered where it is enabled, 1,000 times a second, and counted as dropped else; an
ANNOUNCE is made when due, and goes out with its rising number and its body once the reserve serves it; PTP asks for the delay where it runs with a master,
or peer to peer; else nothing changes (R19, R22, R23, R25, R27-R29, R33, R37). Where the spec leaves a point open or is read by inference, this follows the
model's choice in logs 8, 99 and 100. It states that these forms complete: ethernetFrameReceive, arpRequest, neighbourSolicitation, echoRequest,
announceIntervalExpiry, announceSend, ptpDelayRequestTimer. -/
def Obligations.PortFramesComplete : Prop :=
  ∀ (s : State) (p : Nat), p < 4 → Map.wf s.dict = true →
    let e := 0x1400 + p
    let dropped := fun (o : Out) => GoesTo o (fun t => t.rd e 0x14 = (s.rd e 0x14 + 1) % 2 ^ 64 ∧ t = { s with dict := t.dict })
    (∀ f : EthFrame,
      let o := exec (.ethernetFrameReceive p f) s
      let wrongTag := match f.vlan with
        | some v => v % 4096 ≠ s.rd e 5 % 4096
        | none => s.rd e 5 % 4096 ≠ 0
      let bad := f.fcsOk = false ∨ s.rd e 4 < f.len ∨ (f.vlan ≠ none ∧ 9216 < f.len + 4) ∨ f.etherType = 0x8808 ∨ wrongTag
      let ours := bitAt f.dst 40 = true ∨ ∃ q ∈ s.answersFor p, f.dst = s.mac q
      (s.phase = .up → s.linkUp p = true → bad ∨ (s.protocolOk p f = false ∧ ours) → dropped o) ∧
      (¬ bad → s.protocolOk p f = true ∨ ¬ ours → o = .next s) ∧ (s.phase ≠ .up ∨ s.linkUp p = false → o = .next s)) ∧
    (∀ a : BitVec 32,
      let o := exec (.arpRequest p a) s
      (s.phase = .up → s.linkUp p = true → a ≠ 0 → s.rd e 7 = a.toNat → o = .next (s.transmit [.arpReply p p a.toNat])) ∧
      (s.phase = .up → s.linkUp p = true → a ≠ 0 → ∀ q ∈ s.answersFor p, s.rd (0x1400 + q) 7 = a.toNat →
        ∃ k, k ∈ s.answersFor p ∧ s.rd (0x1400 + k) 7 = a.toNat ∧ o = .next (s.transmit [.arpReply p k a.toNat])) ∧
      (s.phase ≠ .up ∨ s.linkUp p = false ∨ a = 0 ∨ (∀ q ∈ s.answersFor p, s.rd (0x1400 + q) 7 ≠ a.toNat) → o = .next s)) ∧
    (∀ a : BitVec 128,
      let o := exec (.neighbourSolicitation p a) s
      (s.phase = .up → s.linkUp p = true → a.toNat ∈ s.ipv6s p → o = .next (s.transmit [.neighbourAdvert p p a.toNat])) ∧
      (s.phase = .up → s.linkUp p = true → ∀ q ∈ s.answersFor p, a.toNat ∈ s.ipv6s q →
        ∃ k, k ∈ s.answersFor p ∧ a.toNat ∈ s.ipv6s k ∧ o = .next (s.transmit [.neighbourAdvert p k a.toNat])) ∧
      (s.phase ≠ .up ∨ s.linkUp p = false ∨ (∀ q ∈ s.answersFor p, a.toNat ∉ s.ipv6s q) → o = .next s)) ∧
    (∀ (v6 : Bool) (b : Bytes),
      let sec := s.clk.datum / 1000000000
      let n := if (s.port p).echoSec = sec then (s.port p).echoCount else 0
      let o := exec (.echoRequest p v6 b) s
      (s.phase = .up → s.linkUp p = true → s.rd 0x1410 3 = 1 → b.length ≤ 1472 → n < 1000 → o =
        .next ((s.setPort p { s.port p with echoSec := sec, echoCount := n + 1 }).transmit [.echoReply p v6 b])) ∧
      (s.phase = .up → s.linkUp p = true → s.rd 0x1410 3 ≠ 1 ∨ 1472 < b.length ∨ 1000 ≤ n → dropped o) ∧
      (s.phase ≠ .up ∨ s.linkUp p = false → o = .next s)) ∧
    (let due := s.phase = .up ∧ s.linkUp p = true ∧ s.rd 0x1410 2 ≠ 0 ∧ s.failedOver p = false ∧ (s.port p).announce = none ∧
        (s.port p).announceDue ≤ s.clk.fab;
      (due → GoesTo (exec (.announceIntervalExpiry p) s) (fun t => (t.port p).announce = some (s.announceBody p) ∧
        (t.port p).announceDue = s.clk.fab + s.rd 0x1410 2 * 100 * 1250000 ∧ ReserveItem.announce p ∈ t.rwork ∧
        t = { s with ports := t.ports, rwork := t.rwork })) ∧
      (¬ due → exec (.announceIntervalExpiry p) s = .next s)) ∧
    (∀ b, (s.port p).announce = some b → s.phase = .up → s.reserveRuns (.announce p) = true → GoesTo (exec (.announceSend p) s) (fun t =>
      (t.port p).announce = none ∧ (t.port p).announceSeq = (s.port p).announceSeq + 1 ∧
      t = { s with ports := t.ports, tx := t.tx, rwork := t.rwork } ∧ (∃ frames, t.tx = s.tx ++ frames) ∧
      ∀ enc ∈ s.announceEncaps p, b ≠ [] → b.length ≤ 1392 → ∃ w ∈ t.tx, ∃ hdr pl, w.frame = .announce p enc hdr pl ∧
        fieldAt hdr 8 8 = (s.port p).announceSeq % 2 ^ 64 ∧ pl.take b.length = b)) ∧
    ((s.port p).announce = none ∨ s.phase ≠ .up ∨ s.reserveRuns (.announce p) = false → exec (.announceSend p) s = .next s) ∧
    (∀ err,
      let asks := s.phase = .up ∧ s.ptpOn p = true ∧ (s.rd 0x1101 4 = 1 ∨ (s.ptpPort p).master ≠ none)
      (asks → exec (.ptpDelayRequestTimer ⟨p, err⟩) s = .next ((s.setPtpPort p { s.ptpPort p with asked := some (s.stampNow err) }).transmit
        [.ptpDelayRequest p ⟨s.rd 0x1101 3, s.rd 0x1101 5⟩ (s.rd 0x1101 4 == 1) (s.stampNow err)])) ∧
      (¬ asks → exec (.ptpDelayRequestTimer ⟨p, err⟩) s = .next s))

/-- PTP's events complete at a port that it runs on: the better master is selected and the rest ignored; at the port that carries PTP an offset moves the datum
by a step beyond the threshold, once for a master, else steers it, locks it after sixteen good ones and leaves LOCKED after four bad ones; at the other port
it is remembered; a delay response measures the delay; a master that falls silent is forgotten, and PTP goes to a locked backup or the datum to HOLDOVER
and, at the limit, to FREE; a message of no master or port of the block's changes nothing (R33-R37). Where the spec leaves a point open or is read by
inference, this follows the model's choice in logs 8, 9, 39, 40, 99, 100 and 134. It states that these forms complete: ptpAnnounceMessage, ptpSyncMessage,
ptpDelayResponse, announceReceiptTimeout, holdoverLimitExpiry. -/
def Obligations.DatumEventsComplete : Prop :=
  ∀ (s : State) (p : Nat) (h : PtpHdr), Map.wf s.dict = true →
    let x := s.ptpPort p
    let carries := s.ptp.cur = some p
    let heard := s.phase = .up ∧ s.ptpOn p = true ∧ s.ptpFits h = true
    (∀ (m : PtpMaster) (u : Int) (n : Nat),
      let o := exec (.ptpAnnounceMessage p m ⟨h, u, n⟩) s
      (heard → (∀ k, x.master = some k → k.ident = m.ident ∨ m.rank < k.rank) → GoesTo o (fun t =>
        (t.ptpPort p).master = some m ∧ (t.ptpPort p).heard = s.clk.fab ∧ t.ptp.cur = s.ptp.cur ∧
        (carries → t.rd 0x1100 6 = m.ident % 2 ^ 80 ∧ t.rd 0x1100 7 = twos 32 u) ∧ (¬ carries → t.dict = s.dict) ∧ t = { s with ptp := t.ptp, dict := t.dict })) ∧
      (∀ k, x.master = some k → k.ident ≠ m.ident → k.rank ≤ m.rank → o = .next s) ∧ (¬ heard → o = .next s)) ∧
    (∀ (id : Nat) (t1 err : Int),
      let off := s.stampNow err - t1 - x.delay
      let sync := exec (.ptpSyncMessage ⟨p, err⟩ h id t1) s
      let steers := fun (t : State) => t.rd 0x1100 3 = twos 64 off ∧ t.clk.datum = s.clk.datum ∧ 13737023399 ≤ t.clk.incr ∧ t.clk.incr ≤ 13750767294
      (∀ m, heard → x.master = some m → m.ident = id →
        (carries → s.quality = 2 → GoesTo sync (fun t => steers t ∧
          t.quality = if s.rd 0x1101 7 < off.natAbs ∧ 3 ≤ x.bad then 1 else 2)) ∧
        (carries → s.quality ≠ 2 → s.rd 0x1101 8 < off.natAbs → x.stepped = false → GoesTo sync (fun t =>
          t.clk.datum = ((s.clk.datum : Int) - off).toNat ∧ t.quality = s.quality ∧ t.lap.start = t.clk.datum ∧ (t.ptpPort p).stepped = true)) ∧
        (carries → s.quality ≠ 2 → off.natAbs ≤ s.rd 0x1101 8 ∨ x.stepped = true → GoesTo sync (fun t => steers t ∧
          t.quality = if off.natAbs ≤ s.rd 0x1101 6 ∧ 15 ≤ x.good then 2 else s.quality)) ∧
        (¬ carries → GoesTo sync (fun t => (t.ptpPort p).sync = some (t1, s.stampNow err) ∧
          (t.ptpPort p).near = (if off.natAbs ≤ s.rd 0x1101 6 then x.near + 1 else 0) ∧ t.ptp.cur = s.ptp.cur ∧ t = { s with ptp := t.ptp }))) ∧
      (¬ heard ∨ (∀ m, x.master = some m → m.ident ≠ id) → sync = .next s)) ∧
    (∀ (rx tx err : Int),
      let o := exec (.ptpDelayResponse ⟨p, err⟩ h ⟨rx, tx⟩) s
      let measured := fun (d : Int) => GoesTo o (fun t => (t.ptpPort p).delay = d ∧ (t.ptpPort p).asked = none ∧
        (carries → 0 ≤ d → t.rd 0x1100 4 = d.toNat % 2 ^ 32) ∧ (¬ carries → t.dict = s.dict) ∧ t = { s with ptp := t.ptp, dict := t.dict })
      (∀ t3, heard → x.asked = some t3 → s.rd 0x1101 4 = 1 → measured (((s.stampNow err - t3) - (tx - rx)) / 2)) ∧
      (∀ t1 t2 t3, heard → x.asked = some t3 → s.rd 0x1101 4 ≠ 1 → x.sync = some (t1, t2) → measured (((t2 - t1) + (rx - t3)) / 2)) ∧
      (¬ heard ∨ x.asked = none ∨ (s.rd 0x1101 4 ≠ 1 ∧ x.sync = none) → o = .next s)) ∧
    (let o := exec (.announceReceiptTimeout p) s
      let lost := fun (t : State) => (t.ptpPort p).master = none ∧ (t.ptpPort p).sync = none
      (s.phase = .up → s.noMaster p = true → carries → s.backupLocked = none → GoesTo o (fun t => lost t ∧ t.ptp.cur = some p ∧
        t.rd 0x1100 6 = 0 ∧ t.quality = (if s.quality = 2 then 1 else s.quality))) ∧
      (∀ q, s.phase = .up → s.noMaster p = true → carries → s.backupLocked = some q → GoesTo o (fun t => t.ptp.cur = some q ∧ t.quality = s.quality ∧
        t = { s with ptp := t.ptp, dict := t.dict })) ∧
      (s.phase = .up → s.noMaster p = true → ¬ carries → s.ptpBackup = some p → GoesTo o (fun t => lost t ∧ t.ptp.cur = s.ptp.cur ∧ t = { s with ptp := t.ptp })) ∧
      (s.phase ≠ .up ∨ s.noMaster p = false ∨ (¬ carries ∧ s.ptpBackup ≠ some p) → o = .next s)) ∧
    (let ends := s.phase = .up ∧ s.quality = 1 ∧ s.ptp.holdoverAt + s.rd 0x1101 9 * 1000000000 < s.clk.rtc;
      (ends → GoesTo (exec .holdoverLimitExpiry s) (fun t => t.quality = 0 ∧
        t = { s with ptp := t.ptp, dict := t.dict, dtx := t.dtx, chans := t.chans, tx := t.tx })) ∧
      (¬ ends → exec .holdoverLimitExpiry s = .next s))

/-- Opfel frames complete: malformed and unauthentic ones are counted and dropped, one the port does not take changes nothing; a whole HANDSHAKE or ANNOUNCE
frame goes to its own row; a CREDIT is accepted and answered where it asks for it; an authentic first segment is queued, reassembled, or refused with the
first failing check, its window moved as its status says; a sequence whose completion has gone out is answered with that completion again; a slow reassembly
is discarded; a completion goes out in its channel's order (R41-R67, R86, R92). Where the spec leaves a point open or is read by inference, this follows the
model's choice in logs 24, 25, 27, 66, 101, 102, 103 and 104. It states that these forms complete: opfelFrame, reassemblyTimeout, credit, completionRelease.
-/
def Obligations.MessagesComplete : Prop :=
  (∀ (s : State) (f : OpfelIn), s.runs = false ∨ s.linkUp f.port = false ∨ s.taken f = false →
    exec (.opfelFrame f) s = .next s ∧ exec (.credit f) s = .next s) ∧
  (∀ (s : State) (f : OpfelIn), s.runs = true → s.linkUp f.port = true → s.taken f = true →
    let slot := f.handle % 2 ^ 16
    let frame := exec (.opfelFrame f) s
    let whole := f.badFormat = false ∧ f.badCarrier = false ∧ s.findPart f.part = none ∧ f.segmentOk = true ∧ f.segCount = 1 ∧ f.length = f.inside.length ∧ f.length ≤ 65536
    (whole → f.kind = 0xA → f.queue = 0 → f.handle = 0 → f.opcode = 0 → f.key = 0 → f.seq ≠ 0 → GoesTo frame (fun t =>
      t.hsIn = s.hsIn ++ [{ tenant := f.tenant, ident := f.seq, cookie := f.cookie, port := f.port, peer := f.peer, declared := f.length, body := f.inside }] ∧
        t = { s with hsIn := t.hsIn, dict := t.dict })) ∧
    (whole → f.kind = 0x9 → GoesTo frame (fun t => t.grp = { s.grp with announced := s.grp.announced ++ [⟨⟨f.port, f.peer, f.seq⟩, f.inside⟩] } ∧
      t = { s with grp := t.grp, dict := t.dict })) ∧
    (f.badFormat = true → frame = .next (s.inc 0x1600 0x10 1) ∧ exec (.credit f) s = .next (s.inc 0x1600 0x10 1)) ∧
    (f.badFormat = false → f.badCarrier = true → frame = .next (s.inc 0x1600 0x11 1)) ∧
    (f.badFormat = false → f.badCarrier = false → f.kind = 0x1 ∨ f.kind = 0x3 ∨ f.kind = 0x4 ∨ f.kind = 0x5 ∨ f.kind = 0x6 →
      (Map.find s.chans slot = none → frame = .next (s.inc 0x1600 0x12 1)) ∧
      (∀ c, Map.find s.chans slot = some c → c.gen ≠ f.handle / 2 ^ 16 % 1024 ∨ f.opened c.rxKey 0 = none → frame = .next (s.inc 0x1600 0x12 1)) ∧
      (∀ c pl, Map.find s.chans slot = some c → c.gen = f.handle / 2 ^ 16 % 1024 → f.opened c.rxKey 0 = some pl → c.state ≠ .closing →
        bitAt f.flags 3 = false →
        let c' := c.heard s.clk.datum f.peer f.port
        let u := { s with chans := Map.put s.chans slot c' }
        (f.kind = 0x6 →
          (f.length ≠ 0 ∨ pl ≠ [] ∨ f.segCount ≠ 1 → frame = .next (u.inc 0x1600 0x14 1) ∧ exec (.credit f) s = .next (u.inc 0x1600 0x14 1)) ∧
          (f.length = 0 → pl = [] → f.segCount = 1 → f.segmentOk = true → f.tenant = f.handle / 2 ^ 26 → f.tenant = c.tenant → c'.inRange f.seq = true →
            let v := if u.shut c' then u else ({ u with chans := Map.put u.chans slot (c'.accept f.seq) }).trim slot
            (f.needsAck = false → frame = .next v ∧ exec (.credit f) s = .next v) ∧
            (f.needsAck = true → GoesTo (exec (.credit f) s) (fun t =>
              t = { s with chans := t.chans, jobs := t.jobs, tx := t.tx } ∧ s.tx.length < t.tx.length)))) ∧
        (f.kind ≠ 0x6 → ∀ j g, s.findJob ⟨slot, f.seq⟩ = some j → j.state = .released → j.sentAs = some g → f.segIndex = 0 → c.low < f.seq →
          (s.egress c.tenant).isSome = true → GoesTo frame (fun t => FarSame s t ∧ t.jobs = s.jobs ∧ s.tx.length < t.tx.length)) ∧
        (f.kind ≠ 0x6 → s.findJob ⟨slot, f.seq⟩ = none → c.seen.contains f.seq = false →
          (∀ st d, u.classify c' f pl = some (st, d) → GoesTo frame (fun t => FarSame s t ∧
            (uncached st = true ∨ c'.inRange f.seq = false →
              t = { s with chans := t.chans, jobs := t.jobs, tx := t.tx, waits := t.waits } ∧
              ((s.egress c.tenant).isSome = true → s.tx.length < t.tx.length) ∧
              (f.needsAck = false → (s.egress c.tenant).isSome = false → t.waits.length = s.waits.length + 1) ∧
              ∀ c'', Map.find t.chans slot = some c'' → c''.high = if c'.inRange f.seq then Nat.max c.high f.seq else c.high) ∧
            (uncached st = false → c'.inRange f.seq = true →
              ∃ j, t.findJob ⟨slot, f.seq⟩ = some j ∧ j.state = .done ∧ j.status = st ∧ j.detail = d))) ∧
          (u.classify c' f pl = none → GoesTo frame (fun t => FarSame s t ∧ t.order = s.order + 1 ∧
            ∃ j, t.findJob ⟨slot, f.seq⟩ = some j ∧ j.tenant = c.tenant ∧ j.queue = f.queue ∧ j.opcode = f.opcode ∧ j.key = f.key ∧ j.order = s.order ∧
              (f.segCount = 1 → pl.length = f.length → j.state = .queued ∧ j.payload = pl) ∧
              (1 < f.segCount → pl.length ≤ f.length → j.state = .reassembling ∧ Map.find j.segs f.segIndex = some pl) ∧
              (f.length < pl.length → j.state = .done ∧ j.status = 0x24) ∧
              (f.segCount = 1 → pl.length < f.length → j.state = .done ∧ j.status = 0x25))))))) ∧
  ∀ (s : State), s.runs = true →
    (∀ (r : JobRef) (j : Job), s.findJob r = some j →
      (j.state = .reassembling → s.rd 0x1600 2 * 1000000 ≤ s.clk.datum - j.firstAt → GoesTo (exec (.reassemblyTimeout (.message r)) s) (fun t =>
        t.findJob r = none ∧ (∀ c, Map.find t.chans r.chan = some c → r.seq ∉ c.seen) ∧ t = { s with jobs := t.jobs, chans := t.chans, dict := t.dict } ∧
          ∀ x, x ≠ r → t.findJob x = s.findJob x)) ∧
      (∀ c, j.state = .done → Map.find s.chans r.chan = some c → c.state ≠ .closing → (s.egress c.tenant).isSome = true →
        s.orderReady r.chan r.seq c = true → GoesTo (exec (.completionRelease r) s) (fun t => s.tx.length < t.tx.length ∧ FarSame s t ∧
          (c.low < r.seq → ∃ j', t.findJob r = some j' ∧ j'.state = .released ∧ j'.sentAs.isSome = true)))) ∧
    (∀ (r : PartRef) (x : Partial), s.findPart r = some x → s.rd 0x1600 2 * 1000000 ≤ s.clk.datum - x.firstAt → Map.wf s.dict = true →
      GoesTo (exec (.reassemblyTimeout r) s) (fun t => t.findPart r = none ∧ t.rd 0x1600 0x13 = (s.rd 0x1600 0x13 + 1) % 2 ^ 64 ∧
        t = { s with parts := t.parts, dict := t.dict, grp := t.grp }))

/-- The handshake completes: a request over the tenant's rate is counted, one during a tenant reset or that fails a check is answered with its status, another
waits for its shared secrets, with its work charged to the tenant; the reply then opens a PENDING channel with the slot's generation and the defaults of the
dictionary, waits for a DRBG that does not serve for at most 2,500 cycles, or gives the status of the tenant's reset, its state, FAMINE, or check 9 or 10; a
row whose request is not there changes nothing (R77-R86). Where the spec leaves a point open or is read by inference, this follows the model's choice in
logs 5, 29, 82, 102, 104 and 129. It states that these forms complete: handshakeRequest, handshakeReply. -/
def Obligations.HandshakesComplete : Prop :=
  (∀ (s : State) (r : HsReq),
    let o := exec (.handshakeRequest r) s
    let u := { s with hsIn := s.hsIn.erase r }
    let comes := s.runs = true ∧ s.linkUp r.port = true ∧ r.tenant < 64 ∧ s.hsIn.contains r = true
    (comes → s.hsOverRate r.tenant = true → o = .next (u.inc (0x1800 + r.tenant) 0x35 1)) ∧
    (comes → s.hsOverRate r.tenant = false → GoesTo o (fun t => FarSame s t ∧ t.chans = s.chans ∧ t.jobs = s.jobs ∧
      t.hsIn = u.hsIn ∧ (t.ten r.tenant).hsSec = s.clk.datum / 1000000000 ∧
      let answered := fun (st : Nat) => t.hs = s.hs ∧ HandshakeRefused s t r.port r.peer r.ident st
      if (s.ten r.tenant).resetting then answered 0x60
      else match s.hsCheck1 r, s.hsCheck2 r with
        | some st, _ => answered st
        | none, some st => answered st
        | none, none => t.tx = s.tx ∧
          (t.ten r.tenant).charge = ((s.ten r.tenant).charge.add (hsVerifyWork (hsSet r.body))).add hsKeyWork ∧
          ∃ h, t.hs = s.hs ++ [h] ∧ h.tenant = r.tenant ∧ h.ident = r.ident ∧ h.cookie = r.cookie ∧ h.body = r.body)) ∧
    (¬ comes → o = .next s)) ∧
  ∀ (s : State) (n ident : Nat) (src : Peer),
    let row := exec (.handshakeReply n ident src) s
    (s.runs = false ∨ s.findHs n ident src = none → row = .next s) ∧
    ∀ h, s.runs = true → s.findHs n ident src = some h →
      let g := tenantDrbg n
      let z := beNat (hsShare h (drbgOutput (s.drbg g) 32 (drawInput 0 0)))
      let refused := fun (st : Nat) => GoesTo row (fun t => FarSame s t ∧ t.chans = s.chans ∧ t.findHs n ident src = none ∧
        HandshakeRefused s t h.port h.peer ident st)
      ((s.ten n).resetting = true → refused 0x60) ∧
      ((s.ten n).resetting = false → s.rd (0x1800 + n) 1 ≠ 1 ∨ (h.enrol = true ∧ s.lifecycle ≠ 3) → refused 0x15) ∧
      ((s.ten n).resetting = false → s.rd (0x1800 + n) 1 = 1 → (h.enrol = true → s.lifecycle = 3) →
        (s.entropyState = 2 → refused 0x50) ∧
        (s.entropyState ≠ 2 →
          (s.serving g = false → (∀ w, h.stalledAt = some w → s.clk.fab < w + 2500) → h.tenant = n → row = .next ((s.hsStall h).askSeed g)) ∧
          (∀ w, s.serving g = false → h.stalledAt = some w → w + 2500 ≤ s.clk.fab → h.tenant = n → refused 0x50) ∧
          (s.serving g = true → h.tenant = n →
            (z = 0 → refused 0x15) ∧
            (z ≠ 0 → s.rd (0x1800 + n) 3 ≤ s.openChannels n ∨ s.freeSlot = none → refused 0x40) ∧
            (∀ slot, z ≠ 0 → s.openChannels n < s.rd (0x1800 + n) 3 → s.freeSlot = some slot → GoesTo row (fun t =>
              FarSame s t ∧ t.findHs n ident src = none ∧ s.tx.length < t.tx.length ∧ ∃ c, Map.find t.chans slot = some c ∧ c.tenant = h.tenant ∧
                c.gen = s.slotGen slot ∧ c.role = h.role ∧ c.state = .pending ∧ c.floor = 0 ∧ c.high = 0 ∧ c.lastAuth = s.clk.datum ∧
                c.grant ≤ s.rd 0x1600 3 ∧ 100 ≤ c.keepalive ∧ c.keepalive ≤ 60000 ∧ ∀ x, x ≠ slot → Map.find t.chans x = Map.find s.chans x)))))

/-- Channel timers and CONTROL operations complete: PING, SUBSCRIBE, SET_KEEPALIVE and RETIRE answer on the channel; CLOSE drains it and frees it when what
stood before is released; CLOSE_NOW and the expiries close it abortively; a tenant reset ends the tenant's jobs and zeroises its keys and DRBG (R86-R91,
R94, R99-R101). Where the spec leaves a point open or is read by inference, this follows the model's choice in logs 8, 70, 87 and 130. It states that these
forms complete: pendingExpiry, keepaliveExpiry, ping, close, closeDrained, closeNow, retire, subscribe, tenantReset, setKeepalive. -/
def Obligations.ChannelsComplete : Prop :=
  ∀ (s : State) (n : Nat) (c : Channel), s.runs = true → Map.find s.chans n = some c → Map.wf s.chans = true →
    (c.state = .pending → 2000000000 ≤ s.clk.datum - c.lastAuth → Aborts (exec (.pendingExpiry n) s) s n c) ∧
    (c.state = .opened ∨ c.state = .draining → c.keepalive * 1000000 ≤ s.clk.datum - c.lastAuth → Aborts (exec (.keepaliveExpiry n) s) s n c) ∧
    (∀ q x, c.closeSeq = some q → s.findJob ⟨n, q⟩ = some x → c.state = .draining → x.state = .queued → (s.egress c.tenant).isSome = true →
      (∀ y ∈ s.jobs, y.chan = n → y.seq ≠ q → y.order < x.order → y.state = .released) →
      GoesTo (exec (.closeDrained n) s) (fun t => FarSame s t ∧ ChannelGone s t n c ∧ s.tx.length < t.tx.length)) ∧
    ∀ (r : JobRef) (j : Job), r.chan = n →
      let becomes := fun (t : State) (c' : Channel) => t.chans = Map.put s.chans n c'
      (s.control r 1 = some (j, c) → Ends (exec (.ping r) s) s j 0 (beBytes 10 (time80 s.clk.datum) ++ beBytes 1 s.quality)) ∧
      (s.control r 2 = some (j, c) → exec (.close r) s = .next { s with chans := Map.put s.chans n { c with state := .draining, closeSeq := some j.seq } }) ∧
      (s.control r 3 = some (j, c) → Aborts (exec (.closeNow r) s) s n c) ∧
      (s.control r 4 = some (j, c) → GoesTo (exec (.retire r) s) (fun t => JobDone t r 0 0 [] j.key ∧ FarSame s t ∧ t.tx = s.tx ∧
        (∀ x, x.chan ≠ n → t.findJob x = s.findJob x) ∧ ∃ c', Map.find t.chans n = some c' ∧ c'.floor = Nat.max c.floor (Nat.min (fieldAt j.payload 0 8) c.high) ∧
          ∀ x ∈ t.jobs, x.chan = n → x.state = .released → c'.low < x.seq)) ∧
      (s.control r 5 = some (j, c) → GoesTo (exec (.subscribe r) s) (fun t => JobDone t r 0 0 (beBytes 4 c.mask) j.key ∧ JobFrame s t r ∧
        becomes t { c with mask := grantedMask c.role (fieldAt j.payload 0 4) })) ∧
      (s.control r 8 = some (j, c) →
        let ms := Nat.min 60000 (Nat.max 100 (fieldAt j.payload 0 4))
        GoesTo (exec (.setKeepalive r) s) (fun t => JobDone t r 0 0 (beBytes 4 ms) j.key ∧ JobFrame s t r ∧ becomes t { c with keepalive := ms })) ∧
      (s.control r 6 = some (j, c) →
        let m := fieldAt j.payload 0 1
        (64 ≤ m ∨ (c.role ≠ 1 ∧ (c.role ≠ 2 ∨ m ≠ c.tenant)) → Ends (exec (.tenantReset r) s) s j 0x15 []) ∧
        (m < 64 → c.role = 1 ∨ (c.role = 2 ∧ m = c.tenant) → GoesTo (exec (.tenantReset r) s) (fun t => FarSame s t ∧
          ((s.ten m).resetting = true → t = { s with tenants := t.tenants } ∧ (t.ten m).resetReqs = (s.ten m).resetReqs ++ [r]) ∧
          ((s.ten m).resetting = false → (∃ x ∈ s.jobs, x.tenant = m ∧ x.running = true) → (t.ten m).resetting = true ∧
            ∀ x ∈ t.jobs, x.tenant = m → x.live = true → x.running = true ∨ x.ref ∈ (t.ten m).resetReqs) ∧
          ((s.ten m).resetting = false → (∀ x ∈ s.jobs, x.tenant = m → x.running = false) → Map.wf s.keys.vol = true → (t.ten m).resetting = false ∧
            t.chansOf m = [] ∧ (t.drbg (tenantDrbg m)).state = 0 ∧ ∀ p ∈ t.keys.vol, keyTenant p.2.handle ≠ m))))

/-- READ and DESCRIBE complete: a payload that breaks its format, an epoch no longer held or an item that may not be read is refused with its position; else the
result is the values asked for, and a read of RAW_SAMPLE takes the buffer (R108, R109, R111, R115, R118, R302). Where the spec leaves a point open or is
read by inference, this follows the model's choice in logs 79, 80 and 131. It states that these forms complete: read, describe, rawSampleRead. -/
def Obligations.DictionaryReadsComplete : Prop :=
  ∀ (s : State) (r : JobRef) (x : Job) (c : Channel),
    (s.dictJob r 1 = some (x, c) →
      (parseRead x.payload = none → GoesTo (exec (.read r) s) (fun t => DictRefused s t r x ⟨0x26, 0xFF, 0⟩ ∧ JobFrame s t r)) ∧
      (∀ e items q, parseRead x.payload = some (e, items) → s.readRefused ⟨c.role, c.tenant, false, false⟩ e items = some q →
        GoesTo (exec (.read r) s) (fun t => DictRefused s t r x q ∧ JobFrame s t r)) ∧
      (∀ e items, parseRead x.payload = some (e, items) → s.readRefused ⟨c.role, c.tenant, false, false⟩ e items = none →
        (∀ it ∈ items, groupItem it = false) →
        let answered := fun (t : State) => JobDone t r 0 0 (s.readResult e items) x.key ∧ t.keys = s.keys ∧ t.lc = s.lc ∧ t.trav = s.trav ∧ t.flash = s.flash
        ((∀ it ∈ items, it.1 ≠ 0x1202 ∧ it.1 ≠ 0x2810) → GoesTo (exec (.read r) s) (fun t => answered t ∧ t.dict = s.dict ∧ t.ent = s.ent ∧
          t.free = s.free ∧ t.chans = s.chans ∧ t.tx = s.tx)) ∧
        ((∃ it ∈ items, it.1 = 0x2810 ∧ it.2.1 = 1) → GoesTo (exec (.rawSampleRead r) s) (fun t => answered t ∧ t.ent = { s.ent with raw := none })))) ∧
    (s.dictJob r 4 = some (x, c) →
      let b := x.payload
      (b.length ≠ 4 ∨ fieldAt b 3 1 ≠ 0 → GoesTo (exec (.describe r) s) (fun t => DictRefused s t r x ⟨0x26, 0xFF, 0⟩ ∧ JobFrame s t r)) ∧
      (b.length = 4 → fieldAt b 3 1 = 0 →
        (descriptor (fieldAt b 0 2) (fieldAt b 2 1) = none → GoesTo (exec (.describe r) s) (fun t => DictRefused s t r x ⟨0x71, 0xFF, 0⟩)) ∧
        (∀ d, descriptor (fieldAt b 0 2) (fieldAt b 2 1) = some d → Ends (exec (.describe r) s) s x 0 d)))

/-- WRITE, SEALED_WRITE, a clear of an event entry and JOURNAL_COMMIT complete: a write refused leaves the dictionary as it was; one that changes a persistent
entry is journalled and applied when its commit mark is programmed; the epoch rises by one and the entries read as written; a clear leaves the count and
takes the flags of its mask (R107-R113, R116, R117, R119, R120). Where the spec leaves a point open or is read by inference, this follows the model's choice
in logs 79 and 80. It states that these forms complete: write, sealedWrite, journalCommit, eventClear. -/
def Obligations.DictionaryWritesComplete : Prop :=
  ∀ (s : State) (r : JobRef) (x : Job) (c : Channel),
    (s.dictJob r 2 = some (x, c) → s.myTurn x = true →
      (parseWrite x.payload = none → GoesTo (exec (.write r) s) (fun t => DictRefused s t r x ⟨0x26, 0xFF, 0⟩)) ∧
      (∀ ws e, parseWrite x.payload = some ws → s.txnRefused ⟨c.role, c.tenant, false, false⟩ ws = some e →
        GoesTo (exec (.write r) s) (fun t => DictRefused s t r x e))) ∧
    (∀ ws, TxnRuns s r x c ws → transitionOf ws = none →
      let g : Journal := ⟨some r, ws, none, x.payload⟩
      (g.recorded = true → s.ringBusy = true → GoesTo (exec (.write r) s) (fun t => r ∈ t.trav.waiters ∧ t.dict = s.dict ∧ t.dtx = s.dtx)) ∧
      ((g.recorded && s.ringBusy) = false → journalled ws = true → GoesTo (exec (.write r) s) (fun t => Journalled s t g)) ∧
      (∀ w idx sub count mask, ws = [w] → w.typ = 15 → w.idx = idx → w.sub = sub → beNat w.val = count * 256 + mask → mask < 256 → journalled ws = false →
        g.policy = false → idx < 0x4400 → GoesTo (exec (.eventClear r idx sub count mask) s) (fun t => TxnDone s t r x ∧
          t.rd idx sub / 256 = s.rd idx sub / 256 ∧ ∀ i, i < 8 → bitAt (t.rd idx sub) i = (bitAt (s.rd idx sub) i && !bitAt mask i)))) ∧
    (s.dictJob r 3 = some (x, c) → s.myTurn x = true → s.writing r = false → s.myIndex = none →
      GoesTo (exec (.sealedWrite r) s) (fun t => SealedServed s t r x c)) ∧
    (∀ g, s.runs = true → s.dtx.journal = some g → g.j = some r → s.findJob r = some x → x.live = true → x.kind = 0x4 →
      s.awaitsReset r = false → Map.wf s.dict = true →
      GoesTo (exec (.journalCommit false) s) (fun t => JobDone t r 0x51 0xFF (failRecord s.dtx.epoch 0xFF 0) x.key ∧ t.dict = s.dict ∧
        t.dtx = { s.dtx with journal := none }) ∧
      ((∀ w ∈ g.writes, quiet w ∧ ∀ w' ∈ g.writes, w'.idx = w.idx → w'.sub = w.sub → w' = w) → GoesTo (exec (.journalCommit true) s) (fun t =>
        TxnDone s t r x ∧ t.dtx.journal = none ∧
          ∀ w ∈ g.writes, ∀ row, rowOf w.idx w.sub = some row → row.access ≠ 2 → row.typ ≠ 15 → row.typ ≠ 16 → t.rd w.idx w.sub = beNat w.val)))

/-- The writes with rows of their own complete with the effects of the entries they write: noise sources restart and stop, DRBGs are held for a reseed,
persistent keys go, lines are released by force or asserted to be measured again, windows close, QUIESCED ends, a warm reset begins, engines are fenced and
released (R75, R220, R244, R294, R299, R331, R346, R350, R351, R412, R444, R449). The writes with rows of their own that are journalled, removed with a
second write, sealed, or start a transition of the life cycle complete (R75, R119, R244, R346, R394-R399). Where the spec leaves a point open or is read by
inference, this follows the model's choice in logs 79, 81 and 127. It states that these forms complete: tenantStateWrite, journalCommit, floorRaise,
install, discard, remove, restart, disable, reseedAll, keysReset, forceRelease, remeasure, updateWindowOpen, updateWindowClose, transitionRelease,
transitionReturn, transitionTerminal, transitionFieldSeal, resume, warmReset, fenceRequest, fenceRelease. -/
def Obligations.NamedWritesOfEveryKindComplete : Prop :=
  (∀ (s : State) (r : JobRef) (x : Job) (c : Channel) (w : DWrite), TxnRuns s r x c [w] →
    let v := beNat w.val
    let on := fun (idx sub : Nat) => w.idx = idx ∧ w.sub = sub
    let does := fun (i : Instr) (P : State → Prop) => GoesTo (exec i s) (fun t => TxnDone s t r x ∧ P t)
    (∀ n, n < 16 → on (0x2820 + n) 4 → v = 1 → does (.restart r n) (fun t =>
      t.srcState n = (if s.srcState n = 3 ∨ s.srcState n = 0 then 1 else s.srcState n))) ∧
    (∀ n, n < 16 → on (0x2820 + n) 5 → v = 1 → does (.disable r n) (fun t => t.srcState n = (if s.srcState n = 4 then 4 else 0))) ∧
    (on 0x2800 5 → v = 1 → does (.reseedAll r) (fun t => ∀ d, d < 80 → (s.drbg d).state = 1 ∨ (s.drbg d).state = 2 → (t.drbg d).state = 2)) ∧
    (on 0x2C00 8 → v = 1 → s.ringBusy = false → does (.keysReset r) (fun t => t.rd 0x1010 5 = 0 ∧ t.keys.hasSecret = true ∧
      (∀ p ∈ t.keys.recs, 65536 ≤ p.1) ∧ ∀ h ∈ t.keys.loaded, keyScope h = 2)) ∧
    (on 0x3300 0x22 → s.ringBusy = false → does (.forceRelease r v) (fun t => ∀ l, l < 32 → bitAt v l = true →
      t.released l = true ∨ l ∈ t.gate.forced)) ∧
    (on 0x3300 0x23 → s.ringBusy = false → does (.remeasure r v) (fun t => ∀ l, l < 32 → bitAt v l = true → t.released l = false)) ∧
    (∀ n, n < 8 → on 0x3200 (0x10 + 4 * n) → v = 0xFF → s.ringBusy = false → does (.updateWindowClose r n) (fun t => t.windowOpen n = false)) ∧
    (on 0x4020 3 → v = 1 → does (.resume r) (fun t => t.tamp.quiesce = false)) ∧
    (on 0x2421 1 → v = 2 → does (.discard r) (fun t => t.kern = { s.kern with staged := [] })) ∧
    (on 0x2421 1 → v = 1 → s.ringBusy = false → does (.install r) (fun t => t.kern = { s.kern with verifying := some s.stagedImage } ∧ t.rd 0x2421 3 = 1)) ∧
    (on 0x2400 5 → does (.floorRaise r v) (fun t => t.lc = { s.lc with floor := v })) ∧
    (∀ n m, n < 16 → on (0x2000 + n) 6 → s.clusterFenced n = false →
      (m ≠ 0 → (∀ i, i < 4 → bitAt m i = true → bitAt v i = true) → does (.fenceRequest r n m) (fun t => ∀ i, i < 4 → bitAt v i = true →
        (t.engine (4 * n + i)).fencing = true)) ∧
      (m ≠ 0 → (∀ i, i < 4 → bitAt m i = true → bitAt v i = false) → does (.fenceRelease r n m) (fun t => ∀ i, i < 4 → bitAt v i = false →
        (t.engine (4 * n + i)).ownerFence = false))) ∧
    (on 0x1201 2 → v = 1 → GoesTo (exec (.warmReset r) s) (fun t => t.phase = .down ∧ t.rd 0x1201 1 = 2 ∧ t.jobs = [] ∧ t.chans = [] ∧ t.keys.vol = [] ∧
      t.clk.datum = s.clk.datum ∧ t.lc.fuses = s.lc.fuses ∧ t.dtx.epoch = s.dtx.epoch + 2)) ∧
    (∀ n, n < 64 → on (0x1800 + n) 1 → v < 2 → GoesTo (exec (.tenantStateWrite r n (v == 1)) s) (fun t => Journalled s t ⟨some r, [w], none, x.payload⟩))) ∧
  (∀ (s : State) (r : JobRef) (x : Job) (c : Channel),
    (∀ w1 w2 b, TxnRuns s r x c [w1, w2] → w1.idx = 0x2421 → w1.sub = 1 → beNat w1.val = 3 → w2.idx = 0x2421 → w2.sub = 2 → beNat w2.val = b →
      Map.wf s.kern.bound = true → s.ringBusy = false → GoesTo (exec (.remove r b) s) (fun t => TxnDone s t r x ∧
        Map.find t.kern.bound b = none ∧ ∀ n, n ≠ b → Map.find t.kern.bound n = Map.find s.kern.bound n)) ∧
    (∀ g w n, s.runs = true → s.dtx.journal = some g → g.writes = [w] → g.sealedAs = none → n < 64 → w.idx = 0x1800 + n → w.sub = 1 → beNat w.val = 0 →
      (s.ten n).resetting = false → (s.ten n).resetReqs = [] → Map.wf s.dict = true → GoesTo (exec (.journalCommit true) s) (fun t =>
        t.dtx.epoch = s.dtx.epoch + 1 ∧ t.rd (0x1800 + n) 1 = 0 ∧
        ∀ j ∈ t.jobs, j.tenant = n → j.live = true → j.running = true ∨ g.j = some j.ref ∨ s.asksSame n j = true)) ∧
    (∀ n chan start len expires, n < 8 → s.dictJob r 3 = some (x, c) → s.myTurn x = true → s.writing r = false → s.myIndex = none →
      (let sets' := fun (i v : Nat) => ∃ w ∈ x.writes, w.idx = 0x3200 ∧ w.sub = 0x10 + 4 * n + i ∧ beNat w.val = v
       sets' 0 chan ∧ sets' 1 start ∧ sets' 2 len ∧ sets' 3 expires) →
      GoesTo (exec (.updateWindowOpen r n chan start len expires) s) (fun t => SealedServed s t r x c)) ∧
    ∀ w, TxnRuns s r x c [w] → w.idx = 0x5000 → w.sub = 1 → s.ringBusy = false →
      let v := w.val
      let moves := fun (i : Instr) => GoesTo (exec i s) (fun t => match (s.transitionCheck v).2 with
        | .error st => ∃ p, JobDone t r st 0 (failRecord s.dtx.epoch p 0) x.key ∧ t.lc = s.lc
        | .ok m => t.dtx.epoch = s.dtx.epoch + 1 ∧ t.lc = { s.lc with prog := some m.code, record := some (m.code, s.lifecycle, m.target, sha3 v), result := 1 })
      (fieldAt v 0 1 = 1 → moves (.transitionRelease r v)) ∧ (fieldAt v 0 1 = 2 → moves (.transitionReturn r v)) ∧
      (fieldAt v 0 1 = 3 → moves (.transitionTerminal r v)) ∧ (fieldAt v 0 1 = 4 → moves (.transitionFieldSeal r v)))

/-- The entropy function's events complete: warm-up, a window that passes or fails its tests, a repetition failure, a conditioned block, the refill of the raw
sample buffer, the instantiation and reseed of the DRBG whose turn it is, and the end of a job that has waited 2 ms (R289-R302). Where the spec leaves a
point open or is read by inference, this follows the model's choice in logs 6, 8, 37, 38, 106 and 126. It states that these forms complete:
sourceWarmupDone, sourceWindowEnd, repetitionCountFail, blockConditioned, rawSampleRefill, drbgInstantiate, drbgReseed, entropyWaitTimeout. -/
def Obligations.EntropyEventsComplete : Prop :=
  ∀ (s : State) (n : Nat), n < 16 → s.phase ≠ .down → s.clk.gated = false → Map.wf s.dict = true →
    let x := s.source n
    let e := 0x2820 + n
    let fails := fun (o : Out) (cause : Nat) => GoesTo o (fun t => t.rd e 2 = s.rd e 2 + 1 ∧ t.srcState n = (if 3 ≤ s.rd e 2 + 1 then 4 else 3) ∧
      t.rd e 3 = (if s.srcState n = 1 then cause + 2 else cause) ∧ t.source n = sourceInit ∧ ∀ m, m ≠ n → t.source m = s.source m)
    (s.srcState n = 1 → x.warm = false → exec (.sourceWarmupDone n) s = .next (s.setSource n { x with warm := true })) ∧
    (∀ b : List Bool, s.srcState n = 2 ∨ (s.srcState n = 1 ∧ x.warm = true) → b.length = 1024 →
      let r := (repetition 0 x.lastBit x.run b).1
      let p := proportion (b.headD false) 0 0 b
      (r = none → p = none → GoesTo (exec (.sourceWindowEnd n b) s) (fun t => t.srcState n = 2 ∧ t.rd e 6 = (s.rd e 6 + 1) % 2 ^ 64 ∧
        ((t.source n).left = x.left ++ b ∨ (t.source n).left = x.left ++ b.drop 256) ∧ t.ent.pool = s.ent.pool)) ∧
      (∀ i, r = some i → (∀ k, p = some k → i ≤ k) → fails (exec (.sourceWindowEnd n b) s) 1) ∧
      (∀ k, p = some k → (∀ i, r = some i → k < i) → fails (exec (.sourceWindowEnd n b) s) 2)) ∧
    (s.srcState n = 1 ∨ s.srcState n = 2 → fails (exec (.repetitionCountFail n) s) 1) ∧
    (s.srcState n = 2 → 640 ≤ x.left.length → GoesTo (exec (.blockConditioned n) s) (fun t => (t.source n).left = x.left.drop 640 ∧
      t.rd 0x2800 7 = (s.rd 0x2800 7 + 1) % 2 ^ 64 ∧
      t.ent.pool = if s.ent.pool.length < 64 then s.ent.pool ++ [beNat (prim 32 .sha3_256 [packSamples 80 x.left])] else s.ent.pool)) ∧
    (∀ q, s.ent.rawNext = some q → exec (.rawSampleRefill q.2) s = .next { s with ent := { s.ent with raw := some q, rawNext := none } }) ∧
    (∀ b rest q qs, s.entropyState = 1 → s.ent.pool = b :: rest → servedOrder s.ent.reqs = q :: qs → (∀ z ∈ s.ent.reqs, z.cls ≠ 3) →
      (q.inst = true → GoesTo (exec (.drbgInstantiate q.drbg) s) (fun t => (t.drbg q.drbg).state = 1 ∧ (t.drbg q.drbg).calls = 0 ∧ t.ent.pool = rest ∧
        t.ent.reqs = qs ∧ t.ent.instCount = s.ent.instCount + 1 ∧ t = { s with ent := t.ent } ∧ ∀ d, d ≠ q.drbg → t.drbg d = s.drbg d)) ∧
      (q.inst = false → GoesTo (exec (.drbgReseed q.drbg) s) (fun t =>
        (t.drbg q.drbg).state = (if qs.any (fun z => z.drbg == q.drbg && !z.scheduled && !z.inst) then 2 else 1) ∧ (t.drbg q.drbg).calls = 0 ∧
        (t.drbg q.drbg).reseeds = (s.drbg q.drbg).reseeds + 1 ∧ (t.drbg q.drbg).last = s.clk.datum ∧ t.ent.pool = rest ∧ t.ent.reqs = qs ∧
        t = { s with ent := t.ent } ∧ ∀ d, d ≠ q.drbg → t.drbg d = s.drbg d))) ∧
    (∀ (r : JobRef) (j : Job) (w : Nat), s.findJob r = some j → j.state = .queued → j.kind = 0x1 → j.waitSince = some w →
      Nat.max w (s.drbg (tenantDrbg j.tenant)).heldAt + 2500000 ≤ s.clk.fab → s.serving (tenantDrbg j.tenant) = false → Calm s → Ends (exec (.entropyWaitTimeout r) s) s j 0x50 [])

/-- Key update messages complete: the first failing check is the status, a repeated KUM answers its receipt again, one that passes waits in its queue for its
domain or goes to its commit, which writes the mark and then leaves the record, the counter and a receipt, or, where the mark is not written, ends with
MEM_FAULT and changes no record (R320-R324). A persistent record is loaded where it fits; a committed reservation raises the key's limit, and one that fails
ends the jobs that wait for it with MEM_FAULT (R168-R172, R318, R328). Where the spec leaves a point open or is read by inference, this follows the model's
choice in logs 23, 31, 90, 116, 124, 127 and 132. It states that these forms complete: reservationCommit, kumCreate, kumImport, kumReplace, kumDestroy,
kumSetAttr, kumCommit, keyLoad. -/
def Obligations.KeyUpdatesLoadsAndReservationsComplete : Prop :=
  (∀ (s : State) (r : JobRun) (j : Job),
    (JobRuns s r.j j → j.opcode = 0x1014 → kumScope j.payload ≠ 2 → (∀ c ∈ s.keys.commits, c.j ≠ j.ref) →
      s.writing j.ref = false →
      let b := j.payload
      let early := kumEarly s j b
      let served := fun (i : Instr) => GoesTo (exec i s) (fun t =>
        let ended := fun (st : Nat) (out : Bytes) => JobDone t j.ref st (detailOf st) out j.key ∧ JobFrame s t j.ref ∧ t.keys.recs = s.keys.recs ∧
          t.keys.ctr = s.keys.ctr
        if kumFirst s j b = 0 ∧ s.earlierKum j = true then
          (∃ x, t.findJob j.ref = some x ∧ x.state = .queued ∧ x.kumChecked = true ∧ x.units = [] ∧ x.segs = j.segs) ∧ t.keys = s.keys
        else if early = 0x01 then ∃ p, Map.find s.keys.lastKum (kumDomain b) = some p ∧ ended 0x01 p.2
        else if early ≠ 0 then ended early []
        else match s.kumFind b with
          | .refused st => if uncached st then t.findJob j.ref = none ∧ t.keys.recs = s.keys.recs ∧ t.keys.ctr = s.keys.ctr ∧
                (∀ c, Map.find s.chans j.chan = some c → (s.egress c.tenant).isSome = true → s.tx.length < t.tx.length)
              else ended st []
          | .found k p => t.findJob j.ref = some j ∧ t = { s with keys := t.keys } ∧ t.keys.recs = s.keys.recs ∧ t.keys.ctr = s.keys.ctr ∧
              t.keys.commits = s.keys.commits ++ [⟨kumDomain b, kumOp b, j.ref, k, p, fieldAt b 56 8, sha3 b, false⟩])
      (kumOp b = 1 → served (.kumCreate r)) ∧ (kumOp b = 2 → served (.kumImport r)) ∧ (kumOp b = 3 → served (.kumReplace r)) ∧
      (kumOp b = 4 → served (.kumDestroy r)) ∧ (kumOp b = 5 → served (.kumSetAttr r))) ∧
    (∀ (d : Nat) (c : KumCommit), s.runs = true → s.keys.commits.find? (fun c => c.domain == d) = some c → s.findJob c.j = some j → j.state = .running →
      Calm s → Map.wf s.keys.recs = true →
      let k := s.commitKey c
      (∀ ok, c.marked = true → GoesTo (exec (.kumCommit d ok) s) (fun t => JobDone t c.j 0 0 (beBytes 4 k.handle ++ beBytes 8 c.counter ++ beBytes 48 c.kumDigest) j.key ∧
        Map.find t.keys.recs (recKey k.handle) = (if c.op = 4 then none else some k) ∧ Map.getD t.keys.ctr (handleDomain k.handle) 0 = c.counter ∧
        (∀ n, n ≠ recKey k.handle → Map.find t.keys.recs n = Map.find s.keys.recs n) ∧ ∀ x ∈ t.keys.commits, x.domain ≠ d)) ∧
      (c.marked = false → s.debug = false → GoesTo (exec (.kumCommit d true) s) (fun t => t = { s with keys := t.keys } ∧ t.keys.recs = s.keys.recs ∧
        t.keys.ctr = s.keys.ctr ∧ t.keys.commits.find? (fun c => c.domain == d) = some { c with marked := true } ∧
        ∀ p ∈ t.places (recKey c.key.handle), p.committed = true)) ∧
      (c.marked = false → s.debug = false → j.kind ≠ 0x4 → GoesTo (exec (.kumCommit d false) s) (fun t => JobDone t c.j 0x51 0xFF [] j.key ∧ t.keys.recs = s.keys.recs ∧ t.keys.ctr = s.keys.ctr ∧
        ∀ x ∈ t.keys.commits, x.domain ≠ d)))) ∧
  (∀ (s : State) (h : Nat) (k : KeyRec), s.runs = true → s.key h = some k →
    (∀ w, keyScope h ≠ 0 → s.wantedKey h = some w →
      s.materialFits w.words (if w.typ = 0x22 then 1 else 0) (if w.typ = 0x1A then 1 else 0) = true →
      GoesTo (exec (.keyLoad h) s) (fun t => t = { s with keys := { s.keys with loaded := t.keys.loaded, oldHeld := t.keys.oldHeld } } ∧
        t.keyPresent w = true ∧ (w.digest = k.digest → t.keys.loaded = s.keys.loaded ++ [h]))) ∧
    (∀ q, s.keys.reserves.find? (fun x => x.handle == h) = some q → keyScope h ≠ 2 →
      let u := { s with keys := { s.keys with reserves := s.keys.reserves.filter (fun x => !(x.handle == h && x.uses == q.uses)) } }
      GoesTo (exec (.reservationCommit h true) s) (fun t => t = { s with keys := t.keys } ∧ t.keys.reserves = u.keys.reserves ∧
        t.key h = some (if q.uses then { k with usesLimit := q.limit } else { k with limit := q.limit })) ∧
      GoesTo (exec (.reservationCommit h false) s) (fun t => t.keys = u.keys ∧
        ∀ (r : JobRef) (j : Job), s.findJob r = some j → j.key = h → j.state = .queued → j.kind = 0x1 → u.isHead j = true →
          u.awaitsReservation j = true → JobDone t r 0x51 0xFF [] h)))

/-- A STREAM message completes: absorbed in part order, FINISH answering the digest, or refused by its stream: a kept refusal is its completion, an uncached one
is sent at once, or waits for a port, and leaves its sequence free (R274-R280, R285). Where the spec leaves a point open or is read by inference, this
follows the model's choice in logs 5 and 70. It states that these forms complete: streamMessage. -/
def Obligations.StreamMessagesComplete : Prop :=
  ∀ (s : State) (r : JobRun) (j : Job), s.findJob r.j = some j → j.kind = 0x3 → Calm s →
    let b := j.payload
    let row := exec (.streamMessage r) s
    (∀ st, j.state = .queued → s.isHead j = true → s.streamRefusal j = some st →
      (uncached st = false → Ends row s j st []) ∧
      (uncached st = true → ∀ c, Map.find s.chans j.chan = some c → GoesTo row (fun t => t.findJob j.ref = none ∧
        if (s.egress c.tenant).isSome = true then s.tx.length < t.tx.length else t.tx = s.tx ∧ t.waits.length = s.waits.length + 1))) ∧
    (∀ c, j.state = .running → j.kernel = none → s.clk.gated = false → s.latchedOn j 1 = false → s.latchedOn j 2 = false → streamExists j.opcode = true →
      s.streamRefusal j = none → s.streamCtx j = some c →
      let data := c.data ++ streamData j.opcode (fieldAt c.params 0 4) b
      let ends := fun (out : Bytes) (c' : DStream) => GoesTo row (fun t => JobDone t j.ref 0 0 out j.key ∧ JobFrame s t j.ref ∧
        Map.find t.dstreams (streamKey j.chan (fieldAt b 0 1)) = some c' ∧
          ∀ n, n ≠ streamKey j.chan (fieldAt b 0 1) → Map.find t.dstreams n = Map.find s.dstreams n)
      (finishBit b = false → ends (beBytes 8 data.length) { c with data := data, part := c.part + 1, finished := false }) ∧
      (finishBit b = true → ends (finishValue j.opcode c (s.keySecret j) (slice b (streamBody b) (expectedLen j.opcode (fieldAt c.params 0 4))) data)
        { c with data := [], part := 0, finished := true }))

/-- Owner kernels complete: a job runs its kernel's microwords, a NOP stepping on to the next with its cycle and its waits charged, up to the EXIT that gives
its result; it stops at a safe point where an event is latched, and ends with ENGINE_FAULT at the header's worst cost; a committed image is bound, or stored
in the slot not in use (R229, R232, R238, R240, R243, R246). Where the spec leaves a point open or is read by inference, this follows the model's choice in
logs 8, 12, 43 and 128. It states that these forms complete: ownerKernelJob, ownerKernelCostLimit, kernelCommit. -/
def Obligations.OwnerKernelsComplete : Prop :=
  ∀ (s : State) (r : JobRef) (x : Job) (k : Kernel) (e : Nat),
    (s.kernelJob r = some (x, k, e) → (s.le e).job = some r → x.kind = 0x1 → Calm s →
      let l := s.le e
      let v := k.word (l.regs.upc - k.base)
      let a := l.areg (aIdx (BitVec.ofNat 5 (mwSrc2 v)))
      let faults := fun (i : Instr) => GoesTo (exec i s) (fun t => JobDone t r 0x54 0 [] x.key ∧ JobFrame s t r)
      let within := x.charged.le + (l.waited - l.billed) + 2 < k.cost.2.le ∧ (x.charged.hc = 0 ∨ x.charged.hc < k.cost.2.hc)
      let issues := within ∧ k.owns l.regs.upc = true ∧ l.waiting = none ∧ Map.wf l.streams = true ∧ (s.engine e).latched = [] ∧ s.wordBad e = false ∧
        (s.cluster (clusterOf e)).badWords.contains (true, 0) = false ∧ mwNano v = 0 ∧ s.nanoClean 0 = true ∧ s.nanoCycles 0 = 1 ∧ mwWait v = 0
      (k.cost.2.le ≤ x.charged.le + s.pathLeft e → faults (.ownerKernelCostLimit r)) ∧
      (x.charged.le + s.pathLeft e < k.cost.2.le → l.streams = [] → exec (.ownerKernelCostLimit r) s = .next s) ∧
      (k.cost.2.le ≤ x.charged.le → faults (.ownerKernelJob r)) ∧
      (within → k.owns l.regs.upc = true → bitAt v 46 = true → mwSeq v ≠ 7 → (s.engine e).latched ≠ [] → GoesTo (exec (.ownerKernelJob r) s) (fun t =>
        t.les = s.les ∧ ∃ x', t.findJob r = some x' ∧ x'.state = .running ∧ x'.charged = x.charged)) ∧
      (issues → mwSeq v = 0 → bitAt v 47 = false → 0x3000 ≤ l.regs.upc → l.regs.upc + 1 < 2 ^ 14 → k.owns (l.regs.upc + 1) = true →
        bitAt (k.word (l.regs.upc + 1 - k.base)) 46 = true → GoesTo (exec (.ownerKernelJob r) s) (fun t => (t.le e).regs.upc = l.regs.upc + 1 ∧
          (t.le e).job = some r ∧ ∃ x', t.findJob r = some x' ∧ x'.state = .running ∧ x'.charged.le = x.charged.le + (l.waited - l.billed) + 1)) ∧
      (issues → mwSeq v = 7 → a.sec = false →
        a.val ≤ l.outMax → GoesTo (exec (.ownerKernelJob r) s) (fun t => JobFrame s t r ∧ (t.le e).job = none ∧
          JobDone t r 0 0 ((List.range a.val).map (fun n => BitVec.ofNat 8 (octetAt (Map.getD l.output (n / 9) 0) (n % 9)))) x.key))) ∧
    (∀ k', s.runs = true → s.kern.verifying = some k' → s.rd 0x2421 3 ≠ 1 → fieldAt k'.image 4 1 = 2 ∨ s.rangeCheck k' = none → Map.wf s.dict = true →
      exec (.kernelCommit false) s = .next s ∧
      GoesTo (exec (.kernelCommit true) s) (fun t => t.kern.verifying = none ∧ t.rd 0x2421 3 = 3 ∧ t.rd 0x2421 5 = eventAdd (s.rd 0x2421 5) 1 ∧
        (fieldAt k'.image 4 1 ≠ 2 → Map.find t.kern.bound k'.binding = some k' ∧ ∀ n, n ≠ k'.binding → Map.find t.kern.bound n = Map.find s.kern.bound n) ∧
        (fieldAt k'.image 4 1 = 2 → if s.rd 0x2400 1 = 1 then t.kern.slotB = some ⟨k'.version, svnOf k', k'.image⟩ ∧ t.kern.slotA = s.kern.slotA
          else t.kern.slotA = some ⟨k'.version, svnOf k', k'.image⟩ ∧ t.kern.slotB = s.kern.slotB)))

/-- The traverse's jobs and events complete: FETCH and HEAD answer from the archive; CHECKPOINT makes one, or joins those held while one is signed; a slot that
is archived makes its record the head, one that fails goes to the next sector; a signed CHECKPOINT lets the held ones form the next; a transaction waits 1 s
for the ring at most (R357, R362-R364, R366-R370). Where the spec leaves a point open or is read by inference, this follows the model's choice in logs 76,
77, 114 and 118. It states that these forms complete: fetch, head, checkpoint, slotArchived, checkpointSigned, ringWaitTimeout. -/
def Obligations.TraverseOperationsComplete : Prop :=
  ∀ (s : State) (r : JobRef) (j : Job),
    (JobRuns s r j →
      (j.opcode = 0x3010 →
        let b := j.payload
        let start := fieldAt b 0 8
        let n := fieldAt b 8 2
        let sigs := bitAt (fieldAt b 10 1) 0
        let l := s.trav.archive.filter (fun x => decide (start ≤ x.seq))
        if 1 ≤ n ∧ n ≤ 2048 ∧ fieldAt b 10 1 < 2 ∧ fieldAt b 11 1 = 0 then
          ∃ rs : List Bench, rs <+: l ∧ rs.length ≤ n ∧ (∀ x ∈ rs, sigsOpen sigs x = false) ∧ (∀ i x y, rs[i]? = some x → rs[i + 1]? = some y → y.seq = x.seq + 1) ∧
            (∀ x, rs ++ [x] <+: l → rs.length = n ∨ 262112 < ((rs ++ [x]).map (fetched sigs)).flatten.length ∨
              sigsOpen sigs x = true ∨ ∃ y, rs.getLast? = some y ∧ x.seq ≠ y.seq + 1) ∧
            let first := (rs.head?.map (fun x => x.seq)).getD 0
            let next := (rs.getLast?.map (fun x => x.seq + 1)).getD start
            Ends (exec (.fetch r) s) s j 0 (beBytes 8 first ++ beBytes 8 next ++ beBytes 8 s.headSeq ++ beBytes 2 rs.length ++
              [BitVec.ofNat 8 ((if rs ≠ [] ∧ start < first then 1 else 0) + (if ∀ x ∈ s.trav.archive, x.seq < next then 2 else 0))] ++ beBytes 5 0 ++
              (rs.map (fetched sigs)).flatten)
        else Ends (exec (.fetch r) s) s j 0x26 []) ∧
      (j.opcode = 0x3011 → Ends (exec (.head r) s) s j 0
        (beBytes 8 s.headSeq ++ beBytes 8 s.trav.epoch ++ beBytes 8 s.epochFirst ++ beBytes 8 s.lastCheckpoint ++ beBytes 48 s.headDigest)) ∧
      (j.opcode = 0x3012 → (∀ d ∈ s.trav.demand, d.1 ≠ r) →
        (s.trav.signing = true → exec (.checkpoint r) s =
          .next { s with trav := { s.trav with demand := s.trav.demand ++ [(r, none)], held := orFlags s.trav.held 4 } }) ∧
        (s.trav.signing = false → s.trav.pending = [] → s.ringFull (1 + cosignSlots s.cosign) = false → GoesTo (exec (.checkpoint r) s) (fun t =>
          Checkpointed s t 4 ∧ (r, some s.trav.nextSeq) ∈ t.trav.demand ∧ t.findJob r = some j ∧
            t = { s with trav := t.trav, dict := t.dict, dtx := t.dtx, rwork := t.rwork })))) ∧
    (∀ b, s.runs = true → s.toArchive = some b → (b.archived = 0 ∨ b.signed = true) → Calm s →
      GoesTo (exec (.slotArchived true) s) (fun t => t.trav.nextSlot = s.trav.nextSlot + 1 ∧
        (b.archived = 0 → t.trav.archive.getLast? = some { b with archived := 1, slot := s.trav.nextSlot } ∧ t.headSeq = b.seq ∧ t.headDigest = b.hash) ∧
        (b.archived ≠ 0 → t.trav.archive = (makeSector s.trav.archive s.trav.nextSlot).map
          (fun (x : Bench) => if x.seq = b.seq then { b with archived := b.archived + 1 } else x))) ∧
      (Map.wf s.dict = true → GoesTo (exec (.slotArchived false) s) (fun t => t.trav = { s.trav with nextSlot := (s.trav.nextSlot / 32 + 1) * 32 } ∧
        t.rd 0x3800 0xA = eventAdd (s.rd 0x3800 0xA) 2 ∧ t = { s with trav := t.trav, dict := t.dict, dtx := t.dtx }))) ∧
    (∀ b, s.runs = true → s.trav.signing = true → s.trav.ring.find? (fun b => b.kind == 0x0C && !b.signed) = some b →
      let signed := fun (x : Bench) => if x.seq = b.seq then { x with signed := true, sigs := s.checkpointSigs b } else x
      (s.reserveRuns .checkpoint = false → exec .checkpointSigned s = .next s) ∧
      (s.reserveRuns .checkpoint = true → s.trav.held = 0 → GoesTo (exec .checkpointSigned s) (fun t => t.trav.ring = s.trav.ring.map signed ∧ t.trav.archive = s.trav.archive.map signed ∧
        t.trav.signing = false ∧ t = { s with trav := t.trav, rwork := t.rwork })) ∧
      (s.reserveRuns .checkpoint = true → s.trav.held ≠ 0 → s.trav.pending = [] → s.ringFull (1 + cosignSlots s.cosign) = false → GoesTo (exec .checkpointSigned s) (fun t =>
        Checkpointed s t s.trav.held ∧ t.trav.held = 0 ∧ t.trav.archive = s.trav.archive.map signed ∧
        t = { s with trav := t.trav, dict := t.dict, dtx := t.dtx, rwork := t.rwork }))) ∧
    (∀ w, s.runs = true → s.findJob r = some j → j.state = .queued → r ∈ s.trav.waiters → j.waitSince = some w → w + 1250000000 ≤ s.clk.fab →
      GoesTo (exec (.ringWaitTimeout r) s) (fun t => JobDone t r 0x51 0xFF (s.resultOf j.kind 0x51 []) j.key ∧ r ∉ t.trav.waiters ∧
        ∀ x, x ≠ r → t.findJob x = s.findJob x))

/-- The flash channels' events complete: presence, the start of a gate, a region's verdict and benchmark, the gate's decision, the write filter, and the expiry
of an update window (R338-R340, R343-R348, R352, R358). The reset lines' events complete: a line is released with its benchmark when its conditions hold, or
by force when FORCE_RELEASE named it and its channels are decided; a fall of PWRGD_IN begins every line and channel again where PWRGD_REGATE says so (R338,
R349-R351, R358). Where the spec leaves a point open or is read by inference, this follows the model's choice in logs 7, 8, 45, 114 and 117. It states that
these forms complete: presenceChange, gateStart, regionMeasured, gateDecided, lineRelease, pwrgdInFall, flashCommand, updateWindowExpiry. -/
def Obligations.FlashChannelsAndResetLinesComplete : Prop :=
  (∀ (s : State) (n : Nat), s.phase = .up → s.clk.gated = false → 1 ≤ n → n ≤ 31 → Map.wf s.dict = true →
    let c := 0x3000 + n
    (bitAt s.pins.pres n = false → GoesTo (exec (.presenceChange n true) s) (fun t =>
      bitAt t.pins.pres n = true ∧ t.rd c 0x10 = 0 ∧ t.rd c 0x18 = eventAdd (s.rd c 0x18) 2 ∧ t.chanMode n = 0 ∧ t.rd c 0x15 = 0 ∧
        (∀ l, l < 32 → t.released l = (s.released l && !(s.lineChans l).contains n)) ∧
        t = { s with pins := t.pins, dict := t.dict, dtx := t.dtx, flash := t.flash, gate := t.gate, trav := t.trav, rwork := t.rwork })) ∧
    (bitAt s.pins.pres n = true → GoesTo (exec (.presenceChange n false) s) (fun t =>
      bitAt t.pins.pres n = false ∧ t.rd c 0x10 = 1 ∧ t.rd c 0x18 = eventAdd (s.rd c 0x18) 1 ∧ t.chanMode n = s.chanMode n ∧ t.pins.lines = s.pins.lines ∧
        (t.chanFlash n).held = false ∧ t = { s with pins := t.pins, dict := t.dict, dtx := t.dtx, flash := t.flash, gate := t.gate })) ∧
    (∀ d : Discovery, s.boardServed = true → s.chanMode n = 0 → (s.chanFlash n).held = false → s.rd c 1 = 1 → s.rd c 0x10 = 1 → s.bankOut n = false →
      let ok := d.ok && d.sfdp == 1
      GoesTo (exec (.gateStart n d) s) (fun t => t.chanMode n = 1 ∧ t.rd c 0x15 = 2 ∧ t.rd c 0x11 = d.jedec % 2 ^ 24 ∧
        t.rd c 0x12 = (if ok then d.density % 2 ^ 32 else 0) ∧ t.rd c 0x13 = (if d.ok then d.sfdp % 4 else 0) ∧
        t.rd c 0x14 = (if ok then s.readProtocol n d else 1) ∧ (t.chanFlash n).clock = (if ok then s.readClock n (s.readProtocol n d) else 25) ∧
        t.channelPins n = (if s.pins.safe then ⟨true, false, false, 0⟩ else ⟨true, true, false, 0⟩) ∧ (∀ i, i < 8 → t.rd (0x3100 + n) (0x30 + i) = 0xFF) ∧
        (t.chanFlash n).cfg = s.chanEntries n ∧ t = { s with dict := t.dict, flash := t.flash })) ∧
    (∀ (i : Nat) (m : Measured), s.chanMode n = 1 → i < s.regionCount n → s.regionTurn n i = true → s.rd (0x3100 + n) (0x30 + i) = 0xFF →
      let v := s.judge n i m
      let x := bitsOf (s.gateCfg n (0x3100 + n) (0x13 + 4 * i)) 3 2
      let also := fun (t : State) (k digest : Nat) => ∃ b ∈ t.trav.ring ++ t.trav.pending, b.kind = 1 ∧ b.verdict = v ∧ b.channel = n ∧ b.region = i ∧
        b.flags % 8 = k ∧ b.digest = digest
      let u := s.enqueueReserve (.gate n)
      (s.signedRegion n i = true → u.reserveRuns (.gate n) = false → exec (.regionMeasured n i m) s = .next u) ∧
      (s.signedRegion n i = false ∨ u.reserveRuns (.gate n) = true → GoesTo (exec (.regionMeasured n i m) s) (fun t => t.rd (0x3100 + n) (0x30 + i) = v ∧ t.rd (0x3100 + n) (0x38 + i) = s.regionDigest n i m ∧
        Recorded s t 1 v n i 0 (s.regionDigest n i m) ∧ (x = 1 → also t 1 (sha3 (s.covered n i m))) ∧
        (x = 2 → also t 2 (beNat (prim 32 .sha2_256 [s.covered n i m]) * 2 ^ 128)) ∧
        t = { s with dict := t.dict, dtx := t.dtx, trav := t.trav, rwork := t.rwork }))) ∧
    (s.chanMode n = 1 → (∀ i, i < s.regionCount n → s.rd (0x3100 + n) (0x30 + i) ≠ 0xFF) → s.gate.forced = [] →
      let ok := s.satisfied n
      GoesTo (exec (.gateDecided n) s) (fun t => t = { s with dict := t.dict, dtx := t.dtx, flash := t.flash, gate := t.gate, trav := t.trav, rwork := t.rwork } ∧
        (ok = true → t.chanMode n = 2 ∧ t.rd c 0x15 = 3 ∧ (t.chanFlash n).pass = s.passProtocol n) ∧
        (ok = false → s.gateCfg n c 6 = 1 → t.chanMode n = 2 ∧ t.rd c 0x15 = 5 ∧ (t.chanFlash n).pass = s.passProtocol n) ∧
        (ok = false → s.gateCfg n c 6 ≠ 1 → t.chanMode n = 0 ∧ t.rd c 0x15 = 4 ∧ (t.chanFlash n).held = true ∧
          t.rd 0x3300 0x25 = eventAdd (s.rd 0x3300 0x25) 4))) ∧
    (∀ (code : Nat) (addr : Option Nat), s.chanMode n = 2 → code ≤ 255 →
      let cls := s.cmdClass n code
      let a := addr.map (fun x => if (s.chanFlash n).addr4 then x % 2 ^ 32 else x % 2 ^ 24)
      let valid := if cls = 2 ∧ a.isSome then 1 else 0
      let at_ := if valid = 1 then a.getD 0 % 2 ^ 32 else 0
      let run := exec (.flashCommand n code addr) s
      (cls = 1 ∨ (cls = 2 ∧ ∃ x, a = some x ∧ (s.outsideProtected n (s.affected n code x) = true ∨ s.insideWindow n (s.affected n code x) = true)) ∨
          (cls = 3 ∧ ∃ w, w < 8 ∧ s.window w 0 = n) →
        let f := { s.chanFlash n with seen := some (code, a), cutting := false }
        (s.gateCfg n c 5 = 2 → code = 0xB7 ∨ code = 0xE9 → run = .next (s.setFlash n { f with addr4 := code == 0xB7 })) ∧
        (s.gateCfg n c 5 ≠ 2 ∨ (code ≠ 0xB7 ∧ code ≠ 0xE9) → run = .next (s.setFlash n f))) ∧
      (cls = 0 ∨ (cls = 2 ∧ ∀ x, a = some x → s.outsideProtected n (s.affected n code x) = false ∧ s.insideWindow n (s.affected n code x) = false) ∨
          (cls = 3 ∧ ∀ w, w < 8 → s.window w 0 ≠ n) →
        GoesTo run (fun t => t.rd c 0x16 = eventAdd (s.rd c 0x16) (if cls = 0 then 1 else if cls = 2 then 2 else 4) ∧
          t.rd c 0x17 = code * 2 ^ 56 + valid * 2 ^ 32 + at_ ∧ t.chanMode n = 2 ∧
          (s.pins.safe = false → t.channelPins n = ⟨true, true, true, 2⟩) ∧ (t.chanFlash n).seen = none ∧
          (if (s.chanFlash n).lastCutSec = some (s.clk.datum / 1000000000) ∨ s.ringBusy = true then t.trav = s.trav ∧ (t.chanFlash n).cuts = (s.chanFlash n).cuts + 1
            else (t.chanFlash n).cuts = 0 ∧ Recorded s t 0xA 2 n 0xFF 3
              (beNat (beBytes 1 code ++ beBytes 1 valid ++ beBytes 4 at_ ++ beBytes 4 (((s.chanFlash n).cuts + 1) % 2 ^ 32) ++ beBytes 38 0))) ∧
          t = { s with dict := t.dict, dtx := t.dtx, flash := t.flash, trav := t.trav, rwork := t.rwork }))) ∧
    (∀ w, w < 8 → s.windowOpen w = true → ofTime80 (s.window w 3) < s.clk.datum → GoesTo (exec (.updateWindowExpiry w) s) (fun t =>
      t.windowOpen w = false ∧ t = { s with dict := t.dict, dtx := t.dtx, trav := t.trav, rwork := t.rwork } ∧ Recorded s t 0xB 2 (s.window w 0) w 3
        (beNat (beBytes 1 2 ++ beBytes 3 0 ++ beBytes 4 (s.window w 1) ++ beBytes 4 (s.window w 2) ++ beBytes 10 (s.window w 3) ++ beBytes 26 0))))) ∧
  (∀ s : State, s.phase = .up → s.clk.gated = false → Map.wf s.dict = true →
    (∀ l, l < 32 → s.released l = false → s.mayRelease = true → s.pins.pwrgd = true →
      let o := exec (.lineRelease l) s
      (s.gate.forced.contains l = false → s.chansReady l = true → s.lowerDone l = true → s.delayOver l = true → s.lineHeld l = false → GoesTo o (fun t =>
        (∀ k, k < 32 → t.released k = (s.released k || k == l)) ∧ t.rd 0x3300 0x25 = eventAdd (s.rd 0x3300 0x25) 1 ∧
        Recorded s t 9 (if s.unsatisfied l = 0 then 0 else 3) l 0xFF 3
          (beNat (beBytes 4 (s.lineMask l) ++ beBytes 4 (s.unsatisfied l) ++ beBytes 1 (s.lineOrder l) ++ beBytes 39 0)) ∧
        t = { s with pins := t.pins, dict := t.dict, dtx := t.dtx, gate := t.gate, trav := t.trav, rwork := t.rwork })) ∧
      (s.gate.forced = [l] → s.lineDecided l = true → GoesTo o (fun t =>
        (∀ k, k < 32 → t.released k = (s.released k || k == l)) ∧ t.rd 0x3300 0x25 = eventAdd (s.rd 0x3300 0x25) 3 ∧ (∃ d, Recorded s t 9 3 l 0xFF 7 d) ∧
        (∀ n ∈ s.lineChans l, (s.chanFlash n).held = true → t.chanMode n = 2 ∧ t.rd (0x3000 + n) 0x15 = 5 ∧ (t.chanFlash n).held = false) ∧
        t = { s with pins := t.pins, dict := t.dict, dtx := t.dtx, flash := t.flash, gate := t.gate, trav := t.trav, rwork := t.rwork }))) ∧
    (s.pins.pwrgd = true →
      (s.rd 0x3300 0x24 ≠ 1 → exec .pwrgdInFall s = .next { s with pins := { s.pins with pwrgd := false } }) ∧
      (s.rd 0x3300 0x24 = 1 → GoesTo (exec .pwrgdInFall s) (fun t => t.pins.pwrgd = false ∧ (∀ l, l < 32 → t.released l = false) ∧
        (∀ n, 1 ≤ n → n ≤ 31 → t.chanMode n = 0 ∧ (t.chanFlash n).held = false) ∧
        t = { s with pins := t.pins, dict := t.dict, dtx := t.dtx, flash := t.flash, gate := t.gate, trav := t.trav, rwork := t.rwork }))))

/-- JOB_DISPATCH completes: a queue head, a retry or a move that nothing stands before starts on its units, nothing latched there; one that cannot run ends with
its status, an uncached one leaving no job; one that waits, waits; a suspended job resumes on units of its own clusters, charged the restoring of its
engines where the worst cost has room for it (R92, R134, R138, R140, R237). Where the spec leaves a point open or is read by inference, this follows the
model's choice in logs 11, 26, 66, 110, 115, 120 and 132. It states that these forms complete: jobDispatch. -/
def Obligations.JobDispatchCompletes : Prop :=
  ∀ (s : State) (r : JobRef) (j : Job) (units : List Nat), s.findJob r = some j → s.phase = .up → s.clk.gated = false → (s.ten j.tenant).resetting = false →
    s.rd (0x1800 + j.tenant) 1 ≠ 0 →
    let u := (s.rebalance false).accrueAll
    let o := exec (.jobDispatch r units) s
    (j.state = .queued → j.scheduled = true → j.prec = true ∨ u.isHead j = true → match u.ready j with
      | .over st => GoesTo o (fun t => if uncached st then t.findJob r = none else JobDone t r st 0 [] j.key)
      | .wait t => o = .next t
      | .go =>
        (∀ b, u.admission j = some b → u.lowerQueue j = false → j.prec = true ∨ u.precedenceWaits j (u.unitNeeds j) = false → u.turnFits j b = true →
          u.unitsFit j units = true → GoesTo o (fun t => t.order = u.order + 1 ∧ (∀ x ∈ units, (t.engine x).job = some r ∧ (t.engine x).latched = []) ∧
            ∃ j', t.findJob r = some j' ∧ j'.state = .running ∧ j'.units = units ∧ j'.borrowed = b ∧ j'.admitted = u.order ∧ j'.prec = false ∧
              (∀ x, u.findJob r = some x → j.switched = false → u.loadCost j units = noWork → j'.charged = x.charged) ∧
              j'.reserve = blocksOf (u.jobMax j))) ∧
        (u.admission j = none → o = .next u)) ∧
    (j.state = .suspended → ∀ b, u.admission j = some b → u.earlierSuspended j = false → u.resumeFits j units = true → GoesTo o (fun t =>
      (∀ x ∈ units, (t.engine x).job = some r) ∧ (∀ p ∈ units.zip j.units, unitClass p.2 ≠ .hc → unitCluster p.1 = unitCluster p.2) ∧
      ∃ j', t.findJob r = some j' ∧ j'.state = .running ∧ j'.units = units ∧ j'.borrowed = b ∧
        ∀ x, u.findJob r = some x →
          let w := units.foldl (fun w e => w.add (u.switchWork e)) noWork
          (∀ cl, x.charged.get cl ≤ j'.charged.get cl) ∧
          ((∀ e ∈ units, e < 256 ∨ 768 ≤ e) → (∀ k, Map.find u.saved j.order = some k → k.w4 = none) →
            (∀ cl, x.charged.get cl + w.get cl ≤ (u.worstOf x).get cl) → ∀ cl, j'.charged.get cl = x.charged.get cl + w.get cl)))

/-- Laps complete: at a boundary a lap begins, is counted, and every tenant's charge becomes what exceeded its budget; a new length takes effect at a datum
second; a tenant that has reached its budget has lap-end suspension latched for its jobs of the class (R124, R125, R135, R137). SAFE_POINT_REACHED
completes: of the events latched, the highest acts: a tenant reset ends the job with TENANT_RESET, an abortive close discards it, a fence moves it, and
otherwise it is suspended, its registers and streams saved and written to the area of its scratch, or goes on as borrowed work at the end of its budget
where it may; at an engine with nothing latched, without its clock, waiting for a draw, at its EXIT, or whose KUM is committed nothing changes, nor at an
AES-GCM core that a fence waits for (R137, R216, R232, R449). Where the spec leaves a point open or is read by inference, this follows the model's choice in
logs 12, 73, 112, 122 and 134. It states that these forms complete: lapBoundary, lapLengthChange, budgetExhausted, safePointReached. -/
def Obligations.LapsAndSafePointsComplete : Prop :=
  (∀ s : State, s.phase = .up → s.clk.gated = false → Map.wf s.dict = true →
    let u := s.accrueAll
    let begun := fun (t : State) => t.lap.start = s.clk.datum ∧ t.lap.short = none ∧ t.rd 0x1A00 6 = (s.rd 0x1A00 6 + 1) % 2 ^ 64 ∧
      (∀ i cl, (t.ten i).charge.get cl = (u.ten i).charge.get cl - u.budget i cl ∧ (t.ten i).deficit = (t.ten i).charge) ∧
      (∀ j ∈ t.jobs, j.lapCharged = noWork) ∧ t.clk = s.clk ∧ t.pins = s.pins ∧ t.lc = s.lc ∧ t.grp = s.grp
    (s.lapOver = true → GoesTo (exec .lapBoundary s) (fun t => begun t ∧ t.lap.length = s.lengthNow)) ∧
    (s.lapOver = false → exec .lapBoundary s = .next s) ∧
    (s.rd 0x1A00 1 ≠ s.rd 0x1A00 5 → s.lap.lengthAt ≤ s.clk.datum →
      GoesTo (exec .lapLengthChange s) (fun t =>
      begun t ∧ t.lap.length = lapMicros (s.rd 0x1A00 1) ∧ t.rd 0x1A00 5 = s.rd 0x1A00 1 ∧ bitAt (t.rd 0x1A00 0xC) 1 = true)) ∧
    (∀ (i : Nat) (cl : EngClass),
      let mine := (s.ownRunning cl).filter (fun (j : Job) => j.tenant == i)
      let w := (mine.foldl (fun w (j : Job) => w.accrue j) s).topUp cl mine
      (mine = [] → exec (.budgetExhausted i cl) s = .next s) ∧
      (mine ≠ [] → w.budget i cl ≤ (w.ten i).charge.get cl → GoesTo (exec (.budgetExhausted i cl) s) (fun t =>
        t.budget i cl ≤ (t.ten i).charge.get cl ∧ (∀ k, t.ten k = w.ten k) ∧ (∀ x ∈ mine, ∀ e ∈ x.units, 4 ∈ (t.engine e).latched) ∧
        t = { s with jobs := t.jobs, tenants := t.tenants, units := t.units, les := t.les, free := t.free })))) ∧
  (∀ (s : State) (e : Nat), (s.engine e).job = none → exec (.safePointReached e) s = .next s) ∧
  (∀ (s : State) (e : Nat) (r : JobRef) (j : Job), (s.engine e).job = some r → s.findJob r = some j →
    s.clk.gated = true ∨ s.marked r = true ∨ s.drawHeld e = true ∨ (s.engine e).latched = [] → exec (.safePointReached e) s = .next s) ∧
  (∀ (s : State) (e : Nat) (r : JobRef) (j : Job), (s.engine e).job = some r → s.findJob r = some j → j.state = .running → s.clk.gated = false →
    s.marked r = false → s.drawHeld e = false →
    let l := (s.engine e).latched
    let o := exec (.safePointReached e) s
    let a := s.accrue j
    (1 ∈ l → GoesTo o (fun t => ∀ j', t.findJob r = some j' → j'.live = false ∧ j'.status = 0x60)) ∧
    (2 ∈ l → 1 ∉ l → GoesTo o (fun t => t.findJob r = none)) ∧
    (l ≠ [] → 1 ∉ l → 2 ∉ l → s.atExit e j = true → o = .next s) ∧
    (3 ∈ l → 1 ∉ l → 2 ∉ l → 1024 ≤ e → s.atExit e j = false → o = .next s) ∧
    (3 ∈ l → 1 ∉ l → 2 ∉ l → e < 1024 → s.atExit e j = false → GoesTo o (fun t => Requeued t j ∧ (e ∈ j.units → (t.engine e).fenced = true ∧ (t.engine e).latched = []))) ∧
    (∀ x, a.findJob r = some x → s.atExit e j = false → l = [4] → a.mayContinue x = true → GoesTo o (fun t => (∀ u ∈ j.units, (t.engine u).latched = []) ∧
      (∃ j', t.findJob r = some j' ∧ j'.state = .running ∧ j'.borrowed = true ∧ j'.units = j.units) ∧ (∀ x, (t.le x).regs = (s.le x).regs) ∧
      t.tenants = a.tenants)) ∧
    (Map.wf s.dict = true → l ≠ [] → 1 ∉ l → 2 ∉ l → 3 ∉ l → s.atExit e j = false →
      l ≠ [4] ∨ (∀ x, a.findJob r = some x → a.mayContinue x = false) → GoesTo o (fun t =>
      (∃ j', t.findJob r = some j' ∧ j'.state = .suspended ∧ j'.units = j.units) ∧ (∀ u ∈ j.units, (t.engine u).job = none) ∧
        (∀ u, j.units = [u] → u < 256 → Map.wf s.cmem = true → ∃ k, Map.find t.saved j.order = some k ∧ k.regs = (s.le u).regs ∧ k.streams = (s.le u).streams ∧
          k.scratchAt = (s.le u).scratchAt ∧ (k.scratchAt + 581 ≤ 2 ^ 18 → t.areaWords (clusterOf u) k.scratchAt k.contextWords.length = k.contextWords)) ∧
        t.rd (0x1900 + j.tenant) 0x12 = eventAdd (s.rd (0x1900 + j.tenant) 0x12) (suspendFlags j.units (l.contains 5 || l.contains 6)))))

/-- Hardware faults complete: the fault is logged and counted; a job it strikes is queued again with precedence the first time and ends with the fault's status
the second; the third fault of an idle engine or of a port within a second fences it (R445, R446, R449, R453). Where the spec leaves a point open or is read
by inference, this follows the model's choice in logs 86, 89, 96 and 123. It states that these forms complete: hardwareFault. -/
def Obligations.HardwareFaultsComplete : Prop :=
  ∀ (s : State) (f : HwFault), s.runs = true → faultFits f = true → s.tamp.parity.length < 63 → s.flt.log.length < 4000 → Map.wf s.dict = true → Calm s →
    let row := chargedRow (chargeOf f)
    let st := faultStatus f
    GoesTo (exec (.hardwareFault f) s) (fun t => LogRow s t (faultRow f.kind) row.1 row.2.1 row.2.2 ∧
      t.rd 0x4800 1 / 256 = (s.rd 0x4800 1 / 256 + 1) % 2 ^ 24 ∧ bitAt (t.rd 0x4800 1) (if parityClass f.kind then 0 else 1) = true ∧
      (∀ x, s.struck f = some x → s.latchedOn x 1 = false → s.latchedOn x 2 = false →
        (x.retried = false → Requeued t x ∧ t.rd 0x4800 2 = (s.rd 0x4800 2 + 1) % 2 ^ 64 ∧
          ∃ x', t.findJob x.ref = some x' ∧ x'.retried = true ∧ x'.faultUnit = if f.unit < 2048 then some f.unit else none) ∧
        (x.retried = true → x.kind ≠ 0x4 → JobDone t x.ref st.1 st.2 [] x.key ∧ t.rd 0x4800 3 = (s.rd 0x4800 3 + 1) % 2 ^ 64 ∧
          LogRow s t 10 row.1 row.2.1 row.2.2)) ∧
      (∀ u, chargeOf f = .engine u → (s.engine u).job = none → s.struck f = none → (s.engine u).fencing = false → 3 ≤ (s.recent (s.engine u).faults).length →
        (t.engine u).fenced = true ∧ bitAt (t.rd 0x4800 1) 2 = true ∧ LogRow s t 4 row.1 row.2.1 row.2.2) ∧
      (∀ p, chargeOf f = .port p → s.flt.portFenced.contains p = false → 3 ≤ (s.recent (Map.getD s.flt.portFaults p [])).length →
        p ∈ t.flt.portFenced ∧ t.rd (0x1400 + p) 0x10 = 3 ∧ LogRow s t 4 8 0xFF p))

/-- The fault function's other events complete: the job of an AES-GCM core is moved when its fence has waited long enough; a transaction that a clock gate ends
is counted and its engine reset (R435, R449). Lost words and bank copies complete: each region's outcome, the WORD_LOST row and the FAULT_EVENTS flags; a
copied bank serves in its spare (R9, R447, R448, R450). Where the spec leaves a point open or is read by inference, this follows the model's choice in logs
55, 88 and 107. It states that these forms complete: gateAbort, aesFenceTimeout, wordLost, bankCopyDone. -/
def Obligations.FencesLostWordsAndCopiesComplete : Prop :=
  (∀ (s : State) (e : Nat), s.runs = true → Map.wf s.dict = true →
    (∀ (r : JobRef) (j : Job), 1024 ≤ e → (s.engine e).job = some r → s.findJob r = some j → j.state = .running → 3 ∈ (s.engine e).latched →
      (s.engine e).fenceAt + 16375 ≤ s.clk.fab → GoesTo (exec (.aesFenceTimeout e) s) (fun t => Requeued t j ∧
        (e ∈ j.units → (t.engine e).fenced = true))) ∧
    (unitExists e = true → (s.engine e).job = none → GoesTo (exec (.gateAbort e) s) (fun t => t.rd 0x1200 7 = eventAdd (s.rd 0x1200 7) 8 ∧
      (e < 256 → (t.le e).regs = leRegsInit) ∧ (∀ x, x ≠ e → t.le x = s.le x) ∧ t = { s with les := t.les, dict := t.dict, dtx := t.dtx }))) ∧
  (∀ (s : State) (bank : Option Nat) (w : LostWord), s.runs = true → (∀ b, bank = some b → b < 34) → s.tamp.parity.length < 63 → s.flt.log.length < 4000 →
    Map.wf s.dict = true → Map.wf s.keys.vol = true → Map.wf s.chans = true → Calm s →
    let bank' := match w with
      | .matrix _ => none
      | _ => bank
    GoesTo (exec (.wordLost bank w) s) (fun t => LogRow s t 9 (if bank'.isSome then 7 else 0) 0xFF (bank'.getD 0) ∧
      bitAt (t.rd 0x4800 1) 0 = true ∧ bitAt (t.rd 0x4800 1) 5 = true ∧
      match w with
      | .jobInput r => ∀ j, s.findJob r = some j → j.live = true → j.kind ≠ 0x4 → JobDone t r 0x51 0xFF [] j.key
      | .egress r => ∀ j, s.findJob r = some j → j.state = .done → ∃ j', t.findJob r = some j' ∧ j'.state = .done ∧ j'.status = 0x51 ∧ j'.detail = 0xFF ∧
          j'.result = []
      | .matrix dg =>
        let reads := fun (l : Le) => ∃ m, l.w4 = some m ∧ m.digest = dg ∧ m.writing = false
        let waits := (∃ p ∈ s.les, reads p.2 ∧ p.2.job.isSome = true) ∨ ∃ p ∈ s.saved, reads p.2 ∧ ∃ j ∈ s.jobs, j.order = p.1
        (¬ waits → ∀ m ∈ t.mcache, m.digest ≠ dg) ∧ (waits → t.mcache = s.mcache)
      | .loadedKey h => h ∉ t.keys.loaded
      | .volatileKey h => keyScope h = 0 → s.key h ≠ none → Map.find t.keys.vol (keySlot h) = none
      | .drbg d => d < 80 → (s.drbg d).state ≠ 0 → (t.drbg d).state = 0 ∧ ∃ q ∈ t.ent.reqs, q.drbg = d ∧ q.inst = true
      | .channel slot => ∀ c, Map.find t.chans slot = some c → c.state = .closing
      | .stream chan n => ∀ d, Map.find s.dstreams (streamKey chan n) = some d → t.rd (0x20C0 + d.tenant) 3 = eventAdd (s.rd (0x20C0 + d.tenant) 3) 1
      | .ringUnarchived q => s.trav.pending = [] → ∀ b ∈ t.trav.ring, b.kind ≠ 0x0C → b.seq < q ∨ 0 < b.archived
      | .eventLog i => ∀ e, s.flt.log[i]? = some e → t.flt.log[i]? = some { e with kind := 0 }
      | .dictShadow => t.dtx.epoch = s.dtx.epoch + 1
      | .ringArchived | .firmware => t.jobs = s.jobs ∧ t.keys = s.keys ∧ t.trav = s.trav) ∧
    (∀ (b : Nat) (lost : List LostWord), s.flt.copying.contains b = true → GoesTo (exec (.bankCopyDone b lost) s) (fun t =>
      (lost = [] → t.flt.copying = s.flt.copying.filter (fun x => x != b) ∧ LogRow s t 6 7 0xFF b ∧
        t = { s with flt := t.flt }) ∧
      ∀ x, lost = [x] → LogRow s t 9 0 0xFF 0)))

/-- Links complete: the lower-indexed of two members that find each other sends HELLO_INIT; a HELLO is refused, and counted, or makes the link; a PEER command
whose message has not wholly arrived changes nothing (R28, R379, R380). Sequencing completes, for a member with no writes of its own under way: heartbeats
are remembered, followed or yielded to; each instant a heartbeat goes out and silent peers become unreachable; a claim is made, granted or refused, and a
quorum of grants makes the sequencer (R381-R384). Where the spec leaves a point open or is read by inference, this follows the model's choice in logs 7, 25,
60, 63, 78, 91 and 105. It states that these forms complete: announceReceive, helloInit, helloReply, heartbeat, heartbeatInstant, claim, grant. -/
def Obligations.GroupLinksAndSequencingComplete : Prop :=
  (∀ s : State, s.runs = true →
    (∀ (src : AnnounceSrc) (body key cert : Bytes) (m i : Nat), s.grp.announced.contains ⟨src, body⟩ = true → s.myIndex = some m →
      s.indexOf (fieldAt body 0 48) = some i →
      let rest := s.grp.announced.filter (fun x => x != ⟨src, body⟩)
      let o := exec (.announceReceive src body key cert) s
      if s.linkUp src.port = true ∧ fieldAt body 100 16 = s.groupId ∧ announceOk ⟨src, body⟩ key cert = true ∧ m < i ∧ (s.link i).state ≠ 2 then
        GoesTo o (fun t => (t.link i).state = 1 ∧ (t.link i).gen = nextLinkGen (s.link i).gen ∧
          (t.link i).peer = src.peer ∧ (t.link i).port = src.port ∧ Posted t (.helloInit i (t.link i).gen (t.link i).init) ∧ t.grp.announced = rest ∧
          t = { s with grp := t.grp, free := t.free, tx := t.tx } ∧ ∀ k, k ≠ i → t.link k = s.link k)
      else o = .next { s with grp := { s.grp with announced := rest } }) ∧
    (∀ h : Hello, s.myIndex = some h.receiver → h.sender < h.receiver → match s.helloMsg false h with
      | none => exec (.helloInit h) s = .next s
      | some msg =>
        let v := s.takeHello false h
        if msg.seq ≠ 1 ∨ v.helloRefused false h = true then exec (.helloInit h) s = .next (v.drawn.groupEvent 16)
        else GoesTo (exec (.helloInit h) s) (fun t => (t.link h.sender).state = 2 ∧ (t.link h.sender).gen = h.gen ∧
          (t.link h.sender).heard = time80 s.clk.datum ∧ (t.link h.sender).peer = msg.peer ∧ (t.link h.sender).port = msg.port ∧
          ∃ b, Posted t (.helloReply h.sender h.gen b))) ∧
    (∀ h : Hello, s.myIndex = some h.receiver → h.receiver < h.sender → (s.link h.sender).state = 1 → (s.link h.sender).gen = h.gen →
      h.initDigest = sha3 (s.link h.sender).init → match s.helloMsg true h with
      | none => exec (.helloReply h) s = .next s
      | some msg =>
        let v := s.takeHello true h
        if msg.seq ≠ 1 ∨ v.helloRefused true h = true then exec (.helloReply h) s = .next (v.drawn.groupEvent 16)
        else GoesTo (exec (.helloReply h) s) (fun t => (t.link h.sender).state = 2 ∧ (t.link h.sender).gen = h.gen ∧
          (t.link h.sender).heard = time80 s.clk.datum)) ∧
    (∀ (h : PeerHdr) (b : HeartbeatBody) (w : GWrite) (es : List GEntry) (g : Option GSnapshot) (x y z v : Nat) (f : Bool),
      let waits := fun (op : Nat) (body : Bytes → Bool) (i : Instr) => s.peerMsg h op body = none → exec i s = .next s
      waits 0x10 (heartbeatReads b) (.heartbeat h b) ∧ waits 0x11 (fun o => o == appendBody x y z v es) (.append h x y z v es) ∧
        waits 0x12 (fun o => o == ackBody x y z f) (.ack h x y z f) ∧ waits 0x13 (fun o => o == claimBody x y z v) (.claim h x y z v) ∧
        waits 0x14 (fun o => o == grantBody x f y z) (.grant h x f y z) ∧ waits 0x15 (fun o => o == forwardBody w) (.forward h w) ∧
        waits 0x16 (fun o => o == resultBody x y z v) (.result h x y z v) ∧ waits 0x17 (fun o => o == peerFetchBody x) (.peerFetch h x) ∧
        waits 0x18 (fun o => o == entriesBody es g) (.entries h es g) ∧ waits 0x19 (fun o => o == readIndexBody x) (.readIndex h x) ∧
        waits 0x1A (fun o => o == readReplyBody x y) (.readReply h x y))) ∧
  (∀ (s : State) (h : PeerHdr), Map.wf s.dict = true → s.grp.writes = [] →
    let i := h.sender
    (∀ b : HeartbeatBody, MessageStands s h 0x10 (heartbeatReads b) →
      (bitAt b.flags 0 = false ∨ bitAt b.flags 1 = false ∨ b.term < s.term ∨ (s.role = 3 ∧ s.term = b.term) →
        GoesTo (exec (.heartbeat h b) s) (fun t => t.term = s.term ∧ t.role = s.role ∧ (t.link i).commit = b.commit ∧ (t.link i).lastTerm = b.lastTerm ∧
          (t.link i).lastIndex = b.lastIndex ∧ (t.link i).hbTerm = b.term ∧ (t.link i).hbFlags = b.flags ∧ (t.link i).state = (s.link i).state ∧
          (s.role = 3 → i < s.me → bitAt b.flags 1 = true → bitAt b.flags 3 = false → b.term = s.term → s.grp.commit ≤ b.lastIndex → t.grp.stepDown = true))) ∧
      (bitAt b.flags 0 = true → bitAt b.flags 1 = true → s.term ≤ b.term → s.role ≠ 3 ∨ s.term ≠ b.term → 1 ≤ s.role → s.role ≤ 4 →
        b.commit ≤ s.grp.commit → b.commit ≤ s.grp.applied → i ≠ 0xFF →
        GoesTo (exec (.heartbeat h b) s) (fun t => t.term = b.term ∧ t.sequencer = i ∧ t.role = 1 ∧ t.grp.log = s.grp.log ∧ t.grp.commit = s.grp.commit))) ∧
    (s.runs = true → s.myIndex ≠ none → s.grp.lastInstant < s.clk.datum / 1000000 →
      let quietened := { s with grp := { s.grp with lastInstant := s.clk.datum / 1000000, links := Map.mapVals Link.quiet s.grp.links } }
      let v := quietened.reviewQuorum.fetchBehind
      if v.mayClaim = false then GoesTo (exec .heartbeatInstant s) (fun t => t.grp.lastInstant = s.clk.datum / 1000000 ∧ t.term = s.term ∧ t.role = s.role ∧
        (∀ k, (s.link k).state = 2 → 2 ≤ (s.link k).silent → (t.link k).state = 3) ∧
        ∀ k, k < s.memberCount → some k ≠ s.myIndex → (t.link k).state = 2 ∨ (t.link k).state = 3 →
          ∃ b, Posted t (.heartbeat k b) ∧ b.term = s.term ∧ b.commit = s.grp.commit)
      else if v.quorum [v.me] = false then GoesTo (exec .heartbeatInstant s) (fun t => t.role = 2 ∧ t.term = s.term + 1 ∧ t.grp.grantedIn = s.term + 1 ∧
        t.grp.grants = [s.me] ∧ ∀ k ∈ v.peersUp, Posted t (.claim k (s.term + 1) s.me s.grp.last.1 s.grp.last.2))
      else Goes (exec .heartbeatInstant s)) ∧
    (∀ term claimant lastTerm lastIndex,
      let ok := fun (o : Bytes) => o == claimBody term claimant lastTerm lastIndex
      let u := heard s h 0x13 ok
      MessageStands s h 0x13 ok →
      if claimant = i ∧ u.grants term claimant lastTerm lastIndex = true then GoesTo (exec (.claim h term claimant lastTerm lastIndex) s) (fun t =>
        t.term = term ∧ t.grp.grantedIn = term ∧ t.sequencer = 0xFF ∧ t.role ≠ 2 ∧ t.role ≠ 3 ∧ Posted t (.grant i term true s.grp.last.1 s.grp.last.2))
      else exec (.claim h term claimant lastTerm lastIndex) s = .next (u.post (.grant i term false u.grp.last.1 u.grp.last.2))) ∧
    (∀ term lastTerm lastIndex, ∀ f : Bool,
      let ok := fun (o : Bytes) => o == grantBody term f lastTerm lastIndex
      let u := heard s h 0x14 ok
      MessageStands s h 0x14 ok →
      let gs := if s.grp.grants.contains i then s.grp.grants else s.grp.grants ++ [i]
      let v := u.setLink i { u.link i with lastTerm := lastTerm, lastIndex := lastIndex }
      (s.role ≠ 2 ∨ s.term ≠ term → exec (.grant h term f lastTerm lastIndex) s = .next u) ∧
      (f = true → s.role = 2 → s.term = term → (∀ e ∈ s.grp.log, e.index ≤ s.grp.commit ∧ e.index ≤ s.grp.applied) →
        if s.quorum gs then GoesTo (exec (.grant h term true lastTerm lastIndex) s) (fun t => t.role = 3 ∧ t.term = term ∧ t.sequencer = s.me ∧
          t.grp.log.getLast? = some ⟨term, s.grp.last.2 + 1, 1, s.me, []⟩)
        else exec (.grant h term true lastTerm lastIndex) s = .next { v with grp := { v.grp with grants := gs } }) ∧
      (f = false → s.role = 2 → s.term = term →
        if atLeast s.grp.last (lastTerm, lastIndex) then exec (.grant h term false lastTerm lastIndex) s = .next v
        else GoesTo (exec (.grant h term false lastTerm lastIndex) s) (fun t => (t.link i).lastTerm = lastTerm ∧ (t.link i).lastIndex = lastIndex ∧
          t.role = 2 ∧ t.term = term))))

/-- The log's messages complete: an entry that follows the log is stored and acknowledged, one that does not is refused and fetched; the sequencer counts what
members hold and appends what they forward; writes end with their outcome, at their timeout, or where the sequencer stands down; fetches, snapshots and
reads are answered (R384-R387, R389). Where the spec leaves a point open or is read by inference, this follows the model's choice in logs 65, 90, 91 and
105. It states that these forms complete: append, ack, forward, result, peerFetch, entries, readIndex, readReply, stepDownTimeout, writeTimeout,
groupBufferDrain. -/
def Obligations.GroupLogCompletes : Prop :=
  ∀ (s : State) (h : PeerHdr), Map.wf s.dict = true → Calm s →
    let i := h.sender
    (∀ term prevTerm prevIndex commit es,
      let ok := fun (o : Bytes) => o == appendBody term prevTerm prevIndex commit es
      let u := heard s h 0x11 ok
      MessageStands s h 0x11 ok → s.grp.writes = [] →
      let o := exec (.append h term prevTerm prevIndex commit es) s
      (term < s.term ∨ (term = s.term ∧ s.role = 3) → o = .next (u.post (.ack i s.term u.grp.lastStored.1 u.grp.lastStored.2 false))) ∧
      (s.term ≤ term → term ≠ s.term ∨ s.role ≠ 3 → i ≠ 0xFF →
        (s.grp.base ≤ prevIndex → s.grp.termAt prevIndex ≠ some prevTerm → GoesTo o (fun t => t.term = term ∧ t.sequencer = i ∧ t.grp.log = s.grp.log ∧
          (∃ a b, Posted t (.ack i term a b false)) ∧ Posted t (.fetch i (s.grp.commit + 1)))) ∧
        (∀ e, es = [e] → NextEntry s e → s.grp.termAt prevIndex = some prevTerm → commit ≤ s.grp.commit → GoesTo o (fun t => t.term = term ∧ t.sequencer = i ∧
          t.grp.log = s.grp.log ++ [e] ∧ t.grp.commit = s.grp.commit ∧ ∃ a b, Posted t (.ack i term a b (!s.grp.amnesia)))))) ∧
    (∀ term lastTerm lastIndex good,
      let ok := fun (o : Bytes) => o == ackBody term lastTerm lastIndex good
      let u := heard s h 0x12 ok
      MessageStands s h 0x12 ok → s.grp.writes = [] →
      let o := exec (.ack h term lastTerm lastIndex good) s
      let v := u.setLink i { u.link i with stored := Nat.max (u.link i).stored lastIndex }
      (s.role ≠ 3 ∨ term ≠ s.term ∨ good = false ∨ s.grp.termAt lastIndex ≠ some lastTerm → o = .next u) ∧
      (s.role = 3 → term = s.term → good = true → s.grp.termAt lastIndex = some lastTerm →
        if v.commitFound ≤ v.grp.commit then o = .next v
        else (∀ e ∈ s.grp.log, e.kind = 1 ∨ (e.index ≤ s.grp.commit ∧ e.index ≤ s.grp.applied)) → GoesTo o (fun t => t.grp.commit = v.commitFound ∧ t.role = 3))) ∧
    (∀ w : GWrite,
      let ok := fun (o : Bytes) => o == forwardBody w
      let u := heard s h 0x15 ok
      MessageStands s h 0x15 ok → s.grp.writes = [] →
      let o := exec (.forward h w) s
      let verdict := u.verdictOf w.kind w.body
      if u.role ≠ 3 ∨ u.grp.stepDown = true ∨ u.quorate = false then o = .next (u.post (.result i w.tag 0 0 0x63))
      else if verdict ≠ 0 then o = .next (u.post (.result i w.tag 0 0 verdict))
      else w.kind = 2 ∨ w.kind = 3 → (∀ e ∈ s.grp.log, e.index ≤ s.grp.commit ∧ e.index ≤ s.grp.applied) → GoesTo o (fun t =>
        Posted t (.result i w.tag s.term (s.grp.last.2 + 1) 0) ∧
          t.grp.log.getLast? = some ⟨s.term, s.grp.last.2 + 1, w.kind, i, u.ordered w.kind w.body⟩)) ∧
    (∀ tag term index status,
      let ok := fun (o : Bytes) => o == resultBody tag term index status
      let u := heard s h 0x16 ok
      MessageStands s h 0x16 ok →
      let o := exec (.result h tag term index status) s
      match u.grp.writes.find? (fun w => w.tag == tag) with
      | none => o = .next u
      | some w =>
        (status = 0 → u.grp.applied < index → o = .next { u with grp := { u.grp with writes := u.grp.writes.map (fun (x : OwnWrite) =>
          if x.tag = w.tag then { x with place := some (term, index) } else x) } }) ∧
        (status ≠ 0 → ∀ r j, w.job = some r → u.findJob r = some j → j.live = true →
          let out := if status = 0x01 ∧ w.kind = 2 then (match Map.find u.keys.lastKum 65 with | some p => p.2 | none => []) else []
          GoesTo o (fun t => JobDone t r status 0 (u.resultOf j.kind status out) j.key ∧ t.grp.writes = u.grp.writes.filter (fun x => x.tag != tag)))) ∧
    (∀ index,
      let ok := fun (o : Bytes) => o == peerFetchBody index
      let u := heard s h 0x17 ok
      MessageStands s h 0x17 ok → exec (.peerFetch h index) s = .next ((if index ≤ u.grp.base then u.postSnapshot i u.snapshot else u).postEntries i
      (u.grp.log.filter (fun (e : GEntry) => if index ≤ u.grp.base then decide (u.grp.applied < e.index) else decide (index ≤ e.index))))) ∧
    (s.grp.writes = [] →
      (∀ e, MessageStands s h 0x18 (fun o => o == entriesBody [e] none) → NextEntry s e → (s.link i).commit ≤ s.grp.commit → GoesTo (exec (.entries h [e] none) s) (fun t =>
        t.grp.log = s.grp.log ++ [e] ∧ t.grp.needFetch = (s.grp.snap != []) ∧ t.grp.commit = s.grp.commit)) ∧
      (∀ g : GSnapshot, MessageStands s h 0x18 (fun o => o == entriesBody [] (some g)) → s.grp.applied ≤ g.index → g.parts ≤ 1 → GoesTo (exec (.entries h [] (some g)) s) (fun t => t.grp.log = [] ∧ t.grp.base = g.index ∧
        t.grp.applied = g.index ∧ t.grp.commit = Nat.max s.grp.commit g.index ∧ Map.getD t.keys.ctr 65 0 = g.counter ∧
        t.rd 0x1030 6 = g.sealedCounter ∧ t.rd 0x1030 7 = g.lastSealed ∧ t.rd 0x4400 6 = g.authority))) ∧
    (∀ tag commit,
      let asked := fun (o : Bytes) => o == readIndexBody tag
      let said := fun (o : Bytes) => o == readReplyBody tag commit
      let u := heard s h 0x19 asked
      let v := heard s h 0x1A said
      (MessageStands s h 0x19 asked → exec (.readIndex h tag) s = .next (if u.role = 3 ∧ u.quorate = true then u.post (.readReply i tag u.grp.commit) else u)) ∧
      (MessageStands s h 0x1A said → exec (.readReply h tag commit) s = .next { v with grp := { v.grp with reads := v.grp.reads.map (fun r => if r.1 = tag then (r.1, r.2.1, some commit) else r) } })) ∧
    (s.runs = true → s.role = 3 → s.grp.stepDown = true → s.grp.stepAt ≠ 0 → s.grp.stepAt + 1250000 ≤ s.clk.fab → GoesTo (exec .stepDownTimeout s) (fun t =>
      t.grp.served = [] ∧ t.grp.writes = [] ∧ t.grp.stepAt = 0 ∧
        ∀ p ∈ s.grp.served, s.grp.commit < p.2.2.2 → Posted t (.result p.1 p.2.1 p.2.2.1 p.2.2.2 0x63))) ∧
    (∀ tag w r j, s.runs = true → s.grp.writes.find? (fun w => w.tag == tag) = some w → w.sentAt + s.rd 0x4400 3 * 1250000 ≤ s.clk.fab → w.job = some r →
      s.findJob r = some j → j.live = true → GoesTo (exec (.writeTimeout tag) s) (fun t => JobDone t r 0x63 0 (s.resultOf j.kind 0x63 []) j.key ∧
        t.grp.writes = s.grp.writes.filter (fun x => x.tag != tag))) ∧
    (s.runs = true → s.grp.buffer ≠ [] →
      let v := { s with grp := { s.grp with buffer := s.grp.undrained.take 8, undrained := s.grp.undrained.drop 8 } }
      (s.grp.undrained = [] ∨ (s.role ≠ 3 ∧ s.sequencer = 0xFF) ∨ (s.role = 3 ∧ v.commitFound ≤ s.grp.commit) → exec .groupBufferDrain s = .next v) ∧
      (s.grp.undrained ≠ [] → s.role ≠ 3 → s.sequencer ≠ 0xFF → GoesTo (exec .groupBufferDrain s) (fun t => t.grp.buffer = v.grp.buffer ∧
        t.grp.undrained = v.grp.undrained ∧ ∃ a b f, Posted t (.ack s.sequencer s.term a b f))))

/-- The test access port's instructions complete: all are held in reset by FIELD_SEAL; those that a state does not allow select BYPASS; each of the others
selects its register with the value the chapter gives, EXTEST asserts every line and gates every channel, and leaving it is a warm reset (R400, R401).
LC_CMD completes, for each of its codes: the checks in their order leave the result that LC_STATUS shows, and a command that passes them records the
transition and starts its fuse (R394-R397, R400, R401). Where the spec leaves a point open or is read by inference, this follows the model's choice in logs
8, 9 and 53. It states that these forms complete: idcode, samplePreload, extest, extestExit, lcStatus, lcCmdOpen, lcCmdLock, lcCmdUnlock, lcCmdPersonalize,
lcCmdRma, lcCmdTerminal, bypass. -/
def Obligations.TapInstructionsAndCommandsComplete : Prop :=
  (∀ s : State, Map.wf s.dict = true →
    (s.fieldSeal = true → ∀ i ∈ [Instr.idcode, .samplePreload, .extest, .extestExit, .bypass, .lcStatus, .debugChallenge], exec i s = .next s) ∧
    (s.fieldSeal = false →
      let v := s.leaveExtest
      let selects := fun (i : Instr) (ir dr : Nat) => exec i s = .next { v with lc := { v.lc with ir := ir, dr := dr } }
      (s.lc.extest = false → v = s) ∧
      selects .idcode 1 (v.lc.step % 16 * 2 ^ 28 + 0x0072 * 2 ^ 12 + 0x9C7) ∧
      selects .bypass 0xFF 0 ∧
      selects .lcStatus 0x11 (v.lifecycle * 2 ^ 24 + v.lc.result * 2 ^ 16 + v.testUses * 2 ^ 8 + Nat.min 15 (v.rd 0x5000 5) * 16 +
        (if v.pins.pwrHold then 8 else 0) + (if v.debug then 4 else 0) + (if v.lc.prog.isSome then 2 else 0)) ∧
      (s.lifecycle = 6 → selects .samplePreload 0xFF 0 ∧ selects .extest 0xFF 0) ∧
      (s.lifecycle ≠ 6 → exec .samplePreload s = .next { v with free := v.free + 1, lc := { v.lc with ir := 2, dr := v.draw } }) ∧
      (s.lifecycle = 4 → selects .extest 0xFF 0) ∧
      (s.lifecycle ≠ 4 → s.lifecycle ≠ 6 → GoesTo (exec .extest s) (fun t => t.lc.extest = true ∧ t.lc.ir = 3 ∧ t.lc.fuses = s.lc.fuses ∧
        (∀ l, l < 32 → t.released l = false) ∧ ∀ n, 1 ≤ n → n ≤ 31 → t.chanMode n = 0)) ∧
      (s.lc.extest = true → exec .extestExit s = .next v ∧ (s.clk.gated = false → s.phase = .up → v.phase = .down ∧ v.rd 0x1201 1 = 4 ∧
        v.lc.extest = false ∧ v.jobs = [] ∧ v.chans = [] ∧ v.lc.fuses = s.lc.fuses ∧ v.clk.datum = s.clk.datum)) ∧
      (s.lc.extest = false → exec .extestExit s = .next s))) ∧
  (∀ (s : State) (spare : BitVec 8) (token : BitVec 128), s.fieldSeal = false → s.lc.extest = false → Map.wf s.dict = true →
    let tok := beBytes 16 token.toNat
    ∀ p ∈ [(1, Instr.lcCmdOpen spare token), (2, .lcCmdLock spare token), (3, .lcCmdUnlock spare token), (4, .lcCmdPersonalize spare token),
        (8, .lcCmdRma spare token), (9, .lcCmdTerminal spare token)],
      (s.lifecycle = 4 ∨ s.lifecycle = 6 → exec p.2 s = .next { s with lc := { s.lc with ir := 0xFF, dr := 0 } }) ∧
      (s.lifecycle ≠ 4 → s.lifecycle ≠ 6 → s.runs = false → exec p.2 s = .next { s with lc := { s.lc with ir := 0x10, dr := 0 } }) ∧
      (s.lifecycle ≠ 4 → s.lifecycle ≠ 6 → s.runs = true → GoesTo (exec p.2 s) (fun t =>
        let refused := fun (r : Nat) => t.lc = { s.lc with ir := 0x10, dr := 0, result := r }
        if 8 ≤ s.rd 0x5000 5 then refused 6
        else if s.lc.prog.isSome then refused 1
        else match s.lcMove p.1 with
          | none => refused 5
          | some m =>
            if spare ≠ 0 then refused 5
            else if (match m.slot with | some n => !s.tokenOk n tok | none => false) = true then refused 3 ∧ t.rd 0x5000 5 = s.rd 0x5000 5 + 1
            else if s.fusePower = false then refused 4
            else if p.1 = 4 ∧ (s.entropyState ≠ 1 ∨ s.lc.dur ≠ 0) then refused 7
            else
              let started := some (m.code, s.lifecycle, m.target, sha3 (oct p.1 ++ oct spare.toNat ++ tok))
              t = { s with lc := { s.lc with ir := 0x10, dr := 0, result := 1, prog := some m.code, record := started } })))

/-- FUSE_PROGRAM_DONE and ENROL complete: the segment is programmed and no segment is lost; the transition's effects and record follow, with a warm reset where
its table asks for one; an ENROL is refused with its status or accepted, its segment starting to be programmed (R96-R98, R392, R394-R399). Where the spec
leaves a point open or is read by inference, this follows the model's choice in logs 81, 82, 83, 118 and 136. It states that these forms complete: enrol,
fuseProgramDone. -/
def Obligations.TransitionsComplete : Prop :=
  ∀ s : State, Map.wf s.dict = true →
    (∀ (code : Nat) (rec : Nat × Nat × Nat × Nat), s.lc.prog = some code → s.lc.record = some rec → rec.1 = code → 1 ≤ code → code ≤ 11 →
      let burnt := fun (t : State) => segSet t.lc.fuses (segmentOf s.lc.fuses code) = true ∧ t.lc.prog = none ∧
        (∀ i, segSet s.lc.fuses i = true → segSet t.lc.fuses i = true) ∧
        (code = 4 → ∀ b rest, s.ent.pool = b :: rest → t.lc.dur = b)
      let o := exec .fuseProgramDone s
      (s.phase = .up → s.clk.gated = true → o = .next s) ∧
      (s.phase ≠ .up → GoesTo o (fun t => burnt t ∧ t.lc.record = some rec ∧ t.phase = s.phase)) ∧
      (s.runs = true → code ∈ [1, 2, 3, 5, 11] → GoesTo o (fun t => burnt t ∧ t.lc.record = none ∧ t.lc.result = 2 ∧ t.phase = .up ∧
        t.rd 0x5000 6 = eventAdd (s.rd 0x5000 6) 1 ∧ Recorded s t 6 2 rec.2.1 rec.2.2.1 1 rec.2.2.2)) ∧
      (s.runs = true → code ∈ [4, 6, 7, 8, 9, 10] → GoesTo o (fun t => burnt t ∧ t.lc.record = none ∧ t.phase = .down ∧ t.rd 0x1201 1 = 5 ∧
        t.keys.recs = [] ∧ t.keys.secret = 0 ∧ t.keys.hasSecret = false ∧ t.kern.bound = [] ∧ (code = 4 → t.trav.archive = [])))) ∧
    (∀ (r : JobRef) (x : Job) (c : Channel), s.control r 7 = some (x, c) →
      let b := x.payload
      let set := fieldAt b 96 1
      GoesTo (exec (.enrol r) s) (fun t =>
        let refused := fun (st : Nat) => JobDone t r st 0 [] x.key ∧ t.lc = s.lc
        if b.length < 128 ∨ set = 0 ∨ 3 < set ∨ zeros (slice b 97 15) = false then refused 0x26
        else if s.lifecycle = 4 then refused (if fieldAt b 48 48 = s.rd 0x1800 0x20 then 0x01 else 0x15)
        else match s.lcMove 5 with
          | none => refused 0x15
          | some m =>
            if fieldAt b 0 48 ≠ s.identity ∨ s.enrolSigned c b = false then refused 0x15
            else if 8 ≤ s.rd 0x5000 5 ∨ s.lc.prog.isSome then refused 0x72
            else if s.tokenOk (m.slot.getD 0) (slice b 112 16) = false then refused 0x15 ∧ t.rd 0x5000 5 = s.rd 0x5000 5 + 1
            else if s.fusePower = false then refused 0x72
            else t.rd 0x1800 0x20 = fieldAt b 48 48 ∧ t.rd 0x1800 0x21 = 0x100 + set ∧ t.rd 0x1030 3 = fieldAt b 48 48 ∧ t.keys.hasSecret = true ∧
              Map.find t.chans r.chan = some { c with enrolSeq := some r.seq } ∧ t.jobs = s.jobs ∧
              t.lc = { s.lc with result := 1, prog := some m.code, record := some (m.code, s.lifecycle, m.target, sha3 b) }))

/-- Fjoix debug completes: a challenge carries a fresh nonce and lapses after 600 s; a response is refused, and counted, or recorded; debug opens once its
records are archived and every tenant is reset; until then it waits (R403-R405). Where the spec leaves a point open or is read by inference, this follows
the model's choice in logs 6 and 84. It states that these forms complete: debugChallenge, debugChallengeExpiry, debugResponse, debugOpenComplete. -/
def Obligations.DebugOpeningCompletes : Prop :=
  ∀ s : State, Map.wf s.dict = true →
    (s.fieldSeal = false → s.lc.extest = false → s.fielded = true → s.runs = true →
      (s.entropyState ≠ 1 → exec .debugChallenge s = .next { s with lc := { s.lc with ir := 0x20, dr := 0, result := 7 } }) ∧
      (s.entropyState = 1 → s.drawFrom (tenantDrbg 0) 32 (drawInput 0 0) = none → exec .debugChallenge s = .next (s.askSeed (tenantDrbg 0))) ∧
      (s.entropyState = 1 → DrbgReady s 0 1 →
        let o := s.challengeOctets (drbgOutput (s.drbg (tenantDrbg 0)) 32 (drawInput 0 0))
        GoesTo (exec .debugChallenge s) (fun t => t.lc = { s.lc with ir := 0x20, dr := beNat o, chal := some (sha3 o, s.clk.fab) } ∧
          (t.drbg (tenantDrbg 0)).calls = (s.drbg (tenantDrbg 0)).calls + 1 ∧ t = { s with lc := t.lc, ent := t.ent })) ∧
      (∀ (digest : Nat) (pk sig : Bytes), GoesTo (exec (.debugResponse digest pk sig) s) (fun t =>
        let refused := fun (r : Nat) => t.lc = { s.lc with ir := 0x21, dr := 0, result := r }
        if s.lc.prog.isSome then refused 1
        else if 8 ≤ s.rd 0x5000 5 then refused 6
        else if s.responseOk digest pk sig = false then refused 3 ∧ t.rd 0x5000 5 = s.rd 0x5000 5 + 1
        else t.lc = { s.lc with ir := 0x21, dr := 0, result := 2, chal := none, opening := some (s.trav.nextSeq, false) } ∧
          Recorded s t 7 2 0xFF 0xFF 1 (sha3 (beBytes 48 digest ++ pk ++ sig))))) ∧
    (∀ c, s.lc.chal = some c → c.2 + 600000 * 1250000 ≤ s.clk.fab → exec .debugChallengeExpiry s = .next { s with lc := { s.lc with chal := none } }) ∧
    (∀ q begun, s.lc.opening = some (q, begun) → s.runs = true →
      (begun = false → s.openingArchived q = false → exec .debugOpenComplete s = .next s) ∧
      (begun = true → Calm s → GoesTo (exec .debugOpenComplete s) (fun t => t.lc.debugOpen = true ∧ t.lc.opening = none ∧ t.keys.testRoot = true ∧
        t.keys.loaded = [] ∧ t.rd 0x1010 3 = 1 ∧ t.rd 0x5000 6 = eventAdd (s.rd 0x5000 6) 4)) ∧
      (begun = true → (∃ p ∈ s.tenants, p.2.resetting = true) → exec .debugOpenComplete s = .next { s with lc := { s.lc with opening := some (q, true) } }) ∧
      (begun = false → s.openingArchived q = true → Calm s → (∀ p ∈ s.tenants, p.2.resetReqs = []) → GoesTo (exec .debugOpenComplete s) (fun t =>
        (t.lc.debugOpen = true ∨ t.lc.opening = some (q, true)) ∧ ∀ j ∈ t.jobs, j.tenant < 64 → j.scheduled = true → j.live = true → j.running = true)))

/-- The dictionary and the memories through the test access port complete: a refused access leaves a failure record in the data register, a transaction is
journalled, a read gives its result; while debug is open MEM_ACCESS reads and writes what the access table allows; at an address that does not exist a write
changes no memory and a read gives a free value (R400, R402, R406). Where the spec leaves a point open or is read by inference, this follows the model's
choice in logs 10, 51, 79, 112 and 113. It states that these forms complete: dictTxn, dictRead, memAccess. -/
def Obligations.TapAccessCompletes : Prop :=
  ∀ s : State, s.fieldSeal = false → s.lc.extest = false → s.runs = true →
    let leaves := fun (o : Out) (ir dr : Nat) => o = .next { s with lc := { s.lc with ir := ir, dr := dr } }
    let fails := fun (e : Refused) => beNat (failRecord s.dtx.epoch e.position e.value)
    (∀ b : Bytes, s.lifecycle = 3 ∨ s.lifecycle = 1 →
      (s.dtx.journal = none → match parseWrite b with
        | none => leaves (exec (.dictTxn b) s) 0x30 (fails ⟨0x26, 0xFF, 0⟩)
        | some ws => match s.txnRefused tapAsker ws with
          | some e => leaves (exec (.dictTxn b) s) 0x30 (fails e)
          | none => match ws.findIdx? (fun w => !s.certOk w) with
            | some p => leaves (exec (.dictTxn b) s) 0x30 (fails ⟨0x72, p, 0⟩)
            | none =>
              let g : Journal := ⟨none, ws, none, b⟩
              (g.recorded = true → s.ringBusy = true → leaves (exec (.dictTxn b) s) 0x30 0) ∧
              (journalled ws = true → s.ringBusy = false → GoesTo (exec (.dictTxn b) s) (fun t => Journalled s t g)) ∧
              (g.recorded = false ∨ s.ringBusy = false → g.persists = false →
                exec (.dictTxn b) s = .next (({ s with lc := { s.lc with ir := 0x30, dr := 0 } }.applyTxn g).answerTxn g))) ∧
      (s.dtx.journal ≠ none → exec (.dictTxn b) s = .next s) ∧
      (match parseRead b with
        | none => leaves (exec (.dictRead b) s) 0x31 (fails ⟨0x26, 0xFF, 0⟩)
        | some (e, items) => match s.readRefused tapAsker e items with
          | some q => leaves (exec (.dictRead b) s) 0x31 (fails q)
          | none => (∀ it ∈ items, it.1 ≠ 0x1202 ∧ it.1 ≠ 0x2810) → leaves (exec (.dictRead b) s) 0x31 (beNat (s.readResult e items)))) ∧
    (∀ (write : Bool) (memory addr : Nat) (word : BitVec 72), s.debug = true →
      let o := exec (.memAccess write memory addr word) s
      let dr := fun (v : Nat) => (if write then 2 ^ 111 else 0) + memory * 2 ^ 104 + addr * 2 ^ 72 + v
      (memExists memory addr = false → (write = true → leaves o 0x40 (dr word.toNat)) ∧
        (write = false → GoesTo o (fun t => t.lc.ir = 0x40 ∧ (∃ v, v < 2 ^ 72 ∧ t.lc.dr = dr v) ∧ t = { s with free := s.free + 1, lc := t.lc }))) ∧
      (memExists memory addr = true →
        (write = false → s.fielded = false ∨ memory ≠ 0 → leaves o 0x40 (dr (s.memRead s.fielded memory addr))) ∧
        (write = false → s.fielded = true → memory = 0 → GoesTo o (fun t => t.lc.ir = 0x40 ∧ t = { s with free := s.free + 1, lc := t.lc })) ∧
        (write = true → s.fielded = true ∨ memory ∈ [0, 4, 6, 8, 9] → leaves o 0x40 (dr word.toNat)) ∧
        (write = true → s.fielded = false → memory ∈ [1, 2, 3, 5, 7, 10] → Map.wf s.cmem = true → GoesTo o (fun t =>
          t.memRead false memory addr = (if memory = 1 then word.toNat % 2 ^ 48 else word.toNat) ∧ t.lc.ir = 0x40 ∧ t.lc.dr = dr word.toNat ∧
            t = { s with lc := t.lc, cmem := t.cmem, kern := t.kern }))))

/-- Alarms on main power complete: LOG and NOTIFY log, count and record the alarm; ABORT ends the jobs that hold secrets, QUIESCE closes windows, RESET and
higher begin a warm reset, ZEROIZE_ALL destroys the BBRAM secret; an alarm below a response in progress is logged alone; in reset the rank is held pending
(R409, R411-R413, R419, R420, R430). The tamper controller's other events complete: a condition that ends, a sample on battery, and a sample of TAMPER_HOLD,
which ends after 100 clear ones (R409, R417-R419). Where the spec leaves a point open or is read by inference, this follows the model's choice in logs 46,
85 and 135. It states that these forms complete: tamperAlarm, batterySample, tamperHoldSample, tamperSourceClear. -/
def Obligations.TamperEventsComplete : Prop :=
  (∀ (s : State) (src : Nat), s.fitted src = true → s.clk.onBattery = false → Map.wf s.dict = true → Calm s →
    let rank := s.response src
    let o := exec (.tamperAlarm src) s
    (rank = 0 → o = .next (s.setAsserted src true)) ∧
    (rank = 1 ∨ rank = 2 → GoesTo o (fun t => t.asserted src = true ∧ t.rd (0x4000 + src) 4 = eventAdd (s.rd (0x4000 + src) 4) (if rank = 2 then 1 else 0) ∧
      t.rd (0x4000 + src) 5 = time80 s.clk.datum ∧ t.flt.seq = s.flt.seq + 1 ∧
      (s.phase = .up → s.ringBusy = false → Map.find s.trav.tamperSec src ≠ some (s.clk.datum / 1000000000) →
        Recorded s t 8 2 0xFF src 3 (tamperDetail rank 0 (time80 s.clk.datum) (Map.getD s.trav.tamperCarry src 0 + 1))) ∧
      t.tamp = s.tamp.assert src true ∧
      t = { s with dict := t.dict, dtx := t.dtx, flt := t.flt, trav := t.trav, chans := t.chans, tx := t.tx, tamp := t.tamp, rwork := t.rwork })) ∧
    (3 ≤ rank → rank ≤ s.tamp.rank → GoesTo o (fun t => t.asserted src = true ∧ t.phase = s.phase ∧ t.jobs = s.jobs ∧ t.keys = s.keys)) ∧
    (s.tamp.rank < rank → s.phase = .up → s.clk.gated = false →
      (rank = 3 ∨ rank = 4 → GoesTo o (fun t => t.asserted src = true ∧ t.phase = .up ∧
        (∀ r j, s.findJob r = some j → j.running = true ∨ j.state = .suspended → s.holdsSecret j = true → j.kind ≠ 0x4 → JobDone t r 0x62 0 [] j.key) ∧
        (rank = 4 → t.tamp.quiesce = true ∧ (∀ w, w < 8 → t.windowOpen w = false) ∧ t.rd 0x4020 7 = eventAdd (s.rd 0x4020 7) 1))) ∧
      (5 ≤ rank → rank ≤ 7 → GoesTo o (fun t => t.phase = .down ∧ t.rd 0x1201 1 = 3 ∧ src ∈ t.tamp.restarted ∧ t.tamp.rank = rank ∧ t.jobs = [] ∧ t.chans = [] ∧
        t.keys.vol = [] ∧ (rank = 7 → t.keys.secret = 0 ∧ t.keys.hasSecret = false)))) ∧
    (s.tamp.rank < rank → s.phase = .down → 3 ≤ rank → rank ≤ 6 → GoesTo o (fun t => t.phase = .down ∧ t.rd 0x4020 5 = Nat.max (s.rd 0x4020 5) rank)) ∧
    (s.tamp.rank < rank → s.phase = .up → s.clk.gated = true → 3 ≤ rank → rank ≤ 7 → GoesTo o (fun t => t.phase = .up ∧ t.asserted src = true ∧
      (rank ≤ 6 → t.tamp.clockRank = Nat.max s.tamp.clockRank rank ∧ src ∈ t.tamp.clockSources ∧ t.rd 0x4020 5 = Nat.max (s.rd 0x4020 5) rank ∧ t.jobs = s.jobs) ∧
      (rank = 7 → t.keys.hasSecret = false ∧ t.clk.waiting = some (s.clk.waiting.getD 3))))) ∧
  (∀ s : State, Map.wf s.dict = true →
    (∀ src, src < 16 → s.asserted src = true → exec (.tamperSourceClear src) s = .next (s.setAsserted src false)) ∧
    (∀ seen : List Nat, s.clk.onBattery = true → GoesTo (exec (.batterySample seen) s) (fun t =>
      (∀ i, i < 16 → t.asserted i = (if onBatterySampled i && s.fitted i then seen.contains i else s.asserted i)) ∧
      (∀ i, i < 16 → onBatterySampled i = true → s.fitted i = true → i ∈ seen → s.asserted i = false →
        (2 ≤ s.response i → s.response i ≤ 6 → s.response i ≤ t.rd 0x4020 5) ∧ (s.response i = 7 → t.keys.hasSecret = false)) ∧
      t.phase = s.phase ∧ t.clk = s.clk)) ∧
    (s.clk.onBattery = false → ∀ seen, exec (.batterySample seen) s = .next s) ∧
    (∀ n, s.phase = .hold n → s.clk.gated = false →
      (s.holdAsserted = true → exec .tamperHoldSample s = .next { s with tamp := { s.tamp with clear := 0 } }) ∧
      (s.holdAsserted = false → s.tamp.clear < 99 → exec .tamperHoldSample s = .next { s with tamp := { s.tamp with clear := s.tamp.clear + 1 } }) ∧
      (s.holdAsserted = false → 99 ≤ s.tamp.clear → GoesTo (exec .tamperHoldSample s) (fun t => t.phase = .up ∧ t.tamp.rank = 0 ∧ t.tamp.restarted = [] ∧
        t.tamp.clear = 0))))

/-- REFCLK's loss and return, the crystal's, cluster wakes and spread spectrum complete: natively the domains stop and the pins go safe, and on return jobs that
ran end with CLOCK_LOSS and channels are gated again; in the compatible behaviour the PLL coasts (R425-R435). Where the spec leaves a point open or is read
by inference, this follows the model's choice in logs 54 and 56. It states that these forms complete: refclkLost, refclkRestored, crystalLost,
crystalRestored, clusterWake, sscApply. -/
def Obligations.ClockEventsComplete : Prop :=
  ∀ s : State, Map.wf s.dict = true →
    (s.clk.refclk = false → exec .refclkLost s = .next s) ∧
    (s.clk.refclk = true → s.phase = .down → exec .refclkLost s = .next { s with clk := { s.clk with refclk := false } }) ∧
    (s.clk.refclk = true → s.phase ≠ .down → GoesTo (exec .refclkLost s) (fun t => t.rd 0x1200 7 = eventAdd (s.rd 0x1200 7) 1 ∧
      t.rd 0x1200 8 = time80 s.clk.datum ∧ t.pins.txIdle = true ∧ (∀ p, p < 4 → t.linkUp p = false) ∧ t.jobs = s.jobs ∧ t.keys = s.keys ∧
      (s.compatClock = false → t.rd 0x1200 1 = 1 ∧ t.clk = { s.clk with refclk := false, lossAt := s.clk.rtc, gated := true } ∧ t.pins.safe = true ∧
        ∀ l, l < 32 → t.released l = false) ∧
      (s.compatClock = true → t.rd 0x1200 1 = 2 ∧ t.clk = { s.clk with refclk := false, lossAt := s.clk.rtc, coasting := true } ∧ t.pins.lines = s.pins.lines))) ∧
    (s.clk.refclk = true → exec .refclkRestored s = .next s) ∧
    (s.clk.refclk = false → s.phase = .down → exec .refclkRestored s = .next { s with clk := { s.clk with refclk := true } }) ∧
    (s.clk.refclk = false → s.phase ≠ .down → s.clk.gated = false → GoesTo (exec .refclkRestored s) (fun t => t.rd 0x1200 1 = 0 ∧
      t.rd 0x1200 7 = eventAdd (s.rd 0x1200 7) 2 ∧ t.rd 0x1200 9 = (s.clk.rtc - s.clk.lossAt) / 1000 % 2 ^ 32 ∧
      t.clk = { s.clk with refclk := true, gated := false, coasting := false } ∧ t.jobs = s.jobs)) ∧
    (s.clk.refclk = false → s.phase = .up → s.clk.gated = true → s.tamp.clockRank = 0 →
      (s.clk.waiting = none → Calm s → (∀ p ∈ s.chans, s.keepaliveOver p.2 = false) → GoesTo (exec .refclkRestored s) (fun t =>
        t.clk.gated = false ∧ t.clk.refclk = true ∧ t.rd 0x1200 1 = 0 ∧ t.pins.safe = false ∧ (∀ n, 1 ≤ n → n ≤ 31 → t.chanMode n = 0) ∧
        t.lap.start = s.clk.datum ∧ t.lap.short ≠ none ∧
        ∀ r j, s.findJob r = some j → j.running = true → j.units ≠ [] → j.kind ≠ 0x4 → JobDone t r 0x61 0 [] j.key)) ∧
      (∀ cause, s.clk.waiting = some cause → GoesTo (exec .refclkRestored s) (fun t => t.phase = .down ∧ t.rd 0x1201 1 = cause ∧ t.jobs = []))) ∧
    (s.clk.refclk = false → s.phase = .up → s.clk.gated = true → s.clk.waiting = none → 5 ≤ s.tamp.clockRank → GoesTo (exec .refclkRestored s) (fun t =>
      t.phase = .down ∧ t.rd 0x1201 1 = 3 ∧ t.jobs = [] ∧ t.tamp.clockRank = 0)) ∧
    (s.clk.xtal = true → s.phase ≠ .down → GoesTo (exec .crystalLost s) (fun t => t.clk = { s.clk with xtal := false, aonOnTamperOsc := true } ∧
      t.rd 0x1200 7 = eventAdd (eventAdd (s.rd 0x1200 7) 32) 4 ∧ t = { s with clk := t.clk, dict := t.dict, dtx := t.dtx })) ∧
    (s.clk.xtal = false → exec .crystalRestored s = .next { s with clk := { s.clk with xtal := true, aonOnTamperOsc := false } }) ∧
    (∀ c, c < 16 → s.phase = .up → s.clk.gated = false → s.clusterIdle c = true → GoesTo (exec (.clusterWake c) s) (fun t =>
      (t.cluster c).powered = true ∧ (t.cluster c).freeBlocks = 176 ∧ (t.cluster c).resident = none ∧ (∀ d, d ≠ c → t.cluster d = s.cluster d) ∧
      (s.kern.bound = [] → ∀ d a, a < 2 ^ 18 → t.cword d a = if d = c then ⟨0, false⟩ else s.cword d a) ∧ t = { s with cmem := t.cmem, clus := t.clus })) ∧
    (s.phase = .up → s.clk.gated = false → exec .sscApply s =
      .next { s with clk := { s.clk with sscDepth := s.rd 0x1200 4, sscRate := s.rd 0x1200 5, sscProfile := s.rd 0x1200 6 } })

/-- Resets and starts complete: a cold reset clears clocked logic and keeps flash, fuses and the tamper ring; SYSRST_N is a warm reset that keeps the datum, or
waits while REFCLK is lost; a start opens service, or holds while the source that caused it is asserted; the always-on reset clears BBRAM (R38, R314, R360,
R366, R416, R417, R430, R441-R443, R457). Where the spec leaves a point open or is read by inference, this follows the model's choice in logs 4, 47, 85, 106
and 118. It states that these forms complete: aonChangeover, coldReset, coldStart, sysrstNAssert, warmStart, alwaysOnReset. -/
def Obligations.ResetsAndStartsComplete : Prop :=
  ∀ s : State, Map.wf s.dict = true →
    GoesTo (exec .coldReset s) (fun t => t.phase = .down ∧ t.rd 0x1201 1 = 0 ∧ t.jobs = [] ∧ t.chans = [] ∧ t.tx = [] ∧ t.keys.vol = [] ∧ t.keys.recs = s.keys.recs ∧
      t.keys.secret = s.keys.secret ∧ t.lc.fuses = s.lc.fuses ∧ t.trav.archive = s.trav.archive.map Bench.cutShort ∧ t.trav.ring = [] ∧ t.tamp.ring = s.tamp.ring ∧
      t.clk.datum = s.clk.rtc ∧ t.dtx.epoch = s.dtx.epoch + 1 ∧ t.dtx.journal = none ∧ t.pins.lines = 0 ∧ t.pending = s.pending) ∧
    (s.phase = .down → s.rd 0x1201 1 = 0 → exec .sysrstNAssert s = .next s) ∧
    (s.phase ≠ .down ∨ s.rd 0x1201 1 ≠ 0 →
      (s.clk.gated = true → GoesTo (exec .sysrstNAssert s) (fun t => t.pins.sysrstLow = true ∧ t.phase = s.phase ∧ t.clk.waiting = some (s.clk.waiting.getD 1) ∧
        t.jobs = s.jobs)) ∧
      (s.clk.gated = false → GoesTo (exec .sysrstNAssert s) (fun t => t.pins.sysrstLow = true ∧ t.phase = .down ∧ t.rd 0x1201 1 = 1 ∧
        t.rd 0x1201 3 = (s.rd 0x1201 3 + 1) % 2 ^ 32 ∧ t.jobs = [] ∧ t.chans = [] ∧ t.keys.vol = [] ∧ t.tx = s.tx ∧ t.clk.datum = s.clk.datum ∧
        t.lc.fuses = s.lc.fuses ∧ t.trav.archive = s.trav.archive.map Bench.cutShort))) ∧
    (s.phase = .down → s.clk.refclk = true → s.clk.onBattery = false → s.lc.prog = none →
      (∀ (banks bad : BitVec 8) (compat : Bool), s.rd 0x1201 1 = 0 → s.tamp.restarted = [] → GoesTo (exec (.coldStart banks bad compat) s) (fun t =>
        t.phase = .up ∧ t.clk.datum = s.clk.rtc ∧ t.clk.compat = compat ∧ t.tamp.rank = 0 ∧
        (s.trav.ring = [] → ∃ b, t.trav.ring.head? = some b ∧ b.kind = 2 ∧ b.epoch = t.trav.epoch))) ∧
      (s.rd 0x1201 1 ≠ 0 → s.tamp.restarted = [] → GoesTo (exec .warmStart s) (fun t => t.phase = .up ∧ t.clk.datum = s.clk.datum ∧ t.pins.sysrstLow = false ∧
        t.tamp.rank = 0)) ∧
      (∀ n, s.rd 0x1201 1 ≠ 0 → s.tamp.restarted = [n] → s.asserted n = true → 5 ≤ s.response n → GoesTo (exec .warmStart s) (fun t => t.phase = .hold n ∧
        bitAt (t.rd 0x4020 7) 4 = true ∧ t.tamp.clear = 0))) ∧
    GoesTo (exec .alwaysOnReset s) (fun t => t.keys.secret = 0 ∧ t.keys.hasSecret = false ∧ t.trav.epoch = 0 ∧ t.tamp.ring = [] ∧ t.clk.rtc = 0 ∧
      t.rd 0x4020 5 = 0 ∧ t.lc.record = none ∧ t.lc.fuses = s.lc.fuses ∧ t.trav.archive = s.trav.archive ∧ t.keys.recs = s.keys.recs ∧ t.phase = s.phase) ∧
    ∀ b, exec (.aonChangeover b) s = .next { s with clk := { s.clk with onBattery := b } }

/-- A step takes the command at the front of the queue and runs it with the queue's rest; on an empty queue the clocks tick and nothing but clocks, mask buffers
and wait counts changes. The queue and the tick are the model's choice (log 1). Where the spec leaves a point open or is read by inference, this follows the
model's choice in logs 1, 45 and 128. -/
def Obligations.StepRunsTheFrontCommand : Prop :=
  (∀ (c : Instr) (rest : List Instr) (s : State), step { s with pending := c :: rest } = exec c { s with pending := rest }) ∧
    ∀ s : State, s.pending = [] → Map.wf s.dict = true → GoesTo (step s) (fun t =>
      t = { s with clk := t.clk, les := t.les, dict := t.dict, free := t.free, kern := t.kern, dtx := t.dtx, pins := t.pins } ∧
      t.pins = { s.pins with pwrgd := t.pins.pwrgd } ∧ (s.pins.pwrgd = true → t.pins = s.pins) ∧ t.clk.refclk = s.clk.refclk ∧
      t.clk.gated = s.clk.gated ∧ s.clk.rtc ≤ t.clk.rtc ∧ (s.phase ≠ .down → s.clk.datum ≤ t.clk.datum) ∧
      (∀ e, (t.le e).regs = (s.le e).regs ∧ (t.le e).job = (s.le e).job) ∧
      (∀ idx sub, sub < 256 → idx ≠ 0x1202 → idx ≠ 0x2421 → t.rd idx sub = s.rd idx sub) ∧
      (s.kern.verifying = none ∨ s.rd 0x2421 3 ≠ 1 ∨ s.runs = false → t.kern = s.kern ∧ t.dtx = s.dtx ∧ ∀ sub, sub < 256 → t.rd 0x2421 sub = s.rd 0x2421 sub) ∧
      ∀ k, s.kern.verifying = some k → s.rd 0x2421 3 = 1 → s.runs = true → match s.loaderChecks k with
        | some (n, off) => t.kern = { s.kern with verifying := none } ∧ t.rd 0x2421 3 = 4 ∧ t.rd 0x2421 4 = n * 2 ^ 24 + off % 2 ^ 24
        | none => t.kern = s.kern ∧ t.rd 0x2421 3 = 2)

/-- Right after a cold reset nothing has started, every entry reads its default, every line is low, no channel, job, volatile key or unarchived record stands,
the datum counter has its nominal increment, the queue is empty (the queue is the model's: log 1), and the invariants of the block hold (R35, R106, R335,
R441). Where the spec leaves a point open or is read by inference, this follows the model's choice in logs 1 and 4. -/
def Obligations.ResetStateIsCleared : Prop :=
  let s := State.reset
  s.phase = .down ∧ (∀ idx sub, s.rd idx sub = dflt idx sub) ∧ (∀ l, l < 32 → s.released l = false) ∧ s.chans = [] ∧ s.jobs = [] ∧ s.keys.vol = [] ∧
    s.trav.ring = [] ∧ s.dstreams = [] ∧ s.hs = [] ∧ s.dtx.journal = none ∧ (∀ n, n < 64 → s.le n = leInit) ∧ (∀ c a, s.cword c a = ⟨0, false⟩) ∧
    s.clk.incr = 16 * 2 ^ 32 / 5 ∧ s.lc.debugOpen = false ∧ s.pending = [] ∧ MemoryInv s ∧ MapsInv s

/-- No step takes a programmed fuse segment back: whatever command runs, each of the 27 segments that reads 0xFFFF still does. -/
def Obligations.ProgrammedFusesStay : Prop :=
  ∀ s t : State, step s = .next t → ∀ i, i < 27 → segSet s.lc.fuses i = true → segSet t.lc.fuses i = true

/-- Cluster memory keeps its canonical form through every step: addresses strictly rising, and no word listed that reads as an unlisted one does. -/
def Obligations.ClusterMemoryStaysCanonical : Prop :=
  ∀ s t : State, MemoryInv s → step s = .next t → MemoryInv t

/-- The dictionary, the channels, the keys and the bound kernels keep their canonical form through every step: keys strictly rising. -/
def Obligations.DictionaryAndMapsStayCanonical : Prop :=
  ∀ s t : State, MapsInv s → step s = .next t → MapsInv t

/-- The 18-, 36- and 72-bit lanes, the words of a register, and fields of several octets are laid out as the spec says: lane i of 18 bits is bits [18i+17:18i],
octet 0 the most significant (R1, R2). -/
def Obligations.LanesAndOctetsAreLaidOut : Prop :=
  (∀ w : BitVec 72,
    (∀ i, i < 4 → ∀ b, b < 18 → (laneAt 18 w.toNat i).testBit b = w.getLsbD (18 * i + b)) ∧
    (∀ j, j < 2 → ∀ b, b < 36 → (laneAt 36 w.toNat j).testBit b = w.getLsbD (36 * j + b)) ∧
    laneAt 72 w.toNat 0 = w.toNat) ∧
  (∀ v : BitVec 1152, ∀ w, w < 16 → ∀ b, b < 72 → (laneAt 72 v.toNat w).testBit b = v.getLsbD (72 * w + b)) ∧
  ∀ n v : Nat, v < 256 ^ n → beNat (beBytes n v) = v ∧ (beBytes n v).length = n ∧
    ∀ i, i < n → ∀ b, b < 8 → ((beBytes n v).getD i 0).getLsbD b = v.testBit (8 * (n - 1 - i) + b)

/-- A job that is dispatched to an LE finds every V, A and M register at its reset value and Q0 to Q3 at their presets; one that resumes finds the registers
that its save area gives, which are the saved ones where nothing has written over the area (R198). -/
def Obligations.DispatchGivesADefinedEngine : Prop :=
  ∀ (s : State) (r : JobRef) (j : Job) (e : Nat), s.findJob r = some j → s.phase = .up → s.clk.gated = false → (s.ten j.tenant).resetting = false →
    s.rd (0x1800 + j.tenant) 1 ≠ 0 → e < 64 →
    let u := (s.rebalance false).accrueAll
    (j.state = .queued → j.scheduled = true → j.prec = true ∨ u.isHead j = true → (match u.ready j with | .go => True | _ => False) →
      ∀ b, u.admission j = some b → u.lowerQueue j = false → j.prec = true ∨ u.precedenceWaits j (u.unitNeeds j) = false → u.turnFits j b = true →
        u.unitsFit j [e] = true → GoesTo (exec (.jobDispatch r [e]) s) (fun t => (t.le e).job = some r ∧ ∀ n,
          (t.le e).vreg n = ⟨0, 0⟩ ∧ (t.le e).areg n = ⟨0, false⟩ ∧ (t.le e).mreg n = ⟨2 ^ 256 - 1, false⟩ ∧ (t.le e).desc n = presetQ n)) ∧
    (j.state = .suspended → ∀ b l, u.admission j = some b → u.earlierSuspended j = false → u.resumeFits j [e] = true → Map.find u.saved j.order = some l →
      GoesTo (exec (.jobDispatch r [e]) s) (fun t => (t.le e).regs = u.restoredRegs (clusterOf e) l ∧
        (u.areaWords (clusterOf e) l.scratchAt l.contextWords.length = l.contextWords → (t.le e).regs = l.regs)))
end

