-- ==== Sys2Proof/Laws/Dispatch.lean ====
section
/-! SUPPORT. The meaning that each command has: one equation per command, so that no proof unfolds the table of arms. -/

namespace Sys2Proof
namespace Machine

variable (s : State)

theorem exec_linkDown (port : Nat) : exec (.linkDown port) s = execLinkDown port s := rfl
theorem exec_linkUp (port : Nat) (speed : Nat) (partnerFec : List Nat) (conflicts : List Nat) : exec (.linkUp port speed partnerFec conflicts) s = execLinkUp port speed partnerFec conflicts s := rfl
theorem exec_failbackHoldExpiry (port : Nat) : exec (.failbackHoldExpiry port) s = execFailbackHoldExpiry port s := rfl
theorem exec_portConfigChange (port : Nat) : exec (.portConfigChange port) s = execPortConfigChange port s := rfl
theorem exec_ethernetFrameReceive (port : Nat) (f : EthFrame) : exec (.ethernetFrameReceive port f) s = execEthernetFrameReceive port f s := rfl
theorem exec_arpRequest (port : Nat) (target : BitVec 32) : exec (.arpRequest port target) s = execArpRequest port target s := rfl
theorem exec_neighbourSolicitation (port : Nat) (target : BitVec 128) : exec (.neighbourSolicitation port target) s = execNeighbourSolicitation port target s := rfl
theorem exec_echoRequest (port : Nat) (v6 : Bool) (payload : Bytes) : exec (.echoRequest port v6 payload) s = execEchoRequest port v6 payload s := rfl
theorem exec_announceIntervalExpiry (port : Nat) : exec (.announceIntervalExpiry port) s = execAnnounceIntervalExpiry port s := rfl
theorem exec_announceSend (port : Nat) : exec (.announceSend port) s = execAnnounceSend port s := rfl
theorem exec_announceReceive (src : AnnounceSrc) (body : Bytes) (key : Bytes) (cert : Bytes) : exec (.announceReceive src body key cert) s = execAnnounceReceive src body key cert s := rfl
theorem exec_ptpAnnounceMessage (port : Nat) (m : PtpMaster) (a : PtpAnnounce) : exec (.ptpAnnounceMessage port m a) s = execPtpAnnounceMessage port m a s := rfl
theorem exec_ptpSyncMessage (k : PtpStamp) (h : PtpHdr) (masterId : Nat) (t1 : Int) : exec (.ptpSyncMessage k h masterId t1) s = execPtpSyncMessage k h masterId t1 s := rfl
theorem exec_ptpDelayRequestTimer (k : PtpStamp) : exec (.ptpDelayRequestTimer k) s = execPtpDelayRequestTimer k s := rfl
theorem exec_ptpDelayResponse (k : PtpStamp) (h : PtpHdr) (r : PtpTimes) : exec (.ptpDelayResponse k h r) s = execPtpDelayResponse k h r s := rfl
theorem exec_announceReceiptTimeout (port : Nat) : exec (.announceReceiptTimeout port) s = execAnnounceReceiptTimeout port s := rfl
theorem exec_holdoverLimitExpiry : exec (.holdoverLimitExpiry) s = execHoldoverLimitExpiry s := rfl
theorem exec_refclkSdLost : exec (.refclkSdLost) s = execRefclkSdLost s := rfl
theorem exec_refclkSdReturn : exec (.refclkSdReturn) s = execRefclkSdReturn s := rfl
theorem exec_opfelFrame (f : OpfelIn) : exec (.opfelFrame f) s = execOpfelFrame f s := rfl
theorem exec_reassemblyTimeout (p : PartRef) : exec (.reassemblyTimeout p) s = execReassemblyTimeout p s := rfl
theorem exec_credit (f : OpfelIn) : exec (.credit f) s = execCredit f s := rfl
theorem exec_completionRelease (j : JobRef) : exec (.completionRelease j) s = execCompletionRelease j s := rfl
theorem exec_handshakeRequest (r : HsReq) : exec (.handshakeRequest r) s = execHandshakeRequest r s := rfl
theorem exec_handshakeReply (tenant : Nat) (ident : Nat) (src : Peer) : exec (.handshakeReply tenant ident src) s = execHandshakeReply tenant ident src s := rfl
theorem exec_pendingExpiry (chan : Nat) : exec (.pendingExpiry chan) s = execPendingExpiry chan s := rfl
theorem exec_keepaliveExpiry (chan : Nat) : exec (.keepaliveExpiry chan) s = execKeepaliveExpiry chan s := rfl
theorem exec_ping (j : JobRef) : exec (.ping j) s = execPing j s := rfl
theorem exec_close (j : JobRef) : exec (.close j) s = execClose j s := rfl
theorem exec_closeDrained (chan : Nat) : exec (.closeDrained chan) s = execCloseDrained chan s := rfl
theorem exec_closeNow (j : JobRef) : exec (.closeNow j) s = execCloseNow j s := rfl
theorem exec_retire (j : JobRef) : exec (.retire j) s = execRetire j s := rfl
theorem exec_subscribe (j : JobRef) : exec (.subscribe j) s = execSubscribe j s := rfl
theorem exec_tenantReset (j : JobRef) : exec (.tenantReset j) s = execTenantReset j s := rfl
theorem exec_tenantStateWrite (j : JobRef) (tenant : Nat) (enabled : Bool) : exec (.tenantStateWrite j tenant enabled) s = execTenantStateWrite j tenant enabled s := rfl
theorem exec_enrol (j : JobRef) : exec (.enrol j) s = execEnrol j s := rfl
theorem exec_setKeepalive (j : JobRef) : exec (.setKeepalive j) s = execSetKeepalive j s := rfl
theorem exec_read (j : JobRef) : exec (.read j) s = execRead j s := rfl
theorem exec_write (j : JobRef) : exec (.write j) s = execWrite j s := rfl
theorem exec_sealedWrite (j : JobRef) : exec (.sealedWrite j) s = execSealedWrite j s := rfl
theorem exec_describe (j : JobRef) : exec (.describe j) s = execDescribe j s := rfl
theorem exec_journalCommit (programOk : Bool) : exec (.journalCommit programOk) s = execJournalCommit programOk s := rfl
theorem exec_eventClear (j : JobRef) (idx : Nat) (sub : Nat) (count : Nat) (mask : Nat) : exec (.eventClear j idx sub count mask) s = execEventClear j idx sub count mask s := rfl
theorem exec_jobDispatch (j : JobRef) (units : List Nat) : exec (.jobDispatch j units) s = execJobDispatch j units s := rfl
theorem exec_lapBoundary : exec (.lapBoundary) s = execLapBoundary s := rfl
theorem exec_lapLengthChange : exec (.lapLengthChange) s = execLapLengthChange s := rfl
theorem exec_budgetExhausted (tenant : Nat) (cls : EngClass) : exec (.budgetExhausted tenant cls) s = execBudgetExhausted tenant cls s := rfl
theorem exec_safePointReached (unit : Nat) : exec (.safePointReached unit) s = execSafePointReached unit s := rfl
theorem exec_mlKemKeygen (r : JobRun) : exec (.mlKemKeygen r) s = execMlKemKeygen r s := rfl
theorem exec_mlKemKeygenFromSeed (r : JobRun) : exec (.mlKemKeygenFromSeed r) s = execMlKemKeygenFromSeed r s := rfl
theorem exec_mlKemEncaps (r : JobRun) : exec (.mlKemEncaps r) s = execMlKemEncaps r s := rfl
theorem exec_mlKemDecaps (r : JobRun) : exec (.mlKemDecaps r) s = execMlKemDecaps r s := rfl
theorem exec_mlDsaKeygen (r : JobRun) : exec (.mlDsaKeygen r) s = execMlDsaKeygen r s := rfl
theorem exec_mlDsaSign (r : JobRun) : exec (.mlDsaSign r) s = execMlDsaSign r s := rfl
theorem exec_mlDsaVerify (r : JobRun) : exec (.mlDsaVerify r) s = execMlDsaVerify r s := rfl
theorem exec_mlDsaSignMu (r : JobRun) : exec (.mlDsaSignMu r) s = execMlDsaSignMu r s := rfl
theorem exec_mlDsaVerifyMu (r : JobRun) : exec (.mlDsaVerifyMu r) s = execMlDsaVerifyMu r s := rfl
theorem exec_mlDsaHashSign (r : JobRun) : exec (.mlDsaHashSign r) s = execMlDsaHashSign r s := rfl
theorem exec_mlDsaHashVerify (r : JobRun) : exec (.mlDsaHashVerify r) s = execMlDsaHashVerify r s := rfl
theorem exec_slhDsaKeygen (r : JobRun) : exec (.slhDsaKeygen r) s = execSlhDsaKeygen r s := rfl
theorem exec_slhDsaSign (r : JobRun) : exec (.slhDsaSign r) s = execSlhDsaSign r s := rfl
theorem exec_slhDsaVerify (r : JobRun) : exec (.slhDsaVerify r) s = execSlhDsaVerify r s := rfl
theorem exec_slhDsaHashSign (r : JobRun) : exec (.slhDsaHashSign r) s = execSlhDsaHashSign r s := rfl
theorem exec_slhDsaHashVerify (r : JobRun) : exec (.slhDsaHashVerify r) s = execSlhDsaHashVerify r s := rfl
theorem exec_fnDsaVerify (r : JobRun) : exec (.fnDsaVerify r) s = execFnDsaVerify r s := rfl
theorem exec_hqcKeygen (r : JobRun) : exec (.hqcKeygen r) s = execHqcKeygen r s := rfl
theorem exec_hqcEncaps (r : JobRun) : exec (.hqcEncaps r) s = execHqcEncaps r s := rfl
theorem exec_hqcDecaps (r : JobRun) : exec (.hqcDecaps r) s = execHqcDecaps r s := rfl
theorem exec_mcelieceKeygen (r : JobRun) : exec (.mcelieceKeygen r) s = execMcelieceKeygen r s := rfl
theorem exec_mcelieceEncaps (r : JobRun) : exec (.mcelieceEncaps r) s = execMcelieceEncaps r s := rfl
theorem exec_mcelieceDecaps (r : JobRun) : exec (.mcelieceDecaps r) s = execMcelieceDecaps r s := rfl
theorem exec_statefulKeygen (r : JobRun) : exec (.statefulKeygen r) s = execStatefulKeygen r s := rfl
theorem exec_statefulSign (r : JobRun) : exec (.statefulSign r) s = execStatefulSign r s := rfl
theorem exec_statefulVerify (r : JobRun) : exec (.statefulVerify r) s = execStatefulVerify r s := rfl
theorem exec_reservationCommit (handle : Nat) (ok : Bool) : exec (.reservationCommit handle ok) s = execReservationCommit handle ok s := rfl
theorem exec_eccKeygen (r : JobRun) : exec (.eccKeygen r) s = execEccKeygen r s := rfl
theorem exec_eccSign (r : JobRun) : exec (.eccSign r) s = execEccSign r s := rfl
theorem exec_eccVerify (r : JobRun) : exec (.eccVerify r) s = execEccVerify r s := rfl
theorem exec_eccAgree (r : JobRun) : exec (.eccAgree r) s = execEccAgree r s := rfl
theorem exec_eccHashSign (r : JobRun) : exec (.eccHashSign r) s = execEccHashSign r s := rfl
theorem exec_eccHashVerify (r : JobRun) : exec (.eccHashVerify r) s = execEccHashVerify r s := rfl
theorem exec_rsaKeygen (r : JobRun) : exec (.rsaKeygen r) s = execRsaKeygen r s := rfl
theorem exec_rsaSign (r : JobRun) : exec (.rsaSign r) s = execRsaSign r s := rfl
theorem exec_rsaVerify (r : JobRun) : exec (.rsaVerify r) s = execRsaVerify r s := rfl
theorem exec_rsaDecrypt (r : JobRun) : exec (.rsaDecrypt r) s = execRsaDecrypt r s := rfl
theorem exec_rsaEncrypt (r : JobRun) : exec (.rsaEncrypt r) s = execRsaEncrypt r s := rfl
theorem exec_rsaHashSign (r : JobRun) : exec (.rsaHashSign r) s = execRsaHashSign r s := rfl
theorem exec_rsaHashVerify (r : JobRun) : exec (.rsaHashVerify r) s = execRsaHashVerify r s := rfl
theorem exec_aeadEncrypt (r : JobRun) : exec (.aeadEncrypt r) s = execAeadEncrypt r s := rfl
theorem exec_aeadDecrypt (r : JobRun) : exec (.aeadDecrypt r) s = execAeadDecrypt r s := rfl
theorem exec_digest (r : JobRun) : exec (.digest r) s = execDigest r s := rfl
theorem exec_mac (r : JobRun) : exec (.mac r) s = execMac r s := rfl
theorem exec_macVerify (r : JobRun) : exec (.macVerify r) s = execMacVerify r s := rfl
theorem exec_extract (r : JobRun) : exec (.extract r) s = execExtract r s := rfl
theorem exec_expand (r : JobRun) : exec (.expand r) s = execExpand r s := rfl
theorem exec_extractExpand (r : JobRun) : exec (.extractExpand r) s = execExtractExpand r s := rfl
theorem exec_randomOctets (r : JobRun) : exec (.randomOctets r) s = execRandomOctets r s := rfl
theorem exec_genSymmetric (r : JobRun) : exec (.genSymmetric r) s = execGenSymmetric r s := rfl
theorem exec_importPublic (r : JobRun) : exec (.importPublic r) s = execImportPublic r s := rfl
theorem exec_exportPublic (r : JobRun) : exec (.exportPublic r) s = execExportPublic r s := rfl
theorem exec_destroy (r : JobRun) : exec (.destroy r) s = execDestroy r s := rfl
theorem exec_kumCreate (r : JobRun) : exec (.kumCreate r) s = execKumCreate r s := rfl
theorem exec_kumImport (r : JobRun) : exec (.kumImport r) s = execKumImport r s := rfl
theorem exec_kumReplace (r : JobRun) : exec (.kumReplace r) s = execKumReplace r s := rfl
theorem exec_kumDestroy (r : JobRun) : exec (.kumDestroy r) s = execKumDestroy r s := rfl
theorem exec_kumSetAttr (r : JobRun) : exec (.kumSetAttr r) s = execKumSetAttr r s := rfl
theorem exec_kumCommit (domain : Nat) (ok : Bool) : exec (.kumCommit domain ok) s = execKumCommit domain ok s := rfl
theorem exec_keyLoad (handle : Nat) : exec (.keyLoad handle) s = execKeyLoad handle s := rfl
theorem exec_serverShare (r : JobRun) : exec (.serverShare r) s = execServerShare r s := rfl
theorem exec_clientShare (r : JobRun) : exec (.clientShare r) s = execClientShare r s := rfl
theorem exec_clientHandshake (r : JobRun) : exec (.clientHandshake r) s = execClientHandshake r s := rfl
theorem exec_handshakeSecrets (r : JobRun) : exec (.handshakeSecrets r) s = execHandshakeSecrets r s := rfl
theorem exec_appSecrets (r : JobRun) : exec (.appSecrets r) s = execAppSecrets r s := rfl
theorem exec_resumption (r : JobRun) : exec (.resumption r) s = execResumption r s := rfl
theorem exec_stamp (r : JobRun) : exec (.stamp r) s = execStamp r s := rfl
theorem exec_quote (r : JobRun) : exec (.quote r) s = execQuote r s := rfl
theorem exec_compare (r : JobRun) : exec (.compare r) s = execCompare r s := rfl
theorem exec_streamMessage (r : JobRun) : exec (.streamMessage r) s = execStreamMessage r s := rfl
theorem exec_ownerKernelJob (j : JobRef) : exec (.ownerKernelJob j) s = execOwnerKernelJob j s := rfl
theorem exec_ownerKernelCostLimit (j : JobRef) : exec (.ownerKernelCostLimit j) s = execOwnerKernelCostLimit j s := rfl
theorem exec_fetch (j : JobRef) : exec (.fetch j) s = execFetch j s := rfl
theorem exec_head (j : JobRef) : exec (.head j) s = execHead j s := rfl
theorem exec_checkpoint (j : JobRef) : exec (.checkpoint j) s = execCheckpoint j s := rfl
theorem exec_nop (w : Mw) : exec (.nop w) s = execNop w s := rfl
theorem exec_add (w : Mw) : exec (.add w) s = execAdd w s := rfl
theorem exec_sub (w : Mw) : exec (.sub w) s = execSub w s := rfl
theorem exec_addm (w : Mw) : exec (.addm w) s = execAddm w s := rfl
theorem exec_subm (w : Mw) : exec (.subm w) s = execSubm w s := rfl
theorem exec_redb (w : Mw) : exec (.redb w) s = execRedb w s := rfl
theorem exec_mulm (w : Mw) : exec (.mulm w) s = execMulm w s := rfl
theorem exec_mulw (w : Mw) : exec (.mulw w) s = execMulw w s := rfl
theorem exec_dot (w : Mw) : exec (.dot w) s = execDot w s := rfl
theorem exec_redw (w : Mw) : exec (.redw w) s = execRedw w s := rfl
theorem exec_clmul (w : Mw) : exec (.clmul w) s = execClmul w s := rfl
theorem exec_basemul (w : Mw) : exec (.basemul w) s = execBasemul w s := rfl
theorem exec_ct18 (w : Mw) : exec (.ct18 w) s = execCt18 w s := rfl
theorem exec_gs18 (w : Mw) : exec (.gs18 w) s = execGs18 w s := rfl
theorem exec_ct36l (w : Mw) : exec (.ct36l w) s = execCt36l w s := rfl
theorem exec_ct36u (w : Mw) : exec (.ct36u w) s = execCt36u w s := rfl
theorem exec_ct36TopSum (w : Mw) : exec (.ct36TopSum w) s = execCt36TopSum w s := rfl
theorem exec_ct36TopDiff (w : Mw) : exec (.ct36TopDiff w) s = execCt36TopDiff w s := rfl
theorem exec_gs36l (w : Mw) : exec (.gs36l w) s = execGs36l w s := rfl
theorem exec_gs36u (w : Mw) : exec (.gs36u w) s = execGs36u w s := rfl
theorem exec_gs36TopSum (w : Mw) : exec (.gs36TopSum w) s = execGs36TopSum w s := rfl
theorem exec_gs36TopDiff (w : Mw) : exec (.gs36TopDiff w) s = execGs36TopDiff w s := rfl
theorem exec_and (w : Mw) : exec (.and w) s = execAnd w s := rfl
theorem exec_or (w : Mw) : exec (.or w) s = execOr w s := rfl
theorem exec_xor (w : Mw) : exec (.xor w) s = execXor w s := rfl
theorem exec_andn (w : Mw) : exec (.andn w) s = execAndn w s := rfl
theorem exec_shl (w : Mw) : exec (.shl w) s = execShl w s := rfl
theorem exec_shr (w : Mw) : exec (.shr w) s = execShr w s := rfl
theorem exec_rol64 (w : Mw) : exec (.rol64 w) s = execRol64 w s := rfl
theorem exec_cmplt (w : Mw) : exec (.cmplt w) s = execCmplt w s := rfl
theorem exec_cmpeq (w : Mw) : exec (.cmpeq w) s = execCmpeq w s := rfl
theorem exec_movm (w : Mw) : exec (.movm w) s = execMovm w s := rfl
theorem exec_popc (w : Mw) : exec (.popc w) s = execPopc w s := rfl
theorem exec_mfromv (w : Mw) : exec (.mfromv w) s = execMfromv w s := rfl
theorem exec_andr (w : Mw) : exec (.andr w) s = execAndr w s := rfl
theorem exec_orr (w : Mw) : exec (.orr w) s = execOrr w s := rfl
theorem exec_perm (w : Mw) : exec (.perm w) s = execPerm w s := rfl
theorem exec_unpackZ (w : Mw) : exec (.unpackZ w) s = execUnpackZ w s := rfl
theorem exec_unpackS (w : Mw) : exec (.unpackS w) s = execUnpackS w s := rfl
theorem exec_pack (w : Mw) : exec (.pack w) s = execPack w s := rfl
theorem exec_compress (w : Mw) : exec (.compress w) s = execCompress w s := rfl
theorem exec_decompress (w : Mw) : exec (.decompress w) s = execDecompress w s := rfl
theorem exec_byteEncode (w : Mw) : exec (.byteEncode w) s = execByteEncode w s := rfl
theorem exec_byteDecode (w : Mw) : exec (.byteDecode w) s = execByteDecode w s := rfl
theorem exec_bitpack (w : Mw) : exec (.bitpack w) s = execBitpack w s := rfl
theorem exec_bitunpack (w : Mw) : exec (.bitunpack w) s = execBitunpack w s := rfl
theorem exec_p2rHi (w : Mw) : exec (.p2rHi w) s = execP2rHi w s := rfl
theorem exec_p2rLo (w : Mw) : exec (.p2rLo w) s = execP2rLo w s := rfl
theorem exec_dec88Hi (w : Mw) : exec (.dec88Hi w) s = execDec88Hi w s := rfl
theorem exec_dec88Lo (w : Mw) : exec (.dec88Lo w) s = execDec88Lo w s := rfl
theorem exec_dec32Hi (w : Mw) : exec (.dec32Hi w) s = execDec32Hi w s := rfl
theorem exec_dec32Lo (w : Mw) : exec (.dec32Lo w) s = execDec32Lo w s := rfl
theorem exec_mkhint88 (w : Mw) : exec (.mkhint88 w) s = execMkhint88 w s := rfl
theorem exec_mkhint32 (w : Mw) : exec (.mkhint32 w) s = execMkhint32 w s := rfl
theorem exec_usehint88 (w : Mw) : exec (.usehint88 w) s = execUsehint88 w s := rfl
theorem exec_usehint32 (w : Mw) : exec (.usehint32 w) s = execUsehint32 w s := rfl
theorem exec_cbd2 (w : Mw) : exec (.cbd2 w) s = execCbd2 w s := rfl
theorem exec_cbd3 (w : Mw) : exec (.cbd3 w) s = execCbd3 w s := rfl
theorem exec_compact (w : Mw) : exec (.compact w) s = execCompact w s := rfl
theorem exec_ctCompact (w : Mw) : exec (.ctCompact w) s = execCtCompact w s := rfl
theorem exec_secand (w : Mw) : exec (.secand w) s = execSecand w s := rfl
theorem exec_secmulm (w : Mw) : exec (.secmulm w) s = execSecmulm w s := rfl
theorem exec_a2b (w : Mw) : exec (.a2b w) s = execA2b w s := rfl
theorem exec_b2a (w : Mw) : exec (.b2a w) s = execB2a w s := rfl
theorem exec_declBit (w : Mw) : exec (.declBit w) s = execDeclBit w s := rfl
theorem exec_declBit2 (w : Mw) : exec (.declBit2 w) s = execDeclBit2 w s := rfl
theorem exec_declBit3 (w : Mw) : exec (.declBit3 w) s = execDeclBit3 w s := rfl
theorem exec_aadd (w : Mw) : exec (.aadd w) s = execAadd w s := rfl
theorem exec_asub (w : Mw) : exec (.asub w) s = execAsub w s := rfl
theorem exec_aand (w : Mw) : exec (.aand w) s = execAand w s := rfl
theorem exec_ashr (w : Mw) : exec (.ashr w) s = execAshr w s := rfl
theorem exec_aaddi (w : Mw) : exec (.aaddi w) s = execAaddi w s := rfl
theorem exec_aldi (w : Mw) : exec (.aldi w) s = execAldi w s := rfl
theorem exec_asetw (w : Mw) : exec (.asetw w) s = execAsetw w s := rfl
theorem exec_afromv (w : Mw) : exec (.afromv w) s = execAfromv w s := rfl
theorem exec_abcast (w : Mw) : exec (.abcast w) s = execAbcast w s := rfl
theorem exec_mcount (w : Mw) : exec (.mcount w) s = execMcount w s := rfl
theorem exec_ldc (w : Mw) : exec (.ldc w) s = execLdc w s := rfl
theorem exec_stc (w : Mw) : exec (.stc w) s = execStc w s := rfl
theorem exec_ldq (w : Mw) : exec (.ldq w) s = execLdq w s := rfl
theorem exec_lds (w : Mw) : exec (.lds w) s = execLds w s := rfl
theorem exec_sts (w : Mw) : exec (.sts w) s = execSts w s := rfl
theorem exec_release (w : Mw) : exec (.release w) s = execRelease w s := rfl
theorem exec_gather16C (w : Mw) : exec (.gather16C w) s = execGather16C w s := rfl
theorem exec_scatter16C (w : Mw) : exec (.scatter16C w) s = execScatter16C w s := rfl
theorem exec_gather16S (w : Mw) : exec (.gather16S w) s = execGather16S w s := rfl
theorem exec_scatter16S (w : Mw) : exec (.scatter16S w) s = execScatter16S w s := rfl
theorem exec_sopen (w : Mw) : exec (.sopen w) s = execSopen w s := rfl
theorem exec_sabsorb (w : Mw) : exec (.sabsorb w) s = execSabsorb w s := rfl
theorem exec_sfinal (w : Mw) : exec (.sfinal w) s = execSfinal w s := rfl
theorem exec_ssqueeze (w : Mw) : exec (.ssqueeze w) s = execSsqueeze w s := rfl
theorem exec_sclose (w : Mw) : exec (.sclose w) s = execSclose w s := rfl
theorem exec_maskDraw (w : Mw) : exec (.maskDraw w) s = execMaskDraw w s := rfl
theorem exec_drbgDraw (w : Mw) : exec (.drbgDraw w) s = execDrbgDraw w s := rfl
theorem exec_keyFetch (w : Mw) : exec (.keyFetch w) s = execKeyFetch w s := rfl
theorem exec_keyBusDeliveryDone (le : Nat) : exec (.keyBusDeliveryDone le) s = execKeyBusDeliveryDone le s := rfl
theorem exec_mboxRead (w : Mw) : exec (.mboxRead w) s = execMboxRead w s := rfl
theorem exec_matrixReq (w : Mw) : exec (.matrixReq w) s = execMatrixReq w s := rfl
theorem exec_matrixAnswer (le : Nat) : exec (.matrixAnswer le) s = execMatrixAnswer le s := rfl
theorem exec_matrixDone (w : Mw) : exec (.matrixDone w) s = execMatrixDone w s := rfl
theorem exec_next (w : Mw) : exec (.next w) s = execNext w s := rfl
theorem exec_jump (w : Mw) : exec (.jump w) s = execJump w s := rfl
theorem exec_brz (w : Mw) : exec (.brz w) s = execBrz w s := rfl
theorem exec_brnz (w : Mw) : exec (.brnz w) s = execBrnz w s := rfl
theorem exec_call (w : Mw) : exec (.call w) s = execCall w s := rfl
theorem exec_ret (w : Mw) : exec (.ret w) s = execRet w s := rfl
theorem exec_loop (w : Mw) : exec (.loop w) s = execLoop w s := rfl
theorem exec_exit (w : Mw) : exec (.exit w) s = execExit w s := rfl
theorem exec_waitWatchdog (le : Nat) : exec (.waitWatchdog le) s = execWaitWatchdog le s := rfl
theorem exec_entropyStallTimeout (le : Nat) : exec (.entropyStallTimeout le) s = execEntropyStallTimeout le s := rfl
theorem exec_maskGeneratorReseed (le : Nat) : exec (.maskGeneratorReseed le) s = execMaskGeneratorReseed le s := rfl
theorem exec_csRepair (cluster : Nat) (nano : Bool) (addr : Nat) : exec (.csRepair cluster nano addr) s = execCsRepair cluster nano addr s := rfl
theorem exec_floorRaise (j : JobRef) (floor : Nat) : exec (.floorRaise j floor) s = execFloorRaise j floor s := rfl
theorem exec_install (j : JobRef) : exec (.install j) s = execInstall j s := rfl
theorem exec_discard (j : JobRef) : exec (.discard j) s = execDiscard j s := rfl
theorem exec_remove (j : JobRef) (binding : Nat) : exec (.remove j binding) s = execRemove j binding s := rfl
theorem exec_kernelCommit (ok : Bool) : exec (.kernelCommit ok) s = execKernelCommit ok s := rfl
theorem exec_sourceWarmupDone (src : Nat) : exec (.sourceWarmupDone src) s = execSourceWarmupDone src s := rfl
theorem exec_sourceWindowEnd (src : Nat) (samples : List Bool) : exec (.sourceWindowEnd src samples) s = execSourceWindowEnd src samples s := rfl
theorem exec_repetitionCountFail (src : Nat) : exec (.repetitionCountFail src) s = execRepetitionCountFail src s := rfl
theorem exec_blockConditioned (src : Nat) : exec (.blockConditioned src) s = execBlockConditioned src s := rfl
theorem exec_restart (j : JobRef) (src : Nat) : exec (.restart j src) s = execRestart j src s := rfl
theorem exec_disable (j : JobRef) (src : Nat) : exec (.disable j src) s = execDisable j src s := rfl
theorem exec_reseedAll (j : JobRef) : exec (.reseedAll j) s = execReseedAll j s := rfl
theorem exec_rawSampleRead (j : JobRef) : exec (.rawSampleRead j) s = execRawSampleRead j s := rfl
theorem exec_rawSampleRefill (samples : List Bool) : exec (.rawSampleRefill samples) s = execRawSampleRefill samples s := rfl
theorem exec_drbgInstantiate (drbg : Nat) : exec (.drbgInstantiate drbg) s = execDrbgInstantiate drbg s := rfl
theorem exec_drbgReseed (drbg : Nat) : exec (.drbgReseed drbg) s = execDrbgReseed drbg s := rfl
theorem exec_entropyWaitTimeout (j : JobRef) : exec (.entropyWaitTimeout j) s = execEntropyWaitTimeout j s := rfl
theorem exec_keysReset (j : JobRef) : exec (.keysReset j) s = execKeysReset j s := rfl
theorem exec_presenceChange (n : Nat) (level : Bool) : exec (.presenceChange n level) s = execPresenceChange n level s := rfl
theorem exec_gateStart (n : Nat) (d : Discovery) : exec (.gateStart n d) s = execGateStart n d s := rfl
theorem exec_regionMeasured (n : Nat) (r : Nat) (m : Measured) : exec (.regionMeasured n r m) s = execRegionMeasured n r m s := rfl
theorem exec_gateDecided (n : Nat) : exec (.gateDecided n) s = execGateDecided n s := rfl
theorem exec_lineRelease (line : Nat) : exec (.lineRelease line) s = execLineRelease line s := rfl
theorem exec_pwrgdInFall : exec (.pwrgdInFall) s = execPwrgdInFall s := rfl
theorem exec_forceRelease (j : JobRef) (lines : Nat) : exec (.forceRelease j lines) s = execForceRelease j lines s := rfl
theorem exec_remeasure (j : JobRef) (lines : Nat) : exec (.remeasure j lines) s = execRemeasure j lines s := rfl
theorem exec_flashCommand (n : Nat) (code : Nat) (addr : Option Nat) : exec (.flashCommand n code addr) s = execFlashCommand n code addr s := rfl
theorem exec_updateWindowOpen (j : JobRef) (w : Nat) (chan : Nat) (start : Nat) (len : Nat) (expires : Nat) : exec (.updateWindowOpen j w chan start len expires) s = execUpdateWindowOpen j w chan start len expires s := rfl
theorem exec_updateWindowClose (j : JobRef) (w : Nat) : exec (.updateWindowClose j w) s = execUpdateWindowClose j w s := rfl
theorem exec_updateWindowExpiry (w : Nat) : exec (.updateWindowExpiry w) s = execUpdateWindowExpiry w s := rfl
theorem exec_slotArchived (programOk : Bool) : exec (.slotArchived programOk) s = execSlotArchived programOk s := rfl
theorem exec_checkpointSigned : exec (.checkpointSigned) s = execCheckpointSigned s := rfl
theorem exec_ringWaitTimeout (j : JobRef) : exec (.ringWaitTimeout j) s = execRingWaitTimeout j s := rfl
theorem exec_helloInit (h : Hello) : exec (.helloInit h) s = execHelloInit h s := rfl
theorem exec_helloReply (h : Hello) : exec (.helloReply h) s = execHelloReply h s := rfl
theorem exec_heartbeat (h : PeerHdr) (b : HeartbeatBody) : exec (.heartbeat h b) s = execHeartbeat h b s := rfl
theorem exec_heartbeatInstant : exec (.heartbeatInstant) s = execHeartbeatInstant s := rfl
theorem exec_claim (h : PeerHdr) (term : Nat) (claimant : Nat) (lastTerm : Nat) (lastIndex : Nat) : exec (.claim h term claimant lastTerm lastIndex) s = execClaim h term claimant lastTerm lastIndex s := rfl
theorem exec_grant (h : PeerHdr) (term : Nat) (granted : Bool) (lastTerm : Nat) (lastIndex : Nat) : exec (.grant h term granted lastTerm lastIndex) s = execGrant h term granted lastTerm lastIndex s := rfl
theorem exec_append (h : PeerHdr) (term : Nat) (prevTerm : Nat) (prevIndex : Nat) (commit : Nat) (entries : List GEntry) : exec (.append h term prevTerm prevIndex commit entries) s = execAppend h term prevTerm prevIndex commit entries s := rfl
theorem exec_ack (h : PeerHdr) (term : Nat) (lastTerm : Nat) (lastIndex : Nat) (success : Bool) : exec (.ack h term lastTerm lastIndex success) s = execAck h term lastTerm lastIndex success s := rfl
theorem exec_forward (h : PeerHdr) (w : GWrite) : exec (.forward h w) s = execForward h w s := rfl
theorem exec_result (h : PeerHdr) (tag : Nat) (term : Nat) (index : Nat) (status : Nat) : exec (.result h tag term index status) s = execResult h tag term index status s := rfl
theorem exec_peerFetch (h : PeerHdr) (index : Nat) : exec (.peerFetch h index) s = execPeerFetch h index s := rfl
theorem exec_entries (h : PeerHdr) (entries : List GEntry) (snapshot : Option GSnapshot) : exec (.entries h entries snapshot) s = execEntries h entries snapshot s := rfl
theorem exec_readIndex (h : PeerHdr) (tag : Nat) : exec (.readIndex h tag) s = execReadIndex h tag s := rfl
theorem exec_readReply (h : PeerHdr) (tag : Nat) (commit : Nat) : exec (.readReply h tag commit) s = execReadReply h tag commit s := rfl
theorem exec_stepDownTimeout : exec (.stepDownTimeout) s = execStepDownTimeout s := rfl
theorem exec_writeTimeout (tag : Nat) : exec (.writeTimeout tag) s = execWriteTimeout tag s := rfl
theorem exec_groupBufferDrain : exec (.groupBufferDrain) s = execGroupBufferDrain s := rfl
theorem exec_idcode : exec (.idcode) s = execIdcode s := rfl
theorem exec_samplePreload : exec (.samplePreload) s = execSamplePreload s := rfl
theorem exec_extest : exec (.extest) s = execExtest s := rfl
theorem exec_extestExit : exec (.extestExit) s = execExtestExit s := rfl
theorem exec_lcStatus : exec (.lcStatus) s = execLcStatus s := rfl
theorem exec_lcCmdOpen (spare : BitVec 8) (token : BitVec 128) : exec (.lcCmdOpen spare token) s = execLcCmdOpen spare token s := rfl
theorem exec_lcCmdLock (spare : BitVec 8) (token : BitVec 128) : exec (.lcCmdLock spare token) s = execLcCmdLock spare token s := rfl
theorem exec_lcCmdUnlock (spare : BitVec 8) (token : BitVec 128) : exec (.lcCmdUnlock spare token) s = execLcCmdUnlock spare token s := rfl
theorem exec_lcCmdPersonalize (spare : BitVec 8) (token : BitVec 128) : exec (.lcCmdPersonalize spare token) s = execLcCmdPersonalize spare token s := rfl
theorem exec_lcCmdRma (spare : BitVec 8) (token : BitVec 128) : exec (.lcCmdRma spare token) s = execLcCmdRma spare token s := rfl
theorem exec_lcCmdTerminal (spare : BitVec 8) (token : BitVec 128) : exec (.lcCmdTerminal spare token) s = execLcCmdTerminal spare token s := rfl
theorem exec_transitionRelease (j : JobRef) (value : Bytes) : exec (.transitionRelease j value) s = execTransitionRelease j value s := rfl
theorem exec_transitionReturn (j : JobRef) (value : Bytes) : exec (.transitionReturn j value) s = execTransitionReturn j value s := rfl
theorem exec_transitionTerminal (j : JobRef) (value : Bytes) : exec (.transitionTerminal j value) s = execTransitionTerminal j value s := rfl
theorem exec_transitionFieldSeal (j : JobRef) (value : Bytes) : exec (.transitionFieldSeal j value) s = execTransitionFieldSeal j value s := rfl
theorem exec_fuseProgramDone : exec (.fuseProgramDone) s = execFuseProgramDone s := rfl
theorem exec_debugChallenge : exec (.debugChallenge) s = execDebugChallenge s := rfl
theorem exec_debugChallengeExpiry : exec (.debugChallengeExpiry) s = execDebugChallengeExpiry s := rfl
theorem exec_debugResponse (digest : Nat) (pk : Bytes) (sig : Bytes) : exec (.debugResponse digest pk sig) s = execDebugResponse digest pk sig s := rfl
theorem exec_debugOpenComplete : exec (.debugOpenComplete) s = execDebugOpenComplete s := rfl
theorem exec_dictTxn (payload : Bytes) : exec (.dictTxn payload) s = execDictTxn payload s := rfl
theorem exec_dictRead (payload : Bytes) : exec (.dictRead payload) s = execDictRead payload s := rfl
theorem exec_memAccess (write : Bool) (memory : Nat) (addr : Nat) (word : BitVec 72) : exec (.memAccess write memory addr word) s = execMemAccess write memory addr word s := rfl
theorem exec_bypass : exec (.bypass) s = execBypass s := rfl
theorem exec_tamperAlarm (src : Nat) : exec (.tamperAlarm src) s = execTamperAlarm src s := rfl
theorem exec_batterySample (seen : List Nat) : exec (.batterySample seen) s = execBatterySample seen s := rfl
theorem exec_tamperHoldSample : exec (.tamperHoldSample) s = execTamperHoldSample s := rfl
theorem exec_resume (j : JobRef) : exec (.resume j) s = execResume j s := rfl
theorem exec_aonChangeover (toBattery : Bool) : exec (.aonChangeover toBattery) s = execAonChangeover toBattery s := rfl
theorem exec_refclkLost : exec (.refclkLost) s = execRefclkLost s := rfl
theorem exec_refclkRestored : exec (.refclkRestored) s = execRefclkRestored s := rfl
theorem exec_crystalLost : exec (.crystalLost) s = execCrystalLost s := rfl
theorem exec_crystalRestored : exec (.crystalRestored) s = execCrystalRestored s := rfl
theorem exec_gateAbort (unit : Nat) : exec (.gateAbort unit) s = execGateAbort unit s := rfl
theorem exec_clusterWake (cluster : Nat) : exec (.clusterWake cluster) s = execClusterWake cluster s := rfl
theorem exec_sscApply : exec (.sscApply) s = execSscApply s := rfl
theorem exec_coldReset : exec (.coldReset) s = execColdReset s := rfl
theorem exec_coldStart (banks33 : BitVec 8) (bankBad : BitVec 8) (compat : Bool) : exec (.coldStart banks33 bankBad compat) s = execColdStart banks33 bankBad compat s := rfl
theorem exec_sysrstNAssert : exec (.sysrstNAssert) s = execSysrstNAssert s := rfl
theorem exec_warmReset (j : JobRef) : exec (.warmReset j) s = execWarmReset j s := rfl
theorem exec_warmStart : exec (.warmStart) s = execWarmStart s := rfl
theorem exec_fenceRequest (j : JobRef) (cluster : Nat) (les : Nat) : exec (.fenceRequest j cluster les) s = execFenceRequest j cluster les s := rfl
theorem exec_fenceRelease (j : JobRef) (cluster : Nat) (les : Nat) : exec (.fenceRelease j cluster les) s = execFenceRelease j cluster les s := rfl
theorem exec_hardwareFault (f : HwFault) : exec (.hardwareFault f) s = execHardwareFault f s := rfl
theorem exec_aesFenceTimeout (unit : Nat) : exec (.aesFenceTimeout unit) s = execAesFenceTimeout unit s := rfl
theorem exec_wordLost (bank : Option Nat) (w : LostWord) : exec (.wordLost bank w) s = execWordLost bank w s := rfl
theorem exec_bankCopyDone (bank : Nat) (lost : List LostWord) : exec (.bankCopyDone bank lost) s = execBankCopyDone bank lost s := rfl
theorem exec_alwaysOnReset : exec (.alwaysOnReset) s = execAlwaysOnReset s := rfl
theorem exec_tamperSourceClear (src : Nat) : exec (.tamperSourceClear src) s = execTamperSourceClear src s := rfl

end Machine
end Sys2Proof
end

