-- ==== Sys2Proof/Laws/Frames.lean ====
section
/-! SUPPORT. Lengths of what the primitives give, and that a protected body opens under its own key, nonce and header (03 R45, R46). -/

namespace Sys2Proof
namespace Machine

@[simp] theorem length_fit (n : Nat) (b : Bytes) : (fit n b).length = n := by
  unfold fit; simp
@[simp] theorem length_prim (n : Nat) (p : Prim) (args : List Bytes) : (prim n p args).length = n := length_fit n _
@[simp] theorem length_xorBytes (a b : Bytes) : (xorBytes a b).length = Nat.min a.length b.length := by simp [xorBytes]

theorem xorBytes_xorBytes (a k : Bytes) (h : a.length ≤ k.length) : xorBytes (xorBytes a k) k = a := by
  induction a generalizing k with
  | nil => simp [xorBytes]
  | cons x a ih =>
    cases k with
    | nil => simp at h
    | cons y k =>
      have e : (x ^^^ y) ^^^ y = x := by rw [BitVec.xor_assoc, BitVec.xor_self, BitVec.xor_zero]
      have t := ih k (by simpa using h)
      simp only [xorBytes, List.zipWith_cons_cons] at t ⊢
      rw [e, t]

/-- What a seal gives opens to its payload under the same key, nonce and associated data. -/
theorem gcmOpen_gcmSeal (key nonce aad plain : Bytes) : gcmOpen key nonce aad (gcmSeal key nonce aad plain) = some plain := by
  have hs : (gcmStream key nonce plain.length).length = plain.length := length_prim _ _ _
  have hc : (xorBytes plain (gcmStream key nonce plain.length)).length = plain.length := by rw [length_xorBytes, hs]; exact Nat.min_self _
  have ht : ∀ c, (gcmTag key nonce aad c).length = 16 := fun c => length_prim _ _ _
  have hn : (gcmSeal key nonce aad plain).length - 16 = plain.length := by simp only [gcmSeal, List.length_append, hc, ht]; omega
  have h16 : 16 ≤ (gcmSeal key nonce aad plain).length := by simp only [gcmSeal, List.length_append, hc, ht]; omega
  have hk : (gcmSeal key nonce aad plain).take plain.length = xorBytes plain (gcmStream key nonce plain.length) := by
    simp only [gcmSeal]; exact List.take_left' hc
  have hd : (gcmSeal key nonce aad plain).drop plain.length = gcmTag key nonce aad (xorBytes plain (gcmStream key nonce plain.length)) := by
    simp only [gcmSeal]; exact List.drop_left' hc
  unfold gcmOpen
  simp only [hn, hk, hd, h16, and_self, if_true]
  rw [xorBytes_xorBytes _ _ (by rw [hs])]

end Machine
end Sys2Proof
end

