-- ==== Sys2Proof/Laws/Maps.lean ====
section
/-! SUPPORT. Laws of the finite maps: reading after storing, and the canonical form that storing and removing keep. -/

namespace Sys2Proof

@[simp] theorem Map.find_put_self {α : Type} (m : Map α) (k : Nat) (v : α) : Map.find (Map.put m k v) k = some v := by
  induction m with
  | nil => simp [Map.put, Map.find]
  | cons p m ih =>
    obtain ⟨k', v'⟩ := p
    unfold Map.put
    split
    · simp [Map.find]
    · split
      · simp [Map.find]
      · simp [Map.find, *]

theorem Map.find_put_of_ne {α : Type} (m : Map α) {k j : Nat} (v : α) (h : j ≠ k) :
    Map.find (Map.put m k v) j = Map.find m j := by
  induction m with
  | nil => simp [Map.put, Map.find, h]
  | cons p m ih =>
    obtain ⟨k', v'⟩ := p
    unfold Map.put
    split
    · simp [Map.find, h]
    · split
      · next h2 => subst h2; simp [Map.find, h]
      · simp [Map.find, ih]

@[simp] theorem Map.getD_put_self {α : Type} (m : Map α) (k : Nat) (v d : α) : Map.getD (Map.put m k v) k d = v := by
  simp [Map.getD]

theorem Map.getD_put_of_ne {α : Type} (m : Map α) {k j : Nat} (v d : α) (h : j ≠ k) :
    Map.getD (Map.put m k v) j d = Map.getD m j d := by
  simp [Map.getD, Map.find_put_of_ne m v h]

theorem Map.above_put {α : Type} (m : Map α) (b k : Nat) (v : α) (hb : b < k) (hm : Map.above b m = true) :
    Map.above b (Map.put m k v) = true := by
  induction m generalizing b with
  | nil => simp [Map.put, Map.above, hb]
  | cons p m ih =>
    obtain ⟨k', v'⟩ := p
    simp only [Map.above, Bool.and_eq_true, decide_eq_true_eq] at hm
    unfold Map.put
    split
    · next h => simp [Map.above, hb, h, hm.2]
    · split
      · next h => subst h; simp [Map.above, hb, hm.2]
      · simp only [Map.above, Bool.and_eq_true, decide_eq_true_eq]
        exact ⟨hm.1, ih k' (by omega) hm.2⟩

/-- Storing keeps the keys strictly rising. -/
theorem Map.wf_put {α : Type} (m : Map α) (k : Nat) (v : α) (hm : Map.wf m = true) : Map.wf (Map.put m k v) = true := by
  cases m with
  | nil => simp [Map.put, Map.wf, Map.above]
  | cons p m =>
    obtain ⟨k', v'⟩ := p
    simp only [Map.wf] at hm
    unfold Map.put
    split
    · next h => simp [Map.wf, Map.above, h, hm]
    · split
      · next h => subst h; simpa [Map.wf] using hm
      · simp only [Map.wf]; exact Map.above_put m k' k v (by omega) hm

theorem Map.above_mono {α : Type} (m : Map α) {a b : Nat} (h : a ≤ b) (hm : Map.above b m = true) : Map.above a m = true := by
  cases m with
  | nil => rfl
  | cons p m =>
    obtain ⟨k, v⟩ := p
    simp only [Map.above, Bool.and_eq_true, decide_eq_true_eq] at hm ⊢
    exact ⟨by omega, hm.2⟩

theorem Map.above_filter {α : Type} (f : Nat × α → Bool) (m : Map α) (b : Nat) (hm : Map.above b m = true) :
    Map.above b (m.filter f) = true := by
  induction m generalizing b with
  | nil => rfl
  | cons p m ih =>
    obtain ⟨k, v⟩ := p
    simp only [Map.above, Bool.and_eq_true, decide_eq_true_eq] at hm
    by_cases hf : f (k, v) = true
    · simp only [List.filter_cons, hf, if_true, Map.above, Bool.and_eq_true, decide_eq_true_eq]
      exact ⟨hm.1, ih k hm.2⟩
    · simp only [List.filter_cons, hf]
      exact ih b (Map.above_mono m (Nat.le_of_lt hm.1) hm.2)

/-- Removing some entries keeps the keys strictly rising. -/
theorem Map.wf_filter {α : Type} (f : Nat × α → Bool) (m : Map α) (hm : Map.wf m = true) : Map.wf (m.filter f) = true := by
  cases m with
  | nil => rfl
  | cons p m =>
    obtain ⟨k, v⟩ := p
    simp only [Map.wf] at hm
    by_cases hf : f (k, v) = true
    · simp only [List.filter_cons, hf, if_true, Map.wf]; exact Map.above_filter f m k hm
    · simp only [List.filter_cons, hf]
      have := Map.above_filter f m k hm
      revert this
      cases m.filter f with
      | nil => intro _; rfl
      | cons q r => intro h; simp [Map.above] at h; simpa [Map.wf] using h.2

theorem Map.above_erase {α : Type} (m : Map α) (b k : Nat) (hm : Map.above b m = true) : Map.above b (Map.erase m k) = true := by
  induction m generalizing b with
  | nil => rfl
  | cons p m ih =>
    obtain ⟨k', v'⟩ := p
    simp only [Map.above, Bool.and_eq_true, decide_eq_true_eq] at hm
    unfold Map.erase
    split
    · exact Map.above_mono m (Nat.le_of_lt hm.1) hm.2
    · simp only [Map.above, Bool.and_eq_true, decide_eq_true_eq]; exact ⟨hm.1, ih k' hm.2⟩

/-- Erasing a key keeps the keys strictly rising. -/
theorem Map.wf_erase {α : Type} (m : Map α) (k : Nat) (hm : Map.wf m = true) : Map.wf (Map.erase m k) = true := by
  cases m with
  | nil => rfl
  | cons p m =>
    obtain ⟨k', v'⟩ := p
    simp only [Map.wf] at hm
    unfold Map.erase
    split
    · cases m with
      | nil => rfl
      | cons q r => simp [Map.above] at hm; simpa [Map.wf] using hm.2
    · simp only [Map.wf]; exact Map.above_erase m k' k hm

/-- Storing with a default keeps the keys strictly rising. -/
theorem Map.wf_store {α : Type} [DecidableEq α] (m : Map α) (k : Nat) (v d : α) (hm : Map.wf m = true) :
    Map.wf (Map.store m k v d) = true := by
  unfold Map.store
  split
  · exact Map.wf_erase m k hm
  · exact Map.wf_put m k v hm

theorem Map.find_none_of_above {α : Type} (m : Map α) {b k : Nat} (h : k ≤ b) (hm : Map.above b m = true) : Map.find m k = none := by
  induction m generalizing b with
  | nil => rfl
  | cons p m ih =>
    obtain ⟨k', v'⟩ := p
    simp only [Map.above, Bool.and_eq_true, decide_eq_true_eq] at hm
    have : k ≠ k' := by omega
    simp only [Map.find, this, if_false]
    exact ih (b := k') (by omega) hm.2

theorem Map.find_erase_self {α : Type} (m : Map α) (k : Nat) (hm : Map.wf m = true) : Map.find (Map.erase m k) k = none := by
  induction m with
  | nil => rfl
  | cons p m ih =>
    obtain ⟨k', v'⟩ := p
    simp only [Map.wf] at hm
    unfold Map.erase
    split
    · next h => subst h; exact Map.find_none_of_above m (Nat.le_refl _) hm
    · next h =>
      simp only [Map.find, h, if_false]
      refine ih ?_
      cases m with
      | nil => rfl
      | cons q r => simp [Map.above] at hm; simpa [Map.wf] using hm.2

theorem Map.find_erase_of_ne {α : Type} (m : Map α) {k j : Nat} (h : j ≠ k) : Map.find (Map.erase m k) j = Map.find m j := by
  induction m with
  | nil => rfl
  | cons p m ih =>
    obtain ⟨k', v'⟩ := p
    unfold Map.erase
    split
    · next h2 => subst h2; simp [Map.find, h]
    · simp [Map.find, ih]

/-- Reading a key after storing it with a default. -/
theorem Map.getD_store_self {α : Type} [DecidableEq α] (m : Map α) (k : Nat) (v d : α) (hm : Map.wf m = true) :
    Map.getD (Map.store m k v d) k d = v := by
  unfold Map.store
  split
  · next h => simp [Map.getD, Map.find_erase_self m k hm, h]
  · simp

theorem Map.getD_store_of_ne {α : Type} [DecidableEq α] (m : Map α) {k j : Nat} (v d : α) (h : j ≠ k) :
    Map.getD (Map.store m k v d) j d = Map.getD m j d := by
  unfold Map.store
  split
  · simp [Map.getD, Map.find_erase_of_ne m h]
  · exact Map.getD_put_of_ne m v d h

end Sys2Proof
end

