-- ==== Sys2Proof/Laws/Lanes.lean ====
section
/-! SUPPORT. Laws of lanes and of the registers of a lattice engine: a lane after lanes are put together, a register after a group is
written. -/

namespace Sys2Proof
namespace Machine

theorem ofLanes_lt (g : Nat) (ls : List Nat) : ofLanes g ls < 2 ^ (g * ls.length) := by
  induction ls with
  | nil => simp [ofLanes]
  | cons x ls ih =>
    have h1 : ofLanes g (x :: ls) = x % 2 ^ g + 2 ^ g * ofLanes g ls := rfl
    have h2 : x % 2 ^ g < 2 ^ g := Nat.mod_lt _ (Nat.two_pow_pos g)
    have h3 : 2 ^ (g * (ls.length + 1)) = 2 ^ g * 2 ^ (g * ls.length) := by rw [Nat.mul_add, Nat.mul_one, Nat.add_comm, Nat.pow_add]
    rw [h1, List.length_cons, h3]
    calc x % 2 ^ g + 2 ^ g * ofLanes g ls < 2 ^ g + 2 ^ g * ofLanes g ls := by omega
      _ = 2 ^ g * (ofLanes g ls + 1) := by ring
      _ ≤ 2 ^ g * 2 ^ (g * ls.length) := Nat.mul_le_mul_left _ ih

/-- A lane of lanes put together is the lane that was put there, cut to its width. -/
theorem laneAt_ofLanes (g : Nat) (ls : List Nat) (i : Nat) (h : i < ls.length) : laneAt g (ofLanes g ls) i = ls[i] % 2 ^ g := by
  induction ls generalizing i with
  | nil => simp at h
  | cons x ls ih =>
    have h1 : ofLanes g (x :: ls) = x % 2 ^ g + 2 ^ g * ofLanes g ls := rfl
    have h2 : x % 2 ^ g < 2 ^ g := Nat.mod_lt _ (Nat.two_pow_pos g)
    cases i with
    | zero => simp [laneAt, h1]
    | succ i =>
      have h3 : laneAt g (ofLanes g (x :: ls)) (i + 1) = laneAt g (ofLanes g ls) i := by
        unfold laneAt
        rw [h1, Nat.mul_add, Nat.mul_one, Nat.add_comm (g * i) g, Nat.pow_add, ← Nat.div_div_eq_div_mul,
          Nat.add_mul_div_left _ _ (Nat.two_pow_pos g), Nat.div_eq_of_lt h2, Nat.zero_add]
      rw [h3, ih i (by simpa using h)]
      simp

/-- A lane below a cut is the lane. -/
theorem laneAt_mod (g v i m : Nat) (h : g * (i + 1) ≤ m) : laneAt g (v % 2 ^ m) i = laneAt g v i := by
  unfold laneAt
  have h1 : g * (i + 1) = g * i + g := by ring
  obtain ⟨d, hd⟩ : ∃ d, m = g * i + (g + d) := ⟨m - (g * i + g), by omega⟩
  rw [hd, Nat.pow_add, Nat.mod_mul_right_div_self, Nat.pow_add]
  exact Nat.mod_mod_of_dvd _ (Dvd.intro _ rfl)

theorem laneAt_lt (g v i : Nat) : laneAt g v i < 2 ^ g := Nat.mod_lt _ (Nat.two_pow_pos g)

@[simp] theorem lanesOf_length (g n v : Nat) : (lanesOf g n v).length = n := by simp [lanesOf]
@[simp] theorem lanesOf_getElem (g n v i : Nat) (h : i < (lanesOf g n v).length) : (lanesOf g n v)[i] = laneAt g v i := by
  simp [lanesOf]
theorem lanesOf_getD (g n v i : Nat) (h : i < n) : (lanesOf g n v).getD i 0 = laneAt g v i := by
  simp [lanesOf, h]

@[simp] theorem Le.vreg_setV_self (l : Le) (i : Nat) (v : VReg) : (l.setV i v).vreg i = v := by simp [Le.vreg, Le.setV]
theorem Le.vreg_setV_of_ne (l : Le) {i j : Nat} (v : VReg) (h : j ≠ i) : (l.setV i v).vreg j = l.vreg j := by
  simp [Le.vreg, Le.setV, Map.getD_put_of_ne _ _ _ h]

theorem foldl_setV_other (l : Le) (b n : Nat) (f : Nat → VReg) (r : Nat) (h : r < b ∨ b + n ≤ r) :
    ((List.range n).foldl (fun l i => l.setV (b + i) (f i)) l).vreg r = l.vreg r := by
  induction n with
  | zero => rfl
  | succ n ih =>
    rw [List.range_succ, List.foldl_append, List.foldl_cons, List.foldl_nil, Le.vreg_setV_of_ne _ _ (by omega)]
    exact ih (by omega)

theorem foldl_setV_self (l : Le) (b n : Nat) (f : Nat → VReg) (i : Nat) (h : i < n) :
    ((List.range n).foldl (fun l i => l.setV (b + i) (f i)) l).vreg (b + i) = f i := by
  induction n with
  | zero => omega
  | succ n ih =>
    rw [List.range_succ, List.foldl_append, List.foldl_cons, List.foldl_nil]
    by_cases hi : i = n
    · subst hi; simp
    · rw [Le.vreg_setV_of_ne _ _ (by omega)]; exact ih (by omega)

/-- Writing vector registers changes nothing of the engine but its vector registers. -/
theorem foldl_setV_rest (l : Le) (b n : Nat) (f : Nat → VReg) :
    ∃ v, (List.range n).foldl (fun l i => l.setV (b + i) (f i)) l = { l with regs := { l.regs with v := v } } := by
  induction n with
  | zero => exact ⟨l.regs.v, rfl⟩
  | succ n ih =>
    obtain ⟨v, hv⟩ := ih
    rw [List.range_succ, List.foldl_append, List.foldl_cons, List.foldl_nil, hv]
    exact ⟨_, rfl⟩

theorem Le.vreg_setGroup (l : Le) (b n v : Nat) (sec : Bool) (i : Nat) (h : i < n) :
    (l.setGroup b n v sec).vreg (b + i) = ⟨laneAt 1152 v i, tagsOf sec⟩ := foldl_setV_self l b n _ i h
theorem Le.vreg_setGroup_other (l : Le) (b n v : Nat) (sec : Bool) (r : Nat) (h : r < b ∨ b + n ≤ r) :
    (l.setGroup b n v sec).vreg r = l.vreg r := foldl_setV_other l b n _ r h

theorem ofLanes_lanesOf (g n v : Nat) : ofLanes g (lanesOf g n v) = v % 2 ^ (g * n) := by
  induction n generalizing v with
  | zero => simp [lanesOf, ofLanes, Nat.mod_one]
  | succ n ih =>
    have h1 : lanesOf g (n + 1) v = laneAt g v 0 :: lanesOf g n (v / 2 ^ g) := by
      simp only [lanesOf, List.range_succ_eq_map, List.map_cons, List.map_map, List.cons.injEq, true_and]
      apply List.map_congr_left
      intro i _
      simp only [Function.comp_apply, laneAt, Nat.succ_eq_add_one, Nat.mul_add, Nat.mul_one, Nat.div_div_eq_div_mul, ← Nat.pow_add,
        Nat.add_comm]
    have h2 : ofLanes g (laneAt g v 0 :: lanesOf g n (v / 2 ^ g)) =
        laneAt g v 0 % 2 ^ g + 2 ^ g * ofLanes g (lanesOf g n (v / 2 ^ g)) := rfl
    rw [h1, h2, ih, Nat.mul_add, Nat.mul_one, Nat.add_comm (g * n) g, Nat.pow_add, Nat.mod_mul]
    simp [laneAt]

/-- A group reads back as what was written, cut to its registers. -/
theorem Le.groupVal_setGroup (l : Le) (b n v : Nat) (sec : Bool) : (l.setGroup b n v sec).groupVal b n = v % 2 ^ (1152 * n) := by
  unfold Le.groupVal
  rw [← ofLanes_lanesOf 1152 n v]
  congr 1
  apply List.map_congr_left
  intro i hi
  rw [Le.vreg_setGroup l b n v sec i (List.mem_range.mp hi)]

@[simp] theorem State.le_setLe_self (s : State) (e : Nat) (l : Le) : (s.setLe e l).le e = l := by simp [State.le, State.setLe]
theorem State.le_setLe_of_ne (s : State) {e e' : Nat} (l : Le) (h : e' ≠ e) : (s.setLe e l).le e' = s.le e' := by
  simp [State.le, State.setLe, Map.getD_put_of_ne _ _ _ h]

theorem Map.put_put {α : Type} (m : Map α) (k : Nat) (v v' : α) : Map.put (Map.put m k v) k v' = Map.put m k v' := by
  induction m with
  | nil => simp [Map.put]
  | cons p m ih =>
    obtain ⟨k', w⟩ := p
    by_cases h : k < k'
    · simp [Map.put, h]
    · by_cases h2 : k = k'
      · subst h2; simp [Map.put]
      · simp [Map.put, h, h2, ih]

@[simp] theorem State.setLe_setLe (s : State) (e : Nat) (l l' : Le) : (s.setLe e l).setLe e l' = s.setLe e l' := by
  simp [State.setLe, Map.put_put]

end Machine
end Sys2Proof
end

