-- ==== Sys2Proof/Laws/Issue.lean ====
section
/-! SUPPORT. What issuing a microword and each shape of pass can do, once: the next state of an issue whose body goes on, ends the job, or is held. -/

namespace Sys2Proof
namespace Machine

variable {s : State} {w : Mw} {defined secretOnly stream : Bool} {need : Option Nat} {body : State → Le → Issue}

theorem waitHolds_of_stream {l : Le} {b : Bool} {c : Nat} (h : waitHolds l true c = true) (hb : b = true) : waitHolds l b c = true := by
  subst hb; exact h

/-- An issued microword's outcome is its body's. -/
theorem issue_eq (h : Issues s w need) (hd : defined = true) (hs : secretOnly = true → w.secret = true) (hb : stream = true) :
    issue s w defined secretOnly need stream body =
      match body (s.setLe w.le (issuedLe s w)) (issuedLe s w) with
      | .go t => .next t
      | .taint => .next (s.leDone w.le 0x53 0 1 [])
      | .engine => .next (s.leDone w.le 0x54 0 0 [])
      | .window t d r => .next (t.windowFault w.le d r)
      | .hold t code => .next (t.setLe w.le ((s.le w.le).held code)) := by
  obtain ⟨h1, h2, hw, h3, h4, h5, h6⟩ := h
  have e1 : ¬ ((s.le w.le).job = none ∨ s.clk.gated = true ∨ s.wordBad w.le = true) := by simp [h1, h2, hw]
  have e2 : ¬ ((w.safePoint && (s.engine w.le).latched != []) = true) := by
    cases hsp : w.safePoint <;> simp_all
  have e3 : ¬ ((!defined || decide (7 ≤ w.wait.toNat) || (secretOnly && !w.secret) || (need != none && need != some w.wait.toNat)) = true) := by
    subst hd
    have : decide (7 ≤ w.wait.toNat) = false := by simp; omega
    cases secretOnly <;> simp_all <;> rcases h5 with h5 | h5 <;> simp_all
  have e4 : ¬ ((!waitHolds (s.le w.le) stream w.wait.toNat) = true) := by subst hb; simp [h6]
  unfold issue
  simp only [if_neg e1, if_neg e2, if_neg e3, if_neg e4]
  rfl

theorem issue_go {t : State} (h : Issues s w need) (hd : defined = true) (hs : secretOnly = true → w.secret = true) (hb : stream = true)
    (hg : body (s.setLe w.le (issuedLe s w)) (issuedLe s w) = .go t) : issue s w defined secretOnly need stream body = .next t := by
  rw [issue_eq h hd hs hb, hg]

@[simp] theorem issuedLe_vreg (i : Nat) : (issuedLe s w).vreg i = (s.le w.le).vreg i := rfl
@[simp] theorem issuedLe_areg (i : Nat) : (issuedLe s w).areg i = (s.le w.le).areg i := rfl
@[simp] theorem issuedLe_mreg (i : Nat) : (issuedLe s w).mreg i = (s.le w.le).mreg i := rfl
@[simp] theorem issuedLe_desc (i : Nat) : (issuedLe s w).desc i = (s.le w.le).desc i := rfl
@[simp] theorem issuedLe_groupVal (b n : Nat) : (issuedLe s w).groupVal b n = (s.le w.le).groupVal b n := rfl
@[simp] theorem issuedLe_groupSec (b n : Nat) : (issuedLe s w).groupSec b n = (s.le w.le).groupSec b n := rfl
@[simp] theorem issuedLe_job : (issuedLe s w).job = (s.le w.le).job := rfl
@[simp] theorem issuedLe_streams : (issuedLe s w).streams = (s.le w.le).streams := rfl
@[simp] theorem issuedLe_maskBuf : (issuedLe s w).maskBuf = (s.le w.le).maskBuf := rfl
@[simp] theorem issuedLe_mailbox : (issuedLe s w).regs.mailbox = (s.le w.le).regs.mailbox := rfl
@[simp] theorem issuedLe_unread : (issuedLe s w).unread = (s.le w.le).unread := rfl
@[simp] theorem issuedLe_w4 : (issuedLe s w).w4 = (s.le w.le).w4 := rfl
@[simp] theorem issuedLe_matrixAsked : (issuedLe s w).matrixAsked = (s.le w.le).matrixAsked := rfl
@[simp] theorem issuedLe_windowCause (a : List Nat) (x n : Nat) : (issuedLe s w).windowCause a x n = (s.le w.le).windowCause a x n := rfl
@[simp] theorem issuedLe_regsOf (b n : Nat) : (issuedLe s w).regsOf b n = (s.le w.le).regsOf b n := rfl

theorem onlyLe_setLe (s : State) (e : Nat) (l l' : Le) : OnlyLe s ((s.setLe e l).setLe e l') e := by
  refine ⟨rfl, fun x hx => ?_⟩
  rw [State.setLe_setLe, State.le_setLe_of_ne _ _ hx]

/-- Writing a group after issue changes that group alone. -/
theorem onlyGroup_writeGroup (n v : Nat) (sec : Bool) :
    OnlyGroup s ((s.setLe w.le (issuedLe s w)).writeGroup w (issuedLe s w) n v sec) w n := by
  refine ⟨onlyLe_setLe _ _ _ _, ?_, ?_⟩
  · obtain ⟨x, hx⟩ := foldl_setV_rest (issuedLe s w) (groupBase w.dest n) n (fun i => ⟨laneAt 1152 v i, tagsOf sec⟩)
    simp only [State.writeGroup, State.le_setLe_self]
    have : (issuedLe s w).setGroup (groupBase w.dest n) n v sec = { issuedLe s w with regs := { (issuedLe s w).regs with v := x } } := hx
    rw [this]
  · intro r hr
    simp only [State.writeGroup, State.le_setLe_self]
    rw [Le.vreg_setGroup_other _ _ _ _ _ _ hr]
    rfl

theorem writeGroup_tags (n v : Nat) (sec : Bool) (r : Nat) (h : r < n) :
    ((((s.setLe w.le (issuedLe s w)).writeGroup w (issuedLe s w) n v sec).le w.le).vreg (groupBase w.dest n + r)).tags = tagsOf sec := by
  simp only [State.writeGroup, State.le_setLe_self]
  rw [Le.vreg_setGroup _ _ _ _ _ _ h]

theorem writeGroup_val (n v : Nat) (sec : Bool) :
    (((s.setLe w.le (issuedLe s w)).writeGroup w (issuedLe s w) n v sec).le w.le).groupVal (groupBase w.dest n) n = v % 2 ^ (1152 * n) := by
  simp only [State.writeGroup, State.le_setLe_self, Le.groupVal_setGroup]

theorem mul_laneCount_le (g n i : Nat) (h : i < laneCount g n) : g * (i + 1) ≤ 1152 * n := by
  unfold laneCount at h
  calc g * (i + 1) ≤ g * (1152 * n / g) := Nat.mul_le_mul_left _ h
    _ ≤ 1152 * n := Nat.mul_div_le _ _

/-- A group written from lanes holds them. -/
theorem passTo_writeGroup (g n v : Nat) (sec : Bool) (lane : Nat → Nat) (hv : ∀ i, i < laneCount g n → laneAt g v i = lane i) :
    PassTo s ((s.setLe w.le (issuedLe s w)).writeGroup w (issuedLe s w) n v sec) w n g sec lane := by
  refine ⟨onlyGroup_writeGroup n v sec, fun r h => writeGroup_tags n v sec r h, fun i h => ?_⟩
  rw [writeGroup_val, laneAt_mod _ _ _ _ (mul_laneCount_le g n i h), hv i h]

theorem laneAt_ofLanes_range (g n : Nat) (f : Nat → Nat) (i : Nat) (h : i < n) :
    laneAt g (ofLanes g ((List.range n).map f)) i = f i % 2 ^ g := by
  rw [laneAt_ofLanes _ _ _ (by simpa using h)]; simp

theorem laneAt_ofLanes_map (g g' n v : Nat) (f : Nat → Nat) (i : Nat) (h : i < n) :
    laneAt g (ofLanes g ((lanesOf g' n v).map f)) i = f (laneAt g' v i) % 2 ^ g := by
  rw [laneAt_ofLanes _ _ _ (by simpa using h)]; simp

theorem vpass_eq {modular : Bool} {n1 n2 n3 nd : Nat} {f : Descriptor → Nat → Nat → Nat → Nat} (h : Issues s w none) (hd : defined = true)
    (hm : modular = true → descOk (descIn s w) w.g = true) :
    vpass s w defined modular n1 n2 n3 nd f = .next ((s.setLe w.le (issuedLe s w)).writeGroup w (issuedLe s w) nd
      (f (descIn s w) (groupIn s w w.src1 n1) (groupIn s w w.src2 n2) (groupIn s w w.dest n3))
      (secIn s w w.src1 n1 || secIn s w w.src2 n2 || secIn s w w.dest n3)) := by
  have e : ¬ ((modular && !descOk ((issuedLe s w).desc w.q) w.g) = true) := by
    cases modular
    · simp
    · have := hm rfl; simp only [issuedLe_desc]; simpa [descIn] using this
  unfold vpass
  apply issue_go h hd (by simp) rfl
  rw [if_neg e]
  rfl

/-- A pass over V groups goes to the state in which each destination lane is what its function gives. -/
theorem vpass_passes {modular : Bool} {n1 n2 n3 nd : Nat} {f : Descriptor → Nat → Nat → Nat → Nat} {g : Nat} {sec : Bool} {lane : Nat → Nat}
    (h : Issues s w none) (hd : defined = true) (hm : modular = true → descOk (descIn s w) w.g = true)
    (hsec : (secIn s w w.src1 n1 || secIn s w w.src2 n2 || secIn s w w.dest n3) = sec)
    (hl : ∀ i, i < laneCount g nd →
      laneAt g (f (descIn s w) (groupIn s w w.src1 n1) (groupIn s w w.src2 n2) (groupIn s w w.dest n3)) i = lane i) :
    Passes (vpass s w defined modular n1 n2 n3 nd f) s w nd g sec lane := by
  rw [vpass_eq h hd hm, hsec]
  exact ⟨_, rfl, passTo_writeGroup g nd _ sec lane hl⟩

@[simp] theorem groupSec_zero (l : Le) (b : Nat) : l.groupSec b 0 = false := rfl
@[simp] theorem secIn_zero (f : BitVec 5) : secIn s w f 0 = false := rfl

theorem apass_eq {taints : Bool} {n1 n3 nd : Nat} {ok : Nat → Bool} {f : Nat → Nat → Nat → Nat} (h : Issues s w none) (hd : defined = true)
    (ht : taints = true → (aIn s w w.src2).sec = false) (hok : ok (aIn s w w.src2).val = true) :
    apass s w defined taints n1 n3 nd ok f = .next ((s.setLe w.le (issuedLe s w)).writeGroup w (issuedLe s w) nd
      (f (aIn s w w.src2).val (groupIn s w w.src1 n1) (groupIn s w w.dest n3))
      (secIn s w w.src1 n1 || secIn s w w.dest n3 || (aIn s w w.src2).sec)) := by
  have e1 : ¬ ((taints && ((issuedLe s w).areg (aIdx w.src2)).sec) = true) := by
    cases taints
    · simp
    · have := ht rfl; simpa [aIn] using this
  have e2 : ¬ ((!ok ((issuedLe s w).areg (aIdx w.src2)).val) = true) := by simpa [aIn] using hok
  unfold apass
  apply issue_go h hd (by simp) rfl
  rw [if_neg e1, if_neg e2]
  rfl

/-- A pass that takes an A register goes to the state in which each destination lane is what its function gives. -/
theorem apass_passes {taints : Bool} {n1 n3 nd : Nat} {ok : Nat → Bool} {f : Nat → Nat → Nat → Nat} {g : Nat} {sec : Bool} {lane : Nat → Nat}
    (h : Issues s w none) (hd : defined = true) (ht : taints = true → (aIn s w w.src2).sec = false) (hok : ok (aIn s w w.src2).val = true)
    (hsec : (secIn s w w.src1 n1 || secIn s w w.dest n3 || (aIn s w w.src2).sec) = sec)
    (hl : ∀ i, i < laneCount g nd → laneAt g (f (aIn s w w.src2).val (groupIn s w w.src1 n1) (groupIn s w w.dest n3)) i = lane i) :
    Passes (apass s w defined taints n1 n3 nd ok f) s w nd g sec lane := by
  rw [apass_eq h hd ht hok, hsec]
  exact ⟨_, rfl, passTo_writeGroup g nd _ sec lane hl⟩

/-- Writing one A register after issue changes that register alone. -/
theorem aTo_setA (i v : Nat) (sec : Bool) (hi : i = aIdx w.dest) :
    ATo s ((s.setLe w.le (issuedLe s w)).setLe w.le ((issuedLe s w).setA i v sec)) w (v % 2 ^ 36) sec := by
  subst hi
  refine ⟨onlyLe_setLe _ _ _ _, ?_, ?_, ?_⟩
  · simp [Le.setA]
  · intro r hr
    simp [Le.areg, Le.setA, Map.getD_put_of_ne _ _ _ hr, issuedLe, Le.issued]
  · simp [Le.areg, Le.setA]

end Machine
end Sys2Proof
end

