-- ==== Sys2Proof/Laws/Memory.lean ====
section
/-! SUPPORT. Cluster memory: every operation on it keeps its canonical form, and a word reads as it was written. -/

namespace Sys2Proof
namespace Machine

theorem Memory.wf_iff (m : Map Tagged) : Memory.wf m = true ↔ Map.wf m = true ∧ ∀ p ∈ m, p.2 ≠ ⟨0, false⟩ := by
  simp [Memory.wf]

theorem parityBits_lt (v : Nat) : parityBits v < 2 ^ 9 := by
  simp only [parityBits, List.range, List.range.loop, List.map, List.sum_cons, List.sum_nil]
  omega

/-- What the octets of a word's low 72 bits are does not depend on the rest. -/
theorem parityBits_mod (v : Nat) : parityBits (v % 2 ^ 72) = parityBits v := by
  have h : ∀ p, p < 9 → laneAt 8 (v % 2 ^ 72) p = laneAt 8 v p := by
    intro p hp
    simp only [laneAt]
    interval_cases p <;> omega
  simp only [parityBits]
  congr 1
  apply List.map_congr_left
  intro p hp
  rw [h p (List.mem_range.1 hp)]

/-- A stored word reads as it was stored, without a fault (R7). -/
theorem readStored_stored (t : Tagged) : readStored t.stored = some ⟨t.val % 2 ^ 72, t.sec⟩ := by
  have hp := parityBits_lt t.val
  have h72 : t.stored % 2 ^ 72 = t.val % 2 ^ 72 := by
    unfold Tagged.stored; split <;> omega
  have h9 : laneAt 9 (t.stored / 2 ^ 72) 0 = parityBits t.val := by
    unfold Tagged.stored laneAt; split <;> omega
  have h81 : bitAt t.stored 81 = t.sec ∧ bitAt t.stored 82 = t.sec := by
    unfold Tagged.stored bitAt
    cases t.sec <;> simp <;> omega
  rw [readStored, h72, h9, parityBits_mod, h81.1, h81.2, if_pos ⟨rfl, rfl⟩]

/-- Removing words keeps the form. -/
theorem Memory.wf_filter (f : Nat × Tagged → Bool) (m : Map Tagged) (h : Memory.wf m = true) : Memory.wf (m.filter f) = true := by
  rw [Memory.wf_iff] at h ⊢
  exact ⟨Map.wf_filter f m h.1, fun p hp => h.2 p (List.mem_filter.1 hp).1⟩

/-- What `put` lists is the new pair or an old one. -/
theorem Map.mem_put {α : Type} (m : Map α) (k : Nat) (v : α) (p : Nat × α) (h : p ∈ Map.put m k v) : p = (k, v) ∨ p ∈ m := by
  induction m with
  | nil => simpa [Map.put] using h
  | cons q m ih =>
    unfold Map.put at h
    split at h
    · rcases List.mem_cons.1 h with h | h
      · exact Or.inl h
      · exact Or.inr h
    · split at h
      · rcases List.mem_cons.1 h with h | h
        · exact Or.inl h
        · exact Or.inr (List.mem_cons_of_mem _ h)
      · rcases List.mem_cons.1 h with h | h
        · exact Or.inr (by rw [h]; exact List.mem_cons_self)
        · rcases ih h with h | h
          · exact Or.inl h
          · exact Or.inr (List.mem_cons_of_mem _ h)

/-- What `erase` leaves was listed. -/
theorem Map.mem_erase {α : Type} (m : Map α) (k : Nat) (p : Nat × α) (h : p ∈ Map.erase m k) : p ∈ m := by
  induction m with
  | nil => simp [Map.erase] at h
  | cons q m ih =>
    unfold Map.erase at h
    split at h
    · exact List.mem_cons_of_mem _ h
    · rcases List.mem_cons.1 h with h | h
      · rw [h]; exact List.mem_cons_self
      · exact List.mem_cons_of_mem _ (ih h)

/-- Storing a word keeps the form: a word that reads as an unlisted one is not listed. -/
theorem Memory.wf_store (m : Map Tagged) (k : Nat) (v : Tagged) (h : Memory.wf m = true) : Memory.wf (Map.store m k v ⟨0, false⟩) = true := by
  rw [Memory.wf_iff] at h ⊢
  refine ⟨Map.wf_store m k v _ h.1, fun p hp => ?_⟩
  unfold Map.store at hp
  split at hp
  · exact h.2 p (Map.mem_erase m k p hp)
  · rcases Map.mem_put m k v p hp with e | e
    · rw [e]; assumption
    · exact h.2 p e

theorem State.wf_setCword (s : State) (c a : Nat) (t : Tagged) (h : Memory.wf s.cmem = true) : Memory.wf (s.setCword c a t).cmem = true :=
  Memory.wf_store _ _ _ h

theorem State.wf_clearScratch (s : State) (c a n : Nat) (h : Memory.wf s.cmem = true) : Memory.wf (s.clearScratch c a n).cmem = true :=
  Memory.wf_filter _ _ h

theorem State.wf_reset : Memory.wf State.reset.cmem = true := rfl

theorem State.wf_clearLogic (s : State) (cold : Bool) : Memory.wf (s.clearLogic cold).cmem = true := rfl

/-- A word of 72 bits reads as it was written. -/
theorem State.cword_setCword (s : State) (c a : Nat) (t : Tagged) (h : Memory.wf s.cmem = true) :
    (s.setCword c a t).cword c a = ⟨t.val % 2 ^ 72, t.sec⟩ :=
  Map.getD_store_self _ _ _ _ ((Memory.wf_iff _).1 h).1

/-- Every other word reads as before. -/
theorem State.cword_setCword_of_ne (s : State) {c a c' a' : Nat} (t : Tagged) (h : cmKey c' a' ≠ cmKey c a) :
    (s.setCword c a t).cword c' a' = s.cword c' a' :=
  Map.getD_store_of_ne _ _ _ h

end Machine
end Sys2Proof
end

