-- ==== Sys2Proof/Laws/State.lean ====
section
/-! SUPPORT. What each update of the state leaves unchanged, field by field, so that no proof unfolds a record update. -/

namespace Sys2Proof
namespace Machine

variable (s : State)

/-! ### setPort -/
@[simp] theorem State.setPort_pending (p : Nat) (v : Port) : (s.setPort p v).pending = s.pending := rfl
@[simp] theorem State.setPort_free (p : Nat) (v : Port) : (s.setPort p v).free = s.free := rfl
@[simp] theorem State.setPort_phase (p : Nat) (v : Port) : (s.setPort p v).phase = s.phase := rfl
@[simp] theorem State.setPort_dict (p : Nat) (v : Port) : (s.setPort p v).dict = s.dict := rfl
@[simp] theorem State.setPort_dtx (p : Nat) (v : Port) : (s.setPort p v).dtx = s.dtx := rfl
@[simp] theorem State.setPort_clk (p : Nat) (v : Port) : (s.setPort p v).clk = s.clk := rfl
@[simp] theorem State.setPort_pins (p : Nat) (v : Port) : (s.setPort p v).pins = s.pins := rfl
@[simp] theorem State.setPort_ptp (p : Nat) (v : Port) : (s.setPort p v).ptp = s.ptp := rfl
@[simp] theorem State.setPort_tx (p : Nat) (v : Port) : (s.setPort p v).tx = s.tx := rfl
@[simp] theorem State.setPort_waits (p : Nat) (v : Port) : (s.setPort p v).waits = s.waits := rfl
@[simp] theorem State.setPort_parts (p : Nat) (v : Port) : (s.setPort p v).parts = s.parts := rfl
@[simp] theorem State.setPort_hsIn (p : Nat) (v : Port) : (s.setPort p v).hsIn = s.hsIn := rfl
@[simp] theorem State.setPort_chans (p : Nat) (v : Port) : (s.setPort p v).chans = s.chans := rfl
@[simp] theorem State.setPort_gens (p : Nat) (v : Port) : (s.setPort p v).gens = s.gens := rfl
@[simp] theorem State.setPort_freed (p : Nat) (v : Port) : (s.setPort p v).freed = s.freed := rfl
@[simp] theorem State.setPort_hs (p : Nat) (v : Port) : (s.setPort p v).hs = s.hs := rfl
@[simp] theorem State.setPort_jobs (p : Nat) (v : Port) : (s.setPort p v).jobs = s.jobs := rfl
@[simp] theorem State.setPort_order (p : Nat) (v : Port) : (s.setPort p v).order = s.order := rfl
@[simp] theorem State.setPort_tenants (p : Nat) (v : Port) : (s.setPort p v).tenants = s.tenants := rfl
@[simp] theorem State.setPort_lap (p : Nat) (v : Port) : (s.setPort p v).lap = s.lap := rfl
@[simp] theorem State.setPort_rwork (p : Nat) (v : Port) : (s.setPort p v).rwork = s.rwork := rfl
@[simp] theorem State.setPort_units (p : Nat) (v : Port) : (s.setPort p v).units = s.units := rfl
@[simp] theorem State.setPort_les (p : Nat) (v : Port) : (s.setPort p v).les = s.les := rfl
@[simp] theorem State.setPort_saved (p : Nat) (v : Port) : (s.setPort p v).saved = s.saved := rfl
@[simp] theorem State.setPort_cmem (p : Nat) (v : Port) : (s.setPort p v).cmem = s.cmem := rfl
@[simp] theorem State.setPort_clus (p : Nat) (v : Port) : (s.setPort p v).clus = s.clus := rfl
@[simp] theorem State.setPort_mcache (p : Nat) (v : Port) : (s.setPort p v).mcache = s.mcache := rfl
@[simp] theorem State.setPort_kern (p : Nat) (v : Port) : (s.setPort p v).kern = s.kern := rfl
@[simp] theorem State.setPort_dstreams (p : Nat) (v : Port) : (s.setPort p v).dstreams = s.dstreams := rfl
@[simp] theorem State.setPort_ent (p : Nat) (v : Port) : (s.setPort p v).ent = s.ent := rfl
@[simp] theorem State.setPort_keys (p : Nat) (v : Port) : (s.setPort p v).keys = s.keys := rfl
@[simp] theorem State.setPort_stampSeq (p : Nat) (v : Port) : (s.setPort p v).stampSeq = s.stampSeq := rfl
@[simp] theorem State.setPort_flash (p : Nat) (v : Port) : (s.setPort p v).flash = s.flash := rfl
@[simp] theorem State.setPort_gate (p : Nat) (v : Port) : (s.setPort p v).gate = s.gate := rfl
@[simp] theorem State.setPort_trav (p : Nat) (v : Port) : (s.setPort p v).trav = s.trav := rfl
@[simp] theorem State.setPort_grp (p : Nat) (v : Port) : (s.setPort p v).grp = s.grp := rfl
@[simp] theorem State.setPort_lc (p : Nat) (v : Port) : (s.setPort p v).lc = s.lc := rfl
@[simp] theorem State.setPort_tamp (p : Nat) (v : Port) : (s.setPort p v).tamp = s.tamp := rfl
@[simp] theorem State.setPort_flt (p : Nat) (v : Port) : (s.setPort p v).flt = s.flt := rfl

/-! ### setTen -/
@[simp] theorem State.setTen_pending (t : Nat) (v : Tenant) : (s.setTen t v).pending = s.pending := rfl
@[simp] theorem State.setTen_free (t : Nat) (v : Tenant) : (s.setTen t v).free = s.free := rfl
@[simp] theorem State.setTen_phase (t : Nat) (v : Tenant) : (s.setTen t v).phase = s.phase := rfl
@[simp] theorem State.setTen_dict (t : Nat) (v : Tenant) : (s.setTen t v).dict = s.dict := rfl
@[simp] theorem State.setTen_dtx (t : Nat) (v : Tenant) : (s.setTen t v).dtx = s.dtx := rfl
@[simp] theorem State.setTen_clk (t : Nat) (v : Tenant) : (s.setTen t v).clk = s.clk := rfl
@[simp] theorem State.setTen_pins (t : Nat) (v : Tenant) : (s.setTen t v).pins = s.pins := rfl
@[simp] theorem State.setTen_ports (t : Nat) (v : Tenant) : (s.setTen t v).ports = s.ports := rfl
@[simp] theorem State.setTen_ptp (t : Nat) (v : Tenant) : (s.setTen t v).ptp = s.ptp := rfl
@[simp] theorem State.setTen_tx (t : Nat) (v : Tenant) : (s.setTen t v).tx = s.tx := rfl
@[simp] theorem State.setTen_waits (t : Nat) (v : Tenant) : (s.setTen t v).waits = s.waits := rfl
@[simp] theorem State.setTen_parts (t : Nat) (v : Tenant) : (s.setTen t v).parts = s.parts := rfl
@[simp] theorem State.setTen_hsIn (t : Nat) (v : Tenant) : (s.setTen t v).hsIn = s.hsIn := rfl
@[simp] theorem State.setTen_chans (t : Nat) (v : Tenant) : (s.setTen t v).chans = s.chans := rfl
@[simp] theorem State.setTen_gens (t : Nat) (v : Tenant) : (s.setTen t v).gens = s.gens := rfl
@[simp] theorem State.setTen_freed (t : Nat) (v : Tenant) : (s.setTen t v).freed = s.freed := rfl
@[simp] theorem State.setTen_hs (t : Nat) (v : Tenant) : (s.setTen t v).hs = s.hs := rfl
@[simp] theorem State.setTen_jobs (t : Nat) (v : Tenant) : (s.setTen t v).jobs = s.jobs := rfl
@[simp] theorem State.setTen_order (t : Nat) (v : Tenant) : (s.setTen t v).order = s.order := rfl
@[simp] theorem State.setTen_lap (t : Nat) (v : Tenant) : (s.setTen t v).lap = s.lap := rfl
@[simp] theorem State.setTen_rwork (t : Nat) (v : Tenant) : (s.setTen t v).rwork = s.rwork := rfl
@[simp] theorem State.setTen_units (t : Nat) (v : Tenant) : (s.setTen t v).units = s.units := rfl
@[simp] theorem State.setTen_les (t : Nat) (v : Tenant) : (s.setTen t v).les = s.les := rfl
@[simp] theorem State.setTen_saved (t : Nat) (v : Tenant) : (s.setTen t v).saved = s.saved := rfl
@[simp] theorem State.setTen_cmem (t : Nat) (v : Tenant) : (s.setTen t v).cmem = s.cmem := rfl
@[simp] theorem State.setTen_clus (t : Nat) (v : Tenant) : (s.setTen t v).clus = s.clus := rfl
@[simp] theorem State.setTen_mcache (t : Nat) (v : Tenant) : (s.setTen t v).mcache = s.mcache := rfl
@[simp] theorem State.setTen_kern (t : Nat) (v : Tenant) : (s.setTen t v).kern = s.kern := rfl
@[simp] theorem State.setTen_dstreams (t : Nat) (v : Tenant) : (s.setTen t v).dstreams = s.dstreams := rfl
@[simp] theorem State.setTen_ent (t : Nat) (v : Tenant) : (s.setTen t v).ent = s.ent := rfl
@[simp] theorem State.setTen_keys (t : Nat) (v : Tenant) : (s.setTen t v).keys = s.keys := rfl
@[simp] theorem State.setTen_stampSeq (t : Nat) (v : Tenant) : (s.setTen t v).stampSeq = s.stampSeq := rfl
@[simp] theorem State.setTen_flash (t : Nat) (v : Tenant) : (s.setTen t v).flash = s.flash := rfl
@[simp] theorem State.setTen_gate (t : Nat) (v : Tenant) : (s.setTen t v).gate = s.gate := rfl
@[simp] theorem State.setTen_trav (t : Nat) (v : Tenant) : (s.setTen t v).trav = s.trav := rfl
@[simp] theorem State.setTen_grp (t : Nat) (v : Tenant) : (s.setTen t v).grp = s.grp := rfl
@[simp] theorem State.setTen_lc (t : Nat) (v : Tenant) : (s.setTen t v).lc = s.lc := rfl
@[simp] theorem State.setTen_tamp (t : Nat) (v : Tenant) : (s.setTen t v).tamp = s.tamp := rfl
@[simp] theorem State.setTen_flt (t : Nat) (v : Tenant) : (s.setTen t v).flt = s.flt := rfl

/-! ### setEngine -/
@[simp] theorem State.setEngine_pending (u : Nat) (v : Engine) : (s.setEngine u v).pending = s.pending := rfl
@[simp] theorem State.setEngine_free (u : Nat) (v : Engine) : (s.setEngine u v).free = s.free := rfl
@[simp] theorem State.setEngine_phase (u : Nat) (v : Engine) : (s.setEngine u v).phase = s.phase := rfl
@[simp] theorem State.setEngine_dict (u : Nat) (v : Engine) : (s.setEngine u v).dict = s.dict := rfl
@[simp] theorem State.setEngine_dtx (u : Nat) (v : Engine) : (s.setEngine u v).dtx = s.dtx := rfl
@[simp] theorem State.setEngine_clk (u : Nat) (v : Engine) : (s.setEngine u v).clk = s.clk := rfl
@[simp] theorem State.setEngine_pins (u : Nat) (v : Engine) : (s.setEngine u v).pins = s.pins := rfl
@[simp] theorem State.setEngine_ports (u : Nat) (v : Engine) : (s.setEngine u v).ports = s.ports := rfl
@[simp] theorem State.setEngine_ptp (u : Nat) (v : Engine) : (s.setEngine u v).ptp = s.ptp := rfl
@[simp] theorem State.setEngine_tx (u : Nat) (v : Engine) : (s.setEngine u v).tx = s.tx := rfl
@[simp] theorem State.setEngine_waits (u : Nat) (v : Engine) : (s.setEngine u v).waits = s.waits := rfl
@[simp] theorem State.setEngine_parts (u : Nat) (v : Engine) : (s.setEngine u v).parts = s.parts := rfl
@[simp] theorem State.setEngine_hsIn (u : Nat) (v : Engine) : (s.setEngine u v).hsIn = s.hsIn := rfl
@[simp] theorem State.setEngine_chans (u : Nat) (v : Engine) : (s.setEngine u v).chans = s.chans := rfl
@[simp] theorem State.setEngine_gens (u : Nat) (v : Engine) : (s.setEngine u v).gens = s.gens := rfl
@[simp] theorem State.setEngine_freed (u : Nat) (v : Engine) : (s.setEngine u v).freed = s.freed := rfl
@[simp] theorem State.setEngine_hs (u : Nat) (v : Engine) : (s.setEngine u v).hs = s.hs := rfl
@[simp] theorem State.setEngine_jobs (u : Nat) (v : Engine) : (s.setEngine u v).jobs = s.jobs := rfl
@[simp] theorem State.setEngine_order (u : Nat) (v : Engine) : (s.setEngine u v).order = s.order := rfl
@[simp] theorem State.setEngine_tenants (u : Nat) (v : Engine) : (s.setEngine u v).tenants = s.tenants := rfl
@[simp] theorem State.setEngine_lap (u : Nat) (v : Engine) : (s.setEngine u v).lap = s.lap := rfl
@[simp] theorem State.setEngine_rwork (u : Nat) (v : Engine) : (s.setEngine u v).rwork = s.rwork := rfl
@[simp] theorem State.setEngine_les (u : Nat) (v : Engine) : (s.setEngine u v).les = s.les := rfl
@[simp] theorem State.setEngine_saved (u : Nat) (v : Engine) : (s.setEngine u v).saved = s.saved := rfl
@[simp] theorem State.setEngine_cmem (u : Nat) (v : Engine) : (s.setEngine u v).cmem = s.cmem := rfl
@[simp] theorem State.setEngine_clus (u : Nat) (v : Engine) : (s.setEngine u v).clus = s.clus := rfl
@[simp] theorem State.setEngine_mcache (u : Nat) (v : Engine) : (s.setEngine u v).mcache = s.mcache := rfl
@[simp] theorem State.setEngine_kern (u : Nat) (v : Engine) : (s.setEngine u v).kern = s.kern := rfl
@[simp] theorem State.setEngine_dstreams (u : Nat) (v : Engine) : (s.setEngine u v).dstreams = s.dstreams := rfl
@[simp] theorem State.setEngine_ent (u : Nat) (v : Engine) : (s.setEngine u v).ent = s.ent := rfl
@[simp] theorem State.setEngine_keys (u : Nat) (v : Engine) : (s.setEngine u v).keys = s.keys := rfl
@[simp] theorem State.setEngine_stampSeq (u : Nat) (v : Engine) : (s.setEngine u v).stampSeq = s.stampSeq := rfl
@[simp] theorem State.setEngine_flash (u : Nat) (v : Engine) : (s.setEngine u v).flash = s.flash := rfl
@[simp] theorem State.setEngine_gate (u : Nat) (v : Engine) : (s.setEngine u v).gate = s.gate := rfl
@[simp] theorem State.setEngine_trav (u : Nat) (v : Engine) : (s.setEngine u v).trav = s.trav := rfl
@[simp] theorem State.setEngine_grp (u : Nat) (v : Engine) : (s.setEngine u v).grp = s.grp := rfl
@[simp] theorem State.setEngine_lc (u : Nat) (v : Engine) : (s.setEngine u v).lc = s.lc := rfl
@[simp] theorem State.setEngine_tamp (u : Nat) (v : Engine) : (s.setEngine u v).tamp = s.tamp := rfl
@[simp] theorem State.setEngine_flt (u : Nat) (v : Engine) : (s.setEngine u v).flt = s.flt := rfl

/-! ### setCluster -/
@[simp] theorem State.setCluster_pending (c : Nat) (v : Cluster) : (s.setCluster c v).pending = s.pending := rfl
@[simp] theorem State.setCluster_free (c : Nat) (v : Cluster) : (s.setCluster c v).free = s.free := rfl
@[simp] theorem State.setCluster_phase (c : Nat) (v : Cluster) : (s.setCluster c v).phase = s.phase := rfl
@[simp] theorem State.setCluster_dict (c : Nat) (v : Cluster) : (s.setCluster c v).dict = s.dict := rfl
@[simp] theorem State.setCluster_dtx (c : Nat) (v : Cluster) : (s.setCluster c v).dtx = s.dtx := rfl
@[simp] theorem State.setCluster_clk (c : Nat) (v : Cluster) : (s.setCluster c v).clk = s.clk := rfl
@[simp] theorem State.setCluster_pins (c : Nat) (v : Cluster) : (s.setCluster c v).pins = s.pins := rfl
@[simp] theorem State.setCluster_ports (c : Nat) (v : Cluster) : (s.setCluster c v).ports = s.ports := rfl
@[simp] theorem State.setCluster_ptp (c : Nat) (v : Cluster) : (s.setCluster c v).ptp = s.ptp := rfl
@[simp] theorem State.setCluster_tx (c : Nat) (v : Cluster) : (s.setCluster c v).tx = s.tx := rfl
@[simp] theorem State.setCluster_waits (c : Nat) (v : Cluster) : (s.setCluster c v).waits = s.waits := rfl
@[simp] theorem State.setCluster_parts (c : Nat) (v : Cluster) : (s.setCluster c v).parts = s.parts := rfl
@[simp] theorem State.setCluster_hsIn (c : Nat) (v : Cluster) : (s.setCluster c v).hsIn = s.hsIn := rfl
@[simp] theorem State.setCluster_chans (c : Nat) (v : Cluster) : (s.setCluster c v).chans = s.chans := rfl
@[simp] theorem State.setCluster_gens (c : Nat) (v : Cluster) : (s.setCluster c v).gens = s.gens := rfl
@[simp] theorem State.setCluster_freed (c : Nat) (v : Cluster) : (s.setCluster c v).freed = s.freed := rfl
@[simp] theorem State.setCluster_hs (c : Nat) (v : Cluster) : (s.setCluster c v).hs = s.hs := rfl
@[simp] theorem State.setCluster_jobs (c : Nat) (v : Cluster) : (s.setCluster c v).jobs = s.jobs := rfl
@[simp] theorem State.setCluster_order (c : Nat) (v : Cluster) : (s.setCluster c v).order = s.order := rfl
@[simp] theorem State.setCluster_tenants (c : Nat) (v : Cluster) : (s.setCluster c v).tenants = s.tenants := rfl
@[simp] theorem State.setCluster_lap (c : Nat) (v : Cluster) : (s.setCluster c v).lap = s.lap := rfl
@[simp] theorem State.setCluster_rwork (c : Nat) (v : Cluster) : (s.setCluster c v).rwork = s.rwork := rfl
@[simp] theorem State.setCluster_units (c : Nat) (v : Cluster) : (s.setCluster c v).units = s.units := rfl
@[simp] theorem State.setCluster_les (c : Nat) (v : Cluster) : (s.setCluster c v).les = s.les := rfl
@[simp] theorem State.setCluster_saved (c : Nat) (v : Cluster) : (s.setCluster c v).saved = s.saved := rfl
@[simp] theorem State.setCluster_cmem (c : Nat) (v : Cluster) : (s.setCluster c v).cmem = s.cmem := rfl
@[simp] theorem State.setCluster_mcache (c : Nat) (v : Cluster) : (s.setCluster c v).mcache = s.mcache := rfl
@[simp] theorem State.setCluster_kern (c : Nat) (v : Cluster) : (s.setCluster c v).kern = s.kern := rfl
@[simp] theorem State.setCluster_dstreams (c : Nat) (v : Cluster) : (s.setCluster c v).dstreams = s.dstreams := rfl
@[simp] theorem State.setCluster_ent (c : Nat) (v : Cluster) : (s.setCluster c v).ent = s.ent := rfl
@[simp] theorem State.setCluster_keys (c : Nat) (v : Cluster) : (s.setCluster c v).keys = s.keys := rfl
@[simp] theorem State.setCluster_stampSeq (c : Nat) (v : Cluster) : (s.setCluster c v).stampSeq = s.stampSeq := rfl
@[simp] theorem State.setCluster_flash (c : Nat) (v : Cluster) : (s.setCluster c v).flash = s.flash := rfl
@[simp] theorem State.setCluster_gate (c : Nat) (v : Cluster) : (s.setCluster c v).gate = s.gate := rfl
@[simp] theorem State.setCluster_trav (c : Nat) (v : Cluster) : (s.setCluster c v).trav = s.trav := rfl
@[simp] theorem State.setCluster_grp (c : Nat) (v : Cluster) : (s.setCluster c v).grp = s.grp := rfl
@[simp] theorem State.setCluster_lc (c : Nat) (v : Cluster) : (s.setCluster c v).lc = s.lc := rfl
@[simp] theorem State.setCluster_tamp (c : Nat) (v : Cluster) : (s.setCluster c v).tamp = s.tamp := rfl
@[simp] theorem State.setCluster_flt (c : Nat) (v : Cluster) : (s.setCluster c v).flt = s.flt := rfl

/-! ### setDrbg -/
@[simp] theorem State.setDrbg_pending (d : Nat) (v : Drbg) : (s.setDrbg d v).pending = s.pending := rfl
@[simp] theorem State.setDrbg_free (d : Nat) (v : Drbg) : (s.setDrbg d v).free = s.free := rfl
@[simp] theorem State.setDrbg_phase (d : Nat) (v : Drbg) : (s.setDrbg d v).phase = s.phase := rfl
@[simp] theorem State.setDrbg_dict (d : Nat) (v : Drbg) : (s.setDrbg d v).dict = s.dict := rfl
@[simp] theorem State.setDrbg_dtx (d : Nat) (v : Drbg) : (s.setDrbg d v).dtx = s.dtx := rfl
@[simp] theorem State.setDrbg_clk (d : Nat) (v : Drbg) : (s.setDrbg d v).clk = s.clk := rfl
@[simp] theorem State.setDrbg_pins (d : Nat) (v : Drbg) : (s.setDrbg d v).pins = s.pins := rfl
@[simp] theorem State.setDrbg_ports (d : Nat) (v : Drbg) : (s.setDrbg d v).ports = s.ports := rfl
@[simp] theorem State.setDrbg_ptp (d : Nat) (v : Drbg) : (s.setDrbg d v).ptp = s.ptp := rfl
@[simp] theorem State.setDrbg_tx (d : Nat) (v : Drbg) : (s.setDrbg d v).tx = s.tx := rfl
@[simp] theorem State.setDrbg_waits (d : Nat) (v : Drbg) : (s.setDrbg d v).waits = s.waits := rfl
@[simp] theorem State.setDrbg_parts (d : Nat) (v : Drbg) : (s.setDrbg d v).parts = s.parts := rfl
@[simp] theorem State.setDrbg_hsIn (d : Nat) (v : Drbg) : (s.setDrbg d v).hsIn = s.hsIn := rfl
@[simp] theorem State.setDrbg_chans (d : Nat) (v : Drbg) : (s.setDrbg d v).chans = s.chans := rfl
@[simp] theorem State.setDrbg_gens (d : Nat) (v : Drbg) : (s.setDrbg d v).gens = s.gens := rfl
@[simp] theorem State.setDrbg_freed (d : Nat) (v : Drbg) : (s.setDrbg d v).freed = s.freed := rfl
@[simp] theorem State.setDrbg_hs (d : Nat) (v : Drbg) : (s.setDrbg d v).hs = s.hs := rfl
@[simp] theorem State.setDrbg_jobs (d : Nat) (v : Drbg) : (s.setDrbg d v).jobs = s.jobs := rfl
@[simp] theorem State.setDrbg_order (d : Nat) (v : Drbg) : (s.setDrbg d v).order = s.order := rfl
@[simp] theorem State.setDrbg_tenants (d : Nat) (v : Drbg) : (s.setDrbg d v).tenants = s.tenants := rfl
@[simp] theorem State.setDrbg_lap (d : Nat) (v : Drbg) : (s.setDrbg d v).lap = s.lap := rfl
@[simp] theorem State.setDrbg_rwork (d : Nat) (v : Drbg) : (s.setDrbg d v).rwork = s.rwork := rfl
@[simp] theorem State.setDrbg_units (d : Nat) (v : Drbg) : (s.setDrbg d v).units = s.units := rfl
@[simp] theorem State.setDrbg_les (d : Nat) (v : Drbg) : (s.setDrbg d v).les = s.les := rfl
@[simp] theorem State.setDrbg_saved (d : Nat) (v : Drbg) : (s.setDrbg d v).saved = s.saved := rfl
@[simp] theorem State.setDrbg_cmem (d : Nat) (v : Drbg) : (s.setDrbg d v).cmem = s.cmem := rfl
@[simp] theorem State.setDrbg_clus (d : Nat) (v : Drbg) : (s.setDrbg d v).clus = s.clus := rfl
@[simp] theorem State.setDrbg_mcache (d : Nat) (v : Drbg) : (s.setDrbg d v).mcache = s.mcache := rfl
@[simp] theorem State.setDrbg_kern (d : Nat) (v : Drbg) : (s.setDrbg d v).kern = s.kern := rfl
@[simp] theorem State.setDrbg_dstreams (d : Nat) (v : Drbg) : (s.setDrbg d v).dstreams = s.dstreams := rfl
@[simp] theorem State.setDrbg_keys (d : Nat) (v : Drbg) : (s.setDrbg d v).keys = s.keys := rfl
@[simp] theorem State.setDrbg_stampSeq (d : Nat) (v : Drbg) : (s.setDrbg d v).stampSeq = s.stampSeq := rfl
@[simp] theorem State.setDrbg_flash (d : Nat) (v : Drbg) : (s.setDrbg d v).flash = s.flash := rfl
@[simp] theorem State.setDrbg_gate (d : Nat) (v : Drbg) : (s.setDrbg d v).gate = s.gate := rfl
@[simp] theorem State.setDrbg_trav (d : Nat) (v : Drbg) : (s.setDrbg d v).trav = s.trav := rfl
@[simp] theorem State.setDrbg_grp (d : Nat) (v : Drbg) : (s.setDrbg d v).grp = s.grp := rfl
@[simp] theorem State.setDrbg_lc (d : Nat) (v : Drbg) : (s.setDrbg d v).lc = s.lc := rfl
@[simp] theorem State.setDrbg_tamp (d : Nat) (v : Drbg) : (s.setDrbg d v).tamp = s.tamp := rfl
@[simp] theorem State.setDrbg_flt (d : Nat) (v : Drbg) : (s.setDrbg d v).flt = s.flt := rfl

/-! ### setSource -/
@[simp] theorem State.setSource_pending (n : Nat) (v : Source) : (s.setSource n v).pending = s.pending := rfl
@[simp] theorem State.setSource_free (n : Nat) (v : Source) : (s.setSource n v).free = s.free := rfl
@[simp] theorem State.setSource_phase (n : Nat) (v : Source) : (s.setSource n v).phase = s.phase := rfl
@[simp] theorem State.setSource_dict (n : Nat) (v : Source) : (s.setSource n v).dict = s.dict := rfl
@[simp] theorem State.setSource_dtx (n : Nat) (v : Source) : (s.setSource n v).dtx = s.dtx := rfl
@[simp] theorem State.setSource_clk (n : Nat) (v : Source) : (s.setSource n v).clk = s.clk := rfl
@[simp] theorem State.setSource_pins (n : Nat) (v : Source) : (s.setSource n v).pins = s.pins := rfl
@[simp] theorem State.setSource_ports (n : Nat) (v : Source) : (s.setSource n v).ports = s.ports := rfl
@[simp] theorem State.setSource_ptp (n : Nat) (v : Source) : (s.setSource n v).ptp = s.ptp := rfl
@[simp] theorem State.setSource_tx (n : Nat) (v : Source) : (s.setSource n v).tx = s.tx := rfl
@[simp] theorem State.setSource_waits (n : Nat) (v : Source) : (s.setSource n v).waits = s.waits := rfl
@[simp] theorem State.setSource_parts (n : Nat) (v : Source) : (s.setSource n v).parts = s.parts := rfl
@[simp] theorem State.setSource_hsIn (n : Nat) (v : Source) : (s.setSource n v).hsIn = s.hsIn := rfl
@[simp] theorem State.setSource_chans (n : Nat) (v : Source) : (s.setSource n v).chans = s.chans := rfl
@[simp] theorem State.setSource_gens (n : Nat) (v : Source) : (s.setSource n v).gens = s.gens := rfl
@[simp] theorem State.setSource_freed (n : Nat) (v : Source) : (s.setSource n v).freed = s.freed := rfl
@[simp] theorem State.setSource_hs (n : Nat) (v : Source) : (s.setSource n v).hs = s.hs := rfl
@[simp] theorem State.setSource_jobs (n : Nat) (v : Source) : (s.setSource n v).jobs = s.jobs := rfl
@[simp] theorem State.setSource_order (n : Nat) (v : Source) : (s.setSource n v).order = s.order := rfl
@[simp] theorem State.setSource_tenants (n : Nat) (v : Source) : (s.setSource n v).tenants = s.tenants := rfl
@[simp] theorem State.setSource_lap (n : Nat) (v : Source) : (s.setSource n v).lap = s.lap := rfl
@[simp] theorem State.setSource_rwork (n : Nat) (v : Source) : (s.setSource n v).rwork = s.rwork := rfl
@[simp] theorem State.setSource_units (n : Nat) (v : Source) : (s.setSource n v).units = s.units := rfl
@[simp] theorem State.setSource_les (n : Nat) (v : Source) : (s.setSource n v).les = s.les := rfl
@[simp] theorem State.setSource_saved (n : Nat) (v : Source) : (s.setSource n v).saved = s.saved := rfl
@[simp] theorem State.setSource_cmem (n : Nat) (v : Source) : (s.setSource n v).cmem = s.cmem := rfl
@[simp] theorem State.setSource_clus (n : Nat) (v : Source) : (s.setSource n v).clus = s.clus := rfl
@[simp] theorem State.setSource_mcache (n : Nat) (v : Source) : (s.setSource n v).mcache = s.mcache := rfl
@[simp] theorem State.setSource_kern (n : Nat) (v : Source) : (s.setSource n v).kern = s.kern := rfl
@[simp] theorem State.setSource_dstreams (n : Nat) (v : Source) : (s.setSource n v).dstreams = s.dstreams := rfl
@[simp] theorem State.setSource_keys (n : Nat) (v : Source) : (s.setSource n v).keys = s.keys := rfl
@[simp] theorem State.setSource_stampSeq (n : Nat) (v : Source) : (s.setSource n v).stampSeq = s.stampSeq := rfl
@[simp] theorem State.setSource_flash (n : Nat) (v : Source) : (s.setSource n v).flash = s.flash := rfl
@[simp] theorem State.setSource_gate (n : Nat) (v : Source) : (s.setSource n v).gate = s.gate := rfl
@[simp] theorem State.setSource_trav (n : Nat) (v : Source) : (s.setSource n v).trav = s.trav := rfl
@[simp] theorem State.setSource_grp (n : Nat) (v : Source) : (s.setSource n v).grp = s.grp := rfl
@[simp] theorem State.setSource_lc (n : Nat) (v : Source) : (s.setSource n v).lc = s.lc := rfl
@[simp] theorem State.setSource_tamp (n : Nat) (v : Source) : (s.setSource n v).tamp = s.tamp := rfl
@[simp] theorem State.setSource_flt (n : Nat) (v : Source) : (s.setSource n v).flt = s.flt := rfl

/-! ### setFlash -/
@[simp] theorem State.setFlash_pending (n : Nat) (v : Flash) : (s.setFlash n v).pending = s.pending := rfl
@[simp] theorem State.setFlash_free (n : Nat) (v : Flash) : (s.setFlash n v).free = s.free := rfl
@[simp] theorem State.setFlash_phase (n : Nat) (v : Flash) : (s.setFlash n v).phase = s.phase := rfl
@[simp] theorem State.setFlash_dict (n : Nat) (v : Flash) : (s.setFlash n v).dict = s.dict := rfl
@[simp] theorem State.setFlash_dtx (n : Nat) (v : Flash) : (s.setFlash n v).dtx = s.dtx := rfl
@[simp] theorem State.setFlash_clk (n : Nat) (v : Flash) : (s.setFlash n v).clk = s.clk := rfl
@[simp] theorem State.setFlash_pins (n : Nat) (v : Flash) : (s.setFlash n v).pins = s.pins := rfl
@[simp] theorem State.setFlash_ports (n : Nat) (v : Flash) : (s.setFlash n v).ports = s.ports := rfl
@[simp] theorem State.setFlash_ptp (n : Nat) (v : Flash) : (s.setFlash n v).ptp = s.ptp := rfl
@[simp] theorem State.setFlash_tx (n : Nat) (v : Flash) : (s.setFlash n v).tx = s.tx := rfl
@[simp] theorem State.setFlash_waits (n : Nat) (v : Flash) : (s.setFlash n v).waits = s.waits := rfl
@[simp] theorem State.setFlash_parts (n : Nat) (v : Flash) : (s.setFlash n v).parts = s.parts := rfl
@[simp] theorem State.setFlash_hsIn (n : Nat) (v : Flash) : (s.setFlash n v).hsIn = s.hsIn := rfl
@[simp] theorem State.setFlash_chans (n : Nat) (v : Flash) : (s.setFlash n v).chans = s.chans := rfl
@[simp] theorem State.setFlash_gens (n : Nat) (v : Flash) : (s.setFlash n v).gens = s.gens := rfl
@[simp] theorem State.setFlash_freed (n : Nat) (v : Flash) : (s.setFlash n v).freed = s.freed := rfl
@[simp] theorem State.setFlash_hs (n : Nat) (v : Flash) : (s.setFlash n v).hs = s.hs := rfl
@[simp] theorem State.setFlash_jobs (n : Nat) (v : Flash) : (s.setFlash n v).jobs = s.jobs := rfl
@[simp] theorem State.setFlash_order (n : Nat) (v : Flash) : (s.setFlash n v).order = s.order := rfl
@[simp] theorem State.setFlash_tenants (n : Nat) (v : Flash) : (s.setFlash n v).tenants = s.tenants := rfl
@[simp] theorem State.setFlash_lap (n : Nat) (v : Flash) : (s.setFlash n v).lap = s.lap := rfl
@[simp] theorem State.setFlash_rwork (n : Nat) (v : Flash) : (s.setFlash n v).rwork = s.rwork := rfl
@[simp] theorem State.setFlash_units (n : Nat) (v : Flash) : (s.setFlash n v).units = s.units := rfl
@[simp] theorem State.setFlash_les (n : Nat) (v : Flash) : (s.setFlash n v).les = s.les := rfl
@[simp] theorem State.setFlash_saved (n : Nat) (v : Flash) : (s.setFlash n v).saved = s.saved := rfl
@[simp] theorem State.setFlash_cmem (n : Nat) (v : Flash) : (s.setFlash n v).cmem = s.cmem := rfl
@[simp] theorem State.setFlash_clus (n : Nat) (v : Flash) : (s.setFlash n v).clus = s.clus := rfl
@[simp] theorem State.setFlash_mcache (n : Nat) (v : Flash) : (s.setFlash n v).mcache = s.mcache := rfl
@[simp] theorem State.setFlash_kern (n : Nat) (v : Flash) : (s.setFlash n v).kern = s.kern := rfl
@[simp] theorem State.setFlash_dstreams (n : Nat) (v : Flash) : (s.setFlash n v).dstreams = s.dstreams := rfl
@[simp] theorem State.setFlash_ent (n : Nat) (v : Flash) : (s.setFlash n v).ent = s.ent := rfl
@[simp] theorem State.setFlash_keys (n : Nat) (v : Flash) : (s.setFlash n v).keys = s.keys := rfl
@[simp] theorem State.setFlash_stampSeq (n : Nat) (v : Flash) : (s.setFlash n v).stampSeq = s.stampSeq := rfl
@[simp] theorem State.setFlash_gate (n : Nat) (v : Flash) : (s.setFlash n v).gate = s.gate := rfl
@[simp] theorem State.setFlash_trav (n : Nat) (v : Flash) : (s.setFlash n v).trav = s.trav := rfl
@[simp] theorem State.setFlash_grp (n : Nat) (v : Flash) : (s.setFlash n v).grp = s.grp := rfl
@[simp] theorem State.setFlash_lc (n : Nat) (v : Flash) : (s.setFlash n v).lc = s.lc := rfl
@[simp] theorem State.setFlash_tamp (n : Nat) (v : Flash) : (s.setFlash n v).tamp = s.tamp := rfl
@[simp] theorem State.setFlash_flt (n : Nat) (v : Flash) : (s.setFlash n v).flt = s.flt := rfl

/-! ### setLink -/
@[simp] theorem State.setLink_pending (i : Nat) (v : Link) : (s.setLink i v).pending = s.pending := rfl
@[simp] theorem State.setLink_free (i : Nat) (v : Link) : (s.setLink i v).free = s.free := rfl
@[simp] theorem State.setLink_phase (i : Nat) (v : Link) : (s.setLink i v).phase = s.phase := rfl
@[simp] theorem State.setLink_dict (i : Nat) (v : Link) : (s.setLink i v).dict = s.dict := rfl
@[simp] theorem State.setLink_dtx (i : Nat) (v : Link) : (s.setLink i v).dtx = s.dtx := rfl
@[simp] theorem State.setLink_clk (i : Nat) (v : Link) : (s.setLink i v).clk = s.clk := rfl
@[simp] theorem State.setLink_pins (i : Nat) (v : Link) : (s.setLink i v).pins = s.pins := rfl
@[simp] theorem State.setLink_ports (i : Nat) (v : Link) : (s.setLink i v).ports = s.ports := rfl
@[simp] theorem State.setLink_ptp (i : Nat) (v : Link) : (s.setLink i v).ptp = s.ptp := rfl
@[simp] theorem State.setLink_tx (i : Nat) (v : Link) : (s.setLink i v).tx = s.tx := rfl
@[simp] theorem State.setLink_waits (i : Nat) (v : Link) : (s.setLink i v).waits = s.waits := rfl
@[simp] theorem State.setLink_parts (i : Nat) (v : Link) : (s.setLink i v).parts = s.parts := rfl
@[simp] theorem State.setLink_hsIn (i : Nat) (v : Link) : (s.setLink i v).hsIn = s.hsIn := rfl
@[simp] theorem State.setLink_chans (i : Nat) (v : Link) : (s.setLink i v).chans = s.chans := rfl
@[simp] theorem State.setLink_gens (i : Nat) (v : Link) : (s.setLink i v).gens = s.gens := rfl
@[simp] theorem State.setLink_freed (i : Nat) (v : Link) : (s.setLink i v).freed = s.freed := rfl
@[simp] theorem State.setLink_hs (i : Nat) (v : Link) : (s.setLink i v).hs = s.hs := rfl
@[simp] theorem State.setLink_jobs (i : Nat) (v : Link) : (s.setLink i v).jobs = s.jobs := rfl
@[simp] theorem State.setLink_order (i : Nat) (v : Link) : (s.setLink i v).order = s.order := rfl
@[simp] theorem State.setLink_tenants (i : Nat) (v : Link) : (s.setLink i v).tenants = s.tenants := rfl
@[simp] theorem State.setLink_lap (i : Nat) (v : Link) : (s.setLink i v).lap = s.lap := rfl
@[simp] theorem State.setLink_rwork (i : Nat) (v : Link) : (s.setLink i v).rwork = s.rwork := rfl
@[simp] theorem State.setLink_units (i : Nat) (v : Link) : (s.setLink i v).units = s.units := rfl
@[simp] theorem State.setLink_les (i : Nat) (v : Link) : (s.setLink i v).les = s.les := rfl
@[simp] theorem State.setLink_saved (i : Nat) (v : Link) : (s.setLink i v).saved = s.saved := rfl
@[simp] theorem State.setLink_cmem (i : Nat) (v : Link) : (s.setLink i v).cmem = s.cmem := rfl
@[simp] theorem State.setLink_clus (i : Nat) (v : Link) : (s.setLink i v).clus = s.clus := rfl
@[simp] theorem State.setLink_mcache (i : Nat) (v : Link) : (s.setLink i v).mcache = s.mcache := rfl
@[simp] theorem State.setLink_kern (i : Nat) (v : Link) : (s.setLink i v).kern = s.kern := rfl
@[simp] theorem State.setLink_dstreams (i : Nat) (v : Link) : (s.setLink i v).dstreams = s.dstreams := rfl
@[simp] theorem State.setLink_ent (i : Nat) (v : Link) : (s.setLink i v).ent = s.ent := rfl
@[simp] theorem State.setLink_keys (i : Nat) (v : Link) : (s.setLink i v).keys = s.keys := rfl
@[simp] theorem State.setLink_stampSeq (i : Nat) (v : Link) : (s.setLink i v).stampSeq = s.stampSeq := rfl
@[simp] theorem State.setLink_flash (i : Nat) (v : Link) : (s.setLink i v).flash = s.flash := rfl
@[simp] theorem State.setLink_gate (i : Nat) (v : Link) : (s.setLink i v).gate = s.gate := rfl
@[simp] theorem State.setLink_trav (i : Nat) (v : Link) : (s.setLink i v).trav = s.trav := rfl
@[simp] theorem State.setLink_lc (i : Nat) (v : Link) : (s.setLink i v).lc = s.lc := rfl
@[simp] theorem State.setLink_tamp (i : Nat) (v : Link) : (s.setLink i v).tamp = s.tamp := rfl
@[simp] theorem State.setLink_flt (i : Nat) (v : Link) : (s.setLink i v).flt = s.flt := rfl

/-! ### setPtpPort -/
@[simp] theorem State.setPtpPort_pending (p : Nat) (v : PtpPort) : (s.setPtpPort p v).pending = s.pending := rfl
@[simp] theorem State.setPtpPort_free (p : Nat) (v : PtpPort) : (s.setPtpPort p v).free = s.free := rfl
@[simp] theorem State.setPtpPort_phase (p : Nat) (v : PtpPort) : (s.setPtpPort p v).phase = s.phase := rfl
@[simp] theorem State.setPtpPort_dict (p : Nat) (v : PtpPort) : (s.setPtpPort p v).dict = s.dict := rfl
@[simp] theorem State.setPtpPort_dtx (p : Nat) (v : PtpPort) : (s.setPtpPort p v).dtx = s.dtx := rfl
@[simp] theorem State.setPtpPort_clk (p : Nat) (v : PtpPort) : (s.setPtpPort p v).clk = s.clk := rfl
@[simp] theorem State.setPtpPort_pins (p : Nat) (v : PtpPort) : (s.setPtpPort p v).pins = s.pins := rfl
@[simp] theorem State.setPtpPort_ports (p : Nat) (v : PtpPort) : (s.setPtpPort p v).ports = s.ports := rfl
@[simp] theorem State.setPtpPort_tx (p : Nat) (v : PtpPort) : (s.setPtpPort p v).tx = s.tx := rfl
@[simp] theorem State.setPtpPort_waits (p : Nat) (v : PtpPort) : (s.setPtpPort p v).waits = s.waits := rfl
@[simp] theorem State.setPtpPort_parts (p : Nat) (v : PtpPort) : (s.setPtpPort p v).parts = s.parts := rfl
@[simp] theorem State.setPtpPort_hsIn (p : Nat) (v : PtpPort) : (s.setPtpPort p v).hsIn = s.hsIn := rfl
@[simp] theorem State.setPtpPort_chans (p : Nat) (v : PtpPort) : (s.setPtpPort p v).chans = s.chans := rfl
@[simp] theorem State.setPtpPort_gens (p : Nat) (v : PtpPort) : (s.setPtpPort p v).gens = s.gens := rfl
@[simp] theorem State.setPtpPort_freed (p : Nat) (v : PtpPort) : (s.setPtpPort p v).freed = s.freed := rfl
@[simp] theorem State.setPtpPort_hs (p : Nat) (v : PtpPort) : (s.setPtpPort p v).hs = s.hs := rfl
@[simp] theorem State.setPtpPort_jobs (p : Nat) (v : PtpPort) : (s.setPtpPort p v).jobs = s.jobs := rfl
@[simp] theorem State.setPtpPort_order (p : Nat) (v : PtpPort) : (s.setPtpPort p v).order = s.order := rfl
@[simp] theorem State.setPtpPort_tenants (p : Nat) (v : PtpPort) : (s.setPtpPort p v).tenants = s.tenants := rfl
@[simp] theorem State.setPtpPort_lap (p : Nat) (v : PtpPort) : (s.setPtpPort p v).lap = s.lap := rfl
@[simp] theorem State.setPtpPort_rwork (p : Nat) (v : PtpPort) : (s.setPtpPort p v).rwork = s.rwork := rfl
@[simp] theorem State.setPtpPort_units (p : Nat) (v : PtpPort) : (s.setPtpPort p v).units = s.units := rfl
@[simp] theorem State.setPtpPort_les (p : Nat) (v : PtpPort) : (s.setPtpPort p v).les = s.les := rfl
@[simp] theorem State.setPtpPort_saved (p : Nat) (v : PtpPort) : (s.setPtpPort p v).saved = s.saved := rfl
@[simp] theorem State.setPtpPort_cmem (p : Nat) (v : PtpPort) : (s.setPtpPort p v).cmem = s.cmem := rfl
@[simp] theorem State.setPtpPort_clus (p : Nat) (v : PtpPort) : (s.setPtpPort p v).clus = s.clus := rfl
@[simp] theorem State.setPtpPort_mcache (p : Nat) (v : PtpPort) : (s.setPtpPort p v).mcache = s.mcache := rfl
@[simp] theorem State.setPtpPort_kern (p : Nat) (v : PtpPort) : (s.setPtpPort p v).kern = s.kern := rfl
@[simp] theorem State.setPtpPort_dstreams (p : Nat) (v : PtpPort) : (s.setPtpPort p v).dstreams = s.dstreams := rfl
@[simp] theorem State.setPtpPort_ent (p : Nat) (v : PtpPort) : (s.setPtpPort p v).ent = s.ent := rfl
@[simp] theorem State.setPtpPort_keys (p : Nat) (v : PtpPort) : (s.setPtpPort p v).keys = s.keys := rfl
@[simp] theorem State.setPtpPort_stampSeq (p : Nat) (v : PtpPort) : (s.setPtpPort p v).stampSeq = s.stampSeq := rfl
@[simp] theorem State.setPtpPort_flash (p : Nat) (v : PtpPort) : (s.setPtpPort p v).flash = s.flash := rfl
@[simp] theorem State.setPtpPort_gate (p : Nat) (v : PtpPort) : (s.setPtpPort p v).gate = s.gate := rfl
@[simp] theorem State.setPtpPort_trav (p : Nat) (v : PtpPort) : (s.setPtpPort p v).trav = s.trav := rfl
@[simp] theorem State.setPtpPort_grp (p : Nat) (v : PtpPort) : (s.setPtpPort p v).grp = s.grp := rfl
@[simp] theorem State.setPtpPort_lc (p : Nat) (v : PtpPort) : (s.setPtpPort p v).lc = s.lc := rfl
@[simp] theorem State.setPtpPort_tamp (p : Nat) (v : PtpPort) : (s.setPtpPort p v).tamp = s.tamp := rfl
@[simp] theorem State.setPtpPort_flt (p : Nat) (v : PtpPort) : (s.setPtpPort p v).flt = s.flt := rfl

/-! ### setLe -/
@[simp] theorem State.setLe_pending (e : Nat) (l : Le) : (s.setLe e l).pending = s.pending := rfl
@[simp] theorem State.setLe_free (e : Nat) (l : Le) : (s.setLe e l).free = s.free := rfl
@[simp] theorem State.setLe_phase (e : Nat) (l : Le) : (s.setLe e l).phase = s.phase := rfl
@[simp] theorem State.setLe_dict (e : Nat) (l : Le) : (s.setLe e l).dict = s.dict := rfl
@[simp] theorem State.setLe_dtx (e : Nat) (l : Le) : (s.setLe e l).dtx = s.dtx := rfl
@[simp] theorem State.setLe_clk (e : Nat) (l : Le) : (s.setLe e l).clk = s.clk := rfl
@[simp] theorem State.setLe_pins (e : Nat) (l : Le) : (s.setLe e l).pins = s.pins := rfl
@[simp] theorem State.setLe_ports (e : Nat) (l : Le) : (s.setLe e l).ports = s.ports := rfl
@[simp] theorem State.setLe_ptp (e : Nat) (l : Le) : (s.setLe e l).ptp = s.ptp := rfl
@[simp] theorem State.setLe_tx (e : Nat) (l : Le) : (s.setLe e l).tx = s.tx := rfl
@[simp] theorem State.setLe_waits (e : Nat) (l : Le) : (s.setLe e l).waits = s.waits := rfl
@[simp] theorem State.setLe_parts (e : Nat) (l : Le) : (s.setLe e l).parts = s.parts := rfl
@[simp] theorem State.setLe_hsIn (e : Nat) (l : Le) : (s.setLe e l).hsIn = s.hsIn := rfl
@[simp] theorem State.setLe_chans (e : Nat) (l : Le) : (s.setLe e l).chans = s.chans := rfl
@[simp] theorem State.setLe_gens (e : Nat) (l : Le) : (s.setLe e l).gens = s.gens := rfl
@[simp] theorem State.setLe_freed (e : Nat) (l : Le) : (s.setLe e l).freed = s.freed := rfl
@[simp] theorem State.setLe_hs (e : Nat) (l : Le) : (s.setLe e l).hs = s.hs := rfl
@[simp] theorem State.setLe_jobs (e : Nat) (l : Le) : (s.setLe e l).jobs = s.jobs := rfl
@[simp] theorem State.setLe_order (e : Nat) (l : Le) : (s.setLe e l).order = s.order := rfl
@[simp] theorem State.setLe_tenants (e : Nat) (l : Le) : (s.setLe e l).tenants = s.tenants := rfl
@[simp] theorem State.setLe_lap (e : Nat) (l : Le) : (s.setLe e l).lap = s.lap := rfl
@[simp] theorem State.setLe_rwork (e : Nat) (l : Le) : (s.setLe e l).rwork = s.rwork := rfl
@[simp] theorem State.setLe_units (e : Nat) (l : Le) : (s.setLe e l).units = s.units := rfl
@[simp] theorem State.setLe_saved (e : Nat) (l : Le) : (s.setLe e l).saved = s.saved := rfl
@[simp] theorem State.setLe_cmem (e : Nat) (l : Le) : (s.setLe e l).cmem = s.cmem := rfl
@[simp] theorem State.setLe_clus (e : Nat) (l : Le) : (s.setLe e l).clus = s.clus := rfl
@[simp] theorem State.setLe_mcache (e : Nat) (l : Le) : (s.setLe e l).mcache = s.mcache := rfl
@[simp] theorem State.setLe_kern (e : Nat) (l : Le) : (s.setLe e l).kern = s.kern := rfl
@[simp] theorem State.setLe_dstreams (e : Nat) (l : Le) : (s.setLe e l).dstreams = s.dstreams := rfl
@[simp] theorem State.setLe_ent (e : Nat) (l : Le) : (s.setLe e l).ent = s.ent := rfl
@[simp] theorem State.setLe_keys (e : Nat) (l : Le) : (s.setLe e l).keys = s.keys := rfl
@[simp] theorem State.setLe_stampSeq (e : Nat) (l : Le) : (s.setLe e l).stampSeq = s.stampSeq := rfl
@[simp] theorem State.setLe_flash (e : Nat) (l : Le) : (s.setLe e l).flash = s.flash := rfl
@[simp] theorem State.setLe_gate (e : Nat) (l : Le) : (s.setLe e l).gate = s.gate := rfl
@[simp] theorem State.setLe_trav (e : Nat) (l : Le) : (s.setLe e l).trav = s.trav := rfl
@[simp] theorem State.setLe_grp (e : Nat) (l : Le) : (s.setLe e l).grp = s.grp := rfl
@[simp] theorem State.setLe_lc (e : Nat) (l : Le) : (s.setLe e l).lc = s.lc := rfl
@[simp] theorem State.setLe_tamp (e : Nat) (l : Le) : (s.setLe e l).tamp = s.tamp := rfl
@[simp] theorem State.setLe_flt (e : Nat) (l : Le) : (s.setLe e l).flt = s.flt := rfl

/-! ### setCword -/
@[simp] theorem State.setCword_pending (c a : Nat) (t : Tagged) : (s.setCword c a t).pending = s.pending := rfl
@[simp] theorem State.setCword_free (c a : Nat) (t : Tagged) : (s.setCword c a t).free = s.free := rfl
@[simp] theorem State.setCword_phase (c a : Nat) (t : Tagged) : (s.setCword c a t).phase = s.phase := rfl
@[simp] theorem State.setCword_dict (c a : Nat) (t : Tagged) : (s.setCword c a t).dict = s.dict := rfl
@[simp] theorem State.setCword_dtx (c a : Nat) (t : Tagged) : (s.setCword c a t).dtx = s.dtx := rfl
@[simp] theorem State.setCword_clk (c a : Nat) (t : Tagged) : (s.setCword c a t).clk = s.clk := rfl
@[simp] theorem State.setCword_pins (c a : Nat) (t : Tagged) : (s.setCword c a t).pins = s.pins := rfl
@[simp] theorem State.setCword_ports (c a : Nat) (t : Tagged) : (s.setCword c a t).ports = s.ports := rfl
@[simp] theorem State.setCword_ptp (c a : Nat) (t : Tagged) : (s.setCword c a t).ptp = s.ptp := rfl
@[simp] theorem State.setCword_tx (c a : Nat) (t : Tagged) : (s.setCword c a t).tx = s.tx := rfl
@[simp] theorem State.setCword_waits (c a : Nat) (t : Tagged) : (s.setCword c a t).waits = s.waits := rfl
@[simp] theorem State.setCword_parts (c a : Nat) (t : Tagged) : (s.setCword c a t).parts = s.parts := rfl
@[simp] theorem State.setCword_hsIn (c a : Nat) (t : Tagged) : (s.setCword c a t).hsIn = s.hsIn := rfl
@[simp] theorem State.setCword_chans (c a : Nat) (t : Tagged) : (s.setCword c a t).chans = s.chans := rfl
@[simp] theorem State.setCword_gens (c a : Nat) (t : Tagged) : (s.setCword c a t).gens = s.gens := rfl
@[simp] theorem State.setCword_freed (c a : Nat) (t : Tagged) : (s.setCword c a t).freed = s.freed := rfl
@[simp] theorem State.setCword_hs (c a : Nat) (t : Tagged) : (s.setCword c a t).hs = s.hs := rfl
@[simp] theorem State.setCword_jobs (c a : Nat) (t : Tagged) : (s.setCword c a t).jobs = s.jobs := rfl
@[simp] theorem State.setCword_order (c a : Nat) (t : Tagged) : (s.setCword c a t).order = s.order := rfl
@[simp] theorem State.setCword_tenants (c a : Nat) (t : Tagged) : (s.setCword c a t).tenants = s.tenants := rfl
@[simp] theorem State.setCword_lap (c a : Nat) (t : Tagged) : (s.setCword c a t).lap = s.lap := rfl
@[simp] theorem State.setCword_rwork (c a : Nat) (t : Tagged) : (s.setCword c a t).rwork = s.rwork := rfl
@[simp] theorem State.setCword_units (c a : Nat) (t : Tagged) : (s.setCword c a t).units = s.units := rfl
@[simp] theorem State.setCword_les (c a : Nat) (t : Tagged) : (s.setCword c a t).les = s.les := rfl
@[simp] theorem State.setCword_saved (c a : Nat) (t : Tagged) : (s.setCword c a t).saved = s.saved := rfl
@[simp] theorem State.setCword_clus (c a : Nat) (t : Tagged) : (s.setCword c a t).clus = s.clus := rfl
@[simp] theorem State.setCword_mcache (c a : Nat) (t : Tagged) : (s.setCword c a t).mcache = s.mcache := rfl
@[simp] theorem State.setCword_kern (c a : Nat) (t : Tagged) : (s.setCword c a t).kern = s.kern := rfl
@[simp] theorem State.setCword_dstreams (c a : Nat) (t : Tagged) : (s.setCword c a t).dstreams = s.dstreams := rfl
@[simp] theorem State.setCword_ent (c a : Nat) (t : Tagged) : (s.setCword c a t).ent = s.ent := rfl
@[simp] theorem State.setCword_keys (c a : Nat) (t : Tagged) : (s.setCword c a t).keys = s.keys := rfl
@[simp] theorem State.setCword_stampSeq (c a : Nat) (t : Tagged) : (s.setCword c a t).stampSeq = s.stampSeq := rfl
@[simp] theorem State.setCword_flash (c a : Nat) (t : Tagged) : (s.setCword c a t).flash = s.flash := rfl
@[simp] theorem State.setCword_gate (c a : Nat) (t : Tagged) : (s.setCword c a t).gate = s.gate := rfl
@[simp] theorem State.setCword_trav (c a : Nat) (t : Tagged) : (s.setCword c a t).trav = s.trav := rfl
@[simp] theorem State.setCword_grp (c a : Nat) (t : Tagged) : (s.setCword c a t).grp = s.grp := rfl
@[simp] theorem State.setCword_lc (c a : Nat) (t : Tagged) : (s.setCword c a t).lc = s.lc := rfl
@[simp] theorem State.setCword_tamp (c a : Nat) (t : Tagged) : (s.setCword c a t).tamp = s.tamp := rfl
@[simp] theorem State.setCword_flt (c a : Nat) (t : Tagged) : (s.setCword c a t).flt = s.flt := rfl

/-! ### clearScratch -/
@[simp] theorem State.clearScratch_pending (c a n : Nat) : (s.clearScratch c a n).pending = s.pending := rfl
@[simp] theorem State.clearScratch_free (c a n : Nat) : (s.clearScratch c a n).free = s.free := rfl
@[simp] theorem State.clearScratch_phase (c a n : Nat) : (s.clearScratch c a n).phase = s.phase := rfl
@[simp] theorem State.clearScratch_dict (c a n : Nat) : (s.clearScratch c a n).dict = s.dict := rfl
@[simp] theorem State.clearScratch_dtx (c a n : Nat) : (s.clearScratch c a n).dtx = s.dtx := rfl
@[simp] theorem State.clearScratch_clk (c a n : Nat) : (s.clearScratch c a n).clk = s.clk := rfl
@[simp] theorem State.clearScratch_pins (c a n : Nat) : (s.clearScratch c a n).pins = s.pins := rfl
@[simp] theorem State.clearScratch_ports (c a n : Nat) : (s.clearScratch c a n).ports = s.ports := rfl
@[simp] theorem State.clearScratch_ptp (c a n : Nat) : (s.clearScratch c a n).ptp = s.ptp := rfl
@[simp] theorem State.clearScratch_tx (c a n : Nat) : (s.clearScratch c a n).tx = s.tx := rfl
@[simp] theorem State.clearScratch_waits (c a n : Nat) : (s.clearScratch c a n).waits = s.waits := rfl
@[simp] theorem State.clearScratch_parts (c a n : Nat) : (s.clearScratch c a n).parts = s.parts := rfl
@[simp] theorem State.clearScratch_hsIn (c a n : Nat) : (s.clearScratch c a n).hsIn = s.hsIn := rfl
@[simp] theorem State.clearScratch_chans (c a n : Nat) : (s.clearScratch c a n).chans = s.chans := rfl
@[simp] theorem State.clearScratch_gens (c a n : Nat) : (s.clearScratch c a n).gens = s.gens := rfl
@[simp] theorem State.clearScratch_freed (c a n : Nat) : (s.clearScratch c a n).freed = s.freed := rfl
@[simp] theorem State.clearScratch_hs (c a n : Nat) : (s.clearScratch c a n).hs = s.hs := rfl
@[simp] theorem State.clearScratch_jobs (c a n : Nat) : (s.clearScratch c a n).jobs = s.jobs := rfl
@[simp] theorem State.clearScratch_order (c a n : Nat) : (s.clearScratch c a n).order = s.order := rfl
@[simp] theorem State.clearScratch_tenants (c a n : Nat) : (s.clearScratch c a n).tenants = s.tenants := rfl
@[simp] theorem State.clearScratch_lap (c a n : Nat) : (s.clearScratch c a n).lap = s.lap := rfl
@[simp] theorem State.clearScratch_rwork (c a n : Nat) : (s.clearScratch c a n).rwork = s.rwork := rfl
@[simp] theorem State.clearScratch_units (c a n : Nat) : (s.clearScratch c a n).units = s.units := rfl
@[simp] theorem State.clearScratch_les (c a n : Nat) : (s.clearScratch c a n).les = s.les := rfl
@[simp] theorem State.clearScratch_saved (c a n : Nat) : (s.clearScratch c a n).saved = s.saved := rfl
@[simp] theorem State.clearScratch_clus (c a n : Nat) : (s.clearScratch c a n).clus = s.clus := rfl
@[simp] theorem State.clearScratch_mcache (c a n : Nat) : (s.clearScratch c a n).mcache = s.mcache := rfl
@[simp] theorem State.clearScratch_kern (c a n : Nat) : (s.clearScratch c a n).kern = s.kern := rfl
@[simp] theorem State.clearScratch_dstreams (c a n : Nat) : (s.clearScratch c a n).dstreams = s.dstreams := rfl
@[simp] theorem State.clearScratch_ent (c a n : Nat) : (s.clearScratch c a n).ent = s.ent := rfl
@[simp] theorem State.clearScratch_keys (c a n : Nat) : (s.clearScratch c a n).keys = s.keys := rfl
@[simp] theorem State.clearScratch_stampSeq (c a n : Nat) : (s.clearScratch c a n).stampSeq = s.stampSeq := rfl
@[simp] theorem State.clearScratch_flash (c a n : Nat) : (s.clearScratch c a n).flash = s.flash := rfl
@[simp] theorem State.clearScratch_gate (c a n : Nat) : (s.clearScratch c a n).gate = s.gate := rfl
@[simp] theorem State.clearScratch_trav (c a n : Nat) : (s.clearScratch c a n).trav = s.trav := rfl
@[simp] theorem State.clearScratch_grp (c a n : Nat) : (s.clearScratch c a n).grp = s.grp := rfl
@[simp] theorem State.clearScratch_lc (c a n : Nat) : (s.clearScratch c a n).lc = s.lc := rfl
@[simp] theorem State.clearScratch_tamp (c a n : Nat) : (s.clearScratch c a n).tamp = s.tamp := rfl
@[simp] theorem State.clearScratch_flt (c a n : Nat) : (s.clearScratch c a n).flt = s.flt := rfl

/-! ### wr -/
@[simp] theorem State.wr_pending (idx sub v : Nat) : (s.wr idx sub v).pending = s.pending := rfl
@[simp] theorem State.wr_free (idx sub v : Nat) : (s.wr idx sub v).free = s.free := rfl
@[simp] theorem State.wr_phase (idx sub v : Nat) : (s.wr idx sub v).phase = s.phase := rfl
@[simp] theorem State.wr_dtx (idx sub v : Nat) : (s.wr idx sub v).dtx = s.dtx := rfl
@[simp] theorem State.wr_clk (idx sub v : Nat) : (s.wr idx sub v).clk = s.clk := rfl
@[simp] theorem State.wr_pins (idx sub v : Nat) : (s.wr idx sub v).pins = s.pins := rfl
@[simp] theorem State.wr_ports (idx sub v : Nat) : (s.wr idx sub v).ports = s.ports := rfl
@[simp] theorem State.wr_ptp (idx sub v : Nat) : (s.wr idx sub v).ptp = s.ptp := rfl
@[simp] theorem State.wr_tx (idx sub v : Nat) : (s.wr idx sub v).tx = s.tx := rfl
@[simp] theorem State.wr_waits (idx sub v : Nat) : (s.wr idx sub v).waits = s.waits := rfl
@[simp] theorem State.wr_parts (idx sub v : Nat) : (s.wr idx sub v).parts = s.parts := rfl
@[simp] theorem State.wr_hsIn (idx sub v : Nat) : (s.wr idx sub v).hsIn = s.hsIn := rfl
@[simp] theorem State.wr_chans (idx sub v : Nat) : (s.wr idx sub v).chans = s.chans := rfl
@[simp] theorem State.wr_gens (idx sub v : Nat) : (s.wr idx sub v).gens = s.gens := rfl
@[simp] theorem State.wr_freed (idx sub v : Nat) : (s.wr idx sub v).freed = s.freed := rfl
@[simp] theorem State.wr_hs (idx sub v : Nat) : (s.wr idx sub v).hs = s.hs := rfl
@[simp] theorem State.wr_jobs (idx sub v : Nat) : (s.wr idx sub v).jobs = s.jobs := rfl
@[simp] theorem State.wr_order (idx sub v : Nat) : (s.wr idx sub v).order = s.order := rfl
@[simp] theorem State.wr_tenants (idx sub v : Nat) : (s.wr idx sub v).tenants = s.tenants := rfl
@[simp] theorem State.wr_lap (idx sub v : Nat) : (s.wr idx sub v).lap = s.lap := rfl
@[simp] theorem State.wr_rwork (idx sub v : Nat) : (s.wr idx sub v).rwork = s.rwork := rfl
@[simp] theorem State.wr_units (idx sub v : Nat) : (s.wr idx sub v).units = s.units := rfl
@[simp] theorem State.wr_les (idx sub v : Nat) : (s.wr idx sub v).les = s.les := rfl
@[simp] theorem State.wr_saved (idx sub v : Nat) : (s.wr idx sub v).saved = s.saved := rfl
@[simp] theorem State.wr_cmem (idx sub v : Nat) : (s.wr idx sub v).cmem = s.cmem := rfl
@[simp] theorem State.wr_clus (idx sub v : Nat) : (s.wr idx sub v).clus = s.clus := rfl
@[simp] theorem State.wr_mcache (idx sub v : Nat) : (s.wr idx sub v).mcache = s.mcache := rfl
@[simp] theorem State.wr_kern (idx sub v : Nat) : (s.wr idx sub v).kern = s.kern := rfl
@[simp] theorem State.wr_dstreams (idx sub v : Nat) : (s.wr idx sub v).dstreams = s.dstreams := rfl
@[simp] theorem State.wr_ent (idx sub v : Nat) : (s.wr idx sub v).ent = s.ent := rfl
@[simp] theorem State.wr_keys (idx sub v : Nat) : (s.wr idx sub v).keys = s.keys := rfl
@[simp] theorem State.wr_stampSeq (idx sub v : Nat) : (s.wr idx sub v).stampSeq = s.stampSeq := rfl
@[simp] theorem State.wr_flash (idx sub v : Nat) : (s.wr idx sub v).flash = s.flash := rfl
@[simp] theorem State.wr_gate (idx sub v : Nat) : (s.wr idx sub v).gate = s.gate := rfl
@[simp] theorem State.wr_trav (idx sub v : Nat) : (s.wr idx sub v).trav = s.trav := rfl
@[simp] theorem State.wr_grp (idx sub v : Nat) : (s.wr idx sub v).grp = s.grp := rfl
@[simp] theorem State.wr_lc (idx sub v : Nat) : (s.wr idx sub v).lc = s.lc := rfl
@[simp] theorem State.wr_tamp (idx sub v : Nat) : (s.wr idx sub v).tamp = s.tamp := rfl
@[simp] theorem State.wr_flt (idx sub v : Nat) : (s.wr idx sub v).flt = s.flt := rfl

/-! ### inc -/
@[simp] theorem State.inc_pending (idx sub n : Nat) : (s.inc idx sub n).pending = s.pending := rfl
@[simp] theorem State.inc_free (idx sub n : Nat) : (s.inc idx sub n).free = s.free := rfl
@[simp] theorem State.inc_phase (idx sub n : Nat) : (s.inc idx sub n).phase = s.phase := rfl
@[simp] theorem State.inc_dtx (idx sub n : Nat) : (s.inc idx sub n).dtx = s.dtx := rfl
@[simp] theorem State.inc_clk (idx sub n : Nat) : (s.inc idx sub n).clk = s.clk := rfl
@[simp] theorem State.inc_pins (idx sub n : Nat) : (s.inc idx sub n).pins = s.pins := rfl
@[simp] theorem State.inc_ports (idx sub n : Nat) : (s.inc idx sub n).ports = s.ports := rfl
@[simp] theorem State.inc_ptp (idx sub n : Nat) : (s.inc idx sub n).ptp = s.ptp := rfl
@[simp] theorem State.inc_tx (idx sub n : Nat) : (s.inc idx sub n).tx = s.tx := rfl
@[simp] theorem State.inc_waits (idx sub n : Nat) : (s.inc idx sub n).waits = s.waits := rfl
@[simp] theorem State.inc_parts (idx sub n : Nat) : (s.inc idx sub n).parts = s.parts := rfl
@[simp] theorem State.inc_hsIn (idx sub n : Nat) : (s.inc idx sub n).hsIn = s.hsIn := rfl
@[simp] theorem State.inc_chans (idx sub n : Nat) : (s.inc idx sub n).chans = s.chans := rfl
@[simp] theorem State.inc_gens (idx sub n : Nat) : (s.inc idx sub n).gens = s.gens := rfl
@[simp] theorem State.inc_freed (idx sub n : Nat) : (s.inc idx sub n).freed = s.freed := rfl
@[simp] theorem State.inc_hs (idx sub n : Nat) : (s.inc idx sub n).hs = s.hs := rfl
@[simp] theorem State.inc_jobs (idx sub n : Nat) : (s.inc idx sub n).jobs = s.jobs := rfl
@[simp] theorem State.inc_order (idx sub n : Nat) : (s.inc idx sub n).order = s.order := rfl
@[simp] theorem State.inc_tenants (idx sub n : Nat) : (s.inc idx sub n).tenants = s.tenants := rfl
@[simp] theorem State.inc_lap (idx sub n : Nat) : (s.inc idx sub n).lap = s.lap := rfl
@[simp] theorem State.inc_rwork (idx sub n : Nat) : (s.inc idx sub n).rwork = s.rwork := rfl
@[simp] theorem State.inc_units (idx sub n : Nat) : (s.inc idx sub n).units = s.units := rfl
@[simp] theorem State.inc_les (idx sub n : Nat) : (s.inc idx sub n).les = s.les := rfl
@[simp] theorem State.inc_saved (idx sub n : Nat) : (s.inc idx sub n).saved = s.saved := rfl
@[simp] theorem State.inc_cmem (idx sub n : Nat) : (s.inc idx sub n).cmem = s.cmem := rfl
@[simp] theorem State.inc_clus (idx sub n : Nat) : (s.inc idx sub n).clus = s.clus := rfl
@[simp] theorem State.inc_mcache (idx sub n : Nat) : (s.inc idx sub n).mcache = s.mcache := rfl
@[simp] theorem State.inc_kern (idx sub n : Nat) : (s.inc idx sub n).kern = s.kern := rfl
@[simp] theorem State.inc_dstreams (idx sub n : Nat) : (s.inc idx sub n).dstreams = s.dstreams := rfl
@[simp] theorem State.inc_ent (idx sub n : Nat) : (s.inc idx sub n).ent = s.ent := rfl
@[simp] theorem State.inc_keys (idx sub n : Nat) : (s.inc idx sub n).keys = s.keys := rfl
@[simp] theorem State.inc_stampSeq (idx sub n : Nat) : (s.inc idx sub n).stampSeq = s.stampSeq := rfl
@[simp] theorem State.inc_flash (idx sub n : Nat) : (s.inc idx sub n).flash = s.flash := rfl
@[simp] theorem State.inc_gate (idx sub n : Nat) : (s.inc idx sub n).gate = s.gate := rfl
@[simp] theorem State.inc_trav (idx sub n : Nat) : (s.inc idx sub n).trav = s.trav := rfl
@[simp] theorem State.inc_grp (idx sub n : Nat) : (s.inc idx sub n).grp = s.grp := rfl
@[simp] theorem State.inc_lc (idx sub n : Nat) : (s.inc idx sub n).lc = s.lc := rfl
@[simp] theorem State.inc_tamp (idx sub n : Nat) : (s.inc idx sub n).tamp = s.tamp := rfl
@[simp] theorem State.inc_flt (idx sub n : Nat) : (s.inc idx sub n).flt = s.flt := rfl

/-! ### event -/
@[simp] theorem State.event_pending (idx sub flags : Nat) : (s.event idx sub flags).pending = s.pending := rfl
@[simp] theorem State.event_free (idx sub flags : Nat) : (s.event idx sub flags).free = s.free := rfl
@[simp] theorem State.event_phase (idx sub flags : Nat) : (s.event idx sub flags).phase = s.phase := rfl
@[simp] theorem State.event_clk (idx sub flags : Nat) : (s.event idx sub flags).clk = s.clk := rfl
@[simp] theorem State.event_pins (idx sub flags : Nat) : (s.event idx sub flags).pins = s.pins := rfl
@[simp] theorem State.event_ports (idx sub flags : Nat) : (s.event idx sub flags).ports = s.ports := rfl
@[simp] theorem State.event_ptp (idx sub flags : Nat) : (s.event idx sub flags).ptp = s.ptp := rfl
@[simp] theorem State.event_tx (idx sub flags : Nat) : (s.event idx sub flags).tx = s.tx := rfl
@[simp] theorem State.event_waits (idx sub flags : Nat) : (s.event idx sub flags).waits = s.waits := rfl
@[simp] theorem State.event_parts (idx sub flags : Nat) : (s.event idx sub flags).parts = s.parts := rfl
@[simp] theorem State.event_hsIn (idx sub flags : Nat) : (s.event idx sub flags).hsIn = s.hsIn := rfl
@[simp] theorem State.event_chans (idx sub flags : Nat) : (s.event idx sub flags).chans = s.chans := rfl
@[simp] theorem State.event_gens (idx sub flags : Nat) : (s.event idx sub flags).gens = s.gens := rfl
@[simp] theorem State.event_freed (idx sub flags : Nat) : (s.event idx sub flags).freed = s.freed := rfl
@[simp] theorem State.event_hs (idx sub flags : Nat) : (s.event idx sub flags).hs = s.hs := rfl
@[simp] theorem State.event_jobs (idx sub flags : Nat) : (s.event idx sub flags).jobs = s.jobs := rfl
@[simp] theorem State.event_order (idx sub flags : Nat) : (s.event idx sub flags).order = s.order := rfl
@[simp] theorem State.event_tenants (idx sub flags : Nat) : (s.event idx sub flags).tenants = s.tenants := rfl
@[simp] theorem State.event_lap (idx sub flags : Nat) : (s.event idx sub flags).lap = s.lap := rfl
@[simp] theorem State.event_rwork (idx sub flags : Nat) : (s.event idx sub flags).rwork = s.rwork := rfl
@[simp] theorem State.event_units (idx sub flags : Nat) : (s.event idx sub flags).units = s.units := rfl
@[simp] theorem State.event_les (idx sub flags : Nat) : (s.event idx sub flags).les = s.les := rfl
@[simp] theorem State.event_saved (idx sub flags : Nat) : (s.event idx sub flags).saved = s.saved := rfl
@[simp] theorem State.event_cmem (idx sub flags : Nat) : (s.event idx sub flags).cmem = s.cmem := rfl
@[simp] theorem State.event_clus (idx sub flags : Nat) : (s.event idx sub flags).clus = s.clus := rfl
@[simp] theorem State.event_mcache (idx sub flags : Nat) : (s.event idx sub flags).mcache = s.mcache := rfl
@[simp] theorem State.event_kern (idx sub flags : Nat) : (s.event idx sub flags).kern = s.kern := rfl
@[simp] theorem State.event_dstreams (idx sub flags : Nat) : (s.event idx sub flags).dstreams = s.dstreams := rfl
@[simp] theorem State.event_ent (idx sub flags : Nat) : (s.event idx sub flags).ent = s.ent := rfl
@[simp] theorem State.event_keys (idx sub flags : Nat) : (s.event idx sub flags).keys = s.keys := rfl
@[simp] theorem State.event_stampSeq (idx sub flags : Nat) : (s.event idx sub flags).stampSeq = s.stampSeq := rfl
@[simp] theorem State.event_flash (idx sub flags : Nat) : (s.event idx sub flags).flash = s.flash := rfl
@[simp] theorem State.event_gate (idx sub flags : Nat) : (s.event idx sub flags).gate = s.gate := rfl
@[simp] theorem State.event_trav (idx sub flags : Nat) : (s.event idx sub flags).trav = s.trav := rfl
@[simp] theorem State.event_grp (idx sub flags : Nat) : (s.event idx sub flags).grp = s.grp := rfl
@[simp] theorem State.event_lc (idx sub flags : Nat) : (s.event idx sub flags).lc = s.lc := rfl
@[simp] theorem State.event_tamp (idx sub flags : Nat) : (s.event idx sub flags).tamp = s.tamp := rfl
@[simp] theorem State.event_flt (idx sub flags : Nat) : (s.event idx sub flags).flt = s.flt := rfl

/-! ### drawn -/
@[simp] theorem State.drawn_pending : (s.drawn).pending = s.pending := rfl
@[simp] theorem State.drawn_phase : (s.drawn).phase = s.phase := rfl
@[simp] theorem State.drawn_dict : (s.drawn).dict = s.dict := rfl
@[simp] theorem State.drawn_dtx : (s.drawn).dtx = s.dtx := rfl
@[simp] theorem State.drawn_clk : (s.drawn).clk = s.clk := rfl
@[simp] theorem State.drawn_pins : (s.drawn).pins = s.pins := rfl
@[simp] theorem State.drawn_ports : (s.drawn).ports = s.ports := rfl
@[simp] theorem State.drawn_ptp : (s.drawn).ptp = s.ptp := rfl
@[simp] theorem State.drawn_tx : (s.drawn).tx = s.tx := rfl
@[simp] theorem State.drawn_waits : (s.drawn).waits = s.waits := rfl
@[simp] theorem State.drawn_parts : (s.drawn).parts = s.parts := rfl
@[simp] theorem State.drawn_hsIn : (s.drawn).hsIn = s.hsIn := rfl
@[simp] theorem State.drawn_chans : (s.drawn).chans = s.chans := rfl
@[simp] theorem State.drawn_gens : (s.drawn).gens = s.gens := rfl
@[simp] theorem State.drawn_freed : (s.drawn).freed = s.freed := rfl
@[simp] theorem State.drawn_hs : (s.drawn).hs = s.hs := rfl
@[simp] theorem State.drawn_jobs : (s.drawn).jobs = s.jobs := rfl
@[simp] theorem State.drawn_order : (s.drawn).order = s.order := rfl
@[simp] theorem State.drawn_tenants : (s.drawn).tenants = s.tenants := rfl
@[simp] theorem State.drawn_lap : (s.drawn).lap = s.lap := rfl
@[simp] theorem State.drawn_rwork : (s.drawn).rwork = s.rwork := rfl
@[simp] theorem State.drawn_units : (s.drawn).units = s.units := rfl
@[simp] theorem State.drawn_les : (s.drawn).les = s.les := rfl
@[simp] theorem State.drawn_saved : (s.drawn).saved = s.saved := rfl
@[simp] theorem State.drawn_cmem : (s.drawn).cmem = s.cmem := rfl
@[simp] theorem State.drawn_clus : (s.drawn).clus = s.clus := rfl
@[simp] theorem State.drawn_mcache : (s.drawn).mcache = s.mcache := rfl
@[simp] theorem State.drawn_kern : (s.drawn).kern = s.kern := rfl
@[simp] theorem State.drawn_dstreams : (s.drawn).dstreams = s.dstreams := rfl
@[simp] theorem State.drawn_ent : (s.drawn).ent = s.ent := rfl
@[simp] theorem State.drawn_keys : (s.drawn).keys = s.keys := rfl
@[simp] theorem State.drawn_stampSeq : (s.drawn).stampSeq = s.stampSeq := rfl
@[simp] theorem State.drawn_flash : (s.drawn).flash = s.flash := rfl
@[simp] theorem State.drawn_gate : (s.drawn).gate = s.gate := rfl
@[simp] theorem State.drawn_trav : (s.drawn).trav = s.trav := rfl
@[simp] theorem State.drawn_grp : (s.drawn).grp = s.grp := rfl
@[simp] theorem State.drawn_lc : (s.drawn).lc = s.lc := rfl
@[simp] theorem State.drawn_tamp : (s.drawn).tamp = s.tamp := rfl
@[simp] theorem State.drawn_flt : (s.drawn).flt = s.flt := rfl

/-! ### masksDrawn -/
@[simp] theorem State.masksDrawn_pending (k : Nat) : (s.masksDrawn k).pending = s.pending := rfl
@[simp] theorem State.masksDrawn_phase (k : Nat) : (s.masksDrawn k).phase = s.phase := rfl
@[simp] theorem State.masksDrawn_dict (k : Nat) : (s.masksDrawn k).dict = s.dict := rfl
@[simp] theorem State.masksDrawn_dtx (k : Nat) : (s.masksDrawn k).dtx = s.dtx := rfl
@[simp] theorem State.masksDrawn_clk (k : Nat) : (s.masksDrawn k).clk = s.clk := rfl
@[simp] theorem State.masksDrawn_pins (k : Nat) : (s.masksDrawn k).pins = s.pins := rfl
@[simp] theorem State.masksDrawn_ports (k : Nat) : (s.masksDrawn k).ports = s.ports := rfl
@[simp] theorem State.masksDrawn_ptp (k : Nat) : (s.masksDrawn k).ptp = s.ptp := rfl
@[simp] theorem State.masksDrawn_tx (k : Nat) : (s.masksDrawn k).tx = s.tx := rfl
@[simp] theorem State.masksDrawn_waits (k : Nat) : (s.masksDrawn k).waits = s.waits := rfl
@[simp] theorem State.masksDrawn_parts (k : Nat) : (s.masksDrawn k).parts = s.parts := rfl
@[simp] theorem State.masksDrawn_hsIn (k : Nat) : (s.masksDrawn k).hsIn = s.hsIn := rfl
@[simp] theorem State.masksDrawn_chans (k : Nat) : (s.masksDrawn k).chans = s.chans := rfl
@[simp] theorem State.masksDrawn_gens (k : Nat) : (s.masksDrawn k).gens = s.gens := rfl
@[simp] theorem State.masksDrawn_freed (k : Nat) : (s.masksDrawn k).freed = s.freed := rfl
@[simp] theorem State.masksDrawn_hs (k : Nat) : (s.masksDrawn k).hs = s.hs := rfl
@[simp] theorem State.masksDrawn_jobs (k : Nat) : (s.masksDrawn k).jobs = s.jobs := rfl
@[simp] theorem State.masksDrawn_order (k : Nat) : (s.masksDrawn k).order = s.order := rfl
@[simp] theorem State.masksDrawn_tenants (k : Nat) : (s.masksDrawn k).tenants = s.tenants := rfl
@[simp] theorem State.masksDrawn_lap (k : Nat) : (s.masksDrawn k).lap = s.lap := rfl
@[simp] theorem State.masksDrawn_rwork (k : Nat) : (s.masksDrawn k).rwork = s.rwork := rfl
@[simp] theorem State.masksDrawn_units (k : Nat) : (s.masksDrawn k).units = s.units := rfl
@[simp] theorem State.masksDrawn_les (k : Nat) : (s.masksDrawn k).les = s.les := rfl
@[simp] theorem State.masksDrawn_saved (k : Nat) : (s.masksDrawn k).saved = s.saved := rfl
@[simp] theorem State.masksDrawn_cmem (k : Nat) : (s.masksDrawn k).cmem = s.cmem := rfl
@[simp] theorem State.masksDrawn_clus (k : Nat) : (s.masksDrawn k).clus = s.clus := rfl
@[simp] theorem State.masksDrawn_mcache (k : Nat) : (s.masksDrawn k).mcache = s.mcache := rfl
@[simp] theorem State.masksDrawn_kern (k : Nat) : (s.masksDrawn k).kern = s.kern := rfl
@[simp] theorem State.masksDrawn_dstreams (k : Nat) : (s.masksDrawn k).dstreams = s.dstreams := rfl
@[simp] theorem State.masksDrawn_ent (k : Nat) : (s.masksDrawn k).ent = s.ent := rfl
@[simp] theorem State.masksDrawn_keys (k : Nat) : (s.masksDrawn k).keys = s.keys := rfl
@[simp] theorem State.masksDrawn_stampSeq (k : Nat) : (s.masksDrawn k).stampSeq = s.stampSeq := rfl
@[simp] theorem State.masksDrawn_flash (k : Nat) : (s.masksDrawn k).flash = s.flash := rfl
@[simp] theorem State.masksDrawn_gate (k : Nat) : (s.masksDrawn k).gate = s.gate := rfl
@[simp] theorem State.masksDrawn_trav (k : Nat) : (s.masksDrawn k).trav = s.trav := rfl
@[simp] theorem State.masksDrawn_grp (k : Nat) : (s.masksDrawn k).grp = s.grp := rfl
@[simp] theorem State.masksDrawn_lc (k : Nat) : (s.masksDrawn k).lc = s.lc := rfl
@[simp] theorem State.masksDrawn_tamp (k : Nat) : (s.masksDrawn k).tamp = s.tamp := rfl
@[simp] theorem State.masksDrawn_flt (k : Nat) : (s.masksDrawn k).flt = s.flt := rfl

/-! ### mapJob -/
@[simp] theorem State.mapJob_pending (r : JobRef) (f : Job → Job) : (s.mapJob r f).pending = s.pending := rfl
@[simp] theorem State.mapJob_free (r : JobRef) (f : Job → Job) : (s.mapJob r f).free = s.free := rfl
@[simp] theorem State.mapJob_phase (r : JobRef) (f : Job → Job) : (s.mapJob r f).phase = s.phase := rfl
@[simp] theorem State.mapJob_dict (r : JobRef) (f : Job → Job) : (s.mapJob r f).dict = s.dict := rfl
@[simp] theorem State.mapJob_dtx (r : JobRef) (f : Job → Job) : (s.mapJob r f).dtx = s.dtx := rfl
@[simp] theorem State.mapJob_clk (r : JobRef) (f : Job → Job) : (s.mapJob r f).clk = s.clk := rfl
@[simp] theorem State.mapJob_pins (r : JobRef) (f : Job → Job) : (s.mapJob r f).pins = s.pins := rfl
@[simp] theorem State.mapJob_ports (r : JobRef) (f : Job → Job) : (s.mapJob r f).ports = s.ports := rfl
@[simp] theorem State.mapJob_ptp (r : JobRef) (f : Job → Job) : (s.mapJob r f).ptp = s.ptp := rfl
@[simp] theorem State.mapJob_tx (r : JobRef) (f : Job → Job) : (s.mapJob r f).tx = s.tx := rfl
@[simp] theorem State.mapJob_waits (r : JobRef) (f : Job → Job) : (s.mapJob r f).waits = s.waits := rfl
@[simp] theorem State.mapJob_parts (r : JobRef) (f : Job → Job) : (s.mapJob r f).parts = s.parts := rfl
@[simp] theorem State.mapJob_hsIn (r : JobRef) (f : Job → Job) : (s.mapJob r f).hsIn = s.hsIn := rfl
@[simp] theorem State.mapJob_chans (r : JobRef) (f : Job → Job) : (s.mapJob r f).chans = s.chans := rfl
@[simp] theorem State.mapJob_gens (r : JobRef) (f : Job → Job) : (s.mapJob r f).gens = s.gens := rfl
@[simp] theorem State.mapJob_freed (r : JobRef) (f : Job → Job) : (s.mapJob r f).freed = s.freed := rfl
@[simp] theorem State.mapJob_hs (r : JobRef) (f : Job → Job) : (s.mapJob r f).hs = s.hs := rfl
@[simp] theorem State.mapJob_order (r : JobRef) (f : Job → Job) : (s.mapJob r f).order = s.order := rfl
@[simp] theorem State.mapJob_tenants (r : JobRef) (f : Job → Job) : (s.mapJob r f).tenants = s.tenants := rfl
@[simp] theorem State.mapJob_lap (r : JobRef) (f : Job → Job) : (s.mapJob r f).lap = s.lap := rfl
@[simp] theorem State.mapJob_rwork (r : JobRef) (f : Job → Job) : (s.mapJob r f).rwork = s.rwork := rfl
@[simp] theorem State.mapJob_units (r : JobRef) (f : Job → Job) : (s.mapJob r f).units = s.units := rfl
@[simp] theorem State.mapJob_les (r : JobRef) (f : Job → Job) : (s.mapJob r f).les = s.les := rfl
@[simp] theorem State.mapJob_saved (r : JobRef) (f : Job → Job) : (s.mapJob r f).saved = s.saved := rfl
@[simp] theorem State.mapJob_cmem (r : JobRef) (f : Job → Job) : (s.mapJob r f).cmem = s.cmem := rfl
@[simp] theorem State.mapJob_clus (r : JobRef) (f : Job → Job) : (s.mapJob r f).clus = s.clus := rfl
@[simp] theorem State.mapJob_mcache (r : JobRef) (f : Job → Job) : (s.mapJob r f).mcache = s.mcache := rfl
@[simp] theorem State.mapJob_kern (r : JobRef) (f : Job → Job) : (s.mapJob r f).kern = s.kern := rfl
@[simp] theorem State.mapJob_dstreams (r : JobRef) (f : Job → Job) : (s.mapJob r f).dstreams = s.dstreams := rfl
@[simp] theorem State.mapJob_ent (r : JobRef) (f : Job → Job) : (s.mapJob r f).ent = s.ent := rfl
@[simp] theorem State.mapJob_keys (r : JobRef) (f : Job → Job) : (s.mapJob r f).keys = s.keys := rfl
@[simp] theorem State.mapJob_stampSeq (r : JobRef) (f : Job → Job) : (s.mapJob r f).stampSeq = s.stampSeq := rfl
@[simp] theorem State.mapJob_flash (r : JobRef) (f : Job → Job) : (s.mapJob r f).flash = s.flash := rfl
@[simp] theorem State.mapJob_gate (r : JobRef) (f : Job → Job) : (s.mapJob r f).gate = s.gate := rfl
@[simp] theorem State.mapJob_trav (r : JobRef) (f : Job → Job) : (s.mapJob r f).trav = s.trav := rfl
@[simp] theorem State.mapJob_grp (r : JobRef) (f : Job → Job) : (s.mapJob r f).grp = s.grp := rfl
@[simp] theorem State.mapJob_lc (r : JobRef) (f : Job → Job) : (s.mapJob r f).lc = s.lc := rfl
@[simp] theorem State.mapJob_tamp (r : JobRef) (f : Job → Job) : (s.mapJob r f).tamp = s.tamp := rfl
@[simp] theorem State.mapJob_flt (r : JobRef) (f : Job → Job) : (s.mapJob r f).flt = s.flt := rfl

/-! ### dropJob -/
@[simp] theorem State.dropJob_pending (r : JobRef) : (s.dropJob r).pending = s.pending := rfl
@[simp] theorem State.dropJob_free (r : JobRef) : (s.dropJob r).free = s.free := rfl
@[simp] theorem State.dropJob_phase (r : JobRef) : (s.dropJob r).phase = s.phase := rfl
@[simp] theorem State.dropJob_dict (r : JobRef) : (s.dropJob r).dict = s.dict := rfl
@[simp] theorem State.dropJob_dtx (r : JobRef) : (s.dropJob r).dtx = s.dtx := rfl
@[simp] theorem State.dropJob_clk (r : JobRef) : (s.dropJob r).clk = s.clk := rfl
@[simp] theorem State.dropJob_pins (r : JobRef) : (s.dropJob r).pins = s.pins := rfl
@[simp] theorem State.dropJob_ports (r : JobRef) : (s.dropJob r).ports = s.ports := rfl
@[simp] theorem State.dropJob_ptp (r : JobRef) : (s.dropJob r).ptp = s.ptp := rfl
@[simp] theorem State.dropJob_tx (r : JobRef) : (s.dropJob r).tx = s.tx := rfl
@[simp] theorem State.dropJob_waits (r : JobRef) : (s.dropJob r).waits = s.waits := rfl
@[simp] theorem State.dropJob_parts (r : JobRef) : (s.dropJob r).parts = s.parts := rfl
@[simp] theorem State.dropJob_hsIn (r : JobRef) : (s.dropJob r).hsIn = s.hsIn := rfl
@[simp] theorem State.dropJob_chans (r : JobRef) : (s.dropJob r).chans = s.chans := rfl
@[simp] theorem State.dropJob_gens (r : JobRef) : (s.dropJob r).gens = s.gens := rfl
@[simp] theorem State.dropJob_freed (r : JobRef) : (s.dropJob r).freed = s.freed := rfl
@[simp] theorem State.dropJob_hs (r : JobRef) : (s.dropJob r).hs = s.hs := rfl
@[simp] theorem State.dropJob_order (r : JobRef) : (s.dropJob r).order = s.order := rfl
@[simp] theorem State.dropJob_tenants (r : JobRef) : (s.dropJob r).tenants = s.tenants := rfl
@[simp] theorem State.dropJob_lap (r : JobRef) : (s.dropJob r).lap = s.lap := rfl
@[simp] theorem State.dropJob_rwork (r : JobRef) : (s.dropJob r).rwork = s.rwork := rfl
@[simp] theorem State.dropJob_units (r : JobRef) : (s.dropJob r).units = s.units := rfl
@[simp] theorem State.dropJob_les (r : JobRef) : (s.dropJob r).les = s.les := rfl
@[simp] theorem State.dropJob_saved (r : JobRef) : (s.dropJob r).saved = s.saved := rfl
@[simp] theorem State.dropJob_cmem (r : JobRef) : (s.dropJob r).cmem = s.cmem := rfl
@[simp] theorem State.dropJob_clus (r : JobRef) : (s.dropJob r).clus = s.clus := rfl
@[simp] theorem State.dropJob_mcache (r : JobRef) : (s.dropJob r).mcache = s.mcache := rfl
@[simp] theorem State.dropJob_kern (r : JobRef) : (s.dropJob r).kern = s.kern := rfl
@[simp] theorem State.dropJob_dstreams (r : JobRef) : (s.dropJob r).dstreams = s.dstreams := rfl
@[simp] theorem State.dropJob_ent (r : JobRef) : (s.dropJob r).ent = s.ent := rfl
@[simp] theorem State.dropJob_keys (r : JobRef) : (s.dropJob r).keys = s.keys := rfl
@[simp] theorem State.dropJob_stampSeq (r : JobRef) : (s.dropJob r).stampSeq = s.stampSeq := rfl
@[simp] theorem State.dropJob_flash (r : JobRef) : (s.dropJob r).flash = s.flash := rfl
@[simp] theorem State.dropJob_gate (r : JobRef) : (s.dropJob r).gate = s.gate := rfl
@[simp] theorem State.dropJob_trav (r : JobRef) : (s.dropJob r).trav = s.trav := rfl
@[simp] theorem State.dropJob_grp (r : JobRef) : (s.dropJob r).grp = s.grp := rfl
@[simp] theorem State.dropJob_lc (r : JobRef) : (s.dropJob r).lc = s.lc := rfl
@[simp] theorem State.dropJob_tamp (r : JobRef) : (s.dropJob r).tamp = s.tamp := rfl
@[simp] theorem State.dropJob_flt (r : JobRef) : (s.dropJob r).flt = s.flt := rfl

/-! ### holdEpoch -/
@[simp] theorem State.holdEpoch_pending : (s.holdEpoch).pending = s.pending := rfl
@[simp] theorem State.holdEpoch_free : (s.holdEpoch).free = s.free := rfl
@[simp] theorem State.holdEpoch_phase : (s.holdEpoch).phase = s.phase := rfl
@[simp] theorem State.holdEpoch_dict : (s.holdEpoch).dict = s.dict := rfl
@[simp] theorem State.holdEpoch_clk : (s.holdEpoch).clk = s.clk := rfl
@[simp] theorem State.holdEpoch_pins : (s.holdEpoch).pins = s.pins := rfl
@[simp] theorem State.holdEpoch_ports : (s.holdEpoch).ports = s.ports := rfl
@[simp] theorem State.holdEpoch_ptp : (s.holdEpoch).ptp = s.ptp := rfl
@[simp] theorem State.holdEpoch_tx : (s.holdEpoch).tx = s.tx := rfl
@[simp] theorem State.holdEpoch_waits : (s.holdEpoch).waits = s.waits := rfl
@[simp] theorem State.holdEpoch_parts : (s.holdEpoch).parts = s.parts := rfl
@[simp] theorem State.holdEpoch_hsIn : (s.holdEpoch).hsIn = s.hsIn := rfl
@[simp] theorem State.holdEpoch_chans : (s.holdEpoch).chans = s.chans := rfl
@[simp] theorem State.holdEpoch_gens : (s.holdEpoch).gens = s.gens := rfl
@[simp] theorem State.holdEpoch_freed : (s.holdEpoch).freed = s.freed := rfl
@[simp] theorem State.holdEpoch_hs : (s.holdEpoch).hs = s.hs := rfl
@[simp] theorem State.holdEpoch_jobs : (s.holdEpoch).jobs = s.jobs := rfl
@[simp] theorem State.holdEpoch_order : (s.holdEpoch).order = s.order := rfl
@[simp] theorem State.holdEpoch_tenants : (s.holdEpoch).tenants = s.tenants := rfl
@[simp] theorem State.holdEpoch_lap : (s.holdEpoch).lap = s.lap := rfl
@[simp] theorem State.holdEpoch_rwork : (s.holdEpoch).rwork = s.rwork := rfl
@[simp] theorem State.holdEpoch_units : (s.holdEpoch).units = s.units := rfl
@[simp] theorem State.holdEpoch_les : (s.holdEpoch).les = s.les := rfl
@[simp] theorem State.holdEpoch_saved : (s.holdEpoch).saved = s.saved := rfl
@[simp] theorem State.holdEpoch_cmem : (s.holdEpoch).cmem = s.cmem := rfl
@[simp] theorem State.holdEpoch_clus : (s.holdEpoch).clus = s.clus := rfl
@[simp] theorem State.holdEpoch_mcache : (s.holdEpoch).mcache = s.mcache := rfl
@[simp] theorem State.holdEpoch_kern : (s.holdEpoch).kern = s.kern := rfl
@[simp] theorem State.holdEpoch_dstreams : (s.holdEpoch).dstreams = s.dstreams := rfl
@[simp] theorem State.holdEpoch_ent : (s.holdEpoch).ent = s.ent := rfl
@[simp] theorem State.holdEpoch_keys : (s.holdEpoch).keys = s.keys := rfl
@[simp] theorem State.holdEpoch_stampSeq : (s.holdEpoch).stampSeq = s.stampSeq := rfl
@[simp] theorem State.holdEpoch_flash : (s.holdEpoch).flash = s.flash := rfl
@[simp] theorem State.holdEpoch_gate : (s.holdEpoch).gate = s.gate := rfl
@[simp] theorem State.holdEpoch_trav : (s.holdEpoch).trav = s.trav := rfl
@[simp] theorem State.holdEpoch_grp : (s.holdEpoch).grp = s.grp := rfl
@[simp] theorem State.holdEpoch_lc : (s.holdEpoch).lc = s.lc := rfl
@[simp] theorem State.holdEpoch_tamp : (s.holdEpoch).tamp = s.tamp := rfl
@[simp] theorem State.holdEpoch_flt : (s.holdEpoch).flt = s.flt := rfl

end Machine
end Sys2Proof
end

