-- ==== Sys2Proof/WellFormed.lean ====
section
/-! DEFINITION. The operands a command may carry: numbers inside the block's own ranges. -/

namespace Sys2Proof

/-- Ports 0 to 3 (R19). -/
def portOk (p : Nat) : Bool := decide (p < 4)
/-- Lattice engines 0 to 63, four in each of 16 clusters (R214). -/
def leOk (e : Nat) : Bool := decide (e < 64)
def clusterOk (c : Nat) : Bool := decide (c < 16)
/-- Entropy and tamper sources 0 to 15 (R289, R408). -/
def sourceOk (n : Nat) : Bool := decide (n < 16)
/-- Tenants 0 to 63 (R42). -/
def tenantOk (t : Nat) : Bool := decide (t < 64)
/-- Channel slots (R77). -/
def slotOk (c : Nat) : Bool := decide (c < 65536)
/-- Flash channels 0 to 31 (R354). -/
def flashOk (n : Nat) : Bool := decide (n < 32)
/-- Update windows 0 to 7 (R355). -/
def windowOk (w : Nat) : Bool := decide (w < 8)
/-- Handles have 32 bits (R77, R312). -/
def handleOk (h : Nat) : Bool := decide (h < 2 ^ 32)
/-- Working-store banks: 32 and two spares (R450). -/
def bankOk (b : Nat) : Bool := decide (b < 34)
/-- The units that hold jobs: LEs, Keccak and SHA-2 cores, BEs and AES-GCM cores, at the codes 0, 256, 512, 768 and 1024 on (*Allowance classes*). -/
def unitOk (u : Nat) : Bool :=
  decide (u < 64) || decide (256 ≤ u ∧ u < 384) || decide (512 ≤ u ∧ u < 640) || decide (768 ≤ u ∧ u < 784) || decide (1024 ≤ u ∧ u < 1056)

/-- A message of a channel slot, with its 64-bit sequence (R42, R77). -/
def JobRef.wf (j : JobRef) : Bool := slotOk j.chan && decide (j.seq < 2 ^ 64)
def JobRun.wf (r : JobRun) : Bool := r.j.wf
/-- A message that is waiting for segments, of whichever kind (R56). -/
def PartRef.wf : PartRef → Bool
  | .message j => j.wf
  | .handshake _ t _ => tenantOk t
  | .peer _ h _ => handleOk h
  | .announce _ port _ => portOk port

/-- A microword's fields beyond its bit fields: the engine, grain and span codes, modulus and mask registers (R196, R222, R224). -/
def Mw.wf (w : Mw) : Bool :=
  leOk w.le && decide (w.g < 3) && decide (w.sp < 3) && decide (w.q < 4) && decide (w.mask < 8)

/-- An Opfel frame's header has its 40 octets when as many arrived, and its body those after them (R41). -/
def OpfelIn.wf (f : OpfelIn) : Bool :=
  portOk f.port && decide (f.header.length = Nat.min 40 f.held ∧ f.body.length = f.held - 40)

/-- A handshake request of a tenant came in on a port (R79). -/
def HsReq.wf (r : HsReq) : Bool := tenantOk r.tenant && portOk r.port

/-- Members of a group have the indices 0 to 7 (R374). -/
def PeerHdr.wf (h : PeerHdr) : Bool := decide (h.sender < 8) && decide (h.receiver < 8)
def Hello.wf (h : Hello) : Bool := decide (h.sender < 256) && decide (h.receiver < 256)

/-- A flash's JEDEC identity has three octets, and its SFDP tables are in one of three states (R339, R353). -/
def Discovery.wf (d : Discovery) : Bool := decide (d.jedec < 2 ^ 24) && decide (d.sfdp < 3)

/-- The unit that a hardware fault names is of the kind that the fault strikes (*Fault classes*, R435). -/
def HwFault.wf (f : HwFault) : Bool :=
  match f.kind with
  | .leParity | .clusterParity | .storeParity => leOk f.unit
  | .hashParity => unitOk f.unit && decide (256 ≤ f.unit ∧ f.unit < 768)
  | .engineParity => unitOk f.unit && decide (768 ≤ f.unit)
  | .rsaCheck => unitOk f.unit && decide (768 ≤ f.unit ∧ f.unit < 1024)
  | .portParity => portOk f.unit
  | .gateAbort => unitOk f.unit || decide (2048 ≤ f.unit ∧ f.unit < 2064) || decide (4096 ≤ f.unit ∧ f.unit < 4128)

/-- A lost word's holder exists (R447). -/
def LostWord.wf : LostWord → Bool
  | .jobInput j | .egress j => j.wf
  | .loadedKey h | .volatileKey h => handleOk h
  | .drbg d => decide (d < 80)
  | .channel c => slotOk c
  | .stream c n => slotOk c && decide (n < 16)
  | .matrix _ | .ringArchived | .ringUnarchived _ | .eventLog _ | .dictShadow | .firmware => true

/-- The operands are numbers the block has. -/
def Instr.wf : Instr → Bool
  | .linkDown port | .failbackHoldExpiry port | .portConfigChange port | .ethernetFrameReceive port _ | .arpRequest port _
  | .neighbourSolicitation port _ | .echoRequest port _ _ | .announceIntervalExpiry port | .announceSend port
  | .ptpAnnounceMessage port _ _ | .announceReceiptTimeout port => portOk port
  | .announceReceive src _ _ _ => portOk src.port
  | .ptpSyncMessage k _ _ _ | .ptpDelayRequestTimer k | .ptpDelayResponse k _ _ => portOk k.port
  | .linkUp port speed _ _ => portOk port && (speed == 10 || speed == 25)
  | .holdoverLimitExpiry | .refclkSdLost | .refclkSdReturn | .journalCommit _ | .lapBoundary | .lapLengthChange
  | .kernelCommit _ | .rawSampleRefill _ | .pwrgdInFall | .slotArchived _ | .checkpointSigned | .heartbeatInstant | .stepDownTimeout
  | .writeTimeout _ | .groupBufferDrain | .idcode | .samplePreload | .extest | .extestExit | .lcStatus | .lcCmdOpen _ _ | .lcCmdLock _ _
  | .lcCmdUnlock _ _ | .lcCmdPersonalize _ _ | .lcCmdRma _ _ | .lcCmdTerminal _ _ | .fuseProgramDone | .debugChallenge | .debugChallengeExpiry
  | .debugResponse _ _ _ | .debugOpenComplete | .dictTxn _ | .dictRead _ | .bypass | .tamperHoldSample | .aonChangeover _ | .refclkLost
  | .refclkRestored | .crystalLost | .crystalRestored | .sscApply | .coldReset | .coldStart _ _ _ | .sysrstNAssert | .warmStart | .alwaysOnReset => true
  | .opfelFrame f | .credit f => f.wf
  | .reassemblyTimeout p => p.wf
  | .completionRelease j | .ping j | .close j | .closeNow j | .retire j | .subscribe j | .tenantReset j | .enrol j
  | .setKeepalive j | .read j | .write j | .sealedWrite j | .describe j | .eventClear j _ _ _ _ | .ownerKernelJob j | .ownerKernelCostLimit j
  | .fetch j | .head j | .checkpoint j | .floorRaise j _ | .install j | .discard j | .remove j _ | .reseedAll j | .rawSampleRead j
  | .entropyWaitTimeout j | .keysReset j | .ringWaitTimeout j | .transitionRelease j _ | .transitionReturn j _ | .transitionTerminal j _
  | .transitionFieldSeal j _ | .resume j | .warmReset j => j.wf
  | .handshakeRequest r => r.wf
  | .handshakeReply tenant _ _ | .budgetExhausted tenant _ => tenantOk tenant
  | .pendingExpiry chan | .keepaliveExpiry chan | .closeDrained chan => slotOk chan
  | .tenantStateWrite j tenant _ => j.wf && tenantOk tenant
  | .jobDispatch j units => j.wf && units.all unitOk
  | .safePointReached unit | .aesFenceTimeout unit => unitOk unit
  | .mlKemKeygen r | .mlKemKeygenFromSeed r | .mlKemEncaps r | .mlKemDecaps r | .mlDsaKeygen r | .mlDsaSign r | .mlDsaVerify r | .mlDsaSignMu r
  | .mlDsaVerifyMu r | .mlDsaHashSign r | .mlDsaHashVerify r | .slhDsaKeygen r | .slhDsaSign r | .slhDsaVerify r | .slhDsaHashSign r
  | .slhDsaHashVerify r | .fnDsaVerify r | .hqcKeygen r | .hqcEncaps r | .hqcDecaps r | .mcelieceKeygen r | .mcelieceEncaps r | .mcelieceDecaps r
  | .statefulKeygen r | .statefulSign r | .statefulVerify r | .eccKeygen r | .eccSign r | .eccVerify r | .eccAgree r | .eccHashSign r
  | .eccHashVerify r | .rsaKeygen r | .rsaSign r | .rsaVerify r | .rsaDecrypt r | .rsaEncrypt r | .rsaHashSign r | .rsaHashVerify r | .aeadEncrypt r
  | .aeadDecrypt r | .digest r | .mac r | .macVerify r | .extract r | .expand r | .extractExpand r | .randomOctets r | .genSymmetric r
  | .importPublic r | .exportPublic r | .destroy r | .kumCreate r | .kumImport r | .kumReplace r | .kumDestroy r | .kumSetAttr r | .serverShare r
  | .clientShare r | .clientHandshake r | .handshakeSecrets r | .appSecrets r | .resumption r | .stamp r | .quote r | .compare r | .streamMessage r => r.wf
  | .reservationCommit handle _ | .keyLoad handle => handleOk handle
  | .kumCommit domain _ => decide (domain < 66)
  | .nop w | .add w | .sub w | .addm w | .subm w | .redb w | .mulm w | .mulw w | .dot w | .redw w | .clmul w | .basemul w | .ct18 w | .gs18 w
  | .ct36l w | .ct36u w | .ct36TopSum w | .ct36TopDiff w | .gs36l w | .gs36u w | .gs36TopSum w | .gs36TopDiff w | .and w | .or w | .xor w | .andn w
  | .shl w | .shr w | .rol64 w | .cmplt w | .cmpeq w | .movm w | .popc w | .mfromv w | .andr w | .orr w | .perm w | .unpackZ w | .unpackS w | .pack w
  | .compress w | .decompress w | .byteEncode w | .byteDecode w | .bitpack w | .bitunpack w | .p2rHi w | .p2rLo w | .dec88Hi w | .dec88Lo w
  | .dec32Hi w | .dec32Lo w | .mkhint88 w | .mkhint32 w | .usehint88 w | .usehint32 w | .cbd2 w | .cbd3 w | .compact w | .ctCompact w | .secand w
  | .secmulm w | .a2b w | .b2a w | .declBit w | .declBit2 w | .declBit3 w | .aadd w | .asub w | .aand w | .ashr w | .aaddi w | .aldi w | .asetw w
  | .afromv w | .abcast w | .mcount w | .ldc w | .stc w | .ldq w | .lds w | .sts w | .release w | .gather16C w | .scatter16C w | .gather16S w
  | .scatter16S w | .sopen w | .sabsorb w | .sfinal w | .ssqueeze w | .sclose w | .maskDraw w | .drbgDraw w | .keyFetch w | .mboxRead w
  | .matrixReq w | .matrixDone w | .next w | .jump w | .brz w | .brnz w | .call w | .ret w | .loop w | .exit w => w.wf
  | .keyBusDeliveryDone le | .matrixAnswer le | .waitWatchdog le | .entropyStallTimeout le | .maskGeneratorReseed le => leOk le
  | .csRepair cluster nano addr => clusterOk cluster && decide (addr < if nano then 1024 else 16384)
  | .sourceWarmupDone src | .sourceWindowEnd src _ | .repetitionCountFail src | .blockConditioned src | .tamperAlarm src | .tamperSourceClear src => sourceOk src
  | .restart j src | .disable j src => j.wf && sourceOk src
  | .drbgInstantiate drbg | .drbgReseed drbg => decide (drbg < 80)
  | .presenceChange n _ | .gateDecided n => flashOk n
  | .gateStart n d => flashOk n && d.wf
  | .regionMeasured n r _ => flashOk n && decide (r < 8)
  | .lineRelease line => decide (line < 32)
  | .forceRelease j lines | .remeasure j lines => j.wf && decide (lines < 2 ^ 32)
  | .flashCommand n code _ => flashOk n && decide (code < 256)
  | .updateWindowOpen j w _ _ _ _ | .updateWindowClose j w => j.wf && windowOk w
  | .updateWindowExpiry w => windowOk w
  | .helloInit h | .helloReply h => h.wf
  | .heartbeat h _ | .claim h _ _ _ _ | .grant h _ _ _ _ | .append h _ _ _ _ _ | .ack h _ _ _ _ | .forward h _ | .result h _ _ _ _ | .peerFetch h _
  | .entries h _ _ | .readIndex h _ | .readReply h _ _ => h.wf
  | .memAccess _ memory _ _ => decide (memory ≤ 10)
  | .batterySample seen => seen.all sourceOk
  | .gateAbort unit => (HwFault.mk .gateAbort unit none none 0).wf
  | .clusterWake cluster => clusterOk cluster
  | .fenceRequest j cluster les | .fenceRelease j cluster les => j.wf && clusterOk cluster && decide (les < 16)
  | .hardwareFault f => f.wf
  | .wordLost bank w => bank.all bankOk && w.wf
  | .bankCopyDone bank lost => bankOk bank && lost.all LostWord.wf

end Sys2Proof
end

