-- ==== Sys2Proof/Tests/Slice0.lean ====
section
/-! SUPPORT. Tests of well-formedness and of single steps, and for each statement a state and operands that meet its hypotheses. -/

set_option Elab.async false

namespace Sys2Proof
namespace Tests
open Machine

/-! ### Small states -/

/-- The block started, with nothing under way. -/
def up : State := { State.reset with phase := .up }
/-- Entries set. -/
def withRows (s : State) (l : List (Nat × Nat × Nat)) : State := l.foldl (fun u p => u.wr p.1 p.2.1 p.2.2) s
/-- A job of tenant 0 on channel 0, sequence 1. -/
def job : Job :=
  { chan := 0, seq := 1, handle := 65536, hdrTenant := 0, order := 0, tenant := 0, queue := 0, kind := 1, opcode := 0, key := 0, cookie := 0, length := 0, segCount := 1, segs := [],
    firstAt := 0, needsAck := false, credits := 0, reserve := 0, state := .running, units := [], borrowed := false, admitted := 0, charged := noWork,
    lapCharged := noWork, lapBorrowed := noWork, epoch := 0, retried := false, faultUnit := none, waitSince := none, status := 0, detail := 0, result := [], resKey := 0,
    index := none, stamp := none, kernel := none, rnd := none, sentAs := none, prec := false,
    isSealed := false, switched := false, slotless := false, kumChecked := false, extra := noWork, mid := 0, drawn := [] }
/-- Its reference. -/
def ref1 : JobRef := ⟨0, 1⟩
def run1 : JobRun := ⟨⟨0, 1⟩, noWork⟩
/-- The block with this job. -/
def withJob (j : Job) : State := { up with jobs := [j] }
/-- A JOB message of an opcode and payload. -/
def opJob (op : Nat) (b : Bytes) : Job := { job with opcode := op, segs := [(0, b)], length := b.length }
/-- A lattice engine that runs the job. -/
def leOn : Le := { leInit with job := some ref1, scratch := 5120, outMax := 32 }
/-- The block with that engine. -/
def withLe (l : Le) : State := { withJob job with les := [(0, l)] }
/-- A microword on engine 0 from V4 and V8 to V0. -/
def mw : Mw := { le := 0, secret := false, safePoint := false, dest := 0, src1 := 4, src2 := 8, wait := 0, addr := 0, g := 0, sp := 0, q := 0, pat := 0, mask := 0 }
/-- A channel of tenant 0. -/
def chan1 : Channel :=
  { tenant := 0, gen := 1, role := 1, cred := 0, enrol := false, ordered := false, state := .opened, rxKey := [], txKey := [], keepalive := 1000,
    lastAuth := 0, high := 1, seen := [1], floor := 0, released := 0, grant := 100, spent := 0, notice := 0, mask := 0, closeSeq := none,
    pk := [], enrolSeq := none, peer := ⟨0, 0, 0⟩, port := 0 }
/-- A key with nothing set. -/
def key1 : KeyRec :=
  { handle := keyHandle 0 0 1 0, typ := 0x10, set := 1, order := 1, classes := 0x2F, ops := 0x3FF, notBefore := 0, notAfter := 0, useLimit := 0, digest := 0,
    pub := [], secret := [], limit := 0, next := 0, total := 0, batch := 0, skipped := 0, uses := 0, usesLimit := 0, ranges := [], session := 0, masks := [], traversal := 0 }
/-- The block with a volatile key in slot 0. -/
def withKey (s : State) (k : KeyRec) : State := { s with keys := { s.keys with vol := [(0, k)] } }
/-- A DRBG that serves. -/
def withDrbg (s : State) (d : Nat) : State := s.setDrbg d { drbgInit with state := 1 }
/-- A public A register. -/
def withA (l : Le) (i v : Nat) (sec : Bool) : Le := l.setA i v sec

/-! ### An ill-formed term for each check of well-formedness -/

theorem test_wf_port : (Instr.linkDown 4).wf = false ∧ (Instr.linkDown 3).wf = true := by decide
theorem test_wf_speed : (Instr.linkUp 0 11 [] []).wf = false ∧ (Instr.linkUp 0 25 [] []).wf = true := by decide
theorem test_wf_header : OpfelIn.wf ⟨0, ⟨0, 0, 0⟩, 0, 0, .udp 0 0, 40, [], []⟩ = false ∧ OpfelIn.wf ⟨4, ⟨0, 0, 0⟩, 0, 0, .udp 0 0, 0, [], []⟩ = false ∧
    OpfelIn.wf ⟨0, ⟨0, 0, 0⟩, 0, 0, .udp 0 0, 0, [], []⟩ = true := by decide
theorem test_wf_body_and_parts : OpfelIn.wf ⟨0, ⟨0, 0, 0⟩, 0, 0, .udp 0 0, 56, List.replicate 40 0, []⟩ = false ∧
    (Instr.reassemblyTimeout (.handshake ⟨0, 0, 0⟩ 64 0)).wf = false ∧ (Instr.reassemblyTimeout (.peer false (2 ^ 32) 0)).wf = false := by decide
theorem test_wf_reference : (Instr.ping ⟨65536, 0⟩).wf = false ∧ (Instr.digest ⟨⟨0, 2 ^ 64⟩, ⟨0, 0, 0, 0⟩⟩).wf = false ∧ (Instr.ping ⟨65535, 1⟩).wf = true := by
  decide
theorem test_wf_tenant_and_slot : (Instr.budgetExhausted 64 .le).wf = false ∧ (Instr.closeDrained 65536).wf = false ∧
    HsReq.wf ⟨64, 0, 0, 0, ⟨0, 0, 0⟩, 0, []⟩ = false := by decide
theorem test_wf_units : (Instr.jobDispatch ⟨0, 0⟩ [64]).wf = false ∧ (Instr.jobDispatch ⟨0, 0⟩ [63, 256, 512, 768, 1024]).wf = true ∧
    (Instr.safePointReached 1056).wf = false := by decide
theorem test_wf_microword : Mw.wf { mw with le := 64 } = false ∧ Mw.wf { mw with g := 3 } = false ∧ Mw.wf { mw with sp := 3 } = false ∧
    Mw.wf { mw with q := 4 } = false ∧ Mw.wf { mw with mask := 8 } = false ∧ Mw.wf mw = true := by decide
theorem test_wf_control_store : (Instr.csRepair 16 false 0).wf = false ∧ (Instr.csRepair 0 true 1024).wf = false ∧
    (Instr.csRepair 0 false 16384).wf = false := by decide
theorem test_wf_keys : (Instr.keyLoad (2 ^ 32)).wf = false ∧ (Instr.kumCommit 66 true).wf = false ∧ (Instr.drbgReseed 80).wf = false := by decide
theorem test_wf_sources_and_clusters : (Instr.tamperAlarm 16).wf = false ∧ (Instr.batterySample [16]).wf = false ∧ (Instr.clusterWake 16).wf = false ∧
    (Instr.fenceRequest ⟨0, 0⟩ 0 16).wf = false ∧ (Instr.waitWatchdog 64).wf = false := by decide
theorem test_wf_flash : (Instr.presenceChange 32 true).wf = false ∧ (Instr.flashCommand 0 256 none).wf = false ∧ (Instr.lineRelease 32).wf = false ∧
    (Instr.regionMeasured 0 8 ⟨true, [BitVec.ofNat 8 0]⟩).wf = false ∧ (Instr.updateWindowExpiry 8).wf = false ∧
    (Instr.remeasure ⟨0, 0⟩ (2 ^ 32)).wf = false ∧ Discovery.wf ⟨true, 2 ^ 24, 0, 0, 0, [], [], false, false⟩ = false := by decide
theorem test_wf_members : PeerHdr.wf ⟨8, 0, 0, 0⟩ = false ∧ PeerHdr.wf ⟨0, 8, 0, 0⟩ = false ∧
    Hello.wf ⟨256, 0, 0, 1, 0, 0, 0, 0, 0, [], [], [], []⟩ = false := by decide
theorem test_wf_faults : HwFault.wf ⟨.leParity, 64, none, none, 0⟩ = false ∧ HwFault.wf ⟨.hashParity, 768, none, none, 0⟩ = false ∧
    HwFault.wf ⟨.rsaCheck, 1024, none, none, 0⟩ = false ∧ HwFault.wf ⟨.portParity, 4, none, none, 0⟩ = false ∧
    (Instr.gateAbort 4128).wf = false ∧ LostWord.wf (.drbg 80) = false ∧ (Instr.bankCopyDone 34 []).wf = false ∧
    (Instr.memAccess false 11 0 0).wf = false := by decide

/-! ### One step each -/

/-- The state a step gives, where it gives one. -/
def after (s : State) (i : Instr) : State :=
  match step { s with pending := [i] } with
  | .next t => t
  | _ => s
/-- Engine 0 with two source registers. -/
def vec (a b : Nat) : State := withLe ((leOn.setV 4 ⟨a, 0⟩).setV 8 ⟨b, 0⟩)
/-- Lane `i` of width `g` of V0 of engine 0. -/
def v0 (s : State) (g i : Nat) : Nat := laneAt g ((s.le 0).vreg 0).val i

/-- R251: a sum wraps within its lane. -/
theorem test_add_wraps : v0 (after (vec (2 ^ 18 - 1) 1) (.add mw)) 18 0 = 0 ∧ v0 (after (vec (2 ^ 18 - 1) 1) (.add mw)) 18 1 = 0 := by decide +kernel
/-- R251: src2 is subtracted from src1. -/
theorem test_sub_order : v0 (after (vec 3 5) (.sub { mw with g := 1 })) 36 0 = 2 ^ 36 - 2 := by decide +kernel
/-- R251: 3,328 + 1 is 0 modulo 3,329. -/
theorem test_addm_wraps : v0 (after (vec 3328 1) (.addm mw)) 18 0 = 0 := by decide +kernel
/-- R251: 2^18 · 5 · 2^−18 is 5 modulo 3,329, up to one q. -/
theorem test_mulm_montgomery : v0 (after (vec (2 ^ 18 % 3329) 5) (.mulm mw)) 18 0 % 3329 = 5 := by decide +kernel
/-- R251: (x + 1)² is x² + 1 over GF(2). -/
theorem test_clmul : v0 (after (vec 3 3) (.clmul { mw with g := 1 })) 72 0 = 5 := by decide +kernel
/-- R255: ANDN is a AND NOT b. -/
theorem test_andn : v0 (after (vec 0xF 0x5) (.andn { mw with g := 2 })) 72 0 = 0xA := by decide +kernel
/-- R255: CMPLT compares without sign, and gives a lane of ones. -/
theorem test_cmplt : v0 (after (vec 1 (2 ^ 18 - 1)) (.cmplt mw)) 18 0 = 2 ^ 18 - 1 ∧ v0 (after (vec (2 ^ 18 - 1) 1) (.cmplt mw)) 18 0 = 0 := by decide +kernel
/-- R258: coefficient 1 in four bits is round(16/3,329 · 3,120) = 15 and 3,300 rounds to 16, which is 0. -/
theorem test_compress : v0 (after (vec (3120 + 3300 * 2 ^ 18) 0) (.compress { mw with sp := 2, pat := 4 })) 18 0 = 15 ∧
    v0 (after (vec (3120 + 3300 * 2 ^ 18) 0) (.compress { mw with sp := 2, pat := 4 })) 18 1 = 0 := by decide +kernel
/-- R258: 2^13 + 5 has r1 = 1 and r0 = 5. -/
theorem test_power2round : v0 (after (vec 8197 0) (.p2rHi { mw with g := 1, sp := 2 })) 36 0 = 1 ∧
    v0 (after (vec 8197 0) (.p2rLo { mw with g := 1, sp := 2 })) 36 0 = 5 := by decide +kernel
/-- R259: x bits 11 and y bits 01 give 2 − 1. -/
theorem test_cbd2 : v0 (after (vec 0x7 0) (.cbd2 { mw with sp := 2 })) 18 0 = 1 ∧ v0 (after (vec 0xC0 0) (.cbd2 { mw with sp := 2 })) 18 1 = 3327 := by
  decide +kernel
/-- R263: 0 − 1 is 2^36 − 1. -/
theorem test_asub_wraps : ((after (withLe (leOn.setA 8 1 false)) (.asub mw)).le 0).areg 0 = ⟨2 ^ 36 - 1, false⟩ := by decide +kernel
/-- R227: a LOOP on 1 counts down and falls through to the next address; on 2 it goes to its target. -/
theorem test_loop : (((after (withLe (leOn.setA 8 1 false)) (.loop { mw with addr := 7 })).le 0).areg 8).val = 0 ∧
    ((after (withLe (leOn.setA 8 1 false)) (.loop { mw with addr := 7 })).le 0).regs.upc = 1 ∧
    ((after (withLe (leOn.setA 8 2 false)) (.loop { mw with addr := 7 })).le 0).regs.upc = 7 := by decide +kernel
/-- R35 and the clock table of chapter 21: an idle step of 3.2 ns is four FAB cycles of 1.25 GHz; a command takes no time (logs 1 and 13). -/
theorem test_idle : (after up .idcode).clk.fab = up.clk.fab ∧ (match step up with | .next t => decide (t.clk.fab = up.clk.fab + 4) | _ => false) = true := by
  decide +kernel

/-! ### Witnesses: microwords -/

theorem witness_PlainLanesComplete : Issues (withLe leOn) mw none ∧ nine mw = true ∧ narrow mw = true ∧ namesQ mw true = true ∧
    descOk (descIn (withLe leOn) mw) mw.g = true ∧ nine { mw with g := 2, sp := 2 } = true ∧ narrow { mw with g := 1, sp := 2, q := 1 } = true := by
  unfold Issues; decide +kernel
theorem witness_WideProductsAndReductionComplete : Issues (withLe leOn) { mw with g := 1 } none ∧ narrow { mw with g := 1 } = true ∧
    oneGrain { mw with g := 1 } 1 = true ∧ (3329 * 0x30CFF + 1) % 2 ^ 18 = 0 ∧ 3329 * 2 ^ 18 - 1 < (presetQ 0).q * 2 ^ 18 := by
  unfold Issues; decide +kernel
theorem witness_BasemulCompletes : Issues (withLe leOn) { mw with sp := 2 } none ∧ whole { mw with sp := 2 } 0 = true ∧
    descOk (descIn (withLe leOn) { mw with sp := 2 }) 0 = true := by
  unfold Issues; decide +kernel
theorem witness_AllButterfliesComplete : Issues (withLe leOn) { mw with sp := 2, pat := 7 } none ∧ layer { mw with sp := 2, pat := 7 } 0 7 = true ∧
    descOk (descIn (withLe leOn) { mw with sp := 2 }) 0 = true ∧ layer { mw with g := 1, sp := 2, q := 1, pat := 6 } 1 6 = true ∧
    whole { mw with g := 1, sp := 2, q := 1 } 1 = true ∧ descOk (descIn (withLe leOn) { mw with q := 1 }) 1 = true ∧
    (descIn (withLe leOn) { mw with q := 1 }).rom = true := by
  unfold Issues; decide +kernel
theorem witness_LogicMasksAndSelectionComplete : Issues (withLe leOn) { mw with g := 2, sp := 2 } none ∧ oneGrain { mw with g := 2, sp := 2 } 2 = true ∧
    nine { mw with g := 2, sp := 2 } = true ∧ [2 ^ 18 - 1].length ≤ laneCount (grainOf 0) 4 ∧ 2 ^ 17 ≤ [2 ^ 18 - 1].getD 0 0 := by
  unfold Issues; decide +kernel
theorem witness_PermutationsAndPackingComplete : Issues (withLe leOn) { mw with sp := 2, pat := 12 } none ∧ (aIn (withLe leOn) mw mw.src2).sec = false ∧
    (aIn (withLe leOn) mw mw.src2).val + 32 * 12 ≤ 576 ∧
    (aIn (withLe (withA leOn 8 193 false)) mw mw.src2).val + 32 * 12 = 577 ∧ (aIn (withLe (withA leOn 8 0 true)) mw mw.src2).sec = true ∧
    narrow { mw with g := 1, sp := 2 } = true := by
  unfold Issues; decide +kernel
theorem witness_RoundingsComplete : Issues (withLe leOn) { mw with g := 1, sp := 2 } none ∧ whole { mw with g := 1, sp := 2 } 1 = true ∧ 8380416 < qDsa ∧
    laneIn (withLe leOn) { mw with g := 1, sp := 2 } 4 4 36 0 < qDsa := by
  unfold Issues; decide +kernel
theorem witness_SamplingAndCompactionComplete : Issues (withLe leOn) { mw with sp := 2 } none ∧ 0 < (((withLe leOn).le 0).desc 0).q ∧
    (((withLe leOn).le 0).desc 0).q < 2 ^ 18 ∧ secIn (withLe leOn) mw mw.src1 4 = false ∧ (((withLe leOn).le 0).mreg 0).sec = false ∧
    (aIn (withLe leOn) mw mw.src2).sec = false ∧ (aIn (withLe (withA leOn 8 0 true)) mw mw.src2).sec = true := by
  unfold Issues; decide +kernel
/-- With masks enough, and with too few. -/
def masked (n : Nat) : State := withLe { leOn with maskBuf := n }
theorem witness_MaskedAndDeclassifyingOperationsComplete :
    Issues (masked 1) { mw with sp := 1, wait := 3 } (some 3) ∧ Issues (masked 3) { mw with sp := 2, g := 1, q := 1, wait := 3 } (some 3) ∧
      descOk (descIn (masked 3) { mw with q := 1 }) 1 = true ∧ (descIn (masked 3) { mw with q := 1 }).q < 2 ^ 36 ∧ 3 ≤ ((masked 3).le 0).maskBuf := by
  unfold Issues; decide +kernel
theorem witness_MaskedAndDeclassifyingOperationsComplete_waits :
    (Issues (masked 2) { mw with sp := 2, g := 2, wait := 3 } (some 3) ∧ ((masked 2).le 0).maskBuf < 2 * 2 - 1) ∧
    Issues (masked 0) { mw with secret := true } none ∧ Issues (masked 0) mw none ∧
    Issues (withLe (withA leOn 8 1152 false)) { mw with secret := true } none ∧ (aIn (withLe (withA leOn 8 1152 false)) mw mw.src2).val % 2 ^ 11 = 1152 := by
  unfold Issues; decide +kernel
theorem witness_ARegisterOperationsComplete : Issues (withLe (withA leOn 4 (2 ^ 36 - 1) true)) mw none := by unfold Issues; decide +kernel
/-- Addresses in W1, in W0, and beyond the limit of W1. -/
theorem witness_LoadsCompleteOrStop : let s := fun v sec => withLe (withA leOn 8 v sec)
    Issues (s (2 ^ 33) false) mw none ∧ ((s (2 ^ 33 + 4464) false).le 0).windowCause [1, 2, 5] (2 ^ 33 + 4464) 16 = 0 ∧
      ((s 0 false).le 0).windowCause [0, 4] 0 8 = 0 ∧ (aIn (s 0 true) mw mw.src2).sec = true ∧
      ((s (2 ^ 33 + 4465) false).le 0).windowCause [1, 2, 5] (2 ^ 33 + 4465) 16 = 3 ∧
      (let l : Le := { leOn with input := List.replicate 65 0 }; (l.windowCause [0, 4] 0 16 = 0)) := by
  unfold Issues; decide +kernel
/-- A mapping of W4 that is being written. -/
def w4w : W4Map := ⟨5, 32, true, [], none⟩
theorem witness_StoresAndDescriptorLoadsComplete :
    (let s := withLe (withA { leOn with w4 := some w4w } 8 (2 ^ 33 + 4464) false)
     Issues s mw none ∧ (s.le 0).windowCause [1] (2 ^ 33 + 4464) 16 = 0 ∧ (s.le 0).scratchAt + (s.le 0).scratch ≤ 2 ^ 18 ∧ Map.wf s.cmem = true ∧
       Map.wf (s.le 0).output = true ∧ (s.le 0).w4 = some w4w ∧ secIn s mw mw.src1 1 = false ∧ (s.le 0).windowCause [4] (2 ^ 35 + 16) 16 = 0) ∧
    ({ leOn with outMax := 65 } : Le).windowCause [3] (3 * 2 ^ 33 + 112) 16 = 0 ∧
    (let s := { withLe (withA leOn 8 (2 ^ 34) false) with cmem := [(0, ⟨(3329 * 2 ^ 108 + 0x30CFF * 2 ^ 72 + 0x4EBE * 2 ^ 36 + 26 * 2 ^ 30) % 2 ^ 72, false⟩),
        (1, ⟨3329 * 2 ^ 36 + 0x30CFF, false⟩)] }
     Issues s mw none ∧ (s.le 0).windowCause [1, 2] (2 ^ 34) 2 = 0 ∧
       descValid ((s.readWindow 0 (2 ^ 34)).val + 2 ^ 72 * (s.readWindow 0 (2 ^ 34 + 1)).val) = true) ∧
    descValid 0 = false ∧ (withLe leOn).readWindow 0 (2 ^ 34) = ⟨0, false⟩ ∧
    ({ withLe leOn with cmem := [(0, ⟨0, true⟩)] }.readWindow 0 (2 ^ 34)).sec = true := by
  unfold Issues; decide +kernel
/-- A register whose sixteen words hold an address. -/
def addrs (a : Nat) : VReg := ⟨ofLanes 72 (List.replicate 16 a), 0⟩
theorem witness_GathersAndScattersCompleteOrStop :
    (let s := withLe ({ leOn with w4 := some w4w }.setV 4 (addrs (2 ^ 33 + 4479)))
     Issues s mw none ∧ (∀ k, k < 16 → (((s.le 0).vreg 4).word k).sec = false) ∧
       (∀ k, k < 16 → (s.le 0).elementCause [1] (((s.le 0).vreg 4).word k).val = 0) ∧ (s.le 0).scratchAt + (s.le 0).scratch ≤ 2 ^ 18 ∧
       (∀ k, k < 16 → (((s.le 0).vreg 8).word k).sec = false)) ∧
    (let s := withLe ({ leOn with w4 := some w4w }.setV 4 (addrs (2 ^ 35 + 31)))
     ∀ k, k < 16 → (s.le 0).elementCause [4] (((s.le 0).vreg 4).word k).val = 0) ∧
    (let s := withLe (leOn.setV 4 ((addrs (2 ^ 33)).setWord 15 ⟨2 ^ 33 + 4480, false⟩))
     Issues s mw none ∧ (∀ j, j < 15 → (s.le 0).elementCause [1, 2, 5] (((s.le 0).vreg 4).word j).val = 0) ∧
       (s.le 0).elementCause [1, 2, 5] (((s.le 0).vreg 4).word 15).val = 3) ∧
    (((withLe (leOn.setV 4 ⟨0, 0x8000⟩)).le 0).vreg 4).tags = 0x8000 ∧ ((((withLe (leOn.setV 4 ⟨0, 0x8000⟩)).le 0).vreg 4).word 15).sec = true := by
  unfold Issues; decide +kernel
/-- A stream that absorbs. -/
def hs1 : HStream := ⟨2, 256, [1], false, 0, false, 0, 0⟩
theorem witness_StreamOperationsCompleteOrStop :
    (let s := withLe (withA leOn 8 (7 + 16 * 9) false)
     Issues s { mw with wait := 1 } (some 1) ∧ (aIn s mw mw.src2).val = 7 + 16 * 9 ∧ Map.find (s.le 0).streams 7 = none ∧ (s.freeCore 0 9).isSome = true) ∧
    (let s := withLe (withA { leOn with streams := [(0, hs1)] } 8 (256 * 144) false)
     Issues s { mw with wait := 1 } (some 1) ∧ (aIn s mw mw.src2).val = 0 + 256 * 144 ∧ Map.find (s.le 0).streams 0 = some hs1) ∧
    288 < ({ hs1 with inBuf := 145 } : HStream).inBuf + 144 ∧ ({ hs1 with inBuf := 144 } : HStream).inBuf + 144 ≤ 288 ∧
    (∀ o ∈ [31, 32], let s := withLe (withA { leOn with streams := [(0, { hs1 with finalised := true, outBuf := o })] } 8 (256 * 32) false)
     Issues s { mw with wait := 1 } (some 1) ∧ (aIn s mw mw.src2).val = 256 * 32 ∧ (∀ m, streamLength 2 = some m → 0 + 32 ≤ m) ∧
       Map.find (s.le 0).streams 0 = some { hs1 with finalised := true, outBuf := o }) ∧ (31 : Nat) < 32 ∧
    (let s := withLe (withA { leOn with streams := [(0, hs1)] } 8 0 false)
     Issues s mw none ∧ (aIn s mw mw.src2).val = 0) ∧
    (let s := withLe (withA { leOn with streams := [(0, { hs1 with finalised := true })] } 8 (256 * 33) false)
     streamLength 2 = some 32 ∧ 32 < 0 + 33 ∧ (aIn s mw mw.src2).val = 256 * 33) ∧
    (aIn (withLe (withA leOn 8 0 true)) mw mw.src2).sec = true := by
  unfold Issues; decide +kernel

theorem witness_EngineServicesComplete :
    (Issues (masked 1) { mw with wait := 3 } (some 3) ∧ Issues (withDrbg (withLe leOn) 16) mw none ∧ (withDrbg (withLe leOn) 16).serving (tenantDrbg 0) = true) ∧
    (let s := { withLe leOn with jobs := [{ job with key := 1 }] }
     Issues s mw none ∧ s.findJob ref1 = some { job with key := 1 }) ∧
    (let s := withLe { leOn with regs := { leRegsInit with mailbox := [⟨1, false⟩] } }
     Issues s { mw with wait := 5 } (some 5) ∧ (s.le 0).regs.mailbox = ⟨1, false⟩ :: []) ∧
    (let s := withLe leOn
     Issues s mw none ∧ ((s.le 0).vreg 4).tags = 0 ∧ (s.le 0).unread = false ∧ (s.le 0).matrixAsked = none ∧ (s.le 0).w4 = none) := by
  unfold Issues; decide +kernel
theorem witness_EngineServicesComplete_matrix :
    (let s := withLe { leOn with w4 := some w4w }
     Issues s { mw with wait := 6 } (some 6) ∧ (s.le 0).w4 = some w4w ∧ w4w.writing = true) ∧
    (let s := { withLe { leOn with matrixAsked := some 7 } with mcache := [⟨7, 1, [], none⟩] }
     (s.le 0).job = some ref1 ∧ s.findJob ref1 = some job ∧ s.clk.gated = false ∧ (s.mcache.find? (fun c => c.digest == 7)).isSome = true) ∧
    (let s := withLe { leOn with matrixAsked := some 7 }
     s.mcache.find? (fun c => c.digest == 7) = none) ∧
    (let s := { withKey (withLe { leOn with keyState := 1, usesKey := true }) key1 with jobs := [{ job with key := key1.handle }] }
     (s.le 0).job = some ref1 ∧ (s.le 0).keyState = 1 ∧ s.keyFor { job with key := key1.handle } = some key1 ∧ bitAt key1.classes 0 = true ∧
       0 < sharesOf key1.typ key1.order * ceilDiv (secretOctets key1.typ key1.set) 9) := by
  unfold Issues; decide +kernel
theorem witness_EngineServicesComplete_masks :
    bitAt { key1 with classes := 2 }.classes 0 = false ∧
    (let s := withDrbg { up with les := [(63, { leInit with maskCount := 65536 })] } 15
     s.clk.gated = false ∧ 65536 ≤ (s.le 63).maskCount ∧ s.serving (63 / 4) = true) ∧
    ({ up with les := [(63, { leInit with maskCount := 65536 })] } : State).serving (63 / 4) = false ∧ (up.le 0).maskCount < 65536 ∧
    (up.le 0).maskStopped = false ∧ up.phase = .up ∧ Map.wf up.dict = true ∧ (up.cluster 15).badWords.contains (false, 16383) = false ∧
    (∀ p ∈ [(false, 16383), (true, 1023)], (({ up with clus := [(15, { up.cluster 15 with badWords := [p] })] } : State).cluster 15).badWords.contains p = true) := by
  decide +kernel
theorem witness_SequencingAndExitComplete :
    (let s := withLe (withA { leOn with regs := { leRegsInit with stack := [0x2FFF], upc := 0x3FFF } } 8 2 false)
     (s.le 0).job ≠ none ∧ s.clk.gated = false ∧ (s.le 0).waiting = none ∧ waitHolds (s.le 0) true 0 = true ∧ ((s.le 0).areg 8).sec = false ∧ 2 ≤ ((s.le 0).areg 8).val ∧ (s.le 0).regs.stack.length < 8 ∧
       s.kernelOn (s.le 0) = none) ∧
    (let s := withLe { leOn with regs := { leRegsInit with stack := List.replicate 8 0 } }
     8 ≤ (s.le 0).regs.stack.length) ∧
    (let s := withLe (withA leOn 8 32 false)
     (s.le 0).job = some ref1 ∧ s.findJob ref1 = some job ∧ job.state = .running ∧ job.kind = 1 ∧ (s.engine 0).latched.contains 1 = false ∧ (s.engine 0).latched.contains 2 = false ∧
       ((s.le 0).areg 8).val ≤ (s.le 0).outMax ∧ Calm s) ∧
    (let s := { withLe (withA leOn 8 33 false) with units := [(0, { engineInit with job := some ref1, latched := [1, 3] })] }
     (s.engine 0).latched.contains 1 = true ∧ (s.engine 0).latched ≠ [] ∧ (s.le 0).outMax < ((s.le 0).areg 8).val) ∧
    ((withLe leOn).le 0).regs.mailbox = [] ∧ ((withLe leOn).le 0).maskBuf = 0 ∧ ((withLe leOn).le 0).keyState ≠ 2 ∧ 7 ≤ (15 : BitVec 4).toNat := by
  unfold Calm; decide +kernel
theorem witness_EngineStopsAreCounted :
    (let s := withLe { leOn with waiting := some 5, waited := 65536 }
     (s.le 0).job = some ref1 ∧ s.findJob ref1 = some job ∧ job.state = .running ∧ s.clk.gated = false ∧ Calm s ∧ (s.le 0).waiting = some 5 ∧
       65536 ≤ (s.le 0).waited) ∧
    (let s := withLe { leOn with waiting := some 7, waited := 2500 }
     (s.le 0).waiting = some 7 ∧ 2500 ≤ (s.le 0).waited) ∧
    (let s := withLe (withA leOn 8 0 true)
     Issues s mw none ∧ (aIn s mw mw.src2).sec = true ∧ Map.wf s.dict = true) ∧
    ((withLe leOn).le 0).windowCause [1, 2, 5] 0 16 ≠ 0 := by
  unfold Calm Issues; decide +kernel

/-! ### Witnesses: jobs -/

/-- A job of an opcode with a key, whose tenant's DRBG serves, beside that key. -/
def jobOf (op : Nat) (b : Bytes) : Job := { opJob op b with key := key1.handle }
def jobState (op : Nat) (b : Bytes) (k : KeyRec) : State := withKey (withDrbg (withJob (jobOf op b)) 16) k
/-- The same without a key. -/
def bareState (op : Nat) (b : Bytes) : State := withDrbg (withJob (opJob op b)) 16
def zs (n : Nat) : Bytes := List.replicate n 0

theorem witness_AllKeyGenerationCompletes :
    (∀ p ∈ [(0x0130, 4, 1, 0), (0x0133, 68, 1, 3), (0x0230, 4, 2, 0), (0x03C0, 4, 3, 0), (0x0530, 4, 5, 0), (0x0840, 4, 8, 0)],
      let b := zs p.2.1
      let f := p.2.2.1
      JobRuns (bareState p.1 b) ref1 (opJob p.1 b) ∧ famOp f p.2.2.2 p.1 = true ∧ keygenOptions f b = true ∧ keygenOptions f [2, 0, 0, 0] = false ∧
        DrbgReady (bareState p.1 b) 0 1 ∧
        KeyRoom (bareState p.1 b) (opJob p.1 b) (materialWords (privType f) (opSet p.1) (keygenOrder f b) (pubLen f (opSet p.1)))) := by
  unfold JobRuns Calm DrbgReady KeyRoom; decide +kernel
theorem witness_AllKeyGenerationCompletes_large :
    (let s := withRows (bareState 0x0650 (zs 4)) [(0x1640, 1, 2000)]
     JobRuns s ref1 (opJob 0x0650 (zs 4)) ∧ famOp 6 0 0x0650 = true ∧ keygenOptions 6 (zs 4) = true ∧
      DrbgReady s 0 32 ∧ s.poolRoom 0 (ceilDiv (pubLen 6 5) 1152) = true ∧ KeyRoom s (opJob 0x0650 (zs 4)) (materialWords 0x1A 5 0 (pubLen 6 5))) ∧
    (JobRuns (bareState 0x0930 (zs 4)) ref1 (opJob 0x0930 (zs 4)) ∧ famOp 9 0 0x0930 = true ∧ keygenOptions 9 (zs 4) = true ∧
      DrbgReady (bareState 0x0930 (zs 4)) 0 (40 * rsaK 3) ∧ KeyRoom (bareState 0x0930 (zs 4)) (opJob 0x0930 (zs 4)) (materialWords 0x22 3 0 (pubLen 9 3))) := by
  unfold JobRuns Calm DrbgReady KeyRoom; decide +kernel
/-- An LMS key of height 5. -/
def lmsBody : Bytes := [0, 0, 0, 5, 0, 0, 0, 4, 1, 0, 4, 0]
theorem witness_AllKeyGenerationCompletes_stateful : let s := bareState 0x0710 lmsBody
    JobRuns s ref1 (opJob 0x0710 lmsBody) ∧ famOp 7 0 0x0710 = true ∧ statefulTotal 1 (fieldAt lmsBody 0 4) (fieldAt lmsBody 4 4) (fieldAt lmsBody 8 1) = some 32 ∧
      fieldAt lmsBody 9 1 = 0 ∧ fieldAt lmsBody 10 2 = 1024 ∧ DrbgReady s 0 1 ∧ Map.wf s.keys.vol = true ∧ firstFree s.keys.vol 0 < 65536 ∧
      s.volatileInUse 0 < s.rd 0x2C40 1 := by
  unfold JobRuns Calm DrbgReady; decide +kernel
theorem witness_EncapsulationCompletes : ∀ p ∈ [(0x0111, 0x0112, 1, 0x10), (0x0531, 0x0532, 5, 0x18), (0x0651, 0x0652, 6, 0x1A)],
    JobRuns (bareState p.1 []) ref1 (opJob p.1 []) ∧ famOp p.2.2.1 1 p.1 = true ∧ DrbgReady (bareState p.1 []) 0 1 ∧
      JobRuns (jobState p.2.1 [] { key1 with typ := p.2.2.2 }) ref1 (jobOf p.2.1 []) ∧ famOp p.2.2.1 2 p.2.1 = true ∧
      (jobState p.2.1 [] { key1 with typ := p.2.2.2 }).keyFor (jobOf p.2.1 []) = some { key1 with typ := p.2.2.2 } := by
  unfold JobRuns Calm DrbgReady; decide +kernel
theorem witness_SigningCompletes :
    (∀ p ∈ [(0x0231, 2, 1, zs 4), (0x0233, 2, 3, zs 68), (0x0235, 2, 5, [1, 0, 8, 0] ++ zs 64), (0x03C1, 3, 1, zs 4), (0x0315, 3, 5, [0, 0, 1, 0] ++ zs 32),
        (0x0831, 8, 1, zs 4), (0x0815, 8, 5, [0, 0, 3, 0] ++ zs 64)],
      JobRuns (jobState p.1 p.2.2.2 key1) ref1 (jobOf p.1 p.2.2.2) ∧ (jobState p.1 p.2.2.2 key1).keyFor (jobOf p.1 p.2.2.2) = some key1 ∧
        famOp p.2.1 p.2.2.1 p.1 = true ∧ (preambleOk p.2.1 p.2.2.1 p.2.2.2 && formLen p.2.1 p.2.2.1 p.2.2.2 (4 + fieldAt p.2.2.2 1 1)) = true ∧
        DrbgReady (jobState p.1 p.2.2.2 key1) 0 1) ∧
    (preambleOk 2 1 [2, 0, 0, 0] && formLen 2 1 [2, 0, 0, 0] 4) = false ∧
    (∀ p ∈ [(0x0931, 1, [1, 6, 0, 0]), (0x0935, 5, [2, 1, 0, 0] ++ zs 32)],
      JobRuns (jobState p.1 p.2.2 key1) ref1 (jobOf p.1 p.2.2) ∧ famOp 9 p.2.1 p.1 = true ∧ (rsaPreamble p.2.1 p.2.2 && formLen 9 p.2.1 p.2.2 4) = true) ∧
    (rsaPreamble 1 [3, 1, 0, 0] && formLen 9 1 [3, 1, 0, 0] 4) = false ∧
    (let j := { jobOf 0x0711 [] with index := some 0 }
     let s := { jobState 0x0711 [] key1 with jobs := [j] }
     JobRuns s ref1 j ∧ s.keyFor j = some key1 ∧ famOp 7 1 0x0711 = true ∧ DrbgReady s 0 1) := by
  unfold JobRuns Calm DrbgReady; decide +kernel
theorem witness_VerificationCompletes : ∀ p ∈ [(0x0232, 2, 2), (0x0234, 2, 4), (0x0236, 2, 6), (0x0312, 3, 2), (0x0316, 3, 6), (0x0812, 8, 2), (0x0816, 8, 6),
      (0x0912, 9, 2), (0x0916, 9, 6), (0x0422, 4, 2), (0x0712, 7, 2), (0x0DC2, 13, 2), (0x2080, 32, 0)],
    JobRuns (bareState p.1 (zs 8)) ref1 (opJob p.1 (zs 8)) ∧ famOp p.2.1 p.2.2 p.1 = true := by
  unfold JobRuns Calm; decide +kernel
theorem witness_EncryptionAndAgreementComplete :
    (∀ p ∈ [(0x0813, zs 69), (0x0813, [1, 0, 0, 0] ++ zs 65), (0x0913, [3, 1, 0, 0] ++ zs 256), (0x0914, [3, 1, 0, 0] ++ zs 260 ++ zs 190),
        (0x0C11, zs 20), (0x0C11, 1 :: zs 19), (0x0C21, zs 20), (0x0C12, zs 36), (0x0C32, zs 20)],
      JobRuns (jobState p.1 p.2 key1) ref1 (jobOf p.1 p.2) ∧ (jobState p.1 p.2 key1).keyFor (jobOf p.1 p.2) = some key1 ∧ DrbgReady (jobState p.1 p.2 key1) 0 1 ∧
        KeyRoom (jobState p.1 p.2 key1) (jobOf p.1 p.2) (materialWords 0x03 1 0 0)) ∧
    famOp 8 3 0x0813 = true ∧ bitAt key1.ops 9 = true ∧ bitAt { key1 with ops := 0x1FF }.ops 9 = false ∧ fieldAt ([1, 0, 0, 0] ++ zs 65) 0 1 = 1 ∧
    famOp 9 3 0x0913 = true ∧ rsaPreamble 3 ([3, 1, 0, 0] ++ zs 256) = true ∧ ([3, 1, 0, 0] ++ zs 256).length = 4 + 0 + rsaK 1 ∧
    famOp 9 4 0x0914 = true ∧ rsaPreamble 4 ([3, 1, 0, 0] ++ zs 260 ++ zs 190) = true ∧
    (let b := [3, 1, 0, 0] ++ zs 260 ++ zs 190
     4 + 260 + 0 ≤ b.length ∧ b.length + 2 * hashLen 1 + 2 ≤ 4 + 260 + 0 + rsaK 1) ∧
    famOp 12 1 0x0C11 = true ∧ gcmOk true (zs 20) = true ∧ gcmOk true (1 :: zs 19) = true ∧ zeros ((zs 20).take 4) = true ∧ famOp 12 2 0x0C12 = true ∧
    gcmOk false (zs 36) = true := by
  unfold JobRuns Calm DrbgReady KeyRoom; decide +kernel
theorem witness_HashKdfAndRandomComplete :
    (∀ p ∈ [(0x0D10, zs 8), (0x0E10, zs 12), (0x0E10, [1, 1] ++ zs 10), (0x0E11, zs 12), (0x0E12, zs 12), (0x0F10, [0, 1, 0, 0, 1, 0, 0, 0]),
        (0x0F10, [0, 16, 0, 0, 0, 0, 0, 0])],
      JobRuns (bareState p.1 p.2) ref1 (opJob p.1 p.2) ∧ (bareState p.1 p.2).keyFor (opJob p.1 p.2) = none ∧ DrbgReady (bareState p.1 p.2) 0 16 ∧
        KeyRoom (bareState p.1 p.2) (opJob p.1 p.2) (materialWords 1 1 0 0)) ∧
    (∀ p ∈ [(0x0DB1, [0, 0, 0, 1] ++ zs 4), (0x0E11, zs 12)], JobRuns (jobState p.1 p.2 key1) ref1 (jobOf p.1 p.2) ∧
      (jobState p.1 p.2 key1).keyFor (jobOf p.1 p.2) = some key1 ∧ (jobOf p.1 p.2).key ≠ 0) ∧
    famOp 13 0 0x0D10 = true ∧ hashParamsOk 1 0 (zs 8) = true ∧ hashHead (zs 8) ≤ (zs 8).length ∧ famOp 13 1 0x0DB1 = true ∧
    hashParamsOk 11 1 ([0, 0, 0, 1] ++ zs 4) = true ∧ famOp 14 0 0x0E10 = true ∧ kdfTypeOk 1 (kdfHash 1) = true ∧ kdfHash 1 ≤ kdfMax 1 ∧
    (zs 12).drop 12 = [] ∧ bitAt key1.ops 9 = true ∧ famOp 15 0 0x0F10 = true ∧ fieldAt [0, 1, 0, 0, 1, 0, 0, 0] 0 4 = 65536 ∧
    fieldAt [0, 16, 0, 0, 0, 0, 0, 0] 0 4 = 1048576 := by
  unfold JobRuns Calm DrbgReady KeyRoom; decide +kernel
/-- The attribute block of an AES key, and of an ML-KEM public key after its head. -/
def aesAttr : Bytes := [1, 1, 0, 0, 0x2F, 0, 3, 0xFF, 0, 3] ++ zs 30
def kemAttr : Bytes := [1, 1, 0, 0] ++ ([0x11, 1, 0, 0, 0x2F, 0, 3, 0xFF, 0, 0] ++ zs 30) ++ zs 800
theorem witness_KeyManagementCompletes :
    (JobRuns (bareState 0x1010 aesAttr) ref1 (opJob 0x1010 aesAttr) ∧ attrOk 0 aesAttr = true ∧ fieldAt aesAttr 0 1 ≤ 3 ∧ DrbgReady (bareState 0x1010 aesAttr) 0 1 ∧
      KeyRoom (bareState 0x1010 aesAttr) (opJob 0x1010 aesAttr) (materialWords 1 1 0 0)) ∧
    (JobRuns (bareState 0x1011 kemAttr) ref1 (opJob 0x1011 kemAttr) ∧ pubType 1 ≠ 0 ∧ setExists 1 1 = true ∧ fieldAt kemAttr 2 2 = 0 ∧
      attrOk 0 (slice kemAttr 4 40) = true ∧ fieldAt (slice kemAttr 4 40) 0 1 = pubType 1 ∧ (kemAttr.drop 44).length = pubLen 1 1 ∧
      KeyRoom (bareState 0x1011 kemAttr) (opJob 0x1011 kemAttr) (materialWords 0x11 1 0 800)) := by
  unfold JobRuns Calm DrbgReady KeyRoom; decide +kernel
theorem witness_KeyManagementCompletes_use :
    (∀ op ∈ [0x1012, 0x1013], JobRuns (jobState op [] key1) ref1 (jobOf op []) ∧ (jobState op [] key1).key key1.handle = some key1 ∧
      (jobState op [] key1).keyFor (jobOf op []) = some key1 ∧ Map.wf (jobState op [] key1).keys.vol = true ∧
      (jobState op [] key1).jobs.any (fun x => x.live && x.key == key1.handle && decide (x.order < 0)) = false) ∧
    (let j := { jobOf 0x1013 [] with order := 1 }
     let s := { jobState 0x1013 [] key1 with jobs := [{ jobOf 0x1012 [] with seq := 2 }, j] }
     JobRuns s ref1 j ∧ s.jobs.any (fun x => x.live && x.key == j.key && decide (x.order < 1)) = true) := by
  unfold JobRuns Calm; decide +kernel
theorem witness_TlsStampAndQuoteComplete :
    (∀ p ∈ [(0x1110, [1, 0, 0, 0] ++ zs 1216), (0x1111, [2, 0, 0, 0])], JobRuns (bareState p.1 p.2) ref1 (opJob p.1 p.2) ∧
      DrbgReady (bareState p.1 p.2) 0 1 ∧ KeyRoom (bareState p.1 p.2) (opJob p.1 p.2) (materialWords 4 1 0 0)) ∧
    tlsOk 0 ([1, 0, 0, 0] ++ zs 1216) 1216 0 = true ∧ tlsOk 1 [2, 0, 0, 0] 0 0 = true := by
  unfold JobRuns Calm DrbgReady KeyRoom; decide +kernel
theorem witness_TlsStampAndQuoteComplete_session :
    (∀ p ∈ [(0x1112, 1, [1, 0, 0, 0] ++ zs 1152), (0x1113, 2, [2, 0, 0, 0] ++ zs 48), (0x1114, 3, [1, 0, 0, 0] ++ zs 32), (0x1114, 3, [1, 1, 0, 0] ++ zs 32),
        (0x1115, 4, [2, 0, 0, 0] ++ zs 48)],
      let k := { key1 with typ := 4, session := p.2.1 }
      JobRuns (jobState p.1 p.2.2 k) ref1 (jobOf p.1 p.2.2) ∧ (jobState p.1 p.2.2 k).key key1.handle = some k ∧ keyScope k.handle = 0 ∧
        Map.wf (jobState p.1 p.2.2 k).keys.vol = true) ∧
    tlsOk 2 ([1, 0, 0, 0] ++ zs 1152) 1120 1 = true ∧ tlsOk 3 ([2, 0, 0, 0] ++ zs 48) 0 1 = true ∧ tlsOk 4 ([1, 1, 0, 0] ++ zs 32) 0 1 = true ∧
    tlsOk 5 ([2, 0, 0, 0] ++ zs 48) 0 1 = true := by
  unfold JobRuns Calm; decide +kernel
theorem witness_TlsStampAndQuoteComplete_stamp :
    (let b := [6, 0, 0, 0] ++ zs 64
     let j := { jobOf 0x1120 b with stamp := some (0, 0, 1) }
     let s := { jobState 0x1120 b { key1 with typ := 0x12 } with jobs := [j] }
     JobRuns s ref1 j ∧ s.keyFor j = some { key1 with typ := 0x12 } ∧ b.length = 4 + hashLen 6 ∧ DrbgReady s 0 1) ∧
    (let b := [3, 0, 0, 0] ++ zs 32
     let j := { opJob 0x1130 b with stamp := some (0, 0, 1) }
     JobRuns { bareState 0x1130 b with jobs := [j] } ref1 j ∧ b.length = 36) := by
  unfold JobRuns Calm DrbgReady; decide +kernel
theorem witness_AllKeyGenerationCompletes_room : let s := bareState 0x0710 lmsBody
    KeyRoom s (opJob 0x0710 lmsBody) (materialWords 0x1C 1 0 (statefulPubLen 1 5)) := by
  unfold KeyRoom; decide +kernel

/-! ### Witnesses: ports, datum, messages and channels -/

/-- Port 0 with its link up and an address, and the same with an LE and a pair of hash cores of one cluster in the reserve. -/
def linked : State := withRows up [(0x1400, 0x10, 1), (0x1400, 7, 5)]
def inReserve : Engine := { engineInit with holder := .reserve }
def reserveOn (s : State) : State := { s with units := [(0, inReserve), (256, inReserve), (257, inReserve)] }
theorem witness_LinkEventsComplete :
    (linked.phase = .up ∧ Map.wf linked.dict = true ∧ linked.linkUp 0 = true ∧ up.linkUp 3 = false ∧ up.mayLink 3 25 = true ∧ up.mayLink 0 10 = true ∧
      ({ up with ports := [(3, { portInit with retrain := true })] }.port 3).retrain = true ∧ (up.port 3).retrain = false) ∧
    (let s := { linked with tenants := [(0, { tenantInit with moved := some 1 })], clk := { up.clk with fab := 1000 * 1250000 } }
     s.linkUp 0 = true ∧ s.failedOver 0 = true ∧ s.rd 0x1410 4 ≠ 0 ∧ (s.port 0).upSince + s.rd 0x1410 4 * 1250000 ≤ s.clk.fab ∧ s.rd 0x1400 7 ≠ 0 ∧
       s.rd 0x1440 1 = 0) ∧
    up.clk.sd = true ∧ ({ up with clk := { up.clk with sd := false } } : State).clk.gated = false := by
  decide +kernel
/-- A plain IPv4 UDP frame for the Opfel port. -/
def eth1 : EthFrame := ⟨64, true, none, 0, 0x0800, 5, false, false, 17, 47218, true, false⟩
theorem witness_PortFramesComplete :
    (linked.phase = .up ∧ linked.linkUp 0 = true ∧ Map.wf linked.dict = true ∧ linked.badFrame 0 eth1 = false ∧ linked.protocolOk 0 eth1 = true) ∧
    (let f := { eth1 with dst := 2 ^ 40, dstIp := 6 }
     linked.badFrame 0 f = false ∧ linked.protocolOk 0 f = false ∧ bitAt f.dst 40 = true) ∧
    linked.rd 0x1400 4 < { eth1 with len := 1519 }.len ∧ (withRows linked [(0x1400, 5, 1)]).rd 0x1400 5 % 4096 ≠ 0 ∧
    linked.rd 0x1400 7 = (5 : BitVec 32).toNat ∧
    (withRows linked [(0x1400, 9, 2 ^ 128 - 1)]).rd 0x1400 9 = (BitVec.ofNat 128 (2 ^ 128 - 1)).toNat ∧ (linked.port 0).badAddrs.contains 5 = false ∧
    (linked.rd 0x1410 3 = 1 ∧ (zs 1472).length ≤ 1472 ∧ (linked.port 0).echoCount < 1000 ∧
      1000 ≤ ({ linked with ports := [(0, { portInit with echoCount := 1000 })] }.port 0).echoCount) ∧
    (linked.rd 0x1410 2 ≠ 0 ∧ linked.failedOver 0 = false ∧ (linked.port 0).announce = none ∧ (linked.port 0).announceDue ≤ linked.clk.fab) ∧
    (let s := { linked with ports := [(0, { portInit with announce := some [] })], rwork := [.announce 0] }
     (s.port 0).announce = some [] ∧ s.reserveRuns (.announce 0) = false ∧ (reserveOn s).reserveRuns (.announce 0) = true) ∧
    (linked.clk.sd = true ∧ linked.ptp.cur = some 0 ∧ (withRows linked [(0x1101, 4, 1)]).rd 0x1101 4 = 1) := by
  decide +kernel
/-- A master, and the block following it with a quality and counts. -/
def ptp1 : PtpMaster := ⟨7, 3⟩
def ptpAt (good bad : Nat) : PtpPort := ⟨some ptp1, good, good, bad, false, 0, 0, 1, some (900, 1000), some 1100⟩
def following (q good bad : Nat) : State :=
  { withRows linked [(0x1100, 2, q)] with ptp := ⟨some 0, [(0, ptpAt good bad)], 0⟩, clk := { up.clk with datum := 10 ^ 9 } }
theorem witness_DatumEventsComplete :
    (∀ q ∈ [0, 1, 2], let s := following q 15 3
      s.phase = .up ∧ s.clk.sd = true ∧ s.linkUp 0 = true ∧ s.ptp.cur = some 0 ∧ s.ptpFits ⟨s.rd 0x1101 3, s.rd 0x1101 5⟩ = true ∧ Map.wf s.dict = true ∧
        (s.ptpPort 0).master = some ptp1 ∧ (s.ptpPort 0).asked = some 1100 ∧ (s.ptpPort 0).sync = some (900, 1000) ∧ s.quality = q ∧ s.backupLocked = none) ∧
    (linked.ptpPort 0).master = none ∧ ptp1.ident ≠ 8 ∧ ptp1.rank ≤ (⟨8, 3⟩ : PtpMaster).rank ∧
    (following 0 15 3).rd 0x1101 8 < ((following 0 15 3).stampNow 9 - 0 - 0 : Int).natAbs ∧ (following 0 15 3).stampNow 9 = 10 ^ 9 + 8 ∧
    (following 0 15 3).stampNow 0 - (10 ^ 9 - 100) - 0 = 100 ∧ (100 : Int).natAbs ≤ (following 1 15 3).rd 0x1101 6 ∧
    (100 : Int).natAbs ≤ (following 0 15 3).rd 0x1101 8 ∧ (following 2 0 3).rd 0x1101 7 < (1001 : Int).natAbs ∧
    (following 0 0 0).rd 0x1101 4 ≠ 1 ∧ (withRows (following 0 0 0) [(0x1101, 4, 1)]).rd 0x1101 4 = 1 ∧
    (let s := { following 2 0 0 with clk := { up.clk with fab := 3 } }
     s.noMaster 0 = true ∧ s.backupLocked = none) ∧ (following 2 0 0).noMaster 0 = false ∧
    (let s := withRows { linked with ptp := ⟨some 0, [(0, ptpAt 0 0), (1, ptpAt 16 0)], 0⟩, clk := { up.clk with fab := 3 } } [(0x1101, 2, 1), (0x1401, 0x10, 2)]
     s.ptp.cur = some 0 ∧ s.noMaster 0 = true ∧ s.backupLocked = some 1) ∧
    (let s := { following 1 0 0 with clk := { up.clk with rtc := 3600 * 10 ^ 9 + 1 } }
     s.quality = 1 ∧ s.ptp.holdoverAt + s.rd 0x1101 9 * 1000000000 < s.clk.rtc) := by
  decide +kernel
/-- A frame of a kind, flags, handle, sequence, opcode, declared length, segment place and body, well carried to port 0. -/
def frame (kind flags handle seq op len idx count : Nat) (b : Bytes) : OpfelIn :=
  ⟨0, ⟨0, 0, 0⟩, 5, 47218, .udp (64 + b.length) (64 + b.length), 56 + b.length, headerOctets kind flags 0 0 handle seq op 0 0 len idx count 0 0 0, b⟩
/-- The same, its payload sealed under the empty key. -/
def sealedFrame (kind flags handle seq op len idx count : Nat) (pl : Bytes) : OpfelIn :=
  { frame kind flags handle seq op len idx count pl with
    body := gcmSeal [] (nonceOctets handle 0 idx seq) (headerOctets kind flags 0 0 handle seq op 0 0 len idx count 0 0 0) pl }
theorem opened_sealedFrame {kind flags handle seq op len idx count : Nat} {pl : Bytes}
    (h : let f := sealedFrame kind flags handle seq op len idx count pl
      f.handle = handle ∧ f.segIndex = idx ∧ f.seq = seq ∧ f.carried.getD 40 - 40 = pl.length + 16) :
    (sealedFrame kind flags handle seq op len idx count pl).opened [] 0 = some pl := by
  obtain ⟨h1, h2, h3, h4⟩ := h
  have hb : (sealedFrame kind flags handle seq op len idx count pl).inside = (sealedFrame kind flags handle seq op len idx count pl).body := by
    unfold OpfelIn.inside
    rw [h4]
    apply List.take_of_length_le
    simp [sealedFrame, gcmSeal, gcmStream, gcmTag]
  unfold OpfelIn.opened
  rw [h1, h2, h3, hb]
  exact gcmOpen_gcmSeal _ _ _ _
/-- The block with channel 0 of tenant 0 open on port 0, with credits. -/
def chanState : State := { linked with chans := [(0, chan1)] }
def h1 : Nat := handleOf 0 chan1
def heardState : State := { chanState with chans := Map.put chanState.chans 0 (chan1.heard 0 ⟨0, 0, 0⟩ 0) }
theorem witness_MessagesComplete_frames :
    (chanState.runs = true ∧ chanState.linkUp 0 = true ∧ chanState.taken (frame 1 0 0 0 0 0 0 1 []) = true ∧
      ({ frame 1 0 0 0 0 0 0 1 [] with held := 39 } : OpfelIn).badFormat = true ∧ ({ frame 1 0 0 0 0 0 0 1 [] with carrier := .udp 64 65 } : OpfelIn).badCarrier = true) ∧
    (∀ p ∈ [(6, 0x60, 2, 0, 0, 0, 1, []), (6, 0x70, 2, 0, 0, 0, 1, []), (5, 0x60, 2, 1, 0, 0, 1, []), (5, 0x60, 0, 1, 0, 0, 1, []),
        (1, 0x20, 1025, 0x0D10, 16, 0, 2, zs 16), (5, 0x60, 2, 1, 0, 0, 1, [0]), (1, 0x60, 2, 0x0D10, 8, 0, 1, []), (1, 0x60, 2, 0x7777, 0, 0, 1, [])],
      let f := sealedFrame p.1 p.2.1 h1 p.2.2.1 p.2.2.2.1 p.2.2.2.2.1 p.2.2.2.2.2.1 p.2.2.2.2.2.2.1 p.2.2.2.2.2.2.2
      chanState.taken f = true ∧ f.badFormat = false ∧ f.badCarrier = false ∧ Map.find chanState.chans (f.handle % 2 ^ 16) = some chan1 ∧
        chan1.gen = f.handle / 2 ^ 16 % 1024 ∧ bitAt f.flags 3 = false ∧
        (f.handle = h1 ∧ f.segIndex = p.2.2.2.2.2.1 ∧ f.seq = p.2.2.1 ∧ f.carried.getD 40 - 40 = p.2.2.2.2.2.2.2.length + 16) ∧
        (f.kind ≠ 6 → chanState.findJob ⟨0, f.seq⟩ = none ∧ chan1.seen.contains f.seq = false)) ∧
    (frame 5 0x60 h1 2 1 0 0 1 []).opened [] 0 = none ∧
    Map.find chanState.chans ((frame 1 0x60 1 2 0 0 0 1 []).handle % 2 ^ 16) = none := by
  decide +kernel
theorem witness_MessagesComplete_opened : (sealedFrame 6 0x60 h1 2 0 0 0 1 []).opened chan1.rxKey 0 = some [] ∧
    (sealedFrame 6 0x70 h1 2 0 0 0 1 []).opened chan1.rxKey 0 = some [] ∧ (sealedFrame 5 0x60 h1 2 1 0 0 1 []).opened chan1.rxKey 0 = some [] ∧
    (sealedFrame 1 0x20 h1 1025 0x0D10 16 0 2 (zs 16)).opened chan1.rxKey 0 = some (zs 16) ∧
    (sealedFrame 5 0x60 h1 2 1 0 0 1 [0]).opened chan1.rxKey 0 = some [0] ∧ (sealedFrame 1 0x60 h1 2 0x0D10 8 0 1 []).opened chan1.rxKey 0 = some [] :=
  ⟨opened_sealedFrame (by decide +kernel), opened_sealedFrame (by decide +kernel), opened_sealedFrame (by decide +kernel),
    opened_sealedFrame (by decide +kernel), opened_sealedFrame (by decide +kernel), opened_sealedFrame (by decide +kernel)⟩
theorem witness_MessagesComplete_classified :
    (let f := sealedFrame 6 0x70 h1 2 0 0 0 1 []
     f.length = 0 ∧ f.segCount = 1 ∧ f.segmentOk = true ∧ f.tenant = f.handle / 2 ^ 26 ∧ f.tenant = chan1.tenant ∧
       (chan1.heard 0 f.peer 0).inRange f.seq = true ∧ heardState.shut (chan1.heard 0 f.peer 0) = false ∧ f.needsAck = true ∧
       (sealedFrame 6 0x60 h1 2 0 0 0 1 []).needsAck = false) ∧
    (∀ p ∈ [(frame 5 0x60 h1 2 1 0 0 1 [], []), (frame 1 0x20 h1 1025 0x0D10 16 0 2 (zs 16), zs 16), (frame 5 0x60 h1 2 1 0 0 1 [0], [0]),
        (frame 1 0x60 h1 2 0x0D10 8 0 1 [], [])], heardState.classify (chan1.heard 0 ⟨0, 0, 0⟩ 0) p.1 p.2 = none) ∧
    heardState.classify (chan1.heard 0 ⟨0, 0, 0⟩ 0) (frame 5 0x60 h1 0 1 0 0 1 []) [] = some (0x14, 0) ∧
    heardState.classify (chan1.heard 0 ⟨0, 0, 0⟩ 0) (frame 1 0x60 h1 2 0x7777 0 0 1 []) [] = some (0x20, 0) := by
  decide +kernel
theorem witness_MessagesComplete_jobs :
    (let j := { job with kind := 1, state := .reassembling }
     let s := { chanState with jobs := [j], clk := { up.clk with datum := 2000 * 1000000 } }
     s.findJob ref1 = some j ∧ s.rd 0x1600 2 * 1000000 ≤ s.clk.datum - j.firstAt) ∧
    (let j := { job with state := .done }
     let s := { chanState with jobs := [j] }
     s.findJob ref1 = some j ∧ Map.find s.chans 0 = some chan1 ∧ (s.egress 0).isSome = true ∧ s.orderReady 0 1 chan1 = true ∧ chan1.low < 1) ∧
    (let x : Partial := ⟨8, ⟨0, 0, 0⟩, 0, 0, 0, 0xFE010001, 9, 3, 32, 2, 0, 0, [], 0⟩
     let s := { chanState with parts := [x], clk := { up.clk with datum := 2000 * 1000000 } }
     s.findPart (.peer false 0xFE010001 9) = some x ∧ s.rd 0x1600 2 * 1000000 ≤ s.clk.datum - x.firstAt ∧ Map.wf s.dict = true) := by
  decide +kernel
/-- A handshake request, and one whose checks have passed. -/
def hsr : HsReq := ⟨63, 0, 0, 0, ⟨0, 0, 0⟩, 0, []⟩
def hs0 : Handshake := ⟨0, 5, 0, 0, ⟨0, 0, 0⟩, 1, 0, false, [], none⟩
theorem witness_HandshakesComplete :
    (let s := { linked with hsIn := [hsr] }
     s.runs = true ∧ s.linkUp hsr.port = true ∧ s.hsIn.contains hsr = true ∧ s.hsOverRate 63 = false ∧
      ({ s with tenants := [(63, { tenantInit with hsCount := 256 })] } : State).hsOverRate 63 = true) ∧
    (let s := withDrbg { withRows linked [(0x2800, 1, 1)] with hs := [hs0] } 16
     s.findHs 0 5 hs0.peer = some hs0 ∧ s.entropyState = 1 ∧ (s.ten 0).resetting = false ∧ s.rd 0x1800 1 = 1 ∧ s.serving (tenantDrbg 0) = true ∧
       s.openChannels 0 < s.rd 0x1800 3 ∧ s.freeSlot = some 0) ∧
    (let s := withDrbg { withRows linked [(0x2800, 1, 1), (0x1800, 3, 0)] with hs := [hs0] } 16
     s.serving (tenantDrbg 0) = true ∧ s.rd 0x1800 3 ≤ s.openChannels 0) ∧
    linked.entropyState ≠ 1 ∧ ({ withRows linked [(0x2800, 1, 1)] with hs := [hs0] } : State).serving (tenantDrbg 0) = false := by
  decide +kernel
/-- A CONTROL message on the channel. -/
def ctl (op : Nat) (b : Bytes) : Job := { opJob op b with kind := 5, state := .queued }
def ctlState (op : Nat) (b : Bytes) : State := { chanState with jobs := [ctl op b] }
theorem witness_ChannelsComplete :
    (let s := { linked with chans := [(0, { chan1 with state := .pending })], clk := { up.clk with datum := 2 * 10 ^ 9 } }
     s.runs = true ∧ (Map.find s.chans 0).isSome = true ∧ Map.wf s.chans = true ∧ 2000000000 ≤ s.clk.datum - 0) ∧
    (let s := { chanState with clk := { up.clk with datum := 10 ^ 9 } }
     Map.find s.chans 0 = some chan1 ∧ chan1.keepalive * 1000000 ≤ s.clk.datum - chan1.lastAuth) ∧
    (let c := { chan1 with state := .draining, closeSeq := some 1 }
     let s := { ctlState 2 [] with chans := [(0, c)] }
     Map.find s.chans 0 = some c ∧ s.findJob ⟨0, 1⟩ = some (ctl 2 []) ∧ (ctl 2 []).state = .queued ∧ (s.egress 0).isSome = true ∧
       ∀ y ∈ s.jobs, y.chan = 0 → y.seq ≠ 1 → y.order < 0 → y.state = .released) ∧
    (∀ p ∈ [(1, []), (2, []), (3, []), (4, zs 8), (5, zs 4), (8, zs 4), (6, [0]), (6, [64])],
      (ctlState p.1 p.2).runs = true ∧ (ctlState p.1 p.2).control ref1 p.1 = some (ctl p.1 p.2, chan1)) ∧
    fieldAt (ctl 6 [64]).payload 0 1 = 64 ∧ chan1.role = 1 ∧ ((ctlState 6 [0]).ten 0).resetting = false ∧
    (∀ x ∈ (ctlState 6 [0]).jobs, x.tenant = 0 → x.running = false) ∧ Map.wf (ctlState 6 [0]).keys.vol = true ∧
    (∃ x ∈ ({ ctlState 6 [0] with jobs := [ctl 6 [0], { job with seq := 2 }] } : State).jobs, x.tenant = 0 ∧ x.running = true) ∧
    ({ ctlState 6 [0] with tenants := [(0, { tenantInit with resetting := true })] }.ten 0).resetting = true := by
  decide +kernel

/-! ### Witnesses: the dictionary -/

/-- An item of a WRITE, with the type and size of its entry. -/
def item (idx sub v : Nat) : Bytes :=
  match rowOf idx sub with
  | some r => beBytes 2 idx ++ beBytes 1 sub ++ beBytes 1 r.typ ++ beBytes 2 r.size ++ beBytes r.size v
  | none => []
def write1 (idx sub v : Nat) : Bytes := [1, 0, 0, 0, 0, 0, 0, 0] ++ item idx sub v
/-- A DICT message on the owner's channel. -/
def dictMsg (op : Nat) (b : Bytes) : Job := { opJob op b with kind := 4, state := .queued }
def dictState (op : Nat) (b : Bytes) : State := { chanState with jobs := [dictMsg op b] }
/-- The items of a READ. -/
def readOf (idx sub : Nat) : Bytes := zs 8 ++ [1] ++ zs 7 ++ beBytes 2 idx ++ beBytes 1 sub ++ zs 3
def owner1 : Asker := ⟨1, 0, false, false⟩

theorem witness_DictionaryReadsComplete :
    (∀ b ∈ [readOf 0x1600 1, readOf 0x2810 1, readOf 0x7777 1, []], (dictState 1 b).dictJob ref1 1 = some (dictMsg 1 b, chan1)) := by
  decide +kernel
theorem witness_DictionaryReadsComplete_items : parseRead (dictMsg 1 []).payload = none ∧ parseRead (readOf 0x7777 1) = some (0, [(0x7777, 1, 0)]) ∧
    ((dictState 1 []).readRefused owner1 0 [(0x7777, 1, 0)]).isSome = true ∧ parseRead (readOf 0x1600 1) = some (0, [(0x1600, 1, 0)]) ∧
    (dictState 1 []).readRefused owner1 0 [(0x1600, 1, 0)] = none ∧ parseRead (readOf 0x2810 1) = some (0, [(0x2810, 1, 0)]) ∧
    (dictState 1 []).readRefused owner1 0 [(0x2810, 1, 0)] = none ∧ groupItem (0x2810, 1, 0) = false ∧ groupItem (0x1600, 1, 0) = false := by
  decide +kernel
theorem witness_DictionaryReadsComplete_describe :
    (∀ b ∈ [[0x16, 0, 1, 0], [0x77, 0x77, 1, 0], []], (dictState 4 b).dictJob ref1 4 = some (dictMsg 4 b, chan1)) ∧
    descriptor 0x7777 1 = none ∧ (descriptor 0x1600 1).isSome = true := by
  decide +kernel
/-- The condition of a transaction that is served, for one write of a channel of the owner. -/
def runsAs (s : State) (b : Bytes) (ws : List DWrite) : Bool :=
  decide (s.dictJob ref1 2 = some (dictMsg 2 b, chan1)) && s.myTurn (dictMsg 2 b) && decide (parseWrite b = some ws) && (s.txnRefused owner1 ws).isNone &&
    Map.wf s.dict && decide (∀ p ∈ s.chans, p.2.state ≠ .closing) && decide (∀ p ∈ s.tenants, p.2.resetting = false)
theorem txnRuns_of_runsAs {s : State} {b : Bytes} {ws : List DWrite} (h : runsAs s b ws = true) : TxnRuns s ref1 (dictMsg 2 b) chan1 ws := by
  unfold runsAs at h
  simp only [Bool.and_eq_true, decide_eq_true_eq, Option.isNone_iff_eq_none] at h
  obtain ⟨⟨⟨⟨⟨⟨h1, h2⟩, h3⟩, h4⟩, h5⟩, h6⟩, h7⟩ := h
  refine ⟨h1, h2, ?_, h4, h5, h6, h7⟩
  rw [show (dictMsg 2 b).payload = b from by simp [dictMsg, opJob, Job.payload]]
  exact h3
/-- The block with a WRITE of one entry, and the write. -/
def txn (rows : List (Nat × Nat × Nat)) (idx sub v : Nat) : State := withRows (dictState 2 (write1 idx sub v)) rows
def dw (idx sub v : Nat) : DWrite :=
  match rowOf idx sub with
  | some r => ⟨idx, sub, r.typ, beBytes r.size v⟩
  | none => ⟨idx, sub, 0, []⟩
def txnOk (rows : List (Nat × Nat × Nat)) (idx sub v : Nat) : Bool := runsAs (txn rows idx sub v) (write1 idx sub v) [dw idx sub v] && beNat (dw idx sub v).val == v

theorem witness_DictionaryWritesComplete :
    (txnOk [] 0x1640 1 255 = true ∧ (txn [] 0x1640 1 255).ringBusy = false ∧ journalled [dw 0x1640 1 255] = true ∧ transitionOf [dw 0x1640 1 255] = none) ∧
    (txnOk [] 0x3001 1 1 = true ∧ (Journal.recorded ⟨some ref1, [dw 0x3001 1 1], none, []⟩) = true ∧
      { txn [] 0x3001 1 1 with trav := { up.trav with pending := [⟨0, 0, 0, 0, 1, 0, 0, 0, 0, 0, 0, 0, [], true, 0, 0⟩] } }.ringBusy = true) ∧
    (txnOk [(0x1400, 0x13, 0x305)] 0x1400 0x13 0x305 = true ∧ (dw 0x1400 0x13 0x305).typ = 15 ∧ journalled [dw 0x1400 0x13 0x305] = false ∧
      (Journal.policy ⟨some ref1, [dw 0x1400 0x13 0x305], none, []⟩) = false) ∧
    (let b := write1 0x7777 1 0
     (dictState 2 b).dictJob ref1 2 = some (dictMsg 2 b, chan1) ∧ (dictState 2 b).myTurn (dictMsg 2 b) = true ∧ parseWrite b = none) ∧
    (let b := write1 0x1600 3 65535 ++ []
     let s := { dictState 2 (write1 0x1400 1 2) with free := 0 }
     b ≠ [] ∧ parseWrite (write1 0x1400 1 2) = some [dw 0x1400 1 2] ∧ (s.txnRefused owner1 [dw 0x1400 1 2]).isSome = true) ∧
    (let s := dictState 3 (zs 8)
     s.dictJob ref1 3 = some (dictMsg 3 (zs 8), chan1) ∧ s.myTurn (dictMsg 3 (zs 8)) = true ∧ s.writing ref1 = false ∧ s.groupId = 0) ∧
    (let g : Journal := ⟨some ref1, [dw 0x1640 1 255], none, []⟩
     let s := { dictState 2 (write1 0x1640 1 255) with dtx := { up.dtx with journal := some g } }
     s.runs = true ∧ s.dtx.journal = some g ∧ s.findJob ref1 = some (dictMsg 2 (write1 0x1640 1 255)) ∧ s.awaitsReset ref1 = false ∧
       (dictMsg 2 []).live = true ∧ Map.wf s.dict = true ∧ 0x1600 ≤ (dw 0x1640 1 255).idx ∧ (dw 0x1640 1 255).idx < 0x1680) := by
  decide +kernel
theorem witness_DictionaryWritesComplete_member : (dictState 3 (zs 8)).myIndex = none := by
  unfold State.myIndex
  rw [if_pos (Or.inl (by decide +kernel))]
theorem witness_NamedWritesOfEveryKindComplete :
    (txnOk [(0x282F, 1, 3)] 0x282F 4 1 = true ∧ txnOk [] 0x282F 5 1 = true ∧ txnOk [] 0x2800 5 1 = true ∧ txnOk [(0x1010, 5, 1)] 0x2C00 8 1 = true ∧
      txnOk [] 0x3300 0x22 0x80000000 = true ∧ txnOk [] 0x3300 0x23 0x80000001 = true ∧ txnOk [] 0x3200 0x2C 0xFF = true ∧ txnOk [] 0x4020 3 1 = true ∧
      txnOk [] 0x2421 1 2 = true ∧ txnOk [] 0x2421 1 1 = true ∧ txnOk [(0x2400, 2, 3)] 0x2400 5 3 = true ∧ txnOk [] 0x200F 6 15 = true ∧
      txnOk [] 0x200F 6 0 = true ∧ txnOk [] 0x1201 2 1 = true ∧ txnOk [] 0x183F 1 0 = true ∧ txnOk [] 0x183F 1 1 = true) ∧
    (txn [] 0x3300 0x22 1).ringBusy = false ∧ (txn [] 0x200F 6 15).clusterFenced 15 = false := by
  decide +kernel
/-- A REMOVE with its binding, an update window, and a transition. -/
def removeBody : Bytes := [2, 0, 0, 0, 0, 0, 0, 0] ++ item 0x2421 1 3 ++ item 0x2421 2 255
def windowBody : Bytes := [4, 0, 0, 0, 0, 0, 0, 0] ++ item 0x3200 0x2C 31 ++ item 0x3200 0x2D 0 ++ item 0x3200 0x2E 4096 ++ item 0x3200 0x2F 1
def sealedWindow : Bytes := zs 60 ++ beBytes 2 windowBody.length ++ zs 2 ++ windowBody
theorem witness_NamedWritesOfEveryKindComplete_sealed :
    runsAs (dictState 2 removeBody) removeBody [dw 0x2421 1 3, dw 0x2421 2 255] = true ∧
    (let g : Journal := ⟨none, [dw 0x183F 1 0], none, []⟩
     let s := { chanState with dtx := { up.dtx with journal := some g } }
     s.runs = true ∧ s.dtx.journal = some g ∧ g.sealedAs = none ∧ (s.ten 63).resetting = false ∧ (s.ten 63).resetReqs = [] ∧ beNat (dw 0x183F 1 0).val = 0) ∧
    (let x := dictMsg 3 sealedWindow
     let s := dictState 3 sealedWindow
     s.dictJob ref1 3 = some (x, chan1) ∧ s.myTurn x = true ∧ s.writing ref1 = false ∧ s.groupId = 0 ∧
       x.writes = [dw 0x3200 0x2C 31, dw 0x3200 0x2D 0, dw 0x3200 0x2E 4096, dw 0x3200 0x2F 1]) ∧
    (∀ op ∈ [1, 2, 3, 4], txnOk [] 0x5000 1 (op * 2 ^ 376) = true ∧ fieldAt (dw 0x5000 1 (op * 2 ^ 376)).val 0 1 = op) := by
  decide +kernel

/-! ### Witnesses: entropy, keys, streams and kernels -/

/-- 1,024 samples: alternating, all equal, and mostly ones without a long run. -/
def alternating : List Bool := (List.range 1024).map (fun i => i % 2 == 0)
def mostlyOnes : List Bool := (List.range 1024).map (fun i => i % 40 != 39)
/-- The block with source 15 in a state. -/
def sourceAt (st : Nat) (x : Source) : State := { withRows up [(0x282F, 1, st)] with ent := { up.ent with src := [(15, x)] } }
theorem witness_EntropyEventsComplete :
    (let s := sourceAt 1 ⟨false, [], none, 0⟩
     s.phase ≠ .down ∧ s.clk.gated = false ∧ Map.wf s.dict = true ∧ s.srcState 15 = 1 ∧ (s.source 15).warm = false) ∧
    (sourceAt 2 ⟨true, [], none, 0⟩).srcState 15 = 2 ∧ alternating.length = 1024 ∧
    ((repetition 0 none 0 alternating).1 = none ∧ proportion true 0 0 alternating = none) ∧
    ((repetition 0 none 0 (List.replicate 1024 true)).1 = some 40 ∧ proportion true 0 0 (List.replicate 1024 true) = some 794) ∧
    ((repetition 0 none 0 mostlyOnes).1 = none ∧ (proportion true 0 0 mostlyOnes).isSome = true) ∧
    640 ≤ ((sourceAt 2 ⟨true, List.replicate 640 true, none, 0⟩).source 15).left.length ∧
    (let s := { withRows up [(0x2800, 1, 1)] with ent := { up.ent with pool := [5], reqs := [⟨2, 79, true, false, none⟩], rawNext := some (3, [true]) } }
     s.entropyState = 1 ∧ s.ent.pool = 5 :: [] ∧ servedOrder s.ent.reqs = ⟨2, 79, true, false, none⟩ :: [] ∧ (∀ z ∈ s.ent.reqs, z.cls ≠ 3) ∧
       s.ent.rawNext = some (3, [true])) ∧
    servedOrder [⟨1, 15, false, true, none⟩] = ⟨1, 15, false, true, none⟩ :: [] ∧
    (let j := { job with state := .queued, waitSince := some 0 }
     let s := { withJob j with clk := { up.clk with fab := 2500000 } }
     s.findJob ref1 = some j ∧ 0 + 2500000 ≤ s.clk.fab ∧ Calm s) := by
  unfold Calm; decide +kernel
/-- The beginning of a KUM of an operation, for tenant 0. -/
def kumBody (op : Nat) : Bytes := beBytes 4 0x4E4D4B55 ++ beBytes 1 op ++ [1, 0, 0] ++ zs 48 ++ beBytes 8 1
/-- A persistent key of tenant 0. -/
def key2 : KeyRec := { key1 with handle := keyHandle 1 0 1 0 }
def commit1 : KumCommit := ⟨0, 1, ref1, key2, none, 1, 5, false⟩
theorem witness_KeyUpdatesLoadsAndReservationsComplete :
    (∀ op ∈ [1, 2, 3, 4, 5], let s := bareState 0x1014 (kumBody op)
      JobRuns s ref1 (opJob 0x1014 (kumBody op)) ∧ kumScope (kumBody op) ≠ 2 ∧ kumOp (kumBody op) = op ∧ s.keys.commits = [] ∧ s.writing ref1 = false) ∧
    (let j := { job with seq := 2, order := 1, opcode := 0x1014, segs := [(0, kumBody 1)], kumChecked := true }
     let s := { up with jobs := [opJob 0x1014 (kumBody 1), j] }
     JobRuns s ⟨0, 2⟩ j ∧ kumFirst s j j.payload = 0 ∧ s.earlierKum j = true) := by
  unfold JobRuns Calm; decide +kernel
theorem witness_KeyUpdatesLoadsAndReservationsComplete_commits :
    (let s := { withJob (opJob 0x1014 []) with keys := { up.keys with commits := [commit1] } }
     s.runs = true ∧ s.keys.commits.find? (fun c => c.domain == 0) = some commit1 ∧ s.findJob ref1 = some (opJob 0x1014 []) ∧ Map.wf s.keys.recs = true ∧ Calm s ∧
       commit1.marked = false ∧ s.debug = false) ∧
    (let s := { withJob (opJob 0x1014 []) with keys := { up.keys with commits := [{ commit1 with marked := true }] } }
     s.runs = true ∧ s.keys.commits.find? (fun c => c.domain == 0) = some { commit1 with marked := true } ∧ Calm s) ∧
    (let j := { job with state := .queued, key := key2.handle }
     let s := { withJob j with keys := { up.keys with recs := [(0, key2)] } }
     s.runs = true ∧ s.key key2.handle = some key2 ∧ keyScope key2.handle ≠ 0 ∧ s.wantedKey key2.handle = some key2 ∧
       s.materialFits key2.words 0 0 = true ∧ key2.typ ≠ 0x22 ∧ key2.typ ≠ 0x1A) ∧
    (let q : Reservation := ⟨key2.handle, false, 16⟩
     let k := { key2 with typ := 0x1C, total := 32 }
     let j := { job with state := .queued, opcode := 0x0711, key := key2.handle }
     let s := { withJob j with keys := { up.keys with recs := [(0, k)], reserves := [q] } }
     let u := { s with keys := { s.keys with reserves := [] } }
     s.runs = true ∧ s.key key2.handle = some k ∧ s.keys.reserves.find? (fun x => x.handle == key2.handle) = some q ∧ keyScope key2.handle ≠ 2 ∧
       s.findJob ref1 = some j ∧ u.isHead j = true ∧ u.awaitsReservation j = true) := by
  unfold Calm; decide +kernel
/-- A STREAM message that starts context 15, and its context. -/
def streamMsg (flags : Nat) : Bytes := [15, BitVec.ofNat 8 flags, 0, 0, 0, 0, 0, 0] ++ zs 8
def streamJob (st : JobState) (flags : Nat) : Job := { opJob 0x0D10 (streamMsg flags) with kind := 3, state := st }
theorem witness_StreamMessagesComplete :
    (let j := { opJob 0x0D10 [16, 0, 0, 0, 0, 0, 0, 0] with kind := 3, state := .queued }
     let s := withJob j
     s.findJob ref1 = some j ∧ s.isHead j = true ∧ s.streamRefusal j = some 0x26 ∧ Calm s) ∧
    (let s := { withRows chanState [(0x20C0, 1, 0)] with jobs := [streamJob .queued 1] }
     s.isHead (streamJob .queued 1) = true ∧ s.streamRefusal (streamJob .queued 1) = some 0x40 ∧ Map.find s.chans 0 = some chan1) ∧
    (∀ fl ∈ [1, 3], let s := withJob (streamJob .running fl)
      s.findJob ref1 = some (streamJob .running fl) ∧ s.latchedOn (streamJob .running fl) 1 = false ∧ s.latchedOn (streamJob .running fl) 2 = false ∧
        streamExists 0x0D10 = true ∧ s.streamRefusal (streamJob .running fl) = none ∧ (s.streamCtx (streamJob .running fl)).isSome = true) ∧
    finishBit (streamMsg 1) = false ∧ finishBit (streamMsg 3) = true := by
  unfold Calm; decide +kernel
/-- An owner kernel of one microword. -/
def kernelOf (v : Nat) : Kernel := ⟨5, zs 12 ++ [0x30, 0, 0, 1] ++ zs 24 ++ beBytes 4 16385 ++ zs 20 ++ beBytes 6 v⟩
def kernelState (v : Nat) (latched : List Nat) : State :=
  { withJob { job with kernel := some (kernelOf v), units := [0] } with
    kern := { up.kern with nano := [(0, 0)] }, les := [(0, { leOn with regs := { leRegsInit with upc := 0x3000 } })], units := [(0, { engineInit with job := some ref1, latched := latched })] }
theorem witness_OwnerKernelsComplete :
    (∀ p ∈ [(2 ^ 46, [4]), (7 * 2 ^ 14, [])], let s := kernelState p.1 p.2
      let k := kernelOf p.1
      s.kernelJob ref1 = some ({ job with kernel := some k, units := [0] }, k, 0) ∧ (s.le 0).job = some ref1 ∧ Calm s ∧ job.charged.le + 16384 < k.cost.2.le ∧
        k.cost.2.hc = 0 ∧ k.owns (s.le 0).regs.upc = true ∧ (s.engine 0).latched = p.2 ∧ (s.le 0).waiting = none ∧
        s.nanoClean 0 = true ∧ ((s.le 0).areg (aIdx (BitVec.ofNat 5 (mwSrc2 (k.word ((s.le 0).regs.upc - k.base)))))) = ⟨0, false⟩) ∧
    (let v := (kernelOf (7 * 2 ^ 14)).word 0
     mwNano v = 0 ∧ mwSeq v = 7 ∧ mwWait v = 0) ∧ bitAt ((kernelOf (2 ^ 46)).word 0) 46 = true ∧
    (⟨5, []⟩ : Kernel).cost.2.le ≤ job.charged.le ∧
    (let s := { up with kern := { up.kern with verifying := some (kernelOf 0) } }
     s.runs = true ∧ s.kern.verifying = some (kernelOf 0) ∧ Map.wf s.dict = true ∧ fieldAt (kernelOf 0).image 4 1 ≠ 2 ∧
       fieldAt ([0, 0, 0, 0, 2] : Bytes) 4 1 = 2) := by
  unfold Calm; decide +kernel

/-! ### Witnesses: the traverse, flash and lines -/

/-- A benchmark of a sequence and kind. -/
def bench1 (seq kind : Nat) (signed : Bool) (archived : Nat) : Bench := ⟨seq, 0, 0, 0, kind, 0, 0, 0, 0, 0, 0, if kind = 0x0C then 37 else 0, [], signed, archived, 0⟩
def withTrav (s : State) (ring : List Bench) (signing : Bool) (held : Nat) : State := { s with trav := { s.trav with ring := ring, signing := signing, held := held } }
theorem witness_TraverseOperationsComplete :
    (∀ p ∈ [(0x3010, zs 8 ++ [8, 0, 1, 0]), (0x3010, zs 12), (0x3011, []), (0x3012, [])], let s := bareState p.1 p.2
      JobRuns s ref1 (opJob p.1 p.2) ∧ (∀ d ∈ s.trav.demand, d.1 ≠ ref1) ∧ s.trav.signing = false ∧ s.trav.pending = [] ∧
        s.ringFull (1 + cosignSlots s.cosign) = false) ∧
    fieldAt (zs 8 ++ [8, 0, 1, 0]) 8 2 = 2048 ∧
    (let s := withTrav up [bench1 1 1 true 0, bench1 2 0x0C false 0] true 0
     s.runs = true ∧ s.toArchive = some (bench1 1 1 true 0) ∧ s.trav.signing = true ∧
       s.trav.ring.find? (fun b => b.kind == 0x0C && !b.signed) = some (bench1 2 0x0C false 0) ∧ s.trav.pending = [] ∧ Calm s ∧
       s.reserveRuns .checkpoint = false) ∧
    (∀ held ∈ [0, 4], let s := reserveOn { withTrav up [bench1 2 0x0C false 0] true held with rwork := [.checkpoint] }
     s.runs = true ∧ s.trav.signing = true ∧ s.trav.held = held ∧ s.trav.ring.find? (fun b => b.kind == 0x0C && !b.signed) = some (bench1 2 0x0C false 0) ∧
       s.reserveRuns .checkpoint = true ∧ s.trav.pending = [] ∧ s.ringFull (1 + cosignSlots s.cosign) = false) ∧
    (let s := withTrav up [bench1 2 0x0C true 1] false 4
     s.toArchive = some (bench1 2 0x0C true 1) ∧ (bench1 2 0x0C true 1).signed = true ∧ s.trav.held ≠ 0 ∧ s.ringFull (1 + cosignSlots s.cosign) = false) ∧
    (let j := { job with kind := 4, state := .queued, waitSince := some 0 }
     let s := { withJob j with trav := { up.trav with waiters := [ref1] }, clk := { up.clk with fab := 1250000000 } }
     s.findJob ref1 = some j ∧ ref1 ∈ s.trav.waiters ∧ 0 + 1250000000 ≤ s.clk.fab) := by
  unfold JobRuns Calm; decide +kernel
/-- Channel 31 in a mode, with the flash of its gate. -/
def flashState (mode : Nat) (rows cfg : List (Nat × Nat × Nat)) : State :=
  { withRows up ([(0x301F, 2, mode), (0x301F, 0x10, 1)] ++ rows) with
    flash := [(31, { flashInit with cfg := cfg.foldl (fun m p => Map.store m (ekey p.1 p.2.1) p.2.2 (dflt p.1 p.2.1)) [] })], pins := { up.pins with pres := 0 } }
theorem witness_FlashChannelsAndResetLinesComplete :
    (up.phase = .up ∧ up.clk.gated = false ∧ Map.wf up.dict = true ∧ bitAt up.pins.pres 31 = true ∧ bitAt (flashState 0 [] []).pins.pres 31 = false) ∧
    (let s := flashState 0 [] []
     s.boardServed = true ∧ s.chanMode 31 = 0 ∧ (s.chanFlash 31).held = false ∧ s.rd 0x301F 1 = 1 ∧ s.rd 0x301F 0x10 = 1 ∧ s.bankOut 31 = false) ∧
    (let s := flashState 1 [] [(0x311F, 1, 8)]
     s.chanMode 31 = 1 ∧ 7 < s.regionCount 31 ∧ s.rd 0x311F 0x37 = 0xFF ∧ s.signedRegion 31 7 = false) ∧
    (let s := flashState 1 [] [(0x311F, 1, 8), (0x311F, 0x2F, 2)]
     s.signedRegion 31 7 = true ∧ (s.enqueueReserve (.gate 31)).reserveRuns (.gate 31) = false ∧
       ((reserveOn s).enqueueReserve (.gate 31)).reserveRuns (.gate 31) = true) ∧
    (let s := flashState 1 [] []
     s.chanMode 31 = 1 ∧ (∀ i, i < s.regionCount 31 → s.rd 0x311F (0x30 + i) ≠ 0xFF) ∧ s.gate.forced = [] ∧ s.satisfied 31 = true ∧ s.rd 0x301F 6 = 1 ∧
       s.gateCfg 31 0x301F 6 = 1) ∧
    (let s := flashState 1 [(0x311F, 0x30, 2), (0x301F, 6, 0)] [(0x311F, 1, 1), (0x311F, 0x13, 16)]
     (∀ i, i < s.regionCount 31 → s.rd 0x311F (0x30 + i) ≠ 0xFF) ∧ s.satisfied 31 = false ∧ s.rd 0x301F 6 ≠ 1) := by
  decide +kernel
/-- A filter policy with code 255 of class 2, code 254 of class 3, and 253 of class 1. -/
def policyRow : Nat × Nat × Nat := (0x321F, 1, 2 * 64 + 3 * 16 + 1 * 4)
theorem witness_FlashChannelsAndResetLinesComplete_filter :
    (let s := flashState 2 [(0x3200, 0x10, 31)] [policyRow, (0x321F, 2, 1), (0x321F, 0x10, 4096), (0x321F, 0x11, 4096)]
     s.chanMode 31 = 2 ∧ s.cmdClass 31 253 = 1 ∧ s.cmdClass 31 255 = 2 ∧ s.outsideProtected 31 (s.affected 31 255 0) = true ∧ s.cmdClass 31 254 = 3 ∧
       s.window 0 0 = 31 ∧ s.cmdClass 31 0 = 0 ∧ s.gateCfg 31 0x301F 5 = 2) ∧
    (let s := flashState 2 [] [policyRow, (0x321F, 2, 1), (0x321F, 0x10, 4096), (0x321F, 0x11, 4096)]
     s.outsideProtected 31 (s.affected 31 255 8191) = false ∧ s.insideWindow 31 (s.affected 31 255 8191) = false ∧
       (∀ w, w < 8 → s.window w 0 ≠ 31) ∧ (s.chanFlash 31).lastCutSec = none ∧ s.ringBusy = false) ∧
    (let s := { withRows up [(0x3200, 0x2C, 1)] with clk := { up.clk with datum := 1 } }
     s.windowOpen 7 = true ∧ ofTime80 (s.window 7 3) < s.clk.datum) := by
  decide +kernel
theorem witness_FlashChannelsAndResetLinesComplete_lines :
    (let s := { up with gate := { up.gate with since := [(31, 0)] } }
     s.released 31 = false ∧ s.mayRelease = true ∧ s.gate.forced.contains 31 = false ∧ s.chansReady 31 = true ∧ s.lowerDone 31 = true ∧ s.delayOver 31 = true) ∧
    (let s := { up with gate := { up.gate with forced := [31] } }
     s.gate.forced = [31] ∧ s.lineDecided 31 = true ∧ s.released 31 = false ∧ s.mayRelease = true) ∧
    up.pins.pwrgd = true ∧ up.rd 0x3300 0x24 = 1 ∧ (withRows up [(0x3300, 0x24, 0)]).rd 0x3300 0x24 ≠ 1 := by
  decide +kernel

/-! ### Witnesses: scheduling and faults -/

/-- An owner kernel that costs one LE cycle, takes ten blocks of scratch, and leaves no result. -/
def kernel1 : Kernel := ⟨5, zs 12 ++ [0x30, 0, 0, 1, 0, 0] ++ zs 4 ++ [0, 10] ++ zs 12 ++ beBytes 4 1 ++ beBytes 4 100 ++ zs 20⟩
def kjob (st : JobState) : Job := { job with opcode := 0x8005, kernel := some kernel1, state := st }
/-- The block with that job queued, or suspended with its engine saved. -/
def queuedState : State := withJob (kjob .queued)
def suspendedJob : Job := { kjob .suspended with units := [63] }
def suspendedState : State := { withJob suspendedJob with saved := [(0, { leOn with scratchAt := 172032 })] }
def isGo : Ready → Bool
  | .go => true
  | _ => false
def isOver : Ready → Bool
  | .over _ => true
  | _ => false
def isWait : Ready → Bool
  | .wait _ => true
  | _ => false
theorem witness_JobDispatchCompletes : let s := queuedState
    let u := (s.rebalance false).accrueAll
    let j := kjob .queued
    s.findJob ref1 = some j ∧ s.phase = .up ∧ s.clk.gated = false ∧ (s.ten 0).resetting = false ∧ s.rd 0x1800 1 ≠ 0 ∧ j.scheduled = true ∧ u.isHead j = true ∧
      isGo (u.ready j) = true ∧ u.admission j = some true ∧ u.lowerQueue j = false ∧ u.precedenceWaits j (u.unitNeeds j) = false ∧
      u.turnFits j true = true ∧ u.unitsFit j [0] = true := by
  decide +kernel
theorem witness_JobDispatchCompletes_stops :
    (let s := { queuedState with kern := { up.kern with tenantsServed := false } }
     isOver ((s.rebalance false).accrueAll.ready (kjob .queued)) = true) ∧
    (let k : Kernel := { kernel1 with image := kernel1.image.take 32 ++ [0, 0, 0, 65] ++ kernel1.image.drop 36 }
     let j := { kjob .queued with kernel := some k }
     let s := withRows (withJob j) [(0x1640, 1, 0)]
     isWait ((s.rebalance false).accrueAll.ready j) = true) ∧
    (let j := { kjob .queued with seq := 2, tenant := 1, order := 1 }
     let s := withRows { queuedState with jobs := [kjob .queued, j] } [(0x1901, 2, 1000)]
     (s.rebalance false).accrueAll.admission (kjob .queued) = none) := by
  decide +kernel
theorem witness_JobDispatchCompletes_resumes : let u := (suspendedState.rebalance false).accrueAll
    suspendedState.findJob ref1 = some suspendedJob ∧ u.admission suspendedJob = some true ∧ u.earlierSuspended suspendedJob = false ∧
      u.resumeFits suspendedJob [62] = true ∧ (Map.find u.saved 0).isSome = true := by
  decide +kernel
theorem witness_DispatchGivesADefinedEngine : isGo ((queuedState.rebalance false).accrueAll.ready (kjob .queued)) = true ∧
    (queuedState.rebalance false).accrueAll.unitsFit (kjob .queued) [62] = true ∧ (suspendedState.rebalance false).accrueAll.resumeFits suspendedJob [62] = true ∧
    Map.find (suspendedState.rebalance false).accrueAll.saved suspendedJob.order = some { leOn with scratchAt := 172032 } := by
  decide +kernel
/-- That job running on a tenant whose LE budget is 0. -/
def spentState : State := withRows (withJob (kjob .running)) [(0x1900, 2, 0)]
theorem witness_LapsAndSafePointsComplete :
    (let s := { up with clk := { up.clk with datum := 1000000 } }
     s.phase = .up ∧ s.clk.gated = false ∧ Map.wf s.dict = true ∧ s.lapOver = true) ∧
    up.lapOver = false ∧
    (let s := withRows { up with clk := { up.clk with datum := 10 ^ 9 } } [(0x1A00, 1, 0)]
     s.rd 0x1A00 1 ≠ s.rd 0x1A00 5 ∧ s.lap.lengthAt ≤ s.clk.datum) ∧
    (spentState.phase = .up ∧ spentState.clk.gated = false ∧ Map.wf spentState.dict = true ∧
      (spentState.ownRunning .le).filter (fun (j : Job) => j.tenant == 0) = [kjob .running] ∧
      (up.ownRunning .le).filter (fun (j : Job) => j.tenant == 0) = []) := by
  decide +kernel
theorem witness_LapsAndSafePointsComplete_budget :
    let mine := (spentState.ownRunning .le).filter (fun (j : Job) => j.tenant == 0)
    let w := (mine.foldl (fun w (j : Job) => w.accrue j) spentState).topUp .le mine
    w.budget 0 .le ≤ (w.ten 0).charge.get .le := by
  intro mine w
  have h : w.budget 0 .le = 0 := by decide +kernel
  rw [h]
  exact Nat.zero_le _
/-- The block whose engine 0 runs a job with events latched. -/
def latchedState (j : Job) (l : List Nat) : State :=
  { withJob { j with units := [0] } with les := [(0, leOn)], units := [(0, { engineInit with job := some ref1, latched := l })] }
theorem witness_LapsAndSafePointsComplete_events :
    (∀ l ∈ [[], [1, 3], [2, 4], [3, 4], [5, 4]], let s := latchedState job l
      (s.engine 0).job = some ref1 ∧ s.findJob ref1 = some { job with units := [0] } ∧ job.state = .running ∧ s.clk.gated = false ∧
        (s.engine 0).latched = l ∧ Map.wf s.dict = true ∧ s.atExit 0 { job with units := [0] } = false) ∧
    (let j := { job with kernel := some (kernelOf (7 * 2 ^ 14)), units := [0] }
     let s := { latchedState j [4] with les := [(0, { leOn with regs := { leRegsInit with upc := 0x3000 } })] }
     s.atExit 0 j = true) := by
  decide +kernel
/-- An LE budget of 0 admits nothing, and no other tenant waits: the job may go on as borrowed work; and it may not while another tenant's own work waits. -/
theorem witness_LapsAndSafePointsComplete_continues :
    (let s := withRows (latchedState (kjob .running) [4]) [(0x1900, 2, 0)]
     let j := { kjob .running with units := [0] }
     s.findJob ref1 = some j ∧ s.atExit 0 j = false ∧ ∃ x, (s.accrue j).findJob ref1 = some x ∧ (s.accrue j).mayContinue x = true) ∧
    (let q := { kjob .queued with seq := 2, tenant := 1, order := 1 }
     let j := { kjob .running with units := [0] }
     let s := withRows { latchedState (kjob .running) [4] with jobs := [j, q] } [(0x1900, 2, 0), (0x1901, 2, 1000)]
     s.findJob ref1 = some j ∧ ∃ x, (s.accrue j).findJob ref1 = some x ∧ (s.accrue j).mayContinue x = false) := by
  refine ⟨⟨by decide +kernel, by decide +kernel, _, rfl, by decide +kernel⟩, ⟨by decide +kernel, _, rfl, by decide +kernel⟩⟩
/-- A fault of engine 63 that ran the job. -/
def fault1 : HwFault := ⟨.leParity, 63, none, none, 0⟩
def faultState (retried : Bool) (faults : List Nat) (run : Bool) : State :=
  { withJob { job with units := [63], retried := retried } with
    units := [(63, { engineInit with job := if run then some ref1 else none, faults := faults })], les := if run then [(63, leOn)] else [] }
theorem witness_HardwareFaultsComplete :
    (∀ b ∈ [false, true], let s := faultState b [] true
      s.runs = true ∧ faultFits fault1 = true ∧ s.tamp.parity.length < 63 ∧ s.flt.log.length < 4000 ∧ Map.wf s.dict = true ∧ Calm s ∧
        s.struck fault1 = some { job with units := [63], retried := b } ∧ s.latchedOn { job with units := [63] } 1 = false ∧
        s.latchedOn { job with units := [63] } 2 = false) ∧
    (let s := faultState false [0, 0] false
     chargeOf fault1 = .engine 63 ∧ (s.engine 63).job = none ∧ s.struck fault1 = none ∧ (s.engine 63).fencing = false ∧ 3 ≤ (s.recent (s.engine 63).faults).length) ∧
    (let f : HwFault := ⟨.portParity, 3, none, none, 0⟩
     let s := { up with flt := { up.flt with portFaults := [(3, [0, 0])] } }
     faultFits f = true ∧ chargeOf f = .port 3 ∧ s.flt.portFenced.contains 3 = false ∧ 3 ≤ (s.recent (Map.getD s.flt.portFaults 3 [])).length) := by
  unfold Calm; decide +kernel
theorem witness_FencesLostWordsAndCopiesComplete :
    (let s := { withJob { job with units := [1024] } with units := [(1024, { engineInit with job := some ref1, latched := [3] })], clk := { up.clk with fab := 16375 } }
     s.runs = true ∧ Map.wf s.dict = true ∧ (s.engine 1024).job = some ref1 ∧ s.findJob ref1 = some { job with units := [1024] } ∧ 3 ∈ (s.engine 1024).latched ∧
       (s.engine 1024).fenceAt + 16375 ≤ s.clk.fab) ∧
    (unitExists 63 = true ∧ (up.engine 63).job = none) ∧
    (let s := { chanState with jobs := [{ job with state := .done }, { job with seq := 2 }], keys := { up.keys with vol := [(0, key1)], loaded := [7] },
                               mcache := [⟨5, 1, [], none⟩], dstreams := [(15, ⟨0, 0x0D10, 0, [], [], 0, false⟩)], flt := { up.flt with log := [⟨1, 0, 1, 0, 0, 0, 0, 0, 0⟩] } }
     s.runs = true ∧ s.tamp.parity.length < 63 ∧ s.flt.log.length < 4000 ∧ Map.wf s.dict = true ∧ Map.wf s.keys.vol = true ∧ Map.wf s.chans = true ∧ Calm s ∧
       s.findJob ref1 = some { job with state := .done } ∧ s.findJob ⟨0, 2⟩ = some { job with seq := 2 } ∧ keyScope key1.handle = 0 ∧
       s.key key1.handle ≠ none ∧ (Map.find s.dstreams (streamKey 0 15)).isSome = true ∧ (s.flt.log[0]?).isSome = true) ∧
    ((withDrbg up 79).drbg 79).state ≠ 0 ∧ ({ up with flt := { up.flt with copying := [33] } } : State).flt.copying.contains 33 = true := by
  unfold Calm; decide +kernel

/-! ### Witnesses: the group -/

/-- A member of a group of three whose index is `me`: the list holds its own identity there, and the two numbers after it elsewhere. -/
def member (me : Nat) (rows : List (Nat × Nat × Nat)) (g : Group) : State :=
  { up with
    dict := [(ekey 0x4400 1, 1), (ekey 0x4400 2, 3)] ++ rows.map (fun p => (ekey p.1 p.2.1, p.2.2)) ++
      [(ekey 0x4410 1, if me = 0 then up.identity else up.identity + 1), (ekey 0x4410 2, 1), (ekey 0x4411 1, if me = 1 then up.identity else up.identity + 1), (ekey 0x4411 2, 1), (ekey 0x4412 1, up.identity + 2),
        (ekey 0x4412 2, 1)]
    grp := g }
theorem member_debug (me : Nat) (rows : List (Nat × Nat × Nat)) (g : Group) : (member me rows g).debug = false := by
  show up.debug = false
  decide +kernel
theorem member_index_0 (rows : List (Nat × Nat × Nat)) (g : Group) (h : (member 0 rows g).groupId = 1) (hc : (member 0 rows g).memberCount = 3)
    (h0 : (member 0 rows g).memberId 0 = up.identity) : (member 0 rows g).myIndex = some 0 := by
  unfold State.myIndex
  rw [h, member_debug, if_neg (by decide)]
  unfold State.indexOf
  rw [hc]
  show List.find? _ [0, 1, 2] = some 0
  rw [List.find?_cons_of_pos (by rw [h0]; exact beq_self_eq_true _)]
theorem member_index_1 (rows : List (Nat × Nat × Nat)) (g : Group) (h : (member 1 rows g).groupId = 1) (hc : (member 1 rows g).memberCount = 3)
    (h0 : (member 1 rows g).memberId 0 = up.identity + 1) (h1 : (member 1 rows g).memberId 1 = up.identity) : (member 1 rows g).myIndex = some 1 := by
  unfold State.myIndex
  rw [h, member_debug, if_neg (by decide)]
  unfold State.indexOf
  rw [hc]
  show List.find? _ [0, 1, 2] = some 1
  have e : (member 1 rows g).identity = up.identity := rfl
  rw [List.find?_cons_of_neg (by rw [h0, e]; simp), List.find?_cons_of_pos (by rw [h1, e]; exact beq_self_eq_true _)]
/-- A link that is up, at generation 1. -/
def linkUp1 : Link := { linkInit with state := 2, gen := 1 }
def grp1 : Group := { up.grp with links := [(1, linkUp1)] }
/-- A message of member 1, and a group that has it. -/
def hdr1 : PeerHdr := ⟨1, 0, 1, 1⟩
def inbox1 (g : Group) (op : Nat) (b : Bytes) : Group := { g with inbox := [⟨1, 0, 1, 1, op, b, ⟨0, 0, 0⟩, 0⟩] }
/-- Member 0 with a role, term, sequencer and group state. -/
def memberAs (role term seq : Nat) (g : Group) : State := member 0 [(0x4401, 1, role), (0x4401, 3, term), (0x4401, 4, seq)] g
theorem memberAs_runs (role term seq : Nat) (g : Group) : (memberAs role term seq g).runs = true := by
  show up.runs = true
  decide +kernel
theorem messageStands_memberAs (role term seq op : Nat) (body : Bytes) (ok : Bytes → Bool) (h : ok body = true)
    (hi : (memberAs role term seq (inbox1 grp1 op body)).myIndex = some 0) :
    MessageStands (memberAs role term seq (inbox1 grp1 op body)) hdr1 op ok := by
  refine ⟨memberAs_runs _ _ _ _, hi, Or.inl rfl, rfl, ⟨1, 0, 1, 1, op, body, ⟨0, 0, 0⟩, 0⟩, ?_⟩
  show List.find? _ [_] = _
  rw [List.find?_cons_of_pos]
  simp [PeerMsg.fits, hdr1, h]
theorem witness_GroupLinksAndSequencingComplete_links :
    (memberAs 1 5 2 grp1).runs = true ∧ (memberAs 1 5 2 grp1).myIndex = some 0 ∧ (memberAs 1 5 2 grp1).indexOf (up.identity + 1) = some 1 ∧
    (∀ m : AnnounceMsg, ({ up.grp with announced := [m] } : Group).announced.contains m = true) ∧ ((memberAs 1 5 2 up.grp).link 1).state ≠ 2 ∧ (member 1 [] grp1).myIndex = some 1 ∧
    (let s := memberAs 1 5 2 { up.grp with links := [(1, { linkUp1 with state := 1 })] }
     (s.link 1).state = 1 ∧ (s.link 1).gen = 1 ∧ s.myIndex = some 0 ∧ (⟨1, 0, 1, 1, 0, 0, 0, 0, sha3 (s.link 1).init, [], [], [], []⟩ : Hello).initDigest = sha3 (s.link 1).init) ∧
    (memberAs 1 5 2 grp1).peerMsg hdr1 0x13 (fun o => o == claimBody 6 1 0 0) = none := by
  refine ⟨rfl, member_index_0 _ _ rfl rfl rfl, ?_, fun m => by simp, by decide +kernel, member_index_1 _ _ rfl rfl rfl rfl, ⟨rfl, rfl, member_index_0 _ _ rfl rfl rfl, rfl⟩, rfl⟩
  show List.find? _ [0, 1, 2] = some 1
  rw [List.find?_cons_of_neg, List.find?_cons_of_pos]
  · exact beq_self_eq_true _
  · show ¬ (up.identity == up.identity + 1) = true
    simp
/-- A heartbeat of member 1 as a quorate sequencer, and one that is not. -/
def beat (flags : Nat) : HeartbeatBody := ⟨5, 1, flags, 3, 0, 0, 0⟩
theorem witness_GroupLinksAndSequencingComplete_heartbeats :
    (∀ f, f = 2 ∨ f = 3 → MessageStands (memberAs 1 5 2 (inbox1 grp1 0x10 (heartbeatOctets (beat f) 0))) hdr1 0x10 (heartbeatReads (beat f))) ∧
    (let s := memberAs 1 5 2 (inbox1 grp1 0x10 (heartbeatOctets (beat 3) 0))
     Map.wf s.dict = true ∧ s.grp.writes = [] ∧ s.role = 1 ∧ s.term = 5 ∧ s.grp.commit = 0 ∧ s.grp.applied = 0) ∧
    (bitAt (beat 3).flags 0 = true ∧ bitAt (beat 3).flags 1 = true ∧ bitAt (beat 2).flags 0 = false) ∧
    ((memberAs 1 5 2 grp1).myIndex ≠ none ∧ ({ memberAs 1 5 2 grp1 with clk := { up.clk with datum := 1000000 } } : State).grp.lastInstant < 1000000 / 1000000) := by
  refine ⟨?_, ⟨rfl, rfl, rfl, rfl, rfl, rfl⟩, by decide, by rw [show (memberAs 1 5 2 grp1).myIndex = some 0 from member_index_0 _ _ rfl rfl rfl]; decide, by decide +kernel⟩
  rintro f (rfl | rfl) <;> exact messageStands_memberAs _ _ _ _ _ _ (by decide +kernel) (member_index_0 _ _ rfl rfl rfl)
theorem witness_GroupLinksAndSequencingComplete_claims :
    MessageStands (memberAs 1 5 2 (inbox1 grp1 0x13 (claimBody 6 1 0 0))) hdr1 0x13 (fun o => o == claimBody 6 1 0 0) ∧
    (∀ f, MessageStands (memberAs 2 5 0xFF (inbox1 grp1 0x14 (grantBody 5 f 0 0))) hdr1 0x14 (fun o => o == grantBody 5 f 0 0)) ∧
    MessageStands (memberAs 1 5 2 (inbox1 grp1 0x14 (grantBody 5 true 0 0))) hdr1 0x14 (fun o => o == grantBody 5 true 0 0) ∧
    (memberAs 1 5 2 (inbox1 grp1 0x14 (grantBody 5 true 0 0))).role ≠ 2 ∧
    (∀ f, let s := memberAs 2 5 0xFF (inbox1 grp1 0x14 (grantBody 5 f 0 0))
      Map.wf s.dict = true ∧ s.grp.writes = [] ∧ s.role = 2 ∧ s.term = 5 ∧ ∀ e ∈ s.grp.log, e.index ≤ s.grp.commit ∧ e.index ≤ s.grp.applied) := by
  refine ⟨messageStands_memberAs _ _ _ _ _ _ (beq_self_eq_true _) (member_index_0 _ _ rfl rfl rfl), fun f => messageStands_memberAs _ _ _ _ _ _ (beq_self_eq_true _) (member_index_0 _ _ rfl rfl rfl),
    messageStands_memberAs _ _ _ _ _ _ (beq_self_eq_true _) (member_index_0 _ _ rfl rfl rfl), (by decide : (1 : Nat) ≠ 2), fun f => ⟨rfl, rfl, rfl, rfl, ?_⟩⟩
  intro e h
  cases h
/-- An entry that follows an empty log, and a member's write. -/
def entry1 : GEntry := ⟨5, 1, 2, 1, []⟩
def write2 : OwnWrite := ⟨7, some ref1, 2, [], 0, none⟩
def gwrite1 : GWrite := ⟨7, 2, []⟩
def snap1 : GSnapshot := ⟨5, 9, 0, 0, 0, 0, [], [], 0, 1⟩
theorem witness_GroupLogCompletes :
    MessageStands (memberAs 1 5 1 (inbox1 grp1 0x11 (appendBody 5 5 4 0 []))) hdr1 0x11 (fun o => o == appendBody 5 5 4 0 []) ∧
    MessageStands (memberAs 1 5 1 (inbox1 grp1 0x11 (appendBody 5 0 0 0 [entry1]))) hdr1 0x11 (fun o => o == appendBody 5 0 0 0 [entry1]) ∧
    MessageStands (memberAs 3 5 0 (inbox1 grp1 0x12 (ackBody 5 0 0 true))) hdr1 0x12 (fun o => o == ackBody 5 0 0 true) ∧
    MessageStands (memberAs 3 5 0 (inbox1 grp1 0x15 (forwardBody gwrite1))) hdr1 0x15 (fun o => o == forwardBody gwrite1) ∧
    MessageStands (memberAs 0 5 1 (inbox1 grp1 0x17 (peerFetchBody 1))) hdr1 0x17 (fun o => o == peerFetchBody 1) ∧
    MessageStands (memberAs 1 5 1 (inbox1 grp1 0x18 (entriesBody [entry1] none))) hdr1 0x18 (fun o => o == entriesBody [entry1] none) ∧
    MessageStands (memberAs 1 5 1 (inbox1 grp1 0x18 (entriesBody [] (some snap1)))) hdr1 0x18 (fun o => o == entriesBody [] (some snap1)) ∧
    MessageStands (memberAs 3 5 0 (inbox1 grp1 0x19 (readIndexBody 7))) hdr1 0x19 (fun o => o == readIndexBody 7) ∧
    MessageStands (memberAs 1 5 1 (inbox1 grp1 0x1A (readReplyBody 7 3))) hdr1 0x1A (fun o => o == readReplyBody 7 3) := by
  refine ⟨?_, ?_, ?_, ?_, ?_, ?_, ?_, ?_, ?_⟩ <;> exact messageStands_memberAs _ _ _ _ _ _ (beq_self_eq_true _) (member_index_0 _ _ rfl rfl rfl)
theorem witness_GroupLogCompletes_states :
    (∀ op b, let s := memberAs 1 5 1 (inbox1 grp1 op b)
      s.grp.writes = [] ∧ Map.wf s.dict = true ∧ Calm s ∧ s.grp.base ≤ 4 ∧ s.grp.termAt 4 ≠ some 5 ∧ s.grp.termAt 0 = some 0 ∧ NextEntry s entry1 ∧
        (s.link 1).commit ≤ s.grp.commit ∧ s.grp.applied ≤ snap1.index) ∧
    (∀ op b, let s := memberAs 3 5 0 (inbox1 grp1 op b)
      s.role = 3 ∧ s.term = 5 ∧ s.grp.termAt 0 = some 0 ∧ gwrite1.kind = 2 ∧ ∀ e ∈ s.grp.log, e.index ≤ s.grp.commit ∧ e.index ≤ s.grp.applied) := by
  refine ⟨fun op b => ⟨rfl, rfl, ⟨?_, ?_⟩, (by decide : (0 : Nat) ≤ 4), (by decide : (none : Option Nat) ≠ some 5), rfl,
      ⟨rfl, Nat.le_refl 0, Nat.le_refl 0, ?_⟩, Nat.le_refl 0, Nat.zero_le 9⟩,
    fun op b => ⟨rfl, rfl, rfl, rfl, ?_⟩⟩
  · intro p h
    cases h
  · intro p h
    cases h
  · intro x h
    cases h
  · intro e h
    cases h
theorem witness_GroupLogCompletes_result :
    (∀ st, MessageStands (memberAs 0 5 1 (inbox1 grp1 0x16 (resultBody 7 5 1 st))) hdr1 0x16 (fun o => o == resultBody 7 5 1 st)) ∧
    (let s := { memberAs 0 5 1 { inbox1 grp1 0x16 (resultBody 7 5 1 0) with writes := [write2] } with jobs := [{ job with kind := 4, state := .queued }] }
     let u := heard s hdr1 0x16 (fun o => o == resultBody 7 5 1 0)
     u.grp.writes.find? (fun w => w.tag == 7) = some write2 ∧ u.grp.applied < 1 ∧ write2.job = some ref1 ∧
      u.findJob ref1 = some { job with kind := 4, state := .queued }) := by
  refine ⟨fun st => messageStands_memberAs _ _ _ _ _ _ (beq_self_eq_true _) (member_index_0 _ _ rfl rfl rfl), ?_⟩
  decide +kernel
theorem witness_GroupLogCompletes_own :
    (let s := { memberAs 3 5 0 { grp1 with stepDown := true, stepAt := 1 } with clk := { up.clk with fab := 1250001 } }
     s.runs = true ∧ s.role = 3 ∧ s.grp.stepDown = true ∧ s.grp.stepAt ≠ 0 ∧ s.grp.stepAt + 1250000 ≤ s.clk.fab) ∧
    (let s := { memberAs 1 5 1 { grp1 with writes := [write2] } with jobs := [{ job with kind := 4, state := .queued }], clk := { up.clk with fab := 100 * 1250000 } }
     s.grp.writes.find? (fun w => w.tag == 7) = some write2 ∧ write2.sentAt + s.rd 0x4400 3 * 1250000 ≤ s.clk.fab ∧
       s.findJob ref1 = some { job with kind := 4, state := .queued }) ∧
    (let s := memberAs 1 5 1 { grp1 with buffer := [1], undrained := [2] }
     s.runs = true ∧ s.grp.buffer ≠ [] ∧ s.grp.undrained ≠ [] ∧ s.role ≠ 3 ∧ s.sequencer ≠ 0xFF) ∧
    (memberAs 1 5 1 { grp1 with buffer := [1] }).grp.undrained = [] := by
  decide +kernel

/-! ### Witnesses: life cycle, test access and debug -/

/-- Fuse words of BLANK, TEST_OPEN, PERSONALIZED, RETURNED, TERMINAL, and OWNED with FIELD_SEAL. -/
def testOpen : Nat := 0xFFFF
def personalized : Nat := 0xFFFF * (1 + 2 ^ 128 + 2 ^ 256)
def returned : Nat := personalized + 0xFFFF * 2 ^ 384
def terminal : Nat := 0xFFFF * 2 ^ 400
def fused (w : Nat) (s : State) : State := { s with lc := { s.lc with fuses := w } }
theorem witness_TapInstructionsAndCommandsComplete :
    (Map.wf up.dict = true ∧ (fused (State.reset.lc.fuses + 0xFFFF * 2 ^ 416) up).fieldSeal = true ∧ up.fieldSeal = false ∧ up.lifecycle = 4) ∧
    ((fused terminal up).lifecycle = 6 ∧ (fused terminal up).fieldSeal = false) ∧
    (let s := fused personalized up
     s.lifecycle ≠ 4 ∧ s.lifecycle ≠ 6 ∧ s.fieldSeal = false ∧ s.runs = true ∧ s.lc.extest = false) ∧
    ({ up with lc := { up.lc with extest := true } } : State).lc.extest = true ∧ (fused 0 up).lifecycle = 0 ∧ (fused testOpen up).lifecycle = 1 := by
  decide +kernel
theorem witness_TransitionsComplete :
    (∀ p ∈ [(1, 1), (4, 3), (5, 4), (11, 4)], let s := { fused 0 up with lc := { up.lc with fuses := 0, prog := some p.1, record := some (p.1, 0, p.2, 5) }, ent := { up.ent with pool := [9] } }
      Map.wf s.dict = true ∧ s.lc.prog = some p.1 ∧ s.lc.record = some (p.1, 0, p.2, 5) ∧ s.runs = true ∧ s.ent.pool = 9 :: []) ∧
    State.reset.phase ≠ .up ∧ ({ up with clk := { up.clk with gated := true } } : State).clk.gated = true ∧
    (let s := { ctlState 7 (zs 2548) with lc := { up.lc with fuses := personalized } }
     s.control ref1 7 = some (ctl 7 (zs 2548), chan1) ∧ s.lc.prog ≠ some 5) := by
  decide +kernel
theorem witness_DebugOpeningCompletes :
    (Map.wf up.dict = true ∧ up.fieldSeal = false ∧ up.fielded = true ∧ up.runs = true ∧ up.entropyState ≠ 1) ∧
    (let s := withDrbg (withRows up [(0x2800, 1, 1)]) 16
     s.entropyState = 1 ∧ DrbgReady s 0 1 ∧ (withRows up [(0x2800, 1, 1)]).drawFrom (tenantDrbg 0) 32 (drawInput 0 0) = none) ∧
    (let s := { up with lc := { up.lc with chal := some (5, 0) }, clk := { up.clk with fab := 600000 * 1250000 } }
     s.lc.chal = some (5, 0) ∧ 0 + 600000 * 1250000 ≤ s.clk.fab) ∧
    (let s := { up with lc := { up.lc with opening := some (3, false) } }
     s.openingArchived 3 = false ∧ Calm s ∧ s.runs = true) ∧
    (let s := { up with lc := { up.lc with opening := some (3, false) },
                        trav := { up.trav with archive := [{ bench1 3 0x0C true 38 with region := 8 }] } }
     s.openingArchived 3 = true) ∧
    (∃ p ∈ ({ up with tenants := [(0, { tenantInit with resetting := true })] } : State).tenants, p.2.resetting = true) := by
  unfold Calm DrbgReady; decide +kernel
theorem witness_TapAccessCompletes :
    (let s := fused personalized up
     s.fieldSeal = false ∧ s.runs = true ∧ s.lifecycle = 3 ∧ s.dtx.journal = none ∧ parseWrite (write1 0x1101 5 127) = some [dw 0x1101 5 127] ∧
       s.txnRefused tapAsker [dw 0x1101 5 127] = none ∧ [dw 0x1101 5 127].findIdx? (fun w => !s.certOk w) = none ∧ journalled [dw 0x1101 5 127] = true ∧
       s.ringBusy = false) ∧
    (fused testOpen up).lifecycle = 1 ∧ (fused testOpen up).debug = true ∧ (fused testOpen up).fielded = false ∧
    (fused personalized up).readRefused tapAsker 0 [(0x1101, 5, 0)] = none ∧
    memExists 1 0x3FFF = true ∧ memExists 1 0x4000 = false ∧ memExists 11 0 = false ∧
    (let s := { up with lc := { up.lc with debugOpen := true } }
     s.debug = true ∧ s.fielded = true) := by
  decide +kernel

/-! ### Witnesses: tamper, clocks, resets and whole steps -/

/-- The block with source 15 at a response. -/
def tamperAt (rank : Nat) : State := withRows up [(0x400F, 1, rank)]
theorem witness_TamperEventsComplete :
    (∀ r ∈ [0, 1, 2, 3, 4, 5, 6, 7], (tamperAt r).fitted 15 = true ∧ (tamperAt r).response 15 = r ∧ (tamperAt r).clk.onBattery = false ∧
      Map.wf (tamperAt r).dict = true ∧ Calm (tamperAt r) ∧ (tamperAt r).tamp.rank = 0 ∧ (tamperAt r).phase = .up ∧ (tamperAt r).clk.gated = false) ∧
    ((tamperAt 3).ringBusy = false ∧ Map.find (tamperAt 2).trav.tamperSec 15 = none) ∧
    3 ≤ ({ tamperAt 3 with tamp := { up.tamp with rank := 3 } } : State).tamp.rank ∧ (withRows State.reset [(0x400F, 1, 6)]).phase = .down ∧
    ({ tamperAt 7 with clk := { up.clk with gated := true } } : State).clk.gated = true ∧
    (let j := { job with key := key1.handle }
     let s := { withKey (tamperAt 3) key1 with jobs := [j] }
     s.findJob ref1 = some j ∧ s.holdsSecret j = true) ∧
    ({ up with tamp := { up.tamp with conds := [15] } } : State).asserted 15 = true ∧
    (let s := { up with clk := { up.clk with onBattery := true } }
     s.clk.onBattery = true ∧ onBatterySampled 14 = true ∧ s.fitted 14 = true ∧ s.asserted 14 = false) ∧
    (let s := { State.reset with phase := .hold 0, tamp := { up.tamp with conds := [0], restarted := [0], clear := 99 } }
     s.phase = .hold 0 ∧ s.holdAsserted = true) ∧
    (let s := { State.reset with phase := .hold 0, tamp := { up.tamp with restarted := [0], clear := 99 } }
     s.holdAsserted = false ∧ s.clk.gated = false ∧ 99 ≤ s.tamp.clear) ∧
    ({ State.reset with phase := .hold 0, tamp := { up.tamp with restarted := [0], clear := 98 } } : State).tamp.clear < 99 := by
  unfold Calm; decide +kernel
/-- REFCLK has been lost while the block was up. -/
def lost (gated : Bool) (waiting : Option Nat) : State :=
  { up with clk := { up.clk with refclk := false, gated := gated, coasting := !gated, waiting := waiting } }
theorem witness_ClockEventsComplete :
    (Map.wf up.dict = true ∧ up.clk.refclk = true ∧ up.phase ≠ .down ∧ up.compatClock = false ∧ (withRows up [(0x1200, 2, 1)]).compatClock = true) ∧
    ((lost true none).clk.refclk = false ∧ (lost true none).phase = .up ∧ (lost true none).tamp.clockRank = 0 ∧ (lost true none).clk.waiting = none ∧
      Calm (lost true none) ∧ (∀ p ∈ (lost true none).chans, (lost true none).keepaliveOver p.2 = false)) ∧
    5 ≤ ({ lost true none with tamp := { up.tamp with clockRank := 5 } } : State).tamp.clockRank ∧
    (lost false none).clk.gated = false ∧ (lost true (some 2)).clk.waiting = some 2 ∧ State.reset.phase = .down ∧ up.clk.xtal = true ∧
    ({ up with clk := { up.clk with xtal := false } } : State).clk.xtal = false ∧ up.clusterIdle 15 = true ∧ up.kern.bound = [] := by
  unfold Calm; decide +kernel
theorem witness_ResetsAndStartsComplete :
    (Map.wf State.reset.dict = true ∧ State.reset.phase = .down ∧ State.reset.rd 0x1201 1 = 0 ∧ State.reset.clk.refclk = true ∧ State.reset.clk.onBattery = false ∧
      State.reset.lc.prog = none ∧ State.reset.tamp.restarted = [] ∧ State.reset.trav.ring = []) ∧
    (up.phase ≠ .down ∧ up.clk.gated = false ∧ (lost true none).clk.gated = true) ∧
    (let s := withRows State.reset [(0x1201, 1, 1)]
     s.rd 0x1201 1 ≠ 0 ∧ s.tamp.restarted = []) ∧
    (let s := { withRows State.reset [(0x1201, 1, 3), (0x400F, 1, 5)] with tamp := { up.tamp with conds := [15], restarted := [15] } }
     s.rd 0x1201 1 ≠ 0 ∧ s.tamp.restarted = [15] ∧ s.asserted 15 = true ∧ 5 ≤ s.response 15) := by
  decide +kernel
theorem witness_StepRunsTheFrontCommand : (step { up with pending := [.bypass] } = exec .bypass up) ∧ up.pending = [] := by
  exact ⟨rfl, rfl⟩
theorem witness_ProgrammedFusesStay : Goes (step up) ∧ segSet up.lc.fuses 16 = true := ⟨⟨tick up, rfl⟩, by decide +kernel⟩
theorem witness_ClusterMemoryStaysCanonical : MemoryInv up ∧ Goes (step up) := ⟨⟨rfl, by intro p h; cases h⟩, ⟨tick up, rfl⟩⟩
theorem witness_DictionaryAndMapsStayCanonical : MapsInv up ∧ Goes (step up) := ⟨⟨rfl, rfl, rfl, rfl, rfl⟩, ⟨tick up, rfl⟩⟩
theorem witness_LanesAndOctetsAreLaidOut : (3 : Nat) < 4 ∧ 17 < 18 ∧ (255 : Nat) < 256 ^ 1 ∧ beBytes 2 0x1234 = [0x12, 0x34] ∧ laneAt 18 (5 * 2 ^ 54) 3 = 5 := by
  decide

/-! ### Witnesses: further clauses -/

/-- A Q0 whose modulus has grain 36. -/
theorem witness_SamplingAndCompactionComplete_grain : let s := withLe (leOn.setQ 0 (presetQ 1))
    Issues s { mw with sp := 2, pat := 0x0B } none ∧ descOk ((s.le 0).desc 0) 0 = false ∧ descOk (((withLe leOn).le 0).desc 0) 0 = true := by
  unfold Issues; decide +kernel

/-- Port 3 down, with port 0 as the other port of tenant 0's binding and of PTP. -/
theorem witness_LinkEventsComplete_moves :
    (let s := withRows linked [(0x1440, 1, 0), (0x1440, 2, 3), (0x1403, 0x10, 2), (0x1101, 1, 0), (0x1101, 2, 3)]
     s.linkUp 0 = true ∧ s.linkUp 3 = true ∧ s.rd 0x1440 1 = 0 ∧ s.rd 0x1440 2 = 3 ∧ (s.ten 0).moved = none ∧ s.ptp.cur = some 0 ∧ s.ptpBackup = some 3 ∧
       Map.wf s.dict = true) ∧
    (let s := withRows up [(0x1440, 1, 0), (0x1440, 2, 3)]
     s.linkUp 0 = false ∧ s.mayLink 3 25 = true ∧ s.rd 0x1440 1 = 0 ∧ s.rd 0x1440 2 = 3 ∧ (s.ten 0).moved = none) ∧
    (let s := { linked with ports := [(0, { portInit with retrain := true })] }
     (s.port 0).retrain = true ∧ s.linkUp 0 = true) ∧
    State.reset.phase ≠ .up ∧ up.linkUp 0 = false ∧ up.mayLink 3 11 = false ∧ linked.failedOver 0 = false ∧
    (let s := { up with clk := { up.clk with sd := false } }
     s.clk.sd = false ∧ s.phase = .up ∧ s.clk.gated = false) ∧
    ({ up with clk := { up.clk with sd := false, gated := true } } : State).clk.gated = true := by
  decide +kernel

/-- A tagged frame at the longest length, one for the port's own address of a protocol it does not take, and a whole frame it takes. -/
theorem witness_PortFramesComplete_filter :
    (let f : EthFrame := { eth1 with vlan := some 1, len := 9213 }
     f.vlan ≠ none ∧ 9216 < f.len + 4) ∧
    ({ eth1 with etherType := 0x8808 } : EthFrame).etherType = 0x8808 ∧ eth1.vlan = none ∧ linked.rd 0x1400 5 % 4096 = 0 ∧ eth1.fcsOk = true ∧
    bitAt eth1.dst 40 = false ∧ 0 ∈ linked.answersFor 0 ∧ eth1.len ≤ linked.rd 0x1400 4 ∧
    (linked.port 0).echoCount < 1000 ∧ (withRows linked [(0x1410, 3, 0)]).rd 0x1410 3 ≠ 1 ∧ 1472 < (zs 1473).length ∧
    (∀ q ∈ linked.answersFor 0, linked.rd (0x1400 + q) 7 ≠ (6 : BitVec 32).toNat) := by
  decide +kernel
/-- A port that stands in for port 0, whose address it answers for. -/
theorem witness_PortFramesComplete_standsIn :
    (let s := { withRows linked [(0x1440, 1, 0), (0x1440, 2, 3), (0x1403, 0x10, 2), (0x1400, 0x10, 0)] with tenants := [(0, { tenantInit with moved := some 3 })] }
     s.phase = .up ∧ s.linkUp 3 = true ∧ 0 ∈ s.answersFor 3 ∧ s.rd 0x1400 7 = (5 : BitVec 32).toNat) ∧
    (let s := { linked with ports := [(0, { portInit with announce := some [1] })], rwork := [.announce 0] }
     (s.port 0).announce = some [1] ∧ (reserveOn s).reserveRuns (.announce 0) = true ∧ 0 ∈ s.announceEncaps 0 ∧ ([1] : Bytes).length ≤ 1392) := by
  decide +kernel

/-- Following at port 0 with a backup at port 1, which hears its own master. -/
def backed (near : Nat) : State :=
  withRows { linked with ptp := ⟨some 0, [(0, ptpAt 0 0), (1, { ptpAt near 0 with near := near })], 0⟩, clk := { up.clk with fab := 3, datum := 10 ^ 9 } }
    [(0x1101, 2, 1), (0x1401, 0x10, 2)]
theorem witness_DatumEventsComplete_backup :
    (let s := backed 0
     s.phase = .up ∧ s.ptpOn 1 = true ∧ s.ptp.cur ≠ some 1 ∧ s.ptpBackup = some 1 ∧ (s.ptpPort 1).master = some ptp1 ∧ s.noMaster 1 = true ∧
       s.ptpFits ⟨s.rd 0x1101 3, s.rd 0x1101 5⟩ = true ∧ s.ptpOn 2 = false ∧ s.backupLocked = none) ∧
    (backed 16).backupLocked = some 1 ∧ (backed 16).noMaster 0 = true ∧
    (let s := following 0 15 3
     (s.ptpPort 0).stepped = false ∧ ({ ptpAt 0 0 with stepped := true } : PtpPort).stepped = true) := by
  decide +kernel

/-- A whole frame of a HANDSHAKE for tenant 0 with identifier 9, and of an ANNOUNCE; and a completion that has gone out. -/
theorem witness_MessagesComplete_whole :
    (∀ p ∈ [(0xA, 9), (0x9, 4)], let f := frame p.1 0x60 0 p.2 0 8 0 1 (zs 8)
      chanState.taken f = true ∧ f.badFormat = false ∧ f.badCarrier = false ∧ chanState.findPart f.part = none ∧ f.segmentOk = true ∧ f.segCount = 1 ∧
        f.length = f.inside.length ∧ f.length ≤ 65536 ∧ f.kind = p.1 ∧ f.queue = 0 ∧ f.handle = 0 ∧ f.opcode = 0 ∧ f.key = 0 ∧ f.seq = p.2) ∧
    (let j := { job with state := .released, sentAs := some (0, 0) }
     let s := { chanState with jobs := [j], chans := [(0, { chan1 with released := 0 })] }
     s.findJob ⟨0, 1⟩ = some j ∧ chan1.low < 1 ∧ (s.egress 0).isSome = true) := by
  decide +kernel
/-- A kernel of a NOP, with an image of its own, and an EXIT at a safe point. -/
def kernelTwo : Kernel := ⟨5, zs 12 ++ [0x30, 0, 0, 2] ++ zs 24 ++ beBytes 4 16386 ++ zs 20 ++ beBytes 6 0 ++ beBytes 6 (2 ^ 46 + 7 * 2 ^ 14)⟩
/-- The first nanoword takes one cycle. -/
def kernelRuns (k : Kernel) (latched : List Nat) : State :=
  { withJob { job with kernel := some k, units := [0] } with
    kern := { up.kern with nano := [(0, 2 ^ 224)] }, les := [(0, { leOn with regs := { leRegsInit with upc := 0x3000 } })], units := [(0, { engineInit with job := some ref1, latched := latched })] }
theorem witness_OwnerKernelsComplete_next : let s := kernelRuns kernelTwo []
    let l := s.le 0
    s.kernelJob ref1 = some ({ job with kernel := some kernelTwo, units := [0] }, kernelTwo, 0) ∧ l.job = some ref1 ∧ Calm s ∧
      job.charged.le + (l.waited - l.billed) + 2 < kernelTwo.cost.2.le ∧ job.charged.hc = 0 ∧ kernelTwo.owns l.regs.upc = true ∧ l.waiting = none ∧
      Map.wf l.streams = true ∧ (s.engine 0).latched = [] ∧ s.wordBad 0 = false ∧ (s.cluster (clusterOf 0)).badWords.contains (true, 0) = false ∧
      mwNano (kernelTwo.word 0) = 0 ∧ s.nanoClean 0 = true ∧ s.nanoCycles 0 = 1 ∧ mwWait (kernelTwo.word 0) = 0 ∧ mwSeq (kernelTwo.word 0) = 0 ∧
      bitAt (kernelTwo.word 0) 47 = false ∧ l.regs.upc = 0x3000 ∧ kernelTwo.owns 0x3001 = true ∧ bitAt (kernelTwo.word 1) 46 = true := by
  unfold Calm; decide +kernel
theorem witness_OwnerKernelsComplete_exit : let k := kernelOf (7 * 2 ^ 14)
    let s := kernelRuns k []
    s.kernelJob ref1 = some ({ job with kernel := some k, units := [0] }, k, 0) ∧ s.nanoClean 0 = true ∧ s.nanoCycles 0 = 1 ∧ mwSeq (k.word 0) = 7 ∧
      ((s.le 0).areg (aIdx (BitVec.ofNat 5 (mwSrc2 (k.word 0))))) = ⟨0, false⟩ ∧ 0 ≤ (s.le 0).outMax := by
  decide +kernel
theorem witness_OwnerKernelsComplete_limit : let s := kernelState (2 ^ 46) [4]
    let k := kernelOf (2 ^ 46)
    job.charged.le + s.pathLeft 0 < k.cost.2.le ∧ (s.le 0).streams = [] ∧ k.cost.2.le ≤ 1 + s.pathLeft 0 ∧ k.cost.2.le ≤ 16385 ∧ mwSeq (k.word 0) ≠ 7 ∧
      bitAt (k.word 0) 46 = true ∧ (s.engine 0).latched ≠ [] := by
  decide +kernel
theorem witness_OwnerKernelsComplete_commit :
    (let s := { withRows up [(0x2421, 3, 2)] with kern := { up.kern with verifying := some (kernelOf 0) } }
     s.runs = true ∧ s.kern.verifying = some (kernelOf 0) ∧ s.rd 0x2421 3 ≠ 1 ∧ s.rangeCheck (kernelOf 0) = none ∧ Map.wf s.dict = true) := by
  decide +kernel

/-- A draw that a handshake waits for, with its time and without. -/
theorem witness_HandshakesComplete_stalls :
    (let h := { hs0 with stalledAt := some 0 }
     let s := { withRows linked [(0x2800, 1, 1)] with hs := [h], clk := { up.clk with fab := 2500 } }
     s.runs = true ∧ s.findHs 0 5 hs0.peer = some h ∧ s.entropyState ≠ 2 ∧ s.serving (tenantDrbg 0) = false ∧ 0 + 2500 ≤ s.clk.fab ∧ h.tenant = 0) ∧
    (let s := { withRows linked [(0x2800, 1, 1)] with hs := [hs0] }
     s.findHs 0 5 hs0.peer = some hs0 ∧ s.serving (tenantDrbg 0) = false ∧ hs0.stalledAt = none) ∧
    (let s := withRows linked [(0x2800, 1, 2)]
     s.entropyState = 2) ∧
    (let s := { linked with hs := [hs0], tenants := [(0, { tenantInit with resetting := true })] }
     (s.ten 0).resetting = true ∧ s.findHs 0 5 hs0.peer = some hs0) ∧
    (withRows linked [(0x1800, 1, 0)]).rd 0x1800 1 ≠ 1 ∧ ({ hs0 with enrol := true } : Handshake).enrol = true ∧ linked.lifecycle ≠ 3 ∧
    linked.findHs 0 5 hs0.peer = none ∧ linked.hsIn.contains hsr = false ∧ hsr.tenant < 64 := by
  decide +kernel

/-- A safe point that acts on nothing: at an engine that waits for a draw, whose KUM has its mark, or without its clock. -/
theorem witness_LapsAndSafePointsComplete_held :
    ((latchedState job []).engine 0).latched = [] ∧
    (let s := { latchedState job [4] with les := [(0, { leOn with waiting := some 7 })] }
     s.drawHeld 0 = true ∧ (latchedState job [4]).drawHeld 0 = false) ∧
    (let s := { latchedState job [4] with keys := { up.keys with commits := [{ commit1 with marked := true }] } }
     s.marked ref1 = true ∧ (latchedState job [4]).marked ref1 = false) ∧
    (∀ l ∈ [[2, 4], [1, 3], [3, 4], [5, 4], [6]], l ≠ [] ∧ l ≠ [4]) := by
  decide +kernel
/-- A suspended job's save area reads as written. -/
theorem witness_LapsAndSafePointsComplete_area : let s := latchedState { job with units := [0] } [5]
    Map.wf s.cmem = true ∧ (s.le 0).scratchAt + 581 ≤ 2 ^ 18 ∧ (s.le 0).contextWords.length = 581 := by
  decide +kernel

/-- A matrix entry that nothing reads, and one that a suspended reader waits for. -/
theorem witness_FencesLostWordsAndCopiesComplete_matrix :
    (let s := { up with mcache := [⟨5, 1, [], none⟩] }
     (∀ p ∈ s.les, p.2.w4 = none) ∧ s.saved = []) ∧
    (let l := { leOn with w4 := some ⟨5, 32, false, [], none⟩ }
     let s := { withJob job with mcache := [⟨5, 1, [], none⟩], saved := [(0, l)] }
     (∃ p ∈ s.saved, (∃ m, p.2.w4 = some m ∧ m.digest = 5 ∧ m.writing = false) ∧ ∃ j ∈ s.jobs, j.order = p.1)) := by
  refine ⟨by decide +kernel, (0, { leOn with w4 := some ⟨5, 32, false, [], none⟩ }), List.mem_cons_self, ⟨_, rfl, rfl, rfl⟩, job, List.mem_cons_self, rfl⟩

/-- A job that has waited for a DRBG that does not serve. -/
theorem witness_EntropyEventsComplete_wait : let j := { job with state := .queued, waitSince := some 0 }
    let s := { withJob j with clk := { up.clk with fab := 2500000 } }
    Nat.max 0 (s.drbg (tenantDrbg j.tenant)).heldAt + 2500000 ≤ s.clk.fab ∧ s.serving (tenantDrbg j.tenant) = false ∧ j.kind = 0x1 := by
  decide +kernel

/-- An image that is verified at the tick, and one that is not. -/
theorem witness_StepRunsTheFrontCommand_verifies :
    (let s := { withRows up [(0x2421, 3, 1)] with kern := { up.kern with verifying := some (kernelOf 0) } }
     s.pending = [] ∧ Map.wf s.dict = true ∧ s.kern.verifying = some (kernelOf 0) ∧ s.rd 0x2421 3 = 1 ∧ s.runs = true ∧ (s.loaderChecks (kernelOf 0)).isSome = true) ∧
    up.kern.verifying = none := by
  decide +kernel

theorem witness_FlashChannelsAndResetLinesComplete_turn :
    (let s := flashState 1 [(0x311F, 0x30, 2)] [(0x311F, 1, 2)]
     s.regionTurn 31 1 = true ∧ s.rd 0x311F 0x31 = 0xFF ∧ 1 < s.regionCount 31) ∧
    (let s := { up with gate := { up.gate with since := [(31, 0)] } }
     s.pins.pwrgd = true ∧ s.lineHeld 31 = false) := by
  decide +kernel
/-- A suspended engine whose area still holds its words, and one whose area does not. -/
theorem witness_DispatchGivesADefinedEngine_area : let u := (suspendedState.rebalance false).accrueAll
    let l := { leOn with scratchAt := 172032 }
    Map.find u.saved suspendedJob.order = some l ∧ (u.saveContext 60 l).areaWords 15 l.scratchAt l.contextWords.length = l.contextWords ∧
      (suspendedState.rebalance false).accrueAll.earlierSuspended suspendedJob = false := by
  decide +kernel

end Tests
end Sys2Proof
end

section
/-! How lanes and octet strings lie in a number (R1, R2). -/

namespace Sys2Proof
namespace Machine

/-- Bit `b` of lane `i` is bit `g * i + b` of the whole. -/
theorem testBit_laneAt {g b : Nat} (v i : Nat) (hb : b < g) : (laneAt g v i).testBit b = v.testBit (g * i + b) := by
  rw [laneAt, Nat.testBit_mod_two_pow, Nat.testBit_div_two_pow, decide_eq_true hb, Bool.true_and, Nat.add_comm]

/-- A lane as wide as the value is the value. -/
theorem laneAt_zero_of_lt {g v : Nat} (h : v < 2 ^ g) : laneAt g v 0 = v := by
  rw [laneAt, Nat.mul_zero, Nat.pow_zero, Nat.div_one, Nat.mod_eq_of_lt h]

@[simp] theorem length_beBytes (n v : Nat) : (beBytes n v).length = n := by
  induction n with
  | zero => rfl
  | succ n ih => rw [beBytes, List.length_cons, ih]

/-- Reading on from `a` puts `a` above all the octets of `b`. -/
theorem foldl_eq_add_beNat (b : Bytes) (a : Nat) : b.foldl (fun a x => a * 256 + x.toNat) a = a * 256 ^ b.length + beNat b := by
  induction b generalizing a with
  | nil => simp [beNat]
  | cons x b ih => rw [beNat, List.foldl_cons, List.foldl_cons, ih, ih (0 * 256 + x.toNat), List.length_cons]; ring

/-- The first octet is the most significant. -/
theorem beNat_cons (x : BitVec 8) (b : Bytes) : beNat (x :: b) = x.toNat * 256 ^ b.length + beNat b := by
  rw [beNat, List.foldl_cons, foldl_eq_add_beNat, Nat.zero_mul, Nat.zero_add]

/-- `n` octets spell a number modulo `256 ^ n`. -/
theorem beNat_beBytes (n v : Nat) : beNat (beBytes n v) = v % 256 ^ n := by
  induction n with
  | zero => rw [Nat.pow_zero, Nat.mod_one]; rfl
  | succ n ih =>
    rw [beBytes, beNat_cons, ih, length_beBytes, BitVec.toNat_ofNat, Nat.mod_pow_succ (b := 256), Nat.add_comm, Nat.mul_comm]

/-- Octet `i` of `n` has `n - 1 - i` octets below it. -/
theorem beBytes_getD {n i : Nat} (v : Nat) (hi : i < n) : (beBytes n v).getD i 0 = BitVec.ofNat 8 (v / 256 ^ (n - 1 - i)) := by
  induction n generalizing i with
  | zero => omega
  | succ n ih =>
    rw [beBytes]
    cases i with
    | zero => rfl
    | succ i => rw [List.getD_cons_succ, ih (by omega), Nat.sub_sub, Nat.add_comm 1 i]; rfl

/-- Bit `b` of octet `i` of `n` is bit `8 * (n - 1 - i) + b` of the number. -/
theorem getLsbD_beBytes {n i b : Nat} (v : Nat) (hi : i < n) (hb : b < 8) :
    ((beBytes n v).getD i 0).getLsbD b = v.testBit (8 * (n - 1 - i) + b) := by
  rw [beBytes_getD v hi, BitVec.getLsbD_ofNat, decide_eq_true hb, Bool.true_and, show 256 = 2 ^ 8 from rfl, ← Nat.pow_mul,
    Nat.testBit_div_two_pow, Nat.add_comm]

/-- Settles O59: the bits of a lane and of an octet are bits of the number at a fixed offset, and the octets spell the number back. -/
theorem lanesAndOctetsAreLaidOut : Obligations.LanesAndOctetsAreLaidOut := by
  unfold Obligations.LanesAndOctetsAreLaidOut
  refine ⟨fun w => ⟨fun i _ b hb => ?lane18, fun j _ b hb => ?lane36, ?lane72⟩, fun v w _ b hb => ?word,
    fun n v hv => ⟨?value, length_beBytes n v, fun i hi b hb => ?octet⟩⟩
  case lane18 | lane36 | word => exact testBit_laneAt _ _ hb
  case lane72 => exact laneAt_zero_of_lt w.isLt
  case value => rw [beNat_beBytes, Nat.mod_eq_of_lt hv]
  case octet => exact getLsbD_beBytes v hi hb

end Machine
end Sys2Proof
end

section
/-! A borrowed resumption whose turn has not come leaves the engine as it was (R138, R140): the counterexample to O60. -/

namespace Sys2Proof
namespace Machine

/-- A suspended job that would go on as borrowed work waits for its turn among the borrowers (R140). -/
theorem State.admitSuspended_of_turnFits_eq_false {s : State} {j : Job} {b : Bool} (units : List Nat) (ha : s.admission j = some b)
    (ht : s.turnFits j b = false) : s.admitSuspended j units = s := by
  rw [State.admitSuspended, ha]
  exact if_pos (.inr (by rw [ht]; rfl))

/-- At JOB_DISPATCH of a suspended job whose turn has not come, only the units follow the entries and the charges accrue. -/
theorem execJobDispatch_of_turnFits_eq_false {s : State} {r : JobRef} {j : Job} {b : Bool} (units : List Nat) (hf : s.findJob r = some j)
    (hs : j.state = .suspended) (ha : (s.rebalance false).accrueAll.admission j = some b)
    (ht : (s.rebalance false).accrueAll.turnFits j b = false) :
    execJobDispatch r units s = .next (s.rebalance false).accrueAll := by
  simp only [execJobDispatch, hf, hs, State.admitSuspended_of_turnFits_eq_false units ha ht, if_true, ite_self]

/-- Registers saved in another state than reset are not restored as reset: what the words of an area spell lists every V register. -/
theorem State.restoredRegs_ne_leRegsInit {s : State} {c : Nat} {l : Le} (hl : l.regs ≠ leRegsInit) : s.restoredRegs c l ≠ leRegsInit := by
  rw [State.restoredRegs]
  split
  · exact hl
  · exact fun h => List.cons_ne_nil _ _ (congrArg LeRegs.v h)

namespace OutOfTurn

/-- An owner kernel that costs one LE cycle and takes ten blocks of scratch. -/
def kernel : Kernel :=
  ⟨5, List.replicate 12 0 ++ [0x30, 0, 0, 1, 0, 0] ++ List.replicate 4 0 ++ [0, 10] ++ List.replicate 12 0 ++ beBytes 4 1 ++ beBytes 4 100 ++
    List.replicate 20 0⟩

/-- The job that tenant `t` has on channel `t`: it ran the kernel on LE 62 as borrowed work, and was suspended. -/
def job (t : Nat) : Job :=
  { chan := t, seq := 1, handle := 65536, hdrTenant := t, order := t, tenant := t, queue := 0, kind := 1, opcode := 0x8005, key := 0, cookie := 0, length := 0,
    segCount := 1, segs := [], firstAt := 0, needsAck := false, credits := 0, reserve := 0, state := .suspended, units := [62], borrowed := true,
    admitted := t, charged := noWork, lapCharged := noWork, lapBorrowed := noWork, epoch := 0, retried := false, faultUnit := none, waitSince := none,
    status := 0, detail := 0, result := [], resKey := 0, index := none, stamp := none, kernel := some kernel, rnd := none, sentAs := none, prec := false,
    isSealed := false, switched := false, slotless := false, kumChecked := false, extra := noWork, mid := 0, drawn := [] }

/-- The engine that was saved with tenant `t`'s job, before the kernel's first microword; its scratch is ten blocks of the pool. -/
def engine (t : Nat) : Le :=
  { leInit with regs := { leRegsInit with upc := 0x3000 }, job := some (job t).ref, scratchAt := scratchBase + 5120 * t, scratch := 5120, outMax := 32 }

theorem engine_regs_ne : (engine 1).regs ≠ leRegsInit := by decide

/-- The block with allowances of 0, LE 0 to LE 61 fenced and LE 63 due to the reserve (R130), so that LE 62 is the only one of the pool that idles; the jobs of tenants 0
and 1 are suspended, with their contexts in their save areas. -/
def state : State :=
  (({ State.reset with
      phase := .up
      units := (List.range 62).map (fun u => (u, { engineInit with fenced := true }))
      jobs := [job 0, job 1]
      order := 2
      saved := [(0, engine 0), (1, engine 1)] } : State).saveContext 62 (engine 0)).saveContext 62 (engine 1)

/-- The units of that block after they have followed the entries, and its charges after they have accrued. -/
abbrev settled : State := (state.rebalance false).accrueAll

theorem findJob_state : state.findJob (job 1).ref = some (job 1) := by decide +kernel

theorem tenantServed_state : state.phase = .up ∧ state.clk.gated = false ∧ (state.ten (job 1).tenant).resetting = false ∧
    state.rd (0x1800 + (job 1).tenant) 1 ≠ 0 := by decide +kernel

/-- Tenant 1's job could go on as borrowed work on LE 62, and no earlier suspended job of that tenant waits; but two borrowers wait for that one LE, and
tenant 0 comes first (R140). -/
theorem waits_settled : settled.admission (job 1) = some true ∧ settled.earlierSuspended (job 1) = false ∧ settled.resumeFits (job 1) [62] = true ∧
    Map.find settled.saved (job 1).order = some (engine 1) ∧ settled.turnFits (job 1) true = false ∧ (settled.le 62).regs = leRegsInit := by
  decide +kernel

end OutOfTurn

/-- Refutes O60: its clause on resumption has no premise that it is the job's turn (`State.turnFits`). A suspended job that is admissible as borrowed work only
waits while another tenant's stands before it in the round-robin of R140; JOB_DISPATCH then leaves the engine at its reset registers. -/
theorem not_dispatchGivesADefinedEngine : ¬ Obligations.DispatchGivesADefinedEngine := by
  unfold Obligations.DispatchGivesADefinedEngine
  intro h
  obtain ⟨hphase, hgated, hresetting, hserved⟩ := OutOfTurn.tenantServed_state
  obtain ⟨hadmission, hearlier, hfits, hsaved, hturn, hreset⟩ := OutOfTurn.waits_settled
  obtain ⟨t, ht, hregs, -⟩ := (h OutOfTurn.state _ _ 62 OutOfTurn.findJob_state hphase hgated hresetting hserved (by decide)).2 rfl
    true (OutOfTurn.engine 1) hadmission hearlier hfits hsaved
  have hwaits : exec (.jobDispatch (OutOfTurn.job 1).ref [62]) OutOfTurn.state = .next OutOfTurn.settled :=
    (exec_jobDispatch _ _ _).trans (execJobDispatch_of_turnFits_eq_false [62] OutOfTurn.findJob_state rfl hadmission hturn)
  obtain rfl : OutOfTurn.settled = t := Host.Outcome.next.inj (hwaits.symm.trans ht)
  exact State.restoredRegs_ne_leRegsInit OutOfTurn.engine_regs_ne (hregs.symm.trans hreset)

end Machine
end Sys2Proof
end

section
/-! What an operation can reach: the parts of the state in which the state after it may differ, and the forms that it keeps. -/

namespace Sys2Proof

theorem Map.wf_update {α : Type} (m : Map α) (k : Nat) (f : α → α) (h : Map.wf m = true) : Map.wf (Map.update m k f) = true := by
  unfold Map.update
  split
  · exact Map.wf_put _ _ _ h
  · exact h

theorem Map.above_mapVals {α : Type} (f : α → α) (m : Map α) (b : Nat) : Map.above b (Map.mapVals f m) = Map.above b m := by
  induction m generalizing b with
  | nil => rfl
  | cons p m ih => simp only [Map.mapVals, List.map_cons, Map.above] at ih ⊢; rw [ih]

theorem Map.wf_mapVals {α : Type} (f : α → α) (m : Map α) (h : Map.wf m = true) : Map.wf (Map.mapVals f m) = true := by
  cases m with
  | nil => rfl
  | cons p m => exact (Map.above_mapVals f m p.1).trans h

namespace Machine

/-- The parts of the state. -/
inductive Part where
  | pending | free | phase | dict | dtx | clk | pins | ports | ptp | tx | waits | parts | hsIn | chans | gens | freed | hs | jobs | order | tenants | lap
  | rwork | units | les | saved | cmem | clus | mcache | kern | dstreams | ent | keys | stampSeq | flash | gate | trav | grp | lc | tamp | flt

/-- What a part is. -/
def Part.Carrier : Part → Type
  | .pending => List Instr
  | .free | .order | .stampSeq => Nat
  | .phase => Phase
  | .dict | .gens => Map Nat
  | .dtx => Dtx
  | .clk => Clocks
  | .pins => Pins
  | .ports => Map Port
  | .ptp => Ptp
  | .tx => List Wire
  | .waits => List TxWait
  | .parts => List Partial
  | .hsIn => List HsReq
  | .chans => Map Channel
  | .freed => List Nat
  | .hs => List Handshake
  | .jobs => List Job
  | .tenants => Map Tenant
  | .lap => Lap
  | .rwork => List ReserveItem
  | .units => Map Engine
  | .les | .saved => Map Le
  | .cmem => Map Tagged
  | .clus => Map Cluster
  | .mcache => List Matrix
  | .kern => Stores
  | .dstreams => Map DStream
  | .ent => Entropy
  | .keys => Keys
  | .flash => Map Flash
  | .gate => Gate
  | .trav => Traverse
  | .grp => Group
  | .lc => LifeCycle
  | .tamp => Tamper
  | .flt => Faults

/-- A part of a state. -/
def Part.of (s : State) : (p : Part) → p.Carrier
  | .pending => s.pending | .free => s.free | .phase => s.phase | .dict => s.dict | .dtx => s.dtx | .clk => s.clk | .pins => s.pins | .ports => s.ports
  | .ptp => s.ptp | .tx => s.tx | .waits => s.waits | .parts => s.parts | .hsIn => s.hsIn | .chans => s.chans | .gens => s.gens | .freed => s.freed
  | .hs => s.hs | .jobs => s.jobs | .order => s.order | .tenants => s.tenants | .lap => s.lap | .rwork => s.rwork | .units => s.units | .les => s.les
  | .saved => s.saved | .cmem => s.cmem | .clus => s.clus | .mcache => s.mcache | .kern => s.kern | .dstreams => s.dstreams | .ent => s.ent
  | .keys => s.keys | .stampSeq => s.stampSeq | .flash => s.flash | .gate => s.gate | .trav => s.trav | .grp => s.grp | .lc => s.lc | .tamp => s.tamp
  | .flt => s.flt

/-- A set of parts, one bit for each: one operation compares two sets. -/
abbrev Parts := Nat

/-- The set of the parts listed. -/
def parts : List Part → Parts
  | [] => 0
  | p :: l => Nat.lor (Nat.shiftLeft 1 p.ctorIdx) (parts l)

/-- A part is in a set. -/
def inParts (k : Parts) (p : Part) : Bool := Nat.testBit k p.ctorIdx

/-- Every part of `a` is one of `b`. -/
def covers (a b : Parts) : Bool := Nat.beq (Nat.lor a b) b

theorem covers_iff {a b : Parts} : covers a b = true ↔ a ||| b = b := by
  rw [covers, Nat.beq_eq]
  exact Iff.rfl

theorem covers_trans {a b c : Parts} (h : covers a b = true) (g : covers b c = true) : covers a c = true := by
  rw [covers_iff] at *
  rw [← g, ← Nat.or_assoc, h]

theorem inParts_of_covers {a b : Parts} (h : covers a b = true) {p : Part} (hp : inParts b p = false) : inParts a p = false := by
  have hor : (inParts a p || inParts b p) = inParts b p := by
    rw [inParts, inParts, ← Nat.testBit_or, covers_iff.1 h]
  rw [hp, Bool.or_false] at hor
  exact hor

/-- `t` with the parts that are not in `k` as in `s`. -/
def State.keepBut (k : Parts) (s t : State) : State :=
  { pending := bif inParts k .pending then t.pending else s.pending
    free := bif inParts k .free then t.free else s.free
    phase := bif inParts k .phase then t.phase else s.phase
    dict := bif inParts k .dict then t.dict else s.dict
    dtx := bif inParts k .dtx then t.dtx else s.dtx
    clk := bif inParts k .clk then t.clk else s.clk
    pins := bif inParts k .pins then t.pins else s.pins
    ports := bif inParts k .ports then t.ports else s.ports
    ptp := bif inParts k .ptp then t.ptp else s.ptp
    tx := bif inParts k .tx then t.tx else s.tx
    waits := bif inParts k .waits then t.waits else s.waits
    parts := bif inParts k .parts then t.parts else s.parts
    hsIn := bif inParts k .hsIn then t.hsIn else s.hsIn
    chans := bif inParts k .chans then t.chans else s.chans
    gens := bif inParts k .gens then t.gens else s.gens
    freed := bif inParts k .freed then t.freed else s.freed
    hs := bif inParts k .hs then t.hs else s.hs
    jobs := bif inParts k .jobs then t.jobs else s.jobs
    order := bif inParts k .order then t.order else s.order
    tenants := bif inParts k .tenants then t.tenants else s.tenants
    lap := bif inParts k .lap then t.lap else s.lap
    rwork := bif inParts k .rwork then t.rwork else s.rwork
    units := bif inParts k .units then t.units else s.units
    les := bif inParts k .les then t.les else s.les
    saved := bif inParts k .saved then t.saved else s.saved
    cmem := bif inParts k .cmem then t.cmem else s.cmem
    clus := bif inParts k .clus then t.clus else s.clus
    mcache := bif inParts k .mcache then t.mcache else s.mcache
    kern := bif inParts k .kern then t.kern else s.kern
    dstreams := bif inParts k .dstreams then t.dstreams else s.dstreams
    ent := bif inParts k .ent then t.ent else s.ent
    keys := bif inParts k .keys then t.keys else s.keys
    stampSeq := bif inParts k .stampSeq then t.stampSeq else s.stampSeq
    flash := bif inParts k .flash then t.flash else s.flash
    gate := bif inParts k .gate then t.gate else s.gate
    trav := bif inParts k .trav then t.trav else s.trav
    grp := bif inParts k .grp then t.grp else s.grp
    lc := bif inParts k .lc then t.lc else s.lc
    tamp := bif inParts k .tamp then t.tamp else s.tamp
    flt := bif inParts k .flt then t.flt else s.flt }

theorem of_keepBut (k : Parts) (s t : State) (p : Part) : p.of (s.keepBut k t) = bif inParts k p then p.of t else p.of s := by
  cases p <;> rfl

/-- What the forms speak of: the fuses, cluster memory, and the maps that are kept with rising keys. -/
structure Kept where
  fuses : Nat
  cmem : Map Tagged
  dict : Map Nat
  chans : Map Channel
  vol : Map KeyRec
  recs : Map KeyRec
  bound : Map Kernel

def State.kept (s : State) : Kept := ⟨s.lc.fuses, s.cmem, s.dict, s.chans, s.keys.vol, s.keys.recs, s.kern.bound⟩

/-- Programmed fuse segments stay, and a part in its canonical form keeps it. -/
structure Kept.Stays (a b : Kept) : Prop where
  fuses : ∀ i, i < 27 → segSet a.fuses i = true → segSet b.fuses i = true
  cmem : Memory.wf a.cmem = true → Memory.wf b.cmem = true
  dict : Map.wf a.dict = true → Map.wf b.dict = true
  chans : Map.wf a.chans = true → Map.wf b.chans = true
  vol : Map.wf a.vol = true → Map.wf b.vol = true
  recs : Map.wf a.recs = true → Map.wf b.recs = true
  bound : Map.wf a.bound = true → Map.wf b.bound = true

theorem Kept.Stays.refl (a : Kept) : a.Stays a := ⟨fun _ _ h => h, id, id, id, id, id, id⟩

theorem Kept.Stays.trans {a b c : Kept} (h : a.Stays b) (g : b.Stays c) : a.Stays c :=
  ⟨fun i hi hs => g.fuses i hi (h.fuses i hi hs), g.cmem ∘ h.cmem, g.dict ∘ h.dict, g.chans ∘ h.chans, g.vol ∘ h.vol, g.recs ∘ h.recs,
    g.bound ∘ h.bound⟩

namespace Kept.Stays

variable {a : Kept}

theorem ofCmem {m : Map Tagged} (h : Memory.wf a.cmem = true → Memory.wf m = true) : a.Stays { a with cmem := m } := { refl a with cmem := h }
theorem ofDict {m : Map Nat} (h : Map.wf a.dict = true → Map.wf m = true) : a.Stays { a with dict := m } := { refl a with dict := h }
theorem ofChans {m : Map Channel} (h : Map.wf a.chans = true → Map.wf m = true) : a.Stays { a with chans := m } := { refl a with chans := h }
theorem ofVol {m : Map KeyRec} (h : Map.wf a.vol = true → Map.wf m = true) : a.Stays { a with vol := m } := { refl a with vol := h }
theorem ofRecs {m : Map KeyRec} (h : Map.wf a.recs = true → Map.wf m = true) : a.Stays { a with recs := m } := { refl a with recs := h }
theorem ofBound {m : Map Kernel} (h : Map.wf a.bound = true → Map.wf m = true) : a.Stays { a with bound := m } := { refl a with bound := h }

end Kept.Stays

/-- `t` differs from `s` in no other part than those of `k`, and keeps the forms that `s` has. -/
structure Within (k : Parts) (s t : State) : Prop where
  same : ∀ p, inParts k p = false → p.of t = p.of s
  stays : s.kept.Stays t.kept

namespace Within

variable {k : Parts} {s t : State}

theorem refl : Within k s s := ⟨fun _ _ => rfl, .refl _⟩

theorem trans {u : State} (h : Within k s t) (g : Within k t u) : Within k s u :=
  ⟨fun p hp => (g.same p hp).trans (h.same p hp), h.stays.trans g.stays⟩

theorem mono {a : Parts} (h : Within a s t) (ha : covers a k = true) : Within k s t :=
  ⟨fun p hp => h.same p (inParts_of_covers ha hp), h.stays⟩

/-- A further operation, with its own parts. -/
theorem into {a : Parts} {u : State} (h : Within k s t) (ha : covers a k = true) (g : Within a t u) : Within k s u := h.trans (g.mono ha)

/-- A record update of a state: the parts it writes are in `k`, and it keeps the forms. The update shows its state by its queue. -/
theorem update {free phase dict dtx clk pins ports ptp tx waits parts hsIn chans gens freed hs jobs order tenants lap rwork units les saved cmem clus mcache
    kern dstreams ent keys stampSeq flash gate trav grp lc tamp flt}
    (same : State.keepBut k t (State.mk t.pending free phase dict dtx clk pins ports ptp tx waits parts hsIn chans gens freed hs jobs order tenants lap rwork
      units les saved cmem clus mcache kern dstreams ent keys stampSeq flash gate trav grp lc tamp flt) =
        State.mk t.pending free phase dict dtx clk pins ports ptp tx waits parts hsIn chans gens freed hs jobs order tenants lap rwork
          units les saved cmem clus mcache kern dstreams ent keys stampSeq flash gate trav grp lc tamp flt)
    (h : Within k s t) (stays : t.kept.Stays ⟨lc.fuses, cmem, dict, chans, keys.vol, keys.recs, kern.bound⟩) :
    Within k s (State.mk t.pending free phase dict dtx clk pins ports ptp tx waits parts hsIn chans gens freed hs jobs order tenants lap rwork
      units les saved cmem clus mcache kern dstreams ent keys stampSeq flash gate trav grp lc tamp flt) :=
  h.trans ⟨fun p hp => by rw [← same, of_keepBut, hp]; rfl, stays⟩

/-- A record update that writes nothing that the forms speak of. -/
theorem set {free phase dict dtx clk pins ports ptp tx waits parts hsIn chans gens freed hs jobs order tenants lap rwork units les saved cmem clus mcache
    kern dstreams ent keys stampSeq flash gate trav grp lc tamp flt}
    (same : State.keepBut k t (State.mk t.pending free phase dict dtx clk pins ports ptp tx waits parts hsIn chans gens freed hs jobs order tenants lap rwork
      units les saved cmem clus mcache kern dstreams ent keys stampSeq flash gate trav grp lc tamp flt) =
        State.mk t.pending free phase dict dtx clk pins ports ptp tx waits parts hsIn chans gens freed hs jobs order tenants lap rwork
          units les saved cmem clus mcache kern dstreams ent keys stampSeq flash gate trav grp lc tamp flt)
    (kept : (⟨lc.fuses, cmem, dict, chans, keys.vol, keys.recs, kern.bound⟩ : Kept) = t.kept) (h : Within k s t) :
    Within k s (State.mk t.pending free phase dict dtx clk pins ports ptp tx waits parts hsIn chans gens freed hs jobs order tenants lap rwork
      units les saved cmem clus mcache kern dstreams ent keys stampSeq flash gate trav grp lc tamp flt) :=
  h.update same (kept ▸ .refl _)

theorem ofFst {α : Type} {p : State × α} {u : State} {a : α} (h : Within k s p.1) (he : p = (u, a)) : Within k s u := by
  rw [he] at h
  exact h

theorem ite {c : Prop} [Decidable c] {u v : State} (h : Within k s u) (g : Within k s v) : Within k s (if c then u else v) := by
  split
  · exact h
  · exact g

theorem foldl {α : Type} {f : State → α → State} {l : List α} (h : Within k s t) (hf : ∀ u x, Within k s u → Within k s (f u x)) :
    Within k s (l.foldl f t) := by
  induction l generalizing t with
  | nil => exact h
  | cons x l ih => exact ih (hf t x h)

/-- A new lap state. -/
theorem setLap {x : Lap} (hk : covers (parts [.lap]) k = true) (h : Within k s t) : Within k s { t with lap := x } :=
  h.trans (mono (a := parts [.lap]) (.set rfl rfl .refl) hk)

/-- A new group state. -/
theorem setGrp {x : Group} (hk : covers (parts [.grp]) k = true) (h : Within k s t) : Within k s { t with grp := x } :=
  h.trans (mono (a := parts [.grp]) (.set rfl rfl .refl) hk)

/-- A new order counter. -/
theorem setOrder {x : Nat} (hk : covers (parts [.order]) k = true) (h : Within k s t) : Within k s { t with order := x } :=
  h.trans (mono (a := parts [.order]) (.set rfl rfl .refl) hk)

/-- New saved contexts. -/
theorem setSaved {x : Map Le} (hk : covers (parts [.saved]) k = true) (h : Within k s t) : Within k s { t with saved := x } :=
  h.trans (mono (a := parts [.saved]) (.set rfl rfl .refl) hk)

/-- A new kernel store that binds what the old one bound. -/
theorem setKern {x : Stores} (hk : covers (parts [.kern]) k = true) (h : Within k s t) (hx : x.bound = t.kern.bound) : Within k s { t with kern := x } :=
  h.trans (mono (a := parts [.kern]) (.set rfl (by rw [State.kept, ← hx]) .refl) hk)

/-- A new life cycle state of the same fuses. -/
theorem setLc {x : LifeCycle} (hk : covers (parts [.lc]) k = true) (h : Within k s t) (hx : x.fuses = t.lc.fuses) : Within k s { t with lc := x } :=
  h.trans (mono (a := parts [.lc]) (.set rfl (by rw [State.kept, ← hx]) .refl) hk)

/-- A new key store whose maps keep their form. -/
theorem setKeys {x : Keys} (hk : covers (parts [.keys]) k = true) (h : Within k s t) (hv : Map.wf t.keys.vol = true → Map.wf x.vol = true)
    (hr : Map.wf t.keys.recs = true → Map.wf x.recs = true) : Within k s { t with keys := x } :=
  h.trans (mono (a := parts [.keys]) (.update rfl .refl { Kept.Stays.refl t.kept with vol := hv, recs := hr }) hk)

end Within

/-- Every part but the queue of commands. -/
def everything : Parts := 0xfffffffffe

/-- What settling a tenant's reset and the ends of jobs reach: channels, jobs, streams, keys and their entries. -/
def settling : Parts := 0xe44ae618

theorem settling_eq : settling = parts [.dict, .dtx, .tx, .waits, .chans, .gens, .freed, .jobs, .tenants, .units, .clus, .dstreams, .ent, .keys] := rfl

/-- What the end of a job reaches besides: its engines, their memory, and what it is charged. -/
def ending : Parts := 0xe7cae61a

theorem ending_eq : ending = settling ||| parts [.free, .les, .saved, .cmem] := rfl

/-- Where an outcome is a next state, it is within the parts of `k`. -/
def Out.Within (k : Parts) (s : State) (o : Out) : Prop := ∀ t, o = .next t → Machine.Within k s t

namespace Out.Within

variable {k : Parts} {s t : State}

theorem into {a : Parts} {o : Out} (h : Machine.Within k s t) (ha : covers a k = true) (g : Out.Within a t o) : Out.Within k s o :=
  fun u e => h.into ha (g u e)

theorem next (h : Machine.Within k s t) : Out.Within k s (.next t) := fun _ e => Host.Outcome.next.inj e ▸ h

theorem when {c : Bool} {u v : State} (h : Machine.Within k s u) (g : Machine.Within k s v) : Out.Within k s (when c u v) := by
  unfold Machine.when
  split
  · exact next g
  · exact next h

theorem ite {c : Prop} [Decidable c] {o p : Out} (h : Out.Within k s o) (g : Out.Within k s p) : Out.Within k s (if c then o else p) := by
  split
  · exact h
  · exact g

end Out.Within

/-- A microword's outcome is within the parts of `k`. -/
def Issue.Within (k : Parts) (s : State) : Issue → Prop
  | .go t | .window t _ _ | .hold t _ => Machine.Within k s t
  | .taint | .engine => True

namespace Issue.Within

variable {k : Parts} {s t : State}

theorem go (h : Machine.Within k s t) : Issue.Within k s (.go t) := h
theorem window {d r : Nat} (h : Machine.Within k s t) : Issue.Within k s (.window t d r) := h
theorem hold {c : Nat} (h : Machine.Within k s t) : Issue.Within k s (.hold t c) := h
theorem taint : Issue.Within k s .taint := trivial
theorem engine : Issue.Within k s .engine := trivial

theorem into {a : Parts} {i : Issue} (h : Machine.Within k s t) (ha : covers a k = true) (g : Issue.Within a t i) : Issue.Within k s i := by
  cases i with
  | go u | window u _ _ | hold u _ => exact Machine.Within.into h ha g
  | taint | engine => trivial

theorem ite {c : Prop} [Decidable c] {i j : Issue} (h : Issue.Within k s i) (g : Issue.Within k s j) : Issue.Within k s (if c then i else j) := by
  split
  · exact h
  · exact g

end Issue.Within

/-- What a job's row does is within the parts of `k`. -/
def Ran.Within (k : Parts) (s : State) : Ran → Prop
  | .done d => Machine.Within k s d.st
  | .stay t => Machine.Within k s t

namespace Ran.Within

variable {k : Parts} {s t : State}

theorem done {d : Done} (h : Machine.Within k s d.st) : Ran.Within k s (.done d) := h
theorem stay (h : Machine.Within k s t) : Ran.Within k s (.stay t) := h

theorem into {a : Parts} {r : Ran} (h : Machine.Within k s t) (ha : covers a k = true) (g : Ran.Within a t r) : Ran.Within k s r := by
  cases r with
  | done d => exact Machine.Within.into h ha g
  | stay u => exact Machine.Within.into h ha g

theorem ite {c : Prop} [Decidable c] {q r : Ran} (h : Ran.Within k s q) (g : Ran.Within k s r) : Ran.Within k s (if c then q else r) := by
  split
  · exact h
  · exact g

end Ran.Within

end Machine
end Sys2Proof
end

section
/-! What each operation of the model reaches, in the order in which they use each other: draws, channels, entries and the ends of jobs. -/

namespace Sys2Proof
namespace Machine

variable {k : Parts} {s t : State}

theorem Within.setDrbg {d : Nat} {v : Drbg} (hk : covers (parts [.ent]) k = true) (h : Within k s t) : Within k s (t.setDrbg d v) := h.into hk <| by
  unfold State.setDrbg
  exact .set rfl rfl .refl

theorem Within.withdrawRequests (hk : covers (parts [.ent]) k = true) (h : Within k s t) : Within k s t.withdrawRequests := h.into hk <| by
  unfold State.withdrawRequests
  exact .foldl (.set rfl rfl .refl) (fun _ _ h => (.ite (.setDrbg rfl h) h))

theorem Within.freeChannel {slot : Nat} (hk : covers (parts [.waits, .chans, .gens, .freed, .jobs, .dstreams, .ent]) k = true) (h : Within k s t) : Within k s
    (t.freeChannel slot) := h.into hk <| by
  unfold State.freeChannel
  split
  · exact .refl
  · exact .withdrawRequests rfl (.update rfl .refl (.ofChans (Map.wf_erase _ _)))

theorem Within.settleChannel {slot : Nat} (hk : covers (parts [.waits, .chans, .gens, .freed, .jobs, .dstreams, .ent]) k = true) (h : Within k s t) :
    Within k s (t.settleChannel slot) := h.into hk <| by
  unfold State.settleChannel
  split
  · exact .ite (.freeChannel rfl .refl) .refl
  · exact .refl

theorem Within.sweepKeys (hk : covers (parts [.keys]) k = true) (h : Within k s t) : Within k s t.sweepKeys := h.into hk <| by
  unfold State.sweepKeys
  exact .set rfl rfl .refl

theorem Within.transmit {fs : List TxFrame} (hk : covers (parts [.tx]) k = true) (h : Within k s t) : Within k s (t.transmit fs) := h.into hk <| by
  unfold State.transmit
  exact .set rfl rfl .refl

theorem Within.sendAs {slot : Nat} {c : Channel} {tenant handle kind role queue seq opcode status detail cookie key : Nat} {payload : Sys2Proof.Bytes}
    (hk : covers (parts [.tx, .chans]) k = true) (h : Within k s t) : Within k s
    (t.sendAs slot c tenant handle kind role queue seq opcode status detail cookie key payload) := h.into hk <| by
  unfold State.sendAs
  exact .transmit rfl (.update rfl .refl (.ofChans (Map.wf_put _ _ _)))

theorem Within.mapJob {r : Sys2Proof.JobRef} {f : Job → Job} (hk : covers (parts [.jobs]) k = true) (h : Within k s t) : Within k s
    (t.mapJob r f) := h.into hk <| by
  unfold State.mapJob
  exact .set rfl rfl .refl

theorem Within.sendCompletion {j : Job} {c : Channel} (hk : covers (parts [.tx, .chans, .jobs]) k = true) (h : Within k s t) : Within k s
    (t.sendCompletion j c) := h.into hk <| by
  unfold State.sendCompletion
  exact .mapJob rfl (.update rfl (.sendAs rfl .refl) (.ofChans (Map.wf_update _ _ _)))

theorem Within.dropJob {r : Sys2Proof.JobRef} (hk : covers (parts [.jobs]) k = true) (h : Within k s t) : Within k s (t.dropJob r) := h.into hk <| by
  unfold State.dropJob
  exact .set rfl rfl .refl

theorem Within.sendOn {slot : Nat} {c : Channel} {kind role queue seq opcode status detail cookie key : Nat} {payload : Sys2Proof.Bytes}
    (hk : covers (parts [.tx, .chans]) k = true) (h : Within k s t) : Within k s (t.sendOn slot c kind role queue seq opcode status detail cookie key
        payload) := h.into hk <| by
  unfold State.sendOn
  exact .sendAs rfl .refl

theorem Within.notice {slot kind opcode status detail : Nat} {payload : Sys2Proof.Bytes} (hk : covers (parts [.tx, .chans]) k = true) (h : Within k s t) :
    Within k s (t.notice slot kind opcode status detail payload) := h.into hk <| by
  unfold State.notice
  split
  · exact .refl
  · exact .ite .refl (.sendOn rfl .refl)

theorem Within.noticeLost {r : Sys2Proof.JobRef} (hk : covers (parts [.tx, .chans, .jobs]) k = true) (h : Within k s t) : Within k s
    (t.noticeLost r) := h.into hk <| by
  unfold State.noticeLost
  exact .dropJob rfl (.notice rfl .refl)

theorem Within.release {r : Sys2Proof.JobRef} (hk : covers (parts [.tx, .chans, .jobs]) k = true) (h : Within k s t) : Within k s
    (t.release r) := h.into hk <| by
  unfold State.release
  split
  · exact .ite (.sendCompletion rfl .refl) (.ite (.noticeLost rfl .refl) .refl)
  · exact .refl

theorem Within.releaseAll {t' n : Nat} (hk : covers (parts [.tx, .chans, .jobs]) k = true) (h : Within k s t) : Within k s (t.releaseAll t' n) :=
  h.into hk <| by
  clear h hk
  induction n generalizing t with
  | zero => exact .refl
  | succ n ih =>
    unfold State.releaseAll
    split
    · exact Within.trans (.release rfl .refl) ih
    · exact .refl

theorem Within.unsee {r : Sys2Proof.JobRef} (hk : covers (parts [.chans, .jobs]) k = true) (h : Within k s t) : Within k s (t.unsee r) := h.into hk <| by
  unfold State.unsee
  exact .update rfl (.dropJob rfl .refl) (.ofChans (Map.wf_update _ _ _))

theorem Within.sendRefusal {slot : Nat} {c : Channel} {tenant handle queue seq opcode status detail cookie key : Nat} {result : Sys2Proof.Bytes}
    (hk : covers (parts [.tx, .waits, .chans]) k = true) (h : Within k s t) : Within k s
    (t.sendRefusal slot c tenant handle queue seq opcode status detail cookie key result) := h.into hk <| by
  unfold State.sendRefusal
  exact .ite (.sendAs rfl .refl) (.update rfl .refl (.ofChans (Map.wf_put _ _ _)))

theorem Within.sendNow {j : Job} {status detail : Nat} (hk : covers (parts [.tx, .waits, .chans, .jobs]) k = true) (h : Within k s t) : Within k s
    (t.sendNow j status detail) := h.into hk <| by
  unfold State.sendNow
  split
  · exact .dropJob rfl .refl
  · exact .unsee rfl (.ite .refl (.sendRefusal rfl .refl))

theorem Within.setEngine {u' : Nat} {v : Engine} (hk : covers (parts [.units]) k = true) (h : Within k s t) : Within k s (t.setEngine u' v) := h.into hk <| by
  unfold State.setEngine
  exact .set rfl rfl .refl

theorem Within.setCluster {c : Nat} {v : Cluster} (hk : covers (parts [.clus]) k = true) (h : Within k s t) : Within k s (t.setCluster c v) := h.into hk <| by
  unfold State.setCluster
  exact .set rfl rfl .refl

theorem Within.freeEngines {j : Job} (hk : covers (parts [.units, .clus]) k = true) (h : Within k s t) : Within k s (t.freeEngines j) := h.into hk <| by
  unfold State.freeEngines
  exact .foldl .refl (fun _ _ h => (by
    extract_lets u'
    have hu' : Within (parts [.units, .clus]) t u' := .ite (.setEngine rfl h) h
    exact .ite (.setCluster rfl hu') hu'))

theorem Within.notify {cls : Nat} {t' : Option Nat} {what : Nat} (hk : covers (parts [.tx, .chans]) k = true) (h : Within k s t) : Within k s
    (t.notify cls t' what) := h.into hk <| by
  unfold State.notify
  exact .foldl .refl (fun _ _ h => (.notice rfl h))

theorem Within.wr {idx sub v : Nat} (hk : covers (parts [.dict]) k = true) (h : Within k s t) : Within k s (t.wr idx sub v) := h.into hk <| by
  unfold State.wr
  exact .update rfl .refl (.ofDict (Map.wf_store _ _ _ _))

theorem Within.event {idx sub flags : Nat} (hk : covers (parts [.dict, .dtx]) k = true) (h : Within k s t) : Within k s
    (t.event idx sub flags) := h.into hk <| by
  unfold State.event
  exact .set rfl rfl (.wr rfl .refl)

theorem Within.countFault {j : Job} {status : Nat} (hk : covers (parts [.dict, .dtx, .tx, .chans]) k = true) (h : Within k s t) : Within k s
    (t.countFault j status) := h.into hk <| by
  unfold State.countFault
  exact .ite (.notify rfl (.event rfl .refl)) .refl

theorem Within.finish {r : Sys2Proof.JobRef} {status detail : Nat} {result : Sys2Proof.Bytes} {resKey : Option Nat}
    (hk : covers (parts [.dict, .dtx, .tx, .waits, .chans, .jobs, .units, .clus]) k = true) (h : Within k s t) : Within k s
    (t.finish r status detail result resKey) := h.into hk <| by
  unfold State.finish
  split
  · exact .refl
  · exact .ite .refl (.ite (.sendNow rfl (.freeEngines rfl .refl)) (.countFault rfl (.mapJob rfl (.freeEngines rfl .refl))))

theorem Within.answerReset {t' : Nat} {r : Sys2Proof.JobRef} (hk : covers (parts [.dict, .dtx, .tx, .waits, .chans, .jobs, .units, .clus]) k = true)
    (h : Within k s t) : Within k s (t.answerReset t' r) := h.into hk <| by
  unfold State.answerReset
  split
  · exact .ite .refl (by
      extract_lets 
      split
      · exact .ite (.sendCompletion rfl (.finish rfl .refl)) (.finish rfl .refl)
      · exact .finish rfl .refl)
  · exact .refl

theorem Within.zeroDrbg {d : Nat} (hk : covers (parts [.ent]) k = true) (h : Within k s t) : Within k s (t.zeroDrbg d) := h.into hk <| by
  unfold State.zeroDrbg
  exact .setDrbg rfl .refl

theorem Within.dropVolatile {i : Nat} (hk : covers (parts [.keys]) k = true) (h : Within k s t) : Within k s (t.dropVolatile i) := h.into hk <| by
  unfold State.dropVolatile
  exact .update rfl .refl (.ofVol (Map.wf_erase _ _))

theorem Within.zeroVolatile {t' : Option Nat} (hk : covers (parts [.keys]) k = true) (h : Within k s t) : Within k s (t.zeroVolatile t') := h.into hk <| by
  unfold State.zeroVolatile
  exact .foldl .refl (fun _ _ h => (.dropVolatile rfl h))

theorem Within.setTen {t' : Nat} {v : Tenant} (hk : covers (parts [.tenants]) k = true) (h : Within k s t) : Within k s (t.setTen t' v) := h.into hk <| by
  unfold State.setTen
  exact .set rfl rfl .refl

theorem Within.settleReset {t' : Nat} (hk : covers settling k = true) (h : Within k s t) : Within k s (t.settleReset t') := h.into hk <| by
  unfold State.settleReset
  refine .ite (.setTen rfl (.event rfl (.zeroDrbg rfl (.zeroVolatile rfl (.set rfl rfl (.foldl ?_ fun _ _ h => .freeChannel rfl h)))))) .refl
  exact .foldl (.ite (.releaseAll rfl .refl) .refl) fun _ _ h => .answerReset rfl h

theorem Within.settle (hk : covers settling k = true) (h : Within k s t) : Within k s t.settle := h.into hk <| by
  unfold State.settle
  extract_lets t'
  have ht' : Within settling t t' := .foldl .refl (fun _ _ h => (.settleChannel rfl h))
  exact .withdrawRequests rfl (.sweepKeys rfl (.foldl ht' (fun _ _ h => (.settleReset rfl h))))

theorem Within.clearScratch {c at_ n : Nat} (hk : covers (parts [.cmem]) k = true) (h : Within k s t) : Within k s (t.clearScratch c at_ n) := h.into hk <| by
  unfold State.clearScratch
  exact .update rfl .refl (.ofCmem (Memory.wf_filter _ _))

theorem Within.closeStreams {l : Le} (hk : covers (parts [.units]) k = true) (h : Within k s t) : Within k s (t.closeStreams l) := h.into hk <| by
  unfold State.closeStreams
  exact .foldl .refl (fun _ _ h => (.setEngine rfl h))

theorem Within.setLe {e : Nat} {l : Le} (hk : covers (parts [.les]) k = true) (h : Within k s t) : Within k s (t.setLe e l) := h.into hk <| by
  unfold State.setLe
  exact .set rfl rfl .refl

end Machine
end Sys2Proof
end

section
/-! What the microwords of an engine reach. -/

namespace Sys2Proof
namespace Machine

variable {k : Parts} {s t : State}

theorem Within.clearLe {e : Nat} (hk : covers (parts [.units, .les, .cmem, .clus]) k = true) (h : Within k s t) : Within k s (t.clearLe e) := h.into hk <| by
  unfold State.clearLe
  extract_lets _ _ t'
  have ht' : Within (parts [.units, .les, .cmem, .clus]) t t' := .clearScratch rfl (.closeStreams rfl .refl)
  exact .setLe rfl (.setCluster rfl ht')

theorem Within.leEnd {e status detail clFlag : Nat} {result : Sys2Proof.Bytes} (hk : covers ending k = true) (h : Within k s t) : Within k s
    (t.leEnd e status detail clFlag result) := h.into hk <| by
  unfold State.leEnd
  split
  · exact .refl
  · extract_lets _ t₂
    have ht₂ : Within ending t t₂ := .setEngine rfl (.clearLe rfl .refl)
    exact .finish rfl (.ite (.event rfl ht₂) ht₂)

theorem Within.billWaits {j : Job} (hk : covers (parts [.les]) k = true) (h : Within k s t) : Within k s (t.billWaits j) := h.into hk <| by
  unfold State.billWaits
  exact .ite (.foldl .refl (fun _ _ h => (.setLe rfl h))) .refl

theorem Within.charge {r : Sys2Proof.JobRef} {w : Sys2Proof.Work} (hk : covers (parts [.jobs, .tenants]) k = true) (h : Within k s t) : Within k s
    (t.charge r w) := h.into hk <| by
  unfold State.charge
  split
  · exact .refl
  · exact .ite (.setTen rfl (.mapJob rfl .refl)) (.setTen rfl (.mapJob rfl .refl))

theorem Within.accrue {j : Job} (hk : covers (parts [.free, .jobs, .tenants, .les]) k = true) (h : Within k s t) : Within k s (t.accrue j) := h.into hk <| by
  unfold State.accrue
  exact .billWaits rfl (.charge rfl (.set rfl rfl .refl))

theorem Within.accrueOn {e : Nat} (hk : covers (parts [.free, .jobs, .tenants, .les]) k = true) (h : Within k s t) : Within k s
    (t.accrueOn e) := h.into hk <| by
  unfold State.accrueOn
  split
  · split
    · exact .ite (.accrue rfl .refl) .refl
    · exact .refl
  · exact .refl

theorem Within.leDone {e status detail clFlag : Nat} {result : Sys2Proof.Bytes} (hk : covers ending k = true) (h : Within k s t) : Within k s
    (t.leDone e status detail clFlag result) := h.into hk <| by
  unfold State.leDone
  exact .settle rfl (.leEnd rfl (.accrueOn rfl .refl))

theorem Within.logRow {kind unitType cluster unit tenant status record : Nat} (hk : covers (parts [.dict, .dtx, .flt]) k = true) (h : Within k s t) :
    Within k s (t.logRow kind unitType cluster unit tenant status record) := h.into hk <| by
  unfold State.logRow
  exact .ite (.set rfl rfl .refl) (.set rfl rfl (.wr rfl (.set rfl rfl .refl)))

theorem Within.windowFault {e detail record : Nat} (hk : covers (ending ||| parts [.flt]) k = true) (h : Within k s t) : Within k s
    (t.windowFault e detail record) := h.into hk <| by
  unfold State.windowFault
  exact .logRow rfl (.leDone rfl .refl)

/-- What issuing a microword reaches besides its body: the end of its engine's job, where it cannot issue or faults. -/
theorem Out.Within.issue {w : Mw} {defined secretOnly stream : Bool} {need : Option Nat} {body : State → Le → Issue}
    (hk : covers (ending ||| parts [.flt]) k = true) (h : Machine.Within k s t) (hb : ∀ u l, Machine.Within k s u → Issue.Within k s (body u l)) :
    Out.Within k s (Machine.issue t w defined secretOnly need stream body) := by
  unfold Machine.issue
  have hi := hb (t.setLe w.le ((t.le w.le).issued w.secret)) ((t.le w.le).issued w.secret) (.setLe (covers_trans rfl hk) h)
  refine .ite (.next h) <| .ite (.next h) <| .ite (.next (.leDone (covers_trans rfl hk) h)) <| .ite (.next (.setLe (covers_trans rfl hk) h)) ?_
  split
  · next u e => rw [e] at hi; exact .next hi
  · exact .next (.leDone (covers_trans rfl hk) h)
  · exact .next (.leDone (covers_trans rfl hk) h)
  · next u d r e => rw [e] at hi; exact .next (.windowFault hk hi)
  · next u c e => rw [e] at hi; exact .next (.setLe (covers_trans rfl hk) hi)

theorem Within.writeGroup {w : Sys2Proof.Mw} {l : Le} {n v : Nat} {sec : Bool} (hk : covers (parts [.les]) k = true) (h : Within k s t) : Within k s
    (t.writeGroup w l n v sec) := h.into hk <| by
  unfold State.writeGroup
  exact .setLe rfl .refl

theorem Out.Within.vpass {w : Sys2Proof.Mw} {defined modular : Bool} {n1 n2 n3 nd : Nat} {f : Descriptor → Nat → Nat → Nat → Nat}
    (hk : covers (ending ||| parts [.flt]) k = true) (h : Machine.Within k s t) : Out.Within k s (Machine.vpass t w defined modular n1 n2 n3 nd f) :=
        .into h hk <| by
  unfold Machine.vpass
  exact .issue rfl .refl (fun _ _ h => .ite .engine (.go (.writeGroup rfl h)))

theorem Out.Within.lane2 {w : Sys2Proof.Mw} {defined modular : Bool} {f : Nat → Descriptor → Nat → Nat → Nat}
    (hk : covers (ending ||| parts [.flt]) k = true) (h : Machine.Within k s t) : Out.Within k s (Machine.lane2 t w defined modular f) := .into h hk <| by
  unfold Machine.lane2
  exact .vpass rfl .refl

theorem Out.Within.execAdd {w : Sys2Proof.Mw} (hk : covers (ending ||| parts [.flt]) k = true) (h : Machine.Within k s t) : Out.Within k s
    (Machine.execAdd w t) := .into h hk <| by
  unfold Machine.execAdd
  exact .lane2 rfl .refl

theorem Out.Within.execSub {w : Sys2Proof.Mw} (hk : covers (ending ||| parts [.flt]) k = true) (h : Machine.Within k s t) : Out.Within k s
    (Machine.execSub w t) := .into h hk <| by
  unfold Machine.execSub
  exact .lane2 rfl .refl

theorem Out.Within.execAddm {w : Sys2Proof.Mw} (hk : covers (ending ||| parts [.flt]) k = true) (h : Machine.Within k s t) : Out.Within k s
    (Machine.execAddm w t) := .into h hk <| by
  unfold Machine.execAddm
  exact .lane2 rfl .refl

theorem Out.Within.execSubm {w : Sys2Proof.Mw} (hk : covers (ending ||| parts [.flt]) k = true) (h : Machine.Within k s t) : Out.Within k s
    (Machine.execSubm w t) := .into h hk <| by
  unfold Machine.execSubm
  exact .lane2 rfl .refl

theorem Out.Within.execRedb {w : Sys2Proof.Mw} (hk : covers (ending ||| parts [.flt]) k = true) (h : Machine.Within k s t) : Out.Within k s
    (Machine.execRedb w t) := .into h hk <| by
  unfold Machine.execRedb
  exact .vpass rfl .refl

theorem Out.Within.execMulm {w : Sys2Proof.Mw} (hk : covers (ending ||| parts [.flt]) k = true) (h : Machine.Within k s t) : Out.Within k s
    (Machine.execMulm w t) := .into h hk <| by
  unfold Machine.execMulm
  exact .lane2 rfl .refl

theorem Out.Within.execMulw {w : Sys2Proof.Mw} (hk : covers (ending ||| parts [.flt]) k = true) (h : Machine.Within k s t) : Out.Within k s
    (Machine.execMulw w t) := .into h hk <| by
  unfold Machine.execMulw
  exact .vpass rfl .refl

theorem Out.Within.execDot {w : Sys2Proof.Mw} (hk : covers (ending ||| parts [.flt]) k = true) (h : Machine.Within k s t) : Out.Within k s
    (Machine.execDot w t) := .into h hk <| by
  unfold Machine.execDot
  exact .vpass rfl .refl

theorem Out.Within.execRedw {w : Sys2Proof.Mw} (hk : covers (ending ||| parts [.flt]) k = true) (h : Machine.Within k s t) : Out.Within k s
    (Machine.execRedw w t) := .into h hk <| by
  unfold Machine.execRedw
  exact .vpass rfl .refl

theorem Out.Within.execClmul {w : Sys2Proof.Mw} (hk : covers (ending ||| parts [.flt]) k = true) (h : Machine.Within k s t) : Out.Within k s
    (Machine.execClmul w t) := .into h hk <| by
  unfold Machine.execClmul
  exact .vpass rfl .refl

theorem Out.Within.apass {w : Sys2Proof.Mw} {defined taints : Bool} {n1 n3 nd : Nat} {ok : Nat → Bool} {f : Nat → Nat → Nat → Nat}
    (hk : covers (ending ||| parts [.flt]) k = true) (h : Machine.Within k s t) : Out.Within k s (Machine.apass t w defined taints n1 n3 nd ok f) :=
        .into h hk <| by
  unfold Machine.apass
  exact .issue rfl .refl (fun _ _ h => .ite .taint (.ite .engine (.go (.writeGroup rfl h))))

theorem Out.Within.shift {w : Sys2Proof.Mw} {defined : Bool} {f : Nat → Nat → Nat} (hk : covers (ending ||| parts [.flt]) k = true)
    (h : Machine.Within k s t) : Out.Within k s (Machine.shift t w defined f) := .into h hk <| by
  unfold Machine.shift
  exact .apass rfl .refl

theorem Out.Within.execShl {w : Sys2Proof.Mw} (hk : covers (ending ||| parts [.flt]) k = true) (h : Machine.Within k s t) : Out.Within k s
    (Machine.execShl w t) := .into h hk <| by
  unfold Machine.execShl
  exact .shift rfl .refl

theorem Out.Within.execShr {w : Sys2Proof.Mw} (hk : covers (ending ||| parts [.flt]) k = true) (h : Machine.Within k s t) : Out.Within k s
    (Machine.execShr w t) := .into h hk <| by
  unfold Machine.execShr
  exact .shift rfl .refl

theorem Out.Within.execRol64 {w : Sys2Proof.Mw} (hk : covers (ending ||| parts [.flt]) k = true) (h : Machine.Within k s t) : Out.Within k s
    (Machine.execRol64 w t) := .into h hk <| by
  unfold Machine.execRol64
  exact .shift rfl .refl

theorem Out.Within.compareLanes {w : Sys2Proof.Mw} {p : Nat → Nat → Bool} (hk : covers (ending ||| parts [.flt]) k = true) (h : Machine.Within k s t) :
    Out.Within k s (Machine.compareLanes t w p) := .into h hk <| by
  unfold Machine.compareLanes
  exact .vpass rfl .refl

theorem Out.Within.execCmplt {w : Sys2Proof.Mw} (hk : covers (ending ||| parts [.flt]) k = true) (h : Machine.Within k s t) : Out.Within k s
    (Machine.execCmplt w t) := .into h hk <| by
  unfold Machine.execCmplt
  exact .compareLanes rfl .refl

theorem Out.Within.execCmpeq {w : Sys2Proof.Mw} (hk : covers (ending ||| parts [.flt]) k = true) (h : Machine.Within k s t) : Out.Within k s
    (Machine.execCmpeq w t) := .into h hk <| by
  unfold Machine.execCmpeq
  exact .compareLanes rfl .refl

theorem Out.Within.execMovm {w : Sys2Proof.Mw} (hk : covers (ending ||| parts [.flt]) k = true) (h : Machine.Within k s t) : Out.Within k s
    (Machine.execMovm w t) := .into h hk <| by
  unfold Machine.execMovm
  exact .issue rfl .refl (fun _ _ h => .go (.writeGroup rfl h))

theorem Out.Within.execPopc {w : Sys2Proof.Mw} (hk : covers (ending ||| parts [.flt]) k = true) (h : Machine.Within k s t) : Out.Within k s
    (Machine.execPopc w t) := .into h hk <| by
  unfold Machine.execPopc
  exact .vpass rfl .refl

theorem Out.Within.execMfromv {w : Sys2Proof.Mw} (hk : covers (ending ||| parts [.flt]) k = true) (h : Machine.Within k s t) : Out.Within k s
    (Machine.execMfromv w t) := .into h hk <| by
  unfold Machine.execMfromv
  exact .issue rfl .refl (fun _ _ h => .go (.setLe rfl h))

theorem Out.Within.unpack {w : Sys2Proof.Mw} {f : Nat → Nat → Nat} (hk : covers (ending ||| parts [.flt]) k = true) (h : Machine.Within k s t) :
    Out.Within k s (Machine.unpack t w f) := .into h hk <| by
  unfold Machine.unpack
  exact .vpass rfl .refl

theorem Out.Within.execUnpackZ {w : Sys2Proof.Mw} (hk : covers (ending ||| parts [.flt]) k = true) (h : Machine.Within k s t) : Out.Within k s
    (Machine.execUnpackZ w t) := .into h hk <| by
  unfold Machine.execUnpackZ
  exact .unpack rfl .refl

theorem Out.Within.execUnpackS {w : Sys2Proof.Mw} (hk : covers (ending ||| parts [.flt]) k = true) (h : Machine.Within k s t) : Out.Within k s
    (Machine.execUnpackS w t) := .into h hk <| by
  unfold Machine.execUnpackS
  exact .unpack rfl .refl

theorem Out.Within.execPack {w : Sys2Proof.Mw} (hk : covers (ending ||| parts [.flt]) k = true) (h : Machine.Within k s t) : Out.Within k s
    (Machine.execPack w t) := .into h hk <| by
  unfold Machine.execPack
  exact .vpass rfl .refl

theorem Within.masksDrawn {k' : Nat} (hk : covers (parts [.free]) k = true) (h : Within k s t) : Within k s (t.masksDrawn k') := h.into hk <| by
  unfold State.masksDrawn
  exact .set rfl rfl .refl

theorem Out.Within.masked {w : Sys2Proof.Mw} {defined modular two : Bool} {f : Nat → Descriptor → List Nat → List Nat → List Nat → List Nat}
    (hk : covers (ending ||| parts [.flt]) k = true) (h : Machine.Within k s t) : Out.Within k s (Machine.masked t w defined modular two f) := .into h hk <| by
  unfold Machine.masked
  exact .issue rfl .refl (fun _ _ h => .ite .engine (.ite (.hold h) (.go (.writeGroup rfl (.masksDrawn rfl h)))))

theorem Out.Within.execSecand {w : Sys2Proof.Mw} (hk : covers (ending ||| parts [.flt]) k = true) (h : Machine.Within k s t) : Out.Within k s
    (Machine.execSecand w t) := .into h hk <| by
  unfold Machine.execSecand
  exact .masked rfl .refl

theorem Out.Within.execSecmulm {w : Sys2Proof.Mw} (hk : covers (ending ||| parts [.flt]) k = true) (h : Machine.Within k s t) : Out.Within k s
    (Machine.execSecmulm w t) := .into h hk <| by
  unfold Machine.execSecmulm
  exact .masked rfl .refl

theorem Out.Within.execA2b {w : Sys2Proof.Mw} (hk : covers (ending ||| parts [.flt]) k = true) (h : Machine.Within k s t) : Out.Within k s
    (Machine.execA2b w t) := .into h hk <| by
  unfold Machine.execA2b
  exact .masked rfl .refl

theorem Out.Within.execB2a {w : Sys2Proof.Mw} (hk : covers (ending ||| parts [.flt]) k = true) (h : Machine.Within k s t) : Out.Within k s
    (Machine.execB2a w t) := .into h hk <| by
  unfold Machine.execB2a
  exact .masked rfl .refl

theorem Out.Within.execNop {w : Sys2Proof.Mw} (hk : covers (ending ||| parts [.flt]) k = true) (h : Machine.Within k s t) : Out.Within k s
    (Machine.execNop w t) := .into h hk <| by
  unfold Machine.execNop
  exact .issue rfl .refl (fun _ _ h => .go h)

theorem Out.Within.loadOp {w : Sys2Proof.Mw} {allowed : List Nat} (hk : covers (ending ||| parts [.flt]) k = true) (h : Machine.Within k s t) :
    Out.Within k s (Machine.loadOp t w allowed) := .into h hk <| by
  unfold Machine.loadOp
  exact .issue rfl .refl (fun _ _ h => .ite .taint (.ite (.window h) (.go (.setLe rfl h))))

theorem Out.Within.execLdc {w : Sys2Proof.Mw} (hk : covers (ending ||| parts [.flt]) k = true) (h : Machine.Within k s t) : Out.Within k s
    (Machine.execLdc w t) := .into h hk <| by
  unfold Machine.execLdc
  exact .loadOp rfl .refl

theorem Within.setCword {c a : Nat} {t' : Tagged} (hk : covers (parts [.cmem]) k = true) (h : Within k s t) : Within k s (t.setCword c a t') := h.into hk <| by
  unfold State.setCword
  exact .update rfl .refl (.ofCmem (Memory.wf_store _ _ _))

theorem Within.writeWindow {e addr : Nat} {t' : Tagged} (hk : covers (parts [.les, .cmem]) k = true) (h : Within k s t) : Within k s
    (t.writeWindow e addr t') := h.into hk <| by
  unfold State.writeWindow
  extract_lets 
  split
  · exact .setLe rfl .refl
  · exact .setLe rfl .refl
  · exact .setCword rfl (.setLe rfl .refl)

theorem Within.writeWords {e addr : Nat} {ws : List Tagged} (hk : covers (parts [.les, .cmem]) k = true) (h : Within k s t) : Within k s
    (t.writeWords e addr ws) := h.into hk <| by
  unfold State.writeWords
  exact .foldl .refl (fun _ _ h => (.writeWindow rfl h))

theorem Out.Within.storeOp {w : Sys2Proof.Mw} {secretOnly taints release : Bool} {allowed : Le → List Nat} (hk : covers (ending ||| parts [.flt]) k = true)
    (h : Machine.Within k s t) : Out.Within k s (Machine.storeOp t w secretOnly taints release allowed) := .into h hk <| by
  unfold Machine.storeOp
  exact .issue rfl .refl (fun _ _ h => .ite .taint (.ite (.window h) (.go (.writeWords rfl h))))

theorem Out.Within.execStc {w : Sys2Proof.Mw} (hk : covers (ending ||| parts [.flt]) k = true) (h : Machine.Within k s t) : Out.Within k s
    (Machine.execStc w t) := .into h hk <| by
  unfold Machine.execStc
  exact .storeOp rfl .refl

theorem Out.Within.execLds {w : Sys2Proof.Mw} (hk : covers (ending ||| parts [.flt]) k = true) (h : Machine.Within k s t) : Out.Within k s
    (Machine.execLds w t) := .into h hk <| by
  unfold Machine.execLds
  exact .loadOp rfl .refl

theorem Out.Within.execSts {w : Sys2Proof.Mw} (hk : covers (ending ||| parts [.flt]) k = true) (h : Machine.Within k s t) : Out.Within k s
    (Machine.execSts w t) := .into h hk <| by
  unfold Machine.execSts
  exact .storeOp rfl .refl

theorem Out.Within.execRelease {w : Sys2Proof.Mw} (hk : covers (ending ||| parts [.flt]) k = true) (h : Machine.Within k s t) : Out.Within k s
    (Machine.execRelease w t) := .into h hk <| by
  unfold Machine.execRelease
  exact .storeOp rfl .refl

theorem Out.Within.execLdq {w : Sys2Proof.Mw} (hk : covers (ending ||| parts [.flt]) k = true) (h : Machine.Within k s t) : Out.Within k s
    (Machine.execLdq w t) := .into h hk <| by
  unfold Machine.execLdq
  exact .issue rfl .refl (fun _ _ h => .ite .taint (.ite (.window h) (.ite .taint (.ite .engine (.go (.setLe rfl h))))))

theorem Out.Within.gatherOp {w : Sys2Proof.Mw} {allowed : List Nat} (hk : covers (ending ||| parts [.flt]) k = true) (h : Machine.Within k s t) :
    Out.Within k s (Machine.gatherOp t w allowed) := .into h hk <| by
  unfold Machine.gatherOp
  exact .issue rfl .refl (fun _ _ h => .ite .taint (by
    split
    · exact .go (.setLe rfl h)
    · exact .window (.setLe rfl h)))

theorem Out.Within.execGather16C {w : Sys2Proof.Mw} (hk : covers (ending ||| parts [.flt]) k = true) (h : Machine.Within k s t) : Out.Within k s
    (Machine.execGather16C w t) := .into h hk <| by
  unfold Machine.execGather16C
  exact .gatherOp rfl .refl

theorem Within.scatterFrom {e : Nat} {allowed : List Nat} {es : List ((Tagged × Tagged) × Nat)} (hk : covers (parts [.les, .cmem]) k = true)
    (h : Within k s t) : Within k s (Machine.scatterFrom e allowed es t).1 := h.into hk <| by
  clear h hk
  induction es generalizing t with
  | nil => exact .refl
  | cons p es ih =>
    unfold Machine.scatterFrom
    extract_lets c
    split
    · exact Within.trans (.writeWindow rfl .refl) ih
    · exact .refl

theorem Out.Within.scatterOp {w : Sys2Proof.Mw} {taints : Bool} {allowed : Le → List Nat} (hk : covers (ending ||| parts [.flt]) k = true)
    (h : Machine.Within k s t) : Out.Within k s (Machine.scatterOp t w taints allowed) := .into h hk <| by
  unfold Machine.scatterOp
  exact .issue rfl .refl (fun _ _ h => .ite .taint (by
    split
    · next u' he => exact .go (.ofFst (.scatterFrom rfl h) he)
    · next u' k' c he => exact .window (.ofFst (.scatterFrom rfl h) he)))

theorem Out.Within.execScatter16C {w : Sys2Proof.Mw} (hk : covers (ending ||| parts [.flt]) k = true) (h : Machine.Within k s t) : Out.Within k s
    (Machine.execScatter16C w t) := .into h hk <| by
  unfold Machine.execScatter16C
  exact .scatterOp rfl .refl

theorem Out.Within.execGather16S {w : Sys2Proof.Mw} (hk : covers (ending ||| parts [.flt]) k = true) (h : Machine.Within k s t) : Out.Within k s
    (Machine.execGather16S w t) := .into h hk <| by
  unfold Machine.execGather16S
  exact .gatherOp rfl .refl

theorem Out.Within.execScatter16S {w : Sys2Proof.Mw} (hk : covers (ending ||| parts [.flt]) k = true) (h : Machine.Within k s t) : Out.Within k s
    (Machine.execScatter16S w t) := .into h hk <| by
  unfold Machine.execScatter16S
  exact .scatterOp rfl .refl

theorem Out.Within.areg2 {w : Sys2Proof.Mw} {f : Nat → Nat → Nat} (hk : covers (ending ||| parts [.flt]) k = true) (h : Machine.Within k s t) :
    Out.Within k s (Machine.areg2 t w f) := .into h hk <| by
  unfold Machine.areg2
  exact .issue rfl .refl (fun _ _ h => .go (.setLe rfl h))

theorem Out.Within.execAadd {w : Sys2Proof.Mw} (hk : covers (ending ||| parts [.flt]) k = true) (h : Machine.Within k s t) : Out.Within k s
    (Machine.execAadd w t) := .into h hk <| by
  unfold Machine.execAadd
  exact .areg2 rfl .refl

theorem Out.Within.execAsub {w : Sys2Proof.Mw} (hk : covers (ending ||| parts [.flt]) k = true) (h : Machine.Within k s t) : Out.Within k s
    (Machine.execAsub w t) := .into h hk <| by
  unfold Machine.execAsub
  exact .areg2 rfl .refl

theorem Out.Within.execAand {w : Sys2Proof.Mw} (hk : covers (ending ||| parts [.flt]) k = true) (h : Machine.Within k s t) : Out.Within k s
    (Machine.execAand w t) := .into h hk <| by
  unfold Machine.execAand
  exact .areg2 rfl .refl

theorem Out.Within.execAshr {w : Sys2Proof.Mw} (hk : covers (ending ||| parts [.flt]) k = true) (h : Machine.Within k s t) : Out.Within k s
    (Machine.execAshr w t) := .into h hk <| by
  unfold Machine.execAshr
  exact .areg2 rfl .refl

theorem Out.Within.aimm {w : Sys2Proof.Mw} {f : Nat → Nat → Nat} {reads : Bool} (hk : covers (ending ||| parts [.flt]) k = true) (h : Machine.Within k s t) :
    Out.Within k s (Machine.aimm t w f reads) := .into h hk <| by
  unfold Machine.aimm
  exact .issue rfl .refl (fun _ _ h => .go (.setLe rfl h))

theorem Out.Within.execAaddi {w : Sys2Proof.Mw} (hk : covers (ending ||| parts [.flt]) k = true) (h : Machine.Within k s t) : Out.Within k s
    (Machine.execAaddi w t) := .into h hk <| by
  unfold Machine.execAaddi
  exact .aimm rfl .refl

theorem Out.Within.execAldi {w : Sys2Proof.Mw} (hk : covers (ending ||| parts [.flt]) k = true) (h : Machine.Within k s t) : Out.Within k s
    (Machine.execAldi w t) := .into h hk <| by
  unfold Machine.execAldi
  exact .aimm rfl .refl

theorem Out.Within.execAsetw {w : Sys2Proof.Mw} (hk : covers (ending ||| parts [.flt]) k = true) (h : Machine.Within k s t) : Out.Within k s
    (Machine.execAsetw w t) := .into h hk <| by
  unfold Machine.execAsetw
  exact .aimm rfl .refl

theorem Out.Within.execAfromv {w : Sys2Proof.Mw} (hk : covers (ending ||| parts [.flt]) k = true) (h : Machine.Within k s t) : Out.Within k s
    (Machine.execAfromv w t) := .into h hk <| by
  unfold Machine.execAfromv
  exact .issue rfl .refl (fun _ _ h => .go (.setLe rfl h))

theorem Out.Within.execAbcast {w : Sys2Proof.Mw} (hk : covers (ending ||| parts [.flt]) k = true) (h : Machine.Within k s t) : Out.Within k s
    (Machine.execAbcast w t) := .into h hk <| by
  unfold Machine.execAbcast
  exact .issue rfl .refl (fun _ _ h => .go (.writeGroup rfl h))

theorem Out.Within.execMcount {w : Sys2Proof.Mw} (hk : covers (ending ||| parts [.flt]) k = true) (h : Machine.Within k s t) : Out.Within k s
    (Machine.execMcount w t) := .into h hk <| by
  unfold Machine.execMcount
  exact .issue rfl .refl (fun _ _ h => .go (.setLe rfl h))

theorem Out.Within.bitwise {w : Sys2Proof.Mw} {f : Nat → Nat → Nat} (hk : covers (ending ||| parts [.flt]) k = true) (h : Machine.Within k s t) :
    Out.Within k s (Machine.bitwise t w f) := .into h hk <| by
  unfold Machine.bitwise
  exact .vpass rfl .refl

theorem Out.Within.execAnd {w : Sys2Proof.Mw} (hk : covers (ending ||| parts [.flt]) k = true) (h : Machine.Within k s t) : Out.Within k s
    (Machine.execAnd w t) := .into h hk <| by
  unfold Machine.execAnd
  exact .bitwise rfl .refl

theorem Out.Within.execOr {w : Sys2Proof.Mw} (hk : covers (ending ||| parts [.flt]) k = true) (h : Machine.Within k s t) : Out.Within k s
    (Machine.execOr w t) := .into h hk <| by
  unfold Machine.execOr
  exact .bitwise rfl .refl

theorem Out.Within.execXor {w : Sys2Proof.Mw} (hk : covers (ending ||| parts [.flt]) k = true) (h : Machine.Within k s t) : Out.Within k s
    (Machine.execXor w t) := .into h hk <| by
  unfold Machine.execXor
  exact .bitwise rfl .refl

theorem Out.Within.execAndn {w : Sys2Proof.Mw} (hk : covers (ending ||| parts [.flt]) k = true) (h : Machine.Within k s t) : Out.Within k s
    (Machine.execAndn w t) := .into h hk <| by
  unfold Machine.execAndn
  exact .bitwise rfl .refl

theorem Out.Within.reduceWords {w : Sys2Proof.Mw} {f : Nat → Nat → Nat} {z : Nat} (hk : covers (ending ||| parts [.flt]) k = true)
    (h : Machine.Within k s t) : Out.Within k s (Machine.reduceWords t w f z) := .into h hk <| by
  unfold Machine.reduceWords
  exact .vpass rfl .refl

theorem Out.Within.execAndr {w : Sys2Proof.Mw} (hk : covers (ending ||| parts [.flt]) k = true) (h : Machine.Within k s t) : Out.Within k s
    (Machine.execAndr w t) := .into h hk <| by
  unfold Machine.execAndr
  exact .reduceWords rfl .refl

theorem Out.Within.execOrr {w : Sys2Proof.Mw} (hk : covers (ending ||| parts [.flt]) k = true) (h : Machine.Within k s t) : Out.Within k s
    (Machine.execOrr w t) := .into h hk <| by
  unfold Machine.execOrr
  exact .reduceWords rfl .refl

theorem Out.Within.transform {w : Sys2Proof.Mw} {defined : Bool} {pair : Descriptor → Nat → Nat → Nat → Nat × Nat} {k' : Nat → Nat}
    (hk : covers (ending ||| parts [.flt]) k = true) (h : Machine.Within k s t) : Out.Within k s (Machine.transform t w defined pair k') := .into h hk <| by
  unfold Machine.transform
  exact .issue rfl .refl (fun _ _ h => .ite .engine (.go (.writeGroup rfl h)))

theorem Out.Within.execCt18 {w : Sys2Proof.Mw} (hk : covers (ending ||| parts [.flt]) k = true) (h : Machine.Within k s t) : Out.Within k s
    (Machine.execCt18 w t) := .into h hk <| by
  unfold Machine.execCt18
  exact .transform rfl .refl

theorem Out.Within.execGs18 {w : Sys2Proof.Mw} (hk : covers (ending ||| parts [.flt]) k = true) (h : Machine.Within k s t) : Out.Within k s
    (Machine.execGs18 w t) := .into h hk <| by
  unfold Machine.execGs18
  exact .transform rfl .refl

theorem Out.Within.execCt36l {w : Sys2Proof.Mw} (hk : covers (ending ||| parts [.flt]) k = true) (h : Machine.Within k s t) : Out.Within k s
    (Machine.execCt36l w t) := .into h hk <| by
  unfold Machine.execCt36l
  exact .transform rfl .refl

theorem Out.Within.topPass {w : Sys2Proof.Mw} {f : Descriptor → Nat → Nat → Nat → Nat} (hk : covers (ending ||| parts [.flt]) k = true)
    (h : Machine.Within k s t) : Out.Within k s (Machine.topPass t w f) := .into h hk <| by
  unfold Machine.topPass
  exact .issue rfl .refl (fun _ _ h => .ite .engine (.go (.writeGroup rfl h)))

theorem Out.Within.execCt36TopSum {w : Sys2Proof.Mw} (hk : covers (ending ||| parts [.flt]) k = true) (h : Machine.Within k s t) : Out.Within k s
    (Machine.execCt36TopSum w t) := .into h hk <| by
  unfold Machine.execCt36TopSum
  exact .topPass rfl .refl

theorem Out.Within.execCt36TopDiff {w : Sys2Proof.Mw} (hk : covers (ending ||| parts [.flt]) k = true) (h : Machine.Within k s t) : Out.Within k s
    (Machine.execCt36TopDiff w t) := .into h hk <| by
  unfold Machine.execCt36TopDiff
  exact .topPass rfl .refl

theorem Out.Within.execCt36u {w : Sys2Proof.Mw} (hk : covers (ending ||| parts [.flt]) k = true) (h : Machine.Within k s t) : Out.Within k s
    (Machine.execCt36u w t) := .into h hk <| by
  unfold Machine.execCt36u
  exact .transform rfl .refl

theorem Out.Within.execGs36l {w : Sys2Proof.Mw} (hk : covers (ending ||| parts [.flt]) k = true) (h : Machine.Within k s t) : Out.Within k s
    (Machine.execGs36l w t) := .into h hk <| by
  unfold Machine.execGs36l
  exact .transform rfl .refl

theorem Out.Within.execGs36TopSum {w : Sys2Proof.Mw} (hk : covers (ending ||| parts [.flt]) k = true) (h : Machine.Within k s t) : Out.Within k s
    (Machine.execGs36TopSum w t) := .into h hk <| by
  unfold Machine.execGs36TopSum
  exact .topPass rfl .refl

theorem Out.Within.execGs36TopDiff {w : Sys2Proof.Mw} (hk : covers (ending ||| parts [.flt]) k = true) (h : Machine.Within k s t) : Out.Within k s
    (Machine.execGs36TopDiff w t) := .into h hk <| by
  unfold Machine.execGs36TopDiff
  exact .topPass rfl .refl

theorem Out.Within.execGs36u {w : Sys2Proof.Mw} (hk : covers (ending ||| parts [.flt]) k = true) (h : Machine.Within k s t) : Out.Within k s
    (Machine.execGs36u w t) := .into h hk <| by
  unfold Machine.execGs36u
  exact .transform rfl .refl

theorem Out.Within.sampleCbd {w : Sys2Proof.Mw} {eta n : Nat} (hk : covers (ending ||| parts [.flt]) k = true) (h : Machine.Within k s t) : Out.Within k s
    (Machine.sampleCbd t w eta n) := .into h hk <| by
  unfold Machine.sampleCbd
  exact .issue rfl .refl (fun _ _ h => .ite .engine (.go (.writeGroup rfl h)))

theorem Out.Within.execCbd2 {w : Sys2Proof.Mw} (hk : covers (ending ||| parts [.flt]) k = true) (h : Machine.Within k s t) : Out.Within k s
    (Machine.execCbd2 w t) := .into h hk <| by
  unfold Machine.execCbd2
  exact .sampleCbd rfl .refl

theorem Out.Within.execCbd3 {w : Sys2Proof.Mw} (hk : covers (ending ||| parts [.flt]) k = true) (h : Machine.Within k s t) : Out.Within k s
    (Machine.execCbd3 w t) := .into h hk <| by
  unfold Machine.execCbd3
  exact .sampleCbd rfl .refl

theorem Out.Within.execCompact {w : Sys2Proof.Mw} (hk : covers (ending ||| parts [.flt]) k = true) (h : Machine.Within k s t) : Out.Within k s
    (Machine.execCompact w t) := .into h hk <| by
  unfold Machine.execCompact
  exact .issue rfl .refl (fun _ _ h => .ite .taint (.go (.writeGroup rfl h)))

theorem Out.Within.execCtCompact {w : Sys2Proof.Mw} (hk : covers (ending ||| parts [.flt]) k = true) (h : Machine.Within k s t) : Out.Within k s
    (Machine.execCtCompact w t) := .into h hk <| by
  unfold Machine.execCtCompact
  exact .issue rfl .refl (fun _ _ h => .go (.writeGroup rfl h))

theorem Out.Within.execBasemul {w : Sys2Proof.Mw} (hk : covers (ending ||| parts [.flt]) k = true) (h : Machine.Within k s t) : Out.Within k s
    (Machine.execBasemul w t) := .into h hk <| by
  unfold Machine.execBasemul
  exact .vpass rfl .refl

theorem Out.Within.lane4 {w : Sys2Proof.Mw} {defined : Bool} {f : Nat → Nat} (hk : covers (ending ||| parts [.flt]) k = true) (h : Machine.Within k s t) :
    Out.Within k s (Machine.lane4 t w defined f) := .into h hk <| by
  unfold Machine.lane4
  exact .vpass rfl .refl

theorem Out.Within.execCompress {w : Sys2Proof.Mw} (hk : covers (ending ||| parts [.flt]) k = true) (h : Machine.Within k s t) : Out.Within k s
    (Machine.execCompress w t) := .into h hk <| by
  unfold Machine.execCompress
  exact .lane4 rfl .refl

theorem Out.Within.execDecompress {w : Sys2Proof.Mw} (hk : covers (ending ||| parts [.flt]) k = true) (h : Machine.Within k s t) : Out.Within k s
    (Machine.execDecompress w t) := .into h hk <| by
  unfold Machine.execDecompress
  exact .lane4 rfl .refl

theorem Out.Within.encodeAt {w : Sys2Proof.Mw} {defined : Bool} {k' : Nat} (hk : covers (ending ||| parts [.flt]) k = true) (h : Machine.Within k s t) :
    Out.Within k s (Machine.encodeAt t w defined k') := .into h hk <| by
  unfold Machine.encodeAt
  exact .apass rfl .refl

theorem Out.Within.execByteEncode {w : Sys2Proof.Mw} (hk : covers (ending ||| parts [.flt]) k = true) (h : Machine.Within k s t) : Out.Within k s
    (Machine.execByteEncode w t) := .into h hk <| by
  unfold Machine.execByteEncode
  exact .encodeAt rfl .refl

theorem Out.Within.decodeAt {w : Sys2Proof.Mw} {defined : Bool} {k' : Nat} (hk : covers (ending ||| parts [.flt]) k = true) (h : Machine.Within k s t) :
    Out.Within k s (Machine.decodeAt t w defined k') := .into h hk <| by
  unfold Machine.decodeAt
  exact .apass rfl .refl

theorem Out.Within.execByteDecode {w : Sys2Proof.Mw} (hk : covers (ending ||| parts [.flt]) k = true) (h : Machine.Within k s t) : Out.Within k s
    (Machine.execByteDecode w t) := .into h hk <| by
  unfold Machine.execByteDecode
  exact .decodeAt rfl .refl

theorem Out.Within.execBitpack {w : Sys2Proof.Mw} (hk : covers (ending ||| parts [.flt]) k = true) (h : Machine.Within k s t) : Out.Within k s
    (Machine.execBitpack w t) := .into h hk <| by
  unfold Machine.execBitpack
  exact .encodeAt rfl .refl

theorem Out.Within.execBitunpack {w : Sys2Proof.Mw} (hk : covers (ending ||| parts [.flt]) k = true) (h : Machine.Within k s t) : Out.Within k s
    (Machine.execBitunpack w t) := .into h hk <| by
  unfold Machine.execBitunpack
  exact .decodeAt rfl .refl

theorem Out.Within.round1 {w : Sys2Proof.Mw} {op : Nat} {f : Nat → Nat} (hk : covers (ending ||| parts [.flt]) k = true) (h : Machine.Within k s t) :
    Out.Within k s (Machine.round1 t w op f) := .into h hk <| by
  unfold Machine.round1
  exact .lane4 rfl .refl

theorem Out.Within.execP2rHi {w : Sys2Proof.Mw} (hk : covers (ending ||| parts [.flt]) k = true) (h : Machine.Within k s t) : Out.Within k s
    (Machine.execP2rHi w t) := .into h hk <| by
  unfold Machine.execP2rHi
  exact .round1 rfl .refl

theorem Out.Within.execP2rLo {w : Sys2Proof.Mw} (hk : covers (ending ||| parts [.flt]) k = true) (h : Machine.Within k s t) : Out.Within k s
    (Machine.execP2rLo w t) := .into h hk <| by
  unfold Machine.execP2rLo
  exact .round1 rfl .refl

theorem Out.Within.execDec88Hi {w : Sys2Proof.Mw} (hk : covers (ending ||| parts [.flt]) k = true) (h : Machine.Within k s t) : Out.Within k s
    (Machine.execDec88Hi w t) := .into h hk <| by
  unfold Machine.execDec88Hi
  exact .round1 rfl .refl

theorem Out.Within.execDec88Lo {w : Sys2Proof.Mw} (hk : covers (ending ||| parts [.flt]) k = true) (h : Machine.Within k s t) : Out.Within k s
    (Machine.execDec88Lo w t) := .into h hk <| by
  unfold Machine.execDec88Lo
  exact .round1 rfl .refl

theorem Out.Within.execDec32Hi {w : Sys2Proof.Mw} (hk : covers (ending ||| parts [.flt]) k = true) (h : Machine.Within k s t) : Out.Within k s
    (Machine.execDec32Hi w t) := .into h hk <| by
  unfold Machine.execDec32Hi
  exact .round1 rfl .refl

theorem Out.Within.execDec32Lo {w : Sys2Proof.Mw} (hk : covers (ending ||| parts [.flt]) k = true) (h : Machine.Within k s t) : Out.Within k s
    (Machine.execDec32Lo w t) := .into h hk <| by
  unfold Machine.execDec32Lo
  exact .round1 rfl .refl

theorem Out.Within.round2 {w : Sys2Proof.Mw} {f : Nat → Nat → Nat} (hk : covers (ending ||| parts [.flt]) k = true) (h : Machine.Within k s t) :
    Out.Within k s (Machine.round2 t w f) := .into h hk <| by
  unfold Machine.round2
  exact .vpass rfl .refl

theorem Out.Within.execMkhint88 {w : Sys2Proof.Mw} (hk : covers (ending ||| parts [.flt]) k = true) (h : Machine.Within k s t) : Out.Within k s
    (Machine.execMkhint88 w t) := .into h hk <| by
  unfold Machine.execMkhint88
  exact .round2 rfl .refl

theorem Out.Within.execMkhint32 {w : Sys2Proof.Mw} (hk : covers (ending ||| parts [.flt]) k = true) (h : Machine.Within k s t) : Out.Within k s
    (Machine.execMkhint32 w t) := .into h hk <| by
  unfold Machine.execMkhint32
  exact .round2 rfl .refl

theorem Out.Within.execUsehint88 {w : Sys2Proof.Mw} (hk : covers (ending ||| parts [.flt]) k = true) (h : Machine.Within k s t) : Out.Within k s
    (Machine.execUsehint88 w t) := .into h hk <| by
  unfold Machine.execUsehint88
  exact .round2 rfl .refl

theorem Out.Within.execUsehint32 {w : Sys2Proof.Mw} (hk : covers (ending ||| parts [.flt]) k = true) (h : Machine.Within k s t) : Out.Within k s
    (Machine.execUsehint32 w t) := .into h hk <| by
  unfold Machine.execUsehint32
  exact .round2 rfl .refl

theorem Out.Within.declassify {w : Sys2Proof.Mw} {n m k' : Nat} (hk : covers (ending ||| parts [.flt]) k = true) (h : Machine.Within k s t) : Out.Within k s
    (Machine.declassify t w n m k') := .into h hk <| by
  unfold Machine.declassify
  exact .issue rfl .refl (fun _ _ h => .ite .engine (.ite (.hold h) (.go (.setLe rfl (.masksDrawn rfl h)))))

theorem Out.Within.execDeclBit {w : Sys2Proof.Mw} (hk : covers (ending ||| parts [.flt]) k = true) (h : Machine.Within k s t) : Out.Within k s
    (Machine.execDeclBit w t) := .into h hk <| by
  unfold Machine.execDeclBit
  exact .declassify rfl .refl

theorem Out.Within.execDeclBit2 {w : Sys2Proof.Mw} (hk : covers (ending ||| parts [.flt]) k = true) (h : Machine.Within k s t) : Out.Within k s
    (Machine.execDeclBit2 w t) := .into h hk <| by
  unfold Machine.execDeclBit2
  exact .declassify rfl .refl

theorem Out.Within.execDeclBit3 {w : Sys2Proof.Mw} (hk : covers (ending ||| parts [.flt]) k = true) (h : Machine.Within k s t) : Out.Within k s
    (Machine.execDeclBit3 w t) := .into h hk <| by
  unfold Machine.execDeclBit3
  exact .declassify rfl .refl

theorem Out.Within.execPerm {w : Sys2Proof.Mw} (hk : covers (ending ||| parts [.flt]) k = true) (h : Machine.Within k s t) : Out.Within k s
    (Machine.execPerm w t) := .into h hk <| by
  unfold Machine.execPerm
  exact .issue rfl .refl (fun _ _ h => .ite .engine (.go (.writeGroup rfl h)))

theorem Within.drawn (hk : covers (parts [.free]) k = true) (h : Within k s t) : Within k s t.drawn := h.into hk <| by
  unfold State.drawn
  exact .set rfl rfl .refl

theorem Within.chargeSwitch {r : Sys2Proof.JobRef} {units : List Nat} (hk : covers (parts [.free, .jobs, .tenants]) k = true) (h : Within k s t) : Within k s
    (t.chargeSwitch r units) := h.into hk <| by
  unfold State.chargeSwitch
  exact .foldl .refl (fun _ _ h => (by
    extract_lets 
    split
    · exact h
    · exact .ite (.charge rfl (.mapJob rfl (.drawn rfl h))) (.charge rfl (.drawn rfl h))))

theorem Within.clearSaved {j : Job} (hk : covers (parts [.units, .saved, .cmem, .clus]) k = true) (h : Within k s t) : Within k s
    (t.clearSaved j) := h.into hk <| by
  unfold State.clearSaved
  split
  · exact .freeEngines rfl .refl
  · extract_lets _ _ t'
    have ht' : Within (parts [.units, .saved, .cmem, .clus]) t t' := .clearScratch rfl (.closeStreams rfl (.freeEngines rfl .refl))
    exact .set rfl rfl (.setCluster rfl ht')

theorem Within.unload {j : Job} (hk : covers (parts [.units, .les, .saved, .cmem, .clus]) k = true) (h : Within k s t) : Within k s
    (t.unload j) := h.into hk <| by
  unfold State.unload
  exact .ite (.clearSaved rfl .refl) (.freeEngines rfl (.foldl .refl (fun _ _ h => (.clearLe rfl h))))

theorem Within.inc {idx sub n : Nat} (hk : covers (parts [.dict]) k = true) (h : Within k s t) : Within k s (t.inc idx sub n) := h.into hk <| by
  unfold State.inc
  exact .wr rfl .refl

theorem Within.displace {r : Job} (hk : covers ending k = true) (h : Within k s t) : Within k s (t.displace r) := h.into hk <| by
  unfold State.displace
  extract_lets t'
  have ht' : Within ending t t' := .chargeSwitch rfl (.accrue rfl .refl)
  exact .inc rfl (.event rfl (.mapJob rfl (.unload rfl (.drawn rfl ht'))))

theorem Within.openingWay {w : Sys2Proof.Mw} {fn : Nat} (hk : covers ending k = true) (h : Within k s t) : Within k s (t.openingWay w fn) := h.into hk <| by
  unfold State.openingWay
  exact .ite .refl (by
    split
    · exact .displace rfl .refl
    · exact .refl)

theorem Out.Within.execSopen {w : Sys2Proof.Mw} (hk : covers (ending ||| parts [.flt]) k = true) (h : Machine.Within k s t) : Out.Within k s
    (Machine.execSopen w t) := .into h hk <| by
  unfold Machine.execSopen
  extract_lets _ _ _ _ _ s'
  have hs' : Machine.Within (ending ||| parts [.flt]) t s' := .ite .refl (.openingWay rfl .refl)
  exact .issue rfl hs' (fun _ _ h => .ite .taint (.ite .engine (by
    split
    · exact .hold h
    · exact .go (.setLe rfl (.setEngine rfl h)))))

theorem Out.Within.absorbOp {w : Sys2Proof.Mw} {final : Bool} (hk : covers (ending ||| parts [.flt]) k = true) (h : Machine.Within k s t) : Out.Within k s
    (Machine.absorbOp t w final) := .into h hk <| by
  unfold Machine.absorbOp
  exact .issue rfl .refl (fun _ _ h => .ite .taint (by
    split
    · exact .engine
    · exact .go (.setLe rfl h)))

theorem Out.Within.execSabsorb {w : Sys2Proof.Mw} (hk : covers (ending ||| parts [.flt]) k = true) (h : Machine.Within k s t) : Out.Within k s
    (Machine.execSabsorb w t) := .into h hk <| by
  unfold Machine.execSabsorb
  exact .absorbOp rfl .refl

theorem Out.Within.execSfinal {w : Sys2Proof.Mw} (hk : covers (ending ||| parts [.flt]) k = true) (h : Machine.Within k s t) : Out.Within k s
    (Machine.execSfinal w t) := .into h hk <| by
  unfold Machine.execSfinal
  exact .absorbOp rfl .refl

theorem Out.Within.execSsqueeze {w : Sys2Proof.Mw} (hk : covers (ending ||| parts [.flt]) k = true) (h : Machine.Within k s t) : Out.Within k s
    (Machine.execSsqueeze w t) := .into h hk <| by
  unfold Machine.execSsqueeze
  exact .issue rfl .refl (fun _ _ h => .ite .taint (by
    split
    · exact .engine
    · exact .go (.setLe rfl h)))

theorem Out.Within.execSclose {w : Sys2Proof.Mw} (hk : covers (ending ||| parts [.flt]) k = true) (h : Machine.Within k s t) : Out.Within k s
    (Machine.execSclose w t) := .into h hk <| by
  unfold Machine.execSclose
  exact .issue rfl .refl (fun _ _ h => .ite .taint (.ite .engine (by
    split
    · exact .engine
    · exact .go (.setLe rfl (.setEngine rfl h)))))

theorem Out.Within.execMaskDraw {w : Sys2Proof.Mw} (hk : covers (ending ||| parts [.flt]) k = true) (h : Machine.Within k s t) : Out.Within k s
    (Machine.execMaskDraw w t) := .into h hk <| by
  unfold Machine.execMaskDraw
  exact .issue rfl .refl (fun _ _ h => .go (.setLe rfl (.drawn rfl h)))

theorem Within.generate {d n : Nat} {addl out : Bytes} {u : State} (hk : covers (parts [.ent]) k = true) (h : Within k s t)
    (he : t.generate d n addl = some (u, out)) : Within k s u := h.into hk <| by
  unfold State.generate at he
  split at he
  · cases he; exact .setDrbg rfl .refl
  · cases he

theorem Within.request {r : EntReq} (hk : covers (parts [.ent]) k = true) (h : Within k s t) : Within k s (t.request r) := h.into hk <| by
  unfold State.request
  exact .ite .refl (.set rfl rfl .refl)

theorem Within.askSeed {d : Nat} (hk : covers (parts [.ent]) k = true) (h : Within k s t) : Within k s (t.askSeed d) := h.into hk <| by
  unfold State.askSeed
  exact .ite (.request rfl .refl) (.ite (.request rfl (.setDrbg rfl .refl)) .refl)

theorem Out.Within.execDrbgDraw {w : Sys2Proof.Mw} (hk : covers (ending ||| parts [.flt]) k = true) (h : Machine.Within k s t) : Out.Within k s
    (Machine.execDrbgDraw w t) := .into h hk <| by
  unfold Machine.execDrbgDraw
  exact .issue rfl .refl (fun _ _ h => by
    split
    · exact .engine
    · extract_lets 
      split
      · exact .hold (.askSeed rfl h)
      · next u' out he => exact .go (.setLe rfl (.generate rfl h he)))

theorem Out.Within.execKeyFetch {w : Sys2Proof.Mw} (hk : covers (ending ||| parts [.flt]) k = true) (h : Machine.Within k s t) : Out.Within k s
    (Machine.execKeyFetch w t) := .into h hk <| by
  unfold Machine.execKeyFetch
  exact .issue rfl .refl (fun _ _ h => by
    split
    · exact .engine
    · split
      · exact .engine
      · exact .ite .engine (.go (.setLe rfl h)))

theorem Out.Within.execMboxRead {w : Sys2Proof.Mw} (hk : covers (ending ||| parts [.flt]) k = true) (h : Machine.Within k s t) : Out.Within k s
    (Machine.execMboxRead w t) := .into h hk <| by
  unfold Machine.execMboxRead
  exact .issue rfl .refl (fun _ _ h => by
    split
    · exact .hold h
    · exact .go (.setLe rfl h))

theorem Out.Within.execMatrixReq {w : Sys2Proof.Mw} (hk : covers (ending ||| parts [.flt]) k = true) (h : Machine.Within k s t) : Out.Within k s
    (Machine.execMatrixReq w t) := .into h hk <| by
  unfold Machine.execMatrixReq
  exact .issue rfl .refl (fun _ _ h => .ite .taint (.ite .engine (.go (.setLe rfl h))))

theorem Out.Within.execMatrixDone {w : Sys2Proof.Mw} (hk : covers (ending ||| parts [.mcache, .flt]) k = true) (h : Machine.Within k s t) : Out.Within k s
    (Machine.execMatrixDone w t) := .into h hk <| by
  unfold Machine.execMatrixDone
  exact .issue rfl .refl (fun _ _ h => by
    split
    · exact .engine
    · exact .ite .engine (.go (.ite (.setLe rfl h) (.set rfl rfl (.setLe rfl h)))))

theorem Within.verified (hk : covers (parts [.dict, .dtx, .kern]) k = true) (h : Within k s t) : Within k s t.verified := h.into hk <| by
  unfold State.verified
  split
  · exact .refl
  · refine .ite .refl ?_
    split
    · next step off _ =>
      have hkern : (((t.wr 0x2421 3 4).wr 0x2421 4 (step * 2 ^ 24 + off % 2 ^ 24)).event 0x2421 5 2).kern = t.kern :=
        (Within.event (k := parts [.dict, .dtx]) rfl (.wr rfl (.wr rfl .refl))).same .kern rfl
      exact .setKern rfl (.event rfl (.wr rfl (.wr rfl .refl))) (by rw [hkern])
    · exact .wr rfl (.wr rfl .refl)

theorem Within.powerGood (hk : covers (parts [.free, .pins]) k = true) (h : Within k s t) : Within k s t.powerGood := h.into hk <| by
  unfold State.powerGood
  exact .ite .refl (.set rfl rfl .refl)

theorem Within.sample (hk : covers (parts [.free, .dict]) k = true) (h : Within k s t) : Within k s t.sample := h.into hk <| by
  unfold State.sample
  exact .wr rfl (.wr rfl (.wr rfl (.set rfl rfl .refl)))

theorem Within.tick (hk : covers (parts [.free, .dict, .dtx, .clk, .pins, .les, .kern]) k = true) (h : Within k s t) : Within k s
    (Machine.tick t) := h.into hk <| by
  unfold Machine.tick
  extract_lets _ _ t'
  have ht' : Within (parts [.free, .dict, .dtx, .clk, .pins, .les, .kern]) t t' := .verified rfl (.set rfl rfl .refl)
  exact .ite (.set rfl rfl .refl) (.ite (.set rfl rfl .refl) (.powerGood rfl (.ite (.sample rfl ht') ht')))

theorem Within.setPort {p : Nat} {v : Port} (hk : covers (parts [.ports]) k = true) (h : Within k s t) : Within k s (t.setPort p v) := h.into hk <| by
  unfold State.setPort
  exact .set rfl rfl .refl

theorem Within.setPtpPort {p : Nat} {v : PtpPort} (hk : covers (parts [.ptp]) k = true) (h : Within k s t) : Within k s (t.setPtpPort p v) := h.into hk <| by
  unfold State.setPtpPort
  exact .set rfl rfl .refl

theorem Within.movePtp {p : Nat} (hk : covers (parts [.dict, .ptp]) k = true) (h : Within k s t) : Within k s (t.movePtp p) := h.into hk <| by
  unfold State.movePtp
  exact .wr rfl (.setPtpPort rfl (.set rfl rfl .refl))

end Machine
end Sys2Proof
end

section
/-! What the events of the ports, the datum and the laps reach. -/

namespace Sys2Proof
namespace Machine

variable {k : Parts} {s t : State}

theorem Within.ptpLinkDown {p : Nat} (hk : covers (parts [.dict, .ptp]) k = true) (h : Within k s t) : Within k s (t.ptpLinkDown p) := h.into hk <| by
  unfold State.ptpLinkDown
  split
  · exact .ite (.movePtp rfl .refl) .refl
  · exact .refl

theorem Within.resend {j : Job} (hk : covers (parts [.tx, .waits]) k = true) (h : Within k s t) : Within k s (t.resend j) := h.into hk <| by
  unfold State.resend
  split
  · exact .ite (.set rfl rfl .refl) (.transmit rfl .refl)
  · exact .refl

theorem Within.sendWaiting (hk : covers (parts [.tx, .waits, .chans]) k = true) (h : Within k s t) : Within k s t.sendWaiting := h.into hk <| by
  unfold State.sendWaiting
  exact .foldl (.set rfl rfl .refl) (fun _ _ h => (by
    split
    · exact .sendRefusal rfl h
    · split
      · exact .resend rfl h
      · exact h
    · exact h))

theorem Within.proclaim {q p : Nat} (hk : covers (parts [.tx]) k = true) (h : Within k s t) : Within k s (t.proclaim q p) := h.into hk <| by
  unfold State.proclaim
  exact .transmit rfl .refl

theorem Within.failover {p q : Nat} (hk : covers (parts [.dict, .dtx, .tx, .chans, .tenants, .flt]) k = true) (h : Within k s t) : Within k s
    (t.failover p q) := h.into hk <| by
  unfold State.failover
  exact .ite .refl (by
    extract_lets _ t'
    have ht' : Within (parts [.dict, .dtx, .tx, .chans, .tenants, .flt]) t t' := .foldl .refl (fun _ _ h => (.setTen rfl h))
    exact .ite (.proclaim rfl (.notify rfl (.logRow rfl (.event rfl ht')))) ht')

theorem Within.failovers (hk : covers (parts [.dict, .dtx, .tx, .waits, .chans, .tenants, .flt]) k = true)
    (h : Within k s t) : Within k s t.failovers := h.into hk <| by
  unfold State.failovers
  exact .sendWaiting rfl (.foldl .refl (fun _ _ h => (.foldl h (fun _ _ h => (.failover rfl h)))))

theorem Within.portDown {p st : Nat} (hk : covers (parts [.dict, .dtx, .ports, .ptp, .tx, .waits, .chans, .tenants, .flt]) k = true) (h : Within k s t) :
    Within k s (t.portDown p st) := h.into hk <| by
  unfold State.portDown
  extract_lets t'
  have ht' : Within (parts [.dict, .dtx, .ports, .ptp, .tx, .waits, .chans, .tenants, .flt]) t t' := .notify rfl (.event rfl (.wr rfl .refl))
  exact .ptpLinkDown rfl (.failovers rfl (.set rfl rfl (.setPort rfl ht')))

theorem Out.Within.execLinkDown {port : Nat} (hk : covers (parts [.dict, .dtx, .ports, .ptp, .tx, .waits, .chans, .tenants, .flt]) k = true)
    (h : Machine.Within k s t) : Out.Within k s (Machine.execLinkDown port t) := .into h hk <| by
  unfold Machine.execLinkDown
  exact .when .refl (.portDown rfl .refl)

theorem Out.Within.execLinkUp {port speed : Nat} {partnerFec conflicts : List Nat}
    (hk : covers (parts [.dict, .dtx, .ports, .tx, .waits, .chans, .tenants, .flt]) k = true) (h : Machine.Within k s t) : Out.Within k s
    (Machine.execLinkUp port speed partnerFec conflicts t) := .into h hk <| by
  unfold Machine.execLinkUp
  extract_lets _ t'
  have ht' : Machine.Within (parts [.dict, .dtx, .ports, .tx, .waits, .chans, .tenants, .flt]) t t' := .wr rfl (.wr rfl .refl)
  exact .when .refl (.failovers rfl (.notify rfl (.event rfl (.transmit rfl (.setPort rfl ht')))))

theorem Within.failback {p : Nat} (hk : covers (parts [.tx, .tenants]) k = true) (h : Within k s t) : Within k s (t.failback p) := h.into hk <| by
  unfold State.failback
  exact .proclaim rfl (.set rfl rfl .refl)

theorem Out.Within.execFailbackHoldExpiry {port : Nat} (hk : covers (parts [.tx, .tenants]) k = true) (h : Machine.Within k s t) : Out.Within k s
    (Machine.execFailbackHoldExpiry port t) := .into h hk <| by
  unfold Machine.execFailbackHoldExpiry
  exact .when .refl (.failback rfl .refl)

theorem Out.Within.execPortConfigChange {port : Nat} (hk : covers (parts [.dict, .dtx, .ports, .ptp, .tx, .waits, .chans, .tenants, .flt]) k = true)
    (h : Machine.Within k s t) : Out.Within k s (Machine.execPortConfigChange port t) := .into h hk <| by
  unfold Machine.execPortConfigChange
  exact .when .refl (.ite (.portDown rfl (.setPort rfl .refl)) (.setPort rfl .refl))

theorem Out.Within.execEthernetFrameReceive {port : Nat} {f : Sys2Proof.EthFrame} (hk : covers (parts [.dict]) k = true) (h : Machine.Within k s t) :
    Out.Within k s (Machine.execEthernetFrameReceive port f t) := .into h hk <| by
  unfold Machine.execEthernetFrameReceive
  exact .when .refl (.inc rfl .refl)

theorem Out.Within.execArpRequest {port : Nat} {target : BitVec 32} (hk : covers (parts [.tx]) k = true) (h : Machine.Within k s t) : Out.Within k s
    (Machine.execArpRequest port target t) := .into h hk <| by
  unfold Machine.execArpRequest
  exact .when .refl (.transmit rfl .refl)

theorem Out.Within.execNeighbourSolicitation {port : Nat} {target : BitVec 128} (hk : covers (parts [.tx]) k = true) (h : Machine.Within k s t) :
    Out.Within k s (Machine.execNeighbourSolicitation port target t) := .into h hk <| by
  unfold Machine.execNeighbourSolicitation
  exact .when .refl (.transmit rfl .refl)

theorem Out.Within.execEchoRequest {port : Nat} {v6 : Bool} {payload : Sys2Proof.Bytes} (hk : covers (parts [.dict, .ports, .tx]) k = true)
    (h : Machine.Within k s t) : Out.Within k s (Machine.execEchoRequest port v6 payload t) := .into h hk <| by
  unfold Machine.execEchoRequest
  exact .when .refl (.ite (.transmit rfl (.setPort rfl .refl)) (.inc rfl .refl))

theorem Within.enqueueReserve {i : ReserveItem} (hk : covers (parts [.rwork]) k = true) (h : Within k s t) : Within k s (t.enqueueReserve i) := h.into hk <| by
  unfold State.enqueueReserve
  exact .set rfl rfl .refl

theorem Out.Within.execAnnounceIntervalExpiry {port : Nat} (hk : covers (parts [.ports, .rwork]) k = true) (h : Machine.Within k s t) : Out.Within k s
    (Machine.execAnnounceIntervalExpiry port t) := .into h hk <| by
  unfold Machine.execAnnounceIntervalExpiry
  exact .when .refl (.enqueueReserve rfl (.setPort rfl .refl))

theorem Within.dropReserve {i : ReserveItem} (hk : covers (parts [.rwork]) k = true) (h : Within k s t) : Within k s (t.dropReserve i) := h.into hk <| by
  unfold State.dropReserve
  exact .set rfl rfl .refl

theorem Out.Within.execAnnounceSend {port : Nat} (hk : covers (parts [.ports, .tx, .rwork]) k = true) (h : Machine.Within k s t) : Out.Within k s
    (Machine.execAnnounceSend port t) := .into h hk <| by
  unfold Machine.execAnnounceSend
  split
  · exact .next .refl
  · exact .ite (.next .refl) (by
      extract_lets s'
      have hs' : Machine.Within (parts [.ports, .tx, .rwork]) t s' := .dropReserve rfl .refl
      exact .next (.transmit rfl (.setPort rfl hs')))

theorem Within.setLink {i : Nat} {v : Link} (hk : covers (parts [.grp]) k = true) (h : Within k s t) : Within k s (t.setLink i v) := h.into hk <| by
  unfold State.setLink
  exact .set rfl rfl .refl

theorem Within.post {m : PeerOut} (hk : covers (parts [.tx, .grp]) k = true) (h : Within k s t) : Within k s (t.post m) := h.into hk <| by
  unfold State.post
  exact .transmit rfl (.set rfl rfl (.setLink rfl .refl))

theorem Within.sendHello {i : Nat} (hk : covers (parts [.free, .tx, .grp]) k = true) (h : Within k s t) : Within k s (t.sendHello i) := h.into hk <| by
  unfold State.sendHello
  exact .post rfl (.setLink rfl (.drawn rfl .refl))

theorem Out.Within.execAnnounceReceive {src : Sys2Proof.AnnounceSrc} {body key cert : Sys2Proof.Bytes} (hk : covers (parts [.free, .tx, .grp]) k = true)
    (h : Machine.Within k s t) : Out.Within k s (Machine.execAnnounceReceive src body key cert t) := .into h hk <| by
  unfold Machine.execAnnounceReceive
  exact .ite (.next .refl) (by
    split
    · exact .when (.set rfl rfl .refl) (.sendHello rfl (.setLink rfl (.set rfl rfl .refl)))
    · exact .next (.set rfl rfl .refl))

theorem Out.Within.execPtpAnnounceMessage {port : Nat} {m : Sys2Proof.PtpMaster} {a : Sys2Proof.PtpAnnounce} (hk : covers (parts [.dict, .ptp]) k = true)
    (h : Machine.Within k s t) : Out.Within k s (Machine.execPtpAnnounceMessage port m a t) := .into h hk <| by
  unfold Machine.execPtpAnnounceMessage
  extract_lets _ _ _ _ t'
  have ht' : Machine.Within (parts [.dict, .ptp]) t t' := .setPtpPort rfl .refl
  exact .ite (.next .refl) (.next (.ite (.wr rfl (.wr rfl ht')) ht'))

theorem Within.servo (hk : covers (parts [.free, .dict, .clk]) k = true) (h : Within k s t) : Within k s t.servo := h.into hk <| by
  unfold State.servo
  extract_lets _ t'
  have ht' : Within (parts [.free, .dict, .clk]) t t' := .wr rfl (.drawn rfl .refl)
  exact .set rfl rfl ht'

theorem Within.setQuality {q : Nat} (hk : covers (parts [.dict, .dtx, .ptp, .tx, .chans]) k = true) (h : Within k s t) : Within k s
    (t.setQuality q) := h.into hk <| by
  unfold State.setQuality
  exact .ite .refl (.notify rfl (.event rfl (.wr rfl (.set rfl rfl .refl))))

theorem Within.scheduledReseed (hk : covers (parts [.ent]) k = true) (h : Within k s t) : Within k s t.scheduledReseed := h.into hk <| by
  unfold State.scheduledReseed
  exact .ite .refl (.foldl .refl (fun _ _ h => (.ite (.request rfl h) h)))

theorem Within.dueReseed (hk : covers (parts [.lap, .ent]) k = true) (h : Within k s t) : Within k s t.dueReseed := h.into hk <| by
  unfold State.dueReseed
  extract_lets t'
  have ht' : Within (parts [.lap, .ent]) t t' := .ite (.scheduledReseed rfl .refl) .refl
  exact .set rfl rfl ht'

theorem Within.append {b : Bench} (hk : covers (parts [.dict, .dtx, .rwork, .trav]) k = true) (h : Within k s t) : Within k s (t.append b) := h.into hk <| by
  unfold State.append
  have ht {u : State} (h : Within (parts [.dict, .dtx, .rwork, .trav]) t u) {c : Prop} [Decidable c] {n m : Nat} :
      Within (parts [.dict, .dtx, .rwork, .trav]) t (if c then u.event 0x3800 n m else u) := .ite (.event rfl h) h
  exact ht (.ite (.event rfl (.enqueueReserve rfl (.set rfl rfl .refl))) (.set rfl rfl .refl))

theorem Within.bench {kind verdict channel region flags digest sigSlots : Nat} (hk : covers (parts [.dict, .dtx, .rwork, .trav]) k = true)
    (h : Within k s t) : Within k s (t.bench kind verdict channel region flags digest sigSlots) := h.into hk <| by
  unfold State.bench
  exact .ite (.append rfl .refl) (.set rfl rfl .refl)

theorem Within.checkpoint {reasons : Nat} (hk : covers (parts [.dict, .dtx, .rwork, .trav]) k = true) (h : Within k s t) : Within k s
    (t.checkpoint reasons) := h.into hk <| by
  unfold State.checkpoint
  exact .ite (.set rfl rfl .refl) (.bench rfl .refl)

theorem Within.dueCheckpoint (hk : covers (parts [.dict, .dtx, .lap, .rwork, .trav]) k = true) (h : Within k s t) : Within k s t.dueCheckpoint :=
    h.into hk <| by
  unfold State.dueCheckpoint
  extract_lets t'
  have ht' : Within (parts [.dict, .dtx, .lap, .rwork, .trav]) t t' := .ite (.checkpoint rfl .refl) .refl
  exact .set rfl rfl ht'

theorem Within.expireKeys (hk : covers (parts [.dict, .dtx, .tx, .waits, .chans, .jobs, .lap, .units, .clus]) k = true) (h : Within k s t) :
    Within k s t.expireKeys := h.into hk <| by
  unfold State.expireKeys
  exact .foldl (.foldl (.set rfl rfl .refl) (fun _ _ h => (.finish rfl h))) (fun _ _ h => (.ite (.notify rfl h) h))

theorem Within.dueActivities (hk : covers (ending ||| parts [.lap, .rwork, .trav]) k = true) (h : Within k s t) : Within k s t.dueActivities := h.into hk <| by
  unfold State.dueActivities
  exact .dueReseed rfl (.dueCheckpoint rfl (.expireKeys rfl .refl))

theorem Within.takeLength (hk : covers (parts [.dict, .dtx]) k = true) (h : Within k s t) : Within k s t.takeLength := h.into hk <| by
  unfold State.takeLength
  exact .ite (.event rfl (.wr rfl .refl)) .refl

theorem Within.refill (hk : covers (parts [.jobs, .tenants, .units]) k = true) (h : Within k s t) : Within k s t.refill := h.into hk <| by
  unfold State.refill
  exact .set rfl rfl .refl

theorem Within.latchJob {j : Job} {ev : Nat} (hk : covers (parts [.units]) k = true) (h : Within k s t) : Within k s (t.latchJob j ev) := h.into hk <| by
  unfold State.latchJob
  exact .foldl .refl (fun _ _ h => (.setEngine rfl h))

theorem Within.latchSpent (hk : covers (parts [.units]) k = true) (h : Within k s t) : Within k s t.latchSpent := h.into hk <| by
  unfold State.latchSpent
  exact .foldl .refl (fun _ _ h => (.foldl h (fun _ _ h => (.latchJob rfl h))))

theorem Within.accrueAll (hk : covers (parts [.free, .jobs, .tenants, .units, .les]) k = true) (h : Within k s t) : Within k s t.accrueAll := h.into hk <| by
  unfold State.accrueAll
  exact .latchSpent rfl (.foldl .refl (fun _ _ h => (.accrue rfl h)))

theorem Within.beginLap {short : Option Nat} (hk : covers (parts [.free, .dict, .dtx, .jobs, .tenants, .lap, .units, .les]) k = true) (h : Within k s t) :
    Within k s (t.beginLap short) := h.into hk <| by
  unfold State.beginLap
  have hs {u : State} (h : Within (parts [.free, .dict, .dtx, .jobs, .tenants, .lap, .units, .les]) t u) :
      Within (parts [.free, .dict, .dtx, .jobs, .tenants, .lap, .units, .les]) t (if short.isSome then u.event 0x1A00 0xC 1 else u) := .ite (.event rfl h) h
  have hl {u : State} {l : Lap} (h : Within (parts [.free, .dict, .dtx, .jobs, .tenants, .lap, .units, .les]) t u) :
      Within (parts [.free, .dict, .dtx, .jobs, .tenants, .lap, .units, .les]) t { u with lap := l } := .set rfl rfl h
  exact hs (.inc rfl (hl (.takeLength rfl (.refill rfl (.accrueAll rfl .refl)))))

theorem Within.shortLap (hk : covers (parts [.free, .dict, .dtx, .jobs, .tenants, .lap, .units, .les]) k = true)
    (h : Within k s t) : Within k s t.shortLap := h.into hk <| by
  unfold State.shortLap
  exact .beginLap rfl .refl

theorem Within.lengthWritten (hk : covers (parts [.lap]) k = true) (h : Within k s t) : Within k s t.lengthWritten := h.into hk <| by
  unfold State.lengthWritten
  exact .set rfl rfl .refl

theorem Within.stepDatum {ns : Nat} (hk : covers (ending ||| parts [.clk, .lap, .rwork, .trav, .flt]) k = true) (h : Within k s t) : Within k s
    (t.stepDatum ns) := h.into hk <| by
  unfold State.stepDatum
  exact .dueActivities rfl (.shortLap rfl (.lengthWritten rfl (.notify rfl (.event rfl (.logRow rfl (.set rfl rfl .refl))))))

theorem Within.syncOn {p : Nat} {off : ℤ} (hk : covers (ending ||| parts [.clk, .ptp, .lap, .rwork, .trav, .flt]) k = true) (h : Within k s t) : Within k s
    (t.syncOn p off) := h.into hk <| by
  unfold State.syncOn
  have hq {u : State} {n : Nat} {c : Prop} [Decidable c] (h : Within (ending ||| parts [.clk, .ptp, .lap, .rwork, .trav, .flt]) t u) :
      Within (ending ||| parts [.clk, .ptp, .lap, .rwork, .trav, .flt]) t (if c then u.setQuality n else u) := .ite (.setQuality rfl h) h
  exact .ite (hq (.servo rfl (.setPtpPort rfl (.wr rfl .refl)))) <| .ite (.stepDatum rfl (.setPtpPort rfl (.wr rfl .refl))) <| hq (.servo rfl
      (.setPtpPort rfl (.wr rfl .refl)))

theorem Out.Within.execPtpSyncMessage {k' : Sys2Proof.PtpStamp} {h' : Sys2Proof.PtpHdr} {masterId : Nat} {t1 : ℤ}
    (hk : covers (ending ||| parts [.clk, .ptp, .lap, .rwork, .trav, .flt]) k = true) (h : Machine.Within k s t) : Out.Within k s
    (Machine.execPtpSyncMessage k' h' masterId t1 t) := .into h hk <| by
  unfold Machine.execPtpSyncMessage
  dsimp only
  split
  · exact .next .refl
  · exact .ite (.next .refl) <| .ite (.next (.syncOn rfl (.setPtpPort rfl .refl))) (.next (.setPtpPort rfl (.setPtpPort rfl .refl)))

theorem Out.Within.execPtpDelayRequestTimer {k' : Sys2Proof.PtpStamp} (hk : covers (parts [.ptp, .tx]) k = true) (h : Machine.Within k s t) : Out.Within k s
    (Machine.execPtpDelayRequestTimer k' t) := .into h hk <| by
  unfold Machine.execPtpDelayRequestTimer
  exact .when .refl (.transmit rfl (.setPtpPort rfl .refl))

theorem Out.Within.execPtpDelayResponse {k' : Sys2Proof.PtpStamp} {h' : Sys2Proof.PtpHdr} {r : Sys2Proof.PtpTimes}
    (hk : covers (parts [.dict, .ptp]) k = true) (h : Machine.Within k s t) : Out.Within k s (Machine.execPtpDelayResponse k' h' r t) := .into h hk <| by
  unfold Machine.execPtpDelayResponse
  extract_lets 
  split
  · exact .next .refl
  · extract_lets t'
    have ht' : Machine.Within (parts [.dict, .ptp]) t t' := .setPtpPort rfl .refl
    exact .when .refl (.ite (.wr rfl ht') ht')

theorem Out.Within.execAnnounceReceiptTimeout {port : Nat} (hk : covers (parts [.dict, .dtx, .ptp, .tx, .chans]) k = true) (h : Machine.Within k s t) :
    Out.Within k s (Machine.execAnnounceReceiptTimeout port t) := .into h hk <| by
  unfold Machine.execAnnounceReceiptTimeout
  dsimp only
  refine .ite (.next .refl) <| .ite ?_ <| .when .refl (.setPtpPort rfl .refl)
  split
  · exact .next (.movePtp rfl (.setPtpPort rfl .refl))
  · exact .next (.ite (.setQuality rfl (.wr rfl (.setPtpPort rfl .refl))) (.wr rfl (.setPtpPort rfl .refl)))

theorem Out.Within.execHoldoverLimitExpiry (hk : covers (parts [.dict, .dtx, .ptp, .tx, .chans]) k = true) (h : Machine.Within k s t) : Out.Within k s
    (Machine.execHoldoverLimitExpiry t) := .into h hk <| by
  unfold Machine.execHoldoverLimitExpiry
  exact .when .refl (.setQuality rfl .refl)

theorem Within.dropLinks (hk : covers (parts [.dict, .dtx, .ports, .tx, .chans, .tenants]) k = true) (h : Within k s t) : Within k s t.dropLinks :=
    h.into hk <| by
  unfold State.dropLinks
  exact .set rfl rfl (.foldl .refl fun _ _ h => .ite (.notify rfl (.setPort rfl (.event rfl (.wr rfl h)))) h)

theorem Out.Within.execRefclkSdLost (hk : covers (parts [.dict, .dtx, .clk, .ports, .ptp, .tx, .chans, .tenants]) k = true) (h : Machine.Within k s t) :
    Out.Within k s (Machine.execRefclkSdLost t) := .into h hk <| by
  unfold Machine.execRefclkSdLost
  extract_lets _ t'
  have ht' : Machine.Within (parts [.dict, .dtx, .clk, .ports, .ptp, .tx, .chans, .tenants]) t t' := .dropLinks rfl (.set rfl rfl .refl)
  exact .when .refl (.ite (.setQuality rfl ht') (.setQuality rfl (.event rfl ht')))

theorem Out.Within.execRefclkSdReturn (hk : covers (parts [.free, .dict, .dtx, .clk, .jobs, .tenants, .lap, .units, .les]) k = true)
    (h : Machine.Within k s t) : Out.Within k s (Machine.execRefclkSdReturn t) := .into h hk <| by
  unfold Machine.execRefclkSdReturn
  exact .when .refl (.ite (.set rfl rfl .refl) (.shortLap rfl (.set rfl rfl .refl)))

theorem Within.dropPart {r : Sys2Proof.PartRef} (hk : covers (parts [.parts]) k = true) (h : Within k s t) : Within k s (t.dropPart r) := h.into hk <| by
  unfold State.dropPart
  exact .set rfl rfl .refl

theorem Within.putPart {r : Sys2Proof.PartRef} {p : Partial} (hk : covers (parts [.parts]) k = true) (h : Within k s t) : Within k s
    (t.putPart r p) := h.into hk <| by
  unfold State.putPart
  exact .set rfl rfl .refl

theorem Within.announceFrame {f : Sys2Proof.OpfelIn} (hk : covers (parts [.parts, .grp]) k = true) (h : Within k s t) : Within k s
    (t.announceFrame f) := h.into hk <| by
  unfold State.announceFrame
  split
  · exact .dropPart rfl .refl
  · exact .putPart rfl .refl
  · extract_lets t'
    have ht' : Within (parts [.parts, .grp]) t t' := .dropPart rfl .refl
    exact .set rfl rfl ht'

theorem Within.countRetry {f : Sys2Proof.OpfelIn} (hk : covers (parts [.dict]) k = true) (h : Within k s t) : Within k s (t.countRetry f) := h.into hk <| by
  unfold State.countRetry
  exact .ite (.inc rfl .refl) .refl

theorem Within.sendHandshake {port : Nat} {peer : Sys2Proof.Peer} {tenant channel ident status detail cookie credits : Nat} {body : Sys2Proof.Bytes}
    (hk : covers (parts [.tx]) k = true) (h : Within k s t) : Within k s (t.sendHandshake port peer tenant channel ident status detail cookie credits
        body) := h.into hk <| by
  unfold State.sendHandshake
  exact .transmit rfl .refl

theorem Within.handshakeFrame {f : Sys2Proof.OpfelIn} (hk : covers (parts [.dict, .tx, .parts, .hsIn]) k = true) (h : Within k s t) : Within k s
    (t.handshakeFrame f) := h.into hk <| by
  unfold State.handshakeFrame
  extract_lets s'
  have hs' : Within (parts [.dict, .tx, .parts, .hsIn]) t s' := .countRetry rfl .refl
  exact .ite hs' (by
    split
    · exact .sendHandshake rfl (.dropPart rfl hs')
    · exact .putPart rfl hs'
    · exact .set rfl rfl (.dropPart rfl hs'))

theorem Within.peerPart {f : Sys2Proof.OpfelIn} {pl : Sys2Proof.Bytes} (hk : covers (parts [.parts, .grp]) k = true) (h : Within k s t) : Within k s
    (t.peerPart f pl) := h.into hk <| by
  unfold State.peerPart
  split
  · exact .dropPart rfl .refl
  · exact .putPart rfl .refl
  · extract_lets t'
    have ht' : Within (parts [.parts, .grp]) t t' := .dropPart rfl .refl
    exact .set rfl rfl ht'

theorem Within.groupEvent {flag : Nat} (hk : covers (parts [.dict, .dtx]) k = true) (h : Within k s t) : Within k s (t.groupEvent flag) := h.into hk <| by
  unfold State.groupEvent
  exact .event rfl .refl

theorem Within.endJob {r : Sys2Proof.JobRef} {status detail clFlag : Nat} {result : Sys2Proof.Bytes} {key : Option Nat} (hk : covers ending k = true)
    (h : Within k s t) : Within k s (t.endJob r status detail clFlag result key) := h.into hk <| by
  unfold State.endJob
  split
  · exact .refl
  · extract_lets _ t₂
    have ht₂ : Within ending t t₂ := .mapJob rfl (.unload rfl .refl)
    exact .settle rfl (.finish rfl (.ite (.event rfl ht₂) ht₂))

theorem Within.chargeTypical {r : Sys2Proof.JobRef} (hk : covers (parts [.jobs, .tenants]) k = true) (h : Within k s t) : Within k s
    (t.chargeTypical r) := h.into hk <| by
  unfold State.chargeTypical
  split
  · exact .ite (.charge rfl .refl) .refl
  · exact .refl

theorem Within.endWrite {w : OwnWrite} {status : Nat} {result : Sys2Proof.Bytes} (hk : covers (ending ||| parts [.grp]) k = true) (h : Within k s t) :
    Within k s (t.endWrite w status result) := h.into hk <| by
  unfold State.endWrite
  extract_lets 
  split
  · exact .endJob rfl (.chargeTypical rfl (.set rfl rfl .refl))
  · exact .set rfl rfl .refl

theorem Within.endWrites (hk : covers (ending ||| parts [.grp]) k = true) (h : Within k s t) : Within k s t.endWrites := h.into hk <| by
  unfold State.endWrites
  exact .foldl .refl (fun _ _ h => (.endWrite rfl h))

theorem Within.endUncommitted (hk : covers (ending ||| parts [.grp]) k = true) (h : Within k s t) : Within k s t.endUncommitted := h.into hk <| by
  unfold State.endUncommitted
  extract_lets _ t'
  have ht' : Within (ending ||| parts [.grp]) t t' := .foldl .refl (fun _ _ h => (.post rfl h))
  exact .endWrites rfl (.set rfl rfl ht')

theorem Within.reviewQuorum (hk : covers (ending ||| parts [.grp]) k = true) (h : Within k s t) : Within k s t.reviewQuorum := h.into hk <| by
  unfold State.reviewQuorum
  extract_lets _ t'
  have ht' : Within (ending ||| parts [.grp]) t t' := .notify rfl (.groupEvent rfl (.wr rfl .refl))
  exact .ite .refl (.ite ht' (.ite (.endUncommitted rfl (.set rfl rfl ht')) (.endWrites rfl ht')))

theorem Within.heardFrom {i : Nat} {peer : Sys2Proof.Peer} {port : Nat} (hk : covers (parts [.grp]) k = true) (h : Within k s t) : Within k s
    (t.heardFrom i peer port) := h.into hk <| by
  unfold State.heardFrom
  exact .setLink rfl .refl

theorem Within.peerFrame {f : Sys2Proof.OpfelIn} (hk : covers (ending ||| parts [.parts, .grp]) k = true) (h : Within k s t) : Within k s
    (t.peerFrame f) := h.into hk <| by
  unfold State.peerFrame
  extract_lets _ _ t'
  have ht' : Within (ending ||| parts [.parts, .grp]) t t' := .reviewQuorum rfl (.heardFrom rfl (.countRetry rfl .refl))
  exact .ite (.peerPart rfl (.countRetry rfl .refl)) (.ite (.inc rfl .refl) (by
    split
    · exact .inc rfl .refl
    · exact .ite (.peerPart rfl ht') (.ite ht' (.peerPart rfl (.setLink rfl ht')))))

theorem Within.trim {slot : Nat} (hk : covers (parts [.chans, .jobs]) k = true) (h : Within k s t) : Within k s (t.trim slot) := h.into hk <| by
  unfold State.trim
  split
  · exact .refl
  · exact .update rfl .refl (.ofChans (Map.wf_put _ _ _))

theorem Within.sendCredit {slot : Nat} (hk : covers (parts [.tx, .chans]) k = true) (h : Within k s t) : Within k s (t.sendCredit slot) := h.into hk <| by
  unfold State.sendCredit
  split
  · exact .refl
  · exact .notice rfl .refl

theorem Within.creditIn {slot : Nat} {f : Sys2Proof.OpfelIn} {pl : Sys2Proof.Bytes} (hk : covers (parts [.dict, .tx, .chans, .jobs]) k = true)
    (h : Within k s t) : Within k s (t.creditIn slot f pl) := h.into hk <| by
  unfold State.creditIn
  split
  · exact .refl
  · exact .ite (.inc rfl .refl) (by
      extract_lets t'
      have ht' : Within (parts [.dict, .tx, .chans, .jobs]) t t' := .ite .refl (.trim rfl (.update rfl .refl (.ofChans (Map.wf_put _ _ _))))
      exact .ite (.sendCredit rfl ht') ht')

end Machine
end Sys2Proof
end

section
/-! What frames, handshakes and channels reach. -/

namespace Sys2Proof
namespace Machine

variable {k : Parts} {s t : State}

theorem Within.refuse {slot : Nat} {c : Channel} {f : Sys2Proof.OpfelIn} {status detail : Nat}
    (hk : covers (parts [.tx, .waits, .chans, .jobs, .order]) k = true) (h : Within k s t) : Within k s (t.refuse slot c f status detail) := h.into hk <| by
  unfold State.refuse
  have hc {u : State} {c : Prop} [Decidable c] (h : Within (parts [.tx, .waits, .chans, .jobs, .order]) t u) :
      Within (parts [.tx, .waits, .chans, .jobs, .order]) t (if c then u.sendCredit slot else u) := .ite (.sendCredit rfl h) h
  exact hc (.ite (.trim rfl (.sendRefusal rfl .refl)) (.trim rfl (.update rfl .refl (.ofChans (Map.wf_put _ _ _)))))

theorem Within.received {j : Job} (hk : covers (parts [.tx, .chans]) k = true) (h : Within k s t) : Within k s (t.received j) := h.into hk <| by
  unfold State.received
  exact .ite (.sendCredit rfl .refl) .refl

theorem Within.addSegment {j : Job} {f : Sys2Proof.OpfelIn} {pl : Sys2Proof.Bytes}
    (hk : covers (parts [.dict, .dtx, .tx, .waits, .chans, .jobs, .units, .clus]) k = true) (h : Within k s t) : Within k s
        (t.addSegment j f pl) := h.into hk <| by
  unfold State.addSegment
  exact .ite (.ite (.received rfl (.finish rfl .refl)) (.finish rfl .refl)) (.ite .refl (.ite (.ite (.received rfl (.finish rfl .refl))
      (.finish rfl .refl)) (.ite (.ite (.received rfl
      (.finish rfl .refl)) (.finish rfl .refl)) (.ite (.mapJob rfl .refl) (.ite (.ite (.received rfl (.finish rfl .refl)) (.finish rfl .refl))
          (.received rfl (.mapJob rfl .refl)))))))

theorem Within.admitMessage {slot : Nat} {c : Channel} {f : Sys2Proof.OpfelIn} {pl : Sys2Proof.Bytes}
    (hk : covers (parts [.dict, .dtx, .tx, .waits, .chans, .jobs, .order, .units, .clus]) k = true) (h : Within k s t) : Within k s
    (t.admitMessage slot c f pl) := h.into hk <| by
  unfold State.admitMessage
  exact .addSegment rfl (.trim rfl (.update rfl .refl (.ofChans (Map.wf_put _ _ _))))

theorem Within.repeated {j : Job} {f : Sys2Proof.OpfelIn} (hk : covers (parts [.dict, .tx, .waits]) k = true) (h : Within k s t) : Within k s
    (t.repeated j f) := h.into hk <| by
  unfold State.repeated
  split
  · exact .ite (.resend rfl .refl) (.inc rfl .refl)
  · exact .ite .refl (.inc rfl .refl)
  · exact .refl

theorem Within.message {slot : Nat} {f : Sys2Proof.OpfelIn} {pl : Sys2Proof.Bytes}
    (hk : covers (parts [.dict, .dtx, .tx, .waits, .chans, .jobs, .order, .units, .clus]) k = true) (h : Within k s t) : Within k s
        (t.message slot f pl) := h.into hk <| by
  unfold State.message
  split
  · exact .refl
  · extract_lets fresh
    have hfresh : Within (parts [.dict, .dtx, .tx, .waits, .chans, .jobs, .order, .units, .clus]) t fresh := by
      dsimp only [fresh]
      split
      · exact .refuse rfl .refl
      · exact .admitMessage rfl .refl
    split
    · exact .ite (.addSegment rfl .refl) (.ite hfresh (.repeated rfl .refl))
    · exact .ite (.inc rfl .refl) hfresh

theorem Within.channelFrame {f : Sys2Proof.OpfelIn} (h : Within k s t)
    (hk : covers (parts [.dict, .dtx, .tx, .waits, .chans, .jobs, .order, .units, .clus]) k = true := by rfl) : Within k s (t.channelFrame f) := h.into hk <| by
  unfold State.channelFrame
  extract_lets 
  split
  · exact .inc rfl .refl
  · exact .ite (.inc rfl .refl) (by
      split
      · exact .inc rfl .refl
      · exact .ite .refl (by
          extract_lets t'
          have ht' : Within (parts [.dict, .dtx, .tx, .waits, .chans, .jobs, .order, .units, .clus]) t t' := .countRetry rfl (.update rfl .refl
              (.ofChans (Map.wf_put _ _ _)))
          exact .ite (.creditIn rfl ht') (.message rfl ht')))

theorem Within.receive {f : Sys2Proof.OpfelIn} (hk : covers (ending ||| parts [.parts, .hsIn, .order, .grp]) k = true) (h : Within k s t) : Within k s
    (t.receive f) := h.into hk <| by
  unfold State.receive
  exact .ite (.inc rfl .refl) (.ite (.inc rfl .refl) (.ite (.announceFrame rfl (.countRetry rfl .refl)) (.ite (.handshakeFrame rfl .refl) (.ite
      (.peerFrame rfl .refl) (.channelFrame
      .refl)))))

theorem Out.Within.execOpfelFrame {f : Sys2Proof.OpfelIn} (hk : covers (ending ||| parts [.parts, .hsIn, .order, .grp]) k = true)
    (h : Machine.Within k s t) : Out.Within k s (Machine.execOpfelFrame f t) := .into h hk <| by
  unfold Machine.execOpfelFrame
  exact .when .refl (.receive rfl .refl)

theorem Out.Within.execReassemblyTimeout {p : Sys2Proof.PartRef} (hk : covers (parts [.dict, .parts, .chans, .jobs, .grp]) k = true)
    (h : Machine.Within k s t) : Out.Within k s (Machine.execReassemblyTimeout p t) := .into h hk <| by
  unfold Machine.execReassemblyTimeout
  split
  · split
    · exact .when .refl (.inc rfl (.unsee rfl .refl))
    · exact .next .refl
  · split
    · exact .next .refl
    · extract_lets _ t'
      have ht' : Machine.Within (parts [.dict, .parts, .chans, .jobs, .grp]) t t' := .inc rfl (.dropPart rfl .refl)
      exact .when .refl (.ite ht' (.setLink rfl ht'))

theorem Out.Within.execCredit {f : Sys2Proof.OpfelIn} (hk : covers (ending ||| parts [.parts, .hsIn, .order, .grp]) k = true) (h : Machine.Within k s t) :
    Out.Within k s (Machine.execCredit f t) := .into h hk <| by
  unfold Machine.execCredit
  exact .when .refl (.receive rfl .refl)

theorem Out.Within.execCompletionRelease {j : Sys2Proof.JobRef} (hk : covers (parts [.tx, .chans, .jobs]) k = true) (h : Machine.Within k s t) :
    Out.Within k s (Machine.execCompletionRelease j t) := .into h hk <| by
  unfold Machine.execCompletionRelease
  exact .when .refl (.trim rfl (.release rfl .refl))

theorem Within.hsCounted {t' : Nat} (hk : covers (parts [.tenants]) k = true) (h : Within k s t) : Within k s (t.hsCounted t') := h.into hk <| by
  unfold State.hsCounted
  exact .setTen rfl .refl

theorem Within.hsCharge {t' : Nat} {w : Sys2Proof.Work} (hk : covers (parts [.tenants]) k = true) (h : Within k s t) : Within k s
    (t.hsCharge t' w) := h.into hk <| by
  unfold State.hsCharge
  exact .setTen rfl .refl

theorem Out.Within.execHandshakeRequest {r : Sys2Proof.HsReq} (hk : covers (parts [.dict, .tx, .hsIn, .hs, .tenants, .ent]) k = true)
    (h : Machine.Within k s t) : Out.Within k s (Machine.execHandshakeRequest r t) := .into h hk <| by
  unfold Machine.execHandshakeRequest
  exact .ite (.next .refl) (by
    extract_lets _ t' _ _ _ _ t₃
    have ht' : Machine.Within (parts [.dict, .tx, .hsIn, .hs, .tenants, .ent]) t t' := .hsCounted rfl (.set rfl rfl .refl)
    have ht₃ : Machine.Within (parts [.dict, .tx, .hsIn, .hs, .tenants, .ent]) t t₃ := .hsCharge rfl (.askSeed rfl (.hsCharge rfl ht'))
    exact .ite (.next (.inc rfl (.set rfl rfl .refl))) (.ite (.next (.sendHandshake rfl ht')) (by
      split
      · exact .next (.sendHandshake rfl ht')
      · split
        · exact .next (.sendHandshake rfl (.hsCharge rfl ht'))
        · exact .next (.set rfl rfl ht₃))))

theorem Within.dropHs {t' ident : Nat} {src : Sys2Proof.Peer} (hk : covers (parts [.hs]) k = true) (h : Within k s t) : Within k s
    (t.dropHs t' ident src) := h.into hk <| by
  unfold State.dropHs
  exact .set rfl rfl .refl

theorem Within.hsStall {h' : Handshake} (hk : covers (parts [.hs]) k = true) (h : Within k s t) : Within k s (t.hsStall h') := h.into hk <| by
  unfold State.hsStall
  exact .set rfl rfl .refl

theorem Within.openChannel {h' : Handshake} {slot : Nat} {secret : Sys2Proof.Bytes} (hk : covers (parts [.tx, .chans, .gens, .freed]) k = true)
    (h : Within k s t) : Within k s (t.openChannel h' slot secret) := h.into hk <| by
  unfold State.openChannel
  exact .sendHandshake rfl (.update rfl .refl (.ofChans (Map.wf_put _ _ _)))

theorem Out.Within.execHandshakeReply {tenant ident : Nat} {src : Sys2Proof.Peer}
    (hk : covers (parts [.tx, .chans, .gens, .freed, .hs, .tenants, .ent]) k = true) (h : Machine.Within k s t) : Out.Within k s
    (Machine.execHandshakeReply tenant ident src t) := .into h hk <| by
  unfold Machine.execHandshakeReply
  split
  · exact .next .refl
  · exact .ite (.next .refl) (.ite (.next (.sendHandshake rfl (.dropHs rfl .refl))) (.ite (.next (.sendHandshake rfl (.dropHs rfl .refl))) (.ite
      (.next (.sendHandshake rfl
      (.dropHs rfl .refl))) (by
      split
      · exact .next (.askSeed rfl (.hsStall rfl .refl))
      · next t' secret he => exact .ite (.next (.sendHandshake rfl (.generate rfl (.dropHs rfl .refl) he))) (.ite (.next (.sendHandshake rfl
          (.generate rfl (.dropHs rfl .refl) he)))
          (by
          split
          · exact .next (.sendHandshake rfl (.generate rfl (.dropHs rfl .refl) he))
          · exact .next (.openChannel rfl (.hsCharge rfl (.generate rfl (.dropHs rfl .refl) he)))))))))

theorem Within.abortChannel {slot : Nat} (hk : covers ending k = true) (h : Within k s t) : Within k s (t.abortChannel slot) := h.into hk <| by
  unfold State.abortChannel
  extract_lets _ _ t₂
  have ht₂ : Within ending t t₂ := .foldl (.foldl .refl (fun _ _ h => (.clearSaved rfl h))) (fun _ _ h => (.latchJob rfl h))
  exact .settleChannel rfl (.update rfl ht₂ (.ofChans (Map.wf_update _ _ _)))

theorem Out.Within.execPendingExpiry {chan : Nat} (hk : covers ending k = true) (h : Machine.Within k s t) : Out.Within k s
    (Machine.execPendingExpiry chan t) := .into h hk <| by
  unfold Machine.execPendingExpiry
  split
  · exact .when .refl (.abortChannel rfl .refl)
  · exact .next .refl

theorem Out.Within.execKeepaliveExpiry {chan : Nat} (hk : covers ending k = true) (h : Machine.Within k s t) : Out.Within k s
    (Machine.execKeepaliveExpiry chan t) := .into h hk <| by
  unfold Machine.execKeepaliveExpiry
  split
  · exact .when .refl (.abortChannel rfl (.event rfl .refl))
  · exact .next .refl

theorem Within.waitRandom {j : Job} (hk : covers (parts [.jobs]) k = true) (h : Within k s t) : Within k s (t.waitRandom j) := h.into hk <| by
  unfold State.waitRandom
  exact .mapJob rfl .refl

theorem Within.randomReady {j : Job} {u : State} (hk : covers (parts [.jobs, .ent]) k = true) (h : Within k s t) (he : t.randomReady j = .wait u) :
    Within k s u := h.into hk <| by
  unfold State.randomReady at he
  split at he
  · cases he
  · split at he
    · cases he
    · split at he
      · cases he
      · dsimp only at he
        split at he
        · cases he; exact .waitRandom rfl (.askSeed rfl .refl)
        · split at he
          · cases he; exact .mapJob rfl (.waitRandom rfl (.request rfl (.setDrbg rfl .refl)))
          · cases he

theorem Within.startReservation {k' : KeyRec} {uses : Bool} (hk : covers (parts [.keys]) k = true) (h : Within k s t) : Within k s
    (t.startReservation k' uses) := h.into hk <| by
  unfold State.startReservation
  exact .ite .refl (.set rfl rfl .refl)

theorem Within.indexReady {j : Job} {x : KeyRec} {u : State} (hk : covers (parts [.keys]) k = true) (h : Within k s t) (he : t.indexReady j x = .wait u) :
    Within k s u := h.into hk <| by
  unfold State.indexReady at he
  split at he
  · cases he
  · split at he
    · cases he
    · split at he
      · cases he
      · split at he
        · cases he; exact .startReservation rfl .refl
        · cases he

theorem Within.usesReady {j : Job} {x : KeyRec} {u : State} (hk : covers (parts [.keys]) k = true) (h : Within k s t) (he : t.usesReady j x = .wait u) :
    Within k s u := h.into hk <| by
  unfold State.usesReady at he
  split at he
  · cases he
  · split at he
    · cases he
    · split at he
      · cases he
      · split at he
        · cases he; exact .startReservation rfl .refl
        · cases he

theorem Within.keyReady {j : Job} {u : State} (hk : covers (parts [.keys]) k = true) (h : Within k s t)
    (he : t.keyReady j = .wait u) : Within k s u := h.into hk <| by
  unfold State.keyReady at he
  split at he
  · cases he
  · split at he
    · cases he
    · split at he
      · cases he; exact .refl
      · split at he
        · cases he; exact .refl
        · split at he
          · cases he; exact .refl
          · split at he
            · exact .usesReady rfl .refl he
            · split at he
              · exact .indexReady rfl .refl he
              · cases he

theorem Within.streamReady {j : Job} {u : State} (hk : covers (parts [.keys]) k = true) (h : Within k s t)
    (he : t.streamReady j = .wait u) : Within k s u := h.into hk <| by
  unfold State.streamReady at he
  split at he
  · cases he
  · split at he
    · cases he; exact .refl
    · split at he
      · cases he
      · cases he; exact .refl

theorem Within.ready {j : Job} {u : State} (hk : covers (parts [.jobs, .ent, .keys]) k = true) (h : Within k s t)
    (he : t.ready j = .wait u) : Within k s u := h.into hk <| by
  unfold State.ready at he
  split at he
  · cases he
  · split at he
    · cases he; exact .refl
    · split at he
      · split at he
        · split at he
          · split at he
            · cases he
            · cases he; exact .refl
          · exact .streamReady rfl .refl he
        · exact .keyReady rfl .refl he
      · exact .randomReady rfl .refl he

theorem Out.Within.execPing {j : Sys2Proof.JobRef} (hk : covers (parts [.dict, .dtx, .tx, .waits, .chans, .jobs, .units, .clus]) k = true)
    (h : Machine.Within k s t) : Out.Within k s (Machine.execPing j t) := .into h hk <| by
  unfold Machine.execPing
  split
  · exact .next (.finish rfl .refl)
  · exact .next .refl

theorem Out.Within.execClose {j : Sys2Proof.JobRef} (hk : covers (parts [.chans]) k = true) (h : Machine.Within k s t) : Out.Within k s
    (Machine.execClose j t) := .into h hk <| by
  unfold Machine.execClose
  split
  · exact .next (.update rfl .refl (.ofChans (Map.wf_put _ _ _)))
  · exact .next .refl

theorem Out.Within.execCloseDrained {chan : Nat} (hk : covers settling k = true) (h : Machine.Within k s t) : Out.Within k s
    (Machine.execCloseDrained chan t) := .into h hk <| by
  unfold Machine.execCloseDrained
  split
  · exact .next .refl
  · split
    · exact .when .refl (.freeChannel rfl .refl)
    · split
      · exact .next .refl
      · exact .ite (.next .refl) (by
          extract_lets 
          split
          · exact .next (.freeChannel rfl (.sendCompletion rfl (.finish rfl .refl)))
          · exact .next .refl)

theorem Out.Within.execCloseNow {j : Sys2Proof.JobRef} (hk : covers ending k = true) (h : Machine.Within k s t) : Out.Within k s
    (Machine.execCloseNow j t) := .into h hk <| by
  unfold Machine.execCloseNow
  split
  · extract_lets 
    split
    · exact .next (.abortChannel rfl (.ite (.sendCompletion rfl (.finish rfl .refl)) (.finish rfl .refl)))
    · exact .next .refl
  · exact .next .refl

theorem Out.Within.execRetire {j : Sys2Proof.JobRef} (hk : covers (parts [.dict, .dtx, .tx, .waits, .chans, .jobs, .units, .clus]) k = true)
    (h : Machine.Within k s t) : Out.Within k s (Machine.execRetire j t) := .into h hk <| by
  unfold Machine.execRetire
  split
  · exact .next (.trim rfl (.finish rfl (.update rfl .refl (.ofChans (Map.wf_put _ _ _)))))
  · exact .next .refl

theorem Out.Within.execSubscribe {j : Sys2Proof.JobRef} (hk : covers (parts [.dict, .dtx, .tx, .waits, .chans, .jobs, .units, .clus]) k = true)
    (h : Machine.Within k s t) : Out.Within k s (Machine.execSubscribe j t) := .into h hk <| by
  unfold Machine.execSubscribe
  split
  · exact .next (.finish rfl (.update rfl .refl (.ofChans (Map.wf_put _ _ _))))
  · exact .next .refl

theorem Within.resetTenant {t' : Nat} {req : Option Sys2Proof.JobRef} (hk : covers ending k = true) (h : Within k s t) : Within k s
    (t.resetTenant t' req) := h.into hk <| by
  unfold State.resetTenant
  extract_lets _ _ _ _ _ _ u₂
  have hu₂ : Within ending t u₂ := .foldl (.foldl .refl (fun _ _ h => (.clearSaved rfl h))) (fun _ _ h => (.latchJob rfl h))
  exact .ite (.setTen rfl .refl) (.settleReset rfl (.setTen rfl (.set rfl rfl hu₂)))

theorem Out.Within.execTenantReset {j : Sys2Proof.JobRef} (hk : covers ending k = true) (h : Machine.Within k s t) : Out.Within k s
    (Machine.execTenantReset j t) := .into h hk <| by
  unfold Machine.execTenantReset
  split
  · exact .ite (.next (.finish rfl .refl)) (.next (.resetTenant rfl .refl))
  · exact .next .refl

theorem Within.refuseDict {r : Sys2Proof.JobRef} {e : Refused} (hk : covers (parts [.dict, .dtx, .tx, .waits, .chans, .jobs, .units, .clus]) k = true)
    (h : Within k s t) : Within k s (t.refuseDict r e) := h.into hk <| by
  unfold State.refuseDict
  exact .finish rfl .refl

theorem Within.waitRing {r : Sys2Proof.JobRef} (hk : covers (parts [.jobs, .trav]) k = true) (h : Within k s t) : Within k s (t.waitRing r) := h.into hk <| by
  unfold State.waitRing
  exact .set rfl rfl (.mapJob rfl .refl)

theorem Within.unwaitRing {r : Sys2Proof.JobRef} (hk : covers (parts [.jobs, .trav]) k = true) (h : Within k s t) : Within k s
    (t.unwaitRing r) := h.into hk <| by
  unfold State.unwaitRing
  exact .set rfl rfl (.mapJob rfl .refl)

theorem Within.failToken (hk : covers (parts [.dict, .dtx]) k = true) (h : Within k s t) : Within k s t.failToken := h.into hk <| by
  unfold State.failToken
  exact .event rfl (.wr rfl .refl)

theorem Within.transitionCheck {v : Sys2Proof.Bytes} (hk : covers (parts [.dict, .dtx]) k = true) (h : Within k s t) : Within k s
    (t.transitionCheck v).1 := h.into hk <| by
  unfold State.transitionCheck
  extract_lets 
  split
  · exact .refl
  · split
    · exact .refl
    · split
      · exact .refl
      · split
        · exact .refl
        · split
          · exact .failToken rfl .refl
          · split
            · exact .refl
            · split
              · exact .refl
              · exact .refl

theorem Within.startFuse {m : Move} {digest : Nat} (hk : covers (parts [.lc]) k = true) (h : Within k s t) : Within k s
    (t.startFuse m digest) := h.into hk <| by
  unfold State.startFuse
  exact .set rfl rfl .refl

theorem Within.answerNow {r : Sys2Proof.JobRef} (hk : covers (parts [.tx, .chans, .jobs]) k = true) (h : Within k s t) : Within k s
    (t.answerNow r) := h.into hk <| by
  unfold State.answerNow
  split
  · exact .ite (.sendCompletion rfl .refl) .refl
  · exact .refl

theorem Within.resetTraverse (hk : covers (parts [.trav]) k = true) (h : Within k s t) : Within k s t.resetTraverse := h.into hk <| by
  unfold State.resetTraverse
  exact .set rfl rfl .refl

theorem Within.holdEpoch (hk : covers (parts [.dtx]) k = true) (h : Within k s t) : Within k s t.holdEpoch := h.into hk <| by
  unfold State.holdEpoch
  exact .set rfl rfl .refl

theorem Within.resetEntries {cold : Bool} (hk : covers (parts [.dict, .dtx]) k = true) (h : Within k s t) : Within k s (t.resetEntries cold) := h.into hk <| by
  unfold State.resetEntries
  exact .holdEpoch rfl (.update rfl .refl (.ofDict (Map.wf_filter _ _)))

theorem Within.clearLogic {cold : Bool} (hk : covers everything k = true) (h : Within k s t) : Within k s (t.clearLogic cold) :=
  h.into hk <| by
  unfold State.clearLogic
  exact .update rfl .refl { Kept.Stays.refl t.kept with cmem := fun _ => rfl, chans := fun _ => rfl, vol := fun _ => rfl }

theorem Within.fencedPorts (hk : covers (parts [.dict]) k = true) (h : Within k s t) : Within k s t.fencedPorts := h.into hk <| by
  unfold State.fencedPorts
  exact .foldl .refl (fun _ _ h => (.wr rfl h))

theorem Within.beginReset {cold : Bool} {cause : Nat} (hk : covers everything k = true) (h : Within k s t) : Within k s
    (t.beginReset cold cause) := h.into hk <| by
  unfold State.beginReset
  exact .set rfl rfl (.wr rfl (.fencedPorts rfl (.resetTraverse rfl (.resetEntries rfl (.clearLogic rfl .refl)))))

theorem Within.warmReset {cause : Nat} (hk : covers everything k = true) (h : Within k s t) : Within k s (t.warmReset cause) := h.into hk <| by
  unfold State.warmReset
  exact .ite .refl (.ite (.set rfl rfl .refl) (by
    extract_lets t'
    have ht' : Within everything t t' := .beginReset rfl .refl
    exact .wr rfl (.ite (.event rfl (.wr rfl ht')) ht')))

theorem Within.afterTxn {g : Journal} {r : Sys2Proof.JobRef} (hk : covers everything k = true) (h : Within k s t) : Within k s
    (t.afterTxn g r) := h.into hk <| by
  unfold State.afterTxn
  split
  · split
    · exact .startFuse rfl (.answerNow rfl .refl)
    · exact .refl
  · exact .ite (.warmReset rfl (.answerNow rfl .refl)) .refl

theorem Within.answerTxn {g : Journal} (hk : covers everything k = true) (h : Within k s t) : Within k s (t.answerTxn g) := h.into hk <| by
  unfold State.answerTxn
  extract_lets 
  split
  · exact .afterTxn rfl (.ite .refl (.finish rfl .refl))
  · exact .set rfl rfl .refl

theorem Within.setEntry {w : DWrite} (hk : covers (parts [.dict]) k = true) (h : Within k s t) : Within k s (t.setEntry w) := h.into hk <| by
  unfold State.setEntry
  split
  · exact .refl
  · exact .ite (.wr rfl .refl) (.ite .refl (.wr rfl .refl))

theorem Within.record {kind verdict channel region flags digest : Nat} (hk : covers (parts [.dict, .dtx, .rwork, .trav]) k = true) (h : Within k s t) :
    Within k s (t.record kind verdict channel region flags digest) := h.into hk <| by
  unfold State.record
  exact .ite (.checkpoint rfl (.bench rfl .refl)) (.bench rfl .refl)

theorem Within.portWritten {old : State} {p sub v : Nat} (hk : covers (parts [.dict, .dtx, .ports, .ptp, .tx, .waits, .chans, .tenants, .flt]) k = true)
    (h : Within k s t) : Within k s (State.portWritten old t p sub v) := h.into hk <| by
  unfold State.portWritten
  split
  · exact .ite (.ite (.portDown rfl .refl) .refl) (.ite (.wr rfl (.set rfl rfl .refl)) .refl)
  · exact .ite .refl (.setPort rfl .refl)
  · exact .ite .refl (.setPort rfl .refl)
  · exact .refl

theorem Within.ptpPortWritten (hk : covers (parts [.dict, .dtx, .ptp, .tx, .chans]) k = true) (h : Within k s t) : Within k s t.ptpPortWritten :=
    h.into hk <| by
  unfold State.ptpPortWritten
  split
  · exact .ite .refl (.movePtp rfl .refl)
  · extract_lets _ t'
    have ht' : Within (parts [.dict, .dtx, .ptp, .tx, .chans]) t t' := .wr rfl (.set rfl rfl .refl)
    exact .ite (.setQuality rfl ht') ht'

theorem Within.ptpWritten {sub : Nat} (hk : covers (parts [.dict, .dtx, .ptp, .tx, .chans]) k = true) (h : Within k s t) : Within k s
    (t.ptpWritten sub) := h.into hk <| by
  unfold State.ptpWritten
  exact .ite (.ptpPortWritten rfl .refl) (.ite (.setQuality rfl .refl) .refl)

theorem Within.bindingWritten {t' : Nat} (hk : covers (parts [.dict, .dtx, .tx, .waits, .chans, .tenants, .flt]) k = true) (h : Within k s t) : Within k s
    (t.bindingWritten t') := h.into hk <| by
  unfold State.bindingWritten
  exact .failovers rfl (.setTen rfl .refl)

end Machine
end Sys2Proof
end

section
/-! What the entropy source, fences and the writes of the dictionary reach. -/

namespace Sys2Proof
namespace Machine

variable {k : Parts} {s t : State}

theorem Within.giveBlock {cl : Sys2Proof.EngClass} {b : Nat} {h' : Holder} (hk : covers (parts [.units]) k = true) (h : Within k s t) : Within k s
    (t.giveBlock cl b h') := h.into hk <| by
  unfold State.giveBlock
  exact .foldl .refl (fun _ _ h => (.setEngine rfl h))

theorem Within.dropFenced {cl : Sys2Proof.EngClass} (hk : covers (parts [.units]) k = true) (h : Within k s t) : Within k s (t.dropFenced cl) := h.into hk <| by
  unfold State.dropFenced
  exact .foldl .refl (fun _ _ h => (.ite h (.giveBlock rfl h)))

theorem Within.fitReserve {cl : EngClass} {n : Nat} (hk : covers (parts [.units]) k = true) (h : Within k s t) : Within k s
    (t.fitReserve cl n) := h.into hk <| by
  clear h hk
  induction n generalizing t with
  | zero => exact .refl
  | succ n ih =>
    unfold State.fitReserve
    extract_lets held
    split
    · split
      · exact Within.trans (.giveBlock rfl .refl) ih
      · exact .refl
    · split
      · exact Within.trans (.giveBlock rfl .refl) ih
      · exact .refl

theorem Within.fitHolding {t' : Nat} {cl : EngClass} {busy : Bool} {n : Nat} (hk : covers (parts [.units]) k = true) (h : Within k s t) : Within k s
    (t.fitHolding t' cl busy n) := h.into hk <| by
  clear h hk
  induction n generalizing t with
  | zero => exact .refl
  | succ n ih =>
    unfold State.fitHolding
    extract_lets held
    split
    · split
      · exact Within.trans (.giveBlock rfl .refl) ih
      · exact .refl
    · split
      · exact Within.trans (.giveBlock rfl .refl) ih
      · exact .refl

theorem Within.gather {t' : Nat} {cl : Sys2Proof.EngClass} (hk : covers (parts [.units]) k = true) (h : Within k s t) : Within k s
    (t.gather t' cl) := h.into hk <| by
  unfold State.gather
  split
  · exact .refl
  · exact .ite .refl (.foldl .refl (fun _ _ h => (.giveBlock rfl h)))

theorem Within.rescale (hk : covers (parts [.dict, .dtx]) k = true) (h : Within k s t) : Within k s t.rescale := h.into hk <| by
  unfold State.rescale
  exact .ite .refl (.event rfl (.wr rfl .refl))

theorem Within.rebalanceFrom {old : State} {busy : Bool} (hk : covers (parts [.dict, .dtx, .units]) k = true) (h : Within k s t) : Within k s
    (State.rebalanceFrom old t busy) := h.into hk <| by
  unfold State.rebalanceFrom
  extract_lets _ _ t₃
  have ht₃ : Within (parts [.dict, .dtx, .units]) t t₃ := .foldl (.foldl (.foldl .refl (fun _ _ h => (.dropFenced rfl h))) (fun _ _ h =>
      (.fitReserve rfl h))) (fun _ _ h
      => (.foldl h (fun _ _ h => (.fitHolding rfl (.ite h (.gather rfl h))))))
  exact .rescale rfl (.ite (.event rfl ht₃) ht₃)

theorem Within.rebalance {busy : Bool} (hk : covers (parts [.dict, .dtx, .units]) k = true) (h : Within k s t) : Within k s
    (t.rebalance busy) := h.into hk <| by
  unfold State.rebalance
  exact .rebalanceFrom rfl .refl

theorem Within.placeReserve {cl : Sys2Proof.EngClass} (hk : covers (parts [.units]) k = true) (h : Within k s t) : Within k s
    (t.placeReserve cl) := h.into hk <| by
  unfold State.placeReserve
  extract_lets _ _ t'
  have ht' : Within (parts [.units]) t t' := .foldl .refl (fun _ _ h => (.giveBlock rfl h))
  exact .foldl ht' (fun _ _ h => (.giveBlock rfl h))

theorem Within.reserveWritten (hk : covers (parts [.dict, .dtx, .units]) k = true) (h : Within k s t) : Within k s t.reserveWritten := h.into hk <| by
  unfold State.reserveWritten
  exact .rebalanceFrom rfl (.foldl .refl (fun _ _ h => (.placeReserve rfl h)))

theorem Within.releaseFence {u' : Nat} (hk : covers (parts [.units]) k = true) (h : Within k s t) : Within k s (t.releaseFence u') := h.into hk <| by
  unfold State.releaseFence
  exact .ite (.setEngine rfl .refl) (.setEngine rfl .refl)

theorem Within.fenceEngine {u' : Nat} {owner : Bool} (hk : covers (parts [.units]) k = true) (h : Within k s t) : Within k s
    (t.fenceEngine u' owner) := h.into hk <| by
  unfold State.fenceEngine
  exact .setEngine rfl .refl

theorem Within.fenceUnits {us : List Nat} {row : Nat × Nat × Nat} {owner le : Bool} (hk : covers (parts [.dict, .dtx, .units, .flt]) k = true)
    (h : Within k s t) : Within k s (t.fenceUnits us row owner le) := h.into hk <| by
  unfold State.fenceUnits
  extract_lets _ t₂
  have ht₂ : Within (parts [.dict, .dtx, .units, .flt]) t t₂ := .logRow rfl (.foldl .refl (fun _ _ h => (.fenceEngine rfl h)))
  exact .rebalanceFrom rfl (.ite (.event rfl ht₂) ht₂)

theorem Within.requestFence {u' : Nat} (hk : covers (parts [.dict, .dtx, .units, .flt]) k = true) (h : Within k s t) : Within k s
    (t.requestFence u') := h.into hk <| by
  unfold State.requestFence
  exact .ite .refl (.fenceUnits rfl .refl)

theorem Within.fenceWritten {c v : Nat} (hk : covers (parts [.dict, .dtx, .units, .flt]) k = true) (h : Within k s t) : Within k s
    (t.fenceWritten c v) := h.into hk <| by
  unfold State.fenceWritten
  exact .ite (.ite (.foldl .refl (fun _ _ h => (.releaseFence rfl h))) .refl) (.foldl .refl (fun _ _ h => (.ite (.requestFence rfl h) (.releaseFence rfl h))))

theorem Within.raiseFloor {f : Nat} (hk : covers (parts [.lc]) k = true) (h : Within k s t) : Within k s (t.raiseFloor f) := h.into hk <| by
  unfold State.raiseFloor
  exact .set rfl rfl .refl

theorem Within.stage {sub v : Nat} (hk : covers (parts [.kern]) k = true) (h : Within k s t) : Within k s (t.stage sub v) := h.into hk <| by
  unfold State.stage
  exact .set rfl rfl .refl

theorem Within.install (hk : covers (parts [.dict, .kern]) k = true) (h : Within k s t) : Within k s t.install := h.into hk <| by
  unfold State.install
  exact .set rfl rfl (.wr rfl .refl)

theorem Within.discardStage (hk : covers (parts [.kern]) k = true) (h : Within k s t) : Within k s t.discardStage := h.into hk <| by
  unfold State.discardStage
  exact .set rfl rfl .refl

theorem Within.removeKernel {b : Nat} (hk : covers (parts [.dict, .dtx, .rwork, .kern, .trav]) k = true) (h : Within k s t) : Within k s
    (t.removeKernel b) := h.into hk <| by
  unfold State.removeKernel
  split
  · exact .event rfl .refl
  · exact .record rfl (.event rfl (.update rfl .refl (.ofBound (Map.wf_erase _ _))))

theorem Within.installWritten {ws : List DWrite} {v : Nat} (hk : covers (parts [.dict, .dtx, .rwork, .kern, .trav]) k = true) (h : Within k s t) : Within k s
    (t.installWritten ws v) := h.into hk <| by
  unfold State.installWritten
  split
  · exact .install rfl .refl
  · exact .discardStage rfl .refl
  · split
    · exact .removeKernel rfl .refl
    · exact .refl

theorem Within.reseedInterval (hk : covers (parts [.lap]) k = true) (h : Within k s t) : Within k s t.reseedInterval := h.into hk <| by
  unfold State.reseedInterval
  exact .set rfl rfl .refl

theorem Within.reseedAll (hk : covers (parts [.ent]) k = true) (h : Within k s t) : Within k s t.reseedAll := h.into hk <| by
  unfold State.reseedAll
  exact .foldl .refl (fun _ _ h => (.ite (.request rfl (.setDrbg rfl h)) h))

theorem Within.sampleSource {old : Nat} (hk : covers (parts [.ent]) k = true) (h : Within k s t) : Within k s (t.sampleSource old) := h.into hk <| by
  unfold State.sampleSource
  exact .ite .refl (.set rfl rfl .refl)

theorem Within.setSource {n : Nat} {v : Source} (hk : covers (parts [.ent]) k = true) (h : Within k s t) : Within k s (t.setSource n v) := h.into hk <| by
  unfold State.setSource
  exact .set rfl rfl .refl

theorem Within.restartSource {n : Nat} (hk : covers (parts [.dict, .ent]) k = true) (h : Within k s t) : Within k s (t.restartSource n) := h.into hk <| by
  unfold State.restartSource
  exact .ite (.wr rfl (.setSource rfl .refl)) .refl

theorem Within.stopDrbgs (hk : covers (parts [.ent]) k = true) (h : Within k s t) : Within k s t.stopDrbgs := h.into hk <| by
  unfold State.stopDrbgs
  exact .set rfl rfl .refl

theorem Within.entropyEvent {flags : Nat} {all : Bool} (hk : covers (parts [.dict, .dtx, .tx, .chans]) k = true) (h : Within k s t) : Within k s
    (t.entropyEvent flags all) := h.into hk <| by
  unfold State.entropyEvent
  exact .ite (.event rfl .refl) (.notify rfl (.event rfl .refl))

theorem Within.cutJob {j : Job} {status detail clFlag : Nat} (hk : covers ending k = true) (h : Within k s t) : Within k s
    (t.cutJob j status detail clFlag) := h.into hk <| by
  unfold State.cutJob
  exact .endJob rfl (.ite (.accrue rfl .refl) .refl)

theorem Within.beginFamine (hk : covers (ending ||| parts [.hs]) k = true) (h : Within k s t) : Within k s t.beginFamine := h.into hk <| by
  unfold State.beginFamine
  extract_lets t' t₂ t₃
  have ht' : Within (ending ||| parts [.hs]) t t' := .stopDrbgs rfl (.entropyEvent rfl (.wr rfl .refl))
  have ht₂ : Within (ending ||| parts [.hs]) t t₂ := .foldl (.set rfl rfl ht') (fun _ _ h => (.sendHandshake rfl h))
  have ht₃ : Within (ending ||| parts [.hs]) t t₃ := .foldl ht₂ (fun _ _ h => (.cutJob rfl h))
  exact .settle rfl (.foldl ht₃ (fun _ _ h => (.finish rfl h)))

theorem Within.entropyDown (hk : covers (ending ||| parts [.hs]) k = true) (h : Within k s t) : Within k s t.entropyDown := h.into hk <| by
  unfold State.entropyDown
  exact .ite (.beginFamine rfl .refl) .refl

theorem Within.dropRaw {n : Nat} (hk : covers (parts [.ent]) k = true) (h : Within k s t) : Within k s (t.dropRaw n) := h.into hk <| by
  unfold State.dropRaw
  exact .set rfl rfl .refl

theorem Within.disableSource {n : Nat} (hk : covers (ending ||| parts [.hs]) k = true) (h : Within k s t) : Within k s (t.disableSource n) := h.into hk <| by
  unfold State.disableSource
  exact .ite .refl (.entropyDown rfl (.dropRaw rfl (.wr rfl (.setSource rfl .refl))))

theorem Within.entropyWritten {old : State} {idx sub v : Nat} (hk : covers (ending ||| parts [.hs, .lap]) k = true) (h : Within k s t) : Within k s
    (State.entropyWritten old t idx sub v) := h.into hk <| by
  unfold State.entropyWritten
  exact .ite (.ite (.reseedInterval rfl .refl) (.ite (.reseedAll rfl .refl) .refl)) (.ite (.ite (.sampleSource rfl .refl) .refl) (.ite
      (.restartSource rfl .refl) (.ite
      (.disableSource rfl .refl) .refl)))

theorem Within.takeBlock (hk : covers (parts [.free, .ent]) k = true) (h : Within k s t) : Within k s t.takeBlock.1 := h.into hk <| by
  unfold State.takeBlock
  split
  · exact .set rfl rfl .refl
  · exact .drawn rfl .refl

theorem Within.retireKey {k' : KeyRec} (hk : covers (parts [.keys]) k = true) (h : Within k s t) : Within k s (t.retireKey k') := h.into hk <| by
  unfold State.retireKey
  exact .ite (.set rfl rfl .refl) .refl

theorem Within.keysReset (hk : covers (ending ||| parts [.rwork, .trav]) k = true) (h : Within k s t) : Within k s t.keysReset := h.into hk <| by
  unfold State.keysReset
  extract_lets _ _ _ s'
  have hs' : Within (ending ||| parts [.rwork, .trav]) t s' := .takeBlock rfl (.foldl .refl (fun _ _ h => (.retireKey rfl h)))
  exact .foldl (.record rfl (.wr rfl (.update rfl hs' (.ofRecs (Map.wf_filter _ _))))) (fun _ _ h => (.endJob rfl h))

theorem Within.watchLines (hk : covers (parts [.gate]) k = true) (h : Within k s t) : Within k s t.watchLines := h.into hk <| by
  unfold State.watchLines
  exact .set rfl rfl .refl

theorem Within.windowRecordOf {f : Nat → Nat} {w event : Nat} (hk : covers (parts [.dict, .dtx, .rwork, .trav]) k = true) (h : Within k s t) : Within k s
    (t.windowRecordOf f w event) := h.into hk <| by
  unfold State.windowRecordOf
  exact .record rfl .refl

theorem Within.windowWritten {old : State} {w v : Nat} (hk : covers (parts [.dict, .dtx, .rwork, .trav]) k = true) (h : Within k s t) : Within k s
    (State.windowWritten old t w v) := h.into hk <| by
  unfold State.windowWritten
  extract_lets t'
  have ht' : Within (parts [.dict, .dtx, .rwork, .trav]) t t' := .ite (.windowRecordOf rfl .refl) .refl
  exact .ite ht' (.windowRecordOf rfl ht')

theorem Within.endGate (hk : covers (parts [.dict, .dtx, .rwork, .gate, .trav]) k = true) (h : Within k s t) : Within k s t.endGate := h.into hk <| by
  unfold State.endGate
  exact .ite (.set rfl rfl (.checkpoint rfl .refl)) .refl

theorem Within.releaseLine {l : Nat} {forced : Bool} (hk : covers (parts [.dict, .dtx, .pins, .rwork, .gate, .trav]) k = true) (h : Within k s t) : Within k s
    (t.releaseLine l forced) := h.into hk <| by
  unfold State.releaseLine
  exact .endGate rfl (.record rfl (.event rfl (.set rfl rfl .refl)))

theorem Within.setFlash {n : Nat} {v : Flash} (hk : covers (parts [.flash]) k = true) (h : Within k s t) : Within k s (t.setFlash n v) := h.into hk <| by
  unfold State.setFlash
  exact .set rfl rfl .refl

theorem Within.toPass {n : Nat} (hk : covers (parts [.dict, .flash]) k = true) (h : Within k s t) : Within k s (t.toPass n) := h.into hk <| by
  unfold State.toPass
  exact .wr rfl (.setFlash rfl .refl)

theorem Within.forcePass {n : Nat} (hk : covers (parts [.dict, .flash]) k = true) (h : Within k s t) : Within k s (t.forcePass n) := h.into hk <| by
  unfold State.forcePass
  exact .ite (.wr rfl (.toPass rfl .refl)) .refl

theorem Within.forceLines (hk : covers (parts [.dict, .dtx, .pins, .rwork, .flash, .gate, .trav]) k = true)
    (h : Within k s t) : Within k s t.forceLines := h.into hk <| by
  unfold State.forceLines
  exact .foldl .refl (fun _ _ h => (.ite h (.releaseLine rfl (.watchLines rfl (.foldl h (fun _ _ h => (.forcePass rfl h)))))))

theorem Within.forceRelease {lines : Nat} (hk : covers (parts [.dict, .dtx, .pins, .rwork, .flash, .gate, .trav]) k = true) (h : Within k s t) : Within k s
    (t.forceRelease lines) := h.into hk <| by
  unfold State.forceRelease
  exact .forceLines rfl (.set rfl rfl .refl)

theorem Within.closeWindow {w event : Nat} (hk : covers (parts [.dict, .dtx, .rwork, .trav]) k = true) (h : Within k s t) : Within k s
    (t.closeWindow w event) := h.into hk <| by
  unfold State.closeWindow
  exact .ite (.wr rfl (.windowRecordOf rfl .refl)) .refl

theorem Within.leavePass {n : Nat} (hk : covers (parts [.dict, .dtx, .rwork, .trav]) k = true) (h : Within k s t) : Within k s
    (t.leavePass n) := h.into hk <| by
  unfold State.leavePass
  exact .foldl .refl (fun _ _ h => (.ite (.closeWindow rfl h) h))

theorem Within.toGated {n : Nat} (hk : covers (parts [.dict, .dtx, .rwork, .flash, .gate, .trav]) k = true) (h : Within k s t) : Within k s
    (t.toGated n) := h.into hk <| by
  unfold State.toGated
  extract_lets _ t₂
  have ht₂ : Within (parts [.dict, .dtx, .rwork, .flash, .gate, .trav]) t t₂ := .wr rfl (.wr rfl (.ite (.leavePass rfl .refl) .refl))
  exact .watchLines rfl (.setFlash rfl ht₂)

theorem Within.assertLines {p : Nat → Bool} (hk : covers (parts [.pins, .gate]) k = true) (h : Within k s t) : Within k s (t.assertLines p) := h.into hk <| by
  unfold State.assertLines
  exact .set rfl rfl .refl

theorem Within.remeasure {lines : Nat} (hk : covers (parts [.dict, .dtx, .pins, .rwork, .flash, .gate, .trav]) k = true) (h : Within k s t) : Within k s
    (t.remeasure lines) := h.into hk <| by
  unfold State.remeasure
  exact .watchLines rfl (.foldl (.assertLines rfl .refl) (fun _ _ h => (.toGated rfl h)))

theorem Within.sequencerWritten {sub v : Nat} (hk : covers (parts [.dict, .dtx, .pins, .rwork, .flash, .gate, .trav]) k = true) (h : Within k s t) :
    Within k s (t.sequencerWritten sub v) := h.into hk <| by
  unfold State.sequencerWritten
  exact .ite (.watchLines rfl .refl) (.ite (.forceRelease rfl .refl) (.ite (.remeasure rfl .refl) .refl))

theorem Within.checkpointInterval (hk : covers (parts [.lap]) k = true) (h : Within k s t) : Within k s t.checkpointInterval := h.into hk <| by
  unfold State.checkpointInterval
  exact .set rfl rfl .refl

theorem Within.resumeWritten {v : Nat} (hk : covers (parts [.dict, .dtx, .pins, .rwork, .flash, .gate, .trav, .tamp]) k = true) (h : Within k s t) :
    Within k s (t.resumeWritten v) := h.into hk <| by
  unfold State.resumeWritten
  exact .ite (.forceLines rfl (.watchLines rfl (.set rfl rfl .refl))) .refl

theorem Within.groupStart (hk : covers (parts [.dict]) k = true) (h : Within k s t) : Within k s t.groupStart := h.into hk <| by
  unfold State.groupStart
  exact .ite (.wr rfl .refl) .refl

theorem Within.regroup {old : State} (hk : covers (ending ||| parts [.grp]) k = true) (h : Within k s t) : Within k s (State.regroup old t) := h.into hk <| by
  unfold State.regroup
  extract_lets _ _ u'
  have hu' : Within (ending ||| parts [.grp]) t u' := .wr rfl (.wr rfl (.endUncommitted rfl (.set rfl rfl .refl)))
  exact .ite (.ite (.set rfl rfl .refl) (.reviewQuorum rfl (.update rfl hu' (.ofRecs (Map.wf_filter _ _))))) (.ite (.groupStart rfl
      (.set rfl rfl .refl)) (.reviewQuorum rfl (.set rfl rfl .refl)))

theorem Within.entryWritten {old : State} {ws : List DWrite} {w : DWrite} (hk : covers everything k = true) (h : Within k s t) : Within k s
    (State.entryWritten old ws t w) := h.into hk <| by
  unfold State.entryWritten
  exact .ite (.portWritten rfl .refl) (.ite (.ptpWritten rfl .refl) (.ite (.bindingWritten rfl .refl) (.ite (.ite (.resetTenant rfl .refl) .refl)
      (.ite (.ite (.rebalance rfl
      .refl) .refl) (.ite (.ite (.lengthWritten rfl .refl) (.ite (.reserveWritten rfl .refl) .refl)) (.ite (.ite (.fenceWritten rfl .refl) .refl) (.ite (.ite
          (.raiseFloor rfl .refl) .refl) (.ite (.stage rfl .refl) (.ite (.ite (.installWritten rfl .refl) .refl) (.ite (.entropyWritten rfl .refl)
              (.ite (.ite (.keysReset rfl
              .refl) .refl) (.ite (.set rfl rfl .refl) (.ite (.ite (.watchLines rfl .refl) .refl) (.ite (.ite (.windowWritten rfl .refl) .refl)
                  (.ite (.sequencerWritten rfl
                  .refl) (.ite (.ite (.checkpointInterval rfl .refl) .refl) (.ite (.ite (.resumeWritten rfl .refl) .refl) (.ite (.regroup rfl .refl)
                      .refl))))))))))))))))))

theorem Within.programEnrol {ws : List DWrite} (hk : covers (parts [.lc]) k = true) (h : Within k s t) : Within k s (t.programEnrol ws) := h.into hk <| by
  unfold State.programEnrol
  exact .ite (.set rfl rfl .refl) .refl

theorem Within.joinReset {t' : Nat} {r : Sys2Proof.JobRef} (hk : covers (parts [.tenants]) k = true) (h : Within k s t) : Within k s
    (t.joinReset t' r) := h.into hk <| by
  unfold State.joinReset
  exact .setTen rfl .refl

theorem Within.joinResets {g : Journal} (hk : covers (parts [.jobs, .tenants]) k = true) (h : Within k s t) : Within k s (t.joinResets g) := h.into hk <| by
  unfold State.joinResets
  split
  · exact .ite .refl (.foldl (.mapJob rfl .refl) (fun _ _ h => (.joinReset rfl h)))
  · exact .refl

theorem Within.applyTxn {g : Journal} (hk : covers everything k = true) (h : Within k s t) : Within k s (t.applyTxn g) := h.into hk <| by
  unfold State.applyTxn
  extract_lets _ u v w x y
  have hu : Within everything t v := .foldl (.set rfl rfl .refl) fun _ _ h => .setEntry rfl h
  have hw : Within everything t w := by
    unfold w
    split
    · exact .wr rfl (.wr rfl hu)
    · exact hu
  exact .foldl (.programEnrol rfl (.joinResets rfl (.ite (.record rfl (.holdEpoch rfl hw)) (.holdEpoch rfl hw)))) fun _ _ h => .entryWritten rfl h

theorem Within.beginTxn {g : Journal} (hk : covers everything k = true) (h : Within k s t) : Within k s (t.beginTxn g) := h.into hk <| by
  unfold State.beginTxn
  exact .ite (by
    split
    · exact .waitRing rfl .refl
    · exact .refl) (by
    extract_lets t'
    have ht' : Within everything t t' := by
      dsimp only [t']
      split
      · exact .unwaitRing rfl .refl
      · exact .refl
    exact .ite (.set rfl rfl ht') (.answerTxn rfl (.applyTxn rfl ht')))

theorem Within.checkTxn {a : Asker} {g : Journal} {r : Sys2Proof.JobRef} (hk : covers everything k = true) (h : Within k s t) : Within k s
    (t.checkTxn a g r) := h.into hk <| by
  unfold State.checkTxn
  split
  · exact .refuseDict rfl .refl
  · split
    · exact .beginTxn rfl .refl
    · split
      · next t' st he => exact .refuseDict rfl (.ofFst (.transitionCheck rfl .refl) he)
      · next t' a he => exact .beginTxn rfl (.ofFst (.transitionCheck rfl .refl) he)

theorem Within.serveWrite {x : Job} {c : Channel} (hk : covers everything k = true) (h : Within k s t) : Within k s (t.serveWrite x c) := h.into hk <| by
  unfold State.serveWrite
  split
  · exact .refuseDict rfl .refl
  · exact .checkTxn rfl .refl

theorem Within.reserveDict {x : Job} (hk : covers (parts [.jobs]) k = true) (h : Within k s t) : Within k s (t.reserveDict x) := h.into hk <| by
  unfold State.reserveDict
  exact .mapJob rfl .refl

theorem Within.postAppend {dst i : Nat} (hk : covers (parts [.tx, .grp]) k = true) (h : Within k s t) : Within k s (t.postAppend dst i) := h.into hk <| by
  unfold State.postAppend
  exact .foldl .refl (fun _ _ h => (.post rfl h))

theorem Within.appendEntry {kind origin : Nat} {body : Sys2Proof.Bytes} (hk : covers (parts [.tx, .grp]) k = true) (h : Within k s t) : Within k s
    (t.appendEntry kind origin body).1 := h.into hk <| by
  unfold State.appendEntry
  exact .foldl (.set rfl rfl .refl) (fun _ _ h => (.postAppend rfl h))

theorem Within.submit {job : Option Sys2Proof.JobRef} {kind : Nat} {body : Sys2Proof.Bytes} (hk : covers (ending ||| parts [.grp]) k = true)
    (h : Within k s t) : Within k s (t.submit job kind body) := h.into hk <| by
  unfold State.submit
  exact .ite (.endWrite rfl (.set rfl rfl .refl)) (.ite (.set rfl rfl (.appendEntry rfl (.set rfl rfl .refl))) (.post rfl (.set rfl rfl (.set rfl rfl .refl))))

theorem Within.sealedGo {x : Job} {b : Sys2Proof.Bytes} (hk : covers everything k = true) (h : Within k s t) : Within k s (t.sealedGo x b) := h.into hk <| by
  unfold State.sealedGo
  split
  · exact .refuseDict rfl .refl
  · exact .ite (by
      split
      · exact .refuseDict rfl .refl
      · exact .submit rfl .refl) (.checkTxn rfl .refl)

theorem Within.serveSealed {x : Job} {c : Channel} (hk : covers everything k = true) (h : Within k s t) : Within k s (t.serveSealed x c) := h.into hk <| by
  unfold State.serveSealed
  exact .ite .refl (.ite (.refuseDict rfl .refl) (.ite (.refuseDict rfl .refl) (.ite (.refuseDict rfl .refl) (.ite (.refuseDict rfl .refl) (.ite
      (.refuseDict rfl .refl) (.ite
      (.sealedGo rfl .refl) (.refuseDict rfl .refl)))))))

theorem Within.serveTxn {x : Job} {c : Channel} (hk : covers everything k = true) (h : Within k s t) : Within k s (t.serveTxn x c) := h.into hk <| by
  unfold State.serveTxn
  exact .ite .refl (.ite (.serveWrite rfl (.reserveDict rfl .refl)) (.serveSealed rfl (.reserveDict rfl .refl)))

theorem Out.Within.named {j : Sys2Proof.JobRef} {p : List DWrite → Bool} (hk : covers everything k = true) (h : Machine.Within k s t) : Out.Within k s
    (t.named j p) := .into h hk <| by
  unfold State.named
  split
  · exact .ite (.next (.serveTxn rfl .refl)) (.next .refl)
  · exact .ite (.next (.serveTxn rfl .refl)) (.next .refl)
  · exact .next .refl

theorem Out.Within.execTenantStateWrite {j : Sys2Proof.JobRef} {tenant : Nat} {enabled : Bool} (hk : covers everything k = true)
    (h : Machine.Within k s t) : Out.Within k s (Machine.execTenantStateWrite j tenant enabled t) := .into h hk <| by
  unfold Machine.execTenantStateWrite
  exact .named rfl .refl

theorem Within.enrolled {m : Move} {j : Sys2Proof.JobRef} {c : Channel} {b : Sys2Proof.Bytes}
    (hk : covers (parts [.free, .dict, .chans, .ent, .keys, .lc]) k = true) (h : Within k s t) : Within k s (t.enrolled m j c b) := h.into hk <| by
  unfold State.enrolled
  exact .startFuse rfl (.update rfl (.takeBlock rfl (.wr rfl (.wr rfl (.wr rfl .refl)))) (.ofChans (Map.wf_put _ _ _)))

theorem Out.Within.execEnrol {j : Sys2Proof.JobRef} (hk : covers (ending ||| parts [.lc]) k = true) (h : Machine.Within k s t) : Out.Within k s
    (Machine.execEnrol j t) := .into h hk <| by
  unfold Machine.execEnrol
  split
  · exact .next .refl
  · exact .ite (.next .refl) (.ite (.next (.finish rfl .refl)) (.ite (.next (.finish rfl .refl)) (by
      split
      · exact .next (.finish rfl .refl)
      · exact .ite (.next (.finish rfl .refl)) (.ite (.next (.finish rfl .refl)) (.ite (.next (.finish rfl (.failToken rfl .refl))) (.ite (.next
          (.finish rfl .refl)) (.next
          (.enrolled rfl .refl))))))))

theorem Out.Within.execSetKeepalive {j : Sys2Proof.JobRef} (hk : covers (parts [.dict, .dtx, .tx, .waits, .chans, .jobs, .units, .clus]) k = true)
    (h : Machine.Within k s t) : Out.Within k s (Machine.execSetKeepalive j t) := .into h hk <| by
  unfold Machine.execSetKeepalive
  split
  · exact .next (.finish rfl (.update rfl .refl (.ofChans (Map.wf_put _ _ _))))
  · exact .next .refl

theorem Within.readWaits {j : JobRef} {items : List ReadItem} {u : State} (hk : covers (parts [.tx, .grp]) k = true) (h : Within k s t)
    (he : t.readWaits j items = some u) : Within k s u := h.into hk <| by
  unfold State.readWaits at he
  split at he
  · cases he
  · split at he
    · cases he; exact .post rfl (.set rfl rfl .refl)
    · split at he
      · cases he
      · cases he; exact .refl
    · cases he; exact .refl

theorem Within.takeRaw (hk : covers (parts [.dict, .dtx, .tx, .chans, .ent]) k = true) (h : Within k s t) : Within k s t.takeRaw := h.into hk <| by
  unfold State.takeRaw
  exact .ite (.entropyEvent rfl .refl) (.set rfl rfl .refl)

theorem Within.readEffects {items : List ReadItem} (hk : covers (parts [.dict, .dtx, .tx, .chans, .ent]) k = true) (h : Within k s t) : Within k s
    (t.readEffects items) := h.into hk <| by
  unfold State.readEffects
  exact .ite (.takeRaw rfl .refl) .refl

theorem Within.serveRead {x : Job} {c : Channel} (hk : covers (ending ||| parts [.grp]) k = true) (h : Within k s t) : Within k s
    (t.serveRead x c) := h.into hk <| by
  unfold State.serveRead
  split
  · exact .refuseDict rfl .refl
  · split
    · exact .refuseDict rfl .refl
    · split
      · next t' he => exact .reserveDict rfl (.readWaits rfl .refl he)
      · exact .readEffects rfl (.finish rfl (.set rfl rfl .refl))

theorem Out.Within.execRead {j : Sys2Proof.JobRef} (hk : covers (ending ||| parts [.grp]) k = true) (h : Machine.Within k s t) : Out.Within k s
    (Machine.execRead j t) := .into h hk <| by
  unfold Machine.execRead
  split
  · exact .next (.serveRead rfl .refl)
  · exact .next .refl

theorem Out.Within.execWrite {j : Sys2Proof.JobRef} (hk : covers everything k = true) (h : Machine.Within k s t) : Out.Within k s
    (Machine.execWrite j t) := .into h hk <| by
  unfold Machine.execWrite
  split
  · exact .next (.serveTxn rfl .refl)
  · exact .next .refl

theorem Out.Within.execSealedWrite {j : Sys2Proof.JobRef} (hk : covers everything k = true) (h : Machine.Within k s t) : Out.Within k s
    (Machine.execSealedWrite j t) := .into h hk <| by
  unfold Machine.execSealedWrite
  split
  · exact .next (.serveTxn rfl .refl)
  · exact .next .refl

theorem Out.Within.execDescribe {j : Sys2Proof.JobRef} (hk : covers (parts [.dict, .dtx, .tx, .waits, .chans, .jobs, .units, .clus]) k = true)
    (h : Machine.Within k s t) : Out.Within k s (Machine.execDescribe j t) := .into h hk <| by
  unfold Machine.execDescribe
  split
  · exact .next .refl
  · exact .ite (.next (.refuseDict rfl .refl)) (by
      split
      · exact .next (.finish rfl .refl)
      · exact .next (.refuseDict rfl .refl))

theorem Out.Within.execJournalCommit {programOk : Bool} (hk : covers everything k = true) (h : Machine.Within k s t) : Out.Within k s
    (Machine.execJournalCommit programOk t) := .into h hk <| by
  unfold Machine.execJournalCommit
  split
  · exact .next .refl
  · exact .ite (.next .refl) (.ite (.next (.answerTxn rfl (.applyTxn rfl (.set rfl rfl .refl)))) (by
      split
      · exact .next (.finish rfl (.set rfl rfl .refl))
      · exact .next (.set rfl rfl (.set rfl rfl .refl))))

theorem Out.Within.execEventClear {j : Sys2Proof.JobRef} {idx sub count mask : Nat} (hk : covers everything k = true) (h : Machine.Within k s t) :
    Out.Within k s (Machine.execEventClear j idx sub count mask t) := .into h hk <| by
  unfold Machine.execEventClear
  exact .named rfl .refl

theorem Within.remap {r : Sys2Proof.JobRef} {l : Le} (hk : covers (parts [.free, .jobs, .tenants, .les, .mcache]) k = true) (h : Within k s t) : Within k s
    (t.remap r l) := h.into hk <| by
  unfold State.remap
  split
  · exact .refl
  · exact .ite (.set rfl rfl .refl) (by
      extract_lets _ t'
      have ht' : Within (parts [.free, .jobs, .tenants, .les, .mcache]) t t' := by
        dsimp only [t']
        split
        · exact .accrue rfl .refl
        · exact .refl
      exact .set rfl rfl ht')

theorem Within.maskSeed {e : Nat} {u : State} (hk : covers (parts [.clus, .ent]) k = true) (h : Within k s t)
    (he : t.maskSeed e = some u) : Within k s u := h.into hk <| by
  unfold State.maskSeed at he
  extract_lets c g at he
  split at he
  · cases he
  · next v x hv => cases he; exact .setCluster rfl (.setDrbg rfl (.generate rfl .refl hv))

theorem Within.maskForTenant {e t' : Nat} (hk : covers (parts [.les, .clus, .ent]) k = true) (h : Within k s t) : Within k s
    (t.maskForTenant e t') := h.into hk <| by
  unfold State.maskForTenant
  exact .ite .refl (by
    split
    · next u' he => exact .setLe rfl (.maskSeed rfl .refl he)
    · exact .setLe rfl (.askSeed rfl .refl))

theorem Within.served {t' : Nat} {cls : List Sys2Proof.EngClass} {borrowed : Bool} (hk : covers (parts [.lap]) k = true) (h : Within k s t) : Within k s
    (t.served t' cls borrowed) := h.into hk <| by
  unfold State.served
  exact .foldl .refl (fun _ _ h => (.ite (.set rfl rfl h) (.set rfl rfl h)))

theorem Within.resume {j : Job} {units : List Nat} {borrowed : Bool}
    (hk : covers (parts [.free, .jobs, .order, .tenants, .lap, .units, .les, .saved, .clus, .mcache, .ent]) k = true) (h : Within k s t) : Within k s
    (t.resume j units borrowed) := h.into hk <| by
  unfold State.resume
  refine .served rfl (.chargeSwitch rfl (.setOrder rfl (.mapJob rfl (.foldl .refl fun u p h => .ite (.setEngine rfl h) ?_))))
  split
  · exact .setEngine rfl h
  · exact .setSaved rfl (.setLe rfl (.remap rfl (.maskForTenant rfl (.setEngine rfl h))))

theorem Within.preemptBorrowed {cl : Sys2Proof.EngClass} (hk : covers (parts [.units]) k = true) (h : Within k s t) : Within k s
    (t.preemptBorrowed cl) := h.into hk <| by
  unfold State.preemptBorrowed
  exact .ite .refl (by
    split
    · exact .latchJob rfl .refl
    · exact .refl)

theorem Within.admitSuspended {j : Job} {units : List Nat} (hk : covers (ending ||| parts [.order, .lap, .mcache]) k = true) (h : Within k s t) : Within k s
    (t.admitSuspended j units) := h.into hk <| by
  unfold State.admitSuspended
  split
  · exact .refl
  · exact .ite .refl (.ite (.resume rfl .refl) (.ite .refl (.ite .refl (.ite (by
      split
      · extract_lets t'
        have ht' : Within (ending ||| parts [.order, .lap, .mcache]) t t' := .displace rfl .refl
        exact .ite (.resume rfl ht') ht'
      · exact .refl) (.preemptBorrowed rfl .refl)))))

theorem Within.startMceliece {e : Nat} {j : Job} (hk : covers (parts [.clus]) k = true) (h : Within k s t) : Within k s (t.startMceliece e j) := h.into hk <| by
  unfold State.startMceliece
  exact .ite .refl (.ite (.setCluster rfl .refl) (by
    split
    · exact .setCluster rfl .refl
    · exact .refl))

theorem Within.openCores {e : Nat} {j : Job} (hk : covers (parts [.units, .les]) k = true) (h : Within k s t) : Within k s (t.openCores e j) := h.into hk <| by
  unfold State.openCores
  split
  · exact .refl
  · exact .foldl .refl (fun _ _ h => (.setLe rfl (.setEngine rfl h)))

end Machine
end Sys2Proof
end

section
/-! What dispatch, safe points and suspension reach. -/

namespace Sys2Proof
namespace Machine

variable {k : Parts} {s t : State}

theorem Within.startLe {e : Nat} {j : Job} (hk : covers (parts [.units, .les, .clus, .ent]) k = true) (h : Within k s t) : Within k s
    (t.startLe e j) := h.into hk <| by
  unfold State.startLe
  extract_lets _ _ t'
  have ht' : Within (parts [.units, .les, .clus, .ent]) t t' := .maskForTenant rfl .refl
  exact .openCores rfl (.setCluster rfl (.setLe rfl ht'))

theorem Within.startUnit {u' : Nat} {j : Job} (hk : covers (parts [.units, .les, .clus, .ent]) k = true) (h : Within k s t) : Within k s
    (t.startUnit u' j) := h.into hk <| by
  unfold State.startUnit
  extract_lets _ t'
  have ht' : Within (parts [.units, .les, .clus, .ent]) t t' := .setEngine rfl .refl
  exact .ite (.startMceliece rfl (.startLe rfl ht')) (.ite (.setCluster rfl ht') ht')

theorem Within.startStream {j : Job} (hk : covers (parts [.dstreams]) k = true) (h : Within k s t) : Within k s (t.startStream j) := h.into hk <| by
  unfold State.startStream
  exact .ite (by
    split
    · exact .set rfl rfl .refl
    · exact .refl) .refl

theorem Within.countAll {digest : Nat} {f : KeyRec → KeyRec} (hk : covers (parts [.keys]) k = true) (h : Within k s t) : Within k s
    (t.countAll digest f) := h.into hk <| by
  unfold State.countAll
  refine .setKeys rfl .refl (fun hw => ?_) fun hw => ?_
  · dsimp only
    exact Map.wf_mapVals _ _ hw
  · dsimp only
    exact Map.wf_mapVals _ _ hw

theorem Within.bumpKey {j : Job} {f : KeyRec → KeyRec} (hk : covers (parts [.keys]) k = true) (h : Within k s t) : Within k s (t.bumpKey j f) := h.into hk <| by
  unfold State.bumpKey
  split
  · exact .countAll rfl .refl
  · extract_lets cur
    clear_value cur
    split
    · exact .ite (.update rfl .refl (.ofVol (Map.wf_put _ _ _))) (.update rfl .refl (.ofRecs (Map.wf_put _ _ _)))
    · exact .set rfl rfl .refl

theorem Within.reserveUses {k' : KeyRec} (hk : covers (parts [.keys]) k = true) (h : Within k s t) : Within k s (t.reserveUses k') := h.into hk <| by
  unfold State.reserveUses
  exact .ite (.startReservation rfl .refl) .refl

theorem Within.takeNumbers {j : Job} (hk : covers (parts [.jobs, .keys, .stampSeq]) k = true) (h : Within k s t) : Within k s
    (t.takeNumbers j) := h.into hk <| by
  unfold State.takeNumbers
  extract_lets u
  have hb {f} : Within (parts [.jobs, .keys, .stampSeq]) t (t.bumpKey j f) := .bumpKey rfl .refl
  have hu : Within (parts [.jobs, .keys, .stampSeq]) t u := by
    unfold u
    split
    · exact .ite (.reserveUses rfl (.ite (.startReservation rfl (.mapJob rfl hb)) (.mapJob rfl hb))) (.ite (.reserveUses rfl hb) .refl)
    · exact .refl
  exact .ite (.mapJob rfl (.set rfl rfl hu)) (.ite (.mapJob rfl hu) hu)

theorem Within.touchKey {h' : Nat} (hk : covers (parts [.keys]) k = true) (h : Within k s t) : Within k s (t.touchKey h') := h.into hk <| by
  unfold State.touchKey
  exact .ite (.set rfl rfl .refl) .refl

theorem Within.launch {j : Job} {units : List Nat} {borrowed : Bool}
    (hk : covers (parts [.free, .jobs, .order, .tenants, .lap, .units, .les, .clus, .dstreams, .ent, .keys, .stampSeq]) k = true) (h : Within k s t) :
    Within k s (t.launch j units borrowed) := h.into hk <| by
  unfold State.launch
  extract_lets _ _ t₂ t₃
  have ht₂ : Within (parts [.free, .jobs, .order, .tenants, .lap, .units, .les, .clus, .dstreams, .ent, .keys, .stampSeq]) t t₂ := .set rfl rfl
      (.mapJob rfl (.foldl
      (.startStream rfl (.takeNumbers rfl .refl)) (fun _ _ h => (.startUnit rfl h))))
  have ht₃ : Within (parts [.free, .jobs, .order, .tenants, .lap, .units, .les, .clus, .dstreams, .ent, .keys, .stampSeq]) t t₃ := .ite
      (.chargeSwitch rfl ht₂) ht₂
  exact .served rfl (.touchKey rfl (.ite ht₃ (.charge rfl ht₃)))

theorem Within.makeWay {j : Job} {u : State} (hk : covers ending k = true) (h : Within k s t) (he : t.makeWay j = some u) : Within k s u := h.into hk <| by
  unfold State.makeWay at he
  split at he
  · cases he
  · split at he
    · cases he
    · split at he
      · obtain ⟨r, -, rfl⟩ := Option.map_eq_some_iff.1 he; exact .displace rfl .refl
      · cases he; exact .preemptBorrowed rfl .refl

theorem Within.startJob {j : Job} {units : List Nat} (hk : covers (ending ||| parts [.order, .lap, .stampSeq]) k = true) (h : Within k s t) : Within k s
    (t.startJob j units) := h.into hk <| by
  unfold State.startJob
  split
  · exact .refl
  · exact .ite .refl (.ite (.launch rfl .refl) (.ite .refl (by
      split
      · next t' he => exact .ite (.launch rfl (.makeWay rfl .refl he)) (.makeWay rfl .refl he)
      · exact .refl)))

theorem Out.Within.execJobDispatch {j : Sys2Proof.JobRef} {units : List Nat} (hk : covers (ending ||| parts [.order, .lap, .mcache, .stampSeq]) k = true)
    (h : Machine.Within k s t) : Out.Within k s (Machine.execJobDispatch j units t) := .into h hk <| by
  unfold Machine.execJobDispatch
  split
  · exact .next .refl
  · extract_lets s'
    have hs' : Machine.Within (ending ||| parts [.order, .lap, .mcache, .stampSeq]) t s' := .accrueAll rfl (.rebalance rfl .refl)
    exact .ite (.next hs') (.ite (.next (.admitSuspended rfl hs')) (.ite (by
      split
      · exact .next (.finish rfl (.mapJob rfl hs'))
      · next t' he => exact .next (.ready rfl hs' he)
      · exact .next (.startJob rfl hs')) (.next hs')))

theorem Within.endSelfTests (hk : covers (parts [.dict, .dtx, .units, .flt]) k = true) (h : Within k s t) : Within k s t.endSelfTests := h.into hk <| by
  unfold State.endSelfTests
  extract_lets _ _ _ t₂
  have ht₂ : Within (parts [.dict, .dtx, .units, .flt]) t t₂ := .foldl (.foldl .refl (fun _ _ h => (.ite (.setEngine rfl h) (.logRow rfl
      (.setEngine rfl h))))) (fun _ _ h =>
      (.logRow rfl h))
  exact .ite ht₂ (.rebalance rfl ht₂)

theorem Within.boundary {short : Option Nat} (hk : covers (ending ||| parts [.lap, .rwork, .trav, .flt]) k = true) (h : Within k s t) : Within k s
    (t.boundary short) := h.into hk <| by
  unfold State.boundary
  exact .dueActivities rfl (.rebalance rfl (.endSelfTests rfl (.beginLap rfl .refl)))

theorem Out.Within.execLapBoundary (hk : covers (ending ||| parts [.lap, .rwork, .trav, .flt]) k = true) (h : Machine.Within k s t) : Out.Within k s
    (Machine.execLapBoundary t) := .into h hk <| by
  unfold Machine.execLapBoundary
  exact .when .refl (.boundary rfl .refl)

theorem Out.Within.execLapLengthChange (hk : covers (ending ||| parts [.lap, .rwork, .trav, .flt]) k = true) (h : Machine.Within k s t) : Out.Within k s
    (Machine.execLapLengthChange t) := .into h hk <| by
  unfold Machine.execLapLengthChange
  exact .when .refl (.boundary rfl .refl)

theorem Within.topUp {cls : Sys2Proof.EngClass} {mine : List Job} (hk : covers (parts [.jobs, .tenants]) k = true) (h : Within k s t) : Within k s
    (t.topUp cls mine) := h.into hk <| by
  unfold State.topUp
  exact .foldl .refl (fun _ _ h => (by
    split
    · exact .charge rfl h
    · exact h))

theorem Out.Within.execBudgetExhausted {tenant : Nat} {cls : Sys2Proof.EngClass} (hk : covers (parts [.free, .jobs, .tenants, .units, .les]) k = true)
    (h : Machine.Within k s t) : Out.Within k s (Machine.execBudgetExhausted tenant cls t) := .into h hk <| by
  unfold Machine.execBudgetExhausted
  extract_lets _ t'
  have ht' : Machine.Within (parts [.free, .jobs, .tenants, .units, .les]) t t' := .topUp rfl (.foldl .refl (fun _ _ h => (.accrue rfl h)))
  exact .when .refl (.latchSpent rfl ht')

theorem Within.discardJob {r : Sys2Proof.JobRef} (hk : covers ending k = true) (h : Within k s t) : Within k s (t.discardJob r) := h.into hk <| by
  unfold State.discardJob
  split
  · exact .refl
  · exact .settle rfl (.dropJob rfl (.unload rfl .refl))

theorem Within.requeue {j : Job} (hk : covers (parts [.jobs, .units, .les, .saved, .cmem, .clus]) k = true) (h : Within k s t) : Within k s
    (t.requeue j) := h.into hk <| by
  unfold State.requeue
  exact .mapJob rfl (.unload rfl .refl)

theorem Within.withdraw {r : Sys2Proof.JobRef} (hk : covers (parts [.jobs, .tenants]) k = true) (h : Within k s t) : Within k s
    (t.withdraw r) := h.into hk <| by
  unfold State.withdraw
  split
  · exact .refl
  · exact .setTen rfl (.mapJob rfl .refl)

theorem Within.moveJob {j : Job} (hk : covers (parts [.jobs, .tenants, .units, .les, .saved, .cmem, .clus]) k = true) (h : Within k s t) : Within k s
    (t.moveJob j) := h.into hk <| by
  unfold State.moveJob
  exact .requeue rfl (.withdraw rfl .refl)

theorem Within.saveContext {e : Nat} {l : Le} (hk : covers (parts [.cmem]) k = true) (h : Within k s t) : Within k s (t.saveContext e l) := h.into hk <| by
  unfold State.saveContext
  exact .foldl .refl (fun _ _ h => (.setCword rfl h))

theorem Within.suspendJob {j : Job} {preempted : Bool}
    (hk : covers (parts [.free, .dict, .dtx, .jobs, .order, .tenants, .units, .les, .saved, .cmem]) k = true) (h : Within k s t) : Within k s
    (t.suspendJob j preempted) := h.into hk <| by
  unfold State.suspendJob
  refine .event rfl (.setOrder rfl (.mapJob rfl (.drawn rfl ?_)))
  exact .foldl (.foldl (.chargeSwitch rfl (.accrue rfl .refl)) fun _ _ h => .setSaved rfl (.setLe rfl (.saveContext rfl h))) fun _ _ h => .setEngine rfl h

theorem Out.Within.execSafePointReached {unit : Nat} (hk : covers (ending ||| parts [.order]) k = true) (h : Machine.Within k s t) : Out.Within k s
    (Machine.execSafePointReached unit t) := .into h hk <| by
  unfold Machine.execSafePointReached
  extract_lets 
  split
  · exact .next .refl
  · split
    · exact .next .refl
    · exact .ite (.next .refl) (.ite (.next (.cutJob rfl .refl)) (.ite (.next (.discardJob rfl (.accrue rfl .refl))) (.ite (.next .refl) (.ite
        (.next (.ite .refl
        (.moveJob rfl .refl))) (.ite (.next (.mapJob rfl (.foldl (.accrue rfl .refl) (fun _ _ h => (.setEngine rfl h))))) (.next (.suspendJob rfl .refl)))))))

theorem Within.askCores {j : Job} (hk : covers ending k = true) (h : Within k s t) : Within k s (t.askCores j) := h.into hk <| by
  unfold State.askCores
  exact .foldl .refl (fun _ _ h => (.openCores rfl (.ite h (by
    split
    · exact .displace rfl h
    · exact h))))

theorem Within.maskStall {j : Job} (hk : covers (parts [.les, .ent]) k = true) (h : Within k s t) : Within k s (t.maskStall j) := h.into hk <| by
  unfold State.maskStall
  exact .foldl .refl (fun _ _ h => (.setLe rfl (.askSeed rfl h)))

theorem Out.Within.conclude {j : Job} {used : Work} {d : Done} (hk : covers ending k = true) (h : Machine.Within k s d.st) : Out.Within k s
    (t.conclude j used d) := by
  unfold State.conclude
  exact .next (.endJob (covers_trans rfl hk) (.ite h (.charge (covers_trans rfl hk) h)))

theorem Within.masksUsed {j : Job} (hk : covers (parts [.free, .les]) k = true) (h : Within k s t) : Within k s (t.masksUsed j) := h.into hk <| by
  unfold State.masksUsed
  exact .foldl .refl (fun _ _ h => (.setLe rfl (.drawn rfl h)))

/-- What running a job's row reaches besides its body: its charge and its end, or what it waits for. -/
theorem Out.Within.runRow {kind : Nat} {r : JobRun} {takes : Nat → Bool} {body : State → Job → Ran} (hk : covers ending k = true)
    (h : Machine.Within k s t) (hb : ∀ u j, Machine.Within k s u → Ran.Within k s (body u j)) : Out.Within k s (Machine.runRow kind r takes body t) := by
  unfold Machine.runRow
  split
  · exact .next h
  · next j _ =>
    have hj := hb t j h
    have hc : ∀ {u : State} {r : JobRef} {w : Work}, Machine.Within k s u → Machine.Within k s (u.charge r w) := fun g => .charge (covers_trans rfl hk) g
    refine .ite (.next h) <| .ite (.next (.endJob (covers_trans rfl hk) (hc h))) <|
      .ite (.next (.discardJob (covers_trans rfl hk) (hc h))) <| .ite (.next (.askCores (covers_trans rfl hk) h)) <|
      .ite (.next (.maskStall (covers_trans rfl hk) h)) ?_
    split
    · next u e => rw [e] at hj; exact .next hj
    · next d e => rw [e] at hj; exact .conclude hk (.masksUsed (covers_trans rfl hk) hj)

theorem Out.Within.jobRow {r : JobRun} {takes : Nat → Bool} {body : State → Job → Ran} (hk : covers ending k = true) (h : Machine.Within k s t)
    (hb : ∀ u j, Machine.Within k s u → Ran.Within k s (body u j)) : Out.Within k s (Machine.jobRow r takes body t) := .runRow hk h hb

theorem Ran.Within.fails {status : Nat} (hk : covers (parts []) k = true) (h : Machine.Within k s t) : Ran.Within k s
    (Machine.fails t status) := .into h hk <| by
  unfold Machine.fails
  exact .done .refl

theorem Ran.Within.guardParam {c : Bool} {r : Ran} (h : Machine.Within k s t) (hr : Ran.Within k s r) : Ran.Within k s (Machine.guardParam t c r) :=
  .ite hr (.done h)

theorem Within.generateCalls {m d n : Nat} {addl out : Bytes} {u : State} (hk : covers (parts [.ent]) k = true) (h : Within k s t)
    (he : State.generateCalls m t d n addl = some (u, out)) : Within k s u := h.into hk <| by
  clear h hk
  induction m generalizing t n out with
  | zero => cases he; exact .refl
  | succ m ih =>
    unfold State.generateCalls at he
    split at he
    · cases he
    · next v x hv =>
      split at he
      · cases he
      · next w y hw => cases he; exact Within.trans (.generate rfl .refl hv) (ih hw)

theorem Within.drawFrom {d n : Nat} {addl out : Bytes} {u : State} (hk : covers (parts [.ent]) k = true) (h : Within k s t)
    (he : t.drawFrom d n addl = some (u, out)) : Within k s u := .generateCalls hk h he

theorem Within.someCalls {m d n : Nat} {addl : Bytes} (hk : covers (parts [.ent]) k = true) (h : Within k s t) : Within k s
    (State.someCalls m t d n addl).1 := h.into hk <| by
  clear h hk
  induction m generalizing t n with
  | zero => exact .refl
  | succ m ih =>
    unfold State.someCalls
    split
    · exact .refl
    · next v x hv => exact Within.trans (.generate rfl .refl hv) ih

end Machine
end Sys2Proof
end

section
/-! What jobs reach. -/

namespace Sys2Proof
namespace Machine

variable {k : Parts} {s t : State}

theorem Ran.Within.stallDraw {j : Job} (hk : covers (parts [.jobs, .ent]) k = true) (h : Machine.Within k s t) : Ran.Within k s
    (t.stallDraw j) := .into h hk <| by
  unfold State.stallDraw
  split
  · exact .ite (.fails rfl .refl) (.stay (.askSeed rfl .refl))
  · exact .stay (.askSeed rfl (.waitRandom rfl .refl))

theorem Ran.Within.take {j : Job} {n : Nat} {f : State → Bytes → Ran} (hk : covers (parts [.jobs, .ent]) k = true) (h : Machine.Within k s t)
    (hf : ∀ u b, Machine.Within k s u → Ran.Within k s (f u b)) : Ran.Within k s (t.take j n f) := by
  unfold State.take
  extract_lets addl left
  refine .ite (hf _ _ h) ?_
  split
  · next u b he => exact hf _ _ (.drawFrom (covers_trans rfl hk) h he)
  · exact .ite (.stallDraw hk h)
      (.stay (.askSeed (covers_trans rfl hk) (.mapJob (covers_trans rfl hk) (.someCalls (covers_trans rfl hk) h))))

theorem Within.makeFit {words rsa mce n : Nat} {u : State} (hk : covers (parts [.dict, .dtx, .keys]) k = true) (h : Within k s t)
    (he : t.makeFit words rsa mce n = some u) : Within k s u := h.into hk <| by
  clear h hk
  induction n generalizing t with
  | zero =>
    unfold State.makeFit at he
    split at he
    · cases he; exact .refl
    · cases he
  | succ n ih =>
    unfold State.makeFit at he
    split at he
    · cases he; exact .refl
    · split at he
      · cases he
      · refine Within.trans ?_ (ih he)
        exact .event rfl (.set rfl rfl .refl)

theorem Within.splitDone (hk : covers (parts [.free]) k = true) (h : Within k s t) : Within k s t.splitDone := h.into hk <| by
  unfold State.splitDone
  exact .set rfl rfl .refl

theorem Ran.Within.makeKey {j : Job} {x : KeyRec} {f : State → KeyRec → Ran} (hk : covers (parts [.free, .dict, .dtx, .keys]) k = true)
    (h : Machine.Within k s t) (hf : ∀ u b, Machine.Within k s u → Ran.Within k s (f u b)) : Ran.Within k s (t.makeKey j x f) := by
  unfold State.makeKey
  extract_lets i
  refine .ite (.done h) ?_
  split
  · exact .done h
  · next u he =>
    refine hf _ _ (h.into hk ?_)
    exact .update rfl (.splitDone rfl (.makeFit rfl .refl he)) (.ofVol (Map.wf_put _ _ _))

theorem Ran.Within.okKey {out : Sys2Proof.Bytes} {h' : Nat} (hk : covers (parts []) k = true) (h : Machine.Within k s t) : Ran.Within k s
    (Machine.okKey t out h') := .into h hk <| by
  unfold Machine.okKey
  exact .done .refl

theorem Within.useMatrix {fam set : Nat} {rho : Sys2Proof.Bytes} (hk : covers (parts [.mcache]) k = true) (h : Within k s t) : Within k s
    (t.useMatrix fam set rho) := h.into hk <| by
  unfold State.useMatrix
  extract_lets 
  split <;> exact .set rfl rfl .refl

theorem Within.matrixOf {fam set : Nat} {pk : Sys2Proof.Bytes} (hk : covers (parts [.mcache]) k = true) (h : Within k s t) : Within k s
    (t.matrixOf fam set pk) := h.into hk <| by
  unfold State.matrixOf
  exact .ite (.useMatrix rfl .refl) .refl

theorem Ran.Within.finishKeygen {j : Job} {order : Nat} {seed : Sys2Proof.Bytes} (hk : covers (parts [.free, .dict, .dtx, .mcache, .keys]) k = true)
    (h : Machine.Within k s t) : Ran.Within k s (Machine.finishKeygen t j order seed) := .into h hk <| by
  unfold Machine.finishKeygen
  exact .makeKey rfl .refl (fun _ _ h => .okKey rfl (.matrixOf rfl h))

theorem Ran.Within.keygenBody {j : Job} (hk : covers (parts [.free, .dict, .dtx, .jobs, .mcache, .ent, .keys]) k = true) (h : Machine.Within k s t) :
    Ran.Within k s (Machine.keygenBody t j) := .into h hk <| by
  unfold Machine.keygenBody
  exact .guardParam .refl (.ite (.take rfl .refl (fun _ _ h => .finishKeygen rfl h)) (.finishKeygen rfl .refl))

theorem Out.Within.execMlKemKeygen {r : Sys2Proof.JobRun} (hk : covers (ending ||| parts [.mcache]) k = true) (h : Machine.Within k s t) : Out.Within k s
    (Machine.execMlKemKeygen r t) := .into h hk <| by
  unfold Machine.execMlKemKeygen
  exact .jobRow rfl .refl (fun _ _ h => .keygenBody rfl h)

theorem Out.Within.execMlKemKeygenFromSeed {r : Sys2Proof.JobRun} (hk : covers (ending ||| parts [.mcache]) k = true) (h : Machine.Within k s t) :
    Out.Within k s (Machine.execMlKemKeygenFromSeed r t) := .into h hk <| by
  unfold Machine.execMlKemKeygenFromSeed
  exact .jobRow rfl .refl (fun _ _ h => .keygenBody rfl h)

theorem Ran.Within.ok {out : Sys2Proof.Bytes} (hk : covers (parts []) k = true) (h : Machine.Within k s t) : Ran.Within k s
    (Machine.ok t out) := .into h hk <| by
  unfold Machine.ok
  exact .done .refl

theorem Ran.Within.encapsBody {j : Job} (hk : covers (parts [.jobs, .mcache, .ent]) k = true) (h : Machine.Within k s t) : Ran.Within k s
    (Machine.encapsBody t j) := .into h hk <| by
  unfold Machine.encapsBody
  exact .ite (.ok rfl .refl) (.take rfl .refl (fun _ _ h => .ok rfl (.matrixOf rfl h)))

theorem Out.Within.execMlKemEncaps {r : Sys2Proof.JobRun} (hk : covers (ending ||| parts [.mcache]) k = true) (h : Machine.Within k s t) : Out.Within k s
    (Machine.execMlKemEncaps r t) := .into h hk <| by
  unfold Machine.execMlKemEncaps
  exact .jobRow rfl .refl (fun _ _ h => .encapsBody rfl h)

theorem Ran.Within.decapsBody {j : Job} (hk : covers (parts [.mcache]) k = true) (h : Machine.Within k s t) : Ran.Within k s
    (Machine.decapsBody t j) := .into h hk <| by
  unfold Machine.decapsBody
  split
  · exact .fails rfl .refl
  · exact .ok rfl (.matrixOf rfl .refl)

theorem Out.Within.execMlKemDecaps {r : Sys2Proof.JobRun} (hk : covers (ending ||| parts [.mcache]) k = true) (h : Machine.Within k s t) : Out.Within k s
    (Machine.execMlKemDecaps r t) := .into h hk <| by
  unfold Machine.execMlKemDecaps
  exact .jobRow rfl .refl (fun _ _ h => .decapsBody rfl h)

theorem Out.Within.execMlDsaKeygen {r : Sys2Proof.JobRun} (hk : covers (ending ||| parts [.mcache]) k = true) (h : Machine.Within k s t) : Out.Within k s
    (Machine.execMlDsaKeygen r t) := .into h hk <| by
  unfold Machine.execMlDsaKeygen
  exact .jobRow rfl .refl (fun _ _ h => .keygenBody rfl h)

theorem Ran.Within.signWith {j : Job} {x : KeyRec} {fam set form ph : Nat} {det : Bool} {ctx msg : Bytes} {f : State → Bytes → Ran}
    (hk : covers (parts [.jobs, .ent, .mcache]) k = true) (h : Machine.Within k s t) (hf : ∀ u b, Machine.Within k s u → Ran.Within k s (f u b)) :
    Ran.Within k s (Machine.signWith t j x fam set form ph det ctx msg f) := by
  unfold Machine.signWith
  have hm {u : State} {pk : Bytes} (h : Machine.Within k s u) : Machine.Within k s (u.matrixOf fam set pk) := .matrixOf (covers_trans rfl hk) h
  exact .take (covers_trans rfl hk) h fun _ _ h => .ite (hf _ _ (hm h)) (.done (hm h))

theorem Ran.Within.signBody {j : Job} (hk : covers (parts [.jobs, .mcache, .ent]) k = true) (h : Machine.Within k s t) : Ran.Within k s
    (Machine.signBody t j) := .into h hk <| by
  unfold Machine.signBody
  extract_lets 
  split
  · exact .fails rfl .refl
  · exact .guardParam .refl (.signWith rfl .refl (fun _ _ h => .ok rfl h))

theorem Out.Within.execMlDsaSign {r : Sys2Proof.JobRun} (hk : covers (ending ||| parts [.mcache]) k = true) (h : Machine.Within k s t) : Out.Within k s
    (Machine.execMlDsaSign r t) := .into h hk <| by
  unfold Machine.execMlDsaSign
  exact .jobRow rfl .refl (fun _ _ h => .signBody rfl h)

theorem Ran.Within.verifyBody {j : Job} (hk : covers (parts [.mcache]) k = true) (h : Machine.Within k s t) : Ran.Within k s
    (Machine.verifyBody t j) := .into h hk <| by
  unfold Machine.verifyBody
  exact .guardParam .refl (.ok rfl (.matrixOf rfl .refl))

theorem Out.Within.execMlDsaVerify {r : Sys2Proof.JobRun} (hk : covers (ending ||| parts [.mcache]) k = true) (h : Machine.Within k s t) : Out.Within k s
    (Machine.execMlDsaVerify r t) := .into h hk <| by
  unfold Machine.execMlDsaVerify
  exact .jobRow rfl .refl (fun _ _ h => .verifyBody rfl h)

theorem Out.Within.execMlDsaSignMu {r : Sys2Proof.JobRun} (hk : covers (ending ||| parts [.mcache]) k = true) (h : Machine.Within k s t) : Out.Within k s
    (Machine.execMlDsaSignMu r t) := .into h hk <| by
  unfold Machine.execMlDsaSignMu
  exact .jobRow rfl .refl (fun _ _ h => .signBody rfl h)

theorem Out.Within.execMlDsaVerifyMu {r : Sys2Proof.JobRun} (hk : covers (ending ||| parts [.mcache]) k = true) (h : Machine.Within k s t) : Out.Within k s
    (Machine.execMlDsaVerifyMu r t) := .into h hk <| by
  unfold Machine.execMlDsaVerifyMu
  exact .jobRow rfl .refl (fun _ _ h => .verifyBody rfl h)

theorem Out.Within.execMlDsaHashSign {r : Sys2Proof.JobRun} (hk : covers (ending ||| parts [.mcache]) k = true) (h : Machine.Within k s t) : Out.Within k s
    (Machine.execMlDsaHashSign r t) := .into h hk <| by
  unfold Machine.execMlDsaHashSign
  exact .jobRow rfl .refl (fun _ _ h => .signBody rfl h)

theorem Out.Within.execMlDsaHashVerify {r : Sys2Proof.JobRun} (hk : covers (ending ||| parts [.mcache]) k = true) (h : Machine.Within k s t) : Out.Within k s
    (Machine.execMlDsaHashVerify r t) := .into h hk <| by
  unfold Machine.execMlDsaHashVerify
  exact .jobRow rfl .refl (fun _ _ h => .verifyBody rfl h)

theorem Out.Within.execSlhDsaKeygen {r : Sys2Proof.JobRun} (hk : covers (ending ||| parts [.mcache]) k = true) (h : Machine.Within k s t) : Out.Within k s
    (Machine.execSlhDsaKeygen r t) := .into h hk <| by
  unfold Machine.execSlhDsaKeygen
  exact .jobRow rfl .refl (fun _ _ h => .keygenBody rfl h)

theorem Out.Within.execSlhDsaSign {r : Sys2Proof.JobRun} (hk : covers (ending ||| parts [.mcache]) k = true) (h : Machine.Within k s t) : Out.Within k s
    (Machine.execSlhDsaSign r t) := .into h hk <| by
  unfold Machine.execSlhDsaSign
  exact .jobRow rfl .refl (fun _ _ h => .signBody rfl h)

theorem Out.Within.execSlhDsaVerify {r : Sys2Proof.JobRun} (hk : covers (ending ||| parts [.mcache]) k = true) (h : Machine.Within k s t) : Out.Within k s
    (Machine.execSlhDsaVerify r t) := .into h hk <| by
  unfold Machine.execSlhDsaVerify
  exact .jobRow rfl .refl (fun _ _ h => .verifyBody rfl h)

theorem Out.Within.execSlhDsaHashSign {r : Sys2Proof.JobRun} (hk : covers (ending ||| parts [.mcache]) k = true) (h : Machine.Within k s t) : Out.Within k s
    (Machine.execSlhDsaHashSign r t) := .into h hk <| by
  unfold Machine.execSlhDsaHashSign
  exact .jobRow rfl .refl (fun _ _ h => .signBody rfl h)

theorem Out.Within.execSlhDsaHashVerify {r : Sys2Proof.JobRun} (hk : covers (ending ||| parts [.mcache]) k = true) (h : Machine.Within k s t) :
    Out.Within k s (Machine.execSlhDsaHashVerify r t) := .into h hk <| by
  unfold Machine.execSlhDsaHashVerify
  exact .jobRow rfl .refl (fun _ _ h => .verifyBody rfl h)

theorem Ran.Within.fnVerifyBody {j : Job} (hk : covers (parts []) k = true) (h : Machine.Within k s t) : Ran.Within k s
    (Machine.fnVerifyBody t j) := .into h hk <| by
  unfold Machine.fnVerifyBody
  exact .guardParam .refl (.ok rfl .refl)

theorem Out.Within.execFnDsaVerify {r : Sys2Proof.JobRun} (hk : covers ending k = true) (h : Machine.Within k s t) : Out.Within k s
    (Machine.execFnDsaVerify r t) := .into h hk <| by
  unfold Machine.execFnDsaVerify
  exact .jobRow rfl .refl (fun _ _ h => .fnVerifyBody rfl h)

theorem Out.Within.execHqcKeygen {r : Sys2Proof.JobRun} (hk : covers (ending ||| parts [.mcache]) k = true) (h : Machine.Within k s t) : Out.Within k s
    (Machine.execHqcKeygen r t) := .into h hk <| by
  unfold Machine.execHqcKeygen
  exact .jobRow rfl .refl (fun _ _ h => .keygenBody rfl h)

theorem Out.Within.execHqcEncaps {r : Sys2Proof.JobRun} (hk : covers (ending ||| parts [.mcache]) k = true) (h : Machine.Within k s t) : Out.Within k s
    (Machine.execHqcEncaps r t) := .into h hk <| by
  unfold Machine.execHqcEncaps
  exact .jobRow rfl .refl (fun _ _ h => .encapsBody rfl h)

theorem Out.Within.execHqcDecaps {r : Sys2Proof.JobRun} (hk : covers (ending ||| parts [.mcache]) k = true) (h : Machine.Within k s t) : Out.Within k s
    (Machine.execHqcDecaps r t) := .into h hk <| by
  unfold Machine.execHqcDecaps
  exact .jobRow rfl .refl (fun _ _ h => .decapsBody rfl h)

theorem Within.drawUntil {j : Job} {n m : Nat} {accept : Bytes → Bool} {out : Option Bytes} {u : State} (hk : covers (parts [.ent]) k = true)
    (h : Within k s t) (he : t.drawUntil j n accept m = some (u, out)) : Within k s u := h.into hk <| by
  clear h hk
  induction m generalizing t with
  | zero => cases he; exact .refl
  | succ m ih =>
    unfold State.drawUntil at he
    split at he
    · cases he
    · next v x hv =>
      split at he
      · cases he; exact .drawFrom rfl .refl hv
      · exact Within.trans (.drawFrom rfl .refl hv) (ih he)

theorem Ran.Within.takeUntil {j : Job} {n m : Nat} {accept : Bytes → Bool} {f : State → Bytes → Ran} (hk : covers (parts [.jobs, .ent]) k = true)
    (h : Machine.Within k s t) (hf : ∀ u b, Machine.Within k s u → Ran.Within k s (f u b)) : Ran.Within k s (t.takeUntil j n m accept f) := by
  unfold State.takeUntil
  split
  · next u b he => exact hf _ _ (.drawUntil (covers_trans rfl hk) h he)
  · next u he => exact .done (.drawUntil (covers_trans rfl hk) h he)
  · exact .stallDraw hk h

theorem Out.Within.execMcelieceKeygen {r : Sys2Proof.JobRun} (hk : covers (ending ||| parts [.mcache]) k = true) (h : Machine.Within k s t) : Out.Within k s
    (Machine.execMcelieceKeygen r t) := .into h hk <| by
  unfold Machine.execMcelieceKeygen
  exact .jobRow rfl .refl (fun _ _ h => .guardParam h (.takeUntil rfl h (fun _ _ h => .finishKeygen rfl h)))

theorem Out.Within.execMcelieceEncaps {r : Sys2Proof.JobRun} (hk : covers (ending ||| parts [.mcache]) k = true) (h : Machine.Within k s t) : Out.Within k s
    (Machine.execMcelieceEncaps r t) := .into h hk <| by
  unfold Machine.execMcelieceEncaps
  exact .jobRow rfl .refl (fun _ _ h => .encapsBody rfl h)

theorem Out.Within.execMcelieceDecaps {r : Sys2Proof.JobRun} (hk : covers (ending ||| parts [.mcache]) k = true) (h : Machine.Within k s t) : Out.Within k s
    (Machine.execMcelieceDecaps r t) := .into h hk <| by
  unfold Machine.execMcelieceDecaps
  exact .jobRow rfl .refl (fun _ _ h => .decapsBody rfl h)

theorem Ran.Within.statefulKeygenBody {j : Job} (hk : covers (parts [.free, .dict, .dtx, .jobs, .ent, .keys]) k = true) (h : Machine.Within k s t) :
    Ran.Within k s (Machine.statefulKeygenBody t j) := .into h hk <| by
  unfold Machine.statefulKeygenBody
  extract_lets 
  split
  · exact .fails rfl .refl
  · exact .guardParam .refl (.take rfl .refl (fun _ _ h => .makeKey rfl h (fun _ _ h => .okKey rfl h)))

theorem Out.Within.execStatefulKeygen {r : Sys2Proof.JobRun} (hk : covers ending k = true) (h : Machine.Within k s t) : Out.Within k s
    (Machine.execStatefulKeygen r t) := .into h hk <| by
  unfold Machine.execStatefulKeygen
  exact .jobRow rfl .refl (fun _ _ h => .statefulKeygenBody rfl h)

theorem Ran.Within.statefulSignBody {j : Job} (hk : covers (parts [.free, .jobs, .ent, .keys]) k = true) (h : Machine.Within k s t) : Ran.Within k s
    (Machine.statefulSignBody t j) := .into h hk <| by
  unfold Machine.statefulSignBody
  split
  · exact .take rfl .refl (fun _ _ h => .ok rfl (.bumpKey rfl (.drawn rfl h)))
  · exact .fails rfl .refl

theorem Out.Within.execStatefulSign {r : Sys2Proof.JobRun} (hk : covers ending k = true) (h : Machine.Within k s t) : Out.Within k s
    (Machine.execStatefulSign r t) := .into h hk <| by
  unfold Machine.execStatefulSign
  exact .jobRow rfl .refl (fun _ _ h => .statefulSignBody rfl h)

theorem Ran.Within.statefulVerifyBody {j : Job} (hk : covers (parts []) k = true) (h : Machine.Within k s t) : Ran.Within k s
    (Machine.statefulVerifyBody t j) := .into h hk <| by
  unfold Machine.statefulVerifyBody
  exact .guardParam .refl (.ok rfl .refl)

theorem Out.Within.execStatefulVerify {r : Sys2Proof.JobRun} (hk : covers ending k = true) (h : Machine.Within k s t) : Out.Within k s
    (Machine.execStatefulVerify r t) := .into h hk <| by
  unfold Machine.execStatefulVerify
  exact .jobRow rfl .refl (fun _ _ h => .statefulVerifyBody rfl h)

theorem Within.setKey {k' : KeyRec} (hk : covers (parts [.keys]) k = true) (h : Within k s t) : Within k s (t.setKey k') := h.into hk <| by
  unfold State.setKey
  exact .ite (.update rfl .refl (.ofVol (Map.wf_put _ _ _))) (.update rfl .refl (.ofRecs (Map.wf_put _ _ _)))

theorem Within.writePlace {rk : Nat} {p : Place} (hk : covers (parts [.keys]) k = true) (h : Within k s t) : Within k s (t.writePlace rk p) := h.into hk <| by
  unfold State.writePlace
  exact .set rfl rfl .refl

theorem Within.failWaiters {h' : Nat} (hk : covers (parts [.dict, .dtx, .tx, .waits, .chans, .jobs, .units, .clus]) k = true) (h : Within k s t) : Within k s
    (t.failWaiters h') := h.into hk <| by
  unfold State.failWaiters
  exact .foldl .refl (fun _ _ h => (.finish rfl h))

theorem Out.Within.execReservationCommit {handle : Nat} {ok : Bool} (hk : covers (ending ||| parts [.grp]) k = true) (h : Machine.Within k s t) :
    Out.Within k s (Machine.execReservationCommit handle ok t) := .into h hk <| by
  unfold Machine.execReservationCommit
  split
  · exact .ite (.next .refl) (by
      extract_lets _ _ _ _ t₂
      have ht₂ : Machine.Within (ending ||| parts [.grp]) t t₂ := .countAll rfl (.setKey rfl (.set rfl rfl .refl))
      exact .ite (.ite (.next .refl) (.next (.submit rfl (.set rfl rfl .refl)))) (.ite (.ite (.next ht₂) (.next (.writePlace rfl ht₂))) (.next
          (.failWaiters rfl (.set rfl rfl
          .refl)))))
  · exact .next (.set rfl rfl .refl)
  · exact .next .refl

theorem Out.Within.execEccKeygen {r : Sys2Proof.JobRun} (hk : covers (ending ||| parts [.mcache]) k = true) (h : Machine.Within k s t) : Out.Within k s
    (Machine.execEccKeygen r t) := .into h hk <| by
  unfold Machine.execEccKeygen
  exact .jobRow rfl .refl (fun _ _ h => .keygenBody rfl h)

theorem Out.Within.execEccSign {r : Sys2Proof.JobRun} (hk : covers (ending ||| parts [.mcache]) k = true) (h : Machine.Within k s t) : Out.Within k s
    (Machine.execEccSign r t) := .into h hk <| by
  unfold Machine.execEccSign
  exact .jobRow rfl .refl (fun _ _ h => .signBody rfl h)

theorem Out.Within.execEccVerify {r : Sys2Proof.JobRun} (hk : covers (ending ||| parts [.mcache]) k = true) (h : Machine.Within k s t) : Out.Within k s
    (Machine.execEccVerify r t) := .into h hk <| by
  unfold Machine.execEccVerify
  exact .jobRow rfl .refl (fun _ _ h => .verifyBody rfl h)

theorem Ran.Within.agreeBody {j : Job} (hk : covers (parts [.free, .dict, .dtx, .keys]) k = true) (h : Machine.Within k s t) : Ran.Within k s
    (Machine.agreeBody t j) := .into h hk <| by
  unfold Machine.agreeBody
  extract_lets 
  split
  · exact .fails rfl .refl
  · exact .guardParam .refl (.ite (.fails rfl .refl) (by
      split
      · exact .ok rfl .refl
      · exact .ite (.makeKey rfl .refl (fun _ _ h => .okKey rfl h)) (.ok rfl .refl)))

theorem Out.Within.execEccAgree {r : Sys2Proof.JobRun} (hk : covers ending k = true) (h : Machine.Within k s t) : Out.Within k s
    (Machine.execEccAgree r t) := .into h hk <| by
  unfold Machine.execEccAgree
  exact .jobRow rfl .refl (fun _ _ h => .agreeBody rfl h)

theorem Out.Within.execEccHashSign {r : Sys2Proof.JobRun} (hk : covers (ending ||| parts [.mcache]) k = true) (h : Machine.Within k s t) : Out.Within k s
    (Machine.execEccHashSign r t) := .into h hk <| by
  unfold Machine.execEccHashSign
  exact .jobRow rfl .refl (fun _ _ h => .signBody rfl h)

theorem Out.Within.execEccHashVerify {r : Sys2Proof.JobRun} (hk : covers (ending ||| parts [.mcache]) k = true) (h : Machine.Within k s t) : Out.Within k s
    (Machine.execEccHashVerify r t) := .into h hk <| by
  unfold Machine.execEccHashVerify
  exact .jobRow rfl .refl (fun _ _ h => .verifyBody rfl h)

theorem Ran.Within.rsaKeygenBody {j : Job} (hk : covers (parts [.free, .dict, .dtx, .jobs, .mcache, .ent, .keys]) k = true) (h : Machine.Within k s t) :
    Ran.Within k s (Machine.rsaKeygenBody t j) := .into h hk <| by
  unfold Machine.rsaKeygenBody
  exact .guardParam .refl (.takeUntil rfl .refl (fun _ _ h => .takeUntil rfl h (fun _ _ h => .finishKeygen rfl h)))

theorem Out.Within.execRsaKeygen {r : Sys2Proof.JobRun} (hk : covers (ending ||| parts [.mcache]) k = true) (h : Machine.Within k s t) : Out.Within k s
    (Machine.execRsaKeygen r t) := .into h hk <| by
  unfold Machine.execRsaKeygen
  exact .jobRow rfl .refl (fun _ _ h => .rsaKeygenBody rfl h)

theorem Ran.Within.rsaSignBody {j : Job} (hk : covers (parts [.jobs, .ent]) k = true) (h : Machine.Within k s t) : Ran.Within k s
    (Machine.rsaSignBody t j) := .into h hk <| by
  unfold Machine.rsaSignBody
  extract_lets 
  split
  · exact .fails rfl .refl
  · exact .guardParam .refl (.take rfl .refl (fun _ _ h => .ok rfl h))

theorem Out.Within.execRsaSign {r : Sys2Proof.JobRun} (hk : covers ending k = true) (h : Machine.Within k s t) : Out.Within k s
    (Machine.execRsaSign r t) := .into h hk <| by
  unfold Machine.execRsaSign
  exact .jobRow rfl .refl (fun _ _ h => .rsaSignBody rfl h)

theorem Ran.Within.rsaVerifyBody {j : Job} (hk : covers (parts []) k = true) (h : Machine.Within k s t) : Ran.Within k s
    (Machine.rsaVerifyBody t j) := .into h hk <| by
  unfold Machine.rsaVerifyBody
  exact .guardParam .refl (.ok rfl .refl)

theorem Out.Within.execRsaVerify {r : Sys2Proof.JobRun} (hk : covers ending k = true) (h : Machine.Within k s t) : Out.Within k s
    (Machine.execRsaVerify r t) := .into h hk <| by
  unfold Machine.execRsaVerify
  exact .jobRow rfl .refl (fun _ _ h => .rsaVerifyBody rfl h)

theorem Ran.Within.rsaDecryptBody {j : Job} (hk : covers (parts [.jobs, .ent]) k = true) (h : Machine.Within k s t) : Ran.Within k s
    (Machine.rsaDecryptBody t j) := .into h hk <| by
  unfold Machine.rsaDecryptBody
  extract_lets 
  split
  · exact .fails rfl .refl
  · exact .guardParam .refl (.take rfl .refl (fun _ _ h => .ok rfl h))

theorem Out.Within.execRsaDecrypt {r : Sys2Proof.JobRun} (hk : covers ending k = true) (h : Machine.Within k s t) : Out.Within k s
    (Machine.execRsaDecrypt r t) := .into h hk <| by
  unfold Machine.execRsaDecrypt
  exact .jobRow rfl .refl (fun _ _ h => .rsaDecryptBody rfl h)

theorem Ran.Within.rsaEncryptBody {j : Job} (hk : covers (parts [.jobs, .ent]) k = true) (h : Machine.Within k s t) : Ran.Within k s
    (Machine.rsaEncryptBody t j) := .into h hk <| by
  unfold Machine.rsaEncryptBody
  exact .guardParam .refl (.ite (.ok rfl .refl) (.take rfl .refl (fun _ _ h => .ok rfl h)))

theorem Out.Within.execRsaEncrypt {r : Sys2Proof.JobRun} (hk : covers ending k = true) (h : Machine.Within k s t) : Out.Within k s
    (Machine.execRsaEncrypt r t) := .into h hk <| by
  unfold Machine.execRsaEncrypt
  exact .jobRow rfl .refl (fun _ _ h => .rsaEncryptBody rfl h)

theorem Out.Within.execRsaHashSign {r : Sys2Proof.JobRun} (hk : covers ending k = true) (h : Machine.Within k s t) : Out.Within k s
    (Machine.execRsaHashSign r t) := .into h hk <| by
  unfold Machine.execRsaHashSign
  exact .jobRow rfl .refl (fun _ _ h => .rsaSignBody rfl h)

theorem Out.Within.execRsaHashVerify {r : Sys2Proof.JobRun} (hk : covers ending k = true) (h : Machine.Within k s t) : Out.Within k s
    (Machine.execRsaHashVerify r t) := .into h hk <| by
  unfold Machine.execRsaHashVerify
  exact .jobRow rfl .refl (fun _ _ h => .rsaVerifyBody rfl h)

theorem Ran.Within.aeadEncryptBody {j : Job} (hk : covers (parts [.jobs, .ent]) k = true) (h : Machine.Within k s t) : Ran.Within k s
    (Machine.aeadEncryptBody t j) := .into h hk <| by
  unfold Machine.aeadEncryptBody
  exact .ite (.guardParam .refl (.take rfl .refl (fun _ _ h => .ok rfl h))) (.guardParam .refl (.ok rfl .refl))

theorem Out.Within.execAeadEncrypt {r : Sys2Proof.JobRun} (hk : covers ending k = true) (h : Machine.Within k s t) : Out.Within k s
    (Machine.execAeadEncrypt r t) := .into h hk <| by
  unfold Machine.execAeadEncrypt
  exact .jobRow rfl .refl (fun _ _ h => .aeadEncryptBody rfl h)

theorem Ran.Within.aeadDecryptBody {j : Job} (hk : covers (parts []) k = true) (h : Machine.Within k s t) : Ran.Within k s
    (Machine.aeadDecryptBody t j) := .into h hk <| by
  unfold Machine.aeadDecryptBody
  exact .ite (.guardParam .refl (.ok rfl .refl)) (.guardParam .refl (.ok rfl .refl))

theorem Out.Within.execAeadDecrypt {r : Sys2Proof.JobRun} (hk : covers ending k = true) (h : Machine.Within k s t) : Out.Within k s
    (Machine.execAeadDecrypt r t) := .into h hk <| by
  unfold Machine.execAeadDecrypt
  exact .jobRow rfl .refl (fun _ _ h => .aeadDecryptBody rfl h)

theorem Ran.Within.hashBody {j : Job} (hk : covers (parts []) k = true) (h : Machine.Within k s t) : Ran.Within k s (Machine.hashBody t j) := .into h hk <| by
  unfold Machine.hashBody
  exact .guardParam .refl (.ok rfl .refl)

theorem Out.Within.execDigest {r : Sys2Proof.JobRun} (hk : covers ending k = true) (h : Machine.Within k s t) : Out.Within k s
    (Machine.execDigest r t) := .into h hk <| by
  unfold Machine.execDigest
  exact .jobRow rfl .refl (fun _ _ h => .hashBody rfl h)

theorem Out.Within.execMac {r : Sys2Proof.JobRun} (hk : covers ending k = true) (h : Machine.Within k s t) : Out.Within k s
    (Machine.execMac r t) := .into h hk <| by
  unfold Machine.execMac
  exact .jobRow rfl .refl (fun _ _ h => .hashBody rfl h)

theorem Out.Within.execMacVerify {r : Sys2Proof.JobRun} (hk : covers ending k = true) (h : Machine.Within k s t) : Out.Within k s
    (Machine.execMacVerify r t) := .into h hk <| by
  unfold Machine.execMacVerify
  exact .jobRow rfl .refl (fun _ _ h => .hashBody rfl h)

theorem Ran.Within.kdfBody_kdfResult {j : Job} {toKey : Bool} {typ : Nat} {v : Sys2Proof.Bytes} (hk : covers (parts [.free, .dict, .dtx, .keys]) k = true)
    (h : Machine.Within k s t) : Ran.Within k s (Machine.kdfBody.kdfResult t j toKey typ v) := .into h hk <| by
  unfold Machine.kdfBody.kdfResult
  exact .ite (.makeKey rfl .refl (fun _ _ h => .okKey rfl h)) (.ok rfl .refl)

theorem Ran.Within.kdfBody {j : Job} (hk : covers (parts [.free, .dict, .dtx, .keys]) k = true) (h : Machine.Within k s t) : Ran.Within k s
    (Machine.kdfBody t j) := .into h hk <| by
  unfold Machine.kdfBody
  exact .guardParam .refl (by
    split
    · exact .ite (.fails rfl .refl) (.kdfBody_kdfResult rfl .refl)
    · exact .kdfBody_kdfResult rfl .refl)

theorem Out.Within.execExtract {r : Sys2Proof.JobRun} (hk : covers ending k = true) (h : Machine.Within k s t) : Out.Within k s
    (Machine.execExtract r t) := .into h hk <| by
  unfold Machine.execExtract
  exact .jobRow rfl .refl (fun _ _ h => .kdfBody rfl h)

theorem Out.Within.execExpand {r : Sys2Proof.JobRun} (hk : covers ending k = true) (h : Machine.Within k s t) : Out.Within k s
    (Machine.execExpand r t) := .into h hk <| by
  unfold Machine.execExpand
  exact .jobRow rfl .refl (fun _ _ h => .kdfBody rfl h)

theorem Out.Within.execExtractExpand {r : Sys2Proof.JobRun} (hk : covers ending k = true) (h : Machine.Within k s t) : Out.Within k s
    (Machine.execExtractExpand r t) := .into h hk <| by
  unfold Machine.execExtractExpand
  exact .jobRow rfl .refl (fun _ _ h => .kdfBody rfl h)

theorem Ran.Within.randomBody {j : Job} (hk : covers (parts [.jobs, .ent]) k = true) (h : Machine.Within k s t) : Ran.Within k s
    (Machine.randomBody t j) := .into h hk <| by
  unfold Machine.randomBody
  exact .guardParam .refl (.take rfl .refl (fun _ _ h => .ok rfl h))

theorem Out.Within.execRandomOctets {r : Sys2Proof.JobRun} (hk : covers ending k = true) (h : Machine.Within k s t) : Out.Within k s
    (Machine.execRandomOctets r t) := .into h hk <| by
  unfold Machine.execRandomOctets
  exact .jobRow rfl .refl (fun _ _ h => .randomBody rfl h)

theorem Ran.Within.genBody {j : Job} (hk : covers (parts [.free, .dict, .dtx, .jobs, .ent, .keys]) k = true) (h : Machine.Within k s t) : Ran.Within k s
    (Machine.genBody t j) := .into h hk <| by
  unfold Machine.genBody
  exact .guardParam .refl (.take rfl .refl (fun _ _ h => .makeKey rfl h (fun _ _ h => .okKey rfl h)))

theorem Out.Within.execGenSymmetric {r : Sys2Proof.JobRun} (hk : covers ending k = true) (h : Machine.Within k s t) : Out.Within k s
    (Machine.execGenSymmetric r t) := .into h hk <| by
  unfold Machine.execGenSymmetric
  exact .jobRow rfl .refl (fun _ _ h => .genBody rfl h)

theorem Ran.Within.importBody {j : Job} (hk : covers (parts [.free, .dict, .dtx, .keys]) k = true) (h : Machine.Within k s t) : Ran.Within k s
    (Machine.importBody t j) := .into h hk <| by
  unfold Machine.importBody
  exact .guardParam .refl (.ite (.fails rfl .refl) (.makeKey rfl .refl (fun _ _ h => .okKey rfl h)))

theorem Out.Within.execImportPublic {r : Sys2Proof.JobRun} (hk : covers ending k = true) (h : Machine.Within k s t) : Out.Within k s
    (Machine.execImportPublic r t) := .into h hk <| by
  unfold Machine.execImportPublic
  exact .jobRow rfl .refl (fun _ _ h => .importBody rfl h)

theorem Ran.Within.exportBody {j : Job} (hk : covers (parts []) k = true) (h : Machine.Within k s t) : Ran.Within k s
    (Machine.exportBody t j) := .into h hk <| by
  unfold Machine.exportBody
  split
  · exact .ite (.ok rfl .refl) (.fails rfl .refl)
  · exact .fails rfl .refl

theorem Out.Within.execExportPublic {r : Sys2Proof.JobRun} (hk : covers ending k = true) (h : Machine.Within k s t) : Out.Within k s
    (Machine.execExportPublic r t) := .into h hk <| by
  unfold Machine.execExportPublic
  exact .jobRow rfl .refl (fun _ _ h => .exportBody rfl h)

theorem Ran.Within.destroyBody {j : Job} (hk : covers (parts [.keys]) k = true) (h : Machine.Within k s t) : Ran.Within k s
    (Machine.destroyBody t j) := .into h hk <| by
  unfold Machine.destroyBody
  split
  · exact .fails rfl .refl
  · exact .ite (.stay .refl) (.ok rfl (.dropVolatile rfl .refl))

theorem Out.Within.execDestroy {r : Sys2Proof.JobRun} (hk : covers ending k = true) (h : Machine.Within k s t) : Out.Within k s
    (Machine.execDestroy r t) := .into h hk <| by
  unfold Machine.execDestroy
  exact .jobRow rfl .refl (fun _ _ h => .destroyBody rfl h)

theorem Within.parkKum {j : Job} (hk : covers (parts [.free, .jobs, .tenants, .units, .les, .saved, .cmem, .clus]) k = true) (h : Within k s t) : Within k s
    (t.parkKum j) := h.into hk <| by
  unfold State.parkKum
  exact .mapJob rfl (.unload rfl (.accrue rfl .refl))

theorem Within.startCommit {j : Job} {b : Sys2Proof.Bytes} {k' : KeyRec} {p : Option Nat} (hk : covers (parts [.keys]) k = true) (h : Within k s t) :
    Within k s (t.startCommit j b k' p) := h.into hk <| by
  unfold State.startCommit
  extract_lets _ _ t'
  have ht' : Within (parts [.keys]) t t' := .writePlace rfl .refl
  exact .set rfl rfl ht'

theorem Ran.Within.kumBody_kumNext {j : Job} {b : Sys2Proof.Bytes} {counter : Nat} (hk : covers (parts [.keys]) k = true) (h : Machine.Within k s t) :
    Ran.Within k s (Machine.kumBody.kumNext t j b counter) := .into h hk <| by
  unfold Machine.kumBody.kumNext
  exact .ite (.fails rfl .refl) (by
    split
    · exact .fails rfl .refl
    · exact .stay (.startCommit rfl .refl))

end Machine
end Sys2Proof
end

section
/-! What key updates, TLS, streams and owner kernels reach. -/

namespace Sys2Proof
namespace Machine

variable {k : Parts} {s t : State}

theorem Ran.Within.kumBody {ops : Nat → Bool} {j : Job} (hk : covers (ending ||| parts [.grp]) k = true) (h : Machine.Within k s t) : Ran.Within k s
    (Machine.kumBody ops t j) := .into h hk <| by
  unfold Machine.kumBody
  exact .ite (.stay .refl) (.ite (.fails rfl .refl) (.ite (.fails rfl .refl) (.ite (.fails rfl .refl) (.ite (.fails rfl .refl) (.ite (.stay
      (.parkKum rfl .refl)) (.ite (by
    split
    · exact .done .refl
    · exact .fails rfl .refl
    · split
      · exact .fails rfl .refl
      · exact .ite (.fails rfl .refl) (.stay (.submit rfl .refl))) (by
    split
    · exact .ite (.done .refl) (.kumBody_kumNext rfl .refl)
    · exact .kumBody_kumNext rfl .refl)))))))

theorem Out.Within.execKumCreate {r : Sys2Proof.JobRun} (hk : covers (ending ||| parts [.grp]) k = true) (h : Machine.Within k s t) : Out.Within k s
    (Machine.execKumCreate r t) := .into h hk <| by
  unfold Machine.execKumCreate
  exact .jobRow rfl .refl (fun _ _ h => .kumBody rfl h)

theorem Out.Within.execKumImport {r : Sys2Proof.JobRun} (hk : covers (ending ||| parts [.grp]) k = true) (h : Machine.Within k s t) : Out.Within k s
    (Machine.execKumImport r t) := .into h hk <| by
  unfold Machine.execKumImport
  exact .jobRow rfl .refl (fun _ _ h => .kumBody rfl h)

theorem Out.Within.execKumReplace {r : Sys2Proof.JobRun} (hk : covers (ending ||| parts [.grp]) k = true) (h : Machine.Within k s t) : Out.Within k s
    (Machine.execKumReplace r t) := .into h hk <| by
  unfold Machine.execKumReplace
  exact .jobRow rfl .refl (fun _ _ h => .kumBody rfl h)

theorem Out.Within.execKumDestroy {r : Sys2Proof.JobRun} (hk : covers (ending ||| parts [.grp]) k = true) (h : Machine.Within k s t) : Out.Within k s
    (Machine.execKumDestroy r t) := .into h hk <| by
  unfold Machine.execKumDestroy
  exact .jobRow rfl .refl (fun _ _ h => .kumBody rfl h)

theorem Out.Within.execKumSetAttr {r : Sys2Proof.JobRun} (hk : covers (ending ||| parts [.grp]) k = true) (h : Machine.Within k s t) : Out.Within k s
    (Machine.execKumSetAttr r t) := .into h hk <| by
  unfold Machine.execKumSetAttr
  exact .jobRow rfl .refl (fun _ _ h => .kumBody rfl h)

theorem Within.dropProvisional {h' : Option Nat} (hk : covers (parts [.keys]) k = true) (h : Within k s t) : Within k s
    (t.dropProvisional h') := h.into hk <| by
  unfold State.dropProvisional
  split
  · exact .refl
  · split
    · exact .dropVolatile rfl (.retireKey rfl .refl)
    · exact .refl

theorem Within.applyKum {op : Nat} {x : KeyRec} {counter digest : Nat} (hk : covers (parts [.keys]) k = true) (h : Within k s t) : Within k s
    (t.applyKum op x counter digest) := h.into hk <| by
  unfold State.applyKum
  refine .setKeys rfl (.setKeys rfl ?_ id fun hw => ?_) id id
  · split
    · exact .ite (.ite (.set rfl rfl (.retireKey rfl .refl)) (.retireKey rfl .refl)) .refl
    · exact .refl
  · dsimp only
    split
    · exact Map.wf_erase _ _ hw
    · exact Map.wf_put _ _ _ hw

theorem Within.endKum {r : Sys2Proof.JobRef} {status detail : Nat} {out : Sys2Proof.Bytes} (hk : covers ending k = true) (h : Within k s t) :
    Within k s (t.endKum r status detail out) := h.into hk <| by
  unfold State.endKum
  exact .endJob rfl (.chargeTypical rfl .refl)

theorem Within.dropPlace {rk : Nat} (hk : covers (parts [.keys]) k = true) (h : Within k s t) : Within k s (t.dropPlace rk) := h.into hk <| by
  unfold State.dropPlace
  exact .set rfl rfl .refl

theorem Within.markPlace {c : KumCommit} (hk : covers (parts [.keys]) k = true) (h : Within k s t) : Within k s (t.markPlace c) := h.into hk <| by
  unfold State.markPlace
  exact .set rfl rfl .refl

theorem Out.Within.execKumCommit {domain : Nat} {ok : Bool} (hk : covers ending k = true) (h : Machine.Within k s t) : Out.Within k s
    (Machine.execKumCommit domain ok t) := .into h hk <| by
  unfold Machine.execKumCommit
  split
  · exact .next .refl
  · exact .ite (.next .refl) (.ite (.next (.endKum rfl (.dropProvisional rfl (.applyKum rfl (.set rfl rfl .refl))))) (.ite (.next
      (.set rfl rfl .refl)) (.ite (.next (.dropPlace rfl (.set rfl rfl
      .refl))) (.ite (.next (.markPlace rfl .refl)) (.next (.endKum rfl (.dropPlace rfl (.set rfl rfl .refl))))))))

theorem Within.putLoaded {k' : KeyRec} (hk : covers (parts [.free, .keys]) k = true) (h : Within k s t) : Within k s (t.putLoaded k') := h.into hk <| by
  unfold State.putLoaded
  extract_lets _ _ _ s'
  have hs' : Within (parts [.free, .keys]) t s' := .update rfl (.splitDone rfl .refl) (.ofRecs (Map.wf_mapVals _ _))
  exact .ite (.set rfl rfl hs') (.set rfl rfl hs')

theorem Out.Within.execKeyLoad {handle : Nat} (hk : covers (parts [.free, .dict, .dtx, .keys]) k = true) (h : Machine.Within k s t) : Out.Within k s
    (Machine.execKeyLoad handle t) := .into h hk <| by
  unfold Machine.execKeyLoad
  split
  · exact .next .refl
  · exact .ite (.next .refl) (by
      split
      · exact .next .refl
      · next t' he => exact .next (.putLoaded rfl (.makeFit rfl .refl he)))

theorem Ran.Within.serverShareBody {j : Job} (hk : covers (parts [.free, .dict, .dtx, .jobs, .mcache, .ent, .keys]) k = true) (h : Machine.Within k s t) :
    Ran.Within k s (Machine.serverShareBody t j) := .into h hk <| by
  unfold Machine.serverShareBody
  exact .guardParam .refl (.ite (.ok rfl .refl) (.take rfl .refl (fun _ _ h => by
    split
    · exact .ok rfl h
    · exact .makeKey rfl h (fun _ _ h => .okKey rfl (.matrixOf rfl h)))))

theorem Out.Within.execServerShare {r : Sys2Proof.JobRun} (hk : covers (ending ||| parts [.mcache]) k = true) (h : Machine.Within k s t) : Out.Within k s
    (Machine.execServerShare r t) := .into h hk <| by
  unfold Machine.execServerShare
  exact .jobRow rfl .refl (fun _ _ h => .serverShareBody rfl h)

theorem Ran.Within.clientShareBody {j : Job} (hk : covers (parts [.free, .dict, .dtx, .jobs, .mcache, .ent, .keys]) k = true) (h : Machine.Within k s t) :
    Ran.Within k s (Machine.clientShareBody t j) := .into h hk <| by
  unfold Machine.clientShareBody
  exact .guardParam .refl (.take rfl .refl (fun _ _ h => .makeKey rfl h (fun _ _ h => .okKey rfl (.matrixOf rfl h))))

theorem Out.Within.execClientShare {r : Sys2Proof.JobRun} (hk : covers (ending ||| parts [.mcache]) k = true) (h : Machine.Within k s t) : Out.Within k s
    (Machine.execClientShare r t) := .into h hk <| by
  unfold Machine.execClientShare
  exact .jobRow rfl .refl (fun _ _ h => .clientShareBody rfl h)

theorem Ran.Within.onSession {j : Job} {st : Nat} {f : KeyRec → Ran} (h : Machine.Within k s t) (hf : ∀ x, Ran.Within k s (f x)) : Ran.Within k s
    (Machine.onSession t j st f) := by
  unfold Machine.onSession
  split
  · exact .ite (hf _) (.done h)
  · exact .done h

theorem Within.tlsMove {k' : KeyRec} {st : Nat} {secret : Sys2Proof.Bytes} (hk : covers (parts [.keys]) k = true) (h : Within k s t) : Within k s
    (t.tlsMove k' st secret) := h.into hk <| by
  unfold State.tlsMove
  exact .setKey rfl .refl

theorem Ran.Within.clientHandshakeBody {j : Job} (hk : covers (parts [.keys]) k = true) (h : Machine.Within k s t) : Ran.Within k s
    (Machine.clientHandshakeBody t j) := .into h hk <| by
  unfold Machine.clientHandshakeBody
  exact .guardParam .refl (.onSession .refl (fun _ => by
    split
    · exact .ok rfl .refl
    · exact .ok rfl (.tlsMove rfl .refl)))

theorem Out.Within.execClientHandshake {r : Sys2Proof.JobRun} (hk : covers ending k = true) (h : Machine.Within k s t) : Out.Within k s
    (Machine.execClientHandshake r t) := .into h hk <| by
  unfold Machine.execClientHandshake
  exact .jobRow rfl .refl (fun _ _ h => .clientHandshakeBody rfl h)

theorem Ran.Within.handshakeSecretsBody {j : Job} (hk : covers (parts [.keys]) k = true) (h : Machine.Within k s t) : Ran.Within k s
    (Machine.handshakeSecretsBody t j) := .into h hk <| by
  unfold Machine.handshakeSecretsBody
  exact .guardParam .refl (.onSession .refl (fun _ => .ok rfl (.tlsMove rfl .refl)))

theorem Out.Within.execHandshakeSecrets {r : Sys2Proof.JobRun} (hk : covers ending k = true) (h : Machine.Within k s t) : Out.Within k s
    (Machine.execHandshakeSecrets r t) := .into h hk <| by
  unfold Machine.execHandshakeSecrets
  exact .jobRow rfl .refl (fun _ _ h => .handshakeSecretsBody rfl h)

theorem Ran.Within.appSecretsBody {j : Job} (hk : covers (parts [.keys]) k = true) (h : Machine.Within k s t) : Ran.Within k s
    (Machine.appSecretsBody t j) := .into h hk <| by
  unfold Machine.appSecretsBody
  exact .guardParam .refl (.onSession .refl (fun _ => .ok rfl (.ite (.dropVolatile rfl .refl) (.tlsMove rfl .refl))))

theorem Out.Within.execAppSecrets {r : Sys2Proof.JobRun} (hk : covers ending k = true) (h : Machine.Within k s t) : Out.Within k s
    (Machine.execAppSecrets r t) := .into h hk <| by
  unfold Machine.execAppSecrets
  exact .jobRow rfl .refl (fun _ _ h => .appSecretsBody rfl h)

theorem Ran.Within.resumptionBody {j : Job} (hk : covers (parts [.keys]) k = true) (h : Machine.Within k s t) : Ran.Within k s
    (Machine.resumptionBody t j) := .into h hk <| by
  unfold Machine.resumptionBody
  exact .guardParam .refl (.onSession .refl (fun _ => .ok rfl (.dropVolatile rfl .refl)))

theorem Out.Within.execResumption {r : Sys2Proof.JobRun} (hk : covers ending k = true) (h : Machine.Within k s t) : Out.Within k s
    (Machine.execResumption r t) := .into h hk <| by
  unfold Machine.execResumption
  exact .jobRow rfl .refl (fun _ _ h => .resumptionBody rfl h)

theorem Ran.Within.stampBody {j : Job} (hk : covers (parts [.jobs, .mcache, .ent]) k = true) (h : Machine.Within k s t) : Ran.Within k s
    (Machine.stampBody t j) := .into h hk <| by
  unfold Machine.stampBody
  extract_lets 
  split
  · exact .guardParam .refl (.signWith rfl .refl (fun _ _ h => .ok rfl h))
  · exact .fails rfl .refl

theorem Out.Within.execStamp {r : Sys2Proof.JobRun} (hk : covers (ending ||| parts [.mcache]) k = true) (h : Machine.Within k s t) : Out.Within k s
    (Machine.execStamp r t) := .into h hk <| by
  unfold Machine.execStamp
  exact .jobRow rfl .refl (fun _ _ h => .stampBody rfl h)

theorem Ran.Within.quoteBody {j : Job} (hk : covers (parts []) k = true) (h : Machine.Within k s t) : Ran.Within k s (Machine.quoteBody t j) := .into h hk <| by
  unfold Machine.quoteBody
  extract_lets 
  split
  · exact .fails rfl .refl
  · exact .guardParam .refl (.ok rfl .refl)

theorem Out.Within.execQuote {r : Sys2Proof.JobRun} (hk : covers ending k = true) (h : Machine.Within k s t) : Out.Within k s
    (Machine.execQuote r t) := .into h hk <| by
  unfold Machine.execQuote
  exact .jobRow rfl .refl (fun _ _ h => .quoteBody rfl h)

theorem Ran.Within.compareBody {j : Job} (hk : covers (parts []) k = true) (h : Machine.Within k s t) : Ran.Within k s
    (Machine.compareBody t j) := .into h hk <| by
  unfold Machine.compareBody
  exact .guardParam .refl (.ok rfl .refl)

theorem Out.Within.execCompare {r : Sys2Proof.JobRun} (hk : covers ending k = true) (h : Machine.Within k s t) : Out.Within k s
    (Machine.execCompare r t) := .into h hk <| by
  unfold Machine.execCompare
  exact .jobRow rfl .refl (fun _ _ h => .compareBody rfl h)

theorem Ran.Within.streamBodyRun {j : Job} (hk : covers (parts [.dict, .dtx, .dstreams]) k = true) (h : Machine.Within k s t) : Ran.Within k s
    (Machine.streamBodyRun t j) := .into h hk <| by
  unfold Machine.streamBodyRun
  split
  · exact .fails rfl .refl
  · exact .fails rfl .refl
  · extract_lets _ _ _ t'
    have ht' : Machine.Within (parts [.dict, .dtx, .dstreams]) t t' := .ite (.event rfl .refl) .refl
    exact .ite (.ok rfl (.set rfl rfl ht')) (.ok rfl (.set rfl rfl ht'))

theorem Out.Within.execStreamMessage {r : Sys2Proof.JobRun} (hk : covers ending k = true) (h : Machine.Within k s t) : Out.Within k s
    (Machine.execStreamMessage r t) := .into h hk <| by
  unfold Machine.execStreamMessage
  split
  · exact .next .refl
  · exact .ite (by
      split
      · exact .next (.settle rfl (.finish rfl .refl))
      · exact .next .refl) (.runRow rfl .refl (fun _ _ h => .streamBodyRun rfl h))

theorem Out.Within.sequence {w : Mw} {legal : Bool} {body : State → Le → Issue} (hk : covers (ending ||| parts [.flt]) k = true) (h : Machine.Within k s t)
    (hb : ∀ u l, Machine.Within k s u → Issue.Within k s (body u l)) : Out.Within k s (Machine.sequence t w legal body) := by
  unfold Machine.sequence
  have hi := hb (t.setLe w.le ((t.le w.le).issued w.secret)) ((t.le w.le).issued w.secret) (.setLe (covers_trans rfl hk) h)
  refine .ite (.next h) <| .ite (.next (.leDone (covers_trans rfl hk) h)) <| .ite (.next (.setLe (covers_trans rfl hk) h)) ?_
  split
  · next u e => rw [e] at hi; exact .next hi
  · exact .next (.leDone (covers_trans rfl hk) h)
  · exact .next (.leDone (covers_trans rfl hk) h)
  · next u d r e => rw [e] at hi; exact .next (.windowFault hk hi)
  · next u c e => rw [e] at hi; exact .next (.setLe (covers_trans rfl hk) hi)

theorem Issue.Within.goTo {e : Nat} {l : Le} {target : Nat} (hk : covers (parts [.les]) k = true) (h : Machine.Within k s t) : Issue.Within k s
    (Machine.goTo t e l target) := .into h hk <| by
  unfold Machine.goTo
  exact .ite (.go (.setLe rfl .refl)) .engine

theorem Out.Within.execNext {w : Sys2Proof.Mw} (hk : covers (ending ||| parts [.flt]) k = true) (h : Machine.Within k s t) : Out.Within k s
    (Machine.execNext w t) := .into h hk <| by
  unfold Machine.execNext
  exact .sequence rfl .refl (fun _ _ h => .goTo rfl h)

theorem Out.Within.execJump {w : Sys2Proof.Mw} (hk : covers (ending ||| parts [.flt]) k = true) (h : Machine.Within k s t) : Out.Within k s
    (Machine.execJump w t) := .into h hk <| by
  unfold Machine.execJump
  exact .sequence rfl .refl (fun _ _ h => .goTo rfl h)

theorem Out.Within.branch {w : Sys2Proof.Mw} {taken : Nat → Bool} (hk : covers (ending ||| parts [.flt]) k = true) (h : Machine.Within k s t) :
    Out.Within k s (Machine.branch t w taken) := .into h hk <| by
  unfold Machine.branch
  exact .sequence rfl .refl (fun _ _ h => .ite .taint (.ite (.goTo rfl h) (.goTo rfl h)))

theorem Out.Within.execBrz {w : Sys2Proof.Mw} (hk : covers (ending ||| parts [.flt]) k = true) (h : Machine.Within k s t) : Out.Within k s
    (Machine.execBrz w t) := .into h hk <| by
  unfold Machine.execBrz
  exact .branch rfl .refl

theorem Out.Within.execBrnz {w : Sys2Proof.Mw} (hk : covers (ending ||| parts [.flt]) k = true) (h : Machine.Within k s t) : Out.Within k s
    (Machine.execBrnz w t) := .into h hk <| by
  unfold Machine.execBrnz
  exact .branch rfl .refl

theorem Out.Within.execCall {w : Sys2Proof.Mw} (hk : covers (ending ||| parts [.flt]) k = true) (h : Machine.Within k s t) : Out.Within k s
    (Machine.execCall w t) := .into h hk <| by
  unfold Machine.execCall
  exact .sequence rfl .refl (fun _ _ h => .ite .engine (.goTo rfl h))

theorem Out.Within.execRet {w : Sys2Proof.Mw} (hk : covers (ending ||| parts [.flt]) k = true) (h : Machine.Within k s t) : Out.Within k s
    (Machine.execRet w t) := .into h hk <| by
  unfold Machine.execRet
  exact .sequence rfl .refl (fun _ _ h => by
    split
    · exact .engine
    · exact .goTo rfl h)

theorem Out.Within.execLoop {w : Sys2Proof.Mw} (hk : covers (ending ||| parts [.flt]) k = true) (h : Machine.Within k s t) : Out.Within k s
    (Machine.execLoop w t) := .into h hk <| by
  unfold Machine.execLoop
  exact .sequence rfl .refl (fun _ _ h => .ite .taint (.ite (.goTo rfl h) (.ite (.goTo rfl h) (.goTo rfl h))))

theorem Out.Within.execExit {w : Sys2Proof.Mw} (hk : covers ending k = true) (h : Machine.Within k s t) : Out.Within k s
    (Machine.execExit w t) := .into h hk <| by
  unfold Machine.execExit
  extract_lets 
  split
  · exact .next .refl
  · exact .ite (.next .refl) (.ite (.next (.leDone rfl .refl)) (.ite (.next (.settle rfl (.dropJob rfl (.setEngine rfl (.clearLe rfl
      (.accrueOn rfl .refl)))))) (.ite (.next (.leDone rfl
      .refl)) (.ite (.next (.setLe rfl .refl)) (.ite (.next (.leDone rfl .refl)) (.ite (.next (.leDone rfl .refl)) (.next (.leDone rfl .refl))))))))

theorem Out.Within.runSeq {seq : Nat} {w : Sys2Proof.Mw} (hk : covers (ending ||| parts [.flt]) k = true) (h : Machine.Within k s t) : Out.Within k s
    (Machine.runSeq seq w t) := .into h hk <| by
  unfold Machine.runSeq
  split
  · exact .execNext rfl .refl
  · exact .execJump rfl .refl
  · exact .execBrz rfl .refl
  · exact .execBrnz rfl .refl
  · exact .execCall rfl .refl
  · exact .execRet rfl .refl
  · exact .execLoop rfl .refl
  · exact .execExit rfl .refl

/-- A nanoword's operation reaches what the end of its engine's job does. -/
def Nano.Keeps (d : Nano) : Prop := ∀ w s, Out.Within (ending ||| parts [.mcache, .flt]) s (d.run w s)

/-- If there is a nanoword, its operation reaches no more. -/
def KeepsAny (o : Option Nano) : Prop := ∀ d, o = some d → d.Keeps

namespace KeepsAny

theorem some {d : Nano} (h : d.Keeps) : KeepsAny (some d) := fun _ e => Option.some.inj e ▸ h

theorem none : KeepsAny none := fun _ e => nomatch e

theorem ite {c : Prop} [Decidable c] {o p : Option Nano} (h : KeepsAny o) (g : KeepsAny p) : KeepsAny (if c then o else p) := by
  split
  · exact h
  · exact g

theorem orElse {o p : Option Nano} (h : KeepsAny o) (g : KeepsAny p) : KeepsAny (o <|> p) := by
  cases o with
  | none => exact g
  | some d => exact h

theorem single0 {i : Nat} : KeepsAny (single0 i) :=
  .ite (some fun _ _ => .execNop rfl .refl) <| .ite (some fun _ _ => .execLdc rfl .refl) <| .ite (some fun _ _ => .execStc rfl .refl) <|
    .ite (some fun _ _ => .execLds rfl .refl) <| .ite (some fun _ _ => .execSts rfl .refl) <| .ite (some fun _ _ => .execRelease rfl .refl) <|
    .ite (some fun _ _ => .execLdc rfl .refl) <| .ite (some fun _ _ => .execStc rfl .refl) <| .ite (some fun _ _ => .execLds rfl .refl) <|
    .ite (some fun _ _ => .execSts rfl .refl) <| .ite (some fun _ _ => .execRelease rfl .refl) <| .ite (some fun _ _ => .execLdc rfl .refl) <|
    .ite (some fun _ _ => .execStc rfl .refl) <| .ite (some fun _ _ => .execLds rfl .refl) <| none

theorem single1 {i : Nat} : KeepsAny (single1 i) :=
  .ite (some fun _ _ => .execSts rfl .refl) <| .ite (some fun _ _ => .execRelease rfl .refl) <| .ite (some fun _ _ => .execLdq rfl .refl) <|
    .ite (some fun _ _ => .execGather16C rfl .refl) <| .ite (some fun _ _ => .execScatter16C rfl .refl) <| .ite (some fun _ _ => .execGather16S rfl .refl) <|
    .ite (some fun _ _ => .execScatter16S rfl .refl) <| .ite (some fun _ _ => .execAadd rfl .refl) <| .ite (some fun _ _ => .execAsub rfl .refl) <|
    .ite (some fun _ _ => .execAand rfl .refl) <| .ite (some fun _ _ => .execAshr rfl .refl) <| .ite (some fun _ _ => .execAaddi rfl .refl) <|
    .ite (some fun _ _ => .execAldi rfl .refl) <| .ite (some fun _ _ => .execAsetw rfl .refl) <| none

theorem single2 {i : Nat} : KeepsAny (single2 i) :=
  .ite (some fun _ _ => .execAfromv rfl .refl) <| .ite (some fun _ _ => .execAbcast rfl .refl) <| .ite (some fun _ _ => .execMcount rfl .refl) <|
    .ite (some fun _ _ => .execAnd rfl .refl) <| .ite (some fun _ _ => .execOr rfl .refl) <| .ite (some fun _ _ => .execXor rfl .refl) <|
    .ite (some fun _ _ => .execAndn rfl .refl) <| .ite (some fun _ _ => .execAndr rfl .refl) <| .ite (some fun _ _ => .execOrr rfl .refl) <|
    .ite (some fun _ _ => .execCt18 rfl .refl) <| .ite (some fun _ _ => .execGs18 rfl .refl) <| .ite (some fun _ _ => .execCt36l rfl .refl) <|
    .ite (some fun _ _ => .execCt36TopSum rfl .refl) <| .ite (some fun _ _ => .execCt36TopDiff rfl .refl) <| none

theorem single3 {i : Nat} : KeepsAny (single3 i) :=
  .ite (some fun _ _ => .execCt36u rfl .refl) <| .ite (some fun _ _ => .execGs36l rfl .refl) <| .ite (some fun _ _ => .execGs36TopSum rfl .refl) <|
    .ite (some fun _ _ => .execGs36TopDiff rfl .refl) <| .ite (some fun _ _ => .execGs36u rfl .refl) <| .ite (some fun _ _ => .execCbd2 rfl .refl) <|
    .ite (some fun _ _ => .execCbd3 rfl .refl) <| .ite (some fun _ _ => .execCompact rfl .refl) <| .ite (some fun _ _ => .execCtCompact rfl .refl) <|
    .ite (some fun _ _ => .execCompact rfl .refl) <| .ite (some fun _ _ => .execCtCompact rfl .refl) <| .ite (some fun _ _ => .execBasemul rfl .refl) <|
    .ite (some fun _ _ => .execCompress rfl .refl) <| .ite (some fun _ _ => .execDecompress rfl .refl) <| none

theorem single4 {i : Nat} : KeepsAny (single4 i) :=
  .ite (some fun _ _ => .execByteEncode rfl .refl) <| .ite (some fun _ _ => .execByteDecode rfl .refl) <| .ite (some fun _ _ => .execBitpack rfl .refl) <|
    .ite (some fun _ _ => .execBitunpack rfl .refl) <| .ite (some fun _ _ => .execP2rHi rfl .refl) <| .ite (some fun _ _ => .execP2rLo rfl .refl) <|
    .ite (some fun _ _ => .execDec88Hi rfl .refl) <| .ite (some fun _ _ => .execDec88Lo rfl .refl) <| .ite (some fun _ _ => .execDec32Hi rfl .refl) <|
    .ite (some fun _ _ => .execDec32Lo rfl .refl) <| .ite (some fun _ _ => .execMkhint88 rfl .refl) <| .ite (some fun _ _ => .execMkhint32 rfl .refl) <|
    .ite (some fun _ _ => .execUsehint88 rfl .refl) <| .ite (some fun _ _ => .execUsehint32 rfl .refl) <| none

theorem single5 {i : Nat} : KeepsAny (single5 i) :=
  .ite (some fun _ _ => .execDeclBit rfl .refl) <| .ite (some fun _ _ => .execDeclBit2 rfl .refl) <| .ite (some fun _ _ => .execDeclBit3 rfl .refl) <|
    .ite (some fun _ _ => .execPerm rfl .refl) <| .ite (some fun _ _ => .execSopen rfl .refl) <| .ite (some fun _ _ => .execSabsorb rfl .refl) <|
    .ite (some fun _ _ => .execSfinal rfl .refl) <| .ite (some fun _ _ => .execSsqueeze rfl .refl) <| .ite (some fun _ _ => .execSclose rfl .refl) <|
    .ite (some fun _ _ => .execMaskDraw rfl .refl) <| .ite (some fun _ _ => .execDrbgDraw rfl .refl) <| .ite (some fun _ _ => .execKeyFetch rfl .refl) <|
    .ite (some fun _ _ => .execMboxRead rfl .refl) <| .ite (some fun _ _ => .execMatrixReq rfl .refl) <| none

theorem single6 {i : Nat} : KeepsAny (single6 i) :=
  .ite (some fun _ _ => .execMatrixDone rfl .refl) <| none

end KeepsAny

theorem families0_keeps : ∀ f ∈ families0, ∀ g x, (f.make g x).Keeps := by
  unfold families0
  simp only [List.forall_mem_cons, List.not_mem_nil, false_imp_iff, implies_true, and_true]
  exact ⟨fun _ _ _ _ => .execAdd rfl .refl, fun _ _ _ _ => .execSub rfl .refl, fun _ _ _ _ => .execAddm rfl .refl, fun _ _ _ _ => .execSubm rfl .refl,
    fun _ _ _ _ => .execRedb rfl .refl, fun _ _ _ _ => .execMulm rfl .refl, fun _ _ _ _ => .execMulw rfl .refl, fun _ _ _ _ => .execDot rfl .refl,
    fun _ _ _ _ => .execRedw rfl .refl, fun _ _ _ _ => .execClmul rfl .refl, fun _ _ _ _ => .execAddm rfl .refl, fun _ _ _ _ => .execSubm rfl .refl⟩

theorem families1_keeps : ∀ f ∈ families1, ∀ g x, (f.make g x).Keeps := by
  unfold families1
  simp only [List.forall_mem_cons, List.not_mem_nil, false_imp_iff, implies_true, and_true]
  exact ⟨fun _ _ _ _ => .execRedb rfl .refl, fun _ _ _ _ => .execMulm rfl .refl, fun _ _ _ _ => .execRedw rfl .refl, fun _ _ _ _ => .execAddm rfl .refl,
    fun _ _ _ _ => .execSubm rfl .refl, fun _ _ _ _ => .execRedb rfl .refl, fun _ _ _ _ => .execMulm rfl .refl, fun _ _ _ _ => .execRedw rfl .refl,
    fun _ _ _ _ => .execShl rfl .refl, fun _ _ _ _ => .execShr rfl .refl, fun _ _ _ _ => .execRol64 rfl .refl, fun _ _ _ _ => .execCmplt rfl .refl⟩

theorem families2_keeps : ∀ f ∈ families2, ∀ g x, (f.make g x).Keeps := by
  unfold families2
  simp only [List.forall_mem_cons, List.not_mem_nil, false_imp_iff, implies_true, and_true]
  exact ⟨fun _ _ _ _ => .execCmpeq rfl .refl, fun _ _ _ _ => .execMovm rfl .refl, fun _ _ _ _ => .execPopc rfl .refl, fun _ _ _ _ => .execMfromv rfl .refl,
    fun _ _ _ _ => .execUnpackZ rfl .refl, fun _ _ _ _ => .execUnpackS rfl .refl, fun _ _ _ _ => .execPack rfl .refl, fun _ _ _ _ => .execSecand rfl .refl,
    fun _ _ _ _ => .execSecmulm rfl .refl, fun _ _ _ _ => .execA2b rfl .refl, fun _ _ _ _ => .execB2a rfl .refl⟩

/-- Every nanoword's operation reaches what the end of its engine's job does. -/
theorem nano_within {i : Nat} {d : Nano} (h : nano i = some d) : d.Keeps := by
  unfold nano at h
  split at h
  · next n hn =>
    cases h
    obtain ⟨f, hf, hat⟩ := List.exists_of_findSome?_eq_some hn
    have hm : ∀ g x, (f.make g x).Keeps := by
      rcases List.mem_append.1 hf with hf | hf
      · rcases List.mem_append.1 hf with hf | hf
        · exact families0_keeps f hf
        · exact families1_keeps f hf
      · exact families2_keeps f hf
    unfold NanoFamily.at_ at hat
    dsimp only at hat
    split at hat
    · cases hat; exact hm _ _
    · cases hat
  · exact (KeepsAny.single0.orElse <| .orElse .single1 <| .orElse .single2 <| .orElse .single3 <| .orElse .single4 <| .orElse .single5 .single6) d h

/-- A run of an owner kernel's microwords reaches what its microwords do. -/
theorem Out.Within.runKernel {x : Kernel} {e : Nat} {r : JobRef} {n : Nat} {first : Bool} {c : RunWork}
    (hk : covers (ending ||| parts [.mcache, .flt]) k = true) (h : Machine.Within k s t) : Out.Within k s
        (Machine.runKernel x e r n first c t).1 := .into h hk <| by
  clear h hk
  induction n generalizing t first c with
  | zero => exact .next .refl
  | succ n ih =>
    unfold Machine.runKernel
    extract_lets l v exits ends
    split
    · exact .next .refl
    · split
      · exact .next (.leDone rfl .refl)
      · next d hd =>
        extract_lets w
        have hd' : Out.Within (ending ||| parts [.mcache, .flt]) t
            (if exits && bitAt v 46 && ends then .next t else d.run { w with safePoint := w.safePoint && !exits } t) :=
          .ite (.next .refl) (nano_within (by split at hd; exacts [hd, by cases hd]) _ _)
        split
        · next u hu =>
          have hu' := hd' u hu
          split
          · exact .next hu'
          · split
            · exact .next hu'
            · have hseq : Out.Within (ending ||| parts [.mcache, .flt]) u (Machine.runSeq (mwSeq v) { w with wait := 0 } u) := .runSeq rfl .refl
              split
              · next y hy => exact .into (hu'.trans (hseq y hy)) rfl ih
              · exact .into hu' rfl hseq
        · exact hd'

theorem Out.Within.execOwnerKernelJob {j : JobRef} (hk : covers (ending ||| parts [.mcache, .flt]) k = true) (h : Machine.Within k s t) : Out.Within k s
    (Machine.execOwnerKernelJob j t) := .into h hk <| by
  unfold Machine.execOwnerKernelJob
  split
  · exact .next .refl
  · exact .ite (.next (.leDone rfl (.charge rfl (.drawn rfl .refl)))) (.runKernel rfl (.charge rfl (.drawn rfl .refl)))

theorem Out.Within.execOwnerKernelCostLimit {j : Sys2Proof.JobRef} (hk : covers ending k = true) (h : Machine.Within k s t) : Out.Within k s
    (Machine.execOwnerKernelCostLimit j t) := .into h hk <| by
  unfold Machine.execOwnerKernelCostLimit
  split
  · exact .next .refl
  · exact .when .refl (.leDone rfl (.charge rfl .refl))

theorem Ran.Within.fetchBody {j : Job} (hk : covers (parts []) k = true) (h : Machine.Within k s t) : Ran.Within k s (Machine.fetchBody t j) := .into h hk <| by
  unfold Machine.fetchBody
  exact .guardParam .refl (.ok rfl .refl)

theorem Out.Within.execFetch {j : Sys2Proof.JobRef} (hk : covers ending k = true) (h : Machine.Within k s t) : Out.Within k s
    (Machine.execFetch j t) := .into h hk <| by
  unfold Machine.execFetch
  exact .jobRow rfl .refl (fun _ _ h => .fetchBody rfl h)

theorem Ran.Within.headBody {x : Job} (hk : covers (parts []) k = true) (h : Machine.Within k s t) : Ran.Within k s (Machine.headBody t x) := .into h hk <| by
  unfold Machine.headBody
  exact .ok rfl .refl

theorem Out.Within.execHead {j : Sys2Proof.JobRef} (hk : covers ending k = true) (h : Machine.Within k s t) : Out.Within k s
    (Machine.execHead j t) := .into h hk <| by
  unfold Machine.execHead
  exact .jobRow rfl .refl (fun _ _ h => .headBody rfl h)

theorem Ran.Within.checkpointBody {j : Job} (hk : covers (parts [.dict, .dtx, .rwork, .trav]) k = true) (h : Machine.Within k s t) : Ran.Within k s
    (Machine.checkpointBody t j) := .into h hk <| by
  unfold Machine.checkpointBody
  exact .ite (.stay .refl) (.stay (.checkpoint rfl (.set rfl rfl .refl)))

theorem Out.Within.execCheckpoint {j : Sys2Proof.JobRef} (hk : covers (ending ||| parts [.rwork, .trav]) k = true) (h : Machine.Within k s t) :
    Out.Within k s (Machine.execCheckpoint j t) := .into h hk <| by
  unfold Machine.execCheckpoint
  exact .jobRow rfl .refl (fun _ _ h => .checkpointBody rfl h)

theorem Within.deliverKey {e : Nat} {k' : KeyRec} (hk : covers (parts [.cmem]) k = true) (h : Within k s t) : Within k s (t.deliverKey e k') := h.into hk <| by
  unfold State.deliverKey
  exact .foldl .refl (fun _ _ h => (.setCword rfl h))

theorem Out.Within.execKeyBusDeliveryDone {le : Nat} (hk : covers ending k = true) (h : Machine.Within k s t) : Out.Within k s
    (Machine.execKeyBusDeliveryDone le t) := .into h hk <| by
  unfold Machine.execKeyBusDeliveryDone
  extract_lets 
  split
  · exact .next .refl
  · exact .ite (.next .refl) (by
      split
      · exact .next .refl
      · split
        · exact .next (.leDone rfl .refl)
        · exact .ite (.next (.leDone rfl .refl)) (.next (.setLe rfl (.deliverKey rfl .refl))))

theorem Out.Within.execMatrixAnswer {le : Nat} (hk : covers (parts [.les, .mcache]) k = true) (h : Machine.Within k s t) : Out.Within k s
    (Machine.execMatrixAnswer le t) := .into h hk <| by
  unfold Machine.execMatrixAnswer
  extract_lets 
  split
  · split <;> exact .next (.setLe rfl (.set rfl rfl .refl))
  · exact .next .refl

theorem Out.Within.execWaitWatchdog {le : Nat} (hk : covers ending k = true) (h : Machine.Within k s t) : Out.Within k s
    (Machine.execWaitWatchdog le t) := .into h hk <| by
  unfold Machine.execWaitWatchdog
  exact .when .refl (.leDone rfl .refl)

theorem Out.Within.execEntropyStallTimeout {le : Nat} (hk : covers ending k = true) (h : Machine.Within k s t) : Out.Within k s
    (Machine.execEntropyStallTimeout le t) := .into h hk <| by
  unfold Machine.execEntropyStallTimeout
  exact .when .refl (.leDone rfl .refl)

theorem Out.Within.execMaskGeneratorReseed {le : Nat} (hk : covers (parts [.les, .clus, .ent]) k = true) (h : Machine.Within k s t) : Out.Within k s
    (Machine.execMaskGeneratorReseed le t) := .into h hk <| by
  unfold Machine.execMaskGeneratorReseed
  exact .ite (.next .refl) (by
    split
    · exact .next (.setLe rfl (.askSeed rfl .refl))
    · next t' he => exact .next (.setLe rfl (.maskSeed rfl .refl he)))

theorem Out.Within.execCsRepair {cluster : Nat} {nano : Bool} {addr : Nat} (hk : covers (parts [.dict, .clus, .kern]) k = true) (h : Machine.Within k s t) :
    Out.Within k s (Machine.execCsRepair cluster nano addr t) := .into h hk <| by
  unfold Machine.execCsRepair
  refine .when .refl (.inc rfl (.update rfl (.setCluster rfl .refl) (.ofBound fun hw => ?_)))
  cases nano <;> exact hw

theorem Out.Within.execFloorRaise {j : Sys2Proof.JobRef} {floor : Nat} (hk : covers everything k = true) (h : Machine.Within k s t) : Out.Within k s
    (Machine.execFloorRaise j floor t) := .into h hk <| by
  unfold Machine.execFloorRaise
  exact .named rfl .refl

theorem Out.Within.execInstall {j : Sys2Proof.JobRef} (hk : covers everything k = true) (h : Machine.Within k s t) : Out.Within k s
    (Machine.execInstall j t) := .into h hk <| by
  unfold Machine.execInstall
  exact .named rfl .refl

theorem Out.Within.execDiscard {j : Sys2Proof.JobRef} (hk : covers everything k = true) (h : Machine.Within k s t) : Out.Within k s
    (Machine.execDiscard j t) := .into h hk <| by
  unfold Machine.execDiscard
  exact .named rfl .refl

theorem Out.Within.execRemove {j : Sys2Proof.JobRef} {binding : Nat} (hk : covers everything k = true) (h : Machine.Within k s t) : Out.Within k s
    (Machine.execRemove j binding t) := .into h hk <| by
  unfold Machine.execRemove
  exact .named rfl .refl

end Machine
end Sys2Proof
end

section
/-! What the flash channels, the traverse and the group reach. -/

namespace Sys2Proof
namespace Machine

variable {k : Parts} {s t : State}

theorem Within.storePatch {k' : Kernel} (hk : covers (parts [.dict, .kern]) k = true) (h : Within k s t) : Within k s (t.storePatch k') := h.into hk <| by
  unfold State.storePatch
  exact .ite (.set rfl rfl (.wr rfl .refl)) (.set rfl rfl (.wr rfl .refl))

theorem Within.placeConstants {k' : Kernel} (hk : covers (parts [.cmem]) k = true) (h : Within k s t) : Within k s (t.placeConstants k') := h.into hk <| by
  unfold State.placeConstants
  exact .foldl .refl (fun _ _ h => (.foldl h (fun _ _ h => (.setCword rfl h))))

theorem Within.bindKernel {k' : Kernel} (hk : covers (parts [.cmem, .kern]) k = true) (h : Within k s t) : Within k s (t.bindKernel k') := h.into hk <| by
  unfold State.bindKernel
  exact .placeConstants rfl (.update rfl .refl (.ofBound (Map.wf_put _ _ _)))

theorem Out.Within.execKernelCommit {ok : Bool} (hk : covers (parts [.dict, .dtx, .rwork, .cmem, .kern, .trav]) k = true) (h : Machine.Within k s t) :
    Out.Within k s (Machine.execKernelCommit ok t) := .into h hk <| by
  unfold Machine.execKernelCommit
  extract_lets s'
  have hs' : Machine.Within (parts [.dict, .dtx, .rwork, .cmem, .kern, .trav]) t s' := .verified rfl .refl
  split
  · exact .next hs'
  · extract_lets _ _ t₃
    have ht₃ : Machine.Within (parts [.dict, .dtx, .rwork, .cmem, .kern, .trav]) t t₃ := .event rfl (.wr rfl (.ite (.storePatch rfl
        (.set rfl rfl hs')) (.bindKernel rfl (.set rfl rfl hs'))))
    exact .when hs' (.ite ht₃ (.record rfl ht₃))

theorem Out.Within.execSourceWarmupDone {src : Nat} (hk : covers (parts [.ent]) k = true) (h : Machine.Within k s t) : Out.Within k s
    (Machine.execSourceWarmupDone src t) := .into h hk <| by
  unfold Machine.execSourceWarmupDone
  exact .when .refl (.setSource rfl .refl)

theorem Within.instantiateAll (hk : covers (parts [.ent]) k = true) (h : Within k s t) : Within k s t.instantiateAll := h.into hk <| by
  unfold State.instantiateAll
  exact .foldl .refl (fun _ _ h => (.request rfl h))

theorem Within.reseedStopped (hk : covers (parts [.ent]) k = true) (h : Within k s t) : Within k s t.reseedStopped := h.into hk <| by
  unfold State.reseedStopped
  exact .foldl .refl (fun _ _ h => (.ite (.request rfl h) (.ite (.request rfl h) h)))

theorem Within.entropyUp (hk : covers (parts [.dict, .dtx, .tx, .chans, .ent]) k = true) (h : Within k s t) : Within k s t.entropyUp := h.into hk <| by
  unfold State.entropyUp
  exact .ite (.instantiateAll rfl (.wr rfl .refl)) (.ite (.reseedStopped rfl (.entropyEvent rfl (.wr rfl .refl))) .refl)

theorem Within.passWindow {n : Nat} {samples : List Bool} {last : Option Bool} {run : Nat} (hk : covers (parts [.dict, .dtx, .tx, .chans, .ent]) k = true)
    (h : Within k s t) : Within k s (t.passWindow n samples last run) := h.into hk <| by
  unfold State.passWindow
  extract_lets _ _ t'
  have ht' : Within (parts [.dict, .dtx, .tx, .chans, .ent]) t t' := .setSource rfl .refl
  exact .entropyUp rfl (.wr rfl (.inc rfl (.ite (.set rfl rfl ht') ht')))

theorem Within.failSource {n cause : Nat} (hk : covers (ending ||| parts [.hs]) k = true) (h : Within k s t) : Within k s
    (t.failSource n cause) := h.into hk <| by
  unfold State.failSource
  extract_lets _ _ _ t₃
  have ht₃ : Within (ending ||| parts [.hs]) t t₃ := .entropyEvent rfl (.dropRaw rfl (.wr rfl (.wr rfl (.wr rfl (.setSource rfl .refl)))))
  exact .entropyDown rfl (.ite (.entropyEvent rfl ht₃) ht₃)

theorem Out.Within.execSourceWindowEnd {src : Nat} {samples : List Bool} (hk : covers (ending ||| parts [.hs]) k = true) (h : Machine.Within k s t) :
    Out.Within k s (Machine.execSourceWindowEnd src samples t) := .into h hk <| by
  unfold Machine.execSourceWindowEnd
  refine .ite (.next .refl) ?_
  dsimp only
  split
  · exact .next (.passWindow rfl .refl)
  all_goals exact .next (.failSource rfl .refl)

theorem Out.Within.execRepetitionCountFail {src : Nat} (hk : covers (ending ||| parts [.hs]) k = true) (h : Machine.Within k s t) : Out.Within k s
    (Machine.execRepetitionCountFail src t) := .into h hk <| by
  unfold Machine.execRepetitionCountFail
  exact .when .refl (.failSource rfl .refl)

theorem Within.addBlock {b : Nat} (hk : covers (parts [.dict, .ent]) k = true) (h : Within k s t) : Within k s (t.addBlock b) := h.into hk <| by
  unfold State.addBlock
  exact .ite (.set rfl rfl (.inc rfl .refl)) (.inc rfl .refl)

theorem Out.Within.execBlockConditioned {src : Nat} (hk : covers (parts [.dict, .dtx, .tx, .chans, .ent]) k = true) (h : Machine.Within k s t) :
    Out.Within k s (Machine.execBlockConditioned src t) := .into h hk <| by
  unfold Machine.execBlockConditioned
  exact .when .refl (.entropyUp rfl (.addBlock rfl (.setSource rfl .refl)))

theorem Out.Within.execRestart {j : Sys2Proof.JobRef} {src : Nat} (hk : covers everything k = true) (h : Machine.Within k s t) : Out.Within k s
    (Machine.execRestart j src t) := .into h hk <| by
  unfold Machine.execRestart
  exact .named rfl .refl

theorem Out.Within.execDisable {j : Sys2Proof.JobRef} {src : Nat} (hk : covers everything k = true) (h : Machine.Within k s t) : Out.Within k s
    (Machine.execDisable j src t) := .into h hk <| by
  unfold Machine.execDisable
  exact .named rfl .refl

theorem Out.Within.execReseedAll {j : Sys2Proof.JobRef} (hk : covers everything k = true) (h : Machine.Within k s t) : Out.Within k s
    (Machine.execReseedAll j t) := .into h hk <| by
  unfold Machine.execReseedAll
  exact .named rfl .refl

theorem Out.Within.execRawSampleRead {j : Sys2Proof.JobRef} (hk : covers (ending ||| parts [.grp]) k = true) (h : Machine.Within k s t) : Out.Within k s
    (Machine.execRawSampleRead j t) := .into h hk <| by
  unfold Machine.execRawSampleRead
  split
  · split
    · exact .ite (.next (.serveRead rfl .refl)) (.next .refl)
    · exact .next .refl
  · exact .next .refl

theorem Out.Within.execRawSampleRefill {samples : List Bool} (hk : covers (parts [.ent]) k = true) (h : Machine.Within k s t) : Out.Within k s
    (Machine.execRawSampleRefill samples t) := .into h hk <| by
  unfold Machine.execRawSampleRefill
  split
  · exact .when .refl (.set rfl rfl .refl)
  · exact .next .refl

theorem Within.instantiate {d block : Nat} (hk : covers (parts [.ent]) k = true) (h : Within k s t) : Within k s (t.instantiate d block) := h.into hk <| by
  unfold State.instantiate
  exact .set rfl rfl (.setDrbg rfl .refl)

theorem Within.reseed {d block : Nat} (hk : covers (parts [.ent]) k = true) (h : Within k s t) : Within k s (t.reseed d block) := h.into hk <| by
  unfold State.reseed
  exact .setDrbg rfl .refl

theorem Within.serveNext {d : Nat} {inst : Bool} (hk : covers (parts [.dict, .ent]) k = true) (h : Within k s t) : Within k s
    (t.serveNext d inst) := h.into hk <| by
  unfold State.serveNext
  split
  · exact .ite (by
      extract_lets _ _ u' _ u₂
      have hu' : Within (parts [.dict, .ent]) t u' := .reseed rfl (.set rfl rfl .refl)
      have hu₂ : Within (parts [.dict, .ent]) t u₂ := .ite (.setDrbg rfl hu') hu'
      exact .ite (.instantiate rfl (.set rfl rfl .refl)) (.ite (.inc rfl hu₂) hu₂)) .refl
  · exact .refl

theorem Out.Within.execDrbgInstantiate {drbg : Nat} (hk : covers (parts [.dict, .ent]) k = true) (h : Machine.Within k s t) : Out.Within k s
    (Machine.execDrbgInstantiate drbg t) := .into h hk <| by
  unfold Machine.execDrbgInstantiate
  exact .when .refl (.serveNext rfl (.withdrawRequests rfl .refl))

theorem Out.Within.execDrbgReseed {drbg : Nat} (hk : covers (parts [.dict, .ent]) k = true) (h : Machine.Within k s t) : Out.Within k s
    (Machine.execDrbgReseed drbg t) := .into h hk <| by
  unfold Machine.execDrbgReseed
  exact .when .refl (.serveNext rfl (.withdrawRequests rfl .refl))

theorem Out.Within.execEntropyWaitTimeout {j : Sys2Proof.JobRef} (hk : covers settling k = true) (h : Machine.Within k s t) : Out.Within k s
    (Machine.execEntropyWaitTimeout j t) := .into h hk <| by
  unfold Machine.execEntropyWaitTimeout
  split
  · exact .next .refl
  · exact .when .refl (.settle rfl (.finish rfl .refl))

theorem Out.Within.execKeysReset {j : Sys2Proof.JobRef} (hk : covers everything k = true) (h : Machine.Within k s t) : Out.Within k s
    (Machine.execKeysReset j t) := .into h hk <| by
  unfold Machine.execKeysReset
  exact .named rfl .refl

theorem Out.Within.execPresenceChange {n : Nat} {level : Bool} (hk : covers (parts [.dict, .dtx, .pins, .rwork, .flash, .gate, .trav]) k = true)
    (h : Machine.Within k s t) : Out.Within k s (Machine.execPresenceChange n level t) := .into h hk <| by
  unfold Machine.execPresenceChange
  exact .ite (.next .refl) (by
    extract_lets _ _ t₂
    have ht₂ : Machine.Within (parts [.dict, .dtx, .pins, .rwork, .flash, .gate, .trav]) t t₂ := .event rfl (.wr rfl (.set rfl rfl .refl))
    exact .ite (.next (.watchLines rfl (.assertLines rfl (.toGated rfl ht₂)))) (.next (.watchLines rfl (.setFlash rfl ht₂))))

theorem Out.Within.execGateStart {n : Nat} {d : Sys2Proof.Discovery} (hk : covers (parts [.dict, .flash]) k = true) (h : Machine.Within k s t) :
    Out.Within k s (Machine.execGateStart n d t) := .into h hk <| by
  unfold Machine.execGateStart
  exact .when .refl (.foldl (.wr rfl (.wr rfl (.wr rfl (.wr rfl (.wr rfl (.wr rfl (.setFlash rfl .refl))))))) (fun _ _ h => (.wr rfl h)))

theorem Within.regionVerdict {n r : Nat} {m : Sys2Proof.Measured} (hk : covers (parts [.dict, .dtx, .rwork, .trav]) k = true) (h : Within k s t) : Within k s
    (t.regionVerdict n r m) := h.into hk <| by
  unfold State.regionVerdict
  extract_lets _ _ _ _ t₂
  have ht₂ : Within (parts [.dict, .dtx, .rwork, .trav]) t t₂ := .record rfl (.wr rfl (.wr rfl .refl))
  exact .ite (.record rfl ht₂) (.ite (.record rfl ht₂) ht₂)

theorem Out.Within.execRegionMeasured {n r : Nat} {m : Sys2Proof.Measured} (hk : covers (parts [.dict, .dtx, .rwork, .trav]) k = true)
    (h : Machine.Within k s t) : Out.Within k s (Machine.execRegionMeasured n r m t) := .into h hk <| by
  unfold Machine.execRegionMeasured
  extract_lets u'
  have hu' : Machine.Within (parts [.dict, .dtx, .rwork, .trav]) t u' := .enqueueReserve rfl .refl
  exact .when .refl (.ite (.regionVerdict rfl .refl) (.ite (.regionVerdict rfl (.dropReserve rfl hu')) hu'))

theorem Out.Within.execGateDecided {n : Nat} (hk : covers (parts [.dict, .dtx, .pins, .rwork, .flash, .gate, .trav]) k = true) (h : Machine.Within k s t) :
    Out.Within k s (Machine.execGateDecided n t) := .into h hk <| by
  unfold Machine.execGateDecided
  exact .when .refl (.endGate rfl (.forceLines rfl (.watchLines rfl (.ite (.wr rfl (.toPass rfl .refl)) (.event rfl (.setFlash rfl (.wr rfl
      (.wr rfl .refl))))))))

theorem Out.Within.execLineRelease {line : Nat} (hk : covers (parts [.dict, .dtx, .pins, .rwork, .flash, .gate, .trav]) k = true) (h : Machine.Within k s t) :
    Out.Within k s (Machine.execLineRelease line t) := .into h hk <| by
  unfold Machine.execLineRelease
  exact .ite (.next .refl) (.ite (.next (.forceLines rfl .refl)) (.when .refl (.releaseLine rfl .refl)))

theorem Within.gateAll (hk : covers (parts [.dict, .dtx, .rwork, .flash, .gate, .trav]) k = true) (h : Within k s t) : Within k s t.gateAll := h.into hk <| by
  unfold State.gateAll
  exact .foldl .refl (fun _ _ h => (.toGated rfl h))

theorem Out.Within.execPwrgdInFall (hk : covers (parts [.dict, .dtx, .pins, .rwork, .flash, .gate, .trav]) k = true) (h : Machine.Within k s t) :
    Out.Within k s (Machine.execPwrgdInFall t) := .into h hk <| by
  unfold Machine.execPwrgdInFall
  exact .when .refl (.ite (.watchLines rfl (.gateAll rfl (.assertLines rfl (.set rfl rfl .refl)))) (.set rfl rfl .refl))

theorem Out.Within.execForceRelease {j : Sys2Proof.JobRef} {lines : Nat} (hk : covers everything k = true) (h : Machine.Within k s t) : Out.Within k s
    (Machine.execForceRelease j lines t) := .into h hk <| by
  unfold Machine.execForceRelease
  exact .named rfl .refl

theorem Out.Within.execRemeasure {j : Sys2Proof.JobRef} {lines : Nat} (hk : covers everything k = true) (h : Machine.Within k s t) : Out.Within k s
    (Machine.execRemeasure j lines t) := .into h hk <| by
  unfold Machine.execRemeasure
  exact .named rfl .refl

theorem Within.cut {n code : Nat} {addr : Option Nat} (hk : covers (parts [.dict, .dtx, .rwork, .flash, .trav]) k = true) (h : Within k s t) : Within k s
    (t.cut n code addr) := h.into hk <| by
  unfold State.cut
  extract_lets _ _ _ _ _ t'
  have ht' : Within (parts [.dict, .dtx, .rwork, .flash, .trav]) t t' := .wr rfl (.event rfl .refl)
  exact .ite (.setFlash rfl ht') (.record rfl (.setFlash rfl ht'))

theorem Within.passed {n code : Nat} {addr : Option Nat} (hk : covers (parts [.flash]) k = true) (h : Within k s t) : Within k s
    (t.passed n code addr) := h.into hk <| by
  unfold State.passed
  exact .setFlash rfl .refl

theorem Out.Within.execFlashCommand {n code : Nat} {addr : Option Nat} (hk : covers (parts [.dict, .dtx, .rwork, .flash, .trav]) k = true)
    (h : Machine.Within k s t) : Out.Within k s (Machine.execFlashCommand n code addr t) := .into h hk <| by
  unfold Machine.execFlashCommand
  exact .ite (.next .refl) (.ite (.next (.cut rfl .refl)) (.next (.passed rfl .refl)))

theorem Out.Within.execUpdateWindowOpen {j : Sys2Proof.JobRef} {w chan start len expires : Nat} (hk : covers everything k = true)
    (h : Machine.Within k s t) : Out.Within k s (Machine.execUpdateWindowOpen j w chan start len expires t) := .into h hk <| by
  unfold Machine.execUpdateWindowOpen
  exact .named rfl .refl

theorem Out.Within.execUpdateWindowClose {j : Sys2Proof.JobRef} {w : Nat} (hk : covers everything k = true) (h : Machine.Within k s t) :
    Out.Within k s (Machine.execUpdateWindowClose j w t) := .into h hk <| by
  unfold Machine.execUpdateWindowClose
  exact .named rfl .refl

theorem Out.Within.execUpdateWindowExpiry {w : Nat} (hk : covers (parts [.dict, .dtx, .rwork, .trav]) k = true) (h : Machine.Within k s t) : Out.Within k s
    (Machine.execUpdateWindowExpiry w t) := .into h hk <| by
  unfold Machine.execUpdateWindowExpiry
  exact .when .refl (.closeWindow rfl .refl)

theorem Within.markRing {b : Bench} (hk : covers (parts [.tamp]) k = true) (h : Within k s t) : Within k s (t.markRing b) := h.into hk <| by
  unfold State.markRing
  exact .ite .refl (.set rfl rfl .refl)

theorem Within.finishDemands (hk : covers (ending ||| parts [.trav]) k = true) (h : Within k s t) : Within k s t.finishDemands := h.into hk <| by
  unfold State.finishDemands
  extract_lets _ t'
  have ht' : Within (ending ||| parts [.trav]) t t' := .foldl .refl (fun _ _ h => (.endJob rfl h))
  exact .set rfl rfl ht'

theorem Within.drainPending {n : Nat} (hk : covers (parts [.dict, .dtx, .rwork, .trav]) k = true) (h : Within k s t) : Within k s
    (t.drainPending n) := h.into hk <| by
  clear h hk
  induction n generalizing t with
  | zero => exact .refl
  | succ n ih =>
    unfold State.drainPending
    split
    · exact .refl
    · split
      · exact .refl
      · extract_lets u
        split
        · exact Within.trans (.set rfl rfl (.set rfl rfl .refl)) ih
        · exact Within.trans (.append rfl (.set rfl rfl .refl)) ih

theorem Within.archiveSlot {b : Bench} (hk : covers (ending ||| parts [.rwork, .trav, .tamp]) k = true) (h : Within k s t) : Within k s
    (t.archiveSlot b) := h.into hk <| by
  unfold State.archiveSlot
  extract_lets _ _ _ _ t₂
  have ht₂ : Within (ending ||| parts [.rwork, .trav, .tamp]) t t₂ := .ite (.notify rfl (.markRing rfl (.set rfl rfl .refl))) (.set rfl rfl .refl)
  exact .finishDemands rfl (.drainPending rfl ht₂)

theorem Out.Within.execSlotArchived {programOk : Bool} (hk : covers (ending ||| parts [.rwork, .trav, .tamp]) k = true) (h : Machine.Within k s t) :
    Out.Within k s (Machine.execSlotArchived programOk t) := .into h hk <| by
  unfold Machine.execSlotArchived
  split
  · exact .next .refl
  · exact .ite (.next .refl) (.ite (.next (.archiveSlot rfl .refl)) (.next (.event rfl (.set rfl rfl .refl))))

theorem Out.Within.execCheckpointSigned (hk : covers (parts [.dict, .dtx, .rwork, .trav]) k = true) (h : Machine.Within k s t) : Out.Within k s
    (Machine.execCheckpointSigned t) := .into h hk <| by
  unfold Machine.execCheckpointSigned
  split
  · exact .next .refl
  · extract_lets _ _ t₂
    have ht₂ : Machine.Within (parts [.dict, .dtx, .rwork, .trav]) t t₂ := .dropReserve rfl (.set rfl rfl .refl)
    exact .when .refl (.ite ht₂ (.checkpoint rfl ht₂))

theorem Out.Within.execRingWaitTimeout {j : Sys2Proof.JobRef} (hk : covers (parts [.dict, .dtx, .tx, .waits, .chans, .jobs, .units, .clus, .trav]) k = true)
    (h : Machine.Within k s t) : Out.Within k s (Machine.execRingWaitTimeout j t) := .into h hk <| by
  unfold Machine.execRingWaitTimeout
  split
  · exact .next .refl
  · exact .when .refl (.finish rfl (.set rfl rfl .refl))

theorem Within.takeHello {reply : Bool} {h' : Sys2Proof.Hello} (hk : covers (parts [.grp]) k = true) (h : Within k s t) : Within k s
    (t.takeHello reply h') := h.into hk <| by
  unfold State.takeHello
  exact .set rfl rfl .refl

theorem Within.linkMade {i gen txSeq : Nat} {k' : Sys2Proof.Bytes} {m : PeerMsg} (hk : covers (parts [.parts, .grp]) k = true) (h : Within k s t) : Within k s
    (t.linkMade i gen txSeq k' m) := h.into hk <| by
  unfold State.linkMade
  exact .set rfl rfl (.setLink rfl .refl)

theorem Out.Within.execHelloInit {h' : Sys2Proof.Hello} (hk : covers (ending ||| parts [.parts, .grp]) k = true) (h : Machine.Within k s t) : Out.Within k s
    (Machine.execHelloInit h' t) := .into h hk <| by
  unfold Machine.execHelloInit
  split
  · exact .next .refl
  · extract_lets s' _ _ t₂
    have hs' : Machine.Within (ending ||| parts [.parts, .grp]) t s' := .takeHello rfl .refl
    have ht₂ : Machine.Within (ending ||| parts [.parts, .grp]) t t₂ := .drawn rfl (.drawn rfl hs')
    exact .ite (.next hs') (.ite (.next (.groupEvent rfl (.drawn rfl hs'))) (.next (.reviewQuorum rfl (.post rfl (.linkMade rfl (.drawn rfl ht₂))))))

theorem Out.Within.execHelloReply {h' : Sys2Proof.Hello} (hk : covers (ending ||| parts [.parts, .grp]) k = true) (h : Machine.Within k s t) : Out.Within k s
    (Machine.execHelloReply h' t) := .into h hk <| by
  unfold Machine.execHelloReply
  split
  · exact .next .refl
  · extract_lets s'
    have hs' : Machine.Within (ending ||| parts [.parts, .grp]) t s' := .takeHello rfl .refl
    exact .ite (.next hs') (.ite (.next (.groupEvent rfl (.drawn rfl hs'))) (.next (.reviewQuorum rfl (.linkMade rfl (.drawn rfl hs')))))

theorem Within.takeMsg {h' : Sys2Proof.PeerHdr} {op : Nat} {ok : Sys2Proof.Bytes → Bool} (hk : covers (parts [.grp]) k = true) (h : Within k s t) : Within k s
    (t.takeMsg h' op ok) := h.into hk <| by
  unfold State.takeMsg
  exact .set rfl rfl .refl

theorem Out.Within.onLink {hd : PeerHdr} {op : Nat} {ok : Bytes → Bool} {f : State → State} (hk : covers (ending ||| parts [.grp]) k = true)
    (h : Machine.Within k s t) (hf : ∀ u, Machine.Within k s u → Machine.Within k s (f u)) : Out.Within k s (t.onLink hd op ok f) := by
  unfold State.onLink
  exact .when h (hf _ (.reviewQuorum hk (.takeMsg (covers_trans rfl hk) h)))

theorem Within.receiveKek {i : Nat} (hk : covers (parts [.free, .tx, .grp]) k = true) (h : Within k s t) : Within k s (t.receiveKek i) := h.into hk <| by
  unfold State.receiveKek
  exact .ite .refl (by
    extract_lets _ _ t'
    have ht' : Within (parts [.free, .tx, .grp]) t t' := .set rfl rfl (.drawn rfl .refl)
    exact .ite ht' (.post rfl ht'))

theorem Within.setSequencer {i : Nat} (hk : covers (parts [.dict, .dtx]) k = true) (h : Within k s t) : Within k s (t.setSequencer i) := h.into hk <| by
  unfold State.setSequencer
  exact .ite .refl (.ite (.wr rfl .refl) (.groupEvent rfl (.wr rfl .refl)))

theorem Within.standDown (hk : covers (ending ||| parts [.grp]) k = true) (h : Within k s t) : Within k s t.standDown := h.into hk <| by
  unfold State.standDown
  extract_lets t' t₂
  have ht' : Within (ending ||| parts [.grp]) t t' := .ite (.endUncommitted rfl .refl) .refl
  have ht₂ : Within (ending ||| parts [.grp]) t t₂ := .ite (.wr rfl ht') ht'
  exact .set rfl rfl ht₂

theorem Within.adoptTerm {term : Nat} (hk : covers (ending ||| parts [.grp]) k = true) (h : Within k s t) : Within k s (t.adoptTerm term) := h.into hk <| by
  unfold State.adoptTerm
  exact .ite .refl (.wr rfl (.standDown rfl .refl))

theorem Within.endApplied {e : Sys2Proof.GEntry} (hk : covers (ending ||| parts [.grp]) k = true) (h : Within k s t) : Within k s
    (t.endApplied e) := h.into hk <| by
  unfold State.endApplied
  split
  · exact .refl
  · extract_lets t'
    have ht' : Within (ending ||| parts [.grp]) t t' := .endWrite rfl .refl
    split
    · exact .ite (.answerNow rfl ht') ht'
    · exact ht'

theorem Within.applyGroupKum {body : Sys2Proof.Bytes} (hk : covers (parts [.keys, .grp]) k = true) (h : Within k s t) : Within k s
    (t.applyGroupKum body) := h.into hk <| by
  unfold State.applyGroupKum
  extract_lets _ _ _ _ _ t' _ t₃
  have ht' : Within (parts [.keys, .grp]) t t' := .applyKum rfl .refl
  have ht₃ : Within (parts [.keys, .grp]) t t₃ := .writePlace rfl (.ite (.dropProvisional rfl ht') ht')
  exact .set rfl rfl ht₃

theorem Within.applyReserve {body : Sys2Proof.Bytes} (hk : covers (parts [.keys, .grp]) k = true) (h : Within k s t) : Within k s
    (t.applyReserve body) := h.into hk <| by
  unfold State.applyReserve
  extract_lets _ _ _ _ _ _ t₂
  have ht₂ : Within (parts [.keys, .grp]) t t₂ := .set rfl rfl (.set rfl rfl .refl)
  exact .ite (.set rfl rfl .refl) (by
    split
    · exact .setKey rfl ht₂
    · exact ht₂)

theorem Within.afterSealed {body : Sys2Proof.Bytes} (hk : covers everything k = true) (h : Within k s t) : Within k s (t.afterSealed body) := h.into hk <| by
  unfold State.afterSealed
  split
  · exact .refl
  · split
    · split
      · next t' m he => exact .startFuse rfl (.ofFst (.transitionCheck rfl .refl) he)
      · next t' a he => exact (.ofFst (.transitionCheck rfl .refl) he)
    · exact .ite (.warmReset rfl .refl) .refl

theorem Within.applySealed {body : Sys2Proof.Bytes} (hk : covers everything k = true) (h : Within k s t) : Within k s (t.applySealed body) := h.into hk <| by
  unfold State.applySealed
  extract_lets 
  split
  · exact .applyTxn rfl .refl
  · exact .wr rfl (.wr rfl .refl)

theorem Within.applyEntry {e : Sys2Proof.GEntry} (hk : covers everything k = true) (h : Within k s t) : Within k s (t.applyEntry e) := h.into hk <| by
  unfold State.applyEntry
  exact .ite .refl (by
    extract_lets 
    split
    · exact .endApplied rfl (.applyGroupKum rfl (.set rfl rfl .refl))
    · exact .endApplied rfl (.applyReserve rfl (.set rfl rfl .refl))
    · exact .afterSealed rfl (.endApplied rfl (.applySealed rfl (.set rfl rfl .refl)))
    · exact .endApplied rfl (.set rfl rfl .refl))

theorem Within.commitTo {c : Nat} (hk : covers everything k = true) (h : Within k s t) : Within k s (t.commitTo c) := h.into hk <| by
  unfold State.commitTo
  exact .ite .refl (by
    extract_lets _ _ t₂
    have ht₂ : Within everything t t₂ := .foldl (.set rfl rfl .refl) (fun _ _ h => (.applyEntry rfl h))
    exact .set rfl rfl ht₂)

theorem Within.caughtUp {c : Nat} (hk : covers (parts [.dict, .grp]) k = true) (h : Within k s t) : Within k s (t.caughtUp c) := h.into hk <| by
  unfold State.caughtUp
  exact .ite .refl (.ite (.wr rfl (.set rfl rfl .refl)) (.set rfl rfl .refl))

theorem Within.askEntries {i : Nat} (hk : covers (parts [.tx, .grp]) k = true) (h : Within k s t) : Within k s (t.askEntries i) := h.into hk <| by
  unfold State.askEntries
  exact .post rfl .refl

theorem Within.follow {i : Nat} {b : Sys2Proof.HeartbeatBody} (hk : covers everything k = true) (h : Within k s t) : Within k s
    (t.follow i b) := h.into hk <| by
  unfold State.follow
  extract_lets _ t' t₂ t₃ _ t₅
  have ht' : Within everything t t' := .receiveKek rfl (.setSequencer rfl (.adoptTerm rfl .refl))
  have ht₂ : Within everything t t₂ := .ite (.standDown rfl ht') ht'
  have ht₃ : Within everything t t₃ := .ite (.wr rfl ht₂) ht₂
  have ht₅ : Within everything t t₅ := .caughtUp rfl (.commitTo rfl ht₃)
  exact .ite (.askEntries rfl ht₅) ht₅

theorem Within.yieldTo {i : Nat} {b : Sys2Proof.HeartbeatBody} (hk : covers (parts [.grp]) k = true) (h : Within k s t) : Within k s
    (t.yieldTo i b) := h.into hk <| by
  unfold State.yieldTo
  exact .ite (.set rfl rfl .refl) .refl

theorem Out.Within.execHeartbeat {h' : Sys2Proof.PeerHdr} {b : Sys2Proof.HeartbeatBody} (hk : covers everything k = true) (h : Machine.Within k s t) :
    Out.Within k s (Machine.execHeartbeat h' b t) := .into h hk <| by
  unfold Machine.execHeartbeat
  exact .onLink rfl .refl (fun _ h => .reviewQuorum rfl (.yieldTo rfl (.ite (.follow rfl (.setLink rfl h)) (.setLink rfl h))))

theorem Within.fetchBehind (hk : covers (parts [.tx, .grp]) k = true) (h : Within k s t) : Within k s t.fetchBehind := h.into hk <| by
  unfold State.fetchBehind
  exact .ite .refl (by
    extract_lets best
    clear_value best
    split
    · exact .ite (.set rfl rfl .refl) (.askEntries rfl .refl)
    · exact .set rfl rfl .refl)

theorem Within.makeKek (hk : covers (parts [.free, .ent, .grp]) k = true) (h : Within k s t) : Within k s t.makeKek := h.into hk <| by
  unfold State.makeKek
  exact .ite .refl (by
    split
    · next t' b he => exact .set rfl rfl (.drawFrom rfl .refl he)
    · exact .set rfl rfl (.drawn rfl .refl))

theorem Within.tryCommit (hk : covers everything k = true) (h : Within k s t) : Within k s t.tryCommit := h.into hk <| by
  unfold State.tryCommit
  exact .ite (.commitTo rfl .refl) .refl

theorem Within.becomeSequencer (hk : covers everything k = true) (h : Within k s t) : Within k s t.becomeSequencer := h.into hk <| by
  unfold State.becomeSequencer
  extract_lets t'
  have ht' : Within everything t t' := .makeKek rfl (.setSequencer rfl (.wr rfl .refl))
  exact .tryCommit rfl (.reviewQuorum rfl (.appendEntry rfl (.set rfl rfl ht')))

theorem Within.countGrants (hk : covers everything k = true) (h : Within k s t) : Within k s t.countGrants := h.into hk <| by
  unfold State.countGrants
  exact .ite (.becomeSequencer rfl .refl) .refl

theorem Within.claimTerm (hk : covers everything k = true) (h : Within k s t) : Within k s t.claimTerm := h.into hk <| by
  unfold State.claimTerm
  extract_lets _ _ t₂
  have ht₂ : Within everything t t₂ := .setSequencer rfl (.wr rfl (.wr rfl (.ite (.endUncommitted rfl .refl) .refl)))
  exact .countGrants rfl (.reviewQuorum rfl (.foldl (.set rfl rfl ht₂) (fun _ _ h => (.post rfl h))))

theorem Within.sendBeats (hk : covers (parts [.tx, .grp]) k = true) (h : Within k s t) : Within k s t.sendBeats := h.into hk <| by
  unfold State.sendBeats
  extract_lets t'
  have ht' : Within (parts [.tx, .grp]) t t' := .foldl .refl (fun _ _ h => (.post rfl h))
  exact .ite (.set rfl rfl ht') ht'

theorem Within.renewLinks (hk : covers (parts [.free, .tx, .grp]) k = true) (h : Within k s t) : Within k s t.renewLinks := h.into hk <| by
  unfold State.renewLinks
  exact .foldl .refl (fun _ _ h => (.ite (.sendHello rfl h) h))

theorem Out.Within.execHeartbeatInstant (hk : covers everything k = true) (h : Machine.Within k s t) : Out.Within k s
    (Machine.execHeartbeatInstant t) := .into h hk <| by
  unfold Machine.execHeartbeatInstant
  extract_lets _ _ _ t₂
  have ht₂ : Machine.Within everything t t₂ := .fetchBehind rfl (.reviewQuorum rfl (.set rfl rfl .refl))
  exact .ite (.next .refl) (.next (.sendBeats rfl (.renewLinks rfl (.ite (.claimTerm rfl ht₂) ht₂))))

theorem Out.Within.execClaim {h' : Sys2Proof.PeerHdr} {term claimant lastTerm lastIndex : Nat} (hk : covers (ending ||| parts [.grp]) k = true)
    (h : Machine.Within k s t) : Out.Within k s (Machine.execClaim h' term claimant lastTerm lastIndex t) := .into h hk <| by
  unfold Machine.execClaim
  exact .onLink rfl .refl (fun _ h => .ite (by
    extract_lets t'
    have ht' : Machine.Within (ending ||| parts [.grp]) t t' := .setSequencer rfl (.adoptTerm rfl h)
    exact .reviewQuorum rfl (.post rfl (.set rfl rfl ht'))) (.post rfl h))

theorem Out.Within.execGrant {h' : Sys2Proof.PeerHdr} {term : Nat} {granted : Bool} {lastTerm lastIndex : Nat} (hk : covers everything k = true)
    (h : Machine.Within k s t) : Out.Within k s (Machine.execGrant h' term granted lastTerm lastIndex t) := .into h hk <| by
  unfold Machine.execGrant
  exact .onLink rfl .refl (fun _ h => .ite h (.ite (.countGrants rfl (.set rfl rfl (.setLink rfl h))) (.ite (.fetchBehind rfl (.set rfl rfl
      (.setLink rfl h))) (.setLink rfl h))))

theorem Within.discardFrom {i : Nat} (hk : covers (parts [.dict, .dtx, .grp]) k = true) (h : Within k s t) : Within k s (t.discardFrom i) := h.into hk <| by
  unfold State.discardFrom
  exact .ite .refl (.groupEvent rfl (.inc rfl (.set rfl rfl .refl)))

theorem Within.mergeEntry {e : Sys2Proof.GEntry} (hk : covers (parts [.dict, .dtx, .grp]) k = true) (h : Within k s t) : Within k s
    (t.mergeEntry e) := h.into hk <| by
  unfold State.mergeEntry
  exact .ite .refl (by
    extract_lets t'
    have ht' : Within (parts [.dict, .dtx, .grp]) t t' := .discardFrom rfl .refl
    exact .ite (.set rfl rfl ht') ht')

theorem Within.mergeEntries {es : List Sys2Proof.GEntry} (hk : covers (parts [.dict, .dtx, .grp]) k = true) (h : Within k s t) : Within k s
    (t.mergeEntries es) := h.into hk <| by
  unfold State.mergeEntries
  exact .foldl .refl (fun _ _ h => (.mergeEntry rfl h))

theorem Within.acknowledge {dst top : Nat} (hk : covers (parts [.tx, .grp]) k = true) (h : Within k s t) : Within k s (t.acknowledge dst top) := h.into hk <| by
  unfold State.acknowledge
  exact .post rfl .refl

theorem Out.Within.execAppend {h' : Sys2Proof.PeerHdr} {term prevTerm prevIndex commit : Nat} {entries : List Sys2Proof.GEntry}
    (hk : covers everything k = true) (h : Machine.Within k s t) : Out.Within k s (Machine.execAppend h' term prevTerm prevIndex commit entries t) :=
        .into h hk <| by
  unfold Machine.execAppend
  exact .onLink rfl .refl (fun _ h => .ite (.post rfl h) (by
    extract_lets t' t₂ t₃
    have ht' : Machine.Within everything t t' := .setSequencer rfl (.adoptTerm rfl h)
    have ht₂ : Machine.Within everything t t₂ := .ite (.standDown rfl ht') ht'
    have ht₃ : Machine.Within everything t t₃ := .mergeEntries rfl ht₂
    exact .ite (.acknowledge rfl (.commitTo rfl ht₃)) (.askEntries rfl (.post rfl ht₂))))

theorem Out.Within.execAck {h' : Sys2Proof.PeerHdr} {term lastTerm lastIndex : Nat} {success : Bool} (hk : covers everything k = true)
    (h : Machine.Within k s t) : Out.Within k s (Machine.execAck h' term lastTerm lastIndex success t) := .into h hk <| by
  unfold Machine.execAck
  exact .onLink rfl .refl (fun _ h => .ite h (.tryCommit rfl (.setLink rfl h)))

theorem Out.Within.execForward {h' : Sys2Proof.PeerHdr} {w : Sys2Proof.GWrite} (hk : covers everything k = true) (h : Machine.Within k s t) :
    Out.Within k s (Machine.execForward h' w t) := .into h hk <| by
  unfold Machine.execForward
  exact .onLink rfl .refl (fun _ h => .ite (.post rfl h) (.ite (.post rfl h) (.tryCommit rfl (.post rfl (.set rfl rfl (.appendEntry rfl h))))))

theorem Within.placed {w : OwnWrite} {term index : Nat} (hk : covers (ending ||| parts [.grp]) k = true) (h : Within k s t) : Within k s
    (t.placed w term index) := h.into hk <| by
  unfold State.placed
  exact .ite (.endWrite rfl (.set rfl rfl .refl)) (.set rfl rfl .refl)

theorem Out.Within.execResult {h' : Sys2Proof.PeerHdr} {tag term index status : Nat} (hk : covers (ending ||| parts [.grp]) k = true)
    (h : Machine.Within k s t) : Out.Within k s (Machine.execResult h' tag term index status t) := .into h hk <| by
  unfold Machine.execResult
  exact .onLink rfl .refl (fun _ h => by
    split
    · exact h
    · exact .ite (.placed rfl h) (.endWrite rfl h))

theorem Within.postEntries {dst : Nat} {es : List Sys2Proof.GEntry} (hk : covers (parts [.tx, .grp]) k = true) (h : Within k s t) : Within k s
    (t.postEntries dst es) := h.into hk <| by
  unfold State.postEntries
  exact .foldl .refl (fun _ _ h => (.post rfl h))

theorem Within.postSnapshot {dst : Nat} {g : Sys2Proof.GSnapshot} (hk : covers (parts [.tx, .grp]) k = true) (h : Within k s t) : Within k s
    (t.postSnapshot dst g) := h.into hk <| by
  unfold State.postSnapshot
  exact .foldl .refl (fun _ _ h => (.post rfl h))

theorem Out.Within.execPeerFetch {h' : Sys2Proof.PeerHdr} {index : Nat} (hk : covers (ending ||| parts [.grp]) k = true) (h : Machine.Within k s t) :
    Out.Within k s (Machine.execPeerFetch h' index t) := .into h hk <| by
  unfold Machine.execPeerFetch
  exact .onLink rfl .refl (fun _ h => .ite (.postEntries rfl (.postSnapshot rfl h)) (.postEntries rfl h))

theorem Map.wf_foldl_put {α β : Type} (f : β → Nat × α) (l : List β) (m : Map α) (h : Map.wf m = true) : Map.wf
    (l.foldl (fun m p => Map.put m (f p).1 (f p).2) m) = true := by
  induction l generalizing m with
  | nil => exact h
  | cons p l ih => exact ih _ (Map.wf_put _ _ _ h)

theorem Within.takeSnapshot {g : GSnapshot} (hk : covers (parts [.dict, .keys, .grp]) k = true) (h : Within k s t) : Within k s
    (t.takeSnapshot g) := h.into hk <| by
  unfold State.takeSnapshot
  refine .ite .refl (.wr rfl (.wr rfl (.wr rfl (.setGrp rfl (.foldl (.setKeys rfl .refl id fun hw => ?_) fun _ _ h => .writePlace rfl h)))))
  exact Map.wf_foldl_put (fun p : KeyRec × Nat × Nat × Nat => (recKey p.1.handle, p.1)) _ _ (Map.wf_filter _ _ hw)

theorem Within.takePart {g : Sys2Proof.GSnapshot} (hk : covers (parts [.dict, .keys, .grp]) k = true) (h : Within k s t) : Within k s
    (t.takePart g) := h.into hk <| by
  unfold State.takePart
  exact .ite (.takeSnapshot rfl .refl) (.ite (.set rfl rfl .refl) (.takeSnapshot rfl (.set rfl rfl .refl)))

theorem Out.Within.execEntries {h' : Sys2Proof.PeerHdr} {entries : List Sys2Proof.GEntry} {snapshot : Option Sys2Proof.GSnapshot}
    (hk : covers everything k = true) (h : Machine.Within k s t) : Out.Within k s (Machine.execEntries h' entries snapshot t) := .into h hk <| by
  unfold Machine.execEntries
  exact .onLink rfl .refl (fun _ h => by
    extract_lets t' _ _ t₂
    have ht' : Machine.Within everything t t' := by
      dsimp only [t']
      split
      · exact .takePart rfl h
      · exact h
    have ht₂ : Machine.Within everything t t₂ := .set rfl rfl (.mergeEntries rfl ht')
    exact .ite (.acknowledge rfl (.caughtUp rfl (.commitTo rfl ht₂))) (.commitTo rfl ht₂))

theorem Out.Within.execReadIndex {h' : Sys2Proof.PeerHdr} {tag : Nat} (hk : covers (ending ||| parts [.grp]) k = true) (h : Machine.Within k s t) :
    Out.Within k s (Machine.execReadIndex h' tag t) := .into h hk <| by
  unfold Machine.execReadIndex
  exact .onLink rfl .refl (fun _ h => .ite (.post rfl h) h)

theorem Out.Within.execReadReply {h' : Sys2Proof.PeerHdr} {tag commit : Nat} (hk : covers (ending ||| parts [.grp]) k = true) (h : Machine.Within k s t) :
    Out.Within k s (Machine.execReadReply h' tag commit t) := .into h hk <| by
  unfold Machine.execReadReply
  exact .onLink rfl .refl (fun _ h => .set rfl rfl h)

theorem Out.Within.execStepDownTimeout (hk : covers (ending ||| parts [.grp]) k = true) (h : Machine.Within k s t) : Out.Within k s
    (Machine.execStepDownTimeout t) := .into h hk <| by
  unfold Machine.execStepDownTimeout
  exact .when .refl (.endUncommitted rfl (.set rfl rfl .refl))

theorem Out.Within.execWriteTimeout {tag : Nat} (hk : covers (ending ||| parts [.grp]) k = true) (h : Machine.Within k s t) : Out.Within k s
    (Machine.execWriteTimeout tag t) := .into h hk <| by
  unfold Machine.execWriteTimeout
  split
  · exact .next .refl
  · exact .when .refl (.endWrite rfl .refl)

theorem Out.Within.execGroupBufferDrain (hk : covers everything k = true) (h : Machine.Within k s t) : Out.Within k s
    (Machine.execGroupBufferDrain t) := .into h hk <| by
  unfold Machine.execGroupBufferDrain
  exact .ite (.next .refl) (.ite (.next (.set rfl rfl .refl)) (.ite (.next (.tryCommit rfl (.set rfl rfl .refl))) (.ite (.next (.set rfl rfl .refl))
      (.next (.acknowledge rfl (.set rfl rfl
      .refl))))))

theorem Within.select {ir dr : Nat} (hk : covers (parts [.lc]) k = true) (h : Within k s t) : Within k s (t.select ir dr) := h.into hk <| by
  unfold State.select
  exact .set rfl rfl .refl

theorem Within.leaveExtest (hk : covers everything k = true) (h : Within k s t) : Within k s t.leaveExtest := h.into hk <| by
  unfold State.leaveExtest
  exact .ite (.warmReset rfl (.select rfl (.set rfl rfl .refl))) .refl

theorem Out.Within.tap {allowed : State → Bool} {f : State → Out} (hk : covers everything k = true) (h : Machine.Within k s t)
    (hf : ∀ u, Machine.Within k s u → Out.Within k s (f u)) : Out.Within k s (t.tap allowed f) := by
  unfold State.tap
  exact .ite (.next h) (.ite (.next (.select (covers_trans rfl hk) (.leaveExtest hk h))) (hf _ (.leaveExtest hk h)))

theorem Out.Within.execIdcode (hk : covers everything k = true) (h : Machine.Within k s t) : Out.Within k s (Machine.execIdcode t) := .into h hk <| by
  unfold Machine.execIdcode
  exact .tap rfl .refl (fun _ h => .next (.select rfl h))

theorem Out.Within.execSamplePreload (hk : covers everything k = true) (h : Machine.Within k s t) : Out.Within k s
    (Machine.execSamplePreload t) := .into h hk <| by
  unfold Machine.execSamplePreload
  exact .tap rfl .refl (fun _ h => .next (.select rfl (.drawn rfl h)))

end Machine
end Sys2Proof
end

section
/-! What the test port, the life cycle and the tamper controller reach. -/

namespace Sys2Proof
namespace Machine

variable {k : Parts} {s t : State}

theorem Out.Within.execExtest (hk : covers everything k = true) (h : Machine.Within k s t) : Out.Within k s (Machine.execExtest t) := .into h hk <| by
  unfold Machine.execExtest
  exact .ite (.next .refl) <| .ite (.next (.select rfl (.leaveExtest rfl .refl))) <|
    .next (.select rfl (.drawn rfl (.setLc rfl (.assertLines rfl (.gateAll rfl .refl)) (by dsimp only))))

theorem Out.Within.execExtestExit (hk : covers everything k = true) (h : Machine.Within k s t) : Out.Within k s (Machine.execExtestExit t) := .into h hk <| by
  unfold Machine.execExtestExit
  exact .when .refl (.leaveExtest rfl .refl)

theorem Out.Within.execLcStatus (hk : covers everything k = true) (h : Machine.Within k s t) : Out.Within k s (Machine.execLcStatus t) := .into h hk <| by
  unfold Machine.execLcStatus
  exact .tap rfl .refl (fun _ h => .next (.select rfl h))

theorem Within.lcRefused {r : Nat} (hk : covers (parts [.lc]) k = true) (h : Within k s t) : Within k s (t.lcRefused r) := h.into hk <| by
  unfold State.lcRefused
  exact .set rfl rfl .refl

theorem Within.lcCmd {code : Nat} {spare : BitVec 8} {token : BitVec 128} (hk : covers (parts [.dict, .dtx, .lc]) k = true) (h : Within k s t) : Within k s
    (t.lcCmd code spare token) := h.into hk <| by
  unfold State.lcCmd
  exact .ite (.lcRefused rfl .refl) (.ite (.lcRefused rfl .refl) (by
    split
    · exact .lcRefused rfl .refl
    · exact .ite (.lcRefused rfl .refl) (.ite (.lcRefused rfl (.failToken rfl .refl)) (.ite (.lcRefused rfl .refl) (.ite (.lcRefused rfl .refl)
        (.startFuse rfl .refl))))))

theorem Out.Within.tapCmd {code : Nat} {spare : BitVec 8} {token : BitVec 128} (hk : covers everything k = true) (h : Machine.Within k s t) :
    Out.Within k s (t.tapCmd code spare token) := .into h hk <| by
  unfold State.tapCmd
  exact .tap rfl .refl (fun _ h => .ite (.next (.lcCmd rfl (.select rfl h))) (.next (.select rfl h)))

theorem Out.Within.execLcCmdOpen {spare : BitVec 8} {token : BitVec 128} (hk : covers everything k = true) (h : Machine.Within k s t) : Out.Within k s
    (Machine.execLcCmdOpen spare token t) := .into h hk <| by
  unfold Machine.execLcCmdOpen
  exact .tapCmd rfl .refl

theorem Out.Within.execLcCmdLock {spare : BitVec 8} {token : BitVec 128} (hk : covers everything k = true) (h : Machine.Within k s t) : Out.Within k s
    (Machine.execLcCmdLock spare token t) := .into h hk <| by
  unfold Machine.execLcCmdLock
  exact .tapCmd rfl .refl

theorem Out.Within.execLcCmdUnlock {spare : BitVec 8} {token : BitVec 128} (hk : covers everything k = true) (h : Machine.Within k s t) :
    Out.Within k s (Machine.execLcCmdUnlock spare token t) := .into h hk <| by
  unfold Machine.execLcCmdUnlock
  exact .tapCmd rfl .refl

theorem Out.Within.execLcCmdPersonalize {spare : BitVec 8} {token : BitVec 128} (hk : covers everything k = true) (h : Machine.Within k s t) :
    Out.Within k s (Machine.execLcCmdPersonalize spare token t) := .into h hk <| by
  unfold Machine.execLcCmdPersonalize
  exact .tapCmd rfl .refl

theorem Out.Within.execLcCmdRma {spare : BitVec 8} {token : BitVec 128} (hk : covers everything k = true) (h : Machine.Within k s t) : Out.Within k s
    (Machine.execLcCmdRma spare token t) := .into h hk <| by
  unfold Machine.execLcCmdRma
  exact .tapCmd rfl .refl

theorem Out.Within.execLcCmdTerminal {spare : BitVec 8} {token : BitVec 128} (hk : covers everything k = true) (h : Machine.Within k s t) :
    Out.Within k s (Machine.execLcCmdTerminal spare token t) := .into h hk <| by
  unfold Machine.execLcCmdTerminal
  exact .tapCmd rfl .refl

theorem Out.Within.transition {j : Sys2Proof.JobRef} {op : Nat} {value : Sys2Proof.Bytes} (hk : covers everything k = true)
    (h : Machine.Within k s t) : Out.Within k s (t.transition j op value) := .into h hk <| by
  unfold State.transition
  exact .named rfl .refl

theorem Out.Within.execTransitionRelease {j : Sys2Proof.JobRef} {value : Sys2Proof.Bytes} (hk : covers everything k = true)
    (h : Machine.Within k s t) : Out.Within k s (Machine.execTransitionRelease j value t) := .into h hk <| by
  unfold Machine.execTransitionRelease
  exact .transition rfl .refl

theorem Out.Within.execTransitionReturn {j : Sys2Proof.JobRef} {value : Sys2Proof.Bytes} (hk : covers everything k = true)
    (h : Machine.Within k s t) : Out.Within k s (Machine.execTransitionReturn j value t) := .into h hk <| by
  unfold Machine.execTransitionReturn
  exact .transition rfl .refl

theorem Out.Within.execTransitionTerminal {j : Sys2Proof.JobRef} {value : Sys2Proof.Bytes} (hk : covers everything k = true)
    (h : Machine.Within k s t) : Out.Within k s (Machine.execTransitionTerminal j value t) := .into h hk <| by
  unfold Machine.execTransitionTerminal
  exact .transition rfl .refl

theorem Out.Within.execTransitionFieldSeal {j : Sys2Proof.JobRef} {value : Sys2Proof.Bytes} (hk : covers everything k = true)
    (h : Machine.Within k s t) : Out.Within k s (Machine.execTransitionFieldSeal j value t) := .into h hk <| by
  unfold Machine.execTransitionFieldSeal
  exact .transition rfl .refl

/-- Filling one segment with ones carries into no other. -/
theorem segOf_fill {w seg i : Nat} (hi : i ≠ seg) : segOf (w + (0xFFFF - segOf w seg) * 2 ^ (16 * seg)) i = segOf w i := by
  unfold segOf
  generalize hc : 0xFFFF - w / 2 ^ (16 * seg) % 65536 = c
  rcases Nat.lt_or_gt_of_ne hi with hlt | hgt
  · have hp : 2 ^ (16 * seg) = 2 ^ (16 * i) * (65536 * 2 ^ (16 * (seg - i - 1))) := by
      rw [show 65536 = 2 ^ 16 from rfl, ← Nat.pow_add, ← Nat.pow_add]
      congr 1
      omega
    rw [hp, Nat.mul_left_comm, Nat.add_mul_div_left _ _ (by positivity), Nat.mul_left_comm, Nat.add_mul_mod_self_left]
  · have hp : 2 ^ (16 * i) = 2 ^ (16 * seg) * 65536 * 2 ^ (16 * (i - seg - 1)) := by
      rw [show 65536 = 2 ^ 16 from rfl, ← Nat.pow_add, ← Nat.pow_add]
      congr 1
      omega
    have hq : (w / 2 ^ (16 * seg) + c) / 65536 = w / 2 ^ (16 * seg) / 65536 := by omega
    rw [hp, ← Nat.div_div_eq_div_mul, ← Nat.div_div_eq_div_mul, Nat.add_mul_div_right _ _ (by positivity), hq, ← Nat.div_div_eq_div_mul,
      ← Nat.div_div_eq_div_mul]

theorem Within.burn {seg : Nat} (hk : covers (parts [.lc]) k = true) (h : Within k s t) : Within k s (t.burn seg) := h.into hk <| by
  unfold State.burn
  split
  · exact .refl
  · next hseg =>
    refine .update rfl .refl { Kept.Stays.refl t.kept with fuses := fun i _ hi => ?_ }
    have hne : i ≠ seg := fun e => hseg (e ▸ hi)
    exact (congrArg (· == 0xFFFF) (segOf_fill hne)).trans hi

theorem Within.programmed {code : Nat} (hk : covers (parts [.free, .dict, .ent, .lc]) k = true) (h : Within k s t) : Within k s
    (t.programmed code) := h.into hk <| by
  unfold State.programmed
  extract_lets _ _ _ t' t₂
  have ht' : Within (parts [.free, .dict, .ent, .lc]) t t' := .ite (.set rfl rfl (.takeBlock rfl .refl)) .refl
  have ht₂ : Within (parts [.free, .dict, .ent, .lc]) t t₂ := .ite (.wr rfl (.wr rfl ht')) (.burn rfl ht')
  exact .set rfl rfl ht₂

theorem Within.forgetGroup (hk : covers (parts [.grp]) k = true) (h : Within k s t) : Within k s t.forgetGroup := h.into hk <| by
  unfold State.forgetGroup
  exact .set rfl rfl .refl

theorem Within.forgetKernels (hk : covers (parts [.kern]) k = true) (h : Within k s t) : Within k s t.forgetKernels := h.into hk <| by
  unfold State.forgetKernels
  exact .update rfl .refl (.ofBound (fun _ => rfl))

theorem Within.defaults {keep : Nat → Bool} (hk : covers (parts [.dict, .dtx]) k = true) (h : Within k s t) : Within k s (t.defaults keep) := h.into hk <| by
  unfold State.defaults
  exact .update rfl .refl (.ofDict (Map.wf_filter _ _))

theorem Within.forgetKeys (hk : covers (parts [.keys]) k = true) (h : Within k s t) : Within k s t.forgetKeys := h.into hk <| by
  unfold State.forgetKeys
  exact .update rfl .refl (.ofRecs (fun _ => rfl))

theorem Within.clearBbram (hk : covers (parts [.dict, .keys, .trav, .grp, .lc, .tamp]) k = true) (h : Within k s t) : Within k s t.clearBbram := h.into hk <| by
  unfold State.clearBbram
  exact .update rfl .refl (.ofDict (Map.wf_filter _ _))

theorem Within.personalized (hk : covers (parts [.dict, .dtx, .kern, .keys, .trav, .grp, .lc, .tamp]) k = true)
    (h : Within k s t) : Within k s t.personalized := h.into hk <| by
  unfold State.personalized
  extract_lets t'
  have ht' : Within (parts [.dict, .dtx, .kern, .keys, .trav, .grp, .lc, .tamp]) t t' := .forgetGroup rfl (.forgetKernels rfl (.defaults rfl
      (.forgetKeys rfl (.clearBbram rfl .refl))))
  exact .set rfl rfl ht'

theorem Within.closeEnrol {slot : Nat} (hk : covers (parts [.dict, .dtx, .tx, .waits, .chans, .jobs, .units, .clus]) k = true) (h : Within k s t) : Within k s
    (t.closeEnrol slot) := h.into hk <| by
  unfold State.closeEnrol
  split
  · split
    · exact .ite (.finish rfl .refl) (.update rfl (.finish rfl .refl) (.ofChans (Map.wf_update _ _ _)))
    · exact .refl
  · exact .refl

theorem Within.owned (hk : covers (parts [.dict, .dtx, .tx, .waits, .chans, .jobs, .units, .clus]) k = true)
    (h : Within k s t) : Within k s t.owned := h.into hk <| by
  unfold State.owned
  exact .foldl (.wr rfl .refl) (fun _ _ h => (.closeEnrol rfl h))

theorem Within.lcEffects {code : Nat} (hk : covers (ending ||| parts [.kern, .trav, .grp, .lc, .tamp]) k = true) (h : Within k s t) : Within k s
    (t.lcEffects code) := h.into hk <| by
  unfold State.lcEffects
  split
  · exact .set rfl rfl .refl
  · exact .set rfl rfl .refl
  · exact .set rfl rfl .refl
  · exact .personalized rfl .refl
  · exact .owned rfl .refl
  · exact .forgetGroup rfl (.forgetKernels rfl (.defaults rfl (.forgetKeys rfl .refl)))
  · exact .forgetGroup rfl (.forgetKernels rfl (.defaults rfl (.forgetKeys rfl .refl)))
  · exact .forgetGroup rfl (.forgetKernels rfl (.defaults rfl (.forgetKeys rfl .refl)))
  · exact .forgetGroup rfl (.forgetKernels rfl (.defaults rfl (.forgetKeys rfl .refl)))
  · exact .forgetGroup rfl (.forgetKernels rfl (.defaults rfl (.forgetKeys rfl .refl)))
  · exact .refl

theorem Within.resolveRecord {r : Nat × Nat × Nat × Nat} (hk : covers (ending ||| parts [.rwork, .kern, .trav, .grp, .lc, .tamp]) k = true)
    (h : Within k s t) : Within k s (t.resolveRecord r) := h.into hk <| by
  unfold State.resolveRecord
  refine .setLc rfl (.record rfl (.lcEffects rfl .refl)) ?_
  have hr : (State.record (t.lcEffects r.1) 6 2 r.2.1 r.2.2.1 1 r.2.2.2).lc = (t.lcEffects r.1).lc :=
    (Within.record (k := parts [.dict, .dtx, .rwork, .trav]) rfl .refl).same .lc rfl
  rw [hr]

theorem Out.Within.execFuseProgramDone (hk : covers everything k = true) (h : Machine.Within k s t) : Out.Within k s
    (Machine.execFuseProgramDone t) := .into h hk <| by
  unfold Machine.execFuseProgramDone
  split
  · extract_lets t' t₂
    have ht' : Machine.Within everything t t' := .programmed rfl .refl
    have ht₂ : Machine.Within everything t t₂ := .event rfl (.resolveRecord rfl ht')
    exact .ite (.next .refl) (.ite (.next ht') (.next (.ite (.warmReset rfl (.set rfl rfl ht₂)) (.set rfl rfl ht₂))))
  · exact .next (.programmed rfl .refl)
  · exact .next .refl

theorem Out.Within.execDebugChallenge (hk : covers everything k = true) (h : Machine.Within k s t) : Out.Within k s
    (Machine.execDebugChallenge t) := .into h hk <| by
  unfold Machine.execDebugChallenge
  exact .tap rfl .refl (fun _ h => .ite (.next (.lcRefused rfl (.select rfl h))) (by
    split
    · exact .next (.askSeed rfl h)
    · next t' nonce he => exact .next (.select rfl (.set rfl rfl (.drawFrom rfl h he)))))

theorem Out.Within.execDebugChallengeExpiry (hk : covers (parts [.lc]) k = true) (h : Machine.Within k s t) : Out.Within k s
    (Machine.execDebugChallengeExpiry t) := .into h hk <| by
  unfold Machine.execDebugChallengeExpiry
  split
  · exact .when .refl (.set rfl rfl .refl)
  · exact .next .refl

theorem Within.chargeVerify (hk : covers (parts [.tenants]) k = true) (h : Within k s t) : Within k s t.chargeVerify := h.into hk <| by
  unfold State.chargeVerify
  exact .setTen rfl .refl

theorem Out.Within.execDebugResponse {digest : Nat} {pk sig : Sys2Proof.Bytes} (hk : covers everything k = true) (h : Machine.Within k s t) :
    Out.Within k s (Machine.execDebugResponse digest pk sig t) := .into h hk <| by
  unfold Machine.execDebugResponse
  exact .tap rfl .refl (fun _ h => by
    extract_lets t'
    have ht' : Machine.Within everything t t' := .select rfl (.chargeVerify rfl h)
    exact .ite (.next (.lcRefused rfl (.select rfl h))) (.ite (.next (.lcRefused rfl (.select rfl h))) (.ite (.next (.lcRefused rfl
        (.failToken rfl ht'))) (.next (.checkpoint rfl
        (.record rfl (.set rfl rfl ht')))))))

theorem Within.zeroKeys (hk : covers (parts [.keys]) k = true) (h : Within k s t) : Within k s t.zeroKeys := h.into hk <| by
  unfold State.zeroKeys
  extract_lets t'
  have ht' : Within (parts [.keys]) t t' := .zeroVolatile rfl .refl
  exact .set rfl rfl ht'

theorem Within.openDebug (hk : covers (parts [.dict, .dtx, .ports, .keys, .lc]) k = true) (h : Within k s t) : Within k s t.openDebug := h.into hk <| by
  unfold State.openDebug
  extract_lets t' _ _ _ t₃
  have ht' : Within (parts [.dict, .dtx, .ports, .keys, .lc]) t t' := .zeroKeys rfl .refl
  have ht₃ : Within (parts [.dict, .dtx, .ports, .keys, .lc]) t t₃ := .event rfl (.wr rfl (.set rfl rfl ht'))
  exact .set rfl rfl ht₃

theorem Out.Within.execDebugOpenComplete (hk : covers (ending ||| parts [.ports, .lc]) k = true) (h : Machine.Within k s t) : Out.Within k s
    (Machine.execDebugOpenComplete t) := .into h hk <| by
  unfold Machine.execDebugOpenComplete
  split
  · exact .next .refl
  · exact .ite (.next .refl) (by
      extract_lets t'
      have ht' : Machine.Within (ending ||| parts [.ports, .lc]) t t' := .ite .refl (.foldl .refl (fun _ _ h => (.resetTenant rfl h)))
      exact .next (.ite (.set rfl rfl ht') (.openDebug rfl (.set rfl rfl ht'))))

theorem Within.tapResult {b : Sys2Proof.Bytes} (hk : covers (parts [.lc]) k = true) (h : Within k s t) : Within k s (t.tapResult b) := h.into hk <| by
  unfold State.tapResult
  exact .set rfl rfl .refl

theorem Within.tapRefuse {e : Refused} (hk : covers (parts [.lc]) k = true) (h : Within k s t) : Within k s (t.tapRefuse e) := h.into hk <| by
  unfold State.tapRefuse
  exact .tapResult rfl .refl

theorem Out.Within.execDictTxn {payload : Sys2Proof.Bytes} (hk : covers everything k = true) (h : Machine.Within k s t) : Out.Within k s
    (Machine.execDictTxn payload t) := .into h hk <| by
  unfold Machine.execDictTxn
  exact .tap rfl .refl (fun _ h => .ite (.next h) (by
    split
    · exact .next (.tapRefuse rfl (.select rfl h))
    · split
      · exact .next (.tapRefuse rfl (.select rfl h))
      · split
        · exact .next (.tapRefuse rfl (.select rfl h))
        · exact .next (.beginTxn rfl (.select rfl h))))

theorem Out.Within.execDictRead {payload : Sys2Proof.Bytes} (hk : covers everything k = true) (h : Machine.Within k s t) : Out.Within k s
    (Machine.execDictRead payload t) := .into h hk <| by
  unfold Machine.execDictRead
  exact .tap rfl .refl (fun _ h => by
    extract_lets 
    split
    · exact .next (.tapRefuse rfl (.select rfl h))
    · split
      · exact .next (.tapRefuse rfl (.select rfl h))
      · exact .next (.readEffects rfl (.tapResult rfl (.select rfl h))))

theorem Within.memWrite {memory addr v : Nat} (hk : covers (parts [.cmem, .kern, .lc]) k = true) (h : Within k s t) : Within k s
    (t.memWrite memory addr v) := h.into hk <| by
  unfold State.memWrite
  exact .ite (.set rfl rfl .refl) (.ite (.set rfl rfl .refl) (by
    split
    · exact .setCword rfl .refl
    · exact .set rfl rfl .refl))

theorem Out.Within.execMemAccess {write : Bool} {memory addr : Nat} {word : BitVec 72} (hk : covers everything k = true) (h : Machine.Within k s t) :
    Out.Within k s (Machine.execMemAccess write memory addr word t) := .into h hk <| by
  unfold Machine.execMemAccess
  exact .tap rfl .refl (fun _ h => .ite (.next (.select rfl (.ite h (.memWrite rfl h)))) (.ite (.next (.select rfl (.drawn rfl h))) (.next (.select rfl h))))

theorem Out.Within.execBypass (hk : covers everything k = true) (h : Machine.Within k s t) : Out.Within k s (Machine.execBypass t) := .into h hk <| by
  unfold Machine.execBypass
  exact .tap rfl .refl (fun _ h => .next (.select rfl h))

theorem Within.setAsserted {src : Nat} {b : Bool} (hk : covers (parts [.dict, .tamp]) k = true) (h : Within k s t) : Within k s
    (t.setAsserted src b) := h.into hk <| by
  unfold State.setAsserted
  exact .set rfl rfl (.wr rfl .refl)

theorem Within.ringAlarm {src rank flags : Nat} (hk : covers (parts [.tamp]) k = true) (h : Within k s t) : Within k s
    (t.ringAlarm src rank flags) := h.into hk <| by
  unfold State.ringAlarm
  exact .set rfl rfl .refl

theorem Within.carryTamper {src n : Nat} (hk : covers (parts [.trav]) k = true) (h : Within k s t) : Within k s (t.carryTamper src n) := h.into hk <| by
  unfold State.carryTamper
  exact .set rfl rfl .refl

theorem Within.tamperRecord {src rank : Nat} (hk : covers (parts [.dict, .dtx, .rwork, .trav]) k = true) (h : Within k s t) : Within k s
    (t.tamperRecord src rank) := h.into hk <| by
  unfold State.tamperRecord
  extract_lets _ _ _ t'
  have ht' : Within (parts [.dict, .dtx, .rwork, .trav]) t t' := .carryTamper rfl (.set rfl rfl .refl)
  exact .ite (.carryTamper rfl .refl) (.ite (.set rfl rfl ht') (.record rfl ht'))

theorem Within.logAlarm {src : Nat} {battery : Bool} (hk : covers (parts [.dict, .dtx, .tx, .chans, .rwork, .trav, .tamp, .flt]) k = true)
    (h : Within k s t) : Within k s (t.logAlarm src battery) := h.into hk <| by
  unfold State.logAlarm
  extract_lets _ _ t₂ t₃ t₄
  have ht₂ : Within (parts [.dict, .dtx, .tx, .chans, .rwork, .trav, .tamp, .flt]) t t₂ := .wr rfl (.event rfl .refl)
  have ht₃ : Within (parts [.dict, .dtx, .tx, .chans, .rwork, .trav, .tamp, .flt]) t t₃ := .ite (.ringAlarm rfl ht₂) ht₂
  have ht₄ : Within (parts [.dict, .dtx, .tx, .chans, .rwork, .trav, .tamp, .flt]) t t₄ := .tamperRecord rfl (.logRow rfl ht₃)
  exact .ite ht₃ (.ite (.notify rfl ht₄) ht₄)

theorem Within.abortSecrets (hk : covers ending k = true) (h : Within k s t) : Within k s t.abortSecrets := h.into hk <| by
  unfold State.abortSecrets
  exact .foldl .refl (fun _ _ h => (.cutJob rfl h))

theorem Within.tamperEvent {rank : Nat} (hk : covers (parts [.dict, .dtx]) k = true) (h : Within k s t) : Within k s (t.tamperEvent rank) := h.into hk <| by
  unfold State.tamperEvent
  exact .ite .refl (.event rfl .refl)

theorem Within.enterQuiesce (hk : covers (parts [.dict, .dtx, .rwork, .trav, .tamp]) k = true) (h : Within k s t) : Within k s t.enterQuiesce := h.into hk <| by
  unfold State.enterQuiesce
  exact .foldl (.set rfl rfl .refl) (fun _ _ h => (.closeWindow rfl h))

theorem Within.zeroEntropy (hk : covers (parts [.dict, .ent]) k = true) (h : Within k s t) : Within k s t.zeroEntropy := h.into hk <| by
  unfold State.zeroEntropy
  exact .set rfl rfl (.wr rfl .refl)

theorem Within.loseKeys (hk : covers (parts [.dict, .dtx, .keys, .grp]) k = true) (h : Within k s t) : Within k s t.loseKeys := h.into hk <| by
  unfold State.loseKeys
  exact .event rfl (.wr rfl (.update rfl .refl (.ofRecs (Map.wf_filter _ _))))

theorem Within.zeroise {rank : Nat} (hk : covers everything k = true) (h : Within k s t) : Within k s (t.zeroise rank) := h.into hk <| by
  unfold State.zeroise
  have hw {c : Prop} [Decidable c] {u : State} (h : Within everything t u) : Within everything t (if c then u.loseKeys else u) :=
    .ite (.loseKeys rfl h) h
  exact hw (.ite (.update rfl (.zeroEntropy rfl (.zeroKeys rfl .refl)) { Kept.Stays.refl _ with cmem := fun _ => rfl, chans := fun _ => rfl }) .refl)

theorem Within.respond {src rank : Nat} (hk : covers everything k = true) (h : Within k s t) : Within k s (t.respond src rank) := h.into hk <| by
  unfold State.respond
  extract_lets t' _ t₃
  have ht' : Within everything t t' := .ite (.abortSecrets rfl .refl) .refl
  have ht₃ : Within everything t t₃ := .zeroise rfl (.tamperEvent rfl (.ite (.enterQuiesce rfl ht') ht'))
  exact .ite (.warmReset rfl (.set rfl rfl ht₃)) ht₃

theorem Within.pendRank {rank : Nat} (hk : covers (parts [.dict]) k = true) (h : Within k s t) : Within k s (t.pendRank rank) := h.into hk <| by
  unfold State.pendRank
  exact .wr rfl .refl

theorem Within.alarmResponse {src rank : Nat} (hk : covers everything k = true) (h : Within k s t) : Within k s (t.alarmResponse src rank) := h.into hk <| by
  unfold State.alarmResponse
  split
  · exact .ite (.ite (.respond rfl .refl) (.pendRank rfl (.set rfl rfl .refl))) (.respond rfl .refl)
  · extract_lets t'
    have ht' : Within everything t t' := .wr rfl (.zeroise rfl (.tamperEvent rfl .refl))
    exact .set rfl rfl ht'
  · exact .ite (.zeroise rfl (.tamperEvent rfl .refl)) (.pendRank rfl .refl)

theorem Within.alarm {src : Nat} (hk : covers everything k = true) (h : Within k s t) : Within k s (t.alarm src) := h.into hk <| by
  unfold State.alarm
  extract_lets _ t'
  have ht' : Within everything t t' := .setAsserted rfl .refl
  exact .ite ht' (.ite (.logAlarm rfl ht') (.alarmResponse rfl (.logAlarm rfl ht')))

theorem Out.Within.execTamperAlarm {src : Nat} (hk : covers everything k = true) (h : Machine.Within k s t) : Out.Within k s
    (Machine.execTamperAlarm src t) := .into h hk <| by
  unfold Machine.execTamperAlarm
  exact .when .refl (.alarm rfl .refl)

theorem Within.batteryAlarm {src : Nat} (hk : covers (parts [.dict, .dtx, .tx, .chans, .rwork, .keys, .trav, .grp, .tamp, .flt]) k = true)
    (h : Within k s t) : Within k s (t.batteryAlarm src) := h.into hk <| by
  unfold State.batteryAlarm
  extract_lets _ t'
  have ht' : Within (parts [.dict, .dtx, .tx, .chans, .rwork, .keys, .trav, .grp, .tamp, .flt]) t t' := .setAsserted rfl .refl
  exact .ite ht' (.ite (.tamperEvent rfl (.loseKeys rfl (.logAlarm rfl ht'))) (.ite (.pendRank rfl (.logAlarm rfl ht')) (.logAlarm rfl ht')))

theorem Out.Within.execBatterySample {seen : List Nat} (hk : covers (parts [.dict, .dtx, .tx, .chans, .rwork, .keys, .trav, .grp, .tamp, .flt]) k = true)
    (h : Machine.Within k s t) : Out.Within k s (Machine.execBatterySample seen t) := .into h hk <| by
  unfold Machine.execBatterySample
  exact .when .refl (.foldl .refl (fun _ _ h => (.ite h (.ite (.setAsserted rfl h) (.ite h (.batteryAlarm rfl h))))))

theorem Within.resolveEffects (hk : covers (ending ||| parts [.kern, .trav, .grp, .lc, .tamp]) k = true)
    (h : Within k s t) : Within k s t.resolveEffects := h.into hk <| by
  unfold State.resolveEffects
  split
  · exact .ite (.lcEffects rfl .refl) .refl
  · exact .refl

theorem State.wf_scannedRecords (hw : Map.wf s.keys.recs = true) : Map.wf s.scannedRecords = true := by
  unfold State.scannedRecords
  generalize s.keys.slots.filter _ = l
  have hm : Map.wf (s.keys.recs.filter fun p => decide (65536 ≤ p.1)) = true := Map.wf_filter _ _ hw
  generalize s.keys.recs.filter (fun p => decide (65536 ≤ p.1)) = m at hm
  induction l generalizing m with
  | nil => exact hm
  | cons p l ih =>
    refine ih _ ?_
    dsimp only
    split
    · split
      · exact hm
      · exact Map.wf_put _ _ _ hm
    · exact hm

theorem Within.formatKeys (hk : covers (parts [.keys]) k = true) (h : Within k s t) : Within k s t.formatKeys := h.into hk <| by
  unfold State.formatKeys
  exact .setKeys rfl (.setKeys rfl .refl id State.wf_scannedRecords) id id

theorem Within.discardPlaces (hk : covers (parts [.dict, .dtx, .keys]) k = true) (h : Within k s t) : Within k s t.discardPlaces := h.into hk <| by
  unfold State.discardPlaces
  exact .foldl .refl (fun _ _ h => (.ite h (.event rfl (.set rfl rfl h))))

theorem Within.rollForward (hk : covers (parts [.dict, .dtx, .keys]) k = true) (h : Within k s t) : Within k s t.rollForward := h.into hk <| by
  unfold State.rollForward
  exact .foldl .refl (fun _ _ h => (.foldl h (fun _ _ h => (.ite (.event rfl (.set rfl rfl h)) h))))

theorem Within.startKeys (hk : covers (parts [.dict, .dtx, .keys, .grp]) k = true) (h : Within k s t) : Within k s t.startKeys := h.into hk <| by
  unfold State.startKeys
  refine .ite (.ite .refl (.ite (.loseKeys rfl (.formatKeys rfl .refl)) (.formatKeys rfl .refl))) ?_
  refine .foldl (.setKeys rfl (.rollForward rfl ?_) id fun hw => ?_) fun _ _ h => .ite (.event rfl (.set rfl rfl h)) h
  · exact .ite (.discardPlaces rfl .refl) (.ite (.loseKeys rfl (.formatKeys rfl (.discardPlaces rfl .refl))) (.formatKeys rfl (.discardPlaces rfl .refl)))
  · dsimp only
    exact Map.wf_mapVals _ _ (State.wf_scannedRecords hw)

theorem Within.deviceFw {flags : Nat} (hk : covers (parts [.dict, .dtx, .rwork, .trav]) k = true) (h : Within k s t) : Within k s
    (t.deviceFw flags) := h.into hk <| by
  unfold State.deviceFw
  exact .record rfl .refl

theorem Within.bootEpoch (hk : covers (parts [.dict, .dtx, .rwork, .trav]) k = true) (h : Within k s t) : Within k s t.bootEpoch := h.into hk <| by
  unfold State.bootEpoch
  extract_lets 
  split
  · exact .deviceFw rfl (.event rfl (.set rfl rfl .refl))
  · exact .deviceFw rfl (.set rfl rfl .refl)

theorem Within.ringRecords (hk : covers (parts [.dict, .dtx, .rwork, .trav]) k = true) (h : Within k s t) : Within k s t.ringRecords := h.into hk <| by
  unfold State.ringRecords
  exact .foldl .refl (fun _ _ h => (.record rfl h))

theorem Within.resolveBench {pending : Option (Nat × Nat × Nat × Nat)} (hk : covers (parts [.dict, .dtx, .rwork, .trav, .lc]) k = true) (h : Within k s t) :
    Within k s (t.resolveBench pending) := h.into hk <| by
  unfold State.resolveBench
  split
  · extract_lets t'
    have ht' : Within (parts [.dict, .dtx, .rwork, .trav, .lc]) t t' := .ite (.record rfl .refl) .refl
    exact .event rfl (.set rfl rfl ht')
  · exact .refl

theorem Within.startRecords {pending : Option (Nat × Nat × Nat × Nat)} (hk : covers (parts [.dict, .dtx, .rwork, .trav, .lc]) k = true) (h : Within k s t) :
    Within k s (t.startRecords pending) := h.into hk <| by
  unfold State.startRecords
  extract_lets _ _ t'
  have ht' : Within (parts [.dict, .dtx, .rwork, .trav, .lc]) t t' := .bootEpoch rfl (.set rfl rfl .refl)
  exact .ringRecords rfl (.resolveBench rfl (.drainPending rfl (.set rfl rfl ht')))

theorem Within.recheckKernels (hk : covers (parts [.dict, .dtx, .rwork, .cmem, .kern, .trav]) k = true)
    (h : Within k s t) : Within k s t.recheckKernels := h.into hk <| by
  unfold State.recheckKernels
  exact .foldl .refl (fun _ _ h => (by
    split
    · exact .record rfl (.update rfl h (.ofBound (Map.wf_erase _ _)))
    · exact .record rfl (.placeConstants rfl (.update rfl h (.ofBound (Map.wf_put _ _ _))))))

theorem Within.loadPatch (hk : covers (parts [.dict, .dtx, .rwork, .kern, .trav]) k = true) (h : Within k s t) : Within k s t.loadPatch := h.into hk <| by
  unfold State.loadPatch
  extract_lets _ _ s' t' t₂
  have hs' : Within (parts [.dict, .dtx, .rwork, .kern, .trav]) t s' := .foldl .refl (fun _ _ h => (.record rfl h))
  have ht' : Within (parts [.dict, .dtx, .rwork, .kern, .trav]) t t' := .record rfl (.wr rfl (.wr rfl hs'))
  have ht₂ : Within (parts [.dict, .dtx, .rwork, .kern, .trav]) t t₂ := .ite (.event rfl ht') (.ite ht' (.event rfl ht'))
  split
  · extract_lets t₃ t₄
    have ht₃ : Within (parts [.dict, .dtx, .rwork, .kern, .trav]) t t₃ := .record rfl (.wr rfl (.wr rfl hs'))
    have ht₄ : Within (parts [.dict, .dtx, .rwork, .kern, .trav]) t t₄ := .ite ht₃ (.event rfl ht₃)
    exact .set rfl rfl ht₄
  · exact .set rfl rfl ht₂

theorem Within.startLaps (hk : covers (parts [.free, .dict, .dtx, .jobs, .tenants, .lap, .units, .les]) k = true)
    (h : Within k s t) : Within k s t.startLaps := h.into hk <| by
  unfold State.startLaps
  exact .setLap rfl (.shortLap rfl (.setLap rfl (.wr rfl .refl)))

theorem Within.startRest (hk : covers everything k = true) (h : Within k s t) : Within k s t.startRest := h.into hk <| by
  unfold State.startRest
  have hup {u : State} {x : Phase} {y : Tamper} (h : Within everything t u) : Within everything t { u with phase := x, tamp := y } := .set rfl rfl h
  exact .watchLines rfl (hup (.startLaps rfl (.rebalance rfl (.groupStart rfl (.recheckKernels rfl (.loadPatch rfl
    (.setKeys rfl (.startKeys rfl (.startRecords rfl (.setKeys rfl (.resolveEffects rfl .refl) id id))) id id)))))))

theorem Out.Within.execTamperHoldSample (hk : covers everything k = true) (h : Machine.Within k s t) : Out.Within k s
    (Machine.execTamperHoldSample t) := .into h hk <| by
  unfold Machine.execTamperHoldSample
  split
  · exact .when .refl (.ite (.set rfl rfl .refl) (.startRest rfl (.set rfl rfl .refl)))
  · exact .next .refl

theorem Out.Within.execResume {j : Sys2Proof.JobRef} (hk : covers everything k = true) (h : Machine.Within k s t) : Out.Within k s
    (Machine.execResume j t) := .into h hk <| by
  unfold Machine.execResume
  exact .named rfl .refl

theorem Out.Within.execAonChangeover {toBattery : Bool} (hk : covers (parts [.clk]) k = true) (h : Machine.Within k s t) : Out.Within k s
    (Machine.execAonChangeover toBattery t) := .into h hk <| by
  unfold Machine.execAonChangeover
  exact .next (.set rfl rfl .refl)

theorem Within.coast (hk : covers (parts [.dict, .dtx, .clk, .pins, .ports, .tx, .chans, .tenants]) k = true)
    (h : Within k s t) : Within k s t.coast := h.into hk <| by
  unfold State.coast
  exact .dropLinks rfl (.set rfl rfl (.wr rfl .refl))

theorem Within.refclkGone (hk : covers (parts [.dict, .dtx, .clk]) k = true) (h : Within k s t) : Within k s t.refclkGone := h.into hk <| by
  unfold State.refclkGone
  exact .wr rfl (.event rfl (.set rfl rfl .refl))

theorem Within.haltClocks (hk : covers (parts [.dict, .dtx, .clk, .pins, .ports, .tx, .chans, .tenants, .gate]) k = true) (h : Within k s t) :
    Within k s t.haltClocks := h.into hk <| by
  unfold State.haltClocks
  exact .dropLinks rfl (.assertLines rfl (.set rfl rfl (.wr rfl .refl)))

theorem Out.Within.execRefclkLost (hk : covers (parts [.dict, .dtx, .clk, .pins, .ports, .tx, .chans, .tenants, .gate]) k = true) (h : Machine.Within k s t) :
    Out.Within k s (Machine.execRefclkLost t) := .into h hk <| by
  unfold Machine.execRefclkLost
  exact .ite (.next .refl) (.ite (.next (.set rfl rfl .refl)) (.ite (.next (.coast rfl (.refclkGone rfl .refl))) (.next (.haltClocks rfl
      (.refclkGone rfl .refl)))))

theorem Within.restartWaits (hk : covers (parts [.jobs]) k = true) (h : Within k s t) : Within k s t.restartWaits := h.into hk <| by
  unfold State.restartWaits
  exact .set rfl rfl .refl

theorem Within.clockLoss (hk : covers ending k = true) (h : Within k s t) : Within k s t.clockLoss := h.into hk <| by
  unfold State.clockLoss
  exact .foldl .refl (fun _ _ h => (.cutJob rfl h))

theorem Within.closeExpired (hk : covers ending k = true) (h : Within k s t) : Within k s t.closeExpired := h.into hk <| by
  unfold State.closeExpired
  exact .foldl .refl (fun _ _ h => (.abortChannel rfl (.event rfl h)))

theorem Within.restart (hk : covers (ending ||| parts [.lap, .rwork, .flash, .gate, .trav]) k = true)
    (h : Within k s t) : Within k s t.restart := h.into hk <| by
  unfold State.restart
  exact .closeExpired rfl (.dueActivities rfl (.shortLap rfl (.gateAll rfl (.restartWaits rfl (.clockLoss rfl .refl)))))

theorem Within.flagSource {src flags : Nat} (hk : covers (parts [.dict]) k = true) (h : Within k s t) : Within k s (t.flagSource src flags) := h.into hk <| by
  unfold State.flagSource
  exact .wr rfl .refl

theorem Within.flagClockSources (hk : covers (parts [.dict, .tamp]) k = true) (h : Within k s t) : Within k s t.flagClockSources := h.into hk <| by
  unfold State.flagClockSources
  extract_lets t'
  have ht' : Within (parts [.dict, .tamp]) t t' := .foldl .refl (fun _ _ h => (.flagSource rfl h))
  exact .set rfl rfl ht'

theorem Within.clockPending {rank : Nat} (hk : covers (ending ||| parts [.rwork, .trav, .tamp]) k = true) (h : Within k s t) : Within k s
    (t.clockPending rank) := h.into hk <| by
  unfold State.clockPending
  exact .ite .refl (by
    extract_lets t'
    have ht' : Within (ending ||| parts [.rwork, .trav, .tamp]) t t' := .abortSecrets rfl (.wr rfl (.flagClockSources rfl .refl))
    exact .tamperEvent rfl (.ite (.enterQuiesce rfl ht') ht'))

theorem Within.endLoss (hk : covers everything k = true) (h : Within k s t) : Within k s t.endLoss := h.into hk <| by
  unfold State.endLoss
  extract_lets 
  split
  · exact .warmReset rfl (.set rfl rfl .refl)
  · exact .ite (.warmReset rfl (.set rfl rfl .refl)) (.ite (.restart rfl (.clockPending rfl (.set rfl rfl .refl))) (.set rfl rfl .refl))

theorem Within.refclkBack (hk : covers (parts [.dict, .clk, .pins]) k = true) (h : Within k s t) : Within k s t.refclkBack := h.into hk <| by
  unfold State.refclkBack
  exact .wr rfl (.wr rfl (.set rfl rfl .refl))

theorem Out.Within.execRefclkRestored (hk : covers everything k = true) (h : Machine.Within k s t) : Out.Within k s
    (Machine.execRefclkRestored t) := .into h hk <| by
  unfold Machine.execRefclkRestored
  exact .ite (.next .refl) (.ite (.next (.set rfl rfl .refl)) (.ite (.next (.endLoss rfl (.refclkBack rfl .refl))) (.next (.event rfl
      (.refclkBack rfl .refl)))))

theorem Out.Within.execCrystalLost (hk : covers (parts [.dict, .dtx, .clk]) k = true) (h : Machine.Within k s t) : Out.Within k s
    (Machine.execCrystalLost t) := .into h hk <| by
  unfold Machine.execCrystalLost
  exact .when .refl (.ite (.set rfl rfl .refl) (.event rfl (.event rfl (.set rfl rfl .refl))))

theorem Out.Within.execCrystalRestored (hk : covers (parts [.clk]) k = true) (h : Machine.Within k s t) : Out.Within k s
    (Machine.execCrystalRestored t) := .into h hk <| by
  unfold Machine.execCrystalRestored
  exact .when .refl (.set rfl rfl .refl)

theorem Out.Within.execGateAbort {unit : Nat} (hk : covers (parts [.dict, .dtx, .les]) k = true) (h : Machine.Within k s t) : Out.Within k s
    (Machine.execGateAbort unit t) := .into h hk <| by
  unfold Machine.execGateAbort
  exact .when .refl (.event rfl (.ite (.setLe rfl .refl) .refl))

theorem Within.clearCluster {c : Nat} (hk : covers (parts [.cmem, .clus]) k = true) (h : Within k s t) : Within k s (t.clearCluster c) := h.into hk <| by
  unfold State.clearCluster
  extract_lets t' _ t₂
  have ht' : Within (parts [.cmem, .clus]) t t' := .update rfl .refl (.ofCmem (Memory.wf_filter _ _))
  have ht₂ : Within (parts [.cmem, .clus]) t t₂ := .setCluster rfl ht'
  exact .foldl ht₂ (fun _ _ h => (.foldl h (fun _ _ h => (.setCword rfl h))))

theorem Out.Within.execClusterWake {cluster : Nat} (hk : covers (parts [.cmem, .clus]) k = true) (h : Machine.Within k s t) : Out.Within k s
    (Machine.execClusterWake cluster t) := .into h hk <| by
  unfold Machine.execClusterWake
  exact .when .refl (.clearCluster rfl .refl)

theorem Out.Within.execSscApply (hk : covers (parts [.clk]) k = true) (h : Machine.Within k s t) : Out.Within k s (Machine.execSscApply t) := .into h hk <| by
  unfold Machine.execSscApply
  exact .when .refl (.set rfl rfl .refl)

theorem Within.coldReset (hk : covers everything k = true) (h : Within k s t) : Within k s t.coldReset := h.into hk <| by
  unfold State.coldReset
  extract_lets t'
  have ht' : Within everything t t' := .beginReset rfl .refl
  exact .set rfl rfl ht'

theorem Out.Within.execColdReset (hk : covers everything k = true) (h : Machine.Within k s t) : Out.Within k s (Machine.execColdReset t) := .into h hk <| by
  unfold Machine.execColdReset
  exact .next (.coldReset rfl .refl)

theorem Within.logStill (hk : covers (parts [.dict, .dtx, .tx, .chans, .rwork, .trav, .tamp, .flt]) k = true)
    (h : Within k s t) : Within k s t.logStill := h.into hk <| by
  unfold State.logStill
  exact .foldl .refl (fun _ _ h => (.logAlarm rfl h))

theorem Within.flagPending (hk : covers (parts [.dict, .tamp]) k = true) (h : Within k s t) : Within k s t.flagPending := h.into hk <| by
  unfold State.flagPending
  exact .flagClockSources rfl (.foldl .refl (fun _ _ h => (.flagSource rfl h)))

theorem Within.applyPending (hk : covers everything k = true) (h : Within k s t) : Within k s t.applyPending := h.into hk <| by
  unfold State.applyPending
  extract_lets _ t' _ t₂
  have ht' : Within everything t t' := .wr rfl (.flagPending rfl .refl)
  have ht₂ : Within everything t t₂ := .ite (.set rfl rfl ht') ht'
  exact .ite .refl (.tamperEvent rfl (.ite (.zeroise rfl ht₂) ht₂))

theorem Within.readFuses (hk : covers everything k = true) (h : Within k s t) : Within k s t.readFuses := h.into hk <| by
  unfold State.readFuses
  extract_lets _ t'
  have ht' : Within everything t t' := by
    dsimp only [t']
    split
    · exact .ite (.programmed rfl .refl) (.ite (.set rfl rfl .refl) .refl)
    · exact .refl
  exact .ite (.alarm rfl ht') ht'

theorem Within.senseSources (hk : covers (parts [.dict]) k = true) (h : Within k s t) : Within k s t.senseSources := h.into hk <| by
  unfold State.senseSources
  exact .foldl .refl (fun _ _ h => (.wr rfl h))

end Machine
end Sys2Proof
end

section
/-! What resets, starts, faults and lost words reach. -/

namespace Sys2Proof
namespace Machine

variable {k : Parts} {s t : State}

theorem Within.startFirst (hk : covers everything k = true) (h : Within k s t) : Within k s t.startFirst := h.into hk <| by
  unfold State.startFirst
  exact .logStill rfl (.applyPending rfl (.readFuses rfl (.senseSources rfl .refl)))

theorem Within.start (hk : covers everything k = true) (h : Within k s t) : Within k s t.start := h.into hk <| by
  unfold State.start
  extract_lets t'
  have ht' : Within everything t t' := .startFirst rfl .refl
  split
  · exact .event rfl (.set rfl rfl ht')
  · exact .startRest rfl ht'

theorem Within.startSources (hk : covers (parts [.dict, .ent]) k = true) (h : Within k s t) : Within k s t.startSources := h.into hk <| by
  unfold State.startSources
  exact .foldl .refl (fun _ _ h => (.wr rfl (.setSource rfl h)))

theorem Out.Within.execColdStart {banks33 bankBad : BitVec 8} {compat : Bool} (hk : covers everything k = true) (h : Machine.Within k s t) :
    Out.Within k s (Machine.execColdStart banks33 bankBad compat t) := .into h hk <| by
  unfold Machine.execColdStart
  extract_lets t'
  have ht' : Machine.Within everything t t' := .wr rfl (.wr rfl (.wr rfl .refl))
  exact .when .refl (.start rfl (.startSources rfl (.set rfl rfl ht')))

theorem Out.Within.execSysrstNAssert (hk : covers everything k = true) (h : Machine.Within k s t) : Out.Within k s
    (Machine.execSysrstNAssert t) := .into h hk <| by
  unfold Machine.execSysrstNAssert
  exact .ite (.next .refl) (.next (.warmReset rfl (.set rfl rfl .refl)))

theorem Out.Within.execWarmReset {j : Sys2Proof.JobRef} (hk : covers everything k = true) (h : Machine.Within k s t) : Out.Within k s
    (Machine.execWarmReset j t) := .into h hk <| by
  unfold Machine.execWarmReset
  exact .named rfl .refl

theorem Out.Within.execWarmStart (hk : covers everything k = true) (h : Machine.Within k s t) : Out.Within k s (Machine.execWarmStart t) := .into h hk <| by
  unfold Machine.execWarmStart
  exact .when .refl (.start rfl (.set rfl rfl .refl))

theorem Out.Within.execFenceRequest {j : Sys2Proof.JobRef} {cluster les : Nat} (hk : covers everything k = true) (h : Machine.Within k s t) :
    Out.Within k s (Machine.execFenceRequest j cluster les t) := .into h hk <| by
  unfold Machine.execFenceRequest
  exact .named rfl .refl

theorem Out.Within.execFenceRelease {j : Sys2Proof.JobRef} {cluster les : Nat} (hk : covers everything k = true) (h : Machine.Within k s t) :
    Out.Within k s (Machine.execFenceRelease j cluster les t) := .into h hk <| by
  unfold Machine.execFenceRelease
  exact .named rfl .refl

theorem Within.retryJob {j : Job} {unit : Option Nat} (hk : covers (parts [.free, .dict, .jobs, .tenants, .units, .les, .saved, .cmem, .clus]) k = true)
    (h : Within k s t) : Within k s (t.retryJob j unit) := h.into hk <| by
  unfold State.retryJob
  exact .mapJob rfl (.requeue rfl (.withdraw rfl (.inc rfl (.inc rfl (.accrue rfl .refl)))))

theorem Within.faultJob {j : Job} {unit : Option Nat} {row : Nat × Nat × Nat} {status detail : Nat} (hk : covers (ending ||| parts [.flt]) k = true)
    (h : Within k s t) : Within k s (t.faultJob j unit row status detail) := h.into hk <| by
  unfold State.faultJob
  exact .ite (.cutJob rfl .refl) (.ite (.discardJob rfl (.accrue rfl .refl)) (.ite (.retryJob rfl .refl) (.logRow rfl (.cutJob rfl (.inc rfl .refl)))))

theorem Within.moveSuspended {c : Nat} (hk : covers (parts [.jobs, .tenants, .units, .les, .saved, .cmem, .clus]) k = true) (h : Within k s t) : Within k s
    (t.moveSuspended c) := h.into hk <| by
  unfold State.moveSuspended
  exact .foldl .refl (fun _ _ h => (.moveJob rfl h))

theorem Within.fencePort {p : Nat} (hk : covers (parts [.dict, .dtx, .ports, .ptp, .tx, .waits, .chans, .tenants, .flt]) k = true) (h : Within k s t) :
    Within k s (t.fencePort p) := h.into hk <| by
  unfold State.fencePort
  extract_lets t'
  have ht' : Within (parts [.dict, .dtx, .ports, .ptp, .tx, .waits, .chans, .tenants, .flt]) t t' := .ite (.portDown rfl .refl) (.wr rfl .refl)
  exact .logRow rfl (.set rfl rfl ht')

theorem Within.chargeFault {c : Charged} (hk : covers (ending ||| parts [.ports, .ptp, .flt]) k = true) (h : Within k s t) : Within k s
    (t.chargeFault c).1 := h.into hk <| by
  unfold State.chargeFault
  split
  · extract_lets _ _ t'
    have ht' : Within (ending ||| parts [.ports, .ptp, .flt]) t t' := .setEngine rfl .refl
    split
    · exact ht'
    · exact .fenceUnits rfl ht'
  · extract_lets 
    split
    · exact .set rfl rfl .refl
    · exact .moveSuspended rfl (.fenceUnits rfl (.set rfl rfl .refl))
  · extract_lets 
    split
    · exact .set rfl rfl .refl
    · exact .fencePort rfl (.set rfl rfl .refl)
  · exact .refl

theorem Within.storm (hk : covers everything k = true) (h : Within k s t) : Within k s t.storm := h.into hk <| by
  unfold State.storm
  exact .ite (.alarm rfl (.set rfl rfl .refl)) (.set rfl rfl .refl)

theorem Within.hardwareFault {f : Sys2Proof.HwFault} (hk : covers everything k = true) (h : Within k s t) : Within k s (t.hardwareFault f) := h.into hk <| by
  unfold State.hardwareFault
  extract_lets j row st ends u v w c x y y' r
  have hu : Within everything t u := .logRow rfl .refl
  have hv : Within everything t v := .ite (.inc rfl hu) hu
  have hw : Within everything t w := .ite (.event rfl hv) hv
  have hx : Within everything t y := .ite (.setCluster rfl hw) hw
  have hj : Within everything t y' := by
    have he : y' = match j with | some x => y.faultJob x (if f.unit < 2048 then some f.unit else none) row st.1 st.2 | none => y := rfl
    clear_value j
    rw [he]
    split
    · exact .faultJob rfl hx
    · exact hx
  exact .ite (.storm rfl (.event rfl (.chargeFault rfl hj))) (.event rfl (.chargeFault rfl hj))

theorem Out.Within.execHardwareFault {f : Sys2Proof.HwFault} (hk : covers everything k = true) (h : Machine.Within k s t) : Out.Within k s
    (Machine.execHardwareFault f t) := .into h hk <| by
  unfold Machine.execHardwareFault
  exact .when .refl (.hardwareFault rfl .refl)

theorem Out.Within.execAesFenceTimeout {unit : Nat} (hk : covers (parts [.jobs, .tenants, .units, .les, .saved, .cmem, .clus]) k = true)
    (h : Machine.Within k s t) : Out.Within k s (Machine.execAesFenceTimeout unit t) := .into h hk <| by
  unfold Machine.execAesFenceTimeout
  extract_lets 
  split
  · exact .next .refl
  · split
    · exact .next .refl
    · exact .when .refl (.moveJob rfl .refl)

theorem Within.loseCompletion {r : Sys2Proof.JobRef} (hk : covers ending k = true) (h : Within k s t) : Within k s (t.loseCompletion r) := h.into hk <| by
  unfold State.loseCompletion
  split
  · exact .refl
  · exact .ite (.cutJob rfl .refl) (.ite (.countFault rfl (.mapJob rfl .refl)) (.release rfl (.mapJob rfl .refl)))

theorem Within.loseDrbg {d : Nat} (hk : covers (parts [.ent]) k = true) (h : Within k s t) : Within k s (t.loseDrbg d) := h.into hk <| by
  unfold State.loseDrbg
  extract_lets _ _ _ t'
  have ht' : Within (parts [.ent]) t t' := .set rfl rfl (.zeroDrbg rfl .refl)
  exact .ite (.askSeed rfl ht') ht'

theorem Within.breakStream {slot n : Nat} (hk : covers ending k = true) (h : Within k s t) : Within k s (t.breakStream slot n) := h.into hk <| by
  unfold State.breakStream
  split
  · exact .refl
  · extract_lets t'
    have ht' : Within ending t t' := .event rfl (.set rfl rfl .refl)
    exact .foldl ht' (fun _ _ h => (.cutJob rfl h))

theorem Within.loseRing {q : Nat} (hk : covers (parts [.dict, .dtx, .rwork, .trav]) k = true) (h : Within k s t) : Within k s (t.loseRing q) := h.into hk <| by
  unfold State.loseRing
  extract_lets _ _ _ _ _ _ _ _ t₂
  have ht₂ : Within (parts [.dict, .dtx, .rwork, .trav]) t t₂ := .drainPending rfl (.event rfl (.set rfl rfl .refl))
  exact .ite (.checkpoint rfl ht₂) ht₂

theorem Within.loseShadow (hk : covers (parts [.dict, .dtx]) k = true) (h : Within k s t) : Within k s t.loseShadow := h.into hk <| by
  unfold State.loseShadow
  exact .holdEpoch rfl (.update rfl .refl (.ofDict (Map.wf_filter _ _)))

theorem Within.loseRegion {w : Sys2Proof.LostWord} (hk : covers (ending ||| parts [.rwork, .mcache, .trav, .flt]) k = true) (h : Within k s t) : Within k s
    (t.loseRegion w) := h.into hk <| by
  unfold State.loseRegion
  split
  · split
    · exact .ite (.cutJob rfl .refl) .refl
    · exact .refl
  · exact .loseCompletion rfl .refl
  · exact .ite (.set rfl rfl .refl) (.foldl .refl (fun _ _ h => (by
      split
      · exact .accrue rfl h
      · exact h)))
  · exact .foldl (.set rfl rfl .refl) (fun _ _ h => (.faultJob rfl h))
  · exact .ite .refl (.dropVolatile rfl (.foldl .refl (fun _ _ h => (.cutJob rfl h))))
  · exact .ite (.loseDrbg rfl .refl) .refl
  · exact .ite (.abortChannel rfl .refl) .refl
  · exact .breakStream rfl .refl
  · exact .loseRing rfl .refl
  · exact .set rfl rfl .refl
  · exact .loseShadow rfl .refl
  · exact .refl
  · exact .refl

theorem Within.fenceBank {b : Nat} (hk : covers (parts [.dict, .dtx, .flt]) k = true) (h : Within k s t) : Within k s (t.fenceBank b).1 :=
  h.into hk <| by
  unfold State.fenceBank
  extract_lets m f
  have hf : ∀ v, Within (parts [.dict, .dtx, .flt]) t (f v).1 := fun v => .logRow rfl (.set rfl rfl (.wr rfl (.wr rfl .refl)))
  split
  · exact hf _
  · split
    · exact hf _
    · exact .refl

theorem Within.chargeBank {b : Nat} (hk : covers (parts [.dict, .dtx, .flt]) k = true) (h : Within k s t) : Within k s (t.chargeBank b).1 := h.into hk <| by
  unfold State.chargeBank
  extract_lets 
  split
  · exact .set rfl rfl .refl
  · exact .fenceBank rfl (.set rfl rfl .refl)

theorem Within.loseWord {bank : Option Nat} {w : Sys2Proof.LostWord} (hk : covers everything k = true) (h : Within k s t) : Within k s
    (t.loseWord bank w) := h.into hk <| by
  unfold State.loseWord
  extract_lets bank u r
  have hu : Within everything t u := .logRow rfl (.loseRegion rfl .refl)
  have hr : Within everything t r.1 := by
    have he : r = match bank with | some b => u.chargeBank b | none => (u, 0) := rfl
    clear_value bank
    rw [he]
    split
    · exact .chargeBank rfl hu
    · exact hu
  exact .storm rfl (.event rfl hr)

theorem Out.Within.execWordLost {bank : Option Nat} {w : Sys2Proof.LostWord} (hk : covers everything k = true) (h : Machine.Within k s t) :
    Out.Within k s (Machine.execWordLost bank w t) := .into h hk <| by
  unfold Machine.execWordLost
  exact .when .refl (.loseWord rfl .refl)

theorem Out.Within.execBankCopyDone {bank : Nat} {lost : List Sys2Proof.LostWord} (hk : covers everything k = true) (h : Machine.Within k s t) :
    Out.Within k s (Machine.execBankCopyDone bank lost t) := .into h hk <| by
  unfold Machine.execBankCopyDone
  exact .when .refl (.foldl (.logRow rfl (.set rfl rfl .refl)) (fun _ _ h => (.loseWord rfl h)))

theorem Out.Within.execAlwaysOnReset (hk : covers (parts [.dict, .clk, .ent, .keys, .trav, .grp, .lc, .tamp]) k = true) (h : Machine.Within k s t) :
    Out.Within k s (Machine.execAlwaysOnReset t) := .into h hk <| by
  unfold Machine.execAlwaysOnReset
  extract_lets t'
  have ht' : Machine.Within (parts [.dict, .clk, .ent, .keys, .trav, .grp, .lc, .tamp]) t t' := .zeroVolatile rfl (.clearBbram rfl .refl)
  exact .next (.set rfl rfl (.set rfl rfl ht'))

theorem Out.Within.execTamperSourceClear {src : Nat} (hk : covers (parts [.dict, .tamp]) k = true) (h : Machine.Within k s t) : Out.Within k s
    (Machine.execTamperSourceClear src t) := .into h hk <| by
  unfold Machine.execTamperSourceClear
  exact .when .refl (.setAsserted rfl .refl)
end Machine
end Sys2Proof
end

section
/-! A step of the block: every instruction keeps the forms, so a step does. -/
namespace Sys2Proof
namespace Machine
/-- What an instruction does is within every part but the queue, and keeps the forms. -/
theorem exec_within {s : State} : (i : Instr) → Out.Within everything s (exec i s)
  | .linkDown .. => .execLinkDown rfl .refl
  | .linkUp .. => .execLinkUp rfl .refl
  | .failbackHoldExpiry .. => .execFailbackHoldExpiry rfl .refl
  | .portConfigChange .. => .execPortConfigChange rfl .refl
  | .ethernetFrameReceive .. => .execEthernetFrameReceive rfl .refl
  | .arpRequest .. => .execArpRequest rfl .refl
  | .neighbourSolicitation .. => .execNeighbourSolicitation rfl .refl
  | .echoRequest .. => .execEchoRequest rfl .refl
  | .announceIntervalExpiry .. => .execAnnounceIntervalExpiry rfl .refl
  | .announceSend .. => .execAnnounceSend rfl .refl
  | .announceReceive .. => .execAnnounceReceive rfl .refl
  | .ptpAnnounceMessage .. => .execPtpAnnounceMessage rfl .refl
  | .ptpSyncMessage .. => .execPtpSyncMessage rfl .refl
  | .ptpDelayRequestTimer .. => .execPtpDelayRequestTimer rfl .refl
  | .ptpDelayResponse .. => .execPtpDelayResponse rfl .refl
  | .announceReceiptTimeout .. => .execAnnounceReceiptTimeout rfl .refl
  | .holdoverLimitExpiry => .execHoldoverLimitExpiry rfl .refl
  | .refclkSdLost => .execRefclkSdLost rfl .refl
  | .refclkSdReturn => .execRefclkSdReturn rfl .refl
  | .opfelFrame .. => .execOpfelFrame rfl .refl
  | .reassemblyTimeout .. => .execReassemblyTimeout rfl .refl
  | .credit .. => .execCredit rfl .refl
  | .completionRelease .. => .execCompletionRelease rfl .refl
  | .handshakeRequest .. => .execHandshakeRequest rfl .refl
  | .handshakeReply .. => .execHandshakeReply rfl .refl
  | .pendingExpiry .. => .execPendingExpiry rfl .refl
  | .keepaliveExpiry .. => .execKeepaliveExpiry rfl .refl
  | .ping .. => .execPing rfl .refl
  | .close .. => .execClose rfl .refl
  | .closeDrained .. => .execCloseDrained rfl .refl
  | .closeNow .. => .execCloseNow rfl .refl
  | .retire .. => .execRetire rfl .refl
  | .subscribe .. => .execSubscribe rfl .refl
  | .tenantReset .. => .execTenantReset rfl .refl
  | .tenantStateWrite .. => .execTenantStateWrite rfl .refl
  | .enrol .. => .execEnrol rfl .refl
  | .setKeepalive .. => .execSetKeepalive rfl .refl
  | .read .. => .execRead rfl .refl
  | .write .. => .execWrite rfl .refl
  | .sealedWrite .. => .execSealedWrite rfl .refl
  | .describe .. => .execDescribe rfl .refl
  | .journalCommit .. => .execJournalCommit rfl .refl
  | .eventClear .. => .execEventClear rfl .refl
  | .jobDispatch .. => .execJobDispatch rfl .refl
  | .lapBoundary => .execLapBoundary rfl .refl
  | .lapLengthChange => .execLapLengthChange rfl .refl
  | .budgetExhausted .. => .execBudgetExhausted rfl .refl
  | .safePointReached .. => .execSafePointReached rfl .refl
  | .mlKemKeygen .. => .execMlKemKeygen rfl .refl
  | .mlKemKeygenFromSeed .. => .execMlKemKeygenFromSeed rfl .refl
  | .mlKemEncaps .. => .execMlKemEncaps rfl .refl
  | .mlKemDecaps .. => .execMlKemDecaps rfl .refl
  | .mlDsaKeygen .. => .execMlDsaKeygen rfl .refl
  | .mlDsaSign .. => .execMlDsaSign rfl .refl
  | .mlDsaVerify .. => .execMlDsaVerify rfl .refl
  | .mlDsaSignMu .. => .execMlDsaSignMu rfl .refl
  | .mlDsaVerifyMu .. => .execMlDsaVerifyMu rfl .refl
  | .mlDsaHashSign .. => .execMlDsaHashSign rfl .refl
  | .mlDsaHashVerify .. => .execMlDsaHashVerify rfl .refl
  | .slhDsaKeygen .. => .execSlhDsaKeygen rfl .refl
  | .slhDsaSign .. => .execSlhDsaSign rfl .refl
  | .slhDsaVerify .. => .execSlhDsaVerify rfl .refl
  | .slhDsaHashSign .. => .execSlhDsaHashSign rfl .refl
  | .slhDsaHashVerify .. => .execSlhDsaHashVerify rfl .refl
  | .fnDsaVerify .. => .execFnDsaVerify rfl .refl
  | .hqcKeygen .. => .execHqcKeygen rfl .refl
  | .hqcEncaps .. => .execHqcEncaps rfl .refl
  | .hqcDecaps .. => .execHqcDecaps rfl .refl
  | .mcelieceKeygen .. => .execMcelieceKeygen rfl .refl
  | .mcelieceEncaps .. => .execMcelieceEncaps rfl .refl
  | .mcelieceDecaps .. => .execMcelieceDecaps rfl .refl
  | .statefulKeygen .. => .execStatefulKeygen rfl .refl
  | .statefulSign .. => .execStatefulSign rfl .refl
  | .statefulVerify .. => .execStatefulVerify rfl .refl
  | .reservationCommit .. => .execReservationCommit rfl .refl
  | .eccKeygen .. => .execEccKeygen rfl .refl
  | .eccSign .. => .execEccSign rfl .refl
  | .eccVerify .. => .execEccVerify rfl .refl
  | .eccAgree .. => .execEccAgree rfl .refl
  | .eccHashSign .. => .execEccHashSign rfl .refl
  | .eccHashVerify .. => .execEccHashVerify rfl .refl
  | .rsaKeygen .. => .execRsaKeygen rfl .refl
  | .rsaSign .. => .execRsaSign rfl .refl
  | .rsaVerify .. => .execRsaVerify rfl .refl
  | .rsaDecrypt .. => .execRsaDecrypt rfl .refl
  | .rsaEncrypt .. => .execRsaEncrypt rfl .refl
  | .rsaHashSign .. => .execRsaHashSign rfl .refl
  | .rsaHashVerify .. => .execRsaHashVerify rfl .refl
  | .aeadEncrypt .. => .execAeadEncrypt rfl .refl
  | .aeadDecrypt .. => .execAeadDecrypt rfl .refl
  | .digest .. => .execDigest rfl .refl
  | .mac .. => .execMac rfl .refl
  | .macVerify .. => .execMacVerify rfl .refl
  | .extract .. => .execExtract rfl .refl
  | .expand .. => .execExpand rfl .refl
  | .extractExpand .. => .execExtractExpand rfl .refl
  | .randomOctets .. => .execRandomOctets rfl .refl
  | .genSymmetric .. => .execGenSymmetric rfl .refl
  | .importPublic .. => .execImportPublic rfl .refl
  | .exportPublic .. => .execExportPublic rfl .refl
  | .destroy .. => .execDestroy rfl .refl
  | .kumCreate .. => .execKumCreate rfl .refl
  | .kumImport .. => .execKumImport rfl .refl
  | .kumReplace .. => .execKumReplace rfl .refl
  | .kumDestroy .. => .execKumDestroy rfl .refl
  | .kumSetAttr .. => .execKumSetAttr rfl .refl
  | .kumCommit .. => .execKumCommit rfl .refl
  | .keyLoad .. => .execKeyLoad rfl .refl
  | .serverShare .. => .execServerShare rfl .refl
  | .clientShare .. => .execClientShare rfl .refl
  | .clientHandshake .. => .execClientHandshake rfl .refl
  | .handshakeSecrets .. => .execHandshakeSecrets rfl .refl
  | .appSecrets .. => .execAppSecrets rfl .refl
  | .resumption .. => .execResumption rfl .refl
  | .stamp .. => .execStamp rfl .refl
  | .quote .. => .execQuote rfl .refl
  | .compare .. => .execCompare rfl .refl
  | .streamMessage .. => .execStreamMessage rfl .refl
  | .ownerKernelJob .. => .execOwnerKernelJob rfl .refl
  | .ownerKernelCostLimit .. => .execOwnerKernelCostLimit rfl .refl
  | .fetch .. => .execFetch rfl .refl
  | .head .. => .execHead rfl .refl
  | .checkpoint .. => .execCheckpoint rfl .refl
  | .nop .. => .execNop rfl .refl
  | .add .. => .execAdd rfl .refl
  | .sub .. => .execSub rfl .refl
  | .addm .. => .execAddm rfl .refl
  | .subm .. => .execSubm rfl .refl
  | .redb .. => .execRedb rfl .refl
  | .mulm .. => .execMulm rfl .refl
  | .mulw .. => .execMulw rfl .refl
  | .dot .. => .execDot rfl .refl
  | .redw .. => .execRedw rfl .refl
  | .clmul .. => .execClmul rfl .refl
  | .basemul .. => .execBasemul rfl .refl
  | .ct18 .. => .execCt18 rfl .refl
  | .gs18 .. => .execGs18 rfl .refl
  | .ct36l .. => .execCt36l rfl .refl
  | .ct36u .. => .execCt36u rfl .refl
  | .ct36TopSum .. => .execCt36TopSum rfl .refl
  | .ct36TopDiff .. => .execCt36TopDiff rfl .refl
  | .gs36l .. => .execGs36l rfl .refl
  | .gs36u .. => .execGs36u rfl .refl
  | .gs36TopSum .. => .execGs36TopSum rfl .refl
  | .gs36TopDiff .. => .execGs36TopDiff rfl .refl
  | .and .. => .execAnd rfl .refl
  | .or .. => .execOr rfl .refl
  | .xor .. => .execXor rfl .refl
  | .andn .. => .execAndn rfl .refl
  | .shl .. => .execShl rfl .refl
  | .shr .. => .execShr rfl .refl
  | .rol64 .. => .execRol64 rfl .refl
  | .cmplt .. => .execCmplt rfl .refl
  | .cmpeq .. => .execCmpeq rfl .refl
  | .movm .. => .execMovm rfl .refl
  | .popc .. => .execPopc rfl .refl
  | .mfromv .. => .execMfromv rfl .refl
  | .andr .. => .execAndr rfl .refl
  | .orr .. => .execOrr rfl .refl
  | .perm .. => .execPerm rfl .refl
  | .unpackZ .. => .execUnpackZ rfl .refl
  | .unpackS .. => .execUnpackS rfl .refl
  | .pack .. => .execPack rfl .refl
  | .compress .. => .execCompress rfl .refl
  | .decompress .. => .execDecompress rfl .refl
  | .byteEncode .. => .execByteEncode rfl .refl
  | .byteDecode .. => .execByteDecode rfl .refl
  | .bitpack .. => .execBitpack rfl .refl
  | .bitunpack .. => .execBitunpack rfl .refl
  | .p2rHi .. => .execP2rHi rfl .refl
  | .p2rLo .. => .execP2rLo rfl .refl
  | .dec88Hi .. => .execDec88Hi rfl .refl
  | .dec88Lo .. => .execDec88Lo rfl .refl
  | .dec32Hi .. => .execDec32Hi rfl .refl
  | .dec32Lo .. => .execDec32Lo rfl .refl
  | .mkhint88 .. => .execMkhint88 rfl .refl
  | .mkhint32 .. => .execMkhint32 rfl .refl
  | .usehint88 .. => .execUsehint88 rfl .refl
  | .usehint32 .. => .execUsehint32 rfl .refl
  | .cbd2 .. => .execCbd2 rfl .refl
  | .cbd3 .. => .execCbd3 rfl .refl
  | .compact .. => .execCompact rfl .refl
  | .ctCompact .. => .execCtCompact rfl .refl
  | .secand .. => .execSecand rfl .refl
  | .secmulm .. => .execSecmulm rfl .refl
  | .a2b .. => .execA2b rfl .refl
  | .b2a .. => .execB2a rfl .refl
  | .declBit .. => .execDeclBit rfl .refl
  | .declBit2 .. => .execDeclBit2 rfl .refl
  | .declBit3 .. => .execDeclBit3 rfl .refl
  | .aadd .. => .execAadd rfl .refl
  | .asub .. => .execAsub rfl .refl
  | .aand .. => .execAand rfl .refl
  | .ashr .. => .execAshr rfl .refl
  | .aaddi .. => .execAaddi rfl .refl
  | .aldi .. => .execAldi rfl .refl
  | .asetw .. => .execAsetw rfl .refl
  | .afromv .. => .execAfromv rfl .refl
  | .abcast .. => .execAbcast rfl .refl
  | .mcount .. => .execMcount rfl .refl
  | .ldc .. => .execLdc rfl .refl
  | .stc .. => .execStc rfl .refl
  | .ldq .. => .execLdq rfl .refl
  | .lds .. => .execLds rfl .refl
  | .sts .. => .execSts rfl .refl
  | .release .. => .execRelease rfl .refl
  | .gather16C .. => .execGather16C rfl .refl
  | .scatter16C .. => .execScatter16C rfl .refl
  | .gather16S .. => .execGather16S rfl .refl
  | .scatter16S .. => .execScatter16S rfl .refl
  | .sopen .. => .execSopen rfl .refl
  | .sabsorb .. => .execSabsorb rfl .refl
  | .sfinal .. => .execSfinal rfl .refl
  | .ssqueeze .. => .execSsqueeze rfl .refl
  | .sclose .. => .execSclose rfl .refl
  | .maskDraw .. => .execMaskDraw rfl .refl
  | .drbgDraw .. => .execDrbgDraw rfl .refl
  | .keyFetch .. => .execKeyFetch rfl .refl
  | .keyBusDeliveryDone .. => .execKeyBusDeliveryDone rfl .refl
  | .mboxRead .. => .execMboxRead rfl .refl
  | .matrixReq .. => .execMatrixReq rfl .refl
  | .matrixAnswer .. => .execMatrixAnswer rfl .refl
  | .matrixDone .. => .execMatrixDone rfl .refl
  | .next .. => .execNext rfl .refl
  | .jump .. => .execJump rfl .refl
  | .brz .. => .execBrz rfl .refl
  | .brnz .. => .execBrnz rfl .refl
  | .call .. => .execCall rfl .refl
  | .ret .. => .execRet rfl .refl
  | .loop .. => .execLoop rfl .refl
  | .exit .. => .execExit rfl .refl
  | .waitWatchdog .. => .execWaitWatchdog rfl .refl
  | .entropyStallTimeout .. => .execEntropyStallTimeout rfl .refl
  | .maskGeneratorReseed .. => .execMaskGeneratorReseed rfl .refl
  | .csRepair .. => .execCsRepair rfl .refl
  | .floorRaise .. => .execFloorRaise rfl .refl
  | .install .. => .execInstall rfl .refl
  | .discard .. => .execDiscard rfl .refl
  | .remove .. => .execRemove rfl .refl
  | .kernelCommit .. => .execKernelCommit rfl .refl
  | .sourceWarmupDone .. => .execSourceWarmupDone rfl .refl
  | .sourceWindowEnd .. => .execSourceWindowEnd rfl .refl
  | .repetitionCountFail .. => .execRepetitionCountFail rfl .refl
  | .blockConditioned .. => .execBlockConditioned rfl .refl
  | .restart .. => .execRestart rfl .refl
  | .disable .. => .execDisable rfl .refl
  | .reseedAll .. => .execReseedAll rfl .refl
  | .rawSampleRead .. => .execRawSampleRead rfl .refl
  | .rawSampleRefill .. => .execRawSampleRefill rfl .refl
  | .drbgInstantiate .. => .execDrbgInstantiate rfl .refl
  | .drbgReseed .. => .execDrbgReseed rfl .refl
  | .entropyWaitTimeout .. => .execEntropyWaitTimeout rfl .refl
  | .keysReset .. => .execKeysReset rfl .refl
  | .presenceChange .. => .execPresenceChange rfl .refl
  | .gateStart .. => .execGateStart rfl .refl
  | .regionMeasured .. => .execRegionMeasured rfl .refl
  | .gateDecided .. => .execGateDecided rfl .refl
  | .lineRelease .. => .execLineRelease rfl .refl
  | .pwrgdInFall => .execPwrgdInFall rfl .refl
  | .forceRelease .. => .execForceRelease rfl .refl
  | .remeasure .. => .execRemeasure rfl .refl
  | .flashCommand .. => .execFlashCommand rfl .refl
  | .updateWindowOpen .. => .execUpdateWindowOpen rfl .refl
  | .updateWindowClose .. => .execUpdateWindowClose rfl .refl
  | .updateWindowExpiry .. => .execUpdateWindowExpiry rfl .refl
  | .slotArchived .. => .execSlotArchived rfl .refl
  | .checkpointSigned => .execCheckpointSigned rfl .refl
  | .ringWaitTimeout .. => .execRingWaitTimeout rfl .refl
  | .helloInit .. => .execHelloInit rfl .refl
  | .helloReply .. => .execHelloReply rfl .refl
  | .heartbeat .. => .execHeartbeat rfl .refl
  | .heartbeatInstant => .execHeartbeatInstant rfl .refl
  | .claim .. => .execClaim rfl .refl
  | .grant .. => .execGrant rfl .refl
  | .append .. => .execAppend rfl .refl
  | .ack .. => .execAck rfl .refl
  | .forward .. => .execForward rfl .refl
  | .result .. => .execResult rfl .refl
  | .peerFetch .. => .execPeerFetch rfl .refl
  | .entries .. => .execEntries rfl .refl
  | .readIndex .. => .execReadIndex rfl .refl
  | .readReply .. => .execReadReply rfl .refl
  | .stepDownTimeout => .execStepDownTimeout rfl .refl
  | .writeTimeout .. => .execWriteTimeout rfl .refl
  | .groupBufferDrain => .execGroupBufferDrain rfl .refl
  | .idcode => .execIdcode rfl .refl
  | .samplePreload => .execSamplePreload rfl .refl
  | .extest => .execExtest rfl .refl
  | .extestExit => .execExtestExit rfl .refl
  | .lcStatus => .execLcStatus rfl .refl
  | .lcCmdOpen .. => .execLcCmdOpen rfl .refl
  | .lcCmdLock .. => .execLcCmdLock rfl .refl
  | .lcCmdUnlock .. => .execLcCmdUnlock rfl .refl
  | .lcCmdPersonalize .. => .execLcCmdPersonalize rfl .refl
  | .lcCmdRma .. => .execLcCmdRma rfl .refl
  | .lcCmdTerminal .. => .execLcCmdTerminal rfl .refl
  | .transitionRelease .. => .execTransitionRelease rfl .refl
  | .transitionReturn .. => .execTransitionReturn rfl .refl
  | .transitionTerminal .. => .execTransitionTerminal rfl .refl
  | .transitionFieldSeal .. => .execTransitionFieldSeal rfl .refl
  | .fuseProgramDone => .execFuseProgramDone rfl .refl
  | .debugChallenge => .execDebugChallenge rfl .refl
  | .debugChallengeExpiry => .execDebugChallengeExpiry rfl .refl
  | .debugResponse .. => .execDebugResponse rfl .refl
  | .debugOpenComplete => .execDebugOpenComplete rfl .refl
  | .dictTxn .. => .execDictTxn rfl .refl
  | .dictRead .. => .execDictRead rfl .refl
  | .memAccess .. => .execMemAccess rfl .refl
  | .bypass => .execBypass rfl .refl
  | .tamperAlarm .. => .execTamperAlarm rfl .refl
  | .batterySample .. => .execBatterySample rfl .refl
  | .tamperHoldSample => .execTamperHoldSample rfl .refl
  | .resume .. => .execResume rfl .refl
  | .aonChangeover .. => .execAonChangeover rfl .refl
  | .refclkLost => .execRefclkLost rfl .refl
  | .refclkRestored => .execRefclkRestored rfl .refl
  | .crystalLost => .execCrystalLost rfl .refl
  | .crystalRestored => .execCrystalRestored rfl .refl
  | .gateAbort .. => .execGateAbort rfl .refl
  | .clusterWake .. => .execClusterWake rfl .refl
  | .sscApply => .execSscApply rfl .refl
  | .coldReset => .execColdReset rfl .refl
  | .coldStart .. => .execColdStart rfl .refl
  | .sysrstNAssert => .execSysrstNAssert rfl .refl
  | .warmReset .. => .execWarmReset rfl .refl
  | .warmStart => .execWarmStart rfl .refl
  | .fenceRequest .. => .execFenceRequest rfl .refl
  | .fenceRelease .. => .execFenceRelease rfl .refl
  | .hardwareFault .. => .execHardwareFault rfl .refl
  | .aesFenceTimeout .. => .execAesFenceTimeout rfl .refl
  | .wordLost .. => .execWordLost rfl .refl
  | .bankCopyDone .. => .execBankCopyDone rfl .refl
  | .alwaysOnReset => .execAlwaysOnReset rfl .refl
  | .tamperSourceClear .. => .execTamperSourceClear rfl .refl

/-- A step is within every part and the queue, and keeps the forms. -/
theorem step_stays {s t : State} (h : step s = .next t) : s.kept.Stays t.kept := by
  unfold step at h
  split at h
  · cases h
    exact (Within.tick (k := everything) rfl .refl).stays
  · next i rest _ => exact (exec_within (s := { s with pending := rest }) i t h).stays

/-- Settles O56: every instruction and the clocks' tick keep each programmed segment, and only a programming adds ones. -/
theorem programmedFusesStay : Obligations.ProgrammedFusesStay := fun _ _ h => (step_stays h).fuses

/-- Settles O57: every operation on cluster memory keeps its addresses rising and lists no word that reads as an unlisted one. -/
theorem clusterMemoryStaysCanonical : Obligations.ClusterMemoryStaysCanonical := fun _ _ hs h =>
  (Memory.wf_iff _).1 ((step_stays h).cmem ((Memory.wf_iff _).2 hs))

/-- Settles O58: every operation on these maps keeps their keys rising. -/
theorem dictionaryAndMapsStayCanonical : Obligations.DictionaryAndMapsStayCanonical := fun _ _ ⟨hd, hc, hv, hr, hb⟩ h =>
  ⟨(step_stays h).dict hd, (step_stays h).chans hc, (step_stays h).vol hv, (step_stays h).recs hr, (step_stays h).bound hb⟩

end Machine
end Sys2Proof
end

section
/-! The entries of the dictionary: what a read gives after a write, a count or an event. -/
namespace Sys2Proof

theorem Map.find_mapVals {α : Type} (f : α → α) (m : Map α) (k : Nat) : Map.find (Map.mapVals f m) k = (Map.find m k).map f := by
  induction m with
  | nil => rfl
  | cons p m ih =>
    simp only [Map.mapVals, List.map_cons, Map.find] at ih ⊢
    split
    · rfl
    · exact ih

theorem Map.getD_mapVals {α : Type} (f : α → α) (m : Map α) (k : Nat) {d : α} (h : f d = d) :
    Map.getD (Map.mapVals f m) k d = f (Map.getD m k d) := by
  rw [Map.getD, Map.getD, Map.find_mapVals]
  cases Map.find m k with
  | none => exact h.symm
  | some v => rfl

theorem Map.find_store_of_ne {α : Type} [DecidableEq α] (m : Map α) {k j : Nat} (v d : α) (h : j ≠ k) :
    Map.find (Map.store m k v d) j = Map.find m j := by
  unfold Map.store
  split
  · exact Map.find_erase_of_ne m h
  · exact Map.find_put_of_ne m v h

namespace Machine

variable {s : State}

/-- What is read depends on the dictionary alone. -/
theorem State.rd_congr {t : State} (h : t.dict = s.dict) (i a : Nat) : t.rd i a = s.rd i a := by
  rw [State.rd, h, State.rd]

theorem ekey_inj {i j a b : Nat} (ha : a < 256) (hb : b < 256) : ekey i a = ekey j b ↔ i = j ∧ a = b := by
  unfold ekey
  omega

theorem State.rd_wr_self (hw : Map.wf s.dict = true) (i a v : Nat) : (s.wr i a v).rd i a = v := Map.getD_store_self _ _ _ _ hw

theorem State.rd_wr_of_ne {i a j b : Nat} (v : Nat) (h : ekey j b ≠ ekey i a) : (s.wr i a v).rd j b = s.rd j b := by
  change Map.getD (Map.store s.dict (ekey i a) v (dflt i a)) (ekey j b) (dflt j b) = Map.getD s.dict (ekey j b) (dflt j b)
  simp only [Map.getD, Map.find_store_of_ne s.dict v (dflt i a) h]

theorem State.rd_wr_of_sub {i a j b : Nat} (v : Nat) (ha : a < 256) (hb : b < 256) (h : j ≠ i ∨ b ≠ a) : (s.wr i a v).rd j b = s.rd j b :=
  s.rd_wr_of_ne v fun e => by
    obtain ⟨hi, hs⟩ := (ekey_inj hb ha).1 e
    exact h.elim (· hi) (· hs)

theorem State.wf_wr (hw : Map.wf s.dict = true) (i a v : Nat) : Map.wf (s.wr i a v).dict = true := Map.wf_store _ _ _ _ hw

theorem State.rd_event (s : State) (i a f j b : Nat) : (s.event i a f).rd j b = (s.wr i a (eventAdd (s.rd i a) f)).rd j b := rfl

theorem State.wf_event (hw : Map.wf s.dict = true) (i a f : Nat) : Map.wf (s.event i a f).dict = true := State.wf_wr hw _ _ _

end Machine
end Sys2Proof
end

section
/-! The state after an operation, from the parts that it reaches. -/
namespace Sys2Proof
namespace Machine

theorem State.ext_of {s t : State} (h : ∀ p : Part, p.of s = p.of t) : s = t := by
  have hp := h .pending
  cases s
  cases t
  simp only [State.mk.injEq]
  exact ⟨hp, h .free, h .phase, h .dict, h .dtx, h .clk, h .pins, h .ports, h .ptp, h .tx, h .waits, h .parts, h .hsIn, h .chans, h .gens, h .freed, h .hs,
    h .jobs, h .order, h .tenants, h .lap, h .rwork, h .units, h .les, h .saved, h .cmem, h .clus, h .mcache, h .kern, h .dstreams, h .ent, h .keys,
    h .stampSeq, h .flash, h .gate, h .trav, h .grp, h .lc, h .tamp, h .flt⟩

/-- Only the parts of `k` differ, as an equation between states. -/
theorem Within.eq_keepBut {k : Parts} {s t : State} (h : Within k s t) : t = State.keepBut k s t :=
  State.ext_of fun p => by
    rw [of_keepBut]
    cases hp : inParts k p with
    | true => rfl
    | false => exact h.same p hp

end Machine
end Sys2Proof
end

section
/-! A step: the front command, or a tick of the clocks. -/
namespace Sys2Proof
namespace Machine

variable {s : State}

theorem tickLe_leInit : tickLe leInit = leInit := rfl

theorem tickLe_regs (l : Le) : (tickLe l).regs = l.regs := by
  unfold tickLe
  split <;> rfl

theorem tickLe_job (l : Le) : (tickLe l).job = l.job := by
  unfold tickLe
  split <;> rfl

/-- The state with its clocks and engines one tick on. -/
def State.ticked (s : State) : State := { s with clk := tickClocks s.clk, les := Map.mapVals tickLe s.les }

theorem State.le_ticked (s : State) (e : Nat) : s.ticked.le e = tickLe (s.le e) := Map.getD_mapVals _ _ _ tickLe_leInit

theorem datum_le_tickClocks (c : Clocks) : c.datum ≤ (tickClocks c).datum := Nat.le_add_right _ _

theorem rtc_le_tickClocks (c : Clocks) : c.rtc ≤ (tickClocks c).rtc := Nat.le_add_right _ _

/-- The state after a tick of a block that runs: a kernel that waits is checked, and the ADC is read where its period ends. -/
def State.lively (s : State) : State :=
  (if s.samples (tickClocks s.clk) then s.ticked.verified.sample else s.ticked.verified).powerGood

theorem tick_of_down (h : s.phase = .down) : ∃ c : Clocks, tick s = { s with clk := c } ∧ c.refclk = s.clk.refclk ∧ c.gated = s.clk.gated ∧ s.clk.rtc ≤ c.rtc := by
  rw [tick, if_pos h]
  refine ⟨_, rfl, ?_⟩
  split
  · exact ⟨rfl, rfl, rtc_le_tickClocks _⟩
  · exact ⟨rfl, rfl, rtc_le_tickClocks _⟩

theorem tick_of_gated (h : s.phase ≠ .down) (hg : s.clk.gated = true) : tick s = { s with clk := tickClocks s.clk } := by
  rw [tick, if_neg h, if_pos hg]

theorem tick_of_lively (h : s.phase ≠ .down) (hg : s.clk.gated = false) : tick s = s.lively := by
  rw [tick, if_neg h, if_neg (by simp [hg])]
  rfl

/-- Nothing waits to be checked, or the loader's mode or a stopped block keeps it waiting. -/
def State.unchecked (s : State) : Prop := s.kern.verifying = none ∨ s.rd 0x2421 3 ≠ 1 ∨ s.runs = false

theorem State.verified_of_unchecked (h : s.unchecked) : s.verified = s := by
  unfold State.verified
  split
  · rfl
  · next k hk =>
    rcases h with h | h | h
    · exact absurd (h.symm.trans hk) (by simp)
    · rw [if_pos (.inl h)]
    · rw [if_pos (.inr (by simp [h]))]

/-- A kernel that fails its check: the loader's state, the check and the octet, and the failure counted. -/
def State.failed (s : State) (v : Nat) : State := ((s.wr 0x2421 3 4).wr 0x2421 4 v).event 0x2421 5 2

theorem State.rd_failed_state (hd : Map.wf s.dict = true) (v : Nat) : (s.failed v).rd 0x2421 3 = 4 := by
  rw [State.failed, State.rd_event, State.rd_wr_of_sub _ (by decide) (by decide) (by decide), State.rd_wr_of_sub _ (by decide) (by decide) (by decide),
    State.rd_wr_self hd]

theorem State.rd_failed_check (hd : Map.wf s.dict = true) (v : Nat) : (s.failed v).rd 0x2421 4 = v := by
  rw [State.failed, State.rd_event, State.rd_wr_of_sub _ (by decide) (by decide) (by decide), State.rd_wr_self (State.wf_wr hd _ _ _)]

theorem State.rd_failed_of_ne {idx sub : Nat} (hs : sub < 256) (hi : idx ≠ 0x2421) (v : Nat) : (s.failed v).rd idx sub = s.rd idx sub := by
  rw [State.failed, State.rd_event, State.rd_wr_of_sub _ (by decide) hs (.inl hi), State.rd_wr_of_sub _ (by decide) hs (.inl hi),
    State.rd_wr_of_sub _ (by decide) hs (.inl hi)]

theorem State.verified_of_fails {k : Kernel} {n off v : Nat} (hk : s.kern.verifying = some k) (hm : s.rd 0x2421 3 = 1) (hr : s.runs = true)
    (hc : s.loaderChecks k = some (n, off)) (hv : n * 2 ^ 24 + off % 2 ^ 24 = v) :
    s.verified = { s.failed v with kern := { s.kern with verifying := none } } := by
  unfold State.verified
  split
  · next h => exact absurd (hk.symm.trans h) (by simp)
  · next k' h =>
    obtain rfl : k = k' := Option.some.inj (hk.symm.trans h)
    rw [if_neg (by simp [hm, hr])]
    split
    · next n' off' hc' =>
      cases hc.symm.trans hc'
      rw [hv, State.failed]
    · next hc' => exact absurd (hc.symm.trans hc') (by simp)

theorem State.verified_of_passes {k : Kernel} (hk : s.kern.verifying = some k) (hm : s.rd 0x2421 3 = 1) (hr : s.runs = true)
    (hc : s.loaderChecks k = none) : s.verified = (s.wr 0x2421 3 2).wr 0x2421 4 0 := by
  simp [State.verified, hk, hm, hr, hc]

theorem State.rd_verified {idx sub : Nat} (hs : sub < 256) (hi : idx ≠ 0x2421) : s.verified.rd idx sub = s.rd idx sub := by
  by_cases h : s.unchecked
  · rw [State.verified_of_unchecked h]
  · simp only [State.unchecked, not_or, ne_eq, not_not, Bool.not_eq_false] at h
    obtain ⟨hk, hm, hr⟩ := h
    obtain ⟨k, hk⟩ := Option.ne_none_iff_exists'.1 hk
    cases hc : s.loaderChecks k with
    | none => rw [State.verified_of_passes hk hm hr hc, State.rd_wr_of_sub _ (by decide) hs (.inl hi), State.rd_wr_of_sub _ (by decide) hs (.inl hi)]
    | some p =>
      obtain ⟨v, hv⟩ : ∃ v, p.1 * 2 ^ 24 + p.2 % 2 ^ 24 = v := ⟨_, rfl⟩
      rw [State.verified_of_fails hk hm hr hc hv]
      exact (State.rd_congr (s := s.failed v) rfl _ _).trans (State.rd_failed_of_ne hs hi _)

theorem State.rd_sample {idx sub : Nat} (hs : sub < 256) (hi : idx ≠ 0x1202) : s.sample.rd idx sub = s.rd idx sub := by
  have hw (u : State) (a v : Nat) (ha : a < 256) : (u.wr 0x1202 a v).rd idx sub = u.rd idx sub := State.rd_wr_of_sub v ha hs (.inl hi)
  exact (hw _ 5 _ (by decide)).trans ((hw _ 4 _ (by decide)).trans (hw _ 3 _ (by decide)))

/-- What the check of a waiting kernel leaves, as the tick shows it. -/
def Checked (s t : State) (k : Kernel) : Prop :=
  match s.loaderChecks k with
  | some (n, off) => t.kern = { s.kern with verifying := none } ∧ t.rd 0x2421 3 = 4 ∧ t.rd 0x2421 4 = n * 2 ^ 24 + off % 2 ^ 24
  | none => t.kern = s.kern ∧ t.rd 0x2421 3 = 2

theorem State.verified_checked (hd : Map.wf s.dict = true) {k : Kernel} (hk : s.kern.verifying = some k) (hm : s.rd 0x2421 3 = 1)
    (hr : s.runs = true) : Checked s s.verified k := by
  unfold Checked
  split
  · next n off hc =>
    obtain ⟨v, hv⟩ : ∃ v, n * 2 ^ 24 + off % 2 ^ 24 = v := ⟨_, rfl⟩
    rw [State.verified_of_fails hk hm hr hc hv, hv]
    exact ⟨rfl, (State.rd_congr (s := s.failed v) rfl _ _).trans (State.rd_failed_state hd _),
      (State.rd_congr (s := s.failed v) rfl _ _).trans (State.rd_failed_check hd _)⟩
  · next hc =>
    rw [State.verified_of_passes hk hm hr hc]
    exact ⟨rfl, (State.rd_wr_of_sub _ (by decide) (by decide) (by decide)).trans (State.rd_wr_self hd _ _ _)⟩

theorem Checked.congr {t u : State} {k : Kernel} (h : Checked s t k) (hk : u.kern = t.kern) (hr : ∀ sub, sub < 256 → u.rd 0x2421 sub = t.rd 0x2421 sub) :
    Checked s u k := by
  unfold Checked at *
  rw [hk, hr 3 (by decide), hr 4 (by decide)]
  exact h

/-- What a tick shows of a block that runs: after the check, the ADC and PWRGD touch neither the kernels nor the entries but the ADC's. -/
theorem lively_after_verified (s : State) : Within (parts [.free, .dict, .pins]) s.ticked.verified s.lively ∧
    (∀ idx sub, sub < 256 → idx ≠ 0x1202 → s.lively.rd idx sub = s.ticked.verified.rd idx sub) := by
  unfold State.lively
  refine ⟨.powerGood rfl (.ite (.sample rfl .refl) .refl), fun idx sub hs hi => ?_⟩
  have hp (u : State) : u.powerGood.rd idx sub = u.rd idx sub := State.rd_congr ((Within.powerGood (k := parts [.free, .pins]) rfl .refl).same .dict rfl) _ _
  rw [hp]
  split
  · exact State.rd_sample hs hi
  · rfl

theorem State.powerGood_pins (s : State) : ∃ g, s.powerGood.pins = { s.pins with pwrgd := g } ∧ (s.pins.pwrgd = true → g = true) := by
  unfold State.powerGood
  split
  · exact ⟨s.pins.pwrgd, rfl, id⟩
  · next h => exact ⟨_, rfl, fun e => absurd e h⟩

theorem lively_pins (s : State) : ∃ g, s.lively.pins = { s.pins with pwrgd := g } ∧ (s.pins.pwrgd = true → g = true) := by
  have hv : Within (parts [.free, .dict, .dtx, .kern]) s.ticked (if s.samples (tickClocks s.clk) then s.ticked.verified.sample else s.ticked.verified) :=
    .ite (.sample rfl (.verified rfl .refl)) (.verified rfl .refl)
  have hp := State.powerGood_pins (if s.samples (tickClocks s.clk) then s.ticked.verified.sample else s.ticked.verified)
  have he : (if s.samples (tickClocks s.clk) then s.ticked.verified.sample else s.ticked.verified).pins = s.pins := hv.same .pins rfl
  rw [he] at hp
  exact hp

/-- The state after a tick: a block that is down or gated changes its clocks alone, and a block that runs is `lively`. -/
theorem tick_cases (s : State) : (∃ c : Clocks, tick s = { s with clk := c } ∧ s.runs = false ∧ c.refclk = s.clk.refclk ∧ c.gated = s.clk.gated ∧
      s.clk.rtc ≤ c.rtc ∧ (s.phase ≠ .down → s.clk.datum ≤ c.datum)) ∨ tick s = s.lively := by
  by_cases hd : s.phase = .down
  · obtain ⟨c, he, hrf, hg, hrtc⟩ := tick_of_down hd
    exact .inl ⟨c, he, by simp [State.runs, hd], hrf, hg, hrtc, fun h => absurd hd h⟩
  · cases hg : s.clk.gated with
    | true => exact .inl ⟨_, tick_of_gated hd hg, by simp [State.runs, hg], rfl, hg.symm ▸ hg, rtc_le_tickClocks _, fun _ => datum_le_tickClocks _⟩
    | false => exact .inr (tick_of_lively hd hg)

theorem lively_within (s : State) : Within (parts [.free, .dict, .dtx, .clk, .pins, .les, .kern]) s s.lively := by
  unfold State.lively
  have hv : Within (parts [.free, .dict, .dtx, .clk, .pins, .les, .kern]) s s.ticked.verified := .verified rfl (.set rfl rfl .refl)
  exact .powerGood rfl (.ite (.sample rfl hv) hv)

/-- What a tick does to a block that runs. -/
theorem lively_spec (hw : Map.wf s.dict = true) :
    s.lively = { s with clk := tickClocks s.clk, les := Map.mapVals tickLe s.les, dict := s.lively.dict, free := s.lively.free, kern := s.lively.kern,
                        dtx := s.lively.dtx, pins := s.lively.pins } ∧
      (∀ idx sub, sub < 256 → idx ≠ 0x1202 → idx ≠ 0x2421 → s.lively.rd idx sub = s.rd idx sub) ∧
      (s.unchecked → s.lively.kern = s.kern ∧ s.lively.dtx = s.dtx ∧ ∀ sub, sub < 256 → s.lively.rd 0x2421 sub = s.rd 0x2421 sub) ∧
      ∀ k, s.kern.verifying = some k → s.rd 0x2421 3 = 1 → s.runs = true → Checked s s.lively k := by
  obtain ⟨hv, hr⟩ := lively_after_verified s
  have hkern : s.lively.kern = s.ticked.verified.kern := hv.same .kern rfl
  have hclk : s.lively.clk = tickClocks s.clk := (hv.same .clk rfl).trans ((Within.verified (k := parts [.dict, .dtx, .kern]) rfl .refl).same .clk rfl)
  have hles : s.lively.les = Map.mapVals tickLe s.les := (hv.same .les rfl).trans ((Within.verified (k := parts [.dict, .dtx, .kern]) rfl .refl).same .les rfl)
  refine ⟨?_, fun idx sub hs h2 h4 => ?_, fun hu => ?_, fun k hk hm hrun => ?_⟩
  · rw [← hclk, ← hles]
    exact (lively_within s).eq_keepBut
  · exact (hr idx sub hs h2).trans (State.rd_verified hs h4)
  · have he : s.ticked.verified = s.ticked := State.verified_of_unchecked hu
    rw [he] at hv hr hkern
    exact ⟨hkern, hv.same .dtx rfl, fun sub hs => hr _ _ hs (by decide)⟩
  · exact (State.verified_checked (s := s.ticked) hw hk hm hrun).congr hkern fun sub hs => hr _ _ hs (by decide)

/-- Settles O54: the queue's front is run with its rest, and a tick reaches the clocks, the engines' buffers and waits, the check of a waiting kernel, the ADC
and PWRGD. -/
theorem stepRunsTheFrontCommand : Obligations.StepRunsTheFrontCommand := by
  refine ⟨fun _ _ _ => rfl, fun s hp hw => ⟨tick s, by rw [step, hp], ?_⟩⟩
  rcases tick_cases s with ⟨c, he, hrun, hrf, hg, hrtc, hdat⟩ | he
  · rw [he]
    exact ⟨rfl, rfl, fun _ => rfl, hrf, hg, hrtc, hdat, fun _ => ⟨rfl, rfl⟩, fun _ _ _ _ _ => rfl, fun _ => ⟨rfl, rfl, fun _ _ => rfl⟩,
      fun _ _ _ h => absurd (hrun.symm.trans h) (by decide)⟩
  · rw [he]
    obtain ⟨heq, hrd, hun, hch⟩ := lively_spec hw
    obtain ⟨g, hpins, hpg⟩ := lively_pins s
    have hclk : s.lively.clk = tickClocks s.clk := congrArg State.clk heq
    have hles : s.lively.les = Map.mapVals tickLe s.les := congrArg State.les heq
    have hle (e : Nat) : s.lively.le e = tickLe (s.le e) := by rw [← State.le_ticked, State.le, hles]; rfl
    refine ⟨?_, by rw [hpins], fun h => by rw [hpins, hpg h, ← h], by rw [hclk]; rfl, by rw [hclk]; rfl, by rw [hclk]; exact rtc_le_tickClocks _,
      fun _ => by rw [hclk]; exact datum_le_tickClocks _, fun e => by rw [hle]; exact ⟨tickLe_regs _, tickLe_job _⟩, hrd, hun, fun k hk hm hr => ?_⟩
    · exact (lively_within s).eq_keepBut
    · exact hch k hk hm hr

end Machine
end Sys2Proof
end

section
/-! The state that a cold reset leaves. -/
namespace Sys2Proof
namespace Machine

/-- Settles O55: `State.reset` lists no entry, no word and no engine, so each reads as its default. -/
theorem resetStateIsCleared : Obligations.ResetStateIsCleared :=
  ⟨rfl, fun _ _ => rfl, fun l _ => by simp [State.released, State.reset, bitAt], rfl, rfl, rfl, rfl, rfl, rfl, rfl, fun _ _ => rfl, fun _ _ => rfl, rfl, rfl,
    rfl, ⟨rfl, fun _ h => nomatch h⟩, rfl, rfl, rfl, rfl, rfl⟩

end Machine
end Sys2Proof
end

section
/-! Lane arithmetic: what each pass of the table of lane arithmetic leaves (R251). -/
namespace Sys2Proof
namespace Machine

variable {s : State} {w : Mw}

theorem grainOf_pos (g : Nat) : 0 < grainOf g := by
  unfold grainOf
  split
  · decide
  · split <;> decide

/-- A group of twice the span holds as many lanes of twice the width. -/
theorem laneCount_double (g n : Nat) : laneCount (2 * g) (2 * n) = laneCount g n := by
  unfold laneCount
  rw [Nat.mul_left_comm, Nat.mul_div_mul_left _ _ (by decide)]

/-- A modular pass names a descriptor that holds a modulus of its grain. -/
theorem narrow_defined (hn : narrow w = true) (hq : namesQ w true = true) : (narrow w && namesQ w true) = true := by rw [hn, hq]; rfl

/-- A pass goes where each lane of its function's value is known. -/
theorem vpass_passes_of {defined modular : Bool} {n1 n2 n3 nd g : Nat} {f : Descriptor → Nat → Nat → Nat → Nat} {lane : Nat → Nat}
    (h : Issues s w none) (hd : defined = true) (hm : modular = true → descOk (descIn s w) w.g = true)
    (hl : ∀ i, i < laneCount g nd → laneAt g (f (descIn s w) (groupIn s w w.src1 n1) (groupIn s w w.src2 n2) (groupIn s w w.dest n3)) i = lane i) :
    Passes (vpass s w defined modular n1 n2 n3 nd f) s w nd g (secIn s w w.src1 n1 || secIn s w w.src2 n2 || secIn s w w.dest n3) lane :=
  vpass_passes h hd hm rfl hl

/-- A pass over two groups, lane by lane. -/
theorem lane2_passes {defined modular : Bool} {f : Nat → Descriptor → Nat → Nat → Nat} (h : Issues s w none) (hd : defined = true)
    (hm : modular = true → descOk (descIn s w) w.g = true) :
    Passes (lane2 s w defined modular f) s w (spanOf w.sp) (grainOf w.g) (secIn s w w.src1 (spanOf w.sp) || secIn s w w.src2 (spanOf w.sp))
      (fun i => f (grainOf w.g) (descIn s w) (laneIn s w w.src1 (spanOf w.sp) (grainOf w.g) i) (laneIn s w w.src2 (spanOf w.sp) (grainOf w.g) i) %
        2 ^ grainOf w.g) :=
  vpass_passes h hd hm (by rw [secIn_zero, Bool.or_false]) fun i hi => laneAt_ofLanes_range _ _ _ i hi

theorem Passes.weaken {o : Out} {n g : Nat} {sec : Bool} {lane : Nat → Nat} {P : Nat → Nat → Prop} (h : Passes o s w n g sec lane)
    (hP : ∀ i, i < laneCount g n → P i (lane i)) : PassesWhere o s w n g sec P := ⟨lane, h, hP⟩

theorem addm_eq {g : Nat} {d : Descriptor} {a b : Nat} (hq : d.q < 2 ^ g) (ha : a < d.q) (hb : b < d.q) : Machine.addm g d a b % 2 ^ g = (a + b) % d.q := by
  rw [Machine.addm, if_pos ⟨ha, hb⟩, condSub]
  split
  · next h =>
    rw [Nat.mod_eq_of_lt (a := a + b - d.q) (by omega), Nat.mod_eq_sub_mod h, Nat.mod_eq_of_lt (a := a + b - d.q) (by omega)]
  · next h => rw [Nat.mod_eq_of_lt (by omega), Nat.mod_eq_of_lt (by omega)]

theorem subm_eq {g : Nat} {d : Descriptor} {a b : Nat} (hq : d.q < 2 ^ g) (ha : a < d.q) (hb : b < d.q) :
    Machine.subm g d a b % 2 ^ g = (a + d.q - b) % d.q := by
  rw [Machine.subm, if_pos ⟨ha, hb⟩, condSub]
  split
  · next h =>
    rw [Nat.mod_eq_of_lt (a := a + d.q - b - d.q) (by omega), Nat.mod_eq_sub_mod h, Nat.mod_eq_of_lt (a := a + d.q - b - d.q) (by omega)]
  · next h => rw [Nat.mod_eq_of_lt (by omega), Nat.mod_eq_of_lt (by omega)]

theorem redb_eq {g : Nat} {d : Descriptor} {a : Nat} (hd : d.q ≠ 0) (hq : d.q < 2 ^ g) (ha : a < 2 ^ d.barrettS) : Machine.redb g d a % 2 ^ g = a % d.q := by
  rw [Machine.redb, if_pos ha, Nat.mod_eq_of_lt ((Nat.mod_lt _ (Nat.pos_of_ne_zero hd)).trans hq)]

theorem descOk.q_ne_zero {d : Descriptor} {g : Nat} (h : descOk d g = true) : d.q ≠ 0 := by
  simp only [descOk, Bool.and_eq_true, bne_iff_ne] at h
  exact h.1

theorem redb_passes (h : Issues s w none) (hd : (narrow w && namesQ w true) = true) (hq : descOk (descIn s w) w.g = true) :
    Passes (exec (.redb w) s) s w (spanOf w.sp) (grainOf w.g) (secIn s w w.src1 (spanOf w.sp)) (fun i =>
      Machine.redb (grainOf w.g) (descIn s w) (laneIn s w w.src1 (spanOf w.sp) (grainOf w.g) i) % 2 ^ grainOf w.g) := by
  rw [exec_redb, execRedb]
  refine vpass_passes h hd (fun _ => hq) (by simp only [secIn_zero, Bool.or_false]) fun i hi => ?_
  exact laneAt_ofLanes_map (grainOf w.g) (grainOf w.g) _ _ _ i hi

theorem redw_passes (h : Issues s w none) (hd : (narrow w && namesQ w true) = true) (hq : descOk (descIn s w) w.g = true) :
    Passes (exec (.redw w) s) s w (spanOf w.sp) (grainOf w.g) (secIn s w w.src1 (2 * spanOf w.sp)) (fun i =>
      Machine.redw (grainOf w.g) (descIn s w) (laneIn s w w.src1 (2 * spanOf w.sp) (2 * grainOf w.g) i) % 2 ^ grainOf w.g) := by
  rw [exec_redw, execRedw]
  refine vpass_passes h hd (fun _ => hq) (by simp only [secIn_zero, Bool.or_false]) fun i hi => ?_
  exact laneAt_ofLanes_map (grainOf w.g) (2 * grainOf w.g) _ _ _ i hi

theorem mulm_eq {g : Nat} {d : Descriptor} {a b : Nat} (h : a * b < d.q * 2 ^ g) : Machine.mulm g d a b = mont g d (a * b) := if_pos h

theorem redw_eq {g : Nat} {d : Descriptor} {t : Nat} (h : t < d.q * 2 ^ g) : Machine.redw g d t = mont g d t := if_pos h

/-- Settles O1: each pass is `vpass` over one or two groups, and its lane function is the table's within its bounds. -/
theorem plainLanesComplete : Obligations.PlainLanesComplete := by
  refine ⟨fun s w h => ⟨fun hn => ?_, fun hn => ?_, ?_⟩, fun s w h hn hq hd => ?_⟩
  · rw [exec_add, execAdd]
    exact lane2_passes h hn fun h => nomatch h
  · rw [exec_sub, execSub]
    exact lane2_passes h hn fun h => nomatch h
  · rw [exec_nop, execNop]
    exact issue_go h rfl (by simp) rfl rfl
  have hdef := narrow_defined hn hq
  have hm : true = true → descOk (descIn s w) w.g = true := fun _ => hd
  refine ⟨?_, ?_, (redb_passes h hdef hd).weaken fun i _ hq ha => redb_eq (descOk.q_ne_zero hd) hq ha, ?_,
    (redw_passes h hdef hd).weaken fun i _ ht => by rw [redw_eq ht]⟩
  · rw [exec_addm, execAddm]
    exact (lane2_passes h hdef hm).weaken fun i _ hq ha hb => addm_eq hq ha hb
  · rw [exec_subm, execSubm]
    exact (lane2_passes h hdef hm).weaken fun i _ hq ha hb => subm_eq hq ha hb
  · rw [exec_mulm, execMulm]
    exact (lane2_passes h hdef hm).weaken fun i _ hb => by rw [mulm_eq hb]

theorem dvd_mont_numerator {g t : Nat} {d : Descriptor} (hd : (d.q * d.qnegInv + 1) % 2 ^ g = 0) : 2 ^ g ∣ t + t * d.qnegInv % 2 ^ g * d.q := by
  have hm : t + t * d.qnegInv % 2 ^ g * d.q ≡ t * (d.q * d.qnegInv + 1) [MOD 2 ^ g] :=
    calc t + t * d.qnegInv % 2 ^ g * d.q
      _ ≡ t + t * d.qnegInv * d.q [MOD 2 ^ g] := ((Nat.mod_modEq _ _).mul_right _).add_left _
      _ = t * (d.q * d.qnegInv + 1) := by ring
  exact (Nat.modEq_zero_iff_dvd).1 (hm.trans ((Nat.modEq_zero_iff_dvd).2 (Dvd.dvd.mul_left (Nat.dvd_of_mod_eq_zero hd) t)))

/-- Montgomery reduction divides exactly: what it adds to `t` is a multiple of the modulus (R203). -/
theorem mont_mul {g t : Nat} {d : Descriptor} (hd : (d.q * d.qnegInv + 1) % 2 ^ g = 0) : mont g d t * 2 ^ g = t + t * d.qnegInv % 2 ^ g * d.q :=
  Nat.div_mul_cancel (dvd_mont_numerator hd)

theorem mont_lt {g t : Nat} {d : Descriptor} (ht : t < d.q * 2 ^ g) : mont g d t < 2 * d.q := by
  refine Nat.div_lt_of_lt_mul ?_
  have hm : t * d.qnegInv % 2 ^ g * d.q ≤ 2 ^ g * d.q := Nat.mul_le_mul_right _ (Nat.mod_lt _ (Nat.two_pow_pos g)).le
  calc t + t * d.qnegInv % 2 ^ g * d.q < d.q * 2 ^ g + 2 ^ g * d.q := Nat.add_lt_add_of_lt_of_le ht hm
    _ = 2 ^ g * (2 * d.q) := by ring

theorem laneAt_mul_lt (g v u i j : Nat) : laneAt g v i * laneAt g u j < 2 ^ (2 * g) := by
  rw [Nat.two_mul, Nat.pow_add]
  exact Nat.mul_lt_mul'' (laneAt_lt _ _ _) (laneAt_lt _ _ _)

theorem clmul_lt (n : Nat) {k a : Nat} (b : Nat) (ha : a < 2 ^ k) : clmul n a b < 2 ^ (k + n) := by
  induction n generalizing k a b with
  | zero => exact Nat.two_pow_pos _
  | succ n ih =>
    have hn : clmul n (2 * a) (b / 2) < 2 ^ (k + (n + 1)) := by
      rw [← Nat.add_assoc, Nat.add_right_comm]
      exact ih (k := k + 1) _ (by rw [Nat.pow_succ]; omega)
    refine Nat.xor_lt_two_pow ?_ hn
    split
    · exact ha.trans_le (Nat.pow_le_pow_right (by decide) (by omega))
    · exact Nat.two_pow_pos _

/-- A pass into the wide lanes of a group of twice the span. -/
theorem wide_lane {g n i : Nat} (f : Nat → Nat) (hi : i < laneCount (2 * g) (2 * n)) :
    laneAt (2 * g) (ofLanes (2 * g) ((List.range (laneCount g n)).map f)) i = f i % 2 ^ (2 * g) :=
  laneAt_ofLanes_range _ _ _ i (laneCount_double g n ▸ hi)

theorem mulw_passes (h : Issues s w none) (hd : narrow w = true) :
    Passes (exec (.mulw w) s) s w (2 * spanOf w.sp) (2 * grainOf w.g) (secIn s w w.src1 (spanOf w.sp) || secIn s w w.src2 (spanOf w.sp)) (fun i =>
      laneIn s w w.src1 (spanOf w.sp) (grainOf w.g) i * laneIn s w w.src2 (spanOf w.sp) (grainOf w.g) i) := by
  rw [exec_mulw, execMulw]
  refine vpass_passes h hd (by simp) (by simp only [secIn_zero, Bool.or_false]) fun i hi => ?_
  rw [narrowLanes, wide_lane _ hi]
  exact Nat.mod_eq_of_lt (laneAt_mul_lt _ _ _ _ _)

theorem dot_passes (h : Issues s w none) (hd : narrow w = true) :
    Passes (exec (.dot w) s) s w (2 * spanOf w.sp) (2 * grainOf w.g)
      (secIn s w w.src1 (spanOf w.sp) || secIn s w w.src2 (spanOf w.sp) || secIn s w w.dest (2 * spanOf w.sp)) (fun i =>
        (laneIn s w w.dest (2 * spanOf w.sp) (2 * grainOf w.g) i +
          laneIn s w w.src1 (spanOf w.sp) (grainOf w.g) i * laneIn s w w.src2 (spanOf w.sp) (grainOf w.g) i) % 2 ^ (2 * grainOf w.g)) := by
  rw [exec_dot, execDot]
  refine vpass_passes h hd (by simp) rfl fun i hi => ?_
  rw [narrowLanes, wide_lane _ hi]
  rfl

theorem clmul_passes (h : Issues s w none) (hd : oneGrain w 1 = true) :
    Passes (exec (.clmul w) s) s w (2 * spanOf w.sp) 72 (secIn s w w.src1 (spanOf w.sp) || secIn s w w.src2 (spanOf w.sp)) (fun i =>
      Machine.clmul 36 (laneIn s w w.src1 (spanOf w.sp) (grainOf w.g) i) (laneIn s w w.src2 (spanOf w.sp) (grainOf w.g) i)) := by
  have hg : w.g = 1 := by simpa [oneGrain] using (Bool.and_eq_true_iff.1 hd).1
  have hgr : grainOf w.g = 36 := by rw [hg]; rfl
  rw [exec_clmul, execClmul, hgr]
  refine vpass_passes h hd (by simp) (by simp only [secIn_zero, Bool.or_false]) fun i hi => ?_
  rw [narrowLanes, hgr]
  refine (wide_lane (g := 36) _ hi).trans (Nat.mod_eq_of_lt ?_)
  exact clmul_lt 36 _ (laneAt_lt _ _ _)

/-- Settles O2: Montgomery reduction adds a multiple of the modulus that makes the sum divisible, and the wide products fit their lanes. -/
theorem wideProductsAndReductionComplete : Obligations.WideProductsAndReductionComplete :=
  ⟨fun g t d hd ht => ⟨mont_lt ht, by rw [mont_mul hd, Nat.add_mul_mod_self_right]⟩,
    fun _ _ h => ⟨mulw_passes h, dot_passes h, clmul_passes h⟩⟩

end Machine
end Sys2Proof
end

section
/-! The transforms and the base multiplication (R251, R253, R254). -/
namespace Sys2Proof
namespace Machine

variable {s : State} {w : Mw}

theorem bitRev_lt (n i : Nat) : bitRev n i < 2 ^ n := by
  induction n generalizing i with
  | zero => exact Nat.one_pos
  | succ n ih =>
    have h := ih (i / 2)
    have hb : i % 2 * 2 ^ n ≤ 1 * 2 ^ n := Nat.mul_le_mul_right _ (by omega)
    rw [bitRev, Nat.pow_succ]
    omega

theorem powMod_eq (q n b e : Nat) (he : e < 2 ^ n) : powMod q n b e = b ^ e % q := by
  induction n generalizing b e with
  | zero => rw [powMod, Nat.lt_one_iff.1 he, Nat.pow_zero]
  | succ n ih =>
    have hb : b ^ e = (if e % 2 = 1 then b else 1) * (b * b) ^ (e / 2) := by
      conv_lhs => rw [← Nat.mod_add_div e 2, Nat.pow_add, Nat.pow_mul, Nat.pow_two]
      rcases Nat.mod_two_eq_zero_or_one e with h | h <;> simp [h]
    rw [powMod, ih _ _ (by rw [Nat.pow_succ] at he; omega), hb, ← Nat.pow_mod, Nat.mul_mod, Nat.mod_mod, ← Nat.mul_mod]

theorem gammaOf_eq {k : Nat} : gammaOf k = 17 ^ (2 * bitRev 7 k + 1) * 2 ^ 18 % 3329 := by
  have h := bitRev_lt 7 k
  rw [gammaOf, powMod_eq _ _ _ _ (by omega), Nat.mod_mul_mod]

theorem whole_grain {g : Nat} (h : whole w g = true) : w.g = g := by
  simp only [whole, Bool.and_eq_true, beq_iff_eq] at h
  exact h.1

theorem getElem_basemul (d : Descriptor) (a b : List Nat) {i : Nat} (h : i < (basemul d a b).length) :
    (basemul d a b)[i] = if i % 2 = 0 then (basemulPair d (i / 2) (a.getD (2 * (i / 2)) 0) (a.getD (2 * (i / 2) + 1) 0) (b.getD (2 * (i / 2)) 0)
        (b.getD (2 * (i / 2) + 1) 0)).1
      else (basemulPair d (i / 2) (a.getD (2 * (i / 2)) 0) (a.getD (2 * (i / 2) + 1) 0) (b.getD (2 * (i / 2)) 0) (b.getD (2 * (i / 2) + 1) 0)).2 := by
  simp [basemul]

theorem basemulPair_eq {d : Descriptor} {k a0 a1 b0 b1 : Nat} (h0 : a0 < 2 * d.q) (h1 : a1 < 2 * d.q) (h2 : b0 < 2 * d.q) (h3 : b1 < 2 * d.q) :
    basemulPair d k a0 a1 b0 b1 =
      ((Machine.mulm 18 d a0 b0 + Machine.mulm 18 d (Machine.mulm 18 d a1 b1) (17 ^ (2 * bitRev 7 k + 1) * 2 ^ 18 % 3329)) % 2 ^ 18,
        (Machine.mulm 18 d a0 b1 + Machine.mulm 18 d a1 b0) % 2 ^ 18) := by
  rw [basemulPair, if_pos ⟨h0, h1, h2, h3⟩, gammaOf_eq]

theorem basemul_passes (h : Issues s w none) (hw : whole w 0 = true) (hq : w.q = 0) (hd : descOk (descIn s w) 0 = true) :
    Passes (exec (.basemul w) s) s w 4 18 (secIn s w w.src1 4 || secIn s w w.src2 4) (fun i =>
      (basemul (descIn s w) (lanesOf 18 256 (groupIn s w w.src1 4)) (lanesOf 18 256 (groupIn s w w.src2 4))).getD i 0 % 2 ^ 18) := by
  rw [exec_basemul, execBasemul]
  refine vpass_passes h (by rw [hw, hq]; rfl) (fun _ => by rw [whole_grain hw]; exact hd) (by simp only [secIn_zero, Bool.or_false]) fun i hi => ?_
  have hl : i < (basemul (descIn s w) (lanesOf 18 256 (groupIn s w w.src1 4)) (lanesOf 18 256 (groupIn s w w.src2 4))).length := by
    rw [basemul, List.length_map, List.length_range]
    exact hi
  rw [laneAt_ofLanes _ _ _ hl, List.getD_eq_getElem _ _ hl]

/-- Settles O3: lane `2k` and `2k + 1` of the product are the two parts of pair `k`. -/
theorem basemulCompletes : Obligations.BasemulCompletes := by
  intro s w h hw hq hd
  refine (basemul_passes h hw hq hd).weaken fun i hi ha0 ha1 hb0 hb1 => ?_
  unfold laneIn at *
  have hi : i < 256 := hi
  have hk : 2 * (i / 2) + 1 < 256 := by omega
  have hl : i < (basemul (descIn s w) (lanesOf 18 256 (groupIn s w w.src1 4)) (lanesOf 18 256 (groupIn s w w.src2 4))).length := by
    rw [basemul, List.length_map, List.length_range]
    exact hi
  rw [List.getD_eq_getElem _ _ hl, getElem_basemul, lanesOf_getD _ _ _ _ (by omega), lanesOf_getD _ _ _ _ hk, lanesOf_getD _ _ _ _ (by omega),
    lanesOf_getD _ _ _ _ hk, basemulPair_eq ha0 ha1 hb0 hb1]
  split
  · exact Nat.mod_mod _ _
  · exact Nat.mod_mod _ _

/-! The butterflies. -/

theorem add_half_div {j d : Nat} (h : j % (2 * d) < d) : (j + d) / (2 * d) = j / (2 * d) := by
  have hj := Nat.mod_add_div j (2 * d)
  have hlt : j + d < 2 * d * (j / (2 * d) + 1) := by rw [Nat.mul_succ]; omega
  exact Nat.div_eq_of_lt_le (by rw [Nat.mul_comm]; omega) (by rw [Nat.mul_comm]; exact hlt)

theorem add_half_mod {j d : Nat} (h : j % (2 * d) < d) : ¬ (j + d) % (2 * d) < d := by
  have hd := Nat.mod_add_div (j + d) (2 * d)
  rw [add_half_div h] at hd
  have hj := Nat.mod_add_div j (2 * d)
  omega

/-- The lower half of a block of `2d` has its upper half within a polynomial whose length is a multiple of `2d`. -/
theorem add_half_lt {j d n : Nat} (hn : 2 * d ∣ n) (hj : j < n) (h : j % (2 * d) < d) : j + d < n := by
  obtain ⟨m, rfl⟩ := hn
  have hd := Nat.mod_add_div j (2 * d)
  have hm : j / (2 * d) < m := Nat.div_lt_of_lt_mul hj
  have hle : 2 * d * (j / (2 * d) + 1) ≤ 2 * d * m := Nat.mul_le_mul_left _ hm
  rw [Nat.mul_succ] at hle
  omega

theorem length_butterfly (pair : Nat → Nat → Nat → Nat × Nat) (zeta : Nat → Nat → Nat) (d n : Nat) (ls : List Nat) :
    (butterfly pair zeta d n ls).length = n := by
  rw [butterfly, List.length_map, List.length_range]

theorem getD_butterfly_low (pair : Nat → Nat → Nat → Nat × Nat) (zeta : Nat → Nat → Nat) {d n j : Nat} (ls : List Nat) (hj : j < n) (h : j % (2 * d) < d) :
    (butterfly pair zeta d n ls).getD j 0 = (pair (zeta (j / (2 * d)) j) (ls.getD j 0) (ls.getD (j + d) 0)).1 := by
  rw [List.getD_eq_getElem _ _ (by rw [length_butterfly]; exact hj)]
  simp only [butterfly, List.getElem_map, List.getElem_range]
  exact if_pos h

theorem getD_butterfly_high (pair : Nat → Nat → Nat → Nat × Nat) (zeta : Nat → Nat → Nat) {d n j : Nat} (ls : List Nat) (hj : j + d < n)
    (h : j % (2 * d) < d) :
    (butterfly pair zeta d n ls).getD (j + d) 0 = (pair (zeta (j / (2 * d)) j) (ls.getD j 0) (ls.getD (j + d) 0)).2 := by
  rw [List.getD_eq_getElem _ _ (by rw [length_butterfly]; exact hj)]
  simp only [butterfly, List.getElem_map, List.getElem_range, Nat.add_sub_cancel]
  rw [if_neg (add_half_mod h), add_half_div h]

/-- The lanes that one layer of a transform computes, with the ROM's twiddles or the supplied ones. -/
def layerLanes (s : State) (w : Mw) (pair : Descriptor → Nat → Nat → Nat → Nat × Nat) (k : Nat → Nat) : List Nat :=
  butterfly (pair (descIn s w)) (fun blk j => if (descIn s w).rom then romZeta w.g (k blk) else laneIn s w w.src2 4 (grainOf w.g) j) (2 ^ w.pat)
    (laneCount (grainOf w.g) 4) (lanesOf (grainOf w.g) (laneCount (grainOf w.g) 4) (groupIn s w w.src1 4))

theorem length_layerLanes (pair : Descriptor → Nat → Nat → Nat → Nat × Nat) (k : Nat → Nat) :
    (layerLanes s w pair k).length = laneCount (grainOf w.g) 4 := length_butterfly _ _ _ _ _

theorem transform_passes {defined : Bool} {pair : Descriptor → Nat → Nat → Nat → Nat × Nat} {k : Nat → Nat} (h : Issues s w none)
    (hd : defined = true) (hq : descOk (descIn s w) w.g = true) :
    Passes (transform s w defined pair k) s w 4 (grainOf w.g) (secIn s w w.src1 4 || (!(descIn s w).rom && secIn s w w.src2 4))
      (fun i => (layerLanes s w pair k).getD i 0 % 2 ^ grainOf w.g) := by
  refine ⟨_, issue_go h hd (by simp) rfl (if_neg ?_), passTo_writeGroup _ _ _ _ _ fun i hi => ?_⟩
  · simpa [descIn] using hq
  · have hl : i < (layerLanes s w pair k).length := by rw [length_layerLanes]; exact hi
    exact (laneAt_ofLanes _ (layerLanes s w pair k) i hl).trans (congrArg (· % _) (List.getD_eq_getElem _ _ hl).symm)

/-- The two results of each pair of a layer. -/
theorem getD_layerLanes {pair : Descriptor → Nat → Nat → Nat → Nat × Nat} {k : Nat → Nat} {j : Nat} (hn : 2 * 2 ^ w.pat ∣ laneCount (grainOf w.g) 4)
    (hj : j < laneCount (grainOf w.g) 4) (hlow : j % (2 * 2 ^ w.pat) < 2 ^ w.pat) :
    let p := pair (descIn s w) (if (descIn s w).rom then romZeta w.g (k (j / (2 * 2 ^ w.pat))) else laneIn s w w.src2 4 (grainOf w.g) j)
      (laneIn s w w.src1 4 (grainOf w.g) j) (laneIn s w w.src1 4 (grainOf w.g) (j + 2 ^ w.pat))
    (layerLanes s w pair k).getD j 0 = p.1 ∧ (layerLanes s w pair k).getD (j + 2 ^ w.pat) 0 = p.2 := by
  have hup := add_half_lt hn hj hlow
  rw [layerLanes, getD_butterfly_low _ _ _ hj hlow, getD_butterfly_high _ _ _ hup hlow, lanesOf_getD _ _ _ _ hj, lanesOf_getD _ _ _ _ hup]
  exact ⟨rfl, rfl⟩

theorem layer_iff {g top : Nat} : layer w g top = true ↔ whole w g = true ∧ w.q = g ∧ w.pat ≤ top := by
  simp [layer, and_assoc]

theorem two_pow_pat_dvd {top : Nat} (h : w.pat ≤ top) : 2 * 2 ^ w.pat ∣ 2 ^ (top + 1) := by
  rw [← Nat.pow_succ']
  exact Nat.pow_dvd_pow 2 (by omega)

/-- The layers of both grains: the grain, and blocks that divide the lanes. -/
theorem layer_lanes {g top : Nat} (h : layer w g top = true) (hl : laneCount (grainOf g) 4 = 2 ^ (top + 1)) :
    w.g = g ∧ 2 * 2 ^ w.pat ∣ laneCount (grainOf w.g) 4 := by
  obtain ⟨hw, -, hp⟩ := layer_iff.1 h
  have hg := whole_grain hw
  exact ⟨hg, by rw [hg, hl]; exact two_pow_pat_dvd hp⟩

theorem ctPair_eq {g : Nat} {d : Descriptor} {z a b : Nat} (h : a + 2 * d.q < 2 ^ g) :
    ctPair g d z a b = (a + Machine.mulm g d z b, a + 2 * d.q - Machine.mulm g d z b) := if_pos h

theorem gsPair_eq {g k : Nat} {d : Descriptor} {z a b : Nat} (ha : a < k * d.q) (hb : b < k * d.q) :
    gsPair g k d z a b = ((a + b) % 2 ^ g, Machine.mulm g d z (b + k * d.q - a)) := if_pos ⟨ha, hb⟩

/-- A Cooley-Tukey layer of a grain, from its block `b0` on. -/
theorem ct_layer {defined : Bool} {g b0 : Nat} (h : Issues s w none) (hd : defined = true) (hq : descOk (descIn s w) w.g = true)
    (hg : grainOf w.g = g) (hn : 2 * 2 ^ w.pat ∣ laneCount (grainOf w.g) 4) :
    ∃ lane, Passes (transform s w defined (ctPair g) (ctIndex (2 ^ w.pat) b0)) s w 4 g
        (secIn s w w.src1 4 || (!(descIn s w).rom && secIn s w w.src2 4)) lane ∧
      ∀ j, j < laneCount g 4 → j % (2 * 2 ^ w.pat) < 2 ^ w.pat → laneIn s w w.src1 4 g j + 2 * (descIn s w).q < 2 ^ g →
        (let z := if (descIn s w).rom then romZeta w.g (128 / 2 ^ w.pat + (b0 + j / (2 * 2 ^ w.pat))) else laneIn s w w.src2 4 g j
        let b := laneIn s w w.src1 4 g (j + 2 ^ w.pat)
        lane j = (laneIn s w w.src1 4 g j + Machine.mulm g (descIn s w) z b) % 2 ^ g ∧
        lane (j + 2 ^ w.pat) = (laneIn s w w.src1 4 g j + 2 * (descIn s w).q - Machine.mulm g (descIn s w) z b) % 2 ^ g) := by
  subst hg
  refine ⟨_, transform_passes h hd hq, fun j hj hlow ha => ?_⟩
  obtain ⟨h1, h2⟩ := getD_layerLanes (s := s) (pair := ctPair (grainOf w.g)) (k := ctIndex (2 ^ w.pat) b0) hn hj hlow
  rw [ctPair_eq ha] at h1 h2
  rw [h1, h2]
  exact ⟨rfl, rfl⟩

/-- A Gentleman-Sande layer of a grain, from its block `b0` on. -/
theorem gs_layer {defined : Bool} {g k b0 : Nat} (h : Issues s w none) (hd : defined = true) (hq : descOk (descIn s w) w.g = true)
    (hg : grainOf w.g = g) (hn : 2 * 2 ^ w.pat ∣ laneCount (grainOf w.g) 4) :
    ∃ lane, Passes (transform s w defined (gsPair g k) (gsIndex (2 ^ w.pat) b0)) s w 4 g
        (secIn s w w.src1 4 || (!(descIn s w).rom && secIn s w w.src2 4)) lane ∧
      ∀ j, j < laneCount g 4 → j % (2 * 2 ^ w.pat) < 2 ^ w.pat → laneIn s w w.src1 4 g j < k * (descIn s w).q →
        laneIn s w w.src1 4 g (j + 2 ^ w.pat) < k * (descIn s w).q →
        (let z := if (descIn s w).rom then romZeta w.g (256 / 2 ^ w.pat - 1 - (b0 + j / (2 * 2 ^ w.pat))) else laneIn s w w.src2 4 g j
        let b := laneIn s w w.src1 4 g (j + 2 ^ w.pat)
        lane j = (laneIn s w w.src1 4 g j + b) % 2 ^ g ∧
        lane (j + 2 ^ w.pat) = Machine.mulm g (descIn s w) z (b + k * (descIn s w).q - laneIn s w w.src1 4 g j) % 2 ^ g) := by
  subst hg
  refine ⟨_, transform_passes h hd hq, fun j hj hlow ha hb => ?_⟩
  obtain ⟨h1, h2⟩ := getD_layerLanes (s := s) (pair := gsPair (grainOf w.g) k) (k := gsIndex (2 ^ w.pat) b0) hn hj hlow
  rw [gsPair_eq ha hb] at h1 h2
  rw [h1, h2]
  exact ⟨Nat.mod_mod _ _, rfl⟩

theorem gsK_one : gsK 1 = 4096 := rfl

/-- A TOP pass goes across two groups, with the second twiddle of the ROM. -/
theorem topPass_passes {f : Descriptor → Nat → Nat → Nat → Nat} (h : Issues s w none) (hw : whole w 1 = true) (hq : w.q = 1)
    (hd : descOk (descIn s w) 1 = true) (hr : (descIn s w).rom = true) :
    Passes (topPass s w f) s w 4 36 (secIn s w w.src1 4 || secIn s w w.src2 4)
      (fun i => f (descIn s w) (romZeta 1 1) (laneIn s w w.src1 4 36 i) (laneIn s w w.src2 4 36 i) % 2 ^ 36) := by
  have hg := whole_grain hw
  refine ⟨_, issue_go h (by rw [hw, hq]; rfl) (by simp) rfl (if_neg ?_), passTo_writeGroup _ _ _ _ _ fun i hi => ?_⟩
  · rw [hg]
    simpa [descIn] using ⟨hd, hr⟩
  · exact laneAt_ofLanes_range _ _ _ i hi

/-- Settles O4: a layer's two results of a pair stand in its lanes `j` and `j + d`, and a TOP pass gives them in two instructions. -/
theorem allButterfliesComplete : Obligations.AllButterfliesComplete := by
  refine ⟨fun s w h hq => ⟨fun hl => ?_, fun hl => ?_⟩, fun s w h hw hq hd hr => ⟨?_, ?_, ?_, ?_⟩⟩
  · obtain ⟨hg, hn⟩ := layer_lanes hl rfl
    exact ⟨ct_layer h hl hq (by rw [hg]; rfl) hn, gs_layer h hl hq (by rw [hg]; rfl) hn⟩
  · obtain ⟨hg, hn⟩ := layer_lanes hl rfl
    exact ⟨ct_layer h hl hq (by rw [hg]; rfl) hn, ct_layer h hl hq (by rw [hg]; rfl) hn, gs_layer h hl hq (by rw [hg]; rfl) hn,
      gs_layer h hl hq (by rw [hg]; rfl) hn⟩
  · rw [exec_ct36TopSum, execCt36TopSum]
    exact (topPass_passes h hw hq hd hr).weaken fun i _ ha => by rw [ctPair_eq ha]
  · rw [exec_ct36TopDiff, execCt36TopDiff]
    exact (topPass_passes h hw hq hd hr).weaken fun i _ ha => by rw [ctPair_eq ha]
  · rw [exec_gs36TopSum, execGs36TopSum, gsK_one]
    exact (topPass_passes h hw hq hd hr).weaken fun i _ ha hb => by rw [gsPair_eq ha hb, Nat.mod_mod]
  · rw [exec_gs36TopDiff, execGs36TopDiff, gsK_one]
    exact (topPass_passes h hw hq hd hr).weaken fun i _ ha hb => by rw [gsPair_eq ha hb]

end Machine
end Sys2Proof
end

section
/-! Logic, shifts, comparisons, selection and masks (R255). -/
namespace Sys2Proof
namespace Machine

variable {s : State} {w : Mw}

theorem Passes.congr {o : Out} {n g : Nat} {sec : Bool} {lane lane' : Nat → Nat} (h : Passes o s w n g sec lane) (hl : ∀ i, lane i = lane' i) :
    Passes o s w n g sec lane' := funext hl ▸ h

theorem bitAt_eq_testBit (v i : Nat) : bitAt v i = v.testBit i := by
  rw [bitAt, Nat.testBit_eq_decide_div_mod_eq]
  rfl

theorem laneCount_72 (n : Nat) : laneCount 72 n = 16 * n := by
  rw [laneCount, show 1152 * n = 72 * (16 * n) by ring, Nat.mul_div_cancel_left _ (by decide)]

theorem laneIn_lt (f : BitVec 5) (n g i : Nat) : laneIn s w f n g i < 2 ^ g := laneAt_lt _ _ _

theorem bitwise_passes {f : Nat → Nat → Nat} (h : Issues s w none) (hw : w.sp < 3) (hf : ∀ x y, x < 2 ^ 72 → y < 2 ^ 72 → f x y < 2 ^ 72) :
    Passes (bitwise s w f) s w (spanOf w.sp) 72 (secIn s w w.src1 (spanOf w.sp) || secIn s w w.src2 (spanOf w.sp))
      (fun i => f (laneIn s w w.src1 (spanOf w.sp) 72 i) (laneIn s w w.src2 (spanOf w.sp) 72 i)) := by
  refine vpass_passes h (by simpa using hw) (by simp) (by rw [secIn_zero, Bool.or_false]) fun i hi => ?_
  rw [laneCount_72] at hi
  exact (laneAt_ofLanes_range _ _ _ i hi).trans (Nat.mod_eq_of_lt (hf _ _ (laneAt_lt _ _ _) (laneAt_lt _ _ _)))

theorem foldl_lt {f : Nat → Nat → Nat} {n : Nat} (hf : ∀ x y, x < n → y < n → f x y < n) {l : List Nat} (hl : ∀ x ∈ l, x < n) {z : Nat} (hz : z < n) :
    l.foldl f z < n := by
  induction l generalizing z with
  | nil => exact hz
  | cons x l ih => exact ih (fun y hy => hl y (List.mem_cons_of_mem _ hy)) (hf z x hz (hl x List.mem_cons_self))

theorem lanesOf_lt {g n v x : Nat} (h : x ∈ lanesOf g n v) : x < 2 ^ g := by
  obtain ⟨i, -, rfl⟩ := List.mem_map.1 h
  exact laneAt_lt _ _ _

theorem laneAt_of_lt {g v : Nat} (h : v < 2 ^ g) (i : Nat) : laneAt g v i = if i = 0 then v else 0 := by
  unfold laneAt
  split
  · next h0 => rw [h0, Nat.mul_zero, Nat.pow_zero, Nat.div_one, Nat.mod_eq_of_lt h]
  · next h0 =>
    have hle : 2 ^ g ≤ 2 ^ (g * i) := Nat.pow_le_pow_right (by decide) (Nat.le_mul_of_pos_right _ (Nat.pos_of_ne_zero h0))
    rw [Nat.div_eq_of_lt (h.trans_le hle), Nat.zero_mod]

theorem reduceWords_passes {f : Nat → Nat → Nat} {z : Nat} (h : Issues s w none) (hw : w.sp < 3) (hf : ∀ x y, x < 2 ^ 72 → y < 2 ^ 72 → f x y < 2 ^ 72)
    (hz : z < 2 ^ 72) :
    Passes (reduceWords s w f z) s w 1 72 (secIn s w w.src1 (spanOf w.sp))
      (fun i => if i = 0 then (lanesOf 72 (16 * spanOf w.sp) (groupIn s w w.src1 (spanOf w.sp))).foldl f z else 0) := by
  refine vpass_passes h (by simpa using hw) (by simp) (by simp only [secIn_zero, Bool.or_false]) fun i _ => ?_
  exact laneAt_of_lt (foldl_lt hf (fun x hx => lanesOf_lt hx) hz) i

theorem shift_passes {defined : Bool} {f : Nat → Nat → Nat} (h : Issues s w none) (hd : defined = true) :
    Passes (shift s w defined f) s w (spanOf w.sp) (grainOf w.g) (secIn s w w.src1 (spanOf w.sp) || (aIn s w w.src2).sec)
      (fun i => f ((aIn s w w.src2).val % 128) (laneIn s w w.src1 (spanOf w.sp) (grainOf w.g) i) % 2 ^ grainOf w.g) := by
  refine apass_passes h hd (by simp) rfl (by simp only [secIn_zero, Bool.or_false]) fun i hi => ?_
  exact laneAt_ofLanes_map (grainOf w.g) (grainOf w.g) _ _ _ i hi

theorem compare_passes {p : Nat → Nat → Bool} (h : Issues s w none) (hd : nine w = true) :
    Passes (compareLanes s w p) s w (spanOf w.sp) (grainOf w.g) (secIn s w w.src1 (spanOf w.sp) || secIn s w w.src2 (spanOf w.sp))
      (fun i => if p (laneIn s w w.src1 (spanOf w.sp) (grainOf w.g) i) (laneIn s w w.src2 (spanOf w.sp) (grainOf w.g) i) = true
        then 2 ^ grainOf w.g - 1 else 0) := by
  refine vpass_passes h hd (by simp) (by rw [secIn_zero, Bool.or_false]) fun i hi => ?_
  refine (laneAt_ofLanes_range _ _ _ i hi).trans (Nat.mod_eq_of_lt ?_)
  have hp := Nat.two_pow_pos (grainOf w.g)
  dsimp only
  split <;> omega

theorem popCount_le (n v : Nat) : popCount n v ≤ n := by
  induction n generalizing v with
  | zero => exact Nat.le_refl _
  | succ n ih =>
    have h := ih (v / 2)
    rw [popCount]
    omega

theorem popc_passes (h : Issues s w none) (hd : nine w = true) :
    Passes (exec (.popc w) s) s w (spanOf w.sp) (grainOf w.g) (secIn s w w.src1 (spanOf w.sp))
      (fun i => popCount (grainOf w.g) (laneIn s w w.src1 (spanOf w.sp) (grainOf w.g) i)) := by
  rw [exec_popc, execPopc]
  refine vpass_passes h hd (by simp) (by simp only [secIn_zero, Bool.or_false]) fun i hi => ?_
  refine (laneAt_ofLanes_map (grainOf w.g) (grainOf w.g) _ _ _ i hi).trans (Nat.mod_eq_of_lt ?_)
  exact (popCount_le _ _).trans_lt Nat.lt_two_pow_self

theorem movm_passes (h : Issues s w none) (hd : nine w = true) :
    Passes (exec (.movm w) s) s w (spanOf w.sp) (grainOf w.g)
      (secIn s w w.src1 (spanOf w.sp) || secIn s w w.dest (spanOf w.sp) || ((s.le w.le).mreg w.mask).sec)
      (fun i => if enabled w.g ((s.le w.le).mreg w.mask).val i then laneIn s w w.src1 (spanOf w.sp) (grainOf w.g) i
        else laneIn s w w.dest (spanOf w.sp) (grainOf w.g) i) := by
  rw [exec_movm, execMovm]
  refine ⟨_, issue_go h hd (by simp) rfl rfl, passTo_writeGroup _ _ _ _ _ fun i hi => ?_⟩
  refine (laneAt_ofLanes_range _ _ _ i hi).trans (Nat.mod_eq_of_lt ?_)
  split
  · exact laneAt_lt _ _ _
  · exact laneAt_lt _ _ _

theorem mfromv_eq (h : Issues s w none) (hd : nine w = true) :
    exec (.mfromv w) s = .next (s.setLe w.le ((issuedLe s w).setM w.mask
      (maskFrom w.g (lanesOf (grainOf w.g) (laneCount (grainOf w.g) (spanOf w.sp)) (groupIn s w w.src1 (spanOf w.sp)))) (secIn s w w.src1 (spanOf w.sp)))) := by
  rw [exec_mfromv, execMfromv]
  refine issue_go h hd (by simp) rfl ?_
  simp only [State.setLe_setLe]
  rfl

/-- A rotation of 64 bits, from its two parts that do not meet. -/
theorem rol64_eq {a r : Nat} (ha : a < 2 ^ 64) (hr : r < 64) : a * 2 ^ r % 2 ^ 64 + a / 2 ^ (64 - r) = (a * 2 ^ r + a / 2 ^ (64 - r)) % 2 ^ 64 := by
  have hp : 2 ^ 64 = 2 ^ r * 2 ^ (64 - r) := by rw [← Nat.pow_add]; congr 1; omega
  have hlow : a * 2 ^ r % 2 ^ 64 = 2 ^ r * (a % 2 ^ (64 - r)) := by rw [hp, Nat.mul_comm a, Nat.mul_mod_mul_left]
  have hhigh : a / 2 ^ (64 - r) < 2 ^ r := Nat.div_lt_of_lt_mul (by rw [Nat.mul_comm, ← hp]; exact ha)
  have hmod : a % 2 ^ (64 - r) + 1 ≤ 2 ^ (64 - r) := Nat.mod_lt _ (Nat.two_pow_pos _)
  have hlt : a * 2 ^ r % 2 ^ 64 + a / 2 ^ (64 - r) < 2 ^ 64 :=
    calc a * 2 ^ r % 2 ^ 64 + a / 2 ^ (64 - r)
      _ < 2 ^ r * (a % 2 ^ (64 - r)) + 2 ^ r := by rw [hlow]; exact Nat.add_lt_add_left hhigh _
      _ = 2 ^ r * (a % 2 ^ (64 - r) + 1) := by ring
      _ ≤ 2 ^ r * 2 ^ (64 - r) := Nat.mul_le_mul_left _ hmod
      _ = 2 ^ 64 := hp.symm
  rw [← Nat.mod_eq_of_lt hlt, Nat.mod_add_mod]

/-- The mask after the lanes of `ls`, whose first is lane `k`: the bits that stood below theirs, and theirs. -/
theorem testBit_maskFrom (g b : Nat) : ∀ (ls : List Nat) (k m : Nat), m < 2 ^ maskBit g k →
    ((((ls.zipIdx k).foldl (fun m p => m + (if 2 ^ (grainOf g - 1) ≤ p.1 then 2 ^ maskBit g p.2 else 0)) m).testBit b = true) ↔
      m.testBit b = true ∨ ∃ i, i < ls.length ∧ maskBit g (k + i) = b ∧ 2 ^ (grainOf g - 1) ≤ ls.getD i 0)
  | [], k, m, _ => by simp
  | x :: xs, k, m, hm => by
    have hk : maskBit g k + 1 ≤ maskBit g (k + 1) := by
      unfold maskBit
      split
      · omega
      · split <;> omega
    have hlt : m + (if 2 ^ (grainOf g - 1) ≤ x then 2 ^ maskBit g k else 0) < 2 ^ maskBit g (k + 1) := by
      have h1 : 2 ^ (maskBit g k + 1) ≤ 2 ^ maskBit g (k + 1) := Nat.pow_le_pow_right (by decide) hk
      rw [Nat.pow_succ] at h1
      split <;> omega
    have hbit : (m + (if 2 ^ (grainOf g - 1) ≤ x then 2 ^ maskBit g k else 0)).testBit b = true ↔
        m.testBit b = true ∨ (maskBit g k = b ∧ 2 ^ (grainOf g - 1) ≤ x) := by
      split
      · next hx =>
        have ho := Nat.two_pow_add_eq_or_of_lt hm 1
        rw [Nat.mul_one] at ho
        rw [Nat.add_comm, ho, Nat.testBit_or, Nat.testBit_two_pow]
        simp only [Bool.or_eq_true, decide_eq_true_eq, hx, and_true]
        exact Or.comm
      · next hx => simp [hx]
    rw [List.zipIdx_cons, List.foldl_cons, testBit_maskFrom g b xs (k + 1) _ hlt, hbit, or_assoc]
    refine or_congr_right ⟨?_, ?_⟩
    · rintro (⟨hb, hx⟩ | ⟨i, hi, hb, hx⟩)
      · exact ⟨0, Nat.succ_pos _, hb, hx⟩
      · exact ⟨i + 1, Nat.succ_lt_succ hi, by rw [← hb]; congr 1; omega, hx⟩
    · rintro ⟨i, hi, hb, hx⟩
      cases i with
      | zero => exact .inl ⟨hb, hx⟩
      | succ i => exact .inr ⟨i, Nat.lt_of_succ_lt_succ hi, by rw [← hb]; congr 1; omega, hx⟩

/-- The bits that `MFROMV` sets: those of the lanes with the top bit set. -/
theorem bitAt_maskFrom (g b : Nat) (ls : List Nat) :
    bitAt (maskFrom g ls) b = true ↔ ∃ i, i < ls.length ∧ maskBit g i = b ∧ 2 ^ (grainOf g - 1) ≤ ls.getD i 0 := by
  rw [bitAt_eq_testBit, maskFrom, testBit_maskFrom g b ls 0 0 (Nat.two_pow_pos _)]
  simp

/-- Settles O5: each operation is a pass whose lane function is its row of the table. -/
theorem logicMasksAndSelectionComplete : Obligations.LogicMasksAndSelectionComplete := by
  unfold Obligations.LogicMasksAndSelectionComplete
  refine ⟨fun s w h => ⟨fun hw => ?_, fun hd => ?_, fun hd => ?_⟩, fun g ls _ _ _ b => bitAt_maskFrom g b ls⟩
  · rw [exec_and, exec_or, exec_xor, exec_andn, exec_andr, exec_orr]
    refine ⟨bitwise_passes h hw fun x y hx _ => Nat.lt_of_le_of_lt Nat.and_le_left hx,
      bitwise_passes h hw fun x y hx hy => Nat.or_lt_two_pow hx hy,
      bitwise_passes h hw fun x y hx hy => Nat.xor_lt_two_pow hx hy,
      bitwise_passes h hw fun x y hx _ => Nat.lt_of_le_of_lt Nat.and_le_left hx,
      reduceWords_passes h hw (fun x y hx _ => Nat.lt_of_le_of_lt Nat.and_le_left hx) (by decide),
      reduceWords_passes h hw (fun x y hx hy => Nat.or_lt_two_pow hx hy) (by decide)⟩
  · rw [exec_shl, exec_shr, exec_cmplt, exec_cmpeq]
    refine ⟨Passes.congr (shift_passes h hd) fun i => ?_, Passes.congr (shift_passes h hd) fun i => ?_,
      Passes.congr (compare_passes h hd) fun i => ?_, Passes.congr (compare_passes h hd) fun i => ?_, popc_passes h hd, movm_passes h hd, mfromv_eq h hd⟩
    · split
      · exact Nat.zero_mod _
      · rfl
    · exact Nat.mod_eq_of_lt ((Nat.div_le_self _ _).trans_lt (laneAt_lt _ _ _))
    · simp only [decide_eq_true_eq]
    · simp only [beq_iff_eq]
  · have hg : grainOf w.g = 72 := by
      rw [oneGrain, Bool.and_eq_true, beq_iff_eq] at hd
      rw [hd.1]
      rfl
    have hp := shift_passes (f := fun n a => a % 2 ^ 64 * 2 ^ (n % 64) % 2 ^ 64 + a % 2 ^ 64 / 2 ^ (64 - n % 64)) h hd
    rw [hg] at hp
    rw [exec_rol64]
    refine Passes.congr hp fun i => ?_
    rw [rol64_eq (Nat.mod_lt _ (by decide)) (Nat.mod_lt _ (by decide))]
    exact Nat.mod_eq_of_lt ((Nat.mod_lt _ (by decide)).trans (by decide))

end Machine
end Sys2Proof
end

section
/-! Permutations, packing and octet encodings (R256, R257, R258). -/
namespace Sys2Proof
namespace Machine

variable {s : State} {w : Mw}

section
variable {defined secretOnly stream : Bool} {need : Option Nat} {body : State → Le → Issue}

/-- An issued microword that taints ends its job with ENGINE_FAULT's cause TAINT. -/
theorem issue_taint (h : Issues s w need) (hd : defined = true) (hs : secretOnly = true → w.secret = true) (hb : stream = true)
    (hg : body (s.setLe w.le (issuedLe s w)) (issuedLe s w) = .taint) :
    issue s w defined secretOnly need stream body = .next (s.leDone w.le 0x53 0 1 []) := by
  rw [issue_eq h hd hs hb, hg]

theorem issue_engine (h : Issues s w need) (hd : defined = true) (hs : secretOnly = true → w.secret = true) (hb : stream = true)
    (hg : body (s.setLe w.le (issuedLe s w)) (issuedLe s w) = .engine) :
    issue s w defined secretOnly need stream body = .next (s.leDone w.le 0x54 0 0 []) := by
  rw [issue_eq h hd hs hb, hg]

theorem issue_hold {t : State} {code : Nat} (h : Issues s w need) (hd : defined = true) (hs : secretOnly = true → w.secret = true) (hb : stream = true)
    (hg : body (s.setLe w.le (issuedLe s w)) (issuedLe s w) = .hold t code) :
    issue s w defined secretOnly need stream body = .next (t.setLe w.le ((s.le w.le).held code)) := by
  rw [issue_eq h hd hs hb, hg]

end

@[simp] theorem length_permLanes (q n logn p : Nat) (ls : List Nat) : (permLanes q n logn p ls).length = n := by simp [permLanes]

theorem getD_permLanes (q : Nat) {n j : Nat} (logn p : Nat) (ls : List Nat) (hj : j < n) (hp : ¬ (p = 11 ∧ j = 0)) :
    (permLanes q n logn p ls).getD j 0 = ls.getD (permSource n logn p j) 0 := by
  simp only [permLanes, List.getD_eq_getElem?_getD, List.getElem?_map, List.getElem?_range hj, Option.map_some, Option.getD_some, if_neg hp]

/-- The lane that the negacyclic rotation moves around: its negative. -/
theorem getD_permLanes_zero {q n : Nat} (logn : Nat) (ls : List Nat) (hn : 0 < n) :
    (permLanes q n logn 11 ls).getD 0 0 =
      if ls.getD (permSource n logn 11 0) 0 = 0 then 0
      else if ls.getD (permSource n logn 11 0) 0 < q then q - ls.getD (permSource n logn 11 0) 0
      else wrong 13 18 [q, ls.getD (permSource n logn 11 0) 0] := by
  simp only [permLanes, List.getD_eq_getElem?_getD, List.getElem?_map, List.getElem?_range hn, Option.map_some, Option.getD_some, and_self, if_true]

/-- What `PERM` leaves, before its pattern's table is read. -/
theorem perm_passes {lane : Nat → Nat} (h : Issues s w none) (hd : (decide (w.g < 3) && w.sp == 2 && permDefined w.g (laneCount (grainOf w.g) 4) w.pat) = true)
    (hq : (w.pat == 0x0B && !descOk ((s.le w.le).desc 0) 0) = false)
    (hl : ∀ j, j < laneCount (grainOf w.g) 4 →
      (permLanes ((s.le w.le).desc 0).q (laneCount (grainOf w.g) 4) (8 - w.g) w.pat
        (lanesOf (grainOf w.g) (laneCount (grainOf w.g) 4) (groupIn s w w.src1 4))).getD j 0 % 2 ^ grainOf w.g = lane j) :
    Passes (exec (.perm w) s) s w 4 (grainOf w.g) (secIn s w w.src1 4) lane := by
  rw [exec_perm, execPerm]
  refine ⟨_, issue_go h hd (by simp) rfl (if_neg (by simp only [issuedLe_desc, hq]; decide)), passTo_writeGroup _ _ _ _ _ fun j hj => ?_⟩
  rw [← hl j hj, laneAt_ofLanes _ _ _ (by rw [length_permLanes]; exact hj), List.getD_eq_getElem _ _ (by rw [length_permLanes]; exact hj)]
  rfl

/-- A pattern without arithmetic: each lane is the one its table names. -/
theorem perm_moves {lane : Nat → Nat} (h : Issues s w none)
    (hd : (decide (w.g < 3) && w.sp == 2 && permDefined w.g (laneCount (grainOf w.g) 4) w.pat) = true) (hp : w.pat ≠ 11)
    (hl : ∀ j, j < laneCount (grainOf w.g) 4 → permSource (laneCount (grainOf w.g) 4) (8 - w.g) w.pat j < laneCount (grainOf w.g) 4 ∧
      laneIn s w w.src1 4 (grainOf w.g) (permSource (laneCount (grainOf w.g) 4) (8 - w.g) w.pat j) = lane j) :
    Passes (exec (.perm w) s) s w 4 (grainOf w.g) (secIn s w w.src1 4) lane := by
  refine perm_passes h hd (by simp [hp]) fun j hj => ?_
  obtain ⟨hr, he⟩ := hl j hj
  rw [getD_permLanes _ _ _ _ hj fun h => hp h.1, lanesOf_getD _ _ _ _ hr, ← he]
  exact Nat.mod_eq_of_lt (laneAt_lt _ _ _)

theorem permSource_rotate {n logn r j : Nat} (hr : r < 8) : permSource n logn (3 + r) j = (j + n - 2 ^ r) % n := by
  have h1 : ¬ 3 + r = 0 := by omega
  have h2 : ¬ 3 + r = 1 := by omega
  have h3 : ¬ 3 + r = 2 := by omega
  have h4 : 3 + r ≤ 10 := by omega
  simp only [permSource, h1, h2, h3, h4, if_true, if_false, Nat.add_sub_cancel_left]

theorem permSource_interleave {n logn r j : Nat} (hr : r < 8) : permSource n logn (0x10 + r) j =
    j / 2 ^ (r + 1) * 2 ^ (r + 1) +
      (if j % 2 ^ (r + 1) % 2 = 0 then j % 2 ^ (r + 1) / 2 else j % 2 ^ (r + 1) / 2 + 2 ^ (r + 1) / 2) := by
  have h1 : ¬ 16 + r = 0 := by omega
  have h2 : ¬ 16 + r = 1 := by omega
  have h3 : ¬ 16 + r = 2 := by omega
  have h4 : ¬ 16 + r ≤ 10 := by omega
  have h5 : ¬ 16 + r = 11 := by omega
  have h6 : 16 + r < 24 := by omega
  simp only [permSource, h1, h2, h3, h4, h5, h6, if_true, if_false, Nat.add_sub_cancel_left]

theorem permSource_separate {n logn r j : Nat} : permSource n logn (0x18 + r) j =
    j / 2 ^ (r + 1) * 2 ^ (r + 1) +
      (if j % 2 ^ (r + 1) < 2 ^ (r + 1) / 2 then 2 * (j % 2 ^ (r + 1)) else 2 * (j % 2 ^ (r + 1) - 2 ^ (r + 1) / 2) + 1) := by
  have h1 : ¬ 24 + r = 0 := by omega
  have h2 : ¬ 24 + r = 1 := by omega
  have h3 : ¬ 24 + r = 2 := by omega
  have h4 : ¬ 24 + r ≤ 10 := by omega
  have h5 : ¬ 24 + r = 11 := by omega
  have h6 : ¬ 24 + r < 24 := by omega
  simp only [permSource, h1, h2, h3, h4, h5, h6, if_false, Nat.add_sub_cancel_left]

/-- The parts of a lane's number: which block of `B` lanes, and where in it. -/
theorem block_parts {b B i : Nat} (hi : i < B) : (b * B + i) / B = b ∧ (b * B + i) % B = i := by
  have hB : 0 < B := by omega
  rw [Nat.mul_comm, Nat.mul_add_div hB, Nat.mul_add_mod, Nat.div_eq_of_lt hi, Nat.mod_eq_of_lt hi]
  exact ⟨Nat.add_zero b, rfl⟩

/-- A block that holds one of the lanes lies in the polynomial. -/
theorem block_in {k r b i : Nat} (hr : 2 ^ (r + 1) ≤ 2 ^ k) (h : b * 2 ^ (r + 1) + i < 2 ^ k) : b * 2 ^ (r + 1) + 2 ^ (r + 1) ≤ 2 ^ k := by
  have hle : r + 1 ≤ k := (Nat.pow_le_pow_iff_right (by decide)).1 hr
  have hp : 2 ^ k = 2 ^ (k - (r + 1)) * 2 ^ (r + 1) := by rw [← Nat.pow_add]; congr 1; omega
  rw [hp] at h ⊢
  have hb : b < 2 ^ (k - (r + 1)) := Nat.lt_of_mul_lt_mul_right ((Nat.le_add_right _ i).trans_lt h)
  calc b * 2 ^ (r + 1) + 2 ^ (r + 1) = (b + 1) * 2 ^ (r + 1) := by ring
    _ ≤ _ := Nat.mul_le_mul_right _ hb

theorem laneCount_four {g : Nat} (hg : g < 3) : laneCount (grainOf g) 4 = 2 ^ (8 - g) := by
  obtain rfl | rfl | rfl : g = 0 ∨ g = 1 ∨ g = 2 := by omega
  · rfl
  · rfl
  · rfl

theorem interleave_source_even {n logn r b i : Nat} (hr : r < 8) (hi : i < 2 ^ r) :
    permSource n logn (0x10 + r) (b * 2 ^ (r + 1) + 2 * i) = b * 2 ^ (r + 1) + i := by
  obtain ⟨hd, hm⟩ := block_parts (b := b) (B := 2 ^ (r + 1)) (i := 2 * i) (by rw [Nat.pow_succ]; omega)
  rw [permSource_interleave hr, hd, hm, if_pos (by omega)]
  omega

theorem interleave_source_odd {n logn r b i : Nat} (hr : r < 8) (hi : i < 2 ^ r) :
    permSource n logn (0x10 + r) (b * 2 ^ (r + 1) + 2 * i + 1) = b * 2 ^ (r + 1) + i + 2 ^ r := by
  obtain ⟨hd, hm⟩ := block_parts (b := b) (B := 2 ^ (r + 1)) (i := 2 * i + 1) (by rw [Nat.pow_succ]; omega)
  rw [Nat.add_assoc, permSource_interleave hr, hd, hm, if_neg (by omega), show 2 ^ (r + 1) / 2 = 2 ^ r by rw [Nat.pow_succ]; omega]
  omega

theorem separate_source_low {n logn r b i : Nat} (hi : i < 2 ^ r) :
    permSource n logn (0x18 + r) (b * 2 ^ (r + 1) + i) = b * 2 ^ (r + 1) + 2 * i := by
  obtain ⟨hd, hm⟩ := block_parts (b := b) (B := 2 ^ (r + 1)) (i := i) (by rw [Nat.pow_succ]; omega)
  rw [permSource_separate, hd, hm, if_pos (by rw [Nat.pow_succ]; omega)]

theorem separate_source_high {n logn r b i : Nat} (hi : i < 2 ^ r) :
    permSource n logn (0x18 + r) (b * 2 ^ (r + 1) + i + 2 ^ r) = b * 2 ^ (r + 1) + 2 * i + 1 := by
  obtain ⟨hd, hm⟩ := block_parts (b := b) (B := 2 ^ (r + 1)) (i := i + 2 ^ r) (by rw [Nat.pow_succ]; omega)
  rw [Nat.add_assoc, permSource_separate, hd, hm, if_neg (by rw [Nat.pow_succ]; omega), show 2 ^ (r + 1) / 2 = 2 ^ r by rw [Nat.pow_succ]; omega]
  omega

/-- Every lane that a pattern by blocks names is a lane of the group. -/
theorem permSource_block_lt {k r p j : Nat} (hr : 2 ^ (r + 1) ≤ 2 ^ k) (hp : p = 0x10 + r ∧ r < 8 ∨ p = 0x18 + r) (hj : j < 2 ^ k) :
    permSource (2 ^ k) k p j < 2 ^ k := by
  have hB : 0 < 2 ^ (r + 1) := Nat.two_pow_pos _
  have hm : j % 2 ^ (r + 1) < 2 ^ (r + 1) := Nat.mod_lt _ hB
  have hin : j / 2 ^ (r + 1) * 2 ^ (r + 1) + 2 ^ (r + 1) ≤ 2 ^ k := block_in hr (i := j % 2 ^ (r + 1)) (by rw [Nat.div_add_mod']; exact hj)
  have hev : 2 ^ (r + 1) = 2 * 2 ^ r := Nat.pow_succ'
  rcases hp with ⟨rfl, h8⟩ | rfl
  · rw [permSource_interleave h8]
    split <;> omega
  · rw [permSource_separate]
    split <;> omega

theorem interleave_passes {r : Nat} (h : Issues s w none) (hg : w.g < 3) (hs : w.sp = 2) (hr : r < 8) (hN : 2 ^ (r + 1) ≤ laneCount (grainOf w.g) 4)
    (hp : w.pat = 0x10 + r) :
    PassesWhere (exec (.perm w) s) s w 4 (grainOf w.g) (secIn s w w.src1 4) (fun j v => ∀ b i, i < 2 ^ r →
      (j = b * 2 ^ (r + 1) + 2 * i → v = laneIn s w w.src1 4 (grainOf w.g) (b * 2 ^ (r + 1) + i)) ∧
      (j = b * 2 ^ (r + 1) + 2 * i + 1 → v = laneIn s w w.src1 4 (grainOf w.g) (b * 2 ^ (r + 1) + i + 2 ^ r))) := by
  refine Passes.weaken (perm_moves h ?_ (by omega) fun j hj => ⟨?_, rfl⟩) fun j hj b i hi => ⟨?_, ?_⟩
  · simp only [hg, hs, hp, permDefined]
    simp [hN]
    omega
  · rw [laneCount_four hg] at hN hj ⊢
    exact permSource_block_lt hN (.inl ⟨hp, hr⟩) hj
  · rintro rfl
    rw [hp, interleave_source_even hr hi]
  · rintro rfl
    rw [hp, interleave_source_odd hr hi]

theorem separate_passes {r : Nat} (h : Issues s w none) (hg : w.g < 3) (hs : w.sp = 2) (hr : r < 8) (hN : 2 ^ (r + 1) ≤ laneCount (grainOf w.g) 4)
    (hp : w.pat = 0x18 + r) :
    PassesWhere (exec (.perm w) s) s w 4 (grainOf w.g) (secIn s w w.src1 4) (fun j v => ∀ b i, i < 2 ^ r →
      (j = b * 2 ^ (r + 1) + i → v = laneIn s w w.src1 4 (grainOf w.g) (b * 2 ^ (r + 1) + 2 * i)) ∧
      (j = b * 2 ^ (r + 1) + i + 2 ^ r → v = laneIn s w w.src1 4 (grainOf w.g) (b * 2 ^ (r + 1) + 2 * i + 1))) := by
  refine Passes.weaken (perm_moves h ?_ (by omega) fun j hj => ⟨?_, rfl⟩) fun j hj b i hi => ⟨?_, ?_⟩
  · simp only [hg, hs, hp, permDefined]
    simp [hN]
    omega
  · rw [laneCount_four hg] at hN hj ⊢
    exact permSource_block_lt hN (.inr hp) hj
  · rintro rfl
    rw [hp, separate_source_low hi]
  · rintro rfl
    rw [hp, separate_source_high hi]

/-- A rotation by less than `n`, read from where the lane came. -/
theorem rotate_back {n k i : Nat} (hk : k < n) (hi : i < n) : ((i + k) % n + n - k) % n = i := by
  rcases Nat.lt_or_ge (i + k) n with h | h
  · rw [Nat.mod_eq_of_lt h, show i + k + n - k = i + n by omega, Nat.add_mod_right, Nat.mod_eq_of_lt hi]
  · rw [Nat.mod_eq_sub_mod h, Nat.mod_eq_of_lt (a := i + k - n) (by omega), show i + k - n + n - k = i by omega, Nat.mod_eq_of_lt hi]

theorem rotate_passes {r : Nat} (h : Issues s w none) (hg : w.g < 3) (hs : w.sp = 2) (hp : w.pat = 3 + r) (hr : r < 8) (hN : 2 ^ r < laneCount (grainOf w.g) 4) :
    PassesWhere (exec (.perm w) s) s w 4 (grainOf w.g) (secIn s w w.src1 4)
      (fun j v => ∀ i, i < laneCount (grainOf w.g) 4 → (i + 2 ^ r) % laneCount (grainOf w.g) 4 = j → v = laneIn s w w.src1 4 (grainOf w.g) i) := by
  refine Passes.weaken (perm_moves h ?_ (by omega) fun j hj => ⟨?_, rfl⟩) fun j hj i hi he => ?_
  · simp only [hg, hs, hp, permDefined]
    simp [hN]
    omega
  · rw [hp, permSource_rotate hr]
    exact Nat.mod_lt _ (by omega)
  · rw [hp, permSource_rotate hr, ← he, rotate_back hN hi]

theorem laneAt_groupIn (f : BitVec 5) (n g i : Nat) : laneAt g (groupIn s w f n) i = laneIn s w f n g i := rfl

theorem negate_passes (h : Issues s w none) (hg : w.g = 0) (hs : w.sp = 2) (hp : w.pat = 0x0B) (hq : descOk ((s.le w.le).desc 0) 0 = true) :
    PassesWhere (exec (.perm w) s) s w 4 (grainOf w.g) (secIn s w w.src1 4) (fun j v =>
      (0 < j → v = laneIn s w w.src1 4 (grainOf w.g) (j - 1)) ∧ (j = 0 → laneIn s w w.src1 4 (grainOf w.g) 255 = 0 → v = 0) ∧
      (j = 0 → 0 < laneIn s w w.src1 4 (grainOf w.g) 255 → laneIn s w w.src1 4 (grainOf w.g) 255 < ((s.le w.le).desc 0).q →
        v = (((s.le w.le).desc 0).q - laneIn s w w.src1 4 (grainOf w.g) 255) % 2 ^ 18)) := by
  have hn : laneCount (grainOf w.g) 4 = 256 := by rw [hg]; rfl
  refine Passes.weaken (perm_passes h ?_ (by rw [hq, Bool.not_true, Bool.and_false]) fun j hj => rfl) fun j hj => ?_
  · simp [hg, hs, hp, permDefined]
  · rw [hp]
    rcases Nat.eq_zero_or_pos j with rfl | h0
    · have hs0 : permSource 256 (8 - w.g) 11 0 = 255 := rfl
      rw [getD_permLanes_zero _ _ hj, hn, hs0, lanesOf_getD _ _ _ _ (by decide), laneAt_groupIn]
      refine ⟨fun h => absurd h (by decide), fun _ he => ?_, fun _ hlt hq' => ?_⟩
      · rw [if_pos he, Nat.zero_mod]
      · rw [if_neg (Nat.ne_of_gt hlt), if_pos hq', hg]
        rfl
    · have hsj : permSource 256 (8 - w.g) 11 j = j - 1 := by
        have : j < 256 := hn ▸ hj
        show (j + 256 - 1) % 256 = j - 1
        omega
      rw [getD_permLanes _ _ _ _ hj (by omega), hn, hsj, lanesOf_getD _ _ _ _ (by omega)]
      exact ⟨fun _ => Nat.mod_eq_of_lt (laneAt_lt _ _ _), fun h => absurd h (by omega), fun h => absurd h (by omega)⟩

theorem perm_faults (h : Issues s w none) (hg : w.g = 0) (hs : w.sp = 2) (hp : w.pat = 0x0B) (hq : descOk ((s.le w.le).desc 0) 0 = false) :
    exec (.perm w) s = .next (s.leDone w.le 0x54 0 0 []) := by
  rw [exec_perm, execPerm]
  exact issue_engine h (by simp [hg, hs, hp, permDefined]) (by simp) rfl (if_pos (by rw [hp, issuedLe_desc, hq]; rfl))

theorem laneAt_lt_of_le {g v i k : Nat} (h : g ≤ k) : laneAt g v i < 2 ^ k := (laneAt_lt g v i).trans_le (Nat.pow_le_pow_right (by decide) h)

theorem unpack_passes {f : Nat → Nat → Nat} (h : Issues s w none) (hn : narrow w = true)
    (hf : ∀ i, f (grainOf w.g) (laneIn s w w.src1 (spanOf w.sp) (grainOf w.g) i) < 2 ^ (2 * grainOf w.g)) :
    Passes (unpack s w f) s w (2 * spanOf w.sp) (2 * grainOf w.g) (secIn s w w.src1 (spanOf w.sp))
      (fun i => f (grainOf w.g) (laneIn s w w.src1 (spanOf w.sp) (grainOf w.g) i)) := by
  refine vpass_passes h hn (by simp) (by simp only [secIn_zero, Bool.or_false]) fun i hi => ?_
  rw [laneCount_double] at hi
  exact (laneAt_ofLanes_map (2 * grainOf w.g) (grainOf w.g) _ _ _ i hi).trans (Nat.mod_eq_of_lt (hf i))

theorem pack_passes (h : Issues s w none) (hn : narrow w = true) :
    Passes (exec (.pack w) s) s w (spanOf w.sp) (grainOf w.g) (secIn s w w.src1 (2 * spanOf w.sp))
      (fun i => laneIn s w w.src1 (2 * spanOf w.sp) (2 * grainOf w.g) i % 2 ^ grainOf w.g) := by
  rw [exec_pack, execPack]
  refine vpass_passes h hn (by simp) (by simp only [secIn_zero, Bool.or_false]) fun i hi => ?_
  exact laneAt_ofLanes_range (grainOf w.g) _ (laneAt (2 * grainOf w.g) (groupIn s w w.src1 (2 * spanOf w.sp))) i hi

theorem lane4_passes {defined : Bool} {f : Nat → Nat} (h : Issues s w none) (hd : defined = true) :
    Passes (lane4 s w defined f) s w 4 (grainOf w.g) (secIn s w w.src1 4) (fun i => f (laneIn s w w.src1 4 (grainOf w.g) i) % 2 ^ grainOf w.g) :=
  vpass_passes h hd (by simp) (by simp only [secIn_zero, Bool.or_false]) fun i hi => laneAt_ofLanes_map (grainOf w.g) (grainOf w.g) _ _ _ i hi

/-- Sign extension stays in the wide lane. -/
theorem signed_lt {g a : Nat} (ha : a < 2 ^ g) : (if 2 ^ (g - 1) ≤ a then a + (2 ^ (2 * g) - 2 ^ g) else a) < 2 ^ (2 * g) := by
  have hle : 2 ^ g ≤ 2 ^ (2 * g) := Nat.pow_le_pow_right (by decide) (by omega)
  split <;> omega

theorem compress_passes (h : Issues s w none) (hw : whole w 0 = true) (hp : w.pat ∈ [1, 4, 5, 10, 11]) :
    PassesWhere (exec (.compress w) s) s w 4 18 (secIn s w w.src1 4)
      (fun i r => laneIn s w w.src1 4 (grainOf w.g) i < 3329 → r = (2 * laneIn s w w.src1 4 (grainOf w.g) i * 2 ^ w.pat + 3329) / 6658 % 2 ^ w.pat) ∧
    Passes (exec (.decompress w) s) s w 4 18 (secIn s w w.src1 4)
      (fun i => (6658 * laneIn s w w.src1 4 (grainOf w.g) i + 2 ^ w.pat) / 2 ^ (w.pat + 1) % 2 ^ 18) := by
  have hg : grainOf w.g = 18 := by rw [whole_grain hw]; rfl
  have hd : (whole w 0 && [1, 4, 5, 10, 11].contains w.pat) = true := by rw [hw, List.contains_iff_mem.2 hp]; rfl
  have h18 : w.pat ≤ 18 := by
    simp only [List.mem_cons, List.not_mem_nil, or_false] at hp
    omega
  have hc := lane4_passes (f := Machine.compress w.pat) h hd
  have hu := lane4_passes (f := Machine.decompress w.pat) h hd
  rw [hg] at hc hu ⊢
  rw [exec_compress, execCompress, exec_decompress, execDecompress]
  refine ⟨Passes.weaken hc fun i _ hi => ?_, Passes.congr hu fun i => Nat.mod_mod _ _⟩
  rw [Machine.compress, if_pos hi]
  exact Nat.mod_eq_of_lt ((Nat.mod_lt _ (Nat.two_pow_pos _)).trans_le (Nat.pow_le_pow_right (by decide) h18))

/-- A number cut at octets `o` and `o + k`: below them, between them, and above them. -/
theorem octets_cut (v o k : Nat) :
    v = 2 ^ (8 * o) * (2 ^ (8 * k) * (v / 2 ^ (8 * o) / 2 ^ (8 * k)) + octetsNat v o k) + v % 2 ^ (8 * o) := by
  rw [octetsNat, Nat.div_add_mod, Nat.div_add_mod]

theorem setOctets_eq (v o k x : Nat) :
    setOctets v o k x = 2 ^ (8 * o) * (2 ^ (8 * k) * (v / 2 ^ (8 * o) / 2 ^ (8 * k)) + x % 2 ^ (8 * k)) + v % 2 ^ (8 * o) := by
  have h := octets_cut v o k
  rw [Nat.mul_add] at h ⊢
  rw [setOctets, Nat.mul_comm (octetsNat v o k), Nat.mul_comm (x % 2 ^ (8 * k))]
  omega

theorem octetsNat_setOctets (v o k x : Nat) : octetsNat (setOctets v o k x) o k = x % 2 ^ (8 * k) := by
  rw [setOctets_eq, octetsNat, Nat.mul_add_div (Nat.two_pow_pos _), Nat.div_eq_of_lt (Nat.mod_lt _ (Nat.two_pow_pos _)), Nat.add_zero,
    Nat.mul_add_mod, Nat.mod_mod]

theorem octetAt_mod {v j m : Nat} (h : 8 * (j + 1) ≤ m) : octetAt (v % 2 ^ m) j = octetAt v j := laneAt_mod 8 v j m h

theorem octetAt_setOctets_low {v o k x j : Nat} (h : j < o) : octetAt (setOctets v o k x) j = octetAt v j := by
  rw [← octetAt_mod (v := setOctets v o k x) (m := 8 * o) (by omega), ← octetAt_mod (v := v) (m := 8 * o) (by omega), setOctets_eq, Nat.mul_add_mod,
    Nat.mod_mod]

theorem octetAt_high {v o k j : Nat} (h : o + k ≤ j) : octetAt v j = octetAt (v / 2 ^ (8 * o) / 2 ^ (8 * k)) (j - o - k) := by
  rw [octetAt, octetAt, Nat.div_div_eq_div_mul, Nat.div_div_eq_div_mul, ← Nat.pow_add, ← Nat.pow_add]
  congr 3
  omega

theorem octetAt_setOctets_high {v o k x j : Nat} (h : o + k ≤ j) : octetAt (setOctets v o k x) j = octetAt v j := by
  have hd : setOctets v o k x / 2 ^ (8 * o) / 2 ^ (8 * k) = v / 2 ^ (8 * o) / 2 ^ (8 * k) := by
    rw [setOctets_eq, Nat.mul_add_div (Nat.two_pow_pos _), Nat.div_eq_of_lt (Nat.mod_lt _ (Nat.two_pow_pos _)), Nat.add_zero,
      Nat.mul_add_div (Nat.two_pow_pos _), Nat.div_eq_of_lt (Nat.mod_lt _ (Nat.two_pow_pos _)), Nat.add_zero]
  rw [octetAt_high h, octetAt_high h, hd]

theorem octetsNat_mod {v o k m : Nat} (h : 8 * o + 8 * k ≤ m) : octetsNat (v % 2 ^ m) o k = octetsNat v o k := by
  rw [octetsNat, octetsNat, show 2 ^ m = 2 ^ (8 * o) * 2 ^ (m - 8 * o) by rw [← Nat.pow_add]; congr 1; omega, Nat.mod_mul_right_div_self,
    Nat.mod_mod_of_dvd _ (Nat.pow_dvd_pow 2 (by omega))]

/-- What an encoding to `k` octets from octet `o` on leaves in its destination. -/
def EncodesTo (s t : State) (w : Mw) (k : Nat) : Prop :=
  OnlyGroup s t w 4 ∧
    (∀ r, r < 4 → ((t.le w.le).vreg (groupBase w.dest 4 + r)).tags = tagsOf (secIn s w w.src1 4 || secIn s w w.dest 4)) ∧
    (∀ j, j < 576 → j < (aIn s w w.src2).val ∨ (aIn s w w.src2).val + k ≤ j →
      octetAt ((t.le w.le).groupVal (groupBase w.dest 4) 4) j = octetAt (groupIn s w w.dest 4) j) ∧
    ∀ c, c < laneCount (grainOf w.g) 4 →
      laneAt w.pat (octetsNat ((t.le w.le).groupVal (groupBase w.dest 4) 4) (aIn s w w.src2).val k) c =
        laneIn s w w.src1 4 (grainOf w.g) c % 2 ^ w.pat

theorem encodeAt_encodes {defined : Bool} {k : Nat} (h : Issues s w none) (hd : defined = true) (hp : (aIn s w w.src2).sec = false)
    (ho : (aIn s w w.src2).val + k ≤ 576) (hk : w.pat * laneCount (grainOf w.g) 4 = 8 * k) :
    GoesTo (encodeAt s w defined k) (fun t => EncodesTo s t w k) := by
  refine ⟨_, apass_eq h hd (fun _ => hp) (decide_eq_true ho), onlyGroup_writeGroup _ _ _, fun r hr => ?_, fun j hj hjo => ?_, fun c hc => ?_⟩
  · rw [writeGroup_tags _ _ _ r hr, hp, Bool.or_false]
  · rw [writeGroup_val, octetAt_mod (by omega)]
    rcases hjo with hlo | hhi
    · exact octetAt_setOctets_low hlo
    · exact octetAt_setOctets_high hhi
  · have hc8 : w.pat * (c + 1) ≤ 8 * k := hk ▸ Nat.mul_le_mul_left _ hc
    rw [writeGroup_val, octetsNat_mod (by omega), octetsNat_setOctets, laneAt_mod _ _ _ _ hc8]
    exact laneAt_ofLanes_range w.pat _ (laneAt (grainOf w.g) (groupIn s w w.src1 4)) c hc

theorem decodeAt_passes {defined : Bool} {k : Nat} (h : Issues s w none) (hd : defined = true) (hp : (aIn s w w.src2).sec = false)
    (ho : (aIn s w w.src2).val + k ≤ 576) (hw : w.pat ≤ grainOf w.g) :
    Passes (decodeAt s w defined k) s w 4 (grainOf w.g) (secIn s w w.src1 4)
      (fun c => laneAt w.pat (octetsNat (groupIn s w w.src1 4) (aIn s w w.src2).val k) c) := by
  refine apass_passes h hd (fun _ => hp) (decide_eq_true ho) (by rw [secIn_zero, hp, Bool.or_false, Bool.or_false]) fun c hc => ?_
  refine (laneAt_ofLanes_range (grainOf w.g) _ (laneAt w.pat (octetsNat (groupIn s w w.src1 4) (aIn s w w.src2).val k)) c hc).trans ?_
  exact Nat.mod_eq_of_lt (laneAt_lt_of_le hw)

/-- An operation whose offset is secret taints, whatever it would have done. -/
theorem apass_taints {defined : Bool} {n1 n3 nd : Nat} {ok : Nat → Bool} {f : Nat → Nat → Nat → Nat} (h : Issues s w none) (hd : defined = true)
    (hp : (aIn s w w.src2).sec = true) : apass s w defined true n1 n3 nd ok f = .next (s.leDone w.le 0x53 0 1 []) := by
  have e : (true && ((issuedLe s w).areg (aIdx w.src2)).sec) = true := hp
  exact issue_taint h hd (by simp) rfl (if_pos e)

/-- An operation whose offset is public and out of its bounds faults. -/
theorem apass_faults {defined taints : Bool} {n1 n3 nd : Nat} {ok : Nat → Bool} {f : Nat → Nat → Nat → Nat} (h : Issues s w none) (hd : defined = true)
    (hp : (aIn s w w.src2).sec = false) (ho : ok (aIn s w w.src2).val = false) :
    apass s w defined taints n1 n3 nd ok f = .next (s.leDone w.le 0x54 0 0 []) := by
  have e1 : ¬ (taints && ((issuedLe s w).areg (aIdx w.src2)).sec) = true := by
    rw [show ((issuedLe s w).areg (aIdx w.src2)).sec = false from hp, Bool.and_false]
    decide
  have e2 : (!ok ((issuedLe s w).areg (aIdx w.src2)).val) = true := by rw [show ok ((issuedLe s w).areg (aIdx w.src2)).val = false from ho]; rfl
  exact issue_engine h hd (by simp) rfl ((if_neg e1).trans (if_pos e2))

theorem whole_of {g : Nat} (hg : w.g = g) (hs : w.sp = 2) : whole w g = true := by rw [whole, hg, hs, beq_self_eq_true]; rfl

/-- The width of an encoding fits its lane, and its lanes its octets. -/
theorem byteWidth {p : Nat} (hg : w.g = 0) (hp : w.pat ∈ [1, 4, 5, 10, 11, 12]) (hk : 32 * w.pat = p) :
    w.pat ≤ grainOf w.g ∧ w.pat * laneCount (grainOf w.g) 4 = 8 * p := by
  simp only [List.mem_cons, List.not_mem_nil, or_false] at hp
  rw [hg, show grainOf 0 = 18 from rfl, show laneCount 18 4 = 256 from rfl]
  omega

theorem bitWidth {p : Nat} (hg : w.g = 1) (hp : w.pat ∈ [3, 4, 6, 10, 13, 18, 20]) (hk : 16 * w.pat = p) :
    w.pat ≤ grainOf w.g ∧ w.pat * laneCount (grainOf w.g) 4 = 8 * p := by
  simp only [List.mem_cons, List.not_mem_nil, or_false] at hp
  rw [hg, show grainOf 1 = 36 from rfl, show laneCount 36 4 = 128 from rfl]
  omega

/-- Settles O6: a permutation by its table, the packings and encodings by the lanes they write. -/
theorem permutationsAndPackingComplete : Obligations.PermutationsAndPackingComplete := by
  unfold Obligations.PermutationsAndPackingComplete
  refine ⟨fun s w h => ⟨fun hg hs => ⟨fun hp => ?_, fun hp => ?_, fun hp => ?_, fun r hp hr hN => rotate_passes h hg hs hp hr hN,
    fun hp h0 hq => perm_faults h h0 hs hp hq, fun hp h0 hq => negate_passes h h0 hs hp hq,
    fun r hr hN => ⟨interleave_passes h hg hs hr hN, separate_passes h hg hs hr hN⟩⟩, fun hn => ⟨?_, ?_, pack_passes h hn⟩⟩, fun s w h hs => ?_⟩
  · refine perm_moves h (by simp [hg, hs, hp, permDefined]) (by omega) fun j hj => ?_
    rw [hp]
    exact ⟨hj, rfl⟩
  · refine perm_moves h (by simp [hg, hs, hp, permDefined]) (by omega) fun j hj => ?_
    rw [hp]
    exact ⟨by rw [laneCount_four hg]; exact bitRev_lt _ _, rfl⟩
  · refine perm_moves h (by simp [hg, hs, hp, permDefined]) (by omega) fun j hj => ?_
    rw [hp]
    exact ⟨show laneCount (grainOf w.g) 4 - 1 - j < _ by omega, rfl⟩
  · rw [exec_unpackZ]
    exact unpack_passes h hn fun i => laneAt_lt_of_le (by omega)
  · rw [exec_unpackS]
    exact unpack_passes h hn fun i => signed_lt (laneAt_lt _ _ _)
  · have byteOk (hg : w.g = 0) (hp : w.pat ∈ [1, 4, 5, 10, 11, 12]) : (whole w 0 && [1, 4, 5, 10, 11, 12].contains w.pat) = true := by
      rw [whole_of hg hs, List.contains_iff_mem.2 hp]; rfl
    have bitOk (hg : w.g = 1) (hp : w.pat ∈ [3, 4, 6, 10, 13, 18, 20]) : (whole w 1 && [3, 4, 6, 10, 13, 18, 20].contains w.pat) = true := by
      rw [whole_of hg hs, List.contains_iff_mem.2 hp]; rfl
    dsimp only
    rw [exec_byteEncode, exec_byteDecode, exec_bitpack, exec_bitunpack]
    refine ⟨fun ⟨hg, hp⟩ => compress_passes h (whole_of hg hs) hp, fun hsec => ⟨fun ⟨hg, hp⟩ ho => ?_, fun ⟨hg, hp⟩ ho => ?_, fun ⟨hg, hp⟩ ho => ?_⟩,
      fun hsec ⟨hg, hp⟩ => ?_⟩
    · obtain ⟨hle, heq⟩ := byteWidth hg hp rfl
      exact ⟨encodeAt_encodes h (byteOk hg hp) hsec ho heq, decodeAt_passes h (byteOk hg hp) hsec ho hle⟩
    · obtain ⟨hle, heq⟩ := bitWidth hg hp rfl
      exact ⟨encodeAt_encodes h (bitOk hg hp) hsec ho heq, decodeAt_passes h (bitOk hg hp) hsec ho hle⟩
    · rw [execByteEncode, encodeAt]
      exact apass_faults h (byteOk hg hp) hsec (decide_eq_false (Nat.not_le.2 ho))
    · rw [execByteDecode, decodeAt]
      exact apass_taints h (byteOk hg hp) hsec

end Machine
end Sys2Proof
end

section
/-! The roundings and hints of FIPS 204 (R258). -/
namespace Sys2Proof
namespace Machine

variable {s : State} {w : Mw}

theorem centred_low {m r : Nat} (h : r % m ≤ m / 2) : centred m r = (false, r % m) := if_pos h

theorem centred_high {m r : Nat} (h : ¬ r % m ≤ m / 2) : centred m r = (true, m - r % m) := if_neg h

@[simp] theorem modQ_false (x : Nat) : modQ (false, x) = x := rfl

theorem modQ_true {x : Nat} (h : x ≠ 0) : modQ (true, x) = qDsa - x := if_pos ⟨rfl, h⟩

theorem power2Round_spec {r : Nat} (hr : r < qDsa) : ((power2Round r).1 * 8192 + (power2Round r).2) % qDsa = r ∧ (power2Round r).1 < 1024 ∧
    ((power2Round r).2 ≤ 4096 ∨ qDsa - 4096 < (power2Round r).2) ∧ (power2Round r).2 < qDsa := by
  rcases Decidable.em (r % 8192 ≤ 8192 / 2) with hc | hc
  · have he : power2Round r = ((r - r % 8192) / 8192, r % 8192) := by rw [power2Round, centred_low hc]; rfl
    rw [he, qDsa] at *
    dsimp only
    omega
  · have he : power2Round r = ((r + (8192 - r % 8192)) / 8192, qDsa - (8192 - r % 8192)) := by
      rw [power2Round, centred_high hc, modQ_true (by omega)]; rfl
    rw [he, qDsa] at *
    dsimp only
    omega

/-- The high and low part of a lane below `q`, as a number modulo `q`, for a modulus that divides `q − 1`. -/
theorem decompose_cases {m r : Nat} (hm : m = 190464 ∨ m = 523776) (hr : r < qDsa) :
    (r % m ≤ m / 2 ∧ r - r % m ≠ qDsa - 1 ∧ (decompose m r).1 = (r - r % m) / m ∧ modQ (decompose m r).2 = r % m) ∨
    (r % m = 0 ∧ r = qDsa - 1 ∧ (decompose m r).1 = 0 ∧ modQ (decompose m r).2 = qDsa - 1) ∨
    (m / 2 < r % m ∧ r + (m - r % m) ≠ qDsa - 1 ∧ (decompose m r).1 = (r + (m - r % m)) / m ∧ modQ (decompose m r).2 = qDsa - (m - r % m)) ∨
    (m / 2 < r % m ∧ r + (m - r % m) = qDsa - 1 ∧ (decompose m r).1 = 0 ∧ modQ (decompose m r).2 = qDsa - (m - r % m + 1)) := by
  have hlt : r % m < m := Nat.mod_lt _ (by omega)
  have hle : r % m ≤ r := Nat.mod_le _ _
  rcases Decidable.em (r % m ≤ m / 2) with hc | hc
  · have he : decompose m r = if r - r % m = qDsa - 1 then (0, if r % m = 0 then (true, 1) else (false, r % m - 1)) else ((r - r % m) / m, (false, r % m)) := by
      rw [decompose, centred_low hc]; rfl
    rcases Decidable.em (r - r % m = qDsa - 1) with ht | ht
    · have h0 : r % m = 0 := by omega
      rw [he, if_pos ht, if_pos h0]
      exact .inr (.inl ⟨h0, by omega, rfl, rfl⟩)
    · rw [he, if_neg ht]
      exact .inl ⟨hc, ht, rfl, rfl⟩
  · have he : decompose m r = if r + (m - r % m) = qDsa - 1 then (0, (true, m - r % m + 1)) else ((r + (m - r % m)) / m, (true, m - r % m)) := by
      rw [decompose, centred_high hc]; rfl
    rcases Decidable.em (r + (m - r % m) = qDsa - 1) with ht | ht
    · rw [he, if_pos ht]
      exact .inr (.inr (.inr ⟨by omega, ht, rfl, modQ_true (by omega)⟩))
    · rw [he, if_neg ht]
      exact .inr (.inr (.inl ⟨by omega, ht, rfl, modQ_true (by omega)⟩))

theorem decompose_spec {m r : Nat} (hm : m = 190464 ∨ m = 523776) (hr : r < qDsa) :
    ((decompose m r).1 * m + modQ (decompose m r).2) % qDsa = r ∧ (decompose m r).1 < (qDsa - 1) / m ∧
      (modQ (decompose m r).2 ≤ m / 2 ∨ qDsa - m / 2 ≤ modQ (decompose m r).2) ∧ modQ (decompose m r).2 < qDsa := by
  rcases decompose_cases hm hr with ⟨hc, ht, h1, h2⟩ | ⟨hc, ht, h1, h2⟩ | ⟨hc, ht, h1, h2⟩ | ⟨hc, ht, h1, h2⟩
  all_goals
    rw [h1, h2]
    rw [qDsa] at hr ht ⊢
    rcases hm with rfl | rfl <;> omega

theorem decompose_hi_lt {m r : Nat} (hm : m = 190464 ∨ m = 523776) (hr : r < qDsa) : (decompose m r).1 < 2 ^ 36 := by
  obtain ⟨-, h, -, -⟩ := decompose_spec hm hr
  rw [qDsa] at h
  rcases hm with rfl | rfl <;> omega

theorem makeHint_lt (m z r : Nat) : makeHint m z r < 2 ^ 36 := by
  unfold makeHint
  split <;> decide

theorem useHint_lt {m h r : Nat} (hm : m = 190464 ∨ m = 523776) (hr : r < qDsa) : useHint m h r < 2 ^ 36 := by
  have hk : (qDsa - 1) / m < 2 ^ 36 ∧ 0 < (qDsa - 1) / m := by rcases hm with rfl | rfl <;> decide
  unfold useHint
  dsimp only
  split
  · exact decompose_hi_lt hm hr
  · split
    · exact (Nat.mod_lt _ hk.2).trans hk.1
    · exact (Nat.mod_lt _ hk.2).trans hk.1

theorem round1_passes {op : Nat} {f : Nat → Nat} (h : Issues s w none) (hw : whole w 1 = true) (hf : ∀ a, a < qDsa → f a < 2 ^ 36) :
    PassesWhere (round1 s w op f) s w 4 36 (secIn s w w.src1 4)
      (fun k r => laneIn s w w.src1 4 36 k < qDsa → r = f (laneIn s w w.src1 4 36 k)) := by
  have hp := lane4_passes (f := inQ op f) h hw
  rw [whole_grain hw, show grainOf 1 = 36 from rfl] at hp
  refine Passes.weaken hp fun k _ hk => ?_
  rw [inQ, if_pos hk]
  exact Nat.mod_eq_of_lt (hf _ hk)

theorem round2_passes {f g : Nat → Nat → Nat} {P : Nat → Nat → Prop} (h : Issues s w none) (hw : whole w 1 = true) (hf : ∀ a b, P a b → f a b = g a b)
    (hg : ∀ a b, P a b → g a b < 2 ^ 36) :
    PassesWhere (round2 s w f) s w 4 36 (secIn s w w.src1 4 || secIn s w w.src2 4)
      (fun k r => P (laneIn s w w.src1 4 36 k) (laneIn s w w.src2 4 36 k) → r = g (laneIn s w w.src1 4 36 k) (laneIn s w w.src2 4 36 k)) := by
  refine Passes.weaken (vpass_passes (lane := fun i => f (laneIn s w w.src1 4 36 i) (laneIn s w w.src2 4 36 i) % 2 ^ 36) h hw (by simp)
    (by rw [secIn_zero, Bool.or_false]) fun i hi => laneAt_ofLanes_range _ _ _ i hi) fun k _ hk => ?_
  rw [hf _ _ hk]
  exact Nat.mod_eq_of_lt (hg _ _ hk)

theorem gamma88_eq : gamma88 = 190464 := by decide
theorem gamma32_eq : gamma32 = 523776 := by decide

/-- Settles O7: each rounding is a pass over lanes below `q`, where its table's function stays in the lane. -/
theorem roundingsComplete : Obligations.RoundingsComplete := by
  have lo_lt {r : Nat} (h : r < qDsa) : r < 2 ^ 36 := h.trans (by decide)
  refine ⟨fun s w h hw => ?_, fun r hr => ?_, fun m r hm hr => ?_⟩
  · dsimp only
    rw [exec_p2rHi, exec_p2rLo, exec_dec88Hi, exec_dec88Lo, exec_dec32Hi, exec_dec32Lo, exec_mkhint88, exec_mkhint32, exec_usehint88, exec_usehint32,
      execDec88Hi, execDec88Lo, execDec32Hi, execDec32Lo, execMkhint88, execMkhint32, execUsehint88, execUsehint32, gamma88_eq, gamma32_eq]
    refine ⟨round1_passes h hw fun a ha => ?_, round1_passes h hw fun a ha => ?_, round1_passes h hw fun a ha => decompose_hi_lt (.inl rfl) ha,
      round1_passes h hw fun a ha => ?_, round1_passes h hw fun a ha => decompose_hi_lt (.inr rfl) ha, round1_passes h hw fun a ha => ?_,
      round2_passes h hw (fun a b hab => if_pos hab) fun a b _ => makeHint_lt _ _ _, round2_passes h hw (fun a b hab => if_pos hab) fun a b _ => makeHint_lt _ _ _,
      round2_passes h hw (fun a b hab => if_pos hab) fun a b hab => useHint_lt (.inl rfl) hab.1,
      round2_passes h hw (fun a b hab => if_pos hab) fun a b hab => useHint_lt (.inr rfl) hab.1⟩
    · exact (power2Round_spec ha).2.1.trans (by decide)
    · exact lo_lt (power2Round_spec ha).2.2.2
    · exact lo_lt (decompose_spec (.inl rfl) ha).2.2.2
    · exact lo_lt (decompose_spec (.inr rfl) ha).2.2.2
  · obtain ⟨h1, h2, h3, -⟩ := power2Round_spec hr
    exact ⟨h1, h2, h3⟩
  · obtain ⟨h1, h2, h3, -⟩ := decompose_spec hm hr
    exact ⟨h1, h2, h3⟩

end Machine
end Sys2Proof
end

section
/-! Sampling and compaction (R259, R260). -/
namespace Sys2Proof
namespace Machine

variable {s : State} {w : Mw}

theorem sampleCbd_faults {eta n : Nat} (h : Issues s w none) (hq : descOk ((s.le w.le).desc 0) 0 = false) :
    sampleCbd s w eta n = .next (s.leDone w.le 0x54 0 0 []) := by
  exact issue_engine h rfl (by simp) rfl (if_pos (by rw [issuedLe_desc, hq]; rfl))

theorem sampleCbd_passes {eta n : Nat} (h : Issues s w none) (hq : descOk ((s.le w.le).desc 0) 0 = true) (hlt : ((s.le w.le).desc 0).q < 2 ^ 18) :
    Passes (sampleCbd s w eta n) s w 4 18 (secIn s w w.src1 n) (cbd ((s.le w.le).desc 0).q eta (groupIn s w w.src1 n)) := by
  refine ⟨_, issue_go h rfl (by simp) rfl (if_neg (by rw [issuedLe_desc, hq]; decide)), passTo_writeGroup _ _ _ _ _ fun i hi => ?_⟩
  refine (laneAt_ofLanes_range 18 256 _ i hi).trans (Nat.mod_eq_of_lt ?_)
  exact (Nat.mod_lt _ (Nat.pos_of_ne_zero (descOk.q_ne_zero hq))).trans hlt

theorem mem_of_mem_selected {g m x : Nat} {ls : List Nat} (h : x ∈ selected g m ls) : x ∈ ls := by
  obtain ⟨p, hp, rfl⟩ := List.mem_map.1 h
  exact List.fst_mem_of_mem_zipIdx (List.mem_of_mem_filter hp)

/-- A lane that a mask selects fits its grain, and so does what stands past the last. -/
theorem getD_selected_lt (g m k n v i : Nat) : (selected g m (lanesOf k n v)).getD i 0 < 2 ^ k := by
  rw [List.getD_eq_getElem?_getD]
  cases hx : (selected g m (lanesOf k n v))[i]? with
  | none => exact Nat.two_pow_pos k
  | some x => exact lanesOf_lt (mem_of_mem_selected (List.mem_of_getElem? hx))

/-- A lane after compaction, in a destination whose lanes fit their grain. -/
theorem laneAt_compact {g o i : Nat} {sel dst : List Nat} (hi : i < dst.length) (hsel : ∀ j, sel.getD j 0 < 2 ^ g) (hdst : dst.getD i 0 < 2 ^ g) :
    laneAt g (ofLanes g (Machine.compact o sel dst)) i = if o ≤ i ∧ i < o + sel.length then sel.getD (i - o) 0 else dst.getD i 0 := by
  have hl : i < (Machine.compact o sel dst).length := by simpa [Machine.compact] using hi
  have he : (Machine.compact o sel dst)[i] = if o ≤ i ∧ i < o + sel.length then sel.getD (i - o) 0 else dst.getD i 0 := by
    simp [Machine.compact, hi]
  rw [laneAt_ofLanes _ _ _ hl, he]
  refine Nat.mod_eq_of_lt ?_
  split
  · exact hsel _
  · exact hdst

theorem ctCompact_passes (h : Issues s w none) (hg : w.g < 2) (hs : w.sp = 2) :
    Passes (exec (.ctCompact w) s) s w 4 (grainOf w.g) (secIn s w w.src1 4 || ((s.le w.le).mreg w.mask).sec) (fun i =>
      if i < (selected w.g ((s.le w.le).mreg w.mask).val (lanesOf (grainOf w.g) (laneCount (grainOf w.g) 4) (groupIn s w w.src1 4))).length then
        (selected w.g ((s.le w.le).mreg w.mask).val (lanesOf (grainOf w.g) (laneCount (grainOf w.g) 4) (groupIn s w w.src1 4))).getD i 0
      else 0) := by
  have hd : (decide (w.g < 2) && w.sp == 2) = true := by rw [decide_eq_true hg, hs]; rfl
  rw [exec_ctCompact, execCtCompact]
  refine ⟨_, issue_go h hd (by simp) rfl rfl, passTo_writeGroup _ _ _ _ _ fun i hi => ?_⟩
  refine (laneAt_compact (by simpa using hi) (fun j => getD_selected_lt _ _ _ _ _ j) ?_).trans ?_
  · simp [List.getD_eq_getElem?_getD, hi]
  · simp only [Nat.zero_le, true_and, Nat.zero_add, Nat.sub_zero, List.getD_eq_getElem?_getD, List.getElem?_replicate, hi, if_true, Option.getD_some]
    rfl

theorem compact_passes (h : Issues s w none) (hg : w.g < 2) (hs : w.sp = 2) (h1 : secIn s w w.src1 4 = false) (hm : ((s.le w.le).mreg w.mask).sec = false)
    (ho : (aIn s w w.src2).sec = false) :
    Passes (exec (.compact w) s) s w 4 (grainOf w.g) (secIn s w w.dest 4) (fun i =>
      if (aIn s w w.src2).val ≤ i ∧ i < (aIn s w w.src2).val +
          (selected w.g ((s.le w.le).mreg w.mask).val (lanesOf (grainOf w.g) (laneCount (grainOf w.g) 4) (groupIn s w w.src1 4))).length then
        (selected w.g ((s.le w.le).mreg w.mask).val (lanesOf (grainOf w.g) (laneCount (grainOf w.g) 4) (groupIn s w w.src1 4))).getD
          (i - (aIn s w w.src2).val) 0
      else laneIn s w w.dest 4 (grainOf w.g) i) := by
  have hd : (decide (w.g < 2) && w.sp == 2) = true := by rw [decide_eq_true hg, hs]; rfl
  have hsec : ¬ (secIn s w w.src1 4 || ((s.le w.le).mreg w.mask).sec || (aIn s w w.src2).sec) = true := by rw [h1, hm, ho]; decide
  rw [exec_compact, execCompact]
  refine ⟨_, issue_go h hd (by simp) rfl (if_neg hsec), passTo_writeGroup _ _ _ _ _ fun i hi => ?_⟩
  refine (laneAt_compact (by simpa using hi) (fun j => getD_selected_lt _ _ _ _ _ j) ?_).trans ?_
  · rw [lanesOf_getD _ _ _ _ hi]
    exact laneAt_lt _ _ _
  · rw [lanesOf_getD _ _ _ _ hi]
    rfl

theorem compact_taints (h : Issues s w none) (hg : w.g < 2) (hs : w.sp = 2)
    (hsec : (secIn s w w.src1 4 || ((s.le w.le).mreg w.mask).sec || (aIn s w w.src2).sec) = true) :
    exec (.compact w) s = .next (s.leDone w.le 0x53 0 1 []) := by
  have hd : (decide (w.g < 2) && w.sp == 2) = true := by rw [decide_eq_true hg, hs]; rfl
  rw [exec_compact, execCompact]
  exact issue_taint h hd (by simp) rfl (if_pos hsec)

/-- Settles O8: the samples as a pass over 256 lanes, the compactions as one over their destination. -/
theorem samplingAndCompactionComplete : Obligations.SamplingAndCompactionComplete := by
  refine fun s w h => ⟨fun hq => ?_, fun hq hlt => ?_, fun hg hs => ⟨ctCompact_passes h hg hs, compact_passes h hg hs, compact_taints h hg hs⟩⟩
  · rw [exec_cbd2, exec_cbd3]
    exact ⟨sampleCbd_faults h hq, sampleCbd_faults h hq⟩
  · rw [exec_cbd2, exec_cbd3]
    exact ⟨sampleCbd_passes h hq hlt, sampleCbd_passes h hq hlt⟩

end Machine
end Sys2Proof
end

section
/-! Masked operations and declassification (R261, R262). -/
namespace Sys2Proof
namespace Machine

variable {s : State} {w : Mw}

theorem State.setLe_masksDrawn (s : State) (e k : Nat) (l l' : Le) : ((s.setLe e l).masksDrawn k).setLe e l' = (s.masksDrawn k).setLe e l' := by
  simp [State.setLe, State.masksDrawn, Map.put_put]

/-- What a masked operation of span `n` that drew `k` masks leaves, the shares of each lane as `Q` says. -/
def MaskedTo (s t : State) (w : Mw) (k : Nat) (sec : Bool) (Q : List Nat → Nat → Prop) : Prop :=
  t = { s with les := t.les, free := s.free + k } ∧ (∀ e, e ≠ w.le → t.le e = s.le e) ∧
    t.le w.le = { (issuedLe s w).takeMasks k with regs := { (issuedLe s w).regs with v := (t.le w.le).regs.v } } ∧
    (∀ r, (r < groupBase w.dest (spanOf w.sp) ∨ groupBase w.dest (spanOf w.sp) + spanOf w.sp ≤ r) → (t.le w.le).vreg r = (s.le w.le).vreg r) ∧
    (∀ r, r < spanOf w.sp → ((t.le w.le).vreg (groupBase w.dest (spanOf w.sp) + r)).tags = tagsOf sec) ∧
    (∀ i, i < 1152 / grainOf w.g → Q (lanesAt (grainOf w.g) i ((t.le w.le).regsOf (groupBase w.dest (spanOf w.sp)) (w.sp + 1))) i)

/-- The registers of a group written from a list are those of the list. -/
theorem regsOf_setGroup {l : Le} {b n : Nat} {L : List Nat} {sec : Bool} (h : L.length ≤ n) :
    (l.setGroup b n (ofRegs L) sec).regsOf b L.length = L.map (· % 2 ^ 1152) := by
  refine List.ext_getElem (by rw [Le.regsOf, List.length_map, List.length_map, List.length_range]) fun i h1 h2 => ?_
  have hi : i < L.length := by rwa [List.length_map] at h2
  simp only [Le.regsOf, List.getElem_map, List.getElem_range]
  rw [Le.vreg_setGroup _ _ _ _ _ _ (Nat.lt_of_lt_of_le hi h)]
  exact laneAt_ofLanes 1152 L i hi

theorem lanesAt_mod {g i : Nat} {L : List Nat} (hi : i < 1152 / g) : lanesAt g i (L.map (· % 2 ^ 1152)) = lanesAt g i L := by
  have hle : g * (i + 1) ≤ 1152 := (Nat.mul_le_mul_left g hi).trans (Nat.mul_div_le _ _)
  simp only [lanesAt, List.map_map]
  exact List.map_congr_left fun x _ => laneAt_mod g x i 1152 hle

theorem maskedTo_writeGroup {k : Nat} {L : List Nat} {sec : Bool} {Q : List Nat → Nat → Prop} (hL : L.length = w.sp + 1) (hn : w.sp + 1 ≤ spanOf w.sp)
    (hQ : ∀ i, i < 1152 / grainOf w.g → Q (lanesAt (grainOf w.g) i L) i) :
    MaskedTo s (((s.setLe w.le (issuedLe s w)).masksDrawn k).writeGroup w ((issuedLe s w).takeMasks k) (spanOf w.sp) (ofRegs L) sec) w k sec Q := by
  rw [State.writeGroup, State.setLe_masksDrawn]
  refine ⟨rfl, fun e he => ?_, ?_, fun r hr => ?_, fun r hr => ?_, fun i hi => ?_⟩
  · rw [State.le_setLe_of_ne _ _ he]
    rfl
  · obtain ⟨x, hx⟩ := foldl_setV_rest ((issuedLe s w).takeMasks k) (groupBase w.dest (spanOf w.sp)) (spanOf w.sp) (fun i => ⟨laneAt 1152 (ofRegs L) i, tagsOf sec⟩)
    have hg : ((issuedLe s w).takeMasks k).setGroup (groupBase w.dest (spanOf w.sp)) (spanOf w.sp) (ofRegs L) sec =
        { (issuedLe s w).takeMasks k with regs := { (issuedLe s w).regs with v := x } } := hx
    rw [State.le_setLe_self, hg]
  · rw [State.le_setLe_self, Le.vreg_setGroup_other _ _ _ _ _ _ hr]
    rfl
  · rw [State.le_setLe_self, Le.vreg_setGroup _ _ _ _ _ _ hr]
  · rw [State.le_setLe_self, ← hL, regsOf_setGroup (hL ▸ hn), lanesAt_mod hi]
    exact hQ i hi

section
variable {defined modular two : Bool} {f : Nat → Descriptor → List Nat → List Nat → List Nat → List Nat}

theorem span_ok (hsp : w.sp = 1 ∨ w.sp = 2) : (w.sp == 1 || w.sp == 2) = true := by rcases hsp with h | h <;> rw [h] <;> rfl

theorem share_le_span (hsp : w.sp = 1 ∨ w.sp = 2) : w.sp + 1 ≤ spanOf w.sp := by rcases hsp with h | h <;> rw [h] <;> decide

theorem masked_goes {sec : Bool} {Q : List Nat → Nat → Prop} (h : Issues s w (some 3)) (hsp : w.sp = 1 ∨ w.sp = 2) (hd : defined = true)
    (hm : modular = true → descOk (descIn s w) w.g = true) (hk : 2 * w.sp - 1 ≤ (s.le w.le).maskBuf)
    (hsec : ((s.le w.le).groupSec (groupBase w.src1 (spanOf w.sp)) (w.sp + 1) || (two && (s.le w.le).groupSec (groupBase w.src2 (spanOf w.sp)) (w.sp + 1))) = sec)
    (hL : ∀ d r x y, (f (w.sp + 1) d r x y).length = w.sp + 1)
    (hQ : ∀ i, i < 1152 / grainOf w.g → Q (lanesAt (grainOf w.g) i (f (w.sp + 1) (descIn s w) (s.masks (2 * w.sp - 1))
      ((s.le w.le).regsOf (groupBase w.src1 (spanOf w.sp)) (w.sp + 1)) ((s.le w.le).regsOf (groupBase w.src2 (spanOf w.sp)) (w.sp + 1)))) i) :
    GoesTo (masked s w defined modular two f) (fun t => MaskedTo s t w (2 * w.sp - 1) sec Q) := by
  have hmod : ¬ (modular && !descOk ((issuedLe s w).desc w.q) w.g) = true := by
    cases modular
    · simp
    · rw [show descOk ((issuedLe s w).desc w.q) w.g = true from hm rfl]; decide
  have hdef : (defined && (w.sp == 1 || w.sp == 2)) = true := by rw [hd, span_ok hsp]; rfl
  refine ⟨_, issue_go h hdef (by simp) rfl ((if_neg hmod).trans (if_neg (Nat.not_lt.2 hk))), ?_⟩
  rw [← hsec]
  exact maskedTo_writeGroup (hL _ _ _ _) (share_le_span hsp) hQ

theorem masked_holds (h : Issues s w (some 3)) (hsp : w.sp = 1 ∨ w.sp = 2) (hd : defined = true) (hm : modular = false)
    (hk : (s.le w.le).maskBuf < 2 * w.sp - 1) : masked s w defined modular two f = .next (s.setLe w.le ((s.le w.le).held 3)) := by
  have hdef : (defined && (w.sp == 1 || w.sp == 2)) = true := by rw [hd, span_ok hsp]; rfl
  unfold masked
  refine (issue_hold (t := s.setLe w.le (issuedLe s w)) (code := 3) h hdef (by simp) rfl ((if_neg (by simp [hm])).trans (if_pos hk))).trans ?_
  rw [State.setLe_setLe]

end

theorem laneAt_xor (g a b i : Nat) : laneAt g (a ^^^ b) i = laneAt g a i ^^^ laneAt g b i := by
  unfold laneAt
  exact (congrArg (· % 2 ^ g) Nat.xor_div_two_pow).trans Nat.xor_mod_two_pow

theorem laneAt_land (g a b i : Nat) : laneAt g (a &&& b) i = laneAt g a i &&& laneAt g b i := by
  unfold laneAt
  exact (congrArg (· % 2 ^ g) Nat.and_div_two_pow).trans Nat.and_mod_two_pow

/-- The two shares of ISW at order 1 combine to the product. -/
theorem isw_two (r x0 x1 y0 y1 : Nat) (rs : List Nat) :
    xorShares (isw 2 (r :: rs) [x0, x1] [y0, y1]) = Nat.land (xorShares [x0, x1]) (xorShares [y0, y1]) := by
  refine Nat.eq_of_testBit_eq fun i => ?_
  show Nat.testBit ((0 ^^^ ((x0 &&& y0) ^^^ r)) ^^^ ((x1 &&& y1) ^^^ ((r ^^^ (x0 &&& y1)) ^^^ (x1 &&& y0)))) i = Nat.testBit (((0 ^^^ x0) ^^^ x1) &&& ((0 ^^^ y0) ^^^ y1)) i
  simp only [Nat.testBit_xor, Nat.testBit_and, Nat.zero_testBit]
  cases x0.testBit i <;> cases x1.testBit i <;> cases y0.testBit i <;> cases y1.testBit i <;> cases r.testBit i <;> rfl

/-- The three shares of ISW at order 2 combine to the product: each mask is added twice. -/
theorem isw_three (r0 r1 r2 x0 x1 x2 y0 y1 y2 : Nat) :
    xorShares (isw 3 [r0, r1, r2] [x0, x1, x2] [y0, y1, y2]) = Nat.land (xorShares [x0, x1, x2]) (xorShares [y0, y1, y2]) := by
  refine Nat.eq_of_testBit_eq fun i => ?_
  show Nat.testBit (((0 ^^^ (((x0 &&& y0) ^^^ r0) ^^^ r1)) ^^^ (((x1 &&& y1) ^^^ ((r0 ^^^ (x0 &&& y1)) ^^^ (x1 &&& y0))) ^^^ r2)) ^^^
    (((x2 &&& y2) ^^^ ((r1 ^^^ (x0 &&& y2)) ^^^ (x2 &&& y0))) ^^^ ((r2 ^^^ (x1 &&& y2)) ^^^ (x2 &&& y1)))) i =
    Nat.testBit ((((0 ^^^ x0) ^^^ x1) ^^^ x2) &&& (((0 ^^^ y0) ^^^ y1) ^^^ y2)) i
  simp only [Nat.testBit_xor, Nat.testBit_and, Nat.zero_testBit, Bool.false_xor, Bool.and_xor_distrib_left, Bool.and_xor_distrib_right]
  have hc : Std.Commutative Bool.xor := ⟨Bool.xor_comm⟩
  have ha : Std.Associative Bool.xor := ⟨Bool.xor_assoc⟩
  cases r0.testBit i <;> cases r1.testBit i <;> cases r2.testBit i <;>
    simp only [Bool.true_xor, Bool.xor_true, Bool.false_xor, Bool.xor_false, Bool.xor_not, Bool.not_xor, Bool.not_not] <;>
    ac_rfl

theorem lanesAt_isw_two (g i r x0 x1 y0 y1 : Nat) (rs : List Nat) : lanesAt g i (isw 2 (r :: rs) [x0, x1] [y0, y1]) =
    isw 2 (lanesAt g i (r :: rs)) (lanesAt g i [x0, x1]) (lanesAt g i [y0, y1]) := by
  simp [lanesAt, isw, laneAt_xor, laneAt_land]

theorem lanesAt_isw_three (g i r0 r1 r2 x0 x1 x2 y0 y1 y2 : Nat) : lanesAt g i (isw 3 [r0, r1, r2] [x0, x1, x2] [y0, y1, y2]) =
    isw 3 (lanesAt g i [r0, r1, r2]) (lanesAt g i [x0, x1, x2]) (lanesAt g i [y0, y1, y2]) := by
  simp [lanesAt, isw, laneAt_xor, laneAt_land]

/-- A lane of registers made share by share holds the lane's shares. -/
theorem lanesAt_shareLanes {g m i : Nat} {f : Nat → List Nat} {l : List Nat} (hi : i < 1152 / g) (hl : f i = l) (hm : l.length = m) (hlt : ∀ v ∈ l, v < 2 ^ g) :
    lanesAt g i (shareLanes g m f) = l := by
  refine List.ext_getElem (by simp [lanesAt, shareLanes, hm]) fun k h1 h2 => ?_
  simp only [lanesAt, shareLanes, List.getElem_map, List.getElem_range]
  rw [laneAt_ofLanes_range _ _ _ _ hi, hl, List.getD_eq_getElem _ _ h2, Nat.mod_eq_of_lt (hlt _ (List.getElem_mem h2))]

@[simp] theorem length_shareLanes (g m : Nat) (f : Nat → List Nat) : (shareLanes g m f).length = m := by simp [shareLanes]

theorem sum_map_mod_le (q : Nat) (r : List Nat) (hq : 0 < q) : (r.map (fun x => x % q)).sum ≤ r.length * q := by
  induction r with
  | nil => simp
  | cons x r ih =>
    have hx : x % q < q := Nat.mod_lt _ hq
    rw [List.map_cons, List.sum_cons, List.length_cons, Nat.succ_mul]
    omega

/-- Arithmetic shares: as many as asked for, each below `q`, and their value. -/
theorem arithShares_spec {q m v : Nat} {r : List Nat} (hq : 0 < q) (hm : 0 < m) (hr : m - 1 ≤ r.length) :
    (arithShares q m v r).length = m ∧ (∀ x ∈ arithShares q m v r, x < q) ∧ addShares q (arithShares q m v r) = v % q := by
  have hlen : (r.take (m - 1)).length = m - 1 := by rw [List.length_take, Nat.min_eq_left hr]
  have hle := sum_map_mod_le q (r.take (m - 1)) hq
  rw [hlen] at hle
  refine ⟨?_, fun x hx => ?_, ?_⟩
  · rw [arithShares, List.length_append, List.length_map, hlen, List.length_singleton]
    omega
  · rcases List.mem_append.1 hx with hx | hx
    · obtain ⟨y, -, rfl⟩ := List.mem_map.1 hx
      exact Nat.mod_lt _ hq
    · rw [List.mem_singleton.1 hx]
      exact Nat.mod_lt _ hq
  · rw [addShares, arithShares, List.sum_append, List.sum_singleton, Nat.add_mod_mod,
      show ((r.take (m - 1)).map (fun x => x % q)).sum + (v + (m - 1) * q - ((r.take (m - 1)).map (fun x => x % q)).sum) = v + (m - 1) * q by omega,
      Nat.add_mul_mod_self_right]

theorem xor_foldl (l : List Nat) (z : Nat) : l.foldl Nat.xor z = Nat.xor z (xorShares l) := by
  induction l generalizing z with
  | nil => exact (Nat.xor_zero z).symm
  | cons x l ih =>
    rw [xorShares, List.foldl_cons, List.foldl_cons, ih, ih (Nat.xor 0 x)]
    show (z ^^^ x) ^^^ xorShares l = z ^^^ ((0 ^^^ x) ^^^ xorShares l)
    rw [Nat.zero_xor, Nat.xor_assoc]

theorem xorShares_cons (x : Nat) (l : List Nat) : xorShares (x :: l) = x ^^^ xorShares l := by
  rw [xorShares, List.foldl_cons, xor_foldl]
  exact congrArg (· ^^^ xorShares l) (Nat.zero_xor x)

theorem xorShares_append (l r : List Nat) : xorShares (l ++ r) = xorShares l ^^^ xorShares r := by
  rw [xorShares, List.foldl_append, xor_foldl]
  rfl

theorem xorShares_lt {g : Nat} {l : List Nat} (h : ∀ x ∈ l, x < 2 ^ g) : xorShares l < 2 ^ g :=
  foldl_lt (fun _ _ hx hy => Nat.xor_lt_two_pow hx hy) h (Nat.two_pow_pos g)

/-- Boolean shares: as many as asked for, each of `g` bits, and their value. -/
theorem boolShares_spec {g m v : Nat} {r : List Nat} (hm : 0 < m) (hr : m - 1 ≤ r.length) (hv : v < 2 ^ g) (hlt : ∀ x ∈ r, x < 2 ^ g) :
    (boolShares m v r).length = m ∧ (∀ x ∈ boolShares m v r, x < 2 ^ g) ∧ xorShares (boolShares m v r) = v := by
  have htake : ∀ x ∈ r.take (m - 1), x < 2 ^ g := fun x hx => hlt x (List.mem_of_mem_take hx)
  refine ⟨?_, fun x hx => ?_, ?_⟩
  · rw [boolShares, List.length_append, List.length_take, Nat.min_eq_left hr, List.length_singleton]
    omega
  · rcases List.mem_append.1 hx with hx | hx
    · exact htake x hx
    · rw [List.mem_singleton.1 hx]
      exact xorShares_lt fun y hy => (List.mem_cons.1 hy).elim (fun h => h ▸ hv) (htake y)
  · rw [boolShares, xorShares_append, xorShares_cons, xorShares_cons, show xorShares ([] : List Nat) = 0 from rfl, Nat.xor_zero, Nat.xor_left_comm,
      Nat.xor_self, Nat.xor_zero]

@[simp] theorem length_lanesAt (g i : Nat) (rs : List Nat) : (lanesAt g i rs).length = rs.length := by simp [lanesAt]
@[simp] theorem length_masks (k : Nat) : (s.masks k).length = k := by simp only [State.masks, List.length_map, List.length_range]
@[simp] theorem length_regsOf (l : Le) (b n : Nat) : (l.regsOf b n).length = n := by simp [Le.regsOf]

theorem lanesAt_lt {g i v : Nat} {rs : List Nat} (h : v ∈ lanesAt g i rs) : v < 2 ^ g := by
  obtain ⟨r, -, rfl⟩ := List.mem_map.1 h
  exact laneAt_lt _ _ _

theorem isw_lane {sp g i : Nat} {r x y : List Nat} (hsp : sp = 1 ∨ sp = 2) (hr : r.length = 2 * sp - 1) (hx : x.length = sp + 1) (hy : y.length = sp + 1) :
    xorShares (lanesAt g i (isw (sp + 1) r x y)) = Nat.land (xorShares (lanesAt g i x)) (xorShares (lanesAt g i y)) := by
  rcases hsp with rfl | rfl
  · obtain ⟨r0, rfl⟩ := List.length_eq_one_iff.1 hr
    obtain ⟨x0, x1, rfl⟩ := List.length_eq_two.1 hx
    obtain ⟨y0, y1, rfl⟩ := List.length_eq_two.1 hy
    rw [lanesAt_isw_two]
    exact isw_two _ _ _ _ _ _
  · obtain ⟨r0, r1, r2, rfl⟩ := List.length_eq_three.1 hr
    obtain ⟨x0, x1, x2, rfl⟩ := List.length_eq_three.1 hx
    obtain ⟨y0, y1, y2, rfl⟩ := List.length_eq_three.1 hy
    rw [lanesAt_isw_three]
    exact isw_three _ _ _ _ _ _ _ _ _

theorem length_isw {sp : Nat} (hsp : sp = 1 ∨ sp = 2) (r x y : List Nat) : (isw (sp + 1) r x y).length = sp + 1 := by
  rcases hsp with rfl | rfl <;> rfl

/-- The value of the shares of lane `i` in the group that a field names. -/
def sharesIn (s : State) (w : Mw) (f : BitVec 5) (i : Nat) : List Nat :=
  lanesAt (grainOf w.g) i ((s.le w.le).regsOf (groupBase f (spanOf w.sp)) (w.sp + 1))

/-- Whether one of the shares of the group that a field names is secret. -/
def sharesSec (s : State) (w : Mw) (f : BitVec 5) : Bool := (s.le w.le).groupSec (groupBase f (spanOf w.sp)) (w.sp + 1)

section
variable (h : Issues s w (some 3)) (hsp : w.sp = 1 ∨ w.sp = 2)
include h hsp

theorem secand_goes (hk : 2 * w.sp - 1 ≤ (s.le w.le).maskBuf) (hg : w.g = 2) :
    GoesTo (exec (.secand w) s) (fun t => MaskedTo s t w (2 * w.sp - 1) (sharesSec s w w.src1 || sharesSec s w w.src2) (fun z i =>
      xorShares z = Nat.land (xorShares (sharesIn s w w.src1 i)) (xorShares (sharesIn s w w.src2 i)))) := by
  rw [exec_secand, execSecand]
  exact masked_goes h hsp (by rw [hg]; rfl) (by simp) hk (by rw [Bool.true_and]; rfl) (fun _ _ _ _ => length_isw hsp _ _ _)
    fun i _ => isw_lane hsp (length_masks _) (length_regsOf _ _ _) (length_regsOf _ _ _)

theorem secand_holds (hk : (s.le w.le).maskBuf < 2 * w.sp - 1) (hg : w.g = 2) :
    exec (.secand w) s = .next (s.setLe w.le ((s.le w.le).held 3)) := by
  rw [exec_secand, execSecand]
  exact masked_holds h hsp (by rw [hg]; rfl) rfl hk

variable (hk : 2 * w.sp - 1 ≤ (s.le w.le).maskBuf) (hg : w.g < 2) (hq : w.q = w.g) (hd : descOk (descIn s w) w.g = true)
  (hlt : (descIn s w).q < 2 ^ grainOf w.g)
include hk hg hq hd hlt

theorem secmulm_goes : GoesTo (exec (.secmulm w) s) (fun t => MaskedTo s t w (2 * w.sp - 1) (sharesSec s w w.src1 || sharesSec s w w.src2) (fun z i =>
    addShares (descIn s w).q z = mont (grainOf w.g) (descIn s w) (addShares (descIn s w).q (sharesIn s w w.src1 i) * addShares (descIn s w).q (sharesIn s w w.src2 i))
        % (descIn s w).q ∧ ∀ v ∈ z, v < (descIn s w).q)) := by
  have hq0 : 0 < (descIn s w).q := Nat.pos_of_ne_zero (descOk.q_ne_zero hd)
  rw [exec_secmulm, execSecmulm]
  refine masked_goes h hsp (by rw [decide_eq_true hg, hq, beq_self_eq_true]; rfl) (fun _ => hd) hk (by rw [Bool.true_and]; rfl)
    (fun _ _ _ _ => length_shareLanes _ _ _) fun i hi => ?_
  obtain ⟨hm, hsh, hval⟩ := arithShares_spec (v := condSub (descIn s w).q (mont (grainOf w.g) (descIn s w)
    (addShares (descIn s w).q (sharesIn s w w.src1 i) * addShares (descIn s w).q (sharesIn s w w.src2 i)))) hq0 (Nat.succ_pos w.sp)
    (r := lanesAt (grainOf w.g) i (s.masks (2 * w.sp - 1))) (by rw [length_lanesAt, length_masks]; omega)
  rw [lanesAt_shareLanes hi rfl hm fun v hv => (hsh v hv).trans hlt]
  refine ⟨hval.trans ?_, hsh⟩
  rw [condSub]
  split
  · next hle => exact (Nat.mod_eq_sub_mod hle).symm
  · rfl

theorem a2b_goes : GoesTo (exec (.a2b w) s) (fun t => MaskedTo s t w (2 * w.sp - 1) (sharesSec s w w.src1) (fun z i =>
    xorShares z = addShares (descIn s w).q (sharesIn s w w.src1 i))) := by
  have hq0 : 0 < (descIn s w).q := Nat.pos_of_ne_zero (descOk.q_ne_zero hd)
  rw [exec_a2b, execA2b]
  refine masked_goes h hsp (by rw [decide_eq_true hg, hq, beq_self_eq_true]; rfl) (fun _ => hd) hk (by rw [Bool.false_and, Bool.or_false]; rfl)
    (fun _ _ _ _ => length_shareLanes _ _ _) fun i hi => ?_
  obtain ⟨hm, hsh, hval⟩ := boolShares_spec (v := addShares (descIn s w).q (sharesIn s w w.src1 i)) (Nat.succ_pos w.sp)
    (r := lanesAt (grainOf w.g) i (s.masks (2 * w.sp - 1))) (by rw [length_lanesAt, length_masks]; omega) ((Nat.mod_lt _ hq0).trans hlt) fun _ => lanesAt_lt
  rw [lanesAt_shareLanes hi rfl hm hsh]
  exact hval

theorem b2a_goes : GoesTo (exec (.b2a w) s) (fun t => MaskedTo s t w (2 * w.sp - 1) (sharesSec s w w.src1) (fun z i =>
    xorShares (sharesIn s w w.src1 i) < (descIn s w).q →
      addShares (descIn s w).q z = xorShares (sharesIn s w w.src1 i) ∧ ∀ v ∈ z, v < (descIn s w).q)) := by
  have hq0 : 0 < (descIn s w).q := Nat.pos_of_ne_zero (descOk.q_ne_zero hd)
  rw [exec_b2a, execB2a]
  refine masked_goes h hsp (by rw [decide_eq_true hg, hq, beq_self_eq_true]; rfl) (fun _ => hd) hk (by rw [Bool.false_and, Bool.or_false]; rfl)
    (fun _ _ _ _ => length_shareLanes _ _ _) fun i hi hx => ?_
  obtain ⟨hm, hsh, hval⟩ := arithShares_spec (v := xorShares (sharesIn s w w.src1 i)) hq0 (Nat.succ_pos w.sp)
    (r := lanesAt (grainOf w.g) i (s.masks (2 * w.sp - 1))) (by rw [length_lanesAt, length_masks]; omega)
  rw [lanesAt_shareLanes hi (if_pos hx) hm fun v hv => (hsh v hv).trans hlt]
  exact ⟨hval.trans (Nat.mod_eq_of_lt hx), hsh⟩

end

theorem bit_lt (l : List Nat) (p : Nat) : xorShares (l.map (fun v => v / 2 ^ p % 2)) < 2 :=
  xorShares_lt (g := 1) fun x hx => by
    obtain ⟨y, -, rfl⟩ := List.mem_map.1 hx
    exact Nat.mod_lt _ (by decide)

/-- A declassification with a bit of the registers and masks enough gives that bit, public. -/
theorem declassify_goes {n m k : Nat} (h : Issues s w (if k = 0 then none else some 3)) (hs : w.secret = true)
    (hp : (aIn s w w.src2).val % 2 ^ 11 < 1152) (hk : k ≤ (s.le w.le).maskBuf) :
    declassify s w n m k = .next ({ s with free := s.free + k }.setLe w.le (((issuedLe s w).takeMasks k).setA (aIdx w.dest)
      (xorShares (((s.le w.le).regsOf (groupBase w.src1 n) m).map (fun v => v / 2 ^ ((aIn s w w.src2).val % 2 ^ 11) % 2))) false)) := by
  unfold declassify
  refine (issue_go h rfl (fun _ => hs) rfl ((if_neg (Nat.not_le.2 hp)).trans (if_neg (Nat.not_lt.2 hk)))).trans ?_
  rw [State.setLe_masksDrawn]
  rfl

theorem declassify_faults {n m : Nat} (h : Issues s w none) (hs : w.secret = true) (hp : 1152 ≤ (aIn s w w.src2).val % 2 ^ 11) :
    declassify s w n m 0 = .next (s.leDone w.le 0x54 0 0 []) :=
  issue_engine h rfl (fun _ => hs) rfl (if_pos hp)

/-- A microword that is not of the secret class is refused an operation that is. -/
theorem issue_refuses {stream : Bool} {need : Option Nat} {body : State → Le → Issue} (h : Issues s w need) (hs : w.secret = false) :
    issue s w true true need stream body = .next (s.leDone w.le 0x54 0 0 []) := by
  obtain ⟨h1, h2, hw, h3, -, -, -⟩ := h
  have e1 : ¬ ((s.le w.le).job = none ∨ s.clk.gated = true ∨ s.wordBad w.le = true) := by simp [h1, h2, hw]
  have e2 : ¬ ((w.safePoint && (s.engine w.le).latched != []) = true) := by
    cases hsp : w.safePoint <;> simp_all
  unfold issue
  simp [e1, e2, hs]

theorem declassify_refuses {n m : Nat} (h : Issues s w none) (hs : w.secret = false) : declassify s w n m 0 = .next (s.leDone w.le 0x54 0 0 []) :=
  issue_refuses h hs

/-- Settles O9: each masked operation leaves shares of its value, and a declassification the bit it names. -/
theorem maskedAndDeclassifyingOperationsComplete : Obligations.MaskedAndDeclassifyingOperationsComplete := by
  refine ⟨fun s w h hsp => ?_, fun s w h hsp hk hg => secand_holds h hsp hk hg, fun s w => ?_⟩
  · exact fun hk => ⟨fun hg => secand_goes h hsp hk hg, fun hg hq hd hlt =>
      ⟨secmulm_goes h hsp hk hg hq hd hlt, a2b_goes h hsp hk hg hq hd hlt, b2a_goes h hsp hk hg hq hd hlt⟩⟩
  · dsimp only
    rw [exec_declBit, exec_declBit2, exec_declBit3]
    exact ⟨fun h hs hp hk => ⟨declassify_goes h hs hp hk, bit_lt _ _⟩,
      fun h hs hp => ⟨fun hk => ⟨declassify_goes h hs hp hk, bit_lt _ _⟩, fun hk => ⟨declassify_goes h hs hp hk, bit_lt _ _⟩⟩,
      fun h hs hp => declassify_faults h hs hp, fun h hs => declassify_refuses h hs⟩

end Machine
end Sys2Proof
end

section
/-! The A registers (R263). -/
namespace Sys2Proof
namespace Machine

variable {s : State} {w : Mw}

theorem areg2_goes {f : Nat → Nat → Nat} (h : Issues s w none) :
    GoesTo (areg2 s w f) (fun t => ATo s t w (f (aIn s w w.src1).val (aIn s w w.src2).val % 2 ^ 36) ((aIn s w w.src1).sec || (aIn s w w.src2).sec)) :=
  ⟨_, issue_go h rfl (by simp) rfl rfl, aTo_setA _ _ _ rfl⟩

theorem aimm_goes {f : Nat → Nat → Nat} {reads : Bool} (h : Issues s w none) (hs : w.secret = false) :
    GoesTo (aimm s w f reads) (fun t => ATo s t w (f (aIn s w w.src1).val w.addr.toNat % 2 ^ 36) (reads && (aIn s w w.src1).sec)) :=
  ⟨_, issue_go h (by rw [hs]; rfl) (by simp) rfl rfl, aTo_setA _ _ _ rfl⟩

theorem afromv_goes (h : Issues s w none) : GoesTo (exec (.afromv w) s) (fun t =>
    ATo s t w (((s.le w.le).vreg w.src1.toNat).val % 2 ^ 36) (bitAt ((s.le w.le).vreg w.src1.toNat).tags 0)) := by
  have hv : ((s.le w.le).vreg w.src1.toNat).val % 2 ^ 36 = (((s.le w.le).vreg w.src1.toNat).word 0).val % 2 ^ 36 := by
    rw [VReg.word, laneAt, Nat.mul_zero, Nat.pow_zero, Nat.div_one, Nat.mod_mod_of_dvd _ (Nat.pow_dvd_pow 2 (by decide))]
  rw [exec_afromv, execAfromv, hv]
  exact ⟨_, issue_go h rfl (by simp) rfl rfl, aTo_setA _ _ _ rfl⟩

theorem abcast_passes (h : Issues s w none) : Passes (exec (.abcast w) s) s w 4 36 (aIn s w w.src2).sec (fun _ => (aIn s w w.src2).val % 2 ^ 36) := by
  rw [exec_abcast, execAbcast]
  refine ⟨_, issue_go h rfl (by simp) rfl rfl, passTo_writeGroup _ _ _ _ _ fun i hi => ?_⟩
  rw [laneAt_ofLanes _ _ _ (by rw [List.length_replicate]; exact hi), List.getElem_replicate]
  rfl

theorem mcount_goes (h : Issues s w none) : GoesTo (exec (.mcount w) s) (fun t =>
    ATo s t w (popCount 256 ((s.le w.le).mreg w.mask).val) ((s.le w.le).mreg w.mask).sec) := by
  rw [exec_mcount, execMcount, ← Nat.mod_eq_of_lt ((popCount_le 256 ((s.le w.le).mreg w.mask).val).trans_lt (show 256 < 2 ^ 36 by decide))]
  exact ⟨_, issue_go h rfl (by simp) rfl rfl, aTo_setA _ _ _ rfl⟩

/-- Settles O10: each operation writes its destination register alone. -/
theorem aRegisterOperationsComplete : Obligations.ARegisterOperationsComplete := by
  intro s w h
  dsimp only
  rw [exec_aadd, exec_asub, exec_aand, exec_ashr, exec_aaddi, exec_aldi, exec_asetw]
  refine ⟨areg2_goes h, areg2_goes h, areg2_goes h, areg2_goes h, fun hs => ?_, afromv_goes h, abcast_passes h, mcount_goes h⟩
  have hi : w.addr.toNat < 2 ^ 14 := w.addr.isLt
  have hldi := aimm_goes (f := fun _ i => i) (reads := false) h hs
  have hset := aimm_goes (f := fun a i => i % 8 * 2 ^ 33 + a % 2 ^ 24) (reads := true) h hs
  rw [Nat.mod_eq_of_lt (hi.trans (by decide))] at hldi
  rw [Nat.mod_eq_of_lt (by omega)] at hset
  exact ⟨aimm_goes h hs, hldi, hset⟩

end Machine
end Sys2Proof
end

section
/-! Stores and descriptor loads (R202, R264). -/
namespace Sys2Proof

/-- Values stored at one key after another. -/
def Map.storeAll {α : Type} [DecidableEq α] (d : α) : Map α → Nat → List α → Map α
  | m, _, [] => m
  | m, k, v :: vs => Map.storeAll d (Map.store m k v d) (k + 1) vs

theorem Map.getD_storeAll {α : Type} [DecidableEq α] (d : α) (vs : List α) : ∀ (m : Map α) (k x : Nat), Map.wf m = true →
    Map.getD (Map.storeAll d m k vs) x d = if k ≤ x ∧ x < k + vs.length then vs.getD (x - k) d else Map.getD m x d := by
  induction vs with
  | nil =>
    intro m k x _
    rw [Map.storeAll, if_neg (by rw [List.length_nil]; omega)]
  | cons v vs ih =>
    intro m k x hm
    rw [Map.storeAll, ih _ _ _ (Map.wf_store m k v d hm), List.length_cons]
    by_cases h1 : k + 1 ≤ x ∧ x < k + 1 + vs.length
    · rw [if_pos h1, if_pos (by omega), show x - k = x - (k + 1) + 1 by omega, List.getD_cons_succ]
    · rw [if_neg h1]
      by_cases h2 : x = k
      · rw [h2, Map.getD_store_self _ _ _ _ hm, if_pos (by omega), Nat.sub_self, List.getD_cons_zero]
      · rw [Map.getD_store_of_ne _ _ _ h2, if_neg (by omega)]

namespace Machine

variable {s : State} {w : Mw}

theorem mod_add_of_lt {a i m : Nat} (h : a % m + i < m) : (a + i) % m = a % m + i := by
  rw [Nat.add_mod, Nat.mod_eq_of_lt (a := i) (by omega), Nat.mod_eq_of_lt h]

/-- Within a window the low 24 bits of an address count, and the rest stays. -/
theorem address_add {a i : Nat} (h : bitsOf a 23 0 + i < 2 ^ 24) : bitsOf (a + i) 23 0 = bitsOf a 23 0 + i ∧ bitsOf (a + i) 35 33 = bitsOf a 35 33 := by
  simp only [bitsOf, Nat.pow_zero, Nat.div_one] at h ⊢
  omega

theorem windowCause_zero {l : Le} {n a k : Nat} (h : l.windowCause [k] a n = 0) :
    bitsOf a 35 33 = k ∧ ∃ lim, l.limit k = some lim ∧ bitsOf a 23 0 + n ≤ lim := by
  unfold Le.windowCause at h
  dsimp only at h
  split at h
  · exact absurd h (by decide)
  · next hc =>
    have hk : bitsOf a 35 33 = k := by simpa using hc
    rw [hk] at h
    split at h
    · exact absurd h (by decide)
    · next lim hl =>
      split at h
      · exact absurd h (by decide)
      · split at h
        · exact absurd h (by decide)
        · next hle => exact ⟨hk, lim, hl, Nat.not_lt.1 hle⟩

theorem writeWindow_scratch {e a : Nat} (x : Tagged) (h : bitsOf a 35 33 = 1) : s.writeWindow e a x =
    (s.setLe e { s.le e with highWord := Nat.max (s.le e).highWord (640 + bitsOf a 23 0) }).setCword (clusterOf e) ((s.le e).scratchAt + 640 + bitsOf a 23 0) x := by
  simp only [State.writeWindow, h]
  rfl

theorem writeWindow_output {e a : Nat} (x : Tagged) (h : bitsOf a 35 33 = 3) : s.writeWindow e a x =
    s.setLe e { s.le e with output := Map.store (s.le e).output (bitsOf a 23 0) (x.val % 2 ^ 72) 0 } := by
  simp only [State.writeWindow, h]

theorem writeWindow_matrix {e a : Nat} {m : W4Map} (x : Tagged) (h : bitsOf a 35 33 = 4) (hm : (s.le e).w4 = some m) : s.writeWindow e a x =
    s.setLe e { s.le e with w4 := some { m with words := Map.store m.words (bitsOf a 23 0) (x.val % 2 ^ 72) 0 } } := by
  simp only [State.writeWindow, h, hm]
  rfl

@[simp] theorem State.le_setCword (c a e : Nat) (x : Tagged) : (s.setCword c a x).le e = s.le e := rfl

/-- The highest word of scratch written, after the words from offset `off` on. -/
def highAfter (h off : Nat) : List Tagged → Nat
  | [] => h
  | _ :: ws => highAfter (Nat.max h (640 + off)) (off + 1) ws

theorem highAfter_eq (ws : List Tagged) : ∀ h off, ws ≠ [] → highAfter h off ws = Nat.max h (640 + off + (ws.length - 1)) := by
  induction ws with
  | nil => exact fun _ _ h => absurd rfl h
  | cons w ws ih =>
    intro h off _
    rw [highAfter, List.length_cons]
    rcases ws.eq_nil_or_concat' with rfl | ⟨vs, v, rfl⟩
    · rfl
    · rw [ih _ _ (by simp), List.length_append, List.length_singleton]
      simp only [Nat.max_def]
      split <;> split <;> split <;> omega

/-- Words written to scratch, address after address: the memory, the high-water mark, and nothing else. -/
theorem writeWords_scratch {e a : Nat} (ha : bitsOf a 35 33 = 1) (ws : List Tagged) : ∀ (i : Nat) (s : State), bitsOf a 23 0 + i + ws.length ≤ 2 ^ 24 →
    let t := (ws.zipIdx i).foldl (fun u p => u.writeWindow e (a + p.2) p.1) s
    t = { s with les := t.les, cmem := t.cmem } ∧ (∀ e', e' ≠ e → t.le e' = s.le e') ∧
      t.le e = { s.le e with highWord := highAfter (s.le e).highWord (bitsOf a 23 0 + i) ws } ∧
      t.cmem = Map.storeAll ⟨0, false⟩ s.cmem (cmKey (clusterOf e) ((s.le e).scratchAt + 640 + bitsOf a 23 0 + i)) (ws.map (fun x => ⟨x.val % 2 ^ 72, x.sec⟩)) := by
  induction ws with
  | nil => exact fun i s _ => ⟨rfl, fun _ _ => rfl, rfl, rfl⟩
  | cons x ws ih =>
    intro i s hi
    rw [List.length_cons] at hi
    obtain ⟨hlo, hhi⟩ := address_add (a := a) (i := i) (by omega)
    obtain ⟨h1, h2, h3, h4⟩ := ih (i + 1) (s.writeWindow e (a + i) x) (by omega)
    rw [writeWindow_scratch x (hhi.trans ha), hlo] at h1 h2 h3 h4
    rw [State.le_setCword, State.le_setLe_self] at h3 h4
    rw [List.zipIdx_cons, List.foldl_cons, writeWindow_scratch x (hhi.trans ha), hlo]
    refine ⟨h1, fun e' he => (h2 e' he).trans (State.le_setLe_of_ne _ _ he), h3, h4.trans ?_⟩
    have hk : cmKey (clusterOf e) ((s.le e).scratchAt + 640 + bitsOf a 23 0 + (i + 1)) =
        cmKey (clusterOf e) ((s.le e).scratchAt + 640 + bitsOf a 23 0 + i) + 1 := by simp only [cmKey, Nat.add_assoc]
    rw [List.map_cons, Map.storeAll, hk, State.setCword, State.setLe, Nat.add_assoc (_ + 640) (bitsOf a 23 0) i]

theorem writeWords_output {e a : Nat} (ha : bitsOf a 35 33 = 3) (ws : List Tagged) : ∀ (i : Nat) (s : State), bitsOf a 23 0 + i + ws.length ≤ 2 ^ 24 →
    let t := (ws.zipIdx i).foldl (fun u p => u.writeWindow e (a + p.2) p.1) s
    OnlyLe s t e ∧ t.le e = { s.le e with output := Map.storeAll 0 (s.le e).output (bitsOf a 23 0 + i) (ws.map (fun x => x.val % 2 ^ 72)) } := by
  induction ws with
  | nil => exact fun i s _ => ⟨⟨rfl, fun _ _ => rfl⟩, rfl⟩
  | cons x ws ih =>
    intro i s hi
    rw [List.length_cons] at hi
    obtain ⟨hlo, hhi⟩ := address_add (a := a) (i := i) (by omega)
    obtain ⟨⟨h1, h2⟩, h3⟩ := ih (i + 1) (s.writeWindow e (a + i) x) (by omega)
    rw [writeWindow_output x (hhi.trans ha), hlo] at h1 h2 h3
    rw [State.le_setLe_self] at h3
    rw [List.zipIdx_cons, List.foldl_cons, writeWindow_output x (hhi.trans ha), hlo]
    exact ⟨⟨h1, fun e' he => (h2 e' he).trans (State.le_setLe_of_ne _ _ he)⟩, h3⟩

theorem writeWords_matrix {e a : Nat} (ha : bitsOf a 35 33 = 4) (ws : List Tagged) : ∀ (i : Nat) (m : W4Map) (s : State),
    bitsOf a 23 0 + i + ws.length ≤ 2 ^ 24 → (s.le e).w4 = some m →
    let t := (ws.zipIdx i).foldl (fun u p => u.writeWindow e (a + p.2) p.1) s
    OnlyLe s t e ∧ t.le e =
      { s.le e with w4 := some { m with words := Map.storeAll 0 m.words (bitsOf a 23 0 + i) (ws.map (fun x => x.val % 2 ^ 72)) } } := by
  induction ws with
  | nil => exact fun i m s _ hm => ⟨⟨rfl, fun _ _ => rfl⟩, congrArg (fun o => ({ s.le e with w4 := o } : Le)) hm⟩
  | cons x ws ih =>
    intro i m s hi hm
    rw [List.length_cons] at hi
    obtain ⟨hlo, hhi⟩ := address_add (a := a) (i := i) (by omega)
    obtain ⟨⟨h1, h2⟩, h3⟩ := ih (i + 1) { m with words := Map.store m.words (bitsOf a 23 0 + i) (x.val % 2 ^ 72) 0 } (s.writeWindow e (a + i) x) (by omega)
      (by rw [writeWindow_matrix x (hhi.trans ha) hm, State.le_setLe_self, hlo])
    rw [writeWindow_matrix x (hhi.trans ha) hm, hlo] at h1 h2 h3
    rw [State.le_setLe_self] at h3
    rw [List.zipIdx_cons, List.foldl_cons, writeWindow_matrix x (hhi.trans ha) hm, hlo]
    exact ⟨⟨h1, fun e' he => (h2 e' he).trans (State.le_setLe_of_ne _ _ he)⟩, h3⟩

theorem spanOf_pos (n : Nat) : 0 < spanOf n := by
  unfold spanOf
  split
  · decide
  · split <;> decide

@[simp] theorem length_groupWords (l : Le) (b n : Nat) : (l.groupWords b n).length = 16 * n := by simp [Le.groupWords]

theorem getElem_groupWords {l : Le} {b n j : Nat} (h : j < (l.groupWords b n).length) : (l.groupWords b n)[j] = (l.vreg (b + j / 16)).word (j % 16) := by
  simp [Le.groupWords]

theorem word_val_lt (r : VReg) (k : Nat) : (r.word k).val < 2 ^ 72 := laneAt_lt _ _ _

section
variable {a : AReg} {secretOnly taints release : Bool} {allowed : Le → List Nat}

/-- A store whose address is public and may be accessed, and whose words may go there, writes them. -/
theorem storeOp_goes (h : Issues s w none) (hsp : w.sp < 3) (hs : secretOnly = true → w.secret = true) (hp : (aIn s w w.src2).sec = false)
    (ht : ((taints || (!release && inOutput (aIn s w w.src2).val)) && secIn s w w.src1 (spanOf w.sp)) = false)
    (hc : (s.le w.le).windowCause (allowed (issuedLe s w)) (aIn s w w.src2).val (16 * spanOf w.sp) = 0) :
    storeOp s w secretOnly taints release allowed = .next ((s.setLe w.le (issuedLe s w)).writeWords w.le (aIn s w w.src2).val
      (((s.le w.le).groupWords (groupBase w.src1 (spanOf w.sp)) (spanOf w.sp)).map (fun x => if release then { x with sec := false } else x))) := by
  have h1 : ¬ ((aIn s w w.src2).sec || ((taints || (!release && inOutput (aIn s w w.src2).val)) && secIn s w w.src1 (spanOf w.sp))) = true := by
    rw [hp, ht]; decide
  unfold storeOp
  exact issue_go h (decide_eq_true hsp) hs rfl ((if_neg h1).trans (if_neg (not_not.2 hc)))

end

theorem cmKey_inj {c c' x x' : Nat} (hx : x < 2 ^ 18) (hx' : x' < 2 ^ 18) (h : cmKey c x = cmKey c' x') : c = c' ∧ x = x' := by
  simp only [cmKey] at h
  omega

/-- The words of a group fit memory. -/
theorem groupWords_fit (l : Le) (b n : Nat) : (l.groupWords b n).map (fun x => (⟨x.val % 2 ^ 72, x.sec⟩ : Tagged)) = l.groupWords b n := by
  simp only [Le.groupWords, List.map_map]
  exact List.map_congr_left fun k _ => by rw [Function.comp, Nat.mod_eq_of_lt (word_val_lt _ _)]

/-- Reading memory after a run of words was stored in one cluster. -/
theorem getD_storedWords {m : Map Tagged} {k base c x : Nat} {ws : List Tagged} (hm : Map.wf m = true) (hfit : base + ws.length ≤ 2 ^ 18) (hx : x < 2 ^ 18) :
    Map.getD (Map.storeAll ⟨0, false⟩ m (cmKey k base) ws) (cmKey c x) ⟨0, false⟩ =
      if c = k ∧ base ≤ x ∧ x < base + ws.length then ws.getD (x - base) ⟨0, false⟩ else Map.getD m (cmKey c x) ⟨0, false⟩ := by
  rw [Map.getD_storeAll _ _ _ _ _ hm]
  by_cases h : c = k ∧ base ≤ x ∧ x < base + ws.length
  · rw [if_pos h, if_pos (by simp only [cmKey]; omega), h.1, cmKey, cmKey, Nat.add_sub_add_left]
  · rw [if_neg h, if_neg (by simp only [cmKey]; omega)]

theorem getD_groupWords {l : Le} {b n j : Nat} {d : Tagged} (h : j < 16 * n) : (l.groupWords b n).getD j d = (l.vreg (b + j / 16)).word (j % 16) := by
  rw [List.getD_eq_getElem _ _ (by rw [length_groupWords]; exact h), getElem_groupWords]

theorem onlyLe_issued {t : State} {e : Nat} {l : Le} (h : OnlyLe (s.setLe e l) t e) : OnlyLe s t e :=
  ⟨h.1, fun x hx => (h.2 x hx).trans (State.le_setLe_of_ne _ _ hx)⟩

theorem limit_scratch {l : Le} {lim : Nat} (h : l.limit 1 = some lim) : lim = l.scratch - l.keyWords - 640 := (Option.some.inj h).symm

theorem stc_goes (h : Issues s w none) (hsp : w.sp < 3) (hp : (aIn s w w.src2).sec = false) (ho : bitsOf (aIn s w w.src2).val 23 0 + 16 * spanOf w.sp ≤ 2 ^ 24)
    (hc : (s.le w.le).windowCause [1] (aIn s w w.src2).val (16 * spanOf w.sp) = 0) (hfit : (s.le w.le).scratchAt + (s.le w.le).scratch ≤ 2 ^ 18)
    (hm : Map.wf s.cmem = true) :
    GoesTo (exec (.stc w) s) (fun t => t = { s with les := t.les, cmem := t.cmem } ∧ (∀ e, e ≠ w.le → t.le e = s.le e) ∧
      t.le w.le = { issuedLe s w with highWord := Nat.max (s.le w.le).highWord (640 + bitsOf (aIn s w w.src2).val 23 0 + (16 * spanOf w.sp - 1)) } ∧
      ∀ c x, x < 2 ^ 18 → t.cword c x =
        if c = clusterOf w.le ∧ (s.le w.le).scratchAt + 640 + bitsOf (aIn s w w.src2).val 23 0 ≤ x ∧
            x < (s.le w.le).scratchAt + 640 + bitsOf (aIn s w w.src2).val 23 0 + 16 * spanOf w.sp then
          ((s.le w.le).vreg (groupBase w.src1 (spanOf w.sp) + (x - ((s.le w.le).scratchAt + 640 + bitsOf (aIn s w w.src2).val 23 0)) / 16)).word
            ((x - ((s.le w.le).scratchAt + 640 + bitsOf (aIn s w w.src2).val 23 0)) % 16)
        else s.cword c x) := by
  obtain ⟨hw, lim, hl, hle⟩ := windowCause_zero hc
  rw [limit_scratch hl] at hle
  have hn := spanOf_pos w.sp
  have hio : inOutput (aIn s w w.src2).val = false := by rw [inOutput, hw]; rfl
  rw [exec_stc, execStc]
  refine ⟨_, storeOp_goes h hsp (by simp) hp (by rw [hio]; rfl) hc, ?_⟩
  obtain ⟨h1, h2, h3, h4⟩ := writeWords_scratch (e := w.le) hw ((s.le w.le).groupWords (groupBase w.src1 (spanOf w.sp)) (spanOf w.sp)) 0
    (s.setLe w.le (issuedLe s w)) (by rw [length_groupWords]; omega)
  rw [State.le_setLe_self] at h3 h4
  simp only [Bool.false_eq_true, if_false, List.map_id']
  refine ⟨h1, fun e he => (h2 e he).trans (State.le_setLe_of_ne _ _ he), h3.trans ?_, fun c x hx => ?_⟩
  · rw [highAfter_eq _ _ _ (by rw [← List.length_pos_iff, length_groupWords]; omega), length_groupWords]
    rfl
  · rw [groupWords_fit, Nat.add_zero] at h4
    have hle' : (issuedLe s w).scratchAt = (s.le w.le).scratchAt := rfl
    rw [hle', State.setLe_cmem] at h4
    refine (congrArg (fun m => Map.getD m (cmKey c x) ⟨0, false⟩) h4).trans ((getD_storedWords hm ?_ hx).trans ?_)
    · rw [length_groupWords]
      show (s.le w.le).scratchAt + _ + _ + _ ≤ _
      omega
    · rw [length_groupWords]
      refine ite_congr rfl (fun hin => ?_) fun _ => rfl
      exact getD_groupWords (by omega)

/-- Reading a run of stored values of a group, where its words' values stand from `off` on. -/
theorem getD_storedValues {m : Map Nat} {l : Le} {off b n x : Nat} {ws : List Tagged} (hm : Map.wf m = true)
    (hw : ws.map (fun x => x.val % 2 ^ 72) = (l.groupWords b n).map Tagged.val) :
    Map.getD (Map.storeAll 0 m off (ws.map (fun x => x.val % 2 ^ 72))) x 0 =
      if off ≤ x ∧ x < off + 16 * n then ((l.vreg (b + (x - off) / 16)).word ((x - off) % 16)).val else Map.getD m x 0 := by
  rw [hw, Map.getD_storeAll _ _ _ _ _ hm, List.length_map, length_groupWords]
  refine ite_congr rfl (fun hin => ?_) fun _ => rfl
  have hlt : x - off < (l.groupWords b n).length := by rw [length_groupWords]; omega
  rw [List.getD_eq_getElem _ _ (by rw [List.length_map]; exact hlt), List.getElem_map, getElem_groupWords hlt]

theorem groupWords_values (l : Le) (b n : Nat) (f : Tagged → Tagged) (hf : ∀ x, (f x).val = x.val) :
    ((l.groupWords b n).map f).map (fun x => x.val % 2 ^ 72) = (l.groupWords b n).map Tagged.val := by
  simp only [Le.groupWords, List.map_map]
  exact List.map_congr_left fun k _ => by rw [Function.comp, Function.comp, Function.comp, hf, Nat.mod_eq_of_lt (word_val_lt _ _)]

theorem release_goes (h : Issues s w none) (hsp : w.sp < 3) (hs : w.secret = true) (hp : (aIn s w w.src2).sec = false)
    (ho : bitsOf (aIn s w w.src2).val 23 0 + 16 * spanOf w.sp ≤ 2 ^ 24)
    (hc : (s.le w.le).windowCause [3] (aIn s w w.src2).val (16 * spanOf w.sp) = 0) (hm : Map.wf (s.le w.le).output = true) :
    GoesTo (exec (.release w) s) (fun t => OnlyLe s t w.le ∧ t.le w.le = { issuedLe s w with output := (t.le w.le).output } ∧
      ∀ x, Map.getD (t.le w.le).output x 0 =
        if bitsOf (aIn s w w.src2).val 23 0 ≤ x ∧ x < bitsOf (aIn s w w.src2).val 23 0 + 16 * spanOf w.sp then
          (((s.le w.le).vreg (groupBase w.src1 (spanOf w.sp) + (x - bitsOf (aIn s w w.src2).val 23 0) / 16)).word
            ((x - bitsOf (aIn s w w.src2).val 23 0) % 16)).val
        else Map.getD (s.le w.le).output x 0) := by
  obtain ⟨hw, -⟩ := windowCause_zero hc
  rw [exec_release, execRelease]
  refine ⟨_, storeOp_goes h hsp (fun _ => hs) hp (by simp) hc, ?_⟩
  obtain ⟨h1, h2⟩ := writeWords_output (e := w.le) hw
    (((s.le w.le).groupWords (groupBase w.src1 (spanOf w.sp)) (spanOf w.sp)).map (fun x => if true = true then { x with sec := false } else x)) 0
    (s.setLe w.le (issuedLe s w)) (by rw [List.length_map, length_groupWords]; omega)
  rw [State.le_setLe_self, Nat.add_zero] at h2
  refine ⟨onlyLe_issued h1, ?_, fun x => ?_⟩
  · rw [State.writeWords, h2]
  · rw [State.writeWords, h2]
    exact getD_storedValues hm (groupWords_values _ _ _ _ fun _ => rfl)

theorem sts_goes {m : W4Map} (h : Issues s w none) (hsp : w.sp < 3) (hp : (aIn s w w.src2).sec = false)
    (ho : bitsOf (aIn s w w.src2).val 23 0 + 16 * spanOf w.sp ≤ 2 ^ 24) (hw4 : (s.le w.le).w4 = some m) (hwr : m.writing = true)
    (hm : Map.wf m.words = true) (h1 : secIn s w w.src1 (spanOf w.sp) = false)
    (hc : (s.le w.le).windowCause [4] (aIn s w w.src2).val (16 * spanOf w.sp) = 0) :
    GoesTo (exec (.sts w) s) (fun t => OnlyLe s t w.le ∧ ∃ ws, t.le w.le = { issuedLe s w with w4 := some { m with words := ws } } ∧
      ∀ x, Map.getD ws x 0 =
        if bitsOf (aIn s w w.src2).val 23 0 ≤ x ∧ x < bitsOf (aIn s w w.src2).val 23 0 + 16 * spanOf w.sp then
          (((s.le w.le).vreg (groupBase w.src1 (spanOf w.sp) + (x - bitsOf (aIn s w w.src2).val 23 0) / 16)).word
            ((x - bitsOf (aIn s w w.src2).val 23 0) % 16)).val
        else Map.getD m.words x 0) := by
  have hallowed : (issuedLe s w).matrixWritable = [4] := by
    rw [Le.matrixWritable, issuedLe_w4, hw4]
    exact if_pos hwr
  obtain ⟨hw, -⟩ := windowCause_zero hc
  rw [exec_sts, execSts]
  refine ⟨_, storeOp_goes h hsp (by simp) hp (by rw [h1, Bool.and_false]) (by rw [hallowed]; exact hc), ?_⟩
  obtain ⟨h1, h2⟩ := writeWords_matrix (e := w.le) hw
    (((s.le w.le).groupWords (groupBase w.src1 (spanOf w.sp)) (spanOf w.sp)).map (fun x => if false = true then { x with sec := false } else x)) 0 m
    (s.setLe w.le (issuedLe s w)) (by rw [List.length_map, length_groupWords]; omega) (by rw [State.le_setLe_self]; exact hw4)
  rw [State.le_setLe_self, Nat.add_zero] at h2
  exact ⟨onlyLe_issued h1, _, h2, fun x => getD_storedValues hm (groupWords_values _ _ _ _ fun _ => rfl)⟩

theorem readWindow_issued (a : Nat) : (s.setLe w.le (issuedLe s w)).readWindow w.le a = s.readWindow w.le a := by
  unfold State.readWindow
  rw [State.le_setLe_self]
  rfl

section
variable (h : Issues s w none) (hp : (aIn s w w.src2).sec = false) (hc : (s.le w.le).windowCause [1, 2] (aIn s w w.src2).val 2 = 0)
include h hp hc

/-- A descriptor load with a public address that may be read: what its body answers, by the two words there. -/
theorem ldq_taints (hsec : (s.readWindow w.le (aIn s w w.src2).val).sec = true ∨ (s.readWindow w.le ((aIn s w w.src2).val + 1)).sec = true) :
    exec (.ldq w) s = .next (s.leDone w.le 0x53 0 1 []) := by
  have h1 : ¬ (aIn s w w.src2).sec = true := by rw [hp]; decide
  rw [← readWindow_issued (s := s) (w := w) (aIn s w w.src2).val, ← readWindow_issued (s := s) (w := w) ((aIn s w w.src2).val + 1), ← Bool.or_eq_true] at hsec
  rw [exec_ldq, execLdq]
  exact issue_taint h rfl (by simp) rfl ((if_neg h1).trans ((if_neg (not_not.2 hc)).trans (if_pos hsec)))

variable (hx : (s.readWindow w.le (aIn s w w.src2).val).sec = false) (hy : (s.readWindow w.le ((aIn s w w.src2).val + 1)).sec = false)
include hx hy

theorem ldq_faults (hv : descValid ((s.readWindow w.le (aIn s w w.src2).val).val + 2 ^ 72 * (s.readWindow w.le ((aIn s w w.src2).val + 1)).val) = false) :
    exec (.ldq w) s = .next (s.leDone w.le 0x54 0 0 []) := by
  have h1 : ¬ (aIn s w w.src2).sec = true := by rw [hp]; decide
  have h3 : ¬ ((s.readWindow w.le (aIn s w w.src2).val).sec || (s.readWindow w.le ((aIn s w w.src2).val + 1)).sec) = true := by rw [hx, hy]; decide
  have h4 : (!descValid ((s.readWindow w.le (aIn s w w.src2).val).val + 2 ^ 72 * (s.readWindow w.le ((aIn s w w.src2).val + 1)).val)) = true := by
    rw [hv]; rfl
  rw [← readWindow_issued (s := s) (w := w) (aIn s w w.src2).val, ← readWindow_issued (s := s) (w := w) ((aIn s w w.src2).val + 1)] at h3 h4
  rw [exec_ldq, execLdq]
  exact issue_engine h rfl (by simp) rfl ((if_neg h1).trans ((if_neg (not_not.2 hc)).trans ((if_neg h3).trans (if_pos h4))))

theorem ldq_goes (hv : descValid ((s.readWindow w.le (aIn s w w.src2).val).val + 2 ^ 72 * (s.readWindow w.le ((aIn s w w.src2).val + 1)).val) = true) :
    exec (.ldq w) s = .next (s.setLe w.le ((issuedLe s w).setQ (w.dest.toNat % 4)
      (descOfBits ((s.readWindow w.le (aIn s w w.src2).val).val + 2 ^ 72 * (s.readWindow w.le ((aIn s w w.src2).val + 1)).val)))) := by
  have h1 : ¬ (aIn s w w.src2).sec = true := by rw [hp]; decide
  have h3 : ¬ ((s.readWindow w.le (aIn s w w.src2).val).sec || (s.readWindow w.le ((aIn s w w.src2).val + 1)).sec) = true := by rw [hx, hy]; decide
  have h4 : ¬ (!descValid ((s.readWindow w.le (aIn s w w.src2).val).val + 2 ^ 72 * (s.readWindow w.le ((aIn s w w.src2).val + 1)).val)) = true := by
    rw [hv]; decide
  rw [← readWindow_issued (s := s) (w := w) (aIn s w w.src2).val, ← readWindow_issued (s := s) (w := w) ((aIn s w w.src2).val + 1)] at h3 h4
  rw [exec_ldq, execLdq, ← readWindow_issued (s := s) (w := w) (aIn s w w.src2).val, ← readWindow_issued (s := s) (w := w) ((aIn s w w.src2).val + 1)]
  refine (issue_go h rfl (by simp) rfl ((if_neg h1).trans ((if_neg (not_not.2 hc)).trans ((if_neg h3).trans (if_neg h4))))).trans ?_
  rw [State.setLe_setLe]
  rfl

end

/-- The limits that a descriptor keeps (R202). -/
theorem descValid_limits {v : Nat} (h : descValid v = true) :
    (descOfBits v).q % 2 = 1 ∧ 3 ≤ (descOfBits v).q ∧ (descOfBits v).q < 2 ^ ((if (descOfBits v).grain = 0 then 18 else 36) - 1) ∧
      ((descOfBits v).q * (descOfBits v).qnegInv + 1) % 2 ^ (if (descOfBits v).grain = 0 then 18 else 36) = 0 ∧
      (descOfBits v).barrettM = 2 ^ (descOfBits v).barrettS / (descOfBits v).q ∧ v % 2 ^ 28 = 0 ∧
      ((descOfBits v).rom = true → ((descOfBits v).q = 3329 ∧ (descOfBits v).grain = 0) ∨ ((descOfBits v).q = 8380417 ∧ (descOfBits v).grain = 1)) := by
  unfold descValid at h
  simp only [Bool.and_eq_true, Bool.or_eq_true, beq_iff_eq, decide_eq_true_eq, Bool.not_eq_true'] at h
  obtain ⟨⟨⟨⟨⟨⟨⟨⟨⟨hodd, h3⟩, hlt⟩, -⟩, hinv⟩, -⟩, -⟩, hb⟩, hz⟩, hrom⟩ := h
  rw [bitsOf, Nat.pow_zero, Nat.div_one] at hz
  refine ⟨hodd, h3, hlt, hinv, hb, hz, fun hr => ?_⟩
  rw [hr] at hrom
  simpa using hrom

/-- Settles O12: each store's words, one address after another, and the two words of a descriptor load. -/
theorem storesAndDescriptorLoadsComplete : Obligations.StoresAndDescriptorLoadsComplete := by
  refine ⟨fun s w h hsp hp ho => ⟨stc_goes h hsp hp ho, fun hs => release_goes h hsp hs hp ho,
    fun m hw4 hwr hm h1 => sts_goes h hsp hp ho hw4 hwr hm h1⟩, fun s w h hp hc => ⟨fun hx hy hv => ⟨ldq_goes h hp hc hx hy hv, descValid_limits hv⟩,
    fun hx hy => ldq_faults h hp hc hx hy, ldq_taints h hp hc⟩⟩

end Machine
end Sys2Proof
end

section
/-! Hash-stream operations (R211, R267). -/
namespace Sys2Proof
namespace Machine

variable {s : State} {w : Mw}

/-- A stream after it has absorbed the first `k` octets of a register. -/
def HStream.absorbed (x : HStream) (r : VReg) (k : Nat) (final : Bool) : HStream :=
  { x with data := x.data ++ regOctets r.val k, finalised := final, inBuf := x.inBuf + k,
           sec := x.sec || bitsOf r.tags (ceilDiv k 9 - 1) 0 != 0 && k != 0 }

/-- A stream after `k` more octets have been squeezed. -/
def HStream.squeezedBy (x : HStream) (k : Nat) : HStream := { x with squeezed := x.squeezed + k, outBuf := x.outBuf - k }

def Le.putStream (l : Le) (n : Nat) (x : HStream) : Le := { l with streams := Map.put l.streams n x }

theorem Issues.wait_eq {c : Nat} (h : Issues s w (some c)) : w.wait.toNat = c := by
  obtain ⟨-, -, -, -, -, h, -⟩ := h
  rcases h with h | h
  · exact nomatch h
  · exact (Option.some.inj h).symm

/-- A microword that waits for a stream that is not ready is held. -/
theorem issue_streamWaits {body : State → Le → Issue} {ready : Bool} (h : Issues s w (some 1)) (hr : ready = false) :
    issue s w true false (some 1) ready body = .next (s.setLe w.le ((s.le w.le).held 1)) := by
  have hw := h.wait_eq
  obtain ⟨h1, h2, hwb, h3, -, -, -⟩ := h
  have e1 : ¬ ((s.le w.le).job = none ∨ s.clk.gated = true ∨ s.wordBad w.le = true) := by simp [h1, h2, hwb]
  have e2 : ¬ ((w.safePoint && (s.engine w.le).latched != []) = true) := by
    cases hsp : w.safePoint <;> simp_all
  unfold issue
  rw [if_neg e1, if_neg e2, hw, hr]
  rfl

theorem State.setEngine_setLe (s : State) (u e : Nat) (v : Engine) (l l' : Le) :
    ((s.setLe e l).setEngine u v).setLe e l' = (s.setEngine u v).setLe e l' := by
  simp [State.setEngine, State.setLe, Map.put_put]

/-- The fields of a stream operand with octet count. -/
theorem streamOperand {v n k : Nat} (hn : n < 8) (hk : k ≤ 144) (hv : v = n + 256 * k) : streamSpare v 8 23 = true ∧ bitsOf v 23 8 = k ∧ v % 8 = n := by
  simp only [streamSpare, bitsOf, Bool.and_eq_true, Bool.or_eq_true, beq_iff_eq, decide_eq_true_eq]
  omega

theorem openOperand {v n fn : Nat} (hn : n < 8) (hf : fn ≤ 9) (hv : v = n + 16 * fn) : streamSpare v 4 7 = true ∧ bitsOf v 7 4 = fn ∧ v % 8 = n := by
  simp only [streamSpare, bitsOf, Bool.and_eq_true, Bool.or_eq_true, beq_iff_eq, decide_eq_true_eq]
  omega

section
variable {l : Le} {v n k : Nat} {h : HStream} {final : Bool}

theorem absorbs_some (hn : n < 8) (hk : k ≤ 144) (hv : v = n + 256 * k) (hf : Map.find l.streams n = some h) (hl : h.finalised = false) (h0 : k ≠ 0 ∨ final = true) :
    l.absorbs v final = some (h, k) := by
  obtain ⟨h1, h2, h3⟩ := streamOperand hn hk hv
  have hz : (k == 0 && !final) = false := by rcases h0 with h0 | h0 <;> simp [h0]
  simp [Le.absorbs, h1, h2, h3, hk, hz, hf, hl]

theorem absorbs_none (hn : n < 8) (hk : k ≤ 144) (hv : v = n + 256 * k) (hf : ∀ h, Map.find l.streams n = some h → h.finalised = true) :
    l.absorbs v final = none := by
  obtain ⟨h1, h2, h3⟩ := streamOperand hn hk hv
  cases hs : Map.find l.streams n with
  | none => simp [Le.absorbs, h1, h2, h3, hs]
  | some h => simp [Le.absorbs, h1, h2, h3, hs, hf h hs]

theorem squeezes_some (hn : n < 8) (hk : k ≤ 144) (hv : v = n + 256 * k) (hf : Map.find l.streams n = some h) (hl : h.finalised = true)
    (hm : ∀ m, streamLength h.fn = some m → h.squeezed + k ≤ m) : l.squeezes v = some (h, k) := by
  obtain ⟨h1, h2, h3⟩ := streamOperand hn hk hv
  cases hs : streamLength h.fn with
  | none => simp [Le.squeezes, h1, h2, h3, hk, hf, hl, hs]
  | some m => simp [Le.squeezes, h1, h2, h3, hk, hf, hl, hs, hm m hs]

theorem squeezes_none (hn : n < 8) (hk : k ≤ 144) (hv : v = n + 256 * k)
    (hf : ∀ h, Map.find l.streams n = some h → h.finalised = false ∨ ∃ m, streamLength h.fn = some m ∧ m < h.squeezed + k) : l.squeezes v = none := by
  obtain ⟨h1, h2, h3⟩ := streamOperand hn hk hv
  cases hs : Map.find l.streams n with
  | none => simp [Le.squeezes, h1, h2, h3, hs]
  | some h =>
    rcases hf h hs with hl | ⟨m, hm, hlt⟩
    · simp [Le.squeezes, h1, h2, h3, hs, hl]
    · simp [Le.squeezes, h1, h2, h3, hs, hm, hlt]

end

section
variable (h : Issues s w (some 1))
include h

theorem absorbOp_taints {final : Bool} (hp : (aIn s w w.src2).sec = true) : absorbOp s w final = .next (s.leDone w.le 0x53 0 1 []) := by
  have hp' : ((s.le w.le).areg (aIdx w.src2)).sec = true := hp
  unfold absorbOp
  exact issue_taint h rfl (by simp) (by rw [hp', Bool.true_or]) (if_pos hp')

variable (hp : (aIn s w w.src2).sec = false)
include hp

theorem absorbOp_goes {final : Bool} {x : HStream} {k : Nat} (ha : (s.le w.le).absorbs (aIn s w w.src2).val final = some (x, k)) (hfit : x.inBuf + k ≤ 288) :
    absorbOp s w final = .next (s.setLe w.le ((issuedLe s w).putStream ((aIn s w w.src2).val % 8)
      (x.absorbed ((s.le w.le).vreg w.src1.toNat) k final))) := by
  have hp' : ¬ ((s.le w.le).areg (aIdx w.src2)).sec = true := by rw [show ((s.le w.le).areg (aIdx w.src2)).sec = false from hp]; decide
  have ha' : (s.le w.le).absorbs ((s.le w.le).areg (aIdx w.src2)).val final = some (x, k) := ha
  have hi : (issuedLe s w).absorbs ((s.le w.le).areg (aIdx w.src2)).val final = some (x, k) := ha
  unfold absorbOp
  rw [issue_eq h rfl (by simp) (by rw [ha']; simp [HStream.accepts, hfit])]
  simp only [if_neg hp', hi, State.setLe_setLe]
  rfl

theorem absorbOp_waits {final : Bool} {x : HStream} {k : Nat} (ha : (s.le w.le).absorbs (aIn s w w.src2).val final = some (x, k)) (hfit : 288 < x.inBuf + k) :
    absorbOp s w final = .next (s.setLe w.le ((s.le w.le).held 1)) := by
  have hp' : ((s.le w.le).areg (aIdx w.src2)).sec = false := hp
  have ha' : (s.le w.le).absorbs ((s.le w.le).areg (aIdx w.src2)).val final = some (x, k) := ha
  unfold absorbOp
  exact issue_streamWaits h (by rw [ha', hp']; simp [HStream.accepts, hfit])

theorem absorbOp_faults {final : Bool} (ha : (s.le w.le).absorbs (aIn s w w.src2).val final = none) : absorbOp s w final = .next (s.leDone w.le 0x54 0 0 []) := by
  have hp' : ¬ ((s.le w.le).areg (aIdx w.src2)).sec = true := by rw [show ((s.le w.le).areg (aIdx w.src2)).sec = false from hp]; decide
  have ha' : (s.le w.le).absorbs ((s.le w.le).areg (aIdx w.src2)).val final = none := ha
  have hi : (issuedLe s w).absorbs ((s.le w.le).areg (aIdx w.src2)).val final = none := ha
  unfold absorbOp
  refine issue_engine h rfl (by simp) (by rw [ha']; simp) ((if_neg hp').trans ?_)
  rw [hi]

theorem ssqueeze_goes {x : HStream} {k : Nat} (ha : (s.le w.le).squeezes (aIn s w w.src2).val = some (x, k)) (hfit : k ≤ x.outBuf) :
    exec (.ssqueeze w) s = .next (s.setLe w.le (((issuedLe s w).putStream ((aIn s w w.src2).val % 8) (x.squeezedBy k)).setV w.dest.toNat
        ⟨octetsReg (slice (prim (x.squeezed + k) (streamPrim x.fn) [x.data]) x.squeezed k), tagsOf x.sec⟩)) := by
  have hp' : ¬ ((s.le w.le).areg (aIdx w.src2)).sec = true := by rw [show ((s.le w.le).areg (aIdx w.src2)).sec = false from hp]; decide
  have ha' : (s.le w.le).squeezes ((s.le w.le).areg (aIdx w.src2)).val = some (x, k) := ha
  have hi : (issuedLe s w).squeezes ((s.le w.le).areg (aIdx w.src2)).val = some (x, k) := ha
  rw [exec_ssqueeze]
  unfold execSsqueeze
  rw [issue_eq h rfl (by simp) (by rw [ha']; simp [HStream.delivers, hfit])]
  simp only [if_neg hp', hi, State.setLe_setLe]
  rfl

theorem ssqueeze_waits {x : HStream} {k : Nat} (ha : (s.le w.le).squeezes (aIn s w w.src2).val = some (x, k)) (hfit : x.outBuf < k) :
    exec (.ssqueeze w) s = .next (s.setLe w.le ((s.le w.le).held 1)) := by
  have hp' : ((s.le w.le).areg (aIdx w.src2)).sec = false := hp
  have ha' : (s.le w.le).squeezes ((s.le w.le).areg (aIdx w.src2)).val = some (x, k) := ha
  rw [exec_ssqueeze]
  unfold execSsqueeze
  exact issue_streamWaits h (by rw [ha', hp']; simp [HStream.delivers, hfit])

theorem ssqueeze_faults (ha : (s.le w.le).squeezes (aIn s w w.src2).val = none) : exec (.ssqueeze w) s = .next (s.leDone w.le 0x54 0 0 []) := by
  have hp' : ¬ ((s.le w.le).areg (aIdx w.src2)).sec = true := by rw [show ((s.le w.le).areg (aIdx w.src2)).sec = false from hp]; decide
  have ha' : (s.le w.le).squeezes ((s.le w.le).areg (aIdx w.src2)).val = none := ha
  have hi : (issuedLe s w).squeezes ((s.le w.le).areg (aIdx w.src2)).val = none := ha
  rw [exec_ssqueeze]
  unfold execSsqueeze
  refine issue_engine h rfl (by simp) (by rw [ha']; simp) ((if_neg hp').trans ?_)
  rw [hi]

variable {n fn : Nat} (hn : n < 8) (hf : fn ≤ 9) (hv : (aIn s w w.src2).val = n + 16 * fn)
include hn hf hv

theorem sopen_goes {u : Nat} (hs : Map.find (s.le w.le).streams n = none) (hu : s.freeCore w.le fn = some u) :
    exec (.sopen w) s = .next ((s.setEngine u { s.engine u with job := (s.le w.le).job }).setLe w.le
      { issuedLe s w with streams := Map.put (issuedLe s w).streams n ⟨fn, u, [], false, 0, false, 0, 0⟩ }) := by
  have hv' : ((s.le w.le).areg (aIdx w.src2)).val = n + 16 * fn := hv
  obtain ⟨h1, h2, h3⟩ := openOperand hn hf hv'
  have hp' : ((s.le w.le).areg (aIdx w.src2)).sec = false := hp
  have hbad : (!streamSpare ((s.le w.le).areg (aIdx w.src2)).val 4 7 || decide (9 < fn) || (Map.find (s.le w.le).streams n).isSome) = false := by
    simp [h1, hs, hf]
  have hway : s.openingWay w fn = s := by
    unfold State.openingWay
    exact if_pos (.inr (.inr (.inr (.inr (by rw [hu]; rfl)))))
  have hu' : (s.setLe w.le (issuedLe s w)).freeCore w.le fn = some u := hu
  rw [exec_sopen]
  unfold execSopen
  simp only [hp', h2, h3, hbad, Bool.or_false, Bool.false_eq_true, if_false, hway]
  rw [issue_eq h rfl (by simp) (by rw [hu]; rfl)]
  simp only [hu', State.setEngine_setLe]
  rfl

theorem sopen_faults {x : HStream} (hs : Map.find (s.le w.le).streams n = some x) : exec (.sopen w) s = .next (s.leDone w.le 0x54 0 0 []) := by
  have hv' : ((s.le w.le).areg (aIdx w.src2)).val = n + 16 * fn := hv
  obtain ⟨h1, h2, h3⟩ := openOperand hn hf hv'
  have hp' : ((s.le w.le).areg (aIdx w.src2)).sec = false := hp
  have hbad : (!streamSpare ((s.le w.le).areg (aIdx w.src2)).val 4 7 || decide (9 < fn) || (Map.find (s.le w.le).streams n).isSome) = true := by
    simp [hs]
  rw [exec_sopen]
  unfold execSopen
  simp only [hp', h2, h3, hbad, Bool.or_true, Bool.true_or, if_true, Bool.false_eq_true, if_false]
  exact issue_engine h rfl (by simp) rfl rfl

end

theorem sclose_goes {n : Nat} {x : HStream} (h : Issues s w none) (hp : (aIn s w w.src2).sec = false) (hn : n < 8) (hv : (aIn s w w.src2).val = n)
    (hs : Map.find (s.le w.le).streams n = some x) :
    exec (.sclose w) s = .next ((s.setEngine x.unit (s.engine x.unit).leave).setLe w.le
      { issuedLe s w with streams := Map.erase (issuedLe s w).streams n }) := by
  have hp' : ¬ ((issuedLe s w).areg (aIdx w.src2)).sec = true := by rw [show ((issuedLe s w).areg (aIdx w.src2)).sec = false from hp]; decide
  have hv' : ((issuedLe s w).areg (aIdx w.src2)).val = n := hv
  have h0 : ¬ ((issuedLe s w).areg (aIdx w.src2)).val / 8 ≠ 0 := by rw [hv']; omega
  have hs' : Map.find (issuedLe s w).streams (((issuedLe s w).areg (aIdx w.src2)).val % 8) = some x := by rw [hv', Nat.mod_eq_of_lt hn]; exact hs
  rw [exec_sclose]
  unfold execSclose
  rw [issue_eq h rfl (by simp) rfl]
  simp only [if_neg hp', if_neg h0, hs', State.setEngine_setLe]
  rw [hv', Nat.mod_eq_of_lt hn]
  rfl

/-- Settles O14: each stream operation by what its operand names. -/
theorem streamOperationsCompleteOrStop : Obligations.StreamOperationsCompleteOrStop := by
  refine ⟨fun s w n hn hp => ⟨fun fn u h hf hv hs hu => sopen_goes h hp hn hf hv hs hu, fun x k h hk hv hs hx => ⟨fun hfit => ⟨fun h0 => ?_, ?_⟩, fun hfit h0 => ?_⟩,
    fun x k h hk hv hs hx hm => ⟨fun hfit => ?_, fun hfit => ?_⟩, fun x h hv hs => sclose_goes h hp hn hv hs⟩,
    fun s w n hn h => ⟨fun hp x hs => ⟨fun fn hf hv => sopen_faults h hp hn hf hv hs, fun k hk hv => ⟨fun hx => ⟨?_, ?_⟩, fun hx => ?_, fun m hm hlt => ?_⟩⟩,
    fun hp hs k h1 hk hv => ⟨?_, ?_, ?_⟩, fun hp => ?_⟩⟩
  · rw [exec_sabsorb, execSabsorb, absorbOp_goes h hp (absorbs_some hn hk hv hs hx (.inl h0)) hfit, (streamOperand hn hk hv).2.2]
    rfl
  · rw [exec_sfinal, execSfinal, absorbOp_goes h hp (absorbs_some hn hk hv hs hx (.inr rfl)) hfit, (streamOperand hn hk hv).2.2]
    rfl
  · rw [exec_sabsorb, execSabsorb]
    exact absorbOp_waits h hp (absorbs_some hn hk hv hs hx (.inl h0)) hfit
  · rw [ssqueeze_goes h hp (squeezes_some hn hk hv hs hx hm) hfit, (streamOperand hn hk hv).2.2]
    rfl
  · exact ssqueeze_waits h hp (squeezes_some hn hk hv hs hx hm) hfit
  · exact (exec_sabsorb s w).trans <| absorbOp_faults h hp (absorbs_none hn hk hv fun y hy => Option.some.inj (hs.symm.trans hy) ▸ hx)
  · exact (exec_sfinal s w).trans <| absorbOp_faults h hp (absorbs_none hn hk hv fun y hy => Option.some.inj (hs.symm.trans hy) ▸ hx)
  · exact ssqueeze_faults h hp (squeezes_none hn hk hv fun y hy => .inl (Option.some.inj (hs.symm.trans hy) ▸ hx))
  · exact ssqueeze_faults h hp (squeezes_none hn hk hv fun y hy => .inr ⟨m, Option.some.inj (hs.symm.trans hy) ▸ hm, Option.some.inj (hs.symm.trans hy) ▸ hlt⟩)
  · exact (exec_sabsorb s w).trans <| absorbOp_faults h hp (absorbs_none hn hk hv fun y hy => nomatch hs.symm.trans hy)
  · exact (exec_sfinal s w).trans <| absorbOp_faults h hp (absorbs_none hn hk hv fun y hy => nomatch hs.symm.trans hy)
  · exact ssqueeze_faults h hp (squeezes_none hn hk hv fun y hy => nomatch hs.symm.trans hy)
  · rw [exec_sabsorb, execSabsorb]
    exact absorbOp_taints h hp

end Machine
end Sys2Proof
end

section
/-! The services of a lattice engine: masks, DRBG, key bus, mailbox and matrix cache (R209, R218, R219, R268-R270). -/
namespace Sys2Proof
namespace Machine

variable {s : State} {w : Mw}

theorem maskDraw_eq (h : Issues s w (some 3)) : exec (.maskDraw w) s = .next ({ s with free := s.free + 1 }.setLe w.le
    (({ issuedLe s w with maskBuf := (issuedLe s w).maskBuf - 1 } : Le).setV w.dest.toNat ⟨s.draw % 2 ^ 1152, 0xFFFF⟩)) := by
  rw [exec_maskDraw]
  unfold execMaskDraw
  refine (issue_go h rfl (by simp) rfl rfl).trans ?_
  exact congrArg Host.Outcome.next (State.setLe_masksDrawn s w.le 1 _ _)

theorem State.setDrbg_setLe (s : State) (d e : Nat) (v : Drbg) (l l' : Le) : ((s.setLe e l).setDrbg d v).setLe e l' = (s.setDrbg d v).setLe e l' := by
  show { s.setDrbg d v with les := Map.put (Map.put s.les e l) e l' } = _
  rw [Map.put_put]
  rfl

section
variable {r : JobRef} {j : Job} (h : Issues s w none) (hr : (s.le w.le).job = some r) (hj : s.findJob r = some j)
include h hr hj

theorem drbgDraw_eq (hs : s.serving (tenantDrbg j.tenant) = true) : exec (.drbgDraw w) s =
    .next ((s.setDrbg (tenantDrbg j.tenant) ((s.drbg (tenantDrbg j.tenant)).called 144 (drawInput (s.handleFor r) r.seq))).setLe w.le
      ((issuedLe s w).setV w.dest.toNat ⟨octetsReg (drbgOutput (s.drbg (tenantDrbg j.tenant)) 144 (drawInput (s.handleFor r) r.seq)), 0xFFFF⟩)) := by
  have hr' : (issuedLe s w).job = some r := hr
  have hj' : (s.setLe w.le (issuedLe s w)).findJob r = some j := hj
  have hs' : (s.setLe w.le (issuedLe s w)).serving (tenantDrbg j.tenant) = true := hs
  rw [exec_drbgDraw]
  unfold execDrbgDraw
  rw [issue_eq h rfl (by simp) rfl]
  simp only [hr', hj', State.generate, hs', if_true, State.setDrbg_setLe]
  rfl

theorem keyFetch_eq : exec (.keyFetch w) s =
    if j.key = 0 then .next (s.leDone w.le 0x54 0 0 []) else .next (s.setLe w.le { issuedLe s w with keyState := 1 }) := by
  have hr' : (issuedLe s w).job = some r := hr
  have hj' : (s.setLe w.le (issuedLe s w)).findJob r = some j := hj
  rw [exec_keyFetch]
  unfold execKeyFetch
  rw [issue_eq h rfl (by simp) rfl]
  simp only [hr', hj', State.setLe_setLe]
  by_cases hk : j.key = 0
  · rw [if_pos hk, if_pos hk]
  · rw [if_neg hk, if_neg hk]

end

theorem mboxRead_eq {x : Tagged} {rest : List Tagged} (h : Issues s w (some 5)) (hm : (s.le w.le).regs.mailbox = x :: rest) : exec (.mboxRead w) s =
    .next (s.setLe w.le (({ issuedLe s w with regs := { (issuedLe s w).regs with mailbox := rest }
                                              unread := if rest = [] then false else (issuedLe s w).unread } : Le).setA (aIdx w.dest) x.val false)) := by
  have hm' : (issuedLe s w).regs.mailbox = x :: rest := hm
  rw [exec_mboxRead]
  unfold execMboxRead
  rw [issue_eq h rfl (by simp) rfl]
  simp only [hm', State.setLe_setLe]

section
variable (h : Issues s w none) (ht : ((s.le w.le).vreg w.src1.toNat).tags = 0)
include h ht

theorem matrixReq_goes (hu : (s.le w.le).unread = false) (ha : (s.le w.le).matrixAsked = none) (hw : (s.le w.le).w4 = none) :
    exec (.matrixReq w) s = .next (s.setLe w.le { issuedLe s w with matrixAsked := some (seedDigest ((s.le w.le).vreg w.src1.toNat)) }) := by
  have h1 : ¬ ((issuedLe s w).vreg w.src1.toNat).tags ≠ 0 := not_not.2 ht
  have h2 : ¬ ((issuedLe s w).unread || (issuedLe s w).matrixAsked != none || (issuedLe s w).w4 != none) = true := by
    simp [hu, ha, hw]
  rw [exec_matrixReq]
  unfold execMatrixReq
  refine (issue_go h rfl (by simp) rfl ((if_neg h1).trans (if_neg h2))).trans ?_
  rw [State.setLe_setLe]
  rfl

theorem matrixReq_faults (hu : (s.le w.le).unread = true ∨ (s.le w.le).w4 ≠ none) : exec (.matrixReq w) s = .next (s.leDone w.le 0x54 0 0 []) := by
  have h1 : ¬ ((issuedLe s w).vreg w.src1.toNat).tags ≠ 0 := not_not.2 ht
  have h2 : ((issuedLe s w).unread || (issuedLe s w).matrixAsked != none || (issuedLe s w).w4 != none) = true := by
    rcases hu with hu | hu
    · simp [hu]
    · have : ((issuedLe s w).w4 != none) = true := bne_iff_ne.2 hu
      rw [this, Bool.or_true]
  rw [exec_matrixReq]
  unfold execMatrixReq
  exact issue_engine h rfl (by simp) rfl ((if_neg h1).trans (if_pos h2))

end

theorem matrixDone_goes {m : W4Map} (h : Issues s w (some 6)) (hm : (s.le w.le).w4 = some m) (hw : m.writing = true) :
    GoesTo (exec (.matrixDone w) s) (fun t => t = { s with les := t.les, mcache := t.mcache } ∧
      t.les = (s.setLe w.le { issuedLe s w with w4 := some { m with writing := false } }).les ∧
      t.mcache = if s.mcache.any (fun e => e.digest == m.digest) then s.mcache else s.mcache ++ [⟨m.digest, m.size, m.words, m.seed⟩]) := by
  have hm' : (issuedLe s w).w4 = some m := hm
  have hw' : ¬ (!m.writing) = true := by rw [hw]; decide
  rw [exec_matrixDone]
  unfold execMatrixDone
  rw [issue_eq h rfl (by simp) rfl]
  simp only [hm', if_neg hw', State.setLe_setLe]
  refine ⟨_, rfl, ?_⟩
  by_cases hc : s.mcache.any (fun e => e.digest == m.digest) = true
  · rw [if_pos hc, if_pos (show (s.setLe w.le _).mcache.any _ = true from hc)]
    exact ⟨rfl, rfl, rfl⟩
  · rw [if_neg hc, if_neg (show ¬ (s.setLe w.le _).mcache.any _ = true from hc)]
    exact ⟨rfl, rfl, rfl⟩

section
variable {e : Nat} {r : JobRef} {j : Job} {dg : Nat} (hr : (s.le e).job = some r) (hj : s.findJob r = some j) (hg : s.clk.gated = false)
  (ha : (s.le e).matrixAsked = some dg)
include hr hj hg ha

omit hj in
theorem matrixAnswer_found {x : Matrix} (hx : s.mcache.find? (fun c => c.digest == dg) = some x) : GoesTo (exec (.matrixAnswer e) s) (fun t =>
    (t.le e).w4 = some ⟨dg, x.size, false, x.words, x.seed⟩ ∧ (t.le e).regs.mailbox = (s.le e).regs.mailbox ++ [⟨0, false⟩] ∧
    (t.le e).matrixAsked = none ∧ t.mcache.getLast? = some x ∧ t = { s with les := t.les, mcache := t.mcache } ∧ ∀ x, x ≠ e → t.le x = s.le x) := by
  rw [exec_matrixAnswer]
  unfold execMatrixAnswer
  simp only [hg, Bool.false_eq_true, if_false, ha, hr, hx]
  refine ⟨_, rfl, ?_⟩
  exact ⟨congrArg Le.w4 (State.le_setLe_self _ _ _), congrArg (fun l : Le => l.regs.mailbox) (State.le_setLe_self _ _ _),
    congrArg Le.matrixAsked (State.le_setLe_self _ _ _), List.getLast?_concat .., rfl, fun x hx => State.le_setLe_of_ne _ _ hx⟩

theorem matrixAnswer_new (hx : s.mcache.find? (fun c => c.digest == dg) = none) : GoesTo (exec (.matrixAnswer e) s) (fun t =>
    (t.le e).w4 = some ⟨dg, matrixSize j.opcode, true, [], none⟩ ∧ (t.le e).regs.mailbox = (s.le e).regs.mailbox ++ [⟨1, false⟩] ∧
    (t.le e).matrixAsked = none ∧ t = { s with les := t.les, mcache := t.mcache } ∧ ∀ x, x ≠ e → t.le x = s.le x) := by
  rw [exec_matrixAnswer]
  unfold execMatrixAnswer
  simp only [hg, Bool.false_eq_true, if_false, ha, hr, hj, hx]
  refine ⟨_, rfl, ?_⟩
  exact ⟨congrArg Le.w4 (State.le_setLe_self _ _ _), congrArg (fun l : Le => l.regs.mailbox) (State.le_setLe_self _ _ _),
    congrArg Le.matrixAsked (State.le_setLe_self _ _ _), rfl, fun x hx => State.le_setLe_of_ne _ _ hx⟩

end

theorem foldr_octets_lt (b : Bytes) : b.foldr (fun x acc => x.toNat + 256 * acc) 0 < 256 ^ b.length := by
  induction b with
  | nil => exact Nat.one_pos
  | cons x b ih =>
    have hx : x.toNat < 256 := x.isLt
    rw [List.foldr_cons, List.length_cons, Nat.pow_succ]
    omega

theorem inputWord_lt (b : Bytes) (k : Nat) : inputWord b k < 2 ^ 72 :=
  (foldr_octets_lt _).trans_le (by
    calc 256 ^ (slice b (9 * k) 9).length ≤ 256 ^ 9 := Nat.pow_le_pow_right (by decide) (List.length_take_le _ _)
      _ = 2 ^ 72 := by decide)

/-- A secret word reads as it was written, whatever the memory held. -/
theorem State.cword_setCword_secret (s : State) (c a v : Nat) (hv : v < 2 ^ 72) : (s.setCword c a ⟨v, true⟩).cword c a = ⟨v, true⟩ := by
  have hne : (⟨v % 2 ^ 72, true⟩ : Tagged) ≠ ⟨0, false⟩ := fun h => Bool.noConfusion (congrArg Tagged.sec h)
  show Map.getD (Map.store s.cmem (cmKey c a) ⟨v % 2 ^ 72, true⟩ ⟨0, false⟩) (cmKey c a) ⟨0, false⟩ = _
  rw [Map.store, if_neg hne, Map.getD_put_self, Nat.mod_eq_of_lt hv]

theorem Le.phys_key (l : Le) (i : Nat) : l.phys 5 i = l.scratchAt + l.scratch - l.keyWords + i := rfl

/-- Secret words put one after another into W5. -/
def State.fillKeyWindow (s : State) (e n : Nat) (f : Nat → Nat) : State :=
  (List.range n).foldl (fun u i => u.setCword (clusterOf e) ((u.le e).phys 5 i) ⟨f i, true⟩) s

theorem State.fillKeyWindow_spec {e : Nat} {f : Nat → Nat} (hf : ∀ i, f i < 2 ^ 72) (n : Nat) :
    s.fillKeyWindow e n f = { s with cmem := (s.fillKeyWindow e n f).cmem } ∧
      ∀ i, i < n → (s.fillKeyWindow e n f).cword (clusterOf e) ((s.le e).phys 5 i) = ⟨f i, true⟩ := by
  induction n with
  | zero => exact ⟨rfl, fun i hi => absurd hi (Nat.not_lt_zero i)⟩
  | succ n ih =>
    obtain ⟨h1, h2⟩ := ih
    have hle : (s.fillKeyWindow e n f).le e = s.le e := by rw [h1]; rfl
    have hs : s.fillKeyWindow e (n + 1) f = (s.fillKeyWindow e n f).setCword (clusterOf e) ((s.le e).phys 5 n) ⟨f n, true⟩ := by
      rw [State.fillKeyWindow, List.range_succ, List.foldl_append]
      show (s.fillKeyWindow e n f).setCword _ (((s.fillKeyWindow e n f).le e).phys 5 n) _ = _
      rw [hle]
    refine ⟨?_, fun i hi => ?_⟩
    · rw [hs, State.setCword, h1]
    · rw [hs]
      rcases Nat.lt_succ_iff_lt_or_eq.1 hi with hlt | rfl
      · rw [State.cword_setCword_of_ne _ _ (by rw [Le.phys_key, Le.phys_key, cmKey, cmKey]; omega)]
        exact h2 i hlt
      · exact State.cword_setCword_secret _ _ _ _ (hf i)

theorem State.deliverKey_eq (s : State) (e : Nat) (k : KeyRec) : s.deliverKey e k =
    s.fillKeyWindow e (Nat.min 4096 (sharesOf k.typ k.order * ceilDiv (secretOctets k.typ k.set) 9))
      (fun i => inputWord (k.share (i / ceilDiv (secretOctets k.typ k.set) 9)) (i % ceilDiv (secretOctets k.typ k.set) 9)) := rfl

section
variable {e : Nat} {r : JobRef} {j : Job} {k : KeyRec} (hr : (s.le e).job = some r) (hj : s.findJob r = some j) (hg : s.clk.gated = false)
  (hs : (s.le e).keyState = 1) (hk : s.keyFor j = some k)
include hr hj hg hs hk

theorem keyBus_goes (hc : bitAt k.classes 0 = true) : GoesTo (exec (.keyBusDeliveryDone e) s) (fun t => (t.le e) = { s.le e with keyState := 2 } ∧
    t = { s with les := t.les, cmem := t.cmem } ∧
    ∀ i, i < sharesOf k.typ k.order * ceilDiv (secretOctets k.typ k.set) 9 → i < 4096 → t.cword (clusterOf e) ((s.le e).phys 5 i) =
      ⟨inputWord (k.share (i / ceilDiv (secretOctets k.typ k.set) 9)) (i % ceilDiv (secretOctets k.typ k.set) 9), true⟩) := by
  rw [exec_keyBusDeliveryDone]
  unfold execKeyBusDeliveryDone
  simp only [hr, hs, hg, hj, hk, hc, ne_eq, not_true_eq_false, Bool.false_eq_true, or_self, if_false, Bool.not_true]
  refine ⟨_, rfl, State.le_setLe_self _ _ _, ?_⟩
  rw [State.deliverKey_eq]
  obtain ⟨h1, h2⟩ := State.fillKeyWindow_spec (s := s) (e := e)
    (f := fun i => inputWord (k.share (i / ceilDiv (secretOctets k.typ k.set) 9)) (i % ceilDiv (secretOctets k.typ k.set) 9))
    (fun _ => inputWord_lt _ _) (Nat.min 4096 (sharesOf k.typ k.order * ceilDiv (secretOctets k.typ k.set) 9))
  refine ⟨?_, fun i hi h4 => h2 i (Nat.lt_min.2 ⟨h4, hi⟩)⟩
  revert h1
  generalize s.fillKeyWindow e _ _ = u
  intro h1
  obtain ⟨m, rfl⟩ : ∃ m, u = { s with cmem := m } := ⟨_, h1⟩
  rfl

theorem keyBus_refuses (hc : bitAt k.classes 0 = false) : exec (.keyBusDeliveryDone e) s = .next (s.leDone e 0x30 0 0 []) := by
  rw [exec_keyBusDeliveryDone]
  unfold execKeyBusDeliveryDone
  simp only [hr, hs, hg, hj, hk, hc, ne_eq, not_true_eq_false, Bool.false_eq_true, or_self, if_false, Bool.not_false, if_true]

end

theorem State.calls_setDrbg (s : State) (d : Nat) (v : Drbg) : ((s.setDrbg d v).drbg d).calls = v.calls := by
  show (Map.getD (Map.put s.ent.drbgs d _) d drbgInit).calls = v.calls
  rw [Map.getD_put_self]
  split <;> rfl

section
variable {e : Nat} (hg : s.clk.gated = false)
include hg

/-- A mask generator whose time has come asks its cluster's DRBG. -/
theorem maskReseed_eq (hm : 65536 ≤ (s.le e).maskCount ∨ (s.le e).maskStopped = true) : exec (.maskGeneratorReseed e) s =
    match s.maskSeed e with
    | none => .next ((s.askSeed (clusterOf e)).setLe e { s.le e with maskStopped := true })
    | some t => .next (t.setLe e { s.le e with maskStopped := false, maskCount := 0 }) := by
  have hc : ¬ (s.clk.gated = true ∨ (s.le e).maskCount < 65536 ∧ (!(s.le e).maskStopped) = true) := by
    rw [hg]
    rcases hm with hm | hm
    · exact not_or.2 ⟨by decide, fun h => by omega⟩
    · rw [hm]
      exact not_or.2 ⟨by decide, fun h => nomatch h.2⟩
  rw [exec_maskGeneratorReseed]
  unfold execMaskGeneratorReseed
  exact if_neg hc

theorem maskReseed_seeds (hm : 65536 ≤ (s.le e).maskCount ∨ (s.le e).maskStopped = true) (hs : s.serving (e / 4) = true) :
    GoesTo (exec (.maskGeneratorReseed e) s) (fun t => t.le e = { s.le e with maskStopped := false, maskCount := 0 } ∧
      (t.cluster (e / 4)).seeds = (s.cluster (e / 4)).seeds + 1 ∧ (t.drbg (e / 4)).calls = (s.drbg (e / 4)).calls + 1 ∧
      t = { s with les := t.les, clus := t.clus, ent := t.ent }) := by
  rw [maskReseed_eq hg hm, State.maskSeed, State.generate, if_pos hs]
  refine ⟨_, rfl, State.le_setLe_self _ _ _, congrArg Cluster.seeds (Map.getD_put_self _ _ _ _), ?_,
    (Within.setLe (k := parts [.les, .clus, .ent]) rfl (.setCluster rfl (.setDrbg rfl (.setDrbg rfl .refl)))).eq_keepBut⟩
  exact (State.calls_setDrbg _ _ _).trans (State.calls_setDrbg _ _ _)

theorem maskReseed_stops (hm : 65536 ≤ (s.le e).maskCount ∨ (s.le e).maskStopped = true) (hs : s.serving (e / 4) = false) :
    GoesTo (exec (.maskGeneratorReseed e) s) (fun t => t.le e = { s.le e with maskStopped := true } ∧ t = { s with les := t.les, ent := t.ent }) := by
  rw [maskReseed_eq hg hm, State.maskSeed, State.generate, if_neg (by rw [hs]; decide)]
  exact ⟨_, rfl, State.le_setLe_self _ _ _, (Within.setLe (k := parts [.les, .ent]) rfl (.askSeed rfl .refl)).eq_keepBut⟩

omit hg in
theorem maskReseed_idle (hm : (s.le e).maskCount < 65536) (hs : (s.le e).maskStopped = false) : exec (.maskGeneratorReseed e) s = .next s := by
  rw [exec_maskGeneratorReseed]
  unfold execMaskGeneratorReseed
  exact if_pos (.inr ⟨hm, by rw [hs]; rfl⟩)

section
variable {c addr : Nat} {nano : Bool} (hp : s.phase = .up) (hc : c < 16)
include hp hc

theorem csRepair_repairs (hw : Map.wf s.dict = true) (hb : (s.cluster c).badWords.contains (nano, addr) = true) :
    GoesTo (exec (.csRepair c nano addr) s) (fun t => t = { s with dict := t.dict, clus := t.clus, kern := t.kern } ∧
      t.rd 0x2400 8 = (s.rd 0x2400 8 + 1) % 2 ^ 64 ∧ (t.cluster c).badWords = (s.cluster c).badWords.filter (fun x => x != (nano, addr))) := by
  have hrun : (s.runs && decide (c < 16) && (s.cluster c).badWords.contains (nano, addr)) = true := by
    rw [State.runs, hp, hg, hb, decide_eq_true hc]; rfl
  rw [exec_csRepair]
  unfold execCsRepair
  dsimp only
  rw [when, if_pos hrun]
  exact ⟨_, rfl, rfl, State.rd_wr_self hw _ _ _, congrArg Cluster.badWords (Map.getD_put_self _ _ _ _)⟩

omit hg hp hc in
theorem csRepair_idle (hb : (s.cluster c).badWords.contains (nano, addr) = false) : exec (.csRepair c nano addr) s = .next s := by
  rw [exec_csRepair]
  unfold execCsRepair
  dsimp only
  rw [when, hb, Bool.and_false]
  rfl

end
end

/-- Settles O15: each service of an engine, and each answer of the management cores. -/
theorem engineServicesComplete : Obligations.EngineServicesComplete := by
  refine ⟨fun s w => ⟨maskDraw_eq, fun r j h hr hj => ⟨drbgDraw_eq h hr hj, fun hk => ?_, fun hk => ?_⟩, fun x rest h hm => mboxRead_eq h hm,
    matrixReq_goes, matrixReq_faults, fun m => matrixDone_goes⟩,
    fun s e r j hr hj hg => ⟨fun dg ha => ⟨fun x hx => matrixAnswer_found hr hg ha hx, matrixAnswer_new hr hj hg ha⟩,
      fun k hs hk => ⟨keyBus_goes hr hj hg hs hk, keyBus_refuses hr hj hg hs hk⟩⟩,
    fun s e hg => ⟨fun hm => ⟨maskReseed_seeds hg hm, maskReseed_stops hg hm⟩, maskReseed_idle,
      fun c nano addr hp hc _ hw => ⟨csRepair_repairs hg hp hc hw, csRepair_idle⟩⟩⟩
  · rw [keyFetch_eq h hr hj, if_neg hk]
  · rw [keyFetch_eq h hr hj, if_pos hk]

end Machine
end Sys2Proof
end

section
/-! Octets of a draw that a job has kept from before come first in the next one (R300); nothing in the statements about running jobs says that there are
none. Two states that differ in them alone tell apart what a statement says they have in common. -/
namespace Sys2Proof
namespace Machine
/-- The result that an outcome leaves of a job's message. -/
def resultOf (r : JobRef) : Out → Option Bytes
  | .next t => (t.findJob r).map Job.result
  | _ => none

theorem Ends.resultOf {o : Out} {s : State} {j : Job} {status : Nat} {out : Bytes} (h : Ends o s j status out) :
    resultOf j.ref o = some out := by
  obtain ⟨t, rfl, ⟨k, hk, -, -, -, hres, -⟩, -⟩ := h
  rw [Machine.resultOf, hk, Option.map_some, hres]

/-- What a map lists stands in it. -/
theorem Map.mem_of_find {α : Type} : ∀ {m : Map α} {k : Nat} {v : α}, Map.find m k = some v → (k, v) ∈ m
  | (k', v') :: m, k, v, h => by
    rw [Map.find] at h
    split at h
    · next hk => rw [hk, Option.some.inj h]; exact List.mem_cons_self
    · exact List.mem_cons_of_mem _ (Map.mem_of_find h)

namespace Drawn

/-- A dispatched JOB message with `d` of its draw already. -/
def job (op : Nat) (b : Bytes) (key : Nat) (d : Bytes) : Job :=
  { chan := 0, seq := 1, handle := 65536, hdrTenant := 0, order := 0, tenant := 0, queue := 0, kind := 1, opcode := op, key := key, cookie := 0,
    length := b.length, segCount := 1, segs := [(0, b)], firstAt := 0, needsAck := false, credits := 0, reserve := 0, state := .running, units := [],
    borrowed := false, admitted := 0, charged := noWork, lapCharged := noWork, lapBorrowed := noWork, epoch := 0, retried := false, faultUnit := none,
    waitSince := none, status := 0, detail := 0, result := [], resKey := 0, index := none, stamp := none, kernel := none, rnd := none, sentAs := none,
    prec := false, isSealed := false, switched := false, slotless := false, kumChecked := false, extra := noWork, mid := 0, drawn := d }

/-- Its row. -/
def row : JobRun := ⟨⟨0, 1⟩, noWork⟩

/-- The block up, with the tenant's DRBG served, keys in the table, and one job. -/
def state (keys : Map KeyRec) (j : Job) : State :=
  { State.reset with phase := .up, jobs := [j], keys := { State.reset.keys with vol := keys }
                     ent := { State.reset.ent with drbgs := [(16, { drbgInit with state := 1 })] } }

/-! ### One random octet -/

/-- The payload of a request for one random octet. -/
def oneOctet : Bytes := [0, 0, 0, 1, 0, 0, 0, 0]

/-- The block that runs it, with the octets drawn before. -/
def octetState (d : Bytes) : State := state [] (job 0x0F10 oneOctet 0 d)

theorem resultOf_octetState : ∀ d ∈ [[0], [1]], resultOf row.j (exec (.randomOctets row) (octetState d)) = some d := by decide +kernel

theorem octetState_runs : ∀ d ∈ [[0], [1]], JobRuns (octetState d) row.j (job 0x0F10 oneOctet 0 d) ∧ DrbgReady (octetState d) 0 1 := by
  unfold JobRuns Calm DrbgReady; decide +kernel

/-! ### A nonce of AES-GCM -/

/-- A volatile AES key of the tenant. -/
def aesKey : KeyRec :=
  { handle := keyHandle 0 0 1 0, typ := 0x01, set := 1, order := 1, classes := 0x2F, ops := 0x3FF, notBefore := 0, notAfter := 0, useLimit := 0, digest := 0,
    pub := [], secret := [], limit := 0, next := 0, total := 0, batch := 0, skipped := 0, uses := 0, usesLimit := 0, ranges := [], session := 0, masks := [],
    traversal := 0 }

/-- The payload of an encryption of nothing under a nonce that is drawn. -/
def drawnNonce : Bytes := 1 :: List.replicate 19 0

/-- A nonce that begins with `v`. -/
def nonceFrom (v : BitVec 8) : Bytes := v :: List.replicate 11 0

/-- The block that runs it, with the nonce drawn before. -/
def nonceState (v : BitVec 8) : State := state [(0, aesKey)] (job 0x0C11 drawnNonce aesKey.handle (nonceFrom v))

theorem head_resultOf_nonceState : ∀ v ∈ [0, 1], (resultOf row.j (exec (.aeadEncrypt row) (nonceState v))).map List.head? = some (some v) := by
  decide +kernel

theorem nonceState_runs : ∀ v ∈ [0, 1], JobRuns (nonceState v) row.j (job 0x0C11 drawnNonce aesKey.handle (nonceFrom v)) ∧ DrbgReady (nonceState v) 0 1 := by
  unfold JobRuns Calm DrbgReady; decide +kernel

/-- What a statement in terms of the state before says of the result. -/
def sealedUnder (v : BitVec 8) : Bytes :=
  let s := nonceState v
  let j := job 0x0C11 drawnNonce aesKey.handle (nonceFrom v)
  let b := j.payload
  let nonce := if bitAt (fieldAt b 0 1) 0 then drawnBy s j 12 else slice b 8 12
  nonce ++ prim (b.length - 20 - fieldAt b 4 4 + 16) .aesGcmSeal [s.keySecret j, nonce, slice b 20 (fieldAt b 4 4), b.drop (20 + fieldAt b 4 4)]

theorem sealedUnder_one : sealedUnder 0 = sealedUnder 1 := rfl

theorem head_of_ends {o : Out} {s : State} {j : Job} {status : Nat} {out : Bytes} {x : Option (BitVec 8)}
    (ho : (resultOf row.j o).map List.head? = some x) (hr : j.ref = row.j) (h : Ends o s j status out) : x = out.head? := by
  rw [← hr, h.resultOf] at ho
  exact (Option.some.inj ho).symm

/-! ### The seed of an LMS key -/

/-- The payload that asks for an LMS key of height 5. -/
def lmsKey : Bytes := [0, 0, 0, 5, 0, 0, 0, 4, 1, 0, 4, 0]

/-- A seed that begins with `v`. -/
def seedFrom (v : BitVec 8) : Bytes := v :: List.replicate 47 0

/-- The block that runs it, with the seed drawn before. -/
def seedState (v : BitVec 8) : State := state [] (job 0x0710 lmsKey 0 (seedFrom v))

/-- The secrets of the volatile keys that an outcome leaves. -/
def secretsOf : Out → List Bytes
  | .next t => t.keys.vol.map (fun p => p.2.secret)
  | _ => []

theorem secretsOf_seedState : ∀ v ∈ [0, 1], secretsOf (exec (.statefulKeygen row) (seedState v)) = [seedFrom v] := by
  decide +kernel

/-- What a statement in terms of the state before says of the seed. -/
def seedOf (v : BitVec 8) : Bytes := drawnBy (seedState v) (job 0x0710 lmsKey 0 (seedFrom v)) 48

theorem seedOf_one : seedOf 1 = seedOf 0 := rfl

theorem statefulTotal_lmsKey : ∀ v ∈ [0, 1], let j := job 0x0710 lmsKey 0 (seedFrom v)
    statefulTotal (opSet j.opcode) (fieldAt j.payload 0 4) (fieldAt j.payload 4 4) (fieldAt j.payload 8 1) = some 32 := by
  decide +kernel

theorem seedState_runs : ∀ v ∈ [0, 1], let j := job 0x0710 lmsKey 0 (seedFrom v)
    JobRuns (seedState v) row.j j ∧ DrbgReady (seedState v) 0 1 ∧
      KeyRoom (seedState v) j (materialWords 0x1C (opSet j.opcode) 0 (statefulPubLen (opSet j.opcode) (fieldAt j.payload 0 4))) := by
  unfold JobRuns Calm DrbgReady KeyRoom; decide +kernel

theorem secret_of_endsWithKey {o : Out} {s : State} {j : Job} {out : KeyRec → Bytes} {P : KeyRec → Prop} {x y : Bytes}
    (ho : secretsOf o = [x]) (h : EndsWithKey o s j out P) (hP : ∀ k, P k → k.secret = y) : x = y := by
  obtain ⟨t, rfl, i, k, hk, -, hk', -, -⟩ := h
  have hmem : k.secret ∈ secretsOf (.next t) := List.mem_map_of_mem (f := fun p : Nat × KeyRec => p.2.secret) (Map.mem_of_find hk)
  rw [ho, List.mem_singleton] at hmem
  exact hmem.symm.trans (hP k hk')

end Drawn

/-- Refutes O23: a random octet that the job has kept from a draw before is its result. -/
theorem not_hashKdfAndRandomComplete : ¬ Obligations.HashKdfAndRandomComplete := by
  unfold Obligations.HashKdfAndRandomComplete
  intro h
  have hout : ∀ d ∈ [[0], [1]], d = drawnBy (Drawn.octetState []) (Drawn.job 0x0F10 Drawn.oneOctet 0 []) 1 := fun d hd => by
    obtain ⟨hruns, hready⟩ := Drawn.octetState_runs d hd
    obtain ⟨-, -, -, -, -, hrandom⟩ := h _ Drawn.row _ hruns
    have hends := (hrandom (by decide : famOp 0x0F 0 0x0F10 = true) (by decide : fieldAt Drawn.oneOctet 4 1 ≤ 1) (by decide : zeros (slice Drawn.oneOctet 5 3) = true) (by decide : 1 ≤ fieldAt Drawn.oneOctet 0 4)).1
      (by decide : fieldAt Drawn.oneOctet 0 4 ≤ 65536) hready
    exact Option.some.inj ((Drawn.resultOf_octetState d hd).symm.trans hends.resultOf)
  exact absurd ((hout [0] (by decide)).trans (hout [1] (by decide)).symm) (by decide)

/-- Refutes O22: a nonce that the job has kept from a draw before begins its result. -/
theorem not_encryptionAndAgreementComplete : ¬ Obligations.EncryptionAndAgreementComplete := by
  unfold Obligations.EncryptionAndAgreementComplete
  intro h
  have hout : ∀ v ∈ [0, 1], some v = (Drawn.sealedUnder v).head? := fun v hv => by
    obtain ⟨hruns, hready⟩ := Drawn.nonceState_runs v hv
    obtain ⟨-, -, -, hseal, -⟩ := h _ Drawn.row _ hruns
    exact Drawn.head_of_ends (Drawn.head_resultOf_nonceState v hv) rfl ((hseal (by decide : famOp 0x0C 1 0x0C11 = true)).1
      (by decide : opSet 0x0C11 = 1) (by decide : gcmOk true Drawn.drawnNonce = true) (fun _ => hready))
  have hhead : some (0 : BitVec 8) = some 1 :=
    (hout 0 (by decide)).trans ((congrArg List.head? Drawn.sealedUnder_one).trans (hout 1 (by decide)).symm)
  exact absurd hhead (by decide)

/-- Refutes O18: a seed that the job has kept from a draw before is the new key's secret. -/
theorem not_allKeyGenerationCompletes : ¬ Obligations.AllKeyGenerationCompletes := by
  unfold Obligations.AllKeyGenerationCompletes
  intro h
  have hout : ∀ v ∈ [0, 1], Drawn.seedFrom v = Drawn.seedOf v := fun v hv => by
    obtain ⟨hruns, hready, hroom⟩ := Drawn.seedState_runs v hv
    obtain ⟨-, -, hstateful⟩ := h.2 _ Drawn.row _ hruns
    have hmade := hstateful 32 (by decide : famOp 7 0 0x0710 = true) (Drawn.statefulTotal_lmsKey v hv)
      (by decide : fieldAt Drawn.lmsKey 9 1 = 0) (by decide : 1 ≤ fieldAt Drawn.lmsKey 10 2) (by decide : fieldAt Drawn.lmsKey 10 2 ≤ 1024) hready hroom
    refine Drawn.secret_of_endsWithKey (Drawn.secretsOf_seedState v hv) hmade fun k hk => ?_
    obtain ⟨-, -, -, -, -, -, hsecret⟩ := hk
    exact hsecret
  exact absurd ((hout 0 (by decide)).trans (Drawn.seedOf_one.symm.trans (hout 1 (by decide)).symm)) (by decide)

end Machine
end Sys2Proof
end

section
/-! The end of a job where no channel closes abortively and no tenant is reset: its message is completed, every other message's job stays, and of the block only
what a job acts on changes (R13, R89, R99). -/
namespace Sys2Proof
namespace Machine
variable {s t : State} {r x : JobRef} {j : Job} {f : Job → Job}

/-! ### One job of the list -/

theorem State.findJob_mapJob (hf : ∀ y, (f y).ref = y.ref) :
    (s.mapJob r f).findJob x = (s.findJob x).map fun y => if y.chan == r.chan && y.seq == r.seq then f y else y := by
  have hp : (fun y : Job => y.chan == x.chan && y.seq == x.seq) ∘ (fun y => if y.chan == r.chan && y.seq == r.seq then f y else y) =
      fun y => y.chan == x.chan && y.seq == x.seq := by
    funext y
    have hr : (f y).chan = y.chan ∧ (f y).seq = y.seq := ⟨congrArg JobRef.chan (hf y), congrArg JobRef.seq (hf y)⟩
    simp only [Function.comp_apply]
    split <;> simp only [hr.1, hr.2]
  rw [State.findJob, State.mapJob, List.find?_map, hp, State.findJob]

theorem State.ref_of_findJob (h : s.findJob r = some j) : j.ref = r := by
  have hj := List.find?_some h
  simp only [Bool.and_eq_true, beq_iff_eq] at hj
  rw [Job.ref, hj.1, hj.2]

theorem State.findJob_mapJob_self (hf : ∀ y, (f y).ref = y.ref) (h : s.findJob r = some j) : (s.mapJob r f).findJob r = some (f j) := by
  have hj := List.find?_some h
  rw [State.findJob_mapJob hf, h, Option.map_some, if_pos hj]

theorem State.findJob_mapJob_of_ne (hf : ∀ y, (f y).ref = y.ref) (hx : x ≠ r) : (s.mapJob r f).findJob x = s.findJob x := by
  rw [State.findJob_mapJob hf]
  rcases h : s.findJob x with _ | y
  · rfl
  · rw [Option.map_some, if_neg]
    have hy := State.ref_of_findJob h
    subst hy
    simp only [Bool.and_eq_true, beq_iff_eq]
    rintro ⟨hc, hs⟩
    exact hx (by rw [Job.ref, hc, hs])

/-! ### Calm -/

theorem Calm.congr (h : Calm s) (hc : t.chans = s.chans) (ht : t.tenants = s.tenants) : Calm t := by
  unfold Calm at *
  rw [hc, ht]
  exact h

theorem Calm.put_chan (h : Calm s) {slot : Nat} {c : Channel} (hc : c.state ≠ .closing) (hch : t.chans = Map.put s.chans slot c)
    (ht : t.tenants = s.tenants) : Calm t := by
  refine ⟨fun p hp => ?_, ht ▸ h.2⟩
  rw [hch] at hp
  rcases Map.mem_put s.chans slot c p hp with rfl | hp
  · exact hc
  · exact h.1 p hp

theorem Calm.notice (h : Calm s) {slot kind opcode status detail : Nat} {payload : Bytes} :
    Calm (s.notice slot kind opcode status detail payload) := by
  unfold State.notice
  split
  · exact h
  · next c hc =>
    split
    · exact h
    · next hs => exact h.put_chan (c := s.raiseGrant { c with notice := c.notice + 1 }) hs rfl rfl

theorem Calm.foldl {α : Type} {g : State → α → State} (hg : ∀ u a, Calm u → Calm (g u a)) (l : List α) (h : Calm s) : Calm (l.foldl g s) :=
  List.foldlRecOn l g h fun u hu a _ => hg u a hu

theorem Calm.notify (h : Calm s) {cls : Nat} {o : Option Nat} {what : Nat} : Calm (s.notify cls o what) :=
  Calm.foldl (fun _ _ hu => hu.notice) _ h

theorem Calm.event (h : Calm s) {idx sub flags : Nat} : Calm (s.event idx sub flags) := h.congr rfl rfl

theorem Calm.countFault (h : Calm s) {status : Nat} : Calm (s.countFault j status) := by
  unfold State.countFault
  split
  · exact h.event.notify
  · exact h

theorem Calm.put_tenant (h : Calm s) {i : Nat} {v : Tenant} (hv : v.resetting = false) : Calm (s.setTen i v) := by
  refine ⟨h.1, fun p hp => ?_⟩
  rcases Map.mem_put s.tenants i v p hp with rfl | hp
  · exact hv
  · exact h.2 p hp

theorem Calm.resetting_ten (h : Calm s) (i : Nat) : (s.ten i).resetting = false := by
  unfold State.ten Map.getD
  split
  · next v hv => exact h.2 (i, v) (Map.mem_of_find hv)
  · rfl

theorem Calm.mapJob (h : Calm s) : Calm (s.mapJob r f) := h.congr rfl rfl

theorem Calm.charge (h : Calm s) {w : Work} : Calm (s.charge r w) := by
  unfold State.charge
  split
  · exact h
  · next j _ =>
    dsimp only
    split
    · exact h.mapJob.put_tenant (h.mapJob.resetting_ten j.tenant)
    · exact h.mapJob.put_tenant (h.mapJob.resetting_ten j.tenant)

/-- With nothing closing and no tenant reset, settling sweeps the keys' old records and the requests of jobs that have ended. -/
theorem Calm.settle (h : Calm s) : s.settle = s.sweepKeys.withdrawRequests := by
  have hc : s.chans.filter (fun p => p.2.state == .closing) = [] :=
    List.filter_eq_nil_iff.2 fun p hp => by simpa using h.1 p hp
  have ht : s.tenants.filter (fun p => p.2.resetting) = [] := List.filter_eq_nil_iff.2 fun p hp => by simp [h.2 p hp]
  unfold State.settle
  rw [hc, List.map_nil, List.foldl_nil]
  dsimp only
  rw [ht, List.map_nil, List.foldl_nil]

/-! ### A completed message -/

/-- Of the jobs that `s` has, that of `r` is now `j`, and the others are as they were. -/
def State.JobOver (t s : State) (r : JobRef) (j : Job) : Prop :=
  t.findJob r = some j ∧ ∀ x, x ≠ r → t.findJob x = s.findJob x

theorem State.findJob_congr (h : t.jobs = s.jobs) (x : JobRef) : t.findJob x = s.findJob x := by rw [State.findJob, State.findJob, h]

/-- A job charged work. -/
def Job.chargedWith (w : Work) (j : Job) : Job :=
  { j with
    charged := j.charged.add w
    lapCharged := if j.borrowed then j.lapCharged else j.lapCharged.add w
    lapBorrowed := if j.borrowed then j.lapBorrowed.add w else j.lapBorrowed }

theorem State.charge_mapJob {w : Work} (h : s.findJob r = some j) : (s.charge r w).jobs = (s.mapJob r (Job.chargedWith w)).jobs := by
  unfold State.charge
  rw [h]
  exact (apply_ite State.jobs _ _ _).trans (ite_self _)

theorem State.charge_jobs {w : Work} (h : s.findJob r = some j) : (s.charge r w).JobOver s r (j.chargedWith w) :=
  ⟨(State.findJob_congr (State.charge_mapJob h) r).trans (State.findJob_mapJob_self (fun _ => rfl) h),
    fun x hx => (State.findJob_congr (State.charge_mapJob h) x).trans (State.findJob_mapJob_of_ne (fun _ => rfl) hx)⟩

theorem State.finish_cached {status detail : Nat} {result : Bytes} {key : Option Nat} (hj : s.findJob r = some j) (hl : j.live = true)
    (hu : uncached status = false) : s.finish r status detail result key = ((s.freeEngines j).mapJob r (fun j => j.ended status detail
      (s.resultOf j.kind status result) (key.getD j.key))).countFault j status := by
  unfold State.finish
  rw [hj]
  dsimp only
  rw [hl, hu]
  rfl

theorem Calm.finish (h : Calm s) {status detail : Nat} {result : Bytes} {key : Option Nat} (hj : s.findJob r = some j) (hl : j.live = true)
    (hu : uncached status = false) : Calm (s.finish r status detail result key) := by
  rw [State.finish_cached hj hl hu]
  have hf : Calm (s.freeEngines j) := h.congr ((Within.freeEngines (k := Machine.parts [.units, .clus]) rfl .refl).same .chans rfl)
    ((Within.freeEngines (k := Machine.parts [.units, .clus]) rfl .refl).same .tenants rfl)
  exact hf.mapJob.countFault

theorem State.finish_jobs {status detail : Nat} {result : Bytes} {key : Option Nat} (hj : s.findJob r = some j) (hl : j.live = true)
    (hu : uncached status = false) : (s.finish r status detail result key).JobOver s r
      (j.ended status detail (s.resultOf j.kind status result) (key.getD j.key)) := by
  rw [State.finish_cached hj hl hu]
  have hc : ∀ u : State, ∀ x, (u.countFault j status).findJob x = u.findJob x := fun u =>
    State.findJob_congr ((Within.countFault (k := Machine.parts [.dict, .dtx, .tx, .chans]) rfl .refl).same .jobs rfl)
  have hf : ∀ x, (s.freeEngines j).findJob x = s.findJob x :=
    State.findJob_congr ((Within.freeEngines (k := Machine.parts [.units, .clus]) rfl .refl).same .jobs rfl)
  refine ⟨?_, fun x hx => ?_⟩
  · exact (hc _ r).trans (State.findJob_mapJob_self (fun _ => rfl) ((hf r).trans hj))
  · refine (hc _ x).trans ((State.findJob_mapJob_of_ne ?_ hx).trans (hf x))
    exact fun _ => rfl

/-- What the end of a message's job reaches where nothing closes abortively and no tenant is reset. -/
def finishing : Parts := parts [.free, .dict, .dtx, .tx, .waits, .chans, .jobs, .tenants, .units, .les, .saved, .cmem, .clus, .mcache, .ent, .keys]

theorem Within.jobFrame (h : Within finishing s t) (hx : ∀ x, x ≠ r → t.findJob x = s.findJob x) : JobFrame s t r := by
  refine ⟨⟨?_, ?_, ?_, ?_, ?_, ?_, ?_, ?_, ?_, ?_, ?_, ?_, ?_, ?_, ?_, ?_, ?_, ?_, ?_, ?_⟩, hx⟩
  · exact h.same .pending rfl
  · exact h.same .phase rfl
  · exact h.same .clk rfl
  · exact h.same .pins rfl
  · exact h.same .ports rfl
  · exact h.same .ptp rfl
  · exact h.same .gens rfl
  · exact h.same .freed rfl
  · exact h.same .hs rfl
  · exact h.same .order rfl
  · exact h.same .lap rfl
  · exact h.same .kern rfl
  · exact h.same .stampSeq rfl
  · exact h.same .flash rfl
  · exact h.same .gate rfl
  · exact h.same .trav rfl
  · exact h.same .grp rfl
  · exact h.same .lc rfl
  · exact h.same .tamp rfl
  · exact h.same .flt rfl

/-- A job that differs from another in nothing that its end speaks of. -/
structure Job.Alike (k j : Job) : Prop where
  state : k.state = j.state
  kind : k.kind = j.kind
  key : k.key = j.key
  tenant : k.tenant = j.tenant

theorem Job.Alike.live {k : Job} (h : k.Alike j) : k.live = j.live := by rw [Job.live, Job.live, h.state]

/-- In a calm state that has come of `s` the message of `r` is still the job `j`, charged what it may have been, and the other messages' jobs are as they were. -/
def State.Bears (t s : State) (r : JobRef) (j : Job) : Prop := Calm t ∧ ∃ k, t.JobOver s r k ∧ k.Alike j

theorem Calm.bears (h : Calm s) (hj : s.findJob r = some j) : s.Bears s r j := ⟨h, j, ⟨hj, fun _ _ => rfl⟩, rfl, rfl, rfl, rfl⟩

section
variable {u : State} (h : t.Bears s r j)
include h

theorem State.Bears.congr (hj : u.jobs = t.jobs) (hc : u.chans = t.chans) (ht : u.tenants = t.tenants) : u.Bears s r j := by
  obtain ⟨hcalm, k, ⟨hk, hx⟩, ha⟩ := h
  exact ⟨hcalm.congr hc ht, k, ⟨(State.findJob_congr hj r).trans hk, fun x hne => (State.findJob_congr hj x).trans (hx x hne)⟩, ha⟩

theorem State.Bears.of_within {l : Parts} (hu : Within l t u) (hl : (inParts l .jobs || inParts l .chans || inParts l .tenants) = false) :
    u.Bears s r j := by
  simp only [Bool.or_eq_false_iff] at hl
  obtain ⟨⟨hj, hc⟩, ht⟩ := hl
  exact h.congr (hu.same .jobs hj) (hu.same .chans hc) (hu.same .tenants ht)

theorem State.Bears.mapJob (hr : ∀ y, (f y).ref = y.ref) (hf : ∀ k : Job, k.Alike j → (f k).Alike j) : (t.mapJob r f).Bears s r j := by
  obtain ⟨hcalm, k, ⟨hk, hx⟩, ha⟩ := h
  exact ⟨hcalm.mapJob, f k, ⟨State.findJob_mapJob_self hr hk, fun x hne => (State.findJob_mapJob_of_ne hr hne).trans (hx x hne)⟩, hf k ha⟩

theorem State.Bears.charge {w : Work} : (t.charge r w).Bears s r j := by
  obtain ⟨hcalm, k, ⟨hk, hx⟩, ha⟩ := h
  obtain ⟨hk', hx'⟩ := State.charge_jobs (w := w) hk
  exact ⟨hcalm.charge, k.chargedWith w, ⟨hk', fun x hne => (hx' x hne).trans (hx x hne)⟩, ⟨ha.state, ha.kind, ha.key, ha.tenant⟩⟩

end

/-- A calm state in which the message of `r` is completed, and the other messages' jobs are as `s` has them. -/
def State.Completes (t s : State) (r : JobRef) (status detail : Nat) (out : Bytes) (key : Nat) : Prop :=
  Calm t ∧ JobDone t r status detail out key ∧ ∀ x, x ≠ r → t.findJob x = s.findJob x

theorem State.Bears.finish (h : t.Bears s r j) (hl : j.live = true) (hkind : j.kind = 0x1) {status detail : Nat} {out : Bytes} {key : Option Nat}
    (hu : uncached status = false) : (t.finish r status detail out key).Completes s r status detail out (key.getD j.key) := by
  obtain ⟨hcalm, k, ⟨hk, hx⟩, ha⟩ := h
  have hlk : k.live = true := ha.live.trans hl
  obtain ⟨hf, hfx⟩ := State.finish_jobs (status := status) (detail := detail) (result := out) (key := key) hk hlk hu
  have hout : t.resultOf k.kind status out = out := if_neg fun hc => absurd (ha.kind.trans hkind ▸ hc.1) (by decide)
  rw [hout, ha.key] at hf
  exact ⟨hcalm.finish hk hlk hu, ⟨_, hf, rfl, rfl, rfl, rfl, rfl, rfl⟩, fun x hne => (hfx x hne).trans (hx x hne)⟩

theorem State.Completes.of_within {u : State} {l : Parts} {status detail key : Nat} {out : Bytes} (h : t.Completes s r status detail out key)
    (hu : Within l t u) (hl : (inParts l .jobs || inParts l .chans || inParts l .tenants) = false) : u.Completes s r status detail out key := by
  simp only [Bool.or_eq_false_iff] at hl
  obtain ⟨⟨hj, hc⟩, ht⟩ := hl
  obtain ⟨hcalm, ⟨k, hk, hd⟩, hx⟩ := h
  have hfind := State.findJob_congr (hu.same .jobs hj)
  exact ⟨hcalm.congr (hu.same .chans hc) (hu.same .tenants ht), ⟨k, (hfind r).trans hk, hd⟩, fun x hne => (hfind x).trans (hx x hne)⟩

theorem State.Completes.settle {status detail key : Nat} {out : Bytes} (h : t.Completes s r status detail out key) :
    t.settle.Completes s r status detail out key := by
  rw [h.1.settle]
  exact h.of_within (Within.withdrawRequests (k := Machine.parts [.keys, .ent]) rfl (.sweepKeys rfl .refl)) rfl

theorem Calm.within_settle {l : Parts} (h : Calm t) (hl : covers (Machine.parts [.keys, .ent]) l = true) (hw : Within l s t) : Within l s t.settle := by
  rw [h.settle]
  exact .withdrawRequests (covers_trans rfl hl) (.sweepKeys (covers_trans rfl hl) hw)

theorem State.job_billWaits (t : State) (k : Job) (e : Nat) : ((t.billWaits k).le e).job = (t.le e).job := by
  unfold State.billWaits
  split
  · refine List.foldlRecOn (motive := fun u : State => (u.le e).job = (t.le e).job) _ _ rfl fun u hu a _ => ?_
    by_cases ha : e = a
    · rw [← ha, State.le_setLe_self]
      exact hu
    · rw [State.le_setLe_of_ne _ _ ha]
      exact hu
  · rfl

theorem State.job_accrueOn (t : State) (e : Nat) : ((t.accrueOn e).le e).job = (t.le e).job := by
  unfold State.accrueOn
  split
  · split
    · next k _ =>
      split
      · exact (State.job_billWaits _ k e).trans (congrArg (fun m => Le.job (Map.getD m e leInit)) ((Within.charge (k := Machine.parts [.jobs, .tenants]) rfl .refl).same .les rfl))
      · rfl
    · rfl
  · rfl

theorem Within.leEnd_finishing {e status detail cl : Nat} {out : Bytes} (h : Within finishing s t) :
    Within finishing s (t.leEnd e status detail cl out) := by
  unfold State.leEnd
  split
  · exact h
  · have hm : Within finishing s ((t.clearLe e).setEngine e ((t.clearLe e).engine e).leave) := .setEngine rfl (.clearLe rfl h)
    exact .finish rfl (.ite (.event rfl hm) hm)

section
variable (h : t.Bears s r j)
include h

theorem State.Bears.accrue {k : Job} (hk : k.ref = r) : (t.accrue k).Bears s r j := by
  unfold State.accrue
  rw [hk]
  have hc : State.Bears (State.charge { t with free := t.free + 4 } r (t.soFar k)) s r j := (h.congr (u := { t with free := t.free + 4 }) rfl rfl rfl).charge
  exact hc.of_within (Within.billWaits (k := Machine.parts [.les]) rfl .refl) rfl

theorem State.Bears.accrueOn {e : Nat} (he : (t.le e).job = some r) : (t.accrueOn e).Bears s r j := by
  unfold State.accrueOn
  rw [he]
  dsimp only
  split
  · next k hk =>
    split
    · exact h.accrue (State.ref_of_findJob hk)
    · exact h
  · exact h

theorem State.Bears.unload {k : Job} : (t.unload k).Bears s r j :=
  h.of_within (Within.unload (k := Machine.parts [.units, .les, .saved, .cmem, .clus]) rfl .refl) rfl

theorem State.Bears.event_if {p : Prop} [Decidable p] {i a v : Nat} : State.Bears (if p then t.event i a v else t) s r j := by
  split
  · exact h.of_within (Within.event (k := Machine.parts [.dict, .dtx]) rfl .refl) rfl
  · exact h

variable (hl : j.live = true) (hkind : j.kind = 0x1) {status detail cl : Nat} (hu : uncached status = false)
include hl hkind hu

/-- A job's end completes its message. -/
theorem State.Bears.endJob {out : Bytes} {key : Option Nat} :
    (t.endJob r status detail cl out key).Completes s r status detail out (key.getD j.key) := by
  obtain ⟨k, ⟨hk, -⟩, -⟩ := h.2
  unfold State.endJob
  rw [hk]
  have hm := (h.unload (k := k)).mapJob (f := fun (j : Job) => { j with units := [] }) (fun _ => rfl) fun _ ha =>
    ⟨ha.state, ha.kind, ha.key, ha.tenant⟩
  dsimp only
  exact (hm.event_if.finish hl hkind hu).settle

/-- An engine's end of its job completes its message. -/
theorem State.Bears.leEnd {e : Nat} {out : Bytes} (he : (t.le e).job = some r) :
    (t.leEnd e status detail cl out).Completes s r status detail out j.key := by
  have hc : State.Bears (t.clearLe e) s r j := h.of_within (Within.clearLe (k := Machine.parts [.units, .les, .cmem, .clus]) rfl .refl) rfl
  have hu' : ((t.clearLe e).setEngine e ((t.clearLe e).engine e).leave).Bears s r j :=
    hc.of_within (Within.setEngine (k := Machine.parts [.units]) rfl .refl) rfl
  unfold State.leEnd
  rw [he]
  dsimp only
  exact hu'.event_if.finish hl hkind hu

theorem State.Bears.leDone {e : Nat} {out : Bytes} (he : (t.le e).job = some r) :
    (t.leDone e status detail cl out).Completes s r status detail out j.key :=
  ((h.accrueOn he).leEnd hl hkind hu ((t.job_accrueOn e).trans he)).settle

end

/-! ### What it reaches -/

theorem Within.endJob_of_calm (h : t.Bears s r j) (hl : j.live = true) (hkind : j.kind = 0x1) {status detail cl : Nat} {out : Bytes} {key : Option Nat}
    (hu : uncached status = false) (hw : Within finishing s t) : Within finishing s (t.endJob r status detail cl out key) := by
  obtain ⟨k, ⟨hk, -⟩, -⟩ := h.2
  have hb := (h.unload (k := k)).mapJob (f := fun (j : Job) => { j with units := [] }) (fun _ => rfl) fun _ ha => ⟨ha.state, ha.kind, ha.key, ha.tenant⟩
  have hm : Within finishing s ((t.unload k).mapJob r fun (j : Job) => { j with units := [] }) := .mapJob rfl (.unload rfl hw)
  unfold State.endJob
  rw [hk]
  dsimp -zeta only
  extract_lets t₁ t₂ t₃
  have hw₃ : Within finishing s t₃ := .ite (.event rfl hm) hm
  have hb₃ : t₃.Bears s r j := hb.event_if
  exact (hb₃.finish hl hkind hu).1.within_settle rfl (.finish rfl hw₃)

theorem Within.leDone_of_calm (h : t.Bears s r j) (hl : j.live = true) (hkind : j.kind = 0x1) {status detail cl e : Nat} {out : Bytes}
    (hu : uncached status = false) (he : (t.le e).job = some r) (hw : Within finishing s t) : Within finishing s (t.leDone e status detail cl out) :=
  ((h.accrueOn he).leEnd hl hkind hu ((t.job_accrueOn e).trans he)).1.within_settle rfl (.leEnd_finishing (.accrueOn rfl hw))

/-! ### The key table -/

/-- The key tables differ in nothing but the records kept for jobs dispatched before a change. -/
def Keys.SameButOld (a b : Keys) : Prop := a = { b with old := a.old, oldHeld := a.oldHeld }

theorem Calm.keys_settle (h : Calm s) : s.settle.keys.SameButOld s.keys := by
  rw [h.settle]
  have hk : s.sweepKeys.withdrawRequests.keys = s.sweepKeys.keys := (Within.withdrawRequests (k := Machine.parts [.ent]) rfl .refl).same .keys rfl
  rw [hk]
  rfl

theorem State.Bears.keys_endJob (h : t.Bears s r j) (hl : j.live = true) (hkind : j.kind = 0x1) {status detail cl : Nat} {out : Bytes} {key : Option Nat}
    (hu : uncached status = false) : (t.endJob r status detail cl out key).keys.SameButOld t.keys := by
  obtain ⟨k, ⟨hk, -⟩, -⟩ := h.2
  have hb := (h.unload (k := k)).mapJob (f := fun (j : Job) => { j with units := [] }) (fun _ => rfl) fun _ ha => ⟨ha.state, ha.kind, ha.key, ha.tenant⟩
  have hm : Within (Machine.parts [.dict, .dtx, .tx, .waits, .chans, .jobs, .units, .les, .saved, .cmem, .clus]) t
      ((t.unload k).mapJob r fun (j : Job) => { j with units := [] }) := .mapJob rfl (.unload rfl .refl)
  unfold State.endJob
  rw [hk]
  dsimp -zeta only
  extract_lets t₁ t₂ t₃
  have hw₃ : Within (Machine.parts [.dict, .dtx, .tx, .waits, .chans, .jobs, .units, .les, .saved, .cmem, .clus]) t t₃ := .ite (.event rfl hm) hm
  have hb₃ : t₃.Bears s r j := hb.event_if
  have hk₃ : (t₃.finish r status detail out key).keys = t.keys := (Within.finish rfl hw₃).same .keys rfl
  exact hk₃ ▸ (hb₃.finish hl hkind hu).1.keys_settle

end Machine
end Sys2Proof
end

section
/-! A dispatched JOB message whose row runs its operation to its end (R13, R50). -/
namespace Sys2Proof
namespace Machine
variable {s : State} {j : Job} {r : JobRun} {takes : Nat → Bool} {body : State → Job → Ran} {d : Done}

/-- What an operation reaches before its job's end. -/
def working : Parts := parts [.free, .dict, .dtx, .tx, .waits, .units, .les, .saved, .cmem, .clus, .mcache, .ent, .keys]

/-- What a row gives of the end of its operation's run. -/
def Ran.outcome (s : State) (j : Job) (used : Work) : Ran → Out
  | .stay t => .next t
  | .done d => s.conclude j used { d with st := d.st.masksUsed j }

theorem jobRow_runs (h : JobRuns s r.j j) (ht : takes j.opcode = true) : jobRow r takes body s = (body s j).outcome s j r.used := by
  obtain ⟨hj, hrun, hkind, hkernel, hgated, hl1, hl2, hcore, hdry, hmarked, -⟩ := h
  have href := State.ref_of_findJob hj
  unfold jobRow runRow
  rw [hj]
  simp only [hrun, hkind, hkernel, ht, hgated, href, hmarked, hl1, hl2, hcore, hdry, Option.isSome_none, Bool.not_true, ne_eq, not_true_eq_false,
    Bool.false_eq_true, or_self, if_false]
  cases body s j <;> rfl

theorem jobRow_done (h : JobRuns s r.j j) (ht : takes j.opcode = true) (hb : body s j = .done d) :
    jobRow r takes body s = s.conclude j r.used { d with st := d.st.masksUsed j } := by
  rw [jobRow_runs h ht, hb, Ran.outcome]

theorem jobRow_stay {t : State} (h : JobRuns s r.j j) (ht : takes j.opcode = true) (hb : body s j = .stay t) : jobRow r takes body s = .next t := by
  rw [jobRow_runs h ht, hb, Ran.outcome]

theorem JobRuns.live (h : JobRuns s r.j j) : j.live = true := by
  obtain ⟨-, hrun, -⟩ := h
  rw [Job.live, hrun]
  rfl

theorem State.Bears.conclude {t : State} (h : t.Bears s j.ref j) (hl : j.live = true) (hkind : j.kind = 0x1) (hu : uncached d.status = false)
    (hst : d.st = t) (hw : Within finishing s t) {used : Work} : GoesTo (s.conclude j used d) (fun t' =>
      t'.Completes s j.ref d.status (detailOf d.status) d.out (d.key.getD j.key) ∧ Within finishing s t' ∧ t'.keys.SameButOld t.keys) := by
  subst hst
  refine ⟨_, rfl, ?_⟩
  by_cases hs : d.status = 0x26
  · rw [if_pos hs]
    exact ⟨h.endJob hl hkind hu, .endJob_of_calm h hl hkind hu hw, h.keys_endJob hl hkind hu⟩
  · rw [if_neg hs]
    exact ⟨h.charge.endJob hl hkind hu, .endJob_of_calm h.charge hl hkind hu (.charge rfl hw),
      Eq.mp (congrArg _ ((Within.charge (k := Machine.parts [.jobs, .tenants]) rfl .refl).same .keys rfl)) (h.charge.keys_endJob hl hkind hu)⟩

/-- A row that runs its operation to an end whose status is kept completes its job's message. -/
theorem JobRuns.concludes (h : JobRuns s r.j j) (ht : takes j.opcode = true) (hb : body s j = .done d) (hw : Within working s d.st)
    (hu : uncached d.status = false) : GoesTo (jobRow r takes body s) (fun t =>
      t.Completes s j.ref d.status (detailOf d.status) d.out (d.key.getD j.key) ∧ Within finishing s t ∧ t.keys.SameButOld d.st.keys) := by
  rw [jobRow_done h ht hb]
  have hl := h.live
  obtain ⟨hj, -, hkind, -, -, -, -, -, -, -, hcalm⟩ := h
  have hw' : Within working s (d.st.masksUsed j) := .masksUsed rfl hw
  have hbears : (d.st.masksUsed j).Bears s j.ref j := (hcalm.bears (State.ref_of_findJob hj ▸ hj)).of_within hw' rfl
  obtain ⟨t, ht, hc, hf, hv⟩ := hbears.conclude (d := { d with st := d.st.masksUsed j }) (used := r.used) hl hkind hu rfl (Within.refl.into rfl hw')
  exact ⟨t, ht, hc, hf, Eq.mp (congrArg _ ((Within.masksUsed (k := Machine.parts [.free, .les]) rfl .refl).same .keys rfl)) hv⟩

theorem JobRuns.ends (h : JobRuns s r.j j) (ht : takes j.opcode = true) (hb : body s j = .done d) (hw : Within working s d.st)
    (hu : uncached d.status = false) (hk : d.key = none) : Ends (jobRow r takes body s) s j d.status d.out := by
  obtain ⟨t, ho, ⟨-, hdone, hx⟩, hf, -⟩ := h.concludes ht hb hw hu
  rw [hk] at hdone
  exact ⟨t, ho, hdone, hf.jobFrame hx⟩

theorem JobRuns.endsWithKey (h : JobRuns s r.j j) (ht : takes j.opcode = true) {t : State} {out : KeyRec → Bytes} {P : KeyRec → Prop} {i : Nat} {k : KeyRec}
    (hb : body s j = .done ⟨t, 0, out k, some k.handle⟩) (hw : Within working s t) (hi : Map.find t.keys.vol i = some k)
    (hn : Map.find s.keys.vol i = none) (hP : P k) : EndsWithKey (jobRow r takes body s) s j out P := by
  obtain ⟨u, ho, ⟨-, hdone, hx⟩, hf, hv⟩ := h.concludes ht hb hw rfl
  exact ⟨u, ho, i, k, (congrArg (fun k : Keys => Map.find k.vol i) hv).trans hi, hn, hP, hdone, hf.jobFrame hx⟩

end Machine
end Sys2Proof
end

section
/-! Verification: a verdict where the payload has its layout, PARAM_LENGTH where it has not (R148, R149). -/
namespace Sys2Proof
namespace Machine
variable {s t : State} {j : Job} {r : JobRun} {takes : Nat → Bool} {body : State → Job → Ran} {c : Bool} {out : Bytes}

/-- A row guarded by its payload's layout completes with its result, or with PARAM_LENGTH. -/
theorem JobRuns.ends_guardParam (h : JobRuns s r.j j) (ht : takes j.opcode = true) (hb : body s j = guardParam s c (ok t out)) (hw : Within working s t) :
    Ends (jobRow r takes body s) s j (if c then 0 else 0x26) (if c then out else []) := by
  unfold guardParam at hb
  cases c with
  | true => exact h.ends ht hb hw rfl rfl
  | false => exact h.ends ht hb .refl rfl rfl

theorem famOp_iff {f o op : Nat} : famOp f o op = true ↔ opFam op = f ∧ opOp op = o := by
  rw [famOp, Bool.and_eq_true, beq_iff_eq, beq_iff_eq]

/-- The signature verification of a family. -/
theorem JobRuns.verify_ends {f op : Nat} (h : JobRuns s r.j j) (hf : famOp f op j.opcode = true) :
    let b := j.payload
    let p := inlineLen j
    let c := fieldAt b 1 1
    let n := sigLen f (opSet j.opcode)
    let pk := s.pubOf j (slice b 4 p)
    let well := preambleOk f (opOp j.opcode) b && formLen f (opOp j.opcode) b (4 + p + c + n)
    Ends (jobRow r (famOp f op) verifyBody s) s j (if well then 0 else 0x26) (if well then verdict (pubGood j pk &&
      verifies f (opSet j.opcode) (formOf (opOp j.opcode)) (fieldAt b 2 1) pk (slice b (4 + p) c) (b.drop (4 + p + c + n)) (slice b (4 + p + c) n)) else []) := by
  obtain ⟨rfl, -⟩ := famOp_iff.1 hf
  exact h.ends_guardParam hf rfl (.matrixOf rfl .refl)

/-- Settles O21. -/
theorem verificationCompletes : Obligations.VerificationCompletes := by
  unfold Obligations.VerificationCompletes
  intro s r j h
  refine ⟨h.verify_ends, h.verify_ends, h.verify_ends, h.verify_ends, h.verify_ends, h.verify_ends, h.verify_ends,
    fun hf => ?_, fun hf => ?_, fun hf => ?_, fun hf => ?_, fun hf => ?_, fun hf => ?_⟩
  case refine_1 | refine_2 | refine_3 | refine_4 => exact h.ends_guardParam hf rfl .refl
  case refine_5 =>
    refine h.ends_guardParam (t := s) hf ?_ .refl
    rw [hashBody, (famOp_iff.1 hf).2]
    rfl
  case refine_6 => exact h.ends_guardParam hf rfl .refl
end Machine
end Sys2Proof
end

section
/-! Draws of a DRBG that serves, and the making of a volatile key where there is room (R150, R300, R327, R329). -/
namespace Sys2Proof
namespace Machine
variable {s t : State} {j : Job} {r : JobRun} {k : KeyRec} {f : State → KeyRec → Ran}

/-- A draw of one call from a DRBG that serves is made at once. -/
theorem take_of_ready {n : Nat} {g : State → Bytes → Ran} (h : DrbgReady s j.tenant 1) (hn : n ≤ 65536) :
    ∃ u v, s.take j n g = g u v ∧ Within (parts [.ent]) s u := by
  obtain ⟨hstate, hcalls⟩ := h
  have hserve : s.serving (tenantDrbg j.tenant) = true := by rw [State.serving, hstate, decide_eq_true hcalls]; rfl
  unfold State.take
  extract_lets addl left
  by_cases hl : left = 0
  · exact ⟨s, j.drawn, if_pos hl, .refl⟩
  · have hone : Nat.max 1 (ceilDiv left 65536) = 1 := by
      have : ceilDiv left 65536 ≤ 1 := by simp only [ceilDiv, left]; omega
      exact Nat.max_eq_left this
    have hd : ∃ u v, s.drawFrom (tenantDrbg j.tenant) left addl = some (u, v) := by
      rw [State.drawFrom, hone, State.generateCalls, State.generate, if_pos hserve]
      exact ⟨_, _, rfl⟩
    obtain ⟨u, v, hd⟩ := hd
    refine ⟨u, j.drawn ++ v, ?_, .drawFrom rfl .refl hd⟩
    rw [if_neg hl, hd]

theorem Map.find_firstFree_of_above {α : Type} : ∀ (m : Map α) (b : Nat), Map.above b m = true →
    Map.find m (firstFree m (b + 1)) = none ∧ b < firstFree m (b + 1)
  | [], b, _ => ⟨rfl, Nat.lt_succ_self b⟩
  | (k, v) :: m, b, h => by
    obtain ⟨hb, hk⟩ := (Bool.and_eq_true _ _).mp h
    have hb := of_decide_eq_true hb
    rw [firstFree]
    split
    · next he =>
      obtain ⟨hf, hlt⟩ := Map.find_firstFree_of_above m k hk
      rw [← he, Map.find, if_neg (Nat.ne_of_gt hlt)]
      exact ⟨hf, Nat.lt_trans hb hlt⟩
    · next hne =>
      rw [Map.find, if_neg (Ne.symm hne)]
      exact ⟨Map.find_none_of_above m hb hk, Nat.lt_succ_self b⟩

/-- The lowest free slot of a table is free. -/
theorem Map.find_firstFree {α : Type} (m : Map α) (h : Map.wf m = true) : Map.find m (firstFree m 0) = none := by
  cases m with
  | nil => rfl
  | cons p m =>
    obtain ⟨k, v⟩ := p
    rw [firstFree]
    split
    · next he =>
      obtain ⟨hf, hlt⟩ := Map.find_firstFree_of_above m k h
      rw [← he, Map.find, if_neg (Nat.ne_of_gt hlt)]
      exact hf
    · next hne =>
      rw [Map.find, if_neg (Ne.symm hne)]
      exact Map.find_none_of_above m (Nat.zero_le k) h

/-- The key that is made of a record in a state: its handle in the lowest free slot, and its shares. -/
def State.madeKey (s : State) (j : Job) (k : KeyRec) : KeyRec :=
  s.split { k with handle := keyHandle 0 j.tenant (s.volGen (firstFree s.keys.vol 0)) (firstFree s.keys.vol 0) }

/-- The state with it. -/
def State.keyMade (s : State) (j : Job) (k : KeyRec) : State :=
  { s.splitDone with keys := { s.keys with vol := Map.put s.keys.vol (firstFree s.keys.vol 0) (s.madeKey j k) } }

theorem State.makeFit_of_fits {words rsa mce n : Nat} (h : s.materialFits words rsa mce = true) : s.makeFit words rsa mce n = some s := by
  cases n with
  | zero => exact if_pos h
  | succ n => exact if_pos h

/-- Where there is room the key is made. -/
theorem makeKey_of_room (h : KeyRoom s j k.words) (hp : s.poolRoom j.tenant k.poolBlocks = true) :
    s.makeKey j k f = f (s.keyMade j k) (s.madeKey j k) := by
  obtain ⟨-, hslot, hquota, hfits⟩ := h
  unfold State.makeKey
  rw [if_neg, State.makeFit_of_fits hfits]
  · rfl
  · rw [hp]
    rintro (hslots | hquotas | hpool)
    · exact absurd hslot (Nat.not_lt.2 hslots)
    · rw [Bool.and_eq_true, Bool.not_eq_true', decide_eq_true_eq] at hquotas
      rw [hquotas.1, Bool.false_or, decide_eq_true_eq] at hquota
      exact absurd hquota (Nat.not_lt.2 hquotas.2)
    · exact absurd hpool (by decide)

theorem KeyRoom.of_within_ent {words : Nat} (h : KeyRoom s j words) (hw : Within (parts [.ent]) s t) : KeyRoom t j words := by
  have he : t = { s with ent := t.ent } := hw.eq_keepBut
  rw [he]
  exact h

theorem Within.keyMade {l : Parts} (hl : covers (parts [.free, .keys]) l = true) (h : Within l s t) : Within l s (t.keyMade j k) := h.into hl <| by
  unfold State.keyMade
  exact .update rfl (.splitDone rfl .refl) (.ofVol (Map.wf_put _ _ _))

/-- An operation that ends by making a key completes with it. -/
theorem JobRuns.endsWithKeyMade {takes : Nat → Bool} {body : State → Job → Ran} {out : KeyRec → Bytes} {P : KeyRec → Prop} (h : JobRuns s r.j j)
    (ht : takes j.opcode = true) (hb : body s j = t.makeKey j k (fun u k => okKey u (out k) k.handle)) (hw : Within (parts [.ent]) s t)
    (hroom : KeyRoom s j k.words) (hp : s.poolRoom j.tenant k.poolBlocks = true) (hP : P (t.madeKey j k)) :
    EndsWithKey (jobRow r takes body s) s j out P := by
  have hkeys : t.keys = s.keys := hw.same .keys rfl
  have ht' : t = { s with ent := t.ent } := hw.eq_keepBut
  have hpool : t.poolRoom j.tenant k.poolBlocks = true := by rw [ht']; exact hp
  rw [makeKey_of_room (hroom.of_within_ent hw) hpool] at hb
  refine h.endsWithKey ht hb (.keyMade rfl (Within.refl.into rfl hw)) (Map.find_put_self _ _ _) ?_ hP
  rw [hkeys]
  exact Map.find_firstFree _ hroom.1

end Machine
end Sys2Proof
end

section
/-! Key management jobs (R189, R190). -/
namespace Sys2Proof
namespace Machine
variable {s t : State} {j : Job} {r : JobRun}

theorem privType_of_ge {fam : Nat} (h : 10 ≤ fam) : privType fam = 0 := by
  unfold privType
  split <;> omega

/-- The types of Classic McEliece keys are its family's alone. -/
theorem eq_six_of_pubType {fam : Nat} (h : pubType fam = 0x1A ∨ pubType fam = 0x1B) : fam = 6 := by
  rcases Nat.lt_or_ge fam 10 with hf | hf
  · exact (by decide : ∀ f < 10, (pubType f = 0x1A ∨ pubType f = 0x1B) → f = 6) fam hf h
  · have h0 : pubType fam = 0 := by
      rw [pubType, if_neg (by omega), if_pos (privType_of_ge hf)]
    exact absurd h (by rw [h0]; decide)

/-- The record that GENERATE_SYMMETRIC makes of its payload and a draw. -/
def generatedKey (j : Job) (v : Bytes) : KeyRec :=
  withAttrs (openKey (fieldAt j.payload 0 1) 1 0 [] (if fieldAt j.payload 0 1 = 0x03 then kdfSecret v else v)) j.payload

theorem genSymmetric_ends (h : JobRuns s r.j j) (ho : j.opcode = 0x1010) (ha : attrOk j.tenant j.payload = true) (ht : fieldAt j.payload 0 1 ≤ 3)
    (hd : DrbgReady s j.tenant 1) (hroom : KeyRoom s j (materialWords (fieldAt j.payload 0 1) (fieldAt j.payload 1 1) (fieldAt j.payload 2 1) 0))
    {P : KeyRec → Prop} (hP : ∀ (u : State) v, P (u.madeKey j (generatedKey j v))) :
    EndsWithKey (exec (.genSymmetric r) s) s j (fun k => beBytes 48 k.digest) P := by
  have hlen : genLen (fieldAt j.payload 0 1) ≤ 65536 := by
    unfold genLen
    split
    · decide
    · split
      · decide
      · omega
  obtain ⟨u, v, hu, hw⟩ := take_of_ready (g := fun t v => t.makeKey j (generatedKey j v) (fun t k => okKey t (beBytes 48 k.digest) k.handle)) hd hlen
  have hb : genBody s j = _ := (if_pos (by rw [ha, decide_eq_true ht]; rfl)).trans hu
  refine h.endsWithKeyMade (takes := fun op => op == 0x1010) (by rw [ho]; rfl) hb hw hroom ?_ (hP u v)
  have hsmall : ¬ (fieldAt j.payload 0 1 = 0x1A ∨ fieldAt j.payload 0 1 = 0x1B) := by omega
  rw [State.poolRoom, Bool.or_eq_true, beq_iff_eq]
  exact .inl (if_neg hsmall)

/-- The record that IMPORT_PUBLIC makes of its payload. -/
def importedKey (j : Job) : KeyRec :=
  withAttrs (openKey (pubType (fieldAt j.payload 0 1)) (fieldAt j.payload 1 1) 0 (j.payload.drop 44) []) (slice j.payload 4 40)

/-- Its public key has its family's length and passes its standard's check. -/
def importGood (j : Job) : Bool :=
  decide ((j.payload.drop 44).length = (if fieldAt j.payload 0 1 = 7 then
    statefulPubLen (fieldAt j.payload 1 1) (headTypes (fieldAt j.payload 1 1) (j.payload.drop 44)).1 else pubLen (fieldAt j.payload 0 1) (fieldAt j.payload 1 1))) &&
    publicOk (fieldAt j.payload 0 1) (fieldAt j.payload 1 1) (j.payload.drop 44)

theorem importBody_eq (hf : pubType (fieldAt j.payload 0 1) ≠ 0) (hset : setExists (fieldAt j.payload 0 1) (fieldAt j.payload 1 1) = true)
    (h2 : fieldAt j.payload 2 2 = 0) (ha : attrOk j.tenant (slice j.payload 4 40) = true)
    (ht : fieldAt (slice j.payload 4 40) 0 1 = pubType (fieldAt j.payload 0 1)) (hs : fieldAt (slice j.payload 4 40) 1 1 = fieldAt j.payload 1 1) :
    importBody s j = if importGood j then s.makeKey j (importedKey j) (fun t k => okKey t (beBytes 48 k.digest) k.handle) else fails s 0x30 := by
  have hg : (pubType (fieldAt j.payload 0 1) != 0 && setExists (fieldAt j.payload 0 1) (fieldAt j.payload 1 1) && fieldAt j.payload 2 2 == 0 &&
      attrOk j.tenant (slice j.payload 4 40) && fieldAt (slice j.payload 4 40) 0 1 == pubType (fieldAt j.payload 0 1) &&
      fieldAt (slice j.payload 4 40) 1 1 == fieldAt j.payload 1 1) = true := by
    simp [hf, hset, h2, ha, ht, hs]
  refine (if_pos hg).trans ?_
  by_cases hgood : importGood j = true
  · rw [if_pos hgood]
    rw [importGood, Bool.and_eq_true, decide_eq_true_eq] at hgood
    refine if_neg (not_or.2 ⟨not_not.2 hgood.1, ?_⟩)
    rw [hgood.2]
    decide
  · rw [if_neg hgood]
    refine if_pos ?_
    by_contra hc
    rw [not_or, not_not, Bool.not_eq_true, Bool.not_eq_false'] at hc
    exact hgood (by rw [importGood, Bool.and_eq_true, decide_eq_true_eq]; exact hc)

theorem importedKey_poolRoom (ht : fieldAt (slice j.payload 4 40) 0 1 = pubType (fieldAt j.payload 0 1))
    (hp : fieldAt j.payload 0 1 ≠ 6 ∨ s.poolRoom j.tenant (ceilDiv (j.payload.drop 44).length 1152) = true) :
    s.poolRoom j.tenant (importedKey j).poolBlocks = true := by
  by_cases hl : (importedKey j).typ = 0x1A ∨ (importedKey j).typ = 0x1B
  · have hblocks : (importedKey j).poolBlocks = ceilDiv (j.payload.drop 44).length 1152 := if_pos hl
    rw [hblocks]
    exact hp.resolve_left fun h6 => h6 (eq_six_of_pubType (ht ▸ hl))
  · have hblocks : (importedKey j).poolBlocks = 0 := if_neg hl
    rw [hblocks, State.poolRoom]
    rfl

theorem JobRuns.destroy_ends {k : KeyRec} (h : JobRuns s r.j j) (ho : j.opcode = 0x1013) (hk : s.key j.key = some k) (hw : Map.wf s.keys.vol = true)
    (ha : s.jobs.any (fun x => x.live && x.key == j.key && decide (x.order < j.order)) = false) :
    GoesTo (exec (.destroy r) s) (fun t => JobDone t j.ref 0 0 [] j.key ∧ JobFrame s t j.ref ∧ Map.find t.keys.vol (keySlot k.handle) = none ∧
      t.volGen (keySlot k.handle) = nextGen (s.volGen (keySlot k.handle))) := by
  have hb : destroyBody s j = ok (s.dropVolatile (keySlot k.handle)) [] := by
    rw [destroyBody, hk]
    exact if_neg (ne_true_of_eq_false ha)
  obtain ⟨t, he, ⟨-, hdone, hx⟩, hf, hkeys⟩ := h.concludes (takes := fun op => op == 0x1013) (by rw [ho]; rfl) hb (.dropVolatile rfl .refl) rfl
  refine ⟨t, he, hdone, hf.jobFrame hx, ?_, ?_⟩
  · exact (congrArg (fun x : Keys => Map.find x.vol (keySlot k.handle)) hkeys).trans (Map.find_erase_self _ _ hw)
  · exact (congrArg (fun x : Keys => Map.getD x.volGen (keySlot k.handle) 1) hkeys).trans (Map.getD_put_self _ _ _ _)

/-- Settles O24. -/
theorem keyManagementCompletes : Obligations.KeyManagementCompletes := by
  unfold Obligations.KeyManagementCompletes
  intro s r j h
  refine ⟨fun ho ha ht hd hroom => ?_, fun ho hf hset h2 ha ht hs hroom hp => ?_, fun k ho hk => ?_, fun k ho hk hw => ⟨h.destroy_ends ho hk hw, fun ha => ?_⟩⟩
  · exact genSymmetric_ends h ho ha ht hd hroom fun u v => ⟨rfl, rfl, rfl, rfl, rfl, rfl, rfl, rfl⟩
  · have hb := importBody_eq (s := s) hf hset h2 ha ht hs
    have ht' : (fun op => op == 0x1011) j.opcode = true := by rw [ho]; rfl
    refine iteInduction (motive := fun p => p) (c := importGood j = true) (fun hgood => ?_) fun hgood => ?_
    · exact h.endsWithKeyMade (takes := fun op => op == 0x1011) ht' (hb.trans (if_pos hgood)) .refl hroom (importedKey_poolRoom ht hp) ⟨⟨rfl, rfl, rfl, rfl, rfl, rfl, rfl, rfl⟩, rfl⟩
    · exact h.ends (takes := fun op => op == 0x1011) ht' (hb.trans (if_neg hgood)) .refl rfl rfl
  · have ht' : (fun op => op == 0x1012) j.opcode = true := by rw [ho]; rfl
    have hb : exportBody s j = if hasPublic k.typ then ok s (k.pub ++ beBytes 48 k.digest) else fails s 0x30 := by rw [exportBody, hk]
    split
    · next hpub => exact h.ends (takes := fun op => op == 0x1012) ht' (hb.trans (if_pos hpub)) .refl rfl rfl
    · next hpub => exact h.ends (takes := fun op => op == 0x1012) ht' (hb.trans (if_neg hpub)) .refl rfl rfl
  · exact jobRow_stay h (takes := fun op => op == 0x1013) (by rw [ho]; rfl) (by rw [destroyBody, hk]; exact if_pos ha)

end Machine
end Sys2Proof
end

section
/-! Watchdogs, and the counts of the faults that end a job at its engine (R75, R207, R210, R212, R220, R231). -/
namespace Sys2Proof
namespace Machine
variable {s t u : State} {r : JobRef} {j : Job} {e status detail cl : Nat} {out : Bytes}

theorem when_of_true {c : Bool} (h : c = true) : when c s t = .next t := by
  rw [when, if_pos h]

theorem when_of_false {c : Bool} (h : c = false) : when c s t = .next s := by
  rw [when, h]
  rfl

section
variable (he : (s.le e).job = some r) (hj : s.findJob r = some j) (hrun : j.state = .running) (hkind : j.kind = 0x1) (hcalm : Calm s)
include he hj hrun hkind hcalm

/-- An engine's end of its job is a completion of the job's message, and nothing else of the block's. -/
theorem leDone_completes (hu : uncached status = false) : GoesTo (.next (s.leDone e status detail cl out)) fun t =>
    JobDone t r status detail out j.key ∧ JobFrame s t r := by
  have hl : j.live = true := by rw [Job.live, hrun]; rfl
  have hb := hcalm.bears hj
  obtain ⟨-, hdone, hx⟩ := hb.leDone hl hkind hu he (detail := detail) (cl := cl) (out := out)
  exact ⟨_, rfl, hdone, (Within.leDone_of_calm hb hl hkind hu he .refl).jobFrame hx⟩

theorem waitWatchdog_ends (hg : s.clk.gated = false) {c : Nat} (hc : (s.le e).waiting = some c) (h3 : c ≠ 3) (h7 : c ≠ 7) (hw : 65536 ≤ (s.le e).waited) :
    GoesTo (exec (.waitWatchdog e) s) fun t => JobDone t r 0x54 0 [] j.key ∧ JobFrame s t r := by
  have hex : exec (.waitWatchdog e) s = .next (s.leDone e 0x54 0 4 []) := when_of_true (by
    simp [hg, he, hc, h3, h7, hw])
  rw [hex]
  exact leDone_completes he hj hrun hkind hcalm rfl

theorem entropyStall_ends (hg : s.clk.gated = false) {c : Nat} (hc : (s.le e).waiting = some c) (h37 : c = 3 ∨ c = 7) (hw : 2500 ≤ (s.le e).waited) :
    GoesTo (exec (.entropyStallTimeout e) s) fun t => JobDone t r 0x50 0 [] j.key ∧ JobFrame s t r := by
  have hex : exec (.entropyStallTimeout e) s = .next (s.leDone e 0x50 0 0 []) := when_of_true (by
    simp [hg, he, hc, h37, hw])
  rw [hex]
  exact leDone_completes he hj hrun hkind hcalm rfl

end

theorem waitWatchdog_waits (h : (s.le e).waited < 65536) : exec (.waitWatchdog e) s = .next s :=
  when_of_false (by simp [Nat.not_le.2 h])

theorem entropyStall_waits (h : (s.le e).waited < 2500) : exec (.entropyStallTimeout e) s = .next s :=
  when_of_false (by simp [Nat.not_le.2 h])

/-! ### The entries that count faults -/

theorem State.event_dict_congr (h : t.dict = u.dict) (i a f : Nat) : (t.event i a f).dict = (u.event i a f).dict := by
  have hr : t.rd i a = u.rd i a := State.rd_congr h i a
  simp only [State.event, State.wr, h, hr]

theorem State.dict_settle_of_calm (h : Calm s) : s.settle.dict = s.dict :=
  (h.within_settle (l := Machine.parts [.keys, .ent]) rfl .refl).same .dict rfl

theorem State.countFault_dict (hf : isFaultStatus status = true) (hkind : j.kind = 0x1) :
    (s.countFault j status).dict = (s.event (0x1800 + j.tenant) 0x32 (faultFlag status)).dict := by
  unfold State.countFault
  rw [if_pos (by rw [hf, hkind]; rfl)]
  exact (Within.notify (k := Machine.parts [.tx, .chans]) rfl .refl).same .dict rfl

/-- A fault that ends a job at its engine counts in the cluster's entry and the tenant's, and the end of the job changes no other entry. -/
theorem State.Bears.dict_leDone (h : t.Bears s r j) (hl : j.live = true) (hkind : j.kind = 0x1) (hu : uncached status = false) (he : (t.le e).job = some r)
    (hf : isFaultStatus status = true) : (t.leDone e status detail cl out).dict =
      ((t.event (0x2000 + clusterOf e) 7 cl).event (0x1800 + j.tenant) 0x32 (faultFlag status)).dict := by
  have ha := h.accrueOn he
  have he' : ((t.accrueOn e).le e).job = some r := (t.job_accrueOn e).trans he
  have hd : (t.accrueOn e).dict = t.dict := (Within.accrueOn (k := Machine.parts [.free, .jobs, .tenants, .les]) rfl .refl).same .dict rfl
  rw [State.leDone, State.dict_settle_of_calm (ha.leEnd hl hkind hu he').1]
  generalize t.accrueOn e = v at ha he' hd
  obtain ⟨-, k, ⟨hk, -⟩, hal⟩ := ha
  have hc : Within (Machine.parts [.units, .les, .cmem, .clus]) v ((v.clearLe e).setEngine e ((v.clearLe e).engine e).leave) :=
    .setEngine rfl (.clearLe rfl .refl)
  unfold State.leEnd
  rw [he']
  dsimp only
  rw [if_pos ⟨by rw [hk]; rfl, hf⟩]
  generalize (v.clearLe e).setEngine e ((v.clearLe e).engine e).leave = x at hc
  have hkx : (x.event (0x2000 + clusterOf e) 7 cl).findJob r = some k := (State.findJob_congr (hc.same .jobs rfl) r).trans hk
  rw [State.finish_cached hkx (hal.live.trans hl) hu, State.countFault_dict hf (hal.kind.trans hkind), hal.tenant]
  refine State.event_dict_congr (Eq.trans ?_ (State.event_dict_congr ((hc.same .dict rfl).trans hd) _ _ _)) _ _ _
  exact (Within.mapJob (k := Machine.parts [.jobs, .units, .clus]) rfl (.freeEngines rfl .refl)).same .dict rfl

theorem State.rd_two_events (hw : Map.wf s.dict = true) {i i' a a' f f' : Nat} (ha : a < 256) (ha' : a' < 256) (hne : a ≠ a') :
    ((s.event i a f).event i' a' f').rd i' a' = eventAdd (s.rd i' a') f' ∧ ((s.event i a f).event i' a' f').rd i a = eventAdd (s.rd i a) f := by
  have h1 : (s.event i a f).rd i a = eventAdd (s.rd i a) f := by rw [State.rd_event, State.rd_wr_self hw]
  have h2 : (s.event i a f).rd i' a' = s.rd i' a' := by rw [State.rd_event, State.rd_wr_of_sub _ ha ha' (.inr hne.symm)]
  constructor
  · rw [State.rd_event, State.rd_wr_self (State.wf_event hw _ _ _), h2]
  · rw [State.rd_event, State.rd_wr_of_sub _ ha' ha (.inr hne), h1]

/-- A row of the event log changes no entry but its own. -/
theorem State.rd_logRow {kind unitType cluster unit tenant record i a : Nat} (ha : a < 256) (hi : i ≠ 0x4800) :
    (s.logRow kind unitType cluster unit tenant status record).rd i a = s.rd i a := by
  unfold State.logRow
  extract_lets x u
  split
  · rfl
  · exact State.rd_wr_of_sub (s := { s with flt := u }) _ (by decide) ha (.inl hi)

theorem issue_window {w : Mw} {need : Option Nat} {defined secretOnly stream : Bool} {body : State → Le → Issue} {d rec : Nat} (h : Issues s w need)
    (hd : defined = true) (hs : secretOnly = true → w.secret = true) (hb : stream = true)
    (hg : body (s.setLe w.le (issuedLe s w)) (issuedLe s w) = .window t d rec) :
    issue s w defined secretOnly need stream body = .next (t.windowFault w.le d rec) := by
  rw [issue_eq h hd hs hb, hg]

section
variable {w : Mw} (h : Issues s w none) (he : (s.le w.le).job = some r) (hj : s.findJob r = some j) (hrun : j.state = .running) (hkind : j.kind = 0x1)
  (hcalm : Calm s) (hd : Map.wf s.dict = true) (hsp : w.sp < 3)
include h he hj hrun hkind hcalm hd hsp

theorem ldc_taint_counts (ha : (aIn s w w.src2).sec = true) : GoesTo (exec (.ldc w) s) fun t =>
    t.rd (0x1800 + j.tenant) 0x32 = eventAdd (s.rd (0x1800 + j.tenant) 0x32) 4 ∧
      t.rd (0x2000 + w.le / 4) 7 = eventAdd (s.rd (0x2000 + w.le / 4) 7) 1 := by
  have hl : j.live = true := by rw [Job.live, hrun]; rfl
  have hdict := (hcalm.bears hj).dict_leDone (status := 0x53) (detail := 0) (cl := 1) (out := []) hl hkind rfl he rfl
  obtain ⟨h1, h2⟩ := State.rd_two_events (i := 0x2000 + clusterOf w.le) (i' := 0x1800 + j.tenant) (a := 7) (a' := 0x32) (f := 1) (f' := faultFlag 0x53)
    hd (by decide) (by decide) (by decide)
  rw [exec_ldc, execLdc, loadOp]
  refine ⟨_, issue_taint h (decide_eq_true hsp) (fun hc => nomatch hc) rfl (if_pos ha), ?_, ?_⟩
  · exact (State.rd_congr hdict _ _).trans h1
  · exact (State.rd_congr hdict _ _).trans h2

theorem ldc_window_counts (ha : (aIn s w w.src2).sec = false)
    (hc : (s.le w.le).windowCause [1, 2, 5] (aIn s w w.src2).val (16 * spanOf w.sp) ≠ 0) (hle : w.le < 64) (hten : j.tenant < 64) :
    GoesTo (exec (.ldc w) s) fun t => t.rd (0x1800 + j.tenant) 0x32 = eventAdd (s.rd (0x1800 + j.tenant) 0x32) 2 ∧
      t.rd (0x2000 + w.le / 4) 7 = eventAdd (s.rd (0x2000 + w.le / 4) 7) 2 := by
  have hl : j.live = true := by rw [Job.live, hrun]; rfl
  have hb : (s.setLe w.le (issuedLe s w)).Bears s r j := (hcalm.bears hj).of_within (Within.setLe (k := Machine.parts [.les]) rfl .refl) rfl
  have he' : ((s.setLe w.le (issuedLe s w)).le w.le).job = some r := by rw [State.le_setLe_self]; exact he
  have hdict := hb.dict_leDone (status := 0x52) (detail := 0xFF) (cl := 2) (out := []) hl hkind rfl he' rfl
  obtain ⟨h1, h2⟩ := State.rd_two_events (s := s.setLe w.le (issuedLe s w)) (i := 0x2000 + clusterOf w.le) (i' := 0x1800 + j.tenant) (a := 7) (a' := 0x32)
    (f := 2) (f' := faultFlag 0x52) hd (by decide) (by decide) (by decide)
  have hrow := fun i a (ha : a < 256) (hi : i ≠ 0x4800) => State.rd_logRow (s := (s.setLe w.le (issuedLe s w)).leDone w.le 0x52 0xFF 2 [])
    (kind := 2) (unitType := 1) (cluster := clusterOf w.le) (unit := w.le % 4) (tenant := (s.setLe w.le (issuedLe s w)).leTenant w.le) (status := 0x52)
    (record := faultRecord ((s.le w.le).windowCause [1, 2, 5] (aIn s w w.src2).val (16 * spanOf w.sp)) false 0 w.le (aIn s w w.src2).val) ha hi
  rw [exec_ldc, execLdc, loadOp]
  refine ⟨_, issue_window h (decide_eq_true hsp) (fun hc => nomatch hc) rfl ((if_neg (ne_true_of_eq_false ha)).trans (if_pos hc)), ?_, ?_⟩
  · exact (hrow _ _ (by decide) (by omega)).trans ((State.rd_congr hdict _ _).trans h1)
  · exact (hrow _ _ (by decide) (by omega)).trans ((State.rd_congr hdict _ _).trans h2)

end

/-- Settles O17. -/
theorem engineStopsAreCounted : Obligations.EngineStopsAreCounted := by
  unfold Obligations.EngineStopsAreCounted
  refine ⟨fun s e r j he hj hrun hkind hg hcalm => ⟨fun c hc => ⟨?_, ?_⟩, waitWatchdog_waits, entropyStall_waits⟩,
    fun s w r j h he hj hrun hkind hcalm hd hten hle hsp => ⟨?_, ?_⟩⟩
  · exact waitWatchdog_ends he hj hrun hkind hcalm hg hc
  · exact entropyStall_ends he hj hrun hkind hcalm hg hc
  · exact ldc_taint_counts h he hj hrun hkind hcalm hd hsp
  · exact fun ha hc => ldc_window_counts h he hj hrun hkind hcalm hd hsp ha hc hle hten

end Machine
end Sys2Proof
end

section
/-! Which entries of the dictionary an operation can write: the indices of their keys. -/
namespace Sys2Proof
namespace Machine
variable {s t u : State} {P Q : Nat → Prop}

/-- From `s` to `t` the dictionary keeps its form, and only entries with an index of `P` are written. -/
structure Touches (P : Nat → Prop) (s t : State) : Prop where
  wf : Map.wf s.dict = true → Map.wf t.dict = true
  rd : ∀ i a, a < 256 → ¬ P i → t.rd i a = s.rd i a

namespace Touches

theorem of_dict (h : t.dict = s.dict) : Touches P s t := ⟨fun hw => h ▸ hw, fun i a _ _ => State.rd_congr h i a⟩

theorem refl : Touches P s s := of_dict rfl

theorem trans (h : Touches P s t) (g : Touches P t u) : Touches P s u :=
  ⟨fun hw => g.wf (h.wf hw), fun i a ha hi => (g.rd i a ha hi).trans (h.rd i a ha hi)⟩

theorem mono (h : Touches P s t) (hPQ : ∀ i, P i → Q i) : Touches Q s t := ⟨h.wf, fun i a ha hi => h.rd i a ha fun hp => hi (hPQ i hp)⟩

/-- What leaves the dictionary adds nothing. -/
theorem dict (h : Touches P s t) (hd : u.dict = t.dict) : Touches P s u := h.trans (of_dict hd)

theorem within {k : Parts} (h : Touches P s t) (hw : Within k t u) (hk : inParts k .dict = false) : Touches P s u := h.dict (hw.same .dict hk)

theorem wr {i a v : Nat} (h : Touches P s t) (hi : P i) (ha : a < 256) : Touches P s (t.wr i a v) :=
  h.trans ⟨fun hw => State.wf_wr hw _ _ _, fun _ _ hb hj => State.rd_wr_of_sub v ha hb (.inl fun hij => hj (hij ▸ hi))⟩

theorem event {i a f : Nat} (h : Touches P s t) (hi : P i) (ha : a < 256) : Touches P s (t.event i a f) :=
  (h.wr (v := eventAdd (t.rd i a) f) hi ha).dict rfl

theorem inc {i a n : Nat} (h : Touches P s t) (hi : P i) (ha : a < 256) : Touches P s (t.inc i a n) := h.wr hi ha

theorem ite {p : Prop} [Decidable p] {a b : State} (ha : Touches P s a) (hb : Touches P s b) : Touches P s (if p then a else b) := by
  split
  · exact ha
  · exact hb

theorem foldl {α : Type} {l : List α} {f : State → α → State} (h : Touches P s t) (hf : ∀ v x, Touches P s v → Touches P s (f v x)) :
    Touches P s (l.foldl f t) :=
  List.foldlRecOn l f h fun v hv x _ => hf v x hv

end Touches

/-! ### Benchmarks -/

theorem Touches.append {b : Bench} (h : Touches P s t) (hP : P 0x3800) : Touches P s (t.append b) := by
  unfold State.append
  extract_lets x y r v w
  have hv : Touches P s v := h.dict rfl
  have hw : Touches P s w := .ite ((hv.within (Within.enqueueReserve (k := parts [.rwork]) rfl .refl) rfl).event hP (by decide)) hv
  exact .ite (hw.event hP (by decide)) hw

theorem Touches.bench {kind verdict channel region flags digest sigSlots : Nat} (h : Touches P s t) (hP : P 0x3800) :
    Touches P s (t.bench kind verdict channel region flags digest sigSlots) := by
  unfold State.bench
  exact .ite (h.append hP) (h.dict rfl)

theorem Touches.checkpoint {reasons : Nat} (h : Touches P s t) (hP : P 0x3800) : Touches P s (t.checkpoint reasons) := by
  unfold State.checkpoint
  exact .ite (h.dict rfl) (h.bench hP)

theorem Touches.record {kind verdict channel region flags digest : Nat} (h : Touches P s t) (hP : P 0x3800) :
    Touches P s (t.record kind verdict channel region flags digest) := by
  unfold State.record
  exact .ite ((h.bench hP).checkpoint hP) (h.bench hP)

/-! ### Update windows and gates -/

theorem Touches.closeWindow {w event : Nat} (h : Touches P s t) (hP : P 0x3800) (hW : P 0x3200) (hw : w < 8) : Touches P s (t.closeWindow w event) := by
  unfold State.closeWindow
  refine .ite ((h.record hP).wr hW (by omega)) h

theorem Touches.leavePass {n : Nat} (h : Touches P s t) (hP : P 0x3800) (hW : P 0x3200) : Touches P s (t.leavePass n) := by
  unfold State.leavePass
  refine List.foldlRecOn (motive := fun v => Touches P s v) _ _ h fun v hv w hw => .ite (hv.closeWindow hP hW (List.mem_range.1 hw)) hv

theorem Touches.toGated {n : Nat} (h : Touches P s t) (hP : P 0x3800) (hW : P 0x3200) (hn : P (0x3000 + n)) : Touches P s (t.toGated n) := by
  unfold State.toGated
  extract_lets x y
  have hx : Touches P s x := .ite (h.leavePass hP hW) h
  have hy : Touches P s y := (hx.wr hn (by decide)).wr hn (by decide)
  exact hy.within (Within.watchLines (k := Machine.parts [.flash, .gate]) rfl (.setFlash rfl .refl)) rfl

/-- A channel that goes to GATED is in no mode that passes. -/
theorem State.chanMode_toGated (hw : Map.wf s.dict = true) {n : Nat} (hn : n ≠ 0) : (s.toGated n).chanMode n = 0 := by
  rw [State.chanMode, if_neg hn]
  unfold State.toGated
  extract_lets x y
  have hx : Touches (fun i => i = 0x3800 ∨ i = 0x3200) s x := .ite (Touches.refl.leavePass (.inl rfl) (.inr rfl)) .refl
  have hy : y.rd (0x3000 + n) 2 = 0 := by
    rw [State.rd_wr_of_sub _ (by decide) (by decide) (.inr (by decide)), State.rd_wr_self (hx.wf hw)]
  refine (State.rd_congr ?_ _ _).trans hy
  exact (Within.watchLines (k := Machine.parts [.flash, .gate]) rfl (.setFlash rfl .refl)).same .dict rfl

theorem State.chanMode_gateAll (hw : Map.wf s.dict = true) {n : Nat} (h1 : 1 ≤ n) (h31 : n ≤ 31) : s.gateAll.chanMode n = 0 := by
  have hfold : ∀ m, m ≤ 31 → Map.wf ((List.range m).foldl (fun (u : State) i => u.toGated (i + 1)) s).dict = true ∧
      ∀ n, 1 ≤ n → n ≤ m → ((List.range m).foldl (fun (u : State) i => u.toGated (i + 1)) s).chanMode n = 0 := by
    intro m
    induction m with
    | zero => exact fun _ => ⟨hw, fun n h1 h0 => absurd h1 (by omega)⟩
    | succ m ih =>
      intro hm
      obtain ⟨hwm, hmode⟩ := ih (by omega)
      rw [List.range_succ, List.foldl_append, List.foldl_cons, List.foldl_nil]
      generalize (List.range m).foldl (fun (u : State) i => u.toGated (i + 1)) s = v at hwm hmode
      have ht : Touches (fun i => i = 0x3800 ∨ i = 0x3200 ∨ i = 0x3000 + (m + 1)) v (v.toGated (m + 1)) :=
        Touches.refl.toGated (.inl rfl) (.inr (.inl rfl)) (.inr (.inr rfl))
      refine ⟨ht.wf hwm, fun n h1 hn => ?_⟩
      rcases Nat.lt_or_ge m n with hlt | hge
      · rw [show n = m + 1 by omega]
        exact State.chanMode_toGated hwm (by omega)
      · have hne : n ≠ 0 := by omega
        have hold := hmode n h1 hge
        rw [State.chanMode, if_neg hne] at hold ⊢
        rw [ht.rd _ _ (by decide) (by omega), hold]
  exact (hfold 31 le_rfl).2 n h1 h31

end Machine
end Sys2Proof
end

section
/-! The test access port: its instructions and LC_CMD (R394-R397, R400, R401). -/
namespace Sys2Proof
namespace Machine
variable {s t u : State}

/-! ### Bits that are cleared -/

theorem setBit_false_eq (v i : Nat) : setBit v i false = v % 2 ^ i + 2 ^ (i + 1) * (v / 2 ^ (i + 1)) := by
  have h1 := Nat.div_add_mod v (2 ^ (i + 1))
  have h2 : v % 2 ^ (i + 1) = v % 2 ^ i + 2 ^ i * (v / 2 ^ i % 2) := by rw [pow_succ, Nat.mod_mul]
  rw [setBit, if_neg (by decide), Nat.add_zero]
  have h3 : v / 2 ^ i % 2 * 2 ^ i = 2 ^ i * (v / 2 ^ i % 2) := Nat.mul_comm _ _
  omega

theorem bitAt_setBit_false (v i j : Nat) : bitAt (setBit v i false) j = (bitAt v j && decide (i ≠ j)) := by
  rw [bitAt_eq_testBit, bitAt_eq_testBit, setBit_false_eq, Nat.add_comm]
  rcases lt_trichotomy j i with h | rfl | h
  · rw [Nat.testBit_two_pow_mul_add _ ((Nat.mod_lt _ (by positivity)).trans (Nat.pow_lt_pow_right (by decide) (by omega))), if_pos (by omega),
      Nat.testBit_mod_two_pow]
    simp [h, h.ne']
  · rw [Nat.testBit_two_pow_mul_add _ ((Nat.mod_lt _ (by positivity)).trans (Nat.pow_lt_pow_right (by decide) (by omega))), if_pos (by omega),
      Nat.testBit_mod_two_pow]
    simp
  · rw [Nat.testBit_two_pow_mul_add _ ((Nat.mod_lt _ (by positivity)).trans (Nat.pow_lt_pow_right (by decide) (by omega))), if_neg (by omega),
      Nat.testBit_div_two_pow]
    simp [h.ne, Nat.sub_add_cancel (Nat.succ_le_of_lt h)]

theorem State.released_assertLines {p : Nat → Bool} {l : Nat} (hl : l < 32) : (s.assertLines p).released l = (s.released l && !p l) := by
  have hfold : ∀ (ls : List Nat) (v : Nat), bitAt (ls.foldl (fun m l => if p l then setBit m l false else m) v) l = (bitAt v l && !(decide (l ∈ ls) && p l)) := by
    intro ls
    induction ls with
    | nil => intro v; simp
    | cons x ls ih =>
      intro v
      rw [List.foldl_cons, ih]
      by_cases hx : x = l
      · subst hx
        cases p x <;> simp [bitAt_setBit_false]
      · cases p x <;> simp [bitAt_setBit_false, hx, Ne.symm hx]
  refine (hfold _ _).trans ?_
  simp [State.released, hl]

theorem State.rd_assertLines (p : Nat → Bool) (i a : Nat) : (s.assertLines p).rd i a = s.rd i a := rfl

/-! ### Warm resets -/

section
variable (hp : ¬ (s.phase = .down ∧ s.rd 0x1201 1 = 0)) (hg : s.clk.gated = false)
include hp hg

/-- A warm reset begins, and then writes entries alone. -/
theorem Within.beginReset_warmReset (cause : Nat) : Within (parts [.dict, .dtx]) (s.beginReset false cause) (s.warmReset cause) := by
  unfold State.warmReset
  rw [if_neg hp, if_neg (by rw [hg]; decide)]
  exact .wr rfl (.ite (.event rfl (.wr rfl .refl)) .refl)

theorem State.rd_warmReset_cause (hw : Map.wf s.dict = true) (cause : Nat) : (s.warmReset cause).rd 0x1201 1 = cause := by
  have hwf : Map.wf (((s.clearLogic false).resetEntries false).resetTraverse).fencedPorts.dict = true := by
    unfold State.fencedPorts
    refine List.foldlRecOn (motive := fun v : State => Map.wf v.dict = true) _ _ ?_ fun v hv p _ => State.wf_wr hv _ _ _
    exact Map.wf_filter _ _ hw
  have hb : (s.beginReset false cause).rd 0x1201 1 = cause ∧ Map.wf (s.beginReset false cause).dict = true :=
    ⟨State.rd_wr_self hwf _ _ _, State.wf_wr hwf _ _ _⟩
  unfold State.warmReset
  rw [if_neg hp, if_neg (by rw [hg]; decide)]
  rw [State.rd_wr_of_sub _ (by decide) (by decide) (.inr (by decide))]
  split
  · rw [State.rd_event, State.rd_wr_of_sub _ (by decide) (by decide) (.inl (by decide)),
      State.rd_wr_of_sub _ (by decide) (by decide) (.inl (by decide))]
    exact hb.1
  · exact hb.1

theorem Within.clearLogic_warmReset (cause : Nat) : Within (parts [.dict, .dtx, .trav, .phase]) (s.clearLogic false) (s.warmReset cause) := by
  have hb : Within (parts [.dict, .dtx, .trav, .phase]) (s.clearLogic false) (s.beginReset false cause) := by
    unfold State.beginReset
    exact .set rfl rfl (.wr rfl (.fencedPorts rfl (.resetTraverse rfl (.resetEntries rfl .refl))))
  exact hb.into rfl (Within.beginReset_warmReset hp hg cause)

theorem State.phase_warmReset (cause : Nat) : (s.warmReset cause).phase = .down :=
  ((Within.beginReset_warmReset hp hg cause).same .phase rfl).trans rfl

theorem State.lc_warmReset (cause : Nat) : (s.warmReset cause).lc = (s.clearLogic false).lc := (Within.clearLogic_warmReset hp hg cause).same .lc rfl

theorem State.jobs_warmReset (cause : Nat) : (s.warmReset cause).jobs = [] := (Within.clearLogic_warmReset hp hg cause).same .jobs rfl

theorem State.chans_warmReset (cause : Nat) : (s.warmReset cause).chans = [] := (Within.clearLogic_warmReset hp hg cause).same .chans rfl

theorem State.clk_warmReset (cause : Nat) : (s.warmReset cause).clk = resetClocks s.clk false := (Within.clearLogic_warmReset hp hg cause).same .clk rfl

end

/-! ### Instructions -/

section
variable {allowed : State → Bool} {k : State → Out}

theorem State.tap_of_sealed (h : s.fieldSeal = true) : s.tap allowed k = .next s := by
  rw [State.tap, State.tapUp, h]
  rfl

theorem State.tap_of_allowed (h : s.fieldSeal = false) (ha : allowed s.leaveExtest = true) : s.tap allowed k = k s.leaveExtest := by
  rw [State.tap, State.tapUp, h, ha]
  rfl

theorem State.tap_of_not_allowed (h : s.fieldSeal = false) (ha : allowed s.leaveExtest = false) :
    s.tap allowed k = .next (s.leaveExtest.select 0xFF 0) := by
  rw [State.tap, State.tapUp, h, ha]
  rfl

end

theorem State.leaveExtest_of_false (h : s.lc.extest = false) : s.leaveExtest = s := by
  rw [State.leaveExtest, h]
  rfl

/-- The state in which EXTEST has been left, before the warm reset that follows. -/
def State.outOfExtest (s : State) : State := { s with lc := { s.lc with extest := false, ir := 0xFF, dr := 0 } }

theorem State.leaveExtest_of_true (h : s.lc.extest = true) : s.leaveExtest = s.outOfExtest.warmReset 4 := by
  rw [State.leaveExtest, if_pos h]
  rfl

theorem State.fuses_warmReset (s : State) (cause : Nat) : (s.warmReset cause).lc.fuses = s.lc.fuses := by
  by_cases hp : s.phase = .down ∧ s.rd 0x1201 1 = 0
  · rw [State.warmReset, if_pos hp]
  · cases hg : s.clk.gated with
    | false => exact (congrArg LifeCycle.fuses (State.lc_warmReset hp hg cause)).trans rfl
    | true => rw [State.warmReset, if_neg hp, if_pos hg]

theorem State.fuses_leaveExtest (s : State) : s.leaveExtest.lc.fuses = s.lc.fuses := by
  cases h : s.lc.extest with
  | false => rw [State.leaveExtest_of_false h]
  | true => rw [State.leaveExtest_of_true h, State.fuses_warmReset]; rfl

theorem State.lifecycle_leaveExtest (s : State) : s.leaveExtest.lifecycle = s.lifecycle := by
  rw [State.lifecycle, State.fuses_leaveExtest, State.lifecycle]

theorem instructions_sealed (h : s.fieldSeal = true) : ∀ i ∈ [Instr.idcode, .samplePreload, .extest, .extestExit, .bypass, .lcStatus, .debugChallenge],
    exec i s = .next s := by
  have htap : ∀ allowed k, s.tap allowed k = .next s := fun _ _ => State.tap_of_sealed h
  have hup : s.tapUp = false := by rw [State.tapUp, h]; rfl
  intro i hi
  simp only [List.mem_cons, List.not_mem_nil, or_false] at hi
  rcases hi with rfl | rfl | rfl | rfl | rfl | rfl | rfl
  · exact (exec_idcode s).trans (htap _ _)
  · exact (exec_samplePreload s).trans (htap _ _)
  · rw [exec_extest, execExtest, hup]; rfl
  · rw [exec_extestExit, execExtestExit, hup]; rfl
  · exact (exec_bypass s).trans (htap _ _)
  · exact (exec_lcStatus s).trans (htap _ _)
  · exact (exec_debugChallenge s).trans (htap _ _)

section
variable (h : s.fieldSeal = false)
include h

theorem State.tapUp_of_unsealed : s.tapUp = true := by rw [State.tapUp, h]; rfl

theorem samplePreload_selects (hl : s.lifecycle ≠ 6) : exec .samplePreload s =
    .next { s.leaveExtest with free := s.leaveExtest.free + 1, lc := { s.leaveExtest.lc with ir := 2, dr := s.leaveExtest.draw } } :=
  (exec_samplePreload s).trans (State.tap_of_allowed h (by rw [State.lifecycle_leaveExtest]; exact bne_iff_ne.2 hl))

theorem samplePreload_terminal (hl : s.lifecycle = 6) : exec .samplePreload s = .next (s.leaveExtest.select 0xFF 0) :=
  (exec_samplePreload s).trans (State.tap_of_not_allowed h (by rw [State.lifecycle_leaveExtest, hl]; rfl))

theorem extest_bypassed (hl : s.lifecycle = 4 ∨ s.lifecycle = 6) : exec .extest s = .next (s.leaveExtest.select 0xFF 0) := by
  rw [exec_extest, execExtest, State.tapUp_of_unsealed h]
  exact if_pos hl

/-- EXTEST asserts every line and gates every channel. -/
theorem extest_goes (hw : Map.wf s.dict = true) (h4 : s.lifecycle ≠ 4) (h6 : s.lifecycle ≠ 6) : GoesTo (exec .extest s) (fun t =>
    t.lc.extest = true ∧ t.lc.ir = 3 ∧ t.lc.fuses = s.lc.fuses ∧ (∀ l, l < 32 → t.released l = false) ∧ ∀ n, 1 ≤ n → n ≤ 31 → t.chanMode n = 0) := by
  have hlines : ∀ l, l < 32 → (s.gateAll.assertLines fun _ => true).released l = false := fun l hl =>
    (State.released_assertLines hl).trans (Bool.and_false _)
  have hmodes : ∀ n, 1 ≤ n → n ≤ 31 → (s.gateAll.assertLines fun _ => true).chanMode n = 0 := fun n h1 h31 => by
    rw [State.chanMode, State.rd_assertLines, ← State.chanMode, State.chanMode_gateAll hw h1 h31]
  have hlc : (s.gateAll.assertLines fun _ => true).lc = s.lc :=
    (Within.assertLines (k := parts [.dict, .dtx, .rwork, .flash, .gate, .trav, .pins]) rfl (.gateAll rfl .refl)).same .lc rfl
  rw [exec_extest, execExtest, State.tapUp_of_unsealed h]
  generalize s.gateAll.assertLines (fun _ => true) = t at hlines hmodes hlc
  exact ⟨_, if_neg (not_or.2 ⟨h4, h6⟩), rfl, rfl, (congrArg LifeCycle.fuses hlc : t.lc.fuses = _), hlines, hmodes⟩

end

theorem extestExit_leaves (h : s.fieldSeal = false) (he : s.lc.extest = true) : exec .extestExit s = .next s.leaveExtest :=
  (exec_extestExit s).trans (when_of_true (by rw [State.tapUp_of_unsealed h, he]; rfl))

theorem extestExit_idle (he : s.lc.extest = false) : exec .extestExit s = .next s :=
  (exec_extestExit s).trans (when_of_false (by rw [he, Bool.and_false]))

/-- Leaving EXTEST is a warm reset. -/
theorem State.leaveExtest_resets (hw : Map.wf s.dict = true) (he : s.lc.extest = true) (hg : s.clk.gated = false) (hp : s.phase = .up) :
    s.leaveExtest.phase = .down ∧ s.leaveExtest.rd 0x1201 1 = 4 ∧ s.leaveExtest.lc.extest = false ∧ s.leaveExtest.jobs = [] ∧
      s.leaveExtest.chans = [] ∧ s.leaveExtest.lc.fuses = s.lc.fuses ∧ s.leaveExtest.clk.datum = s.clk.datum := by
  have hd : ¬ (s.outOfExtest.phase = .down ∧ s.outOfExtest.rd 0x1201 1 = 0) := fun h => by
    have hdown : s.phase = .down := h.1
    rw [hp] at hdown
    cases hdown
  have hf := State.fuses_leaveExtest s
  rw [State.leaveExtest_of_true he] at hf ⊢
  exact ⟨State.phase_warmReset hd hg 4, State.rd_warmReset_cause hd hg hw 4, congrArg LifeCycle.extest (State.lc_warmReset hd hg 4),
    State.jobs_warmReset hd hg 4, State.chans_warmReset hd hg 4, hf,
    (congrArg Clocks.datum (State.clk_warmReset hd hg 4)).trans rfl⟩

/-! ### LC_CMD -/

section
variable {code : Nat} {spare : BitVec 8} {token : BitVec 128} (hs : s.fieldSeal = false) (he : s.lc.extest = false)
include hs he

theorem tapCmd_bypassed (hl : s.lifecycle = 4 ∨ s.lifecycle = 6) :
    s.tapCmd code spare token = .next { s with lc := { s.lc with ir := 0xFF, dr := 0 } } := by
  rw [State.tapCmd, State.tap_of_not_allowed hs, State.leaveExtest_of_false he, State.select]
  rw [State.leaveExtest_of_false he]
  rcases hl with hl | hl <;> rw [hl] <;> rfl

theorem tapCmd_offered (h4 : s.lifecycle ≠ 4) (h6 : s.lifecycle ≠ 6) : s.tapCmd code spare token =
    if s.runs then .next ((s.select 0x10 0).lcCmd code spare token) else .next (s.select 0x10 0) := by
  rw [State.tapCmd, State.tap_of_allowed hs, State.leaveExtest_of_false he]
  rw [State.leaveExtest_of_false he, bne_iff_ne.2 h4, bne_iff_ne.2 h6]
  rfl

end

/-- A failed token counts. -/
theorem State.rd_failToken (hw : Map.wf s.dict = true) : s.failToken.rd 0x5000 5 = s.rd 0x5000 5 + 1 := by
  rw [State.failToken, State.rd_event, State.rd_wr_of_sub _ (by decide) (by decide) (.inr (by decide)), State.rd_wr_self hw]

/-- What LC_CMD leaves: the first check that fails is its result; a command that passes them starts its transition. -/
theorem lcCmd_result (hw : Map.wf s.dict = true) (code : Nat) (spare : BitVec 8) (token : BitVec 128) :
    let tok := beBytes 16 token.toNat
    let t := (s.select 0x10 0).lcCmd code spare token
    let refused := fun (r : Nat) => t.lc = { s.lc with ir := 0x10, dr := 0, result := r }
    if 8 ≤ s.rd 0x5000 5 then refused 6
    else if s.lc.prog.isSome then refused 1
    else match s.lcMove code with
      | none => refused 5
      | some m =>
        if spare ≠ 0 then refused 5
        else if (match m.slot with | some n => !s.tokenOk n tok | none => false) = true then refused 3 ∧ t.rd 0x5000 5 = s.rd 0x5000 5 + 1
        else if s.fusePower = false then refused 4
        else if code = 4 ∧ (s.entropyState ≠ 1 ∨ s.lc.dur ≠ 0) then refused 7
        else
          let started := some (m.code, s.lifecycle, m.target, sha3 (oct code ++ oct spare.toNat ++ tok))
          t = { s with lc := { s.lc with ir := 0x10, dr := 0, result := 1, prog := some m.code, record := started } } := by
  intro tok t refused
  by_cases h8 : 8 ≤ s.rd 0x5000 5
  · rw [if_pos h8]
    exact congrArg State.lc (if_pos (decide_eq_true h8) : t = (s.select 0x10 0).lcRefused 6)
  rw [if_neg h8]
  have hlock : ¬ (s.select 0x10 0).lockedOut = true := fun h => h8 (of_decide_eq_true h)
  by_cases hbusy : s.lc.prog.isSome = true
  · rw [if_pos hbusy]
    exact congrArg State.lc ((if_neg hlock).trans (if_pos hbusy) : t = (s.select 0x10 0).lcRefused 1)
  rw [if_neg hbusy]
  have hmove : (s.select 0x10 0).lcMove code = s.lcMove code := rfl
  have ht : t = (s.select 0x10 0).lcCmd code spare token := rfl
  clear_value t
  unfold State.lcCmd at ht
  rw [if_neg hlock, if_neg (c := (s.select 0x10 0).lc.prog.isSome = true) hbusy, hmove] at ht
  rcases hm : s.lcMove code with _ | m
  · rw [hm] at ht
    exact congrArg State.lc ht
  rw [hm] at ht
  dsimp only at ht ⊢
  by_cases hspare : spare ≠ 0
  · rw [if_pos hspare] at ht ⊢
    exact congrArg State.lc ht
  rw [if_neg hspare] at ht ⊢
  refine iteInduction (motive := fun p => p) (fun htoken => ?_) fun htoken => ?_
  · replace ht := ht.trans (if_pos htoken)
    exact ⟨congrArg State.lc ht, (congrArg (fun u : State => u.rd 0x5000 5) ht).trans (State.rd_failToken (s := s.select 0x10 0) hw)⟩
  replace ht := ht.trans (if_neg htoken)
  by_cases hpower : s.fusePower = false
  · rw [if_pos hpower]
    exact congrArg State.lc (ht.trans (if_pos (congrArg Bool.not hpower)))
  rw [if_neg hpower]
  replace ht := ht.trans (if_neg fun h => hpower ((Bool.not_eq_true' _).mp h))
  have hready : (!(s.select 0x10 0).personalizable code) = true ↔ code = 4 ∧ (s.entropyState ≠ 1 ∨ s.lc.dur ≠ 0) := by
    have hp : (s.select 0x10 0).personalizable code = (code != 4 || (s.entropyState == 1 && s.lc.dur == 0)) := rfl
    rw [hp]
    simp
  by_cases hr : code = 4 ∧ (s.entropyState ≠ 1 ∨ s.lc.dur ≠ 0)
  · rw [if_pos hr]
    exact congrArg State.lc (ht.trans (if_pos (hready.2 hr)))
  · rw [if_neg hr]
    exact ht.trans (if_neg (mt hready.1 hr))

/-- Settles O47. -/
theorem tapInstructionsAndCommandsComplete : Obligations.TapInstructionsAndCommandsComplete := by
  unfold Obligations.TapInstructionsAndCommandsComplete
  refine ⟨fun s hw => ⟨instructions_sealed, fun hs => ?_⟩, fun s spare token hs he hw p hp => ?_⟩
  · refine ⟨State.leaveExtest_of_false, ?_, ?_, ?_, fun hl => ⟨samplePreload_terminal hs hl, extest_bypassed hs (.inr hl)⟩, samplePreload_selects hs,
      fun hl => extest_bypassed hs (.inl hl), extest_goes hs hw, fun he => ⟨extestExit_leaves hs he, State.leaveExtest_resets hw he⟩, extestExit_idle⟩
    · exact (exec_idcode s).trans (State.tap_of_allowed hs rfl)
    · exact (exec_bypass s).trans (State.tap_of_allowed hs rfl)
    · exact (exec_lcStatus s).trans (State.tap_of_allowed hs rfl)
  · have hex : exec p.2 s = s.tapCmd p.1 spare token := by
      simp only [List.mem_cons, List.not_mem_nil, or_false] at hp
      rcases hp with rfl | rfl | rfl | rfl | rfl | rfl <;> rfl
    rw [hex]
    refine ⟨tapCmd_bypassed hs he, fun h4 h6 hr => ?_, fun h4 h6 hr => ?_⟩
    · rw [tapCmd_offered hs he h4 h6, hr]
      rfl
    · rw [tapCmd_offered hs he h4 h6, if_pos hr]
      exact ⟨_, rfl, lcCmd_result hw p.1 spare token⟩

end Machine
end Sys2Proof
end

section
/-! States in which a statement fails: the block up with little under way. -/
namespace Sys2Proof
namespace Machine
namespace Counter

/-- The block up, with nothing under way. -/
def up : State := { State.reset with phase := .up }

/-- A message of tenant 0 on channel 0. -/
def message (kind op : Nat) (b : Bytes) : Job :=
  { chan := 0, seq := 1, handle := 65536, hdrTenant := 0, order := 0, tenant := 0, queue := 0, kind := kind, opcode := op, key := 0, cookie := 0,
    length := b.length, segCount := 1, segs := [(0, b)], firstAt := 0, needsAck := false, credits := 0, reserve := 0, state := .queued, units := [],
    borrowed := false, admitted := 0, charged := noWork, lapCharged := noWork, lapBorrowed := noWork, epoch := 0, retried := false, faultUnit := none,
    waitSince := none, status := 0, detail := 0, result := [], resKey := 0, index := none, stamp := none, kernel := none, rnd := none, sentAs := none,
    prec := false, isSealed := false, switched := false, slotless := false, kumChecked := false, extra := noWork, mid := 0, drawn := [] }

/-- An open channel of tenant 0. -/
def channel : Channel :=
  { tenant := 0, gen := 1, role := 1, cred := 0, enrol := false, ordered := false, state := .opened, rxKey := [], txKey := [], keepalive := 1000,
    lastAuth := 0, high := 1, seen := [1], floor := 0, released := 0, grant := 100, spent := 0, notice := 0, mask := 0, closeSeq := none,
    pk := [], enrolSeq := none, peer := ⟨0, 0, 0⟩, port := 0 }

/-- The jobs that an outcome leaves. -/
def jobsOf : Out → List Job
  | .next t => t.jobs
  | _ => []

/-! ### A reset that a message of the tenant itself asks for -/

/-- The CHECKPOINT of an opening of debug, archived. -/
def openingCheckpoint : Bench :=
  { seq := 0, epoch := 0, datum := 0, quality := 0, kind := 0x0C, verdict := 0, channel := 0, region := 8, flags := 0, digest := 0, prev := 0,
    sigSlots := 37, sigs := [], signed := true, archived := 38, slot := 0 }

/-- Debug is about to open while tenant 0 runs a job, with a queued one listed under the reference of a TENANT_RESET for it. -/
def opening : State :=
  { up with
    jobs := [message 5 6 [0], message 1 0 [], { message 1 0 [] with seq := 2, state := .running }]
    chans := [(0, channel)]
    lc := { up.lc with opening := some (0, false) }
    trav := { up.trav with archive := [openingCheckpoint] } }

theorem opening_facts : Map.wf opening.dict = true ∧ opening.runs = true ∧ opening.openingArchived 0 = true ∧ Calm opening ∧
    ∀ p ∈ opening.tenants, p.2.resetReqs = [] := by
  unfold Calm; decide +kernel

theorem opening_keeps : (jobsOf (exec .debugOpenComplete opening)).any
    (fun j => decide (j.tenant < 64) && j.scheduled && j.live && !j.running) = true := by
  decide +kernel

end Counter

/-- Refutes O49: resetting a tenant leaves each message under a reference that asks for the same reset. -/
theorem not_debugOpeningCompletes : ¬ Obligations.DebugOpeningCompletes := by
  unfold Obligations.DebugOpeningCompletes
  intro h
  obtain ⟨hw, hr, ha, hc, hq⟩ := Counter.opening_facts
  obtain ⟨-, -, hopen⟩ := h Counter.opening hw
  obtain ⟨-, -, -, hreset⟩ := hopen 0 false rfl hr
  obtain ⟨t, ht, -, hjobs⟩ := hreset rfl ha hc hq
  have hany := Counter.opening_keeps
  rw [ht, List.any_eq_true] at hany
  obtain ⟨j, hj, hbad⟩ := hany
  simp only [Bool.and_eq_true, decide_eq_true_eq, Bool.not_eq_true'] at hbad
  obtain ⟨⟨⟨hten, hs⟩, hl⟩, hrun⟩ := hbad
  exact absurd (hjobs j hj hten hs hl) (by rw [hrun]; decide)

end Machine
end Sys2Proof
end

section
/-! The dictionary and the memories through the test access port (R400, R402, R406). -/
namespace Sys2Proof
namespace Machine
variable {s : State}

/-- An instruction that a state offers runs, outside EXTEST. -/
theorem State.tap_of_offered {allowed : State → Bool} {k : State → Out} (h : s.fieldSeal = false) (he : s.lc.extest = false) (ha : allowed s = true) :
    s.tap allowed k = k s := by
  have hl := State.leaveExtest_of_false he
  rw [State.tap_of_allowed h (by rw [hl]; exact ha), hl]

section
variable (hs : s.fieldSeal = false) (he : s.lc.extest = false) (hr : s.runs = true)
include hs he hr

theorem dictTxn_eq {b : Bytes} (hl : s.lifecycle = 3 ∨ s.lifecycle = 1) : exec (.dictTxn b) s =
    if s.dtx.journal.isSome then .next s
    else match parseWrite b with
      | none => .next ((s.select 0x30 0).tapRefuse ⟨0x26, 0xFF, 0⟩)
      | some ws => match s.txnRefused tapAsker ws with
        | some e => .next ((s.select 0x30 0).tapRefuse e)
        | none => match ws.findIdx? (fun w => !s.certOk w) with
          | some p => .next ((s.select 0x30 0).tapRefuse ⟨0x72, p, 0⟩)
          | none => .next ((s.select 0x30 0).beginTxn ⟨none, ws, none, b⟩) := by
  have ha : ((s.lifecycle == 3 || s.lifecycle == 1) && s.runs) = true := by
    rw [hr]
    rcases hl with hl | hl <;> rw [hl] <;> rfl
  exact (exec_dictTxn s b).trans (State.tap_of_offered hs he ha)

theorem dictRead_eq {b : Bytes} (hl : s.lifecycle = 3 ∨ s.lifecycle = 1) : exec (.dictRead b) s =
    match parseRead b with
    | none => .next ((s.select 0x31 0).tapRefuse ⟨0x26, 0xFF, 0⟩)
    | some (e, items) => match s.readRefused tapAsker e items with
      | some r => .next ((s.select 0x31 0).tapRefuse r)
      | none => .next (((s.select 0x31 0).tapResult (s.readResult e items)).readEffects items) := by
  have ha : ((s.lifecycle == 3 || s.lifecycle == 1) && s.runs) = true := by
    rw [hr]
    rcases hl with hl | hl <;> rw [hl] <;> rfl
  exact (exec_dictRead s b).trans (State.tap_of_offered hs he ha)

theorem memAccess_eq {write : Bool} {memory addr : Nat} {word : BitVec 72} (hd : s.debug = true) :
    let dr := fun (v : Nat) => (if write then 2 ^ 111 else 0) + memory * 2 ^ 104 + addr * 2 ^ 72 + v
    exec (.memAccess write memory addr word) s =
      if write then .next ((if s.fielded || !memExists memory addr || !memWritable memory then s else s.memWrite memory addr word.toNat).select 0x40 (dr word.toNat))
      else if !memExists memory addr || (s.fielded && memory == 0) then .next (s.drawn.select 0x40 (dr (s.draw % 2 ^ 72)))
      else .next (s.select 0x40 (dr (s.memRead s.fielded memory addr))) :=
  (exec_memAccess s write memory addr word).trans (State.tap_of_offered hs he (by rw [hd, hr]; rfl))

theorem memAccess_reads {memory addr : Nat} {word : BitVec 72} (hd : s.debug = true) (hx : memExists memory addr = true)
    (hf : s.fielded = false ∨ memory ≠ 0) : exec (.memAccess false memory addr word) s =
      .next (s.select 0x40 (0 + memory * 2 ^ 104 + addr * 2 ^ 72 + s.memRead s.fielded memory addr)) := by
  have hc : ¬ (!memExists memory addr || (s.fielded && memory == 0)) = true := by
    rw [hx]
    rcases hf with hf | hf
    · rw [hf, Bool.false_and]; decide
    · rw [beq_false_of_ne hf, Bool.and_false]; decide
  exact (memAccess_eq hs he hr hd).trans (if_neg hc)

theorem memAccess_gives {memory addr : Nat} {word : BitVec 72} (hd : s.debug = true)
    (hx : memExists memory addr = false ∨ s.fielded = true ∧ memory = 0) : exec (.memAccess false memory addr word) s =
      .next (s.drawn.select 0x40 (0 + memory * 2 ^ 104 + addr * 2 ^ 72 + s.draw % 2 ^ 72)) := by
  have hc : (!memExists memory addr || (s.fielded && memory == 0)) = true := by
    rcases hx with hx | ⟨hf, rfl⟩
    · rw [hx]; rfl
    · rw [hf, Bool.or_eq_true]; exact .inr rfl
  exact (memAccess_eq hs he hr hd).trans (if_pos hc)

theorem memAccess_ignores {memory addr : Nat} {word : BitVec 72} (hd : s.debug = true)
    (hx : s.fielded = true ∨ memExists memory addr = false ∨ memWritable memory = false) : exec (.memAccess true memory addr word) s =
      .next (s.select 0x40 (2 ^ 111 + memory * 2 ^ 104 + addr * 2 ^ 72 + word.toNat)) := by
  have hc : (s.fielded || !memExists memory addr || !memWritable memory) = true := by
    rcases hx with hx | hx | hx <;> simp [hx]
  exact (memAccess_eq hs he hr hd).trans (congrArg (fun t : State => Host.Outcome.next (t.select 0x40 _)) (if_pos hc))

theorem memAccess_writes {memory addr : Nat} {word : BitVec 72} (hd : s.debug = true) (hf : s.fielded = false) (hx : memExists memory addr = true)
    (hm : memWritable memory = true) : exec (.memAccess true memory addr word) s =
      .next ((s.memWrite memory addr word.toNat).select 0x40 (2 ^ 111 + memory * 2 ^ 104 + addr * 2 ^ 72 + word.toNat)) := by
  have hc : ¬ (s.fielded || !memExists memory addr || !memWritable memory) = true := by simp [hf, hx, hm]
  exact (memAccess_eq hs he hr hd).trans (congrArg (fun t : State => Host.Outcome.next (t.select 0x40 _)) (if_neg hc))

end

/-! ### A word that is written -/

/-- A digit of a number replaced. -/
theorem digit_replaced (old v b m : Nat) (hb : 0 < b) (hv : v < m) : (old - old / b % m * b + v * b) / b % m = v := by
  have h1 := Nat.div_add_mod old b
  have h2 := Nat.div_add_mod (old / b) m
  have h3 : old - old / b % m * b = old % b + b * (m * (old / b / m)) := by
    have : old / b * b = m * (old / b / m) * b + old / b % m * b := by rw [← Nat.add_mul, h2]
    have h4 : b * (old / b) = old / b * b := Nat.mul_comm _ _
    have h5 : b * (m * (old / b / m)) = m * (old / b / m) * b := Nat.mul_comm _ _
    omega
  rw [h3, show old % b + b * (m * (old / b / m)) + v * b = old % b + b * (v + m * (old / b / m)) by ring, Nat.add_mul_div_left _ _ hb,
    Nat.div_eq_of_lt (Nat.mod_lt _ hb), Nat.zero_add, Nat.add_mul_mod_self_left, Nat.mod_eq_of_lt hv]

theorem State.poked_put (s : State) (memory addr v : Nat) :
    ({ s with lc := { s.lc with poked := Map.put s.lc.poked (pokeKey memory addr) v } } : State).poked memory addr = v := by
  unfold State.poked
  rw [Map.find_put_self]

theorem State.microWord_put (s : State) (a v : Nat) : ({ s with kern := { s.kern with micro := Map.put s.kern.micro a v } } : State).microWord a = v := by
  unfold State.microWord
  rw [Map.find_put_self]

theorem State.nanoWord_put (s : State) (i v : Nat) : ({ s with kern := { s.kern with nano := Map.put s.kern.nano i v } } : State).nanoWord i = v := by
  unfold State.nanoWord
  rw [Map.find_put_self]

theorem memRead_memWrite {memory addr v : Nat} (hm : memory ∈ [1, 2, 3, 5, 7, 10]) (hw : Map.wf s.cmem = true) (hv : v < 2 ^ 72) :
    (s.memWrite memory addr v).memRead false memory addr = if memory = 1 then v % 2 ^ 48 else v := by
  simp only [List.mem_cons, List.not_mem_nil, or_false] at hm
  rcases hm with rfl | rfl | rfl | rfl | rfl | rfl
  · exact State.microWord_put s addr _
  · have hn : (s.memWrite 2 addr v).nanoWord (addr / 4) = s.nanoWord (addr / 4) - s.nanoWord (addr / 4) / 2 ^ (72 * (addr % 4)) % 2 ^ 72 * 2 ^ (72 * (addr % 4)) +
        v * 2 ^ (72 * (addr % 4)) := State.nanoWord_put s (addr / 4) _
    have hr : (s.memWrite 2 addr v).memRead false 2 addr = (s.memWrite 2 addr v).nanoWord (addr / 4) / 2 ^ (72 * (addr % 4)) % 2 ^ 72 := rfl
    rw [hr, hn, digit_replaced _ _ _ _ (by positivity) hv]
    rfl
  · exact State.poked_put s 3 addr v
  · rw [if_neg (by decide), State.memWrite, if_neg (by decide), if_neg (by decide), if_pos rfl, State.memRead]
    rcases memCluster addr with _ | ⟨c, a⟩
    · exact State.poked_put s 5 addr v
    · have hc : (s.setCword c a ⟨v, false⟩).cword c a = ⟨v % 2 ^ 72, false⟩ := Map.getD_store_self _ _ _ _ hw
      exact (congrArg Tagged.val hc).trans (Nat.mod_eq_of_lt hv)
  · exact State.poked_put s 7 addr v
  · exact State.poked_put s 10 addr v

/-- What a write to a memory leaves as it was. -/
theorem memWrite_eq (s : State) (memory addr v : Nat) : ∃ lc cmem kern, s.memWrite memory addr v = { s with lc := lc, cmem := cmem, kern := kern } := by
  unfold State.memWrite
  split
  · exact ⟨_, _, _, rfl⟩
  · split
    · exact ⟨_, _, _, rfl⟩
    · split
      · exact ⟨_, _, _, rfl⟩
      · exact ⟨_, _, _, rfl⟩

/-- The memories that no state writes. -/
theorem memWritable_of_mem {memory : Nat} (h : memory ∈ [0, 4, 6, 8, 9]) : memWritable memory = false := by
  simp only [List.mem_cons, List.not_mem_nil, or_false] at h
  rcases h with rfl | rfl | rfl | rfl | rfl <;> rfl

theorem State.readEffects_of_plain {items : List ReadItem} (h : ∀ it ∈ items, it.1 ≠ 0x1202 ∧ it.1 ≠ 0x2810) : s.readEffects items = s := by
  unfold State.readEffects
  refine if_neg fun ha => ?_
  obtain ⟨it, hit, hc⟩ := List.any_eq_true.1 ha
  rw [Bool.and_eq_true, beq_iff_eq] at hc
  exact (h it hit).2 hc.1

/-- A transaction that passes its checks waits for a place in the ring, is journalled, or is applied. -/
theorem beginTxn_cases (ws : List DWrite) (b : Bytes) :
    let g : Journal := ⟨none, ws, none, b⟩
    let o : Out := .next ((s.select 0x30 0).beginTxn g)
    (g.recorded = true → s.ringBusy = true → o = .next (s.select 0x30 0)) ∧
    (journalled ws = true → s.ringBusy = false → GoesTo o (fun t => Journalled s t g)) ∧
    (g.recorded = false ∨ s.ringBusy = false → g.persists = false → o = .next (((s.select 0x30 0).applyTxn g).answerTxn g)) := by
  intro g o
  have hbusy : (s.select 0x30 0).ringBusy = s.ringBusy := rfl
  have ho : o = .next (if g.recorded && s.ringBusy then s.select 0x30 0 else if g.persists then
    { s.select 0x30 0 with dtx := { s.dtx with journal := some g } } else ((s.select 0x30 0).applyTxn g).answerTxn g) := rfl
  rw [ho]
  refine ⟨fun hrec hring => ?_, fun hj hring => ?_, fun hfree hp => ?_⟩
  · rw [hrec, hring]
    rfl
  · have hp : g.persists = true := by rw [Journal.persists, hj]; rfl
    rw [hring, hp, Bool.and_false]
    exact ⟨_, rfl, rfl, rfl⟩
  · have hfree' : (g.recorded && s.ringBusy) = false := by
      rcases hfree with h | h <;> rw [h]
      · rfl
      · exact Bool.and_false _
    rw [hfree', hp]
    rfl

/-- Settles O50. -/
theorem tapAccessCompletes : Obligations.TapAccessCompletes := by
  unfold Obligations.TapAccessCompletes
  intro s hs he hr
  refine ⟨fun b hl => ⟨fun hj => ?_, fun hj => ?_, ?_⟩, fun write memory addr word hd => ⟨fun hx => ⟨?_, ?_⟩, fun hx => ⟨?_, ?_, ?_, ?_⟩⟩⟩
  · have hex := dictTxn_eq hs he hr (b := b) hl
    rw [if_neg (by rw [hj]; decide)] at hex
    rw [hex]
    rcases parseWrite b with _ | ws
    · rfl
    dsimp only
    rcases s.txnRefused tapAsker ws with _ | e
    · dsimp only
      rcases ws.findIdx? (fun w => !s.certOk w) with _ | p
      · exact beginTxn_cases ws b
      · rfl
    · rfl
  · rw [dictTxn_eq hs he hr hl]
    exact if_pos (Option.isSome_iff_ne_none.2 hj)
  · rw [dictRead_eq hs he hr hl]
    rcases parseRead b with _ | ⟨e, items⟩
    · rfl
    dsimp only
    rcases s.readRefused tapAsker e items with _ | q
    · exact fun hplain => congrArg Host.Outcome.next (State.readEffects_of_plain hplain)
    · rfl
  · rintro rfl
    exact memAccess_ignores hs he hr hd (.inr (.inl hx))
  · rintro rfl
    exact ⟨_, memAccess_gives hs he hr hd (.inl hx), rfl, ⟨_, Nat.mod_lt _ (by decide), rfl⟩, rfl⟩
  · rintro rfl hf
    exact memAccess_reads hs he hr hd hx hf
  · rintro rfl hf rfl
    exact ⟨_, memAccess_gives hs he hr hd (.inr ⟨hf, rfl⟩), rfl, rfl⟩
  · rintro rfl hf
    exact memAccess_ignores hs he hr hd (hf.imp_right fun hm => .inr (memWritable_of_mem hm))
  · rintro rfl hf hm hw
    obtain ⟨lc, cmem, kern, hwrite⟩ := memWrite_eq s memory addr word.toNat
    refine ⟨_, memAccess_writes hs he hr hd hf hx (List.elem_eq_true_of_mem hm), memRead_memWrite hm hw word.isLt, rfl, rfl, ?_⟩
    rw [hwrite]
    rfl

end Machine
end Sys2Proof
end

section
/-! A channel closed at once by a message whose reference a running job shares. -/
namespace Sys2Proof
namespace Machine
namespace Counter

/-- A CLOSE_NOW waits at the head of its queue, and a running job is listed under the same reference. -/
def closing : State :=
  { up with
    jobs := [message 5 3 [], { message 1 0 [] with state := .running }]
    chans := [(0, channel)] }

theorem closing_facts : closing.runs = true ∧ Map.wf closing.chans = true ∧ closing.control ⟨0, 1⟩ 3 = some (message 5 3 [], channel) := by
  decide +kernel

/-- The channels that an outcome leaves. -/
def chansOf : Out → Map Channel
  | .next t => t.chans
  | _ => []

theorem closing_frees : Map.find (chansOf (exec (.closeNow ⟨0, 1⟩) closing)) 0 = none := by decide +kernel

end Counter

/-- Refutes O31: the completion of CLOSE_NOW ends each job under its reference, a running one among them, so that the channel is freed at once. -/
theorem not_channelsComplete : ¬ Obligations.ChannelsComplete := by
  unfold Obligations.ChannelsComplete
  intro h
  obtain ⟨hr, hw, hcontrol⟩ := Counter.closing_facts
  obtain ⟨-, -, -, hops⟩ := h Counter.closing 0 Counter.channel hr rfl hw
  obtain ⟨-, -, hnow, -⟩ := hops ⟨0, 1⟩ (Counter.message 5 3 []) rfl
  obtain ⟨t, ht, -, -, hstays⟩ := hnow hcontrol
  obtain ⟨c, hc, -⟩ := hstays ⟨_, .tail _ (.head _), rfl, rfl⟩
  have hfree := Counter.closing_frees
  rw [ht] at hfree
  exact absurd (hc.symm.trans hfree) (by simp)

end Machine
end Sys2Proof
end

section
/-! A write that begins a FAMINE while another message is listed under its reference. -/
namespace Sys2Proof
namespace Machine
namespace Counter

/-- The write of DISABLE for the first noise source. -/
def disableWrite : DWrite := { idx := 0x2820, sub := 5, typ := 1, val := [1] }

/-- The WRITE message that carries it. -/
def disableMessage : Job := message 4 2 [1, 0, 0, 0, 0, 0, 0, 0, 0x28, 0x20, 5, 1, 0, 1, 1]

/-- The entropy function is READY with no healthy source; an ML-KEM job is queued under the reference of the WRITE. -/
def famished : State :=
  { up with
    jobs := [disableMessage, message 1 0x110 []]
    chans := [(0, channel)]
    dict := [(ekey 0x2800 1, 1)] }

theorem famished_runs : TxnRuns famished ⟨0, 1⟩ disableMessage channel [disableWrite] := by
  unfold TxnRuns Calm; decide +kernel

theorem famished_ends : (jobsOf (exec (.disable ⟨0, 1⟩ 0) famished)).all (fun j => j.status == 0x50) = true := by decide +kernel

end Counter

/-- The job that an outcome's state finds is among the jobs that the outcome leaves. -/
theorem mem_jobsOf {o : Out} {t : State} {r : JobRef} {j : Job} (ho : o = .next t) (hj : t.findJob r = some j) : j ∈ Counter.jobsOf o :=
  ho ▸ List.mem_of_find?_eq_some hj

/-- Refutes O34: a DISABLE that begins a FAMINE ends every message under its reference with ENTROPY_FAIL, its own among them. -/
theorem not_namedWritesOfEveryKindComplete : ¬ Obligations.NamedWritesOfEveryKindComplete := by
  unfold Obligations.NamedWritesOfEveryKindComplete
  intro h
  obtain ⟨hwrites, -⟩ := h
  obtain ⟨-, hdisable, -⟩ := hwrites _ _ _ _ _ Counter.famished_runs
  obtain ⟨t, ht, ⟨-, j, hj, -, hstatus, -⟩, -⟩ := hdisable 0 (by decide) ⟨rfl, rfl⟩ rfl
  have hall := List.all_eq_true.mp Counter.famished_ends j (mem_jobsOf ht hj)
  rw [hstatus] at hall
  exact absurd hall (by decide)

end Machine
end Sys2Proof
end

section
/-! A reservation of a key that a key update message is about to replace. -/
namespace Sys2Proof
namespace Machine
namespace Counter

/-- A volatile key. -/
def reserved : KeyRec :=
  { handle := 0, typ := 0x1C, set := 1, order := 0, classes := 0x2F, ops := 0x3FF, notBefore := 0, notAfter := 0, useLimit := 0, digest := 0, pub := [],
    secret := [], limit := 0, next := 0, total := 64, batch := 1, skipped := 0, uses := 0, usesLimit := 0, ranges := [], session := 0, masks := [],
    traversal := 0 }

/-- The reservation of its first index. -/
def reservation : Reservation := { handle := 0, uses := false, limit := 1 }

/-- The key has a reservation to commit, and a key update message's commit is under way for it. -/
def reserving : State :=
  { up with keys := { up.keys with
      vol := [(0, reserved)]
      reserves := [reservation]
      commits := [{ domain := 0, op := 5, j := ⟨0, 1⟩, key := reserved, provisional := none, counter := 1, kumDigest := 0, marked := false }] } }

theorem reserving_waits : exec (.reservationCommit 0 true) reserving = .next reserving := by rfl

end Counter

/-- Refutes O36: a reservation waits while a key update message's commit is under way for its key. -/
theorem not_keyUpdatesLoadsAndReservationsComplete : ¬ Obligations.KeyUpdatesLoadsAndReservationsComplete := by
  unfold Obligations.KeyUpdatesLoadsAndReservationsComplete
  intro h
  obtain ⟨-, hkeys⟩ := h
  obtain ⟨-, hreserve⟩ := hkeys Counter.reserving 0 Counter.reserved rfl rfl
  obtain ⟨⟨t, ht, -, hgone, -⟩, -⟩ := hreserve Counter.reservation rfl (by decide)
  injection Counter.reserving_waits.symm.trans ht with hs
  subst hs
  exact absurd hgone (by decide)

end Machine
end Sys2Proof
end

section
/-! A STREAM message for whose reference a key update message's commit mark is written. -/
namespace Sys2Proof
namespace Machine
namespace Counter

/-- A running STREAM message that starts a compare and absorbs nothing. -/
def streaming : Job := { message 3 0x2010 [0, 1, 0, 0, 0, 0, 0, 0, 0, 0, 0, 0, 0, 0, 0, 0] with state := .running }

/-- Its reference is that of a commit whose mark is written. -/
def streamMarked : State :=
  { up with
    jobs := [streaming]
    chans := [(0, channel)]
    keys := { up.keys with
      commits := [{ domain := 0, op := 5, j := ⟨0, 1⟩, key := reserved, provisional := none, counter := 1, kumDigest := 0, marked := true }] } }

theorem streamMarked_facts : Calm streamMarked ∧ streamMarked.latchedOn streaming 1 = false ∧ streamMarked.latchedOn streaming 2 = false ∧
    streamExists streaming.opcode = true ∧ streamMarked.streamRefusal streaming = none ∧ finishBit streaming.payload = false := by
  unfold Calm; decide +kernel

theorem streamMarked_stays (r : JobRun) (hr : r.j = ⟨0, 1⟩) : exec (.streamMessage r) streamMarked = .next streamMarked := by
  obtain ⟨_, _⟩ := r
  subst hr
  rfl

end Counter

/-- Refutes O37: a message whose reference has a marked commit runs no further. -/
theorem not_streamMessagesComplete : ¬ Obligations.StreamMessagesComplete := by
  unfold Obligations.StreamMessagesComplete
  intro h
  obtain ⟨hcalm, hl1, hl2, hex, hok, hfin⟩ := Counter.streamMarked_facts
  obtain ⟨-, hruns⟩ := h Counter.streamMarked ⟨⟨0, 1⟩, noWork⟩ Counter.streaming rfl rfl hcalm
  obtain ⟨habsorbs, -⟩ := hruns _ rfl rfl rfl hl1 hl2 hex hok rfl
  obtain ⟨t, ht, ⟨j, hj, hdone, -⟩, -⟩ := habsorbs hfin
  injection (Counter.streamMarked_stays _ rfl).symm.trans ht with hs
  subst hs
  obtain rfl : Counter.streaming = j := Option.some.inj hj
  exact absurd hdone (by decide)

end Machine
end Sys2Proof
end

section
/-! A borrowed resumption whose turn has not come leaves its job suspended (R138, R140). -/
namespace Sys2Proof
namespace Machine

theorem OutOfTurn.settled_suspended : (settled.findJob (job 1).ref).all (fun j => j.state == .suspended) = true := by decide +kernel

/-- Refutes O41: its clause on resumption, like O60's, has no premise that it is the job's turn. -/
theorem not_jobDispatchCompletes : ¬ Obligations.JobDispatchCompletes := by
  unfold Obligations.JobDispatchCompletes
  intro h
  obtain ⟨hphase, hgated, hresetting, hserved⟩ := OutOfTurn.tenantServed_state
  obtain ⟨hadmission, hearlier, hfits, -, hturn, -⟩ := OutOfTurn.waits_settled
  obtain ⟨-, hresumes⟩ := h OutOfTurn.state _ _ [62] OutOfTurn.findJob_state hphase hgated hresetting hserved
  obtain ⟨t, ht, -, -, j, hj, hrunning, -⟩ := hresumes rfl true hadmission hearlier hfits
  have hwaits : exec (.jobDispatch (OutOfTurn.job 1).ref [62]) OutOfTurn.state = .next OutOfTurn.settled :=
    (exec_jobDispatch _ _ _).trans (execJobDispatch_of_turnFits_eq_false [62] OutOfTurn.findJob_state rfl hadmission hturn)
  obtain rfl : OutOfTurn.settled = t := Host.Outcome.next.inj (hwaits.symm.trans ht)
  have hsuspended := OutOfTurn.settled_suspended
  rw [hj, Option.all_some, beq_iff_eq, hrunning] at hsuspended
  exact absurd hsuspended (by decide)

end Machine
end Sys2Proof
end

section
/-! A RESULT that ends a group write with a status whose message leaves no job. -/
namespace Sys2Proof
namespace Machine
namespace Counter

/-- The message that asked for the write. -/
def writer : Job := message 4 3 []

/-- A RESULT from member 1 with the status FAMINE of tag 0, as it stands in the inbox. -/
def resultMessage : PeerMsg :=
  { sender := 1, receiver := 0, gen := 0, seq := 1, opcode := 0x16, body := resultBody 0 0 0 0x12, peer := ⟨0, 0, 0⟩, port := 0 }

/-- The write it answers. -/
def ownWrite : OwnWrite := { tag := 0, job := some ⟨0, 1⟩, kind := 4, body := [], sentAt := 0, place := none }

/-- Member 0 of a group of one, whose link to member 1 is up, waits for the outcome of a write. -/
def awaiting : State :=
  { up with
    jobs := [writer]
    dict := [(ekey 0x4400 1, 1), (ekey 0x4400 2, 1), (ekey 0x4410 1, up.identity)]
    grp := { up.grp with links := [(1, { linkInit with state := 2 })], inbox := [resultMessage], writes := [ownWrite] } }

/-- The header of that message. -/
def resultHeader : PeerHdr := { sender := 1, receiver := 0, gen := 0, seq := 1 }

/-- The bodies that it may have. -/
def isResult (o : Bytes) : Bool := o == resultBody 0 0 0 0x12

theorem awaiting_identity : awaiting.identity = up.identity := by rfl

theorem awaiting_myIndex : awaiting.myIndex = some 0 := by
  have hid : awaiting.groupId ≠ 0 ∧ awaiting.debug = false ∧ awaiting.memberCount = 1 := by decide +kernel
  obtain ⟨hgroup, hdebug, hcount⟩ := hid
  have hmember : awaiting.memberId 0 = up.identity := by rfl
  rw [State.myIndex, if_neg (by simp [hgroup, hdebug]), State.indexOf, hcount, awaiting_identity]
  simp [List.range_succ, hmember]

theorem resultMessage_fits : resultMessage.fits resultHeader 0x16 isResult = true := by
  simp [PeerMsg.fits, resultMessage, resultHeader, isResult]

theorem awaiting_peerMsg : awaiting.peerMsg resultHeader 0x16 isResult = some resultMessage :=
  List.find?_cons_of_pos resultMessage_fits

theorem awaiting_stands : MessageStands awaiting resultHeader 0x16 isResult :=
  ⟨rfl, awaiting_myIndex, .inl rfl, rfl, _, awaiting_peerMsg⟩

theorem awaiting_result : exec (.result resultHeader 0 0 0 0x12) awaiting =
    .next ((heard awaiting resultHeader 0x16 isResult).endWrite ownWrite 0x12 []) := by
  rw [exec_result, execResult, State.onLink, when_of_true]
  · rfl
  · simp only [Bool.and_eq_true, beq_iff_eq, Bool.or_eq_true]
    exact ⟨⟨⟨⟨rfl, awaiting_myIndex⟩, .inl rfl⟩, rfl⟩, Option.isSome_iff_exists.mpr ⟨_, awaiting_peerMsg⟩⟩

theorem awaiting_wf : Map.wf awaiting.dict = true ∧ Calm awaiting := ⟨rfl, by unfold Calm; decide +kernel⟩

theorem awaiting_drops : ((heard awaiting resultHeader 0x16 isResult).endWrite ownWrite 0x12 []).findJob ⟨0, 1⟩ = none := by rfl

end Counter

/-- Refutes O46: a write that ends with a status that is not cached leaves no job. -/
theorem not_groupLogCompletes : ¬ Obligations.GroupLogCompletes := by
  unfold Obligations.GroupLogCompletes
  intro h
  obtain ⟨hw, hc⟩ := Counter.awaiting_wf
  obtain ⟨-, -, -, hresult, -⟩ := h Counter.awaiting Counter.resultHeader hw hc
  obtain ⟨-, hends⟩ := hresult 0 0 0 0x12 Counter.awaiting_stands
  obtain ⟨t, ht, ⟨j, hj, -⟩, -⟩ := hends (by decide) ⟨0, 1⟩ Counter.writer rfl rfl rfl
  injection Counter.awaiting_result.symm.trans ht with hs
  subst hs
  exact absurd (Counter.awaiting_drops.symm.trans hj) (by simp)

end Machine
end Sys2Proof
end

section
/-! Frames at the ports (02 R19-R33): the receive filter, ARP and neighbour discovery, echo, ANNOUNCE and PTP's delay requests. -/

namespace Sys2Proof
namespace Machine

/-! ### Octets of a header -/

/-- A field in the middle of an octet string. -/
theorem fieldAt_append (a b c : Bytes) {o n : Nat} (ho : a.length = o) (hn : b.length = n) : fieldAt (a ++ b ++ c) o n = beNat b := by
  subst ho hn
  rw [fieldAt, slice, List.append_assoc, List.drop_left, List.take_left]

variable {s : State} {p : Nat}

theorem fieldAt_headerOctets_seq (kind flags tenant queue handle seq opcode status detail length segIdx segCount cookie key credits : Nat) :
    fieldAt (headerOctets kind flags tenant queue handle seq opcode status detail length segIdx segCount cookie key credits) 8 8 = seq % 2 ^ 64 := by
  have h := fieldAt_append (beBytes 1 (2 * 16 + kind) ++ beBytes 1 flags ++ beBytes 1 tenant ++ beBytes 1 queue ++ beBytes 4 handle) (beBytes 8 seq)
    (beBytes 2 opcode ++ beBytes 1 status ++ beBytes 1 detail ++ beBytes 4 length ++ beBytes 2 segIdx ++ beBytes 2 segCount ++
      beBytes 4 cookie ++ beBytes 4 key ++ beBytes 2 (credits % 65536) ++ beBytes 2 0) (o := 8) (n := 8) (by simp) (by simp)
  rw [beNat_beBytes, show 256 ^ 8 = 2 ^ 64 from rfl] at h
  simpa only [headerOctets, List.append_assoc] using h

/-! ### Ports and PTP's ports -/

@[simp] theorem State.port_setPort_self (s : State) (p : Nat) (v : Port) : (s.setPort p v).port p = v := Map.getD_put_self ..

theorem State.port_setPort_of_ne (s : State) {p q : Nat} (v : Port) (h : q ≠ p) : (s.setPort p v).port q = s.port q := Map.getD_put_of_ne _ _ _ h

@[simp] theorem State.ptpPort_setPtpPort_self (s : State) (p : Nat) (v : PtpPort) : (s.setPtpPort p v).ptpPort p = v := Map.getD_put_self ..

theorem State.rd_inc (hw : Map.wf s.dict = true) (i a n : Nat) : (s.inc i a n).rd i a = (s.rd i a + n) % 2 ^ 64 := State.rd_wr_self hw _ _ _

theorem State.transmit_nil (s : State) : s.transmit [] = s := by
  unfold State.transmit
  rw [List.map_nil, List.append_nil]

theorem State.mem_wire_frame (s : State) {f : TxFrame} {fs : List TxFrame} (h : f ∈ fs) : ∃ w ∈ (s.transmit fs).tx, w.frame = f := by
  refine ⟨s.wire f, List.mem_append_right _ (List.mem_map_of_mem h), ?_⟩
  cases f <;> rfl

theorem State.mem_enqueueReserve (s : State) (i : ReserveItem) : i ∈ (s.enqueueReserve i).rwork := by
  show i ∈ if (s.rwork.filter s.standing).contains i then s.rwork.filter s.standing else s.rwork.filter s.standing ++ [i]
  split
  next h => exact List.contains_iff_mem.mp h
  · exact List.mem_append_right _ List.mem_cons_self

/-! ### The receive filter -/

/-- What R22 and R19 say of a frame that is dropped. -/
theorem State.badFrame_iff (s : State) (p : Nat) (f : EthFrame) : s.badFrame p f = true ↔
    (f.fcsOk = false ∨ s.rd (0x1400 + p) 4 < f.len ∨ (f.vlan ≠ none ∧ 9216 < f.len + 4) ∨ f.etherType = 0x8808 ∨
      match f.vlan with
        | some v => v % 4096 ≠ s.rd (0x1400 + p) 5 % 4096
        | none => s.rd (0x1400 + p) 5 % 4096 ≠ 0) := by
  unfold State.badFrame
  cases f.vlan <;> simp [or_assoc]

/-- A frame meant for the port: to a group, or to a port that it answers for. -/
theorem State.any_answers_mac (s : State) (p dst : Nat) :
    (bitAt dst 40 || (s.answersFor p).any (fun q => s.mac q == dst)) = true ↔ bitAt dst 40 = true ∨ ∃ q ∈ s.answersFor p, dst = s.mac q := by
  simp only [Bool.or_eq_true, List.any_eq_true, beq_iff_eq]
  simp only [eq_comm]

theorem inc_dropped (hw : Map.wf s.dict = true) (p : Nat) : GoesTo (.next (s.inc (0x1400 + p) 0x14 1))
    (fun t => t.rd (0x1400 + p) 0x14 = (s.rd (0x1400 + p) 0x14 + 1) % 2 ^ 64 ∧ t = { s with dict := t.dict }) :=
  ⟨_, rfl, State.rd_inc hw _ _ _, rfl⟩

section
variable {f : EthFrame}

theorem ethernetFrame_counted (hp : s.phase = .up) (hl : s.linkUp p = true)
    (h : s.badFrame p f = true ∨ (s.protocolOk p f = false ∧ (bitAt f.dst 40 = true ∨ ∃ q ∈ s.answersFor p, f.dst = s.mac q))) :
    exec (.ethernetFrameReceive p f) s = .next (s.inc (0x1400 + p) 0x14 1) := by
  refine when_of_true ?_
  rw [hp, hl]
  rcases h with hb | ⟨hk, ho⟩
  · rw [hb]; rfl
  · rw [hk, (s.any_answers_mac p f.dst).mpr ho, Bool.not_false, Bool.and_self, Bool.or_true]; rfl

theorem ethernetFrame_passed (hb : ¬ s.badFrame p f = true)
    (h : s.protocolOk p f = true ∨ ¬ (bitAt f.dst 40 = true ∨ ∃ q ∈ s.answersFor p, f.dst = s.mac q)) :
    exec (.ethernetFrameReceive p f) s = .next s := by
  refine when_of_false ?_
  rw [Bool.eq_false_of_not_eq_true hb]
  rcases h with hk | ho
  · rw [hk]; simp
  · rw [Bool.eq_false_of_not_eq_true (mt (s.any_answers_mac p f.dst).mp ho)]; simp

end

/-- Without a link a port takes nothing. -/
theorem linkless (h : s.phase ≠ .up ∨ s.linkUp p = false) {c : Bool} {t : State} : when (s.phase == .up && s.linkUp p && c) s t = .next s :=
  when_of_false (by rcases h with h | h <;> simp [h])

/-! ### ARP and neighbour solicitation -/

/-- The first of the ports that a port answers for: itself, where it holds the address. -/
theorem State.take_answers_self {c : Nat → Bool} (h : c p = true) : ((s.answersFor p).filter c).take 1 = [p] := by
  rw [State.answersFor, List.filter_cons_of_pos h]; rfl

/-- Where a port answers for the address, one port's answer goes out. -/
theorem State.take_answers_some {c : Nat → Bool} {q : Nat} (hq : q ∈ s.answersFor p) (h : c q = true) :
    ∃ k ∈ s.answersFor p, c k = true ∧ ((s.answersFor p).filter c).take 1 = [k] := by
  obtain ⟨k, ks, hk⟩ := List.exists_cons_of_ne_nil (List.ne_nil_of_mem (List.mem_filter.mpr ⟨hq, h⟩))
  obtain ⟨hm, hc⟩ := List.mem_filter.mp (hk ▸ List.mem_cons_self : k ∈ (s.answersFor p).filter c)
  exact ⟨k, hm, hc, by rw [hk]; rfl⟩

theorem State.take_answers_none {c : Nat → Bool} (h : ∀ q ∈ s.answersFor p, c q = false) : (s.answersFor p).filter c = [] :=
  List.filter_eq_nil_iff.mpr fun q hq => by simp [h q hq]

/-- What an answer sends, as `take 1` of the ports that hold the address gives it. -/
theorem answer_eq {c : Nat → Bool} {g : Nat → TxFrame} (hp : s.phase = .up) (hl : s.linkUp p = true) {ks : List Nat}
    (h : ((s.answersFor p).filter c).take 1 = ks) :
    when (s.phase == .up && s.linkUp p) s (s.transmit ((((s.answersFor p).filter c).take 1).map g)) = .next (s.transmit (ks.map g)) := by
  rw [h, hp, hl]; rfl

theorem no_answer_eq {c : Nat → Bool} {g : Nat → TxFrame}
    (h : s.phase ≠ .up ∨ s.linkUp p = false ∨ ∀ q ∈ s.answersFor p, c q = false) :
    when (s.phase == .up && s.linkUp p) s (s.transmit ((((s.answersFor p).filter c).take 1).map g)) = .next s := by
  rcases h with h | h | h
  · exact when_of_false (by simp [h])
  · exact when_of_false (by simp [h])
  · rw [State.take_answers_none h, List.take_nil, List.map_nil, State.transmit_nil]
    exact ite_self _

/-! ### ANNOUNCE -/

theorem announceInterval_made (hd : s.phase = .up ∧ s.linkUp p = true ∧ s.rd 0x1410 2 ≠ 0 ∧ s.failedOver p = false ∧ (s.port p).announce = none ∧
    (s.port p).announceDue ≤ s.clk.fab) : GoesTo (exec (.announceIntervalExpiry p) s) (fun t => (t.port p).announce = some (s.announceBody p) ∧
      (t.port p).announceDue = s.clk.fab + s.rd 0x1410 2 * 100 * 1250000 ∧ ReserveItem.announce p ∈ t.rwork ∧
      t = { s with ports := t.ports, rwork := t.rwork }) := by
  obtain ⟨hp, hl, hi, hf, hn, hd⟩ := hd
  refine ⟨_, when_of_true (by simp [hp, hl, hi, hf, hn, hd]), ?_, ?_, State.mem_enqueueReserve _ _, rfl⟩
  · exact congrArg Port.announce (State.port_setPort_self s p _)
  · exact congrArg Port.announceDue (State.port_setPort_self s p _)

theorem announceInterval_idle (hd : ¬ (s.phase = .up ∧ s.linkUp p = true ∧ s.rd 0x1410 2 ≠ 0 ∧ s.failedOver p = false ∧ (s.port p).announce = none ∧
    (s.port p).announceDue ≤ s.clk.fab)) : exec (.announceIntervalExpiry p) s = .next s := by
  refine when_of_false (Bool.eq_false_of_not_eq_true fun h => hd ?_)
  simp only [Bool.and_eq_true, beq_iff_eq, bne_iff_ne, Bool.not_eq_true', Option.isNone_iff_eq_none, decide_eq_true_eq] at h
  obtain ⟨⟨⟨⟨⟨hp, hl⟩, hi⟩, hf⟩, hn⟩, hd⟩ := h
  exact ⟨hp, hl, hi, hf, hn, hd⟩

/-- The frames of a signed ANNOUNCE body: its segments, for each encapsulation. -/
def State.announceFrames (s : State) (p q : Nat) (body : Bytes) : List TxFrame :=
  (s.announceEncaps p).flatMap (fun e =>
    let size := segmentSize (s.rd (0x1400 + p) 4) e
    let n := ceilDiv body.length size
    (List.range n).map (fun i => TxFrame.announce p e
      (headerOctets 0x9 (segFlags false i n) 0 0 0 q 0 0 0 body.length i n 0 0 0) (slice body (i * size) size)))

theorem le_segmentSize (maxFrame e : Nat) : 1392 ≤ segmentSize maxFrame e := by unfold segmentSize; split_ifs <;> omega

/-- The first segment for an encapsulation begins with the body's fixed part. -/
theorem State.announceFrames_first (s : State) (q : Nat) {b sig : Bytes} (hb : b ≠ []) (hl : b.length ≤ 1392) {e : Nat} (he : e ∈ s.announceEncaps p) :
    ∃ hdr pl, TxFrame.announce p e hdr pl ∈ s.announceFrames p q (b ++ sig) ∧ fieldAt hdr 8 8 = q % 2 ^ 64 ∧ pl.take b.length = b := by
  have hsize := le_segmentSize (s.rd (0x1400 + p) 4) e
  have hlen : 0 < b.length := List.length_pos_iff.mpr hb
  have hn : 0 < ceilDiv (b ++ sig).length (segmentSize (s.rd (0x1400 + p) 4) e) := Nat.div_pos (by rw [List.length_append]; omega) (by omega)
  refine ⟨_, _, List.mem_flatMap.mpr ⟨e, he, List.mem_map_of_mem (List.mem_range.mpr hn)⟩, fieldAt_headerOctets_seq .., ?_⟩
  rw [Nat.zero_mul, slice, List.drop_zero, List.take_take, Nat.min_eq_left (by omega), List.take_left]

theorem announceSend_sends {b : Bytes} (hb : (s.port p).announce = some b) (hp : s.phase = .up) (hr : s.reserveRuns (.announce p) = true) :
    exec (.announceSend p) s = .next (((s.dropReserve (.announce p)).setPort p { s.port p with announce := none, announceSeq := (s.port p).announceSeq + 1 }).transmit
      (s.announceFrames p (s.port p).announceSeq
        (b ++ s.idSign "ID-SIG" "NM72 ANNOUNCE" (beBytes 8 (s.port p).announceSeq ++ b)))) := by
  rw [exec_announceSend, execAnnounceSend]
  simp only [hb]
  exact if_neg (by simp [hp, hr])

theorem announceSend_idle (h : (s.port p).announce = none ∨ s.phase ≠ .up ∨ s.reserveRuns (.announce p) = false) :
    exec (.announceSend p) s = .next s := by
  rw [exec_announceSend, execAnnounceSend]
  cases hb : (s.port p).announce with
  | none => rfl
  | some b =>
    refine if_pos ?_
    rcases h with h | h | h
    · rw [hb] at h; cases h
    · exact .inl h
    · exact .inr (by rw [h]; rfl)

/-! ### Echo and PTP's delay request -/

section
variable {v6 : Bool} {b : Bytes} {n : Nat}

theorem echoRequest_answered (hp : s.phase = .up) (hl : s.linkUp p = true) (he : s.rd 0x1410 3 = 1) (hb : b.length ≤ 1472)
    (hn : (if (s.port p).echoSec = s.clk.datum / 1000000000 then (s.port p).echoCount else 0) = n) (h : n < 1000) :
    exec (.echoRequest p v6 b) s = .next ((s.setPort p { s.port p with echoSec := s.clk.datum / 1000000000, echoCount := n + 1 }).transmit [.echoReply p v6 b]) := by
  subst hn
  refine (when_of_true (by simp [hp, hl])).trans (congrArg _ (if_pos ⟨he, hb, h⟩))

theorem echoRequest_dropped (hp : s.phase = .up) (hl : s.linkUp p = true)
    (hn : (if (s.port p).echoSec = s.clk.datum / 1000000000 then (s.port p).echoCount else 0) = n)
    (h : s.rd 0x1410 3 ≠ 1 ∨ 1472 < b.length ∨ 1000 ≤ n) : exec (.echoRequest p v6 b) s = .next (s.inc (0x1400 + p) 0x14 1) := by
  subst hn
  refine (when_of_true (by simp [hp, hl])).trans (congrArg _ (if_neg fun ⟨he, hb, h'⟩ => ?_))
  rcases h with h | h | h
  · exact h he
  · exact absurd hb (by omega)
  · exact absurd h' (by omega)

end

/-- The condition under which PTP asks for the delay. -/
theorem asks_iff (s : State) (p : Nat) : (s.phase == .up && s.ptpOn p && (s.rd 0x1101 4 == 1 || (s.ptpPort p).master.isSome)) = true ↔
    s.phase = .up ∧ s.ptpOn p = true ∧ (s.rd 0x1101 4 = 1 ∨ (s.ptpPort p).master ≠ none) := by
  simp [Option.isSome_iff_ne_none, and_assoc]

/-- Settles O27, one kind of frame after another. -/
theorem portFramesComplete : Obligations.PortFramesComplete := by
  unfold Obligations.PortFramesComplete
  intro s p _ hw
  refine ⟨fun f => ⟨fun hp hl h => ?_, fun hb h => ?_, fun h => linkless h⟩, fun a => ⟨fun hp hl ha h => ?_, fun hp hl ha q hq h => ?_, fun h => ?_⟩,
    fun a => ⟨fun hp hl h => ?_, fun hp hl q hq h => ?_, fun h => ?_⟩, fun v6 b => ⟨fun hp hl he hb hn => echoRequest_answered hp hl he hb rfl hn,
      fun hp hl h => echoRequest_dropped (v6 := v6) hp hl rfl h ▸ inc_dropped hw p, fun h => when_of_false (by rcases h with h | h <;> simp [h])⟩,
    ⟨announceInterval_made, announceInterval_idle⟩, fun b hb hp hr => ?_, announceSend_idle, fun err => ⟨fun h => when_of_true ((asks_iff s p).mpr h),
      fun h => when_of_false (Bool.eq_false_of_not_eq_true (mt (asks_iff s p).mp h))⟩⟩
  · exact ethernetFrame_counted hp hl (h.imp_left (s.badFrame_iff p f).mpr) ▸ inc_dropped hw p
  · exact ethernetFrame_passed (fun hb' => hb ((s.badFrame_iff p f).mp hb')) h
  · have ha' : a.toNat ≠ 0 := fun h0 => ha (BitVec.eq_of_toNat_eq h0)
    exact answer_eq hp hl (State.take_answers_self (by simp [ha', h]))
  · have ha' : a.toNat ≠ 0 := fun h0 => ha (BitVec.eq_of_toNat_eq h0)
    obtain ⟨k, hk, hc, ht⟩ := State.take_answers_some (c := fun q => a.toNat != 0 && s.rd (0x1400 + q) 7 == a.toNat) hq (by simp [ha', h])
    simp only [Bool.and_eq_true, beq_iff_eq] at hc
    exact ⟨k, hk, hc.2, answer_eq hp hl ht⟩
  · refine no_answer_eq (h.imp_right (Or.imp_right fun h q hq => ?_))
    rcases h with h | h
    · simp [h]
    · simp [h q hq]
  · exact answer_eq hp hl (State.take_answers_self (by simpa using h))
  · obtain ⟨k, hk, hc, ht⟩ := State.take_answers_some (c := fun q => (s.ipv6s q).contains a.toNat) hq (by simpa using h)
    exact ⟨k, hk, by simpa using hc, answer_eq hp hl ht⟩
  · exact no_answer_eq (h.imp_right (Or.imp_right fun h q hq => by simpa using h q hq))
  · refine ⟨_, announceSend_sends hb hp hr, congrArg Port.announce (State.port_setPort_self _ p _), congrArg Port.announceSeq (State.port_setPort_self _ p _), rfl,
      ⟨_, rfl⟩, fun enc he hne hlen => ?_⟩
    obtain ⟨hdr, pl, hm, hseq, hpl⟩ := s.announceFrames_first (s.port p).announceSeq hne hlen he
    obtain ⟨w, hw, hf⟩ := State.mem_wire_frame _ hm
    exact ⟨w, hw, hdr, pl, hf, hseq, hpl⟩

end Machine
end Sys2Proof
end

section
/-! PTP and the datum (02 R33-R37): the choice of a master, offsets, the servo, steps and the datum's quality. -/

namespace Sys2Proof
namespace Machine

variable {s t u : State} {p : Nat}

theorem State.dict_notify (s : State) (cls : Nat) (tenant : Option Nat) (what : Nat) : (s.notify cls tenant what).dict = s.dict :=
  (Within.notify (k := Machine.parts [.tx, .chans]) rfl .refl).same .dict rfl

/-! ### Quality -/

/-- The acquisition begins again, at the instant where HOLDOVER begins. -/
def State.restarted (s : State) (q : Nat) : State := { s with ptp := { s.ptp.restart with holdoverAt := if q = 1 then s.clk.rtc else s.ptp.holdoverAt } }

theorem State.setQuality_same {q : Nat} (h : s.quality = q) : s.setQuality q = s := if_pos h

theorem State.setQuality_of_ne {q : Nat} (h : s.quality ≠ q) : s.setQuality q =
    (((s.restarted q).wr 0x1100 2 q).event 0x1100 8 (if q = 1 then 2 else if q = 0 then 4 else 0)).notify 0 none 1 := if_neg h

theorem Touches.setQuality {P : Nat → Prop} {q : Nat} (h : Touches P s t) (hP : P 0x1100) : Touches P s (t.setQuality q) := by
  by_cases hq : t.quality = q
  · rwa [State.setQuality_same hq]
  · rw [State.setQuality_of_ne hq]
    exact (((h.dict (u := t.restarted q) rfl).wr hP (by decide)).event hP (by decide)).dict (State.dict_notify _ _ _ _)

theorem State.rd_setQuality_of_ne (s : State) (q : Nat) {a : Nat} (ha : a < 256) (h2 : a ≠ 2) (h8 : a ≠ 8) :
    (s.setQuality q).rd 0x1100 a = s.rd 0x1100 a := by
  by_cases hq : s.quality = q
  · rw [State.setQuality_same hq]
  · rw [State.setQuality_of_ne hq, State.rd_congr (State.dict_notify _ _ _ _), State.rd_event, State.rd_wr_of_sub _ (by decide) ha (.inr h8),
      State.rd_wr_of_sub _ (by decide) ha (.inr h2)]
    rfl

theorem State.quality_setQuality (hw : Map.wf s.dict = true) (q : Nat) : (s.setQuality q).quality = q := by
  by_cases hq : s.quality = q
  · rwa [State.setQuality_same hq]
  · rw [State.setQuality_of_ne hq, State.quality, State.rd_congr (State.dict_notify _ _ _ _), State.rd_event,
      State.rd_wr_of_sub _ (by decide) (by decide) (.inr (by decide)), State.rd_wr_self (s := s.restarted q) hw]

/-- The acquisition begins again and nothing else of PTP changes. -/
theorem Ptp.restart_keeps (x : Ptp) : x.restart.cur = x.cur ∧ ∀ p, (Map.getD x.restart.ports p ptpInit).master = (Map.getD x.ports p ptpInit).master ∧
    (Map.getD x.restart.ports p ptpInit).sync = (Map.getD x.ports p ptpInit).sync := by
  unfold Ptp.restart
  split
  next c hc =>
    refine ⟨rfl, fun p => ?_⟩
    cases hf : Map.find x.ports c with
    | none => simp [Map.update, hf]
    | some v =>
      by_cases h : p = c
      · subst h; simp [Map.update, Map.getD, hf]
      · rw [Map.update, hf]
        exact ⟨congrArg _ (Map.getD_put_of_ne _ _ _ h), congrArg _ (Map.getD_put_of_ne _ _ _ h)⟩
  · exact ⟨rfl, fun p => ⟨rfl, rfl⟩⟩

theorem State.ptp_setQuality (s : State) (q : Nat) : (s.setQuality q).ptp.cur = s.ptp.cur ∧
    ((s.setQuality q).ptpPort p).master = (s.ptpPort p).master ∧ ((s.setQuality q).ptpPort p).sync = (s.ptpPort p).sync := by
  by_cases hq : s.quality = q
  · rw [State.setQuality_same hq]
    exact ⟨rfl, rfl, rfl⟩
  · have hn : (s.setQuality q).ptp = (s.restarted q).ptp := by
      rw [State.setQuality_of_ne hq]
      exact (Within.notify (k := Machine.parts [.dict, .dtx, .tx, .chans]) rfl (.event rfl (.wr rfl .refl))).same .ptp rfl
    obtain ⟨hc, hp⟩ := s.ptp.restart_keeps
    rw [State.ptpPort, State.ptpPort, hn]
    exact ⟨hc, hp p⟩

/-! ### The servo -/

/-- The increment stays within 500 ppm. -/
theorem servo_incr_bounds {a : Int} (h1 : -500000000 ≤ a) (h2 : a ≤ 500000000) :
    13737023399 ≤ ((13743895347 : Int) + 13743895347 * a / 1000000000000).toNat ∧ ((13743895347 : Int) + 13743895347 * a / 1000000000000).toNat ≤ 13750767294 := by
  omega

theorem State.servoAdj_bounds (s : State) : -500000000 ≤ s.servoAdj ∧ s.servoAdj ≤ 500000000 := by
  unfold State.servoAdj
  omega

theorem State.rd_servo (s : State) {a : Nat} (ha : a < 256) (h5 : a ≠ 5) : s.servo.rd 0x1100 a = s.rd 0x1100 a :=
  State.rd_wr_of_sub (s := s.drawn) _ (by decide) ha (.inr h5)

theorem State.wf_servo (hw : Map.wf s.dict = true) : Map.wf s.servo.dict = true := State.wf_wr (s := s.drawn) hw _ _ _

/-- An offset has been taken and the increment adjusted. -/
def Steers (s t : State) (off : Int) : Prop :=
  t.rd 0x1100 3 = twos 64 off ∧ t.clk.datum = s.clk.datum ∧ 13737023399 ≤ t.clk.incr ∧ t.clk.incr ≤ 13750767294

theorem Steers.setQuality {off : Int} (h : Steers s t off) (q : Nat) : Steers s (t.setQuality q) off := by
  have hc : (t.setQuality q).clk = t.clk := (Within.setQuality (k := Machine.parts [.dict, .dtx, .ptp, .tx, .chans]) rfl .refl).same .clk rfl
  unfold Steers
  rw [hc, State.rd_setQuality_of_ne _ _ (by decide) (by decide) (by decide)]
  exact h

theorem steers_servo {off : Int} (h : u.rd 0x1100 3 = twos 64 off) (hc : u.clk.datum = s.clk.datum) : Steers s u.servo off :=
  ⟨(State.rd_servo u (by decide) (by decide)).trans h, hc, servo_incr_bounds (State.servoAdj_bounds u).1 (State.servoAdj_bounds u).2⟩

/-! ### Steps -/

theorem Touches.accrue_refill {P : Nat → Prop} (h : Touches P s t) : Touches P s t.accrueAll.refill :=
  h.within (.refill (k := Machine.parts [.free, .jobs, .tenants, .units, .les]) rfl (.accrueAll rfl .refl)) rfl

/-- The lap runs from an instant on. -/
def State.lapFrom (s : State) (start : Nat) (short : Option Nat) (length fabAt : Nat) : State :=
  { s with lap := { s.lap with start := start, short := short, length := length, fabAt := fabAt } }

theorem State.dict_lapFrom (s : State) (start : Nat) (short : Option Nat) (length fabAt : Nat) : (s.lapFrom start short length fabAt).dict = s.dict := rfl

theorem State.lap_lapFrom (s : State) (start : Nat) (short : Option Nat) (length fabAt : Nat) : (s.lapFrom start short length fabAt).lap =
    { s.lap with start := start, short := short, length := length, fabAt := fabAt } := rfl

theorem State.beginLap_eq (s : State) (short : Option Nat) : s.beginLap short =
    if short.isSome then ((s.accrueAll.refill.takeLength.lapFrom s.clk.datum short s.lengthNow s.clk.fab).inc 0x1A00 6 1).event 0x1A00 0xC 1
    else (s.accrueAll.refill.takeLength.lapFrom s.clk.datum short s.lengthNow s.clk.fab).inc 0x1A00 6 1 := rfl

theorem Touches.beginLap {P : Nat → Prop} {short : Option Nat} (h : Touches P s t) (hP : P 0x1A00) : Touches P s (t.beginLap short) := by
  have ht : Touches P s t.accrueAll.refill.takeLength := by
    unfold State.takeLength
    exact .ite ((h.accrue_refill.wr hP (by decide)).event hP (by decide)) h.accrue_refill
  have hl : Touches P s (t.accrueAll.refill.takeLength.lapFrom t.clk.datum short t.lengthNow t.clk.fab) :=
    ht.dict (State.dict_lapFrom ..)
  rw [State.beginLap_eq]
  exact .ite ((hl.inc hP (by decide)).event hP (by decide)) (hl.inc hP (by decide))

theorem Touches.shortLap {P : Nat → Prop} (h : Touches P s t) (hP : P 0x1A00) : Touches P s t.shortLap := by
  unfold State.shortLap
  exact h.beginLap hP

theorem State.lap_beginLap (s : State) (short : Option Nat) : (s.beginLap short).lap.start = s.clk.datum ∧ (s.beginLap short).lap.short = short := by
  rw [State.beginLap_eq]
  split <;> exact ⟨rfl, rfl⟩

theorem State.lap_shortLap (s : State) : s.shortLap.lap.start = s.clk.datum ∧
    s.shortLap.lap.short = some ((s.clk.datum / (s.lengthNow * 1000) + 1) * (s.lengthNow * 1000) - s.clk.datum) := by
  unfold State.shortLap
  exact s.lap_beginLap _

theorem State.dict_finish_quiet (s : State) (r : JobRef) {status detail : Nat} {result : Bytes} {resKey : Option Nat} (h : isFaultStatus status = false) :
    (s.finish r status detail result resKey).dict = s.dict := by
  unfold State.finish
  split
  · rfl
  · split
    · rfl
    · split
      · exact (Within.sendNow (k := Machine.parts [.tx, .waits, .chans, .jobs, .units, .clus]) rfl (.freeEngines rfl .refl)).same .dict rfl
      · rw [State.countFault, h, Bool.false_and, if_neg Bool.false_ne_true]
        exact (Within.mapJob (k := Machine.parts [.jobs, .units, .clus]) rfl (.freeEngines rfl .refl)).same .dict rfl

theorem Touches.expireKeys {P : Nat → Prop} (h : Touches P s t) : Touches P s t.expireKeys := by
  unfold State.expireKeys
  extract_lets since ks l v
  have hv : Touches P s v := .foldl (h.dict rfl) fun u x hu => hu.dict (State.dict_finish_quiet u _ (status := 0x31) rfl)
  exact .foldl hv fun u x hu => .ite (hu.dict (State.dict_notify _ _ _ _)) hu

theorem Touches.dueActivities {P : Nat → Prop} (h : Touches P s t) (hP : P 0x3800) : Touches P s t.dueActivities := by
  have hc : Touches P s t.expireKeys.dueCheckpoint := by
    unfold State.dueCheckpoint
    exact (Touches.ite (h.expireKeys.checkpoint hP) h.expireKeys).dict rfl
  exact hc.within (.dueReseed (k := parts [.lap, .ent]) rfl .refl) rfl

/-- Activities that fall due leave the lap's start. -/
theorem State.lapStart_dueActivities (s : State) : s.dueActivities.lap.start = s.lap.start := by
  have hexp : s.expireKeys.lap.start = s.lap.start := by
    unfold State.expireKeys
    extract_lets since ks l v
    have hf : Within ending { s with lap := { s.lap with expiredTo := s.clk.maxDatum } } v := .foldl .refl fun u x hu => .finish rfl hu
    have hl : v.lap = { s.lap with expiredTo := s.clk.maxDatum } := hf.same .lap rfl
    have hv : v.lap.start = s.lap.start := by rw [hl]
    have hk : Within ending v (ks.foldl (fun u k => if since ≤ ofTime80 k.notAfter then u.notify 3 (some (keyTenant k.handle)) k.handle else u) v) :=
      .foldl .refl fun u x hu => .ite (.notify rfl hu) hu
    exact (congrArg Lap.start (hk.same .lap rfl)).trans hv
  exact hexp

/-- The datum has been moved and the step logged, counted and sent as an EVENT. -/
def State.stepLogged (s : State) (ns : Nat) : State :=
  ((({ s with clk := { s.clk with datum := ns, frac := 0, maxDatum := Nat.max s.clk.maxDatum ns } } : State).logRow 8 0 0xFF 0 0xFF 0
    (time80 s.clk.datum)).event 0x1100 8 1).notify 0 none 0

theorem State.stepDatum_eq (s : State) (ns : Nat) : s.stepDatum ns = (s.stepLogged ns).lengthWritten.shortLap.dueActivities := rfl

theorem State.datum_stepLogged (s : State) (ns : Nat) : (s.stepLogged ns).clk.datum = ns :=
  congrArg Clocks.datum ((Within.notify (k := Machine.parts [.dict, .dtx, .flt, .tx, .chans]) rfl (.event rfl (.logRow rfl .refl))).same .clk rfl)

theorem State.rd_stepLogged (s : State) (ns : Nat) {a : Nat} (ha : a < 256) (h8 : a ≠ 8) : (s.stepLogged ns).rd 0x1100 a = s.rd 0x1100 a := by
  unfold State.stepLogged
  rw [State.rd_congr (State.dict_notify _ _ _ _), State.rd_event, State.rd_wr_of_sub _ (by decide) ha (.inr h8), State.rd_logRow ha (by decide)]
  rfl

theorem State.clk_dueActivities (s : State) : s.dueActivities.clk = s.clk :=
  (Within.dueActivities (k := ending ||| Machine.parts [.lap, .rwork, .trav]) rfl .refl).same .clk rfl

theorem State.clk_shortLap (s : State) : s.shortLap.clk = s.clk :=
  (Within.shortLap (k := Machine.parts [.free, .dict, .dtx, .jobs, .tenants, .lap, .units, .les]) rfl .refl).same .clk rfl

theorem State.lengthWritten_keeps (s : State) : s.lengthWritten.dict = s.dict ∧ s.lengthWritten.clk = s.clk := by
  cases s
  exact ⟨rfl, rfl⟩

/-- What a step of the datum leaves: the new datum, from which a lap begins. -/
theorem State.stepDatum_steps (s : State) (ns : Nat) : (s.stepDatum ns).clk.datum = ns ∧ (s.stepDatum ns).lap.start = ns := by
  rw [State.stepDatum_eq, State.clk_dueActivities, State.clk_shortLap, State.lapStart_dueActivities, (State.lap_shortLap _).1,
    (State.lengthWritten_keeps _).2]
  exact ⟨s.datum_stepLogged ns, s.datum_stepLogged ns⟩

theorem Touches.lap_activities {P : Nat → Prop} (s : State) (hL : P 0x1A00) (hT : P 0x3800) : Touches P s s.lengthWritten.shortLap.dueActivities :=
  ((Touches.of_dict (s := s) (t := s.lengthWritten) s.lengthWritten_keeps.1).shortLap hL).dueActivities hT

theorem State.quality_stepDatum (s : State) (ns : Nat) : (s.stepDatum ns).quality = s.quality := by
  rw [State.stepDatum_eq]
  exact ((Touches.lap_activities (P := fun i => i = 0x1A00 ∨ i = 0x3800) _ (.inl rfl) (.inr rfl)).rd 0x1100 2 (by decide) (by decide)).trans
    (s.rd_stepLogged ns (by decide) (by decide))

theorem State.ptp_stepDatum (s : State) (ns : Nat) : (s.stepDatum ns).ptp = s.ptp :=
  (Within.stepDatum (k := ending ||| Machine.parts [.clk, .lap, .rwork, .trav, .flt]) rfl .refl).same .ptp rfl

/-! ### Sync messages -/

section
variable {x : PtpPort} {off : Int} {id : Nat} {t1 err : Int} {h : PtpHdr} {m : PtpMaster}

/-- The condition under which a port takes a message of PTP. -/
def Hears (s : State) (p : Nat) (h : PtpHdr) : Prop := s.phase = .up ∧ s.ptpOn p = true ∧ s.ptpFits h = true

theorem Hears.not_refused {c : Prop} (hh : Hears s p h) (hc : ¬ c) : ¬ (s.phase ≠ .up ∨ (!s.ptpOn p) = true ∨ (!s.ptpFits h) = true ∨ c) := by
  obtain ⟨hp, ho, hf⟩ := hh
  simp [hp, ho, hf, hc]

theorem refused_of_not_hears {c : Prop} (hh : ¬ Hears s p h) : s.phase ≠ .up ∨ (!s.ptpOn p) = true ∨ (!s.ptpFits h) = true ∨ c := by
  by_contra hn
  simp only [not_or, Bool.not_eq_true', Bool.not_eq_false] at hn
  exact hh ⟨not_not.mp hn.1, hn.2.1, hn.2.2.1⟩

/-- The state in which a Sync of the selected master has been stamped. -/
def State.stamped (s : State) (p : Nat) (t1 err : Int) : State := s.setPtpPort p { s.ptpPort p with sync := some (t1, s.stampNow err) }

theorem ptpSync_heard (hh : Hears s p h) (hm : (s.ptpPort p).master = some m) (hid : m.ident = id) :
    exec (.ptpSyncMessage ⟨p, err⟩ h id t1) s =
      (if s.ptp.cur = some p then .next ((s.stamped p t1 err).syncOn p (s.stampNow err - t1 - (s.ptpPort p).delay))
       else .next ((s.stamped p t1 err).setPtpPort p { (s.stamped p t1 err).ptpPort p with
         near := s.nearNow p (s.stampNow err - t1 - (s.ptpPort p).delay)
         good := if magnitude (s.stampNow err - t1 - (s.ptpPort p).delay) ≤ s.rd 0x1101 6 then (s.ptpPort p).good + 1 else 0 })) := by
  rw [exec_ptpSyncMessage, execPtpSyncMessage]
  extract_lets port x t2
  split
  case h_1 hnone => exact absurd (hnone.symm.trans hm) (by simp)
  case h_2 m' hm' =>
    obtain rfl : m' = m := Option.some.inj (hm'.symm.trans hm)
    exact if_neg (hh.not_refused (not_not.mpr hid))

theorem ptpSync_ignored (hn : ¬ Hears s p h ∨ ∀ m, (s.ptpPort p).master = some m → m.ident ≠ id) :
    exec (.ptpSyncMessage ⟨p, err⟩ h id t1) s = .next s := by
  rw [exec_ptpSyncMessage, execPtpSyncMessage]
  cases hm : (s.ptpPort p).master with
  | none => rfl
  | some m =>
    refine if_pos ?_
    rcases hn with hn | hn
    · exact refused_of_not_hears hn
    · exact .inr (.inr (.inr (hn m hm)))

/-- A Sync while LOCKED: it steers, and four bad ones in a row leave LOCKED. -/
theorem syncOn_locked (hw : Map.wf s.dict = true) (hq : s.quality = 2) (hx : s.ptpPort p = x) : Steers s (s.syncOn p off) off ∧
    (s.syncOn p off).quality = if s.rd 0x1101 7 < off.natAbs ∧ 3 ≤ x.bad then 1 else 2 := by
  subst hx
  unfold State.syncOn
  extract_lets x y w bad v good g
  have hs : Steers s v off := steers_servo (State.rd_wr_self hw _ _ _) rfl
  have hv : v.quality = 2 := (State.rd_servo _ (by decide) (by decide)).trans ((State.rd_wr_of_sub _ (by decide) (by decide) (.inr (by decide))).trans hq)
  have hwv : Map.wf v.dict = true := State.wf_servo (State.wf_wr hw _ _ _)
  have hbad : 4 ≤ bad ↔ s.rd 0x1101 7 < off.natAbs ∧ 3 ≤ (s.ptpPort p).bad := by
    show 4 ≤ (if s.rd 0x1101 7 < magnitude off then (s.ptpPort p).bad + 1 else 0) ↔ _
    unfold magnitude
    split <;> omega
  rw [if_pos hq]
  by_cases hb : 4 ≤ bad
  · rw [if_pos hb, if_pos (hbad.mp hb)]
    exact ⟨hs.setQuality 1, State.quality_setQuality hwv 1⟩
  · rw [if_neg hb, if_neg (mt hbad.mpr hb)]
    exact ⟨hs, hv⟩

/-- An offset beyond the threshold has been taken, once for the master, and nothing else. -/
def State.stepping (s : State) (p : Nat) (off : Int) : State :=
  (s.wr 0x1100 3 (twos 64 off)).setPtpPort p { s.ptpPort p with near := s.nearNow p off, good := 0, stepped := true }

theorem State.stepped_stepping (s : State) (p : Nat) (off : Int) : ((s.stepping p off).ptpPort p).stepped = true :=
  congrArg PtpPort.stepped (State.ptpPort_setPtpPort_self (s.wr 0x1100 3 (twos 64 off)) p _)

/-- The first offset beyond the threshold steps the datum. -/
theorem syncOn_steps (hq : s.quality ≠ 2) (hb : s.rd 0x1101 8 < off.natAbs) (hx : (s.ptpPort p).stepped = false) :
    (s.syncOn p off).clk.datum = ((s.clk.datum : Int) - off).toNat ∧ (s.syncOn p off).quality = s.quality ∧
      (s.syncOn p off).lap.start = (s.syncOn p off).clk.datum ∧ ((s.syncOn p off).ptpPort p).stepped = true := by
  have he : s.syncOn p off = (s.stepping p off).stepDatum ((s.clk.datum : Int) - off).toNat := by
    unfold State.syncOn
    exact (if_neg hq).trans (if_pos ⟨hb, by rw [hx]; rfl⟩)
  obtain ⟨hd, hl⟩ := (s.stepping p off).stepDatum_steps ((s.clk.datum : Int) - off).toNat
  rw [he]
  refine ⟨hd, (State.quality_stepDatum _ _).trans (State.rd_wr_of_sub _ (by decide) (by decide) (.inr (by decide))), hl.trans hd.symm, ?_⟩
  rw [State.ptpPort, State.ptp_stepDatum]
  exact s.stepped_stepping p off

/-- Else the Sync steers, and sixteen good ones in a row lock. -/
theorem syncOn_steers (hw : Map.wf s.dict = true) (hq : s.quality ≠ 2) (hx : s.ptpPort p = x) (hb : off.natAbs ≤ s.rd 0x1101 8 ∨ x.stepped = true) :
    Steers s (s.syncOn p off) off ∧ (s.syncOn p off).quality = if off.natAbs ≤ s.rd 0x1101 6 ∧ 15 ≤ x.good then 2 else s.quality := by
  subst hx
  unfold State.syncOn
  extract_lets x y w bad v good g
  have hs : Steers s g off := steers_servo (State.rd_wr_self hw _ _ _) rfl
  have hv : g.quality = s.quality := (State.rd_servo _ (by decide) (by decide)).trans (State.rd_wr_of_sub _ (by decide) (by decide) (.inr (by decide)))
  have hwv : Map.wf g.dict = true := State.wf_servo (State.wf_wr hw _ _ _)
  have hgood : 16 ≤ good ↔ off.natAbs ≤ s.rd 0x1101 6 ∧ 15 ≤ (s.ptpPort p).good := by
    show 16 ≤ (if magnitude off ≤ s.rd 0x1101 6 then (s.ptpPort p).good + 1 else 0) ↔ _
    unfold magnitude
    split <;> omega
  have hn : ¬ (s.rd 0x1101 8 < magnitude off ∧ (!y.stepped) = true) := by
    rintro ⟨h1, h2⟩
    rcases hb with hb | hb
    · exact absurd h1 (by unfold magnitude; omega)
    · rw [show y.stepped = true from hb] at h2; cases h2
  rw [if_neg hq, if_neg hn]
  by_cases hg : 16 ≤ good
  · rw [if_pos hg, if_pos (hgood.mp hg)]
    exact ⟨hs.setQuality 2, State.quality_setQuality hwv 2⟩
  · rw [if_neg hg, if_neg (mt hgood.mpr hg)]
    exact ⟨hs, hv⟩

/-- What the port that does not carry PTP remembers of a Sync. -/
theorem ptpSync_remembered (hh : Hears s p h) (hm : (s.ptpPort p).master = some m) (hid : m.ident = id) (hc : s.ptp.cur ≠ some p)
    (hoff : s.stampNow err - t1 - (s.ptpPort p).delay = off) : GoesTo (exec (.ptpSyncMessage ⟨p, err⟩ h id t1) s) (fun t =>
      (t.ptpPort p).sync = some (t1, s.stampNow err) ∧ (t.ptpPort p).near = (if off.natAbs ≤ s.rd 0x1101 6 then (s.ptpPort p).near + 1 else 0) ∧
        t.ptp.cur = s.ptp.cur ∧ t = { s with ptp := t.ptp }) := by
  subst hoff
  refine ⟨_, (ptpSync_heard hh hm hid).trans (if_neg hc), ?_, congrArg PtpPort.near (State.ptpPort_setPtpPort_self _ p _), rfl, rfl⟩
  rw [State.ptpPort_setPtpPort_self]
  exact congrArg PtpPort.sync (State.ptpPort_setPtpPort_self s p _)

/-- A Sync at the port that carries PTP, as the datum's law takes it. -/
theorem ptpSync_carried (hh : Hears s p h) (hm : (s.ptpPort p).master = some m) (hid : m.ident = id) (hc : s.ptp.cur = some p)
    (hoff : s.stampNow err - t1 - (s.ptpPort p).delay = off) {P : State → Prop} (hP : P ((s.stamped p t1 err).syncOn p off)) :
    GoesTo (exec (.ptpSyncMessage ⟨p, err⟩ h id t1) s) P := by
  subst hoff
  exact ⟨_, (ptpSync_heard hh hm hid).trans (if_pos hc), hP⟩

theorem State.ptpPort_stamped (s : State) (p : Nat) (t1 err : Int) :
    (s.stamped p t1 err).ptpPort p = { s.ptpPort p with sync := some (t1, s.stampNow err) } := State.ptpPort_setPtpPort_self s p _

end

/-! ### Announce messages and their loss -/

section
variable {h : PtpHdr} {m : PtpMaster} {i : Int} {n : Nat}

/-- The master is the one selected already. -/
def State.sameMaster (s : State) (p : Nat) (m : PtpMaster) : Bool :=
  match (s.ptpPort p).master with
  | some o => o.ident == m.ident
  | none => false

/-- What a port keeps of the master that it takes. -/
def State.chosenMaster (s : State) (p : Nat) (m : PtpMaster) (n : Nat) : State :=
  let x := { s.ptpPort p with master := some m, heard := s.clk.fab, interval := n * 5 / 4 }
  s.setPtpPort p (if s.sameMaster p m then x
    else { x with good := 0, near := 0, bad := 0, stepped := false, sync := none, asked := none })

theorem State.ptpPort_chosen (s : State) (p : Nat) (m : PtpMaster) (n : Nat) :
    ((s.chosenMaster p m n).ptpPort p).master = some m ∧ ((s.chosenMaster p m n).ptpPort p).heard = s.clk.fab := by
  unfold State.chosenMaster
  rw [State.ptpPort_setPtpPort_self]
  split <;> exact ⟨rfl, rfl⟩

theorem ptpAnnounce_chosen (hh : Hears s p h) (hm : ∀ k, (s.ptpPort p).master = some k → k.ident = m.ident ∨ m.rank < k.rank) :
    exec (.ptpAnnounceMessage p m ⟨h, i, n⟩) s = .next (if s.ptp.cur = some p then
      ((s.chosenMaster p m n).wr 0x1100 6 (m.ident % 2 ^ 80)).wr 0x1100 7 (twos 32 i) else s.chosenMaster p m n) := by
  rw [exec_ptpAnnounceMessage, execPtpAnnounceMessage]
  refine if_neg (hh.not_refused fun hk => ?_)
  cases hx : (s.ptpPort p).master with
  | none => rw [hx] at hk; cases hk
  | some k =>
    rw [hx] at hk
    have := hm k hx
    simp only [Bool.and_eq_true, bne_iff_ne, decide_eq_true_eq] at hk
    omega

theorem ptpAnnounce_kept {k : PtpMaster} (hx : (s.ptpPort p).master = some k) (hi : k.ident ≠ m.ident) (hr : k.rank ≤ m.rank) :
    exec (.ptpAnnounceMessage p m ⟨h, i, n⟩) s = .next s := by
  rw [exec_ptpAnnounceMessage, execPtpAnnounceMessage]
  refine if_pos (.inr (.inr (.inr ?_)))
  rw [hx]
  simp [hi, hr]

theorem ptpAnnounce_unheard (hh : ¬ Hears s p h) : exec (.ptpAnnounceMessage p m ⟨h, i, n⟩) s = .next s := by
  rw [exec_ptpAnnounceMessage, execPtpAnnounceMessage]
  exact if_pos (refused_of_not_hears hh)

/-- The better master is selected. -/
theorem ptpAnnounce_selects (hw : Map.wf s.dict = true) (hh : Hears s p h)
    (hm : ∀ k, (s.ptpPort p).master = some k → k.ident = m.ident ∨ m.rank < k.rank) : GoesTo (exec (.ptpAnnounceMessage p m ⟨h, i, n⟩) s) (fun t =>
      (t.ptpPort p).master = some m ∧ (t.ptpPort p).heard = s.clk.fab ∧ t.ptp.cur = s.ptp.cur ∧
      (s.ptp.cur = some p → t.rd 0x1100 6 = m.ident % 2 ^ 80 ∧ t.rd 0x1100 7 = twos 32 i) ∧ (¬ s.ptp.cur = some p → t.dict = s.dict) ∧
      t = { s with ptp := t.ptp, dict := t.dict }) := by
  refine ⟨_, ptpAnnounce_chosen hh hm, ?_⟩
  by_cases hc : s.ptp.cur = some p
  · rw [if_pos hc]
    refine ⟨(s.ptpPort_chosen p m n).1, (s.ptpPort_chosen p m n).2, rfl, fun _ => ⟨?_, State.rd_wr_self (State.wf_wr hw _ _ _) _ _ _⟩, fun h => absurd hc h, rfl⟩
    exact (State.rd_wr_of_sub _ (by decide) (by decide) (.inr (by decide))).trans (State.rd_wr_self hw _ _ _)
  · rw [if_neg hc]
    exact ⟨(s.ptpPort_chosen p m n).1, (s.ptpPort_chosen p m n).2, rfl, fun h => absurd h hc, fun _ => rfl, rfl⟩

/-- The port has forgotten its master. -/
def State.forgetful (s : State) (p : Nat) : State :=
  s.setPtpPort p { s.ptpPort p with master := none, good := 0, near := 0, bad := 0, stepped := false, sync := none, asked := none }

theorem State.ptpPort_forgetful (s : State) (p : Nat) : ((s.forgetful p).ptpPort p).master = none ∧ ((s.forgetful p).ptpPort p).sync = none := by
  rw [State.forgetful, State.ptpPort_setPtpPort_self]
  exact ⟨rfl, rfl⟩

theorem receiptTimeout_due (hp : s.phase = .up) (hn : s.noMaster p = true) : exec (.announceReceiptTimeout p) s =
    if s.ptp.cur = some p then
      match s.backupLocked with
      | some b => .next ((s.forgetful p).movePtp b)
      | none => .next (if s.quality = 2 then ((s.forgetful p).wr 0x1100 6 0).setQuality 1 else (s.forgetful p).wr 0x1100 6 0)
    else when (s.ptpBackup == some p) s (s.forgetful p) := by
  rw [exec_announceReceiptTimeout, execAnnounceReceiptTimeout]
  exact if_neg (by simp [hp, hn])

theorem receiptTimeout_idle (h : s.phase ≠ .up ∨ s.noMaster p = false ∨ (¬ s.ptp.cur = some p ∧ s.ptpBackup ≠ some p)) :
    exec (.announceReceiptTimeout p) s = .next s := by
  rw [exec_announceReceiptTimeout, execAnnounceReceiptTimeout]
  extract_lets t
  by_cases hg : s.phase ≠ .up ∨ (!s.noMaster p) = true
  · exact if_pos hg
  · rw [if_neg hg]
    rcases h with h | h | ⟨hc, hb⟩
    · exact absurd (.inl h) hg
    · exact absurd (.inr (by rw [h]; rfl)) hg
    · exact (if_neg hc).trans (when_of_false (by simpa using hb))

/-- With no locked backup the datum loses its master. -/
theorem receiptTimeout_holds (hw : Map.wf s.dict = true) (hp : s.phase = .up) (hn : s.noMaster p = true) (hc : s.ptp.cur = some p)
    (hb : s.backupLocked = none) : GoesTo (exec (.announceReceiptTimeout p) s) (fun t => ((t.ptpPort p).master = none ∧ (t.ptpPort p).sync = none) ∧
      t.ptp.cur = some p ∧ t.rd 0x1100 6 = 0 ∧ t.quality = (if s.quality = 2 then 1 else s.quality)) := by
  have he : exec (.announceReceiptTimeout p) s =
      .next (if s.quality = 2 then ((s.forgetful p).wr 0x1100 6 0).setQuality 1 else (s.forgetful p).wr 0x1100 6 0) := by
    rw [receiptTimeout_due hp hn, if_pos hc, hb]
  have h6 : ((s.forgetful p).wr 0x1100 6 0).rd 0x1100 6 = 0 := State.rd_wr_self (s := s.forgetful p) hw _ _ _
  refine ⟨_, he, ?_⟩
  split
  · obtain ⟨hcur, hmas, hsyn⟩ := ((s.forgetful p).wr 0x1100 6 0).ptp_setQuality (p := p) 1
    exact ⟨⟨hmas.trans (s.ptpPort_forgetful p).1, hsyn.trans (s.ptpPort_forgetful p).2⟩, hcur.trans hc,
      (State.rd_setQuality_of_ne _ _ (by decide) (by decide) (by decide)).trans h6, State.quality_setQuality (State.wf_wr (s := s.forgetful p) hw _ _ _) 1⟩
  · exact ⟨s.ptpPort_forgetful p, hc, h6, State.rd_wr_of_sub (s := s.forgetful p) _ (by decide) (by decide) (.inr (by decide))⟩

theorem receiptTimeout_moves {q : Nat} (hp : s.phase = .up) (hn : s.noMaster p = true) (hc : s.ptp.cur = some p) (hb : s.backupLocked = some q) :
    GoesTo (exec (.announceReceiptTimeout p) s) (fun t => t.ptp.cur = some q ∧ t.quality = s.quality ∧ t = { s with ptp := t.ptp, dict := t.dict }) := by
  have he : exec (.announceReceiptTimeout p) s = .next ((s.forgetful p).movePtp q) := by rw [receiptTimeout_due hp hn, if_pos hc, hb]
  exact ⟨_, he, rfl, State.rd_wr_of_sub _ (by decide) (by decide) (.inr (by decide)), rfl⟩

/-- HOLDOVER's limit has passed. -/
theorem holdoverOver_iff (s : State) : (s.phase == .up && s.holdoverOver) = true ↔
    s.phase = .up ∧ s.quality = 1 ∧ s.ptp.holdoverAt + s.rd 0x1101 9 * 1000000000 < s.clk.rtc := by
  simp [State.holdoverOver]

end

/-! ### Delay responses -/

section
variable {h : PtpHdr} {rx tx err : Int}

theorem ptpDelay_measured {d : Int} (hw : Map.wf s.dict = true) (hh : Hears s p h) (hd : s.pathDelay ⟨p, err⟩ ⟨rx, tx⟩ = some d) :
    GoesTo (exec (.ptpDelayResponse ⟨p, err⟩ h ⟨rx, tx⟩) s) (fun t => (t.ptpPort p).delay = d ∧ (t.ptpPort p).asked = none ∧
      (s.ptp.cur = some p → 0 ≤ d → t.rd 0x1100 4 = d.toNat % 2 ^ 32) ∧ (¬ s.ptp.cur = some p → t.dict = s.dict) ∧
      t = { s with ptp := t.ptp, dict := t.dict }) := by
  obtain ⟨hp, ho, hf⟩ := hh
  have hg : (s.phase == .up && s.ptpOn p && s.ptpFits h) = true := by simp [hp, ho, hf]
  have he : exec (.ptpDelayResponse ⟨p, err⟩ h ⟨rx, tx⟩) s = .next (if s.ptp.cur = some p then
      (s.setPtpPort p { s.ptpPort p with delay := d, asked := none }).wr 0x1100 4 ((if d < 0 then Config.unstated 50 [magnitude d] else d.toNat) % 2 ^ 32)
      else s.setPtpPort p { s.ptpPort p with delay := d, asked := none }) := by
    rw [exec_ptpDelayResponse, execPtpDelayResponse, hd]
    exact when_of_true hg
  refine ⟨_, he, ?_⟩
  have hx := State.ptpPort_setPtpPort_self s p { s.ptpPort p with delay := d, asked := none }
  by_cases hc : s.ptp.cur = some p
  · rw [if_pos hc]
    refine ⟨congrArg PtpPort.delay hx, congrArg PtpPort.asked hx, fun _ h0 => ?_, fun hn => absurd hc hn, rfl⟩
    rw [if_neg (by omega), State.rd_wr_self (s := s.setPtpPort p _) hw]
  · rw [if_neg hc]
    exact ⟨congrArg PtpPort.delay hx, congrArg PtpPort.asked hx, fun h => absurd h hc, fun _ => rfl, rfl⟩

theorem ptpDelay_ignored (hn : ¬ Hears s p h ∨ s.pathDelay ⟨p, err⟩ ⟨rx, tx⟩ = none) : exec (.ptpDelayResponse ⟨p, err⟩ h ⟨rx, tx⟩) s = .next s := by
  rw [exec_ptpDelayResponse, execPtpDelayResponse]
  cases hd : s.pathDelay ⟨p, err⟩ ⟨rx, tx⟩ with
  | none => rfl
  | some d =>
    refine when_of_false (Bool.eq_false_of_not_eq_true fun hg => ?_)
    simp only [Bool.and_eq_true, beq_iff_eq] at hg
    rcases hn with hn | hn
    · exact hn ⟨hg.1.1, hg.1.2, hg.2⟩
    · rw [hd] at hn; cases hn

theorem State.pathDelay_peer {t3 : Int} (ha : (s.ptpPort p).asked = some t3) (h1 : s.rd 0x1101 4 = 1) :
    s.pathDelay ⟨p, err⟩ ⟨rx, tx⟩ = some (((s.stampNow err - t3) - (tx - rx)) / 2) := by
  rw [State.pathDelay, ha]
  exact if_pos h1

theorem State.pathDelay_end {t1 t2 t3 : Int} (ha : (s.ptpPort p).asked = some t3) (h1 : s.rd 0x1101 4 ≠ 1) (hs : (s.ptpPort p).sync = some (t1, t2)) :
    s.pathDelay ⟨p, err⟩ ⟨rx, tx⟩ = some (((t2 - t1) + (rx - t3)) / 2) := by
  rw [State.pathDelay, ha]
  exact (if_neg h1).trans (by rw [hs])

theorem State.pathDelay_none (h : (s.ptpPort p).asked = none ∨ (s.rd 0x1101 4 ≠ 1 ∧ (s.ptpPort p).sync = none)) :
    s.pathDelay ⟨p, err⟩ ⟨rx, tx⟩ = none := by
  rw [State.pathDelay]
  rcases h with h | ⟨h1, hs⟩
  · rw [h]
  · cases (s.ptpPort p).asked with
    | none => rfl
    | some t3 => exact (if_neg h1).trans (by rw [hs])

end

/-- Settles O28, one event of PTP after another. -/
theorem datumEventsComplete : Obligations.DatumEventsComplete := by
  unfold Obligations.DatumEventsComplete
  intro s p h hw
  refine ⟨fun m i n => ⟨ptpAnnounce_selects hw, fun k => ptpAnnounce_kept, ptpAnnounce_unheard⟩,
    fun id t1 err => ⟨fun m hh hm hid => ⟨fun hc hq => ?_, fun hc hq hb hx => ?_, fun hc hq hb => ?_, fun hc => ptpSync_remembered hh hm hid hc rfl⟩,
      ptpSync_ignored⟩,
    fun rx tx err => ⟨fun t3 hh ha h1 => ptpDelay_measured hw hh (State.pathDelay_peer ha h1),
      fun t1 t2 t3 hh ha h1 hs => ptpDelay_measured hw hh (State.pathDelay_end ha h1 hs), fun hn => ptpDelay_ignored (hn.imp_right State.pathDelay_none)⟩,
    ⟨receiptTimeout_holds hw, fun q => receiptTimeout_moves, fun hp hn hc hb => ?_, receiptTimeout_idle⟩, fun he => ?_,
    fun he => when_of_false (Bool.eq_false_of_not_eq_true (mt (holdoverOver_iff s).mp he))⟩
  · obtain ⟨hst, hqu⟩ := syncOn_locked (s := s.stamped p t1 err) (off := s.stampNow err - t1 - (s.ptpPort p).delay) hw hq (s.ptpPort_stamped p t1 err)
    exact ptpSync_carried hh hm hid hc rfl ⟨hst, hqu⟩
  · exact ptpSync_carried hh hm hid hc rfl
      (syncOn_steps (s := s.stamped p t1 err) hq hb ((congrArg PtpPort.stepped (s.ptpPort_stamped p t1 err)).trans hx))
  · obtain ⟨hst, hqu⟩ := syncOn_steers (s := s.stamped p t1 err) hw hq (s.ptpPort_stamped p t1 err) hb
    exact ptpSync_carried hh hm hid hc rfl ⟨hst, hqu⟩
  · exact ⟨_, (receiptTimeout_due hp hn).trans ((if_neg hc).trans (when_of_true (by simpa using hb))), s.ptpPort_forgetful p, rfl, rfl⟩
  · exact ⟨_, when_of_true ((holdoverOver_iff s).mpr he), State.quality_setQuality hw 0,
      (Within.setQuality (k := parts [.dict, .dtx, .ptp, .tx, .chans]) rfl .refl).eq_keepBut⟩

end Machine
end Sys2Proof
end

section
/-! Links of the ports (02 R19-R38, 20 R433): failover and failback, links that come up and go down, and the loss of REFCLK_SD. -/

namespace Sys2Proof
namespace Machine

variable {s t u : State} {p q n : Nat}

/-- A fold that keeps `I` comes to `G` where one of its steps leads from `I` to `G` and every step keeps `G`. -/
theorem foldl_reaches {α β : Type} {f : β → α → β} {I G : β → Prop} {l : List α} {x : α} (hx : x ∈ l) {b : β} (hb : I b)
    (hI : ∀ b y, y ∈ l → I b → I (f b y)) (hG : ∀ b y, y ∈ l → G b → G (f b y)) (hIG : ∀ b, I b → G (f b x)) : G (l.foldl f b) := by
  have hkeep : ∀ (l' : List α), (∀ y ∈ l', y ∈ l) → ∀ b, G b → G (l'.foldl f b) := fun l' hl b h =>
    List.foldlRecOn (motive := G) _ _ h fun b h y hy => hG b y (hl y hy) h
  have key : ∀ (l' : List α), (∀ y ∈ l', y ∈ l) → x ∈ l' → ∀ b, I b → G (l'.foldl f b) := fun l' => by
    induction l' with
    | nil => exact fun _ h => absurd h List.not_mem_nil
    | cons y l' ih =>
      intro hl hm b h
      rcases List.mem_cons.mp hm with rfl | hm
      · exact hkeep l' (fun z hz => hl z (List.mem_cons_of_mem _ hz)) _ (hIG b h)
      · exact ih (fun z hz => hl z (List.mem_cons_of_mem _ hz)) hm _ (hI b y (hl y List.mem_cons_self) h)
  exact key l (fun _ h => h) hx b hb

/-! ### Tenants -/

@[simp] theorem State.ten_setTen_self (s : State) (n : Nat) (v : Tenant) : (s.setTen n v).ten n = v := Map.getD_put_self ..

theorem State.ten_setTen_of_ne (s : State) {n m : Nat} (v : Tenant) (h : m ≠ n) : (s.setTen n v).ten m = s.ten m := Map.getD_put_of_ne _ _ _ h

theorem State.ten_congr (h : t.tenants = s.tenants) (n : Nat) : t.ten n = s.ten n := by rw [State.ten, State.ten, h]

/-- The tenants of a list are carried by port `q` from now on. -/
def State.moveAll (s : State) (q : Nat) (l : List Nat) : State := l.foldl (fun u i => u.setTen i { u.ten i with moved := some q }) s

theorem State.ten_moveAll (q : Nat) (l : List Nat) : ∀ s : State, (s.moveAll q l).ten n = if n ∈ l then { s.ten n with moved := some q } else s.ten n := by
  induction l with
  | nil => exact fun s => rfl
  | cons i l ih =>
    intro s
    refine (ih _).trans ?_
    by_cases h : n = i
    · subst h; simp
    · simp [h, s.ten_setTen_of_ne _ h]

theorem State.mem_tenants_moveAll (q : Nat) (l : List Nat) : ∀ (s : State), ∀ x ∈ (s.moveAll q l).tenants, x.2.moved = some q ∨ x ∈ s.tenants := by
  induction l with
  | nil => exact fun s x hx => .inr hx
  | cons i l ih =>
    intro s x hx
    rcases ih _ x hx with h | h
    · exact .inl h
    · rcases Map.mem_put _ _ _ _ h with rfl | h
      · exact .inl rfl
      · exact .inr h

theorem State.within_moveAll (s : State) (q : Nat) (l : List Nat) : Within (Machine.parts [.tenants]) s (s.moveAll q l) :=
  .foldl .refl fun _ _ h => .setTen rfl h

/-! ### Failover -/

/-- A failover from `p` to `q` takes place. -/
def State.failsOver (s : State) (p q : Nat) : Prop := ¬ (s.linkUp p ∨ !s.linkUp q ∨ p = q ∨ s.movers p q = [])

/-- The notice of a first failover. -/
def State.failoverNoted (s : State) (p q : Nat) : State :=
  (((s.event (0x1400 + p) 0x13 2).logRow 7 8 0xFF p 0xFF 0 0).notify 1 (some 0) p).proclaim q p

theorem State.failover_of_not (h : ¬ s.failsOver p q) : s.failover p q = s := if_pos (not_not.mp h)

theorem State.failover_of (h : s.failsOver p q) : s.failover p q =
    if !s.standsIn q p then (s.moveAll q (s.movers p q)).failoverNoted p q else s.moveAll q (s.movers p q) := if_neg h

theorem State.tenants_failover (h : s.failsOver p q) : (s.failover p q).tenants = (s.moveAll q (s.movers p q)).tenants := by
  rw [State.failover_of h]
  split
  · exact (Within.proclaim (k := Machine.parts [.dict, .dtx, .tx, .chans, .flt]) rfl (.notify rfl (.logRow rfl (.event rfl .refl)))).same .tenants rfl
  · rfl

theorem State.mem_movers : n ∈ s.movers p q ↔ n < 64 ∧ s.rd (0x1440 + n) 1 = p ∧ s.rd (0x1440 + n) 2 = q ∧ (s.ten n).moved = none := by
  simp [State.movers, and_assoc]

/-- What a tenant has after a failover: it is moved where it is bound to the two ports and not moved yet. -/
theorem State.ten_failover : (s.failover p q).ten n = s.ten n ∨
    ((s.failover p q).ten n = { s.ten n with moved := some q } ∧ s.failsOver p q ∧ n ∈ s.movers p q) := by
  by_cases h : s.failsOver p q
  · rw [State.ten_congr (State.tenants_failover h), State.ten_moveAll]
    split
    next hn => exact .inr ⟨rfl, h, hn⟩
    · exact .inl rfl
  · exact .inl (by rw [State.failover_of_not h])

theorem State.ten_failover_of (h : s.failsOver p q) (hn : n ∈ s.movers p q) : ((s.failover p q).ten n).moved = some q := by
  rw [State.ten_congr (State.tenants_failover h), State.ten_moveAll, if_pos hn]

/-! ### Flags of event entries -/

theorem testBit_orFlags (a b : Nat) {i : Nat} (hi : i < 8) : (orFlags a b).testBit i = (a.testBit i || b.testBit i) := by
  rw [orFlags, BitVec.toNat_or, Nat.testBit_or, BitVec.toNat_ofNat, BitVec.toNat_ofNat, Nat.testBit_mod_two_pow, Nat.testBit_mod_two_pow,
    decide_eq_true hi, Bool.true_and, Bool.true_and]

/-- An occurrence sets its flags and takes none back. -/
theorem bitAt_eventAdd (v f : Nat) {i : Nat} (hi : i < 8) : bitAt (eventAdd v f) i = (bitAt v i || bitAt f i) := by
  have hlt : orFlags (v % 256) f < 2 ^ 8 := BitVec.isLt _
  have hm : eventAdd v f % 2 ^ 8 = orFlags (v % 256) f := by
    unfold eventAdd
    rw [show (256 : Nat) = 2 ^ 8 from rfl] at hlt ⊢
    rw [Nat.mul_add_mod', Nat.mod_eq_of_lt hlt]
  have ht : ∀ w : Nat, (w % 2 ^ 8).testBit i = w.testBit i := fun w => by rw [Nat.testBit_mod_two_pow, decide_eq_true hi, Bool.true_and]
  rw [bitAt_eq_testBit, bitAt_eq_testBit, bitAt_eq_testBit, ← ht, hm, testBit_orFlags _ _ hi, show (256 : Nat) = 2 ^ 8 from rfl, ht]

/-! ### What failovers leave -/

theorem Touches.logRow {P : Nat → Prop} {kind unitType cluster unit tenant status record : Nat} (h : Touches P s t) (hP : P 0x4800) :
    Touches P s (t.logRow kind unitType cluster unit tenant status record) := by
  unfold State.logRow
  extract_lets e f v
  exact .ite (h.dict rfl) (((h.dict (u := v) rfl).wr hP (by decide)).dict rfl)

/-- What failovers leave of the dictionary: everything but the event log's entry, and LINK_EVENTS of ports that are down, whose flags only rise. -/
structure LinksKept (s t : State) : Prop where
  wf : Map.wf t.dict = true
  rd : ∀ i a, a < 256 → i ≠ 0x4800 → a ≠ 0x13 → t.rd i a = s.rd i a
  up : ∀ p, p < 4 → s.linkUp p = true → t.rd (0x1400 + p) 0x13 = s.rd (0x1400 + p) 0x13
  flag : ∀ p, p < 4 → bitAt (s.rd (0x1400 + p) 0x13) 0 = true → bitAt (t.rd (0x1400 + p) 0x13) 0 = true

namespace LinksKept

theorem linkUp (h : LinksKept s t) (hp : p < 4) : t.linkUp p = s.linkUp p := by
  rw [State.linkUp, State.linkUp, h.rd _ _ (by decide) (by omega) (by decide)]

theorem refl (hw : Map.wf s.dict = true) : LinksKept s s := ⟨hw, fun _ _ _ _ _ => rfl, fun _ _ _ => rfl, fun _ _ => id⟩

theorem dict (h : LinksKept s t) (hd : u.dict = t.dict) : LinksKept s u :=
  ⟨hd ▸ h.wf, fun i a ha hi h13 => (State.rd_congr hd i a).trans (h.rd i a ha hi h13), fun p hp hu => (State.rd_congr hd _ _).trans (h.up p hp hu),
    fun p hp hb => by rw [State.rd_congr hd]; exact h.flag p hp hb⟩

/-- A failover from a port that is down. -/
theorem noted (h : LinksKept s t) (hp : p < 4) (hl : s.linkUp p = false) : LinksKept s (t.failoverNoted p q) := by
  have hd : (t.failoverNoted p q).dict = ((t.event (0x1400 + p) 0x13 2).logRow 7 8 0xFF p 0xFF 0 0).dict :=
    (Within.proclaim (k := parts [.tx, .chans]) rfl (.notify rfl .refl)).same .dict rfl
  have hr : ∀ i a, a < 256 → i ≠ 0x4800 → i ≠ 0x1400 + p ∨ a ≠ 0x13 → (t.failoverNoted p q).rd i a = t.rd i a := fun i a ha hi hne => by
    rw [State.rd_congr hd, State.rd_logRow ha hi, State.rd_event, State.rd_wr_of_sub _ (by decide) ha hne]
  have hself : (t.failoverNoted p q).rd (0x1400 + p) 0x13 = eventAdd (t.rd (0x1400 + p) 0x13) 2 := by
    rw [State.rd_congr hd, State.rd_logRow (by decide) (by omega), State.rd_event, State.rd_wr_self h.wf]
  refine ⟨?_, fun i a ha hi h13 => (hr i a ha hi (.inr h13)).trans (h.rd i a ha hi h13), fun k hk hu => ?_, fun k hk hb => ?_⟩
  · rw [hd]
    have ht : Touches (fun _ => True) t ((t.event (0x1400 + p) 0x13 2).logRow 7 8 0xFF p 0xFF 0 0) :=
      (Touches.refl.event trivial (by decide)).logRow trivial
    exact ht.wf h.wf
  · have hne : k ≠ p := fun he => by rw [he, hl] at hu; cases hu
    exact (hr _ _ (by decide) (by omega) (.inl (by omega))).trans (h.up k hk hu)
  · by_cases he : k = p
    · subst he
      rw [hself, bitAt_eventAdd _ _ (by decide), h.flag k hk hb, Bool.true_or]
    · rw [hr _ _ (by decide) (by omega) (.inl (by omega))]
      exact h.flag k hk hb

theorem failover (h : LinksKept s t) (hp : p < 4) : LinksKept s (t.failover p q) := by
  by_cases hf : t.failsOver p q
  · have hl : s.linkUp p = false := by
      rw [← h.linkUp hp]
      exact Bool.eq_false_of_not_eq_true fun hu => hf (.inl hu)
    have hm : LinksKept s (t.moveAll q (t.movers p q)) := h.dict ((State.within_moveAll _ _ _).same .dict rfl)
    rw [State.failover_of hf]
    split
    · exact hm.noted hp hl
    · exact hm
  · rwa [State.failover_of_not hf]

/-- Every failover there is. -/
theorem failovers (h : LinksKept s t) : LinksKept s t.failovers := by
  refine dict (t := (List.range 4).foldl (fun u p => (List.range 4).foldl (fun u q => u.failover p q) u) t) ?_
    ((Within.sendWaiting (k := parts [.tx, .waits, .chans]) rfl .refl).same .dict rfl)
  exact List.foldlRecOn (motive := LinksKept s) _ _ h fun u hu p hp => List.foldlRecOn (motive := LinksKept s) _ _ hu fun v hv q _ => hv.failover (List.mem_range.mp hp)

end LinksKept

/-! ### What failovers do to tenants -/

theorem State.tenants_sendWaiting (s : State) : s.sendWaiting.tenants = s.tenants :=
  (Within.sendWaiting (k := Machine.parts [.tx, .waits, .chans]) rfl .refl).same .tenants rfl

theorem State.failovers_mem_tenants {k : Nat} (hk : s.linkUp k = false) (hk4 : k < 4) (hw : Map.wf s.dict = true) (h : ∀ x ∈ s.tenants, x.2.moved ≠ some k) :
    ∀ x ∈ s.failovers.tenants, x.2.moved ≠ some k := by
  have step : ∀ u p q, p < 4 → LinksKept s u ∧ (∀ x ∈ u.tenants, x.2.moved ≠ some k) →
      LinksKept s (u.failover p q) ∧ ∀ x ∈ (u.failover p q).tenants, x.2.moved ≠ some k := fun u p q hp ⟨hl, ht⟩ => by
    refine ⟨hl.failover hp, fun x hx => ?_⟩
    by_cases hf : u.failsOver p q
    · rw [State.tenants_failover hf] at hx
      rcases State.mem_tenants_moveAll q _ _ x hx with hm | hm
      · rw [hm]
        intro he
        obtain rfl : q = k := Option.some.inj he
        rw [← hl.linkUp hk4] at hk
        exact hf (.inr (.inl (by rw [hk]; rfl)))
      · exact ht x hm
    · rw [State.failover_of_not hf] at hx
      exact ht x hx
  let I : State → Prop := fun u => LinksKept s u ∧ ∀ x ∈ u.tenants, x.2.moved ≠ some k
  have hall : I ((List.range 4).foldl (fun u p => (List.range 4).foldl (fun u q => u.failover p q) u) s) :=
    List.foldlRecOn (motive := I) _ _ ⟨.refl hw, h⟩ fun u hu p hp => List.foldlRecOn (motive := I) _ _ hu fun v hv q _ => step v p q (List.mem_range.mp hp) hv
  unfold State.failovers
  rw [State.tenants_sendWaiting]
  exact hall.2

/-- A tenant whose primary is down and whose alternate is up is carried by the alternate. -/
theorem State.failovers_moves (hw : Map.wf s.dict = true) (hn : n < 64) (hp : p < 4) (hq : q < 4) (h1 : s.rd (0x1440 + n) 1 = p) (h2 : s.rd (0x1440 + n) 2 = q)
    (hne : p ≠ q) (hm : (s.ten n).moved = none) (hd : s.linkUp p = false) (hu : s.linkUp q = true) : (s.failovers.ten n).moved = some q := by
  have hbound : ∀ u, LinksKept s u → u.rd (0x1440 + n) 1 = p ∧ u.rd (0x1440 + n) 2 = q := fun u hl =>
    ⟨(hl.rd _ _ (by decide) (by omega) (by decide)).trans h1, (hl.rd _ _ (by decide) (by omega) (by decide)).trans h2⟩
  have step : ∀ u p' q', p' < 4 → LinksKept s u → LinksKept s (u.failover p' q') ∧
      (((u.failover p' q').ten n).moved = (u.ten n).moved ∨ ((u.failover p' q').ten n).moved = some q ∧ (u.ten n).moved = none) := fun u p' q' hp' hl => by
    refine ⟨hl.failover hp', ?_⟩
    rcases State.ten_failover (s := u) (p := p') (q := q') (n := n) with he | ⟨he, -, hmem⟩
    · exact .inl (by rw [he])
    · obtain ⟨-, -, hq', hnone⟩ := State.mem_movers.mp hmem
      refine .inr ⟨?_, hnone⟩
      rw [he, ← hq', (hbound u hl).2]
  let I : State → Prop := fun u => LinksKept s u ∧ ((u.ten n).moved = none ∨ (u.ten n).moved = some q)
  let G : State → Prop := fun u => LinksKept s u ∧ (u.ten n).moved = some q
  have hI : ∀ u p' q', p' < 4 → I u → I (u.failover p' q') := fun u p' q' hp' ⟨hl, ht⟩ => by
    obtain ⟨hl', ht'⟩ := step u p' q' hp' hl
    refine ⟨hl', ?_⟩
    rcases ht' with he | ⟨he, -⟩
    · rwa [he]
    · exact .inr he
  have hG : ∀ u p' q', p' < 4 → G u → G (u.failover p' q') := fun u p' q' hp' ⟨hl, ht⟩ => by
    obtain ⟨hl', ht'⟩ := step u p' q' hp' hl
    refine ⟨hl', ?_⟩
    rcases ht' with he | ⟨he, -⟩
    · rwa [he]
    · exact he
  have hIG : ∀ u, I u → G (u.failover p q) := fun u ⟨hl, ht⟩ => by
    rcases ht with ht | ht
    · have hmem : n ∈ u.movers p q := State.mem_movers.mpr ⟨hn, (hbound u hl).1, (hbound u hl).2, ht⟩
      refine ⟨hl.failover hp, State.ten_failover_of (fun hno => ?_) hmem⟩
      rw [hl.linkUp hp, hl.linkUp hq, hd, hu] at hno
      rcases hno with h | h | h | h
      · cases h
      · cases h
      · exact hne h
      · rw [h] at hmem; cases hmem
    · exact hG u p q hp ⟨hl, ht⟩
  have hall : G ((List.range 4).foldl (fun u p => (List.range 4).foldl (fun u q => u.failover p q) u) s) :=
    foldl_reaches (I := I) (List.mem_range.mpr hp) ⟨.refl hw, .inl hm⟩
      (fun u p' hp' hu => List.foldlRecOn (motive := I) _ _ hu fun v hv q' _ => hI v p' q' (List.mem_range.mp hp') hv)
      (fun u p' hp' hu => List.foldlRecOn (motive := G) _ _ hu fun v hv q' _ => hG v p' q' (List.mem_range.mp hp') hv)
      (fun u hu => foldl_reaches (I := I) (List.mem_range.mpr hq) hu (fun v q' _ hv => hI v p q' hp hv) (fun v q' _ hv => hG v p q' hp hv) fun v hv => hIG v hv)
  unfold State.failovers
  rw [State.ten_congr (State.tenants_sendWaiting _)]
  exact hall.2

/-! ### A link goes down -/

/-- A link reads down and its loss is counted and sent as an EVENT. -/
def State.lossNoted (s : State) (p st : Nat) : State := ((s.wr (0x1400 + p) 0x10 st).event (0x1400 + p) 0x13 1).notify 1 (some 0) p

/-- A tenant goes back to its own port where it was carried by `p`. -/
def Tenant.backFrom (p : Nat) (x : Tenant) : Tenant := if x.moved = some p then { x with moved := none } else x

/-- The port has no ANNOUNCE to send, and carries no tenant. -/
def State.unburdened (s : State) (p : Nat) : State :=
  let t := s.setPort p { s.port p with announce := none }
  { t with tenants := Map.mapVals (Tenant.backFrom p) t.tenants }

theorem State.portDown_eq (s : State) (p st : Nat) : s.portDown p st = ((s.lossNoted p st).unburdened p).failovers.ptpLinkDown p := rfl

theorem State.dict_unburdened (s : State) (p : Nat) : (s.unburdened p).dict = s.dict := rfl

theorem State.dict_lossNoted (s : State) (p st : Nat) : (s.lossNoted p st).dict = ((s.wr (0x1400 + p) 0x10 st).event (0x1400 + p) 0x13 1).dict :=
  State.dict_notify _ _ _ _

theorem Touches.lossNoted {P : Nat → Prop} {st : Nat} (h : Touches P s t) (hP : P (0x1400 + p)) : Touches P s (t.lossNoted p st) :=
  ((h.wr hP (by decide)).event hP (by decide)).dict (State.dict_lossNoted _ _ _)

theorem State.rd_lossNoted_link (hw : Map.wf s.dict = true) (st : Nat) : (s.lossNoted p st).rd (0x1400 + p) 0x10 = st := by
  rw [State.rd_congr (s.dict_lossNoted p st), State.rd_event, State.rd_wr_of_sub _ (by decide) (by decide) (.inr (by decide)), State.rd_wr_self hw]

theorem State.rd_lossNoted_events (hw : Map.wf s.dict = true) (st : Nat) :
    (s.lossNoted p st).rd (0x1400 + p) 0x13 = eventAdd (s.rd (0x1400 + p) 0x13) 1 := by
  rw [State.rd_congr (s.dict_lossNoted p st), State.rd_event, State.rd_wr_self (State.wf_wr hw _ _ _),
    State.rd_wr_of_sub _ (by decide) (by decide) (.inr (by decide))]

theorem State.moved_unburdened (s : State) (p : Nat) : ∀ x ∈ (s.unburdened p).tenants, x.2.moved ≠ some p := by
  intro x hx
  obtain ⟨y, -, rfl⟩ := List.mem_map.mp hx
  show (y.2.backFrom p).moved ≠ some p
  unfold Tenant.backFrom
  split
  · simp
  next h => exact h

theorem State.ten_unburdened (h : (s.ten n).moved = none) : (s.unburdened p).ten n = s.ten n := by
  have hm : (s.unburdened p).ten n = (s.ten n).backFrom p := Map.getD_mapVals _ _ _ rfl
  rw [hm, Tenant.backFrom, h]
  rfl

/-- PTP's port as it follows a link that has gone down. -/
theorem State.ptpLinkDown_cases (s : State) (p : Nat) : s.ptpLinkDown p = s ∨ ∃ b, s.ptpBackup = some b ∧ s.ptpLinkDown p = s.movePtp b := by
  unfold State.ptpLinkDown
  cases hb : s.ptpBackup with
  | none => exact .inl rfl
  | some b => exact (ite_eq_or_eq _ _ _).symm.imp id fun h => ⟨b, rfl, h⟩

theorem Touches.ptpLinkDown {P : Nat → Prop} (h : Touches P s t) (hP : P 0x1100) : Touches P s (t.ptpLinkDown p) := by
  rcases t.ptpLinkDown_cases p with he | ⟨b, -, he⟩ <;> rw [he]
  · exact h
  · exact Touches.wr (i := 0x1100) (a := 6) (h.dict rfl) hP (by decide)

theorem State.ptpBackup_some {b : Nat} (h : s.ptpBackup = some b) : b < 4 ∧ s.ptp.cur ≠ some b := by
  unfold State.ptpBackup portNamed at h
  split at h
  next c hc =>
    split at h
    · cases h
    next hn =>
      obtain rfl : c = b := Option.some.inj h
      split at hc
      next hle =>
        obtain rfl := Option.some.inj hc
        exact ⟨by omega, fun he => hn (.inl he)⟩
      · cases hc
  · cases h

theorem State.ptpBackup_congr (h1 : t.rd 0x1101 1 = s.rd 0x1101 1) (h2 : t.rd 0x1101 2 = s.rd 0x1101 2) (hc : t.ptp = s.ptp) : t.ptpBackup = s.ptpBackup := by
  rw [State.ptpBackup, State.ptpBackup, h1, h2, hc]

theorem State.ptpLinkDown_moves {b : Nat} (hc : s.ptp.cur = some p) (hb : s.ptpBackup = some b) (hu : s.linkUp b = true) :
    (s.ptpLinkDown p).ptp.cur = some b := by
  have he : s.ptpLinkDown p = s.movePtp b := by
    unfold State.ptpLinkDown
    rw [hb]
    exact if_pos ⟨hc, hu⟩
  rw [he]
  rfl

/-- What a link that has gone down leaves. -/
theorem State.portDown_down (hp : p < 4) (hw : Map.wf s.dict = true) {st : Nat} (hst : st ≠ 1 ∧ st ≠ 2) :
    (s.portDown p st).linkUp p = false ∧ (s.portDown p st).rd (0x1400 + p) 0x10 = st ∧ bitAt ((s.portDown p st).rd (0x1400 + p) 0x13) 0 = true ∧
      ((s.portDown p st).port p).announce = none ∧ (∀ x ∈ (s.portDown p st).tenants, x.2.moved ≠ some p) ∧
      (∀ b, s.ptp.cur = some p → s.ptpBackup = some b → s.linkUp b = true → (s.portDown p st).ptp.cur = some b) ∧
      (∀ n q, q < 4 → n < 64 → s.rd (0x1440 + n) 1 = p → s.rd (0x1440 + n) 2 = q → p ≠ q → (s.ten n).moved = none → s.linkUp q = true →
        ((s.portDown p st).ten n).moved = some q) := by
  rw [State.portDown_eq]
  have ht : Touches (fun i => i = 0x1400 + p) s ((s.lossNoted p st).unburdened p) := (Touches.refl.lossNoted (P := fun i => i = 0x1400 + p) rfl).dict (State.dict_unburdened _ _)
  have hwt : Map.wf ((s.lossNoted p st).unburdened p).dict = true := ht.wf hw
  have hlink : ((s.lossNoted p st).unburdened p).rd (0x1400 + p) 0x10 = st :=
    (State.rd_congr (State.dict_unburdened _ _) _ _).trans (State.rd_lossNoted_link hw st)
  have hdown : ((s.lossNoted p st).unburdened p).linkUp p = false := by
    rw [State.linkUp, hlink]
    simpa using hst
  have hkeep : LinksKept ((s.lossNoted p st).unburdened p) ((s.lossNoted p st).unburdened p).failovers := (LinksKept.refl hwt).failovers
  have hup : ∀ b, b < 4 → b ≠ p → ((s.lossNoted p st).unburdened p).linkUp b = s.linkUp b := fun b hb hne => by
    rw [State.linkUp, State.linkUp, ht.rd _ _ (by decide) (by omega)]
  have hptp : Touches (fun i => i = 0x1100) ((s.lossNoted p st).unburdened p).failovers (((s.lossNoted p st).unburdened p).failovers.ptpLinkDown p) := Touches.refl.ptpLinkDown (P := fun i => i = 0x1100) rfl
  have hlink' : (((s.lossNoted p st).unburdened p).failovers.ptpLinkDown p).rd (0x1400 + p) 0x10 = st :=
    (hptp.rd _ _ (by decide) (by omega)).trans ((hkeep.rd _ _ (by decide) (by omega) (by decide)).trans hlink)
  have hports : (((s.lossNoted p st).unburdened p).failovers.ptpLinkDown p).ports = ((s.lossNoted p st).unburdened p).ports :=
    (Within.ptpLinkDown (k := Machine.parts [.dict, .dtx, .ptp, .tx, .waits, .chans, .tenants, .flt]) rfl (.failovers rfl .refl)).same .ports rfl
  have htens : (((s.lossNoted p st).unburdened p).failovers.ptpLinkDown p).tenants = ((s.lossNoted p st).unburdened p).failovers.tenants :=
    (Within.ptpLinkDown (k := Machine.parts [.dict, .ptp]) rfl .refl).same .tenants rfl
  refine ⟨?_, hlink', ?_, ?_, ?_, fun b hc hb hu => ?_, fun n q hq hn h1 h2 hne hm hu => ?_⟩
  · rw [State.linkUp, hlink']
    simpa using hst
  · rw [hptp.rd _ _ (by decide) (by omega)]
    refine hkeep.flag p hp ?_
    rw [State.rd_congr (State.dict_unburdened _ _), State.rd_lossNoted_events hw, bitAt_eventAdd _ _ (by decide)]
    exact Bool.or_true _
  · rw [State.port, hports]
    exact congrArg Port.announce (State.port_setPort_self (s.lossNoted p st) p _)
  · rw [htens]
    exact State.failovers_mem_tenants hdown hp hwt (State.moved_unburdened _ _)
  · obtain ⟨hb4, hcb⟩ := State.ptpBackup_some hb
    have hne : b ≠ p := fun he => hcb (he ▸ hc)
    have hv : ((s.lossNoted p st).unburdened p).failovers.ptp = s.ptp :=
      ((Within.failovers (k := Machine.parts [.dict, .dtx, .tx, .waits, .chans, .tenants, .flt]) rfl .refl).same .ptp rfl).trans
        ((Within.notify (k := Machine.parts [.dict, .dtx, .tx, .chans]) rfl (.event rfl (.wr rfl .refl))).same .ptp rfl)
    have hr : ∀ a, a < 256 → a ≠ 0x13 → ((s.lossNoted p st).unburdened p).failovers.rd 0x1101 a = s.rd 0x1101 a := fun a ha h13 =>
      (hkeep.rd _ _ ha (by decide) h13).trans (ht.rd _ _ ha (by omega))
    refine State.ptpLinkDown_moves (by rw [hv]; exact hc) ?_ ?_
    · rw [State.ptpBackup_congr (hr 1 (by decide) (by decide)) (hr 2 (by decide) (by decide)) hv]
      exact hb
    · rw [hkeep.linkUp hb4, hup b hb4 hne]
      exact hu
  · have hne' : (0x1440 + n) ≠ 0x1400 + p := by omega
    rw [State.ten_congr htens]
    refine State.failovers_moves hwt hn hp hq ((ht.rd _ _ (by decide) hne').trans h1) ((ht.rd _ _ (by decide) hne').trans h2) hne ?_ hdown
      ((hup q hq (Ne.symm hne)).trans hu)
    have hlt : (s.lossNoted p st).ten n = s.ten n :=
      State.ten_congr ((Within.notify (k := Machine.parts [.dict, .dtx, .tx, .chans]) rfl (.event rfl (.wr rfl .refl))).same .tenants rfl) n
    rw [State.ten_unburdened (by rw [hlt]; exact hm), hlt]
    exact hm

theorem State.port_portDown (s : State) (p st : Nat) : (s.portDown p st).port p = { s.port p with announce := none } := by
  rw [State.portDown_eq]
  have hports : (((s.lossNoted p st).unburdened p).failovers.ptpLinkDown p).ports = ((s.lossNoted p st).unburdened p).ports :=
    (Within.ptpLinkDown (k := Machine.parts [.dict, .dtx, .ptp, .tx, .waits, .chans, .tenants, .flt]) rfl (.failovers rfl .refl)).same .ports rfl
  have hs : (s.lossNoted p st).ports = s.ports := (Within.notify (k := Machine.parts [.dict, .dtx, .tx, .chans]) rfl (.event rfl (.wr rfl .refl))).same .ports rfl
  rw [State.port, hports]
  refine (State.port_setPort_self (s.lossNoted p st) p _).trans ?_
  rw [State.port, State.port, hs]

/-- What events of a link leave alone. -/
def LinkNear (s t : State) : Prop := t = { s with
  dict := t.dict, dtx := t.dtx, chans := t.chans, tx := t.tx, waits := t.waits, flt := t.flt, tenants := t.tenants, ports := t.ports, ptp := t.ptp }

/-- What the statement says of a link that has gone down. -/
def LinkLost (s : State) (p : Nat) (t : State) : Prop :=
  t.linkUp p = false ∧ t.rd (0x1400 + p) 0x10 = 0 ∧ bitAt (t.rd (0x1400 + p) 0x13) 0 = true ∧ (t.port p).announce = none ∧
    (∀ x ∈ t.tenants, x.2.moved ≠ some p) ∧ (∀ b, s.ptp.cur = some p → s.ptpBackup = some b → s.linkUp b = true → t.ptp.cur = some b) ∧
    (∀ n q, q < 4 → (n < 64 ∧ s.rd (0x1440 + n) 1 = p ∧ s.rd (0x1440 + n) 2 = q ∧ p ≠ q ∧ (s.ten n).moved = none) → s.linkUp q = true →
      (t.ten n).moved = some q) ∧ LinkNear s t

theorem State.portDown_lost (hp : p < 4) (hw : Map.wf s.dict = true) (hn : LinkNear s (s.portDown p 0)) : LinkLost s p (s.portDown p 0) := by
  obtain ⟨hl, hr, hb, ha, hm, hc, ht⟩ := s.portDown_down hp hw (st := 0) (by decide)
  exact ⟨hl, hr, hb, ha, hm, hc, fun n q hq ⟨hn, h1, h2, hne, hnone⟩ hu => ht n q hq hn h1 h2 hne hnone hu, hn⟩

theorem State.within_portDown (s : State) (p st : Nat) :
    Within (Machine.parts [.dict, .dtx, .ports, .ptp, .tx, .waits, .chans, .tenants, .flt]) s (s.portDown p st) := .portDown rfl .refl

theorem linkDown_goes (hp : p < 4) (hw : Map.wf s.dict = true) (hup : s.phase = .up) (hl : s.linkUp p = true) :
    GoesTo (exec (.linkDown p) s) (fun t => LinkLost s p t ∧ (t.port p).retrain = (s.port p).retrain) :=
  ⟨_, when_of_true (by simp [hup, hl]), State.portDown_lost hp hw (s.within_portDown p 0).eq_keepBut, by rw [State.port_portDown]⟩

theorem portConfigChange_drops (hp : p < 4) (hw : Map.wf s.dict = true) (hup : s.phase = .up) (hr : (s.port p).retrain = true) (hl : s.linkUp p = true) :
    GoesTo (exec (.portConfigChange p) s) (fun t => LinkLost s p t ∧ (t.port p).retrain = false) := by
  obtain ⟨h1, h2, h3, h4, h5, h6, h7, -⟩ := State.portDown_lost (s := s.setPort p { s.port p with retrain := false }) hp hw
    (State.within_portDown _ p 0).eq_keepBut
  have hn : Within (parts [.dict, .dtx, .ports, .ptp, .tx, .waits, .chans, .tenants, .flt]) s
      ((s.setPort p { s.port p with retrain := false }).portDown p 0) := .portDown rfl (.setPort rfl .refl)
  have hnear : LinkNear s ((s.setPort p { s.port p with retrain := false }).portDown p 0) := hn.eq_keepBut
  refine ⟨(s.setPort p { s.port p with retrain := false }).portDown p 0, (when_of_true (by simp [hup, hr])).trans (congrArg _ (if_pos hl)), ⟨h1, h2, h3, h4, h5, h6, h7, hnear⟩, ?_⟩
  rw [State.port_portDown]
  exact congrArg Port.retrain (State.port_setPort_self s p _)

/-! ### Frames handed over stay -/

/-- The frames handed over so far are still there. -/
def Emits (s t : State) : Prop := s.tx <+: t.tx

namespace Emits

theorem refl (s : State) : Emits s s := List.prefix_rfl

theorem trans (h : Emits s t) (g : Emits t u) : Emits s u := List.IsPrefix.trans h g

theorem same (h : Emits s t) (hd : u.tx = t.tx) : Emits s u := by rwa [Emits, hd]

theorem transmit (h : Emits s t) {fs : List TxFrame} : Emits s (t.transmit fs) := h.trans (List.prefix_append _ _)

theorem foldl {α : Type} {l : List α} {f : State → α → State} (h : Emits s t) (hf : ∀ v x, Emits s v → Emits s (f v x)) : Emits s (l.foldl f t) :=
  List.foldlRecOn (motive := Emits s) l f h fun v hv x _ => hf v x hv

theorem ite {c : Prop} [Decidable c] {a b : State} (ha : Emits s a) (hb : Emits s b) : Emits s (if c then a else b) := by
  split
  · exact ha
  · exact hb

theorem sendAs {slot tenant handle kind role queue seq opcode status detail cookie key : Nat} {c : Channel} {payload : Sys2Proof.Bytes} (h : Emits s t) :
    Emits s (t.sendAs slot c tenant handle kind role queue seq opcode status detail cookie key payload) := by
  unfold State.sendAs
  exact transmit (h.same rfl)

theorem notice {slot kind opcode status detail : Nat} {payload : Sys2Proof.Bytes} (h : Emits s t) :
    Emits s (t.notice slot kind opcode status detail payload) := by
  unfold State.notice
  split
  · exact h
  · exact ite h h.sendAs

theorem notify {cls what : Nat} {tenant : Option Nat} (h : Emits s t) : Emits s (t.notify cls tenant what) := h.foldl fun _ _ hv => hv.notice

theorem sendRefusal {slot tenant handle queue seq opcode status detail cookie key : Nat} {c : Channel} {result : Sys2Proof.Bytes} (h : Emits s t) :
    Emits s (t.sendRefusal slot c tenant handle queue seq opcode status detail cookie key result) := by
  unfold State.sendRefusal
  exact ite h.sendAs (h.same rfl)

theorem resend {j : Job} (h : Emits s t) : Emits s (t.resend j) := by
  unfold State.resend
  split
  · exact ite (h.same rfl) h.transmit
  · exact h

theorem sendWaiting (h : Emits s t) : Emits s t.sendWaiting := by
  unfold State.sendWaiting
  refine foldl (h.same rfl) fun v w hv => ?_
  split
  · exact hv.sendRefusal
  · split
    · exact hv.resend
    · exact hv
  · exact hv

theorem failover (h : Emits s t) : Emits s (t.failover p q) := by
  by_cases hf : t.failsOver p q
  · have hm : Emits s (t.moveAll q (t.movers p q)) := h.same ((State.within_moveAll _ _ _).same .tx rfl)
    rw [State.failover_of hf]
    refine ite ?_ hm
    exact transmit (notify (hm.same ((Within.logRow (k := parts [.dict, .dtx, .flt]) rfl (.event rfl .refl)).same .tx rfl)))
  · rwa [State.failover_of_not hf]

theorem failovers (h : Emits s t) : Emits s t.failovers :=
  sendWaiting (h.foldl fun _ _ hv => hv.foldl fun _ _ hw => hw.failover)

end Emits

/-! ### A link comes up -/

section
variable {speed : Nat} {fec bad : List Nat}

/-- The IPv6 addresses of a port whose use elsewhere is looked for. -/
def State.probed (s : State) (p : Nat) : List Nat := [s.linkLocal p] ++ (if s.rd (0x1400 + p) 9 = 0 then [] else [s.rd (0x1400 + p) 9])

theorem State.mem_probed {a : Nat} : a ∈ s.probed p ↔ a = s.linkLocal p ∨ (a = s.rd (0x1400 + p) 9 ∧ a ≠ 0) := by
  unfold State.probed
  split
  next h => simp [h]
  next h =>
    rw [List.mem_append, List.mem_singleton, List.mem_singleton]
    exact or_congr_right ⟨fun he => ⟨he, he ▸ h⟩, fun ⟨he, _⟩ => he⟩

/-- The addresses found in use elsewhere. -/
def State.conflicting (s : State) (p : Nat) (bad : List Nat) : List Nat := (s.probed p).filter (fun a => bad.contains a)

/-- The port's own record of a link that has come up. -/
def State.linked (s : State) (p speed : Nat) (fec bad : List Nat) : State :=
  let t := (s.wr (0x1400 + p) 0x10 (if speed = 25 then 2 else 1)).wr (0x1400 + p) 0x11 (fecOf (s.rd (0x1400 + p) 3) speed fec)
  t.setPort p { t.port p with upSince := s.clk.fab, badAddrs := s.conflicting p bad, partnerFec := fec, announceDue := s.clk.fab }

/-- A link has come up, before it takes over for another port. -/
def State.cameUp (s : State) (p speed : Nat) (fec bad : List Nat) : State :=
  (((s.linked p speed fec bad).transmit ((s.probed p).map (fun a => TxFrame.neighbourProbe p a))).event (0x1400 + p) 0x13
    (if s.conflicting p bad = [] then 0 else 4)).notify 1 (some 0) p

theorem execLinkUp_eq : exec (.linkUp p speed fec bad) s = when (s.phase == .up && s.mayLink p speed) s (s.cameUp p speed fec bad).failovers := rfl

theorem State.dict_cameUp (s : State) (p speed : Nat) (fec bad : List Nat) : (s.cameUp p speed fec bad).dict =
    ((s.linked p speed fec bad).event (0x1400 + p) 0x13 (if s.conflicting p bad = [] then 0 else 4)).dict := State.dict_notify _ _ _ _

theorem State.rd_cameUp_of_ne {i a : Nat} (ha : a < 256) (hi : i ≠ 0x1400 + p ∨ (a ≠ 0x10 ∧ a ≠ 0x11 ∧ a ≠ 0x13)) :
    (s.cameUp p speed fec bad).rd i a = s.rd i a := by
  rw [State.rd_congr (s.dict_cameUp p speed fec bad), State.rd_event, State.rd_wr_of_sub _ (by decide) ha (hi.imp_right fun h => h.2.2)]
  exact (State.rd_wr_of_sub _ (by decide) ha (hi.imp_right fun h => h.2.1)).trans (State.rd_wr_of_sub _ (by decide) ha (hi.imp_right fun h => h.1))

theorem State.wf_cameUp (hw : Map.wf s.dict = true) : Map.wf (s.cameUp p speed fec bad).dict = true := by
  rw [State.dict_cameUp]
  exact State.wf_event (State.wf_wr (State.wf_wr hw _ _ _) _ _ _) _ _ _

theorem State.rd_cameUp (hw : Map.wf s.dict = true) : (s.cameUp p speed fec bad).rd (0x1400 + p) 0x10 = (if speed = 25 then 2 else 1) ∧
    (s.cameUp p speed fec bad).rd (0x1400 + p) 0x11 = fecOf (s.rd (0x1400 + p) 3) speed fec ∧
    (s.cameUp p speed fec bad).rd (0x1400 + p) 0x13 = eventAdd (s.rd (0x1400 + p) 0x13) (if s.conflicting p bad = [] then 0 else 4) := by
  have h10 : (s.linked p speed fec bad).rd (0x1400 + p) 0x10 = if speed = 25 then 2 else 1 :=
    (State.rd_wr_of_sub _ (by decide) (by decide) (.inr (by decide))).trans (State.rd_wr_self hw _ _ _)
  have h11 : (s.linked p speed fec bad).rd (0x1400 + p) 0x11 = fecOf (s.rd (0x1400 + p) 3) speed fec := State.rd_wr_self (State.wf_wr hw _ _ _) _ _ _
  have h13 : (s.linked p speed fec bad).rd (0x1400 + p) 0x13 = s.rd (0x1400 + p) 0x13 :=
    (State.rd_wr_of_sub _ (by decide) (by decide) (.inr (by decide))).trans (State.rd_wr_of_sub _ (by decide) (by decide) (.inr (by decide)))
  have hwl : Map.wf (s.linked p speed fec bad).dict = true := State.wf_wr (State.wf_wr hw _ _ _) _ _ _
  refine ⟨?_, ?_, ?_⟩ <;> rw [State.rd_congr (s.dict_cameUp p speed fec bad), State.rd_event]
  · rw [State.rd_wr_of_sub _ (by decide) (by decide) (.inr (by decide)), h10]
  · rw [State.rd_wr_of_sub _ (by decide) (by decide) (.inr (by decide)), h11]
  · rw [State.rd_wr_self hwl, h13]

theorem State.port_cameUp (s : State) (p speed : Nat) (fec bad : List Nat) : ((s.cameUp p speed fec bad).port p).upSince = s.clk.fab ∧
    ((s.cameUp p speed fec bad).port p).announceDue = s.clk.fab ∧ ((s.cameUp p speed fec bad).port p).badAddrs = s.conflicting p bad := by
  have hp : (s.cameUp p speed fec bad).ports = (s.linked p speed fec bad).ports :=
    (Within.notify (k := Machine.parts [.dict, .dtx, .tx, .chans]) rfl (.event rfl (.transmit rfl .refl))).same .ports rfl
  have hl : (s.linked p speed fec bad).port p = _ := State.port_setPort_self _ p _
  rw [State.port, hp]
  rw [State.port] at hl
  rw [hl]
  exact ⟨rfl, rfl, rfl⟩

/-- A probe goes out for each of the port's addresses. -/
theorem State.cameUp_probes {a : Nat} (ha : a ∈ s.probed p) : ∃ w ∈ (s.cameUp p speed fec bad).failovers.tx, w.frame = .neighbourProbe p a := by
  obtain ⟨w, hw, hf⟩ := State.mem_wire_frame (s.linked p speed fec bad) (List.mem_map_of_mem (f := fun a => TxFrame.neighbourProbe p a) ha)
  have he : Emits ((s.linked p speed fec bad).transmit ((s.probed p).map (fun a => TxFrame.neighbourProbe p a))) (s.cameUp p speed fec bad).failovers :=
    Emits.failovers (Emits.notify ((Emits.refl _).same rfl))
  exact ⟨w, he.subset hw, hf⟩

theorem State.linkUp_cameUp (hw : Map.wf s.dict = true) : (s.cameUp p speed fec bad).linkUp p = true := by
  rw [State.linkUp, (State.rd_cameUp hw).1]
  split <;> rfl

theorem linkUp_goes (hp : p < 4) (hw : Map.wf s.dict = true) (hup : s.phase = .up) (hm : s.mayLink p speed = true) :
    GoesTo (exec (.linkUp p speed fec bad) s) (fun t => t.rd (0x1400 + p) 0x10 = (if speed = 25 then 2 else 1) ∧
      t.rd (0x1400 + p) 0x11 = fecOf (s.rd (0x1400 + p) 3) speed fec ∧ (t.port p).upSince = s.clk.fab ∧ (t.port p).announceDue = s.clk.fab ∧
      (∀ a, a ∈ (t.port p).badAddrs ↔ a ∈ bad ∧ (a = s.linkLocal p ∨ (a = s.rd (0x1400 + p) 9 ∧ a ≠ 0))) ∧
      t.rd (0x1400 + p) 0x13 = eventAdd (s.rd (0x1400 + p) 0x13) (if (t.port p).badAddrs = [] then 0 else 4) ∧
      (∃ w ∈ t.tx, w.frame = .neighbourProbe p (s.linkLocal p)) ∧
      (s.rd (0x1400 + p) 9 ≠ 0 → ∃ w ∈ t.tx, w.frame = .neighbourProbe p (s.rd (0x1400 + p) 9)) ∧
      (∀ n q, q < 4 → (n < 64 ∧ s.rd (0x1440 + n) 1 = q ∧ s.rd (0x1440 + n) 2 = p ∧ q ≠ p ∧ (s.ten n).moved = none) → s.linkUp q = false →
        (t.ten n).moved = some p) ∧ LinkNear s t) := by
  have hwc : Map.wf (s.cameUp p speed fec bad).dict = true := State.wf_cameUp hw
  have hk : LinksKept (s.cameUp p speed fec bad) (s.cameUp p speed fec bad).failovers := (LinksKept.refl hwc).failovers
  have hports : ∀ q, (s.cameUp p speed fec bad).failovers.port q = (s.cameUp p speed fec bad).port q := fun q =>
    congrArg (Map.getD · q portInit) ((Within.failovers (k := parts [.dict, .dtx, .tx, .waits, .chans, .tenants, .flt]) rfl .refl).same .ports rfl)
  obtain ⟨h10, h11, h13⟩ := State.rd_cameUp (p := p) (speed := speed) (fec := fec) (bad := bad) hw
  obtain ⟨hsince, hdue, hbad⟩ := s.port_cameUp p speed fec bad
  refine ⟨_, execLinkUp_eq.trans (when_of_true (by simp [hup, hm])), (hk.rd _ _ (by decide) (by omega) (by decide)).trans h10,
    (hk.rd _ _ (by decide) (by omega) (by decide)).trans h11, ?_, ?_, fun a => ?_, ?_, State.cameUp_probes (State.mem_probed.mpr (.inl rfl)),
    fun h9 => State.cameUp_probes (State.mem_probed.mpr (.inr ⟨rfl, h9⟩)), fun n q hq ⟨hn, h1, h2, hne, hnone⟩ hd => ?_, ?_⟩
  · rw [hports]; exact hsince
  · rw [hports]; exact hdue
  · rw [hports, hbad, State.conflicting, List.mem_filter, State.mem_probed, List.contains_iff_mem, and_comm]
  · rw [hports, hbad, hk.up p hp (State.linkUp_cameUp hw)]
    exact h13
  · have hl : (s.cameUp p speed fec bad).linkUp q = false := by
      rw [State.linkUp, State.rd_cameUp_of_ne (by decide) (.inl (by omega))]
      exact hd
    have ht : (s.cameUp p speed fec bad).ten n = s.ten n := State.ten_congr
      ((Within.notify (k := parts [.dict, .dtx, .tx, .chans, .ports]) rfl (.event rfl (.transmit rfl (.setPort rfl (.wr rfl (.wr rfl .refl)))))).same .tenants rfl) n
    exact State.failovers_moves hwc hn hq hp ((State.rd_cameUp_of_ne (by decide) (.inl (by omega))).trans h1)
      ((State.rd_cameUp_of_ne (by decide) (.inl (by omega))).trans h2) hne (by rw [ht]; exact hnone) hl (State.linkUp_cameUp hw)
  · exact (Within.failovers (k := parts [.dict, .dtx, .ports, .ptp, .tx, .waits, .chans, .tenants, .flt]) rfl
      (.notify rfl (.event rfl (.transmit rfl (.setPort rfl (.wr rfl (.wr rfl .refl))))))).eq_keepBut

end

/-! ### Failback -/

/-- The tenants of `p` are on `p` again. -/
def State.homecoming (s : State) (p : Nat) : State :=
  { s with tenants := s.tenants.map (fun (x : Nat × Tenant) => if s.rd (0x1440 + x.1) 1 = p then (x.1, { x.2 with moved := none }) else x) }

theorem State.failback_eq (s : State) (p : Nat) : s.failback p = (s.homecoming p).proclaim p p := rfl

theorem State.moved_homecoming (s : State) (p : Nat) : ∀ x ∈ (s.homecoming p).tenants, s.rd (0x1440 + x.1) 1 = p → x.2.moved = none := by
  intro x hx
  obtain ⟨y, -, rfl⟩ := List.mem_map.mp hx
  split
  · exact fun _ => rfl
  next h => exact fun h' => absurd h' h

theorem failback_cond (s : State) (p : Nat) : (s.phase == .up && s.linkUp p && s.failedOver p && s.rd 0x1410 4 != 0 &&
    decide ((s.port p).upSince + s.rd 0x1410 4 * msFab ≤ s.clk.fab)) = true ↔ s.phase = .up ∧ s.linkUp p = true ∧ s.failedOver p = true ∧
      (s.rd 0x1410 4 ≠ 0 ∧ (s.port p).upSince + s.rd 0x1410 4 * 1250000 ≤ s.clk.fab) := by
  simp only [Bool.and_eq_true, beq_iff_eq, bne_iff_ne, decide_eq_true_eq, and_assoc]
  exact Iff.rfl

theorem failback_goes (h : s.phase = .up ∧ s.linkUp p = true ∧ s.failedOver p = true ∧
    (s.rd 0x1410 4 ≠ 0 ∧ (s.port p).upSince + s.rd 0x1410 4 * 1250000 ≤ s.clk.fab)) : GoesTo (exec (.failbackHoldExpiry p) s) (fun t =>
      (∀ x ∈ t.tenants, t.rd (0x1440 + x.1) 1 = p → x.2.moved = none) ∧ t = { s with tenants := t.tenants, tx := t.tx } ∧
      (s.rd (0x1400 + p) 7 ≠ 0 → ∃ w ∈ t.tx, w.frame = .gratuitousArp p p (s.rd (0x1400 + p) 7)) ∧
      ∀ a ∈ s.ipv6s p, ∃ w ∈ t.tx, w.frame = .unsolicitedNa p p a) := by
  refine ⟨_, (when_of_true ((failback_cond s p).mpr h)).trans (congrArg _ (s.failback_eq p)), State.moved_homecoming s p, rfl, fun h7 => ?_, fun a ha => ?_⟩
  · refine State.mem_wire_frame _ (List.mem_append_left _ ?_)
    rw [if_neg]
    · exact List.mem_singleton.mpr rfl
    · exact h7
  · exact State.mem_wire_frame _ (List.mem_append_right _ (List.mem_map.mpr ⟨a, ha, rfl⟩))

/-! ### REFCLK_SD -/

/-- A link drops with REFCLK_SD. -/
def State.dropLink (s u : State) (p : Nat) : State :=
  if s.linkUp p then (((u.wr (0x1400 + p) 0x10 0).event (0x1400 + p) 0x13 1).setPort p { u.port p with announce := none }).notify 1 (some 0) p else u

/-- Every tenant is on its own port. -/
def State.allHome (s : State) : State := { s with tenants := Map.mapVals (fun (x : Tenant) => { x with moved := none }) s.tenants }

theorem State.dropLinks_eq (s : State) : s.dropLinks = ((List.range 4).foldl s.dropLink s).allHome := rfl

theorem State.dict_dropLink (s u : State) (p : Nat) : (s.dropLink u p).dict =
    if s.linkUp p then ((u.wr (0x1400 + p) 0x10 0).event (0x1400 + p) 0x13 1).dict else u.dict := by
  unfold State.dropLink
  split
  · exact State.dict_notify _ _ _ _
  · rfl

theorem Touches.dropLink {P : Nat → Prop} (h : Touches P u t) (hP : P (0x1400 + p)) : Touches P u (s.dropLink t p) := by
  by_cases hl : s.linkUp p = true
  · refine ((h.wr hP (by decide)).event hP (by decide)).dict ((s.dict_dropLink t p).trans (if_pos hl))
  · exact h.dict ((s.dict_dropLink t p).trans (if_neg hl))

theorem Touches.dropLinks {P : Nat → Prop} (h : Touches P u s) (hP : ∀ p, p < 4 → P (0x1400 + p)) : Touches P u s.dropLinks := by
  rw [State.dropLinks_eq]
  exact (List.foldlRecOn (motive := Touches P u) _ _ h fun v hv x hx => hv.dropLink (hP x (List.mem_range.mp hx))).dict rfl

/-- No link is up once they have dropped. -/
theorem State.linkUp_dropLinks (hw : Map.wf s.dict = true) (hq : q < 4) : s.dropLinks.linkUp q = false := by
  have hother : ∀ u p, p ≠ q → (s.dropLink u p).linkUp q = u.linkUp q := fun u p hne => by
    have ht : Touches (fun i => i = 0x1400 + p) u (s.dropLink u p) := Touches.refl.dropLink rfl
    rw [State.linkUp, State.linkUp, ht.rd _ _ (by decide) (by omega)]
  let I : State → Prop := fun u => Map.wf u.dict = true ∧ (s.linkUp q = false → u.linkUp q = false)
  have hwf : ∀ u p, Map.wf u.dict = true → Map.wf (s.dropLink u p).dict = true := fun u p hu =>
    ((Touches.refl (s := u)).dropLink (P := fun _ => True) (s := s) (p := p) trivial).wf hu
  have hdown : ∀ u, I u → (s.dropLink u q).linkUp q = false := fun u ⟨hu, hl⟩ => by
    by_cases hs : s.linkUp q = true
    · have hr : (s.dropLink u q).rd (0x1400 + q) 0x10 = 0 := by
        rw [State.rd_congr ((s.dict_dropLink u q).trans (if_pos hs)), State.rd_event, State.rd_wr_of_sub _ (by decide) (by decide) (.inr (by decide)),
          State.rd_wr_self hu]
      rw [State.linkUp, hr]
      rfl
    · have he : s.dropLink u q = u := if_neg hs
      rw [he]
      exact hl (Bool.eq_false_of_not_eq_true hs)
  have hG : ∀ u p, Map.wf u.dict = true ∧ u.linkUp q = false → Map.wf (s.dropLink u p).dict = true ∧ (s.dropLink u p).linkUp q = false := fun u p ⟨hu, hl⟩ => by
    refine ⟨hwf u p hu, ?_⟩
    by_cases he : p = q
    · subst he; exact hdown u ⟨hu, fun _ => hl⟩
    · rw [hother u p he]; exact hl
  have hI : ∀ u p, I u → I (s.dropLink u p) := fun u p ⟨hu, hl⟩ => ⟨hwf u p hu, fun hs => (hG u p ⟨hu, hl hs⟩).2⟩
  have hall := foldl_reaches (f := s.dropLink) (I := I) (G := fun u => Map.wf u.dict = true ∧ u.linkUp q = false) (List.mem_range.mpr hq) (b := s)
    ⟨hw, id⟩ (fun u p _ => hI u p) (fun u p _ => hG u p) fun u hu => ⟨hwf u q hu.1, hdown u hu⟩
  rw [State.dropLinks_eq]
  exact hall.2

theorem State.moved_dropLinks (s : State) : ∀ x ∈ s.dropLinks.tenants, x.2.moved = none := by
  rw [State.dropLinks_eq]
  intro x hx
  obtain ⟨y, -, rfl⟩ := List.mem_map.mp hx
  rfl

/-- REFCLK_SD is lost: its clocks, and every link. -/
def State.sdGone (s : State) : State := State.dropLinks { s with clk := { s.clk with sd := false, aonFrac := 0 } }

theorem refclkSdLost_goes (hw : Map.wf s.dict = true) (h : s.clk.sd = true) : GoesTo (exec .refclkSdLost s) (fun t =>
    t.clk = { s.clk with sd := false, aonFrac := 0 } ∧ t.rd 0x1100 2 = 0 ∧ (∀ q, q < 4 → t.linkUp q = false) ∧ (∀ x ∈ t.tenants, x.2.moved = none) ∧
      t.rd 0x1200 7 = (if s.phase = .down then s.rd 0x1200 7 else eventAdd (s.rd 0x1200 7) 16) ∧
      t = { s with clk := t.clk, dict := t.dict, dtx := t.dtx, chans := t.chans, tx := t.tx, tenants := t.tenants, ports := t.ports, ptp := t.ptp }) := by
  have hd : Touches (fun i => 0x1400 ≤ i) s s.sdGone := Touches.dropLinks (.of_dict rfl) fun p _ => Nat.le_add_right _ _
  have hwd : Map.wf s.sdGone.dict = true := hd.wf hw
  have hl : ∀ q, q < 4 → s.sdGone.linkUp q = false := fun q hq => State.linkUp_dropLinks hw hq
  have key : ∀ v, Within (parts [.dict, .dtx]) s.sdGone v → Touches (fun i => i = 0x1200) s.sdGone v →
      (v.setQuality 0).clk = { s.clk with sd := false, aonFrac := 0 } ∧ (v.setQuality 0).rd 0x1100 2 = 0 ∧ (∀ q, q < 4 → (v.setQuality 0).linkUp q = false) ∧
        (∀ x ∈ (v.setQuality 0).tenants, x.2.moved = none) ∧ (v.setQuality 0).rd 0x1200 7 = v.rd 0x1200 7 := fun v hv ht => by
    have hq : Within (parts [.dict, .dtx, .ptp, .tx, .chans]) s.sdGone (v.setQuality 0) := .setQuality rfl (hv.mono rfl)
    have htq : Touches (fun i => i = 0x1100) v (v.setQuality 0) := Touches.refl.setQuality rfl
    refine ⟨(hq.same .clk rfl).trans ((Within.dropLinks (k := parts [.dict, .dtx, .ports, .tx, .chans, .tenants]) rfl .refl).same .clk rfl),
      State.quality_setQuality (ht.wf hwd) 0, fun q hq4 => ?_, ?_, htq.rd _ _ (by decide) (by decide)⟩
    · rw [← hl q hq4, State.linkUp, State.linkUp, htq.rd _ _ (by decide) (by omega), ht.rd _ _ (by decide) (by omega)]
    · rw [show (v.setQuality 0).tenants = s.sdGone.tenants from hq.same .tenants rfl]
      exact State.moved_dropLinks _
  have hwithin : ∀ v, Within (parts [.dict, .dtx]) s.sdGone v → Within (parts [.dict, .dtx, .clk, .ports, .ptp, .tx, .chans, .tenants]) s (v.setQuality 0) :=
    fun v hv => .setQuality rfl (Within.into (.dropLinks rfl (.set rfl rfl .refl)) rfl hv)
  by_cases hp : s.phase = .down
  · obtain ⟨hc, hr, hlk, htn, h7⟩ := key s.sdGone .refl .refl
    refine ⟨_, (when_of_true h).trans (congrArg _ (if_pos hp)), hc, hr, hlk, htn, ?_, (hwithin _ .refl).eq_keepBut⟩
    rw [if_pos hp]
    exact h7.trans (hd.rd _ _ (by decide) (by decide))
  · obtain ⟨hc, hr, hlk, htn, h7⟩ := key (s.sdGone.event 0x1200 7 16) (.event rfl .refl) (Touches.refl.event rfl (by decide))
    refine ⟨_, (when_of_true h).trans (congrArg _ (if_neg hp)), hc, hr, hlk, htn, ?_, (hwithin _ (.event rfl .refl)).eq_keepBut⟩
    rw [if_neg hp]
    refine h7.trans ?_
    rw [State.rd_event, State.rd_wr_self hwd, hd.rd _ _ (by decide) (by decide)]

/-- REFCLK_SD is back. -/
def State.sdBack (s : State) : State := { s with clk := { s.clk with sd := true } }

theorem execRefclkSdReturn_eq (s : State) : exec .refclkSdReturn s =
    when (!s.clk.sd) s (if s.phase ≠ .up ∨ s.clk.gated then s.sdBack else s.sdBack.shortLap) := rfl

theorem State.rd_takeLength (s : State) {a : Nat} (ha : a < 256) (h5 : a ≠ 5) (hc : a ≠ 0xC) : s.takeLength.rd 0x1A00 a = s.rd 0x1A00 a := by
  unfold State.takeLength
  split
  · rw [State.rd_event, State.rd_wr_of_sub _ (by decide) ha (.inr hc), State.rd_wr_of_sub _ (by decide) ha (.inr h5)]
  · rfl

/-- A lap is counted. -/
theorem State.rd_beginLap_laps (hw : Map.wf s.dict = true) (short : Option Nat) : (s.beginLap short).rd 0x1A00 6 = (s.rd 0x1A00 6 + 1) % 2 ^ 64 := by
  have hd : s.accrueAll.refill.dict = s.dict := (Within.refill (k := Machine.parts [.free, .jobs, .tenants, .units, .les]) rfl (.accrueAll rfl .refl)).same .dict rfl
  have hw' : Map.wf s.accrueAll.refill.takeLength.dict = true := by
    have ht : Touches (fun _ => True) s.accrueAll.refill s.accrueAll.refill.takeLength := by
      unfold State.takeLength
      exact .ite ((Touches.refl.wr trivial (by decide)).event trivial (by decide)) .refl
    exact ht.wf (hd ▸ hw)
  have h6 : s.accrueAll.refill.takeLength.rd 0x1A00 6 = s.rd 0x1A00 6 :=
    (State.rd_takeLength _ (by decide) (by decide) (by decide)).trans (State.rd_congr hd _ _)
  have hinc : ((s.accrueAll.refill.takeLength.lapFrom s.clk.datum short s.lengthNow s.clk.fab).inc 0x1A00 6 1).rd 0x1A00 6 = (s.rd 0x1A00 6 + 1) % 2 ^ 64 := by
    rw [State.rd_inc (by rw [State.dict_lapFrom]; exact hw'), State.rd_congr (State.dict_lapFrom ..), h6]
  rw [State.beginLap_eq]
  split
  · rw [State.rd_event, State.rd_wr_of_sub _ (by decide) (by decide) (.inr (by decide)), hinc]
  · exact hinc

theorem State.rd_shortLap_laps (hw : Map.wf s.dict = true) : s.shortLap.rd 0x1A00 6 = (s.rd 0x1A00 6 + 1) % 2 ^ 64 := by
  unfold State.shortLap
  exact State.rd_beginLap_laps hw _

theorem refclkSdReturn_goes (hw : Map.wf s.dict = true) (h : s.clk.sd = false) (hp : s.phase = .up) (hg : s.clk.gated = false) :
    GoesTo (exec .refclkSdReturn s) (fun t => t.clk = { s.clk with sd := true } ∧ t.lap.start = s.clk.datum ∧
      t.lap.short = some ((s.clk.datum / (s.lengthNow * 1000) + 1) * (s.lengthNow * 1000) - s.clk.datum) ∧
      t.rd 0x1A00 6 = (s.rd 0x1A00 6 + 1) % 2 ^ 64 ∧
      t = { s with clk := t.clk, tenants := t.tenants, units := t.units, jobs := t.jobs, les := t.les, lap := t.lap, dict := t.dict,
                   dtx := t.dtx, free := t.free }) := by
  have hn : ¬ (s.phase ≠ .up ∨ s.clk.gated = true) := by simp [hp, hg]
  rw [execRefclkSdReturn_eq, if_neg hn]
  have hw' : Within (parts [.free, .dict, .dtx, .clk, .jobs, .tenants, .lap, .units, .les]) s s.sdBack.shortLap := .shortLap rfl (.set rfl rfl .refl)
  refine ⟨_, when_of_true (by rw [h]; rfl), s.sdBack.clk_shortLap, ?_, ?_, ?_, hw'.eq_keepBut⟩
  · exact s.sdBack.lap_shortLap.1
  · exact s.sdBack.lap_shortLap.2
  · exact State.rd_shortLap_laps (s := s.sdBack) hw

/-- Settles O26, one event of a link after another. -/
theorem linkEventsComplete : Obligations.LinkEventsComplete := by
  unfold Obligations.LinkEventsComplete
  intro s p hp hw
  refine ⟨fun hup hl => ?_, fun h => when_of_false ?_, fun hup hr hl => ?_, fun hup hr hl => ?_, fun h => when_of_false ?_,
    fun speed fec bad => ⟨fun hup hm => linkUp_goes hp hw hup hm, fun h => execLinkUp_eq.trans (when_of_false ?_)⟩,
    ⟨fun hup hl hf hh => failback_goes ⟨hup, hl, hf, hh⟩, fun h => when_of_false (Bool.eq_false_of_not_eq_true (mt (failback_cond s p).mp ?_))⟩,
    refclkSdLost_goes hw, fun h => when_of_false h, refclkSdReturn_goes hw, fun h hg => ?_, fun h => (execRefclkSdReturn_eq s).trans (when_of_false (by rw [h]; rfl))⟩
  · exact linkDown_goes hp hw hup hl
  · rcases h with h | h <;> simp [h]
  · exact portConfigChange_drops hp hw hup hr hl
  · exact (when_of_true (by simp [hup, hr])).trans (congrArg _ (if_neg (by simp [hl])))
  · rcases h with h | h <;> simp [h]
  · rcases h with h | h <;> simp [h]
  · rintro ⟨h1, h2, h3, h4⟩
    rcases h with h | h | h | h
    · exact h h1
    · rw [h2] at h; cases h
    · rw [h3] at h; cases h
    · exact h h4
  · rw [execRefclkSdReturn_eq, if_pos hg]
    exact when_of_true (by rw [h]; rfl)

end Machine
end Sys2Proof
end

section
/-! Handshakes (04 R77-R86): the frame that refuses one, the request's checks, and the reply that opens a channel. -/

namespace Sys2Proof
namespace Machine

variable {s t u : State}

/-! ### What handshakes and messages leave alone -/

/-- Every part but those that `FarSame` holds fixed. -/
def nearby : Parts := parts [.free, .dict, .dtx, .tx, .waits, .parts, .hsIn, .chans, .gens, .freed, .hs, .jobs, .order, .tenants, .rwork, .units, .les,
  .saved, .cmem, .clus, .mcache, .dstreams, .ent, .keys, .flt]

theorem Within.farSame (h : Within nearby s t) : FarSame s t :=
  ⟨h.same .pending rfl, h.same .phase rfl, h.same .clk rfl, h.same .pins rfl, h.same .ports rfl, h.same .ptp rfl, h.same .lap rfl, h.same .kern rfl,
    h.same .stampSeq rfl, h.same .flash rfl, h.same .gate rfl, h.same .trav rfl, h.same .grp rfl, h.same .lc rfl, h.same .tamp rfl⟩

/-! ### A refusal -/

section
variable (kind flags tenant queue handle seq opcode status detail length segIdx segCount cookie key credits : Nat)

theorem fieldAt_headerOctets_handle :
    fieldAt (headerOctets kind flags tenant queue handle seq opcode status detail length segIdx segCount cookie key credits) 4 4 = handle % 2 ^ 32 := by
  have h := fieldAt_append (beBytes 1 (2 * 16 + kind) ++ beBytes 1 flags ++ beBytes 1 tenant ++ beBytes 1 queue) (beBytes 4 handle)
    (beBytes 8 seq ++ beBytes 2 opcode ++ beBytes 1 status ++ beBytes 1 detail ++ beBytes 4 length ++ beBytes 2 segIdx ++ beBytes 2 segCount ++
      beBytes 4 cookie ++ beBytes 4 key ++ beBytes 2 (credits % 65536) ++ beBytes 2 0) (o := 4) (n := 4) (by simp) (by simp)
  rw [beNat_beBytes, show 256 ^ 4 = 2 ^ 32 from rfl] at h
  simpa only [headerOctets, List.append_assoc] using h

theorem fieldAt_headerOctets_status :
    fieldAt (headerOctets kind flags tenant queue handle seq opcode status detail length segIdx segCount cookie key credits) 18 1 = status % 256 := by
  have h := fieldAt_append (beBytes 1 (2 * 16 + kind) ++ beBytes 1 flags ++ beBytes 1 tenant ++ beBytes 1 queue ++ beBytes 4 handle ++ beBytes 8 seq ++
      beBytes 2 opcode) (beBytes 1 status)
    (beBytes 1 detail ++ beBytes 4 length ++ beBytes 2 segIdx ++ beBytes 2 segCount ++ beBytes 4 cookie ++ beBytes 4 key ++
      beBytes 2 (credits % 65536) ++ beBytes 2 0) (o := 18) (n := 1) (by simp) (by simp)
  rw [beNat_beBytes, show 256 ^ 1 = 256 from rfl] at h
  simpa only [headerOctets, List.append_assoc] using h

end

section
variable {port tenant channel ident status detail cookie credits : Nat} {peer : Peer} {body : Bytes}

theorem State.sendHandshake_emits (s : State) : Emits s (s.sendHandshake port peer tenant channel ident status detail cookie credits body) ∧
    s.tx.length < (s.sendHandshake port peer tenant channel ident status detail cookie credits body).tx.length := by
  refine ⟨List.prefix_append _ _, ?_⟩
  unfold State.sendHandshake State.transmit
  rw [List.length_append, List.length_map, List.length_map, List.length_range]
  exact Nat.lt_add_of_pos_right (Nat.lt_of_lt_of_le Nat.one_pos (Nat.le_max_left _ _))

/-- The one frame of an answer with no body. -/
def hsFrame (port : Nat) (peer : Peer) (tenant ident status detail cookie credits : Nat) : TxFrame :=
  .opfel port port peer (headerOctets 0xA (segFlags false 0 1) tenant 0 0 ident 0 status detail 0 0 1 cookie 0 credits) [] none

theorem State.sendHandshake_nil (s : State) : s.sendHandshake port peer tenant 0 ident status detail cookie credits [] =
    s.transmit [hsFrame port peer tenant ident status detail cookie credits] := by
  have hs := le_segmentSize (s.rd (0x1400 + port) 4) peer.encap
  unfold State.sendHandshake
  extract_lets size n
  have hn : n = 1 := by
    have hd : ceilDiv ([] : Sys2Proof.Bytes).length size = 0 := Nat.div_eq_of_lt (by rw [List.length_nil]; omega)
    rw [show n = Nat.max 1 (ceilDiv ([] : Sys2Proof.Bytes).length size) from rfl, hd]
    rfl
  rw [hn, List.range_one, List.map_singleton, slice, List.drop_nil, List.take_nil]
  rfl

/-- An answer with no body is one frame that opens nothing. -/
theorem refused_sendHandshake (hu : u.tx = s.tx) :
    HandshakeRefused s (u.sendHandshake port peer tenant 0 ident status detail cookie credits []) port peer ident status := by
  rw [State.sendHandshake_nil]
  refine ⟨u.wire (hsFrame port peer tenant ident status detail cookie credits), _, ?_, rfl, fieldAt_headerOctets_seq .., fieldAt_headerOctets_status ..,
    (fieldAt_headerOctets_handle ..).trans (Nat.zero_mod _)⟩
  rw [← hu]
  rfl

end

/-! ### The request -/

section
variable {r : HsReq}

/-- A request that has arrived is taken. -/
def State.hsTaken (s : State) (r : HsReq) : State := { s with hsIn := s.hsIn.erase r }

/-- The answer that refuses a request. -/
def State.hsAnswer (s : State) (r : HsReq) (status : Nat) : State := s.sendHandshake r.port r.peer r.tenant 0 r.ident status 0 r.cookie 0 []

/-- The handshake that a request begins. -/
def State.hsBegun (s : State) (r : HsReq) : Handshake :=
  { tenant := r.tenant, ident := r.ident, cookie := r.cookie, port := r.port, peer := r.peer, role := s.credRole r.tenant (hsCred r.body),
    cred := hsCred r.body, enrol := s.lifecycle == 3, body := r.body, stalledAt := none }

/-- The request's work up to check 8. -/
def State.hsVerified (s : State) (r : HsReq) : State := ((s.hsTaken r).hsCounted r.tenant).hsCharge r.tenant (hsVerifyWork (hsSet r.body))

/-- The state in which the handshake waits for its shared secrets. -/
def State.hsWaiting (s : State) (r : HsReq) : State :=
  let t := ((s.hsVerified r).askSeed (tenantDrbg r.tenant)).hsCharge r.tenant hsKeyWork
  { t with hs := t.hs ++ [(s.hsVerified r).hsBegun r] }

theorem handshakeRequest_stays (h : ¬ (s.runs = true ∧ s.linkUp r.port = true ∧ r.tenant < 64 ∧ s.hsIn.contains r = true)) :
    exec (.handshakeRequest r) s = .next s := by
  refine if_pos ?_
  by_contra hn
  simp only [not_or, Bool.not_eq_true', Bool.not_eq_false, not_le] at hn
  exact h hn

theorem handshakeRequest_comes (h : s.runs = true ∧ s.linkUp r.port = true ∧ r.tenant < 64 ∧ s.hsIn.contains r = true) :
    exec (.handshakeRequest r) s =
      if (s.hsTaken r).hsOverRate r.tenant then .next ((s.hsTaken r).inc (0x1800 + r.tenant) 0x35 1)
      else if ((s.hsTaken r).ten r.tenant).resetting then .next (((s.hsTaken r).hsCounted r.tenant).hsAnswer r 0x60)
      else match ((s.hsTaken r).hsCounted r.tenant).hsCheck1 r with
        | some st => .next (((s.hsTaken r).hsCounted r.tenant).hsAnswer r st)
        | none => match (s.hsVerified r).hsCheck2 r with
          | some st => .next ((s.hsVerified r).hsAnswer r st)
          | none => .next (s.hsWaiting r) := by
  obtain ⟨hr, hl, ht, hc⟩ := h
  refine if_neg ?_
  simp only [not_or, Bool.not_eq_true', Bool.not_eq_false, not_le]
  exact ⟨hr, hl, ht, hc⟩

theorem State.hsCheck1_counted (s : State) (r : HsReq) : ((s.hsTaken r).hsCounted r.tenant).hsCheck1 r = s.hsCheck1 r := rfl

theorem State.hsCheck2_verified (s : State) (r : HsReq) : (s.hsVerified r).hsCheck2 r = s.hsCheck2 r := rfl

/-- What every outcome of a request within the rate leaves. -/
structure RequestTaken (s t : State) (r : HsReq) : Prop where
  far : FarSame s t
  chans : t.chans = s.chans
  jobs : t.jobs = s.jobs
  hsIn : t.hsIn = s.hsIn.erase r
  sec : (t.ten r.tenant).hsSec = s.clk.datum / 1000000000

theorem requestTaken_of {v : State} (hv : Within (parts [.hsIn, .tenants]) s v) (hi : v.hsIn = s.hsIn.erase r)
    (hsec : (v.ten r.tenant).hsSec = s.clk.datum / 1000000000) (h : Within (parts [.tx, .hs, .ent, .tenants]) v t)
    (ht : (t.ten r.tenant).hsSec = (v.ten r.tenant).hsSec) : RequestTaken s t r :=
  ⟨((hv.mono rfl).trans (h.mono rfl) : Within nearby s t).farSame, (h.same .chans rfl).trans (hv.same .chans rfl), (h.same .jobs rfl).trans (hv.same .jobs rfl),
    (h.same .hsIn rfl).trans hi, ht.trans hsec⟩

theorem State.ten_hsCharge_self (s : State) (n : Nat) (w : Work) :
    (s.hsCharge n w).ten n = { s.ten n with charge := (s.ten n).charge.add w, own := (s.ten n).own.add w } := State.ten_setTen_self s n _

theorem State.ten_hsCounted_sec (s : State) (n : Nat) : ((s.hsCounted n).ten n).hsSec = s.clk.datum / 1000000000 :=
  congrArg Tenant.hsSec (State.ten_setTen_self s n _)

theorem State.ten_hsCounted_charge (s : State) (n : Nat) : ((s.hsCounted n).ten n).charge = (s.ten n).charge := by
  unfold State.hsCounted
  rw [State.ten_setTen_self]

/-- A request is answered with a status. -/
theorem answered_counted (s : State) (r : HsReq) (st : Nat) : RequestTaken s (((s.hsTaken r).hsCounted r.tenant).hsAnswer r st) r ∧
    (((s.hsTaken r).hsCounted r.tenant).hsAnswer r st).hs = s.hs ∧
    HandshakeRefused s (((s.hsTaken r).hsCounted r.tenant).hsAnswer r st) r.port r.peer r.ident st :=
  ⟨requestTaken_of (v := (s.hsTaken r).hsCounted r.tenant) (.hsCounted rfl (.set rfl rfl .refl)) rfl (State.ten_hsCounted_sec _ _)
    (.sendHandshake rfl .refl) rfl, rfl, refused_sendHandshake rfl⟩

theorem answered_verified (s : State) (r : HsReq) (st : Nat) : RequestTaken s ((s.hsVerified r).hsAnswer r st) r ∧
    ((s.hsVerified r).hsAnswer r st).hs = s.hs ∧ HandshakeRefused s ((s.hsVerified r).hsAnswer r st) r.port r.peer r.ident st :=
  ⟨requestTaken_of (v := s.hsVerified r) (.hsCharge rfl (.hsCounted rfl (.set rfl rfl .refl))) rfl
    ((congrArg Tenant.hsSec (State.ten_hsCharge_self _ _ _)).trans (State.ten_hsCounted_sec _ _)) (.sendHandshake rfl .refl) rfl, rfl, refused_sendHandshake rfl⟩

/-- A request that passes its checks waits, its work charged. -/
theorem hsWaiting_waits (s : State) (r : HsReq) : RequestTaken s (s.hsWaiting r) r ∧ (s.hsWaiting r).tx = s.tx ∧
    ((s.hsWaiting r).ten r.tenant).charge = ((s.ten r.tenant).charge.add (hsVerifyWork (hsSet r.body))).add hsKeyWork ∧
    ∃ h, (s.hsWaiting r).hs = s.hs ++ [h] ∧ h.tenant = r.tenant ∧ h.ident = r.ident ∧ h.cookie = r.cookie ∧ h.body = r.body := by
  have hv : Within (parts [.hsIn, .tenants]) s (s.hsVerified r) := .hsCharge rfl (.hsCounted rfl (.set rfl rfl .refl))
  have ha : Within (parts [.ent]) (s.hsVerified r) ((s.hsVerified r).askSeed (tenantDrbg r.tenant)) := .askSeed rfl .refl
  have hw : Within (parts [.hs, .ent, .tenants]) (s.hsVerified r) (s.hsWaiting r) := .set rfl rfl (.hsCharge rfl (ha.mono rfl))
  have hten : ((s.hsVerified r).askSeed (tenantDrbg r.tenant)).ten r.tenant = (s.hsVerified r).ten r.tenant := State.ten_congr (ha.same .tenants rfl) _
  have hself : (s.hsWaiting r).ten r.tenant = _ := State.ten_hsCharge_self ((s.hsVerified r).askSeed (tenantDrbg r.tenant)) r.tenant hsKeyWork
  have hver : (s.hsVerified r).ten r.tenant = _ := State.ten_hsCharge_self ((s.hsTaken r).hsCounted r.tenant) r.tenant (hsVerifyWork (hsSet r.body))
  have hhs : (s.hsWaiting r).hs = s.hs ++ [(s.hsVerified r).hsBegun r] :=
    congrArg (· ++ [(s.hsVerified r).hsBegun r]) ((ha.same .hs rfl).trans (hv.same .hs rfl))
  refine ⟨requestTaken_of hv rfl ?_ (hw.mono rfl) ?_, (hw.same .tx rfl).trans (hv.same .tx rfl), ?_, _, hhs, rfl, rfl, rfl, rfl⟩
  · rw [hver]
    exact State.ten_hsCounted_sec _ _
  · rw [hself, hten]
  · rw [hself, hten, hver]
    show ((((s.hsTaken r).hsCounted r.tenant).ten r.tenant).charge.add _).add _ = _
    rw [State.ten_hsCounted_charge]
    rfl

end

/-! ### The reply -/

section
variable {n ident slot : Nat} {src : Peer} {h : Handshake}

/-- The answer that ends a handshake. -/
def Handshake.refuse (h : Handshake) (n ident : Nat) (v : State) (status : Nat) : State :=
  v.sendHandshake h.port h.peer n 0 ident status 0 h.cookie 0 []

theorem findHs_dropHs (s : State) (n ident : Nat) (src : Peer) : (s.dropHs n ident src).findHs n ident src = none := by
  refine List.find?_eq_none.mpr fun x hx hc => ?_
  have := (List.mem_filter.mp hx).2
  rw [hc] at this
  cases this

/-- A handshake that ends with a status leaves the rest. -/
theorem hsRefused (h : Handshake) (s : State) (n ident : Nat) (src : Peer) (status : Nat) {v : State} (hv : Within (parts [.ent]) (s.dropHs n ident src) v) :
    FarSame s (h.refuse n ident v status) ∧ (h.refuse n ident v status).chans = s.chans ∧ (h.refuse n ident v status).findHs n ident src = none ∧
      HandshakeRefused s (h.refuse n ident v status) h.port h.peer ident status := by
  have hw : Within (parts [.ent, .tx]) (s.dropHs n ident src) (h.refuse n ident v status) := .sendHandshake rfl (hv.mono rfl)
  have hd : Within (parts [.hs]) s (s.dropHs n ident src) := .dropHs rfl .refl
  refine ⟨((hd.mono rfl).trans (hw.mono rfl) : Within nearby s _).farSame, hw.same .chans rfl, ?_, refused_sendHandshake (hv.same .tx rfl)⟩
  rw [State.findHs, show (h.refuse n ident v status).hs = (s.dropHs n ident src).hs from hw.same .hs rfl]
  exact findHs_dropHs s n ident src

/-- The draw of a handshake's X25519 value. -/
def State.hsDrawn (s : State) (n ident : Nat) (src : Peer) : State :=
  (s.dropHs n ident src).setDrbg (tenantDrbg n) ((s.drbg (tenantDrbg n)).called 32 (drawInput 0 0))

def State.hsSecret (s : State) (n : Nat) : Bytes := drbgOutput (s.drbg (tenantDrbg n)) 32 (drawInput 0 0)

theorem State.generate_handshake (s : State) (n ident : Nat) (src : Peer) : (s.dropHs n ident src).generate (tenantDrbg n) 32 (drawInput 0 0) =
    if s.serving (tenantDrbg n) then some (s.hsDrawn n ident src, s.hsSecret n) else none := rfl

/-- The reply to a handshake, branch by branch. -/
theorem handshakeReply_found (hf : s.findHs n ident src = some h) : exec (.handshakeReply n ident src) s =
    if !s.runs then .next s
    else if (s.ten n).resetting then .next (h.refuse n ident (s.dropHs n ident src) 0x60)
    else if s.rd (0x1800 + n) 1 ≠ 1 ∨ (h.enrol ∧ s.lifecycle ≠ 3) then .next (h.refuse n ident (s.dropHs n ident src) 0x15)
    else if s.entropyState = 2 ∨ s.hsStalled h then .next (h.refuse n ident (s.dropHs n ident src) 0x50)
    else if s.serving (tenantDrbg n) then
      if beNat (hsShare h (s.hsSecret n)) = 0 then .next (h.refuse n ident (s.hsDrawn n ident src) 0x15)
      else if (s.hsDrawn n ident src).rd (0x1800 + n) 3 ≤ (s.hsDrawn n ident src).openChannels n then .next (h.refuse n ident (s.hsDrawn n ident src) 0x40)
      else match (s.hsDrawn n ident src).freeSlot with
        | none => .next (h.refuse n ident (s.hsDrawn n ident src) 0x40)
        | some slot => .next (((s.hsDrawn n ident src).hsCharge n hsSignWork).openChannel h slot (s.hsSecret n))
    else .next ((s.hsStall h).askSeed (tenantDrbg n)) := by
  rw [exec_handshakeReply, execHandshakeReply, hf]
  simp only [State.generate_handshake]
  by_cases hs : s.serving (tenantDrbg n) = true
  · simp only [hs, if_true]
    rfl
  · simp only [hs, if_false, Bool.false_eq_true]
    rfl

theorem handshakeReply_stays (hn : s.runs = false ∨ s.findHs n ident src = none) : exec (.handshakeReply n ident src) s = .next s := by
  cases hf : s.findHs n ident src with
  | none => rw [exec_handshakeReply, execHandshakeReply, hf]
  | some h =>
    rcases hn with hn | hn
    · rw [handshakeReply_found hf]
      exact if_pos (by rw [hn]; rfl)
    · rw [hf] at hn; cases hn

/-- A handshake that ends with a status, as its reply. -/
theorem goes_refused {v : State} {status : Nat} (hv : Within (parts [.ent]) (s.dropHs n ident src) v)
    (he : exec (.handshakeReply n ident src) s = .next (h.refuse n ident v status)) : GoesTo (exec (.handshakeReply n ident src) s) (fun t =>
      FarSame s t ∧ t.chans = s.chans ∧ t.findHs n ident src = none ∧ HandshakeRefused s t h.port h.peer ident status) :=
  ⟨_, he, hsRefused h s n ident src status hv⟩

theorem within_hsDrawn (s : State) (n ident : Nat) (src : Peer) : Within (parts [.ent]) (s.dropHs n ident src) (s.hsDrawn n ident src) := .setDrbg rfl .refl

/-- The tenant takes handshakes now. -/
structure HsOpen (s : State) (n : Nat) (h : Handshake) : Prop where
  runs : s.runs = true
  unreset : (s.ten n).resetting = false
  enabled : s.rd (0x1800 + n) 1 = 1
  enrol : h.enrol = true → s.lifecycle = 3

theorem handshakeReply_open (hf : s.findHs n ident src = some h) (ho : HsOpen s n h) : exec (.handshakeReply n ident src) s =
    if s.entropyState = 2 ∨ s.hsStalled h then .next (h.refuse n ident (s.dropHs n ident src) 0x50)
    else if s.serving (tenantDrbg n) then
      if beNat (hsShare h (s.hsSecret n)) = 0 then .next (h.refuse n ident (s.hsDrawn n ident src) 0x15)
      else if (s.hsDrawn n ident src).rd (0x1800 + n) 3 ≤ (s.hsDrawn n ident src).openChannels n then .next (h.refuse n ident (s.hsDrawn n ident src) 0x40)
      else match (s.hsDrawn n ident src).freeSlot with
        | none => .next (h.refuse n ident (s.hsDrawn n ident src) 0x40)
        | some slot => .next (((s.hsDrawn n ident src).hsCharge n hsSignWork).openChannel h slot (s.hsSecret n))
    else .next ((s.hsStall h).askSeed (tenantDrbg n)) := by
  obtain ⟨hr, hu, he, hl⟩ := ho
  rw [handshakeReply_found hf, if_neg (by rw [hr]; decide), if_neg (by rw [hu]; decide), if_neg]
  rintro (h1 | ⟨h2, h3⟩)
  · exact h1 he
  · exact h3 (hl h2)

theorem hsStalled_iff (s : State) (h : Handshake) (ht : h.tenant = n) : s.hsStalled h = true ↔
    s.serving (tenantDrbg n) = false ∧ ∃ w, h.stalledAt = some w ∧ w + 2500 ≤ s.clk.fab := by
  unfold State.hsStalled
  rw [ht]
  cases h.stalledAt <;> simp

theorem handshakeReply_stalls (hf : s.findHs n ident src = some h) (ho : HsOpen s n h) (he : s.entropyState ≠ 2) (hs : s.serving (tenantDrbg n) = false)
    (hw : ∀ w, h.stalledAt = some w → s.clk.fab < w + 2500) (ht : h.tenant = n) :
    exec (.handshakeReply n ident src) s = .next ((s.hsStall h).askSeed (tenantDrbg n)) := by
  rw [handshakeReply_open hf ho, if_neg, if_neg (by rw [hs]; decide)]
  rintro (h1 | h2)
  · exact he h1
  · obtain ⟨-, w, hw1, hw2⟩ := (hsStalled_iff s h ht).mp h2
    exact absurd (hw w hw1) (by omega)

theorem handshakeReply_served (hf : s.findHs n ident src = some h) (ho : HsOpen s n h) (he : s.entropyState ≠ 2) (hs : s.serving (tenantDrbg n) = true)
    (ht : h.tenant = n) : exec (.handshakeReply n ident src) s =
      if beNat (hsShare h (s.hsSecret n)) = 0 then .next (h.refuse n ident (s.hsDrawn n ident src) 0x15)
      else if (s.hsDrawn n ident src).rd (0x1800 + n) 3 ≤ (s.hsDrawn n ident src).openChannels n then .next (h.refuse n ident (s.hsDrawn n ident src) 0x40)
      else match (s.hsDrawn n ident src).freeSlot with
        | none => .next (h.refuse n ident (s.hsDrawn n ident src) 0x40)
        | some slot => .next (((s.hsDrawn n ident src).hsCharge n hsSignWork).openChannel h slot (s.hsSecret n)) := by
  rw [handshakeReply_open hf ho, if_neg, if_pos hs]
  rintro (h1 | h2)
  · exact he h1
  · rw [((hsStalled_iff s h ht).mp h2).1] at hs
    cases hs

theorem handshakeReply_full (hf : s.findHs n ident src = some h) (ho : HsOpen s n h) (he : s.entropyState ≠ 2) (hs : s.serving (tenantDrbg n) = true)
    (ht : h.tenant = n) (hz : beNat (hsShare h (s.hsSecret n)) ≠ 0) (hfull : s.rd (0x1800 + n) 3 ≤ s.openChannels n ∨ s.freeSlot = none) :
    exec (.handshakeReply n ident src) s = .next (h.refuse n ident (s.hsDrawn n ident src) 0x40) := by
  rw [handshakeReply_served hf ho he hs ht, if_neg hz]
  by_cases hc : (s.hsDrawn n ident src).rd (0x1800 + n) 3 ≤ (s.hsDrawn n ident src).openChannels n
  · exact if_pos hc
  · rw [if_neg hc, show (s.hsDrawn n ident src).freeSlot = none from hfull.resolve_left hc]

/-- What a channel is when it opens. -/
theorem State.openChannel_channel (u : State) (h : Handshake) (slot : Nat) (secret : Sys2Proof.Bytes) :
    ∃ c, Map.find (u.openChannel h slot secret).chans slot = some c ∧ c.tenant = h.tenant ∧ c.gen = u.slotGen slot ∧ c.role = h.role ∧
      c.state = .pending ∧ c.floor = 0 ∧ c.high = 0 ∧ c.lastAuth = u.clk.datum ∧ c.grant ≤ u.rd 0x1600 3 ∧ 100 ≤ c.keepalive ∧ c.keepalive ≤ 60000 ∧
      ∀ x, x ≠ slot → Map.find (u.openChannel h slot secret).chans x = Map.find u.chans x := by
  unfold State.openChannel
  extract_lets gen keepalive credits handle head m ssk k v
  exact ⟨newChannel u h gen credits keepalive k, Map.find_put_self _ _ _, rfl, rfl, rfl, rfl, rfl, rfl, rfl, Nat.min_le_left _ _,
    Nat.le_min.mpr ⟨by decide, Nat.le_max_left _ _⟩, Nat.min_le_left _ _, fun x hx => Map.find_put_of_ne _ _ hx⟩

theorem State.openChannel_emits (u : State) (h : Handshake) (slot : Nat) (secret : Sys2Proof.Bytes) :
    u.tx.length < (u.openChannel h slot secret).tx.length := by
  unfold State.openChannel
  extract_lets gen keepalive credits handle head m ssk k v
  exact v.sendHandshake_emits.2

/-- A channel opens, PENDING, and the signed reply goes out. -/
theorem handshakeReply_opens (hf : s.findHs n ident src = some h) (ho : HsOpen s n h) (he : s.entropyState ≠ 2) (hs : s.serving (tenantDrbg n) = true)
    (ht : h.tenant = n) (hz : beNat (hsShare h (s.hsSecret n)) ≠ 0) (hroom : s.openChannels n < s.rd (0x1800 + n) 3) (hslot : s.freeSlot = some slot) :
    GoesTo (exec (.handshakeReply n ident src) s) (fun t => FarSame s t ∧ t.findHs n ident src = none ∧ s.tx.length < t.tx.length ∧
      ∃ c, Map.find t.chans slot = some c ∧ c.tenant = h.tenant ∧ c.gen = s.slotGen slot ∧ c.role = h.role ∧ c.state = .pending ∧ c.floor = 0 ∧
        c.high = 0 ∧ c.lastAuth = s.clk.datum ∧ c.grant ≤ s.rd 0x1600 3 ∧ 100 ≤ c.keepalive ∧ c.keepalive ≤ 60000 ∧
        ∀ x, x ≠ slot → Map.find t.chans x = Map.find s.chans x) := by
  have he' : exec (.handshakeReply n ident src) s = .next (((s.hsDrawn n ident src).hsCharge n hsSignWork).openChannel h slot (s.hsSecret n)) := by
    have hn : ¬ (s.hsDrawn n ident src).rd (0x1800 + n) 3 ≤ (s.hsDrawn n ident src).openChannels n := not_le.mpr hroom
    rw [handshakeReply_served hf ho he hs ht, if_neg hz, if_neg hn, show (s.hsDrawn n ident src).freeSlot = some slot from hslot]
  have hw : Within (parts [.ent, .tenants, .tx, .chans, .gens, .freed]) (s.dropHs n ident src)
      (((s.hsDrawn n ident src).hsCharge n hsSignWork).openChannel h slot (s.hsSecret n)) := .openChannel rfl (.hsCharge rfl ((within_hsDrawn s n ident src).mono rfl))
  have hd : Within (parts [.hs]) s (s.dropHs n ident src) := .dropHs rfl .refl
  have hhs : (((s.hsDrawn n ident src).hsCharge n hsSignWork).openChannel h slot (s.hsSecret n)).hs = (s.dropHs n ident src).hs := hw.same .hs rfl
  refine ⟨_, he', ((hd.mono rfl).trans (hw.mono rfl) : Within nearby s _).farSame, ?_,
    State.openChannel_emits ((s.hsDrawn n ident src).hsCharge n hsSignWork) h slot (s.hsSecret n), ?_⟩
  · rw [State.findHs, hhs]
    exact findHs_dropHs s n ident src
  · exact State.openChannel_channel ((s.hsDrawn n ident src).hsCharge n hsSignWork) h slot (s.hsSecret n)

end

/-- Settles O30: first the request, then the reply. -/
theorem handshakesComplete : Obligations.HandshakesComplete := by
  unfold Obligations.HandshakesComplete
  refine ⟨fun s r => ⟨fun hc ho => ?_, fun hc ho => ?_, handshakeRequest_stays⟩, fun s n ident src => ⟨handshakeReply_stays, fun h hr hf => ?_⟩⟩
  · exact (handshakeRequest_comes hc).trans (if_pos ho)
  · have he := (handshakeRequest_comes hc).trans (if_neg (by rw [show (s.hsTaken r).hsOverRate r.tenant = false from ho]; decide))
    by_cases hres : (s.ten r.tenant).resetting = true
    · obtain ⟨⟨h1, h2, h3, h4, h5⟩, ha⟩ := answered_counted s r 0x60
      exact ⟨_, he.trans (if_pos hres), h1, h2, h3, h4, h5, by simp only [hres, if_true]; exact ha⟩
    · replace he := he.trans (if_neg hres)
      rw [State.hsCheck1_counted, State.hsCheck2_verified] at he
      simp only [hres]
      cases h1 : s.hsCheck1 r with
      | some st =>
        rw [h1] at he
        obtain ⟨⟨h1, h2, h3, h4, h5⟩, ha⟩ := answered_counted s r st
        exact ⟨_, he, h1, h2, h3, h4, h5, ha⟩
      | none =>
        cases h2 : s.hsCheck2 r with
        | some st =>
          rw [h1, h2] at he
          obtain ⟨⟨h1, h2, h3, h4, h5⟩, ha⟩ := answered_verified s r st
          exact ⟨_, he, h1, h2, h3, h4, h5, ha⟩
        | none =>
          rw [h1, h2] at he
          obtain ⟨⟨h1, h2, h3, h4, h5⟩, ha⟩ := hsWaiting_waits s r
          exact ⟨_, he, h1, h2, h3, h4, h5, ha⟩
  · have hnr : ¬ ((!s.runs) = true) := by rw [hr]; decide
    refine ⟨fun hres => goes_refused .refl ?_, fun hres hdis => goes_refused .refl ?_, fun hres hen hlc => ?_⟩
    · rw [handshakeReply_found hf, if_neg hnr, if_pos hres]
    · rw [handshakeReply_found hf, if_neg hnr, if_neg (by rw [hres]; decide), if_pos hdis]
    · have ho : HsOpen s n h := ⟨hr, hres, hen, hlc⟩
      refine ⟨fun he => goes_refused .refl ?_, fun he => ⟨fun hs hw ht => handshakeReply_stalls hf ho he hs hw ht, fun w hs hw hle ht => goes_refused .refl ?_,
        fun hs ht => ⟨fun hz => goes_refused (within_hsDrawn s n ident src) ?_, fun hz hfull => goes_refused (within_hsDrawn s n ident src) ?_, fun slot hz hroom hslot => ?_⟩⟩⟩
      · rw [handshakeReply_open hf ho, if_pos (.inl he)]
      · rw [handshakeReply_open hf ho, if_pos (.inr ((hsStalled_iff s h ht).mpr ⟨hs, w, hw, hle⟩))]
      · rw [handshakeReply_served hf ho he hs ht]
        exact if_pos hz
      · exact handshakeReply_full hf ho he hs ht hz hfull
      · exact handshakeReply_opens hf ho he hs ht hz hroom hslot

end Machine
end Sys2Proof
end

section
/-! READ, RAW_SAMPLE_READ and DESCRIBE (05 R108, R109, R115, R118, 13 R302). -/

namespace Sys2Proof
namespace Machine

variable {s t : State} {r : JobRef} {x : Job} {c : Channel} {op status detail : Nat} {out : Bytes}

/-! ### The end of a DICT message -/

theorem State.dictJob_spec (h : s.dictJob r op = some (x, c)) : s.findJob r = some x ∧ x.kind = 0x4 ∧ x.opcode = op ∧ x.state = .queued ∧ s.runs = true ∧
    s.awaitsReset r = false ∧ Map.find s.chans r.chan = some c := by
  unfold State.dictJob at h
  split at h
  next y d hy hd =>
    split at h
    next hc =>
      obtain ⟨rfl, rfl⟩ := Prod.mk.inj (Option.some.inj h)
      obtain ⟨hk, ho, hs, hr, ha, -⟩ := hc
      exact ⟨hy, hk, ho, hs, hr, by simpa using ha, hd⟩
    · cases h
  · cases h

theorem Job.live_of_queued (h : x.state = .queued) : x.live = true := by rw [Job.live, h]; rfl

theorem failRecord_ne_nil (e p v : Nat) : failRecord e p v ≠ [] := fun h => absurd (congrArg List.length h) (by simp [failRecord])

/-- Of the end of a DICT message: its completion, and that no fault of it is counted. -/
theorem dict_finish (hj : s.findJob r = some x) (hk : x.kind = 0x4) (hl : x.live = true) (hu : uncached status = false) (ho : status = 0 ∨ out ≠ []) :
    JobDone (s.finish r status detail out none) r status detail out x.key ∧ (∀ y, y ≠ r → (s.finish r status detail out none).findJob y = s.findJob y) ∧
      Within (parts [.jobs, .units, .clus]) s (s.finish r status detail out none) := by
  obtain ⟨hf, hx⟩ := State.finish_jobs (status := status) (detail := detail) (result := out) (key := none) hj hl hu
  have hout : s.resultOf x.kind status out = out := if_neg fun hc => ho.elim hc.2.1 fun hne => hne hc.2.2
  rw [hout] at hf
  refine ⟨⟨_, hf, rfl, rfl, rfl, rfl, rfl, rfl⟩, hx, ?_⟩
  rw [State.finish_cached hj hl hu]
  have hn : ∀ u : State, u.countFault x status = u := fun u => if_neg (by rw [hk]; simp)
  rw [hn]
  exact .mapJob rfl (.freeEngines rfl .refl)

theorem Within.dict_jobFrame {k : Parts} (h : Within k s t) (hk : covers k finishing = true) (hx : ∀ y, y ≠ r → t.findJob y = s.findJob y) : JobFrame s t r :=
  (h.mono hk).jobFrame hx

/-- A DICT message that is refused. -/
theorem dict_refused (hj : s.findJob r = some x) (hk : x.kind = 0x4) (hl : x.live = true) {e : Refused} (hu : uncached e.status = false) :
    DictRefused s (s.refuseDict r e) r x e ∧ JobFrame s (s.refuseDict r e) r ∧ Within (parts [.jobs, .units, .clus]) s (s.refuseDict r e) := by
  obtain ⟨hd, hx, hw⟩ := dict_finish (s := s) (detail := if e.status = 0x72 then e.position else 0) hj hk hl hu (.inr (failRecord_ne_nil s.dtx.epoch e.position e.value))
  exact ⟨⟨hd, hw.same .dict rfl, hw.same .dtx rfl⟩, hw.dict_jobFrame rfl hx, hw⟩

/-! ### READ -/

section
variable {a : Asker} {e : Nat} {items : List ReadItem} {q : Refused}

theorem firstRefused_cached (a : Asker) : ∀ (items : List ReadItem) (pos : Nat), a.firstRefused pos items = some q → uncached q.status = false := by
  intro items
  induction items with
  | nil => intro pos h; cases h
  | cons it rest ih =>
    intro pos h
    unfold Asker.firstRefused at h
    split at h
    next st hst =>
      obtain rfl := Option.some.inj h
      unfold Asker.itemStatus at hst
      split at hst
      · obtain rfl := Option.some.inj hst; rfl
      · split at hst
        · obtain rfl := Option.some.inj hst; rfl
        · cases hst
    · exact ih _ h

theorem readRefused_cached (h : s.readRefused a e items = some q) : uncached q.status = false := by
  unfold State.readRefused at h
  split at h
  · obtain rfl := Option.some.inj h; rfl
  · split at h
    · obtain rfl := Option.some.inj h; rfl
    · split at h
      next r hr =>
        obtain rfl := Option.some.inj h
        exact firstRefused_cached a _ _ hr
      · obtain ⟨p, -, rfl⟩ := Option.map_eq_some_iff.mp h
        rfl

theorem readWaits_none (h : ∀ it ∈ items, groupItem it = false) : s.readWaits r items = none :=
  if_pos (.inl (by
    have : items.any groupItem = false := List.any_eq_false.mpr fun it hit => by simp [h it hit]
    rw [this]; rfl))

/-- The READ has no wait for group state left. -/
def State.readOver (s : State) (r : JobRef) : State := { s with grp := { s.grp with reads := s.grp.reads.filter (fun q => q.2.1 != r) } }

theorem serveRead_misread (hr : x.ref = r) (hp : parseRead x.payload = none) : s.serveRead x c = s.refuseDict r ⟨0x26, 0xFF, 0⟩ := by
  rw [State.serveRead, hp, hr]

theorem serveRead_refused (hr : x.ref = r) (hp : parseRead x.payload = some (e, items)) (hq : s.readRefused ⟨c.role, c.tenant, false, false⟩ e items = some q) :
    s.serveRead x c = s.refuseDict r q := by
  rw [State.serveRead, hp]
  dsimp only
  rw [hq, hr]

theorem serveRead_answered (hr : x.ref = r) (hp : parseRead x.payload = some (e, items)) (hq : s.readRefused ⟨c.role, c.tenant, false, false⟩ e items = none)
    (hg : ∀ it ∈ items, groupItem it = false) :
    s.serveRead x c = (((s.readOver r).finish r 0 0 (s.readResult e items) none)).readEffects items := by
  rw [State.serveRead, hp]
  dsimp only
  rw [hq, hr]
  dsimp only
  rw [readWaits_none hg]
  rfl

theorem execRead_of (h : s.dictJob r 1 = some (x, c)) : exec (.read r) s = .next (s.serveRead x c) := by rw [exec_read, execRead, h]

theorem execRawSampleRead_of (h : s.dictJob r 1 = some (x, c)) (hp : parseRead x.payload = some (e, items))
    (hi : ∃ it ∈ items, it.1 = 0x2810 ∧ it.2.1 = 1) : exec (.rawSampleRead r) s = .next (s.serveRead x c) := by
  rw [exec_rawSampleRead, execRawSampleRead, h]
  dsimp only
  rw [hp]
  exact if_pos (by simpa using hi)

/-- What a READ's completion leaves, before what it takes. -/
theorem readOver_finish (h : s.dictJob r 1 = some (x, c)) : JobDone ((s.readOver r).finish r 0 0 out none) r 0 0 out x.key ∧
    Within (parts [.grp, .jobs, .units, .clus]) s ((s.readOver r).finish r 0 0 out none) := by
  obtain ⟨hj, hk, -, hs, -⟩ := State.dictJob_spec h
  obtain ⟨hd, -, hw⟩ := dict_finish (s := s.readOver r) (status := 0) (detail := 0) (out := out) hj hk (Job.live_of_queued hs) rfl (.inl rfl)
  exact ⟨hd, Within.into (.set rfl rfl .refl) rfl hw⟩

theorem JobDone.congr {key : Nat} (h : JobDone s r status detail out key) (hj : t.jobs = s.jobs) : JobDone t r status detail out key := by
  obtain ⟨j, hf, hd⟩ := h
  exact ⟨j, (State.findJob_congr hj r).trans hf, hd⟩

/-- Reading RAW_SAMPLE empties the buffer. -/
theorem takeRaw_spec (s : State) : Within (parts [.dict, .dtx, .tx, .chans, .ent]) s s.takeRaw ∧ s.takeRaw.ent = { s.ent with raw := none } := by
  unfold State.takeRaw
  split
  next h =>
    have hw : Within (parts [.dict, .dtx, .tx, .chans]) s (s.entropyEvent 16 false) := .entropyEvent rfl .refl
    exact ⟨hw.mono rfl, (hw.same .ent rfl : _ = s.ent).trans (by rw [← h]; rfl)⟩
  · exact ⟨.set rfl rfl .refl, rfl⟩

end

/-! ### DESCRIBE -/

theorem execDescribe_of (h : s.dictJob r 4 = some (x, c)) : exec (.describe r) s =
    if x.payload.length ≠ 4 ∨ fieldAt x.payload 3 1 ≠ 0 then .next (s.refuseDict r ⟨0x26, 0xFF, 0⟩)
    else match descriptor (fieldAt x.payload 0 2) (fieldAt x.payload 2 1) with
      | some d => .next (s.finish r 0 0 d none)
      | none => .next (s.refuseDict r ⟨0x71, 0xFF, 0⟩) := by
  rw [exec_describe, execDescribe, h] <;> rfl

/-- Settles O32: READ and RAW_SAMPLE_READ, then DESCRIBE. -/
theorem dictionaryReadsComplete : Obligations.DictionaryReadsComplete := by
  unfold Obligations.DictionaryReadsComplete
  intro s r x c
  refine ⟨fun h => ?_, fun h => ?_⟩
  · obtain ⟨hj, hk, -, hs, -⟩ := State.dictJob_spec h
    have hl := Job.live_of_queued hs
    have hr := State.ref_of_findJob hj
    refine ⟨fun hp => ?_, fun e items q hp hq => ?_, fun e items hp hq hg => ⟨fun hi => ?_, fun hi => ?_⟩⟩
    · obtain ⟨hd, hf, -⟩ := dict_refused (e := ⟨0x26, 0xFF, 0⟩) hj hk hl rfl
      exact ⟨_, (execRead_of h).trans (congrArg _ (serveRead_misread hr hp)), hd, hf⟩
    · obtain ⟨hd, hf, -⟩ := dict_refused hj hk hl (readRefused_cached hq)
      exact ⟨_, (execRead_of h).trans (congrArg _ (serveRead_refused hr hp hq)), hd, hf⟩
    · obtain ⟨hd, hw⟩ := readOver_finish (out := s.readResult e items) h
      have hn : ((s.readOver r).finish r 0 0 (s.readResult e items) none).readEffects items = (s.readOver r).finish r 0 0 (s.readResult e items) none :=
        if_neg (by
          simp only [List.any_eq_true, Bool.and_eq_true, beq_iff_eq, not_exists, not_and]
          exact fun it hit h1 => absurd h1 (hi it hit).2)
      exact ⟨_, (execRead_of h).trans (congrArg _ ((serveRead_answered hr hp hq hg).trans hn)), ⟨hd, hw.same .keys rfl, hw.same .lc rfl, hw.same .trav rfl,
        hw.same .flash rfl⟩, hw.same .dict rfl, hw.same .ent rfl, hw.same .free rfl, hw.same .chans rfl, hw.same .tx rfl⟩
    · obtain ⟨hd, hw⟩ := readOver_finish (out := s.readResult e items) h
      obtain ⟨ht, hent⟩ := takeRaw_spec ((s.readOver r).finish r 0 0 (s.readResult e items) none)
      have hn : ((s.readOver r).finish r 0 0 (s.readResult e items) none).readEffects items = ((s.readOver r).finish r 0 0 (s.readResult e items) none).takeRaw :=
        if_pos (by simpa using hi)
      have hall := (hw.mono rfl).trans (ht.mono rfl : Within (parts [.grp, .jobs, .units, .clus, .dict, .dtx, .tx, .chans, .ent]) _ _)
      refine ⟨_, (execRawSampleRead_of h hp hi).trans (congrArg _ ((serveRead_answered hr hp hq hg).trans hn)), ⟨hd.congr (ht.same .jobs rfl),
        hall.same .keys rfl, hall.same .lc rfl, hall.same .trav rfl, hall.same .flash rfl⟩, ?_⟩
      rw [hent, show ((s.readOver r).finish r 0 0 (s.readResult e items) none).ent = s.ent from hw.same .ent rfl]
  · obtain ⟨hj, hk, -, hs, -⟩ := State.dictJob_spec h
    have hl := Job.live_of_queued hs
    have hr := State.ref_of_findJob hj
    refine ⟨fun hb => ?_, fun h4 h3 => ⟨fun hd => ?_, fun d hd => ?_⟩⟩
    · obtain ⟨hd, hf, -⟩ := dict_refused (e := ⟨0x26, 0xFF, 0⟩) hj hk hl rfl
      exact ⟨_, (execDescribe_of h).trans (if_pos hb), hd, hf⟩
    · obtain ⟨hdr, -, -⟩ := dict_refused (e := ⟨0x71, 0xFF, 0⟩) hj hk hl rfl
      refine ⟨_, (execDescribe_of h).trans ?_, hdr⟩
      rw [if_neg (by simp [h4, h3]), hd]
    · obtain ⟨hdone, hx, hw⟩ := dict_finish (s := s) (status := 0) (detail := 0) (out := d) hj hk hl rfl (.inl rfl)
      rw [Ends, hr]
      refine ⟨_, (execDescribe_of h).trans ?_, hdone, hw.dict_jobFrame rfl hx⟩
      rw [if_neg (by simp [h4, h3]), hd]

end Machine
end Sys2Proof
end

section
/-! WRITE, SEALED_WRITE, EVENT_CLEAR and JOURNAL_COMMIT (05 R107-R113, R117, R119). -/

namespace Sys2Proof
namespace Machine

variable {s t : State} {r : JobRef} {x : Job} {c : Channel} {g : Journal} {ws : List DWrite} {w : DWrite} {e : Refused} {row : Row} {idx sub : Nat}

/-! ### The statuses of the checks -/

theorem itemRefused_cached {a : Asker} {pos : Nat} {before : List DWrite} (h : s.itemRefused a pos before w = some e) : uncached e.status = false := by
  unfold State.itemRefused at h
  split at h
  · obtain rfl := Option.some.inj h; rfl
  · split at h
    · obtain rfl := Option.some.inj h; rfl
    · split_ifs at h <;> obtain rfl := Option.some.inj h <;> rfl

theorem itemsRefused_cached {a : Asker} : ∀ {ws before : List DWrite} {pos : Nat}, s.itemsRefused a pos before ws = some e → uncached e.status = false
  | w :: rest, before, pos, h => by
    unfold State.itemsRefused at h
    split at h
    next q hq =>
      obtain rfl := Option.some.inj h
      exact itemRefused_cached hq
    · exact itemsRefused_cached h

theorem spanRefused_cached {a : Asker} (h : s.spanRefused a ws = some e) : uncached e.status = false := by
  obtain ⟨rule, -, hr⟩ := List.exists_of_findSome?_eq_some h
  split at hr
  · split at hr
    · cases hr
    · obtain rfl := Option.some.inj hr; rfl
  · cases hr

theorem txnRefused_cached {a : Asker} (h : s.txnRefused a ws = some e) : uncached e.status = false := by
  unfold State.txnRefused at h
  split at h
  next q hq =>
    obtain rfl := Option.some.inj h
    exact itemsRefused_cached hq
  · exact spanRefused_cached h

theorem rowOf_of_txnRefused {a : Asker} (h : s.txnRefused a [w] = none) : ∃ row, rowOf w.idx w.sub = some row ∧ w.typ = row.typ := by
  unfold State.txnRefused State.itemsRefused at h
  split at h
  · cases h
  next h0 =>
    split at h0
    · cases h0
    next hi =>
      unfold State.itemRefused at hi
      split at hi
      · cases hi
      · split at hi
        · cases hi
        next row hrow =>
          split_ifs at hi with h1 h2 h3
          exact ⟨row, hrow, not_not.mp fun hne => h3 (.inl hne)⟩

/-! ### A transaction in its turn -/

/-- The message of a transaction, with the reservation it takes while it is carried out. -/
theorem txnJob (h : s.dictJob r op = some (x, c)) : ∃ y : Job, (s.reserveDict x).findJob r = some y ∧ y.kind = 0x4 ∧ y.live = true ∧ y.key = x.key := by
  obtain ⟨hj, hk, -, hs, -⟩ := State.dictJob_spec h
  rw [State.reserveDict, State.ref_of_findJob hj]
  exact ⟨_, State.findJob_mapJob_self (fun _ => rfl) hj, hk, Job.live_of_queued hs, rfl⟩

theorem reserveDict_refused (h : s.dictJob r op = some (x, c)) (hu : uncached e.status = false) :
    DictRefused s ((s.reserveDict x).refuseDict r e) r x e := by
  obtain ⟨y, hy, hk, hl, hkey⟩ := txnJob h
  obtain ⟨⟨hd, hdict, hdtx⟩, -, -⟩ := dict_refused (e := e) hy hk hl hu
  rw [hkey] at hd
  exact ⟨hd, hdict, hdtx⟩

/-- The reservation changes nothing that the checks look at. -/
theorem itemsRefused_reserve (s : State) (x : Job) (a : Asker) : ∀ (ws before : List DWrite) (pos : Nat),
    (s.reserveDict x).itemsRefused a pos before ws = s.itemsRefused a pos before ws
  | [], _, _ => rfl
  | w :: rest, before, pos => by
    rw [State.itemsRefused, State.itemsRefused, itemsRefused_reserve s x a rest]
    rfl

theorem holds_reserve (s : State) (x : Job) (a : Asker) (ws : List DWrite) : ∀ rule ∈ spanRules, rule.holds (s.reserveDict x) a ws = rule.holds s a ws := by
  simp only [spanRules, List.forall_mem_cons, List.not_mem_nil, false_imp_iff, implies_true, and_true]
  exact ⟨rfl, rfl, rfl, rfl, rfl, rfl, rfl, rfl, rfl, rfl, rfl, rfl, rfl, rfl, rfl, rfl, rfl, rfl, rfl, rfl, rfl, rfl⟩

theorem findSome?_eq_of_forall {α β : Type} {f g : α → Option β} : ∀ {l : List α}, (∀ a ∈ l, f a = g a) → l.findSome? f = l.findSome? g
  | [], _ => rfl
  | a :: l, h => by
    rw [List.findSome?_cons, List.findSome?_cons, h a List.mem_cons_self, findSome?_eq_of_forall fun b hb => h b (List.mem_cons_of_mem _ hb)]

theorem txnRefused_reserve (s : State) (x : Job) (a : Asker) (ws : List DWrite) : (s.reserveDict x).txnRefused a ws = s.txnRefused a ws := by
  have hs : (s.reserveDict x).spanRefused a ws = s.spanRefused a ws := findSome?_eq_of_forall fun rule hrule => by rw [holds_reserve s x a ws rule hrule]
  rw [State.txnRefused, State.txnRefused, itemsRefused_reserve, hs]

theorem serveTxn_write (h : s.dictJob r 2 = some (x, c)) (ht : s.myTurn x = true) : s.serveTxn x c = (s.reserveDict x).serveWrite x c := by
  obtain ⟨-, -, ho, -⟩ := State.dictJob_spec h
  rw [State.serveTxn, if_neg (by simp [ht]), if_pos ho]

theorem execWrite_of (h : s.dictJob r 2 = some (x, c)) (ht : s.myTurn x = true) :
    exec (.write r) s = .next ((s.reserveDict x).serveWrite x c) := by
  rw [exec_write, execWrite, h]
  dsimp only
  rw [serveTxn_write h ht]

theorem execSealedWrite_of (h : s.dictJob r 3 = some (x, c)) (ht : s.myTurn x = true) :
    exec (.sealedWrite r) s = .next ((s.reserveDict x).serveSealed x c) := by
  obtain ⟨-, -, ho, -⟩ := State.dictJob_spec h
  rw [exec_sealedWrite, execSealedWrite, h]
  dsimp only
  rw [State.serveTxn, if_neg (by simp [ht]), if_neg (by omega)]

theorem serveWrite_of (hr : x.ref = r) (hp : parseWrite x.payload = some ws) :
    s.serveWrite x c = s.checkTxn ⟨c.role, c.tenant, false, false⟩ ⟨some r, ws, none, x.payload⟩ r := by
  rw [State.serveWrite, hp, hr]

theorem checkTxn_refused {a : Asker} (h : s.txnRefused a g.writes = some e) : s.checkTxn a g r = s.refuseDict r e := by rw [State.checkTxn, h]

theorem checkTxn_passes {a : Asker} (h : s.txnRefused a g.writes = none) (ht : transitionOf g.writes = none) : s.checkTxn a g r = s.beginTxn g := by
  rw [State.checkTxn, h]
  dsimp only
  rw [ht]

/-- A WRITE whose checks pass begins. -/
theorem TxnRuns.serves (h : TxnRuns s r x c ws) (ht : transitionOf ws = none) :
    (s.reserveDict x).serveWrite x c = (s.reserveDict x).beginTxn ⟨some r, ws, none, x.payload⟩ := by
  obtain ⟨hd, -, hp, hq, -, -⟩ := h
  rw [serveWrite_of (State.ref_of_findJob (State.dictJob_spec hd).1) hp, checkTxn_passes ((txnRefused_reserve _ _ _ _).trans hq) ht]

theorem TxnRuns.execWrite (h : TxnRuns s r x c ws) (ht : transitionOf ws = none) :
    exec (.write r) s = .next ((s.reserveDict x).beginTxn ⟨some r, ws, none, x.payload⟩) := (execWrite_of h.1 h.2.1).trans (congrArg _ (h.serves ht))

/-- A write with a row of its own, in a transaction whose checks pass. -/
theorem TxnRuns.named (h : TxnRuns s r x c ws) (ht : transitionOf ws = none) {p : List DWrite → Bool} (hp : p ws = true) :
    s.named r p = .next ((s.reserveDict x).beginTxn ⟨some r, ws, none, x.payload⟩) := by
  have hx : x.writes = ws := by rw [Job.writes, if_pos (State.dictJob_spec h.1).2.2.1, h.2.2.1, Option.getD_some]
  unfold State.named
  rw [h.1]
  dsimp only
  rw [hx, if_pos hp, serveTxn_write h.1 h.2.1, h.serves ht]

theorem beginTxn_waits (hj : g.j = some r) (hw : (g.recorded && s.ringBusy) = true) : s.beginTxn g = s.waitRing r := by
  rw [State.beginTxn, if_pos hw, hj]

theorem beginTxn_journalled (hj : g.j = some r) (hw : (g.recorded && s.ringBusy) = false) (hp : g.persists = true) :
    s.beginTxn g = { s.unwaitRing r with dtx := { s.dtx with journal := some g } } := by
  rw [State.beginTxn, if_neg (by simp [hw]), hj]
  dsimp only
  exact if_pos hp

theorem beginTxn_applied (hj : g.j = some r) (hw : (g.recorded && s.ringBusy) = false) (hp : g.persists = false) :
    s.beginTxn g = ((s.unwaitRing r).applyTxn g).answerTxn g := by
  rw [State.beginTxn, if_neg (by simp [hw]), hj]
  dsimp only
  exact if_neg (by simp [hp])

theorem mem_waiters_waitRing (s : State) (r : JobRef) : r ∈ (s.waitRing r).trav.waiters := by
  show r ∈ if (s.mapJob r _).trav.waiters.contains r then _ else _
  split
  next h => exact List.contains_iff_mem.mp h
  · exact List.mem_append_right _ (List.mem_singleton_self r)

/-! ### SEALED_WRITE -/

theorem viaGroup_alone (h : s.myIndex = none) (b : Bytes) : s.viaGroup b = false := by rw [State.viaGroup, h]; rfl

theorem sealedBound_alone (h : s.myIndex = none) (b : Bytes) : s.sealedBound b = (fieldAt b 0 48 == s.identity) := by rw [State.sealedBound, h]; simp

theorem sealedStatus_cached (s : State) (c : Channel) (b : Bytes) : uncached (sealedStatus s c b) = false := by
  unfold sealedStatus State.sealedCounter
  split_ifs <;> rfl

/-- Outside a group a SEALED_WRITE ends with its status, or goes on. -/
theorem serveSealed_alone (hw : s.writing x.ref = false) (hi : s.myIndex = none) : s.serveSealed x c =
    if sealedStatus s c x.payload ≠ 0 then s.refuseDict x.ref ⟨sealedStatus s c x.payload, 0xFF, 0⟩ else s.sealedGo x x.payload := by
  unfold State.serveSealed sealedStatus
  rw [if_neg (by simp [hw])]
  dsimp only
  simp only [viaGroup_alone hi, sealedBound_alone hi]
  by_cases h1 : c.role ≠ 1 ∨ s.rd 0x1030 5 = 0
  · simp only [if_pos h1]
    exact (if_pos (by decide)).symm
  simp only [if_neg h1]
  by_cases h2 : (!sealedFormat x.payload) = true
  · simp only [if_pos h2]
    exact (if_pos (by decide)).symm
  simp only [if_neg h2]
  by_cases h3 : fieldAt x.payload 0 48 = s.identity
  · have hb : ¬ (!(fieldAt x.payload 0 48 == s.identity)) = true := by simp [h3]
    simp only [if_neg hb]
    by_cases h4 : sha3 (carriedKey x.payload) ≠ s.rd 0x1030 5 ∨ (!signedBy "NM72 SEALED WRITE" x.payload) = true
    · have h5 : fieldAt x.payload 0 48 ≠ s.identity ∨ sha3 (carriedKey x.payload) ≠ s.rd 0x1030 5 ∨ (!signedBy "NM72 SEALED WRITE" x.payload) = true := .inr h4
      simp only [if_pos h4, if_pos h5]
      exact (if_pos (by decide)).symm
    · have h5 : ¬ (fieldAt x.payload 0 48 ≠ s.identity ∨ sha3 (carriedKey x.payload) ≠ s.rd 0x1030 5 ∨ (!signedBy "NM72 SEALED WRITE" x.payload) = true) :=
        fun h => h.elim (absurd h3) h4
      simp only [if_neg h4, if_neg h5]
      simp [ite_not]
  · have hb : (!(fieldAt x.payload 0 48 == s.identity)) = true := by simp [h3]
    have h5 : fieldAt x.payload 0 48 ≠ s.identity ∨ sha3 (carriedKey x.payload) ≠ s.rd 0x1030 5 ∨ (!signedBy "NM72 SEALED WRITE" x.payload) = true := .inl h3
    simp only [if_pos hb, if_pos h5]
    exact (if_pos (by decide)).symm

theorem sealedGo_misread (hp : parseWrite (sealedBody x.payload) = none) : s.sealedGo x x.payload = s.refuseDict x.ref ⟨0x26, 0xFF, 0⟩ := by
  rw [State.sealedGo, hp]

theorem sealedGo_alone (hi : s.myIndex = none) (hp : parseWrite (sealedBody x.payload) = some ws) : s.sealedGo x x.payload =
    s.checkTxn ⟨1, 0, true, false⟩ ⟨some x.ref, ws, some (fieldAt x.payload 48 8, sha3 x.payload), sealedBody x.payload⟩ x.ref := by
  rw [State.sealedGo, hp]
  exact if_neg (by simp [viaGroup_alone hi])

/-- A SEALED_WRITE of a device in no group. -/
theorem sealedServed (h : s.dictJob r 3 = some (x, c)) (hw : s.writing r = false) (hi : s.myIndex = none) :
    SealedServed s ((s.reserveDict x).serveSealed x c) r x c := by
  have hr : x.ref = r := State.ref_of_findJob (State.dictJob_spec h).1
  have hst : sealedStatus (s.reserveDict x) c x.payload = sealedStatus s c x.payload := rfl
  rw [serveSealed_alone (s := s.reserveDict x) (by rw [hr]; exact hw) hi, hst, hr]
  unfold SealedServed
  dsimp only
  by_cases h0 : sealedStatus s c x.payload ≠ 0
  · rw [if_pos h0, if_pos h0]
    exact reserveDict_refused h (sealedStatus_cached s c x.payload)
  rw [if_neg h0, if_neg h0]
  cases hp : parseWrite (sealedBody x.payload) with
  | none =>
    rw [sealedGo_misread hp, hr]
    exact reserveDict_refused h rfl
  | some ws =>
    rw [sealedGo_alone (s := s.reserveDict x) hi hp, hr]
    dsimp only
    cases hq : s.txnRefused ⟨1, 0, true, false⟩ ws with
    | some e =>
      rw [checkTxn_refused (g := ⟨some r, ws, some (fieldAt x.payload 48 8, sha3 x.payload), sealedBody x.payload⟩) ((txnRefused_reserve _ _ _ _).trans hq)]
      exact reserveDict_refused h (txnRefused_cached hq)
    | none =>
      intro ht hring
      rw [checkTxn_passes (g := ⟨some r, ws, some (fieldAt x.payload 48 8, sha3 x.payload), sealedBody x.payload⟩) ((txnRefused_reserve _ _ _ _).trans hq) ht,
        beginTxn_journalled (s := s.reserveDict x) rfl hring (by simp [Journal.persists])]
      exact ⟨rfl, rfl⟩

/-! ### Writes that do nothing but stand -/

/-- A write of an entry that does nothing beside setting it, and that no part of a transaction's end looks for. -/
structure Deedless (w : DWrite) : Prop where
  port : 0x1400 ≤ w.idx → w.idx < 0x1404 → 4 ≤ w.sub
  ptp : w.idx ≠ 0x1101
  binding : 0x1440 ≤ w.idx → w.idx < 0x1480 → False
  tenant : 0x1800 ≤ w.idx → w.idx < 0x1840 → w.sub ≠ 1
  allowance : 0x1900 ≤ w.idx → w.idx < 0x1940 → 5 < w.sub
  lap : w.idx = 0x1A00 → 4 < w.sub
  cluster : 0x2000 ≤ w.idx → w.idx < 0x2010 → w.sub ≠ 6
  floor : w.idx = 0x2400 → w.sub ≠ 5
  stage : w.idx ≠ 0x2420
  install : w.idx = 0x2421 → w.sub ≠ 1
  entropy : w.idx = 0x2800 → 5 < w.sub
  source : 0x2801 ≤ w.idx → w.idx < 0x2830 → False
  keys : w.idx = 0x2C00 → w.sub ≠ 8
  certs : w.idx ≠ 0x2C01
  flash : 0x3000 ≤ w.idx → w.idx < 0x3400 → False
  traverse : w.idx = 0x3800 → w.sub ≠ 5
  resume : w.idx = 0x4020 → w.sub ≠ 3
  group : 0x4400 ≤ w.idx → w.idx < 0x4418 → False
  enrol : w.idx ≠ 0x1030
  reset : w.idx ≠ 0x1201
  transition : w.idx ≠ 0x5000

theorem quiet.deedless (h : quiet w) : Deedless w := by
  obtain ⟨h1, h2⟩ | ⟨h1, h2⟩ | ⟨h1, h2⟩ | ⟨h1, h2, h3⟩ := h <;> constructor <;> omega

theorem inTenants_iff {base i : Nat} : inTenants base i = true ↔ base ≤ i ∧ i < base + 64 := by simp [inTenants]

theorem ite_eq_of {α : Type} {p : Prop} [Decidable p] {a b u : α} (h : p → a = u) (g : b = u) : (if p then a else b) = u := by
  split
  next hp => exact h hp
  · exact g

/-- Such a write does nothing. -/
theorem entryWritten_deedless (h : Deedless w) (old u : State) (ws : List DWrite) : State.entryWritten old ws u w = u := by
  unfold State.entryWritten
  refine ite_eq_of (fun hi => ?_) (ite_eq_of (fun hi => absurd hi h.ptp) (ite_eq_of (fun hi => ?_) (ite_eq_of (fun hi => ?_) (ite_eq_of (fun hi => ?_)
    (ite_eq_of (fun hi => ?_) (ite_eq_of (fun hi => ?_) (ite_eq_of (fun hi => ?_) (ite_eq_of (fun hi => absurd hi h.stage) (ite_eq_of (fun hi => ?_)
    (ite_eq_of (fun hi => ?_) (ite_eq_of (fun hi => ?_) (ite_eq_of (fun hi => absurd hi h.certs) (ite_eq_of (fun hi => ?_) (ite_eq_of (fun hi => ?_)
    (ite_eq_of (fun hi => ?_) (ite_eq_of (fun hi => ?_) (ite_eq_of (fun hi => ?_) (ite_eq_of (fun hi => ?_) rfl))))))))))))))))))
  · have h4 := h.port hi.1 hi.2
    unfold State.portWritten
    split
    · omega
    · omega
    · omega
    · rfl
  · exact (h.binding (inTenants_iff.mp hi).1 (inTenants_iff.mp hi).2).elim
  · exact if_neg fun hc => h.tenant (inTenants_iff.mp hi).1 (inTenants_iff.mp hi).2 hc.1
  · exact if_neg (Nat.not_le_of_gt (h.allowance (inTenants_iff.mp hi).1 (inTenants_iff.mp hi).2))
  · have h4 := h.lap hi
    exact (if_neg (by omega)).trans (if_neg (by omega))
  · exact if_neg (h.cluster hi.1 hi.2)
  · exact if_neg (h.floor hi)
  · exact if_neg (h.install hi)
  · have h0 : w.idx = 0x2800 := by
      by_contra hne
      exact h.source (by omega) hi.2
    have h5 := h.entropy h0
    exact (if_pos h0).trans ((if_neg (by omega)).trans (if_neg (by omega)))
  · exact if_neg fun hc => h.keys hi hc.1
  · exact (h.flash hi.1 (by omega)).elim
  · exact (h.flash (by omega) (by omega)).elim
  · exact (h.flash (by omega) (by omega)).elim
  · exact if_neg (h.traverse hi)
  · exact if_neg (h.resume hi)
  · exact (h.group (by omega) (by omega)).elim

theorem foldl_entryWritten (hw : ∀ w ∈ ws, Deedless w) (old : State) (all : List DWrite) (u : State) : ws.foldl (State.entryWritten old all) u = u := by
  induction ws generalizing u with
  | nil => rfl
  | cons w rest ih =>
    rw [List.foldl_cons, entryWritten_deedless (hw w List.mem_cons_self), ih fun v hv => hw v (List.mem_cons_of_mem _ hv)]

section
variable (hw : ∀ w ∈ g.writes, Deedless w)
include hw

theorem joinResets_deedless (u : State) : u.joinResets g = u := by
  have hd : disables g.writes = [] := by
    rw [disables, List.filterMap_eq_nil_iff]
    intro w hmem
    refine if_neg fun hc => ?_
    simp only [Bool.and_eq_true, inTenants_iff, beq_iff_eq] at hc
    exact (hw w hmem).tenant hc.1.1.1 hc.1.1.2 hc.1.2
  unfold State.joinResets
  split
  · exact if_pos hd
  · rfl

theorem programEnrol_deedless (u : State) : u.programEnrol g.writes = u := by
  have hn : g.writes.any (fun w => enrolEntry w.idx w.sub) = false := by
    rw [List.any_eq_false]
    intro w hmem
    simp [enrolEntry, (hw w hmem).enrol]
  exact if_neg (by simp [hn])

theorem transitionOf_deedless : transitionOf g.writes = none := by
  rw [transitionOf, List.find?_eq_none.mpr, Option.map_none]
  intro w hmem
  simp [(hw w hmem).transition]

theorem asksReset_deedless : asksReset g.writes = false := by
  rw [asksReset, List.any_eq_false]
  intro w hmem
  simp [(hw w hmem).reset]

/-- The block at the next epoch, with the entries of a transaction and its seal set. -/
def State.written (s : State) (g : Journal) : State :=
  let t := { s with dtx := { s.dtx with epoch := s.dtx.epoch + 1, commits := s.dtx.commits + (if g.persists then 1 else 0) } }
  let t := g.writes.foldl State.setEntry t
  (match g.sealedAs with
    | some (c, d) => (t.wr 0x1030 6 c).wr 0x1030 7 d
    | none => t).holdEpoch

omit hw in
/-- The policy benchmark of a transaction. -/
def State.benched (s : State) (g : Journal) : State := if g.policy then s.record 5 2 0xFF 1 1 (sha3 g.payload) else s

theorem applyTxn_deedless : s.applyTxn g = (s.written g).benched g := by
  show g.writes.foldl (State.entryWritten s g.writes) ((State.joinResets ((s.written g).benched g) g).programEnrol g.writes) = _
  rw [joinResets_deedless hw, programEnrol_deedless hw, foldl_entryWritten hw]

theorem answerTxn_deedless (hj : g.j = some r) (ha : s.awaitsReset r = false) : s.answerTxn g = s.finish r 0 0 (failRecord s.dtx.epoch 0xFF 0) none := by
  unfold State.answerTxn
  rw [hj]
  dsimp only
  rw [if_neg (by simp [ha])]
  unfold State.afterTxn
  rw [transitionOf_deedless hw]
  exact if_neg (by simp [asksReset_deedless hw])

end

/-! ### What the written transaction leaves -/

theorem Within.written {k : Parts} (hk : covers (parts [.dict, .dtx]) k = true) (h : Within k s t) : Within k s (t.written g) := h.into hk <| by
  have hf : Within (parts [.dict, .dtx]) t (g.writes.foldl State.setEntry
      { t with dtx := { t.dtx with epoch := t.dtx.epoch + 1, commits := t.dtx.commits + (if g.persists then 1 else 0) } }) :=
    .foldl (.set rfl rfl .refl) fun u w hu => .setEntry rfl hu
  unfold State.written
  dsimp only
  split
  · exact .set rfl rfl (.wr rfl (.wr rfl hf))
  · exact .set rfl rfl hf

theorem Within.benched {k : Parts} (hk : covers (parts [.dict, .dtx, .rwork, .trav]) k = true) (h : Within k s t) : Within k s (t.benched g) := h.into hk <|
  .ite (.record rfl .refl) .refl

/-- The epoch stands, and a journal that is empty. -/
structure EpochKept (s t : State) : Prop where
  epoch : t.dtx.epoch = s.dtx.epoch
  journal : s.dtx.journal = none → t.dtx.journal = none

namespace EpochKept

theorem of_dtx (h : t.dtx = s.dtx) : EpochKept s t := ⟨by rw [h], fun hj => by rw [h, hj]⟩

theorem trans {u : State} (h : EpochKept s t) (g : EpochKept t u) : EpochKept s u := ⟨g.epoch.trans h.epoch, fun hj => g.journal (h.journal hj)⟩

theorem within {k : Parts} {u : State} (h : EpochKept s t) (hw : Within k t u) (hk : inParts k .dtx = false) : EpochKept s u :=
  h.trans (of_dtx (hw.same .dtx hk))

theorem keepSet (s : State) (t : State) (i a f : Nat) (h : t.dtx = s.dtx.keepSet i a f) : EpochKept s t := by
  unfold Dtx.keepSet at h
  split at h
  next g hg => exact ⟨by rw [h], fun hj => absurd (hg.symm.trans hj) (by simp)⟩
  next hn => exact ⟨by rw [h], fun _ => by rw [h, hn]⟩

theorem event {i a f : Nat} (h : EpochKept s t) : EpochKept s (t.event i a f) := h.trans (keepSet t _ i a f rfl)

theorem ite {p : Prop} [Decidable p] {a b : State} (ha : EpochKept s a) (hb : EpochKept s b) : EpochKept s (if p then a else b) := by
  split
  · exact ha
  · exact hb

theorem append {b : Bench} (h : EpochKept s t) : EpochKept s (t.append b) := by
  unfold State.append
  extract_lets x y r v w
  have hv : EpochKept s v := h.trans (of_dtx rfl)
  have hw : EpochKept s w := .ite (hv.within (Within.enqueueReserve (k := parts [.rwork]) rfl .refl) rfl).event hv
  exact .ite hw.event hw

theorem bench {kind verdict channel region flags digest sigSlots : Nat} (h : EpochKept s t) :
    EpochKept s (t.bench kind verdict channel region flags digest sigSlots) := by
  unfold State.bench
  exact .ite h.append (h.trans (of_dtx rfl))

theorem checkpoint {reasons : Nat} (h : EpochKept s t) : EpochKept s (t.checkpoint reasons) := by
  unfold State.checkpoint
  exact .ite (h.trans (of_dtx rfl)) h.bench

theorem record {kind verdict channel region flags digest : Nat} (h : EpochKept s t) : EpochKept s (t.record kind verdict channel region flags digest) := by
  unfold State.record
  exact .ite h.bench.checkpoint h.bench

end EpochKept

theorem foldl_setEntry_within (ws : List DWrite) (u : State) : Within (parts [.dict]) u (ws.foldl State.setEntry u) := .foldl .refl fun _ _ hu => .setEntry rfl hu

/-- The epoch after the next, and the journal as it was. -/
theorem epoch_written (s : State) (g : Journal) : (s.written g).dtx.epoch = s.dtx.epoch + 1 ∧ (s.written g).dtx.journal = s.dtx.journal := by
  have hd := (foldl_setEntry_within g.writes
    { s with dtx := { s.dtx with epoch := s.dtx.epoch + 1, commits := s.dtx.commits + (if g.persists then 1 else 0) } }).same .dtx rfl
  obtain ⟨he, hj⟩ : _ ∧ _ := ⟨congrArg Dtx.epoch hd, congrArg Dtx.journal hd⟩
  unfold State.written
  dsimp only
  split
  · exact ⟨he, hj⟩
  · exact ⟨he, hj⟩

theorem epochKept_benched (s : State) (g : Journal) : EpochKept s (s.benched g) := .ite (EpochKept.of_dtx rfl).record (.of_dtx rfl)

theorem Touches.benched {P : Nat → Prop} (h : Touches P s t) (hP : P 0x3800) : Touches P s (t.benched g) := .ite (h.record hP) h

/-! ### The values written -/

theorem wf_setEntry (h : Map.wf s.dict = true) : Map.wf (s.setEntry w).dict = true := by
  unfold State.setEntry
  split
  · exact h
  · split_ifs
    · exact State.wf_wr h _ _ _
    · exact h
    · exact State.wf_wr h _ _ _

/-- The subindices that a row covers are octets, and a row of events covers one of each index. -/
theorem rows_tame (h : idx < 0x6000) : ∀ row ∈ rowsAt idx, row.last < 256 ∧ (row.typ = 15 → row.subs = 1) := by
  unfold rowsAt
  split
  all_goals try decide
  rw [if_neg (by omega)]
  intro row hr
  cases hr

theorem covers_spec (h : row.covers idx sub = true) : row.idx ≤ idx ∧ idx < row.idx + row.count ∧ row.sub ≤ sub ∧ sub ≤ row.last ∧
    (row.subs = 1 → sub = row.sub) := by
  simp only [Row.covers, Bool.and_eq_true, decide_eq_true_eq, beq_iff_eq] at h
  obtain ⟨⟨⟨⟨h1, h2⟩, h3⟩, h4⟩, h5⟩ := h
  have hq : sub - row.sub = row.stride * ((sub - row.sub) / row.stride) := (Nat.mul_div_cancel' (Nat.dvd_of_mod_eq_zero h4)).symm
  refine ⟨h1, h2, h3, ?_, fun hs => ?_⟩
  · have hm : row.stride * ((sub - row.sub) / row.stride) ≤ (row.subs - 1) * row.stride := by
      rw [Nat.mul_comm]
      exact Nat.mul_le_mul_right _ (by omega)
    unfold Row.last
    omega
  · rw [hs, Nat.lt_one_iff] at h5
    rw [h5, Nat.mul_zero] at hq
    omega

theorem sub_lt_of_rowOf (h : rowOf idx sub = some row) (hi : idx < 0x6000) : sub < 256 :=
  Nat.lt_of_le_of_lt (covers_spec (List.find?_some (p := fun q : Row => q.covers idx sub) h)).2.2.2.1
    (rows_tame hi row (List.mem_of_find?_eq_some h)).1

/-- A write that sets its entry to its value. -/
def Sets (w : DWrite) : Prop := ∃ row, rowOf w.idx w.sub = some row ∧ row.access ≠ 2 ∧ row.typ ≠ 15 ∧ row.typ ≠ 16 ∧ enrolEntry w.idx w.sub = false ∧ w.idx < 0x6000

theorem rd_setEntry_self (hw : Map.wf s.dict = true) (h : Sets w) : (s.setEntry w).rd w.idx w.sub = beNat w.val := by
  obtain ⟨row, hr, ha, h15, h16, he, -⟩ := h
  unfold State.setEntry
  rw [hr]
  dsimp only
  rw [if_neg h15, if_neg (by simp [ha, h16, he])]
  exact State.rd_wr_self hw _ _ _

theorem Touches.setEntry {v : DWrite} (hv : v.idx < 0x6000) : Touches (fun i => i = v.idx) s (s.setEntry v) := by
  unfold State.setEntry
  split
  · exact .refl
  next row hr =>
    have hs := sub_lt_of_rowOf hr hv
    exact .ite (Touches.refl.wr rfl hs) (.ite .refl (Touches.refl.wr rfl hs))

/-- Other entries than that of a write stay. -/
theorem rd_setEntry_of_ne {v : DWrite} (hs : sub < 256) (hv : v.idx < 0x6000) (hne : idx ≠ v.idx ∨ sub ≠ v.sub) : (s.setEntry v).rd idx sub = s.rd idx sub := by
  unfold State.setEntry
  split
  · rfl
  next row hr =>
    have hw : ∀ n, (s.wr v.idx v.sub n).rd idx sub = s.rd idx sub := fun n => State.rd_wr_of_sub n (sub_lt_of_rowOf hr hv) hs hne
    split_ifs
    · exact hw _
    · rfl
    · exact hw _

/-- After writes of which none differs from `w` at its entry, the entry has the value of `w`, where one is `w` or it had it before. -/
theorem rd_foldl_setEntry (hw : Sets w) (hi : ∀ v ∈ ws, v.idx < 0x6000) (hu : ∀ v ∈ ws, v.idx = w.idx → v.sub = w.sub → v = w)
    (h : w ∈ ws ∨ s.rd w.idx w.sub = beNat w.val) (hd : Map.wf s.dict = true) : (ws.foldl State.setEntry s).rd w.idx w.sub = beNat w.val := by
  induction ws generalizing s with
  | nil => exact h.resolve_left List.not_mem_nil
  | cons v rest ih =>
    refine ih (fun y hy => hi y (List.mem_cons_of_mem _ hy)) (fun y hy => hu y (List.mem_cons_of_mem _ hy)) ?_ (wf_setEntry hd)
    by_cases hv : v = w
    · exact .inr (by rw [hv]; exact rd_setEntry_self hd hw)
    · refine (h.imp (fun hm => (List.mem_cons.mp hm).resolve_left (Ne.symm hv)) fun hr => ?_)
      obtain ⟨row, hrow, -, -, -, -, h6⟩ := hw
      rw [rd_setEntry_of_ne (sub_lt_of_rowOf hrow h6) (hi v List.mem_cons_self) ?_, hr]
      by_contra hc
      rw [not_or, not_not, not_not] at hc
      exact hv (hu v List.mem_cons_self hc.1.symm hc.2.symm)

/-- The entries of a written transaction, but for those of its seal. -/
theorem touches_written (s : State) (g : Journal) :
    Touches (fun i => i = 0x1030) (g.writes.foldl State.setEntry s) (s.written g) := by
  have hd : (g.writes.foldl State.setEntry { s with dtx := { s.dtx with epoch := s.dtx.epoch + 1, commits := s.dtx.commits + (if g.persists then 1 else 0) } }).dict =
      (g.writes.foldl State.setEntry s).dict := by
    have hf : ∀ (ws : List DWrite) (u v : State), u.dict = v.dict → (ws.foldl State.setEntry u).dict = (ws.foldl State.setEntry v).dict := by
      intro ws
      induction ws with
      | nil => exact fun _ _ h => h
      | cons w rest ih =>
        intro u v h
        refine ih _ _ ?_
        unfold State.setEntry
        split
        · exact h
        · rw [State.rd_congr h]
          split_ifs
          · exact congrArg (fun m => Map.store m _ _ _) h
          · exact h
          · exact congrArg (fun m => Map.store m _ _ _) h
    exact hf _ _ _ rfl
  have h0 := Touches.of_dict (P := fun i => i = 0x1030) hd
  unfold State.written
  dsimp only
  split
  · exact ((h0.wr rfl (by decide)).wr rfl (by decide)).dict rfl
  · exact h0.dict rfl

/-! ### EVENT_CLEAR (R117) -/

/-- The event entries below 0x4400 that no policy holds: first index, number of indices, subindex. -/
def eventPlaces : List (Nat × Nat × Nat) :=
  [(0x1400, 4, 0x13), (0x1100, 1, 8), (0x1200, 1, 7), (0x1800, 64, 0x32), (0x1800, 64, 0x33), (0x1800, 64, 0x34), (0x1900, 64, 0x12), (0x1A00, 1, 0xC),
   (0x2000, 16, 7), (0x20C0, 64, 3), (0x2400, 1, 7), (0x2421, 1, 5), (0x2800, 1, 6), (0x2C00, 1, 7), (0x3800, 1, 0xA), (0x4000, 16, 4), (0x4020, 1, 7)]

theorem eventRow_place (h : idx < 0x4400) (hp : idx < 0x3000 ∨ 0x3400 ≤ idx) :
    ∀ row ∈ rowsAt idx, row.typ = 15 → (row.idx, row.count, row.sub) ∈ eventPlaces := by
  unfold rowsAt
  split
  all_goals try omega
  all_goals try decide
  rw [if_neg (by omega)]
  intro row hr
  cases hr

theorem deedless_place {i n : Nat} (hm : (i, n, w.sub) ∈ eventPlaces) (hlo : i ≤ w.idx) (hhi : w.idx < i + n) : Deedless w := by
  simp only [eventPlaces, List.mem_cons, Prod.mk.injEq, List.not_mem_nil, or_false] at hm
  rcases hm with ⟨rfl, rfl, hs⟩ | ⟨rfl, rfl, hs⟩ | ⟨rfl, rfl, hs⟩ | ⟨rfl, rfl, hs⟩ | ⟨rfl, rfl, hs⟩ | ⟨rfl, rfl, hs⟩ | ⟨rfl, rfl, hs⟩ | ⟨rfl, rfl, hs⟩ |
    ⟨rfl, rfl, hs⟩ | ⟨rfl, rfl, hs⟩ | ⟨rfl, rfl, hs⟩ | ⟨rfl, rfl, hs⟩ | ⟨rfl, rfl, hs⟩ | ⟨rfl, rfl, hs⟩ | ⟨rfl, rfl, hs⟩ | ⟨rfl, rfl, hs⟩ | ⟨rfl, rfl, hs⟩ <;>
    constructor <;> omega

/-- An event entry that a clear may name without a policy record. -/
theorem Deedless.of_event (hr : rowOf w.idx w.sub = some row) (h15 : row.typ = 15) (hi : w.idx < 0x4400) (hp : w.idx < 0x3000 ∨ 0x3400 ≤ w.idx) : Deedless w := by
  have hm := List.mem_of_find?_eq_some hr
  obtain ⟨hlo, hhi, -, -, hsub⟩ := covers_spec (List.find?_some (p := fun q : Row => q.covers w.idx w.sub) hr)
  refine deedless_place ?_ hlo hhi
  rw [hsub ((rows_tame (by omega) row hm).2 h15)]
  exact eventRow_place hi hp row hm h15

theorem eventClear_div (v m : Nat) : eventClear v m / 256 = v / 256 := by
  have h : (BitVec.ofNat 8 v &&& ~~~(BitVec.ofNat 8 m)).toNat < 256 := BitVec.isLt _
  unfold eventClear
  omega

theorem bitAt_eventClear (v m : Nat) {i : Nat} (hi : i < 8) : bitAt (eventClear v m) i = (bitAt v i && !bitAt m i) := by
  have h : (BitVec.ofNat 8 v &&& ~~~(BitVec.ofNat 8 m)).toNat < 2 ^ 8 := BitVec.isLt _
  rw [bitAt_eq_testBit, bitAt_eq_testBit, bitAt_eq_testBit]
  have he : eventClear v m = 2 ^ 8 * (v / 256) + (BitVec.ofNat 8 v &&& ~~~(BitVec.ofNat 8 m)).toNat := by
    rw [eventClear, Nat.mul_comm]
    rfl
  rw [he, Nat.testBit_two_pow_mul_add _ h, if_pos hi, ← BitVec.getLsbD, BitVec.getLsbD_and, BitVec.getLsbD_not, BitVec.getLsbD_ofNat, BitVec.getLsbD_ofNat]
  simp [hi]

/-! ### The end of a transaction of such writes -/

/-- A transaction of such writes is applied and answered. -/
theorem applied_deedless {u : State} {y : Job} (hw : ∀ w ∈ g.writes, Deedless w) (hj : g.j = some r) (hy : u.findJob r = some y) (hk : y.kind = 0x4)
    (hl : y.live = true) (hkey : y.key = x.key) (ha : u.awaitsReset r = false) (he : u.dtx.epoch = s.dtx.epoch) :
    TxnDone s ((u.applyTxn g).answerTxn g) r x ∧ ((u.applyTxn g).answerTxn g).dict = ((u.written g).benched g).dict ∧
      (u.dtx.journal = none → ((u.applyTxn g).answerTxn g).dtx.journal = none) := by
  have hin : Within (parts [.dict, .dtx, .rwork, .trav]) u ((u.written g).benched g) := .benched rfl (.written rfl .refl)
  obtain ⟨hepoch, hjournal⟩ := epoch_written u g
  obtain ⟨hkept, hempty⟩ := epochKept_benched (u.written g) g
  have hten : ((u.written g).benched g).tenants = u.tenants := hin.same .tenants rfl
  rw [applyTxn_deedless hw, answerTxn_deedless hw hj (by rw [State.awaitsReset, hten]; exact ha), hkept, hepoch, he]
  obtain ⟨hd, -, hf⟩ := dict_finish (s := (u.written g).benched g) (status := 0) (detail := 0) (out := failRecord (s.dtx.epoch + 1) 0xFF 0)
    ((State.findJob_congr (hin.same .jobs rfl) r).trans hy) hk hl rfl (.inl rfl)
  have hdtx := hf.same .dtx rfl
  rw [hkey] at hd
  exact ⟨⟨(congrArg Dtx.epoch hdtx).trans (hkept.trans (hepoch.trans (by rw [he]))), hd⟩, hf.same .dict rfl,
    fun hn => (congrArg Dtx.journal hdtx).trans (hempty (hjournal.trans hn))⟩

/-- EVENT_CLEAR takes the flags of its mask away (R117). -/
theorem eventClear_done {count mask : Nat} (h : TxnRuns s r x c [w]) (h15 : w.typ = 15) (hv : beNat w.val = count * 256 + mask) (hm : mask < 256)
    (hjr : journalled [w] = false) (hp : Journal.policy ⟨some r, [w], none, x.payload⟩ = false) (hi : w.idx < 0x4400) :
    GoesTo (exec (.eventClear r w.idx w.sub count mask) s) (fun t => TxnDone s t r x ∧ t.rd w.idx w.sub = eventClear (s.rd w.idx w.sub) mask) := by
  obtain ⟨row, hrow, htyp⟩ := rowOf_of_txnRefused h.2.2.2.1
  have h15' : row.typ = 15 := htyp.symm.trans h15
  have hout : w.idx < 0x3000 ∨ 0x3400 ≤ w.idx := by
    simp only [Journal.policy, List.any_cons, List.any_nil, Bool.or_false, Bool.or_eq_false_iff, Bool.and_eq_false_iff, decide_eq_false_iff_not] at hp
    omega
  have hdl : ∀ v ∈ [w], Deedless v := List.forall_mem_singleton.mpr (.of_event hrow h15' hi hout)
  have hd0 := hdl w (List.mem_singleton_self w)
  have hrec : Journal.recorded ⟨some r, [w], none, x.payload⟩ = false := by
    rw [Journal.recorded, hp]
    simp only [List.any_cons, List.any_nil, Bool.or_false, Bool.false_or, Bool.or_eq_false_iff, Bool.and_eq_false_iff, beq_eq_false_iff_ne]
    refine ⟨⟨?_, ?_⟩, .inl hd0.transition⟩
    · exact not_and_or.mp fun hc => hd0.keys hc.1 hc.2
    · exact .inl (not_and_or.mp fun hc => hd0.install hc.1 hc.2)
  have hper : Journal.persists ⟨some r, [w], none, x.payload⟩ = false := by rw [Journal.persists, hjr]; rfl
  obtain ⟨y, hy, hk, hl, hkey⟩ := txnJob h.1
  obtain ⟨hdone, hdict, -⟩ := applied_deedless (s := s) (x := x) (g := ⟨some r, [w], none, x.payload⟩) (u := (s.reserveDict x).unwaitRing r) hdl rfl
    (State.findJob_mapJob_self (f := fun j => { j with waitSince := none }) (fun _ => rfl) hy) hk hl hkey (State.dictJob_spec h.1).2.2.2.2.2.1 rfl
  refine ⟨_, ?_, hdone, ?_⟩
  · rw [exec_eventClear, execEventClear, h.named (transitionOf_deedless (g := ⟨some r, [w], none, x.payload⟩) hdl) (by simp [h15, sets, hv]),
      beginTxn_applied rfl (by rw [hrec]; rfl) hper]
  · rw [State.rd_congr hdict, State.benched, if_neg (by simp [hp]),
      (touches_written _ _).rd _ _ (sub_lt_of_rowOf hrow (by omega)) hd0.enrol]
    show (State.setEntry _ w).rd _ _ = _
    rw [State.setEntry, hrow]
    dsimp only
    rw [if_pos h15', hv, show (count * 256 + mask) % 256 = mask by omega]
    exact State.rd_wr_self h.2.2.2.2.1 _ _ _

/-- JOURNAL_COMMIT of a transaction whose entries do nothing but stand (R113). -/
theorem journalCommit_done (hr : s.runs = true) (hg : s.dtx.journal = some g) (hj : g.j = some r) (hx : s.findJob r = some x) (hl : x.live = true)
    (hk : x.kind = 0x4) (ha : s.awaitsReset r = false) (hd : Map.wf s.dict = true)
    (hq : ∀ w ∈ g.writes, quiet w ∧ ∀ w' ∈ g.writes, w'.idx = w.idx → w'.sub = w.sub → w' = w) : GoesTo (exec (.journalCommit true) s) (fun t =>
      TxnDone s t r x ∧ t.dtx.journal = none ∧
        ∀ w ∈ g.writes, ∀ row, rowOf w.idx w.sub = some row → row.access ≠ 2 → row.typ ≠ 15 → row.typ ≠ 16 → t.rd w.idx w.sub = beNat w.val) := by
  have hlow : ∀ w ∈ g.writes, w.idx < 0x6000 := fun w hw => by
    obtain ⟨h1, h2⟩ | ⟨h1, h2⟩ | ⟨h1, h2⟩ | ⟨h1, h2, -⟩ := (hq w hw).1 <;> omega
  obtain ⟨hdone, hdict, hnone⟩ := applied_deedless (s := s) (u := { s with dtx := { s.dtx with journal := none } }) (fun w hw => (hq w hw).1.deedless) hj hx hk hl rfl ha rfl
  refine ⟨_, ?_, hdone, hnone rfl, fun w hw row hrow h2 h15 h16 => ?_⟩
  · rw [exec_journalCommit, execJournalCommit, hg]
    dsimp only
    rw [if_neg (by simp [hr])]
    exact if_pos rfl
  · have hdl := (hq w hw).1.deedless
    have hsub := sub_lt_of_rowOf hrow (hlow w hw)
    have hset : Sets w := ⟨row, hrow, h2, h15, h16, by simp [enrolEntry, hdl.enrol], hlow w hw⟩
    rw [State.rd_congr hdict, (Touches.refl.benched rfl : Touches (fun i => i = 0x3800) _ _).rd _ _ hsub (by
        obtain ⟨h1, h2⟩ | ⟨h1, h2⟩ | ⟨h1, h2⟩ | ⟨h1, h2, -⟩ := (hq w hw).1 <;> omega),
      (touches_written _ _).rd _ _ hsub hdl.enrol]
    exact rd_foldl_setEntry hset hlow (hq w hw).2 (.inl hw) hd

/-- JOURNAL_COMMIT of a mark that could not be programmed (R113). -/
theorem journalCommit_failed (hr : s.runs = true) (hg : s.dtx.journal = some g) (hj : g.j = some r) (hx : s.findJob r = some x) (hl : x.live = true)
    (hk : x.kind = 0x4) : GoesTo (exec (.journalCommit false) s) (fun t => JobDone t r 0x51 0xFF (failRecord s.dtx.epoch 0xFF 0) x.key ∧ t.dict = s.dict ∧
      t.dtx = { s.dtx with journal := none }) := by
  have hu : { s with dtx := { s.dtx with journal := none } }.findJob r = some x := hx
  obtain ⟨hf, -⟩ := State.finish_jobs (status := 0x51) (detail := 0xFF) (result := []) (key := none) hu hl rfl
  have hw : Within (parts [.jobs, .units, .clus]) { s with dtx := { s.dtx with journal := none } }
      (State.finish { s with dtx := { s.dtx with journal := none } } r 0x51 0xFF [] none) := by
    rw [State.finish_cached hu hl rfl]
    have hn : ∀ v : State, v.countFault x 0x51 = v := fun v => if_neg (by rw [hk]; simp)
    rw [hn]
    exact .mapJob rfl (.freeEngines rfl .refl)
  refine ⟨_, ?_, ⟨_, hf, rfl, rfl, rfl, ?_, rfl, rfl⟩, hw.same .dict rfl, hw.same .dtx rfl⟩
  · rw [exec_journalCommit, execJournalCommit, hg]
    dsimp only
    rw [if_neg (by simp [hr]), if_neg (by simp), hj]
  · exact if_pos ⟨hk, by decide, rfl⟩

/-- Settles O33: the checks of a WRITE and what its transaction meets, EVENT_CLEAR, SEALED_WRITE and JOURNAL_COMMIT. -/
theorem dictionaryWritesComplete : Obligations.DictionaryWritesComplete := by
  unfold Obligations.DictionaryWritesComplete
  intro s r x c
  refine ⟨fun h ht => ⟨fun hp => ?_, fun ws e hp hq => ?_⟩, fun ws h ht => ⟨fun hrec hring => ?_, fun hring hjr => ?_, ?_⟩, fun h ht hw hi => ?_,
    fun g hr hg hj hx hl hk ha hd => ⟨journalCommit_failed hr hg hj hx hl hk, journalCommit_done hr hg hj hx hl hk ha hd⟩⟩
  · have hs : (s.reserveDict x).serveWrite x c = (s.reserveDict x).refuseDict r ⟨0x26, 0xFF, 0⟩ := by
      rw [State.serveWrite, hp, State.ref_of_findJob (State.dictJob_spec h).1]
    exact ⟨_, (execWrite_of h ht).trans (congrArg _ hs), reserveDict_refused h rfl⟩
  · have hs : (s.reserveDict x).serveWrite x c = (s.reserveDict x).refuseDict r e := by
      rw [serveWrite_of (State.ref_of_findJob (State.dictJob_spec h).1) hp]
      exact checkTxn_refused ((txnRefused_reserve _ _ _ _).trans hq)
    exact ⟨_, (execWrite_of h ht).trans (congrArg _ hs), reserveDict_refused h (txnRefused_cached hq)⟩
  · refine ⟨_, (h.execWrite ht).trans (congrArg _ (beginTxn_waits rfl ?_)), mem_waiters_waitRing _ r, rfl, rfl⟩
    rw [hrec]
    exact hring
  · exact ⟨_, (h.execWrite ht).trans (congrArg _ (beginTxn_journalled rfl hring (by rw [Journal.persists, hjr]; rfl))), rfl, rfl⟩
  · rintro w idx sub count mask rfl h15 rfl rfl hv hm hjr hp hi
    obtain ⟨t, he, hdone, hrd⟩ := eventClear_done h h15 hv hm hjr hp hi
    exact ⟨t, he, hdone, by rw [hrd, eventClear_div], fun i hi8 => by rw [hrd, bitAt_eventClear _ _ hi8]⟩
  · exact ⟨_, execSealedWrite_of h ht, sealedServed h hw hi⟩

end Machine
end Sys2Proof
end

section
/-! The loss and return of REFCLK, the crystal, cluster wakes and spread spectrum (20 R425-R435). -/

namespace Sys2Proof
namespace Machine

variable {s t u v : State} {r : JobRef} {j k : Job} {status detail : Nat}

/-- What has ended keeps what it ended with. -/
theorem State.finish_ended (hj : s.findJob r = some j) (hl : j.live = false) {out : Bytes} {key : Option Nat} : s.finish r status detail out key = s := by
  unfold State.finish
  rw [hj]
  exact if_pos (by rw [hl]; rfl)

theorem State.finish_absent (hj : s.findJob r = none) {out : Bytes} {key : Option Nat} : s.finish r status detail out key = s := by
  rw [State.finish, hj]

/-! ### Channels that live on -/

/-- Every channel of `t` is one of `s` in its state, its keepalive and the time of its last frame. -/
def ChansLike (s t : State) : Prop :=
  ∀ p ∈ t.chans, ∃ q ∈ s.chans, p.2.state = q.2.state ∧ p.2.keepalive = q.2.keepalive ∧ p.2.lastAuth = q.2.lastAuth

namespace ChansLike

theorem of_chans (h : t.chans = s.chans) : ChansLike s t := fun p hp => ⟨p, h ▸ hp, rfl, rfl, rfl⟩

theorem refl : ChansLike s s := of_chans rfl

theorem trans (h : ChansLike s t) (g : ChansLike t u) : ChansLike s u := fun p hp => by
  obtain ⟨q, hq, h1, h2, h3⟩ := g p hp
  obtain ⟨q', hq', g1, g2, g3⟩ := h q hq
  exact ⟨q', hq', h1.trans g1, h2.trans g2, h3.trans g3⟩

theorem within {l : Parts} (h : ChansLike s t) (hw : Within l t u) (hl : inParts l .chans = false) : ChansLike s u := h.trans (of_chans (hw.same .chans hl))

theorem notice {slot kind opcode st d : Nat} {payload : Bytes} (h : ChansLike s t) : ChansLike s (t.notice slot kind opcode st d payload) := by
  unfold State.notice
  split
  · exact h
  · next c hc =>
    split
    · exact h
    · refine h.trans fun p hp => ?_
      rcases Map.mem_put t.chans slot (t.raiseGrant { c with notice := c.notice + 1 }) p hp with rfl | hp
      · exact ⟨(slot, c), Map.mem_of_find hc, rfl, rfl, rfl⟩
      · exact ⟨p, hp, rfl, rfl, rfl⟩

theorem notify {cls what : Nat} {o : Option Nat} (h : ChansLike s t) : ChansLike s (t.notify cls o what) :=
  List.foldlRecOn (motive := ChansLike s) _ _ h fun _ hu _ _ => hu.notice

theorem countFault (h : ChansLike s t) : ChansLike s (t.countFault j status) := by
  unfold State.countFault
  split
  · exact (h.trans (of_chans (t := t.event (0x1800 + j.tenant) 0x32 (faultFlag status)) rfl)).notify
  · exact h

theorem finish (h : ChansLike s t) {out : Bytes} {key : Option Nat} (hu : uncached status = false) : ChansLike s (t.finish r status detail out key) := by
  cases hj : t.findJob r with
  | none => rw [State.finish, hj]; exact h
  | some j =>
    by_cases hl : j.live = true
    · rw [State.finish_cached hj hl hu]
      exact (h.within (Within.mapJob (k := parts [.jobs, .units, .clus]) rfl (.freeEngines rfl .refl)) rfl).countFault
    · rwa [State.finish_ended hj (Bool.eq_false_of_not_eq_true hl)]

theorem expireKeys (h : ChansLike s t) : ChansLike s t.expireKeys := by
  unfold State.expireKeys
  extract_lets since ks l w
  have hw : ChansLike s w := List.foldlRecOn (motive := ChansLike s) _ _ (h.trans (of_chans rfl)) fun v hv x _ => hv.finish rfl
  exact List.foldlRecOn (motive := ChansLike s) _ _ hw fun v hv x _ => by
    split
    · exact hv.notify
    · exact hv

end ChansLike

/-- No channel's keepalive has run out where it had not. -/
theorem ChansLike.keepaliveOver (h : ChansLike s t) (hc : t.clk = s.clk) (ho : ∀ p ∈ s.chans, s.keepaliveOver p.2 = false) :
    ∀ p ∈ t.chans, t.keepaliveOver p.2 = false := fun p hp => by
  obtain ⟨q, hq, h1, h2, h3⟩ := h p hp
  rw [← ho q hq, State.keepaliveOver, State.keepaliveOver, h1, h2, h3, hc]

/-! ### Jobs and their completions -/

/-- What a job's completion speaks of. -/
def Job.core (j : Job) : JobState × Nat × Nat × Nat × Nat × Bytes × Nat × List Nat :=
  (j.state, j.kind, j.key, j.status, j.detail, j.result, j.resKey, j.units)

/-- The jobs have, message by message, the same completions. -/
def SameCores (s t : State) : Prop := ∀ r, (t.findJob r).map Job.core = (s.findJob r).map Job.core

theorem State.jobs_lapFrom (s : State) (start : Nat) (short : Option Nat) (length fabAt : Nat) : (s.lapFrom start short length fabAt).jobs = s.jobs := rfl

namespace SameCores

theorem of_jobs (h : t.jobs = s.jobs) : SameCores s t := fun r => by rw [State.findJob_congr h]

theorem refl : SameCores s s := of_jobs rfl

theorem trans (h : SameCores s t) (g : SameCores t u) : SameCores s u := fun r => (g r).trans (h r)

theorem within {l : Parts} (h : SameCores s t) (hw : Within l t u) (hl : inParts l .jobs = false) : SameCores s u := h.trans (of_jobs (hw.same .jobs hl))

theorem map {f : Job → Job} (hr : ∀ y, (f y).ref = y.ref) (hf : ∀ y, (f y).core = y.core) (h : t.jobs = s.jobs.map f) : SameCores s t := fun r => by
  have hp : (fun y : Job => y.chan == r.chan && y.seq == r.seq) ∘ f = fun y => y.chan == r.chan && y.seq == r.seq := by
    funext y
    have hy : (f y).chan = y.chan ∧ (f y).seq = y.seq := ⟨congrArg JobRef.chan (hr y), congrArg JobRef.seq (hr y)⟩
    simp only [Function.comp_apply, hy.1, hy.2]
  rw [State.findJob, h, List.find?_map, hp, Option.map_map, State.findJob]
  exact congrArg (Option.map · _) (funext hf)

theorem find (h : SameCores s t) (hj : s.findJob r = some j) : ∃ k, t.findJob r = some k ∧ k.core = j.core := by
  have hr := h r
  rw [hj] at hr
  exact Option.map_eq_some_iff.mp hr

theorem charge {w : Work} (h : SameCores s t) : SameCores s (t.charge r w) := by
  cases hj : t.findJob r with
  | none =>
    have he : t.charge r w = t := by rw [State.charge, hj]
    rwa [he]
  | some j =>
    refine h.trans (map (f := fun y => if y.chan == r.chan && y.seq == r.seq then y.chargedWith w else y) (fun y => ?_) (fun y => ?_) (State.charge_mapJob hj))
    · split <;> rfl
    · split <;> rfl

theorem accrue {k : Job} (h : SameCores s t) : SameCores s (t.accrue k) := by
  have hc : SameCores s (State.charge { t with free := t.free + 4 } k.ref (t.soFar k)) := (h.trans (of_jobs (t := { t with free := t.free + 4 }) rfl)).charge
  exact hc.within (Within.billWaits (k := parts [.les]) rfl .refl) rfl

theorem foldl {α : Type} {f : State → α → State} {l : List α} (h : SameCores s t) (hf : ∀ v x, SameCores s v → SameCores s (f v x)) :
    SameCores s (l.foldl f t) := List.foldlRecOn (motive := SameCores s) _ _ h fun v hv x _ => hf v x hv

theorem accrueAll (h : SameCores s t) : SameCores s t.accrueAll := by
  unfold State.accrueAll
  exact (h.foldl fun v x hv => hv.accrue).within (Within.latchSpent (k := parts [.units]) rfl .refl) rfl

theorem refill (h : SameCores s t) : SameCores s t.refill := h.trans (map (f := fun j => { j with lapCharged := noWork, lapBorrowed := noWork }) (fun _ => rfl)
  (fun _ => rfl) rfl)

theorem beginLap {short : Option Nat} (h : SameCores s t) : SameCores s (t.beginLap short) := by
  have hl : SameCores s (t.accrueAll.refill.takeLength.lapFrom t.clk.datum short t.lengthNow t.clk.fab) :=
    (h.accrueAll.refill.within (Within.takeLength (k := parts [.dict, .dtx]) rfl .refl) rfl).trans (of_jobs (State.jobs_lapFrom ..))
  rw [State.beginLap_eq]
  split
  · exact hl.within (Within.event (k := parts [.dict, .dtx]) rfl (.inc rfl .refl)) rfl
  · exact hl.within (Within.inc (k := parts [.dict, .dtx]) rfl .refl) rfl

end SameCores

theorem JobDone.cores {out : Bytes} {key : Nat} (h : JobDone s r status detail out key) (hc : SameCores s t) : JobDone t r status detail out key := by
  obtain ⟨j, hj, hs, h1, h2, h3, h4, h5⟩ := h
  obtain ⟨k, hk, he⟩ := hc.find hj
  simp only [Job.core, Prod.mk.injEq] at he
  obtain ⟨g0, -, -, g1, g2, g3, g4, g5⟩ := he
  exact ⟨k, hk, g0.trans hs, g1.trans h1, g2.trans h2, g3.trans h3, g4.trans h4, g5.trans h5⟩

/-- A message that is done stays so while jobs end. -/
theorem JobDone.finish {out o : Bytes} {key st d : Nat} {x : JobRef} {rk : Option Nat} (h : JobDone s r status detail out key) (hu : uncached st = false) :
    JobDone (s.finish x st d o rk) r status detail out key := by
  obtain ⟨j, hj, hd⟩ := h
  have hl : j.live = false := by rw [Job.live, hd.1]; rfl
  cases hx : s.findJob x with
  | none => rw [State.finish_absent hx]; exact ⟨j, hj, hd⟩
  | some y =>
    by_cases hly : y.live = true
    · have hne : r ≠ x := fun he => by
        rw [he, hx] at hj
        rw [Option.some.inj hj, hl] at hly
        cases hly
      exact ⟨j, ((State.finish_jobs hx hly hu).2 r hne).trans hj, hd⟩
    · rw [State.finish_ended hx (Bool.eq_false_of_not_eq_true hly)]
      exact ⟨j, hj, hd⟩

theorem JobDone.within {out : Bytes} {key : Nat} {l : Parts} (h : JobDone s r status detail out key) (hw : Within l s t) (hl : inParts l .jobs = false) :
    JobDone t r status detail out key := h.congr (hw.same .jobs hl)

theorem JobDone.dueActivities {out : Bytes} {key : Nat} (h : JobDone s r status detail out key) : JobDone s.dueActivities r status detail out key := by
  have he : JobDone s.expireKeys r status detail out key := by
    unfold State.expireKeys
    extract_lets since ks l w
    have hw : JobDone w r status detail out key :=
      List.foldlRecOn (motive := fun v => JobDone v r status detail out key) _ _ (h.congr rfl) fun v hv x _ => hv.finish rfl
    exact hw.within (Within.foldl (k := parts [.tx, .chans]) .refl fun v x hv => .ite (.notify rfl hv) hv) rfl
  exact he.within (Within.dueReseed (k := parts [.dict, .dtx, .lap, .rwork, .trav, .ent]) rfl (.dueCheckpoint rfl .refl)) rfl

/-! ### A job that is cut short -/

section
variable {out : Bytes} {key : Option Nat} (hu : uncached status = false)
include hu

theorem Calm.finish_any (h : Calm s) : Calm (s.finish r status detail out key) := by
  cases hj : s.findJob r with
  | none => rwa [State.finish_absent hj]
  | some j =>
    by_cases hl : j.live = true
    · exact h.finish hj hl hu
    · rwa [State.finish_ended hj (Bool.eq_false_of_not_eq_true hl)]

theorem Touches.finish {P : Nat → Prop} (h : Touches P s t) (hP : ∀ i, 0x1800 ≤ i → P i) : Touches P s (t.finish r status detail out key) := by
  cases hj : t.findJob r with
  | none => rwa [State.finish_absent hj]
  | some j =>
    by_cases hl : j.live = true
    · rw [State.finish_cached hj hl hu]
      have hw := h.within (Within.mapJob (f := fun y => y.ended status detail (t.resultOf y.kind status out) (key.getD y.key)) (r := r)
        (k := parts [.jobs, .units, .clus]) rfl (.freeEngines (j := j) rfl .refl)) rfl
      unfold State.countFault
      exact .ite ((hw.event (hP _ (Nat.le_add_right _ _)) (by decide)).dict (State.dict_notify _ _ _ _)) hw
    · rwa [State.finish_ended hj (Bool.eq_false_of_not_eq_true hl)]

end

theorem Calm.unload (h : Calm s) : Calm (s.unload j) :=
  have hw : Within (parts [.units, .les, .saved, .cmem, .clus]) s (s.unload j) := .unload rfl .refl
  h.congr (hw.same .chans rfl) (hw.same .tenants rfl)

theorem Calm.accrue (h : Calm s) : Calm (s.accrue j) := by
  have hc : Calm (State.charge { s with free := s.free + 4 } j.ref (s.soFar j)) := (h.congr (t := { s with free := s.free + 4 }) rfl rfl).charge
  have hw : Within (parts [.les]) (State.charge { s with free := s.free + 4 } j.ref (s.soFar j)) (s.accrue j) := Within.billWaits rfl .refl
  exact hc.congr (hw.same .chans rfl) (hw.same .tenants rfl)

theorem Calm.settle_within (h : Calm s) : Within (parts [.keys, .ent]) s s.settle := by
  rw [h.settle]
  exact .withdrawRequests rfl (.sweepKeys rfl .refl)

/-- The message of `r` off its engines, about to end. -/
def State.offUnits (s : State) (r : JobRef) (j : Job) : State := (s.unload j).mapJob r (fun (j : Job) => { j with units := [] })

theorem State.endJob_cut (hj : s.findJob r = some j) : s.endJob r status detail 0 [] none = ((s.offUnits r j).finish r status detail [] none).settle := by
  unfold State.endJob
  rw [hj]
  dsimp only
  rw [if_neg fun h => h.2 rfl]
  rfl

/-- What is left where a job has been cut short, in a calm state. -/
structure CutShort (s t : State) (x : JobRef) (status detail : Nat) : Prop where
  calm : Calm t
  chans : ChansLike s t
  touches : Touches (fun i => 0x1800 ≤ i) s t
  within : Within ending s t
  kept : ∀ r st d out key, JobDone s r st d out key → JobDone t r st d out key
  others : ∀ r, r ≠ x → (t.findJob r).map Job.core = (s.findJob r).map Job.core
  done : ∀ j, s.findJob x = some j → j.live = true → j.kind ≠ 0x4 → JobDone t x status detail [] j.key

theorem endJob_cutShort (hc : Calm s) (hu : uncached status = false) : CutShort s (s.endJob r status detail 0 [] none) r status detail := by
  cases hj : s.findJob r with
  | none =>
    have he : s.endJob r status detail 0 [] none = s := by rw [State.endJob, hj]
    rw [he]
    exact ⟨hc, .refl, .refl, .refl, fun _ _ _ _ _ h => h, fun _ _ => rfl, fun j h => absurd (hj.symm.trans h) (by simp)⟩
  | some j =>
    have hwin : Within ending s (s.endJob r status detail 0 [] none) := .endJob rfl .refl
    rw [State.endJob_cut hj] at hwin ⊢
    have hunl : Within (parts [.units, .les, .saved, .cmem, .clus]) s (s.unload j) := .unload rfl .refl
    have hfind : ∀ x, (s.unload j).findJob x = s.findJob x := State.findJob_congr (hunl.same .jobs rfl)
    have hoff : (s.offUnits r j).findJob r = some { j with units := [] } := State.findJob_mapJob_self (fun _ => rfl) ((hfind r).trans hj)
    have hoffx : ∀ x, x ≠ r → (s.offUnits r j).findJob x = s.findJob x := fun x hx =>
      (State.findJob_mapJob_of_ne (f := fun (j : Job) => { j with units := [] }) (fun _ => rfl) hx).trans (hfind x)
    have hwoff : Within (parts [.jobs, .units, .les, .saved, .cmem, .clus]) s (s.offUnits r j) := .mapJob rfl (.unload rfl .refl)
    have hcalm : Calm ((s.offUnits r j).finish r status detail [] none) := Calm.finish_any hu (hc.congr (hwoff.same .chans rfl) (hwoff.same .tenants rfl))
    have hset := hcalm.settle_within
    have hkept : ∀ x st d out key, JobDone s x st d out key → JobDone (s.offUnits r j) x st d out key := fun x st d out key h => by
      obtain ⟨k, hk, h0, h1, h2, h3, h4, h5⟩ := h
      by_cases hx : x = r
      · subst hx
        obtain rfl := Option.some.inj (hj.symm.trans hk)
        exact ⟨_, hoff, h0, h1, h2, h3, h4, rfl⟩
      · exact ⟨k, (hoffx x hx).trans hk, h0, h1, h2, h3, h4, h5⟩
    refine ⟨hcalm.congr (hset.same .chans rfl) (hset.same .tenants rfl), ((ChansLike.of_chans (hwoff.same .chans rfl)).finish hu).within hset rfl,
      ((Touches.of_dict (hwoff.same .dict rfl)).finish hu fun _ h => h).within hset rfl, hwin,
      fun x st d out key h => ((hkept x st d out key h).finish hu).within hset rfl, fun x hx => ?_, fun k hk hl hkind => ?_⟩
    · rw [State.findJob_congr (hset.same .jobs rfl) x]
      by_cases hl : j.live = true
      · rw [(State.finish_jobs hoff hl hu).2 x hx, hoffx x hx]
      · rw [State.finish_ended hoff (Bool.eq_false_of_not_eq_true hl), hoffx x hx]
    · obtain rfl := Option.some.inj (hj.symm.trans hk)
      obtain ⟨hf, -⟩ := State.finish_jobs (status := status) (detail := detail) (result := []) (key := none) hoff hl hu
      have hout : (s.offUnits r j).resultOf j.kind status [] = [] := if_neg fun h => hkind h.1
      exact JobDone.within ⟨_, hf, rfl, rfl, rfl, hout, rfl, rfl⟩ hset rfl

theorem cutJob_cutShort (hc : Calm s) (hu : uncached status = false) : CutShort s (s.cutJob j status detail 0) j.ref status detail := by
  unfold State.cutJob
  split
  · obtain ⟨h1, h2, h3, h4, h5, h6, h7⟩ := endJob_cutShort (r := j.ref) (detail := detail) (hc.accrue (j := j)) hu
    have hw : Within (parts [.free, .jobs, .tenants, .les]) s (s.accrue j) := .accrue rfl .refl
    have hs : SameCores s (s.accrue j) := SameCores.refl.accrue
    refine ⟨h1, (ChansLike.of_chans (hw.same .chans rfl)).trans h2, (Touches.of_dict (hw.same .dict rfl)).trans h3, Within.trans (hw.mono rfl) h4,
      fun r st d out key h => h5 r st d out key (h.cores hs), fun r hr => (h6 r hr).trans (hs r), fun k hk hl hkind => ?_⟩
    obtain ⟨y, hy, he⟩ := hs.find hk
    simp only [Job.core, Prod.mk.injEq] at he
    obtain ⟨g0, g1, g2, -⟩ := he
    exact g2 ▸ h7 y hy (by rw [Job.live, g0]; exact hl) (g1 ▸ hkind)
  · exact endJob_cutShort hc hu

/-! ### The restart after a native loss (R428, R429) -/

/-- In a calm state every job that ran on an engine or a core has ended with CLOCK_LOSS. -/
theorem clockLoss_cuts (hc : Calm s) : Calm s.clockLoss ∧ ChansLike s s.clockLoss ∧ Touches (fun i => 0x1800 ≤ i) s s.clockLoss ∧
    ∀ r j, s.findJob r = some j → j.running = true → j.units ≠ [] → j.kind ≠ 0x4 → JobDone s.clockLoss r 0x61 0 [] j.key := by
  let I : State → Prop := fun u => Calm u ∧ ChansLike s u ∧ Touches (fun i => 0x1800 ≤ i) s u
  have hI : ∀ u (x : Job), I u → I (u.cutJob x 0x61 0 0) := fun u x ⟨h1, h2, h3⟩ => by
    have h := cutJob_cutShort (j := x) (detail := 0) h1 (status := 0x61) rfl
    exact ⟨h.calm, h2.trans h.chans, h3.trans h.touches⟩
  have h0 : I s := ⟨hc, .refl, .refl⟩
  obtain ⟨hcalm, hch, hto⟩ : I s.clockLoss := List.foldlRecOn (motive := I) _ _ h0 fun u hu x _ => hI u x hu
  refine ⟨hcalm, hch, hto, fun r j hj hrun hun hkind => ?_⟩
  have hmem : j ∈ s.jobs.filter (fun (j : Job) => j.running && j.units != []) :=
    List.mem_filter.mpr ⟨List.mem_of_find?_eq_some hj, by simp [hrun, hun]⟩
  have hlive : ∀ k : Job, k.core = j.core → k.live = true := fun k hk => by
    have hs : k.state = .running := (congrArg (fun c => c.1) hk : k.state = j.state).trans (beq_iff_eq.mp hrun)
    rw [Job.live, hs]
    rfl
  let I' : State → Prop := fun u => Calm u ∧ ((∃ k, u.findJob r = some k ∧ k.core = j.core) ∨ JobDone u r 0x61 0 [] j.key)
  let G : State → Prop := fun u => Calm u ∧ JobDone u r 0x61 0 [] j.key
  have hend : ∀ u (x : Job), x.ref = r → I' u → G (u.cutJob x 0x61 0 0) := fun u x hx ⟨hu, h⟩ => by
    have hcut := cutJob_cutShort (j := x) (detail := 0) hu (status := 0x61) rfl
    refine ⟨hcut.calm, h.elim (fun ⟨k, hk, he⟩ => ?_) fun h => hcut.kept _ _ _ _ _ h⟩
    subst hx
    have hkey : k.key = j.key := congrArg (fun c => c.2.2.1) he
    exact hkey ▸ hcut.done k hk (hlive k he) ((congrArg (fun c => c.2.1) he : k.kind = j.kind) ▸ hkind)
  refine (foldl_reaches (f := fun u (x : Job) => u.cutJob x 0x61 0 0) (I := I') (G := G) hmem ⟨hc, .inl ⟨j, hj, rfl⟩⟩ (fun u x _ hu => ?_)
    (fun u x _ hu => ?_) fun u hu => hend u j (State.ref_of_findJob hj) hu).2
  · by_cases hx : x.ref = r
    · exact ⟨(hend u x hx hu).1, .inr (hend u x hx hu).2⟩
    · have hcut := cutJob_cutShort (j := x) (detail := 0) hu.1 (status := 0x61) rfl
      refine ⟨hcut.calm, hu.2.imp (fun ⟨k, hk, he⟩ => ?_) fun h => hcut.kept _ _ _ _ _ h⟩
      have ho := hcut.others r (Ne.symm hx)
      rw [hk] at ho
      obtain ⟨y, hy, hy'⟩ := Option.map_eq_some_iff.mp ho
      exact ⟨y, hy, hy'.trans he⟩
  · have hcut := cutJob_cutShort (j := x) (detail := 0) hu.1 (status := 0x61) rfl
    exact ⟨hcut.calm, hcut.kept _ _ _ _ _ hu.2⟩

theorem SameCores.restartWaits (s : State) : SameCores s s.restartWaits :=
  SameCores.map (f := fun j => if j.waitSince.isSome then { j with waitSince := some s.clk.fab } else j) (fun y => by split <;> rfl) (fun y => by split <;> rfl) rfl

/-- What fell due during the loss, before the channels whose keepalive ran out are closed. -/
def State.restarting (s : State) : State := s.clockLoss.restartWaits.gateAll.shortLap.dueActivities

theorem State.restart_eq (s : State) : s.restart = s.restarting.closeExpired := rfl

theorem restarting_within (s : State) : Within (ending ||| parts [.rwork, .flash, .gate, .trav, .lap]) s s.restarting :=
  .dueActivities rfl (.shortLap rfl (.gateAll rfl (.restartWaits rfl (.clockLoss rfl .refl))))

theorem State.lapShort_dueActivities (s : State) : s.dueActivities.lap.short = s.lap.short := by
  have hexp : s.expireKeys.lap.short = s.lap.short := by
    unfold State.expireKeys
    extract_lets since ks l v
    have hf : Within ending { s with lap := { s.lap with expiredTo := s.clk.maxDatum } } v := .foldl .refl fun u x hu => .finish rfl hu
    have hl : v.lap = { s.lap with expiredTo := s.clk.maxDatum } := hf.same .lap rfl
    have hv : v.lap.short = s.lap.short := by rw [hl]
    have hk : Within ending v (ks.foldl (fun u k => if since ≤ ofTime80 k.notAfter then u.notify 3 (some (keyTenant k.handle)) k.handle else u) v) :=
      .foldl .refl fun u x hu => .ite (.notify rfl hu) hu
    exact (congrArg Lap.short (hk.same .lap rfl)).trans hv
  exact hexp

theorem Touches.gateAll {P : Nat → Prop} (h : Touches P s t) (hP : ∀ i, 0x1800 ≤ i → P i) : Touches P s t.gateAll := by
  unfold State.gateAll
  exact .foldl h fun u n hu => hu.toGated (hP _ (by decide)) (hP _ (by decide)) (hP _ (by omega))

theorem chanMode_of_touches {P : Nat → Prop} {n : Nat} (h : Touches P s t) (hP : ¬ P (0x3000 + n)) (hn : n ≠ 0) : t.chanMode n = s.chanMode n := by
  rw [State.chanMode, State.chanMode, if_neg hn, if_neg hn, h.rd _ _ (by decide) hP]

/-- The restart of a calm block where no keepalive has run out. -/
theorem restart_spec (hc : Calm s) (hw : Map.wf s.dict = true) (hk : ∀ p ∈ s.chans, s.keepaliveOver p.2 = false) :
    s.restart.clk = s.clk ∧ s.restart.pins = s.pins ∧ s.restart.rd 0x1200 1 = s.rd 0x1200 1 ∧ (∀ n, 1 ≤ n → n ≤ 31 → s.restart.chanMode n = 0) ∧
      s.restart.lap.start = s.clk.datum ∧ s.restart.lap.short ≠ none ∧
      ∀ r j, s.findJob r = some j → j.running = true → j.units ≠ [] → j.kind ≠ 0x4 → JobDone s.restart r 0x61 0 [] j.key := by
  obtain ⟨hcalm, hch, hto, hdone⟩ := clockLoss_cuts hc
  have hwithin := restarting_within s
  have hclk : s.restarting.clk = s.clk := hwithin.same .clk rfl
  have hgw : Within (ending ||| parts [.rwork, .flash, .gate, .trav]) s s.clockLoss.restartWaits.gateAll := .gateAll rfl (.restartWaits rfl (.clockLoss rfl .refl))
  have hgclk : s.clockLoss.restartWaits.gateAll.clk = s.clk := hgw.same .clk rfl
  have hg1 : ChansLike s s.clockLoss.restartWaits.gateAll.shortLap :=
    hch.within (l := parts [.free, .dict, .dtx, .jobs, .tenants, .lap, .units, .les, .rwork, .flash, .gate, .trav]) (.shortLap rfl (.gateAll rfl (.restartWaits rfl .refl))) rfl
  have hg2 : ChansLike s s.restarting := by
    have he : ChansLike s s.clockLoss.restartWaits.gateAll.shortLap.expireKeys := hg1.expireKeys
    exact he.within (l := parts [.dict, .dtx, .lap, .rwork, .trav, .ent]) (.dueReseed rfl (.dueCheckpoint rfl .refl)) rfl
  have hidle : s.restart = s.restarting := by
    have hno : s.restarting.chans.filter (fun p => s.restarting.keepaliveOver p.2) = [] :=
      List.filter_eq_nil_iff.mpr fun p hp => by rw [hg2.keepaliveOver hclk hk p hp]; decide
    rw [State.restart_eq, State.closeExpired, hno, List.foldl_nil]
  have hwait : Touches (fun i => 0x1800 ≤ i) s s.clockLoss.restartWaits := hto.within (k := parts [.jobs]) (.restartWaits rfl .refl) rfl
  have hlast : Touches (fun i => i = 0x1A00 ∨ i = 0x3800) s.clockLoss.restartWaits.gateAll s.restarting := (Touches.refl.shortLap (.inl rfl)).dueActivities (.inr rfl)
  have hall : Touches (fun i => 0x1800 ≤ i) s s.restarting := (hwait.gateAll fun _ h => h).trans (hlast.mono fun i hi => by omega)
  rw [hidle]
  refine ⟨hclk, hwithin.same .pins rfl, hall.rd _ _ (by decide) (by decide), fun n h1 h31 => ?_, ?_, ?_, fun r j hj hrun hun hkind => ?_⟩
  · exact (chanMode_of_touches hlast (by omega) (by omega)).trans (State.chanMode_gateAll (hwait.wf hw) h1 h31)
  · rw [State.restarting, State.lapStart_dueActivities, (State.lap_shortLap _).1, hgclk]
  · rw [State.restarting, State.lapShort_dueActivities, (State.lap_shortLap _).2]
    simp
  · have hd := hdone r j hj hrun hun hkind
    have hg : JobDone s.clockLoss.restartWaits.gateAll r 0x61 0 [] j.key :=
      (hd.cores (.restartWaits _)).within (l := parts [.dict, .dtx, .rwork, .flash, .gate, .trav]) (.gateAll rfl .refl) rfl
    have hl : JobDone s.clockLoss.restartWaits.gateAll.shortLap r 0x61 0 [] j.key := by
      unfold State.shortLap
      exact hg.cores SameCores.refl.beginLap
    exact hl.dueActivities

/-! ### REFCLK is lost -/

/-- The loss has been counted, and the clock state set. -/
def State.lossAs (s : State) (n : Nat) : State := s.refclkGone.wr 0x1200 1 n

theorem rd_lossAs (hw : Map.wf s.dict = true) (n : Nat) : (s.lossAs n).rd 0x1200 7 = eventAdd (s.rd 0x1200 7) 1 ∧
    (s.lossAs n).rd 0x1200 8 = time80 s.clk.datum ∧ (s.lossAs n).rd 0x1200 1 = n ∧ Map.wf (s.lossAs n).dict = true := by
  have h7 : (State.event { s with clk := { s.clk with refclk := false, lossAt := s.clk.rtc } } 0x1200 7 1).rd 0x1200 7 = eventAdd (s.rd 0x1200 7) 1 := by
    rw [State.rd_event]
    exact State.rd_wr_self (s := { s with clk := { s.clk with refclk := false, lossAt := s.clk.rtc } }) hw _ _ _
  have hwe : Map.wf (State.event { s with clk := { s.clk with refclk := false, lossAt := s.clk.rtc } } 0x1200 7 1).dict = true := State.wf_event hw _ _ _
  have hwg : Map.wf s.refclkGone.dict = true := State.wf_wr hwe _ _ _
  refine ⟨?_, ?_, State.rd_wr_self hwg _ _ _, State.wf_wr hwg _ _ _⟩
  · exact (State.rd_wr_of_sub _ (by decide) (by decide) (.inr (by decide))).trans ((State.rd_wr_of_sub _ (by decide) (by decide) (.inr (by decide))).trans h7)
  · exact (State.rd_wr_of_sub _ (by decide) (by decide) (.inr (by decide))).trans (State.rd_wr_self hwe _ _ _)

theorem lossAs_within (s : State) (n : Nat) : Within (parts [.dict, .dtx, .clk]) s (s.lossAs n) := .wr rfl (.wr rfl (.event rfl (.set rfl rfl .refl)))

/-- What both behaviours leave once the links have dropped. -/
theorem dropLinks_after_loss {n : Nat} (hw : Map.wf s.dict = true) (hd : u.dict = (s.lossAs n).dict) (hu : Within (parts [.dict, .dtx, .clk, .pins, .gate]) s u) :
    u.dropLinks.rd 0x1200 7 = eventAdd (s.rd 0x1200 7) 1 ∧ u.dropLinks.rd 0x1200 8 = time80 s.clk.datum ∧ u.dropLinks.rd 0x1200 1 = n ∧
      u.dropLinks.pins = u.pins ∧ u.dropLinks.clk = u.clk ∧ (∀ p, p < 4 → u.dropLinks.linkUp p = false) ∧ u.dropLinks.jobs = s.jobs ∧ u.dropLinks.keys = s.keys := by
  obtain ⟨h7, h8, h1, hwf⟩ := rd_lossAs hw n
  have ht : Touches (fun i => 0x1400 ≤ i) (s.lossAs n) u.dropLinks := Touches.dropLinks (.of_dict hd) fun p _ => Nat.le_add_right _ _
  have hin : Within (parts [.dict, .dtx, .ports, .tx, .chans, .tenants]) u u.dropLinks := .dropLinks rfl .refl
  refine ⟨(ht.rd _ _ (by decide) (by decide)).trans h7, (ht.rd _ _ (by decide) (by decide)).trans h8, (ht.rd _ _ (by decide) (by decide)).trans h1,
    hin.same .pins rfl, hin.same .clk rfl, fun p hp => State.linkUp_dropLinks (hd ▸ hwf) hp, ?_, ?_⟩
  · exact (hin.same .jobs rfl).trans (hu.same .jobs rfl)
  · exact (hin.same .keys rfl).trans (hu.same .keys rfl)

/-- Natively the domains stop and every line is asserted. -/
def State.halting (s : State) : State :=
  State.assertLines { s with clk := { s.clk with gated := true }, pins := { s.pins with safe := true, txIdle := true } } fun _ => true

/-- The PLL coasts. -/
def State.coasting (s : State) : State := { s with clk := { s.clk with coasting := true }, pins := { s.pins with txIdle := true } }

theorem Within.halting {k : Parts} (hk : covers (parts [.clk, .pins, .gate]) k = true) (h : Within k s t) : Within k s t.halting := h.into hk <| by
  unfold State.halting
  exact .assertLines rfl (.set rfl rfl .refl)

theorem Within.coasting {k : Parts} (hk : covers (parts [.clk, .pins]) k = true) (h : Within k s t) : Within k s t.coasting := h.into hk (.set rfl rfl .refl)

theorem State.haltClocks_eq (s : State) : s.haltClocks = (s.wr 0x1200 1 1).halting.dropLinks := rfl

theorem State.coast_eq (s : State) : s.coast = (s.wr 0x1200 1 2).coasting.dropLinks := rfl

theorem State.dict_halting (s : State) : s.halting.dict = s.dict := rfl

theorem State.dict_coasting (s : State) : s.coasting.dict = s.dict := rfl

theorem State.pins_halting (s : State) : s.halting.pins.txIdle = true ∧ s.halting.pins.safe = true ∧ ∀ l, l < 32 → s.halting.released l = false :=
  ⟨rfl, rfl, fun _ hl => (State.released_assertLines hl).trans (Bool.and_false _)⟩

theorem State.clk_halting (s : State) : s.halting.clk = { s.clk with gated := true } := rfl

theorem State.clk_coasting (s : State) : s.coasting.clk = { s.clk with coasting := true } := rfl

theorem State.pins_coasting (s : State) : s.coasting.pins = { s.pins with txIdle := true } := rfl

theorem State.clk_lossAs (s : State) (n : Nat) : (s.lossAs n).clk = { s.clk with refclk := false, lossAt := s.clk.rtc } := rfl

theorem execRefclkLost_halts (hr : s.clk.refclk = true) (hp : s.phase ≠ .down) (hc : s.compatClock = false) :
    exec .refclkLost s = .next (s.lossAs 1).halting.dropLinks := by
  rw [exec_refclkLost, execRefclkLost, if_neg (by simp [hr]), if_neg hp, if_neg (by simp [hc]), State.haltClocks_eq, State.lossAs]

theorem execRefclkLost_coasts (hr : s.clk.refclk = true) (hp : s.phase ≠ .down) (hc : s.compatClock = true) :
    exec .refclkLost s = .next (s.lossAs 2).coasting.dropLinks := by
  rw [exec_refclkLost, execRefclkLost, if_neg (by simp [hr]), if_neg hp, if_pos hc, State.coast_eq, State.lossAs]

theorem refclkLost_goes (hw : Map.wf s.dict = true) (hr : s.clk.refclk = true) (hp : s.phase ≠ .down) : GoesTo (exec .refclkLost s) (fun t =>
    t.rd 0x1200 7 = eventAdd (s.rd 0x1200 7) 1 ∧ t.rd 0x1200 8 = time80 s.clk.datum ∧ t.pins.txIdle = true ∧ (∀ p, p < 4 → t.linkUp p = false) ∧
      t.jobs = s.jobs ∧ t.keys = s.keys ∧
      (s.compatClock = false → t.rd 0x1200 1 = 1 ∧ t.clk = { s.clk with refclk := false, lossAt := s.clk.rtc, gated := true } ∧ t.pins.safe = true ∧
        ∀ l, l < 32 → t.released l = false) ∧
      (s.compatClock = true → t.rd 0x1200 1 = 2 ∧ t.clk = { s.clk with refclk := false, lossAt := s.clk.rtc, coasting := true } ∧ t.pins.lines = s.pins.lines)) := by
  cases hc : s.compatClock with
  | false =>
    obtain ⟨h7, h8, h1, hpins, hclk, hl, hj, hk⟩ := dropLinks_after_loss (n := 1) (u := (s.lossAs 1).halting) hw (State.dict_halting _)
      (.halting rfl ((lossAs_within s 1).mono rfl))
    obtain ⟨hidle, hsafe, hlow⟩ := (s.lossAs 1).pins_halting
    refine ⟨_, execRefclkLost_halts hr hp hc, h7, h8, by rw [hpins, hidle], hl, hj, hk, fun _ => ⟨h1, ?_, by rw [hpins, hsafe], fun l hl => ?_⟩,
      fun h => by cases h⟩
    · rw [hclk, State.clk_halting, State.clk_lossAs]
    · rw [State.released, hpins]
      exact hlow l hl
  | true =>
    obtain ⟨h7, h8, h1, hpins, hclk, hl, hj, hk⟩ := dropLinks_after_loss (n := 2) (u := (s.lossAs 2).coasting) hw (State.dict_coasting _)
      (.coasting rfl ((lossAs_within s 2).mono rfl))
    refine ⟨_, execRefclkLost_coasts hr hp hc, h7, h8, by rw [hpins, State.pins_coasting], hl, hj, hk, fun h => (by cases h), fun _ => ⟨h1, ?_, ?_⟩⟩
    · rw [hclk, State.clk_coasting, State.clk_lossAs]
    · rw [hpins, State.pins_coasting, show (s.lossAs 2).pins = s.pins from (lossAs_within s 2).same .pins rfl]

/-! ### REFCLK is back -/

theorem rd_refclkBack (hw : Map.wf s.dict = true) : s.refclkBack.rd 0x1200 1 = 0 ∧
    s.refclkBack.rd 0x1200 9 = (s.clk.rtc - s.clk.lossAt) / 1000 % 2 ^ 32 ∧ s.refclkBack.rd 0x1200 7 = s.rd 0x1200 7 ∧ Map.wf s.refclkBack.dict = true := by
  have hw' : ∀ t : State, t.dict = s.dict → Map.wf t.dict = true := fun t h => h ▸ hw
  have hw1 := State.wf_wr (hw' { s with clk := { s.clk with refclk := true, gated := false, coasting := false }, pins := { s.pins with safe := false, txIdle := false } } rfl) 0x1200 1 0
  refine ⟨?_, State.rd_wr_self hw1 _ _ _, ?_, State.wf_wr hw1 _ _ _⟩
  · exact (State.rd_wr_of_sub _ (by decide) (by decide) (.inr (by decide))).trans (State.rd_wr_self (hw' _ rfl) _ _ _)
  · exact (State.rd_wr_of_sub _ (by decide) (by decide) (.inr (by decide))).trans (State.rd_wr_of_sub _ (by decide) (by decide) (.inr (by decide)))

/-- REFCLK has returned, and no response or reset is held pending any longer. -/
def State.unheld (s : State) : State :=
  { s.refclkBack with tamp := { s.tamp with clockRank := 0 }, clk := { s.refclkBack.clk with waiting := none } }

theorem execRefclkRestored_gated (hr : s.clk.refclk = false) (hp : s.phase = .up) (hg : s.clk.gated = true) :
    exec .refclkRestored s = .next s.refclkBack.endLoss := by
  rw [exec_refclkRestored, execRefclkRestored, if_neg (by simp [hr]), if_neg (by simp [hp]), if_pos hg]

theorem endLoss_waiting {cause : Nat} (hc : s.clk.waiting = some cause) : s.refclkBack.endLoss = s.unheld.warmReset cause := by
  have hc' : s.refclkBack.clk.waiting = some cause := hc
  rw [State.endLoss, hc']
  rfl

theorem endLoss_response (hc : s.clk.waiting = none) (h5 : 5 ≤ s.tamp.clockRank) : s.refclkBack.endLoss = s.unheld.warmReset 3 := by
  have hc' : s.refclkBack.clk.waiting = none := hc
  rw [State.endLoss, hc']
  exact if_pos h5

theorem endLoss_restart (hc : s.clk.waiting = none) (h0 : s.tamp.clockRank = 0) (hp : s.phase = .up) : s.refclkBack.endLoss = s.unheld.restart := by
  have hc' : s.refclkBack.clk.waiting = none := hc
  have h0' : s.refclkBack.tamp.clockRank = 0 := h0
  rw [State.endLoss, hc', h0']
  refine (if_neg (by decide)).trans ((if_pos hp).trans (congrArg State.restart ?_))
  exact if_pos rfl

theorem not_reset_unheld (hp : s.phase = .up) : ¬ (s.unheld.phase = .down ∧ s.unheld.rd 0x1201 1 = 0) := fun h => by
  have hd : s.phase = .down := h.1
  rw [hp] at hd
  cases hd

theorem wf_unheld (hw : Map.wf s.dict = true) : Map.wf s.unheld.dict = true := (rd_refclkBack hw).2.2.2

/-- A reset that waited for REFCLK, or a response that asks for one, is a warm reset now. -/
theorem unheld_resets (hw : Map.wf s.dict = true) (hp : s.phase = .up) (cause : Nat) : (s.unheld.warmReset cause).phase = .down ∧
    (s.unheld.warmReset cause).rd 0x1201 1 = cause ∧ (s.unheld.warmReset cause).jobs = [] ∧ (s.unheld.warmReset cause).tamp.clockRank = 0 :=
  have hd := not_reset_unheld hp
  ⟨State.phase_warmReset hd rfl cause, State.rd_warmReset_cause hd rfl (wf_unheld hw) cause, State.jobs_warmReset hd rfl cause,
    congrArg Tamper.clockRank ((Within.clearLogic_warmReset hd rfl cause).same .tamp rfl)⟩

theorem refclkRestored_restarts (hw : Map.wf s.dict = true) (hr : s.clk.refclk = false) (hp : s.phase = .up) (hg : s.clk.gated = true) (h0 : s.tamp.clockRank = 0)
    (hn : s.clk.waiting = none) (hc : Calm s) (hk : ∀ p ∈ s.chans, s.keepaliveOver p.2 = false) : GoesTo (exec .refclkRestored s) (fun t =>
      t.clk.gated = false ∧ t.clk.refclk = true ∧ t.rd 0x1200 1 = 0 ∧ t.pins.safe = false ∧ (∀ n, 1 ≤ n → n ≤ 31 → t.chanMode n = 0) ∧
        t.lap.start = s.clk.datum ∧ t.lap.short ≠ none ∧
        ∀ r j, s.findJob r = some j → j.running = true → j.units ≠ [] → j.kind ≠ 0x4 → JobDone t r 0x61 0 [] j.key) := by
  have hu : Calm s.unheld := hc
  obtain ⟨hclk, hpins, h1, hmode, hstart, hshort, hdone⟩ := restart_spec hu (wf_unheld hw) hk
  refine ⟨_, (execRefclkRestored_gated hr hp hg).trans (congrArg _ (endLoss_restart hn h0 hp)), by rw [hclk]; rfl, by rw [hclk]; rfl,
    h1.trans (rd_refclkBack hw).1, by rw [hpins]; rfl, hmode, hstart, hshort, hdone⟩

/-! ### Cluster wakes -/

/-- A cluster's words are gone, its LEs' power is back and its memory is free. -/
def State.cleared (s : State) (c : Nat) : State :=
  State.setCluster { s with cmem := s.cmem.filter (fun p => p.1 / 2 ^ 18 != c) } c { s.cluster c with resident := none, freeBlocks := 176, powered := true }

theorem clearCluster_within (s : State) (c : Nat) : Within (parts [.cmem]) (s.cleared c) (s.clearCluster c) := by
  unfold State.clearCluster
  exact .foldl .refl fun u k hu => .foldl hu fun v i hv => .setCword rfl hv

theorem Map.find_filter_key {α : Type} (q : Nat → Bool) (k : Nat) : ∀ m : Map α, Map.find (m.filter fun p => q p.1) k = if q k then Map.find m k else none
  | [] => by simp [Map.find]
  | (k', a) :: m => by
    have ih := Map.find_filter_key q k m
    rw [List.filter_cons]
    by_cases hq : q k' = true
    · rw [if_pos hq, Map.find, Map.find, ih]
      by_cases he : k = k'
      · rw [if_pos he, if_pos he, he, if_pos hq]
      · rw [if_neg he, if_neg he]
    · rw [if_neg hq, ih, Map.find]
      by_cases he : k = k'
      · rw [he, if_neg hq, if_neg hq]
      · rw [if_neg he]

theorem cword_cleared (s : State) (c d : Nat) {a : Nat} (ha : a < 2 ^ 18) : (s.cleared c).cword d a = if d = c then ⟨0, false⟩ else s.cword d a := by
  have hkey : cmKey d a / 2 ^ 18 = d := by unfold cmKey; omega
  have hf : Map.find (s.cleared c).cmem (cmKey d a) = if (d != c) = true then Map.find s.cmem (cmKey d a) else none := by
    have h := Map.find_filter_key (fun k => k / 2 ^ 18 != c) (cmKey d a) s.cmem
    rw [hkey] at h
    exact h
  rw [State.cword, Map.getD, hf]
  by_cases h : d = c
  · rw [if_neg (by simp [h]), if_pos h]
  · rw [if_pos (by simp [h]), if_neg h]
    rfl

theorem clusterWake_goes {c : Nat} (hc : c < 16) (hp : s.phase = .up) (hg : s.clk.gated = false) (hi : s.clusterIdle c = true) :
    GoesTo (exec (.clusterWake c) s) (fun t =>
      (t.cluster c).powered = true ∧ (t.cluster c).freeBlocks = 176 ∧ (t.cluster c).resident = none ∧ (∀ d, d ≠ c → t.cluster d = s.cluster d) ∧
        (s.kern.bound = [] → ∀ d a, a < 2 ^ 18 → t.cword d a = if d = c then ⟨0, false⟩ else s.cword d a) ∧ t = { s with cmem := t.cmem, clus := t.clus }) := by
  have hin := clearCluster_within s c
  have hclus : (s.clearCluster c).clus = (s.cleared c).clus := hin.same .clus rfl
  have hself : (s.clearCluster c).cluster c = { s.cluster c with resident := none, freeBlocks := 176, powered := true } := by
    rw [State.cluster, hclus]
    exact Map.getD_put_self _ _ _ _
  refine ⟨_, when_of_true (by rw [hp, hg, hi, decide_eq_true hc]; rfl), by rw [hself], by rw [hself], by rw [hself], fun d hd => ?_, fun hb d a ha => ?_,
    (Within.clearCluster (k := parts [.cmem, .clus]) rfl .refl).eq_keepBut⟩
  · rw [State.cluster, hclus]
    exact Map.getD_put_of_ne _ _ _ hd
  · have he : s.clearCluster c = s.cleared c := by
      unfold State.clearCluster
      have hb' : (s.cleared c).kern.bound = [] := hb
      exact congrArg (fun l : List (Nat × Kernel) => (l.map fun p => p.2).foldl (fun u k => (List.range k.nConst).foldl (fun v i =>
        v.setCword c (14336 + k.constOff + i) ⟨fieldAt k.image (64 + 6 * k.nMicro + 9 * i) 9, false⟩) u) (s.cleared c)) hb'
    rw [he, cword_cleared _ _ _ ha]

/-! ### The obligation -/

/-- Settles O52: REFCLK's loss and return, the crystal's, cluster wakes and spread spectrum. -/
theorem clockEventsComplete : Obligations.ClockEventsComplete := by
  unfold Obligations.ClockEventsComplete
  intro s hw
  refine ⟨fun hr => ?_, fun hr hp => ?_, refclkLost_goes hw, fun hr => ?_, fun hr hp => ?_, fun hr hp hg => ?_, fun hr hp hg h0 => ⟨?_, fun cause hc => ?_⟩,
    fun hr hp hg hn h5 => ?_, fun hx hp => ?_, fun hx => ?_, fun c => clusterWake_goes, fun hp hg => ?_⟩
  · rw [exec_refclkLost, execRefclkLost, if_pos (by simp [hr])]
  · rw [exec_refclkLost, execRefclkLost, if_neg (by simp [hr]), if_pos hp]
  · rw [exec_refclkRestored, execRefclkRestored, if_pos hr]
  · rw [exec_refclkRestored, execRefclkRestored, if_neg (by simp [hr]), if_pos hp]
  · obtain ⟨h1, h9, h7, hwb⟩ := rd_refclkBack hw
    refine ⟨s.refclkBack.event 0x1200 7 2, ?_, ?_, ?_, ?_, rfl, rfl⟩
    · rw [exec_refclkRestored, execRefclkRestored, if_neg (by simp [hr]), if_neg hp, if_neg (by simp [hg])]
    · exact (State.rd_wr_of_sub _ (by decide) (by decide) (.inr (by decide))).trans h1
    · exact (State.rd_wr_self hwb _ _ _).trans (by rw [h7])
    · exact (State.rd_wr_of_sub _ (by decide) (by decide) (.inr (by decide))).trans h9
  · exact refclkRestored_restarts hw hr hp hg h0
  · obtain ⟨hd, hcause, hj, -⟩ := unheld_resets hw hp cause
    exact ⟨_, (execRefclkRestored_gated hr hp hg).trans (congrArg _ (endLoss_waiting hc)), hd, hcause, hj⟩
  · obtain ⟨hd, hcause, hj, ht⟩ := unheld_resets hw hp 3
    exact ⟨_, (execRefclkRestored_gated hr hp hg).trans (congrArg _ (endLoss_response hn h5)), hd, hcause, hj, ht⟩
  · refine ⟨_, (when_of_true hx).trans (congrArg _ (if_neg hp)), rfl, ?_, rfl⟩
    have hwx : Map.wf (State.event { s with clk := { s.clk with xtal := false, aonOnTamperOsc := true } } 0x1200 7 32).dict = true := State.wf_event hw _ _ _
    have h32 : (State.event { s with clk := { s.clk with xtal := false, aonOnTamperOsc := true } } 0x1200 7 32).rd 0x1200 7 = eventAdd (s.rd 0x1200 7) 32 :=
      State.rd_wr_self (s := { s with clk := { s.clk with xtal := false, aonOnTamperOsc := true } }) hw _ _ _
    exact (State.rd_wr_self hwx _ _ _).trans (by rw [h32])
  · exact when_of_true (by rw [hx]; rfl)
  · exact when_of_true (by rw [hp, hg]; rfl)

end Machine
end Sys2Proof
end

section
/-! Resets and starts (16 R360, R366, 19 R416-R420, 20 R441-R443). -/

namespace Sys2Proof
namespace Machine

variable {s t u : State}

/-! ### S1 and S2 -/

/-- What a start may reach beside the phase: neither clocks nor pins nor the queue of commands. -/
def booting : Parts := parts [.free, .dict, .dtx, .ports, .ptp, .tx, .waits, .parts, .hsIn, .chans, .gens, .freed, .hs, .jobs, .order, .tenants, .lap, .rwork, .units, .les,
  .saved, .cmem, .clus, .mcache, .kern, .dstreams, .ent, .keys, .stampSeq, .flash, .gate, .trav, .grp, .lc, .tamp, .flt]

/-- A source whose response holds a start keeps one that does. -/
def ResponsesKept (s t : State) : Prop := ∀ i, 0x4000 ≤ i → 5 ≤ s.rd i 1 → 5 ≤ t.rd i 1

theorem ResponsesKept.of_dict (h : t.dict = s.dict) : ResponsesKept s t := fun i _ h5 => by rwa [State.rd_congr h]

theorem ResponsesKept.wr (h : ResponsesKept s t) {i a v : Nat} (ha : a < 256) (hn : a ≠ 1 ∨ i < 0x4000) : ResponsesKept s (t.wr i a v) := fun k hk h5 => by
  rw [State.rd_wr_of_sub _ ha (by decide) (by omega)]
  exact h k hk h5

theorem orFlags_ge {a : Nat} (ha : a < 256) (b : Nat) : a ≤ orFlags a b := by
  have h : (BitVec.ofNat 8 a).toNat = a := by rw [BitVec.toNat_ofNat]; exact Nat.mod_eq_of_lt ha
  calc a = (BitVec.ofNat 8 a).toNat := h.symm
    _ ≤ (BitVec.ofNat 8 a).toNat ||| (BitVec.ofNat 8 b).toNat := Nat.left_le_or
    _ = orFlags a b := by rw [orFlags, BitVec.toNat_or]

/-- What the steps S1 and S2 of a start leave in a block that is down. -/
structure Booted (s t : State) : Prop where
  within : Within booting s t
  ring : t.trav.ring = s.trav.ring
  restarted : t.tamp.restarted = s.tamp.restarted
  asserted : ∀ n, s.asserted n = true → t.asserted n = true
  responses : Map.wf s.dict = true → ResponsesKept s t

namespace Booted

theorem refl : Booted s s := ⟨.refl, rfl, rfl, fun _ h => h, fun _ => .of_dict rfl⟩

theorem phase (h : Booted s t) : t.phase = s.phase := h.within.same .phase rfl

theorem wf (h : Booted s t) : Map.wf s.dict = true → Map.wf t.dict = true := h.within.2.dict

theorem trans (h : Booted s t) (g : Booted t u) : Booted s u :=
  ⟨h.within.trans g.within, g.ring.trans h.ring, g.restarted.trans h.restarted, fun n hn => g.asserted n (h.asserted n hn),
    fun hw i hi h5 => g.responses (h.wf hw) i hi (h.responses hw i hi h5)⟩

/-- A part of the start that keeps the dictionary, the ring and the tamper controller. -/
theorem of_within {k : Parts} (hk : covers k booting = true) (h : Within k s t) (hd : (inParts k .dict || inParts k .trav || inParts k .tamp) = false) : Booted s t := by
  simp only [Bool.or_eq_false_iff] at hd
  obtain ⟨⟨hd, hr⟩, ht⟩ := hd
  have htamp : t.tamp = s.tamp := h.same .tamp ht
  exact ⟨h.mono hk, congrArg Traverse.ring (h.same .trav hr), by rw [htamp], fun n hn => by rw [State.asserted, htamp]; exact hn, fun _ => .of_dict (h.same .dict hd)⟩

theorem wr {i a v : Nat} (ha : a < 256) (hn : a ≠ 1 ∨ i < 0x4000) : Booted s (s.wr i a v) :=
  ⟨.wr rfl .refl, rfl, rfl, fun _ h => h, fun _ => (ResponsesKept.of_dict rfl).wr ha hn⟩

theorem event {i a f : Nat} (ha : a < 256) (hn : a ≠ 1 ∨ i < 0x4000) : Booted s (s.event i a f) :=
  ⟨.event rfl .refl, rfl, rfl, fun _ h => h, fun _ => (ResponsesKept.of_dict rfl).wr ha hn⟩

theorem ite {c : Prop} [Decidable c] {a b : State} (ha : Booted s a) (hb : Booted s b) : Booted s (if c then a else b) := by
  split
  · exact ha
  · exact hb

theorem foldl {α : Type} {f : State → α → State} {l : List α} (hf : ∀ v x, Booted v (f v x)) : Booted s (l.foldl f s) :=
  List.foldlRecOn (motive := Booted s) _ _ refl fun v hv x _ => hv.trans (hf v x)

theorem logRow {kind unitType cluster unit tenant status record : Nat} : Booted s (s.logRow kind unitType cluster unit tenant status record) := by
  refine ⟨.logRow rfl .refl, ?_, ?_, fun n hn => ?_, fun hw i hi h5 => ?_⟩
  · exact congrArg Traverse.ring ((Within.logRow (k := parts [.dict, .dtx, .flt]) rfl .refl).same .trav rfl)
  · exact congrArg Tamper.restarted ((Within.logRow (k := parts [.dict, .dtx, .flt]) rfl .refl).same .tamp rfl)
  · rw [State.asserted, show (s.logRow kind unitType cluster unit tenant status record).tamp = s.tamp from
      (Within.logRow (k := parts [.dict, .dtx, .flt]) rfl .refl).same .tamp rfl]
    exact hn
  · by_cases h : i = 0x4800
    · subst h
      unfold State.logRow
      extract_lets e f v
      split
      · exact h5
      · refine Nat.le_trans h5 ?_
        have hv : Map.wf v.dict = true := hw
        have hr := State.rd_wr_self hv 0x4800 1 (s.rd 0x4800 1 / 256 * 256 + orFlags (s.rd 0x4800 1 % 256) 64)
        have hge := orFlags_ge (Nat.mod_lt (s.rd 0x4800 1) (by decide : 0 < 256)) 64
        refine Nat.le_trans ?_ (Nat.le_of_eq hr.symm)
        omega
    · rwa [State.rd_logRow (by decide) h]

theorem setAsserted {n : Nat} : Booted s (s.setAsserted n true) := by
  refine ⟨.setAsserted rfl .refl, rfl, rfl, fun m hm => ?_, fun _ => ?_⟩
  · unfold State.setAsserted State.asserted Tamper.assert at *
    simp only [List.contains_eq_mem, decide_eq_true_eq, List.mem_append, List.mem_filter, bne_iff_ne, if_true, List.mem_singleton] at hm ⊢
    by_cases h : m = n
    · exact .inr h
    · exact .inl ⟨hm, h⟩
  · exact (ResponsesKept.of_dict (s := s) (t := s) rfl).wr (by decide) (.inl (by decide))

/-- The benchmark of an alarm waits behind a start's first record. -/
theorem tamperRecord (hp : s.phase ≠ .up) {n r : Nat} : Booted s (s.tamperRecord n r) := by
  have hw : Within (parts [.dict, .dtx, .rwork, .trav]) s (s.tamperRecord n r) := .tamperRecord rfl .refl
  have hd : (s.tamperRecord n r).dict = s.dict ∧ (s.tamperRecord n r).trav.ring = s.trav.ring := by
    unfold State.tamperRecord
    dsimp only
    split
    · exact ⟨rfl, rfl⟩
    · exact ⟨rfl, rfl⟩
  exact ⟨hw.mono rfl, hd.2, congrArg Tamper.restarted (hw.same .tamp rfl), fun m hm => by rw [State.asserted, show (s.tamperRecord n r).tamp = s.tamp from hw.same .tamp rfl]; exact hm,
    fun _ => .of_dict hd.1⟩

theorem ringAlarm {n r f : Nat} : Booted s (s.ringAlarm n r f) := ⟨.ringAlarm rfl .refl, rfl, rfl, fun _ h => h, fun _ => .of_dict rfl⟩

theorem notify {cls what : Nat} {o : Option Nat} : Booted s (s.notify cls o what) := of_within (k := parts [.tx, .chans]) rfl (.notify rfl .refl) rfl

theorem logAlarm (hp : s.phase ≠ .up) {n : Nat} {battery : Bool} : Booted s (s.logAlarm n battery) := by
  unfold State.logAlarm
  extract_lets r x y z v
  have hy : Booted s y := (event (by decide) (.inl (by decide))).trans (wr (by decide) (.inl (by decide)))
  have hz : Booted s z := .ite (hy.trans ringAlarm) hy
  have hl := hz.trans (logRow (kind := Config.unstated 54 [n] % 256) (unitType := 0) (cluster := 0xFF) (unit := 0) (tenant := 0xFF) (status := 0) (record := 0))
  have hv : Booted s v := hl.trans (tamperRecord (hl.phase ▸ hp))
  exact .ite hz (.ite (hv.trans notify) hv)

theorem tamperEvent {r : Nat} : Booted s (s.tamperEvent r) := .ite refl (event (by decide) (.inl (by decide)))

theorem zeroKeys : Booted s s.zeroKeys := of_within (k := parts [.keys]) rfl (.zeroKeys rfl .refl) rfl

theorem zeroEntropy : Booted s s.zeroEntropy := ⟨.zeroEntropy rfl .refl, rfl, rfl, fun _ h => h, fun _ =>
  (ResponsesKept.of_dict (s := s) (t := s) rfl).wr (i := 0x2800) (a := 1) (v := 0) (by decide) (.inr (by decide))⟩

theorem loseKeys : Booted s s.loseKeys := by
  refine ⟨.loseKeys rfl .refl, rfl, rfl, fun _ h => h, fun _ => ?_⟩
  exact ((ResponsesKept.of_dict (s := s) (t := s) rfl).wr (i := 0x1010) (a := 5) (v := 1) (by decide) (.inl (by decide))).wr (by decide) (.inl (by decide))

theorem zeroise {r : Nat} : Booted s (s.zeroise r) := by
  have hw : Booted s { s.zeroKeys.zeroEntropy with cmem := [], les := [], saved := [], dstreams := [], chans := [], mcache := [] } :=
    (zeroKeys.trans zeroEntropy).trans ⟨.update rfl .refl { Kept.Stays.refl _ with cmem := fun _ => rfl, chans := fun _ => rfl }, rfl, rfl, fun _ h => h, fun _ => .of_dict rfl⟩
  have h6 : Booted s (if 6 ≤ r then { s.zeroKeys.zeroEntropy with cmem := [], les := [], saved := [], dstreams := [], chans := [], mcache := [] } else s) := .ite hw refl
  exact .ite (h6.trans loseKeys) h6

theorem alarm (hp : s.phase = .down) {n : Nat} : Booted s (s.alarm n) := by
  unfold State.alarm
  extract_lets r x y
  have hx : Booted s x := setAsserted
  have hy : Booted s y := hx.trans (logAlarm (by rw [hx.phase, hp]; decide))
  have hph : y.phase = .down := hy.phase.trans hp
  refine .ite hx (.ite hy (hy.trans ?_))
  unfold State.alarmResponse
  rw [hph]
  exact .ite (tamperEvent.trans zeroise) (wr (by decide) (.inl (by decide)))

theorem senseSources : Booted s s.senseSources := foldl fun _ _ => wr (by decide) (.inl (by decide))

theorem readFuses (hp : s.phase = .down) (hl : s.lc.prog = none) : Booted s s.readFuses := by
  unfold State.readFuses
  rw [hl]
  exact .ite (alarm hp) refl

theorem flagPending : Booted s s.flagPending := by
  have hf : Booted s ((s.tamp.ring.filter (fun e => !e.archived && bitAt e.flags 1)).foldl (fun u e => u.flagSource e.source (if 2 ≤ e.rank then 5 else 4)) s) :=
    foldl fun _ _ => wr (by decide) (.inl (by decide))
  unfold State.flagPending
  extract_lets v
  unfold State.flagClockSources
  extract_lets w
  have hw : Booted s w := hf.trans (foldl fun _ _ => wr (by decide) (.inl (by decide)))
  exact hw.trans ⟨.set rfl rfl .refl, rfl, rfl, fun _ h => h, fun _ => .of_dict rfl⟩

theorem applyPending : Booted s s.applyPending := by
  unfold State.applyPending
  extract_lets p v x w
  have hv : Booted s v := flagPending.trans (wr (by decide) (.inl (by decide)))
  have hw : Booted s w := .ite (hv.trans ⟨.set rfl rfl .refl, rfl, rfl, fun _ h => h, fun _ => .of_dict rfl⟩) hv
  exact .ite refl ((Booted.ite (hw.trans zeroise) hw).trans tamperEvent)

theorem logStill (hp : s.phase = .down) : Booted s s.logStill := by
  unfold State.logStill
  have hl : Booted s (((List.range 16).filter (fun i => s.asserted i && decide (3 ≤ s.response i) && decide (s.response i ≤ 4))).foldl (fun u i => u.logAlarm i false) s) :=
    List.foldlRecOn (motive := Booted s) _ _ refl fun v hv x _ => hv.trans (logAlarm (by rw [hv.phase, hp]; decide))
  exact hl

theorem startFirst (hp : s.phase = .down) (hl : s.lc.prog = none) : Booted s s.startFirst := by
  have h1 : Booted s s.senseSources := senseSources
  have h2 := h1.trans (readFuses (s := s.senseSources) (h1.phase.trans hp)
    ((congrArg LifeCycle.prog ((Within.senseSources (k := parts [.dict]) rfl .refl).same .lc rfl)).trans hl))
  have h3 := h2.trans applyPending
  exact h3.trans (logStill (h3.phase.trans hp))

end Booted

/-! ### The first record of an epoch (R360) -/

/-- The ring opens with a record that is not archived, in an epoch. -/
def Opens (b : Bench) (e : Nat) (s : State) : Prop := s.trav.ring.head? = some b ∧ b.archived ≠ b.slots ∧ s.trav.epoch = e

/-- A record that is appended gets its place, its sequence and its epoch. -/
theorem append_ring (s : State) (x : Bench) : ∃ y : Bench, (s.append x).trav.ring = trimRing x.slots s.trav.ring ++ [y] ∧ y.kind = x.kind ∧
    y.epoch = s.trav.epoch ∧ y.archived = x.archived ∧ y.slots = x.slots ∧ (s.append x).trav.epoch = s.trav.epoch := by
  unfold State.append
  extract_lets y c z v w
  have hw : w.trav = v.trav := by
    show (if c = true then _ else v).trav = v.trav
    split
    · exact (Within.event (k := parts [.dict, .dtx, .rwork]) rfl (.enqueueReserve rfl .refl)).same .trav rfl
    · rfl
  have ht : (if w.ringFull 1 = true then w.event 0x3800 0xA 4 else w).trav = v.trav := by
    split
    · exact hw
    · exact hw
  exact ⟨y, congrArg Traverse.ring ht, rfl, rfl, rfl, rfl, (congrArg Traverse.epoch ht).trans rfl⟩

section
variable {b : Bench} {e : Nat}

/-- A committed kernel that passes is bound again. -/
def State.rebind (s : State) (p : Nat × Kernel) : State :=
  State.placeConstants { s with kern := { s.kern with bound := Map.put s.kern.bound p.1 p.2 } } p.2

/-- One that fails is left unbound. -/
def State.unbind (s : State) (n : Nat) : State := { s with kern := { s.kern with bound := Map.erase s.kern.bound n } }

theorem State.trav_rebind (s : State) (p : Nat × Kernel) : (s.rebind p).trav = s.trav :=
  (Within.placeConstants (s := { s with kern := { s.kern with bound := Map.put s.kern.bound p.1 p.2 } }) (k := Machine.parts [.cmem]) rfl .refl).same .trav rfl

theorem State.trav_unbind (s : State) (n : Nat) : (s.unbind n).trav = s.trav := rfl

namespace Opens

theorem congr (h : Opens b e s) (hr : t.trav.ring = s.trav.ring) (he : t.trav.epoch = s.trav.epoch) : Opens b e t := by
  unfold Opens at *
  rwa [hr, he]

theorem within {k : Parts} (h : Opens b e s) (hw : Within k s t) (hk : inParts k .trav = false) : Opens b e t :=
  h.congr (congrArg Traverse.ring (hw.same .trav hk)) (congrArg Traverse.epoch (hw.same .trav hk))

theorem ite {c : Prop} [Decidable c] {x y : State} (hx : Opens b e x) (hy : Opens b e y) : Opens b e (if c then x else y) := by
  split
  · exact hx
  · exact hy

theorem foldl {α : Type} {f : State → α → State} {l : List α} (h : Opens b e s) (hf : ∀ v x, Opens b e v → Opens b e (f v x)) : Opens b e (l.foldl f s) :=
  List.foldlRecOn (motive := Opens b e) _ _ h fun v hv x _ => hf v x hv

/-- A record that is not archived is not overwritten. -/
theorem trimRing_head {r : List Bench} (hb : b.archived ≠ b.slots) (hr : r.head? = some b) (n : Nat) (l : List Bench) : (trimRing n r ++ l).head? = some b := by
  cases r with
  | nil => cases hr
  | cons x rest =>
    obtain rfl := Option.some.inj hr
    rw [trimRing]
    split
    · rfl
    · rfl

theorem append {x : Bench} (h : Opens b e s) : Opens b e (s.append x) := by
  obtain ⟨hr, hb, he⟩ := h
  obtain ⟨y, hy, -, -, -, -, hep⟩ := append_ring s x
  exact ⟨by rw [hy]; exact trimRing_head hb hr _ _, hb, hep.trans he⟩

theorem bench {kind verdict channel region flags digest sigSlots : Nat} (h : Opens b e s) : Opens b e (s.bench kind verdict channel region flags digest sigSlots) := by
  unfold State.bench
  exact .ite h.append h

theorem checkpoint {reasons : Nat} (h : Opens b e s) : Opens b e (s.checkpoint reasons) := by
  unfold State.checkpoint
  exact .ite h h.bench

theorem record {kind verdict channel region flags digest : Nat} (h : Opens b e s) : Opens b e (s.record kind verdict channel region flags digest) := by
  unfold State.record
  exact .ite h.bench.checkpoint h.bench

theorem drainPending : ∀ {n : Nat} {s : State}, Opens b e s → Opens b e (s.drainPending n)
  | 0, _, h => h
  | n + 1, s, h => by
    unfold State.drainPending
    split
    · exact h
    next x rest _ =>
      refine .ite h (.ite (drainPending (h.congr rfl rfl)) (drainPending (append (h.congr rfl rfl))))

theorem resolveBench {pending : Option (Nat × Nat × Nat × Nat)} (h : Opens b e s) : Opens b e (s.resolveBench pending) := by
  unfold State.resolveBench
  split
  next r =>
    extract_lets v
    have hv : Opens b e v := .ite h.record h
    exact hv.within (Within.event (k := parts [.dict, .dtx, .lc]) rfl (.set rfl rfl .refl)) rfl
  · exact h

theorem ringRecords (h : Opens b e s) : Opens b e s.ringRecords := h.foldl fun _ _ hv => hv.record

theorem loadPatch (h : Opens b e s) : Opens b e s.loadPatch := by
  unfold State.loadPatch
  extract_lets d l v w x
  have hv : Opens b e v := h.foldl fun _ _ hv => hv.record
  have hr : ∀ n m c p q o : Nat, ∀ y z : Nat, Opens b e (((v.wr 0x2400 1 y).wr 0x2400 2 z).record n m c p q o) := fun n m c p q o y z =>
    (hv.within (Within.wr (k := parts [.dict]) rfl (.wr rfl .refl)) rfl).record
  have hev : ∀ u : State, Opens b e u → ∀ f, Opens b e (u.event 0x2400 7 f) := fun u hu f => hu.within (Within.event (k := parts [.dict, .dtx]) rfl .refl) rfl
  split
  · exact (Opens.ite (hr ..) (hev _ (hr ..) _)).congr rfl rfl
  · have hx : Opens b e x := .ite (hev _ (hr ..) _) (.ite (hr ..) (hev _ (hr ..) _))
    exact hx.congr rfl rfl

theorem recheckKernels (h : Opens b e s) : Opens b e s.recheckKernels := by
  unfold State.recheckKernels
  refine h.foldl fun v p hv => ?_
  have h1 : Opens b e (v.unbind p.1) := hv.congr (congrArg _ (v.trav_unbind p.1)) (congrArg _ (v.trav_unbind p.1))
  have h2 : Opens b e (v.rebind p) := hv.congr (congrArg _ (v.trav_rebind p)) (congrArg _ (v.trav_rebind p))
  split
  · exact h1.record
  · exact h2.record

end Opens

/-- DEVICE_FW opens an empty ring. -/
theorem deviceFw_opens (hr : s.trav.ring = []) (hp : s.trav.pending = []) (flags : Nat) : ∃ b, b.kind = 2 ∧ b.epoch = s.trav.epoch ∧ Opens b s.trav.epoch (s.deviceFw flags) := by
  have hfull : s.ringFull 1 = false := by
    rw [State.ringFull, State.pendingSlots, hr]
    rfl
  have hb : ∃ b, b.kind = 2 ∧ b.epoch = s.trav.epoch ∧ Opens b s.trav.epoch (s.bench 2 1 0 (Config.firmware 2 % 2) flags (Config.firmware 3 % 2 ^ 384) 0) := by
    unfold State.bench
    extract_lets x
    rw [if_pos ⟨hp, by rw [show x.slots = 1 from rfl, hfull]; rfl⟩]
    obtain ⟨y, hring, hk, he, ha, hs, hep⟩ := append_ring s x
    refine ⟨y, hk, he, by rw [hring, hr]; rfl, ?_, hep⟩
    rw [ha, hs]
    exact (by decide : (0 : Nat) ≠ 1 + 0)
  obtain ⟨b, hk, he, ho⟩ := hb
  refine ⟨b, hk, he, ?_⟩
  unfold State.deviceFw State.record
  exact .ite ho.checkpoint ho

theorem bootEpoch_opens (hr : s.trav.ring = []) (hp : s.trav.pending = []) : ∃ b e, b.kind = 2 ∧ b.epoch = e ∧ Opens b e s.bootEpoch := by
  unfold State.bootEpoch
  extract_lets n
  split
  · obtain ⟨b, hk, he, ho⟩ := deviceFw_opens (s := State.event { s with trav := { s.trav with epoch := n + 1, nextSeq := 0, headHash := 0 } } 0x3800 0xA 8) hr hp 0
    exact ⟨b, _, hk, he, ho⟩
  next h _ =>
    obtain ⟨b, hk, he, ho⟩ := deviceFw_opens
      (s := { s with trav := { s.trav with epoch := Nat.max (h.epoch + 1) n, nextSeq := h.seq + 1, headHash := h.hash } }) hr hp
      (if n < h.epoch ∨ !s.keys.formatted then 64 else 0)
    exact ⟨b, _, hk, he, ho⟩

theorem startRecords_opens (hr : s.trav.ring = []) (pending : Option (Nat × Nat × Nat × Nat)) : ∃ b e, b.kind = 2 ∧ b.epoch = e ∧ Opens b e (s.startRecords pending) := by
  unfold State.startRecords
  extract_lets early x v
  obtain ⟨b, e, hk, he, ho⟩ := bootEpoch_opens (s := { s with trav := { s.trav with pending := [] } }) hr rfl
  have hv : Opens b e v := ho
  exact ⟨b, e, hk, he, Opens.ringRecords (Opens.resolveBench (Opens.drainPending (hv.congr rfl rfl)))⟩

theorem ring_lcEffects (s : State) (code : Nat) : (s.lcEffects code).trav.ring = s.trav.ring := by
  have ho : s.owned.trav = s.trav := (Within.owned (k := parts [.dict, .dtx, .tx, .waits, .chans, .jobs, .units, .clus]) rfl .refl).same .trav rfl
  have hf : ∀ keep, (((s.forgetKeys.defaults keep).forgetKernels).forgetGroup).trav = s.trav := fun keep =>
    (Within.forgetGroup (k := parts [.dict, .dtx, .keys, .kern, .grp]) rfl (.forgetKernels rfl (.defaults rfl (.forgetKeys rfl .refl)))).same .trav rfl
  unfold State.lcEffects
  split
  · rfl
  · rfl
  · rfl
  · have hp : (((s.clearBbram.forgetKeys.defaults fun _ => false).forgetKernels).forgetGroup).trav = s.clearBbram.trav :=
      (Within.forgetGroup (k := parts [.dict, .dtx, .keys, .kern, .grp]) rfl (.forgetKernels rfl (.defaults rfl (.forgetKeys rfl .refl)))).same .trav rfl
    have hs : s.personalized.trav.ring = (((s.clearBbram.forgetKeys.defaults fun _ => false).forgetKernels).forgetGroup).trav.ring := rfl
    exact hs.trans ((congrArg Traverse.ring hp).trans rfl)
  · exact congrArg Traverse.ring ho
  · exact congrArg Traverse.ring (hf _)
  · exact congrArg Traverse.ring (hf _)
  · exact congrArg Traverse.ring (hf _)
  · exact congrArg Traverse.ring (hf _)
  · exact congrArg Traverse.ring (hf _)
  · rfl

theorem ring_resolveEffects (s : State) : s.resolveEffects.trav.ring = s.trav.ring := by
  unfold State.resolveEffects
  split
  · split
    · exact ring_lcEffects s _
    · rfl
  · rfl

end

/-! ### S3 to S5 -/

/-- The roots and records of a start, with the root that debug chooses. -/
def State.rooted (s : State) : State := { s.resolveEffects with keys := { s.resolveEffects.keys with testRoot := s.resolveEffects.debug } }

/-- BBRAM is formatted. -/
def State.formatted (s : State) : State := { s with keys := { s.keys with formatted := true } }

/-- A start up to the opening of service. -/
def State.prepared (s : State) : State :=
  ((((s.rooted.startRecords s.lc.record).startKeys.formatted.loadPatch).recheckKernels.groupStart).rebalance false).startLaps

/-- Service opens. -/
def State.opened (s : State) : State := { s with phase := .up, tamp := { s.tamp with rank := 0, restarted := [], clear := 0 } }

theorem State.startRest_eq (s : State) : s.startRest = s.prepared.opened.watchLines := by
  unfold State.startRest
  extract_lets pending t1 k2 t2 t3 k4 t4 t5 t6
  have h2 : t2 = s.rooted := rfl
  have h4 : t4 = t3.formatted := rfl
  have h6 : t6 = s.prepared := by
    unfold State.prepared
    rw [← h2]
    show t6 = ((t3.formatted.loadPatch.recheckKernels.groupStart).rebalance false).startLaps
    rw [← h4]
  show t6.opened.watchLines = _
  rw [h6]

theorem Within.rooted {k : Parts} (hk : covers booting k = true) (h : Within k s t) : Within k s t.rooted := h.into hk <| by
  unfold State.rooted
  exact .setKeys rfl (.resolveEffects rfl .refl) id id

theorem Within.formatted {k : Parts} (hk : covers (parts [.keys]) k = true) (h : Within k s t) : Within k s t.formatted := h.into hk <| by
  unfold State.formatted
  exact .setKeys rfl .refl id id

theorem prepared_within (s : State) : Within booting s s.prepared := by
  unfold State.prepared
  exact .startLaps rfl (.rebalance rfl (.groupStart rfl (.recheckKernels rfl (.loadPatch rfl (.formatted rfl (.startKeys rfl (.startRecords rfl
    (.rooted rfl .refl))))))))

/-- Service is open, and nothing else has changed but the tamper controller's part in the start and the lines that are watched. -/
theorem State.opened_watched (s : State) : s.opened.watchLines.phase = .up ∧ s.opened.watchLines.clk = s.clk ∧ s.opened.watchLines.pins = s.pins ∧
    s.opened.watchLines.tamp.rank = 0 ∧ s.opened.watchLines.trav = s.trav := ⟨rfl, rfl, rfl, rfl, rfl⟩

theorem State.trav_rooted (s : State) : s.rooted.trav.ring = s.trav.ring := ring_resolveEffects s

theorem prepared_opens (hr : s.trav.ring = []) : ∃ b e, b.kind = 2 ∧ b.epoch = e ∧ Opens b e s.prepared := by
  obtain ⟨b, e, hk, he, ho⟩ := startRecords_opens (s := s.rooted) (s.trav_rooted.trans hr) s.lc.record
  have hf : Opens b e (s.rooted.startRecords s.lc.record).startKeys.formatted :=
    (ho.within (Within.startKeys (k := parts [.dict, .dtx, .keys, .grp]) rfl .refl) rfl).congr rfl rfl
  exact ⟨b, e, hk, he, hf.loadPatch.recheckKernels.within
    (Within.startLaps (k := parts [.free, .dict, .dtx, .jobs, .tenants, .lap, .units, .les]) rfl (.rebalance rfl (.groupStart rfl .refl))) rfl⟩

/-- What a start leaves once service is open. -/
theorem startRest_spec (s : State) : s.startRest.phase = .up ∧ s.startRest.clk = s.clk ∧ s.startRest.pins = s.pins ∧ s.startRest.tamp.rank = 0 ∧
    (s.trav.ring = [] → ∃ b, s.startRest.trav.ring.head? = some b ∧ b.kind = 2 ∧ b.epoch = s.startRest.trav.epoch) := by
  have hw := prepared_within s
  obtain ⟨h1, h2, h3, h4, h5⟩ := s.prepared.opened_watched
  rw [State.startRest_eq, h5]
  refine ⟨h1, h2.trans (hw.same .clk rfl), h3.trans (hw.same .pins rfl), h4, fun hr => ?_⟩
  obtain ⟨b, e, hk, he, hring, -, hep⟩ := prepared_opens hr
  exact ⟨b, hring, hk, he.trans hep.symm⟩

/-! ### Starts -/

theorem start_released (hp : s.phase = .down) (hl : s.lc.prog = none) (ht : s.tamp.restarted = []) : s.start = s.startFirst.startRest := by
  have hn : s.startFirst.holdSource = none := by
    rw [State.holdSource, (Booted.startFirst hp hl).restarted, ht]
    rfl
  unfold State.start
  dsimp only
  rw [hn]

theorem start_held {n : Nat} (hp : s.phase = .down) (hl : s.lc.prog = none) (hw : Map.wf s.dict = true) (ht : s.tamp.restarted = [n]) (ha : s.asserted n = true)
    (h5 : 5 ≤ s.response n) : s.start = State.event { s.startFirst with phase := .hold n, tamp := { s.startFirst.tamp with clear := 0 } } 0x4020 7 16 := by
  have hb := Booted.startFirst hp hl
  have hr : 5 ≤ s.startFirst.response n := hb.responses hw _ (Nat.le_add_right _ _) h5
  have hn : s.startFirst.holdSource = some n := by
    rw [State.holdSource, hb.restarted, ht, List.find?_cons, hb.asserted n ha, decide_eq_true hr]
    rfl
  unfold State.start
  dsimp only
  rw [hn]

/-- What a start leaves where nothing held it before. -/
theorem start_spec (hp : s.phase = .down) (hl : s.lc.prog = none) (ht : s.tamp.restarted = []) : s.start.phase = .up ∧ s.start.clk = s.clk ∧ s.start.pins = s.pins ∧
    s.start.tamp.rank = 0 ∧ (s.trav.ring = [] → ∃ b, s.start.trav.ring.head? = some b ∧ b.kind = 2 ∧ b.epoch = s.start.trav.epoch) := by
  have hb := Booted.startFirst hp hl
  obtain ⟨h1, h2, h3, h4, h5⟩ := startRest_spec s.startFirst
  rw [start_released hp hl ht]
  exact ⟨h1, h2.trans (hb.within.same .clk rfl), h3.trans (hb.within.same .pins rfl), h4, fun hr => h5 (hb.ring.trans hr)⟩

/-- What a cold start has sampled. -/
def State.sampled (s : State) (banks bad : BitVec 8) (compat : Bool) : State :=
  let t := ((s.wr 0x1202 1 banks.toNat).wr 0x1202 2 bad.toNat).wr 0x1200 3 (if compat then 1 else 0)
  { t with clk := { t.clk with compat := compat, datum := t.clk.rtc, frac := 0, maxDatum := t.clk.rtc }, pins := { t.pins with sysrstLow := false } }

theorem coldStart_goes (hp : s.phase = .down) (hc : s.clk.refclk = true) (hb : s.clk.onBattery = false) (hl : s.lc.prog = none) (h0 : s.rd 0x1201 1 = 0)
    (ht : s.tamp.restarted = []) (banks bad : BitVec 8) (compat : Bool) : GoesTo (exec (.coldStart banks bad compat) s) (fun t =>
      t.phase = .up ∧ t.clk.datum = s.clk.rtc ∧ t.clk.compat = compat ∧ t.tamp.rank = 0 ∧
        (s.trav.ring = [] → ∃ b, t.trav.ring.head? = some b ∧ b.kind = 2 ∧ b.epoch = t.trav.epoch)) := by
  have hw : Within (parts [.dict, .ent]) (s.sampled banks bad compat) (s.sampled banks bad compat).startSources := .startSources rfl .refl
  obtain ⟨h1, h2, -, h4, h5⟩ := start_spec (s := (s.sampled banks bad compat).startSources) ((hw.same .phase rfl).trans hp)
    ((congrArg LifeCycle.prog (hw.same .lc rfl)).trans hl) ((congrArg Tamper.restarted (hw.same .tamp rfl)).trans ht)
  have hclk : (s.sampled banks bad compat).startSources.start.clk = { s.clk with compat := compat, datum := s.clk.rtc, frac := 0, maxDatum := s.clk.rtc } :=
    h2.trans (hw.same .clk rfl)
  exact ⟨(s.sampled banks bad compat).startSources.start, when_of_true (by rw [hp, h0, hc, hb]; rfl), h1, congrArg Clocks.datum hclk, congrArg Clocks.compat hclk, h4,
    fun hr => h5 ((congrArg Traverse.ring (hw.same .trav rfl)).trans hr)⟩

/-- SYSRST_N has risen. -/
def State.sysrstUp (s : State) : State := { s with pins := { s.pins with sysrstLow := false } }

theorem execWarmStart_of (hp : s.phase = .down) (hc : s.clk.refclk = true) (hb : s.clk.onBattery = false) (h0 : s.rd 0x1201 1 ≠ 0) :
    exec .warmStart s = .next s.sysrstUp.start :=
  when_of_true (by rw [hp, bne_iff_ne.mpr h0, hc, hb]; rfl)

/-! ### Resets -/

/-- What a reset leaves before the ports and the cause are written. -/
def State.wiped (s : State) (cold : Bool) : State := ((s.clearLogic cold).resetEntries cold).resetTraverse

theorem fencedPorts_within (s : State) : Within (parts [.dict]) s s.fencedPorts := .fencedPorts rfl .refl

theorem wf_wiped (hw : Map.wf s.dict = true) (cold : Bool) : Map.wf (s.wiped cold).fencedPorts.dict = true :=
  (fencedPorts_within _).2.dict (Map.wf_filter _ _ hw)

/-- What a reset keeps, and what it clears. -/
structure Wiped (s t : State) (cold : Bool) : Prop where
  jobs : t.jobs = []
  chans : t.chans = []
  tx : t.tx = if cold then [] else s.tx
  vol : t.keys.vol = []
  recs : t.keys.recs = s.keys.recs
  secret : t.keys.secret = s.keys.secret
  fuses : t.lc.fuses = s.lc.fuses
  archive : t.trav.archive = s.trav.archive.map Bench.cutShort
  ring : t.trav.ring = []
  tamper : t.tamp.ring = s.tamp.ring
  clk : t.clk = resetClocks s.clk cold
  epoch : t.dtx.epoch = s.dtx.epoch + 1
  journal : t.dtx.journal = none
  pins : t.pins = resetPins s.pins
  pending : t.pending = s.pending

theorem wiped_spec (s : State) (cold : Bool) : Wiped s (s.wiped cold) cold := ⟨rfl, rfl, rfl, rfl, rfl, rfl, rfl, rfl, rfl, rfl, rfl, rfl, rfl, rfl, rfl⟩

theorem Wiped.within {k : Parts} {cold : Bool} (h : Wiped s t cold) (hk : covers k (parts [.dict, .phase]) = true) (hw : Within k t u) : Wiped s u cold := by
  have hw' := hw.mono hk
  have hkeys : u.keys = t.keys := hw'.same .keys rfl
  have htrav : u.trav = t.trav := hw'.same .trav rfl
  have hdtx : u.dtx = t.dtx := hw'.same .dtx rfl
  have hlc : u.lc = t.lc := hw'.same .lc rfl
  have htamp : u.tamp = t.tamp := hw'.same .tamp rfl
  exact ⟨(hw'.same .jobs rfl).trans h.jobs, (hw'.same .chans rfl).trans h.chans, (hw'.same .tx rfl).trans h.tx, by rw [hkeys, h.vol], by rw [hkeys, h.recs],
    by rw [hkeys, h.secret], by rw [hlc, h.fuses], by rw [htrav, h.archive], by rw [htrav, h.ring], by rw [htamp, h.tamper], (hw'.same .clk rfl).trans h.clk,
    by rw [hdtx, h.epoch], by rw [hdtx, h.journal], (hw'.same .pins rfl).trans h.pins, (hw'.same .pending rfl).trans h.pending⟩

theorem beginReset_spec (hw : Map.wf s.dict = true) (cold : Bool) (cause : Nat) : Wiped s (s.beginReset cold cause) cold ∧ (s.beginReset cold cause).phase = .down ∧
    (s.beginReset cold cause).rd 0x1201 1 = cause ∧ Map.wf (s.beginReset cold cause).dict = true := by
  have hin : Within (parts [.dict, .phase]) (s.wiped cold) (s.beginReset cold cause) := .set rfl rfl (.wr rfl (.fencedPorts rfl .refl))
  exact ⟨(wiped_spec s cold).within rfl hin, rfl, State.rd_wr_self (wf_wiped hw cold) _ _ _, State.wf_wr (wf_wiped hw cold) _ _ _⟩

theorem coldReset_goes (hw : Map.wf s.dict = true) : GoesTo (exec .coldReset s) (fun t => t.phase = .down ∧ t.rd 0x1201 1 = 0 ∧ t.jobs = [] ∧ t.chans = [] ∧ t.tx = [] ∧
    t.keys.vol = [] ∧ t.keys.recs = s.keys.recs ∧ t.keys.secret = s.keys.secret ∧ t.lc.fuses = s.lc.fuses ∧ t.trav.archive = s.trav.archive.map Bench.cutShort ∧
    t.trav.ring = [] ∧ t.tamp.ring = s.tamp.ring ∧ t.clk.datum = s.clk.rtc ∧ t.dtx.epoch = s.dtx.epoch + 1 ∧ t.dtx.journal = none ∧ t.pins.lines = 0 ∧
    t.pending = s.pending) := by
  obtain ⟨h, hp, hc, -⟩ := beginReset_spec hw true 0
  exact ⟨s.coldReset, rfl, hp, hc, h.jobs, h.chans, h.tx, h.vol, h.recs, h.secret, h.fuses, h.archive, h.ring, h.tamper, congrArg Clocks.datum h.clk, h.epoch, h.journal,
    congrArg Pins.lines h.pins, h.pending⟩

/-- SYSRST_N has fallen. -/
def State.sysrstDown (s : State) : State := { s with pins := { s.pins with sysrstLow := true } }

theorem warmReset_waits (hp : ¬ (s.phase = .down ∧ s.rd 0x1201 1 = 0)) (hg : s.clk.gated = true) (cause : Nat) :
    s.warmReset cause = { s with clk := { s.clk with waiting := some (s.clk.waiting.getD cause) } } := by
  rw [State.warmReset, if_neg hp, if_pos hg]

theorem warmReset_spec (hw : Map.wf s.dict = true) (hp : ¬ (s.phase = .down ∧ s.rd 0x1201 1 = 0)) (hg : s.clk.gated = false) (cause : Nat) :
    (s.warmReset cause).pins = resetPins s.pins ∧ (s.warmReset cause).tx = s.tx ∧ (s.warmReset cause).keys.vol = [] ∧
      (s.warmReset cause).trav.archive = s.trav.archive.map Bench.cutShort ∧ (s.warmReset cause).rd 0x1201 3 = (s.rd 0x1201 3 + 1) % 2 ^ 32 := by
  obtain ⟨h, -, -, hwf⟩ := beginReset_spec hw false cause
  have hin := Within.beginReset_warmReset hp hg cause
  have hkeys : (s.warmReset cause).keys = (s.beginReset false cause).keys := hin.same .keys rfl
  have htrav : (s.warmReset cause).trav = (s.beginReset false cause).trav := hin.same .trav rfl
  refine ⟨(hin.same .pins rfl).trans h.pins, (hin.same .tx rfl).trans h.tx, by rw [hkeys, h.vol], by rw [htrav, h.archive], ?_⟩
  rw [State.warmReset, if_neg hp, if_neg (by rw [hg]; decide)]
  refine State.rd_wr_self ?_ _ _ _
  split
  · exact State.wf_event (State.wf_wr hwf _ _ _) _ _ _
  · exact hwf

/-! ### The always-on reset -/

/-- What the fall of both always-on supplies leaves of a state whose BBRAM is cleared. -/
def State.unpowered (s : State) : State :=
  { s with
    keys := { s.keys with loaded := [], old := [], oldHeld := [] }
    ent := { s.ent with drbgs := Map.mapVals (fun (g : Drbg) => { drbgInit with reseeds := g.reseeds }) s.ent.drbgs }
    clk := { s.clk with rtc := 0, aonFrac := 0, onBattery := false, aonOnTamperOsc := false } }

theorem execAlwaysOnReset_eq (s : State) : exec .alwaysOnReset s = .next (s.clearBbram.zeroVolatile none).unpowered := rfl

theorem zeroVolatile_keeps (s : State) (i : Option Nat) : (s.zeroVolatile i).keys.secret = s.keys.secret ∧ (s.zeroVolatile i).keys.hasSecret = s.keys.hasSecret ∧
    (s.zeroVolatile i).keys.recs = s.keys.recs := by
  unfold State.zeroVolatile
  refine List.foldlRecOn (motive := fun t : State => t.keys.secret = s.keys.secret ∧ t.keys.hasSecret = s.keys.hasSecret ∧ t.keys.recs = s.keys.recs) _ _ ⟨rfl, rfl, rfl⟩ ?_
  exact fun _ ih _ _ => ih

theorem rd_clearBbram (s : State) : s.clearBbram.rd 0x4020 5 = 0 := by
  have h : Map.find s.clearBbram.dict (ekey 0x4020 5) = none := (Map.find_filter_key (fun k => !bbramEntry k) (ekey 0x4020 5) s.dict).trans (if_neg (by decide))
  show Map.getD s.clearBbram.dict (ekey 0x4020 5) (dflt 0x4020 5) = 0
  rw [Map.getD, h]
  decide

theorem alwaysOnReset_goes (s : State) : GoesTo (exec .alwaysOnReset s) (fun t => t.keys.secret = 0 ∧ t.keys.hasSecret = false ∧ t.trav.epoch = 0 ∧ t.tamp.ring = [] ∧
    t.clk.rtc = 0 ∧ t.rd 0x4020 5 = 0 ∧ t.lc.record = none ∧ t.lc.fuses = s.lc.fuses ∧ t.trav.archive = s.trav.archive ∧ t.keys.recs = s.keys.recs ∧ t.phase = s.phase) := by
  have h : Within (parts [.keys]) s.clearBbram (s.clearBbram.zeroVolatile none) := Within.zeroVolatile rfl .refl
  obtain ⟨hs, hh, hr⟩ := zeroVolatile_keeps s.clearBbram none
  have htrav : (s.clearBbram.zeroVolatile none).trav = s.clearBbram.trav := h.same .trav rfl
  have hlc : (s.clearBbram.zeroVolatile none).lc = s.clearBbram.lc := h.same .lc rfl
  have htamp : (s.clearBbram.zeroVolatile none).tamp = s.clearBbram.tamp := h.same .tamp rfl
  have hphase : (s.clearBbram.zeroVolatile none).phase = s.clearBbram.phase := h.same .phase rfl
  have hdict : (s.clearBbram.zeroVolatile none).dict = s.clearBbram.dict := h.same .dict rfl
  exact ⟨_, execAlwaysOnReset_eq s, hs, hh, congrArg Traverse.epoch htrav, congrArg Tamper.ring htamp, rfl, (State.rd_congr hdict _ _).trans (rd_clearBbram s), congrArg LifeCycle.record hlc,
    (congrArg LifeCycle.fuses hlc).trans rfl, (congrArg Traverse.archive htrav).trans rfl, hr, hphase⟩

/-! ### The obligation -/

/-- Settles O53: resets, starts and the changeover of the always-on supply. -/
theorem resetsAndStartsComplete : Obligations.ResetsAndStartsComplete := by
  unfold Obligations.ResetsAndStartsComplete
  intro s hw
  refine ⟨coldReset_goes hw, fun hp h0 => ?_, fun hor => ?_, fun hp hc hb hl => ⟨fun banks bad compat h0 ht => coldStart_goes hp hc hb hl h0 ht banks bad compat,
    fun h0 ht => ?_, fun n h0 ht ha h5 => ?_⟩, alwaysOnReset_goes s, fun b => rfl⟩
  · rw [exec_sysrstNAssert, execSysrstNAssert, if_pos ⟨hp, h0⟩]
  · have hn : ¬ (s.phase = .down ∧ s.rd 0x1201 1 = 0) := fun h => hor.elim (fun hp => hp h.1) fun h0 => h0 h.2
    have hex : exec .sysrstNAssert s = .next (s.sysrstDown.warmReset 1) := (exec_sysrstNAssert s).trans (if_neg hn)
    have hn' : ¬ (s.sysrstDown.phase = .down ∧ s.sysrstDown.rd 0x1201 1 = 0) := hn
    refine ⟨fun hg => ?_, fun hg => ?_⟩
    · exact ⟨_, hex.trans (congrArg _ (warmReset_waits hn' hg 1)), rfl, rfl, rfl, rfl⟩
    · obtain ⟨h1, h2, h3, h4, h5⟩ := warmReset_spec (s := s.sysrstDown) hw hn' hg 1
      exact ⟨_, hex, congrArg Pins.sysrstLow h1, State.phase_warmReset hn' hg 1, State.rd_warmReset_cause hn' hg hw 1, h5, State.jobs_warmReset hn' hg 1,
        State.chans_warmReset hn' hg 1, h3, h2, (congrArg Clocks.datum (State.clk_warmReset hn' hg 1)).trans rfl, State.fuses_warmReset s.sysrstDown 1, h4⟩
  · obtain ⟨h1, h2, h3, h4, -⟩ := start_spec (s := s.sysrstUp) hp hl ht
    exact ⟨_, execWarmStart_of hp hc hb h0, h1, congrArg Clocks.datum h2, congrArg Pins.sysrstLow h3, h4⟩
  · have hb' := Booted.startFirst (s := s.sysrstUp) hp hl
    refine ⟨_, (execWarmStart_of hp hc hb h0).trans (congrArg _ (start_held (s := s.sysrstUp) hp hl hw ht ha h5)), rfl, ?_, rfl⟩
    rw [State.rd_event]
    refine (congrArg (bitAt · 4) (State.rd_wr_self (hb'.wf hw) _ _ _)).trans ?_
    rw [bitAt_eventAdd _ _ (by decide)]
    simp [bitAt]

end Machine
end Sys2Proof
end

section
/-! Tamper alarms, battery samples and the samples of a hold (19 R408-R421). -/

namespace Sys2Proof
namespace Machine

variable {s t u v : State} {n : Nat}

/-! ### Records that stay -/

theorem orFlags_mod8 (a : Nat) (b : Bool) : orFlags a (if b then 32 else 0) % 8 = a % 8 := by
  have h : ∀ c, c % 8 = 0 → orFlags a c % 8 = a % 8 := fun c hc => by
    rw [orFlags, BitVec.toNat_or, BitVec.toNat_ofNat, BitVec.toNat_ofNat, show (8 : Nat) = 2 ^ 3 from rfl, Nat.or_mod_two_pow]
    rw [Nat.mod_mod_of_dvd _ (by decide), Nat.mod_mod_of_dvd _ (by decide), show c % 2 ^ 3 = 0 from hc, Nat.or_zero]
  exact h _ (by cases b <;> rfl)

/-- A record as it is appended. -/
def State.appended (s : State) (b : Bench) : Bench :=
  { b with seq := s.trav.nextSeq, epoch := s.trav.epoch, datum := s.clk.datum, quality := s.quality, prev := s.trav.headHash,
           flags := orFlags b.flags (if s.debug then 32 else 0) }

theorem State.trav_append (s : State) (b : Bench) : (s.append b).trav.ring = trimRing b.slots s.trav.ring ++ [s.appended b] ∧
    (s.append b).trav.pending = s.trav.pending := by
  unfold State.append
  extract_lets y c z v w
  have hw : w.trav = v.trav := by
    show (if c = true then _ else v).trav = v.trav
    split
    · exact (Within.event (k := Machine.parts [.dict, .dtx, .rwork]) rfl (.enqueueReserve rfl .refl)).same .trav rfl
    · rfl
  have ht : (if w.ringFull 1 = true then w.event 0x3800 0xA 4 else w).trav = v.trav := by
    split
    · exact hw
    · exact hw
  exact ⟨congrArg Traverse.ring ht, (congrArg Traverse.pending ht).trans rfl⟩

theorem mem_trimRing {b : Bench} (hb : b.archived ≠ b.slots) (m : Nat) : ∀ {r : List Bench}, b ∈ r → b ∈ trimRing m r
  | x :: r, h => by
    rw [trimRing]
    split
    · exact h
    · split
      next hx =>
        rcases List.mem_cons.mp h with rfl | h
        · exact absurd hx hb
        · exact mem_trimRing hb m h
      · exact h

/-- A record that is not archived stays in the ring, and one that waits stays in the queue, while others are made. -/
structure RecordsStay (s t : State) : Prop where
  ring : ∀ b : Bench, b.archived ≠ b.slots → b ∈ s.trav.ring → b ∈ t.trav.ring
  pending : ∀ b, b ∈ s.trav.pending → b ∈ t.trav.pending

namespace RecordsStay

theorem refl : RecordsStay s s := ⟨fun _ _ h => h, fun _ h => h⟩

theorem of_eq (hr : t.trav.ring = s.trav.ring) (hp : t.trav.pending = s.trav.pending) : RecordsStay s t := ⟨fun _ _ h => hr ▸ h, fun _ h => hp ▸ h⟩

theorem trans (h : RecordsStay s t) (g : RecordsStay t u) : RecordsStay s u :=
  ⟨fun b hb hm => g.ring b hb (h.ring b hb hm), fun b hm => g.pending b (h.pending b hm)⟩

theorem ite {c : Prop} [Decidable c] {x y : State} (hx : RecordsStay s x) (hy : RecordsStay s y) : RecordsStay s (if c then x else y) := by
  split
  · exact hx
  · exact hy

theorem within {k : Parts} (h : RecordsStay s t) (hw : Within k t u) (hk : inParts k .trav = false) : RecordsStay s u :=
  h.trans (of_eq (congrArg Traverse.ring (hw.same .trav hk)) (congrArg Traverse.pending (hw.same .trav hk)))

theorem append {x : Bench} : RecordsStay s (s.append x) := by
  obtain ⟨hr, hp⟩ := s.trav_append x
  exact ⟨fun b hb hm => by rw [hr]; exact List.mem_append_left _ (mem_trimRing hb _ hm), fun b hm => hp ▸ hm⟩

theorem bench {kind verdict channel region flags digest sigSlots : Nat} : RecordsStay s (s.bench kind verdict channel region flags digest sigSlots) := by
  unfold State.bench
  exact .ite append ⟨fun _ _ h => h, fun _ h => List.mem_append_left _ h⟩

theorem checkpoint {reasons : Nat} : RecordsStay s (s.checkpoint reasons) := by
  unfold State.checkpoint
  exact .ite (of_eq rfl rfl) bench

end RecordsStay

section
variable {kind verdict channel region flags digest : Nat}

theorem Recorded.mono (h : Recorded u v kind verdict channel region flags digest) (hp : u.trav.pending = s.trav.pending) (hr : u.trav.ring = s.trav.ring)
    (hn : u.trav.nextSeq = s.trav.nextSeq) (he : u.trav.epoch = s.trav.epoch) (hd : u.clk.datum = s.clk.datum) (hv : t.trav.ring = v.trav.ring)
    (hvp : t.trav.pending = v.trav.pending) : Recorded s t kind verdict channel region flags digest := by
  unfold Recorded State.ringFull State.pendingSlots at *
  rw [hv, hvp, ← hp, ← hr, ← hn, ← he, ← hd]
  exact h

/-- What is benchmarked, and stays, is recorded. -/
theorem bench_recorded (h : RecordsStay (s.bench kind verdict channel region flags digest 0) t) : Recorded s t kind verdict channel region (flags % 8) digest := by
  unfold State.bench at h
  extract_lets b at h
  by_cases hc : s.trav.pending = [] ∧ s.ringFull 1 = false
  · rw [if_pos ⟨hc.1, by rw [show b.slots = 1 from rfl, hc.2]; rfl⟩] at h
    refine ⟨s.appended b, rfl, rfl, rfl, rfl, orFlags_mod8 _ _, rfl, ?_⟩
    rw [if_pos hc]
    refine ⟨h.ring _ (by decide : (0 : Nat) ≠ 1 + 0) ?_, rfl, rfl, rfl⟩
    rw [(s.trav_append b).1]
    exact List.mem_append_right _ (List.mem_singleton.mpr rfl)
  · rw [if_neg fun g => hc ⟨g.1, Bool.not_eq_true' _ ▸ g.2⟩] at h
    refine ⟨b, rfl, rfl, rfl, rfl, rfl, rfl, ?_⟩
    rw [if_neg hc]
    exact h.pending _ (List.mem_append_right _ (List.mem_singleton.mpr rfl))

theorem record_recorded (s : State) (kind verdict channel region flags digest : Nat) :
    Recorded s (s.record kind verdict channel region flags digest) kind verdict channel region (flags % 8) digest := by
  unfold State.record
  exact bench_recorded (.ite .checkpoint .refl)

end

/-! ### What an alarm logs -/

/-- An alarm is counted, its time kept, and a response of rank 5 or higher stands in the tamper ring. -/
def State.alarmCounted (s : State) (src : Nat) (battery : Bool) : State :=
  (s.event (0x4000 + src) 4 ((if 2 ≤ s.response src ∧ !battery then 1 else 0) + (if battery then 2 else 0))).wr (0x4000 + src) 5
    (time80 (if battery then s.clk.rtc else s.clk.datum))

/-- What an alarm leaves before its row in the event log. -/
def State.alarmRinged (s : State) (src : Nat) (battery : Bool) : State :=
  if battery ∨ 5 ≤ s.response src then (s.alarmCounted src battery).ringAlarm src (s.response src)
    ((if battery then 1 else 0) + (if (battery ∨ (s.phase = .up ∧ s.clk.gated)) ∧ 2 ≤ s.response src ∧ s.response src ≤ 6 then 2 else 0))
  else s.alarmCounted src battery

/-- What an alarm on main power leaves before its notice. -/
def State.alarmLogged (s : State) (src : Nat) : State := (s.alarmRinged src false).logRow (Config.unstated 54 [src] % 256) 0 0xFF 0 0xFF 0 0

theorem logAlarm_main (s : State) (src : Nat) : s.logAlarm src false =
    if 2 ≤ s.response src then ((s.alarmLogged src).tamperRecord src (s.response src)).notify 4 (some 0) src
    else (s.alarmLogged src).tamperRecord src (s.response src) := by
  unfold State.logAlarm
  extract_lets r x y z v
  have hz : z = s.alarmRinged src false := rfl
  have hv : v = (s.alarmLogged src).tamperRecord src (s.response src) := by
    show (z.logRow _ _ _ _ _ _ _).tamperRecord src r = _
    rw [hz]
    rfl
  rw [if_neg Bool.false_ne_true, hv]

theorem logAlarm_battery (s : State) (src : Nat) : s.logAlarm src true = s.alarmRinged src true := rfl

theorem alarmRinged_dict (s : State) (src : Nat) (b : Bool) : (s.alarmRinged src b).dict = (s.alarmCounted src b).dict := by
  unfold State.alarmRinged
  split
  · rfl
  · rfl

theorem alarmRinged_tamp (s : State) (src : Nat) (b : Bool) : (s.alarmRinged src b).tamp = { s.tamp with ring := (s.alarmRinged src b).tamp.ring } := by
  unfold State.alarmRinged
  split
  · rfl
  · rfl

theorem alarmCounted_tamp (s : State) (src : Nat) (b : Bool) : (s.alarmCounted src b).tamp = s.tamp := by
  unfold State.alarmCounted State.event
  exact (Within.wr (s := s) (k := parts [.dict, .dtx]) rfl (.event rfl .refl)).same .tamp rfl

theorem alarmRinged_of_low {src : Nat} (h : s.response src < 5) : s.alarmRinged src false = s.alarmCounted src false := by
  unfold State.alarmRinged
  split
  next g => exact absurd h (Nat.not_lt.mpr (g.resolve_left Bool.false_ne_true))
  next => rfl

theorem alarmRinged_low {src : Nat} (h : s.response src < 5) : (s.alarmRinged src false).tamp = s.tamp :=
  (congrArg State.tamp (alarmRinged_of_low h)).trans (alarmCounted_tamp s src false)

theorem logAlarm_tail (s : State) (src : Nat) : Within (parts [.dict, .dtx, .tx, .chans, .rwork, .trav, .flt]) (s.alarmRinged src false) (s.logAlarm src false) := by
  have h : Within (parts [.dict, .dtx, .tx, .chans, .rwork, .trav, .flt]) (s.alarmRinged src false) ((s.alarmLogged src).tamperRecord src (s.response src)) :=
    .tamperRecord rfl (.logRow rfl .refl)
  rw [logAlarm_main]
  exact .ite (.notify rfl h) h

theorem logAlarm_tamp (s : State) (src : Nat) (b : Bool) : (s.logAlarm src b).tamp = { s.tamp with ring := (s.logAlarm src b).tamp.ring } := by
  cases b with
  | true => exact alarmRinged_tamp s src true
  | false =>
    have h : (s.logAlarm src false).tamp = (s.alarmRinged src false).tamp := (logAlarm_tail s src).same .tamp rfl
    rw [h]
    exact alarmRinged_tamp s src false

/-- The datum second of a source's benchmark is kept, and nothing is left to carry. -/
def State.secondTaken (s : State) (src : Nat) : State :=
  State.carryTamper { s with trav := { s.trav with tamperSec := Map.put s.trav.tamperSec src (s.clk.datum / 1000000000) } } src 0

theorem secondTaken_fields (s : State) (src : Nat) : (s.secondTaken src).dict = s.dict ∧ (s.secondTaken src).clk = s.clk ∧
    (s.secondTaken src).trav.pending = s.trav.pending ∧ (s.secondTaken src).trav.ring = s.trav.ring ∧ (s.secondTaken src).trav.nextSeq = s.trav.nextSeq ∧
    (s.secondTaken src).trav.epoch = s.trav.epoch := ⟨rfl, rfl, rfl, rfl, rfl, rfl⟩

/-- The benchmark of an alarm, where service is open. -/
def State.tamperBench (s : State) (src rank : Nat) : State :=
  (s.secondTaken src).record 8 2 0xFF src 3 (tamperDetail rank 0 (time80 s.clk.datum) (Map.getD s.trav.tamperCarry src 0 + 1))

theorem Touches.tamperRecord {P : Nat → Prop} {src rank : Nat} (h : Touches P s t) (hP : P 0x3800) : Touches P s (t.tamperRecord src rank) := by
  have hr : Touches P s (t.tamperBench src rank) := (h.dict (secondTaken_fields t src).1).record hP
  unfold State.tamperRecord
  extract_lets n sec trav x d
  have hx : x.record 8 2 0xFF src 3 d = t.tamperBench src rank := rfl
  have hd : x.dict = t.dict := rfl
  rw [hx]
  clear_value x
  refine .ite (h.dict rfl) (.ite (h.dict hd) hr)

theorem logAlarm_touches (s : State) (src : Nat) : Touches (fun i => i = 0x3800 ∨ i = 0x4800) (s.alarmCounted src false) (s.logAlarm src false) := by
  have h : Touches (fun i => i = 0x3800 ∨ i = 0x4800) (s.alarmCounted src false) ((s.alarmLogged src).tamperRecord src (s.response src)) :=
    Touches.tamperRecord (Touches.logRow (.of_dict (alarmRinged_dict s src false)) (.inr rfl)) (.inl rfl)
  rw [logAlarm_main]
  exact .ite (h.dict (State.dict_notify _ _ _ _)) h

theorem alarmCounted_touches (s : State) (src : Nat) (b : Bool) : Touches (fun i => i = 0x4000 + src) s (s.alarmCounted src b) :=
  (Touches.refl.event (P := fun i => i = 0x4000 + src) (a := 4) rfl (by decide)).wr (a := 5) rfl (by decide)

theorem setAsserted_touches (s : State) (src : Nat) (b : Bool) : Touches (fun i => i = 0x4000 + src) s (s.setAsserted src b) :=
  (Touches.refl.wr (P := fun i => i = 0x4000 + src) (a := 3) (v := if b then 1 else 0) rfl (by decide)).dict rfl

theorem rd_alarmCounted (hw : Map.wf s.dict = true) (src : Nat) (b : Bool) :
    (s.alarmCounted src b).rd (0x4000 + src) 4 = eventAdd (s.rd (0x4000 + src) 4) ((if 2 ≤ s.response src ∧ !b then 1 else 0) + (if b then 2 else 0)) ∧
      (s.alarmCounted src b).rd (0x4000 + src) 5 = time80 (if b then s.clk.rtc else s.clk.datum) ∧ (s.alarmCounted src b).response src = s.response src := by
  refine ⟨?_, State.rd_wr_self (State.wf_event hw _ _ _) _ _ _, ?_⟩
  · refine (State.rd_wr_of_sub _ (by decide) (by decide) (.inr (by decide))).trans ?_
    rw [State.rd_event]
    exact State.rd_wr_self hw _ _ _
  · refine (State.rd_wr_of_sub _ (by decide) (by decide) (.inr (by decide))).trans ?_
    rw [State.rd_event]
    exact State.rd_wr_of_sub _ (by decide) (by decide) (.inr (by decide))

theorem seq_logRow {kind unitType cluster unit tenant status record : Nat} : (s.logRow kind unitType cluster unit tenant status record).flt.seq = s.flt.seq + 1 := by
  unfold State.logRow
  extract_lets
  split
  · rfl
  · rfl

theorem asserted_setAsserted (s : State) (i j : Nat) (b : Bool) : (s.setAsserted i b).asserted j = if j = i then b else s.asserted j := by
  unfold State.setAsserted State.asserted Tamper.assert
  rw [Bool.eq_iff_iff]
  simp only [List.contains_eq_mem, decide_eq_true_eq, List.mem_append, List.mem_filter, bne_iff_ne]
  by_cases h : j = i
  · subst h
    cases b <;> simp
  · cases b <;> simp [h]

theorem response_setAsserted (s : State) (i j : Nat) (b : Bool) : (s.setAsserted i b).response j = s.response j :=
  (State.rd_congr rfl _ _).trans (State.rd_wr_of_sub _ (by decide) (by decide) (.inr (by decide)))

/-- The first occurrence of a source in a datum second is recorded. -/
theorem tamperRecord_recorded {src rank : Nat} (hp : s.phase = .up) (hb : s.ringBusy = false) (hs : Map.find s.trav.tamperSec src ≠ some (s.clk.datum / 1000000000)) :
    Recorded s (s.tamperRecord src rank) 8 2 0xFF src 3 (tamperDetail rank 0 (time80 s.clk.datum) (Map.getD s.trav.tamperCarry src 0 + 1)) := by
  unfold State.tamperRecord
  extract_lets n sec trav x d
  rw [if_neg (fun h => h.elim hs fun h => by rw [hb] at h; exact Bool.noConfusion h.2), if_neg (fun h => h hp)]
  obtain ⟨-, h1, h2, h3, h4, h5⟩ := secondTaken_fields s src
  exact (record_recorded (s.secondTaken src) 8 2 0xFF src 3 _).mono h2 h3 h4 h5 (congrArg Clocks.datum h1) rfl rfl

/-! ### ABORT and QUIESCED -/

theorem dict_cutJob_quiet {status detail : Nat} {j : Job} (hc : Calm s) (hu : uncached status = false) (hf : isFaultStatus status = false) :
    (s.cutJob j status detail 0).dict = s.dict := by
  have hend : ∀ {s : State}, Calm s → (s.endJob j.ref status detail 0 [] none).dict = s.dict := fun {s} hc => by
    cases hj : s.findJob j.ref with
    | none => rw [State.endJob, hj]
    | some x =>
      have hw : Within (parts [.jobs, .units, .les, .saved, .cmem, .clus]) s (s.offUnits j.ref x) := .mapJob rfl (.unload rfl .refl)
      have hcalm : Calm ((s.offUnits j.ref x).finish j.ref status detail [] none) := Calm.finish_any hu (hc.congr (hw.same .chans rfl) (hw.same .tenants rfl))
      rw [State.endJob_cut hj]
      exact ((hcalm.settle_within).same .dict rfl).trans ((State.dict_finish_quiet _ _ hf).trans (hw.same .dict rfl))
  unfold State.cutJob
  split
  · exact (hend hc.accrue).trans ((Within.accrue (k := parts [.free, .jobs, .tenants, .les]) rfl .refl).same .dict rfl)
  · exact hend hc

/-- Jobs that are cut short, one after another, are done. -/
theorem cutAll_done {status : Nat} (hu : uncached status = false) (hf : isFaultStatus status = false) (hc : Calm s) (l : List Job) :
    (l.foldl (fun u (x : Job) => u.cutJob x status 0 0) s).dict = s.dict ∧
      ∀ r j, s.findJob r = some j → j ∈ l → j.live = true → j.kind ≠ 0x4 → JobDone (l.foldl (fun u (x : Job) => u.cutJob x status 0 0) s) r status 0 [] j.key := by
  have hdict : Calm (l.foldl (fun u (x : Job) => u.cutJob x status 0 0) s) ∧ (l.foldl (fun u (x : Job) => u.cutJob x status 0 0) s).dict = s.dict :=
    List.foldlRecOn (motive := fun u => Calm u ∧ u.dict = s.dict) _ _ ⟨hc, rfl⟩ fun u hu' x _ =>
      ⟨(cutJob_cutShort hu'.1 hu).calm, (dict_cutJob_quiet hu'.1 hu hf).trans hu'.2⟩
  refine ⟨hdict.2, fun r j hj hm hl hkind => ?_⟩
  let I : State → Prop := fun u => Calm u ∧ ((∃ k, u.findJob r = some k ∧ k.core = j.core) ∨ JobDone u r status 0 [] j.key)
  let G : State → Prop := fun u => Calm u ∧ JobDone u r status 0 [] j.key
  have hlive : ∀ k : Job, k.core = j.core → k.live = true := fun k hk => by
    have hs : k.state = j.state := congrArg (fun c => c.1) hk
    rw [Job.live, hs]
    exact hl
  have hend : ∀ u (x : Job), x.ref = r → I u → G (u.cutJob x status 0 0) := fun u x hx ⟨hu', h⟩ => by
    have hcut := cutJob_cutShort (j := x) (detail := 0) hu' hu
    refine ⟨hcut.calm, h.elim (fun ⟨k, hk, he⟩ => ?_) fun h => hcut.kept _ _ _ _ _ h⟩
    subst hx
    have hkey : k.key = j.key := congrArg (fun c => c.2.2.1) he
    exact hkey ▸ hcut.done k hk (hlive k he) ((congrArg (fun c => c.2.1) he : k.kind = j.kind) ▸ hkind)
  refine (foldl_reaches (f := fun u (x : Job) => u.cutJob x status 0 0) (I := I) (G := G) hm ⟨hc, .inl ⟨j, hj, rfl⟩⟩ (fun u x _ hu' => ?_)
    (fun u x _ hu' => ?_) fun u hu' => hend u j (State.ref_of_findJob hj) hu').2
  · by_cases hx : x.ref = r
    · exact ⟨(hend u x hx hu').1, .inr (hend u x hx hu').2⟩
    · have hcut := cutJob_cutShort (j := x) (detail := 0) hu'.1 hu
      refine ⟨hcut.calm, hu'.2.imp (fun ⟨k, hk, he⟩ => ?_) fun h => hcut.kept _ _ _ _ _ h⟩
      have ho := hcut.others r (Ne.symm hx)
      rw [hk] at ho
      obtain ⟨y, hy, hy'⟩ := Option.map_eq_some_iff.mp ho
      exact ⟨y, hy, hy'.trans he⟩
  · have hcut := cutJob_cutShort (j := x) (detail := 0) hu'.1 hu
    exact ⟨hcut.calm, hcut.kept _ _ _ _ _ hu'.2⟩

/-- In a calm block every running or suspended job that holds secrets ends, and the dictionary stays. -/
theorem abortSecrets_spec (hc : Calm s) : s.abortSecrets.dict = s.dict ∧ ∀ r j, s.findJob r = some j → j.running = true ∨ j.state = .suspended → s.holdsSecret j = true →
    j.kind ≠ 0x4 → JobDone s.abortSecrets r 0x62 0 [] j.key := by
  obtain ⟨hd, hdone⟩ := cutAll_done (status := 0x62) rfl rfl hc (s.jobs.filter (fun (j : Job) => (j.running || j.state == .suspended) && s.holdsSecret j))
  refine ⟨hd, fun r j hj hrun hs hk => hdone r j hj (List.mem_filter.mpr ⟨List.mem_of_find?_eq_some hj, ?_⟩) ?_ hk⟩
  · rw [hs]
    rcases hrun with h | h
    · rw [h]; rfl
    · rw [h]; simp
  · rcases hrun with h | h
    · rw [Job.live, show j.state = .running from beq_iff_eq.mp h]; rfl
    · rw [Job.live, h]; rfl

theorem keyAt_congr (hk : t.keys = s.keys) (hl : t.lc = s.lc) (hr : t.rd 0x1010 5 = s.rd 0x1010 5) (h : Nat) : t.keyAt h = s.keyAt h := by
  have hd : t.debug = s.debug := by unfold State.debug State.lifecycle; rw [hl]
  unfold State.keyAt State.domainKnown
  rw [hk, hd, hr]

theorem keyFor_congr (hk : t.keys = s.keys) (hl : t.lc = s.lc) (hr : t.rd 0x1010 5 = s.rd 0x1010 5) (j : Job) : t.keyFor j = s.keyFor j := by
  unfold State.keyFor State.key
  rw [hk, keyAt_congr hk hl hr]

theorem holdsSecret_congr {j : Job} (hk : t.keys = s.keys) (hlc : t.lc = s.lc) (hr : t.rd 0x1010 5 = s.rd 0x1010 5) (hl : t.les = s.les) (hc : t.cmem = s.cmem)
    (hs : t.saved = s.saved) : t.holdsSecret j = s.holdsSecret j := by
  unfold State.holdsSecret State.secretScratch State.le
  rw [keyFor_congr hk hlc hr, hl, hc, hs]

theorem windowOpen_closeWindow (hw : Map.wf s.dict = true) {w e : Nat} : (s.closeWindow w e).windowOpen w = false := by
  unfold State.closeWindow
  split
  · have hr : Map.wf (s.windowRecordOf (s.window w) w e).dict = true := (Touches.record (P := fun i => i = 0x3800) .refl rfl).wf hw
    rw [State.windowOpen, State.window, Nat.add_zero, State.rd_wr_self hr]
    rfl
  next h => exact Bool.eq_false_of_not_eq_true h

theorem windowOpen_closeWindow_of_ne {w x e : Nat} (h8 : w < 8) (hx : x < 8) (hne : w ≠ x) : (s.closeWindow x e).windowOpen w = s.windowOpen w := by
  unfold State.closeWindow
  split
  · rw [State.windowOpen, State.window, State.rd_wr_of_sub _ (by omega) (by omega) (.inr (by omega))]
    unfold State.windowRecordOf
    rw [(Touches.record (P := fun i => i = 0x3800) (s := s) .refl rfl).rd _ _ (by omega) (by decide)]
    rfl
  · rfl

/-- QUIESCED closes every window. -/
theorem enterQuiesce_spec (hw : Map.wf s.dict = true) : Touches (fun i => i = 0x3800 ∨ i = 0x3200) s s.enterQuiesce ∧ ∀ w, w < 8 → s.enterQuiesce.windowOpen w = false := by
  have h0 : Touches (fun i => i = 0x3800 ∨ i = 0x3200) s { s with tamp := { s.tamp with quiesce := true } } := .of_dict rfl
  have ht : Touches (fun i => i = 0x3800 ∨ i = 0x3200) s s.enterQuiesce :=
    List.foldlRecOn (motive := Touches (fun i => i = 0x3800 ∨ i = 0x3200) s) _ _ h0 fun u hu x hx => hu.closeWindow (.inl rfl) (.inr rfl) (List.mem_range.mp hx)
  refine ⟨ht, fun w h8 => ?_⟩
  have hstep : ∀ (u : State) x, x < 8 → Map.wf u.dict = true → Map.wf (u.closeWindow x (Config.unstated 55 [x] % 256)).dict = true := fun u x hx hu =>
    (Touches.refl.closeWindow (P := fun i => i = 0x3800 ∨ i = 0x3200) (.inl rfl) (.inr rfl) hx).wf hu
  exact (foldl_reaches (I := fun u => Map.wf u.dict = true) (G := fun u => Map.wf u.dict = true ∧ u.windowOpen w = false) (List.mem_range.mpr h8) (h0.wf hw)
    (fun u x hx hu => hstep u x (List.mem_range.mp hx) hu)
    (fun u x hx hu => ⟨hstep u x (List.mem_range.mp hx) hu.1, by
      by_cases h : w = x
      · subst h; exact windowOpen_closeWindow hu.1
      · exact (windowOpen_closeWindow_of_ne h8 (List.mem_range.mp hx) h).trans hu.2⟩)
    fun u hu => ⟨hstep u w h8 hu, windowOpen_closeWindow hu⟩).2

theorem enterQuiesce_tamp (s : State) : s.enterQuiesce.tamp = { s.tamp with quiesce := true } :=
  (Within.foldl (k := parts [.dict, .dtx, .rwork, .trav]) (s := { s with tamp := { s.tamp with quiesce := true } }) .refl fun _ _ h => .closeWindow rfl h).same .tamp rfl

/-! ### Alarms on main power -/

/-- A source is asserted, and its alarm logged. -/
def State.alarmed (s : State) (src : Nat) : State := (s.setAsserted src true).logAlarm src false

/-- What an alarm leaves before its response. -/
structure Alarmed (s t : State) (src : Nat) : Prop where
  within : Within (parts [.dict, .dtx, .tx, .chans, .rwork, .trav, .tamp, .flt]) s t
  tamp : t.tamp = { s.tamp.assert src true with ring := t.tamp.ring }
  touches : Touches (fun i => i = 0x4000 + src ∨ i = 0x3800 ∨ i = 0x4800) s t
  calm : Calm s → Calm t

namespace Alarmed

variable {src : Nat}

theorem asserted (h : Alarmed s t src) : t.asserted src = true := by
  have ha := asserted_setAsserted s src src true
  rw [if_pos rfl] at ha
  rw [State.asserted, h.tamp]
  exact ha

theorem clk (h : Alarmed s t src) : t.clk = s.clk := h.within.same .clk rfl

theorem phase (h : Alarmed s t src) : t.phase = s.phase := h.within.same .phase rfl

theorem wf (h : Alarmed s t src) (hw : Map.wf s.dict = true) : Map.wf t.dict = true := h.touches.wf hw

theorem holdsSecret (h : Alarmed s t src) (j : Job) : t.holdsSecret j = s.holdsSecret j :=
  holdsSecret_congr (h.within.same .keys rfl) (h.within.same .lc rfl) (h.touches.rd _ _ (by decide) (by omega)) (h.within.same .les rfl) (h.within.same .cmem rfl)
    (h.within.same .saved rfl)

end Alarmed

theorem alarmed_spec (s : State) (src : Nat) : Alarmed s (s.alarmed src) src := by
  have hu : Within (parts [.dict, .tamp]) s (s.setAsserted src true) := .setAsserted rfl .refl
  have hr : Within (parts [.dict, .dtx, .tamp]) (s.setAsserted src true) ((s.setAsserted src true).alarmRinged src false) := by
    unfold State.alarmRinged State.alarmCounted State.event
    exact .ite (.ringAlarm rfl (.wr rfl (.event rfl .refl))) (.wr rfl (.event rfl .refl))
  refine ⟨(hu.mono rfl).trans ((hr.mono rfl).trans ((logAlarm_tail _ src).mono rfl)), logAlarm_tamp _ src false,
    (setAsserted_touches s src true).mono (fun _ h => .inl h) |>.trans (((alarmCounted_touches _ src false).mono fun _ h => .inl h).trans
      ((logAlarm_touches _ src).mono fun _ h => .inr h)), fun hc => ?_⟩
  have hl : Within (parts [.dict, .dtx, .rwork, .trav, .tamp, .flt]) s (((s.setAsserted src true).alarmLogged src).tamperRecord src ((s.setAsserted src true).response src)) :=
    .tamperRecord rfl (.logRow rfl ((hu.mono rfl).trans (hr.mono rfl)))
  have hcl : Calm (((s.setAsserted src true).alarmLogged src).tamperRecord src ((s.setAsserted src true).response src)) :=
    hc.congr (hl.same .chans rfl) (hl.same .tenants rfl)
  rw [State.alarmed, logAlarm_main]
  split
  · exact hcl.notify
  · exact hcl

theorem alarm_eq (s : State) (src : Nat) : s.alarm src =
    if s.response src = 0 then s.setAsserted src true
    else if s.response src < 3 ∨ s.response src ≤ s.tamp.rank then s.alarmed src
    else (s.alarmed src).alarmResponse src (s.response src) := by
  unfold State.alarm
  extract_lets r x y
  have hy : y = s.alarmed src := rfl
  have hr : y.tamp.rank = s.tamp.rank := by rw [hy, (alarmed_spec s src).tamp]; rfl
  rw [hr, hy]

theorem flt_logAlarm (s : State) (src : Nat) : (s.logAlarm src false).flt.seq = s.flt.seq + 1 := by
  have ht : Within (parts [.dict, .dtx, .tx, .chans, .rwork, .trav]) (s.alarmLogged src) (s.logAlarm src false) := by
    rw [logAlarm_main]
    exact .ite (.notify rfl (.tamperRecord rfl .refl)) (.tamperRecord rfl .refl)
  have hf : (s.logAlarm src false).flt = (s.alarmLogged src).flt := ht.same .flt rfl
  have hr : (s.alarmRinged src false).flt = s.flt := by
    have hw : Within (parts [.dict, .dtx, .tamp]) s (s.alarmRinged src false) := by
      unfold State.alarmRinged State.alarmCounted State.event
      exact .ite (.ringAlarm rfl (.wr rfl (.event rfl .refl))) (.wr rfl (.event rfl .refl))
    exact hw.same .flt rfl
  calc (s.logAlarm src false).flt.seq = (s.alarmLogged src).flt.seq := congrArg Faults.seq hf
    _ = (s.alarmRinged src false).flt.seq + 1 := seq_logRow
    _ = s.flt.seq + 1 := by rw [hr]

/-- LOG and NOTIFY leave the count, the time and the row of the alarm. -/
theorem alarmed_low (hw : Map.wf s.dict = true) {src : Nat} (h16 : src < 16) (hr : s.response src < 5) :
    (s.alarmed src).rd (0x4000 + src) 4 = eventAdd (s.rd (0x4000 + src) 4) (if 2 ≤ s.response src then 1 else 0) ∧
      (s.alarmed src).rd (0x4000 + src) 5 = time80 s.clk.datum ∧ (s.alarmed src).flt.seq = s.flt.seq + 1 ∧ (s.alarmed src).tamp = s.tamp.assert src true := by
  have hres : (s.setAsserted src true).response src = s.response src := response_setAsserted s src src true
  have hto := logAlarm_touches (s.setAsserted src true) src
  obtain ⟨h4, h5, -⟩ := rd_alarmCounted ((setAsserted_touches s src true).wf hw) src false
  refine ⟨?_, ?_, flt_logAlarm _ _, ?_⟩
  · refine (hto.rd _ _ (by decide) (by omega)).trans (h4.trans ?_)
    rw [hres]
    refine congrArg₂ eventAdd ((State.rd_congr rfl _ _).trans (State.rd_wr_of_sub _ (by decide) (by decide) (.inr (by decide)))) ?_
    simp
  · exact (hto.rd _ _ (by decide) (by omega)).trans h5
  · exact ((logAlarm_tail _ src).same .tamp rfl).trans (alarmRinged_low (hres ▸ hr))

/-- The benchmark of an alarm while service is open. -/
theorem alarmed_recorded {src : Nat} (hr : s.response src < 5) (hp : s.phase = .up) (hb : s.ringBusy = false)
    (hs : Map.find s.trav.tamperSec src ≠ some (s.clk.datum / 1000000000)) :
    Recorded s (s.alarmed src) 8 2 0xFF src 3 (tamperDetail (s.response src) 0 (time80 s.clk.datum) (Map.getD s.trav.tamperCarry src 0 + 1)) := by
  have hres : (s.setAsserted src true).response src = s.response src := response_setAsserted s src src true
  have hin : Within (parts [.dict, .dtx, .tamp, .flt]) s ((s.setAsserted src true).alarmLogged src) := by
    refine .logRow rfl ?_
    rw [alarmRinged_of_low (hres ▸ hr)]
    unfold State.alarmCounted State.event
    exact .wr rfl (.event rfl (.setAsserted rfl .refl))
  have htrav : ((s.setAsserted src true).alarmLogged src).trav = s.trav := hin.same .trav rfl
  have hclk : ((s.setAsserted src true).alarmLogged src).clk = s.clk := hin.same .clk rfl
  have hbusy : ((s.setAsserted src true).alarmLogged src).ringBusy = false := by
    unfold State.ringBusy State.ringFull State.pendingSlots at *
    rw [htrav]
    exact hb
  have hrec := tamperRecord_recorded (rank := s.response src) ((hin.same .phase rfl).trans hp) hbusy (by rw [htrav, hclk]; exact hs)
  have htail : Within (parts [.tx, .chans]) (((s.setAsserted src true).alarmLogged src).tamperRecord src (s.response src)) (s.alarmed src) := by
    rw [State.alarmed, logAlarm_main, hres]
    exact .ite (.notify rfl .refl) .refl
  rw [htrav, hclk] at hrec
  exact hrec.mono (congrArg Traverse.pending htrav) (congrArg Traverse.ring htrav) (congrArg Traverse.nextSeq htrav) (congrArg Traverse.epoch htrav)
    (congrArg Clocks.datum hclk) (congrArg Traverse.ring (htail.same .trav rfl)) (congrArg Traverse.pending (htail.same .trav rfl))

/-! ### Responses -/

/-- What ABORT, QUIESCE and what is zeroised leave, before the reset that follows. -/
def State.responded (s : State) (rank : Nat) : State := (s.abortSecrets.enterQuiesce.tamperEvent rank).zeroise rank

/-- The source's part in the start that follows a reset. -/
def Tamper.restart (m : Tamper) (src rank : Nat) : Tamper :=
  { m with rank := Nat.max m.rank rank, restarted := if m.restarted.contains src then m.restarted else m.restarted ++ [src] }

def State.restartFor (s : State) (src rank : Nat) : State := { s with tamp := s.tamp.restart src rank }

theorem respond_abort (s : State) (src : Nat) : s.respond src 3 = s.abortSecrets := rfl

theorem respond_quiesce (s : State) (src : Nat) : s.respond src 4 = s.abortSecrets.enterQuiesce.event 0x4020 7 1 := rfl

theorem respond_reset (s : State) (src : Nat) {rank : Nat} (h : 5 ≤ rank) : s.respond src rank = ((s.responded rank).restartFor src rank).warmReset 3 := by
  unfold State.respond
  extract_lets x y z
  have hx : x = s.abortSecrets := if_pos (by omega)
  have hy : y = s.abortSecrets.enterQuiesce.tamperEvent rank := by
    show (if 4 ≤ rank then x.enterQuiesce else x).tamperEvent rank = _
    rw [if_pos (by omega), hx]
  have hz : z = s.responded rank := by
    show y.zeroise rank = _
    rw [hy]
    rfl
  rw [if_pos h]
  show (z.restartFor src rank).warmReset 3 = _
  rw [hz]

theorem zeroise_tamp (s : State) (rank : Nat) : (s.zeroise rank).tamp = s.tamp := by
  have hk : s.zeroKeys.zeroEntropy.tamp = s.tamp := (Within.zeroEntropy (k := parts [.dict, .keys, .ent]) rfl (.zeroKeys rfl .refl)).same .tamp rfl
  have hl : ∀ u : State, u.loseKeys.tamp = u.tamp := fun u => (Within.loseKeys (k := parts [.dict, .dtx, .keys, .grp]) rfl .refl).same .tamp rfl
  unfold State.zeroise
  extract_lets u w
  have hw : w.tamp = s.tamp := by
    show (if 6 ≤ rank then _ else s).tamp = s.tamp
    split
    · exact hk
    · rfl
  split
  · exact (hl w).trans hw
  · exact hw

theorem zeroise_all (s : State) : (s.zeroise 7).keys.secret = 0 ∧ (s.zeroise 7).keys.hasSecret = false := ⟨rfl, rfl⟩

theorem responded_all (s : State) : (s.responded 7).keys.secret = 0 ∧ (s.responded 7).keys.hasSecret = false := by
  unfold State.responded
  exact zeroise_all _

theorem keys_restartFor (s : State) (src rank : Nat) : (s.restartFor src rank).keys = s.keys := rfl

theorem secret_clearLogic (s : State) : (s.clearLogic false).keys.secret = s.keys.secret ∧ (s.clearLogic false).keys.hasSecret = s.keys.hasSecret := ⟨rfl, rfl⟩

theorem responded_spec (s : State) (rank : Nat) : Within everything s (s.responded rank) ∧ (s.responded rank).phase = s.phase ∧ (s.responded rank).clk = s.clk ∧
    (s.responded rank).tamp = { s.tamp with quiesce := true } := by
  have ha : Within ending s s.abortSecrets := .abortSecrets rfl .refl
  have he : Within (parts [.dict, .dtx, .rwork, .trav, .tamp]) s.abortSecrets (s.abortSecrets.enterQuiesce.tamperEvent rank) := .tamperEvent rfl (.enterQuiesce rfl .refl)
  have hz := (Booted.zeroise (s := s.abortSecrets.enterQuiesce.tamperEvent rank) (r := rank)).within
  have h : Within booting s (s.responded rank) := (ha.mono rfl).trans ((he.mono rfl).trans hz)
  refine ⟨h.mono rfl, h.same .phase rfl, h.same .clk rfl, ?_⟩
  have ht : (s.abortSecrets.enterQuiesce.tamperEvent rank).tamp = s.abortSecrets.enterQuiesce.tamp := (Within.tamperEvent (k := parts [.dict, .dtx]) rfl .refl).same .tamp rfl
  have hat : s.abortSecrets.tamp = s.tamp := ha.same .tamp rfl
  rw [State.responded, zeroise_tamp, ht, enterQuiesce_tamp, hat]

/-- RESET and higher: a warm reset with cause 3 begins, and the next start waits for the source. -/
theorem respond_resets (hw : Map.wf s.dict = true) (hp : s.phase = .up) (hg : s.clk.gated = false) (src : Nat) {rank : Nat} (h5 : 5 ≤ rank) (hr : s.tamp.rank < rank) :
    (s.respond src rank).phase = .down ∧ (s.respond src rank).rd 0x1201 1 = 3 ∧ src ∈ (s.respond src rank).tamp.restarted ∧ (s.respond src rank).tamp.rank = rank ∧
      (s.respond src rank).jobs = [] ∧ (s.respond src rank).chans = [] ∧ (s.respond src rank).keys.vol = [] ∧
      (rank = 7 → (s.respond src rank).keys.secret = 0 ∧ (s.respond src rank).keys.hasSecret = false) := by
  obtain ⟨hin, hph, hck, htamp⟩ := responded_spec s rank
  have hrw : Within everything s ((s.responded rank).restartFor src rank) := by
    unfold State.restartFor
    exact .set rfl rfl hin
  have hph' : ((s.responded rank).restartFor src rank).phase = .up := hph.trans hp
  have hn : ¬ (((s.responded rank).restartFor src rank).phase = .down ∧ ((s.responded rank).restartFor src rank).rd 0x1201 1 = 0) := fun h => by
    rw [hph'] at h; exact Phase.noConfusion h.1
  have hg' : ((s.responded rank).restartFor src rank).clk.gated = false := (congrArg Clocks.gated hck).trans hg
  have hcl := Within.clearLogic_warmReset hn hg' 3
  have hkeys : (((s.responded rank).restartFor src rank).warmReset 3).keys = (((s.responded rank).restartFor src rank).clearLogic false).keys := hcl.same .keys rfl
  have htm : (((s.responded rank).restartFor src rank).warmReset 3).tamp = (((s.responded rank).restartFor src rank).clearLogic false).tamp := hcl.same .tamp rfl
  have hrest : ((s.responded rank).restartFor src rank).tamp = Tamper.restart { s.tamp with quiesce := true } src rank :=
    congrArg (fun m => Tamper.restart m src rank) htamp
  rw [respond_reset s src h5]
  refine ⟨State.phase_warmReset hn hg' 3, State.rd_warmReset_cause hn hg' (hrw.2.dict hw) 3, ?_, ?_, State.jobs_warmReset hn hg' 3, State.chans_warmReset hn hg' 3,
    by rw [hkeys]; rfl, fun h7 => ?_⟩
  · rw [htm]
    show src ∈ ((s.responded rank).restartFor src rank).tamp.restarted
    rw [hrest]
    show src ∈ (if s.tamp.restarted.contains src = true then s.tamp.restarted else s.tamp.restarted ++ [src])
    split
    next h => exact List.contains_iff_mem.mp h
    · simp
  · rw [htm]
    show ((s.responded rank).restartFor src rank).tamp.rank = rank
    rw [hrest]
    exact Nat.max_eq_right (Nat.le_of_lt hr)
  · subst h7
    obtain ⟨h1, h2⟩ := secret_clearLogic ((s.responded 7).restartFor src 7)
    rw [hkeys, h1, h2, keys_restartFor]
    exact responded_all s

/-- A reset that REFCLK holds back. -/
theorem respond_waits (hp : s.phase = .up) (hg : s.clk.gated = true) (src : Nat) {rank : Nat} (h7 : rank = 7) :
    (s.respond src rank).phase = .up ∧ (s.respond src rank).tamp.conds = s.tamp.conds ∧ (s.respond src rank).keys.hasSecret = false ∧
      (s.respond src rank).clk.waiting = some (s.clk.waiting.getD 3) := by
  obtain ⟨-, hph, hck, htamp⟩ := responded_spec s rank
  have hkey : (s.responded rank).keys.hasSecret = false := h7 ▸ (responded_all s).2
  rw [respond_reset s src (by omega)]
  generalize s.responded rank = u at hph hck htamp hkey
  have hn : ¬ ((u.restartFor src rank).phase = .down ∧ (u.restartFor src rank).rd 0x1201 1 = 0) := fun h => by
    rw [show (u.restartFor src rank).phase = .up from hph.trans hp] at h; exact Phase.noConfusion h.1
  rw [warmReset_waits hn ((congrArg Clocks.gated hck).trans hg) 3]
  have hcond : u.tamp.conds = s.tamp.conds := by rw [htamp]
  exact ⟨hph.trans hp, hcond, hkey, congrArg (fun c : Clocks => some (c.waiting.getD 3)) hck⟩

/-- What waits while REFCLK is lost. -/
def Tamper.await (m : Tamper) (src rank : Nat) : Tamper :=
  { m with
    clockRank := Nat.max m.clockRank rank
    clockSources := if m.clockSources.contains src then m.clockSources else m.clockSources ++ [src]
    restarted := if 5 ≤ rank ∧ !m.restarted.contains src then m.restarted ++ [src] else m.restarted }

def State.awaiting (s : State) (src rank : Nat) : State := State.pendRank { s with tamp := s.tamp.await src rank } rank

theorem alarmResponse_up (hp : s.phase = .up) (hg : s.clk.gated = false) (src rank : Nat) : s.alarmResponse src rank = s.respond src rank := by
  unfold State.alarmResponse
  split
  · exact if_neg (by rw [hg]; exact Bool.false_ne_true)
  next h => exact absurd (h.symm.trans hp) (by simp)
  next h => exact absurd (h.symm.trans hp) (by simp)

theorem alarmResponse_gated (hp : s.phase = .up) (hg : s.clk.gated = true) (src : Nat) {rank : Nat} :
    s.alarmResponse src rank = if rank = 7 then s.respond src 7 else s.awaiting src rank := by
  unfold State.alarmResponse
  split
  · exact if_pos hg
  next h => exact absurd (h.symm.trans hp) (by simp)
  next h => exact absurd (h.symm.trans hp) (by simp)

theorem alarmResponse_down (hp : s.phase = .down) (src : Nat) {rank : Nat} (h6 : rank ≤ 6) : s.alarmResponse src rank = s.pendRank rank := by
  unfold State.alarmResponse
  split
  next h => exact absurd (h.symm.trans hp) (by simp)
  next h => exact absurd (h.symm.trans hp) (by simp)
  · exact if_neg (by omega)

theorem awaiting_spec (hw : Map.wf s.dict = true) (src rank : Nat) : (s.awaiting src rank).tamp = s.tamp.await src rank ∧
    (s.awaiting src rank).rd 0x4020 5 = Nat.max (s.rd 0x4020 5) rank ∧ Within (parts [.dict, .tamp]) s (s.awaiting src rank) := by
  refine ⟨rfl, ?_, ?_⟩
  · exact State.rd_wr_self (s := { s with tamp := s.tamp.await src rank }) hw _ _ _
  · unfold State.awaiting
    exact .pendRank rfl (.set rfl rfl .refl)

theorem mem_append_unless (l : List Nat) (src : Nat) : src ∈ (if l.contains src then l else l ++ [src]) := by
  split
  next h => exact List.contains_iff_mem.mp h
  · simp

/-! ### The parts of the statement about an alarm -/

section
variable {src : Nat}

theorem tamperAlarm_goes (hf : s.fitted src = true) (hb : s.clk.onBattery = false) : exec (.tamperAlarm src) s = .next (s.alarm src) :=
  when_of_true (by rw [hf, hb]; rfl)

theorem alarm_low (hw : Map.wf s.dict = true) (h16 : src < 16) (hr : s.response src = 1 ∨ s.response src = 2) (hf : s.fitted src = true) (hb : s.clk.onBattery = false) :
    GoesTo (exec (.tamperAlarm src) s) (fun t => t.asserted src = true ∧
      t.rd (0x4000 + src) 4 = eventAdd (s.rd (0x4000 + src) 4) (if s.response src = 2 then 1 else 0) ∧
      t.rd (0x4000 + src) 5 = time80 s.clk.datum ∧ t.flt.seq = s.flt.seq + 1 ∧
      (s.phase = .up → s.ringBusy = false → Map.find s.trav.tamperSec src ≠ some (s.clk.datum / 1000000000) →
        Recorded s t 8 2 0xFF src 3 (tamperDetail (s.response src) 0 (time80 s.clk.datum) (Map.getD s.trav.tamperCarry src 0 + 1))) ∧
      t.tamp = s.tamp.assert src true ∧
      t = { s with dict := t.dict, dtx := t.dtx, flt := t.flt, trav := t.trav, chans := t.chans, tx := t.tx, tamp := t.tamp, rwork := t.rwork }) := by
  have h := alarmed_spec s src
  obtain ⟨h4, h5, hs, ht⟩ := alarmed_low hw h16 (show s.response src < 5 by omega)
  have he : s.alarm src = s.alarmed src := by rw [alarm_eq, if_neg (by omega), if_pos (.inl (by omega))]
  refine ⟨_, tamperAlarm_goes hf hb, ?_⟩
  rw [he]
  refine ⟨h.asserted, h4.trans (congrArg _ (if_congr ⟨fun _ => by omega, fun _ => by omega⟩ rfl rfl)), h5, hs, alarmed_recorded (by omega), ht, ?_⟩
  exact h.within.eq_keepBut

theorem alarm_below (hr : 3 ≤ s.response src) (hle : s.response src ≤ s.tamp.rank) (hf : s.fitted src = true) (hb : s.clk.onBattery = false) :
    GoesTo (exec (.tamperAlarm src) s) (fun t => t.asserted src = true ∧ t.phase = s.phase ∧ t.jobs = s.jobs ∧ t.keys = s.keys) := by
  have h := alarmed_spec s src
  refine ⟨_, tamperAlarm_goes hf hb, ?_⟩
  rw [alarm_eq, if_neg (by omega), if_pos (.inr hle)]
  exact ⟨h.asserted, h.phase, h.within.same .jobs rfl, h.within.same .keys rfl⟩

theorem alarm_answered (hr : 3 ≤ s.response src) (hlt : s.tamp.rank < s.response src) (hf : s.fitted src = true) (hb : s.clk.onBattery = false) :
    exec (.tamperAlarm src) s = .next ((s.alarmed src).alarmResponse src (s.response src)) := by
  rw [tamperAlarm_goes hf hb, alarm_eq, if_neg (by omega), if_neg (by omega)]

theorem alarm_rank (s : State) (src : Nat) : (s.alarmed src).tamp.rank = s.tamp.rank := by rw [(alarmed_spec s src).tamp]; rfl

theorem alarm_resets (hw : Map.wf s.dict = true) (hp : s.phase = .up) (hg : s.clk.gated = false) (h5 : 5 ≤ s.response src) (hlt : s.tamp.rank < s.response src)
    (hf : s.fitted src = true) (hb : s.clk.onBattery = false) : GoesTo (exec (.tamperAlarm src) s) (fun t => t.phase = .down ∧ t.rd 0x1201 1 = 3 ∧
      src ∈ t.tamp.restarted ∧ t.tamp.rank = s.response src ∧ t.jobs = [] ∧ t.chans = [] ∧ t.keys.vol = [] ∧
      (s.response src = 7 → t.keys.secret = 0 ∧ t.keys.hasSecret = false)) := by
  have h := alarmed_spec s src
  refine ⟨_, alarm_answered (by omega) hlt hf hb, ?_⟩
  rw [alarmResponse_up (h.phase.trans hp) ((congrArg Clocks.gated h.clk).trans hg)]
  exact respond_resets (h.wf hw) (h.phase.trans hp) ((congrArg Clocks.gated h.clk).trans hg) src h5 ((alarm_rank s src).symm ▸ hlt)

theorem alarm_aborts (hw : Map.wf s.dict = true) (hc : Calm s) (h16 : src < 16) (hp : s.phase = .up) (hg : s.clk.gated = false)
    (hr : s.response src = 3 ∨ s.response src = 4) (hlt : s.tamp.rank < s.response src)
    (hf : s.fitted src = true) (hb : s.clk.onBattery = false) : GoesTo (exec (.tamperAlarm src) s) (fun t => t.asserted src = true ∧ t.phase = .up ∧
      (∀ r j, s.findJob r = some j → j.running = true ∨ j.state = .suspended → s.holdsSecret j = true → j.kind ≠ 0x4 → JobDone t r 0x62 0 [] j.key) ∧
      (s.response src = 4 → t.tamp.quiesce = true ∧ (∀ w, w < 8 → t.windowOpen w = false) ∧ t.rd 0x4020 7 = eventAdd (s.rd 0x4020 7) 1)) := by
  have h := alarmed_spec s src
  have hwa := h.wf hw
  obtain ⟨hd, hdone⟩ := abortSecrets_spec (h.calm hc)
  have hin : Within ending (s.alarmed src) (s.alarmed src).abortSecrets := .abortSecrets rfl .refl
  have htamp : (s.alarmed src).abortSecrets.tamp = (s.alarmed src).tamp := hin.same .tamp rfl
  have hjobs : ∀ r j, s.findJob r = some j → j.running = true ∨ j.state = .suspended → s.holdsSecret j = true → j.kind ≠ 0x4 →
      JobDone (s.alarmed src).abortSecrets r 0x62 0 [] j.key := fun r j hj hrun hs hk =>
    hdone r j ((State.findJob_congr (h.within.same .jobs rfl) r).trans hj) hrun ((h.holdsSecret j).trans hs) hk
  refine ⟨_, alarm_answered (by omega) hlt hf hb, ?_⟩
  rw [alarmResponse_up (h.phase.trans hp) ((congrArg Clocks.gated h.clk).trans hg)]
  rcases hr with hr | hr
  · rw [hr, respond_abort]
    exact ⟨by rw [State.asserted, htamp]; exact h.asserted, (hin.same .phase rfl).trans (h.phase.trans hp), hjobs, fun h4 => absurd h4 (by decide)⟩
  · rw [hr, respond_quiesce]
    obtain ⟨hto, hwin⟩ := enterQuiesce_spec (s := (s.alarmed src).abortSecrets) (hd.symm ▸ hwa)
    have hq : Within (parts [.dict, .dtx, .rwork, .trav, .tamp]) (s.alarmed src).abortSecrets (s.alarmed src).abortSecrets.enterQuiesce := .enterQuiesce rfl .refl
    have hqt := enterQuiesce_tamp (s.alarmed src).abortSecrets
    have hev : ∀ u : State, (u.event 0x4020 7 1).tamp = u.tamp ∧ (u.event 0x4020 7 1).phase = u.phase ∧ (u.event 0x4020 7 1).jobs = u.jobs := fun _ => ⟨rfl, rfl, rfl⟩
    obtain ⟨e1, e2, e3⟩ := hev (s.alarmed src).abortSecrets.enterQuiesce
    refine ⟨?_, e2.trans ((hq.same .phase rfl).trans ((hin.same .phase rfl).trans (h.phase.trans hp))), fun r j hj hrun hs hk =>
      (hjobs r j hj hrun hs hk).congr (e3.trans (hq.same .jobs rfl)), fun _ => ⟨?_, fun w h8 => ?_, ?_⟩⟩
    · rw [State.asserted, e1, hqt, htamp]
      exact h.asserted
    · rw [e1, hqt]
    · rw [State.windowOpen, State.window, State.rd_event, State.rd_wr_of_sub _ (by omega) (by omega) (.inl (by omega))]
      exact hwin w h8
    · rw [State.rd_event, State.rd_wr_self (hto.wf (hd.symm ▸ hwa)), hto.rd _ _ (by decide) (by decide), State.rd_congr hd, h.touches.rd _ _ (by decide) (by omega)]

theorem alarm_pends (hw : Map.wf s.dict = true) (h16 : src < 16) (hp : s.phase = .down) (h3 : 3 ≤ s.response src) (h6 : s.response src ≤ 6)
    (hlt : s.tamp.rank < s.response src) (hf : s.fitted src = true) (hb : s.clk.onBattery = false) :
    GoesTo (exec (.tamperAlarm src) s) (fun t => t.phase = .down ∧ t.rd 0x4020 5 = Nat.max (s.rd 0x4020 5) (s.response src)) := by
  have h := alarmed_spec s src
  refine ⟨_, alarm_answered h3 hlt hf hb, ?_⟩
  rw [alarmResponse_down (h.phase.trans hp) src h6]
  refine ⟨h.phase.trans hp, ?_⟩
  rw [State.pendRank, State.rd_wr_self (h.wf hw), h.touches.rd _ _ (by decide) (by omega)]

theorem alarm_gated (hw : Map.wf s.dict = true) (h16 : src < 16) (hp : s.phase = .up) (hg : s.clk.gated = true) (h3 : 3 ≤ s.response src)
    (hlt : s.tamp.rank < s.response src) (hf : s.fitted src = true) (hb : s.clk.onBattery = false) :
    GoesTo (exec (.tamperAlarm src) s) (fun t => t.phase = .up ∧ t.asserted src = true ∧
      (s.response src ≤ 6 → t.tamp.clockRank = Nat.max s.tamp.clockRank (s.response src) ∧ src ∈ t.tamp.clockSources ∧
        t.rd 0x4020 5 = Nat.max (s.rd 0x4020 5) (s.response src) ∧ t.jobs = s.jobs) ∧
      (s.response src = 7 → t.keys.hasSecret = false ∧ t.clk.waiting = some (s.clk.waiting.getD 3))) := by
  have h := alarmed_spec s src
  have hga : (s.alarmed src).clk.gated = true := (congrArg Clocks.gated h.clk).trans hg
  refine ⟨_, alarm_answered h3 hlt hf hb, ?_⟩
  rw [alarmResponse_gated (h.phase.trans hp) hga]
  split
  next he =>
    obtain ⟨h1, h2, h4, h5⟩ := respond_waits (h.phase.trans hp) hga src rfl
    refine ⟨h1, ?_, fun h6 => absurd he (by omega), fun _ => ⟨h4, by rw [h5, h.clk]⟩⟩
    rw [State.asserted, h2]
    exact h.asserted
  next he =>
    obtain ⟨h1, h2, hin⟩ := awaiting_spec (h.wf hw) src (s.response src)
    refine ⟨(hin.same .phase rfl).trans (h.phase.trans hp), ?_, fun _ => ⟨?_, ?_, ?_, (hin.same .jobs rfl).trans (h.within.same .jobs rfl)⟩, fun h => absurd h he⟩
    · rw [State.asserted, h1]
      exact h.asserted
    · have hcr : (s.alarmed src).tamp.clockRank = s.tamp.clockRank := by rw [h.tamp]; rfl
      rw [h1, ← hcr]
      rfl
    · rw [h1]
      exact mem_append_unless _ _
    · rw [h2, h.touches.rd _ _ (by decide) (by omega)]

end

/-! ### On battery -/

/-- What one source's sample does. -/
def State.tamperSample (s : State) (seen : List Nat) (i : Nat) : State :=
  if !onBatterySampled i ∨ !s.fitted i then s
  else if !seen.contains i then s.setAsserted i false
  else if s.asserted i then s else s.batteryAlarm i

theorem execBatterySample_eq (seen : List Nat) (h : s.clk.onBattery = true) :
    exec (.batterySample seen) s = .next ((List.range 16).foldl (fun u i => u.tamperSample seen i) s) := when_of_true h

/-- What the sources' samples leave for the ones that follow. -/
structure Sampling (s t : State) : Prop where
  wf : Map.wf s.dict = true → Map.wf t.dict = true
  response : ∀ i, t.response i = s.response i
  fitted : ∀ i, t.fitted i = s.fitted i
  pending : s.rd 0x4020 5 ≤ t.rd 0x4020 5
  secret : s.keys.hasSecret = false → t.keys.hasSecret = false
  phase : t.phase = s.phase
  clk : t.clk = s.clk

namespace Sampling

theorem refl : Sampling s s := ⟨id, fun _ => rfl, fun _ => rfl, Nat.le_refl _, id, rfl, rfl⟩

theorem trans (h : Sampling s t) (g : Sampling t u) : Sampling s u :=
  ⟨fun hw => g.wf (h.wf hw), fun i => (g.response i).trans (h.response i), fun i => (g.fitted i).trans (h.fitted i), Nat.le_trans h.pending g.pending,
    fun hs => g.secret (h.secret hs), g.phase.trans h.phase, g.clk.trans h.clk⟩

/-- A write beside the sources' settings, and beside the pending rank unless it raises it. -/
theorem wr {i a v : Nat} (ha : a < 256) (h1 : a ≠ 1 ∨ i < 0x4000) (h2 : a ≠ 2) (h5 : i ≠ 0x4020 ∨ a ≠ 5) : Sampling s (s.wr i a v) := by
  refine ⟨fun hw => State.wf_wr hw _ _ _, fun j => State.rd_wr_of_sub _ ha (by decide) (by omega), fun j => ?_,
    Nat.le_of_eq (State.rd_wr_of_sub _ ha (by decide) (by omega)).symm, id, rfl, rfl⟩
  rw [State.fitted, State.fitted, State.rd_wr_of_sub _ ha (by decide) (.inr (Ne.symm h2))]

theorem of_dict (hd : t.dict = s.dict) (hk : s.keys.hasSecret = false → t.keys.hasSecret = false) (hp : t.phase = s.phase) (hc : t.clk = s.clk) : Sampling s t :=
  ⟨fun hw => hd ▸ hw, fun _ => State.rd_congr hd _ _, fun i => by rw [State.fitted, State.fitted, State.rd_congr hd], Nat.le_of_eq (State.rd_congr hd _ _).symm, hk, hp, hc⟩

theorem event {i a f : Nat} (ha : a < 256) (h1 : a ≠ 1 ∨ i < 0x4000) (h2 : a ≠ 2) (h5 : i ≠ 0x4020 ∨ a ≠ 5) : Sampling s (s.event i a f) :=
  (wr (v := eventAdd (s.rd i a) f) ha h1 h2 h5).trans (of_dict rfl id rfl rfl)

theorem setAsserted {i : Nat} {b : Bool} : Sampling s (s.setAsserted i b) :=
  (wr (v := if b then 1 else 0) (by decide) (.inl (by decide)) (by decide) (.inr (by decide))).trans (of_dict rfl id rfl rfl)

theorem logged {i : Nat} (h16 : i < 16) : Sampling s (s.logAlarm i true) := by
  have hc : Sampling s (s.alarmCounted i true) :=
    (event (by decide) (.inl (by decide)) (by decide) (.inr (by decide))).trans (wr (by decide) (.inl (by decide)) (by decide) (.inl (by omega)))
  rw [logAlarm_battery]
  unfold State.alarmRinged
  split
  · exact hc.trans (of_dict rfl id rfl rfl)
  · exact hc

end Sampling

/-- The BBRAM secret and what it protects are gone. -/
def State.secretLost (s : State) : State :=
  { s with
    keys := { s.keys with
      secret := 0
      hasSecret := false
      recs := s.keys.recs.filter (fun p => decide (p.1 < 65536))
      slots := s.keys.slots.filter (fun p => decide (p.1 < 65536))
      loaded := s.keys.loaded.filter (fun h => keyScope h != 2) }
    grp := { s.grp with kek := none } }

theorem State.loseKeys_eq (s : State) : s.loseKeys = (s.secretLost.wr 0x1010 5 1).event 0x2C00 7 8 := rfl

namespace Sampling

/-- A secret that is lost counts as an alarm of rank 7. -/
theorem lost : Sampling s (s.loseKeys.tamperEvent 7) := by
  have h1 : ∀ u : State, Sampling u (u.tamperEvent 7) := fun u => event (by decide) (.inl (by decide)) (by decide) (.inr (by decide))
  have h2 : ∀ u : State, Sampling u ((u.wr 0x1010 5 1).event 0x2C00 7 8) := fun u =>
    (wr (by decide) (.inl (by decide)) (by decide) (.inl (by decide))).trans (event (by decide) (.inl (by decide)) (by decide) (.inl (by decide)))
  have h3 : Sampling s s.secretLost := of_dict rfl (fun _ => rfl) rfl rfl
  rw [State.loseKeys_eq]
  exact (h3.trans (h2 _)).trans (h1 _)

theorem pendRank (hw : Map.wf s.dict = true) (r : Nat) : Sampling s (s.pendRank r) := by
  refine ⟨fun hw => State.wf_wr hw _ _ _, fun j => State.rd_wr_of_sub _ (by decide) (by decide) (.inr (by decide)), fun j => ?_, ?_, id, rfl, rfl⟩
  · rw [State.fitted, State.fitted, State.pendRank, State.rd_wr_of_sub _ (by decide) (by decide) (.inr (by decide))]
  · rw [State.pendRank, State.rd_wr_self hw]
    exact Nat.le_max_left _ _

end Sampling

theorem tamp_lost (s : State) : (s.loseKeys.tamperEvent 7).tamp = s.tamp ∧ (s.loseKeys.tamperEvent 7).keys.hasSecret = false := by
  have hk : s.loseKeys.keys.hasSecret = false := rfl
  have hw : Within (parts [.dict, .dtx]) s.loseKeys (s.loseKeys.tamperEvent 7) := .tamperEvent rfl .refl
  have hl : Within (parts [.dict, .dtx, .keys, .grp]) s s.loseKeys := .loseKeys rfl .refl
  exact ⟨(hw.same .tamp rfl).trans (hl.same .tamp rfl), (congrArg Keys.hasSecret (hw.same .keys rfl)).trans hk⟩

theorem conds_logAlarm (s : State) (i : Nat) (b : Bool) : (s.logAlarm i b).tamp.conds = s.tamp.conds := by
  rw [logAlarm_tamp]

/-- What ends an alarm on battery that has been logged. -/
def State.held (s : State) (rank : Nat) : State := if rank = 7 then s.loseKeys.tamperEvent 7 else if 2 ≤ rank then s.pendRank rank else s

theorem batteryAlarm_eq (s : State) (i : Nat) : s.batteryAlarm i =
    if s.response i = 0 then s.setAsserted i true else ((s.setAsserted i true).logAlarm i true).held (s.response i) := rfl

theorem held_spec (hw : Map.wf s.dict = true) (r : Nat) : Sampling s (s.held r) ∧ (s.held r).tamp = s.tamp ∧ (2 ≤ r → r ≤ 6 → r ≤ (s.held r).rd 0x4020 5) ∧
    (r = 7 → (s.held r).keys.hasSecret = false) := by
  unfold State.held
  split
  · obtain ⟨h1, h2⟩ := tamp_lost s
    exact ⟨.lost, h1, fun _ h => absurd h (by omega), fun _ => h2⟩
  next h7 =>
    split
    · refine ⟨.pendRank hw _, (Within.pendRank (k := parts [.dict]) rfl .refl).same .tamp rfl, fun _ _ => ?_, fun h => absurd h h7⟩
      rw [State.pendRank, State.rd_wr_self hw]
      exact Nat.le_max_right _ _
    next h2 => exact ⟨.refl, rfl, fun h => absurd h h2, fun h => absurd h h7⟩

/-- What an alarm on battery leaves. -/
theorem batteryAlarm_spec (hw : Map.wf s.dict = true) {i : Nat} (h16 : i < 16) : Sampling s (s.batteryAlarm i) ∧
    (s.batteryAlarm i).tamp.conds = (s.tamp.assert i true).conds ∧ (2 ≤ s.response i → s.response i ≤ 6 → s.response i ≤ (s.batteryAlarm i).rd 0x4020 5) ∧
      (s.response i = 7 → (s.batteryAlarm i).keys.hasSecret = false) := by
  have hu : Sampling s (s.setAsserted i true) := .setAsserted
  have hl := hu.trans (.logged (s := s.setAsserted i true) h16)
  have hc := conds_logAlarm (s.setAsserted i true) i true
  have hs : (s.setAsserted i true).tamp.conds = (s.tamp.assert i true).conds := rfl
  rw [batteryAlarm_eq]
  generalize (s.setAsserted i true).logAlarm i true = y at hl hc
  split
  next h0 => exact ⟨hu, hs, fun h => absurd h (by omega), fun h => absurd (h0.symm.trans h) (by decide)⟩
  · obtain ⟨h1, h2, h3, h4⟩ := held_spec (hl.wf hw) (s.response i)
    exact ⟨hl.trans h1, (congrArg Tamper.conds h2).trans (hc.trans hs), h3, h4⟩

/-- What a sample leaves of a source, found in `s`. -/
def SampledAs (seen : List Nat) (s t : State) (i : Nat) : Prop :=
  t.asserted i = (if onBatterySampled i && s.fitted i then seen.contains i else s.asserted i) ∧
    (onBatterySampled i = true → s.fitted i = true → i ∈ seen → s.asserted i = false →
      (2 ≤ s.response i → s.response i ≤ 6 → s.response i ≤ t.rd 0x4020 5) ∧ (s.response i = 7 → t.keys.hasSecret = false))

theorem SampledAs.later {seen : List Nat} {i : Nat} (h : SampledAs seen s t i) (hs : Sampling t u) (ha : u.asserted i = t.asserted i) : SampledAs seen s u i :=
  ⟨ha.trans h.1, fun h1 h2 h3 h4 => ⟨fun h5 h6 => Nat.le_trans ((h.2 h1 h2 h3 h4).1 h5 h6) hs.pending, fun h7 => hs.secret ((h.2 h1 h2 h3 h4).2 h7)⟩⟩

theorem SampledAs.earlier {seen : List Nat} {i : Nat} (h : SampledAs seen t u i) (hs : Sampling s t) (ha : t.asserted i = s.asserted i) : SampledAs seen s u i := by
  unfold SampledAs at *
  rw [hs.fitted, hs.response, ha] at h
  exact h

theorem tamperSample_spec (hw : Map.wf s.dict = true) (seen : List Nat) {i : Nat} (h16 : i < 16) : Sampling s (s.tamperSample seen i) ∧
    (∀ j, j ≠ i → (s.tamperSample seen i).asserted j = s.asserted j) ∧ SampledAs seen s (s.tamperSample seen i) i := by
  have hsame : ∀ u : State, u.tamp.conds = (s.tamp.assert i true).conds → ∀ j, u.asserted j = (s.setAsserted i true).asserted j := fun u hu j => by
    rw [State.asserted, hu]; rfl
  unfold State.tamperSample
  split
  next h =>
    refine ⟨.refl, fun _ _ => rfl, ?_, fun h1 h2 => ?_⟩
    · rw [if_neg]
      rcases h with h | h <;> simp_all
    · rcases h with h | h <;> simp_all
  next h =>
    have hb : onBatterySampled i = true ∧ s.fitted i = true := by simpa using h
    split
    next hn =>
      have hn' : seen.contains i = false := by simpa using hn
      refine ⟨.setAsserted, fun j hj => by rw [asserted_setAsserted, if_neg hj], ?_, fun _ _ hm => ?_⟩
      · rw [asserted_setAsserted, if_pos rfl, hb.1, hb.2, hn']
        rfl
      · rw [List.contains_iff_mem.mpr hm] at hn'
        cases hn'
    next hn =>
      have hn' : seen.contains i = true := by simpa using hn
      split
      next ha =>
        refine ⟨.refl, fun _ _ => rfl, ?_, fun _ _ _ h0 => ?_⟩
        · rw [hb.1, hb.2, hn', ha]
          rfl
        · rw [ha] at h0
          cases h0
      next ha =>
        obtain ⟨h1, h2, h3, h4⟩ := batteryAlarm_spec hw h16
        refine ⟨h1, fun j hj => ?_, ?_, fun _ _ _ _ => ⟨h3, h4⟩⟩
        · rw [hsame _ h2, asserted_setAsserted, if_neg hj]
        · rw [hsame _ h2, asserted_setAsserted, if_pos rfl, hb.1, hb.2, hn']
          rfl

/-- The samples of sources that all differ, one after another. -/
theorem sampleSources_spec (seen : List Nat) : ∀ (l : List Nat), l.Nodup → (∀ i ∈ l, i < 16) → ∀ s : State, Map.wf s.dict = true →
    Sampling s (l.foldl (fun u i => u.tamperSample seen i) s) ∧ (∀ j, j ∉ l → (l.foldl (fun u i => u.tamperSample seen i) s).asserted j = s.asserted j) ∧
      ∀ i ∈ l, SampledAs seen s (l.foldl (fun u i => u.tamperSample seen i) s) i
  | [], _, _, s, _ => ⟨.refl, fun _ _ => rfl, fun _ h => absurd h List.not_mem_nil⟩
  | i :: l, hn, h16, s, hw => by
    obtain ⟨hi, hl⟩ := List.nodup_cons.mp hn
    obtain ⟨h1, h2, h3⟩ := tamperSample_spec hw seen (h16 i List.mem_cons_self)
    obtain ⟨g1, g2, g3⟩ := sampleSources_spec seen l hl (fun j hj => h16 j (List.mem_cons_of_mem _ hj)) (s.tamperSample seen i) (h1.wf hw)
    refine ⟨h1.trans g1, fun j hj => ?_, fun j hj => ?_⟩
    · obtain ⟨hji, hjl⟩ := not_or.mp (mt List.mem_cons.mpr hj)
      exact (g2 j hjl).trans (h2 j hji)
    · rcases List.mem_cons.mp hj with rfl | hj
      · exact h3.later g1 (g2 j hi)
      · exact (g3 j hj).earlier h1 (h2 j fun he => hi (he ▸ hj))

theorem batterySample_goes (hw : Map.wf s.dict = true) (hb : s.clk.onBattery = true) (seen : List Nat) : GoesTo (exec (.batterySample seen) s) (fun t =>
    (∀ i, i < 16 → t.asserted i = (if onBatterySampled i && s.fitted i then seen.contains i else s.asserted i)) ∧
      (∀ i, i < 16 → onBatterySampled i = true → s.fitted i = true → i ∈ seen → s.asserted i = false →
        (2 ≤ s.response i → s.response i ≤ 6 → s.response i ≤ t.rd 0x4020 5) ∧ (s.response i = 7 → t.keys.hasSecret = false)) ∧
      t.phase = s.phase ∧ t.clk = s.clk) := by
  obtain ⟨h, -, hi⟩ := sampleSources_spec seen (List.range 16) List.nodup_range (fun i hi => List.mem_range.mp hi) s hw
  exact ⟨_, execBatterySample_eq seen hb, fun i h16 => (hi i (List.mem_range.mpr h16)).1, fun i h16 => (hi i (List.mem_range.mpr h16)).2, h.phase, h.clk⟩

/-! ### TAMPER_HOLD -/

/-- A sample of a hold has been counted. -/
def State.clearRun (s : State) (n : Nat) : State := { s with tamp := { s.tamp with clear := n } }

theorem execTamperHoldSample_held {n : Nat} (hp : s.phase = .hold n) (hg : s.clk.gated = false) : exec .tamperHoldSample s =
    .next (if (if s.holdAsserted then 0 else s.tamp.clear + 1) < 100 then s.clearRun (if s.holdAsserted then 0 else s.tamp.clear + 1)
      else (s.clearRun (if s.holdAsserted then 0 else s.tamp.clear + 1)).startRest) := by
  show execTamperHoldSample s = _
  unfold execTamperHoldSample
  split
  · exact when_of_true (by rw [hg]; rfl)
  next h => exact absurd hp (h n)

theorem startRest_tamp (s : State) : s.startRest.tamp.restarted = [] ∧ s.startRest.tamp.clear = 0 := by
  rw [State.startRest_eq]
  exact ⟨rfl, rfl⟩

/-! ### The obligation -/

/-- Settles O51: alarms on main power and on battery, and the samples of a hold. -/
theorem tamperEventsComplete : Obligations.TamperEventsComplete := by
  unfold Obligations.TamperEventsComplete
  refine ⟨fun s src hf hb hw hc => ?_, fun s hw => ⟨fun src h16 ha => ?_, fun seen hb => batterySample_goes hw hb seen, fun hb seen => when_of_false hb,
    fun n hp hg => ⟨fun ha => ?_, fun ha hn => ?_, fun ha hn => ?_⟩⟩⟩
  · have h16 : src < 16 := by
      rw [State.fitted, Bool.and_eq_true, decide_eq_true_eq] at hf
      exact hf.1
    refine ⟨fun h0 => ?_, fun hr => alarm_low hw h16 hr hf hb, fun h3 hle => alarm_below h3 hle hf hb, fun hlt hp hg =>
      ⟨fun hr => alarm_aborts hw hc h16 hp hg hr hlt hf hb, fun h5 _ => alarm_resets hw hp hg h5 hlt hf hb⟩, fun hlt hp h3 h6 => alarm_pends hw h16 hp h3 h6 hlt hf hb,
      fun hlt hp hg h3 _ => alarm_gated hw h16 hp hg h3 hlt hf hb⟩
    exact (tamperAlarm_goes hf hb).trans (congrArg _ ((alarm_eq s src).trans (if_pos h0)))
  · exact when_of_true (by rw [decide_eq_true h16, ha]; rfl)
  · rw [execTamperHoldSample_held hp hg, ha]
    rfl
  · rw [execTamperHoldSample_held hp hg, ha]
    exact congrArg _ (if_pos (show s.tamp.clear + 1 < 100 by omega))
  · obtain ⟨h1, -, -, h4, -⟩ := startRest_spec (s.clearRun (s.tamp.clear + 1))
    obtain ⟨h2, h3⟩ := startRest_tamp (s.clearRun (s.tamp.clear + 1))
    refine ⟨(s.clearRun (s.tamp.clear + 1)).startRest, ?_, h1, h4, h2, h3⟩
    rw [execTamperHoldSample_held hp hg, ha]
    exact congrArg _ (if_neg (show ¬ s.tamp.clear + 1 < 100 by omega))

end Machine
end Sys2Proof
end

section
/-! Fuses, the effects of transitions, and ENROL (04 R96-R98, 18 R392-R399). -/

namespace Sys2Proof
namespace Machine

variable {s t u : State} {code : Nat}

/-! ### Fuses -/

theorem segSet_fill (w seg : Nat) : segSet (w + (0xFFFF - segOf w seg) * 2 ^ (16 * seg)) seg = true := by
  have hlt : w / 2 ^ (16 * seg) % 65536 < 65536 := Nat.mod_lt _ (by decide)
  unfold segSet segOf
  rw [Nat.add_mul_div_right _ _ (by positivity)]
  simp only [beq_iff_eq]
  omega

/-- A segment that is programmed reads so, every programmed one still does, and nothing else of the life cycle changes. -/
theorem lc_burn (s : State) (seg : Nat) : segSet (s.burn seg).lc.fuses seg = true ∧ (∀ i, segSet s.lc.fuses i = true → segSet (s.burn seg).lc.fuses i = true) ∧
    (s.burn seg).lc = { s.lc with fuses := (s.burn seg).lc.fuses } := by
  unfold State.burn
  split
  next h => exact ⟨h, fun _ h => h, rfl⟩
  next h =>
    refine ⟨segSet_fill _ _, fun i hi => ?_, rfl⟩
    have hne : i ≠ seg := fun e => h (e ▸ hi)
    exact (congrArg (· == 0xFFFF) (segOf_fill hne)).trans hi

/-- What the end of a programming leaves of the life cycle. -/
structure Burnt (s t : State) (code : Nat) : Prop where
  segment : segSet t.lc.fuses (segmentOf s.lc.fuses code) = true
  prog : t.lc.prog = none
  kept : ∀ i, segSet s.lc.fuses i = true → segSet t.lc.fuses i = true
  root : code = 4 → ∀ b rest, s.ent.pool = b :: rest → t.lc.dur = b

theorem Burnt.congr (h : Burnt s t code) (hf : u.lc.fuses = t.lc.fuses) (hp : u.lc.prog = t.lc.prog) (hd : u.lc.dur = t.lc.dur) : Burnt s u code :=
  ⟨hf ▸ h.segment, hp.trans h.prog, fun i hi => hf ▸ h.kept i hi, fun h4 b rest hb => hd.trans (h.root h4 b rest hb)⟩

/-- DUR comes from a conditioned block. -/
def State.rootTaken (s : State) : State := { s.takeBlock.1 with lc := { s.takeBlock.1.lc with dur := s.takeBlock.2 } }

/-- The programmer is idle again. -/
def State.fuseIdle (s : State) : State := { s with lc := { s.lc with prog := none } }

theorem programmed_eq (h12 : code ≠ 12) : s.programmed code =
    ((if code = 4 then s.rootTaken else s).burn (segmentOf (if code = 4 then s.rootTaken else s).lc.fuses code)).fuseIdle := by
  unfold State.programmed
  extract_lets r l1 l2 x y
  have hx : x = if code = 4 then s.rootTaken else s := rfl
  have hy : y = x.burn (segmentOf x.lc.fuses code) := if_neg h12
  rw [← hx, ← hy]
  rfl

theorem rootTaken_lc (s : State) : s.rootTaken.lc = { s.lc with dur := s.takeBlock.2 } := by
  have h : s.takeBlock.1.lc = s.lc := (Within.takeBlock (k := parts [.free, .ent]) rfl .refl).same .lc rfl
  unfold State.rootTaken
  rw [h]

theorem takeBlock_block {b : Nat} {rest : List Nat} (h : s.ent.pool = b :: rest) : s.takeBlock.2 = b := by
  unfold State.takeBlock
  rw [h]

theorem programmed_spec (h12 : code ≠ 12) : Burnt s (s.programmed code) code ∧ (s.programmed code).lc.record = s.lc.record ∧
    Within (parts [.free, .ent, .lc]) s (s.programmed code) := by
  have hroot : Within (parts [.free, .ent, .lc]) s s.rootTaken := by
    unfold State.rootTaken
    exact .setLc rfl (.takeBlock rfl .refl) rfl
  have hin : Within (parts [.free, .ent, .lc]) s (s.programmed code) := by
    rw [programmed_eq h12]
    unfold State.fuseIdle
    exact .setLc rfl (.burn rfl (.ite hroot .refl)) rfl
  obtain ⟨h1, h2, h3⟩ := lc_burn (if code = 4 then s.rootTaken else s) (segmentOf (if code = 4 then s.rootTaken else s).lc.fuses code)
  have hf : (if code = 4 then s.rootTaken else s).lc.fuses = s.lc.fuses ∧ (if code = 4 then s.rootTaken else s).lc.record = s.lc.record := by
    split
    · rw [rootTaken_lc]; exact ⟨rfl, rfl⟩
    · exact ⟨rfl, rfl⟩
  rw [programmed_eq h12] at hin ⊢
  refine ⟨⟨?_, rfl, fun i hi => ?_, fun h4 b rest hb => ?_⟩, ?_, hin⟩
  · rw [← hf.1]
    exact h1
  · exact h2 i (hf.1.symm ▸ hi)
  · refine (congrArg LifeCycle.dur h3).trans ?_
    show (if code = 4 then s.rootTaken else s).lc.dur = b
    rw [if_pos h4, rootTaken_lc]
    exact takeBlock_block hb
  · exact (congrArg LifeCycle.record h3).trans hf.2

/-! ### Effects -/

theorem owned_dict (s : State) : Touches (fun i => i = 0x1030) s s.owned := by
  have hstep : ∀ (u : State) n, (u.closeEnrol n).dict = u.dict := fun u n => by
    unfold State.closeEnrol
    split
    · split
      · extract_lets v
        have hv : v.dict = u.dict := State.dict_finish_quiet u _ (status := 0) rfl
        split
        · exact hv
        · exact hv
      · rfl
    · rfl
  have h0 : Touches (fun i => i = 0x1030) s (s.wr 0x1030 4 (time80 s.clk.datum)) := Touches.refl.wr rfl (by decide)
  exact .foldl h0 fun u n hu => hu.dict (hstep u n)

/-- The effects of the transitions that no reset follows. -/
theorem lcEffects_stays (hc : code ∈ [1, 2, 3, 5, 11]) : (s.lcEffects code).lc = s.lc ∧ (s.lcEffects code).trav = s.trav ∧
    Touches (fun i => i = 0x1030) s (s.lcEffects code) := by
  have ho : Within (parts [.dict, .dtx, .tx, .waits, .chans, .jobs, .units, .clus]) s s.owned := .owned rfl .refl
  simp only [List.mem_cons, List.not_mem_nil, or_false] at hc
  rcases hc with rfl | rfl | rfl | rfl | rfl
  · exact ⟨rfl, rfl, .of_dict rfl⟩
  · exact ⟨rfl, rfl, .of_dict rfl⟩
  · exact ⟨rfl, rfl, .of_dict rfl⟩
  · exact ⟨ho.same .lc rfl, ho.same .trav rfl, owned_dict s⟩
  · exact ⟨rfl, rfl, .refl⟩

/-- What the transitions that end in a warm reset erase. -/
structure Erased (s t : State) (code : Nat) : Prop where
  recs : t.keys.recs = []
  secret : t.keys.secret = 0
  hasSecret : t.keys.hasSecret = false
  bound : t.kern.bound = []
  archive : code = 4 → t.trav.archive = []
  fuses : t.lc.fuses = s.lc.fuses
  prog : t.lc.prog = s.lc.prog
  dur : t.lc.dur = s.lc.dur
  wf : Map.wf s.dict = true → Map.wf t.dict = true

theorem Erased.within {k : Parts} (h : Erased s t code) (hk : covers k (parts [.dict, .dtx, .rwork]) = true) (hw : Within k t u) : Erased s u code := by
  have hw' := hw.mono hk
  have hkeys : u.keys = t.keys := hw'.same .keys rfl
  have hkern : u.kern = t.kern := hw'.same .kern rfl
  have htrav : u.trav = t.trav := hw'.same .trav rfl
  have hlc : u.lc = t.lc := hw'.same .lc rfl
  exact ⟨by rw [hkeys, h.recs], by rw [hkeys, h.secret], by rw [hkeys, h.hasSecret], by rw [hkern, h.bound], fun h4 => by rw [htrav, h.archive h4], by rw [hlc, h.fuses],
    by rw [hlc, h.prog], by rw [hlc, h.dur], fun hs => hw'.2.dict (h.wf hs)⟩

theorem lcEffects_erases (hc : code ∈ [4, 6, 7, 8, 9, 10]) : Erased s (s.lcEffects code) code := by
  have hf : ∀ u : State, ∀ keep, (((u.forgetKeys.defaults keep).forgetKernels).forgetGroup).keys.recs = [] ∧ (((u.forgetKeys.defaults keep).forgetKernels).forgetGroup).keys.secret = 0 ∧
      (((u.forgetKeys.defaults keep).forgetKernels).forgetGroup).keys.hasSecret = false ∧ (((u.forgetKeys.defaults keep).forgetKernels).forgetGroup).kern.bound = [] ∧
      (((u.forgetKeys.defaults keep).forgetKernels).forgetGroup).lc = u.lc := fun u keep => ⟨rfl, rfl, rfl, rfl, rfl⟩
  have hd : ∀ keep, Map.wf s.dict = true → Map.wf (((s.forgetKeys.defaults keep).forgetKernels).forgetGroup).dict = true := fun keep hw => Map.wf_filter _ _ hw
  have he : ∀ keep, code ≠ 4 → Erased s (((s.forgetKeys.defaults keep).forgetKernels).forgetGroup) code := fun keep h4 => by
    obtain ⟨h1, h2, h3, h5, h6⟩ := hf s keep
    exact ⟨h1, h2, h3, h5, fun h => absurd h h4, by rw [h6], by rw [h6], by rw [h6], hd keep⟩
  simp only [List.mem_cons, List.not_mem_nil, or_false] at hc
  rcases hc with rfl | rfl | rfl | rfl | rfl | rfl
  · exact ⟨rfl, rfl, rfl, rfl, fun _ => rfl, rfl, rfl, rfl, fun hw => Map.wf_filter _ _ (Map.wf_filter _ _ hw)⟩
  · exact he keptAtRelease (by decide)
  · exact he (fun _ => false) (by decide)
  · exact he (fun _ => false) (by decide)
  · exact he (fun _ => false) (by decide)
  · exact he (fun _ => false) (by decide)

/-! ### The record is resolved -/

/-- The pending record is cleared. -/
def State.recordCleared (s : State) (l : LifeCycle) : State := { s with lc := { l with record := none } }

/-- LC_STATUS reads DONE. -/
def State.lcDone (s : State) : State := { s with lc := { s.lc with result := 2 } }

/-- A transition whose effects are carried out and recorded. -/
def State.transited (s : State) (r : Nat × Nat × Nat × Nat) : State :=
  (((s.lcEffects r.1).record 6 2 r.2.1 r.2.2.1 1 r.2.2.2).recordCleared (s.lcEffects r.1).lc).event 0x5000 6 1 |>.lcDone

theorem transited_lc (s : State) (r : Nat × Nat × Nat × Nat) : (s.transited r).lc = { (s.lcEffects r.1).lc with record := none, result := 2 } := rfl

theorem transited_within (s : State) (r : Nat × Nat × Nat × Nat) : Within (parts [.dict, .dtx, .rwork, .trav, .lc]) (s.lcEffects r.1) (s.transited r) := by
  have hr : Within (parts [.dict, .dtx, .rwork, .trav, .lc]) (s.lcEffects r.1) ((s.lcEffects r.1).record 6 2 r.2.1 r.2.2.1 1 r.2.2.2) := .record rfl .refl
  have hlc : ((s.lcEffects r.1).record 6 2 r.2.1 r.2.2.1 1 r.2.2.2).lc = (s.lcEffects r.1).lc :=
    (Within.record (k := parts [.dict, .dtx, .rwork, .trav]) rfl .refl).same .lc rfl
  unfold State.transited State.lcDone
  refine .setLc rfl (.event rfl ?_) rfl
  unfold State.recordCleared
  exact .setLc rfl hr (by rw [hlc])

theorem execFuseProgramDone_eq {r : Nat × Nat × Nat × Nat} (hp : s.lc.prog = some code) (hr : s.lc.record = some r) : exec .fuseProgramDone s =
    if s.phase = .up ∧ s.clk.gated then .next s
    else if s.phase ≠ .up then .next (s.programmed code)
    else .next (if resetsAfter code then ((s.programmed code).transited r).warmReset 5 else (s.programmed code).transited r) := by
  show execFuseProgramDone s = _
  unfold execFuseProgramDone
  rw [hp, hr]
  rfl

theorem resetsAfter_false : ∀ c ∈ [1, 2, 3, 5, 11], resetsAfter c = false := by decide

theorem resetsAfter_true : ∀ c ∈ [4, 6, 7, 8, 9, 10], resetsAfter c = true := by decide

theorem runs_iff (h : s.runs = true) : s.phase = .up ∧ s.clk.gated = false := by
  rw [State.runs, Bool.and_eq_true, Bool.not_eq_true'] at h
  exact ⟨beq_iff_eq.mp h.1, h.2⟩

/-- The transitions that no reset follows. -/
theorem fuseDone_stays {r : Nat × Nat × Nat × Nat} (hw : Map.wf s.dict = true) (hp : s.lc.prog = some code) (hr : s.lc.record = some r) (h1 : r.1 = code)
    (hs : s.runs = true) (hc : code ∈ [1, 2, 3, 5, 11]) : GoesTo (exec .fuseProgramDone s) (fun t => Burnt s t code ∧ t.lc.record = none ∧ t.lc.result = 2 ∧
      t.phase = .up ∧ t.rd 0x5000 6 = eventAdd (s.rd 0x5000 6) 1 ∧ Recorded s t 6 2 r.2.1 r.2.2.1 1 r.2.2.2) := by
  have h12 : code ≠ 12 := fun h => by subst h; revert hc; decide
  have hna : resetsAfter code = false := resetsAfter_false _ hc
  obtain ⟨hup, hg⟩ := runs_iff hs
  obtain ⟨hb, -, hin⟩ := programmed_spec (s := s) h12
  obtain ⟨hlc, htrav, hto⟩ := lcEffects_stays (s := s.programmed code) (h1.symm ▸ hc : r.1 ∈ _)
  have hpd : (s.programmed code).dict = s.dict := hin.same .dict rfl
  have hbr : Touches (fun i => i = 0x1030 ∨ i = 0x3800) (s.programmed code) (((s.programmed code).lcEffects r.1).record 6 2 r.2.1 r.2.2.1 1 r.2.2.2) :=
    (hto.mono fun _ h => .inl h).record (.inr rfl)
  have heff : Within (ending ||| parts [.kern, .trav, .grp, .lc, .tamp]) (s.programmed code) ((s.programmed code).lcEffects r.1) := .lcEffects rfl .refl
  have htr := transited_within (s.programmed code) r
  have hph : ((s.programmed code).transited r).phase = .up := (htr.same .phase rfl).trans ((heff.same .phase rfl).trans ((hin.same .phase rfl).trans hup))
  have hl := transited_lc (s.programmed code) r
  rw [hlc] at hl
  refine ⟨(s.programmed code).transited r, ?_, hb.congr (by rw [hl]) (by rw [hl]) (by rw [hl]), by rw [hl], by rw [hl], hph, ?_, ?_⟩
  · rw [execFuseProgramDone_eq hp hr, if_neg (by rw [hg]; simp), if_neg (not_not.mpr hup), hna]
    rfl
  · have hwb := hbr.wf (hpd.symm ▸ hw)
    refine (State.rd_wr_self (s := (((s.programmed code).lcEffects r.1).record 6 2 r.2.1 r.2.2.1 1 r.2.2.2).recordCleared _) hwb _ _ _).trans ?_
    refine congrArg (eventAdd · 1) ((hbr.rd _ _ (by decide) (by decide)).trans (State.rd_congr hpd _ _))
  · have ht : ((s.programmed code).lcEffects r.1).trav = s.trav := htrav.trans (hin.same .trav rfl)
    have hclk : ((s.programmed code).lcEffects r.1).clk = s.clk := (heff.same .clk rfl).trans (hin.same .clk rfl)
    exact (record_recorded ((s.programmed code).lcEffects r.1) 6 2 r.2.1 r.2.2.1 1 r.2.2.2).mono (congrArg Traverse.pending ht) (congrArg Traverse.ring ht)
      (congrArg Traverse.nextSeq ht) (congrArg Traverse.epoch ht) (congrArg Clocks.datum hclk) rfl rfl

/-- The traverse, where a record is appended. -/
def State.travWith (s : State) (b : Bench) : Traverse :=
  { s.trav with
    ring := trimRing b.slots s.trav.ring ++ [b]
    nextSeq := s.trav.nextSeq + 1
    headHash := b.hash
    epochRecords := s.trav.epochRecords + b.slots
    signing := s.trav.signing || b.kind == 0x0C
    epochHasCheckpoint := s.trav.epochHasCheckpoint || b.kind == 0x0C
    demand := if b.kind == 0x0C && bitAt b.region 2 then s.trav.demand.map (fun (d : JobRef × Option Nat) => (d.1, some (d.2.getD b.seq))) else s.trav.demand }

theorem travOf_append (s : State) (b : Bench) : (s.append b).trav = s.travWith (s.appended b) := by
  unfold State.append
  extract_lets y c z v w
  have hw : w.trav = v.trav := by
    show (if c = true then _ else v).trav = v.trav
    split
    · exact (Within.event (k := Machine.parts [.dict, .dtx, .rwork]) rfl (.enqueueReserve rfl .refl)).same .trav rfl
    · rfl
  have ht : (if w.ringFull 1 = true then w.event 0x3800 0xA 4 else w).trav = v.trav := by
    split
    · exact hw
    · exact hw
  exact ht.trans rfl

theorem archive_append (s : State) (b : Bench) : (s.append b).trav.archive = s.trav.archive := by
  rw [travOf_append]
  rfl

theorem archive_bench (s : State) (kind verdict channel region flags digest sigSlots : Nat) :
    (s.bench kind verdict channel region flags digest sigSlots).trav.archive = s.trav.archive := by
  unfold State.bench
  extract_lets b
  split
  · exact archive_append _ _
  · rfl

theorem archive_record (s : State) (kind verdict channel region flags digest : Nat) : (s.record kind verdict channel region flags digest).trav.archive = s.trav.archive := by
  unfold State.record
  extract_lets v
  have hv : v.trav.archive = s.trav.archive := archive_bench ..
  split
  · unfold State.checkpoint
    split
    · exact hv
    · exact (archive_bench ..).trans hv
  · exact hv

/-- The transitions that end in a warm reset. -/
theorem fuseDone_resets {r : Nat × Nat × Nat × Nat} (hw : Map.wf s.dict = true) (hp : s.lc.prog = some code) (hr : s.lc.record = some r) (h1 : r.1 = code)
    (hs : s.runs = true) (hc : code ∈ [4, 6, 7, 8, 9, 10]) : GoesTo (exec .fuseProgramDone s) (fun t => Burnt s t code ∧ t.lc.record = none ∧ t.phase = .down ∧
      t.rd 0x1201 1 = 5 ∧ t.keys.recs = [] ∧ t.keys.secret = 0 ∧ t.keys.hasSecret = false ∧ t.kern.bound = [] ∧ (code = 4 → t.trav.archive = [])) := by
  have h12 : code ≠ 12 := fun h => by subst h; revert hc; decide
  have hna : resetsAfter code = true := resetsAfter_true _ hc
  obtain ⟨hup, hg⟩ := runs_iff hs
  obtain ⟨hb, -, hin⟩ := programmed_spec (s := s) h12
  have he := lcEffects_erases (s := s.programmed code) (h1.symm ▸ hc : r.1 ∈ _)
  have heff : Within (ending ||| parts [.kern, .trav, .grp, .lc, .tamp]) (s.programmed code) ((s.programmed code).lcEffects r.1) := .lcEffects rfl .refl
  have htr := transited_within (s.programmed code) r
  have hl := transited_lc (s.programmed code) r
  have hpd : (s.programmed code).dict = s.dict := hin.same .dict rfl
  have hkeys : ((s.programmed code).transited r).keys = ((s.programmed code).lcEffects r.1).keys := htr.same .keys rfl
  have hkern : ((s.programmed code).transited r).kern = ((s.programmed code).lcEffects r.1).kern := htr.same .kern rfl
  have harch : ((s.programmed code).transited r).trav.archive = ((s.programmed code).lcEffects r.1).trav.archive := archive_record ..
  have hph : ((s.programmed code).transited r).phase = .up := (htr.same .phase rfl).trans ((heff.same .phase rfl).trans ((hin.same .phase rfl).trans hup))
  have hclk : ((s.programmed code).transited r).clk = s.clk := (htr.same .clk rfl).trans ((heff.same .clk rfl).trans (hin.same .clk rfl))
  have hwf : Map.wf ((s.programmed code).transited r).dict = true := htr.2.dict (he.wf (hpd.symm ▸ hw))
  have hb' : Burnt s ((s.programmed code).transited r) code := hb.congr (by rw [hl]; exact he.fuses) (by rw [hl]; exact he.prog) (by rw [hl]; exact he.dur)
  have hrec : ((s.programmed code).transited r).lc.record = none := by rw [hl]
  have hex : exec .fuseProgramDone s = .next (((s.programmed code).transited r).warmReset 5) := by
    rw [execFuseProgramDone_eq hp hr, if_neg (by rw [hg]; simp), if_neg (not_not.mpr hup), hna]
    rfl
  generalize (s.programmed code).transited r = u at hex hb' hrec hph hclk hwf hkeys hkern harch
  have hn : ¬ (u.phase = .down ∧ u.rd 0x1201 1 = 0) := fun h => by rw [hph] at h; exact Phase.noConfusion h.1
  have hgu : u.clk.gated = false := (congrArg Clocks.gated hclk).trans hg
  have hcl := Within.clearLogic_warmReset hn hgu 5
  have hlc : (u.warmReset 5).lc = (u.clearLogic false).lc := hcl.same .lc rfl
  have hk : (u.warmReset 5).keys = (u.clearLogic false).keys := hcl.same .keys rfl
  have hkn : (u.warmReset 5).kern = (u.clearLogic false).kern := hcl.same .kern rfl
  have hcf : (u.clearLogic false).lc.fuses = u.lc.fuses ∧ (u.clearLogic false).lc.prog = u.lc.prog ∧ (u.clearLogic false).lc.dur = u.lc.dur ∧
      (u.clearLogic false).lc.record = u.lc.record ∧ (u.clearLogic false).keys.recs = u.keys.recs ∧ (u.clearLogic false).kern.bound = u.kern.bound :=
    ⟨rfl, rfl, rfl, rfl, rfl, rfl⟩
  obtain ⟨c1, c2, c3, c4, c5, c6⟩ := hcf
  obtain ⟨c7, c8⟩ := secret_clearLogic u
  obtain ⟨-, -, -, ha, -⟩ := warmReset_spec hwf hn hgu 5
  exact ⟨_, hex, hb'.congr (by rw [hlc, c1]) (by rw [hlc, c2]) (by rw [hlc, c3]), by rw [hlc, c4, hrec], State.phase_warmReset hn hgu 5,
    State.rd_warmReset_cause hn hgu hwf 5, by rw [hk, c5, hkeys, he.recs], by rw [hk, c7, hkeys, he.secret], by rw [hk, c8, hkeys, he.hasSecret],
    by rw [hkn, c6, hkern, he.bound], fun h4 => by rw [ha, harch, he.archive (h1.trans h4), List.map_nil]⟩

/-! ### ENROL -/

section
variable {r : JobRef} {x : Job} {c : Channel} {st : Nat}

theorem control_spec {op : Nat} (h : s.control r op = some (x, c)) : s.findJob r = some x ∧ Map.find s.chans r.chan = some c ∧ x.kind = 0x5 ∧ x.state = .queued ∧
    s.inHand x = false := by
  unfold State.control at h
  split at h
  next y d hy hd =>
    split at h
    next hc =>
      obtain ⟨hk, -, hq, -, -, hh, -⟩ := hc
      obtain ⟨rfl, rfl⟩ := Prod.mk.inj (Option.some.inj h)
      rw [State.isHead, Bool.and_eq_true, Bool.and_eq_true, Bool.not_eq_true'] at hh
      exact ⟨hy, hd, hk, hq, hh.1.2⟩
    · cases h
  · cases h

/-- A control message that is not in hand is no enrolment that its channel waits for. -/
theorem enrolSeq_ne (hj : s.findJob r = some x) (hc : Map.find s.chans r.chan = some c) (hk : x.kind = 0x5) (hn : s.inHand x = false) : c.enrolSeq ≠ some r.seq := fun h => by
  have hr := State.ref_of_findJob hj
  have hch : x.chan = r.chan := congrArg JobRef.chan hr
  have hs : x.seq = r.seq := congrArg JobRef.seq hr
  rw [State.inHand, Job.scheduled, hk, hch, hc, hs] at hn
  dsimp only at hn
  rw [h] at hn
  simp at hn

/-- A control message is refused. -/
theorem control_refused (hj : s.findJob r = some x) (hl : x.live = true) (hk : x.kind = 0x5) (hu : uncached st = false) (hf : isFaultStatus st = false) :
    JobDone (s.finish r st 0 [] none) r st 0 [] x.key ∧ (s.finish r st 0 [] none).lc = s.lc ∧ (s.finish r st 0 [] none).dict = s.dict := by
  obtain ⟨h, -⟩ := State.finish_jobs (status := st) (detail := 0) (result := []) (key := none) hj hl hu
  have hout : s.resultOf x.kind st [] = [] := if_neg fun h => by rw [hk] at h; exact absurd h.1 (by decide)
  exact ⟨⟨_, h, rfl, rfl, rfl, hout, rfl, rfl⟩, (Within.finish (k := ending) rfl .refl).same .lc rfl, State.dict_finish_quiet s r hf⟩

theorem failToken_frame (s : State) : s.failToken.lc = s.lc ∧ s.failToken.jobs = s.jobs := ⟨rfl, rfl⟩

/-- The credential and the time of an enrolment are written. -/
def State.credentialed (s : State) (b : Bytes) : State := ((s.wr 0x1800 0x20 (fieldAt b 48 48)).wr 0x1800 0x21 (0x100 + fieldAt b 96 1)).wr 0x1030 3 (fieldAt b 48 48)

/-- The BBRAM secret is new, and the channel waits for the enrolment's end. -/
def State.secretFrom (s : State) (p : State × Nat) (r : JobRef) (c : Channel) : State :=
  { p.1 with keys := { p.1.keys with secret := p.2, hasSecret := true }, chans := Map.put s.chans r.chan { c with enrolSeq := some r.seq } }

theorem rd_credentialed (hw : Map.wf s.dict = true) (b : Bytes) : (s.credentialed b).rd 0x1800 0x20 = fieldAt b 48 48 ∧
    (s.credentialed b).rd 0x1800 0x21 = 0x100 + fieldAt b 96 1 ∧ (s.credentialed b).rd 0x1030 3 = fieldAt b 48 48 := by
  have h1 : Map.wf (s.wr 0x1800 0x20 (fieldAt b 48 48)).dict = true := State.wf_wr hw _ _ _
  have h2 : Map.wf ((s.wr 0x1800 0x20 (fieldAt b 48 48)).wr 0x1800 0x21 (0x100 + fieldAt b 96 1)).dict = true := State.wf_wr h1 _ _ _
  refine ⟨?_, ?_, State.rd_wr_self h2 _ _ _⟩
  · exact (State.rd_wr_of_sub _ (by decide) (by decide) (.inl (by decide))).trans ((State.rd_wr_of_sub _ (by decide) (by decide) (.inr (by decide))).trans
      (State.rd_wr_self hw _ _ _))
  · exact (State.rd_wr_of_sub _ (by decide) (by decide) (.inl (by decide))).trans (State.rd_wr_self h1 _ _ _)

theorem enrolled_eq (s : State) (m : Move) (b : Bytes) : s.enrolled m r c b =
    ((s.credentialed b).takeBlock.1.secretFrom (s.credentialed b).takeBlock r c).startFuse m (sha3 b) := rfl

/-- What an accepted ENROL leaves. -/
theorem enrolled_spec (hw : Map.wf s.dict = true) (m : Move) (b : Bytes) :
    (s.enrolled m r c b).rd 0x1800 0x20 = fieldAt b 48 48 ∧ (s.enrolled m r c b).rd 0x1800 0x21 = 0x100 + fieldAt b 96 1 ∧
      (s.enrolled m r c b).rd 0x1030 3 = fieldAt b 48 48 ∧ (s.enrolled m r c b).keys.hasSecret = true ∧
      Map.find (s.enrolled m r c b).chans r.chan = some { c with enrolSeq := some r.seq } ∧ (s.enrolled m r c b).jobs = s.jobs ∧
      (s.enrolled m r c b).lc = { s.lc with result := 1, prog := some m.code, record := some (m.code, s.lifecycle, m.target, sha3 b) } := by
  obtain ⟨h1, h2, h3⟩ := rd_credentialed hw b
  have hin : Within (parts [.free, .dict, .ent]) s (s.credentialed b).takeBlock.1 := by
    unfold State.credentialed
    exact .takeBlock rfl (.wr rfl (.wr rfl (.wr rfl .refl)))
  have hd : (s.credentialed b).takeBlock.1.dict = (s.credentialed b).dict := (Within.takeBlock (k := parts [.free, .ent]) rfl .refl).same .dict rfl
  have hj : (s.credentialed b).takeBlock.1.jobs = s.jobs := hin.same .jobs rfl
  have hl : (s.credentialed b).takeBlock.1.lc = s.lc := hin.same .lc rfl
  rw [enrolled_eq]
  generalize (s.credentialed b).takeBlock = p at hd hj hl
  refine ⟨(State.rd_congr hd _ _).trans h1, (State.rd_congr hd _ _).trans h2, (State.rd_congr hd _ _).trans h3, rfl, Map.find_put_self .., hj, ?_⟩
  show { p.1.lc with record := some (m.code, p.1.lifecycle, m.target, sha3 b), prog := some m.code, result := 1 } = _
  rw [State.lifecycle, hl]
  rfl

/-- An ENROL at the head of its queue is refused or accepted. -/
theorem execEnrol_of (h : s.control r 7 = some (x, c)) : exec (.enrol r) s =
    (let b := x.payload
     let set := fieldAt b 96 1
     let refuse := fun (u : State) (st : Nat) => Host.Outcome.next (u.finish r st 0 [] none)
     if b.length < 128 ∨ set = 0 ∨ 3 < set ∨ !zeros (slice b 97 15) then refuse s 0x26
     else if s.lifecycle = 4 then refuse s (if fieldAt b 48 48 = s.rd 0x1800 0x20 then 0x01 else 0x15)
     else match s.lcMove 5 with
       | none => refuse s 0x15
       | some m =>
         if fieldAt b 0 48 ≠ s.identity ∨ !s.enrolSigned c b then refuse s 0x15
         else if s.lockedOut ∨ s.lc.prog.isSome then refuse s 0x72
         else if !s.tokenOk (m.slot.getD 0) (slice b 112 16) then refuse s.failToken 0x15
         else if !s.fusePower then refuse s 0x72
         else .next (s.enrolled m r c b)) := by
  obtain ⟨hj, hc, hk, -, hh⟩ := control_spec h
  show execEnrol r s = _
  unfold execEnrol
  rw [h]
  exact if_neg (enrolSeq_ne hj hc hk hh)

theorem enrol_goes (hw : Map.wf s.dict = true) (h : s.control r 7 = some (x, c)) : GoesTo (exec (.enrol r) s) (fun t =>
    let b := x.payload
    let set := fieldAt b 96 1
    let refused := fun (st : Nat) => JobDone t r st 0 [] x.key ∧ t.lc = s.lc
    if b.length < 128 ∨ set = 0 ∨ 3 < set ∨ zeros (slice b 97 15) = false then refused 0x26
    else if s.lifecycle = 4 then refused (if fieldAt b 48 48 = s.rd 0x1800 0x20 then 0x01 else 0x15)
    else match s.lcMove 5 with
      | none => refused 0x15
      | some m =>
        if fieldAt b 0 48 ≠ s.identity ∨ s.enrolSigned c b = false then refused 0x15
        else if 8 ≤ s.rd 0x5000 5 ∨ s.lc.prog.isSome then refused 0x72
        else if s.tokenOk (m.slot.getD 0) (slice b 112 16) = false then refused 0x15 ∧ t.rd 0x5000 5 = s.rd 0x5000 5 + 1
        else if s.fusePower = false then refused 0x72
        else t.rd 0x1800 0x20 = fieldAt b 48 48 ∧ t.rd 0x1800 0x21 = 0x100 + set ∧ t.rd 0x1030 3 = fieldAt b 48 48 ∧ t.keys.hasSecret = true ∧
          Map.find t.chans r.chan = some { c with enrolSeq := some r.seq } ∧ t.jobs = s.jobs ∧
          t.lc = { s.lc with result := 1, prog := some m.code, record := some (m.code, s.lifecycle, m.target, sha3 b) }) := by
  obtain ⟨hj, -, hk, hq, -⟩ := control_spec h
  have hl := Job.live_of_queued hq
  have hex := execEnrol_of h
  extract_lets b set refuse at hex
  have href : ∀ st, uncached st = false → isFaultStatus st = false → JobDone (s.finish r st 0 [] none) r st 0 [] x.key ∧ (s.finish r st 0 [] none).lc = s.lc :=
    fun st hu hf => let ⟨h1, h2, _⟩ := control_refused hj hl hk hu hf; ⟨h1, h2⟩
  by_cases h1 : b.length < 128 ∨ set = 0 ∨ 3 < set ∨ zeros (slice b 97 15) = false
  · refine ⟨_, hex.trans (if_pos (by simpa using h1)), ?_⟩
    exact (if_pos h1).mpr (href 0x26 rfl rfl)
  replace hex := hex.trans (if_neg (by simpa using h1))
  by_cases h2 : s.lifecycle = 4
  · refine ⟨_, hex.trans (if_pos h2), ?_⟩
    refine (if_neg h1).mpr ((if_pos h2).mpr (href _ ?_ ?_))
    · split <;> rfl
    · split <;> rfl
  replace hex := hex.trans (if_neg h2)
  cases hm : s.lcMove 5 with
  | none =>
    rw [hm] at hex
    exact ⟨_, hex, (if_neg h1).mpr ((if_neg h2).mpr (href 0x15 rfl rfl))⟩
  | some m =>
    rw [hm] at hex
    by_cases h3 : fieldAt b 0 48 ≠ s.identity ∨ s.enrolSigned c b = false
    · exact ⟨_, hex.trans (if_pos (by simpa using h3)), (if_neg h1).mpr ((if_neg h2).mpr ((if_pos h3).mpr (href 0x15 rfl rfl)))⟩
    replace hex := hex.trans (if_neg (by simpa using h3))
    by_cases h4 : 8 ≤ s.rd 0x5000 5 ∨ s.lc.prog.isSome
    · exact ⟨_, hex.trans (if_pos (h4.imp_left decide_eq_true)), (if_neg h1).mpr ((if_neg h2).mpr ((if_neg h3).mpr ((if_pos h4).mpr (href 0x72 rfl rfl))))⟩
    replace hex := hex.trans (if_neg fun h => h4 (h.imp_left of_decide_eq_true))
    by_cases h5 : s.tokenOk (m.slot.getD 0) (slice b 112 16) = false
    · obtain ⟨hfl, hfj⟩ := failToken_frame s
      obtain ⟨g1, g2, g3⟩ := control_refused (st := 0x15) (s := s.failToken) ((State.findJob_congr hfj r).trans hj) hl hk rfl rfl
      exact ⟨_, hex.trans (if_pos (by rw [h5]; rfl)), (if_neg h1).mpr ((if_neg h2).mpr ((if_neg h3).mpr ((if_neg h4).mpr ((if_pos h5).mpr
        ⟨⟨g1, g2.trans hfl⟩, (State.rd_congr g3 _ _).trans (State.rd_failToken hw)⟩))))⟩
    replace hex := hex.trans (if_neg (by simpa using h5))
    by_cases h6 : s.fusePower = false
    · exact ⟨_, hex.trans (if_pos (by rw [h6]; rfl)), (if_neg h1).mpr ((if_neg h2).mpr ((if_neg h3).mpr ((if_neg h4).mpr ((if_neg h5).mpr ((if_pos h6).mpr
        (href 0x72 rfl rfl))))))⟩
    · exact ⟨_, hex.trans (if_neg (by simpa using h6)), (if_neg h1).mpr ((if_neg h2).mpr ((if_neg h3).mpr ((if_neg h4).mpr ((if_neg h5).mpr ((if_neg h6).mpr
        (enrolled_spec hw m b))))))⟩

end

/-! ### The obligation -/

/-- Settles O48: what the end of a fuse's programming leaves, and ENROL. -/
theorem transitionsComplete : Obligations.TransitionsComplete := by
  unfold Obligations.TransitionsComplete
  intro s hw
  refine ⟨fun code r hp hr h1 _ h11 => ⟨fun hup hg => ?_, fun hup => ?_, fun hs hc => ?_, fun hs hc => ?_⟩, fun r x c h => enrol_goes hw h⟩
  · rw [execFuseProgramDone_eq hp hr, if_pos ⟨hup, hg⟩]
  · obtain ⟨hb, hrec, hin⟩ := programmed_spec (s := s) (code := code) (by omega)
    refine ⟨_, ?_, ⟨hb.segment, hb.prog, hb.kept, hb.root⟩, hrec.trans hr, hin.same .phase rfl⟩
    rw [execFuseProgramDone_eq hp hr, if_neg fun h => hup h.1, if_pos hup]
  · obtain ⟨t, ht, hb, h⟩ := fuseDone_stays hw hp hr h1 hs hc
    exact ⟨t, ht, ⟨hb.segment, hb.prog, hb.kept, hb.root⟩, h⟩
  · obtain ⟨t, ht, hb, h⟩ := fuseDone_resets hw hp hr h1 hs hc
    exact ⟨t, ht, ⟨hb.segment, hb.prog, hb.kept, hb.root⟩, h⟩

end Machine
end Sys2Proof
end

section
/-! The traverse's jobs and events (16 R357, R362-R370). -/

namespace Sys2Proof
namespace Machine

variable {s t u : State} {r : JobRef} {j : Job} {b : Bench}

/-! ### FETCH (R370) -/

/-- What FETCH shows of an archive: a run of records without a gap that fits, and goes on as far as it can. -/
structure Fetches (sigs : Bool) (n room : Nat) (l rs : List Bench) : Prop where
  isPrefix : rs <+: l
  short : rs.length ≤ n
  closed : ∀ x ∈ rs, sigsOpen sigs x = false
  steps : ∀ i x y, rs[i]? = some x → rs[i + 1]? = some y → y.seq = x.seq + 1
  longest : ∀ x, rs ++ [x] <+: l → rs.length = n ∨ room < ((rs ++ [x]).map (fetched sigs)).flatten.length ∨ sigsOpen sigs x = true ∨
    ∃ y, rs.getLast? = some y ∧ x.seq ≠ y.seq + 1

namespace Fetches

variable {sigs : Bool} {n room : Nat} {l rs : List Bench}

theorem none_wanted : Fetches sigs 0 room l [] :=
  ⟨List.nil_prefix, Nat.le_refl _, by simp, by simp, fun _ _ => .inl rfl⟩

theorem none_left : Fetches sigs n room [] [] :=
  ⟨List.nil_prefix, Nat.zero_le _, by simp, by simp, fun x h => by simp at h⟩

theorem refused (h : room < (fetched sigs b).length ∨ sigsOpen sigs b = true) : Fetches sigs n room (b :: l) [] := by
  refine ⟨List.nil_prefix, Nat.zero_le _, by simp, by simp, fun x hx => ?_⟩
  obtain rfl : x = b := by simpa using hx
  rcases h with h | h
  · exact .inr (.inl (by simpa using h))
  · exact .inr (.inr (.inl h))

/-- The last record shown, before a gap or the archive's end. -/
theorem single (hr : ¬ (room < (fetched sigs b).length ∨ sigsOpen sigs b = true)) (hn : 1 ≤ n) (hl : ∀ c ∈ l.head?, c.seq ≠ b.seq + 1) : Fetches sigs n room (b :: l) [b] := by
  refine ⟨by simp, hn, fun x hx => ?_, fun i x y hx hy => by simp at hy, fun x hx => .inr (.inr (.inr ⟨b, rfl, ?_⟩))⟩
  · obtain rfl := List.mem_singleton.mp hx
    exact Bool.eq_false_of_not_eq_true fun h => hr (.inr h)
  · cases l with
    | nil => simp at hx
    | cons c l =>
      obtain rfl : x = c := by simpa using hx
      exact hl x (by simp)

theorem cons {c : Bench} (hr : ¬ (room < (fetched sigs b).length ∨ sigsOpen sigs b = true)) (hc : c.seq = b.seq + 1)
    (h : Fetches sigs n (room - (fetched sigs b).length) (c :: l) rs) : Fetches sigs (n + 1) room (b :: c :: l) (b :: rs) := by
  obtain ⟨h1, h2, h3, h4, h5⟩ := h
  have hhead : ∀ y, rs[0]? = some y → y = c := fun y hy => by
    cases rs with
    | nil => cases hy
    | cons z rs => exact (Option.some.inj hy).symm.trans (List.cons_prefix_cons.mp h1).1
  refine ⟨List.cons_prefix_cons.mpr ⟨rfl, h1⟩, Nat.succ_le_succ h2, fun x hx => ?_, fun i x y hx hy => ?_, fun x hx => ?_⟩
  · rcases List.mem_cons.mp hx with rfl | hx
    · exact Bool.eq_false_of_not_eq_true fun h => hr (.inr h)
    · exact h3 x hx
  · cases i with
    | zero =>
      obtain rfl := Option.some.inj hx
      rw [hhead y hy, hc]
    | succ i => exact h4 i x y hx hy
  · have hx' : rs ++ [x] <+: c :: l := (List.cons_prefix_cons.mp hx).2
    rcases h5 x hx' with h | h | h | ⟨y, hy, hne⟩
    · exact .inl (by rw [List.length_cons, h])
    · refine .inr (.inl ?_)
      rw [List.cons_append, List.map_cons, List.flatten_cons, List.length_append]
      omega
    · exact .inr (.inr (.inl h))
    · refine .inr (.inr (.inr ⟨y, ?_, hne⟩))
      rw [List.getLast?_cons, hy]
      rfl

end Fetches

theorem fetchRun_fetches (sigs : Bool) : ∀ (n room : Nat) (l : List Bench), Fetches sigs n room l (fetchRun sigs n room l)
  | 0, room, l => by
    rw [fetchRun]
    exact .none_wanted
  | n + 1, room, [] => by
    rw [fetchRun]
    · exact .none_left
    · simp
  | n + 1, room, b :: rest => by
    unfold fetchRun
    split
    next h => exact .refused h
    next h =>
      cases rest with
      | nil => exact .single h (by omega) (by simp)
      | cons c l =>
        dsimp only
        split
        next hc => exact .cons h hc (fetchRun_fetches sigs n _ (c :: l))
        next hc => exact .single h (by omega) (by simpa using hc)

/-- The octets of a FETCH's result. -/
def fetchOut (s : State) (start : Nat) (sigs : Bool) (rs : List Bench) : Bytes :=
  beBytes 8 ((rs.head?.map (fun x => x.seq)).getD 0) ++ beBytes 8 ((rs.getLast?.map (fun x => x.seq + 1)).getD start) ++ beBytes 8 s.headSeq ++ beBytes 2 rs.length ++
    [BitVec.ofNat 8 ((if rs ≠ [] ∧ start < (rs.head?.map (fun x => x.seq)).getD 0 then 1 else 0) +
      (if ∀ x ∈ s.trav.archive, x.seq < (rs.getLast?.map (fun x => x.seq + 1)).getD start then 2 else 0))] ++ beBytes 5 0 ++ (rs.map (fetched sigs)).flatten

theorem fetchBody_eq (s : State) (j : Job) : fetchBody s j =
    guardParam s (decide (1 ≤ fieldAt j.payload 8 2) && decide (fieldAt j.payload 8 2 ≤ 2048) && decide (fieldAt j.payload 10 1 < 2) && fieldAt j.payload 11 1 == 0)
      (ok s (fetchOut s (fieldAt j.payload 0 8) (bitAt (fieldAt j.payload 10 1) 0) (fetchRun (bitAt (fieldAt j.payload 10 1) 0) (fieldAt j.payload 8 2) (262144 - 32)
        (s.trav.archive.filter (fun r => decide (fieldAt j.payload 0 8 ≤ r.seq)))))) := by
  unfold fetchBody
  extract_lets b start n sigs rs first next flags
  have hf : first = (rs.head?.map (fun x => x.seq)).getD 0 := by
    show (match rs with | r :: _ => r.seq | [] => 0) = _
    cases rs <;> rfl
  have hn : next = (rs.getLast?.map (fun x => x.seq + 1)).getD start := by
    show (match rs.getLast? with | some r => r.seq + 1 | none => start) = _
    cases rs.getLast? <;> rfl
  have hg : flags = (if rs ≠ [] ∧ start < first then 1 else 0) + (if ∀ x ∈ s.trav.archive, x.seq < next then 2 else 0) := by
    show (if rs != [] ∧ start < first then 1 else 0) + (if s.trav.archive.all (fun r => decide (r.seq < next)) then 2 else 0) = _
    simp only [bne_iff_ne, List.all_eq_true, decide_eq_true_eq]
  have ho : beBytes 8 first ++ beBytes 8 next ++ beBytes 8 s.headSeq ++ beBytes 2 rs.length ++ oct flags ++ beBytes 5 0 ++ (rs.map (fetched sigs)).flatten =
      fetchOut s start sigs rs := by
    rw [hg, hf, hn]
    rfl
  rw [ho]

theorem fetch_spec (h : JobRuns s r j) (ho : j.opcode = 0x3010) :
    let b := j.payload
    let start := fieldAt b 0 8
    let n := fieldAt b 8 2
    let sigs := bitAt (fieldAt b 10 1) 0
    if 1 ≤ n ∧ n ≤ 2048 ∧ fieldAt b 10 1 < 2 ∧ fieldAt b 11 1 = 0 then
      ∃ rs, Fetches sigs n 262112 (s.trav.archive.filter (fun x => decide (start ≤ x.seq))) rs ∧ Ends (exec (.fetch r) s) s j 0 (fetchOut s start sigs rs)
    else Ends (exec (.fetch r) s) s j 0x26 [] := by
  intro b start n sigs
  have ht : (fun op => op == 0x3010) j.opcode = true := by rw [ho]; rfl
  have hb := fetchBody_eq s j
  split
  next hc =>
    refine ⟨_, fetchRun_fetches sigs n _ _, ?_⟩
    refine JobRuns.ends (r := ⟨r, noWork⟩) (takes := fun op => op == 0x3010) (body := fetchBody) h ht (hb.trans (if_pos ?_)) .refl rfl rfl
    simp only [Bool.and_eq_true, decide_eq_true_eq, beq_iff_eq]
    exact ⟨⟨⟨hc.1, hc.2.1⟩, hc.2.2.1⟩, hc.2.2.2⟩
  next hc =>
    refine JobRuns.ends (r := ⟨r, noWork⟩) (takes := fun op => op == 0x3010) (body := fetchBody) h ht (hb.trans (if_neg ?_)) .refl rfl rfl
    simp only [Bool.and_eq_true, decide_eq_true_eq, beq_iff_eq]
    exact fun g => hc ⟨g.1.1.1, g.1.1.2, g.1.2, g.2⟩

/-! ### HEAD and CHECKPOINT (R362, R369) -/

theorem head_spec (h : JobRuns s r j) (ho : j.opcode = 0x3011) : Ends (exec (.head r) s) s j 0
    (beBytes 8 s.headSeq ++ beBytes 8 s.trav.epoch ++ beBytes 8 s.epochFirst ++ beBytes 8 s.lastCheckpoint ++ beBytes 48 s.headDigest) :=
  JobRuns.ends (r := ⟨r, noWork⟩) (takes := fun op => op == 0x3011) (body := headBody) h (by rw [ho]; rfl) rfl .refl rfl rfl

/-- A CHECKPOINT job waits for the CHECKPOINT that it triggers. -/
def State.demanded (s : State) (r : JobRef) : State := { s with trav := { s.trav with demand := s.trav.demand ++ [(r, none)] } }

theorem execCheckpoint_of (h : JobRuns s r j) (ho : j.opcode = 0x3012) (hd : ∀ d ∈ s.trav.demand, d.1 ≠ r) : exec (.checkpoint r) s = .next ((s.demanded r).checkpoint 4) := by
  have hr : j.ref = r := State.ref_of_findJob h.1
  have hn : ¬ s.trav.demand.any (fun d => d.1 == j.ref) = true := by
    rw [hr, List.any_eq_true]
    exact fun ⟨d, hm, he⟩ => hd d hm (beq_iff_eq.mp he)
  refine jobRow_stay (r := ⟨r, noWork⟩) (takes := fun op => op == 0x3012) (body := checkpointBody) h (by rw [ho]; rfl) ?_
  unfold checkpointBody
  rw [hr] at hn ⊢
  exact if_neg hn

/-- A CHECKPOINT that is made at once. -/
theorem checkpoint_made (hs : s.trav.signing = false) (hp : s.trav.pending = []) (hf : s.ringFull (1 + cosignSlots s.cosign) = false) (reasons : Nat) :
    ∃ b : Bench, s.checkpoint reasons = s.append b ∧ b.kind = 0x0C ∧ b.verdict = 2 ∧ b.channel = 0xFF ∧ b.region = reasons ∧ b.digest = s.identity ∧
      b.sigSlots = cosignSlots s.cosign ∧ b.signed = false := by
  have hsig : (cosignSlots s.cosign == 0) = false := by
    have h : 37 ≤ cosignSlots s.cosign := by unfold cosignSlots; omega
    exact beq_eq_false_iff_ne.mpr (by omega)
  unfold State.checkpoint State.bench
  rw [hs, if_neg Bool.false_ne_true]
  extract_lets b
  refine ⟨b, if_pos ⟨hp, ?_⟩, rfl, rfl, rfl, rfl, rfl, rfl, hsig⟩
  rw [show b.slots = 1 + cosignSlots s.cosign from rfl, hf]
  rfl

theorem checkpoint_checkpointed (hs : s.trav.signing = false) (hp : s.trav.pending = []) (hf : s.ringFull (1 + cosignSlots s.cosign) = false) (reasons : Nat) :
    Checkpointed s (s.checkpoint reasons) reasons ∧ (s.checkpoint reasons).trav.held = s.trav.held ∧ (s.checkpoint reasons).trav.archive = s.trav.archive ∧
      (bitAt reasons 2 = true → (s.checkpoint reasons).trav.demand = s.trav.demand.map (fun (d : JobRef × Option Nat) => (d.1, some (d.2.getD s.trav.nextSeq)))) := by
  obtain ⟨b, he, h1, h2, h3, h4, h5, h6, h7⟩ := checkpoint_made hs hp hf reasons
  have hk : (s.appended b).kind == 0x0C := beq_iff_eq.mpr h1
  have hr : (s.appended b).region = reasons := h4
  have ht := travOf_append s b
  rw [State.travWith, hk, hr, Bool.or_true, Bool.true_and] at ht
  rw [he]
  unfold Checkpointed
  rw [ht]
  refine ⟨⟨rfl, s.appended b, by simp, h1, h2, h3, h4, h5, rfl, h6, h7⟩, rfl, rfl, fun h => ?_⟩
  exact if_pos h

theorem checkpointJob_spec (h : JobRuns s r j) (ho : j.opcode = 0x3012) (hd : ∀ d ∈ s.trav.demand, d.1 ≠ r) :
    (s.trav.signing = true → exec (.checkpoint r) s =
      .next { s with trav := { s.trav with demand := s.trav.demand ++ [(r, none)], held := orFlags s.trav.held 4 } }) ∧
    (s.trav.signing = false → s.trav.pending = [] → s.ringFull (1 + cosignSlots s.cosign) = false → GoesTo (exec (.checkpoint r) s) (fun t =>
      Checkpointed s t 4 ∧ (r, some s.trav.nextSeq) ∈ t.trav.demand ∧ t.findJob r = some j ∧
        t = { s with trav := t.trav, dict := t.dict, dtx := t.dtx, rwork := t.rwork })) := by
  have hex := execCheckpoint_of h ho hd
  refine ⟨fun hs => hex.trans (congrArg _ ?_), fun hs hp hf => ⟨_, hex, ?_⟩⟩
  · unfold State.checkpoint
    exact if_pos hs
  · obtain ⟨hc, -, -, hdem⟩ := checkpoint_checkpointed (s := s.demanded r) hs hp hf 4
    have hw : Within (parts [.trav, .dict, .dtx, .rwork]) s ((s.demanded r).checkpoint 4) := by
      unfold State.demanded
      exact .checkpoint rfl (.set rfl rfl .refl)
    refine ⟨hc, ?_, (State.findJob_congr (hw.same .jobs rfl) r).trans h.1, hw.eq_keepBut⟩
    rw [hdem (by decide)]
    exact List.mem_map.mpr ⟨(r, none), by simp [State.demanded], rfl⟩

/-! ### The archive (R366-R368) -/

theorem drainPending_keeps : ∀ (n : Nat) (s : State), (s.drainPending n).trav.archive = s.trav.archive ∧ (s.drainPending n).trav.nextSlot = s.trav.nextSlot
  | 0, _ => ⟨rfl, rfl⟩
  | n + 1, s => by
    unfold State.drainPending
    split
    · exact ⟨rfl, rfl⟩
    next x rest _ =>
      extract_lets l v
      have hv : v.trav.archive = s.trav.archive ∧ v.trav.nextSlot = s.trav.nextSlot := ⟨rfl, rfl⟩
      have ha : (v.append x).trav.archive = v.trav.archive ∧ (v.append x).trav.nextSlot = v.trav.nextSlot := by
        rw [travOf_append]
        exact ⟨rfl, rfl⟩
      clear_value v
      split
      · exact ⟨rfl, rfl⟩
      · split
        · obtain ⟨h1, h2⟩ := drainPending_keeps n { v with trav := { v.trav with held := orFlags v.trav.held x.region } }
          exact ⟨h1.trans hv.1, h2.trans hv.2⟩
        · obtain ⟨h1, h2⟩ := drainPending_keeps n (v.append x)
          exact ⟨h1.trans (ha.1.trans hv.1), h2.trans (ha.2.trans hv.2)⟩

theorem finishDemands_keeps (s : State) : s.finishDemands.trav.archive = s.trav.archive ∧ s.finishDemands.trav.nextSlot = s.trav.nextSlot := by
  unfold State.finishDemands
  extract_lets ready v
  have hw : Within ending s v := .foldl .refl fun _ _ h => .endJob rfl h
  have ht : v.trav = s.trav := hw.same .trav rfl
  have ha : v.trav.archive = s.trav.archive := by rw [ht]
  have hn : v.trav.nextSlot = s.trav.nextSlot := by rw [ht]
  exact ⟨ha, hn⟩

/-- The record with one more slot archived. -/
def State.slotDone (s : State) (b : Bench) : Bench := { b with archived := b.archived + 1, slot := if b.archived = 0 then s.trav.nextSlot else b.slot }

/-- The slot is programmed. -/
def State.slotWritten (s : State) (b : Bench) : State :=
  { s with trav := { s.trav with
    ring := s.trav.ring.map (fun (x : Bench) => if x.seq = b.seq then s.slotDone b else x)
    archive := if b.archived = 0 then makeSector s.trav.archive s.trav.nextSlot ++ [s.slotDone b]
      else (makeSector s.trav.archive s.trav.nextSlot).map (fun (x : Bench) => if x.seq = b.seq then s.slotDone b else x)
    nextSlot := s.trav.nextSlot + 1 } }

/-- The head has moved to the record, and EVENTs are sent. -/
def State.slotTold (s : State) (b : Bench) : State := if b.archived = 0 then ((s.slotWritten b).markRing b).notify 5 (some 0) b.seq else s.slotWritten b

theorem archiveSlot_eq (s : State) (b : Bench) : s.archiveSlot b = ((s.slotTold b).drainPending (s.slotTold b).trav.pending.length).finishDemands := rfl

theorem trav_slotTold (s : State) (b : Bench) : (s.slotTold b).trav = (s.slotWritten b).trav := by
  have hm : ((s.slotWritten b).markRing b).trav = (s.slotWritten b).trav := by
    unfold State.markRing
    split
    · rfl
    · rfl
  unfold State.slotTold
  split
  · exact ((Within.notify (k := parts [.tx, .chans]) rfl .refl).same .trav rfl).trans hm
  · rfl

theorem archiveSlot_spec (s : State) (b : Bench) : (s.archiveSlot b).trav.archive = (s.slotWritten b).trav.archive ∧ (s.archiveSlot b).trav.nextSlot = s.trav.nextSlot + 1 := by
  obtain ⟨h1, h2⟩ := finishDemands_keeps ((s.slotTold b).drainPending (s.slotTold b).trav.pending.length)
  obtain ⟨h3, h4⟩ := drainPending_keeps (s.slotTold b).trav.pending.length (s.slotTold b)
  have ht := trav_slotTold s b
  rw [archiveSlot_eq]
  exact ⟨h1.trans (h3.trans (congrArg Traverse.archive ht)), h2.trans (h4.trans (congrArg Traverse.nextSlot ht))⟩

theorem slotArchived_goes (hs : s.runs = true) (hb : s.toArchive = some b) (hd : b.archived = 0 ∨ b.signed = true) : GoesTo (exec (.slotArchived true) s) (fun t =>
    t.trav.nextSlot = s.trav.nextSlot + 1 ∧
      (b.archived = 0 → t.trav.archive.getLast? = some { b with archived := 1, slot := s.trav.nextSlot } ∧ t.headSeq = b.seq ∧ t.headDigest = b.hash) ∧
      (b.archived ≠ 0 → t.trav.archive = (makeSector s.trav.archive s.trav.nextSlot).map
        (fun (x : Bench) => if x.seq = b.seq then { b with archived := b.archived + 1 } else x))) := by
  obtain ⟨ha, hn⟩ := archiveSlot_spec s b
  have hno : ¬ ((!s.runs) = true ∨ b.archived ≠ 0 ∧ (!b.signed) = true) := by
    rw [hs]
    rcases hd with h | h
    · simp [h]
    · simp [h]
  refine ⟨s.archiveSlot b, ?_, hn, fun h0 => ?_, fun h0 => ?_⟩
  · show execSlotArchived true s = _
    unfold execSlotArchived
    rw [hb]
    exact if_neg hno
  · have hdone : s.slotDone b = { b with archived := 1, slot := s.trav.nextSlot } := by
      rw [State.slotDone, if_pos h0, h0]
    have hl : (s.archiveSlot b).trav.archive.getLast? = some { b with archived := 1, slot := s.trav.nextSlot } := by
      rw [ha, show (s.slotWritten b).trav.archive = _ from if_pos h0, hdone]
      simp
    refine ⟨hl, ?_, ?_⟩
    · rw [State.headSeq, State.headBench, hl]
    · rw [State.headDigest, State.headBench, hl]
      exact rfl
  · rw [ha, show (s.slotWritten b).trav.archive = _ from if_neg h0, State.slotDone, if_neg h0]

/-- A page program that fails is made again in the next erased sector. -/
def State.slotFailed (s : State) : State := { s with trav := { s.trav with nextSlot := (s.trav.nextSlot / 32 + 1) * 32 } }

theorem slotArchived_fails (hw : Map.wf s.dict = true) (hs : s.runs = true) (hb : s.toArchive = some b) (hd : b.archived = 0 ∨ b.signed = true) :
    GoesTo (exec (.slotArchived false) s) (fun t => t.trav = { s.trav with nextSlot := (s.trav.nextSlot / 32 + 1) * 32 } ∧
      t.rd 0x3800 0xA = eventAdd (s.rd 0x3800 0xA) 2 ∧ t = { s with trav := t.trav, dict := t.dict, dtx := t.dtx }) := by
  have hno : ¬ ((!s.runs) = true ∨ b.archived ≠ 0 ∧ (!b.signed) = true) := by
    rw [hs]
    rcases hd with h | h
    · simp [h]
    · simp [h]
  refine ⟨s.slotFailed.event 0x3800 0xA 2, ?_, rfl, ?_, rfl⟩
  · show execSlotArchived false s = _
    unfold execSlotArchived
    rw [hb]
    exact if_neg hno
  · exact (State.rd_event _ _ _ _ _ _).trans (State.rd_wr_self (s := s.slotFailed) hw _ _ _)

/-! ### The signing of a CHECKPOINT (R362, R364) -/

/-- A CHECKPOINT has its signatures. -/
def State.signedAs (s : State) (b x : Bench) : Bench := if x.seq = b.seq then { x with signed := true, sigs := s.checkpointSigs b } else x

/-- The signing has ended. -/
def State.signingOver (s : State) (b : Bench) : State :=
  { s with trav := { s.trav with ring := s.trav.ring.map (s.signedAs b), archive := s.trav.archive.map (s.signedAs b), signing := false, held := 0 } }

theorem execCheckpointSigned_eq (hs : s.runs = true) (hg : s.trav.signing = true) (hb : s.trav.ring.find? (fun b => b.kind == 0x0C && !b.signed) = some b) :
    exec .checkpointSigned s = if s.reserveRuns .checkpoint = true then
      .next (if s.trav.held = 0 then (s.signingOver b).dropReserve .checkpoint else ((s.signingOver b).dropReserve .checkpoint).checkpoint s.trav.held)
    else .next s := by
  show execCheckpointSigned s = _
  unfold execCheckpointSigned
  rw [hb]
  dsimp only
  rw [hs, hg]
  by_cases h : s.reserveRuns .checkpoint = true
  · rw [if_pos h]
    exact when_of_true (by rw [h]; rfl)
  · rw [if_neg h]
    exact when_of_false (by rw [Bool.eq_false_of_not_eq_true h]; rfl)

theorem slots_signed (s : State) (b : Bench) (l : List Bench) (n : Nat) :
    (l.map (s.signedAs b)).foldl (fun n x => n + (1 + x.sigSlots - x.archived)) n = l.foldl (fun n x => n + (1 + x.sigSlots - x.archived)) n := by
  rw [List.foldl_map]
  refine congrArg (fun f => l.foldl f n) (funext fun n => funext fun x => ?_)
  unfold State.signedAs
  split
  · rfl
  · rfl

theorem checkpointSigned_spec (hs : s.runs = true) (hg : s.trav.signing = true) (hb : s.trav.ring.find? (fun b => b.kind == 0x0C && !b.signed) = some b) :
    (s.reserveRuns .checkpoint = false → exec .checkpointSigned s = .next s) ∧
    (s.reserveRuns .checkpoint = true → s.trav.held = 0 → GoesTo (exec .checkpointSigned s) (fun t => t.trav.ring = s.trav.ring.map (s.signedAs b) ∧
      t.trav.archive = s.trav.archive.map (s.signedAs b) ∧ t.trav.signing = false ∧ t = { s with trav := t.trav, rwork := t.rwork })) ∧
    (s.reserveRuns .checkpoint = true → s.trav.held ≠ 0 → s.trav.pending = [] → s.ringFull (1 + cosignSlots s.cosign) = false →
      GoesTo (exec .checkpointSigned s) (fun t => Checkpointed s t s.trav.held ∧ t.trav.held = 0 ∧ t.trav.archive = s.trav.archive.map (s.signedAs b) ∧
        t = { s with trav := t.trav, dict := t.dict, dtx := t.dtx, rwork := t.rwork })) := by
  have hex := execCheckpointSigned_eq hs hg hb
  refine ⟨fun h => hex.trans (if_neg (by rw [h]; decide)), fun h h0 => ?_, fun h h0 hp hf => ?_⟩
  · refine ⟨(s.signingOver b).dropReserve .checkpoint, ?_, rfl, rfl, rfl, rfl⟩
    rw [hex, if_pos h, if_pos h0]
  · refine ⟨((s.signingOver b).dropReserve .checkpoint).checkpoint s.trav.held, ?_, ?_⟩
    · rw [hex, if_pos h, if_neg h0]
    · have hf' : ((s.signingOver b).dropReserve .checkpoint).ringFull (1 + cosignSlots s.cosign) = false := by
        have hslots : ((s.signingOver b).dropReserve .checkpoint).pendingSlots = s.pendingSlots := slots_signed s b s.trav.ring 0
        rw [State.ringFull, hslots]
        exact hf
      obtain ⟨hc, hh, ha, -⟩ := checkpoint_checkpointed (s := (s.signingOver b).dropReserve .checkpoint) rfl hp hf' s.trav.held
      have hw : Within (parts [.trav, .dict, .dtx, .rwork]) s (((s.signingOver b).dropReserve .checkpoint).checkpoint s.trav.held) := by
        unfold State.signingOver
        exact .checkpoint rfl (.dropReserve rfl (.set rfl rfl .refl))
      exact ⟨hc, hh, ha, hw.eq_keepBut⟩

/-! ### The wait for the ring (R367) -/

/-- A transaction waits for the ring no longer. -/
def State.ringWaitOver (s : State) (r : JobRef) : State := { s with trav := { s.trav with waiters := s.trav.waiters.filter (fun x => x != r) } }

theorem ringWaitTimeout_goes {w : Nat} (hs : s.runs = true) (hj : s.findJob r = some j) (hq : j.state = .queued) (hm : r ∈ s.trav.waiters) (hw : j.waitSince = some w)
    (hf : w + 1250000000 ≤ s.clk.fab) : GoesTo (exec (.ringWaitTimeout r) s) (fun t => JobDone t r 0x51 0xFF (s.resultOf j.kind 0x51 []) j.key ∧ r ∉ t.trav.waiters ∧
      ∀ x, x ≠ r → t.findJob x = s.findJob x) := by
  have hj' : (s.ringWaitOver r).findJob r = some j := hj
  obtain ⟨hd, ho⟩ := State.finish_jobs (status := 0x51) (detail := 0xFF) (result := []) (key := none) hj' (Job.live_of_queued hq) rfl
  have ht : ((s.ringWaitOver r).finish r 0x51 0xFF [] none).trav = (s.ringWaitOver r).trav := (Within.finish (k := ending) rfl .refl).same .trav rfl
  refine ⟨(s.ringWaitOver r).finish r 0x51 0xFF [] none, ?_, ⟨_, hd, rfl, rfl, rfl, rfl, rfl, rfl⟩, ?_, fun x hx => ho x hx⟩
  · show execRingWaitTimeout r s = _
    unfold execRingWaitTimeout
    rw [hj]
    have hms : 1000 * msFab = 1250000000 := rfl
    refine when_of_true ?_
    rw [hs, hw, List.contains_iff_mem.mpr hm, hms, Bool.and_self, Bool.true_and]
    exact decide_eq_true hf
  · rw [ht]
    simp [State.ringWaitOver]

/-! ### The obligation -/

/-- Settles O39: FETCH, HEAD and CHECKPOINT, the archive's slots, the signing of a CHECKPOINT, and the wait for the ring. -/
theorem traverseOperationsComplete : Obligations.TraverseOperationsComplete := by
  unfold Obligations.TraverseOperationsComplete
  intro s r j
  refine ⟨fun h => ⟨fun ho => ?_, fun ho => head_spec h ho, fun ho hd => checkpointJob_spec h ho hd⟩, fun b hs hb hd _ =>
    ⟨slotArchived_goes hs hb hd, fun hw => slotArchived_fails hw hs hb hd⟩, fun b hs hg hb => checkpointSigned_spec hs hg hb,
    fun w hs hj hq hm hw hf => ringWaitTimeout_goes hs hj hq hm hw hf⟩
  have hf := fetch_spec h ho
  dsimp only at hf ⊢
  split
  next hc =>
    rw [if_pos hc] at hf
    obtain ⟨rs, ⟨h1, h2, h3, h4, h5⟩, he⟩ := hf
    exact ⟨rs, h1, h2, h3, h4, h5, he⟩
  next hc =>
    rw [if_neg hc] at hf
    exact hf

end Machine
end Sys2Proof
end

section
/-! The entropy function's events: sources, the pool and the DRBGs (13 R289-R305). -/

namespace Sys2Proof
namespace Machine

variable {s t u : State} {r : JobRef} {j : Job} {n : Nat}

/-! ### What keeps the sources -/

/-- The sources and their entries stay: of the dictionary at most the entropy function's own entry and the count of a tenant's resets change. -/
structure SourcesKept (s t : State) : Prop where
  wf : Map.wf s.dict = true → Map.wf t.dict = true
  rd : ∀ i a, a < 256 → i ≠ 0x2800 → a ≠ 0x33 → t.rd i a = s.rd i a
  src : t.ent.src = s.ent.src

namespace SourcesKept

theorem of_eq (hd : t.dict = s.dict) (hs : t.ent.src = s.ent.src) : SourcesKept s t := ⟨fun hw => hd ▸ hw, fun i a _ _ _ => State.rd_congr hd i a, hs⟩

theorem refl : SourcesKept s s := of_eq rfl rfl

theorem trans (h : SourcesKept s t) (g : SourcesKept t u) : SourcesKept s u :=
  ⟨fun hw => g.wf (h.wf hw), fun i a ha hi h3 => (g.rd i a ha hi h3).trans (h.rd i a ha hi h3), g.src.trans h.src⟩

theorem of_within {k : Parts} (h : Within k s t) (hk : (inParts k .dict || inParts k .ent) = false) : SourcesKept s t := by
  simp only [Bool.or_eq_false_iff] at hk
  exact of_eq (h.same .dict hk.1) (congrArg Entropy.src (h.same .ent hk.2))

theorem wr {i a v : Nat} (ha : a < 256) (h : i = 0x2800 ∨ a = 0x33) : SourcesKept s (s.wr i a v) :=
  ⟨fun hw => State.wf_wr hw _ _ _, fun _ _ hb hj h3 => State.rd_wr_of_sub v ha hb (h.elim (fun h => .inl fun e => hj (e.trans h)) fun h => .inr fun e => h3 (e.trans h)), rfl⟩

theorem event {i a f : Nat} (ha : a < 256) (h : i = 0x2800 ∨ a = 0x33) : SourcesKept s (s.event i a f) := (wr ha h).trans (of_eq rfl rfl)

theorem ite {c : Prop} [Decidable c] {x y : State} (hx : SourcesKept s x) (hy : SourcesKept s y) : SourcesKept s (if c then x else y) := by
  split
  · exact hx
  · exact hy

theorem foldl {α : Type} {f : State → α → State} {l : List α} (hf : ∀ v x, SourcesKept v (f v x)) : SourcesKept s (l.foldl f s) :=
  List.foldlRecOn (motive := SourcesKept s) _ _ refl fun v hv x _ => hv.trans (hf v x)

theorem notify {cls what : Nat} {o : Option Nat} : SourcesKept s (s.notify cls o what) := of_within (k := parts [.tx, .chans]) (.notify rfl .refl) rfl

theorem setDrbg {d : Nat} {v : Drbg} : SourcesKept s (s.setDrbg d v) := of_eq rfl rfl

theorem withdrawRequests : SourcesKept s s.withdrawRequests := by
  unfold State.withdrawRequests
  extract_lets dead keep
  exact List.foldlRecOn (motive := SourcesKept s) _ _ (of_eq rfl rfl) fun v hv x _ => hv.trans (.ite setDrbg refl)

theorem finish {status detail : Nat} {out : Bytes} {key : Option Nat} (hf : isFaultStatus status = false) : SourcesKept s (s.finish r status detail out key) :=
  of_eq (State.dict_finish_quiet s r hf)
    (congrArg Entropy.src ((Within.finish (k := parts [.dict, .dtx, .tx, .waits, .chans, .jobs, .units, .clus]) rfl .refl).same .ent rfl))

theorem freeChannel {slot : Nat} : SourcesKept s (s.freeChannel slot) := by
  unfold State.freeChannel
  split
  · exact refl
  · refine .trans ?_ withdrawRequests
    exact of_eq rfl rfl

theorem settleChannel {slot : Nat} : SourcesKept s (s.settleChannel slot) := by
  unfold State.settleChannel
  split
  · exact .ite freeChannel refl
  · exact refl

theorem answerReset {i : Nat} : SourcesKept s (s.answerReset i r) := by
  have hs : ∀ (u : State) j c, SourcesKept u (u.sendCompletion j c) := fun u j c => of_within (k := parts [.tx, .chans, .jobs]) (.sendCompletion rfl .refl) rfl
  unfold State.answerReset
  split
  · extract_lets u
    have hu : SourcesKept s u := finish rfl
    refine .ite refl ?_
    split
    · exact .ite (hu.trans (hs _ _ _)) hu
    · exact hu
  · exact refl

theorem settleReset {i : Nat} : SourcesKept s (s.settleReset i) := by
  unfold State.settleReset
  extract_lets ten u1 u2 u3 l u4 u5
  have h1 : SourcesKept s u1 := .ite (of_within (k := parts [.tx, .chans, .jobs]) (.releaseAll rfl .refl) rfl) refl
  have h2 : SourcesKept s u2 := h1.trans (foldl fun _ _ => answerReset)
  have h3 : SourcesKept s u3 := h2.trans (foldl fun _ _ => freeChannel)
  have h4 : SourcesKept s u4 := h3.trans (of_eq rfl rfl)
  have h5 : SourcesKept s u5 := (h4.trans (of_within (k := parts [.keys]) (.zeroVolatile rfl .refl) rfl)).trans (setDrbg.trans (event (by decide) (.inr rfl)))
  exact .ite (h5.trans (of_eq rfl rfl)) refl

theorem settle : SourcesKept s s.settle := by
  unfold State.settle
  extract_lets u
  have hu : SourcesKept s u := foldl fun _ _ => settleChannel
  exact ((hu.trans (foldl fun _ _ => settleReset)).trans (of_within (k := parts [.keys]) (.sweepKeys rfl .refl) rfl)).trans withdrawRequests

theorem cutJob {status detail : Nat} (hf : isFaultStatus status = false) : SourcesKept s (s.cutJob j status detail 0) := by
  have hend : ∀ u : State, SourcesKept u (u.endJob j.ref status detail 0 [] none) := fun u => by
    unfold State.endJob
    split
    · exact refl
    next x _ =>
      extract_lets v w z
      have hw : SourcesKept u w := of_within (k := parts [.jobs, .units, .les, .saved, .cmem, .clus]) (.mapJob rfl (.unload rfl .refl)) rfl
      have hz : z = w := if_neg fun h => h.2 rfl
      rw [hz]
      exact (hw.trans (finish hf)).trans settle
  unfold State.cutJob
  split
  · exact (of_within (k := parts [.free, .jobs, .tenants, .les]) (.accrue rfl .refl) rfl).trans (hend _)
  · exact hend s

theorem entropyEvent {f : Nat} {b : Bool} : SourcesKept s (s.entropyEvent f b) := by
  unfold State.entropyEvent
  exact .ite (event (by decide) (.inl rfl)) ((event (by decide) (.inl rfl)).trans notify)

theorem stopDrbgs : SourcesKept s s.stopDrbgs := of_eq rfl rfl

theorem beginFamine : SourcesKept s s.beginFamine := by
  unfold State.beginFamine
  extract_lets v1 v2 v3
  have h1 : SourcesKept s v1 := ((wr (by decide) (.inl rfl)).trans entropyEvent).trans stopDrbgs
  have h2 : SourcesKept s v2 := List.foldlRecOn (motive := SourcesKept s) _ _ (h1.trans (of_eq rfl rfl)) fun v hv x _ =>
    hv.trans (of_within (k := parts [.tx]) (.sendHandshake rfl .refl) rfl)
  have h3 : SourcesKept s v3 := h2.trans (foldl fun _ _ => cutJob rfl)
  exact (h3.trans (foldl fun _ _ => finish rfl)).trans settle

theorem entropyDown : SourcesKept s s.entropyDown := .ite beginFamine refl

theorem dropRaw {m : Nat} : SourcesKept s (s.dropRaw m) := of_eq rfl rfl

end SourcesKept

/-! ### A source that fails (R292, R294) -/

/-- The counts and the state of a source that fails, before DRBGs and jobs follow. -/
def State.sourceFailed (s : State) (n cause : Nat) : State :=
  ((((s.setSource n sourceInit).wr (0x2820 + n) 2 (s.rd (0x2820 + n) 2 + 1)).wr (0x2820 + n) 3 cause).wr (0x2820 + n) 1 (if 3 ≤ s.rd (0x2820 + n) 2 + 1 then 4 else 3)).dropRaw n

theorem failSource_eq (s : State) (n cause : Nat) : s.failSource n cause =
    (if 3 ≤ s.rd (0x2820 + n) 2 + 1 then ((s.sourceFailed n cause).entropyEvent 1 false).entropyEvent 2 false
      else (s.sourceFailed n cause).entropyEvent 1 false).entropyDown := rfl

theorem failSource_kept (s : State) (n cause : Nat) : SourcesKept (s.sourceFailed n cause) (s.failSource n cause) := by
  have h1 : SourcesKept (s.sourceFailed n cause) ((s.sourceFailed n cause).entropyEvent 1 false) := .entropyEvent
  rw [failSource_eq]
  exact (SourcesKept.ite (h1.trans .entropyEvent) h1).trans .entropyDown

theorem rd_sourceFailed (hw : Map.wf s.dict = true) (n cause : Nat) : (s.sourceFailed n cause).rd (0x2820 + n) 2 = s.rd (0x2820 + n) 2 + 1 ∧
    (s.sourceFailed n cause).rd (0x2820 + n) 3 = cause ∧ (s.sourceFailed n cause).rd (0x2820 + n) 1 = if 3 ≤ s.rd (0x2820 + n) 2 + 1 then 4 else 3 := by
  have h1 : Map.wf ((s.setSource n sourceInit).wr (0x2820 + n) 2 (s.rd (0x2820 + n) 2 + 1)).dict = true := State.wf_wr (s := s.setSource n sourceInit) hw _ _ _
  have h2 := State.wf_wr h1 (0x2820 + n) 3 cause
  refine ⟨?_, ?_, State.rd_wr_self h2 _ _ _⟩
  · exact (State.rd_wr_of_sub _ (by decide) (by decide) (.inr (by decide))).trans ((State.rd_wr_of_sub _ (by decide) (by decide) (.inr (by decide))).trans
      (State.rd_wr_self (s := s.setSource n sourceInit) hw _ _ _))
  · exact (State.rd_wr_of_sub _ (by decide) (by decide) (.inr (by decide))).trans (State.rd_wr_self h1 _ _ _)

theorem source_congr (h : t.ent.src = s.ent.src) (m : Nat) : t.source m = s.source m := by rw [State.source, State.source, h]

/-- What a failed test leaves of its source, and of the others. -/
def SourceFails (s t : State) (n cause : Nat) : Prop :=
  t.rd (0x2820 + n) 2 = s.rd (0x2820 + n) 2 + 1 ∧ t.srcState n = (if 3 ≤ s.rd (0x2820 + n) 2 + 1 then 4 else 3) ∧
    t.rd (0x2820 + n) 3 = (if s.srcState n = 1 then cause + 2 else cause) ∧ t.source n = sourceInit ∧ ∀ m, m ≠ n → t.source m = s.source m

theorem failSource_fails (hw : Map.wf s.dict = true) (hn : n < 16) (cause : Nat) : SourceFails s (s.failSource n (s.causeOf n cause)) n cause := by
  have hk := failSource_kept s n (s.causeOf n cause)
  obtain ⟨h2, h3, h1⟩ := rd_sourceFailed hw n (s.causeOf n cause)
  have hsrc : (s.sourceFailed n (s.causeOf n cause)).ent.src = Map.put s.ent.src n sourceInit := rfl
  have hne : 0x2820 + n ≠ 0x2800 := by omega
  refine ⟨(hk.rd _ _ (by decide) hne (by decide)).trans h2, (hk.rd _ _ (by decide) hne (by decide)).trans h1, (hk.rd _ _ (by decide) hne (by decide)).trans h3, ?_, fun m hm => ?_⟩
  · rw [State.source, hk.src, hsrc]
    exact Map.getD_put_self ..
  · rw [State.source, hk.src, hsrc]
    exact Map.getD_put_of_ne _ _ _ hm

/-! ### Windows and blocks (R290-R295) -/

/-- ENTROPY_STATE rises: the sources, their entries and the pool stay. -/
structure PoolKept (s t : State) : Prop where
  sources : SourcesKept s t
  pool : t.ent.pool = s.ent.pool
  count : t.rd 0x2800 7 = s.rd 0x2800 7

namespace PoolKept

theorem of_eq (hd : t.dict = s.dict) (hs : t.ent.src = s.ent.src) (hp : t.ent.pool = s.ent.pool) : PoolKept s t := ⟨.of_eq hd hs, hp, State.rd_congr hd _ _⟩

theorem refl : PoolKept s s := of_eq rfl rfl rfl

theorem trans (h : PoolKept s t) (g : PoolKept t u) : PoolKept s u := ⟨h.sources.trans g.sources, g.pool.trans h.pool, g.count.trans h.count⟩

theorem ite {c : Prop} [Decidable c] {x y : State} (hx : PoolKept s x) (hy : PoolKept s y) : PoolKept s (if c then x else y) := by
  split
  · exact hx
  · exact hy

theorem foldl {α : Type} {f : State → α → State} {l : List α} (hf : ∀ v x, PoolKept v (f v x)) : PoolKept s (l.foldl f s) :=
  List.foldlRecOn (motive := PoolKept s) _ _ refl fun v hv x _ => hv.trans (hf v x)

theorem request {q : EntReq} : PoolKept s (s.request q) := .ite refl (of_eq rfl rfl rfl)

theorem ready : PoolKept s (s.wr 0x2800 1 1) := ⟨.wr (by decide) (.inl rfl), rfl, State.rd_wr_of_sub _ (by decide) (by decide) (.inr (by decide))⟩

theorem entropyEvent {f : Nat} {b : Bool} : PoolKept s (s.entropyEvent f b) := by
  have he : PoolKept s (s.event 0x2800 6 f) := ⟨.event (by decide) (.inl rfl), rfl, State.rd_wr_of_sub _ (by decide) (by decide) (.inr (by decide))⟩
  have hn : ∀ (u : State) o, PoolKept u (u.notify 7 o f) := fun u o => by
    have hw : Within (parts [.tx, .chans]) u (u.notify 7 o f) := .notify rfl .refl
    exact of_eq (hw.same .dict rfl) (congrArg Entropy.src (hw.same .ent rfl)) (congrArg Entropy.pool (hw.same .ent rfl))
  unfold State.entropyEvent
  exact .ite he (he.trans (hn _ _))

theorem entropyUp : PoolKept s s.entropyUp := by
  unfold State.entropyUp State.instantiateAll State.reseedStopped
  exact .ite (ready.trans (foldl fun _ _ => request)) (.ite ((ready.trans entropyEvent).trans (foldl fun _ _ => .ite request (.ite request refl))) refl)

end PoolKept

theorem passWindow_spec (hw : Map.wf s.dict = true) (hn : n < 16) (b : List Bool) (last : Option Bool) (run : Nat) :
    (s.passWindow n b last run).srcState n = 2 ∧ (s.passWindow n b last run).rd (0x2820 + n) 6 = (s.rd (0x2820 + n) 6 + 1) % 2 ^ 64 ∧
      (((s.passWindow n b last run).source n).left = (s.source n).left ++ b ∨ ((s.passWindow n b last run).source n).left = (s.source n).left ++ b.drop 256) ∧
      (s.passWindow n b last run).ent.pool = s.ent.pool := by
  unfold State.passWindow
  extract_lets c x y l z w
  have hy : y.source n = { x with left := x.left ++ (if c then b.drop 256 else b), lastBit := last, run := run } := Map.getD_put_self ..
  have hz : z.dict = s.dict ∧ z.ent.src = y.ent.src ∧ z.ent.pool = s.ent.pool := by
    show (if c = true then _ else y).dict = _ ∧ (if c = true then _ else y).ent.src = _ ∧ (if c = true then _ else y).ent.pool = _
    split
    · exact ⟨rfl, rfl, rfl⟩
    · exact ⟨rfl, rfl, rfl⟩
  have hwz : Map.wf z.dict = true := hz.1.symm ▸ hw
  have hk : PoolKept w w.entropyUp := .entropyUp
  have hww : w = (z.inc (0x2820 + n) 6 1).wr (0x2820 + n) 1 2 := rfl
  have hne : 0x2820 + n ≠ 0x2800 := by omega
  refine ⟨?_, ?_, ?_, hk.pool.trans hz.2.2⟩
  · refine (hk.sources.rd _ _ (by decide) hne (by decide)).trans ?_
    rw [hww]
    exact State.rd_wr_self (State.wf_wr hwz _ _ _) _ _ _
  · refine (hk.sources.rd _ _ (by decide) hne (by decide)).trans ?_
    rw [hww, State.rd_wr_of_sub _ (by decide) (by decide) (.inr (by decide)), State.rd_inc hwz, State.rd_congr hz.1]
  · have hs : w.entropyUp.source n = y.source n := source_congr (hk.sources.src.trans hz.2.1) n
    rw [hs, hy]
    cases c with
    | true => exact .inr rfl
    | false => exact .inl rfl

/-- What a window comes to: the first place where each test failed decides. -/
def State.windowOutcome (s : State) (n : Nat) (b : List Bool) (r : Option Nat × Option Bool × Nat) (p : Option Nat) : Out :=
  match r.1, p with
  | none, none => .next (s.passWindow n b r.2.1 r.2.2)
  | some _, none => .next (s.failSource n (s.causeOf n 1))
  | none, some _ => .next (s.failSource n (s.causeOf n 2))
  | some i, some k => .next (s.failSource n (s.causeOf n (if i ≤ k then 1 else 2)))

section
variable {b : List Bool} {w : Option Nat × Option Bool × Nat} {p : Option Nat}

theorem windowOutcome_passes (hw : w.1 = none) : s.windowOutcome n b w none = .next (s.passWindow n b w.2.1 w.2.2) := by
  unfold State.windowOutcome
  rw [hw]

theorem windowOutcome_repeats {i : Nat} (hw : w.1 = some i) (hle : ∀ k, p = some k → i ≤ k) : s.windowOutcome n b w p = .next (s.failSource n (s.causeOf n 1)) := by
  unfold State.windowOutcome
  rw [hw]
  cases p with
  | none => rfl
  | some k => exact congrArg (fun c => Host.Outcome.next (s.failSource n (s.causeOf n c))) (if_pos (hle k rfl))

theorem windowOutcome_leans {k : Nat} (hlt : ∀ i, w.1 = some i → k < i) : s.windowOutcome n b w (some k) = .next (s.failSource n (s.causeOf n 2)) := by
  unfold State.windowOutcome
  cases hw : w.1 with
  | none => rfl
  | some i => exact congrArg (fun c => Host.Outcome.next (s.failSource n (s.causeOf n c))) (if_neg (Nat.not_le.mpr (hlt i hw)))

end

theorem execSourceWindowEnd_eq (hn : n < 16) (hg : s.clk.gated = false) (b : List Bool) (hs : s.srcState n = 2 ∨ (s.srcState n = 1 ∧ (s.source n).warm = true))
    (hb : b.length = 1024) : exec (.sourceWindowEnd n b) s =
      s.windowOutcome n b (repetition 0 (s.source n).lastBit (s.source n).run b) (proportion (b.headD false) 0 0 b) := by
  have hruns : s.srcRuns n = true := by
    rw [State.srcRuns, decide_eq_true hn, hg]
    rcases hs with h | ⟨h, -⟩
    · rw [h]; rfl
    · rw [h]; rfl
  have hno : ¬ ((!s.srcRuns n) = true ∨ (s.srcState n = 1 ∧ (!(s.source n).warm) = true) ∨ b.length ≠ 1024) := by
    rw [hruns, hb]
    rcases hs with h | ⟨h, hw⟩
    · simp [h]
    · simp [hw]
  show execSourceWindowEnd n b s = _
  unfold execSourceWindowEnd
  extract_lets x q
  rw [if_neg hno]
  rfl

theorem blockConditioned_goes (hw : Map.wf s.dict = true) (hn : n < 16) (hg : s.clk.gated = false) (hs : s.srcState n = 2) (hl : 640 ≤ (s.source n).left.length) :
    GoesTo (exec (.blockConditioned n) s) (fun t => (t.source n).left = (s.source n).left.drop 640 ∧ t.rd 0x2800 7 = (s.rd 0x2800 7 + 1) % 2 ^ 64 ∧
      t.ent.pool = if s.ent.pool.length < 64 then s.ent.pool ++ [beNat (prim 32 .sha3_256 [packSamples 80 (s.source n).left])] else s.ent.pool) := by
  let b := beNat (prim 32 .sha3_256 [packSamples 80 (s.source n).left])
  let v := s.setSource n { s.source n with left := (s.source n).left.drop 640 }
  have hv : v.source n = { s.source n with left := (s.source n).left.drop 640 } := Map.getD_put_self ..
  have ha : (v.addBlock b).ent.src = v.ent.src ∧ (v.addBlock b).rd 0x2800 7 = (s.rd 0x2800 7 + 1) % 2 ^ 64 ∧
      (v.addBlock b).ent.pool = if s.ent.pool.length < 64 then s.ent.pool ++ [b] else s.ent.pool := by
    have hi : (v.inc 0x2800 7 1).rd 0x2800 7 = (s.rd 0x2800 7 + 1) % 2 ^ 64 := State.rd_inc (s := v) hw _ _ _
    have hp : (v.inc 0x2800 7 1).ent.pool = s.ent.pool := rfl
    unfold State.addBlock
    extract_lets w l
    split
    next h => exact ⟨rfl, hi, (if_pos (hp ▸ h)).symm⟩
    next h => exact ⟨rfl, hi, (if_neg (hp ▸ h)).symm⟩
  have hk : PoolKept (v.addBlock b) (v.addBlock b).entropyUp := .entropyUp
  refine ⟨(v.addBlock b).entropyUp, when_of_true ?_, ?_, hk.count.trans ha.2.1, hk.pool.trans ha.2.2⟩
  · rw [State.srcRuns, decide_eq_true hn, hg, hs, decide_eq_true hl]
    rfl
  · rw [source_congr (hk.sources.src.trans ha.1) n, hv]

/-! ### DRBGs (R297-R299) -/

theorem withdrawRequests_idle (h : ∀ q ∈ s.ent.reqs, q.cls ≠ 3) : s.withdrawRequests = s := by
  unfold State.withdrawRequests
  extract_lets dead keep
  have hdead : ∀ q ∈ s.ent.reqs, dead q = false := fun q hq => by
    show (q.cls == 3 && _) = false
    rw [beq_eq_false_iff_ne.mpr (h q hq)]
    rfl
  have hkeep : keep = s.ent.reqs := List.filter_eq_self.mpr fun q hq => by rw [hdead q hq]; rfl
  have hnone : s.ent.reqs.filter dead = [] := List.filter_eq_nil_iff.mpr fun q hq => by rw [hdead q hq]; decide
  rw [hnone, hkeep]
  rfl

theorem mem_servedOrder {q : EntReq} {rs : List EntReq} (h : q ∈ servedOrder rs) : q ∈ rs := by
  unfold servedOrder at h
  rcases List.mem_append.mp h with h | h
  · rcases List.mem_append.mp h with h | h
    · exact (List.mem_filter.mp h).1
    · exact (List.mem_filter.mp h).1
  · exact (List.mem_filter.mp h).1

theorem drbg_setDrbg_of_ne (s : State) {d e : Nat} (v : Drbg) (h : e ≠ d) : (s.setDrbg d v).drbg e = s.drbg e := Map.getD_put_of_ne _ _ _ h

theorem drbg_setDrbg_serving (s : State) (d : Nat) {v : Drbg} (h : v.state = 1) : (s.setDrbg d v).drbg d = v := by
  have hn : ¬ ((s.drbg d).state = 1 ∧ v.state ≠ 1) := fun g => g.2 h
  have hd : (s.setDrbg d v).drbg d = if (s.drbg d).state = 1 ∧ v.state ≠ 1 then { v with heldAt := s.clk.fab } else v := Map.getD_put_self ..
  rw [hd, if_neg hn]

theorem drbg_setDrbg_held (s : State) (d : Nat) (v : Drbg) : ∃ at_, (s.setDrbg d v).drbg d = { v with heldAt := at_ } := by
  have hd : (s.setDrbg d v).drbg d = if (s.drbg d).state = 1 ∧ v.state ≠ 1 then { v with heldAt := s.clk.fab } else v := Map.getD_put_self ..
  rw [hd]
  split
  · exact ⟨_, rfl⟩
  · exact ⟨v.heldAt, rfl⟩

/-- The next block and the request it serves are taken. -/
def State.blockServed (s : State) (rest : List Nat) (qs : List EntReq) : State := { s with ent := { s.ent with pool := rest, reqs := qs } }

section
variable {b : Nat} {rest : List Nat} {q : EntReq} {qs : List EntReq}

theorem serveNext_eq (hs : s.entropyState = 1) (hp : s.ent.pool = b :: rest) (hq : servedOrder s.ent.reqs = q :: qs) {inst : Bool} (hi : q.inst = inst) (h3 : q.cls ≠ 3) :
    s.serveNext q.drbg inst = if inst then (s.blockServed rest qs).instantiate q.drbg b
      else if qs.any (fun z => z.drbg == q.drbg && !z.scheduled && !z.inst) then
        ((s.blockServed rest qs).reseed q.drbg b).setDrbg q.drbg { ((s.blockServed rest qs).reseed q.drbg b).drbg q.drbg with state := 2 }
      else (s.blockServed rest qs).reseed q.drbg b := by
  unfold State.serveNext
  rw [hp, hq]
  dsimp only
  rw [if_pos ⟨hs, rfl, hi⟩]
  cases inst with
  | true => rfl
  | false =>
    rw [if_neg Bool.false_ne_true, if_neg h3, if_neg Bool.false_ne_true]
    rfl

theorem drbgInstantiate_goes (hp : s.phase ≠ .down) (hg : s.clk.gated = false) (hs : s.entropyState = 1) (hpool : s.ent.pool = b :: rest)
    (hq : servedOrder s.ent.reqs = q :: qs) (hn : ∀ z ∈ s.ent.reqs, z.cls ≠ 3) (hi : q.inst = true) : GoesTo (exec (.drbgInstantiate q.drbg) s) (fun t =>
      (t.drbg q.drbg).state = 1 ∧ (t.drbg q.drbg).calls = 0 ∧ t.ent.pool = rest ∧ t.ent.reqs = qs ∧ t.ent.instCount = s.ent.instCount + 1 ∧
        t = { s with ent := t.ent } ∧ ∀ d, d ≠ q.drbg → t.drbg d = s.drbg d) := by
  have h3 : q.cls ≠ 3 := hn q (mem_servedOrder (hq.symm ▸ List.mem_cons_self))
  have he : s.withdrawRequests.serveNext q.drbg true = (s.blockServed rest qs).instantiate q.drbg b := by
    rw [withdrawRequests_idle hn, serveNext_eq hs hpool hq hi h3]
    rfl
  refine ⟨(s.blockServed rest qs).instantiate q.drbg b, ?_, ?_⟩
  · rw [← he]
    exact when_of_true (by rw [hg, bne_iff_ne.mpr hp]; rfl)
  · unfold State.instantiate
    extract_lets v l0 w l
    have hd : w.drbg q.drbg = { (s.blockServed rest qs).drbg q.drbg with state := 1, calls := 0, value := v } := drbg_setDrbg_serving _ _ rfl
    refine ⟨congrArg Drbg.state hd, congrArg Drbg.calls hd, rfl, rfl, rfl, rfl, fun d hne => ?_⟩
    exact drbg_setDrbg_of_ne (s.blockServed rest qs) _ hne

theorem drbgReseed_goes (hp : s.phase ≠ .down) (hg : s.clk.gated = false) (hs : s.entropyState = 1) (hpool : s.ent.pool = b :: rest)
    (hq : servedOrder s.ent.reqs = q :: qs) (hn : ∀ z ∈ s.ent.reqs, z.cls ≠ 3) (hi : q.inst = false) : GoesTo (exec (.drbgReseed q.drbg) s) (fun t =>
      (t.drbg q.drbg).state = (if qs.any (fun z => z.drbg == q.drbg && !z.scheduled && !z.inst) then 2 else 1) ∧ (t.drbg q.drbg).calls = 0 ∧
        (t.drbg q.drbg).reseeds = (s.drbg q.drbg).reseeds + 1 ∧ (t.drbg q.drbg).last = s.clk.datum ∧ t.ent.pool = rest ∧ t.ent.reqs = qs ∧
        t = { s with ent := t.ent } ∧ ∀ d, d ≠ q.drbg → t.drbg d = s.drbg d) := by
  have h3 : q.cls ≠ 3 := hn q (mem_servedOrder (hq.symm ▸ List.mem_cons_self))
  have hex : exec (.drbgReseed q.drbg) s = .next (s.withdrawRequests.serveNext q.drbg false) := when_of_true (by rw [hg, bne_iff_ne.mpr hp]; rfl)
  rw [withdrawRequests_idle hn, serveNext_eq hs hpool hq hi h3, if_neg Bool.false_ne_true] at hex
  obtain ⟨v, hv⟩ : ∃ v, ((s.blockServed rest qs).reseed q.drbg b).drbg q.drbg =
      { (s.blockServed rest qs).drbg q.drbg with state := 1, calls := 0, reseeds := ((s.blockServed rest qs).drbg q.drbg).reseeds + 1, last := s.clk.datum, value := v } :=
    ⟨_, drbg_setDrbg_serving _ _ rfl⟩
  have ho : ∀ d, d ≠ q.drbg → ((s.blockServed rest qs).reseed q.drbg b).drbg d = s.drbg d := fun d hne => drbg_setDrbg_of_ne (s.blockServed rest qs) _ hne
  refine ⟨_, hex, ?_⟩
  split
  · obtain ⟨a, ha⟩ := drbg_setDrbg_held ((s.blockServed rest qs).reseed q.drbg b) q.drbg { ((s.blockServed rest qs).reseed q.drbg b).drbg q.drbg with state := 2 }
    rw [ha, hv]
    exact ⟨rfl, rfl, rfl, rfl, rfl, rfl, rfl, fun d hne => (drbg_setDrbg_of_ne _ _ hne).trans (ho d hne)⟩
  · rw [hv]
    exact ⟨rfl, rfl, rfl, rfl, rfl, rfl, rfl, ho⟩

end

/-! ### The wait of a queued job (R301) -/

theorem entropyWaitTimeout_goes {w : Nat} (hg : s.clk.gated = false) (hj : s.findJob r = some j) (hq : j.state = .queued) (hk : j.kind = 0x1) (hw : j.waitSince = some w)
    (hf : Nat.max w (s.drbg (tenantDrbg j.tenant)).heldAt + 2500000 ≤ s.clk.fab) (hn : s.serving (tenantDrbg j.tenant) = false) (hc : Calm s) :
    Ends (exec (.entropyWaitTimeout r) s) s j 0x50 [] := by
  obtain ⟨hd, ho⟩ := State.finish_jobs (status := 0x50) (detail := 0) (result := []) (key := none) hj (Job.live_of_queued hq) rfl
  have hcalm : Calm (s.finish r 0x50 0 [] none) := Calm.finish_any rfl hc
  have hset := hcalm.settle_within
  have hfin : ∀ x, (s.finish r 0x50 0 [] none).settle.findJob x = (s.finish r 0x50 0 [] none).findJob x := State.findJob_congr (hset.same .jobs rfl)
  have hout : s.resultOf j.kind 0x50 [] = [] := if_neg fun h => by rw [hk] at h; exact absurd h.1 (by decide)
  refine ⟨(s.finish r 0x50 0 [] none).settle, ?_, ?_⟩
  · show execEntropyWaitTimeout r s = _
    unfold execEntropyWaitTimeout
    rw [hj]
    have hms : 2 * msFab = 2500000 := rfl
    refine when_of_true ?_
    rw [hq, hk, hg, hw, State.awaitsDrbg, hn, hms]
    dsimp only
    rw [decide_eq_true hf]
    rfl
  · rw [State.ref_of_findJob hj]
    refine ⟨⟨_, (hfin r).trans hd, rfl, rfl, rfl, hout, rfl, rfl⟩, ?_⟩
    refine Within.jobFrame (r := r) ?_ fun x hx => (hfin x).trans (ho x hx)
    exact Within.trans (.finish rfl .refl) (hset.mono rfl)

/-! ### The obligation -/

/-- Settles O35: the sources' tests, the pool's blocks, the raw sample buffer, the DRBGs and the jobs that wait for them. -/
theorem entropyEventsComplete : Obligations.EntropyEventsComplete := by
  unfold Obligations.EntropyEventsComplete
  intro s n hn hp hg hw x e fails
  have hfail : ∀ {o : Out} {cause : Nat}, o = .next (s.failSource n (s.causeOf n cause)) → fails o cause := fun ho => ⟨_, ho, failSource_fails hw hn _⟩
  have hruns : s.srcState n = 1 ∨ s.srcState n = 2 → s.srcRuns n = true := fun h => by
    rw [State.srcRuns, decide_eq_true hn, hg]
    rcases h with h | h
    · rw [h]; rfl
    · rw [h]; rfl
  refine ⟨fun h1 hc => ?_, fun b hs hb => ⟨fun hr hp' => ?_, fun i hr hle => ?_, fun k hp' hlt => ?_⟩, fun h => ?_, fun h2 hl => blockConditioned_goes hw hn hg h2 hl,
    fun q hq => ?_, fun b rest q qs hs hpool hq hz => ⟨fun hi => drbgInstantiate_goes hp hg hs hpool hq hz hi, fun hi => drbgReseed_goes hp hg hs hpool hq hz hi⟩,
    fun r j w hj hq hk hws hf hns hc => entropyWaitTimeout_goes hg hj hq hk hws hf hns hc⟩
  · refine when_of_true ?_
    rw [hruns (.inl h1), h1, show (s.source n).warm = false from hc]
    rfl
  · have hex := execSourceWindowEnd_eq hn hg b hs hb
    rw [hp', windowOutcome_passes hr] at hex
    exact ⟨_, hex, passWindow_spec hw hn b _ _⟩
  · exact hfail ((execSourceWindowEnd_eq hn hg b hs hb).trans (windowOutcome_repeats hr hle))
  · refine hfail ((execSourceWindowEnd_eq hn hg b hs hb).trans ?_)
    rw [hp']
    exact windowOutcome_leans hlt
  · exact hfail (when_of_true (hruns h))
  · show execRawSampleRefill q.2 s = _
    unfold execRawSampleRefill
    rw [hq]
    exact when_of_true (by rw [hg, beq_self_eq_true]; rfl)

end Machine
end Sys2Proof
end

section
/-! Fence timeouts, gate aborts, lost words and bank copies (R9, R435, R447-R450; O44). A lost word's region gets its outcome first; what follows — the row
WORD_LOST, the charge to the bank, the flags of FAULT_EVENTS and PARITY_STORM — touches entries 0x4800 and 0x4802, the event log and the storm's count alone. -/
namespace Sys2Proof
namespace Machine
variable {s t u : State} {r : JobRef} {j : Job} {status detail : Nat}

/-! ### Moving the job of a fenced core (R449) -/

theorem engine_setEngine_self (s : State) (e : Nat) (v : Engine) : (s.setEngine e v).engine e = v := Map.getD_put_self _ _ _ _

theorem engine_setEngine_of_ne (s : State) {e x : Nat} (v : Engine) (h : x ≠ e) : (s.setEngine e v).engine x = s.engine x := Map.getD_put_of_ne _ _ _ h

/-- One engine of the job leaves it, with the blocks of its save area given back. -/
def State.freeEngine (s : State) (r : JobRef) (e : Nat) : State :=
  let u := if (s.engine e).job = some r then s.setEngine e (s.engine e).leave else s
  if 768 ≤ e ∧ e < 1024 then u.setCluster (e - 768) { u.cluster (e - 768) with freeBlocks := (u.cluster (e - 768)).freeBlocks + 2 } else u

theorem freeEngines_eq (s : State) (j : Job) : s.freeEngines j = j.units.foldl (fun u e => u.freeEngine j.ref e) s := rfl

theorem engine_freeEngine (s : State) (r : JobRef) (e x : Nat) : (s.freeEngine r e).engine x =
    if x = e ∧ (s.engine e).job = some r then (s.engine e).leave else s.engine x := by
  have hu : ∀ u : State, (if 768 ≤ e ∧ e < 1024 then u.setCluster (e - 768) { u.cluster (e - 768) with freeBlocks := (u.cluster (e - 768)).freeBlocks + 2 }
      else u).engine x = u.engine x := fun u => by split <;> rfl
  unfold State.freeEngine
  dsimp only
  rw [hu]
  by_cases hj : (s.engine e).job = some r
  · rw [if_pos hj]
    by_cases hx : x = e
    · rw [if_pos ⟨hx, hj⟩, hx]
      exact engine_setEngine_self _ _ _
    · rw [if_neg fun h => hx h.1]
      exact engine_setEngine_of_ne _ _ hx
  · rw [if_neg hj, if_neg fun h => hj h.2]

/-- An engine of the fold either stands as before or has left the job; those of the list do not name the job any more. -/
theorem freeEngines_fold (r : JobRef) : ∀ (l : List Nat) (s : State) (x : Nat),
    (l.foldl (fun u e => u.freeEngine r e) s).engine x = if x ∈ l ∧ (s.engine x).job = some r then (s.engine x).leave else s.engine x
  | [], s, x => by simp
  | e :: l, s, x => by
    rw [List.foldl_cons, freeEngines_fold r l, engine_freeEngine]
    by_cases hj : (s.engine x).job = some r <;> by_cases hx : x = e
    · subst hx
      simp [hj, Engine.leave]
    · simp [hx, hj]
    · subst hx
      simp [hj]
    · simp [hx, hj]

theorem engine_freeEngines (s : State) (j : Job) (x : Nat) :
    (s.freeEngines j).engine x = if x ∈ j.units ∧ (s.engine x).job = some j.ref then (s.engine x).leave else s.engine x := by
  rw [freeEngines_eq]
  exact freeEngines_fold _ _ _ _

theorem Engine.leave_leave (e : Engine) : e.leave.leave = e.leave := by
  simp only [Engine.leave, List.contains_nil, Bool.or_false, Engine.mk.injEq, true_and, and_true]
  cases e.ownerFence <;> simp

/-- Each engine stands as before, or has left what ran on it. -/
def EnginesLeave (s t : State) : Prop := ∀ x, t.engine x = s.engine x ∨ t.engine x = (s.engine x).leave

namespace EnginesLeave

theorem of_units (h : t.units = s.units) : EnginesLeave s t := fun x => .inl (by rw [State.engine, State.engine, h])

theorem trans (h : EnginesLeave s t) (g : EnginesLeave t u) : EnginesLeave s u := fun x => by
  rcases g x with hu | hu <;> rcases h x with ht | ht <;> rw [hu, ht]
  · exact .inl rfl
  · exact .inr rfl
  · exact .inr rfl
  · exact .inr (Engine.leave_leave _)

theorem foldl {α : Type} {f : State → α → State} {l : List α} (hf : ∀ v x, EnginesLeave v (f v x)) : EnginesLeave s (l.foldl f s) :=
  List.foldlRecOn (motive := EnginesLeave s) _ _ (of_units rfl) fun v hv x _ => hv.trans (hf v x)

theorem closeStreams {l : Le} : EnginesLeave s (s.closeStreams l) := foldl fun v p x => by
  by_cases hx : x = p.2.unit
  · exact .inr (hx ▸ engine_setEngine_self _ _ _)
  · exact .inl (engine_setEngine_of_ne _ _ hx)

theorem clearLe {e : Nat} : EnginesLeave s (s.clearLe e) := (closeStreams (l := s.le e)).trans (of_units rfl)

end EnginesLeave

/-- A job that is not suspended leaves its engines: none of them names it, and where it ran on one with a fence latched that one is fenced. -/
theorem engine_unload (hj : j.state ≠ .suspended) (x : Nat) (hx : x ∈ j.units) : ((s.unload j).engine x).job ≠ some j.ref ∧
    ((s.engine x).job = some j.ref → 3 ∈ (s.engine x).latched → ((s.unload j).engine x).fenced = true) := by
  have hl : ∀ e : Engine, 3 ∈ e.latched → e.leave.fenced = true := fun e h => by simp [Engine.leave, h]
  have hu : s.unload j = ((j.units.filter fun u => decide (u < 256)).foldl (fun u e => u.clearLe e) s).freeEngines j := if_neg hj
  rw [hu, engine_freeEngines]
  have he := (EnginesLeave.foldl (f := fun u e => u.clearLe e) (l := j.units.filter fun u => decide (u < 256)) (s := s) fun _ _ => EnginesLeave.clearLe) x
  revert he
  generalize State.engine (List.foldl _ _ _) x = e
  intro he
  by_cases hr : e.job = some j.ref
  · rw [if_pos ⟨hx, hr⟩]
    refine ⟨fun h => Option.some_ne_none _ h.symm, fun _ h3 => hl e ?_⟩
    rcases he with rfl | rfl
    · exact h3
    · cases hr
  · rw [if_neg fun h => hr h.2]
    refine ⟨hr, fun hs h3 => ?_⟩
    rcases he with rfl | rfl
    · exact absurd hs hr
    · exact hl _ h3

theorem engine_congr (h : t.units = s.units) (x : Nat) : t.engine x = s.engine x := by rw [State.engine, State.engine, h]

/-- A job whose charge in the running lap has been withdrawn (R139). -/
def Job.uncharged (kept : Work) (j : Job) : Job :=
  { j with charged := kept, lapCharged := noWork, lapBorrowed := noWork, extra := if j.hashMessage then kept else noWork }

theorem findJob_withdraw (h : s.findJob r = some j) : ∃ kept, (s.withdraw r).findJob r = some (j.uncharged kept) := by
  unfold State.withdraw
  rw [h]
  exact ⟨_, (State.findJob_congr rfl r).trans (State.findJob_mapJob_self (f := Job.uncharged (j.charged.sub (j.lapCharged.add j.lapBorrowed))) (fun _ => rfl) h)⟩

/-- A job back in its queue with precedence (R139, R446, R449). -/
def Job.requeued (k : Nat) (j : Job) : Job := { j with state := .queued, units := [], prec := true, borrowed := false, mid := k }

theorem findJob_requeue {y : Job} (h : s.findJob j.ref = some y) : ∃ k, (s.requeue j).findJob j.ref = some (y.requeued k) := by
  have hw : Within (parts [.units, .les, .saved, .cmem, .clus]) s (s.unload j) := .unload rfl .refl
  exact ⟨_, State.findJob_mapJob_self (f := fun (j : Job) => { j with state := .queued, units := [], prec := true, borrowed := false, mid := if j.kind = 0x3 then j.mid else 0 })
    (fun _ => rfl) ((State.findJob_congr (hw.same .jobs rfl) _).trans h)⟩

/-- A job moved, or queued again after a fault, stands off its engines with precedence. -/
theorem requeue_requeued {y : Job} (h : s.findJob j.ref = some y) (hs : j.state ≠ .suspended) (hg : y.segs = j.segs ∧ y.seq = j.seq) : Requeued (s.requeue j) j := by
  obtain ⟨k, hk⟩ := findJob_requeue h
  exact ⟨⟨_, hk, rfl, rfl, rfl, rfl, hg.1, hg.2⟩, fun x hx => (engine_unload hs x hx).1⟩

theorem moveJob_requeued (h : s.findJob j.ref = some j) (hs : j.state ≠ .suspended) : Requeued (s.moveJob j) j := by
  obtain ⟨kept, hk⟩ := findJob_withdraw h
  exact requeue_requeued hk hs ⟨rfl, rfl⟩

theorem moveJob_fenced (hs : j.state ≠ .suspended) {e : Nat} (he : e ∈ j.units) (hj : (s.engine e).job = some j.ref) (h3 : 3 ∈ (s.engine e).latched) :
    ((s.moveJob j).engine e).fenced = true := by
  have hw : (s.withdraw j.ref).engine e = s.engine e := engine_congr ((Within.withdraw (k := parts [.jobs, .tenants]) rfl .refl).same .units rfl) e
  exact (engine_unload (s := s.withdraw j.ref) hs e he).2 (by rw [hw]; exact hj) (by rw [hw]; exact h3)

theorem aesFenceTimeout_goes {e : Nat} (hr : s.runs = true) (he : 1024 ≤ e) (hj : (s.engine e).job = some r) (hf : s.findJob r = some j) (hs : j.state = .running)
    (h3 : 3 ∈ (s.engine e).latched) (ht : (s.engine e).fenceAt + 16375 ≤ s.clk.fab) :
    GoesTo (exec (.aesFenceTimeout e) s) (fun t => Requeued t j ∧ (e ∈ j.units → (t.engine e).fenced = true)) := by
  obtain rfl := State.ref_of_findJob hf
  have hc : (s.engine e).latched.contains 3 = true := List.contains_iff_mem.2 h3
  have hne : j.state ≠ .suspended := by rw [hs]; decide
  have hx : exec (.aesFenceTimeout e) s = .next (s.moveJob j) := by
    change execAesFenceTimeout e s = _
    unfold execAesFenceTimeout
    dsimp only
    rw [hj]
    dsimp only
    rw [hf]
    exact when_of_true (by rw [hr, hc, Job.running, hs]; simp [he, ht])
  exact ⟨_, hx, moveJob_requeued hf hne, fun hm => moveJob_fenced hne hm hj h3⟩

/-! ### A transaction that a clock gate ends (R435) -/

theorem rd_event_self (hw : Map.wf s.dict = true) (i a f : Nat) : (s.event i a f).rd i a = eventAdd (s.rd i a) f :=
  (State.rd_event _ _ _ _ _ _).trans (State.rd_wr_self hw _ _ _)

theorem gateAbort_goes {e : Nat} (hr : s.runs = true) (hw : Map.wf s.dict = true) (he : unitExists e = true) (hj : (s.engine e).job = none) :
    GoesTo (exec (.gateAbort e) s) (fun t => t.rd 0x1200 7 = eventAdd (s.rd 0x1200 7) 8 ∧
      (e < 256 → (t.le e).regs = leRegsInit) ∧ (∀ x, x ≠ e → t.le x = s.le x) ∧ t = { s with les := t.les, dict := t.dict, dtx := t.dtx }) := by
  have hfit : faultFits ⟨.gateAbort, e, none, none, 0⟩ = true := by simp [faultFits, he]
  have hx : ∀ u : State, when (s.runs && faultFits ⟨.gateAbort, e, none, none, 0⟩ && (s.engine e).job == none) s u = .next u := fun u =>
    when_of_true (by rw [hr, hfit, hj]; rfl)
  change GoesTo (execGateAbort e s) _
  unfold execGateAbort
  dsimp only
  by_cases h : e < 256
  · rw [if_pos h, hx]
    exact ⟨_, rfl, rd_event_self (by exact hw) _ _ _, fun _ => congrArg Le.regs (State.le_setLe_self _ _ _), fun x hx => State.le_setLe_of_ne _ _ hx, rfl⟩
  · rw [if_neg h, hx]
    exact ⟨_, rfl, rd_event_self hw _ _ _, fun h' => absurd h' h, fun _ _ => rfl, rfl⟩

end Machine
end Sys2Proof
end

section
/-! What follows the outcome of a lost word: its row in the event log, the charge to its bank, the flags and the storm's count (R447, R450, R453). -/
namespace Sys2Proof
namespace Machine
variable {s t u : State} {r : JobRef} {j : Job} {status detail : Nat}

/-! ### What a row of the log and the charge of a bank leave -/

/-- The dictionary stays canonical and its subindices 3 stay. -/
structure SubsStay (s t : State) : Prop where
  wf : Map.wf s.dict = true → Map.wf t.dict = true
  rd : ∀ i, t.rd i 3 = s.rd i 3

namespace SubsStay

theorem of_dict (h : t.dict = s.dict) : SubsStay s t := ⟨fun hw => h ▸ hw, fun i => State.rd_congr h i 3⟩

theorem trans (h : SubsStay s t) (g : SubsStay t u) : SubsStay s u := ⟨fun hw => g.wf (h.wf hw), fun i => (g.rd i).trans (h.rd i)⟩

theorem ite {c : Prop} [Decidable c] {x y : State} (hx : SubsStay s x) (hy : SubsStay s y) : SubsStay s (if c then x else y) := by
  split
  · exact hx
  · exact hy

theorem wr {i a v : Nat} (ha : a < 256) (h : a ≠ 3) : SubsStay s (s.wr i a v) :=
  ⟨fun hw => State.wf_wr hw i a v, fun _ => State.rd_wr_of_sub _ ha (by decide) (.inr h.symm)⟩

theorem event {i a f : Nat} (ha : a < 256) (h : a ≠ 3) : SubsStay s (s.event i a f) := (wr ha h).trans (of_dict rfl)

theorem logRow {kind unitType cluster unit tenant status record : Nat} : SubsStay s (s.logRow kind unitType cluster unit tenant status record) :=
  ite (of_dict rfl) ((wr (by decide) (by decide)).trans (of_dict rfl))

theorem countFault : SubsStay s (s.countFault j status) := by
  unfold State.countFault
  exact ite ((event (by decide) (by decide)).trans (of_dict ((Within.notify (k := parts [.tx, .chans]) rfl .refl).same .dict rfl))) (of_dict rfl)

end SubsStay

theorem epoch_keepSet (d : Dtx) (i a f : Nat) : (d.keepSet i a f).epoch = d.epoch := by
  unfold Dtx.keepSet
  split <;> rfl

theorem epoch_logRow (s : State) (kind unitType cluster unit tenant status record : Nat) :
    (s.logRow kind unitType cluster unit tenant status record).dtx.epoch = s.dtx.epoch := by
  unfold State.logRow
  dsimp only
  split
  · rfl
  · exact epoch_keepSet _ _ _ _

theorem log_logRow (s : State) (kind unitType cluster unit tenant status record : Nat) : (s.logRow kind unitType cluster unit tenant status record).flt.log =
    (if s.flt.log.length < 4096 then s.flt.log else s.flt.log.drop 1) ++
      [⟨s.flt.seq + 1, s.clk.datum, kind, unitType, cluster, unit, tenant, status, record⟩] := by
  unfold State.logRow
  dsimp only
  split <;> rfl

/-- A row that has just been made outlasts the next one. -/
theorem mem_log_logRow {l : List LogEntry} {e : LogEntry} {kind unitType cluster unit tenant status record : Nat}
    (h : s.flt.log = l ++ [e]) : e ∈ (s.logRow kind unitType cluster unit tenant status record).flt.log := by
  rw [log_logRow, h]
  refine List.mem_append_left _ ?_
  split
  · simp
  · next hl =>
    have : 1 ≤ l.length := by rw [List.length_append] at hl; simp at hl; omega
    rw [List.drop_append_of_le_length this]
    simp

/-- The charge of a parity fault to a bank, of a word lost in none nothing (R447, R450). -/
def State.chargeWord (s : State) (bank : Option Nat) : State × Nat :=
  match bank with
  | some b => s.chargeBank b
  | none => (s, 0)

/-- What the charge of a bank leaves: only the dictionary, its journal's book and the fault function move; no row goes while the log has room, and a row
just made stays in any case. -/
structure BankCharged (s : State) (p : State × Nat) : Prop where
  within : Within (parts [.dict, .dtx, .flt]) s p.1
  subs : SubsStay s p.1
  epoch : p.1.dtx.epoch = s.dtx.epoch
  row : ∀ l e, s.flt.log = l ++ [e] → e ∈ p.1.flt.log
  log : s.flt.log.length < 4096 → s.flt.log <+: p.1.flt.log
  flag : p.2 ∈ [0, 12, 16]

/-- The fault function in another state. -/
def State.withFlt (s : State) (f : Faults) : State := { s with flt := f }

theorem withFlt_within (s : State) (f : Faults) : Within (parts [.dict, .dtx, .flt]) s (s.withFlt f) := .set rfl rfl .refl

theorem withFlt_charged {f : Faults} (hf : f.log = s.flt.log) {n : Nat} (hn : n ∈ [0, 12, 16]) : BankCharged s (s.withFlt f, n) := by
  have hl : (s.withFlt f).flt.log = s.flt.log := hf
  refine ⟨withFlt_within s f, .of_dict rfl, rfl, fun l e h => ?_, fun _ => ?_, hn⟩
  · dsimp only
    rw [hl, h]
    exact List.mem_append_right _ (List.mem_singleton_self e)
  · dsimp only
    rw [hl]

/-- The two entries of a bank that is copied into a spare. -/
def State.bankMarked (s : State) (b v : Nat) : State := (s.wr 0x4802 2 v).wr 0x4802 1 (setBit (s.rd 0x4802 1) b true)

theorem bankMarked_flt (s : State) (b v : Nat) : (s.bankMarked b v).flt = s.flt := rfl

theorem bankMarked_dtx (s : State) (b v : Nat) : (s.bankMarked b v).dtx = s.dtx := rfl

theorem bankMarked_within (s : State) (b v : Nat) : Within (parts [.dict, .dtx, .flt]) s (s.bankMarked b v) := .wr rfl (.wr rfl .refl)

theorem bankMarked_subs (s : State) (b v : Nat) : SubsStay s (s.bankMarked b v) := .trans (.wr (by decide) (by decide)) (.wr (by decide) (by decide))

/-- The bank is being copied. -/
def State.bankCopied (s : State) (b v : Nat) : State :=
  ((s.bankMarked b v).withFlt { s.flt with copying := s.flt.copying ++ [b] }).logRow 4 7 0xFF b 0xFF 0 0

theorem fenceBank_eq (s : State) (b : Nat) : s.fenceBank b =
    if s.rd 0x4802 2 % 256 = 0xFF then (s.bankCopied b (s.rd 0x4802 2 / 256 * 256 + b), 12)
    else if s.rd 0x4802 2 / 256 = 0xFF then (s.bankCopied b (b * 256 + s.rd 0x4802 2 % 256), 12)
    else (s, 16) := rfl

theorem bankCopied_charged (s : State) (b v : Nat) : BankCharged s (s.bankCopied b v, 12) := by
  have hf : ((s.bankMarked b v).withFlt { s.flt with copying := s.flt.copying ++ [b] }).flt.log = s.flt.log := rfl
  have hw : Within (parts [.dict, .dtx, .flt]) s ((s.bankMarked b v).withFlt { s.flt with copying := s.flt.copying ++ [b] }) :=
    (bankMarked_within s b v).trans (withFlt_within _ _)
  have hs : SubsStay s ((s.bankMarked b v).withFlt { s.flt with copying := s.flt.copying ++ [b] }) := (bankMarked_subs s b v).trans (.of_dict rfl)
  have he : ((s.bankMarked b v).withFlt { s.flt with copying := s.flt.copying ++ [b] }).dtx = s.dtx := rfl
  unfold State.bankCopied
  revert hf hw hs he
  generalize State.withFlt _ _ = u
  intro hf hw hs he
  refine ⟨.logRow rfl hw, hs.trans .logRow, (epoch_logRow _ _ _ _ _ _ _ _).trans (congrArg Dtx.epoch he), fun l e h => mem_log_logRow (hf.trans h), fun hl => ?_, by simp⟩
  dsimp only
  rw [log_logRow, hf, if_pos hl]
  exact List.prefix_append _ _

theorem fenceBank_charged (s : State) (b : Nat) : BankCharged s (s.fenceBank b) := by
  rw [fenceBank_eq]
  split
  · exact bankCopied_charged s b _
  · split
    · exact bankCopied_charged s b _
    · have h : BankCharged s (s.withFlt s.flt, 16) := withFlt_charged (n := 16) rfl (by decide)
      exact h

/-- The moment is charged to the bank. -/
def State.bankCounted (s : State) (b : Nat) : State :=
  s.withFlt { s.flt with bankFaults := Map.put s.flt.bankFaults b (s.recent (Map.getD s.flt.bankFaults b [])) }

theorem chargeBank_eq (s : State) (b : Nat) : s.chargeBank b =
    if (s.recent (Map.getD s.flt.bankFaults b [])).length < 3 ∨ bitAt (s.rd 0x4802 1) b then (s.bankCounted b, 0) else (s.bankCounted b).fenceBank b := rfl

theorem bankCounted_charged (s : State) (b : Nat) : BankCharged s (s.bankCounted b, 0) :=
  withFlt_charged (s := s) (f := { s.flt with bankFaults := Map.put s.flt.bankFaults b (s.recent (Map.getD s.flt.bankFaults b [])) }) rfl (n := 0) (by decide)

theorem chargeBank_charged (s : State) (b : Nat) : BankCharged s (s.chargeBank b) := by
  have hu := bankCounted_charged s b
  have hl : (s.bankCounted b).flt.log = s.flt.log := rfl
  rw [chargeBank_eq]
  split
  · exact hu
  · obtain ⟨h1, h2, h3, h4, h5, h6⟩ := fenceBank_charged (s.bankCounted b) b
    exact ⟨hu.within.trans h1, hu.subs.trans h2, h3.trans hu.epoch, fun l e h => h4 l e (hl.trans h), fun h => hl ▸ h5 (hl ▸ h), h6⟩

theorem chargeWord_charged (s : State) (bank : Option Nat) : BankCharged s (s.chargeWord bank) := by
  cases bank with
  | none => exact ⟨.refl, .of_dict rfl, rfl, fun l e h => by rw [State.chargeWord, h]; simp, fun _ => List.prefix_rfl, by simp [State.chargeWord]⟩
  | some b => exact chargeBank_charged s b

/-! ### PARITY_STORM does not sound (R450) -/

/-- The moment is counted towards PARITY_STORM. -/
def State.stormCounted (s : State) : State :=
  { s with tamp := { s.tamp with parity := (s.tamp.parity.filter (fun t => decide (s.clk.fab < t + msFab))) ++ [s.clk.fab] } }

theorem storm_quiet (h : s.tamp.parity.length < 63) : s.storm = s.stormCounted := by
  have hl := List.length_filter_le (fun t => decide (s.clk.fab < t + msFab)) s.tamp.parity
  refine if_neg fun h64 => ?_
  have := h64.1
  rw [List.length_append, List.length_singleton] at this
  omega

/-! ### What follows a lost word's outcome -/

/-- What follows the outcome of the region. -/
def State.wordReported (s : State) (bank : Option Nat) : State :=
  let t := s.logRow 9 (if bank.isSome then 7 else 0) 0xFF (bank.getD 0) 0xFF 0 0
  ((t.chargeWord bank).1.event 0x4800 1 (33 + (t.chargeWord bank).2)).storm

/-- The bank that a lost word is charged to: of a matrix-cache word none (R9). -/
def bankOf (bank : Option Nat) (w : LostWord) : Option Nat :=
  match w with
  | .matrix _ => none
  | _ => bank

theorem loseWord_eq (s : State) (bank : Option Nat) (w : LostWord) : s.loseWord bank w = (s.loseRegion w).wordReported (bankOf bank w) := rfl

/-- After the outcome only these parts move; the row stands with this moment's datum, and FAULT_EVENTS shows a fault and a lost word. -/
structure WordReported (s t : State) (bank : Option Nat) : Prop where
  within : Within (parts [.dict, .dtx, .flt, .tamp]) s t
  subs : SubsStay s t
  epoch : t.dtx.epoch = s.dtx.epoch
  row : ∃ e ∈ t.flt.log, e.kind = 9 ∧ e.unitType = (if bank.isSome then 7 else 0) ∧ e.cluster = 0xFF ∧ e.unit = bank.getD 0 ∧ e.datum = s.clk.datum ∧ s.flt.seq < e.seq
  log : s.flt.log.length < 4000 → s.flt.log <+: t.flt.log
  bits : Map.wf s.dict = true → bitAt (t.rd 0x4800 1) 0 = true ∧ bitAt (t.rd 0x4800 1) 5 = true

theorem wordReported_spec (hp : s.tamp.parity.length < 63) (bank : Option Nat) : WordReported s (s.wordReported bank) bank := by
  have hrow := log_logRow s 9 (if bank.isSome then 7 else 0) 0xFF (bank.getD 0) 0xFF 0 0
  have hwin : Within (parts [.dict, .dtx, .flt]) s (s.logRow 9 (if bank.isSome then 7 else 0) 0xFF (bank.getD 0) 0xFF 0 0) := .logRow rfl .refl
  have hsub : SubsStay s (s.logRow 9 (if bank.isSome then 7 else 0) 0xFF (bank.getD 0) 0xFF 0 0) := .logRow
  have hep := epoch_logRow s 9 (if bank.isSome then 7 else 0) 0xFF (bank.getD 0) 0xFF 0 0
  unfold State.wordReported
  dsimp only
  revert hrow hwin hsub hep
  generalize s.logRow 9 (if bank.isSome then 7 else 0) 0xFF (bank.getD 0) 0xFF 0 0 = t
  intro hrow hwin hsub hep
  obtain ⟨h1, h2, h3, h4, h5, h6⟩ := chargeWord_charged t bank
  revert h1 h2 h3 h4 h5 h6
  generalize t.chargeWord bank = p
  obtain ⟨u, n⟩ := p
  intro h1 h2 h3 h4 h5 h6
  dsimp only at h1 h2 h3 h4 h5 h6 ⊢
  have hev : Within (parts [.dict, .dtx, .flt]) s (u.event 0x4800 1 (33 + n)) := .event rfl (hwin.trans h1)
  have htamp : (u.event 0x4800 1 (33 + n)).tamp = s.tamp := hev.same .tamp rfl
  rw [storm_quiet (htamp ▸ hp)]
  refine ⟨.set rfl rfl (hev.mono rfl), (hsub.trans h2).trans (.trans (.event (by decide) (by decide)) (.of_dict rfl)), (epoch_keepSet _ _ _ _).trans (h3.trans hep), ⟨_, h4 _ _ hrow, rfl, rfl, rfl, rfl, rfl, Nat.lt_succ_self _⟩, fun hl => ?_, fun hw => ?_⟩
  · have hs : s.flt.log <+: t.flt.log := by
      rw [hrow, if_pos (by omega)]
      exact List.prefix_append _ _
    refine hs.trans (h5 ?_)
    rw [hrow, if_pos (by omega), List.length_append, List.length_singleton]
    omega
  · have hr : (u.event 0x4800 1 (33 + n)).stormCounted.rd 0x4800 1 = eventAdd (u.rd 0x4800 1) (33 + n) :=
      rd_event_self (h2.wf (hsub.wf hw)) _ _ _
    have hbits : ∀ m ∈ [0, 12, 16], bitAt (33 + m) 0 = true ∧ bitAt (33 + m) 5 = true := by decide
    rw [hr, bitAt_eventAdd _ _ (by decide), bitAt_eventAdd _ _ (by decide), (hbits n h6).1, (hbits n h6).2]
    exact ⟨Bool.or_true _, Bool.or_true _⟩
end Machine
end Sys2Proof
end

section
/-! What becomes of a lost word in each region, and the statement O44 (R447, R448). -/
namespace Sys2Proof
namespace Machine
variable {s t u : State} {r : JobRef} {j : Job} {status detail : Nat}

/-! ### Jobs that a lost word or a fault strikes -/

theorem loaded_settle (hc : Calm s) : s.settle.keys.loaded = s.keys.loaded := (congrArg Keys.loaded hc.keys_settle).trans rfl

/-- What a calm state keeps where a job is struck: it stays calm, the loaded keys stay, and the event log only grows. -/
structure Struck (s t : State) : Prop where
  calm : Calm t
  loaded : t.keys.loaded = s.keys.loaded
  seq : s.flt.seq ≤ t.flt.seq

namespace Struck

theorem trans (h : Struck s t) (g : Struck t u) : Struck s u := ⟨g.calm, g.loaded.trans h.loaded, h.seq.trans g.seq⟩

theorem settle (h : Calm s) : Struck s s.settle :=
  ⟨h.congr (h.settle_within.same .chans rfl) (h.settle_within.same .tenants rfl), loaded_settle h, (congrArg Faults.seq (h.settle_within.same .flt rfl)).ge⟩

theorem of_within {k : Parts} (h : Within k s t) (hk : (inParts k .keys || inParts k .flt) = false) (hc : Calm t) : Struck s t := by
  obtain ⟨h1, h2⟩ := Bool.or_eq_false_iff.1 hk
  exact ⟨hc, congrArg Keys.loaded (h.same .keys h1), (congrArg Faults.seq (h.same .flt h2)).ge⟩

theorem cutJob (hc : Calm s) (hu : uncached status = false) : Struck s (s.cutJob j status detail 0) := by
  have hend : ∀ v : State, Calm v → Struck v (v.endJob j.ref status detail 0 [] none) := fun v hv => by
    cases hj : v.findJob j.ref with
    | none =>
      rw [State.endJob, hj]
      exact ⟨hv, rfl, le_refl _⟩
    | some y =>
      rw [State.endJob_cut hj]
      have hoff : Within (parts [.jobs, .units, .les, .saved, .cmem, .clus]) v (v.offUnits j.ref y) := .mapJob rfl (.unload rfl .refl)
      have hcalm : Calm ((v.offUnits j.ref y).finish j.ref status detail [] none) := Calm.finish_any hu (hv.congr (hoff.same .chans rfl) (hoff.same .tenants rfl))
      have hw : Within (parts [.dict, .dtx, .tx, .waits, .chans, .jobs, .units, .les, .saved, .cmem, .clus]) v ((v.offUnits j.ref y).finish j.ref status detail [] none) :=
        .finish rfl (hoff.mono rfl)
      exact (of_within hw rfl hcalm).trans (settle hcalm)
  unfold State.cutJob
  split
  · exact (of_within (k := parts [.free, .jobs, .tenants, .les]) (.accrue rfl .refl) rfl hc.accrue).trans (hend _ hc.accrue)
  · exact hend s hc

theorem discardJob (hc : Calm s) : Struck s (s.discardJob r) := by
  unfold State.discardJob
  split
  · exact ⟨hc, rfl, le_refl _⟩
  · have hw : ∀ k, Within (parts [.jobs, .units, .les, .saved, .cmem, .clus]) s ((s.unload k).dropJob r) := fun k => .dropJob rfl (.unload rfl .refl)
    have hcalm : ∀ k, Calm ((s.unload k).dropJob r) := fun k => hc.congr ((hw k).same .chans rfl) ((hw k).same .tenants rfl)
    exact (of_within (hw _) rfl (hcalm _)).trans (settle (hcalm _))

end Struck

theorem Calm.withdraw (h : Calm s) : Calm (s.withdraw r) := by
  unfold State.withdraw
  split
  · exact h
  · exact (h.mapJob (r := r)).put_tenant (h.resetting_ten _)

theorem Calm.retryJob (h : Calm s) {unit : Option Nat} : Calm (s.retryJob j unit) := by
  have hi : ∀ (u : State) (n : Nat), Calm u → Calm ((u.inc 0x4800 4 n).inc 0x4800 2 1) := fun u n hu => hu.congr rfl rfl
  have hr : ∀ (u : State) (f : Job → Job), Calm u → Calm ((u.requeue j).mapJob j.ref f) := fun u f hu => by
    have hw : Within (parts [.jobs, .units, .les, .saved, .cmem, .clus]) u ((u.requeue j).mapJob j.ref f) := .mapJob rfl (.requeue rfl .refl)
    exact hu.congr (hw.same .chans rfl) (hw.same .tenants rfl)
  exact hr _ _ (hi _ _ h.accrue).withdraw

theorem seq_le_logRow (s : State) (kind unitType cluster unit tenant status record : Nat) :
    s.flt.seq ≤ (s.logRow kind unitType cluster unit tenant status record).flt.seq := by
  rw [seq_logRow]
  exact Nat.le_succ _

namespace Struck

theorem logRow {kind unitType cluster unit tenant st record : Nat} (hc : Calm s) : Struck s (s.logRow kind unitType cluster unit tenant st record) := by
  have hw : Within (parts [.dict, .dtx, .flt]) s (s.logRow kind unitType cluster unit tenant st record) := .logRow rfl .refl
  exact ⟨hc.congr (hw.same .chans rfl) (hw.same .tenants rfl), congrArg Keys.loaded (hw.same .keys rfl), seq_le_logRow _ _ _ _ _ _ _ _⟩

theorem accrue (hc : Calm s) : Struck s (s.accrue j) := of_within (k := parts [.free, .jobs, .tenants, .les]) (.accrue rfl .refl) rfl hc.accrue

theorem faultJob (hc : Calm s) (hu : uncached status = false) {unit : Option Nat} {row : Nat × Nat × Nat} : Struck s (s.faultJob j unit row status detail) := by
  unfold State.faultJob
  split
  · exact cutJob hc rfl
  · split
    · exact (accrue hc).trans (discardJob hc.accrue)
    · split
      · exact of_within (k := parts [.free, .dict, .jobs, .tenants, .units, .les, .saved, .cmem, .clus]) (.retryJob rfl .refl) rfl hc.retryJob
      · have hi : Struck s (s.inc 0x4800 3 1) := of_within (k := parts [.dict]) (.inc rfl .refl) rfl (hc.congr rfl rfl)
        have hcut : Struck s ((s.inc 0x4800 3 1).cutJob j status detail 0) := hi.trans (cutJob hi.calm hu)
        exact hcut.trans (logRow hcut.calm)

theorem foldl {α : Type} {f : State → α → State} {l : List α} (hc : Calm s) (hf : ∀ v x, Calm v → Struck v (f v x)) : Struck s (l.foldl f s) :=
  List.foldlRecOn (motive := Struck s) _ _ ⟨hc, rfl, le_refl _⟩ fun v hv x _ => hv.trans (hf v x hv.calm)

end Struck

/-! ### The outcome of each region (R447) -/

theorem loseJobInput (hc : Calm s) (hj : s.findJob r = some j) (hl : j.live = true) (hk : j.kind ≠ 0x4) :
    JobDone (s.loseRegion (.jobInput r)) r 0x51 0xFF [] j.key := by
  have he : s.loseRegion (.jobInput r) = s.cutJob j 0x51 0xFF 0 := by
    simp only [State.loseRegion, hj, hl, if_true]
  rw [he]
  obtain rfl := State.ref_of_findJob hj
  exact (cutJob_cutShort hc rfl).done j hj hl hk

theorem loseEgress (hj : s.findJob r = some j) (hs : j.state = .done) : ∃ j', (s.loseRegion (.egress r)).findJob r = some j' ∧ j'.state = .done ∧ j'.status = 0x51 ∧
    j'.detail = 0xFF ∧ j'.result = [] := by
  have he : s.loseRegion (.egress r) = (s.mapJob r (fun (x : Job) => { x with status := 0x51, detail := 0xFF, result := [], reserve := 0 })).countFault j 0x51 := by
    have hl : j.live = false := by rw [Job.live, hs]; rfl
    simp only [State.loseRegion, State.loseCompletion, hj, hl, hs, if_true, Bool.false_eq_true, if_false]
  have hw : Within (parts [.dict, .dtx, .tx, .chans]) (s.mapJob r (fun (x : Job) => { x with status := 0x51, detail := 0xFF, result := [], reserve := 0 }))
      (s.loseRegion (.egress r)) := he ▸ .countFault rfl .refl
  exact ⟨_, (State.findJob_congr (hw.same .jobs rfl) r).trans
    (State.findJob_mapJob_self (f := fun (x : Job) => { x with status := 0x51, detail := 0xFF, result := [], reserve := 0 }) (fun _ => rfl) hj), hs, rfl, rfl, rfl⟩

/-- An LE reads the matrix entry of a digest. -/
def readsEntry (dg : Nat) (l : Le) : Bool := match l.w4 with | some m => m.digest == dg && !m.writing | none => false

theorem readsEntry_iff (dg : Nat) (l : Le) : readsEntry dg l = true ↔ ∃ m, l.w4 = some m ∧ m.digest = dg ∧ m.writing = false := by
  unfold readsEntry
  cases l.w4 <;> simp

/-- The jobs that read the entry, on an LE or saved. -/
def State.readersOf (s : State) (dg : Nat) : List JobRef :=
  (s.les.filter (fun p => readsEntry dg p.2)).filterMap (fun p => p.2.job) ++
    (s.saved.filter (fun p => readsEntry dg p.2)).filterMap (fun p => (s.jobs.find? (fun (j : Job) => j.order == p.1)).map (fun (j : Job) => j.ref))

theorem loseMatrix_eq (s : State) (dg : Nat) : s.loseRegion (.matrix dg) =
    if s.readersOf dg = [] then { s with mcache := s.mcache.filter (fun (m : Matrix) => m.digest != dg) }
    else (s.readersOf dg).foldl (fun u r => match u.findJob r with | some j => u.accrue j | none => u) s := rfl

theorem readersOf_nil (s : State) (dg : Nat) : s.readersOf dg = [] ↔ ¬ ((∃ p ∈ s.les, (∃ m, p.2.w4 = some m ∧ m.digest = dg ∧ m.writing = false) ∧ p.2.job.isSome = true) ∨
    ∃ p ∈ s.saved, (∃ m, p.2.w4 = some m ∧ m.digest = dg ∧ m.writing = false) ∧ ∃ j ∈ s.jobs, j.order = p.1) := by
  rw [State.readersOf, List.append_eq_nil_iff, List.filterMap_eq_nil_iff, List.filterMap_eq_nil_iff, not_or]
  simp only [List.mem_filter, ← readsEntry_iff, Option.map_eq_none_iff, List.find?_eq_none, beq_iff_eq, not_exists, not_and, and_imp, Bool.not_eq_true,
    Option.isSome_eq_false_iff, Option.isNone_iff_eq_none]
  
theorem loseMatrix (s : State) (dg : Nat) : (s.readersOf dg = [] → ∀ m ∈ (s.loseRegion (.matrix dg)).mcache, m.digest ≠ dg) ∧
    (s.readersOf dg ≠ [] → (s.loseRegion (.matrix dg)).mcache = s.mcache) := by
  rw [loseMatrix_eq]
  refine ⟨fun h => ?_, fun h => ?_⟩
  · rw [if_pos h]
    intro m hm
    simpa using (List.mem_filter.1 hm).2
  · rw [if_neg h]
    have hw : Within (parts [.free, .jobs, .tenants, .les]) s ((s.readersOf dg).foldl (fun u r => match u.findJob r with | some j => u.accrue j | none => u) s) :=
      .foldl .refl fun u r h => by
        split
        · exact .accrue rfl h
        · exact h
    exact hw.same .mcache rfl

theorem loseLoaded (hc : Calm s) (h : Nat) : Struck { s with keys := { s.keys with loaded := s.keys.loaded.filter (fun x => x != h) } } (s.loseRegion (.loadedKey h)) :=
  Struck.foldl (hc.congr rfl rfl) fun _ _ hv => Struck.faultJob hv rfl

theorem loseVolatile (hw : Map.wf s.keys.vol = true) {h : Nat} (h0 : keyScope h = 0) (hk : s.key h ≠ none) : Map.find (s.loseRegion (.volatileKey h)).keys.vol (keySlot h) = none := by
  have he : s.loseRegion (.volatileKey h) =
      ((s.jobs.filter (fun (j : Job) => j.key == h && j.live)).foldl (fun u (j : Job) => u.cutJob j 0x51 0xFF 0) s).dropVolatile (keySlot h) :=
    if_neg fun hn => hn.elim (· h0) hk
  rw [he]
  have hwin : Within ending s ((s.jobs.filter (fun (j : Job) => j.key == h && j.live)).foldl (fun u (j : Job) => u.cutJob j 0x51 0xFF 0) s) :=
    .foldl .refl fun _ _ h => .cutJob rfl h
  exact Map.find_erase_self _ _ (hwin.stays.vol hw)

/-- A DRBG is zeroised, and what was asked of the pool for it withdrawn. -/
def State.drbgDropped (s : State) (d : Nat) : State :=
  { s.zeroDrbg d with ent := { (s.zeroDrbg d).ent with reqs := s.ent.reqs.filter (fun r => r.drbg != d) } }

theorem state_drbgDropped (s : State) (d : Nat) : ((s.drbgDropped d).drbg d).state = 0 := by
  obtain ⟨at_, hz⟩ := drbg_setDrbg_held s d { drbgInit with reseeds := (s.drbg d).reseeds }
  exact congrArg Drbg.state hz

theorem reqs_drbgDropped (s : State) (d : Nat) : ∀ q ∈ (s.drbgDropped d).ent.reqs, q.drbg ≠ d := fun q hq => by
  simpa using (List.mem_filter.1 hq).2

/-- What is asked for a DRBG that nothing was asked for joins the requests. -/
theorem request_new {q : EntReq} (h : ∀ x ∈ s.ent.reqs, x.drbg ≠ q.drbg) : s.request q = { s with ent := { s.ent with reqs := s.ent.reqs ++ [q] } } := by
  refine if_neg fun hc => ?_
  rw [Bool.and_eq_true, List.any_eq_true] at hc
  obtain ⟨-, x, hx, hq⟩ := hc
  simp only [Bool.and_eq_true, beq_iff_eq] at hq
  exact h x hx hq.1.1

theorem loseDrbg {d : Nat} (hd : d < 80) (hs : (s.drbg d).state ≠ 0) : ((s.loseRegion (.drbg d)).drbg d).state = 0 ∧
    ∃ q ∈ (s.loseRegion (.drbg d)).ent.reqs, q.drbg = d ∧ q.inst = true := by
  have he : s.loseRegion (.drbg d) = (s.drbgDropped d).askSeed d := by
    have hb : ((s.drbg d).state != 0) = true := by simpa using hs
    exact (if_pos hd).trans (if_pos hb)
  have h0 := state_drbgDropped s d
  have hr := reqs_drbgDropped s d
  rw [he]
  revert h0 hr
  generalize s.drbgDropped d = u
  intro h0 hr
  have ha : u.askSeed d = { u with ent := { u.ent with reqs := u.ent.reqs ++ [⟨drbgClass d, d, true, false, none⟩] } } := (if_pos h0).trans (request_new hr)
  rw [ha]
  exact ⟨h0, _, List.mem_append_right _ (List.mem_singleton_self _), rfl, rfl⟩

/-- Settling a channel leaves it, where it still stands, as it was. -/
theorem find_settleChannel (hw : Map.wf s.chans = true) {slot : Nat} {c : Channel} (h : Map.find (s.settleChannel slot).chans slot = some c) :
    Map.find s.chans slot = some c := by
  unfold State.settleChannel at h
  split at h
  · next d hd =>
    split at h
    · unfold State.freeChannel at h
      rw [hd] at h
      have hwr : ∀ u : State, u.withdrawRequests.chans = u.chans := fun u => (Within.withdrawRequests (k := parts [.ent]) rfl .refl).same .chans rfl
      dsimp only at h
      rw [hwr] at h
      exact absurd (h.symm.trans (Map.find_erase_self _ _ hw)) (by simp)
    · exact h
  · exact h

theorem abortChannel_closing (hw : Map.wf s.chans = true) {slot : Nat} {c : Channel} (h : Map.find (s.abortChannel slot).chans slot = some c) : c.state = .closing := by
  unfold State.abortChannel at h
  extract_lets mine t₁ t₂ t₃ at h
  have ht₂ : Within ending s t₂ := .foldl (.foldl .refl fun _ _ h => .clearSaved rfl h) fun _ _ h => .latchJob rfl h
  have hw₃ : Map.wf t₃.chans = true := Map.wf_update _ _ _ (ht₂.stays.chans hw)
  have hc : Map.find (Map.update t₂.chans slot (fun c => { c with state := .closing })) slot = some c := find_settleChannel hw₃ h
  unfold Map.update at hc
  split at hc
  · rw [Map.find_put_self] at hc
    obtain rfl := Option.some.inj hc
    rfl
  · next hn => exact absurd (hn.symm.trans hc) (by simp)

theorem loseChannel (hw : Map.wf s.chans = true) {slot : Nat} {c : Channel} (h : Map.find (s.loseRegion (.channel slot)).chans slot = some c) : c.state = .closing := by
  by_cases hs : (Map.find s.chans slot).isSome = true
  · have he : s.loseRegion (.channel slot) = s.abortChannel slot := if_pos hs
    exact abortChannel_closing hw (he ▸ h)
  · have he : s.loseRegion (.channel slot) = s := if_neg hs
    rw [he] at h
    exact absurd (h ▸ rfl) hs

theorem SubsStay.of_within {k : Parts} (h : Within k s t) (hk : inParts k .dict = false) : SubsStay s t := of_dict (h.same .dict hk)

theorem SubsStay.finish (hu : uncached status = false) : SubsStay s (s.finish r status detail [] none) := by
  cases hj : s.findJob r with
  | none =>
    rw [State.finish_absent hj]
    exact of_dict rfl
  | some j =>
    by_cases hl : j.live = true
    · rw [State.finish_cached hj hl hu]
      exact (of_within (k := parts [.jobs, .units, .clus]) (.mapJob rfl (.freeEngines rfl .refl)) rfl).trans countFault
    · rw [State.finish_ended hj (Bool.eq_false_of_not_eq_true hl)]
      exact of_dict rfl

theorem SubsStay.cutJob (hc : Calm s) (hu : uncached status = false) : SubsStay s (s.cutJob j status detail 0) := by
  have hend : ∀ v : State, Calm v → SubsStay v (v.endJob j.ref status detail 0 [] none) := fun v hv => by
    cases hj : v.findJob j.ref with
    | none =>
      rw [State.endJob, hj]
      exact of_dict rfl
    | some y =>
      rw [State.endJob_cut hj]
      have hoff : Within (parts [.jobs, .units, .les, .saved, .cmem, .clus]) v (v.offUnits j.ref y) := .mapJob rfl (.unload rfl .refl)
      have hcalm : Calm ((v.offUnits j.ref y).finish j.ref status detail [] none) := Calm.finish_any hu (hv.congr (hoff.same .chans rfl) (hoff.same .tenants rfl))
      exact ((of_within hoff rfl).trans (finish hu)).trans (of_within hcalm.settle_within rfl)
  unfold State.cutJob
  split
  · exact (of_within (k := parts [.free, .jobs, .tenants, .les]) (.accrue rfl .refl) rfl).trans (hend _ hc.accrue)
  · exact hend s hc

/-- The context of a digest stream has gone, and its tenant is told. -/
def State.streamLost (s : State) (slot n : Nat) (d : DStream) : State :=
  { s with dstreams := Map.erase s.dstreams (streamKey slot n) }.event (0x20C0 + d.tenant) 3 1

theorem breakStream_eq {chan n : Nat} {d : DStream} (hd : Map.find s.dstreams (streamKey chan n) = some d) : ∃ l : List Job,
    s.breakStream chan n = l.foldl (fun u (j : Job) => u.cutJob j 0x51 0xFF 0) (s.streamLost chan n d) := by
  unfold State.breakStream
  rw [hd]
  exact ⟨_, rfl⟩

theorem loseStream (hw : Map.wf s.dict = true) (hc : Calm s) {chan n : Nat} {d : DStream} (hd : Map.find s.dstreams (streamKey chan n) = some d) :
    (s.loseRegion (.stream chan n)).rd (0x20C0 + d.tenant) 3 = eventAdd (s.rd (0x20C0 + d.tenant) 3) 1 := by
  have hev : (s.streamLost chan n d).rd (0x20C0 + d.tenant) 3 = eventAdd (s.rd (0x20C0 + d.tenant) 3) 1 :=
    rd_event_self (s := { s with dstreams := Map.erase s.dstreams (streamKey chan n) }) hw _ _ _
  have hcalm : Calm (s.streamLost chan n d) := hc.congr rfl rfl
  have hcut : ∀ (l : List Job) (u : State), Calm u → SubsStay u (l.foldl (fun u (j : Job) => u.cutJob j 0x51 0xFF 0) u) ∧
      Calm (l.foldl (fun u (j : Job) => u.cutJob j 0x51 0xFF 0) u) := fun l u hu =>
    List.foldlRecOn (motive := fun v => SubsStay u v ∧ Calm v) _ _ ⟨.of_dict rfl, hu⟩ fun v hv x _ =>
      ⟨hv.1.trans (.cutJob hv.2 rfl), (cutJob_cutShort hv.2 rfl).calm⟩
  obtain ⟨l, hl⟩ := breakStream_eq hd
  have he : s.loseRegion (.stream chan n) = l.foldl (fun u (j : Job) => u.cutJob j 0x51 0xFF 0) (s.streamLost chan n d) := hl
  rw [he, (hcut l _ hcalm).1.rd, hev]

theorem loseLog {i : Nat} {e : LogEntry} (h : s.flt.log[i]? = some e) : (s.loseRegion (.eventLog i)).flt.log[i]? = some { e with kind := 0 } ∧
    (s.loseRegion (.eventLog i)).flt.log.length = s.flt.log.length := by
  change (s.flt.log.modify i _)[i]? = _ ∧ (s.flt.log.modify i _).length = _
  rw [List.getElem?_modify_eq, h]
  exact ⟨rfl, List.length_modify ..⟩

theorem mem_of_trimRing {b : Bench} (m : Nat) : ∀ {r : List Bench}, b ∈ trimRing m r → b ∈ r
  | x :: r, h => by
    rw [trimRing] at h
    split at h
    · exact h
    · split at h
      · exact List.mem_cons_of_mem _ (mem_of_trimRing m h)
      · exact h

/-- A CHECKPOINT adds nothing but itself to the ring. -/
theorem mem_ring_checkpoint {n : Nat} {b : Bench} (h : b ∈ (s.checkpoint n).trav.ring) : b ∈ s.trav.ring ∨ b.kind = 0x0C := by
  unfold State.checkpoint at h
  split at h
  · exact .inl h
  · unfold State.bench at h
    extract_lets x at h
    split at h
    · rw [(State.trav_append s x).1, List.mem_append, List.mem_singleton] at h
      rcases h with h | rfl
      · exact .inl (mem_of_trimRing _ h)
      · exact .inr rfl
    · exact .inl h

theorem loseRing {q : Nat} (hp : s.trav.pending = []) {b : Bench} (hb : b ∈ (s.loseRegion (.ringUnarchived q)).trav.ring) (hk : b.kind ≠ 0x0C) : b.seq < q ∨ 0 < b.archived := by
  change b ∈ (s.loseRing q).trav.ring at hb
  unfold State.loseRing at hb
  extract_lets keep cutAt cut broken gone last tr u t waits at hb
  have hcut : b ∈ cut → b.seq < q ∨ 0 < b.archived := fun h => by
    obtain ⟨x, hx, rfl⟩ := List.mem_map.1 h
    have hx' := (List.mem_filter.1 hx).2
    rw [Bool.or_eq_true, decide_eq_true_eq, decide_eq_true_eq] at hx'
    by_cases hq : x.seq < q
    · exact .inl (by simp only [cutAt, if_pos hq]; exact hq)
    · exact .inr (by simp only [cutAt, if_neg hq]; exact hx'.resolve_left hq)
  have ht : t.trav.ring = cut := by
    have hpu : u.trav.pending.length = 0 := List.length_eq_zero_iff.2 hp
    show ((u.event 0x3800 0xA 2).drainPending u.trav.pending.length).trav.ring = cut
    rw [hpu]
    rfl
  split at hb
  · refine (mem_ring_checkpoint hb).elim (fun h => hcut ?_) fun h => absurd h hk
    rw [← ht]
    exact h
  · refine hcut ?_
    rw [← ht]
    exact hb

theorem loseShadow_epoch (s : State) : (s.loseRegion .dictShadow).dtx.epoch = s.dtx.epoch + 1 := rfl

/-! ### WORD_LOST and BANK_COPY_DONE -/

/-- In every region the clock, the tamper controller and the dictionary's form stay, and the event log's numbers do not fall. -/
theorem loseRegion_keeps (hc : Calm s) (w : LostWord) : (s.loseRegion w).clk = s.clk ∧ (s.loseRegion w).tamp = s.tamp ∧
    (Map.wf s.dict = true → Map.wf (s.loseRegion w).dict = true) ∧ s.flt.seq ≤ (s.loseRegion w).flt.seq := by
  have hw : Within (ending ||| parts [.rwork, .mcache, .trav, .flt]) s (s.loseRegion w) := .loseRegion rfl .refl
  refine ⟨hw.same .clk rfl, hw.same .tamp rfl, hw.stays.dict, ?_⟩
  have hf : ∀ {k : Parts} {t : State}, Within k s t → inParts k .flt = false → s.flt.seq ≤ t.flt.seq := fun h hk => (congrArg Faults.seq (h.same .flt hk)).ge
  cases w with
  | loadedKey h => exact (loseLoaded hc h).seq
  | eventLog i => exact le_refl _
  | jobInput r =>
    refine hf (k := ending) ?_ rfl
    show Within ending s (match s.findJob r with | some x => if x.live then s.cutJob x 0x51 0xFF 0 else s | none => s)
    split
    · exact .ite (.cutJob rfl .refl) .refl
    · exact .refl
  | egress r => exact hf (k := ending) (.loseCompletion rfl .refl) rfl
  | matrix dg =>
    by_cases hr : s.readersOf dg = []
    · rw [loseMatrix_eq, if_pos hr]
    · rw [loseMatrix_eq, if_neg hr]
      refine hf (k := parts [.free, .jobs, .tenants, .les]) (.foldl .refl fun u r h => ?_) rfl
      split
      · exact .accrue rfl h
      · exact h
  | volatileKey h =>
    exact hf (k := ending) (.ite .refl (.dropVolatile rfl (.foldl .refl fun _ _ h => .cutJob rfl h))) rfl
  | drbg d => exact hf (k := parts [.ent]) (.ite (.loseDrbg rfl .refl) .refl) rfl
  | channel slot => exact hf (k := ending) (.ite (.abortChannel rfl .refl) .refl) rfl
  | stream chan n => exact hf (k := ending) (.breakStream rfl .refl) rfl
  | ringUnarchived q => exact hf (k := parts [.dict, .dtx, .rwork, .trav]) (.loseRing rfl .refl) rfl
  | dictShadow => exact le_refl _
  | ringArchived => exact le_refl _
  | firmware => exact le_refl _

/-- A lost word is logged, charged and flagged; what holds after its region's outcome and outlasts that holds. -/
theorem loseWord_reports (hw : Map.wf s.dict = true) (hc : Calm s) (hp : s.tamp.parity.length < 63) (bank : Option Nat) (w : LostWord) :
    WordReported (s.loseRegion w) (s.loseWord bank w) (bankOf bank w) ∧
      LogRow s (s.loseWord bank w) 9 (if (bankOf bank w).isSome then 7 else 0) 0xFF ((bankOf bank w).getD 0) ∧
      bitAt ((s.loseWord bank w).rd 0x4800 1) 0 = true ∧ bitAt ((s.loseWord bank w).rd 0x4800 1) 5 = true := by
  obtain ⟨hclk, htamp, hdict, hseq⟩ := loseRegion_keeps hc w
  have hr := wordReported_spec (s := s.loseRegion w) (htamp ▸ hp) (bankOf bank w)
  rw [loseWord_eq]
  obtain ⟨e, he, h1, h2, h3, h4, h5, h6⟩ := hr.row
  exact ⟨hr, ⟨e, he, h1, h2, h3, h4, h5.trans (by rw [hclk]), Nat.lt_of_le_of_lt hseq h6⟩, hr.bits (hdict hw)⟩

theorem wordLost_goes {P : State → Prop} (hr : s.runs = true) {bank : Option Nat} (hb : ∀ b, bank = some b → b < 34) (hw : Map.wf s.dict = true) (hc : Calm s)
    (hp : s.tamp.parity.length < 63) (w : LostWord) (hP : ∀ t, WordReported (s.loseRegion w) t (bankOf bank w) → P t) :
    GoesTo (exec (.wordLost bank w) s) (fun t => LogRow s t 9 (if (bankOf bank w).isSome then 7 else 0) 0xFF ((bankOf bank w).getD 0) ∧
      bitAt (t.rd 0x4800 1) 0 = true ∧ bitAt (t.rd 0x4800 1) 5 = true ∧ P t) := by
  have hx : exec (.wordLost bank w) s = .next (s.loseWord bank w) := when_of_true (by
    rw [hr]
    cases bank with
    | none => rfl
    | some b => exact decide_eq_true (hb b rfl))
  obtain ⟨h1, h2, h3, h4⟩ := loseWord_reports hw hc hp bank w
  exact ⟨_, hx, h2, h3, h4, hP _ h1⟩

namespace WordReported

theorem findJob {b : Option Nat} (h : WordReported s t b) (r : JobRef) : t.findJob r = s.findJob r := State.findJob_congr (h.within.same .jobs rfl) r

end WordReported

theorem bankOf_none (w : LostWord) : bankOf none w = none := by
  cases w <;> rfl

/-- The spare serves in the bank's place. -/
def State.spareServes (s : State) (b : Nat) : State :=
  (s.withFlt { s.flt with copying := s.flt.copying.filter (fun x => x != b) }).logRow 6 7 0xFF b 0xFF 0 0

/-- The row of a copied bank, where the log has room, is all that is written with it. -/
theorem spareServes_eq (hl : s.flt.log.length < 4096) (b : Nat) : s.spareServes b = s.withFlt { s.flt with
    copying := s.flt.copying.filter (fun x => x != b), seq := s.flt.seq + 1, log := s.flt.log ++ [⟨s.flt.seq + 1, s.clk.datum, 6, 7, 0xFF, b, 0xFF, 0, 0⟩] } := by
  unfold State.spareServes State.logRow
  dsimp only
  have h : (s.withFlt { s.flt with copying := s.flt.copying.filter (fun x => x != b) }).flt.log = s.flt.log := rfl
  rw [h, if_pos hl, if_pos hl]
  rfl

theorem bankCopyDone_goes (hs : s.runs = true) (hw : Map.wf s.dict = true) (hc : Calm s) (hp : s.tamp.parity.length < 63) (hl : s.flt.log.length < 4000)
    {b : Nat} {lost : List LostWord} (hb : s.flt.copying.contains b = true) : GoesTo (exec (.bankCopyDone b lost) s) (fun t =>
      (lost = [] → t.flt.copying = s.flt.copying.filter (fun x => x != b) ∧ LogRow s t 6 7 0xFF b ∧ t = { s with flt := t.flt }) ∧
      ∀ x, lost = [x] → LogRow s t 9 0 0xFF 0) := by
  have hx : exec (.bankCopyDone b lost) s = .next (lost.foldl (fun u w => u.loseWord none w) (s.spareServes b)) := when_of_true (by rw [hs, hb]; rfl)
  refine ⟨_, hx, fun h => ?_, fun x h => ?_⟩
  · rw [h, List.foldl_nil, spareServes_eq (by omega)]
    exact ⟨rfl, ⟨_, List.mem_append_right _ (List.mem_singleton_self _), rfl, rfl, rfl, rfl, rfl, Nat.lt_succ_self _⟩, rfl⟩
  · rw [h, List.foldl_cons, List.foldl_nil]
    have ht := spareServes_eq (s := s) (b := b) (by omega)
    obtain ⟨-, ⟨e, he, h1, h2, h3, h4, h5, h6⟩, -⟩ := loseWord_reports (s := s.spareServes b) (by rw [ht]; exact hw) (by rw [ht]; exact hc.congr rfl rfl)
      (by rw [ht]; exact hp) none x
    rw [bankOf_none] at h2 h4
    refine ⟨e, he, h1, h2, h3, h4, h5.trans (by rw [ht]; rfl), ?_⟩
    have hseq : (s.spareServes b).flt.seq = s.flt.seq + 1 := by rw [ht]; rfl
    omega

/-- Settles O44. -/
theorem fencesLostWordsAndCopiesComplete : Obligations.FencesLostWordsAndCopiesComplete := by
  unfold Obligations.FencesLostWordsAndCopiesComplete
  refine ⟨fun s e hr hw => ⟨fun r j he hj hf hs h3 ht => aesFenceTimeout_goes hr he hj hf hs h3 ht, fun he hj => gateAbort_goes hr hw he hj⟩,
    fun s bank w hr hb hp hl hw hv hch hc => ⟨?_, fun b lost hcp => bankCopyDone_goes hr hw hc hp hl hcp⟩⟩
  cases w with
  | jobInput r => exact wordLost_goes hr hb hw hc hp _ fun t h j hj hlv hk => (loseJobInput hc hj hlv hk).within h.within rfl
  | egress r =>
    refine wordLost_goes hr hb hw hc hp _ fun t h j hj hs => ?_
    rw [h.findJob]
    exact loseEgress hj hs
  | matrix dg =>
    refine wordLost_goes hr hb hw hc hp _ fun t h => ?_
    have hm : t.mcache = (s.loseRegion (.matrix dg)).mcache := h.within.same .mcache rfl
    obtain ⟨h1, h2⟩ := loseMatrix s dg
    dsimp only
    rw [hm]
    exact ⟨fun hn => h1 ((readersOf_nil s dg).2 hn), fun hn => h2 fun he => (readersOf_nil s dg).1 he hn⟩
  | loadedKey h =>
    refine wordLost_goes hr hb hw hc hp _ fun t ht => ?_
    have hk : t.keys = (s.loseRegion (.loadedKey h)).keys := ht.within.same .keys rfl
    dsimp only
    rw [hk, (loseLoaded hc h).loaded]
    simp
  | volatileKey h =>
    refine wordLost_goes hr hb hw hc hp _ fun t ht h0 hk => ?_
    have he : t.keys = (s.loseRegion (.volatileKey h)).keys := ht.within.same .keys rfl
    rw [he]
    exact loseVolatile hv h0 hk
  | drbg d =>
    refine wordLost_goes hr hb hw hc hp _ fun t ht hd hs => ?_
    have he : t.ent = (s.loseRegion (.drbg d)).ent := ht.within.same .ent rfl
    rw [State.drbg, he]
    exact loseDrbg hd hs
  | channel slot =>
    refine wordLost_goes hr hb hw hc hp _ fun t ht c h => ?_
    have he : t.chans = (s.loseRegion (.channel slot)).chans := ht.within.same .chans rfl
    exact loseChannel hch (he ▸ h)
  | stream chan n =>
    refine wordLost_goes hr hb hw hc hp _ fun t ht d hd => ?_
    exact (ht.subs.rd _).trans (loseStream hw hc hd)
  | ringUnarchived q =>
    refine wordLost_goes hr hb hw hc hp _ fun t ht hpend b hbm hk => ?_
    have he : t.trav = (s.loseRegion (.ringUnarchived q)).trav := ht.within.same .trav rfl
    exact loseRing hpend (he ▸ hbm) hk
  | eventLog i =>
    refine wordLost_goes hr hb hw hc hp _ fun t ht e he => ?_
    obtain ⟨h1, h2⟩ := loseLog he
    obtain ⟨l, hl'⟩ := ht.log (h2 ▸ hl)
    rw [← hl', List.getElem?_append_left (List.getElem?_eq_some_iff.1 h1).1]
    exact h1
  | dictShadow => exact wordLost_goes hr hb hw hc hp _ fun t ht => ht.epoch.trans (loseShadow_epoch s)
  | ringArchived => exact wordLost_goes hr hb hw hc hp _ fun t ht => ⟨ht.within.same .jobs rfl, ht.within.same .keys rfl, ht.within.same .trav rfl⟩
  | firmware => exact wordLost_goes hr hb hw hc hp _ fun t ht => ⟨ht.within.same .jobs rfl, ht.within.same .keys rfl, ht.within.same .trav rfl⟩
end Machine
end Sys2Proof
end

section
/-! Flash channels: presence, gates, regions, verdicts, the write filter and update windows (15 R338-R348, R352; O40). -/
namespace Sys2Proof
namespace Machine
variable {s t u : State} {n : Nat}

theorem bitAt_setBit_true (v i j : Nat) : bitAt (setBit v i true) j = (bitAt v j || decide (i = j)) := by
  have h : setBit v i true = 2 ^ i * (2 * (v / 2 ^ (i + 1)) + 1) + v % 2 ^ i := by
    have h0 : setBit v i true = setBit v i false + 2 ^ i := rfl
    rw [h0, setBit_false_eq, pow_succ]
    ring
  rw [bitAt_eq_testBit, bitAt_eq_testBit, h, Nat.testBit_two_pow_mul_add _ (Nat.mod_lt _ (by positivity))]
  rcases lt_trichotomy j i with hj | rfl | hj
  · rw [if_pos hj, Nat.testBit_mod_two_pow]
    simp [hj, hj.ne']
  · simp
  · obtain ⟨k, rfl⟩ : ∃ k, j = i + 1 + k := ⟨j - (i + 1), by omega⟩
    rw [if_neg (by omega), show i + 1 + k - i = k + 1 by omega, Nat.testBit_succ, show (2 * (v / 2 ^ (i + 1)) + 1) / 2 = v / 2 ^ (i + 1) by omega,
      Nat.testBit_div_two_pow, decide_eq_false (show ¬ i = i + 1 + k by omega), Bool.or_false, Nat.add_comm k]

theorem bitAt_setBit_self (v i : Nat) (b : Bool) : bitAt (setBit v i b) i = b := by
  cases b
  · rw [bitAt_setBit_false]
    simp
  · rw [bitAt_setBit_true]
    simp

theorem chanFlash_setFlash_self (s : State) (n : Nat) (v : Flash) : (s.setFlash n v).chanFlash n = v := Map.getD_put_self _ _ _ _

theorem chanFlash_setFlash_of_ne (s : State) {n m : Nat} (v : Flash) (h : m ≠ n) : (s.setFlash n v).chanFlash m = s.chanFlash m := Map.getD_put_of_ne _ _ _ h

theorem chanFlash_congr (h : t.flash = s.flash) (n : Nat) : t.chanFlash n = s.chanFlash n := by rw [State.chanFlash, State.chanFlash, h]

/-- What a channel's events may touch of the dictionary: its own entries, the lines' event entry, the windows and the traverse's. -/
def boardIdx (n i : Nat) : Prop := i = 0x3800 ∨ i = 0x3200 ∨ i = 0x3300 ∨ i = 0x3000 + n

/-! ### Presence (R338, R350, R352) -/

/-- The debounced level of PRES_N[n] has changed, and the channel's entries say so. -/
def State.presenceSeen (s : State) (n : Nat) (level : Bool) : State :=
  (({ s with pins := { s.pins with pres := setBit s.pins.pres n level } } : State).wr (0x3000 + n) 0x10 (if level then 0 else 1)).event (0x3000 + n) 0x18 (if level then 2 else 1)

theorem presenceSeen_fields (s : State) (n : Nat) (level : Bool) : (s.presenceSeen n level).pins = { s.pins with pres := setBit s.pins.pres n level } ∧
    (s.presenceSeen n level).flash = s.flash ∧ (s.presenceSeen n level).gate = s.gate := ⟨rfl, rfl, rfl⟩

theorem presenceSeen_within (s : State) (n : Nat) (level : Bool) : Within (parts [.pins, .dict, .dtx]) s (s.presenceSeen n level) :=
  .event rfl (.wr rfl (.set rfl rfl .refl))

theorem rd_presenceSeen (hw : Map.wf s.dict = true) (n : Nat) (level : Bool) : (s.presenceSeen n level).rd (0x3000 + n) 0x10 = (if level then 0 else 1) ∧
    (s.presenceSeen n level).rd (0x3000 + n) 0x18 = eventAdd (s.rd (0x3000 + n) 0x18) (if level then 2 else 1) ∧
    (∀ i a, a < 256 → a ≠ 0x10 → a ≠ 0x18 → (s.presenceSeen n level).rd i a = s.rd i a) := by
  have hpin : ∀ i a, State.rd { s with pins := { s.pins with pres := setBit s.pins.pres n level } } i a = s.rd i a := fun _ _ => rfl
  refine ⟨?_, ?_, fun i a ha h1 h2 => ?_⟩
  · rw [State.presenceSeen, State.rd_event, State.rd_wr_of_sub _ (by decide) (by decide) (.inr (by decide)), State.rd_wr_self (by exact hw)]
  · rw [State.presenceSeen, rd_event_self (State.wf_wr (by exact hw) _ _ _), State.rd_wr_of_sub _ (by decide) (by decide) (.inr (by decide)), hpin]
  · rw [State.presenceSeen, State.rd_event, State.rd_wr_of_sub _ (by decide) ha (.inr h2), State.rd_wr_of_sub _ (by decide) ha (.inr h1), hpin]

theorem toGated_touches (s : State) (n : Nat) : Touches (boardIdx n) s (s.toGated n) := Touches.refl.toGated (.inl rfl) (.inr (.inl rfl)) (.inr (.inr (.inr rfl)))

/-- What a channel that goes to GATED reads (R338). -/
theorem toGated_spec (hw : Map.wf s.dict = true) (hn : n ≠ 0) (h31 : n ≤ 31) : (s.toGated n).chanMode n = 0 ∧ (s.toGated n).rd (0x3000 + n) 0x15 = 0 ∧
    ((s.toGated n).chanFlash n).held = false ∧ (∀ a, a < 256 → a ≠ 2 → a ≠ 0x15 → (s.toGated n).rd (0x3000 + n) a = s.rd (0x3000 + n) a) ∧
    (∀ m, m ≠ n → (s.toGated n).chanFlash m = s.chanFlash m) := by
  refine ⟨State.chanMode_toGated hw hn, ?_⟩
  unfold State.toGated
  extract_lets x y
  have hx : Touches (fun i => i = 0x3800 ∨ i = 0x3200) s x := .ite (Touches.refl.leavePass (.inl rfl) (.inr rfl)) .refl
  have hxw : Within (parts [.dict, .dtx, .rwork, .trav]) s x := .ite (.leavePass rfl .refl) .refl
  have hwy : Within (parts [.dict]) x y := .wr rfl (.wr rfl .refl)
  have hz : ∀ i a, (y.setFlash n { y.chanFlash n with held := false, seen := none, cutting := false }).watchLines.rd i a = y.rd i a := fun i a =>
    State.rd_congr ((Within.watchLines (k := parts [.flash, .gate]) rfl (.setFlash rfl .refl)).same .dict rfl) i a
  have hf : ∀ m, (y.setFlash n { y.chanFlash n with held := false, seen := none, cutting := false }).watchLines.chanFlash m =
      (y.setFlash n { y.chanFlash n with held := false, seen := none, cutting := false }).chanFlash m := fun m =>
    chanFlash_congr ((Within.watchLines (k := parts [.gate]) rfl .refl).same .flash rfl) m
  refine ⟨?_, ?_, fun a ha h2 h15 => ?_, fun m hm => ?_⟩
  · rw [hz, State.rd_wr_self (State.wf_wr (hx.wf hw) _ _ _)]
  · rw [hf, chanFlash_setFlash_self]
  · rw [hz, State.rd_wr_of_sub _ (by decide) ha (.inr h15), State.rd_wr_of_sub _ (by decide) ha (.inr h2)]
    exact hx.rd _ _ ha (by omega)
  · rw [hf, chanFlash_setFlash_of_ne _ _ hm]
    exact chanFlash_congr ((hxw.mono rfl |>.trans (hwy.mono rfl) : Within (parts [.dict, .dtx, .rwork, .trav]) s y).same .flash rfl) m

theorem runs_of (hp : s.phase = .up) (hg : s.clk.gated = false) : s.runs = true := by
  rw [State.runs, hp, hg]
  rfl

theorem presenceHigh_goes (hp : s.phase = .up) (hg : s.clk.gated = false) (h1 : 1 ≤ n) (h31 : n ≤ 31) (hw : Map.wf s.dict = true) (hb : bitAt s.pins.pres n = false) :
    GoesTo (exec (.presenceChange n true) s) (fun t =>
      bitAt t.pins.pres n = true ∧ t.rd (0x3000 + n) 0x10 = 0 ∧ t.rd (0x3000 + n) 0x18 = eventAdd (s.rd (0x3000 + n) 0x18) 2 ∧ t.chanMode n = 0 ∧ t.rd (0x3000 + n) 0x15 = 0 ∧
        (∀ l, l < 32 → t.released l = (s.released l && !(s.lineChans l).contains n)) ∧
        t = { s with pins := t.pins, dict := t.dict, dtx := t.dtx, flash := t.flash, gate := t.gate, trav := t.trav, rwork := t.rwork }) := by
  have hx : exec (.presenceChange n true) s = .next ((((s.presenceSeen n true).toGated n).assertLines (fun l => (s.lineChans l).contains n)).watchLines) :=
    if_neg (by rw [runs_of hp hg, hb]; simp; omega)
  obtain ⟨hr1, hr2, hr3⟩ := rd_presenceSeen hw n true
  have hw' : Map.wf (s.presenceSeen n true).dict = true := (presenceSeen_within s n true).stays.dict hw
  obtain ⟨g1, g2, -, g4, -⟩ := toGated_spec hw' (by omega) h31
  have hall : Within (parts [.pins, .dict, .dtx, .flash, .gate, .trav, .rwork]) s
      ((((s.presenceSeen n true).toGated n).assertLines (fun l => (s.lineChans l).contains n)).watchLines) :=
    .watchLines rfl (.assertLines rfl (.toGated rfl ((presenceSeen_within s n true).mono rfl)))
  have hpins : ((s.presenceSeen n true).toGated n).pins = { s.pins with pres := setBit s.pins.pres n true } :=
    (Within.toGated (k := parts [.dict, .dtx, .rwork, .flash, .gate, .trav]) rfl .refl).same .pins rfl
  revert hx hall
  generalize (s.presenceSeen n true).toGated n = v at *
  intro hx hall
  have hd : ∀ i a, ((v.assertLines fun l => (s.lineChans l).contains n).watchLines).rd i a = v.rd i a := fun _ _ => rfl
  refine ⟨_, hx, ?_, (hd _ _).trans ((g4 _ (by decide) (by decide) (by decide)).trans hr1), (hd _ _).trans ((g4 _ (by decide) (by decide) (by decide)).trans hr2), g1, (hd _ _).trans g2,
    fun l hl => ?_, hall.eq_keepBut⟩
  · have : ((v.assertLines fun l => (s.lineChans l).contains n).watchLines).pins.pres = v.pins.pres := rfl
    rw [this, hpins]
    exact bitAt_setBit_self _ _ _
  · have : ((v.assertLines fun l => (s.lineChans l).contains n).watchLines).released l = (v.assertLines fun l => (s.lineChans l).contains n).released l := rfl
    rw [this, State.released_assertLines hl, State.released, hpins, State.released]

theorem presenceLow_goes (hp : s.phase = .up) (hg : s.clk.gated = false) (h1 : 1 ≤ n) (h31 : n ≤ 31) (hw : Map.wf s.dict = true) (hb : bitAt s.pins.pres n = true) :
    GoesTo (exec (.presenceChange n false) s) (fun t =>
      bitAt t.pins.pres n = false ∧ t.rd (0x3000 + n) 0x10 = 1 ∧ t.rd (0x3000 + n) 0x18 = eventAdd (s.rd (0x3000 + n) 0x18) 1 ∧ t.chanMode n = s.chanMode n ∧ t.pins.lines = s.pins.lines ∧
        (t.chanFlash n).held = false ∧ t = { s with pins := t.pins, dict := t.dict, dtx := t.dtx, flash := t.flash, gate := t.gate }) := by
  have hx : exec (.presenceChange n false) s = .next (((s.presenceSeen n false).setFlash n { (s.presenceSeen n false).chanFlash n with held := false, presentAt := s.clk.fab }).watchLines) :=
    if_neg (by rw [runs_of hp hg, hb]; simp; omega)
  obtain ⟨hr1, hr2, hr3⟩ := rd_presenceSeen hw n false
  have hall : Within (parts [.pins, .dict, .dtx, .flash, .gate]) s
      (((s.presenceSeen n false).setFlash n { (s.presenceSeen n false).chanFlash n with held := false, presentAt := s.clk.fab }).watchLines) :=
    .watchLines rfl (.setFlash rfl ((presenceSeen_within s n false).mono rfl))
  have hpins := (presenceSeen_fields s n false).1
  revert hx hall
  generalize s.presenceSeen n false = v at *
  intro hx hall
  refine ⟨_, hx, ?_, hr1, hr2, ?_, ?_, congrArg Flash.held (chanFlash_setFlash_self _ _ _), hall.eq_keepBut⟩
  · have : ((v.setFlash n { v.chanFlash n with held := false, presentAt := s.clk.fab }).watchLines).pins = v.pins := rfl
    rw [this, hpins]
    exact bitAt_setBit_self _ _ _
  · rw [State.chanMode, State.chanMode]
    exact if_congr Iff.rfl rfl (hr3 _ _ (by decide) (by decide) (by decide))
  · have : ((v.setFlash n { v.chanFlash n with held := false, presentAt := s.clk.fab }).watchLines).pins = v.pins := rfl
    rw [this, hpins]

/-! ### The start of a gate (R338, R339, R459) -/

/-- A valid SFDP was found. -/
def sfdpValid (d : Discovery) : Bool := d.ok && d.sfdp == 1

/-- The protocol of reads that a gate takes. -/
def State.gateProtocol (s : State) (n : Nat) (d : Discovery) : Nat := if sfdpValid d then s.readProtocol n d else 1

/-- What a gate keeps of the channel's flash. -/
def State.gateFlash (s : State) (n : Nat) (d : Discovery) : Flash :=
  { s.chanFlash n with found := d.ok, page := if d.page = 0 then 256 else d.page, erases := d.erases, addr4 := s.rd (0x3000 + n) 5 == 1 || (s.rd (0x3000 + n) 5 == 2 && d.sfdp == 1 && d.wide),
                       cfg := s.chanEntries n, clock := if sfdpValid d then s.readClock n (s.gateProtocol n d) else 25, switches := sfdpValid d && d.switches }

/-- The channel's entries at the start of a gate. -/
def State.gateEntries (s : State) (n : Nat) (d : Discovery) : State :=
  (((((s.wr (0x3000 + n) 2 1).wr (0x3000 + n) 0x15 2).wr (0x3000 + n) 0x11 (d.jedec % 2 ^ 24)).wr (0x3000 + n) 0x12 (if sfdpValid d then d.density % 2 ^ 32 else 0)).wr (0x3000 + n) 0x13
    (if d.ok then d.sfdp % 4 else 0)).wr (0x3000 + n) 0x14 (s.gateProtocol n d)

/-- No region has a verdict. -/
def State.undecided (s : State) (n : Nat) : State := (List.range 8).foldl (fun u r => u.wr (0x3100 + n) (0x30 + r) 0xFF) s

/-- The gate of a channel has started. -/
def State.gateStarted (s : State) (n : Nat) (d : Discovery) : State := ((s.gateEntries n d).setFlash n (s.gateFlash n d)).undecided n

theorem undecided_spec (hw : Map.wf s.dict = true) (n : Nat) : (∀ i a, a < 256 → i ≠ 0x3100 + n → (s.undecided n).rd i a = s.rd i a) ∧
    ∀ i, i < 8 → (s.undecided n).rd (0x3100 + n) (0x30 + i) = 0xFF := by
  have ht : Touches (fun i => i = 0x3100 + n) s (s.undecided n) :=
    List.foldlRecOn (motive := fun v => Touches (fun i => i = 0x3100 + n) s v) _ _ .refl fun v hv r hr => hv.wr rfl (by have := List.mem_range.1 hr; omega)
  refine ⟨fun i a ha hi => ht.rd i a ha hi, fun i hi => ?_⟩
  have hwf : ∀ (u : State) r, Map.wf u.dict = true → Map.wf (u.wr (0x3100 + n) (0x30 + r) 0xFF).dict = true := fun u r hu => State.wf_wr hu _ _ _
  exact (foldl_reaches (I := fun u => Map.wf u.dict = true) (G := fun u => Map.wf u.dict = true ∧ u.rd (0x3100 + n) (0x30 + i) = 0xFF) (List.mem_range.mpr hi) hw
    (fun u r _ hu => hwf u r hu) (fun u r hr hu => ⟨hwf u r hu.1, by
      have h8 := List.mem_range.mp hr
      by_cases h : i = r
      · subst h; exact State.rd_wr_self hu.1 _ _ _
      · exact (State.rd_wr_of_sub _ (by omega) (by omega) (.inr (by omega))).trans hu.2⟩)
    fun u hu => ⟨hwf u i hu, State.rd_wr_self hu _ _ _⟩).2

theorem undecided_within (s : State) (n : Nat) : Within (parts [.dict]) s (s.undecided n) := .foldl .refl fun _ _ h => .wr rfl h

theorem gateStarted_within (s : State) (n : Nat) (d : Discovery) : Within (parts [.dict, .flash]) s (s.gateStarted n d) :=
  Within.trans (.setFlash rfl (.wr rfl (.wr rfl (.wr rfl (.wr rfl (.wr rfl (.wr rfl .refl))))))) ((undecided_within _ n).mono rfl)

/-- What the entries read once a gate has started. -/
theorem rd_gateEntries (hw : Map.wf s.dict = true) (n : Nat) (d : Discovery) : Map.wf (s.gateEntries n d).dict = true ∧ (s.gateEntries n d).rd (0x3000 + n) 2 = 1 ∧
    (s.gateEntries n d).rd (0x3000 + n) 0x15 = 2 ∧ (s.gateEntries n d).rd (0x3000 + n) 0x11 = d.jedec % 2 ^ 24 ∧
    (s.gateEntries n d).rd (0x3000 + n) 0x12 = (if sfdpValid d then d.density % 2 ^ 32 else 0) ∧ (s.gateEntries n d).rd (0x3000 + n) 0x13 = (if d.ok then d.sfdp % 4 else 0) ∧
    (s.gateEntries n d).rd (0x3000 + n) 0x14 = s.gateProtocol n d := by
  have h1 := State.wf_wr hw (0x3000 + n) 2 1
  have h2 := State.wf_wr h1 (0x3000 + n) 0x15 2
  have h3 := State.wf_wr h2 (0x3000 + n) 0x11 (d.jedec % 2 ^ 24)
  have h4 := State.wf_wr h3 (0x3000 + n) 0x12 (if sfdpValid d then d.density % 2 ^ 32 else 0)
  have h5 := State.wf_wr h4 (0x3000 + n) 0x13 (if d.ok then d.sfdp % 4 else 0)
  have hn : ∀ (u : State) {a b : Nat} (v : Nat), a < 256 → b < 256 → b ≠ a → (u.wr (0x3000 + n) a v).rd (0x3000 + n) b = u.rd (0x3000 + n) b := fun u a b v ha hb h =>
    State.rd_wr_of_sub _ ha hb (.inr h)
  unfold State.gateEntries
  refine ⟨State.wf_wr h5 _ _ _, ?_, ?_, ?_, ?_, ?_, State.rd_wr_self h5 _ _ _⟩
  · rw [hn _ _ (by decide) (by decide) (by decide), hn _ _ (by decide) (by decide) (by decide), hn _ _ (by decide) (by decide) (by decide), hn _ _ (by decide) (by decide) (by decide),
      hn _ _ (by decide) (by decide) (by decide), State.rd_wr_self hw]
  · rw [hn _ _ (by decide) (by decide) (by decide), hn _ _ (by decide) (by decide) (by decide), hn _ _ (by decide) (by decide) (by decide), hn _ _ (by decide) (by decide) (by decide),
      State.rd_wr_self h1]
  · rw [hn _ _ (by decide) (by decide) (by decide), hn _ _ (by decide) (by decide) (by decide), hn _ _ (by decide) (by decide) (by decide), State.rd_wr_self h2]
  · rw [hn _ _ (by decide) (by decide) (by decide), hn _ _ (by decide) (by decide) (by decide), State.rd_wr_self h3]
  · rw [hn _ _ (by decide) (by decide) (by decide), State.rd_wr_self h4]

theorem execGateStart_eq (hp : s.phase = .up) (hg : s.clk.gated = false) (h1 : 1 ≤ n) (h31 : n ≤ 31) {d : Discovery} (hs : s.boardServed = true) (hm : s.chanMode n = 0)
    (hh : (s.chanFlash n).held = false) (he : s.rd (0x3000 + n) 1 = 1) (hpr : s.rd (0x3000 + n) 0x10 = 1) (hb : s.bankOut n = false) :
    exec (.gateStart n d) s = .next (s.gateStarted n d) := by
  have hc : (s.phase == .up && !s.clk.gated && s.boardServed && decide (1 ≤ n) && decide (n ≤ 31) && s.chanMode n == 0 && !(s.chanFlash n).held && s.rd (0x3000 + n) 1 == 1 &&
      s.rd (0x3000 + n) 0x10 == 1 && !s.bankOut n) = true := by
    rw [hp, hg, hs, hm, hh, he, hpr, hb, decide_eq_true h1, decide_eq_true h31]
    rfl
  exact when_of_true hc

theorem gateStart_goes (hp : s.phase = .up) (hg : s.clk.gated = false) (h1 : 1 ≤ n) (h31 : n ≤ 31) (hw : Map.wf s.dict = true) {d : Discovery} (hs : s.boardServed = true)
    (hm : s.chanMode n = 0) (hh : (s.chanFlash n).held = false) (he : s.rd (0x3000 + n) 1 = 1) (hpr : s.rd (0x3000 + n) 0x10 = 1) (hb : s.bankOut n = false) :
    GoesTo (exec (.gateStart n d) s) (fun t => t.chanMode n = 1 ∧ t.rd (0x3000 + n) 0x15 = 2 ∧ t.rd (0x3000 + n) 0x11 = d.jedec % 2 ^ 24 ∧
        t.rd (0x3000 + n) 0x12 = (if sfdpValid d then d.density % 2 ^ 32 else 0) ∧ t.rd (0x3000 + n) 0x13 = (if d.ok then d.sfdp % 4 else 0) ∧
        t.rd (0x3000 + n) 0x14 = (if sfdpValid d then s.readProtocol n d else 1) ∧ (t.chanFlash n).clock = (if sfdpValid d then s.readClock n (s.readProtocol n d) else 25) ∧
        t.channelPins n = (if s.pins.safe then ⟨true, false, false, 0⟩ else ⟨true, true, false, 0⟩) ∧ (∀ i, i < 8 → t.rd (0x3100 + n) (0x30 + i) = 0xFF) ∧
        (t.chanFlash n).cfg = s.chanEntries n ∧ t = { s with dict := t.dict, flash := t.flash }) := by
  obtain ⟨hwe, e1, e2, e3, e4, e5, e6⟩ := rd_gateEntries hw n d
  obtain ⟨hu, hff⟩ := undecided_spec (s := (s.gateEntries n d).setFlash n (s.gateFlash n d)) hwe n
  have hfl : (s.gateStarted n d).chanFlash n = s.gateFlash n d :=
    (chanFlash_congr ((undecided_within _ n).same .flash rfl) n).trans (chanFlash_setFlash_self _ _ _)
  have hr : ∀ a, a < 256 → (s.gateStarted n d).rd (0x3000 + n) a = (s.gateEntries n d).rd (0x3000 + n) a := fun a ha => hu _ a ha (by omega)
  have hmode : (s.gateStarted n d).chanMode n = 1 := by
    rw [State.chanMode, if_neg (by omega), hr _ (by decide), e1]
  have hpin : (s.gateStarted n d).pins = s.pins := (gateStarted_within s n d).same .pins rfl
  refine ⟨_, execGateStart_eq hp hg h1 h31 hs hm hh he hpr hb, hmode, (hr _ (by decide)).trans e2, (hr _ (by decide)).trans e3, (hr _ (by decide)).trans e4,
    (hr _ (by decide)).trans e5, (hr _ (by decide)).trans e6, ?_, ?_, hff, congrArg Flash.cfg hfl, (gateStarted_within s n d).eq_keepBut⟩
  · rw [hfl]
    cases hv : sfdpValid d <;> simp only [State.gateFlash, State.gateProtocol, hv] <;> rfl
  · rw [State.channelPins, hpin, hmode]
    rfl

/-! ### Regions and their verdicts (R340, R347, R358) -/

/-- Other reserve work waits. -/
def State.withWork (s : State) (l : List ReserveItem) : State := { s with rwork := l }

/-- The verdict and the digest of a region stand in its entries. -/
def State.regionRead (s : State) (n i v d : Nat) : State := (s.wr (0x3100 + n) (0x30 + i) v).wr (0x3100 + n) (0x38 + i) d

/-- The additional digest that a region's policy asks for. -/
def State.alsoRecorded (s t : State) (n i : Nat) (m : Measured) (v : Nat) : State :=
  if bitsOf (s.gateCfg n (0x3100 + n) (0x13 + 4 * i)) 3 2 = 1 then t.record 0x01 v n i 1 (sha3 (s.covered n i m))
  else if bitsOf (s.gateCfg n (0x3100 + n) (0x13 + 4 * i)) 3 2 = 2 then t.record 0x01 v n i 2 (beNat (prim 32 .sha2_256 [s.covered n i m]) * 2 ^ 128) else t

theorem regionVerdict_eq (s : State) (n i : Nat) (m : Measured) : s.regionVerdict n i m =
    s.alsoRecorded ((s.regionRead n i (s.judge n i m) (s.regionDigest n i m)).record 0x01 (s.judge n i m) n i 0 (s.regionDigest n i m)) n i m (s.judge n i m) := rfl

theorem RecordsStay.record {kind verdict channel region flags digest : Nat} (s : State) : RecordsStay s (s.record kind verdict channel region flags digest) := by
  unfold State.record
  exact .trans .bench (.ite .checkpoint .refl)

theorem alsoRecorded_within (s t : State) (n i : Nat) (m : Measured) (v : Nat) : Within (parts [.dict, .dtx, .trav, .rwork]) t (s.alsoRecorded t n i m v) :=
  .ite (.record rfl .refl) (.ite (.record rfl .refl) .refl)

theorem alsoRecorded_touches (s t : State) (n i : Nat) (m : Measured) (v : Nat) : Touches (fun i => i = 0x3800) t (s.alsoRecorded t n i m v) :=
  .ite (Touches.refl.record rfl) (.ite (Touches.refl.record rfl) .refl)

/-- A record that has been made stands in the ring or waits for room. -/
theorem Recorded.stands {kind verdict channel region flags digest : Nat} (h : Recorded s t kind verdict channel region flags digest) :
    ∃ b ∈ t.trav.ring ++ t.trav.pending, b.kind = kind ∧ b.verdict = verdict ∧ b.channel = channel ∧ b.region = region ∧ b.flags % 8 = flags ∧ b.digest = digest := by
  obtain ⟨b, h1, h2, h3, h4, h5, h6, h7⟩ := h
  refine ⟨b, List.mem_append.2 ?_, h1, h2, h3, h4, h5, h6⟩
  split at h7
  · exact .inl h7.1
  · exact .inr h7

/-- What a region's verdict leaves. -/
structure RegionJudged (s t : State) (n i : Nat) (m : Measured) : Prop where
  verdict : t.rd (0x3100 + n) (0x30 + i) = s.judge n i m
  digest : t.rd (0x3100 + n) (0x38 + i) = s.regionDigest n i m
  recorded : Recorded s t 1 (s.judge n i m) n i 0 (s.regionDigest n i m)
  sha3 : bitsOf (s.gateCfg n (0x3100 + n) (0x13 + 4 * i)) 3 2 = 1 → ∃ b ∈ t.trav.ring ++ t.trav.pending, b.kind = 1 ∧ b.verdict = s.judge n i m ∧ b.channel = n ∧
    b.region = i ∧ b.flags % 8 = 1 ∧ b.digest = Machine.sha3 (s.covered n i m)
  sha2 : bitsOf (s.gateCfg n (0x3100 + n) (0x13 + 4 * i)) 3 2 = 2 → ∃ b ∈ t.trav.ring ++ t.trav.pending, b.kind = 1 ∧ b.verdict = s.judge n i m ∧ b.channel = n ∧
    b.region = i ∧ b.flags % 8 = 2 ∧ b.digest = beNat (prim 32 .sha2_256 [s.covered n i m]) * 2 ^ 128
  same : t = { s with dict := t.dict, dtx := t.dtx, trav := t.trav, rwork := t.rwork }

theorem regionVerdict_spec (hw : Map.wf s.dict = true) (h31 : n ≤ 31) {i : Nat} (hi : i < 8) (m : Measured) : RegionJudged s (s.regionVerdict n i m) n i m := by
  rw [regionVerdict_eq]
  generalize hv : s.judge n i m = v
  generalize hd : s.regionDigest n i m = d
  have hr : (s.regionRead n i v d).rd (0x3100 + n) (0x30 + i) = v ∧ (s.regionRead n i v d).rd (0x3100 + n) (0x38 + i) = d := by
    refine ⟨?_, State.rd_wr_self (State.wf_wr hw _ _ _) _ _ _⟩
    rw [State.regionRead, State.rd_wr_of_sub _ (by omega) (by omega) (.inr (by omega)), State.rd_wr_self hw]
  have hread : Within (parts [.dict, .dtx, .trav, .rwork]) s (s.regionRead n i v d) := .wr rfl (.wr rfl .refl)
  have htrav : (s.regionRead n i v d).trav = s.trav := rfl
  have hclk : (s.regionRead n i v d).clk = s.clk := rfl
  generalize s.regionRead n i v d = u at *
  have hu := record_recorded u 1 v n i 0 d
  have hrec : Touches (fun i => i = 0x3800) u (u.record 1 v n i 0 d) := Touches.refl.record rfl
  have hst : RecordsStay (u.bench 1 v n i 0 d 0) (u.record 1 v n i 0 d) := .ite .checkpoint .refl
  have hwin : Within (parts [.dict, .dtx, .trav, .rwork]) u (u.record 1 v n i 0 d) := .record rfl .refl
  revert hu hrec hst hwin
  generalize u.record 1 v n i 0 d = w
  intro hu hrec hst hwin
  have hto := hrec.trans (alsoRecorded_touches s w n i m v)
  have hsw : RecordsStay w (s.alsoRecorded w n i m v) := .ite (.record w) (.ite (.record w) .refl)
  refine ⟨?_, ?_, ?_, fun h1 => ?_, fun h2 => ?_, ((hread.trans hwin).trans (alsoRecorded_within s w n i m v)).eq_keepBut⟩
  · rw [hto.rd _ _ (by omega) (by omega), hr.1, hv]
  · rw [hto.rd _ _ (by omega) (by omega), hr.2, hd]
  · rw [hv, hd]
    exact (bench_recorded (hst.trans hsw)).mono (congrArg Traverse.pending htrav) (congrArg Traverse.ring htrav) (congrArg Traverse.nextSeq htrav)
      (congrArg Traverse.epoch htrav) (congrArg Clocks.datum hclk) rfl rfl
  · rw [State.alsoRecorded, if_pos h1, hv]
    exact (record_recorded w 1 v n i 1 (Machine.sha3 (s.covered n i m))).stands
  · rw [State.alsoRecorded, if_neg (by rw [h2]; decide), if_pos h2, hv]
    exact (record_recorded w 1 v n i 2 _).stands

/-- What other reserve work waits does not count for the verdict. -/
theorem RegionJudged.withWork {l : List ReserveItem} {i : Nat} {m : Measured} (h : RegionJudged (s.withWork l) t n i m) : RegionJudged s t n i m := by
  obtain ⟨h1, h2, h3, h4, h5, h6⟩ := h
  refine ⟨h1, h2, ?_, h4, h5, ?_⟩
  · exact h3.mono rfl rfl rfl rfl rfl rfl rfl
  · exact h6

/-- What REGION_MEASURED does where the region's turn has come. -/
theorem execRegionMeasured_eq (hp : s.phase = .up) (hg : s.clk.gated = false) (h1 : 1 ≤ n) (h31 : n ≤ 31) {i : Nat} {m : Measured} (hm : s.chanMode n = 1)
    (hi : i < s.regionCount n) (ht : s.regionTurn n i = true) (hff : s.rd (0x3100 + n) (0x30 + i) = 0xFF) : exec (.regionMeasured n i m) s =
      .next (if !s.signedRegion n i then s.regionVerdict n i m else if (s.enqueueReserve (.gate n)).reserveRuns (.gate n) then
        ((s.enqueueReserve (.gate n)).dropReserve (.gate n)).regionVerdict n i m else s.enqueueReserve (.gate n)) := by
  have hc : (s.phase == .up && !s.clk.gated && decide (1 ≤ n) && decide (n ≤ 31) && s.chanMode n == 1 && decide (i < s.regionCount n) && s.regionTurn n i &&
      s.rd (0x3100 + n) (0x30 + i) == 0xFF) = true := by
    rw [hp, hg, hm, ht, hff, decide_eq_true h1, decide_eq_true h31, decide_eq_true hi]
    rfl
  exact when_of_true hc

theorem regionMeasured_goes (hp : s.phase = .up) (hg : s.clk.gated = false) (h1 : 1 ≤ n) (h31 : n ≤ 31) (hw : Map.wf s.dict = true) {i : Nat} {m : Measured}
    (hm : s.chanMode n = 1) (hi : i < s.regionCount n) (ht : s.regionTurn n i = true) (hff : s.rd (0x3100 + n) (0x30 + i) = 0xFF) :
    (s.signedRegion n i = true → (s.enqueueReserve (.gate n)).reserveRuns (.gate n) = false → exec (.regionMeasured n i m) s = .next (s.enqueueReserve (.gate n))) ∧
    (s.signedRegion n i = false ∨ (s.enqueueReserve (.gate n)).reserveRuns (.gate n) = true → GoesTo (exec (.regionMeasured n i m) s) (fun t => RegionJudged s t n i m)) := by
  have h8 : i < 8 := Nat.lt_of_lt_of_le hi (Nat.min_le_left _ _)
  rw [execRegionMeasured_eq hp hg h1 h31 hm hi ht hff]
  refine ⟨fun hs hr => ?_, fun h => ?_⟩
  · rw [hs, if_neg (by decide), if_neg (by rw [hr]; decide)]
  · by_cases hs : s.signedRegion n i = true
    · have hr := h.resolve_left (by rw [hs]; decide)
      rw [hs, if_neg (by decide), if_pos hr]
      have hu := regionVerdict_spec (s := (s.enqueueReserve (.gate n)).dropReserve (.gate n)) hw h31 h8 m
      exact ⟨_, rfl, RegionJudged.withWork (s := s) (l := ((s.enqueueReserve (.gate n)).dropReserve (.gate n)).rwork) hu⟩
    · rw [Bool.eq_false_of_not_eq_true hs, if_pos Bool.not_false]
      exact ⟨_, rfl, regionVerdict_spec hw h31 h8 m⟩

/-! ### A gate's decision (R338, R348) -/

theorem endGate_spec (s : State) : Within (parts [.dict, .dtx, .rwork, .gate, .trav]) s s.endGate ∧ Touches (fun i => i = 0x3800) s s.endGate := by
  refine ⟨.endGate rfl .refl, ?_⟩
  unfold State.endGate
  exact .ite ((Touches.checkpoint (P := fun i => i = 0x3800) (s := s) .refl rfl).trans (.of_dict rfl)) .refl

theorem forceLines_none (h : s.gate.forced = []) : s.forceLines = s := by
  unfold State.forceLines
  rw [h]
  rfl

/-- The lines are watched and, where none is to be forced, the gate may end; the entries of a channel and its flash stay. -/
theorem watched_spec (h : s.gate.forced = []) : Within (parts [.dict, .dtx, .rwork, .gate, .trav]) s s.watchLines.forceLines.endGate ∧
    Touches (fun i => i = 0x3800) s s.watchLines.forceLines.endGate := by
  rw [forceLines_none (s := s.watchLines) h]
  exact ⟨Within.trans (.watchLines rfl .refl) (endGate_spec _).1, (Touches.of_dict (s := s) (t := s.watchLines) rfl).trans (endGate_spec s.watchLines).2⟩

/-- A channel passes, with the outcome of its gate. -/
def State.passing (s : State) (n v : Nat) : State := (s.toPass n).wr (0x3000 + n) 0x15 v

theorem passing_spec (hw : Map.wf s.dict = true) (hn : n ≠ 0) (v : Nat) : (s.passing n v).chanMode n = 2 ∧ (s.passing n v).rd (0x3000 + n) 0x15 = v ∧
    (s.passing n v).chanFlash n = { s.chanFlash n with held := false, pass := s.passProtocol n, seen := none, cutting := false } ∧
    (∀ m, m ≠ n → (s.passing n v).chanFlash m = s.chanFlash m) ∧ Touches (fun i => i = 0x3000 + n) s (s.passing n v) ∧
    Within (parts [.dict, .flash]) s (s.passing n v) := by
  refine ⟨?_, State.rd_wr_self (State.wf_wr (by exact hw) _ _ _) _ _ _, chanFlash_setFlash_self _ _ _, fun m hm => chanFlash_setFlash_of_ne _ _ hm,
    .wr (.wr (.of_dict rfl) rfl (by decide)) rfl (by decide), .wr rfl (.toPass rfl .refl)⟩
  rw [State.chanMode, if_neg hn, State.passing, State.rd_wr_of_sub _ (by decide) (by decide) (.inr (by decide))]
  exact State.rd_wr_self (by exact hw) _ _ _

/-- A channel is held at its gate, and the lines' event entry says so. -/
def State.holding (s : State) (n : Nat) : State :=
  (((s.wr (0x3000 + n) 2 0).wr (0x3000 + n) 0x15 4).setFlash n { s.chanFlash n with held := true }).event 0x3300 0x25 4

theorem holding_spec (hw : Map.wf s.dict = true) (hn : n ≠ 0) (h31 : n ≤ 31) : (s.holding n).chanMode n = 0 ∧ (s.holding n).rd (0x3000 + n) 0x15 = 4 ∧
    ((s.holding n).chanFlash n).held = true ∧ (s.holding n).rd 0x3300 0x25 = eventAdd (s.rd 0x3300 0x25) 4 ∧ Within (parts [.dict, .dtx, .flash]) s (s.holding n) := by
  have h1 := State.wf_wr hw (0x3000 + n) 2 0
  have h2 := State.wf_wr h1 (0x3000 + n) 0x15 4
  have hev : ∀ i a, a < 256 → i ≠ 0x3300 → (s.holding n).rd i a = ((s.wr (0x3000 + n) 2 0).wr (0x3000 + n) 0x15 4).rd i a := fun i a ha hi =>
    State.rd_wr_of_sub _ (by decide) ha (.inl hi)
  refine ⟨?_, ?_, congrArg Flash.held (chanFlash_setFlash_self _ _ _), ?_, .event rfl (.setFlash rfl (.wr rfl (.wr rfl .refl)))⟩
  · rw [State.chanMode, if_neg hn, hev _ _ (by decide) (by omega), State.rd_wr_of_sub _ (by decide) (by decide) (.inr (by decide)), State.rd_wr_self hw]
  · rw [hev _ _ (by decide) (by omega), State.rd_wr_self h1]
  · have hself : (s.holding n).rd 0x3300 0x25 = eventAdd (((s.wr (0x3000 + n) 2 0).wr (0x3000 + n) 0x15 4).rd 0x3300 0x25) 4 := rd_event_self (by exact h2) _ _ _
    rw [hself, State.rd_wr_of_sub _ (by decide) (by decide) (.inr (by decide)), State.rd_wr_of_sub _ (by decide) (by decide) (.inr (by decide))]

theorem execGateDecided_eq (hp : s.phase = .up) (hg : s.clk.gated = false) (h1 : 1 ≤ n) (h31 : n ≤ 31) (hm : s.chanMode n = 1)
    (hd : ∀ i, i < s.regionCount n → s.rd (0x3100 + n) (0x30 + i) ≠ 0xFF) : exec (.gateDecided n) s =
      .next ((if s.satisfied n || s.gateCfg n (0x3000 + n) 6 == 1 then s.passing n (if s.satisfied n then 3 else 5) else s.holding n).watchLines.forceLines.endGate) := by
  have hall : ((List.range (s.regionCount n)).all fun r => s.rd (0x3100 + n) (0x30 + r) != 0xFF) = true :=
    List.all_eq_true.2 fun r hr => bne_iff_ne.2 (hd r (List.mem_range.1 hr))
  have hc : (s.phase == .up && !s.clk.gated && decide (1 ≤ n) && decide (n ≤ 31) && s.chanMode n == 1 &&
      (List.range (s.regionCount n)).all (fun r => s.rd (0x3100 + n) (0x30 + r) != 0xFF)) = true := by
    rw [hp, hg, hm, hall, decide_eq_true h1, decide_eq_true h31]
    rfl
  exact when_of_true hc

theorem gateDecided_goes (hp : s.phase = .up) (hg : s.clk.gated = false) (h1 : 1 ≤ n) (h31 : n ≤ 31) (hw : Map.wf s.dict = true) (hm : s.chanMode n = 1)
    (hd : ∀ i, i < s.regionCount n → s.rd (0x3100 + n) (0x30 + i) ≠ 0xFF) (hf : s.gate.forced = []) :
    GoesTo (exec (.gateDecided n) s) (fun t => t = { s with dict := t.dict, dtx := t.dtx, flash := t.flash, gate := t.gate, trav := t.trav, rwork := t.rwork } ∧
        (s.satisfied n = true → t.chanMode n = 2 ∧ t.rd (0x3000 + n) 0x15 = 3 ∧ (t.chanFlash n).pass = s.passProtocol n) ∧
        (s.satisfied n = false → s.gateCfg n (0x3000 + n) 6 = 1 → t.chanMode n = 2 ∧ t.rd (0x3000 + n) 0x15 = 5 ∧ (t.chanFlash n).pass = s.passProtocol n) ∧
        (s.satisfied n = false → s.gateCfg n (0x3000 + n) 6 ≠ 1 → t.chanMode n = 0 ∧ t.rd (0x3000 + n) 0x15 = 4 ∧ (t.chanFlash n).held = true ∧
          t.rd 0x3300 0x25 = eventAdd (s.rd 0x3300 0x25) 4)) := by
  rw [execGateDecided_eq hp hg h1 h31 hm hd]
  have hn : n ≠ 0 := by omega
  -- what a channel that passes reads once its lines have been watched
  have hpass : ∀ v, (s.passing n v).watchLines.forceLines.endGate.chanMode n = 2 ∧ (s.passing n v).watchLines.forceLines.endGate.rd (0x3000 + n) 0x15 = v ∧
      ((s.passing n v).watchLines.forceLines.endGate.chanFlash n).pass = s.passProtocol n ∧
      Within (parts [.dict, .dtx, .flash, .gate, .trav, .rwork]) s (s.passing n v).watchLines.forceLines.endGate := fun v => by
    obtain ⟨g1, g2, g3, -, -, g6⟩ := passing_spec hw hn v
    obtain ⟨k1, k2⟩ := watched_spec (s := s.passing n v) ((congrArg Gate.forced (g6.same .gate rfl)).trans hf)
    exact ⟨(chanMode_of_touches k2 (by omega) hn).trans g1, (k2.rd _ _ (by decide) (by omega)).trans g2,
      (congrArg Flash.pass (chanFlash_congr (k1.same .flash rfl) n)).trans (congrArg Flash.pass g3), (g6.mono rfl).trans (k1.mono rfl)⟩
  by_cases hs : s.satisfied n = true
  · rw [hs, Bool.true_or, if_pos rfl]
    obtain ⟨p1, p2, p3, p4⟩ := hpass 3
    exact ⟨_, rfl, p4.eq_keepBut, fun _ => ⟨p1, p2, p3⟩, fun h => absurd h (by decide), fun h => absurd h (by decide)⟩
  · have hs' := Bool.eq_false_of_not_eq_true hs
    rw [hs', Bool.false_or]
    by_cases hc : s.gateCfg n (0x3000 + n) 6 = 1
    · rw [if_pos (beq_iff_eq.2 hc)]
      obtain ⟨p1, p2, p3, p4⟩ := hpass 5
      exact ⟨_, rfl, p4.eq_keepBut, fun h => absurd h (by decide), fun _ _ => ⟨p1, p2, p3⟩, fun _ h => absurd hc h⟩
    · rw [if_neg fun h => hc (beq_iff_eq.1 h)]
      obtain ⟨g1, g2, g3, g4, g5⟩ := holding_spec hw hn h31
      obtain ⟨k1, k2⟩ := watched_spec (s := s.holding n) ((congrArg Gate.forced (g5.same .gate rfl)).trans hf)
      exact ⟨_, rfl, ((g5.mono rfl).trans (k1.mono rfl) : Within (parts [.dict, .dtx, .flash, .gate, .trav, .rwork]) _ _).eq_keepBut, fun h => absurd h (by decide),
        fun _ h => absurd h hc, fun _ _ => ⟨(chanMode_of_touches k2 (by omega) hn).trans g1, (k2.rd _ _ (by decide) (by omega)).trans g2,
          (congrArg Flash.held (chanFlash_congr (k1.same .flash rfl) n)).trans g3, (k2.rd _ _ (by decide) (by omega)).trans g4⟩⟩

end Machine
end Sys2Proof
end

section
/-! The write filter, update windows and reset lines (15 R343-R346, R349-R351; O40). -/
namespace Sys2Proof
namespace Machine
variable {s t u : State} {n : Nat}

/-! ### The write filter (R343-R345) -/

/-- The address as the flash takes it in its address width. -/
def State.flashAddr (s : State) (n : Nat) (addr : Option Nat) : Option Nat := addr.map fun x => if (s.chanFlash n).addr4 then x % 2 ^ 32 else x % 2 ^ 24

theorem execFlashCommand_eq (hp : s.phase = .up) (hg : s.clk.gated = false) (h1 : 1 ≤ n) (h31 : n ≤ 31) {code : Nat} {addr : Option Nat} (hm : s.chanMode n = 2)
    (hc : code ≤ 255) : exec (.flashCommand n code addr) s =
      if s.cuts n code (s.flashAddr n addr) then .next (s.cut n code (s.flashAddr n addr)) else .next (s.passed n code (s.flashAddr n addr)) :=
  if_neg (by rw [hp, hg, hm]; simp; omega)

theorem cmdClass_lt (s : State) (n code : Nat) : s.cmdClass n code < 4 := Nat.mod_lt _ (by decide)

theorem windowsNamed_iff (s : State) (n : Nat) : ((List.range 8).any fun w => s.window w 0 == n) = true ↔ ∃ w, w < 8 ∧ s.window w 0 = n := by
  simp [List.any_eq_true, List.mem_range]

/-- The filter passes a command of a class that passes, one whose range no protected window meets or an open one holds, or one of an open window's channel. -/
theorem cuts_false {code : Nat} {a : Option Nat} (h : s.cmdClass n code = 1 ∨ (s.cmdClass n code = 2 ∧ ∃ x, a = some x ∧
      (s.outsideProtected n (s.affected n code x) = true ∨ s.insideWindow n (s.affected n code x) = true)) ∨
    (s.cmdClass n code = 3 ∧ ∃ w, w < 8 ∧ s.window w 0 = n)) : s.cuts n code a = false := by
  unfold State.cuts
  rcases h with h | ⟨h, x, rfl, hx⟩ | ⟨h, hw⟩
  · simp only [h]
  · rcases hx with hx | hx <;> simp [h, hx]
  · simp only [h, (windowsNamed_iff s n).2 hw, Bool.not_true]

theorem cuts_true {code : Nat} {a : Option Nat} (h : s.cmdClass n code = 0 ∨ (s.cmdClass n code = 2 ∧ ∀ x, a = some x →
      s.outsideProtected n (s.affected n code x) = false ∧ s.insideWindow n (s.affected n code x) = false) ∨
    (s.cmdClass n code = 3 ∧ ∀ w, w < 8 → s.window w 0 ≠ n)) : s.cuts n code a = true := by
  unfold State.cuts
  rcases h with h | ⟨h, hx⟩ | ⟨h, hw⟩
  · simp only [h]
  · cases a with
    | none => simp only [h]
    | some x => simp [h, (hx x rfl).1, (hx x rfl).2]
  · have hno : ¬ ((List.range 8).any fun w => s.window w 0 == n) = true := fun hany => by
      obtain ⟨w, h8, he⟩ := (windowsNamed_iff s n).1 hany
      exact hw w h8 he
    simp only [h, Bool.eq_false_of_not_eq_true hno, Bool.not_false]

/-- A command that passes has reached the flash. -/
def State.seenFlash (s : State) (n code : Nat) (a : Option Nat) : Flash := { s.chanFlash n with seen := some (code, a), cutting := false }

theorem passed_tracked {code : Nat} {a : Option Nat} (h5 : s.gateCfg n (0x3000 + n) 5 = 2) (hc : code = 0xB7 ∨ code = 0xE9) :
    s.passed n code a = s.setFlash n { s.seenFlash n code a with addr4 := code == 0xB7 } := by
  unfold State.passed
  dsimp only
  rw [if_pos ⟨h5, hc⟩]
  rfl

theorem passed_plain {code : Nat} {a : Option Nat} (h : s.gateCfg n (0x3000 + n) 5 ≠ 2 ∨ (code ≠ 0xB7 ∧ code ≠ 0xE9)) :
    s.passed n code a = s.setFlash n (s.seenFlash n code a) := by
  unfold State.passed
  dsimp only
  rw [if_neg fun ⟨h5, hc⟩ => h.elim (· h5) fun hn => hc.elim hn.1 hn.2]
  rfl

/-- The address that a cut keeps of a command: of an ADDRESSED one with an address. -/
def State.cutValid (s : State) (n code : Nat) (a : Option Nat) : Nat := if s.cmdClass n code = 2 ∧ a.isSome then 1 else 0

def State.cutAddr (s : State) (n code : Nat) (a : Option Nat) : Nat := if s.cutValid n code a = 1 then a.getD 0 % 2 ^ 32 else 0

/-- The entries of a channel that has cut a command. -/
def State.cutCounted (s : State) (n code : Nat) (a : Option Nat) : State :=
  (s.event (0x3000 + n) 0x16 (if s.cmdClass n code = 0 then 1 else if s.cmdClass n code = 2 then 2 else 4)).wr (0x3000 + n) 0x17
    (code % 256 * 2 ^ 56 + s.cutValid n code a * 2 ^ 32 + s.cutAddr n code a)

/-- The record of a cut. -/
def State.cutDetail (s : State) (n code : Nat) (a : Option Nat) : Nat :=
  beNat (beBytes 1 code ++ beBytes 1 (s.cutValid n code a) ++ beBytes 4 (s.cutAddr n code a) ++ beBytes 4 (((s.chanFlash n).cuts + 1) % 2 ^ 32) ++ beBytes 38 0)

/-- The channel's flash after one cut more in the same second, and after the first of a second. -/
def State.cutMore (s : State) (n : Nat) : Flash := { s.chanFlash n with seen := none, cutting := true, cuts := (s.chanFlash n).cuts + 1 }

def State.cutFirst (s : State) (n : Nat) : Flash :=
  { s.chanFlash n with seen := none, cutting := true, cuts := 0, lastCutSec := some (s.clk.datum / 1000000000) }

theorem cut_eq (s : State) (n code : Nat) (a : Option Nat) : s.cut n code a =
    if (s.chanFlash n).lastCutSec = some (s.clk.datum / 1000000000) ∨ s.ringBusy then
      (s.cutCounted n code a).setFlash n (s.cutMore n)
    else ((s.cutCounted n code a).setFlash n (s.cutFirst n)).record 0x0A 2 n 0xFF 3
      (s.cutDetail n code a) := rfl

theorem rd_cutCounted (hw : Map.wf s.dict = true) (n code : Nat) (a : Option Nat) :
    (s.cutCounted n code a).rd (0x3000 + n) 0x16 = eventAdd (s.rd (0x3000 + n) 0x16) (if s.cmdClass n code = 0 then 1 else if s.cmdClass n code = 2 then 2 else 4) ∧
    (s.cutCounted n code a).rd (0x3000 + n) 0x17 = code % 256 * 2 ^ 56 + s.cutValid n code a * 2 ^ 32 + s.cutAddr n code a ∧
    (s.cutCounted n code a).rd (0x3000 + n) 2 = s.rd (0x3000 + n) 2 := by
  refine ⟨?_, State.rd_wr_self (State.wf_event hw _ _ _) _ _ _, ?_⟩
  · rw [State.cutCounted, State.rd_wr_of_sub _ (by decide) (by decide) (.inr (by decide)), rd_event_self hw]
  · rw [State.cutCounted, State.rd_wr_of_sub _ (by decide) (by decide) (.inr (by decide)), State.rd_event, State.rd_wr_of_sub _ (by decide) (by decide) (.inr (by decide))]

theorem cutCounted_frame (s : State) (n code : Nat) (a : Option Nat) : Within (parts [.dict, .dtx]) s (s.cutCounted n code a) := by
  unfold State.cutCounted
  exact .wr rfl (.event rfl .refl)

/-- What a cut leaves (R344, R345). -/
structure CommandCut (s t : State) (n code : Nat) (a : Option Nat) : Prop where
  event : t.rd (0x3000 + n) 0x16 = eventAdd (s.rd (0x3000 + n) 0x16) (if s.cmdClass n code = 0 then 1 else if s.cmdClass n code = 2 then 2 else 4)
  last : t.rd (0x3000 + n) 0x17 = code * 2 ^ 56 + s.cutValid n code a * 2 ^ 32 + s.cutAddr n code a
  mode : t.chanMode n = 2
  cutting : s.pins.safe = false → t.channelPins n = ⟨true, true, true, 2⟩
  seen : (t.chanFlash n).seen = none
  recorded : if (s.chanFlash n).lastCutSec = some (s.clk.datum / 1000000000) ∨ s.ringBusy = true then t.trav = s.trav ∧ (t.chanFlash n).cuts = (s.chanFlash n).cuts + 1
    else (t.chanFlash n).cuts = 0 ∧ Recorded s t 0xA 2 n 0xFF 3 (s.cutDetail n code a)
  same : t = { s with dict := t.dict, dtx := t.dtx, flash := t.flash, trav := t.trav, rwork := t.rwork }

/-- A channel in PASS that cuts keeps the command from the flash and reads all ones (R344). -/
theorem channelPins_cutting (hn : n ≠ 0) (hc : (s.chanFlash n).cutting = true) (h2 : s.rd (0x3000 + n) 2 = 2) :
    s.chanMode n = 2 ∧ (s.pins.safe = false → s.channelPins n = ⟨true, true, true, 2⟩) := by
  have hmode : s.chanMode n = 2 := by rw [State.chanMode, if_neg hn, h2]
  refine ⟨hmode, fun hs => ?_⟩
  rw [State.channelPins, hs, if_neg (by decide), hmode, hc]
  rfl

section
variable {v : State} {code : Nat} {a : Option Nat}

theorem cutMore_cut (hn : n ≠ 0) (hv : Within (parts [.dict, .dtx]) s v) (h2 : v.rd (0x3000 + n) 2 = 2)
    (h16 : v.rd (0x3000 + n) 0x16 = eventAdd (s.rd (0x3000 + n) 0x16) (if s.cmdClass n code = 0 then 1 else if s.cmdClass n code = 2 then 2 else 4))
    (h17 : v.rd (0x3000 + n) 0x17 = code * 2 ^ 56 + s.cutValid n code a * 2 ^ 32 + s.cutAddr n code a)
    (hb : (s.chanFlash n).lastCutSec = some (s.clk.datum / 1000000000) ∨ s.ringBusy = true) : CommandCut s (v.setFlash n (s.cutMore n)) n code a := by
  have hf := chanFlash_setFlash_self v n (s.cutMore n)
  have hxv : Within (parts [.flash]) v (v.setFlash n (s.cutMore n)) := .setFlash rfl .refl
  have hd : ∀ i a, (v.setFlash n (s.cutMore n)).rd i a = v.rd i a := State.rd_congr (hxv.same .dict rfl)
  have hxw : Within (parts [.dict, .dtx, .flash, .trav, .rwork]) s (v.setFlash n (s.cutMore n)) := (hv.mono rfl).trans (hxv.mono rfl)
  obtain ⟨g1, g2⟩ := channelPins_cutting hn (congrArg Flash.cutting hf) ((hd _ _).trans h2)
  have hpins : (v.setFlash n (s.cutMore n)).pins = s.pins := hxw.same .pins rfl
  have htrav : (v.setFlash n (s.cutMore n)).trav = s.trav := (hxv.same .trav rfl).trans (hv.same .trav rfl)
  rw [hpins] at g2
  refine ⟨(hd _ _).trans h16, (hd _ _).trans h17, g1, g2, congrArg Flash.seen hf, ?_, hxw.eq_keepBut⟩
  rw [if_pos hb]
  exact ⟨htrav, congrArg Flash.cuts hf⟩

theorem cutFirst_cut {x : State} (hn : n ≠ 0) (h31 : n ≤ 31) (hx : Within (parts [.dict, .dtx, .flash]) s x) (hf : x.chanFlash n = s.cutFirst n) (h2 : x.rd (0x3000 + n) 2 = 2)
    (h16 : x.rd (0x3000 + n) 0x16 = eventAdd (s.rd (0x3000 + n) 0x16) (if s.cmdClass n code = 0 then 1 else if s.cmdClass n code = 2 then 2 else 4))
    (h17 : x.rd (0x3000 + n) 0x17 = code * 2 ^ 56 + s.cutValid n code a * 2 ^ 32 + s.cutAddr n code a)
    (hb : ¬ ((s.chanFlash n).lastCutSec = some (s.clk.datum / 1000000000) ∨ s.ringBusy = true)) : CommandCut s (x.record 0x0A 2 n 0xFF 3 (s.cutDetail n code a)) n code a := by
  have hxt : x.trav = s.trav := hx.same .trav rfl
  have hxc : x.clk = s.clk := hx.same .clk rfl
  have hr : Recorded s (x.record 0x0A 2 n 0xFF 3 (s.cutDetail n code a)) 0xA 2 n 0xFF 3 (s.cutDetail n code a) :=
    (record_recorded x 0x0A 2 n 0xFF 3 (s.cutDetail n code a)).mono (congrArg Traverse.pending hxt) (congrArg Traverse.ring hxt) (congrArg Traverse.nextSeq hxt)
      (congrArg Traverse.epoch hxt) (congrArg Clocks.datum hxc) rfl rfl
  have ht : Touches (fun i => i = 0x3800) x (x.record 0x0A 2 n 0xFF 3 (s.cutDetail n code a)) := Touches.refl.record rfl
  have hw : Within (parts [.dict, .dtx, .rwork, .trav]) x (x.record 0x0A 2 n 0xFF 3 (s.cutDetail n code a)) := .record rfl .refl
  revert hr ht hw
  generalize x.record 0x0A 2 n 0xFF 3 (s.cutDetail n code a) = y
  intro hr ht hw
  have hf' : y.chanFlash n = s.cutFirst n := (chanFlash_congr (hw.same .flash rfl) n).trans hf
  have hrd : ∀ b, b < 256 → y.rd (0x3000 + n) b = x.rd (0x3000 + n) b := fun b hlt => ht.rd _ _ hlt (by omega)
  obtain ⟨g1, g2⟩ := channelPins_cutting hn (congrArg Flash.cutting hf') ((hrd _ (by decide)).trans h2)
  have hall : Within (parts [.dict, .dtx, .flash, .trav, .rwork]) s y := (hx.mono rfl).trans (hw.mono rfl)
  have hpins : y.pins = s.pins := hall.same .pins rfl
  rw [hpins] at g2
  refine ⟨(hrd _ (by decide)).trans h16, (hrd _ (by decide)).trans h17, g1, g2, congrArg Flash.seen hf', ?_, hall.eq_keepBut⟩
  rw [if_neg hb]
  exact ⟨congrArg Flash.cuts hf', hr⟩
theorem cutFirst_cut_of_entries (hn : n ≠ 0) (h31 : n ≤ 31) (hv : Within (parts [.dict, .dtx]) s v) (h2 : v.rd (0x3000 + n) 2 = 2)
    (h16 : v.rd (0x3000 + n) 0x16 = eventAdd (s.rd (0x3000 + n) 0x16) (if s.cmdClass n code = 0 then 1 else if s.cmdClass n code = 2 then 2 else 4))
    (h17 : v.rd (0x3000 + n) 0x17 = code * 2 ^ 56 + s.cutValid n code a * 2 ^ 32 + s.cutAddr n code a)
    (hb : ¬ ((s.chanFlash n).lastCutSec = some (s.clk.datum / 1000000000) ∨ s.ringBusy = true)) :
    CommandCut s ((v.setFlash n (s.cutFirst n)).record 0x0A 2 n 0xFF 3 (s.cutDetail n code a)) n code a := by
  have hxv : Within (parts [.flash]) v (v.setFlash n (s.cutFirst n)) := .setFlash rfl .refl
  have hd : ∀ i a, (v.setFlash n (s.cutFirst n)).rd i a = v.rd i a := State.rd_congr (hxv.same .dict rfl)
  exact cutFirst_cut hn h31 ((hv.mono rfl).trans (hxv.mono rfl)) (chanFlash_setFlash_self _ _ _) ((hd _ _).trans h2) ((hd _ _).trans h16) ((hd _ _).trans h17) hb
end

theorem cut_spec (hw : Map.wf s.dict = true) (hn : n ≠ 0) (h31 : n ≤ 31) {code : Nat} {a : Option Nat} (hm : s.chanMode n = 2) (hc : code ≤ 255) :
    CommandCut s (s.cut n code a) n code a := by
  obtain ⟨e1, e2, e3⟩ := rd_cutCounted hw n code a
  rw [Nat.mod_eq_of_lt (by omega : code < 256)] at e2
  have hm2 : s.rd (0x3000 + n) 2 = 2 := by rwa [State.chanMode, if_neg hn] at hm
  have hv := cutCounted_frame s n code a
  rw [cut_eq]
  by_cases hb : (s.chanFlash n).lastCutSec = some (s.clk.datum / 1000000000) ∨ s.ringBusy = true
  · rw [if_pos hb]
    exact cutMore_cut hn hv (e3.trans hm2) e1 e2 hb
  · rw [if_neg hb]
    exact cutFirst_cut_of_entries hn h31 hv (e3.trans hm2) e1 e2 hb

/-! ### An update window expires (R346) -/

theorem updateWindowExpiry_goes (hp : s.phase = .up) (hg : s.clk.gated = false) (hw : Map.wf s.dict = true) {w : Nat} (h8 : w < 8) (ho : s.windowOpen w = true)
    (ht : ofTime80 (s.window w 3) < s.clk.datum) : GoesTo (exec (.updateWindowExpiry w) s) (fun t =>
      t.windowOpen w = false ∧ t = { s with dict := t.dict, dtx := t.dtx, trav := t.trav, rwork := t.rwork } ∧ Recorded s t 0xB 2 (s.window w 0) w 3
        (beNat (beBytes 1 2 ++ beBytes 3 0 ++ beBytes 4 (s.window w 1) ++ beBytes 4 (s.window w 2) ++ beBytes 10 (s.window w 3) ++ beBytes 26 0))) := by
  have hx : exec (.updateWindowExpiry w) s = .next (s.closeWindow w 2) := when_of_true (by
    rw [runs_of hp hg, ho, decide_eq_true h8, decide_eq_true ht]
    rfl)
  have hcw : s.closeWindow w 2 = (s.windowRecordOf (s.window w) w 2).wr 0x3200 (0x10 + 4 * w) 0xFF := if_pos ho
  refine ⟨_, hx, windowOpen_closeWindow hw, (Within.closeWindow (k := parts [.dict, .dtx, .rwork, .trav]) rfl .refl).eq_keepBut, ?_⟩
  rw [hcw]
  exact (record_recorded s 0x0B 2 (s.window w 0) w 3 _).mono rfl rfl rfl rfl rfl rfl rfl

/-! ### Reset lines (R349-R351) -/

theorem released_setLine (s : State) (l k : Nat) : bitAt (setBit s.pins.lines l true) k = (s.released k || k == l) := by
  rw [bitAt_setBit_true, State.released]
  exact congrArg (bitAt s.pins.lines k || ·) (by rw [Bool.eq_iff_iff, decide_eq_true_iff, beq_iff_eq]; exact eq_comm)

/-- A line is driven high, its order's last release noted. -/
def State.lineUp (s : State) (l : Nat) : State :=
  { s with pins := { s.pins with lines := setBit s.pins.lines l true },
           gate := { s.gate with since := Map.erase s.gate.since l, lastRelease := Map.put s.gate.lastRelease (s.lineOrder l) s.clk.fab,
                                 forced := s.gate.forced.filter (fun x => x != l) } }

/-- What the benchmark of a release tells of its line. -/
def State.releaseDetail (s : State) (l : Nat) : Nat :=
  beNat (beBytes 4 (s.lineMask l) ++ beBytes 4 (s.unsatisfied l) ++ beBytes 1 (s.lineOrder l) ++ beBytes 39 0)

/-- A line is driven high with its event. -/
def State.lineRaised (s : State) (l : Nat) (forced : Bool) : State := (s.lineUp l).event 0x3300 0x25 (if forced then 3 else 1)

theorem lineRaised_frame (s : State) (l : Nat) (forced : Bool) : Within (parts [.dict, .dtx, .pins, .gate]) s (s.lineRaised l forced) := by
  unfold State.lineRaised State.lineUp
  exact .event rfl (.set rfl rfl .refl)

theorem lineRaised_pins (s : State) (l : Nat) (forced : Bool) : (s.lineRaised l forced).pins = { s.pins with lines := setBit s.pins.lines l true } := rfl

theorem lineRaised_touches (s : State) (l : Nat) (forced : Bool) : Touches (fun i => i = 0x3300) s (s.lineRaised l forced) :=
  (Touches.of_dict (s := s) (t := s.lineUp l) rfl).event rfl (by decide)

theorem rd_lineRaised (hw : Map.wf s.dict = true) (l : Nat) (forced : Bool) : (s.lineRaised l forced).rd 0x3300 0x25 = eventAdd (s.rd 0x3300 0x25) (if forced then 3 else 1) :=
  rd_event_self (s := s.lineUp l) hw _ _ _

theorem releaseLine_eq (s : State) (l : Nat) (forced : Bool) : s.releaseLine l forced =
    ((s.lineRaised l forced).record 0x09 (if s.unsatisfied l = 0 ∧ !forced then 0 else 3) l 0xFF (if forced then 7 else 3) (s.releaseDetail l)).endGate := rfl

/-- What a release leaves. -/
structure LineReleased (s t : State) (l : Nat) (forced : Bool) : Prop where
  lines : ∀ k, k < 32 → t.released k = (s.released k || k == l)
  event : t.rd 0x3300 0x25 = eventAdd (s.rd 0x3300 0x25) (if forced then 3 else 1)
  recorded : Recorded s t 9 (if s.unsatisfied l = 0 ∧ !forced then 0 else 3) l 0xFF (if forced then 7 else 3) (s.releaseDetail l)
  touches : Touches (fun i => i = 0x3300 ∨ i = 0x3800) s t
  within : Within (parts [.dict, .dtx, .pins, .rwork, .gate, .trav]) s t

theorem endGate_stays (s : State) : RecordsStay s s.endGate := by
  unfold State.endGate
  exact .ite (RecordsStay.trans .checkpoint (.of_eq rfl rfl)) .refl

theorem releaseLine_spec (hw : Map.wf s.dict = true) (l : Nat) (forced : Bool) : LineReleased s (s.releaseLine l forced) l forced := by
  rw [releaseLine_eq]
  generalize hv : (if s.unsatisfied l = 0 ∧ !forced then 0 else 3) = v
  generalize hd : s.releaseDetail l = d
  have hfl : (if forced then 7 else 3) % 8 = if forced then 7 else 3 := by cases forced <;> rfl
  have hu := lineRaised_frame s l forced
  have hp := lineRaised_pins s l forced
  have ht := lineRaised_touches s l forced
  have he := rd_lineRaised hw l forced
  revert hu hp ht he hfl
  generalize hg : (if forced then 7 else 3) = g
  generalize s.lineRaised l forced = u
  intro hfl hu hp ht he
  have hst : RecordsStay (u.bench 9 v l 0xFF g d 0) (u.record 9 v l 0xFF g d).endGate := RecordsStay.trans (.ite .checkpoint .refl) (endGate_stays _)
  have hrt : Touches (fun i => i = 0x3800) u (u.record 9 v l 0xFF g d).endGate := (Touches.record (P := fun i => i = 0x3800) (s := u) .refl rfl).trans (endGate_spec _).2
  have hrw : Within (parts [.dict, .dtx, .rwork, .gate, .trav]) u (u.record 9 v l 0xFF g d).endGate := .endGate rfl (.record rfl .refl)
  revert hst hrt hrw
  generalize (u.record 9 v l 0xFF g d).endGate = t
  intro hst hrt hrw
  have htrav : u.trav = s.trav := hu.same .trav rfl
  have hclk : u.clk = s.clk := hu.same .clk rfl
  have hpins : t.pins = u.pins := hrw.same .pins rfl
  refine ⟨fun k hk => ?_, (hrt.rd _ _ (by decide) (by decide)).trans he, ?_, (ht.mono fun _ h => .inl h).trans (hrt.mono fun _ h => .inr h), (hu.mono rfl).trans (hrw.mono rfl)⟩
  · rw [State.released, hpins, hp]
    exact released_setLine s l k
  · rw [hv, hd]
    have hrec := bench_recorded hst
    rw [hfl] at hrec
    rw [hg]
    exact hrec.mono (congrArg Traverse.pending htrav) (congrArg Traverse.ring htrav) (congrArg Traverse.nextSeq htrav)
      (congrArg Traverse.epoch htrav) (congrArg Clocks.datum hclk) rfl rfl

theorem execLineRelease_eq (hp : s.phase = .up) (hg : s.clk.gated = false) {l : Nat} (hl : l < 32) (hr : s.released l = false) (hm : s.mayRelease = true)
    (hpw : s.pins.pwrgd = true) : exec (.lineRelease l) s = if s.gate.forced.contains l ∧ s.lineDecided l then .next s.forceLines
      else when (s.chansReady l && s.lowerDone l && s.delayOver l && !s.lineHeld l) s (s.releaseLine l false) :=
  if_neg (by rw [hp, hg, hr, hm, hpw]; simp; omega)

theorem lineRelease_goes (hp : s.phase = .up) (hg : s.clk.gated = false) (hw : Map.wf s.dict = true) {l : Nat} (hl : l < 32) (hr : s.released l = false)
    (hm : s.mayRelease = true) (hpw : s.pins.pwrgd = true) (hf : s.gate.forced.contains l = false) (hc : s.chansReady l = true) (hlo : s.lowerDone l = true)
    (hd : s.delayOver l = true) (hh : s.lineHeld l = false) : GoesTo (exec (.lineRelease l) s) (fun t =>
        (∀ k, k < 32 → t.released k = (s.released k || k == l)) ∧ t.rd 0x3300 0x25 = eventAdd (s.rd 0x3300 0x25) 1 ∧
        Recorded s t 9 (if s.unsatisfied l = 0 then 0 else 3) l 0xFF 3 (s.releaseDetail l) ∧
        t = { s with pins := t.pins, dict := t.dict, dtx := t.dtx, gate := t.gate, trav := t.trav, rwork := t.rwork }) := by
  have hx : exec (.lineRelease l) s = .next (s.releaseLine l false) := by
    rw [execLineRelease_eq hp hg hl hr hm hpw, if_neg (by rw [hf]; simp)]
    exact when_of_true (by rw [hc, hlo, hd, hh]; rfl)
  obtain ⟨h1, h2, h3, -, h5⟩ := releaseLine_spec hw l false
  have hv : (if s.unsatisfied l = 0 ∧ !false then 0 else 3) = if s.unsatisfied l = 0 then 0 else 3 := by simp
  exact ⟨_, hx, h1, h2, hv ▸ h3, h5.eq_keepBut⟩

/-! ### A release by force (R351) -/

theorem lineChans_bounds {l n : Nat} (h : n ∈ s.lineChans l) : n < 32 ∧ n ≠ 0 := by
  rw [State.lineChans, List.mem_filter, List.mem_range, Bool.and_eq_true, bne_iff_ne] at h
  exact ⟨h.1, h.2.1⟩

theorem forcePass_held (h : (s.chanFlash n).held = true) : s.forcePass n = s.passing n 5 := if_pos h

theorem forcePass_free (h : (s.chanFlash n).held = false) : s.forcePass n = s := if_neg (by rw [h]; decide)

theorem forcePass_touches (s : State) (n : Nat) : Touches (fun i => i = 0x3000 + n) s (s.forcePass n) := by
  cases h : (s.chanFlash n).held with
  | true =>
    rw [forcePass_held h]
    exact .wr (.wr (.of_dict rfl) rfl (by decide)) rfl (by decide)
  | false => rw [forcePass_free h]; exact .refl

/-- A channel that was held, and of those forced so far, passes; the others stay held. -/
structure ForcedSoFar (s t : State) (l : List Nat) : Prop where
  touches : Touches (fun i => 0x3000 ≤ i ∧ i < 0x3020) s t
  within : Within (parts [.dict, .flash]) s t
  held : ∀ n, n ∉ l → t.chanFlash n = s.chanFlash n
  passes : ∀ n, n ∈ l → n ≠ 0 → (s.chanFlash n).held = true → t.chanMode n = 2 ∧ t.rd (0x3000 + n) 0x15 = 5 ∧ (t.chanFlash n).held = false
  released : ∀ n, n ∈ l → (t.chanFlash n).held = false

theorem forcePass_all (hw : Map.wf s.dict = true) : ∀ l : List Nat, (∀ n ∈ l, n < 32 ∧ n ≠ 0) → ForcedSoFar s (l.foldl (fun v n => v.forcePass n) s) l := by
  intro l
  induction l using List.reverseRecOn with
  | nil => exact fun _ => ⟨.refl, .refl, fun _ _ => rfl, fun n h => absurd h List.not_mem_nil, fun n h => absurd h List.not_mem_nil⟩
  | append_singleton l x ih =>
    intro hb
    have hx := hb x (List.mem_append_right _ (List.mem_singleton_self x))
    have h := ih fun n hn => hb n (List.mem_append_left _ hn)
    rw [List.foldl_append, List.foldl_cons, List.foldl_nil]
    revert h
    generalize l.foldl (fun v n => v.forcePass n) s = v
    intro h
    have ht := (forcePass_touches v x).mono (Q := fun i => 0x3000 ≤ i ∧ i < 0x3020) fun i hi => by omega
    cases hh : (v.chanFlash x).held with
    | false =>
      rw [forcePass_free hh]
      refine ⟨h.touches, h.within, fun n hn => h.held n fun hm => hn (List.mem_append_left _ hm), fun n hn h0 hs => ?_, fun n hn => ?_⟩
      · rcases List.mem_append.1 hn with hn | hn
        · exact h.passes n hn h0 hs
        · obtain rfl := List.mem_singleton.1 hn
          by_cases hm : n ∈ l
          · exact h.passes n hm h0 hs
          · rw [h.held n hm, hs] at hh
            cases hh
      · rcases List.mem_append.1 hn with hn | hn
        · exact h.released n hn
        · rwa [List.mem_singleton.1 hn]
    | true =>
      have hw' := h.touches.wf hw
      obtain ⟨g1, g2, g3, g4, g5, g6⟩ := passing_spec hw' hx.2 5
      rw [forcePass_held hh] at ht ⊢
      refine ⟨h.touches.trans ht, h.within.trans g6, fun n hn => ?_, fun n hn h0 hs => ?_, fun n hn => ?_⟩
      · rw [g4 n fun he => hn (List.mem_append_right _ (List.mem_singleton.2 he))]
        exact h.held n fun hm => hn (List.mem_append_left _ hm)
      · by_cases he : n = x
        · subst he
          exact ⟨g1, g2, congrArg Flash.held g3⟩
        · have hm : n ∈ l := (List.mem_append.1 hn).resolve_right fun hs => he (List.mem_singleton.1 hs)
          obtain ⟨k1, k2, k3⟩ := h.passes n hm h0 hs
          exact ⟨(chanMode_of_touches g5 (by omega) h0).trans k1, (g5.rd _ _ (by decide) (by omega)).trans k2, (congrArg Flash.held (g4 n he)).trans k3⟩
      · by_cases he : n = x
        · subst he
          exact congrArg Flash.held g3
        · have hm : n ∈ l := (List.mem_append.1 hn).resolve_right fun hs => he (List.mem_singleton.1 hs)
          exact (congrArg Flash.held (g4 n he)).trans (h.released n hm)

theorem forceLines_one {l : Nat} (hf : s.gate.forced = [l]) (hd : s.lineDecided l = true) (hr : s.released l = false) (hm : s.mayRelease = true) (hpw : s.pins.pwrgd = true) :
    s.forceLines = (((s.lineChans l).foldl (fun v n => v.forcePass n) s).watchLines).releaseLine l true := by
  unfold State.forceLines
  rw [hf, List.filter_cons_of_pos (by exact hd), List.filter_nil, List.foldl_cons, List.foldl_nil]
  exact if_neg (by rw [hr, hm, hpw]; simp)

theorem forcedRelease_goes (hp : s.phase = .up) (hg : s.clk.gated = false) (hw : Map.wf s.dict = true) {l : Nat} (hl : l < 32) (hr : s.released l = false)
    (hm : s.mayRelease = true) (hpw : s.pins.pwrgd = true) (hf : s.gate.forced = [l]) (hd : s.lineDecided l = true) : GoesTo (exec (.lineRelease l) s) (fun t =>
        (∀ k, k < 32 → t.released k = (s.released k || k == l)) ∧ t.rd 0x3300 0x25 = eventAdd (s.rd 0x3300 0x25) 3 ∧ (∃ d, Recorded s t 9 3 l 0xFF 7 d) ∧
        (∀ n ∈ s.lineChans l, (s.chanFlash n).held = true → t.chanMode n = 2 ∧ t.rd (0x3000 + n) 0x15 = 5 ∧ (t.chanFlash n).held = false) ∧
        t = { s with pins := t.pins, dict := t.dict, dtx := t.dtx, flash := t.flash, gate := t.gate, trav := t.trav, rwork := t.rwork }) := by
  have hx : exec (.lineRelease l) s = .next s.forceLines := by
    rw [execLineRelease_eq hp hg hl hr hm hpw]
    exact if_pos ⟨by rw [hf]; simp, hd⟩
  have hall := forcePass_all hw (s.lineChans l) fun n hn => lineChans_bounds hn
  rw [forceLines_one hf hd hr hm hpw] at hx
  revert hx hall
  generalize (s.lineChans l).foldl (fun v n => v.forcePass n) s = v
  intro hx hall
  have hwin : Within (parts [.dict, .flash, .gate]) s v.watchLines := .watchLines rfl (hall.within.mono rfl)
  have htou : Touches (fun i => 0x3000 ≤ i ∧ i < 0x3020) s v.watchLines := hall.touches.trans (.of_dict rfl)
  have hfl : ∀ n, v.watchLines.chanFlash n = v.chanFlash n := fun n => chanFlash_congr ((Within.watchLines (k := parts [.gate]) rfl .refl).same .flash rfl) n
  have hrdv : ∀ i a, v.watchLines.rd i a = v.rd i a := State.rd_congr ((Within.watchLines (k := parts [.gate]) rfl .refl).same .dict rfl)
  have hlines := releaseLine_spec (htou.wf hw) l true
  revert hx hwin htou hfl hrdv hlines
  generalize v.watchLines = u
  intro hx hwin htou hfl hrdv hlines
  have hpins : u.pins = s.pins := hwin.same .pins rfl
  have htrav : u.trav = s.trav := hwin.same .trav rfl
  have hclk : u.clk = s.clk := hwin.same .clk rfl
  have hgw := hlines.within
  refine ⟨_, hx, fun k hk => ?_, ?_, ⟨u.releaseDetail l, ?_⟩, fun n hn hs => ?_, ?_⟩
  · rw [hlines.lines k hk, State.released, hpins, State.released]
  · rw [hlines.event, htou.rd _ _ (by decide) (by decide)]
    rfl
  · have hrec := hlines.recorded
    rw [if_neg (by simp)] at hrec
    exact hrec.mono (congrArg Traverse.pending htrav) (congrArg Traverse.ring htrav) (congrArg Traverse.nextSeq htrav) (congrArg Traverse.epoch htrav)
      (congrArg Clocks.datum hclk) rfl rfl
  · obtain ⟨h32, h0⟩ := lineChans_bounds hn
    obtain ⟨k1, k2, k3⟩ := hall.passes n hn h0 hs
    have hmode : u.chanMode n = v.chanMode n := by rw [State.chanMode, State.chanMode, hrdv]
    exact ⟨(chanMode_of_touches hlines.touches (by omega) h0).trans (hmode.trans k1), (hlines.touches.rd _ _ (by decide) (by omega)).trans ((hrdv _ _).trans k2),
      (congrArg Flash.held ((chanFlash_congr (hgw.same .flash rfl) n).trans (hfl n))).trans k3⟩
  · exact ((hwin.mono rfl).trans (hgw.mono rfl) : Within (parts [.pins, .dict, .dtx, .flash, .gate, .trav, .rwork]) s _).eq_keepBut

/-! ### The fall of PWRGD_IN (R338, R350) -/

theorem gateAll_held (hw : Map.wf s.dict = true) {m : Nat} (h31 : m < 31) : (s.gateAll.chanFlash (m + 1)).held = false := by
  have hwf : ∀ (u : State) k, Map.wf u.dict = true → Map.wf (u.toGated k).dict = true := fun u k hu => (toGated_touches u k).wf hu
  have hheld : ∀ (u : State) k, k < 31 → Map.wf u.dict = true → ((u.toGated (k + 1)).chanFlash (k + 1)).held = false := fun u k hk hu =>
    (toGated_spec hu (Nat.succ_ne_zero k) (by omega)).2.2.1
  have hother : ∀ (u : State) k, k < 31 → Map.wf u.dict = true → m ≠ k → (u.toGated (k + 1)).chanFlash (m + 1) = u.chanFlash (m + 1) := fun u k hk hu h =>
    (toGated_spec hu (Nat.succ_ne_zero k) (by omega)).2.2.2.2 _ (by omega)
  have hstep : ∀ (u : State) k, k ∈ List.range 31 → (Map.wf u.dict = true ∧ (u.chanFlash (m + 1)).held = false) →
      Map.wf (u.toGated (k + 1)).dict = true ∧ ((u.toGated (k + 1)).chanFlash (m + 1)).held = false := fun u k hk hu => by
    refine ⟨hwf u _ hu.1, ?_⟩
    by_cases h : m = k
    · rw [h]
      exact hheld u k (List.mem_range.1 hk) hu.1
    · rw [hother u k (List.mem_range.1 hk) hu.1 h]
      exact hu.2
  exact (foldl_reaches (f := fun (u : State) k => u.toGated (k + 1)) (x := m) (I := fun u => Map.wf u.dict = true)
    (G := fun u => Map.wf u.dict = true ∧ (u.chanFlash (m + 1)).held = false) (List.mem_range.mpr h31) hw (fun u k _ hu => hwf u _ hu) hstep
    fun u hu => ⟨hwf u _ hu, hheld u m h31 hu⟩).2

/-- PWRGD_IN is low. -/
def State.powerBad (s : State) : State := { s with pins := { s.pins with pwrgd := false } }

theorem powerBad_within (s : State) : Within (parts [.pins]) s s.powerBad := .set rfl rfl .refl

theorem pwrgd_assertLines (s : State) (p : Nat → Bool) : (s.assertLines p).pins.pwrgd = s.pins.pwrgd := rfl

theorem execPwrgdInFall_eq (hp : s.phase = .up) (hg : s.clk.gated = false) (hpw : s.pins.pwrgd = true) : exec .pwrgdInFall s =
    .next (if s.rd 0x3300 0x24 = 1 then ((s.powerBad.assertLines (fun _ => true)).gateAll).watchLines else s.powerBad) := by
  have hc : (s.runs && s.pins.pwrgd) = true := by rw [runs_of hp hg, hpw]; rfl
  change execPwrgdInFall s = _
  exact when_of_true hc

theorem pwrgdInFall_goes (hp : s.phase = .up) (hg : s.clk.gated = false) (hw : Map.wf s.dict = true) (hpw : s.pins.pwrgd = true) (h1 : s.rd 0x3300 0x24 = 1) :
    GoesTo (exec .pwrgdInFall s) (fun t => t.pins.pwrgd = false ∧ (∀ l, l < 32 → t.released l = false) ∧
        (∀ n, 1 ≤ n → n ≤ 31 → t.chanMode n = 0 ∧ (t.chanFlash n).held = false) ∧
        t = { s with pins := t.pins, dict := t.dict, dtx := t.dtx, flash := t.flash, gate := t.gate, trav := t.trav, rwork := t.rwork }) := by
  have hx := execPwrgdInFall_eq hp hg hpw
  rw [if_pos h1] at hx
  have hlow : ∀ l, l < 32 → (s.powerBad.assertLines fun _ => true).released l = false := fun l hl => by rw [State.released_assertLines hl]; simp
  have hpg : (s.powerBad.assertLines fun _ => true).pins.pwrgd = false := pwrgd_assertLines s.powerBad _
  have hwin : Within (parts [.pins, .dict, .dtx, .flash, .gate, .trav, .rwork]) s (s.powerBad.assertLines fun _ => true) := .assertLines rfl ((powerBad_within s).mono rfl)
  have hwa : Map.wf (s.powerBad.assertLines fun _ => true).dict = true := hwin.stays.dict hw
  revert hx hlow hpg hwin hwa
  generalize s.powerBad.assertLines (fun _ => true) = v
  intro hx hlow hpg hwin hwa
  have hga : Within (parts [.dict, .dtx, .rwork, .flash, .gate, .trav]) v v.gateAll.watchLines := .watchLines rfl (.gateAll rfl .refl)
  have hwl : Within (parts [.gate]) v.gateAll v.gateAll.watchLines := .watchLines rfl .refl
  have hpins : v.gateAll.watchLines.pins = v.pins := hga.same .pins rfl
  refine ⟨_, hx, (congrArg Pins.pwrgd hpins).trans hpg, fun l hl => ?_, fun n h1 h31 => ⟨?_, ?_⟩, (hwin.trans (hga.mono rfl)).eq_keepBut⟩
  · rw [State.released, hpins]
    exact hlow l hl
  · have hm : v.gateAll.watchLines.chanMode n = v.gateAll.chanMode n := by rw [State.chanMode, State.chanMode, State.rd_congr (hwl.same .dict rfl)]
    rw [hm]
    exact State.chanMode_gateAll hwa h1 h31
  · rw [chanFlash_congr (hwl.same .flash rfl)]
    have hheld := gateAll_held hwa (m := n - 1) (by omega)
    rwa [Nat.sub_add_cancel h1] at hheld

/-- Settles O40. -/
theorem flashChannelsAndResetLinesComplete : Obligations.FlashChannelsAndResetLinesComplete := by
  unfold Obligations.FlashChannelsAndResetLinesComplete
  refine ⟨fun s n hp hg h1 h31 hw => ⟨fun hb => presenceHigh_goes hp hg h1 h31 hw hb, fun hb => presenceLow_goes hp hg h1 h31 hw hb,
    fun d hs hm hh he hpr hb => gateStart_goes hp hg h1 h31 hw hs hm hh he hpr hb, fun i m hm hi ht hff => ?_,
    fun hm hd hf => gateDecided_goes hp hg h1 h31 hw hm hd hf, fun code addr hm hc => ⟨fun hp' => ?_, fun hcut => ?_⟩,
    fun w h8 ho ht => updateWindowExpiry_goes hp hg hw h8 ho ht⟩, fun s hp hg hw => ⟨fun l hl hr hm hpw => ⟨fun hf hc hlo hd hh => ?_, fun hf hd => ?_⟩, fun hpw => ⟨fun h => ?_, fun h => ?_⟩⟩⟩
  · obtain ⟨k1, k2⟩ := regionMeasured_goes hp hg h1 h31 hw hm hi ht hff (m := m)
    refine ⟨k1, fun h => ?_⟩
    obtain ⟨t, hx, ⟨r1, r2, r3, r4, r5, r6⟩⟩ := k2 h
    exact ⟨t, hx, r1, r2, r3, r4, r5, r6⟩
  · have hx := execFlashCommand_eq hp hg h1 h31 hm hc (addr := addr)
    have hno : s.cuts n code (s.flashAddr n addr) = false := cuts_false hp'
    rw [hno, if_neg (by decide)] at hx
    exact ⟨fun h5 hcode => hx.trans (congrArg _ (passed_tracked h5 hcode)), fun h => hx.trans (congrArg _ (passed_plain h))⟩
  · have hx := execFlashCommand_eq hp hg h1 h31 hm hc (addr := addr)
    have hyes : s.cuts n code (s.flashAddr n addr) = true := cuts_true hcut
    rw [hyes, if_pos rfl] at hx
    obtain ⟨r1, r2, r3, r4, r5, r6, r7⟩ := cut_spec hw (by omega) h31 hm hc (a := s.flashAddr n addr)
    exact ⟨_, hx, r1, r2, r3, r4, r5, r6, r7⟩
  · exact lineRelease_goes hp hg hw hl hr hm hpw hf hc hlo hd hh
  · exact forcedRelease_goes hp hg hw hl hr hm hpw hf hd
  · exact (execPwrgdInFall_eq hp hg hpw).trans (congrArg _ (if_neg h))
  · exact pwrgdInFall_goes hp hg hw hpw h

end Machine
end Sys2Proof
end

section
/-! Hardware faults (21 R445, R446, R449; O43): what the struck job, the charge and the fence leave of the event log, the fault function's entries and the
engines. -/
namespace Sys2Proof
namespace Machine
variable {s t u : State} {r : JobRef} {j : Job} {status detail : Nat}

/-! ### Rows of the log and the fault function's first entries -/

/-- Of the event log at most `k` rows are made, none is lost while it has room, and entries 0x4800.00 to .03 stay as they were. -/
structure Rows (k : Nat) (s t : State) : Prop where
  wf : Map.wf s.dict = true → Map.wf t.dict = true
  seq : s.flt.seq ≤ t.flt.seq
  log : s.flt.log.length + k ≤ 4096 → s.flt.log <+: t.flt.log ∧ t.flt.log.length ≤ s.flt.log.length + k ∧ ∀ a, a < 4 → t.rd 0x4800 a = s.rd 0x4800 a

/-- A fenced port's link is down, and reads FENCED. -/
def State.portLost (s : State) (p : Nat) : State := if s.linkUp p then s.portDown p 3 else s.wr (0x1400 + p) 0x10 3

/-- The port stands among the fenced ones. -/
def State.portMarked (s : State) (p : Nat) : State :=
  s.withFlt { s.flt with portFenced := if s.flt.portFenced.contains p then s.flt.portFenced else s.flt.portFenced ++ [p] }

theorem fencePort_eq (s : State) (p : Nat) : s.fencePort p = ((s.portLost p).portMarked p).logRow 4 8 0xFF p 0xFF 0 0 := rfl

namespace Rows

variable {k m : Nat}

theorem of_same (hd : t.dict = s.dict) (hf : t.flt = s.flt) : Rows k s t :=
  ⟨fun hw => hd ▸ hw, (congrArg Faults.seq hf).ge, fun _ => by
    rw [hf]
    exact ⟨List.prefix_rfl, Nat.le_add_right _ _, fun a _ => State.rd_congr hd _ a⟩⟩

theorem refl : Rows k s s := of_same rfl rfl

theorem of_within {l : Parts} (h : Within l s t) (hl : (inParts l .dict || inParts l .flt) = false) : Rows k s t := by
  obtain ⟨h1, h2⟩ := Bool.or_eq_false_iff.1 hl
  exact of_same (h.same .dict h1) (h.same .flt h2)

theorem trans (h : Rows k s t) (g : Rows m t u) : Rows (k + m) s u :=
  ⟨fun hw => g.wf (h.wf hw), h.seq.trans g.seq, fun hl => by
    obtain ⟨h1, h2, h3⟩ := h.log (by omega)
    obtain ⟨g1, g2, g3⟩ := g.log (by omega)
    exact ⟨h1.trans g1, by omega, fun a ha => (g3 a ha).trans (h3 a ha)⟩⟩

theorem mono (h : Rows k s t) (hk : k ≤ m) : Rows m s t :=
  ⟨h.wf, h.seq, fun hl => by
    obtain ⟨h1, h2, h3⟩ := h.log (by omega)
    exact ⟨h1, by omega, h3⟩⟩

theorem then_none (h : Rows k s t) (g : Rows 0 t u) : Rows k s u := (h.trans g).mono (by omega)

theorem none_then (h : Rows 0 s t) (g : Rows k t u) : Rows k s u := (h.trans g).mono (by omega)

theorem ite {c : Prop} [Decidable c] {x y : State} (hx : Rows k s x) (hy : Rows k s y) : Rows k s (if c then x else y) := by
  split
  · exact hx
  · exact hy

theorem foldl {α : Type} {f : State → α → State} {l : List α} (hf : ∀ v x, Rows 0 v (f v x)) : Rows 0 s (l.foldl f s) :=
  List.foldlRecOn (motive := Rows 0 s) _ _ refl fun v hv x _ => hv.then_none (hf v x)

theorem wr {i a v : Nat} (ha : a < 256) (h : i ≠ 0x4800 ∨ 4 ≤ a) : Rows k s (s.wr i a v) :=
  ⟨fun hw => State.wf_wr hw i a v, le_refl _, fun _ => ⟨List.prefix_rfl, Nat.le_add_right _ _, fun b hb =>
    State.rd_wr_of_sub _ ha (by omega) (h.elim (fun hi => .inl (Ne.symm hi)) fun h4 => .inr (by omega))⟩⟩

theorem event {i a f : Nat} (ha : a < 256) (h : i ≠ 0x4800 ∨ 4 ≤ a) : Rows k s (s.event i a f) :=
  (wr (k := 0) (v := eventAdd (s.rd i a) f) ha h).none_then (of_same rfl rfl)

theorem logRow {kind unitType cluster unit tenant st record : Nat} : Rows 1 s (s.logRow kind unitType cluster unit tenant st record) := by
  refine ⟨SubsStay.logRow.wf, seq_le_logRow _ _ _ _ _ _ _ _, fun hl => ?_⟩
  rw [log_logRow, if_pos (by omega)]
  refine ⟨List.prefix_append _ _, by simp, fun a _ => ?_⟩
  have hd : (s.logRow kind unitType cluster unit tenant st record).dict = s.dict := by
    unfold State.logRow
    dsimp only
    rw [if_pos (by omega)]
  exact State.rd_congr hd _ a

theorem countFault : Rows 0 s (s.countFault j status) := by
  unfold State.countFault
  exact ite ((event (by decide) (.inr (by decide))).then_none (of_within (k := 0) (l := parts [.tx, .chans]) (.notify rfl .refl) rfl)) refl

theorem finish (hu : uncached status = false) : Rows 0 s (s.finish r status detail [] none) := by
  cases hj : s.findJob r with
  | none => rw [State.finish_absent hj]; exact refl
  | some j =>
    by_cases hl : j.live = true
    · rw [State.finish_cached hj hl hu]
      exact (of_within (k := 0) (l := parts [.jobs, .units, .clus]) (.mapJob rfl (.freeEngines rfl .refl)) rfl).then_none countFault
    · rw [State.finish_ended hj (Bool.eq_false_of_not_eq_true hl)]
      exact refl

theorem cutJob (hc : Calm s) (hu : uncached status = false) : Rows 0 s (s.cutJob j status detail 0) := by
  have hend : ∀ v : State, Calm v → Rows 0 v (v.endJob j.ref status detail 0 [] none) := fun v hv => by
    cases hj : v.findJob j.ref with
    | none => rw [State.endJob, hj]; exact refl
    | some y =>
      rw [State.endJob_cut hj]
      have hoff : Within (parts [.jobs, .units, .les, .saved, .cmem, .clus]) v (v.offUnits j.ref y) := .mapJob rfl (.unload rfl .refl)
      have hcalm : Calm ((v.offUnits j.ref y).finish j.ref status detail [] none) := Calm.finish_any hu (hv.congr (hoff.same .chans rfl) (hoff.same .tenants rfl))
      exact ((of_within (k := 0) hoff rfl).then_none (finish hu)).then_none (of_within hcalm.settle_within rfl)
  unfold State.cutJob
  split
  · exact (of_within (k := 0) (l := parts [.free, .jobs, .tenants, .les]) (.accrue rfl .refl) rfl).then_none (hend _ hc.accrue)
  · exact hend s hc

theorem discardJob (hc : Calm s) : Rows 0 s (s.discardJob r) := by
  unfold State.discardJob
  split
  · exact refl
  · have hw : ∀ k, Within (parts [.jobs, .units, .les, .saved, .cmem, .clus]) s ((s.unload k).dropJob r) := fun k => .dropJob rfl (.unload rfl .refl)
    have hcalm : ∀ k, Calm ((s.unload k).dropJob r) := fun k => hc.congr ((hw k).same .chans rfl) ((hw k).same .tenants rfl)
    exact (of_within (k := 0) (hw _) rfl).then_none (of_within (hcalm _).settle_within rfl)

theorem failover {p q : Nat} (hp : p < 4) : Rows 1 s (s.failover p q) := by
  unfold State.failover
  refine ite refl ?_
  extract_lets first t
  have ht : Rows 0 s t := of_within (l := parts [.tenants]) (.foldl .refl fun _ _ h => .setTen rfl h) rfl
  refine ht.none_then (ite ?_ refl)
  have h1 : Rows 0 t (t.event (0x1400 + p) 0x13 2) := event (by decide) (.inl (by omega))
  exact (h1.none_then logRow).then_none (of_within (l := parts [.tx, .chans]) (.proclaim rfl (.notify rfl .refl)) rfl)

theorem foldl_length {α : Type} {f : State → α → State} : ∀ {l : List α} {s : State}, (∀ v, ∀ x ∈ l, Rows k v (f v x)) → Rows (k * l.length) s (l.foldl f s)
  | [], _, _ => refl
  | x :: l, s, hf => by
    rw [List.foldl_cons]
    refine ((hf s x List.mem_cons_self).trans (foldl_length fun v y hy => hf v y (List.mem_cons_of_mem _ hy))).mono ?_
    rw [List.length_cons, Nat.mul_succ]
    omega

theorem failovers : Rows 16 s s.failovers := by
  have h4 : ∀ (u : State) p, p ∈ List.range 4 → Rows 4 u ((List.range 4).foldl (fun u q => u.failover p q) u) := fun u p hp =>
    foldl_length (k := 1) (l := List.range 4) fun v q _ => failover (List.mem_range.1 hp)
  exact Rows.then_none (k := 16) (foldl_length (k := 4) (l := List.range 4) h4) (of_within (l := parts [.tx, .waits, .chans]) (.sendWaiting rfl .refl) rfl)

theorem movePtp {p : Nat} : Rows 0 s (s.movePtp p) := by
  unfold State.movePtp
  extract_lets a b c t
  have ht : Rows 0 s t := of_same rfl rfl
  exact ht.then_none (wr (k := 0) (i := 0x1100) (a := 6) (by decide) (.inl (by decide)))

theorem ptpLinkDown {p : Nat} : Rows 0 s (s.ptpLinkDown p) := by
  unfold State.ptpLinkDown
  split
  · exact ite movePtp refl
  · exact refl

theorem portDown {p st : Nat} (hp : p < 4) : Rows 16 s (s.portDown p st) := by
  rw [State.portDown_eq]
  have h1 : Rows 0 s (s.lossNoted p st) := by
    have ha : Rows 0 s (s.wr (0x1400 + p) 0x10 st) := wr (by decide) (.inl (by omega))
    have hb : Rows 0 (s.wr (0x1400 + p) 0x10 st) ((s.wr (0x1400 + p) 0x10 st).event (0x1400 + p) 0x13 1) := event (by decide) (.inl (by omega))
    exact (ha.then_none hb).then_none (of_within (l := parts [.tx, .chans]) (.notify rfl .refl) rfl)
  have h2 : Rows 0 (s.lossNoted p st) ((s.lossNoted p st).unburdened p) := of_same (State.dict_unburdened _ _) rfl
  exact ((h1.then_none h2).none_then failovers).then_none ptpLinkDown

theorem withFlt {f : Faults} (hl : f.log = s.flt.log) (hs : f.seq = s.flt.seq) : Rows 0 s (s.withFlt f) :=
  ⟨id, hs.ge, fun _ => by
    have h : (s.withFlt f).flt.log = s.flt.log := hl
    rw [h]
    exact ⟨List.prefix_rfl, Nat.le_add_right _ _, fun _ _ => rfl⟩⟩

theorem fencePort {p : Nat} (hp : p < 4) : Rows 17 s (s.fencePort p) := by
  rw [fencePort_eq]
  have ht : Rows 16 s (s.portLost p) := ite (portDown hp) (wr (by decide) (.inl (by omega)))
  have hf : Rows 0 (s.portLost p) ((s.portLost p).portMarked p) := withFlt rfl rfl
  exact (ht.then_none hf).trans (k := 16) (m := 1) logRow

theorem rebalanceFrom {old : State} {busy : Bool} : Rows 0 s (State.rebalanceFrom old s busy) := by
  unfold State.rebalanceFrom
  extract_lets t₁ t₂ t₃ t₄
  have h3 : Rows 0 s t₃ := of_within (l := parts [.units]) (.foldl (.foldl (.foldl .refl fun _ _ h => .dropFenced rfl h) fun _ _ h => .fitReserve rfl h) fun _ _ h =>
    .foldl h fun _ _ h => .fitHolding rfl (.ite h (.gather rfl h))) rfl
  have h4 : Rows 0 t₃ t₄ := ite (event (by decide) (.inl (by decide))) refl
  have h5 : Rows 0 t₄ t₄.rescale := by
    unfold State.rescale
    exact ite refl ((wr (k := 0) (by decide) (.inl (by decide))).then_none (event (by decide) (.inl (by decide))))
  exact (h3.then_none h4).then_none h5

theorem fenceUnits {us : List Nat} {row : Nat × Nat × Nat} {owner le : Bool} : Rows 1 s (s.fenceUnits us row owner le) := by
  unfold State.fenceUnits
  extract_lets t₁ t₂
  have h1 : Rows 0 s t₁ := of_within (l := parts [.units]) (.foldl .refl fun _ _ h => .fenceEngine rfl h) rfl
  have h3 : Rows 0 t₂ (if le then t₂.event (0x2000 + row.2.1) 7 16 else t₂) := ite (event (by decide) (.inr (by decide))) refl
  exact ((h1.none_then logRow).then_none h3).then_none rebalanceFrom

theorem moveSuspended {c : Nat} : Rows 0 s (s.moveSuspended c) :=
  of_within (l := parts [.jobs, .tenants, .units, .les, .saved, .cmem, .clus]) (.moveSuspended rfl .refl) rfl

end Rows

end Machine
end Sys2Proof
end

section
/-! The struck job, the fences and HARDWARE_FAULT (21 R445, R446, R449; O43). -/
namespace Sys2Proof
namespace Machine
variable {s t u : State} {r : JobRef} {j : Job} {status detail : Nat}

/-! ### What engines keep under fences and rebalancing -/

/-- Each engine runs what it ran or nothing, and one that is fenced stays so. -/
def EnginesKeep (s t : State) : Prop :=
  ∀ x, ((t.engine x).job = (s.engine x).job ∨ (t.engine x).job = none) ∧ ((s.engine x).fenced = true → (t.engine x).fenced = true)

namespace EnginesKeep

theorem of_units (h : t.units = s.units) : EnginesKeep s t := fun x => by
  rw [engine_congr h]
  exact ⟨.inl rfl, id⟩

theorem of_within {k : Parts} (h : Within k s t) (hk : inParts k .units = false) : EnginesKeep s t := of_units (h.same .units hk)

theorem trans (h : EnginesKeep s t) (g : EnginesKeep t u) : EnginesKeep s u := fun x =>
  ⟨(g x).1.elim (fun hg => (h x).1.imp (hg.trans ·) (hg.trans ·)) .inr, fun hf => (g x).2 ((h x).2 hf)⟩

theorem ite {c : Prop} [Decidable c] {x y : State} (hx : EnginesKeep s x) (hy : EnginesKeep s y) : EnginesKeep s (if c then x else y) := by
  split
  · exact hx
  · exact hy

theorem foldl {α : Type} {f : State → α → State} {l : List α} (hf : ∀ v x, EnginesKeep v (f v x)) : EnginesKeep s (l.foldl f s) :=
  List.foldlRecOn (motive := EnginesKeep s) _ _ (of_units rfl) fun v hv x _ => hv.trans (hf v x)

theorem setEngine {e : Nat} {v : Engine} (hj : v.job = (s.engine e).job ∨ v.job = none) (hf : (s.engine e).fenced = true → v.fenced = true) :
    EnginesKeep s (s.setEngine e v) := fun x => by
  by_cases hx : x = e
  · rw [hx, engine_setEngine_self]
    exact ⟨hj, hf⟩
  · rw [engine_setEngine_of_ne _ _ hx]
    exact ⟨.inl rfl, id⟩

theorem of_leave (h : EnginesLeave s t) : EnginesKeep s t := fun x => by
  rcases h x with hx | hx <;> rw [hx]
  · exact ⟨.inl rfl, id⟩
  · exact ⟨.inr rfl, fun hf => by simp [Engine.leave, hf]⟩

theorem freeEngines : EnginesKeep s (s.freeEngines j) := of_leave fun x => by
  rw [engine_freeEngines]
  split
  · exact .inr rfl
  · exact .inl rfl

theorem unload : EnginesKeep s (s.unload j) := by
  unfold State.unload
  split
  · unfold State.clearSaved
    split
    · exact freeEngines
    · exact (freeEngines.trans (of_leave .closeStreams)).trans (of_units rfl)
  · exact (foldl fun _ _ => of_leave .clearLe).trans freeEngines

theorem giveBlock {cl : EngClass} {b : Nat} {h : Holder} : EnginesKeep s (s.giveBlock cl b h) := foldl fun _ _ => setEngine (.inl rfl) id

theorem dropFenced {cl : EngClass} : EnginesKeep s (s.dropFenced cl) := foldl fun _ _ => ite (of_units rfl) giveBlock

theorem fitReserve {cl : EngClass} : ∀ {n : Nat} {s : State}, EnginesKeep s (s.fitReserve cl n)
  | 0, _ => of_units rfl
  | n + 1, s => by
    unfold State.fitReserve
    extract_lets held
    refine ite ?_ (ite (giveBlock.trans fitReserve) (of_units rfl))
    split
    · exact giveBlock.trans fitReserve
    · exact of_units rfl

theorem gather {i : Nat} {cl : EngClass} : EnginesKeep s (s.gather i cl) := by
  unfold State.gather
  split
  · exact of_units rfl
  · exact ite (of_units rfl) (foldl fun _ _ => giveBlock)

theorem fitHolding {i : Nat} {cl : EngClass} {busy : Bool} : ∀ {n : Nat} {s : State}, EnginesKeep s (s.fitHolding i cl busy n)
  | 0, _ => of_units rfl
  | n + 1, s => by
    unfold State.fitHolding
    extract_lets held
    refine ite ?_ (ite (giveBlock.trans fitHolding) (of_units rfl))
    split
    · exact giveBlock.trans fitHolding
    · exact of_units rfl

theorem rebalanceFrom {old : State} {busy : Bool} : EnginesKeep s (State.rebalanceFrom old s busy) := by
  unfold State.rebalanceFrom
  extract_lets t₁ t₂ t₃ t₄
  have h1 : EnginesKeep s t₁ := foldl fun _ _ => dropFenced
  have h2 : EnginesKeep t₁ t₂ := foldl fun _ _ => fitReserve
  have h3 : EnginesKeep t₂ t₃ := foldl fun _ _ => foldl fun _ _ => (ite (of_units rfl) gather).trans fitHolding
  have h4 : EnginesKeep t₃ t₄ := ite (of_units rfl) (of_units rfl)
  exact ((h1.trans h2).trans (h3.trans h4)).trans (of_within (k := parts [.dict, .dtx]) (.rescale rfl .refl) rfl)

theorem fenceEngine {e : Nat} {owner : Bool} : EnginesKeep s (s.fenceEngine e owner) := setEngine (.inl rfl) fun hf => by simp [hf]

theorem fenceUnits {us : List Nat} {row : Nat × Nat × Nat} {owner le : Bool} : EnginesKeep s (s.fenceUnits us row owner le) := by
  unfold State.fenceUnits
  extract_lets t₁ t₂
  have h1 : EnginesKeep s t₁ := foldl fun _ _ => fenceEngine
  have h2 : EnginesKeep t₁ t₂ := of_within (k := parts [.dict, .dtx, .flt]) (.logRow rfl .refl) rfl
  have h3 : EnginesKeep t₂ (if le then t₂.event (0x2000 + row.2.1) 7 16 else t₂) := ite (of_within (k := parts [.dict, .dtx]) (.event rfl .refl) rfl) (of_units rfl)
  exact (h1.trans (h2.trans h3)).trans rebalanceFrom

theorem moveJob : EnginesKeep s (s.moveJob j) :=
  ((of_within (k := parts [.jobs, .tenants]) (.withdraw rfl .refl) rfl).trans unload).trans (of_units rfl)

theorem moveSuspended {c : Nat} : EnginesKeep s (s.moveSuspended c) := by
  unfold State.moveSuspended
  exact foldl fun _ _ => moveJob

end EnginesKeep

/-! ### What a charge leaves of a job -/

theorem findJob_moveJob_of_ne (h : j.ref ≠ r) : (s.moveJob j).findJob r = s.findJob r := by
  have hw : ∀ v : State, Within (parts [.units, .les, .saved, .cmem, .clus]) v (v.unload j) := fun _ => .unload rfl .refl
  have h1 : ∀ v : State, (v.requeue j).findJob r = v.findJob r := fun v =>
    (State.findJob_mapJob_of_ne (f := fun (j : Job) => { j with state := .queued, units := [], prec := true, borrowed := false, mid := if j.kind = 0x3 then j.mid else 0 })
      (fun _ => rfl) (Ne.symm h)).trans (State.findJob_congr ((hw v).same .jobs rfl) r)
  have h2 : (s.withdraw j.ref).findJob r = s.findJob r := by
    unfold State.withdraw
    split
    · rfl
    · next y _ =>
      exact (State.findJob_congr rfl r).trans (State.findJob_mapJob_of_ne (f := Job.uncharged (y.charged.sub (y.lapCharged.add y.lapBorrowed))) (fun _ => rfl) (Ne.symm h))
  exact (h1 _).trans h2

/-- No job of the message is suspended. -/
def Unsuspended (s : State) (r : JobRef) : Prop := ∀ y ∈ s.jobs, y.ref = r → y.state ≠ .suspended

theorem Unsuspended.congr (h : Unsuspended s r) (hj : t.jobs = s.jobs) : Unsuspended t r := fun y hy => h y (hj ▸ hy)

theorem findJob_moveSuspended (h : Unsuspended s r) (c : Nat) : (s.moveSuspended c).findJob r = s.findJob r := by
  unfold State.moveSuspended
  refine List.foldlRecOn (motive := fun v : State => v.findJob r = s.findJob r) _ _ rfl fun v hv y hy => ?_
  obtain ⟨hm, hs⟩ := List.mem_filter.1 hy
  rw [Bool.and_eq_true, beq_iff_eq] at hs
  rw [findJob_moveJob_of_ne fun he => h y hm he hs.1, hv]

/-! ### The charge of a fault (R449) -/

/-- The engine is charged the fault. -/
def State.engineCharged (s : State) (e : Nat) : State := s.setEngine e { s.engine e with faults := s.recent (s.engine e).faults }

/-- The cluster is charged the fault. -/
def State.clusterCharged (s : State) (k : Nat) : State :=
  s.withFlt { s.flt with clusterFaults := Map.put s.flt.clusterFaults k (s.recent (Map.getD s.flt.clusterFaults k [])) }

/-- The port is charged the fault. -/
def State.portCharged (s : State) (p : Nat) : State :=
  s.withFlt { s.flt with portFaults := Map.put s.flt.portFaults p (s.recent (Map.getD s.flt.portFaults p [])) }

theorem chargeFault_engine (s : State) (e : Nat) : s.chargeFault (.engine e) =
    if (s.recent (s.engine e).faults).length < 3 ∨ (s.engine e).fencing then (s.engineCharged e, 0)
    else ((s.engineCharged e).fenceUnits [e] (chargedRow (.engine e)) false (decide (e < 256)), 4) := rfl

theorem chargeFault_cluster (s : State) (k : Nat) : s.chargeFault (.cluster k) =
    if (s.recent (Map.getD s.flt.clusterFaults k [])).length < 3 ∨ (clusterUnits k).all (fun u => (s.engine u).fencing) then (s.clusterCharged k, 0)
    else (((s.clusterCharged k).fenceUnits (clusterUnits k) (chargedRow (.cluster k)) false true).moveSuspended k, 4) := rfl

theorem chargeFault_port (s : State) (p : Nat) : s.chargeFault (.port p) =
    if (s.recent (Map.getD s.flt.portFaults p [])).length < 3 ∨ s.flt.portFenced.contains p then (s.portCharged p, 0) else ((s.portCharged p).fencePort p, 4) := rfl

/-- What a charge leaves: at most 17 rows, the engines, and the jobs that are not suspended. -/
structure ChargeKeeps (s t : State) : Prop where
  rows : Rows 17 s t
  engines : EnginesKeep s t
  findJob : ∀ r, Unsuspended s r → t.findJob r = s.findJob r
  clk : t.clk = s.clk
  tamp : t.tamp = s.tamp

theorem chargeFault_keeps {c : Charged} (hc : ∀ p, c = .port p → p < 4) : ChargeKeeps s (s.chargeFault c).1 ∧ (s.chargeFault c).2 ∈ [0, 4] := by
  have hw : Within (ending ||| parts [.ports, .ptp, .flt]) s (s.chargeFault c).1 := .chargeFault rfl .refl
  have hclk : (s.chargeFault c).1.clk = s.clk := hw.same .clk rfl
  have htamp : (s.chargeFault c).1.tamp = s.tamp := hw.same .tamp rfl
  suffices h : Rows 17 s (s.chargeFault c).1 ∧ EnginesKeep s (s.chargeFault c).1 ∧ (∀ r, Unsuspended s r → (s.chargeFault c).1.findJob r = s.findJob r) ∧
      (s.chargeFault c).2 ∈ [0, 4] from ⟨⟨h.1, h.2.1, h.2.2.1, hclk, htamp⟩, h.2.2.2⟩
  clear hw hclk htamp
  cases c with
  | engine e =>
    have hr : Rows 0 s (s.engineCharged e) := Rows.of_within (l := parts [.units]) (.setEngine rfl .refl) rfl
    have he : EnginesKeep s (s.engineCharged e) := .setEngine (.inl rfl) id
    have hj : ∀ r, (s.engineCharged e).findJob r = s.findJob r := State.findJob_congr rfl
    rw [chargeFault_engine]
    split
    · exact ⟨hr.mono (by omega), he, fun r _ => hj r, by simp⟩
    · have hf : Within (parts [.dict, .dtx, .units, .flt]) (s.engineCharged e) ((s.engineCharged e).fenceUnits [e] (chargedRow (.engine e)) false (decide (e < 256))) :=
        .fenceUnits rfl .refl
      exact ⟨(hr.none_then Rows.fenceUnits).mono (by omega), he.trans .fenceUnits, fun r _ => (State.findJob_congr (hf.same .jobs rfl) r).trans (hj r), by simp⟩
  | cluster k =>
    have hr : Rows 0 s (s.clusterCharged k) := Rows.withFlt rfl rfl
    have he : EnginesKeep s (s.clusterCharged k) := .of_units rfl
    have hj : (s.clusterCharged k).jobs = s.jobs := rfl
    rw [chargeFault_cluster]
    split
    · exact ⟨hr.mono (by omega), he, fun r _ => State.findJob_congr hj r, by simp⟩
    · have hf : Within (parts [.dict, .dtx, .units, .flt]) (s.clusterCharged k) ((s.clusterCharged k).fenceUnits (clusterUnits k) (chargedRow (.cluster k)) false true) :=
        .fenceUnits rfl .refl
      have hfj : ((s.clusterCharged k).fenceUnits (clusterUnits k) (chargedRow (.cluster k)) false true).jobs = s.jobs := (hf.same .jobs rfl).trans hj
      have hr1 := hr.none_then (Rows.fenceUnits (us := clusterUnits k) (row := chargedRow (.cluster k)) (owner := false) (le := true))
      have he1 := he.trans (EnginesKeep.fenceUnits (us := clusterUnits k) (row := chargedRow (.cluster k)) (owner := false) (le := true))
      clear hf hr he hj
      revert hfj hr1 he1
      generalize State.fenceUnits _ _ _ _ _ = v
      intro hfj hr1 he1
      have hr2 : Rows 1 s (v.moveSuspended k) := hr1.then_none Rows.moveSuspended
      refine ⟨hr2.mono (by omega), he1.trans .moveSuspended, fun r hu => ?_, by simp⟩
      rw [findJob_moveSuspended (hu.congr hfj) k]
      exact State.findJob_congr hfj r
  | port p =>
    have hr : Rows 0 s (s.portCharged p) := Rows.withFlt rfl rfl
    have hu : (s.portCharged p).units = s.units := rfl
    have hj : (s.portCharged p).jobs = s.jobs := rfl
    rw [chargeFault_port]
    split
    · exact ⟨hr.mono (by omega), .of_units hu, fun r _ => State.findJob_congr hj r, by simp⟩
    · have hf : Within (parts [.dict, .dtx, .ports, .ptp, .tx, .waits, .chans, .tenants, .flt]) (s.portCharged p) ((s.portCharged p).fencePort p) := .fencePort rfl .refl
      exact ⟨hr.none_then (Rows.fencePort (hc p rfl)), .of_units ((hf.same .units rfl).trans hu), fun r _ => State.findJob_congr ((hf.same .jobs rfl).trans hj) r, by simp⟩
  | nothing => exact ⟨.refl, .of_units rfl, fun _ _ => rfl, by simp [State.chargeFault]⟩

end Machine
end Sys2Proof
end

section
/-! The struck job and HARDWARE_FAULT (21 R445, R446, R449, R453; O43). -/
namespace Sys2Proof
namespace Machine
variable {s t u v : State} {r : JobRef} {j x : Job} {status detail : Nat}

/-! ### The struck job (R446) -/

/-- After a struck job's attempt has ended at most one row more is in the log, and the count of FAULT_EVENTS stands. -/
structure AttemptOver (s t : State) : Prop where
  wf : Map.wf s.dict = true → Map.wf t.dict = true
  seq : s.flt.seq ≤ t.flt.seq
  log : s.flt.log.length + 1 ≤ 4096 → s.flt.log <+: t.flt.log ∧ t.flt.log.length ≤ s.flt.log.length + 1 ∧ t.rd 0x4800 1 = s.rd 0x4800 1

theorem mem_mapJob {f : Job → Job} {y : Job} (hy : y ∈ (s.mapJob r f).jobs) (hr : y.ref = r) : ∃ z ∈ s.jobs, z.ref = r ∧ y = f z := by
  obtain ⟨z, hz, rfl⟩ := List.mem_map.1 hy
  by_cases h : (z.chan == r.chan && z.seq == r.seq) = true
  · rw [Bool.and_eq_true, beq_iff_eq, beq_iff_eq] at h
    exact ⟨z, hz, by rw [Job.ref, h.1, h.2], if_pos (by rw [h.1, h.2]; simp)⟩
  · rw [if_neg h] at hr
    subst hr
    simp [Job.ref] at h

/-- The counts of a first fault. -/
def State.retryCounted (s : State) (n : Nat) : State := (s.inc 0x4800 4 n).inc 0x4800 2 1

/-- A job that has been retried once. -/
def Job.retriedOn (unit : Option Nat) (x : Job) : Job := { x with retried := true, faultUnit := unit, rnd := none }

theorem retryJob_eq (s : State) (j : Job) (unit : Option Nat) : ∃ n, s.retryJob j unit =
    ((((s.accrue j).retryCounted n).withdraw j.ref).requeue j).mapJob j.ref (Job.retriedOn unit) := ⟨_, rfl⟩

theorem retryCounted_spec (hw : Map.wf s.dict = true) (n : Nat) : (s.retryCounted n).rd 0x4800 2 = (s.rd 0x4800 2 + 1) % 2 ^ 64 ∧
    (s.retryCounted n).rd 0x4800 1 = s.rd 0x4800 1 ∧ Within (parts [.dict]) s (s.retryCounted n) := by
  refine ⟨?_, ?_, .inc rfl (.inc rfl .refl)⟩
  · refine (State.rd_inc (s := s.inc 0x4800 4 n) (State.wf_wr hw _ _ _) _ _ _).trans ?_
    exact congrArg (fun k => (k + 1) % 2 ^ 64) (State.rd_wr_of_sub _ (by decide) (by decide) (.inr (by decide)))
  · exact (State.rd_wr_of_sub _ (by decide) (by decide) (.inr (by decide))).trans (State.rd_wr_of_sub _ (by decide) (by decide) (.inr (by decide)))

theorem findJob_accrue (h : s.findJob j.ref = some j) : ∃ w, (s.accrue j).findJob j.ref = some (j.chargedWith w) := by
  have hb : Within (parts [.les]) (State.charge { s with free := s.free + 4 } j.ref (s.soFar j)) (s.accrue j) := .billWaits rfl .refl
  exact ⟨_, (State.findJob_congr (hb.same .jobs rfl) _).trans (State.charge_jobs (s := { s with free := s.free + 4 }) h).1⟩

/-- What a retry leaves (R446). -/
structure Retried (s t : State) (j : Job) (unit : Option Nat) : Prop where
  requeued : Requeued t j
  count : t.rd 0x4800 2 = (s.rd 0x4800 2 + 1) % 2 ^ 64
  marked : ∃ x', t.findJob j.ref = some x' ∧ x'.retried = true ∧ x'.faultUnit = unit
  events : t.rd 0x4800 1 = s.rd 0x4800 1
  wf : Map.wf t.dict = true
  flt : t.flt = s.flt
  unsuspended : Unsuspended t j.ref

theorem retryJob_spec (hw : Map.wf s.dict = true) (h : s.findJob j.ref = some j) (hs : j.state ≠ .suspended) (unit : Option Nat) : Retried s (s.retryJob j unit) j unit := by
  obtain ⟨n, he⟩ := retryJob_eq s j unit
  obtain ⟨w, ha⟩ := findJob_accrue h
  have haw : Within (parts [.free, .jobs, .tenants, .les]) s (s.accrue j) := .accrue rfl .refl
  have hwa : Map.wf (s.accrue j).dict = true := haw.stays.dict hw
  have hrd : ∀ a, (s.accrue j).rd 0x4800 a = s.rd 0x4800 a := State.rd_congr (haw.same .dict rfl) _
  obtain ⟨c2, c1, cw⟩ := retryCounted_spec hwa n
  obtain ⟨kept, hk⟩ := findJob_withdraw ((State.findJob_congr (cw.same .jobs rfl) j.ref).trans ha)
  obtain ⟨m, hq⟩ := findJob_requeue hk
  rw [he]
  have hrest : Within (parts [.jobs, .tenants, .units, .les, .saved, .cmem, .clus]) ((s.accrue j).retryCounted n)
      (((((s.accrue j).retryCounted n).withdraw j.ref).requeue j).mapJob j.ref (Job.retriedOn unit)) := .mapJob rfl (.requeue rfl (.withdraw rfl .refl))
  have hfind := State.findJob_mapJob_self (f := Job.retriedOn unit) (fun _ => rfl) hq
  have hrdr := State.rd_congr (hrest.same .dict rfl)
  refine ⟨⟨⟨_, hfind, rfl, rfl, rfl, rfl, rfl, rfl⟩, fun e he => ?_⟩, ?_, ⟨_, hfind, rfl, rfl⟩, ?_, hrest.stays.dict (cw.stays.dict hwa), ?_, fun y hy hr => ?_⟩
  · exact (engine_unload (s := ((s.accrue j).retryCounted n).withdraw j.ref) hs e he).1
  · rw [hrdr, c2, hrd]
  · rw [hrdr, c1, hrd]
  · exact (hrest.same .flt rfl).trans ((cw.same .flt rfl).trans (haw.same .flt rfl))
  · obtain ⟨z, hz, hzr, rfl⟩ := mem_mapJob (f := Job.retriedOn unit) hy hr
    obtain ⟨z', -, -, rfl⟩ := mem_mapJob hz hzr
    exact JobState.noConfusion

/-- What a second fault leaves (R446). -/
theorem cutJob_unsuspended (hc : Calm s) (hf : s.findJob j.ref = some x) (hl : x.live = true) (hu : uncached status = false) : Unsuspended (s.cutJob j status detail 0) j.ref := by
  have hend : ∀ w : State, Calm w → (∃ y, w.findJob j.ref = some y ∧ y.live = true) → Unsuspended (w.endJob j.ref status detail 0 [] none) j.ref := fun w hw ⟨y, hy, hl⟩ => by
    rw [State.endJob_cut hy]
    have hoff : Within (parts [.jobs, .units, .les, .saved, .cmem, .clus]) w (w.offUnits j.ref y) := .mapJob rfl (.unload rfl .refl)
    have hunl : Within (parts [.units, .les, .saved, .cmem, .clus]) w (w.unload y) := .unload rfl .refl
    have hfo : (w.offUnits j.ref y).findJob j.ref = some { y with units := [] } := State.findJob_mapJob_self (f := fun (j : Job) => { j with units := [] }) (fun _ => rfl)
      ((State.findJob_congr (hunl.same .jobs rfl) _).trans hy)
    have hcalm : Calm ((w.offUnits j.ref y).finish j.ref status detail [] none) := Calm.finish_any hu (hw.congr (hoff.same .chans rfl) (hoff.same .tenants rfl))
    refine Unsuspended.congr ?_ (hcalm.settle_within.same .jobs rfl)
    rw [State.finish_cached hfo hl hu]
    refine Unsuspended.congr ?_ ((Within.countFault (k := parts [.dict, .dtx, .tx, .chans]) rfl .refl).same .jobs rfl)
    intro z hz hr
    obtain ⟨z', -, -, rfl⟩ := mem_mapJob hz hr
    exact JobState.noConfusion
  unfold State.cutJob
  split
  · obtain ⟨y, hy, hcore⟩ := (SameCores.refl.accrue (k := j)).find hf
    refine hend _ hc.accrue ⟨y, hy, ?_⟩
    rw [Job.live, (Prod.mk.inj hcore).1]
    exact hl
  · exact hend s hc ⟨x, hf, hl⟩

/-- What a struck job's attempt leaves in every case. -/
theorem faultJob_kept (hw : Map.wf s.dict = true) (hc : Calm s) (hf : s.findJob j.ref = some j) (hs : j.state = .running) (hu : uncached status = false) {unit : Option Nat}
    {row : Nat × Nat × Nat} : AttemptOver s (s.faultJob j unit row status detail) := by
  have hne : j.state ≠ .suspended := by rw [hs]; decide
  have of_rows : ∀ {t : State}, Rows 0 s t → AttemptOver s t := fun h => ⟨h.wf, h.seq, fun hl => by
    obtain ⟨h1, h2, h3⟩ := h.log (by omega)
    exact ⟨h1, by omega, h3 1 (by decide)⟩⟩
  unfold State.faultJob
  split
  · exact of_rows (Rows.cutJob hc rfl)
  · split
    · exact of_rows ((Rows.of_within (k := 0) (l := parts [.free, .jobs, .tenants, .les]) (.accrue rfl .refl) rfl).then_none (Rows.discardJob hc.accrue))
    · split
      · obtain ⟨-, -, -, h4, h5, h6, -⟩ := retryJob_spec hw hf hne unit
        exact ⟨fun _ => h5, (congrArg Faults.seq h6).ge, fun _ => by rw [h6]; exact ⟨List.prefix_rfl, Nat.le_succ _, h4⟩⟩
      · have hi : (s.inc 0x4800 3 1).rd 0x4800 1 = s.rd 0x4800 1 := State.rd_wr_of_sub _ (by decide) (by decide) (.inr (by decide))
        have hwi : Map.wf (s.inc 0x4800 3 1).dict = true := State.wf_wr hw _ _ _
        have hci : Calm (s.inc 0x4800 3 1) := hc.congr rfl rfl
        have hfi : (s.inc 0x4800 3 1).flt = s.flt := rfl
        revert hi hwi hci hfi
        generalize s.inc 0x4800 3 1 = w
        intro hi hwi hci hfi
        have hr : Rows 1 w ((w.cutJob j status detail 0).logRow 10 row.1 row.2.1 row.2.2 j.tenant status 0) := (Rows.cutJob hci hu).none_then Rows.logRow
        refine ⟨fun _ => hr.wf hwi, hfi ▸ hr.seq, fun hl => ?_⟩
        obtain ⟨h1, h2, h3⟩ := hr.log (hfi ▸ hl)
        exact ⟨hfi ▸ h1, hfi ▸ h2, (h3 1 (by decide)).trans hi⟩

/-- What the second fault of a job leaves. -/
structure SecondFault (s t : State) (j : Job) (row : Nat × Nat × Nat) (status detail : Nat) : Prop where
  done : j.kind ≠ 0x4 → JobDone t j.ref status detail [] j.key
  count : s.flt.log.length + 1 ≤ 4096 → t.rd 0x4800 3 = (s.rd 0x4800 3 + 1) % 2 ^ 64
  row : ∃ e ∈ t.flt.log, e.kind = 10 ∧ e.unitType = row.1 ∧ e.cluster = row.2.1 ∧ e.unit = row.2.2 ∧ e.datum = s.clk.datum ∧ s.flt.seq < e.seq
  unsuspended : Unsuspended t j.ref

theorem secondFault_spec (hw : Map.wf s.dict = true) (hc : Calm s) (hf : s.findJob j.ref = some j) (hs : j.state = .running) (hu : uncached status = false)
    (h1 : s.latchedOn j 1 = false) (h2 : s.latchedOn j 2 = false) (hr : j.retried = true) {unit : Option Nat} {row : Nat × Nat × Nat} :
    SecondFault s (s.faultJob j unit row status detail) j row status detail := by
  have hl : j.live = true := by rw [Job.live, hs]; rfl
  have he : s.faultJob j unit row status detail = ((s.inc 0x4800 3 1).cutJob j status detail 0).logRow 10 row.1 row.2.1 row.2.2 j.tenant status 0 := by
    unfold State.faultJob
    rw [h1, h2, hr]
    rfl
  rw [he]
  have hi : (s.inc 0x4800 3 1).rd 0x4800 3 = (s.rd 0x4800 3 + 1) % 2 ^ 64 := State.rd_inc hw _ _ _
  have hwi : Within (parts [.dict]) s (s.inc 0x4800 3 1) := .inc rfl .refl
  have hci : Calm (s.inc 0x4800 3 1) := hc.congr rfl rfl
  clear he
  revert hi hwi hci
  generalize s.inc 0x4800 3 1 = w
  intro hi hwi hci
  have hfw : w.findJob j.ref = some j := (State.findJob_congr (hwi.same .jobs rfl) _).trans hf
  have hcut := cutJob_cutShort (s := w) (j := j) (detail := detail) hci hu
  have hrows := Rows.cutJob (s := w) (j := j) (detail := detail) hci hu
  have huns := cutJob_unsuspended (detail := detail) hci hfw hl hu
  have hclk : (w.cutJob j status detail 0).clk = s.clk := (hcut.within.same .clk rfl).trans (hwi.same .clk rfl)
  have hseq : s.flt.seq ≤ (w.cutJob j status detail 0).flt.seq := (congrArg Faults.seq (hwi.same .flt rfl)).ge.trans hrows.seq
  have hflt : w.flt = s.flt := hwi.same .flt rfl
  have hdone := hcut.done j hfw hl
  clear hcut
  revert hrows huns hclk hseq hdone
  generalize w.cutJob j status detail 0 = v
  intro hrows huns hclk hseq hdone
  have hlog : Within (parts [.dict, .dtx, .flt]) v (v.logRow 10 row.1 row.2.1 row.2.2 j.tenant status 0) := .logRow rfl .refl
  refine ⟨fun hk => (hdone hk).within hlog rfl, fun hlen => ?_, ⟨_, log_logRow v _ _ _ _ _ _ _ ▸ List.mem_append_right _ (List.mem_singleton_self _), rfl, rfl, rfl, rfl,
    by rw [← hclk], Nat.lt_succ_of_le hseq⟩, huns.congr (hlog.same .jobs rfl)⟩
  have hb : Rows 1 w (v.logRow 10 row.1 row.2.1 row.2.2 j.tenant status 0) := hrows.none_then Rows.logRow
  exact ((hb.log (by rw [hflt]; exact hlen)).2.2 3 (by decide)).trans hi

end Machine
end Sys2Proof
end

section
/-! HARDWARE_FAULT (21 R445, R446, R449, R453; O43). -/
namespace Sys2Proof
namespace Machine
variable {s t u v : State} {r : JobRef} {j x : Job} {status detail : Nat} {f : HwFault}

/-- Whether the struck job ends with the fault's status. -/
def State.faultEnds (s : State) (f : HwFault) : Bool :=
  match s.struck f with
  | some x => x.retried && !s.latchedOn x 1 && !s.latchedOn x 2
  | none => false

/-- The fault's own row. -/
def State.faultRowed (s : State) (f : HwFault) : State :=
  s.logRow (faultRow f.kind) (chargedRow (chargeOf f)).1 (chargedRow (chargeOf f)).2.1 (chargedRow (chargeOf f)).2.2
    (match s.struck f with | some x => x.tenant | none => 0xFF) (if s.faultEnds f then (faultStatus f).1 else 0) (faultRecordOf f)

/-- A port's parity fault is counted at the port. -/
def State.faultPorted (s : State) (f : HwFault) : State := if f.kind = .portParity then s.inc (0x1400 + f.unit) 0x14 1 else s

/-- A fault that an LE raises is counted at its cluster. -/
def State.faultRaised (s : State) (f : HwFault) : State := if raisedByLe f.kind then s.event (0x2000 + unitCluster f.unit) 7 8 else s

/-- A control-store word that failed waits to be rewritten. -/
def State.faultWorded (s : State) (f : HwFault) : State :=
  if f.kind = .storeParity ∧ !(s.cluster (unitCluster f.unit)).badWords.contains (badWordOf f) then
    s.setCluster (unitCluster f.unit) { s.cluster (unitCluster f.unit) with badWords := (s.cluster (unitCluster f.unit)).badWords ++ [(badWordOf f)] }
  else s

/-- The fault is noted: in the log, at its port or cluster. -/
def State.faultNoted (s : State) (f : HwFault) : State := (((s.faultRowed f).faultPorted f).faultRaised f).faultWorded f

/-- The struck job's attempt is over. -/
def State.faultStruck (s : State) (f : HwFault) : State :=
  match s.struck f with
  | some x => (s.faultNoted f).faultJob x (if f.unit < 2048 then some f.unit else none) (chargedRow (chargeOf f)) (faultStatus f).1 (faultStatus f).2
  | none => s.faultNoted f

/-- The fault is flagged, and a parity fault counted towards the storm. -/
def State.faultFlagged (s : State) (f : HwFault) (n : Nat) : State :=
  if parityClass f.kind then (s.event 0x4800 1 ((if parityClass f.kind then 1 else 2) + n)).storm else s.event 0x4800 1 ((if parityClass f.kind then 1 else 2) + n)

theorem hardwareFault_eq (s : State) (f : HwFault) : s.hardwareFault f =
    ((s.faultStruck f).chargeFault (chargeOf f)).1.faultFlagged f ((s.faultStruck f).chargeFault (chargeOf f)).2 := by
  unfold State.hardwareFault State.faultFlagged State.faultStruck
  cases h : s.struck f <;> simp only [State.faultNoted, State.faultRowed, State.faultPorted, State.faultRaised, State.faultWorded, State.faultEnds, h]

theorem faultNoted_frame (s : State) (f : HwFault) : Within (parts [.dict, .dtx, .clus]) (s.faultRowed f) (s.faultNoted f) := by
  unfold State.faultNoted State.faultWorded State.faultRaised State.faultPorted
  exact .ite (.setCluster rfl (.ite (.event rfl (.ite (.inc rfl .refl) .refl)) (.ite (.inc rfl .refl) .refl))) (.ite (.event rfl (.ite (.inc rfl .refl) .refl)) (.ite (.inc rfl .refl) .refl))

theorem faultRowed_frame (s : State) (f : HwFault) : Within (parts [.dict, .dtx, .flt]) s (s.faultRowed f) := .logRow rfl .refl

theorem faultNoted_rows (s : State) (f : HwFault) : Rows 1 s (s.faultNoted f) := by
  have h1 : Rows 1 s (s.faultRowed f) := .logRow
  have h2 : ∀ u : State, Rows 0 u (u.faultPorted f) := fun u => .ite (.wr (by decide) (.inr (by decide))) .refl
  have h3 : ∀ u : State, Rows 0 u (u.faultRaised f) := fun u => .ite (.event (by decide) (.inr (by decide))) .refl
  have h4 : ∀ u : State, Rows 0 u (u.faultWorded f) := fun u => .ite (.of_within (l := parts [.clus]) (.setCluster rfl .refl) rfl) .refl
  exact ((h1.then_none (h2 _)).then_none (h3 _)).then_none (h4 _)

/-- A fault's flags, and PARITY_STORM below its threshold. -/
theorem faultFlagged_spec (hw : Map.wf s.dict = true) (hp : s.tamp.parity.length < 63) (n : Nat) :
    (s.faultFlagged f n).rd 0x4800 1 = eventAdd (s.rd 0x4800 1) ((if parityClass f.kind then 1 else 2) + n) ∧
      (∀ i a, a < 256 → i ≠ 0x4800 ∨ a ≠ 1 → (s.faultFlagged f n).rd i a = s.rd i a) ∧ Within (parts [.dict, .dtx, .tamp]) s (s.faultFlagged f n) := by
  have hev : Within (parts [.dict, .dtx]) s (s.event 0x4800 1 ((if parityClass f.kind then 1 else 2) + n)) := .event rfl .refl
  have hself : (s.event 0x4800 1 ((if parityClass f.kind then 1 else 2) + n)).rd 0x4800 1 = eventAdd (s.rd 0x4800 1) ((if parityClass f.kind then 1 else 2) + n) :=
    rd_event_self hw _ _ _
  have hother : ∀ i a, a < 256 → i ≠ 0x4800 ∨ a ≠ 1 → (s.event 0x4800 1 ((if parityClass f.kind then 1 else 2) + n)).rd i a = s.rd i a := fun i a ha h =>
    State.rd_wr_of_sub _ (by decide) ha h
  unfold State.faultFlagged
  revert hev hself hother
  generalize (if parityClass f.kind then 1 else 2) + n = g
  generalize s.event 0x4800 1 g = v
  intro hev hself hother
  have htamp : v.tamp = s.tamp := hev.same .tamp rfl
  split
  · rw [storm_quiet (htamp ▸ hp)]
    exact ⟨hself, hother, .set rfl rfl (hev.mono rfl)⟩
  · exact ⟨hself, hother, hev.mono rfl⟩

theorem eventAdd_count (v n : Nat) : eventAdd v n / 256 = (v / 256 + 1) % 2 ^ 24 := by
  have hlt : orFlags (v % 256) n < 2 ^ 8 := BitVec.isLt _
  unfold eventAdd
  omega

theorem struck_running (h : s.struck f = some x) : s.findJob x.ref = some x ∧ x.state = .running := by
  have key : ∀ r : JobRef, (s.findJob r).filter Job.running = some x → s.findJob x.ref = some x ∧ x.state = .running := fun r hr => by
    obtain ⟨hf, hrun⟩ := Option.filter_eq_some_iff.1 hr
    rw [State.ref_of_findJob hf]
    exact ⟨hf, beq_iff_eq.1 hrun⟩
  unfold State.struck at h
  split at h
  · cases h
  · split at h
    · exact key _ h
    · cases h
  · split at h
    · exact key _ h
    · cases h

theorem faultStatus_cached (f : HwFault) : uncached (faultStatus f).1 = false := by
  unfold faultStatus
  split <;> rfl

theorem chargeOf_port (hf : faultFits f = true) (p : Nat) (h : chargeOf f = .port p) : p < 4 := by
  unfold chargeOf at h
  unfold faultFits at hf
  split at h
  · cases h
  · cases h
  · next hk =>
    rw [hk] at hf
    cases h
    exact of_decide_eq_true hf
  · split at h
    · cases h
    · split at h <;> cases h
  · cases h

/-! ### An engine or a port is fenced (R449) -/

/-- The log holds a row of this kind for the unit. -/
def RowOf (t : State) (kind : Nat) (row : Nat × Nat × Nat) (datum seq : Nat) : Prop :=
  ∃ e ∈ t.flt.log, e.kind = kind ∧ e.unitType = row.1 ∧ e.cluster = row.2.1 ∧ e.unit = row.2.2 ∧ e.datum = datum ∧ seq < e.seq

theorem RowOf.mono {kind seq seq' datum : Nat} {row : Nat × Nat × Nat} (h : RowOf s kind row datum seq) (hs : seq' ≤ seq) (hp : s.flt.log <+: t.flt.log) :
    RowOf t kind row datum seq' := by
  obtain ⟨e, he, h1, h2, h3, h4, h5, h6⟩ := h
  exact ⟨e, hp.mem he, h1, h2, h3, h4, h5, Nat.lt_of_le_of_lt hs h6⟩

theorem rowOf_logRow {kind a b c d e g : Nat} : RowOf (s.logRow kind a b c d e g) kind (a, b, c) s.clk.datum s.flt.seq :=
  ⟨_, log_logRow s _ _ _ _ _ _ _ ▸ List.mem_append_right _ (List.mem_singleton_self _), rfl, rfl, rfl, rfl, rfl, Nat.lt_succ_self _⟩

theorem fenceUnits_one {e : Nat} {row : Nat × Nat × Nat} {owner le : Bool} (hj : (s.engine e).job = none) : ((s.fenceUnits [e] row owner le).engine e).fenced = true ∧
    RowOf (s.fenceUnits [e] row owner le) 4 row s.clk.datum s.flt.seq := by
  unfold State.fenceUnits
  extract_lets t₁ t₂
  have ht₁ : t₁ = s.fenceEngine e owner := rfl
  have hf : (t₁.engine e).fenced = true := by
    rw [ht₁, State.fenceEngine, engine_setEngine_self]
    simp [hj]
  have hlog : EnginesKeep t₁ t₂ := .of_within (k := parts [.dict, .dtx, .flt]) (.logRow rfl .refl) rfl
  have hrow : RowOf t₂ 4 row s.clk.datum s.flt.seq := rowOf_logRow
  have hle : EnginesKeep t₂ (if le then t₂.event (0x2000 + row.2.1) 7 16 else t₂) := .ite (.of_within (k := parts [.dict, .dtx]) (.event rfl .refl) rfl) (.of_units rfl)
  have hflt : (if le then t₂.event (0x2000 + row.2.1) 7 16 else t₂).flt = t₂.flt := by split <;> rfl
  have hreb : Within (parts [.dict, .dtx, .units]) (if le then t₂.event (0x2000 + row.2.1) 7 16 else t₂)
      (State.rebalanceFrom s (if le then t₂.event (0x2000 + row.2.1) 7 16 else t₂) true) := .rebalanceFrom rfl .refl
  refine ⟨(EnginesKeep.rebalanceFrom e).2 ((hle e).2 ((hlog e).2 hf)), hrow.mono (le_refl _) ?_⟩
  have hlast : (State.rebalanceFrom s (if le then t₂.event (0x2000 + row.2.1) 7 16 else t₂) true).flt = t₂.flt := (hreb.same .flt rfl).trans hflt
  rw [hlast]

theorem chargeFault_fences {e : Nat} (hj : (s.engine e).job = none) (hf : (s.engine e).fencing = false) (h3 : 3 ≤ (s.recent (s.engine e).faults).length) :
    (((s.chargeFault (.engine e)).1.engine e).fenced = true ∧ RowOf (s.chargeFault (.engine e)).1 4 (chargedRow (.engine e)) s.clk.datum s.flt.seq) ∧
      (s.chargeFault (.engine e)).2 = 4 := by
  have hn : ¬ ((s.recent (s.engine e).faults).length < 3 ∨ (s.engine e).fencing = true) := fun h => h.elim (by omega) (by rw [hf]; decide)
  rw [chargeFault_engine, if_neg hn]
  have hj' : ((s.engineCharged e).engine e).job = none := by
    rw [State.engineCharged, engine_setEngine_self]
    exact hj
  exact ⟨fenceUnits_one hj', rfl⟩

theorem fencePort_spec (hw : Map.wf s.dict = true) {p : Nat} (hp : p < 4) : p ∈ (s.fencePort p).flt.portFenced ∧ (s.fencePort p).rd (0x1400 + p) 0x10 = 3 ∧
    RowOf (s.fencePort p) 4 (8, 0xFF, p) s.clk.datum s.flt.seq := by
  rw [fencePort_eq]
  have hl : (s.portLost p).rd (0x1400 + p) 0x10 = 3 := by
    unfold State.portLost
    split
    · exact (State.portDown_down hp hw (st := 3) (by decide)).2.1
    · exact State.rd_wr_self hw _ _ _
  have hrows : Rows 16 s (s.portLost p) := .ite (Rows.portDown hp) (.wr (by decide) (.inl (by omega)))
  have hwin : Within (parts [.dict, .dtx, .ports, .ptp, .tx, .waits, .chans, .tenants, .flt]) s (s.portLost p) := .ite (.portDown rfl .refl) (.wr rfl .refl)
  have hclk : (s.portLost p).clk = s.clk := hwin.same .clk rfl
  revert hl hrows hclk
  generalize s.portLost p = u
  intro hl hrows hclk
  have hm : p ∈ (u.portMarked p).flt.portFenced := by
    show p ∈ if u.flt.portFenced.contains p then u.flt.portFenced else u.flt.portFenced ++ [p]
    split
    · next h => exact List.contains_iff_mem.1 h
    · simp
  have hr : (u.portMarked p).rd (0x1400 + p) 0x10 = 3 := hl
  have hc : (u.portMarked p).clk = s.clk := hclk
  have hs : s.flt.seq ≤ (u.portMarked p).flt.seq := hrows.seq
  revert hm hr hc hs
  generalize u.portMarked p = v
  intro hm hr hc hs
  refine ⟨?_, ?_, ?_⟩
  · have hf : (v.logRow 4 8 0xFF p 0xFF 0 0).flt.portFenced = v.flt.portFenced := by
      unfold State.logRow
      dsimp only
      split <;> rfl
    rw [hf]
    exact hm
  · have ht : Touches (fun i => i = 0x4800) v (v.logRow 4 8 0xFF p 0xFF 0 0) := Touches.refl.logRow rfl
    exact (ht.rd _ _ (by decide) (by omega)).trans hr
  · have h := rowOf_logRow (s := v) (kind := 4) (a := 8) (b := 0xFF) (c := p) (d := 0xFF) (e := 0) (g := 0)
    rw [hc] at h
    exact h.mono hs List.prefix_rfl

theorem chargeFault_fencesPort (hw : Map.wf s.dict = true) {p : Nat} (hp : p < 4) (hf : s.flt.portFenced.contains p = false)
    (h3 : 3 ≤ (s.recent (Map.getD s.flt.portFaults p [])).length) : p ∈ (s.chargeFault (.port p)).1.flt.portFenced ∧ (s.chargeFault (.port p)).1.rd (0x1400 + p) 0x10 = 3 ∧
      RowOf (s.chargeFault (.port p)).1 4 (8, 0xFF, p) s.clk.datum s.flt.seq := by
  have hn : ¬ ((s.recent (Map.getD s.flt.portFaults p [])).length < 3 ∨ s.flt.portFenced.contains p = true) := fun h => h.elim (by omega) (by rw [hf]; decide)
  rw [chargeFault_port, if_neg hn]
  exact fencePort_spec (s := s.portCharged p) hw hp

/-! ### The whole fault -/

/-- What holds once the struck job's attempt is over. -/
theorem faultStruck_kept (hw : Map.wf s.dict = true) (hc : Calm s) (f : HwFault) (hl : s.flt.log.length < 4000) :
    Map.wf (s.faultStruck f).dict = true ∧ (s.faultStruck f).clk = s.clk ∧ (s.faultStruck f).tamp = s.tamp ∧ s.flt.seq ≤ (s.faultStruck f).flt.seq ∧
      (s.faultNoted f).flt.log <+: (s.faultStruck f).flt.log ∧ (s.faultStruck f).flt.log.length ≤ s.flt.log.length + 2 ∧ (s.faultStruck f).rd 0x4800 1 = s.rd 0x4800 1 := by
  have hn := faultNoted_rows s f
  have hnw : Within (parts [.dict, .dtx, .clus, .flt]) s (s.faultNoted f) := ((faultRowed_frame s f).mono rfl).trans ((faultNoted_frame s f).mono rfl)
  have hcn : Calm (s.faultNoted f) := hc.congr (hnw.same .chans rfl) (hnw.same .tenants rfl)
  obtain ⟨n1, n2, n3⟩ := hn.log (by omega)
  unfold State.faultStruck
  split
  · next x hx =>
    obtain ⟨hfx, hsx⟩ := struck_running hx
    have hfn : (s.faultNoted f).findJob x.ref = some x := (State.findJob_congr (hnw.same .jobs rfl) _).trans hfx
    have hfw : Within (ending ||| parts [.flt]) (s.faultNoted f) ((s.faultNoted f).faultJob x (if f.unit < 2048 then some f.unit else none) (chargedRow (chargeOf f))
        (faultStatus f).1 (faultStatus f).2) := .faultJob rfl .refl
    obtain ⟨k1, k2, k3⟩ := faultJob_kept (hn.wf hw) hcn hfn hsx (faultStatus_cached f) (unit := if f.unit < 2048 then some f.unit else none) (row := chargedRow (chargeOf f))
      (detail := (faultStatus f).2)
    obtain ⟨k4, k5, k6⟩ := k3 (by omega)
    exact ⟨k1 (hn.wf hw), (hfw.same .clk rfl).trans (hnw.same .clk rfl), (hfw.same .tamp rfl).trans (hnw.same .tamp rfl), hn.seq.trans k2, k4, by omega, k6.trans (n3 1 (by decide))⟩
  · exact ⟨hn.wf hw, hnw.same .clk rfl, hnw.same .tamp rfl, hn.seq, List.prefix_rfl, by omega, n3 1 (by decide)⟩

theorem faultRowed_ports (s : State) (f : HwFault) : (s.faultRowed f).flt.portFenced = s.flt.portFenced ∧ (s.faultRowed f).flt.portFaults = s.flt.portFaults := by
  unfold State.faultRowed State.logRow
  dsimp only
  split <;> exact ⟨rfl, rfl⟩

/-- A port's fault strikes no job. -/
theorem struck_port {p : Nat} (h : chargeOf f = .port p) : s.struck f = none := by
  unfold chargeOf at h
  unfold State.struck
  split at h
  · cases h
  · cases h
  · next hk => rw [hk]
  · split at h
    · cases h
    · split at h <;> cases h
  · cases h

/-- Settles O43. -/
theorem hardwareFaultsComplete : Obligations.HardwareFaultsComplete := by
  unfold Obligations.HardwareFaultsComplete
  intro s f hr hfit hp hl hw hc row st
  have hx : exec (.hardwareFault f) s = .next (s.hardwareFault f) := when_of_true (by rw [hr, hfit]; rfl)
  refine ⟨_, hx, ?_⟩
  rw [hardwareFault_eq]
  have hnw : Within (parts [.dict, .dtx, .clus, .flt]) s (s.faultNoted f) := ((faultRowed_frame s f).mono rfl).trans ((faultNoted_frame s f).mono rfl)
  have hn := faultNoted_rows s f
  obtain ⟨-, hnl, hnr⟩ := hn.log (by omega)
  have hcn : Calm (s.faultNoted f) := hc.congr (hnw.same .chans rfl) (hnw.same .tenants rfl)
  obtain ⟨k1, k2, k3, k4, k5, k6, k7⟩ := faultStruck_kept hw hc f hl
  -- the fault's own row
  have hrow : RowOf (s.faultStruck f) (faultRow f.kind) row s.clk.datum s.flt.seq := by
    have h0 : RowOf (s.faultRowed f) (faultRow f.kind) row s.clk.datum s.flt.seq := rowOf_logRow
    have h1 : (s.faultNoted f).flt = (s.faultRowed f).flt := (faultNoted_frame s f).same .flt rfl
    exact (h0.mono (le_refl _) (h1 ▸ List.prefix_rfl)).mono (t := s.faultStruck f) (le_refl _) k5
  -- what the charge leaves
  obtain ⟨hk, hflag⟩ := chargeFault_keeps (s := s.faultStruck f) (c := chargeOf f) fun p => chargeOf_port hfit p
  obtain ⟨c1, c2, c3⟩ := hk.rows.log (by omega)
  obtain ⟨g1, g2, g3⟩ := faultFlagged_spec (f := f) (hk.rows.wf k1) (by rw [hk.tamp, k3]; exact hp) ((s.faultStruck f).chargeFault (chargeOf f)).2
  have hflt : (((s.faultStruck f).chargeFault (chargeOf f)).1.faultFlagged f ((s.faultStruck f).chargeFault (chargeOf f)).2).flt = ((s.faultStruck f).chargeFault (chargeOf f)).1.flt :=
    g3.same .flt rfl
  have hlast : ∀ kind row seq, RowOf ((s.faultStruck f).chargeFault (chargeOf f)).1 kind row s.clk.datum seq → s.flt.seq ≤ seq →
      RowOf (((s.faultStruck f).chargeFault (chargeOf f)).1.faultFlagged f ((s.faultStruck f).chargeFault (chargeOf f)).2) kind row s.clk.datum s.flt.seq :=
    fun kind row seq h hs => h.mono hs (hflt ▸ List.prefix_rfl)
  have hbits : ∀ m ∈ [0, 4], bitAt ((if parityClass f.kind then 1 else 2) + m) (if parityClass f.kind then 0 else 1) = true := by
    cases parityClass f.kind <;> decide
  refine ⟨hlast _ _ _ (hrow.mono (le_refl _) c1) (le_refl _), ?_, ?_, fun x hx h1 h2 => ?_, fun e he hj hs hfe h3 => ?_, fun p hpt hf h3 => ?_⟩
  · rw [g1, eventAdd_count, c3 1 (by decide), k7]
  · rw [g1, bitAt_eventAdd _ _ (by split <;> decide), hbits _ hflag, Bool.or_true]
  · obtain ⟨hfx, hsx⟩ := struck_running hx
    have hfn : (s.faultNoted f).findJob x.ref = some x := (State.findJob_congr (hnw.same .jobs rfl) _).trans hfx
    have hlat : ∀ ev, (s.faultNoted f).latchedOn x ev = s.latchedOn x ev := fun ev => by
      unfold State.latchedOn
      simp only [engine_congr (hnw.same .units rfl)]
    have hst : s.faultStruck f = (s.faultNoted f).faultJob x (if f.unit < 2048 then some f.unit else none) row st.1 st.2 := by
      unfold State.faultStruck
      rw [hx]
    have hlat1 := (hlat 1).trans h1
    have hlat2 := (hlat 2).trans h2
    have hrd : ∀ a, a < 4 → a ≠ 1 → (((s.faultStruck f).chargeFault (chargeOf f)).1.faultFlagged f ((s.faultStruck f).chargeFault (chargeOf f)).2).rd 0x4800 a =
        (s.faultStruck f).rd 0x4800 a := fun a ha h => (g2 _ _ (by omega) (.inr h)).trans (c3 a ha)
    have hfind : Unsuspended (s.faultStruck f) x.ref →
        (((s.faultStruck f).chargeFault (chargeOf f)).1.faultFlagged f ((s.faultStruck f).chargeFault (chargeOf f)).2).findJob x.ref = (s.faultStruck f).findJob x.ref :=
      fun hu => (State.findJob_congr (g3.same .jobs rfl) _).trans (hk.findJob _ hu)
    have heng : ∀ e, (((s.faultStruck f).chargeFault (chargeOf f)).1.faultFlagged f ((s.faultStruck f).chargeFault (chargeOf f)).2).engine e =
        ((s.faultStruck f).chargeFault (chargeOf f)).1.engine e := engine_congr (g3.same .units rfl)
    refine ⟨fun hret => ?_, fun hret hkind => ?_⟩
    · have hre : s.faultStruck f = (s.faultNoted f).retryJob x (if f.unit < 2048 then some f.unit else none) := by
        rw [hst, State.faultJob, hlat1, hlat2, hret]
        rfl
      obtain ⟨⟨q1, q2⟩, q3, q4, -, -, -, q5⟩ := retryJob_spec (hn.wf hw) hfn (by rw [hsx]; decide) (if f.unit < 2048 then some f.unit else none)
      rw [← hre] at q1 q2 q3 q4 q5
      refine ⟨⟨by rw [hfind q5]; exact q1, fun e he hj => ?_⟩, ?_, by rw [hfind q5]; exact q4⟩
      · rw [heng] at hj
        rcases (hk.engines e).1 with hc | hc
        · exact q2 e he (hc.symm.trans hj)
        · rw [hc] at hj
          cases hj
      · rw [hrd 2 (by decide) (by decide), q3, hnr 2 (by decide)]
    · obtain ⟨q1, q2, q3, q4⟩ := secondFault_spec (hn.wf hw) hcn hfn hsx (faultStatus_cached f) hlat1 hlat2 hret (unit := if f.unit < 2048 then some f.unit else none)
        (row := row) (detail := st.2)
      rw [← hst] at q1 q2 q3 q4
      refine ⟨?_, ?_, ?_⟩
      · obtain ⟨y, hy, hrest⟩ := q1 hkind
        exact ⟨y, (hfind q4).trans hy, hrest⟩
      · rw [hrd 3 (by decide) (by decide), q2 (by omega), hnr 3 (by decide)]
      · have hclk : (s.faultNoted f).clk = s.clk := hnw.same .clk rfl
        rw [hclk] at q3
        have q3' : RowOf (s.faultStruck f) 10 row s.clk.datum (s.faultNoted f).flt.seq := q3
        exact hlast _ _ _ (q3'.mono (le_refl _) c1) hn.seq
  · have hst : s.faultStruck f = s.faultNoted f := by
      unfold State.faultStruck
      rw [hs]
    have hue : (s.faultNoted f).engine e = s.engine e := engine_congr (hnw.same .units rfl) e
    have hrec : ∀ ts, (s.faultNoted f).recent ts = s.recent ts := fun ts => by
      have hclk : (s.faultNoted f).clk = s.clk := hnw.same .clk rfl
      rw [State.recent, hclk, State.recent]
    have hclk : (s.faultNoted f).clk = s.clk := hnw.same .clk rfl
    obtain ⟨⟨e1, e2⟩, e3⟩ := chargeFault_fences (s := s.faultNoted f) (e := e) (by rw [hue]; exact hj) (by rw [hue]; exact hfe) (by rw [hue, hrec]; exact h3)
    rw [hclk, ← hst, ← he] at e2
    rw [← hst, ← he] at e1 e3
    refine ⟨?_, ?_, ?_⟩
    · rw [engine_congr (g3.same .units rfl)]
      exact e1
    · rw [g1, bitAt_eventAdd _ _ (by decide), e3]
      have h4 : bitAt ((if parityClass f.kind then 1 else 2) + 4) 2 = true := by cases parityClass f.kind <;> decide
      rw [h4, Bool.or_true]
    · exact hlast _ _ _ e2 (hst ▸ k4)
  · have hp4 := chargeOf_port hfit p hpt
    have hst : s.faultStruck f = s.faultNoted f := by
      unfold State.faultStruck
      rw [struck_port hpt]
    have hflt' : (s.faultNoted f).flt = (s.faultRowed f).flt := (faultNoted_frame s f).same .flt rfl
    obtain ⟨l1, l2⟩ := faultRowed_ports s f
    have hclk : (s.faultNoted f).clk = s.clk := hnw.same .clk rfl
    have hrec : ∀ ts, (s.faultNoted f).recent ts = s.recent ts := fun ts => by rw [State.recent, hclk, State.recent]
    obtain ⟨e1, e2, e3⟩ := chargeFault_fencesPort (s := s.faultNoted f) (hn.wf hw) hp4 (by rw [hflt', l1]; exact hf) (by rw [hrec, hflt', l2]; exact h3)
    rw [← hst, ← hpt] at e1 e2
    rw [hclk, ← hst, ← hpt] at e3
    refine ⟨?_, ?_, hlast 4 (8, 0xFF, p) _ e3 k4⟩
    · rw [hflt]
      exact e1
    · exact (g2 _ _ (by decide) (.inr (by decide))).trans e2

end Machine
end Sys2Proof
end

section
/-! Owner kernels: the run of microwords, the cost limit, and the commit of an image (R229, R232, R238, R240, R243, R246). -/
namespace Sys2Proof
namespace Machine

variable {s t u : State}  {r : JobRef} {x : Job} {k : Kernel} {e n v status detail cl : Nat} {out : Bytes} {c : RunWork} {first : Bool}

/-! ### An engine once its job has ended -/

theorem Calm.les_settle (h : Calm s) : s.settle.les = s.les :=
  (h.within_settle (l := Machine.parts [.keys, .ent]) rfl .refl).same .les rfl

theorem le_clearLe_job (s : State) (e : Nat) : ((s.clearLe e).le e).job = none := by
  rw [State.clearLe]
  dsimp only
  rw [State.le_setLe_self]
  rfl

theorem le_leEnd_job (he : (s.le e).job = some r) : ((s.leEnd e status detail cl out).le e).job = none := by
  rw [State.leEnd, he]
  have hw : Within (Machine.parts [.units, .dict, .dtx, .tx, .waits, .chans, .jobs, .clus]) (s.clearLe e) (State.finish (if (s.findJob r).isSome ∧ isFaultStatus status then
      ((s.clearLe e).setEngine e ((s.clearLe e).engine e).leave).event (0x2000 + clusterOf e) 7 cl else (s.clearLe e).setEngine e ((s.clearLe e).engine e).leave)
      r status detail out none) := .finish rfl (.ite (.event rfl (.setEngine rfl .refl)) (.setEngine rfl .refl))
  exact (congrArg (fun m => Le.job (Map.getD m e leInit)) (hw.same .les rfl)).trans (le_clearLe_job s e)

section
variable (hb : t.Bears s r x) (hl : x.live = true) (hkind : x.kind = 0x1) (hu : uncached status = false) (he : (t.le e).job = some r)
include hb hl hkind hu he

theorem le_leDone_job : ((t.leDone e status detail cl out).le e).job = none := by
  have ha : ((t.accrueOn e).le e).job = some r := (t.job_accrueOn e).trans he
  have hc := ((hb.accrueOn he).leEnd hl hkind hu ha (detail := detail) (cl := cl) (out := out)).1
  rw [State.leDone, State.le, hc.les_settle]
  exact le_leEnd_job ha

/-- A job that ends at its engine in a state that has come of `s`: its completion, and nothing else of the block's. -/
theorem leDone_over (hw : Within finishing s t) : JobDone (t.leDone e status detail cl out) r status detail out x.key ∧
    JobFrame s (t.leDone e status detail cl out) r := by
  obtain ⟨-, hdone, hx⟩ := hb.leDone hl hkind hu he (detail := detail) (cl := cl) (out := out)
  exact ⟨hdone, (Within.leDone_of_calm hb hl hkind hu he hw).jobFrame hx⟩

end

/-! ### The microwords of a run -/

/-- The NOP of the nanostore (R268). -/
def nopNano : Nano := shape execNop 0 0 0 0 0 0 0 1

theorem nano_nop : nano 0 = some nopNano := rfl

theorem runKernel_zero (k : Kernel) (e : Nat) (r : JobRef) (first : Bool) (c : RunWork) (s : State) : runKernel k e r 0 first c s = (.next s, c) := rfl

/-- An engine that the job has left runs no further microword. -/
theorem runKernel_left (h : (s.le e).job ≠ some r) (n : Nat) : runKernel k e r n first c s = (.next s, c) := by
  cases n with
  | zero => exact runKernel_zero ..
  | succ n =>
    rw [runKernel]
    exact if_pos (.inl h)

/-- The run stops before a safe point that is not its first microword. -/
theorem runKernel_boundary (h : bitAt (k.word ((s.le e).regs.upc - k.base)) 46 = true) (n : Nat) : runKernel k e r n false c s = (.next s, c) := by
  cases n with
  | zero => exact runKernel_zero ..
  | succ n =>
    rw [runKernel]
    exact if_pos (.inr (.inr (.inl ⟨h, .inl rfl⟩)))

/-- The run stops before a safe point where an event is latched, unless that is an EXIT. -/
theorem runKernel_latched (hv : k.word ((s.le e).regs.upc - k.base) = v) (h : bitAt v 46 = true) (hs : mwSeq v ≠ 7) (hl : (s.engine e).latched ≠ []) (n : Nat) :
    runKernel k e r n first c s = (.next s, c) := by
  cases n with
  | zero => exact runKernel_zero ..
  | succ n =>
    rw [runKernel]
    exact if_pos (.inr (.inr (.inl ⟨hv ▸ h, .inr ⟨hl, by rw [hv]; simp [hs]⟩⟩)))

/-- The engine stands at a NOP of the kernel that issues: nothing is latched, no word is to be rewritten, and its one cycle is the table's. -/
structure AtNop (s : State) (k : Kernel) (e : Nat) (r : JobRef) (v : Nat) : Prop where
  word : k.word ((s.le e).regs.upc - k.base) = v
  job : (s.le e).job = some r
  owned : k.owns (s.le e).regs.upc = true
  latched : (s.engine e).latched = []
  sound : s.wordBad e = false
  nano : (s.cluster (clusterOf e)).badWords.contains (true, 0) = false
  nop : mwNano v = 0
  clean : s.nanoClean 0 = true
  cycle : s.nanoCycles 0 = 1
  wait : mwWait v = 0
  streams : Map.wf (s.le e).streams = true
  gated : s.clk.gated = false

/-- The NOP's microword, as it issues. -/
def State.nopMw (s : State) (e v : Nat) : Mw := s.mwOf e v nopNano

/-- The state once that NOP has issued. -/
def State.nopIssued (s : State) (e v : Nat) : State := s.setLe e ((s.le e).issued (bitAt v 47))

/-- The work of one NOP with its sequencing kind. -/
def RunWork.nop (w q : Nat) : RunWork := ⟨1, 1 + seqCost q, w, 0⟩

theorem Map.find_of_mem {α : Type} {p : Nat × α} : ∀ {m : Map α}, Map.wf m = true → p ∈ m → Map.find m p.1 = some p.2 := by
  have above : ∀ {m : Map α} {b : Nat}, Map.above b m = true → p ∈ m → b < p.1 ∧ Map.find m p.1 = some p.2 := by
    intro m
    induction m with
    | nil => exact fun _ h => absurd h List.not_mem_nil
    | cons q m ih =>
      intro b hb hp
      simp only [Map.above, Bool.and_eq_true, decide_eq_true_eq] at hb
      obtain ⟨hq, hm⟩ := hb
      rcases List.mem_cons.1 hp with rfl | hp
      · exact ⟨hq, if_pos rfl⟩
      · obtain ⟨hlt, hf⟩ := ih hm hp
        exact ⟨hq.trans hlt, (if_neg hlt.ne').trans hf⟩
  intro m hw hp
  cases m with
  | nil => exact absurd hp List.not_mem_nil
  | cons q m =>
    rcases List.mem_cons.1 hp with rfl | hp
    · exact if_pos rfl
    · obtain ⟨hlt, hf⟩ := above hw hp
      exact (if_neg hlt.ne').trans hf

theorem coreWork_self {l l' : Le} (h : l'.streams = l.streams) (hw : Map.wf l.streams = true) : coreWork l l' = 0 := by
  rw [coreWork, h]
  refine List.sum_eq_zero fun y hy => ?_
  obtain ⟨p, hp, rfl⟩ := List.mem_map.1 hy
  rw [Map.find_of_mem hw hp]
  exact Nat.sub_self _

theorem AtNop.run_nop (h : AtNop s k e r v) {sp : Bool} : nopNano.run { s.nopMw e v with safePoint := sp } s = .next (s.nopIssued e v) := by
  have hw : (BitVec.ofNat 4 (mwWait v)).toNat = 0 := by rw [h.wait]; rfl
  change issue s { s.nopMw e v with safePoint := sp } true false none true (fun t _ => .go t) = _
  refine issue_go (need := none) (secretOnly := false) (w := { s.nopMw e v with safePoint := sp }) ⟨?_, h.gated, h.sound, fun _ => h.latched, ?_, .inl rfl, ?_⟩ rfl (by simp) rfl rfl
  · exact fun hn => absurd (h.job.symm.trans hn) (by simp)
  · exact hw ▸ (by decide)
  · exact congrArg (waitHolds (s.le e) true) hw

/-- A NOP at the run's start issues, and its sequencing kind carries the run on. -/
theorem AtNop.runKernel_seq (h : AtNop s k e r v) (hu : runSeq (mwSeq v) { s.nopMw e v with wait := 0 } (s.nopIssued e v) = .next u) :
    runKernel k e r (n + 1) true ⟨0, 0, 0, 0⟩ s = runKernel k e r n false (.nop ((s.le e).waited - (s.le e).billed) (mwSeq v)) u := by
  have hg : ¬ ((s.le e).job ≠ some r ∨ (!k.owns (s.le e).regs.upc) = true ∨ (bitAt v 46 = true ∧ ((!true) = true ∨
      ((s.engine e).latched ≠ [] ∧ (!(mwSeq v == 7)) = true))) ∨ s.wordBad e = true ∨ (s.cluster (clusterOf e)).badWords.contains (true, mwNano v) = true) := by
    rw [h.nop]
    rintro (hc | hc | ⟨-, hc | hc⟩ | hc | hc)
    · exact hc h.job
    · exact absurd hc (by rw [h.owned]; decide)
    · exact absurd hc (by decide)
    · exact hc.1 h.latched
    · exact absurd hc (ne_true_of_eq_false h.sound)
    · exact absurd hc (ne_true_of_eq_false h.nano)
  have hcond : (mwSeq v == 7 && bitAt v 46 && (s.engine e).latched.any (fun y => y == 1 || y == 2)) = false := by rw [h.latched]; simp
  have hle : ((s.nopIssued e v).le e) = (s.le e).issued (bitAt v 47) := State.le_setLe_self _ _ _
  rw [runKernel]
  dsimp only
  rw [h.word, if_neg hg, if_pos (show s.nanoClean (mwNano v) = true by rw [h.nop]; exact h.clean), h.nop, nano_nop]
  dsimp only
  rw [if_neg (ne_true_of_eq_false hcond)]
  have hrun := h.run_nop (sp := (s.nopMw e v).safePoint && !(mwSeq v == 7))
  rw [State.nopMw] at hrun hu
  rw [hrun]
  dsimp only
  rw [hle, if_neg (fun hc => hc.2 rfl), if_neg (fun hc => hc h.job), hu]
  dsimp only
  rw [h.cycle, coreWork_self (l := s.le e) (l' := (s.le e).issued (bitAt v 47)) rfl h.streams]
  simp only [RunWork.nop, Nat.zero_add]

/-- The state once the NOP has stepped on to the next address. -/
def State.nopNext (s : State) (e v : Nat) : State :=
  s.setLe e { (s.le e).issued (bitAt v 47) with regs := { ((s.le e).issued (bitAt v 47)).regs with upc := (s.le e).regs.upc + 1 } }

theorem le_nopIssued (s : State) (e v : Nat) : (s.nopIssued e v).le e = (s.le e).issued (bitAt v 47) := State.le_setLe_self _ _ _

section
variable {w : Mw} (hj : (s.le w.le).job = some r) (hwait : (s.le w.le).waiting = none) (hg : s.clk.gated = false) (hs : s.wordBad w.le = false)
  (hl : (s.engine w.le).latched = []) (h0 : w.wait = 0)
include hj hwait hg hs hl h0

/-- An EXIT with a public count within the opcode's maximum ends the job with that many octets (R238). -/
theorem execExit_ends (ha : ((s.le w.le).areg (aIdx w.src2)).sec = false) (hm : ((s.le w.le).areg (aIdx w.src2)).val ≤ (s.le w.le).outMax) :
    execExit w s = .next (s.leDone w.le 0 0 0 ((s.le w.le).result ((s.le w.le).areg (aIdx w.src2)).val)) := by
  have h1 : (s.le w.le).waitsElsewhere w.wait.toNat = false := by rw [Le.waitsElsewhere, hwait]; rfl
  rw [execExit, hj, h1, hg, hs, hl, h0]
  exact (if_neg (ne_true_of_eq_false ha)).trans (if_neg (Nat.not_lt.2 hm))

/-- A sequencing kind that is legal takes the engine where its body says. -/
theorem sequence_goes {body : State → Le → Issue} (hb : body (s.setLe w.le ((s.le w.le).issued w.secret)) ((s.le w.le).issued w.secret) = .go t) :
    sequence s w true body = .next t := by
  have h1 : (s.le w.le).waitsElsewhere w.wait.toNat = false := by rw [Le.waitsElsewhere, hwait]; rfl
  have h2 : waitHolds (s.le w.le) true w.wait.toNat = true := by rw [h0]; rfl
  have h3 : ¬ ((!true) = true ∨ 7 ≤ w.wait.toNat) := by rw [h0]; decide
  rw [sequence, if_neg (by
      rintro (hc | hc | hc | hc | hc)
      exacts [absurd (hj.symm.trans hc) (by simp), absurd hc (ne_true_of_eq_false hg), absurd hc (ne_true_of_eq_false hs),
        absurd hc (ne_true_of_eq_false h1), hc.2 hl]),
    if_neg h3, h2, if_neg (by decide), hb]

end

/-- A transfer within a kernel's own words is allowed (R229). -/
theorem goTo_owned {l : Le} (hon : s.kernelOn l = some k) {a : Nat} (h3 : 0x3000 ≤ a) (hlt : a < 2 ^ 14) (ho : k.owns a = true) :
    goTo s e l a = .go (s.setLe e { l with regs := { l.regs with upc := a } }) := by
  rw [goTo, Nat.mod_eq_of_lt hlt, hon]
  exact if_pos ((if_neg (Nat.not_lt.2 h3)).trans ho)

section
variable (h : AtNop s k e r v)
include h

theorem AtNop.sound_issued : (s.nopIssued e v).wordBad e = false := by
  have hs := h.sound
  rw [State.wordBad] at hs ⊢
  rw [le_nopIssued]
  exact hs

theorem AtNop.exits (hq : mwSeq v = 7) (ha : ((s.le e).areg (aIdx (BitVec.ofNat 5 (mwSrc2 v)))).sec = false)
    (hm : ((s.le e).areg (aIdx (BitVec.ofNat 5 (mwSrc2 v)))).val ≤ (s.le e).outMax) :
    runSeq (mwSeq v) { s.nopMw e v with wait := 0 } (s.nopIssued e v) =
      .next ((s.nopIssued e v).leDone e 0 0 0 ((s.le e).result ((s.le e).areg (aIdx (BitVec.ofNat 5 (mwSrc2 v)))).val)) := by
  have hle := le_nopIssued s e v
  have hx := execExit_ends (s := s.nopIssued e v) (w := { s.nopMw e v with wait := 0 }) (r := r) (congrArg Le.job hle |>.trans h.job)
    (congrArg Le.waiting hle) h.gated h.sound_issued h.latched rfl (by dsimp only [State.nopMw, State.mwOf]; rw [hle]; exact ha)
    (by dsimp only [State.nopMw, State.mwOf]; rw [hle]; exact hm)
  dsimp only [State.nopMw, State.mwOf] at hx
  rw [hle] at hx
  rw [hq]
  exact hx

/-- A NEXT of the kernel's own words steps on (R226, R229). -/
theorem AtNop.steps (hj : s.findJob r = some x) (hk : x.kernel = some k) (hq : mwSeq v = 0) (hp : bitAt v 47 = false) (h3 : 0x3000 ≤ (s.le e).regs.upc)
    (hlt : (s.le e).regs.upc + 1 < 2 ^ 14) (ho : k.owns ((s.le e).regs.upc + 1) = true) :
    runSeq (mwSeq v) { s.nopMw e v with wait := 0 } (s.nopIssued e v) = .next (s.nopNext e v) := by
  have hle := le_nopIssued s e v
  have hon : State.kernelOn ((s.nopIssued e v).setLe e ((s.le e).issued (bitAt v 47))) ((s.le e).issued (bitAt v 47)) = some k := by
    have hf : ((s.nopIssued e v).setLe e ((s.le e).issued (bitAt v 47))).findJob r = some x := hj
    have hi : ((s.le e).issued (bitAt v 47)).job = some r := h.job
    rw [State.kernelOn, hi]
    dsimp only
    rw [hf]
    exact hk
  have hgo := goTo_owned (e := e) hon (a := (s.le e).regs.upc + 1) (by omega) hlt ho
  rw [State.setLe_setLe] at hgo
  have hx := sequence_goes (s := s.nopIssued e v) (w := { s.nopMw e v with wait := 0 }) (r := r) (t := s.nopNext e v)
    (body := fun t l => goTo t e l (l.regs.upc + 1)) (congrArg Le.job hle |>.trans h.job)
    (congrArg Le.waiting hle) h.gated h.sound_issued h.latched rfl (by
      dsimp only [State.nopMw, State.mwOf]
      rw [hle]
      refine hgo.trans (congrArg Issue.go ?_)
      rw [State.nopIssued, State.setLe_setLe]
      rfl)
  have hsec : (!(s.nopMw e v).secret) = true := by
    change (!(bitAt v 47)) = true
    rw [hp]
    rfl
  rw [hq]
  change sequence (s.nopIssued e v) { s.nopMw e v with wait := 0 } (!(s.nopMw e v).secret) (fun t l => goTo t e l (l.regs.upc + 1)) = _
  rw [hsec]
  exact hx

end

theorem result_octets (l : Le) (n : Nat) : l.result n = (List.range n).map fun i => BitVec.ofNat 8 (octetAt (Map.getD l.output (i / 9) 0) (i % 9)) :=
  List.map_congr_left fun i _ => BitVec.eq_of_toNat_eq (by rw [octetAt, BitVec.toNat_ofNat, BitVec.toNat_ofNat, show 2 ^ 8 = 256 from rfl, Nat.mod_mod])

/-! ### The charge of a run -/

/-- A state once the kernel's job has been charged this work more. -/
def State.charged (s : State) (r : JobRef) (w : Work) : State := s.drawn.charge r w

theorem Within.charged_drawn {w : Work} : Within (Machine.parts [.free, .jobs, .tenants]) s (s.charged r w) := .charge rfl (.drawn rfl .refl)

theorem le_charged (s : State) (r : JobRef) (w : Work) (e : Nat) : (s.charged r w).le e = s.le e := by
  exact congrArg (fun m => Map.getD m e leInit) ((Within.charged_drawn (s := s) (r := r) (w := w)).same .les rfl)

theorem AtNop.congr (h : AtNop s k e r v) (ht : Within (Machine.parts [.free, .jobs, .tenants]) s t) : AtNop t k e r v := by
  have hle : t.le e = s.le e := congrArg (fun m => Map.getD m e leInit) (ht.same .les rfl)
  have hen : t.engine e = s.engine e := congrArg (fun m => Map.getD m e engineInit) (ht.same .units rfl)
  have hcl : t.cluster (clusterOf e) = s.cluster (clusterOf e) := congrArg (fun m => Map.getD m (clusterOf e) clusterInit) (ht.same .clus rfl)
  have hkern : t.kern = s.kern := ht.same .kern rfl
  have hst : t.storeId = s.storeId := by
    rw [State.storeId, State.storeId, State.patchImage, State.patchImage, State.rd_congr (ht.same .dict rfl), hkern]
  have hna : t.nanoWord 0 = s.nanoWord 0 := by rw [State.nanoWord, State.nanoWord, hkern, hst]
  obtain ⟨h1, h2, h3, h4, h5, h6, h7, h8, h9, h10, h11, h12⟩ := h
  refine ⟨hle ▸ h1, hle ▸ h2, hle ▸ h3, hen ▸ h4, ?_, hcl ▸ h6, h7, ?_, ?_, h10, hle ▸ h11, ?_⟩
  · rw [State.wordBad, hcl, hle]
    exact h5
  · rw [State.nanoClean, hna]
    exact h8
  · rw [State.nanoCycles, hna]
    exact h9
  · exact (congrArg Clocks.gated (ht.same .clk rfl)).trans h12

theorem runCharge_nop (s : State) (w : Nat) {q : Nat} (hq : seqCost q = 0) : s.runCharge (.nop w q) = ⟨w + 1, 0, 0, 0⟩ := by
  rw [State.runCharge, RunWork.nop, hq, show s.draw % (1 + 0 - 1 + 1) = 0 from Nat.mod_one _]

theorem spent_iff {w : Work} : k.spent x w = true ↔ k.cost.2.le ≤ x.charged.le + w.le ∨ (0 < x.charged.hc + w.hc ∧ k.cost.2.hc ≤ x.charged.hc + w.hc) := by
  rw [Kernel.spent]
  simp only [Bool.or_eq_true, Bool.and_eq_true, decide_eq_true_eq]

/-- Work of the engine alone that stays under the header's worst cost. -/
theorem spent_below {n : Nat} (h : x.charged.le + n < k.cost.2.le) (hc : x.charged.hc = 0 ∨ x.charged.hc < k.cost.2.hc) : k.spent x ⟨n, 0, 0, 0⟩ = false := by
  refine Bool.eq_false_iff.2 fun hs => ?_
  rcases spent_iff.1 hs with hs | ⟨h0, hs⟩
  · exact absurd hs (Nat.not_le.2 h)
  · exact hc.elim (fun hz => absurd h0 (by simp [hz])) fun hlt => absurd hs (Nat.not_le.2 hlt)

theorem kernelJob_spec (h : s.kernelJob r = some (x, k, e)) : s.findJob r = some x ∧ x.kernel = some k ∧ x.state = .running ∧ s.clk.gated = false := by
  unfold State.kernelJob at h
  split at h
  next y hy =>
    split at h
    next k' hk' =>
      split at h
      next hc =>
        obtain ⟨rfl, hke⟩ := Prod.mk.inj (Option.some.inj h)
        obtain ⟨rfl, -⟩ := Prod.mk.inj hke
        exact ⟨hy, hk', hc.1, by simpa using hc.2⟩
      · cases h
    · cases h
  · cases h

section
variable (hk : s.kernelJob r = some (x, k, e))
include hk

theorem ownerKernelJob_spent (h : ∀ w, k.spent x w = true) : ∃ w, exec (.ownerKernelJob r) s = .next ((s.charged r w).leDone e 0x54 0 0 []) := by
  rw [exec_ownerKernelJob, execOwnerKernelJob, hk]
  exact ⟨_, if_pos (h _)⟩

theorem ownerKernelJob_runs (h : (runKernel k e r 16385 true ⟨0, 0, 0, 0⟩ s.drawn).2 = c) (hs : k.spent x (s.runCharge c) = false) :
    exec (.ownerKernelJob r) s = (runKernel k e r 16385 true ⟨0, 0, 0, 0⟩ (s.charged r ((s.runCharge c).min (k.cost.2.sub x.charged)))).1 := by
  rw [exec_ownerKernelJob, execOwnerKernelJob, hk]
  dsimp only
  rw [h, if_neg (ne_true_of_eq_false hs)]
  rfl

/-- The job's charge once the run is charged. -/
theorem findJob_charged (w : Work) : (s.charged r w).findJob r = some (x.chargedWith w) :=
  (State.charge_jobs (s := s.drawn) (kernelJob_spec hk).1).1

theorem costLimit_spent (hl : k.cost.2.le ≤ x.charged.le + s.pathLeft e) :
    ∃ w, exec (.ownerKernelCostLimit r) s = .next ((s.charge r w).leDone e 0x54 0 0 []) := by
  rw [exec_ownerKernelCostLimit, execOwnerKernelCostLimit, hk]
  exact ⟨_, when_of_true (by rw [decide_eq_true hl, Bool.true_or])⟩

theorem costLimit_within (hl : x.charged.le + s.pathLeft e < k.cost.2.le) (hs : (s.le e).streams = []) : exec (.ownerKernelCostLimit r) s = .next s := by
  rw [exec_ownerKernelCostLimit, execOwnerKernelCostLimit, hk]
  exact when_of_false (by rw [decide_eq_false (Nat.not_le.2 hl), hs]; rfl)

theorem charged_bears (hcalm : Calm s) (w : Work) : (s.charged r w).Bears s r x :=
  State.Bears.charge ((hcalm.bears (kernelJob_spec hk).1).congr (u := s.drawn) rfl rfl rfl)

/-- A run that starts at a NOP: what it comes to, once the NOP's sequencing kind ends it. -/
theorem ownerKernelJob_nop (hcalm : Calm s) (hq : seqCost (mwSeq v) = 0) (hlt : x.charged.le + ((s.le e).waited - (s.le e).billed) + 2 < k.cost.2.le)
    (hhc : x.charged.hc = 0 ∨ x.charged.hc < k.cost.2.hc) {f : State → State}
    (hf : ∀ u, Within (Machine.parts [.free, .jobs, .tenants]) s u → u.Bears s r x →
      (∃ x', u.findJob r = some x' ∧ x'.kernel = some k) → runKernel k e r 16385 true ⟨0, 0, 0, 0⟩ u =
        (.next (f u), .nop ((s.le e).waited - (s.le e).billed) (mwSeq v))) :
    exec (.ownerKernelJob r) s = .next (f (s.charged r ⟨(s.le e).waited - (s.le e).billed + 1, 0, 0, 0⟩)) := by
  obtain ⟨hj, hker, -, -⟩ := kernelJob_spec hk
  have hc := runCharge_nop s ((s.le e).waited - (s.le e).billed) hq
  have hex := ownerKernelJob_runs hk (congrArg Prod.snd (hf s.drawn (.drawn rfl .refl) ((hcalm.bears hj).congr rfl rfl rfl) ⟨x, hj, hker⟩))
    (hc ▸ spent_below (by omega) hhc)
  rw [hc, hf _ Within.charged_drawn (charged_bears hk hcalm _) ⟨_, findJob_charged hk _, hker⟩] at hex
  have hmin : Work.min ⟨(s.le e).waited - (s.le e).billed + 1, 0, 0, 0⟩ (k.cost.2.sub x.charged) = ⟨(s.le e).waited - (s.le e).billed + 1, 0, 0, 0⟩ := by
    have hle : min ((s.le e).waited - (s.le e).billed + 1) (k.cost.2.le - x.charged.le) = (s.le e).waited - (s.le e).billed + 1 := by omega
    simp [Work.min, Work.sub, hle]
  rw [hmin] at hex
  exact hex

/-- An event latched at the safe point where the run would start stops it there, and nothing is charged (R232). -/
theorem ownerKernelJob_stops (hv : k.word ((s.le e).regs.upc - k.base) = v) (hlt : x.charged.le < k.cost.2.le)
    (hhc : x.charged.hc = 0 ∨ x.charged.hc < k.cost.2.hc) (h46 : bitAt v 46 = true) (hq : mwSeq v ≠ 7) (hl : (s.engine e).latched ≠ []) :
    GoesTo (exec (.ownerKernelJob r) s) fun t => t.les = s.les ∧ ∃ x', t.findJob r = some x' ∧ x'.state = .running ∧ x'.charged = x.charged := by
  have hrun : ∀ u : State, u.le e = s.le e → u.engine e = s.engine e → runKernel k e r 16385 true ⟨0, 0, 0, 0⟩ u = (.next u, ⟨0, 0, 0, 0⟩) := fun u hle hen =>
    runKernel_latched (by rw [hle]; exact hv) h46 hq (by rw [hen]; exact hl) 16385
  have hc : s.runCharge ⟨0, 0, 0, 0⟩ = ⟨0, 0, 0, 0⟩ := by
    rw [State.runCharge, show s.draw % (0 - 0 + 1) = 0 from Nat.mod_one _]
    rfl
  have hex := ownerKernelJob_runs hk (c := ⟨0, 0, 0, 0⟩) (by rw [hrun s.drawn rfl rfl]) (hc ▸ spent_below (by simpa using hlt) hhc)
  rw [hc] at hex
  have hw := Within.charged_drawn (s := s) (r := r) (w := Work.min ⟨0, 0, 0, 0⟩ (k.cost.2.sub x.charged))
  rw [hrun _ (le_charged s r _ e) (congrArg (fun m => Map.getD m e engineInit) (hw.same .units rfl))] at hex
  refine ⟨_, hex, hw.same .les rfl, _, findJob_charged hk _, (kernelJob_spec hk).2.2.1, ?_⟩
  simp [Job.chargedWith, Work.add, Work.min]

/-- A NOP with NEXT steps on to the safe point after it, charged its cycle and what the engine has waited. -/
theorem ownerKernelJob_steps (hcalm : Calm s) (h : AtNop s k e r v) (hq : mwSeq v = 0) (hlt : x.charged.le + ((s.le e).waited - (s.le e).billed) + 2 < k.cost.2.le)
    (hhc : x.charged.hc = 0 ∨ x.charged.hc < k.cost.2.hc) (hp : bitAt v 47 = false) (h3 : 0x3000 ≤ (s.le e).regs.upc)
    (hup : (s.le e).regs.upc + 1 < 2 ^ 14) (ho : k.owns ((s.le e).regs.upc + 1) = true) (h46 : bitAt (k.word ((s.le e).regs.upc + 1 - k.base)) 46 = true) :
    GoesTo (exec (.ownerKernelJob r) s) fun t => (t.le e).regs.upc = (s.le e).regs.upc + 1 ∧ (t.le e).job = some r ∧
      ∃ x', t.findJob r = some x' ∧ x'.state = .running ∧ x'.charged.le = x.charged.le + ((s.le e).waited - (s.le e).billed) + 1 := by
  have hnext : ∀ u : State, (u.nopNext e v).le e =
      { (u.le e).issued (bitAt v 47) with regs := { ((u.le e).issued (bitAt v 47)).regs with upc := (u.le e).regs.upc + 1 } } := fun u => State.le_setLe_self _ _ _
  have hex := ownerKernelJob_nop hk hcalm (by rw [hq]; rfl) hlt hhc (f := fun u => u.nopNext e v) fun u hw _ ⟨x', hx', hk'⟩ => by
    have hle : u.le e = s.le e := congrArg (fun m => Map.getD m e leInit) (hw.same .les rfl)
    rw [(h.congr hw).runKernel_seq (n := 16384) ((h.congr hw).steps hx' hk' hq hp (hle ▸ h3) (hle ▸ hup) (hle ▸ ho)), hle]
    refine runKernel_boundary ?_ _
    rw [hnext]
    exact hle ▸ h46
  refine ⟨_, hex, ?_, ?_, _, findJob_charged hk _, (kernelJob_spec hk).2.2.1, Nat.add_assoc _ _ _ |>.symm⟩
  · rw [hnext, le_charged]
  · rw [hnext, le_charged]
    exact h.job

variable (hkind : x.kind = 0x1)
include hkind

theorem kernel_leDone (ht : t.Bears s r x) (hte : (t.le e).job = some r) (hw : Within finishing s t) (hu : uncached status = false) :
    JobDone (t.leDone e status detail cl out) r status detail out x.key ∧ JobFrame s (t.leDone e status detail cl out) r ∧
      ((t.leDone e status detail cl out).le e).job = none := by
  have hl : x.live = true := by rw [Job.live, (kernelJob_spec hk).2.2.1]; rfl
  obtain ⟨hd, hf⟩ := leDone_over ht hl hkind hu hte hw (detail := detail) (cl := cl) (out := out)
  exact ⟨hd, hf, le_leDone_job ht hl hkind hu hte⟩

variable (hcalm : Calm s)
include hcalm

/-- An EXIT with a public count ends the kernel's job with that many octets (R238). -/
theorem ownerKernelJob_exits (h : AtNop s k e r v) (hq : mwSeq v = 7) (hlt : x.charged.le + ((s.le e).waited - (s.le e).billed) + 2 < k.cost.2.le)
    (hhc : x.charged.hc = 0 ∨ x.charged.hc < k.cost.2.hc) (ha : ((s.le e).areg (aIdx (BitVec.ofNat 5 (mwSrc2 v)))).sec = false)
    (hm : ((s.le e).areg (aIdx (BitVec.ofNat 5 (mwSrc2 v)))).val ≤ (s.le e).outMax) :
    GoesTo (exec (.ownerKernelJob r) s) fun t => JobFrame s t r ∧ (t.le e).job = none ∧
      JobDone t r 0 0 ((s.le e).result ((s.le e).areg (aIdx (BitVec.ofNat 5 (mwSrc2 v)))).val) x.key := by
  have hissued : ∀ u, Within (Machine.parts [.free, .jobs, .tenants]) s u → u.Bears s r x → ((u.nopIssued e v).Bears s r x ∧
      ((u.nopIssued e v).le e).job = some r ∧ Within finishing s (u.nopIssued e v)) := fun u hw hb =>
    ⟨hb.congr rfl rfl rfl, (congrArg Le.job (le_nopIssued u e v)).trans (h.congr hw).job, .setLe rfl (hw.mono rfl)⟩
  have hex := ownerKernelJob_nop hk hcalm (by rw [hq]; rfl) hlt hhc
    (f := fun u => (u.nopIssued e v).leDone e 0 0 0 ((s.le e).result ((s.le e).areg (aIdx (BitVec.ofNat 5 (mwSrc2 v)))).val)) fun u hw hb _ => by
      have hle : u.le e = s.le e := congrArg (fun m => Map.getD m e leInit) (hw.same .les rfl)
      obtain ⟨hbi, hei, hwi⟩ := hissued u hw hb
      rw [(h.congr hw).runKernel_seq (n := 16384) ((h.congr hw).exits hq (hle ▸ ha) (hle ▸ hm)), hle]
      refine runKernel_left ?_ _
      rw [(kernel_leDone hk hkind hbi hei hwi rfl).2.2]
      exact fun hc => absurd hc (by simp)
  obtain ⟨hbi, hei, hwi⟩ := hissued _ (Within.charged_drawn (w := ⟨(s.le e).waited - (s.le e).billed + 1, 0, 0, 0⟩)) (charged_bears hk hcalm _)
  obtain ⟨hd, hf, hn⟩ := kernel_leDone hk hkind hbi hei hwi (status := 0) (detail := 0) (cl := 0)
    (out := (s.le e).result ((s.le e).areg (aIdx (BitVec.ofNat 5 (mwSrc2 v)))).val) rfl
  exact ⟨_, hex, hf, hn, hd⟩

variable (he : (s.le e).job = some r)
include he

theorem ownerKernelJob_faults (hl : k.cost.2.le ≤ x.charged.le) :
    GoesTo (exec (.ownerKernelJob r) s) fun t => JobDone t r 0x54 0 [] x.key ∧ JobFrame s t r := by
  obtain ⟨w, hw⟩ := ownerKernelJob_spent hk fun w => spent_iff.2 (.inl (hl.trans (Nat.le_add_right _ _)))
  obtain ⟨hd, hf, -⟩ := kernel_leDone hk hkind (charged_bears hk hcalm w) ((congrArg Le.job (le_charged s r w e)).trans he)
    (Within.charged_drawn.mono rfl) (status := 0x54) (detail := 0) (cl := 0) (out := []) rfl
  exact ⟨_, hw, hd, hf⟩

theorem costLimit_faults (hl : k.cost.2.le ≤ x.charged.le + s.pathLeft e) :
    GoesTo (exec (.ownerKernelCostLimit r) s) fun t => JobDone t r 0x54 0 [] x.key ∧ JobFrame s t r := by
  obtain ⟨w, hw⟩ := costLimit_spent hk hl
  have hm : Within (Machine.parts [.jobs, .tenants]) s (s.charge r w) := .charge rfl .refl
  have hle : (s.charge r w).le e = s.le e := congrArg (fun m => Map.getD m e leInit) (hm.same .les rfl)
  obtain ⟨hd, hf, -⟩ := kernel_leDone hk hkind (hcalm.bears (kernelJob_spec hk).1).charge ((congrArg Le.job hle).trans he)
    (hm.mono rfl) (status := 0x54) (detail := 0) (cl := 0) (out := []) rfl
  exact ⟨_, hw, hd, hf⟩

end

/-! ### The commit of an image (R240, R244, R246) -/

/-- The state with the verified image taken off, before it is stored or bound. -/
def State.imageTaken (s : State) : State := { s with kern := { s.kern with verifying := none } }

/-- The image in force: STATE and the entry's events say so (R244). -/
def State.committedOf (s : State) : State := (s.wr 0x2421 3 3).event 0x2421 5 1

theorem committedOf_spec (hw : Map.wf s.dict = true) : s.committedOf.rd 0x2421 3 = 3 ∧ s.committedOf.rd 0x2421 5 = eventAdd (s.rd 0x2421 5) 1 ∧
    s.committedOf.kern = s.kern := by
  refine ⟨?_, ?_, ?_⟩
  · rw [State.committedOf, State.rd_event, State.rd_wr_of_sub _ (by decide) (by decide) (.inr (by decide)), State.rd_wr_self hw]
  · rw [State.committedOf, rd_event_self (State.wf_wr hw _ _ _), State.rd_wr_of_sub _ (by decide) (by decide) (.inr (by decide))]
  · exact (Within.event (k := Machine.parts [.dict, .dtx]) rfl (.wr rfl .refl)).same .kern rfl

section
variable (hv : s.kern.verifying = some k) (h3 : s.rd 0x2421 3 ≠ 1)
include hv h3

theorem verified_settled : s.verified = s := by
  rw [State.verified, hv]
  exact if_pos (.inl h3)

theorem kernelCommit_fails : exec (.kernelCommit false) s = .next s := by
  rw [exec_kernelCommit, execKernelCommit, verified_settled hv h3, hv]
  exact when_of_false (by simp)

variable (hr : s.runs = true) (hc : fieldAt k.image 4 1 = 2 ∨ s.rangeCheck k = none)
include hr hc

theorem kernelCommit_eq : exec (.kernelCommit true) s = .next (if (fieldAt k.image 4 1 == 2) = true then (s.imageTaken.storePatch k).committedOf
    else ((s.imageTaken.bindKernel k).committedOf).record 4 1 0 k.binding 0 k.digest) := by
  have hok : (s.runs && true && ((fieldAt k.image 4 1 == 2) || (s.rangeCheck k).isNone)) = true := by
    rcases hc with hc | hc <;> simp [hr, hc]
  rw [exec_kernelCommit, execKernelCommit, verified_settled hv h3, hv]
  refine (when_of_true hok).trans (congrArg Host.Outcome.next ?_)
  split <;> rfl

/-- A committed patch stands in the slot that is not in use. -/
theorem kernelCommit_stores (hw : Map.wf s.dict = true) (hp : fieldAt k.image 4 1 = 2) :
    GoesTo (exec (.kernelCommit true) s) fun t => t.kern.verifying = none ∧ t.rd 0x2421 3 = 3 ∧ t.rd 0x2421 5 = eventAdd (s.rd 0x2421 5) 1 ∧
      if s.rd 0x2400 1 = 1 then t.kern.slotB = some ⟨k.version, svnOf k, k.image⟩ ∧ t.kern.slotA = s.kern.slotA
      else t.kern.slotA = some ⟨k.version, svnOf k, k.image⟩ ∧ t.kern.slotB = s.kern.slotB := by
  have hwf : Map.wf (s.imageTaken.storePatch k).dict = true := by
    unfold State.storePatch
    dsimp only
    split
    · exact State.wf_wr (s := s.imageTaken) hw _ _ _
    · exact State.wf_wr (s := s.imageTaken) hw _ _ _
  have hrd : (s.imageTaken.storePatch k).rd 0x2421 5 = s.rd 0x2421 5 := by
    unfold State.storePatch
    dsimp only
    split
    · exact State.rd_wr_of_sub (s := s.imageTaken) _ (by decide) (by decide) (.inl (by decide))
    · exact State.rd_wr_of_sub (s := s.imageTaken) _ (by decide) (by decide) (.inl (by decide))
  obtain ⟨h1, h2, h3'⟩ := committedOf_spec hwf
  refine ⟨_, (kernelCommit_eq hv h3 hr hc).trans (congrArg Host.Outcome.next (if_pos (by rw [hp]; rfl))), ?_, h1, h2.trans (by rw [hrd]), ?_⟩
  · rw [h3']
    unfold State.storePatch
    dsimp only
    split <;> rfl
  · have hr1 : s.imageTaken.rd 0x2400 1 = s.rd 0x2400 1 := rfl
    rw [h3']
    unfold State.storePatch
    rw [hr1]
    split <;> exact ⟨rfl, rfl⟩

/-- A committed kernel is bound. -/
theorem kernelCommit_binds (hw : Map.wf s.dict = true) (hp : fieldAt k.image 4 1 ≠ 2) :
    GoesTo (exec (.kernelCommit true) s) fun t => t.kern.verifying = none ∧ t.rd 0x2421 3 = 3 ∧ t.rd 0x2421 5 = eventAdd (s.rd 0x2421 5) 1 ∧
      Map.find t.kern.bound k.binding = some k ∧ ∀ n, n ≠ k.binding → Map.find t.kern.bound n = Map.find s.kern.bound n := by
  have hbound : (s.imageTaken.bindKernel k).kern.bound = Map.put s.kern.bound k.binding k ∧ (s.imageTaken.bindKernel k).kern.verifying = none ∧
      (s.imageTaken.bindKernel k).dict = s.dict := by
    have hpl := fun u : State => Within.placeConstants (s := u) (t := u) (k' := k) (k := Machine.parts [.cmem]) rfl .refl
    refine ⟨?_, ?_, ?_⟩
    · exact (congrArg Stores.bound ((hpl _).same .kern rfl)).trans rfl
    · exact (congrArg Stores.verifying ((hpl _).same .kern rfl)).trans rfl
    · exact ((hpl _).same .dict rfl).trans rfl
  obtain ⟨hb, hn, hd⟩ := hbound
  generalize hu : s.imageTaken.bindKernel k = u at hb hn hd
  obtain ⟨h1, h2, h3'⟩ := committedOf_spec (s := u) (hd ▸ hw)
  have hrec := Touches.record (P := fun i => i = 0x3800) (kind := 4) (verdict := 1) (channel := 0) (region := k.binding) (flags := 0) (digest := k.digest)
    (Touches.refl (s := u.committedOf)) rfl
  have hkern : (u.committedOf.record 4 1 0 k.binding 0 k.digest).kern = u.kern :=
    ((Within.record (k := Machine.parts [.dict, .dtx, .rwork, .trav]) rfl .refl).same .kern rfl).trans h3'
  refine ⟨_, (kernelCommit_eq hv h3 hr hc).trans (congrArg Host.Outcome.next (if_neg (by simpa using hp))), ?_⟩
  rw [hu]
  refine ⟨hkern ▸ hn, ?_, ?_, ?_, fun n hne => ?_⟩
  · exact (hrec.rd _ _ (by decide) (by decide)).trans h1
  · exact (hrec.rd _ _ (by decide) (by decide)).trans (h2.trans (congrArg (eventAdd · 1) (State.rd_congr hd _ _)))
  · rw [hkern, hb, Map.find_put_self]
  · rw [hkern, hb, Map.find_put_of_ne _ _ hne]

end

/-- Settles O38: a run's first microword decides it, the charge of a run is under the header's worst cost or ends the job, and a commit stores or binds its
image. -/
theorem ownerKernelsComplete : Obligations.OwnerKernelsComplete := by
  unfold Obligations.OwnerKernelsComplete
  intro s r x k e
  refine ⟨fun hk he hkind hcalm => ?_, fun k' hr hv h3 hc hw => ⟨kernelCommit_fails hv h3, ?_⟩⟩
  · intro l v a faults within issues
    have hat : issues → within ∧ AtNop s k e r v := fun ⟨hw, ho, _, hs, hl, hb, hn, h0, hcl, hcy, hwait⟩ =>
      ⟨hw, ⟨rfl, he, ho, hl, hb, hn, h0, hcl, hcy, hwait, hs, (kernelJob_spec hk).2.2.2⟩⟩
    refine ⟨costLimit_faults hk hkind hcalm he, costLimit_within hk, ownerKernelJob_faults hk hkind hcalm he, fun hw ho h46 hq hl => ?_,
      fun hi hq hp h3 hup ho h46 => ?_, fun hi hq ha hm => ?_⟩
    · exact ownerKernelJob_stops hk rfl (by have := hw.1; omega) hw.2 h46 hq hl
    · obtain ⟨⟨hlt, hhc⟩, h⟩ := hat hi
      exact ownerKernelJob_steps hk hcalm h hq hlt hhc hp h3 hup ho h46
    · obtain ⟨⟨hlt, hhc⟩, h⟩ := hat hi
      obtain ⟨t, ht, hf, hn, hd⟩ := ownerKernelJob_exits hk hkind hcalm h hq hlt hhc ha hm
      exact ⟨t, ht, hf, hn, by rw [← result_octets]; exact hd⟩
  · by_cases hp : fieldAt k'.image 4 1 = 2
    · obtain ⟨t, ht, h1, h2, h4, h5⟩ := kernelCommit_stores hv h3 hr hc hw hp
      exact ⟨t, ht, h1, h2, h4, fun hne => absurd hp hne, fun _ => h5⟩
    · obtain ⟨t, ht, h1, h2, h4, h5⟩ := kernelCommit_binds hv h3 hr hc hw hp
      exact ⟨t, ht, h1, h2, h4, fun _ => h5, fun h => absurd h hp⟩
end Machine
end Sys2Proof
end

section
/-! A context whose A register holds more than a word of cluster memory does: its save area does not read as written (R216). -/
namespace Sys2Proof
namespace Machine

/-- The words of a context save are those of the registers and the microsequencer. -/
theorem Le.contextWords_congr {l l' : Le} (h : l.regs = l'.regs) : l.contextWords = l'.contextWords := by
  simp only [Le.contextWords, Le.sequencerWords, Le.vreg, Le.areg, Le.mreg, Le.desc, h]

namespace Counter

/-- A message that runs on LE 0. -/
def onEngine : Job := { message 1 0x0D00 [] with state := .running, units := [0] }

/-- LE 0 runs it with 2^72 in A0; its preemption is latched. -/
def wideRegister : State :=
  { up with
    jobs := [onEngine]
    units := [(0, { engineInit with job := some onEngine.ref, latched := [5] })]
    les := [(0, { leInit with job := some onEngine.ref, regs := { leRegsInit with a := [(0, ⟨2 ^ 72, false⟩)] } })] }

theorem findJob_wideRegister : wideRegister.findJob onEngine.ref = some onEngine := by decide +kernel

theorem wideRegister_safePoint : wideRegister.clk.gated = false ∧ wideRegister.marked onEngine.ref = false ∧ wideRegister.drawHeld 0 = false ∧
    (wideRegister.engine 0).latched = [5] ∧ wideRegister.atExit 0 onEngine = false ∧ Map.wf wideRegister.dict = true ∧ Map.wf wideRegister.cmem = true ∧
    (wideRegister.le 0).scratchAt + 581 ≤ 2 ^ 18 := by decide +kernel

theorem wideRegister_suspends : exec (.safePointReached 0) wideRegister = .next (wideRegister.suspendJob onEngine true) := by
  obtain ⟨hg, hm, hd, hl, hx, -⟩ := wideRegister_safePoint
  rw [exec_safePointReached, execSafePointReached, show (wideRegister.engine 0).job = some onEngine.ref from rfl]
  dsimp only
  rw [findJob_wideRegister]
  dsimp only
  rw [hl, hg, hm, hd, hx]
  rfl

theorem wideRegister_area : (wideRegister.suspendJob onEngine true).areaWords 0 (wideRegister.le 0).scratchAt (wideRegister.le 0).contextWords.length ≠
    (wideRegister.le 0).contextWords := by decide +kernel

end Counter

/-- Refutes O42: its clause on the save area has no premise that the registers hold words of 72 bits, and an A register of a state may hold 2^72. -/
theorem not_lapsAndSafePointsComplete : ¬ Obligations.LapsAndSafePointsComplete := by
  unfold Obligations.LapsAndSafePointsComplete
  intro h
  obtain ⟨hg, hm, hd, hl, hx, hwf, hcmem, hfits⟩ := Counter.wideRegister_safePoint
  obtain ⟨-, -, -, hacts⟩ := h
  obtain ⟨-, -, -, -, -, -, hsuspends⟩ := hacts Counter.wideRegister 0 _ _ rfl Counter.findJob_wideRegister rfl hg hm hd
  rw [hl] at hsuspends
  obtain ⟨t, ht, -, -, hsaved, -⟩ := hsuspends hwf (by decide) (by decide) (by decide) (by decide) hx (.inl (by decide))
  obtain rfl := Host.Outcome.next.inj (Counter.wideRegister_suspends.symm.trans ht)
  obtain ⟨k, -, hregs, -, hat, harea⟩ := hsaved 0 rfl (by decide) hcmem
  rw [Le.contextWords_congr hregs, hat] at harea
  exact Counter.wideRegister_area (harea hfits)

end Machine
end Sys2Proof
end

section
/-! What handing messages to a link keeps, and what a review of the quorum does (R379, R382, R386). -/
namespace Sys2Proof
namespace Machine

variable {s t u : State} {m : PeerOut} {w : OwnWrite} {status flag i k : Nat} {out : Bytes}

theorem link_setLink_self (s : State) (i : Nat) (l : Link) : (s.setLink i l).link i = l := by
  rw [State.link, State.setLink]
  dsimp only
  rw [Map.getD, Map.find_put_self]

theorem link_setLink_of_ne (s : State) {i k : Nat} (l : Link) (h : k ≠ i) : (s.setLink i l).link k = s.link k := by
  rw [State.link, State.setLink]
  dsimp only
  rw [Map.getD, Map.find_put_of_ne _ _ h]
  rfl

theorem link_congr (h : t.grp.links = s.grp.links) (k : Nat) : t.link k = s.link k := congrArg (fun l => Map.getD l k linkInit) h

/-- From `s` to `t` a link changes in nothing but the number of its last message, and what was handed to a port stays handed. -/
structure Posting (s t : State) : Prop where
  link : ∀ k, ∃ n, t.link k = { s.link k with txSeq := n }
  out : s.grp.out <+: t.grp.out

namespace Posting

theorem of_grp (hl : t.grp.links = s.grp.links) (ho : t.grp.out = s.grp.out) : Posting s t :=
  ⟨fun k => ⟨(s.link k).txSeq, link_congr hl k⟩, ho ▸ List.prefix_rfl⟩

theorem set {g : Group} (hl : g.links = s.grp.links) (ho : g.out = s.grp.out) : Posting s { s with grp := g } := of_grp hl ho

theorem of_same (h : t.grp = s.grp) : Posting s t := of_grp (congrArg Group.links h) (congrArg Group.out h)

theorem refl : Posting s s := of_same rfl

theorem trans (h : Posting s t) (g : Posting t u) : Posting s u := by
  refine ⟨fun k => ?_, h.out.trans g.out⟩
  obtain ⟨n, hn⟩ := h.link k
  obtain ⟨n', hn'⟩ := g.link k
  exact ⟨n', by rw [hn', hn]⟩

theorem foldl {α : Type} {f : State → α → State} {l : List α} (hf : ∀ v x, Posting v (f v x)) : Posting s (l.foldl f s) :=
  List.foldlRecOn (motive := Posting s) _ _ refl fun v hv x _ => hv.trans (hf v x)

theorem post : Posting s (s.post m) := by
  refine ⟨fun k => ?_, List.prefix_append _ _⟩
  by_cases h : k = m.dst
  · exact ⟨(s.link m.dst).txSeq + 1, by rw [h]; exact link_setLink_self _ _ _⟩
  · exact ⟨(s.link k).txSeq, link_setLink_of_ne _ _ h⟩

theorem posted (h : Posting s t) (hm : Posted s m) : Posted t m := by
  obtain ⟨g, n, hmem⟩ := hm
  exact ⟨g, n, h.out.subset hmem⟩

theorem state (h : Posting s t) (k : Nat) : (t.link k).state = (s.link k).state := by
  obtain ⟨n, hn⟩ := h.link k
  rw [hn]

theorem endWrite : Posting s (s.endWrite w status out) := by
  unfold State.endWrite
  extract_lets _ t
  have ht : Posting s t := set rfl rfl
  split
  · exact ht.trans (of_same ((Within.endJob (k := ending) rfl (.chargeTypical rfl .refl)).same .grp rfl))
  · exact ht

theorem endWrites : Posting s s.endWrites := foldl fun _ _ => endWrite

theorem endUncommitted : Posting s s.endUncommitted := by
  unfold State.endUncommitted
  extract_lets l t
  have ht : Posting s t := foldl fun _ _ => post
  have hs : Posting t { t with grp := { t.grp with served := [] } } := set rfl rfl
  exact (ht.trans hs).trans endWrites

theorem stepDown (s : State) : Posting s { s with grp := { s.grp with stepDown := true } } := set rfl rfl

theorem reviewQuorum : Posting s s.reviewQuorum := by
  unfold State.reviewQuorum
  dsimp only
  split
  · exact refl
  · have hn : ∀ a b c, Posting s (((s.wr 0x4401 2 a).groupEvent b).notify 6 none c) := fun a b c =>
      of_same ((Within.notify (k := Machine.parts [.dict, .dtx, .tx, .chans]) rfl (.groupEvent rfl (.wr rfl .refl))).same .grp rfl)
    split
    · exact hn _ _ _
    · split
      · exact (hn _ _ _).trans ((stepDown _).trans endUncommitted)
      · exact (hn _ _ _).trans endWrites

end Posting

theorem posted_post (s : State) (m : PeerOut) : Posted (s.post m) m := ⟨_, _, List.mem_append_right _ List.mem_cons_self⟩

theorem link_post_of_ne (s : State) (h : k ≠ m.dst) : (s.post m).link k = s.link k := link_setLink_of_ne _ _ h

/-! ### The group's entries -/

/-- QUORATE and GROUP_EVENTS, which a review of the quorum writes. -/
def reviewed (i a : Nat) : Prop := i = 0x4401 ∧ (a = 2 ∨ a = 9)

/-- From `s` to `t` messages are handed to links and the quorum is reviewed, and no write of this member is under way. -/
structure Reviewed (s t : State) : Prop extends Posting s t where
  within : Within (parts [.dict, .dtx, .tx, .chans, .grp]) s t
  wf : Map.wf s.dict = true → Map.wf t.dict = true
  rd : ∀ i a, a < 256 → ¬ reviewed i a → t.rd i a = s.rd i a
  grp : t.grp = { s.grp with links := t.grp.links, out := t.grp.out, served := t.grp.served, stepDown := t.grp.stepDown }
  step : s.grp.stepDown = true → t.grp.stepDown = true

namespace Reviewed

theorem of_same (hw : Within (parts [.dict, .dtx, .tx, .chans, .grp]) s t) (hg : t.grp = s.grp) (hwf : Map.wf s.dict = true → Map.wf t.dict = true)
    (hrd : ∀ i a, a < 256 → ¬ reviewed i a → t.rd i a = s.rd i a) : Reviewed s t :=
  ⟨.of_same hg, hw, hwf, hrd, by rw [hg], fun h => hg ▸ h⟩

theorem refl : Reviewed s s := of_same .refl rfl id fun _ _ _ _ => rfl

theorem trans (h : Reviewed s t) (g : Reviewed t u) : Reviewed s u :=
  ⟨h.toPosting.trans g.toPosting, h.within.trans g.within, g.wf ∘ h.wf, fun i a ha hi => (g.rd i a ha hi).trans (h.rd i a ha hi),
    g.grp.trans (by rw [h.grp]), g.step ∘ h.step⟩

theorem foldl {α : Type} {f : State → α → State} {l : List α} (hf : ∀ v x, Reviewed v (f v x)) : Reviewed s (l.foldl f s) :=
  List.foldlRecOn (motive := Reviewed s) _ _ refl fun v hv x _ => hv.trans (hf v x)

theorem post : Reviewed s (s.post m) := ⟨.post, .post rfl .refl, id, fun _ _ _ _ => rfl, rfl, id⟩

theorem groupEvent : Reviewed s (s.groupEvent flag) :=
  of_same (.groupEvent rfl .refl) rfl (fun h => State.wf_event h _ _ _) fun i a ha hi =>
    (State.rd_event _ _ _ _ _ _).trans (State.rd_wr_of_sub _ (by decide) ha (by rw [reviewed] at hi; omega))

theorem notify {cls what : Nat} {o : Option Nat} : Reviewed s (s.notify cls o what) :=
  of_same (.notify rfl .refl) ((Within.notify (k := Machine.parts [.tx, .chans]) rfl .refl).same .grp rfl)
    (fun h => State.dict_notify s cls o what ▸ h) fun i a _ _ => State.rd_congr (State.dict_notify s cls o what) i a

theorem quorate (v : Nat) : Reviewed s (s.wr 0x4401 2 v) :=
  of_same (.wr rfl .refl) rfl (fun h => State.wf_wr h _ _ _) fun i a ha hi => State.rd_wr_of_sub _ (by decide) ha (by rw [reviewed] at hi; omega)

theorem stepDown : Reviewed s { s with grp := { s.grp with stepDown := true } } :=
  ⟨.of_grp rfl rfl, .set rfl rfl .refl, id, fun _ _ _ _ => rfl, rfl, fun _ => rfl⟩

theorem writes (h : Reviewed s t) : t.grp.writes = s.grp.writes := (congrArg Group.writes h.grp).trans rfl

theorem endWrites (h : s.grp.writes = []) : Reviewed s s.endWrites := by
  rw [State.endWrites, h]
  exact refl

theorem endUncommitted (h : s.grp.writes = []) : Reviewed s s.endUncommitted := by
  unfold State.endUncommitted
  extract_lets l t
  have hp : Reviewed s t := foldl fun _ _ => post
  have hs : Reviewed t { t with grp := { t.grp with served := [] } } := ⟨.of_grp rfl rfl, .set rfl rfl .refl, id, fun _ _ _ _ => rfl, rfl, id⟩
  exact hp.trans (hs.trans (endWrites (hp.writes.trans h)))

theorem reviewQuorum (h : s.grp.writes = []) : Reviewed s s.reviewQuorum := by
  unfold State.reviewQuorum
  dsimp only
  split
  · exact refl
  · have hn : ∀ a b c, Reviewed s (((s.wr 0x4401 2 a).groupEvent b).notify 6 none c) := fun a b c => ((quorate a).trans groupEvent).trans notify
    have hw : ∀ a b c, (((s.wr 0x4401 2 a).groupEvent b).notify 6 none c).grp.writes = [] := fun a b c => (hn a b c).writes.trans h
    split
    · exact hn _ _ _
    · split
      · exact (hn _ _ _).trans (stepDown.trans (endUncommitted (hw _ _ _)))
      · exact (hn _ _ _).trans (endWrites (hw _ _ _))

section
variable (h : Reviewed s t)
include h

theorem role : t.role = s.role := h.rd _ _ (by decide) (by rw [reviewed]; decide)
theorem term : t.term = s.term := h.rd _ _ (by decide) (by rw [reviewed]; decide)
theorem sequencer : t.sequencer = s.sequencer := h.rd _ _ (by decide) (by rw [reviewed]; decide)
theorem memberCount : t.memberCount = s.memberCount := h.rd _ _ (by decide) (by rw [reviewed]; decide)
theorem log : t.grp.log = s.grp.log := (congrArg Group.log h.grp).trans rfl
theorem commit : t.grp.commit = s.grp.commit := (congrArg Group.commit h.grp).trans rfl
theorem applied : t.grp.applied = s.grp.applied := (congrArg Group.applied h.grp).trans rfl
theorem grants : t.grp.grants = s.grp.grants := (congrArg Group.grants h.grp).trans rfl
theorem grantedIn : t.grp.grantedIn = s.grp.grantedIn := (congrArg Group.grantedIn h.grp).trans rfl
theorem last : t.grp.last = s.grp.last := by
  rw [Group.last, Group.last, h.grp]
theorem weight (i : Nat) : t.weight i = s.weight i := h.rd _ _ (by decide) (by rw [reviewed]; omega)
theorem memberId (i : Nat) : t.memberId i = s.memberId i := h.rd _ _ (by decide) (by rw [reviewed]; omega)

end

end Reviewed

/-- MY_INDEX is of the group's entries, the life cycle and the keys. -/
theorem myIndex_congr (hg : t.groupId = s.groupId) (hc : t.memberCount = s.memberCount) (hm : ∀ i, t.memberId i = s.memberId i) (hl : t.lc = s.lc)
    (hk : t.keys.testRoot = s.keys.testRoot) : t.myIndex = s.myIndex := by
  have hlife : t.lifecycle = s.lifecycle := congrArg (fun l : LifeCycle => decodeWord l.fuses) hl
  have hdebug : t.debug = s.debug := by rw [State.debug, State.debug, hlife, hl]
  have hid : t.identity = s.identity := by
    rw [State.identity, State.identity, State.idSigPk, State.idSigPk, State.derive, State.derive, State.deriveBytes, State.deriveBytes, hlife, hl, hk]
  have hindex : t.indexOf t.identity = s.indexOf s.identity := by
    rw [State.indexOf, State.indexOf, hc, hid]
    simp only [hm]
  rw [State.myIndex, State.myIndex, hg, hdebug, hindex]

theorem quorum_congr (hc : t.memberCount = s.memberCount) (hw : ∀ i, t.weight i = s.weight i) (ms : List Nat) : t.quorum ms = s.quorum ms := by
  have hm : ∀ l : List Nat, t.weights l = s.weights l := fun l => congrArg List.sum (List.map_congr_left fun i _ => hw i)
  rw [State.quorum, State.quorum, hc, hm, hm]

theorem Reviewed.myIndex (h : Reviewed s t) : t.myIndex = s.myIndex :=
  myIndex_congr (h.rd _ _ (by decide) (by rw [reviewed]; decide)) h.memberCount h.memberId (h.within.same .lc rfl)
    (congrArg Keys.testRoot (h.within.same .keys rfl))

theorem Reviewed.me (h : Reviewed s t) : t.me = s.me := congrArg (Option.getD · 0xFF) h.myIndex

theorem Reviewed.quorum (h : Reviewed s t) (ms : List Nat) : t.quorum ms = s.quorum ms := quorum_congr h.memberCount h.weight ms

end Machine
end Sys2Proof
end

section
/-! Links of the group: ANNOUNCE_RECEIVE, HELLO_INIT and HELLO_REPLY (R28, R379, R380). -/
namespace Sys2Proof
namespace Machine

variable {s t u : State} {i : Nat} {h : Hello} {msg : PeerMsg}

theorem link_post_self (s : State) (m : PeerOut) : (s.post m).link m.dst = { s.link m.dst with txSeq := (s.link m.dst).txSeq + 1 } := link_setLink_self _ _ _

/-- The HELLO_INIT that a member sends next to another. -/
def State.helloNext (s : State) (i : Nat) : Bytes :=
  helloMessage false (s.drawn.hello i (nextLinkGen (s.link i).gen) 0 (prim 32 .x25519 [s.drawBytes 32]) s.drawn.idKemPk)

/-- A link that is being made: its HELLO_INIT has gone out to where the peer is. -/
structure HelloSent (s t : State) (i : Nat) : Prop where
  state : (t.link i).state = 1
  gen : (t.link i).gen = nextLinkGen (s.link i).gen
  peer : (t.link i).peer = (s.link i).peer
  port : (t.link i).port = (s.link i).port
  posted : Posted t (.helloInit i (t.link i).gen (t.link i).init)
  others : ∀ k, k ≠ i → t.link k = s.link k
  within : Within (parts [.free, .tx, .grp]) s t
  announced : t.grp.announced = s.grp.announced

theorem sendHello_sent (s : State) (i : Nat) : HelloSent s (s.sendHello i) i := by
  have hself : ∃ n, (s.sendHello i).link i = { linkInit with
      state := 1, gen := nextLinkGen (s.link i).gen, txSeq := n, heard := (s.link i).heard, init := s.helloNext i, secret := s.drawBytes 32,
      peer := (s.link i).peer, port := (s.link i).port } := 
    ⟨1, (link_post_self _ (.helloInit i (nextLinkGen (s.link i).gen) (s.helloNext i))).trans
      (congrArg (fun l : Link => { l with txSeq := l.txSeq + 1 }) (link_setLink_self _ _ _))⟩
  obtain ⟨n, hn⟩ := hself
  refine ⟨by rw [hn], by rw [hn], by rw [hn], by rw [hn], ?_, fun k hk => ?_, .sendHello rfl .refl, rfl⟩
  · rw [hn]
    exact posted_post _ _
  · exact (link_post_of_ne (m := .helloInit i _ _) _ hk).trans (link_setLink_of_ne _ _ hk)

section
variable {src : AnnounceSrc} {body key cert : Bytes} {m : Nat} (hr : s.runs = true) (ha : s.grp.announced.contains ⟨src, body⟩ = true)
  (hm : s.myIndex = some m) (hi : s.indexOf (fieldAt body 0 48) = some i)
include hr ha hm hi

/-- The state once an ANNOUNCE that has arrived has been taken. -/
def State.announceTaken (s : State) (src : AnnounceSrc) (body : Bytes) : State :=
  { s with grp := { s.grp with announced := s.grp.announced.filter fun x => x != ⟨src, body⟩ } }

theorem announceReceive_eq : exec (.announceReceive src body key cert) s =
    when (s.linkUp src.port && fieldAt body 100 16 == s.groupId && announceOk ⟨src, body⟩ key cert && decide (m < i) && (s.link i).state != 2)
      (s.announceTaken src body)
      (((s.announceTaken src body).setLink i { (s.announceTaken src body).link i with peer := src.peer, port := src.port }).sendHello i) := by
  have hc : ¬ ((!s.runs) = true ∨ (!s.grp.announced.contains ⟨src, body⟩) = true) := by rw [hr, ha]; decide
  rw [exec_announceReceive, execAnnounceReceive, if_neg hc, hm, hi]
  rfl

theorem announceReceive_links (hc : s.linkUp src.port = true ∧ fieldAt body 100 16 = s.groupId ∧ announceOk ⟨src, body⟩ key cert = true ∧ m < i ∧
    (s.link i).state ≠ 2) :
    GoesTo (exec (.announceReceive src body key cert) s) fun t => (t.link i).state = 1 ∧ (t.link i).gen = nextLinkGen (s.link i).gen ∧
      (t.link i).peer = src.peer ∧ (t.link i).port = src.port ∧ Posted t (.helloInit i (t.link i).gen (t.link i).init) ∧
      t.grp.announced = s.grp.announced.filter (fun x => x != ⟨src, body⟩) ∧
      t = { s with grp := t.grp, free := t.free, tx := t.tx } ∧ ∀ k, k ≠ i → t.link k = s.link k := by
  obtain ⟨h1, h2, h3, h4, h5⟩ := hc
  have hwhen : (s.linkUp src.port && fieldAt body 100 16 == s.groupId && announceOk ⟨src, body⟩ key cert && decide (m < i) && (s.link i).state != 2) = true := by
    simp [h1, h2, h3, h4, h5]
  have hset : ∀ k, ((s.announceTaken src body).setLink i { (s.announceTaken src body).link i with peer := src.peer, port := src.port }).link k =
      if k = i then { s.link i with peer := src.peer, port := src.port } else s.link k := fun k => by
    split
    · next hk => rw [hk]; exact link_setLink_self _ _ _
    · next hk => exact link_setLink_of_ne _ _ hk
  have hw : Within (parts [.free, .tx, .grp]) s
      ((s.announceTaken src body).setLink i { (s.announceTaken src body).link i with peer := src.peer, port := src.port }) := .setLink rfl (.set rfl rfl .refl)
  have han : ((s.announceTaken src body).setLink i { (s.announceTaken src body).link i with peer := src.peer, port := src.port }).grp.announced =
      s.grp.announced.filter (fun x => x != ⟨src, body⟩) := rfl
  have heq := (announceReceive_eq hr ha hm hi (key := key) (cert := cert)).trans (when_of_true hwhen)
  revert hset hw han heq
  generalize (s.announceTaken src body).setLink i _ = v
  intro hset hw han heq
  have hv := sendHello_sent v i
  have hvi := (hset i).trans (if_pos rfl)
  refine ⟨_, heq, hv.state, hv.gen.trans (by rw [hvi]), hv.peer.trans (by rw [hvi]), hv.port.trans (by rw [hvi]), hv.posted, hv.announced.trans han, ?_,
    fun k hk => (hv.others k hk).trans ((hset k).trans (if_neg hk))⟩
  exact (hw.trans hv.within).eq_keepBut

theorem announceReceive_drops (hc : ¬ (s.linkUp src.port = true ∧ fieldAt body 100 16 = s.groupId ∧ announceOk ⟨src, body⟩ key cert = true ∧ m < i ∧
    (s.link i).state ≠ 2)) : exec (.announceReceive src body key cert) s = .next (s.announceTaken src body) := by
  refine (announceReceive_eq hr ha hm hi).trans (when_of_false (Bool.eq_false_iff.2 fun h => hc ?_))
  simp only [Bool.and_eq_true, beq_iff_eq, decide_eq_true_eq, bne_iff_ne, ne_eq] at h
  obtain ⟨⟨⟨⟨h1, h2⟩, h3⟩, h4⟩, h5⟩ := h
  exact ⟨h1, h2, h3, h4, h5⟩

end

/-! ### HELLO messages -/

/-- A link is up, made with this generation by what came in `msg`. -/
structure LinkUp (s t : State) (i gen : Nat) (msg : PeerMsg) : Prop where
  state : (t.link i).state = 2
  gen : (t.link i).gen = gen
  heard : (t.link i).heard = time80 s.clk.datum
  peer : (t.link i).peer = msg.peer
  port : (t.link i).port = msg.port

theorem LinkUp.posting {gen : Nat} (hl : LinkUp s t i gen msg) (hp : Posting t u) : LinkUp s u i gen msg := by
  obtain ⟨n, hn⟩ := hp.link i
  obtain ⟨h1, h2, h3, h4, h5⟩ := hl
  exact ⟨by rw [hn]; exact h1, by rw [hn]; exact h2, by rw [hn]; exact h3, by rw [hn]; exact h4, by rw [hn]; exact h5⟩

theorem linkMade_up {gen n : Nat} {k : Bytes} (hc : t.clk.datum = s.clk.datum) : LinkUp s (t.linkMade i gen n k msg) i gen msg := by
  have hl : (t.linkMade i gen n k msg).link i = { linkInit with
      state := 2, gen := gen, txSeq := n, txKey := if decide (t.me < i) then k.take 32 else k.drop 32, rxKey := if decide (t.me < i) then k.drop 32 else k.take 32,
      heard := time80 t.clk.datum, peer := msg.peer, port := msg.port } := link_setLink_self _ _ _
  exact ⟨by rw [hl], by rw [hl], by rw [hl, hc], by rw [hl], by rw [hl]⟩

theorem helloInit_waits (hn : s.helloMsg false h = none) : exec (.helloInit h) s = .next s := by
  rw [exec_helloInit, execHelloInit, hn]

theorem helloReply_waits (hn : s.helloMsg true h = none) : exec (.helloReply h) s = .next s := by
  rw [exec_helloReply, execHelloReply, hn]

section
variable (hr : s.runs = true) (hm : s.myIndex = some h.receiver)
include hr hm

theorem helloInit_refused (hs : h.sender < h.receiver) (hmsg : s.helloMsg false h = some msg)
    (hbad : msg.seq ≠ 1 ∨ (s.takeHello false h).helloRefused false h = true) :
    exec (.helloInit h) s = .next ((s.takeHello false h).drawn.groupEvent 16) := by
  have hc : ¬ ((!(s.takeHello false h).runs) = true ∨ (s.takeHello false h).myIndex ≠ some h.receiver ∨ h.receiver ≤ h.sender) := by
    rintro (hc | hc | hc)
    · exact absurd (show (!s.runs) = true from hc) (by rw [hr]; decide)
    · exact hc hm
    · omega
  rw [exec_helloInit, execHelloInit, hmsg]
  exact (if_neg hc).trans (if_pos hbad)

theorem helloInit_links (hs : h.sender < h.receiver) (hmsg : s.helloMsg false h = some msg)
    (hok : ¬ (msg.seq ≠ 1 ∨ (s.takeHello false h).helloRefused false h = true)) :
    GoesTo (exec (.helloInit h) s) fun t => LinkUp s t h.sender h.gen msg ∧ ∃ b, Posted t (.helloReply h.sender h.gen b) := by
  have hc : ¬ ((!(s.takeHello false h).runs) = true ∨ (s.takeHello false h).myIndex ≠ some h.receiver ∨ h.receiver ≤ h.sender) := by
    rintro (hc | hc | hc)
    · exact absurd (show (!s.runs) = true from hc) (by rw [hr]; decide)
    · exact hc hm
    · omega
  have hex : ∃ (v : State) (k b : Bytes), v.clk.datum = s.clk.datum ∧
      exec (.helloInit h) s = .next ((v.linkMade h.sender h.gen 0 k msg).post (.helloReply h.sender h.gen b)).reviewQuorum := by
    rw [exec_helloInit, execHelloInit, hmsg]
    refine ⟨_, _, _, ?_, (if_neg hc).trans (if_neg hok)⟩
    rfl
  obtain ⟨v, k, b, hv, hex⟩ := hex
  exact ⟨_, hex, (linkMade_up hv).posting (Posting.post.trans .reviewQuorum), b, Posting.reviewQuorum.posted (posted_post _ _)⟩

variable (hs : h.receiver < h.sender) (hl : (s.link h.sender).state = 1) (hg : (s.link h.sender).gen = h.gen)
  (hd : h.initDigest = sha3 (s.link h.sender).init)
include hs hl hg hd

theorem helloReply_stands : ¬ ((!(s.takeHello true h).runs) = true ∨ (s.takeHello true h).myIndex ≠ some h.receiver ∨ h.sender ≤ h.receiver ∨
    ((s.takeHello true h).link h.sender).state ≠ 1 ∨ ((s.takeHello true h).link h.sender).gen ≠ h.gen ∨
    h.initDigest ≠ sha3 ((s.takeHello true h).link h.sender).init) := by
  rintro (hc | hc | hc | hc | hc | hc)
  · exact absurd (show (!s.runs) = true from hc) (by rw [hr]; decide)
  · exact hc hm
  · omega
  · exact hc hl
  · exact hc hg
  · exact hc hd

variable (hmsg : s.helloMsg true h = some msg)
include hmsg

theorem helloReply_refused (hbad : msg.seq ≠ 1 ∨ (s.takeHello true h).helloRefused true h = true) :
    exec (.helloReply h) s = .next ((s.takeHello true h).drawn.groupEvent 16) := by
  rw [exec_helloReply, execHelloReply, hmsg]
  exact (if_neg (helloReply_stands hr hm hs hl hg hd)).trans (if_pos hbad)

theorem helloReply_links (hok : ¬ (msg.seq ≠ 1 ∨ (s.takeHello true h).helloRefused true h = true)) :
    GoesTo (exec (.helloReply h) s) fun t => LinkUp s t h.sender h.gen msg := by
  have hex : ∃ (v : State) (n : Nat) (k : Bytes), v.clk.datum = s.clk.datum ∧
      exec (.helloReply h) s = .next (v.linkMade h.sender h.gen n k msg).reviewQuorum := by
    rw [exec_helloReply, execHelloReply, hmsg]
    refine ⟨_, _, _, ?_, (if_neg (helloReply_stands hr hm hs hl hg hd)).trans (if_neg hok)⟩
    rfl
  obtain ⟨v, n, k, hv, hex⟩ := hex
  exact ⟨_, hex, (linkMade_up hv).posting .reviewQuorum⟩

end

/-! ### Messages that have not arrived, and those that have (R379) -/

section
variable {p : PeerHdr} {op : Nat} {ok : Bytes → Bool} {k : State → State}

theorem onLink_waits (hn : s.peerMsg p op ok = none) : s.onLink p op ok k = .next s :=
  when_of_false (by rw [hn]; simp)

theorem onLink_acts (hs : MessageStands s p op ok) : s.onLink p op ok k = .next (k (heard s p op ok)) := by
  obtain ⟨hr, hm, hl, hg, msg, hmsg⟩ := hs
  refine when_of_true ?_
  simp only [Bool.and_eq_true, beq_iff_eq, Bool.or_eq_true]
  exact ⟨⟨⟨⟨hr, hm⟩, hl⟩, hg⟩, Option.isSome_iff_exists.2 ⟨_, hmsg⟩⟩

theorem heard_reviewed (hw : s.grp.writes = []) : Reviewed (s.takeMsg p op ok) (heard s p op ok) := .reviewQuorum hw

end
end Machine
end Sys2Proof
end

section
/-! A member's seat, its role, term and sequencer, and how following, claiming and granting move it (R382, R383, R385). -/
namespace Sys2Proof
namespace Machine

variable {s t u : State} {i k v c term : Nat} {b : HeartbeatBody} {m : PeerOut}

/-- A member's role, its term, and the sequencer that it follows. -/
def State.seat (s : State) : Nat × Nat × Nat := (s.role, s.term, s.sequencer)

theorem seat_congr (h : t.dict = s.dict) : t.seat = s.seat := by
  simp only [State.seat, State.role, State.term, State.sequencer, State.rd_congr h]

theorem Reviewed.seat (h : Reviewed s t) : t.seat = s.seat := by
  rw [State.seat, h.role, h.term, h.sequencer]
  rfl

section
variable (hw : Map.wf s.dict = true)
include hw

theorem seat_wr_role (v : Nat) : (s.wr 0x4401 1 v).seat = (v, s.term, s.sequencer) := by
  rw [State.seat, State.role, State.term, State.sequencer, State.rd_wr_self hw, State.rd_wr_of_sub _ (by decide) (by decide) (.inr (by decide)),
    State.rd_wr_of_sub _ (by decide) (by decide) (.inr (by decide))]
  rfl

theorem seat_wr_term (v : Nat) : (s.wr 0x4401 3 v).seat = (s.role, v, s.sequencer) := by
  rw [State.seat, State.role, State.term, State.sequencer, State.rd_wr_self hw, State.rd_wr_of_sub _ (by decide) (by decide) (.inr (by decide)),
    State.rd_wr_of_sub _ (by decide) (by decide) (.inr (by decide))]
  rfl

theorem seat_wr_sequencer (v : Nat) : (s.wr 0x4401 4 v).seat = (s.role, s.term, v) := by
  rw [State.seat, State.role, State.term, State.sequencer, State.rd_wr_self hw, State.rd_wr_of_sub _ (by decide) (by decide) (.inr (by decide)),
    State.rd_wr_of_sub _ (by decide) (by decide) (.inr (by decide))]
  rfl

theorem seat_setSequencer (i : Nat) : (s.setSequencer i).seat = (s.role, s.term, i) := by
  unfold State.setSequencer
  split
  · next h => rw [State.seat, h]
  · split
    · exact seat_wr_sequencer hw i
    · exact Reviewed.groupEvent.seat.trans (seat_wr_sequencer hw i)

end

/-! ### What these moves keep -/

/-- From `s` to `t` the member's place in its group moves, and its log, its commit index and its peers' links stay, but for numbers. -/
structure Moves (s t : State) : Prop extends Posting s t where
  within : Within (parts [.free, .dict, .dtx, .tx, .chans, .ent, .grp]) s t
  wf : Map.wf s.dict = true → Map.wf t.dict = true
  rd : ∀ i a, a < 256 → i ≠ 0x4401 → t.rd i a = s.rd i a
  log : t.grp.log = s.grp.log
  base : t.grp.base = s.grp.base
  baseTerm : t.grp.baseTerm = s.grp.baseTerm
  commit : t.grp.commit = s.grp.commit
  applied : t.grp.applied = s.grp.applied
  writes : t.grp.writes = s.grp.writes

namespace Moves

theorem of_reviewed (h : Reviewed s t) : Moves s t :=
  ⟨h.toPosting, h.within.mono rfl, h.wf, fun i a ha hi => h.rd i a ha fun hr => hi hr.1, h.log, (congrArg Group.base h.grp).trans rfl,
    (congrArg Group.baseTerm h.grp).trans rfl, h.commit, h.applied, h.writes⟩

theorem refl : Moves s s := of_reviewed .refl

theorem trans (h : Moves s t) (g : Moves t u) : Moves s u :=
  ⟨h.toPosting.trans g.toPosting, h.within.trans g.within, g.wf ∘ h.wf, fun i a ha hi => (g.rd i a ha hi).trans (h.rd i a ha hi), g.log.trans h.log,
    g.base.trans h.base, g.baseTerm.trans h.baseTerm, g.commit.trans h.commit, g.applied.trans h.applied, g.writes.trans h.writes⟩

theorem wr {a v : Nat} (ha : a < 256) : Moves s (s.wr 0x4401 a v) :=
  ⟨.of_same rfl, .wr rfl .refl, fun h => State.wf_wr h _ _ _, fun _ _ hb hi => State.rd_wr_of_sub _ ha hb (.inl hi), rfl, rfl, rfl, rfl, rfl, rfl⟩

theorem drawn : Moves s s.drawn := ⟨.of_same rfl, .drawn rfl .refl, id, fun _ _ _ _ => rfl, rfl, rfl, rfl, rfl, rfl, rfl⟩

/-- Fields of the group beside those that stay. -/
theorem set {g : Group} (hl : g.links = s.grp.links) (ho : g.out = s.grp.out) (h1 : g.log = s.grp.log) (h2 : g.base = s.grp.base)
    (h3 : g.baseTerm = s.grp.baseTerm) (h4 : g.commit = s.grp.commit) (h5 : g.applied = s.grp.applied) (h6 : g.writes = s.grp.writes) :
    Moves s { s with grp := g } :=
  ⟨.set hl ho, .set rfl rfl .refl, id, fun _ _ _ _ => rfl, h1, h2, h3, h4, h5, h6⟩

theorem setSequencer (i : Nat) : Moves s (s.setSequencer i) := by
  unfold State.setSequencer
  split
  · exact refl
  · split
    · exact wr (by decide)
    · exact (wr (by decide)).trans (of_reviewed .groupEvent)

theorem post : Moves s (s.post m) := of_reviewed .post

theorem receiveKek (i : Nat) : Moves s (s.receiveKek i) := by
  unfold State.receiveKek
  split
  · exact refl
  · extract_lets _ _ t
    have ht : Moves s t := drawn.trans (set rfl rfl rfl rfl rfl rfl rfl rfl)
    split
    · exact ht
    · exact ht.trans post

theorem standDown (h : s.grp.writes = []) : Moves s s.standDown := by
  unfold State.standDown
  extract_lets t t'
  have ht : Moves s t := by
    by_cases hr : s.role = 3
    · exact (show t = s.endUncommitted from if_pos hr) ▸ of_reviewed (.endUncommitted h)
    · exact (show t = s from if_neg hr) ▸ refl
  have ht' : Moves t t' := by
    by_cases hr : t.role = 2 ∨ t.role = 3
    · exact (show t' = t.wr 0x4401 1 1 from if_pos hr) ▸ wr (by decide)
    · exact (show t' = t from if_neg hr) ▸ refl
  exact (ht.trans ht').trans (set rfl rfl rfl rfl rfl rfl rfl rfl)

theorem adoptTerm (h : s.grp.writes = []) (term : Nat) : Moves s (s.adoptTerm term) := by
  unfold State.adoptTerm
  split
  · exact refl
  · exact (standDown h).trans (wr (by decide))

theorem askEntries (i : Nat) : Moves s (s.askEntries i) := post

theorem fetchBehind : Moves s s.fetchBehind := by
  unfold State.fetchBehind
  dsimp only
  split
  · exact refl
  · split
    · split
      · exact set rfl rfl rfl rfl rfl rfl rfl rfl
      · exact askEntries _
    · exact set rfl rfl rfl rfl rfl rfl rfl rfl

section
variable (h : Moves s t)
include h

theorem last : t.grp.last = s.grp.last := by
  rw [Group.last, Group.last, h.log, h.base, h.baseTerm]
theorem memberCount : t.memberCount = s.memberCount := h.rd _ _ (by decide) (by decide)
theorem weight (i : Nat) : t.weight i = s.weight i := h.rd _ _ (by decide) (by omega)
theorem memberId (i : Nat) : t.memberId i = s.memberId i := h.rd _ _ (by decide) (by omega)
theorem myIndex : t.myIndex = s.myIndex :=
  myIndex_congr (h.rd _ _ (by decide) (by decide)) h.memberCount h.memberId (h.within.same .lc rfl) (congrArg Keys.testRoot (h.within.same .keys rfl))
theorem me : t.me = s.me := congrArg (Option.getD · 0xFF) h.myIndex
theorem quorum (ms : List Nat) : t.quorum ms = s.quorum ms := quorum_congr h.memberCount h.weight ms
theorem reachable : t.reachable = s.reachable := by
  rw [State.reachable, State.reachable, h.memberCount]
  congr 1
  funext i
  rw [State.reaches, State.reaches, h.myIndex, h.state]
theorem peersUp : t.peersUp = s.peersUp := by
  rw [State.peersUp, State.peersUp, h.reachable, h.myIndex]

end
end Moves

/-! ### Their seats -/

/-- The role of a member that leaves the role of sequencer or claimant. -/
def stood (role : Nat) : Nat := if role = 2 ∨ role = 3 then 1 else role

theorem seat_standDown (hw : Map.wf s.dict = true) (h : s.grp.writes = []) : s.standDown.seat = (stood s.role, s.term, s.sequencer) := by
  unfold State.standDown
  extract_lets t t'
  have ht : Reviewed s t := by
    by_cases hr : s.role = 3
    · exact (show t = s.endUncommitted from if_pos hr) ▸ .endUncommitted h
    · exact (show t = s from if_neg hr) ▸ .refl
  refine (seat_congr (s := t') rfl).trans ?_
  rw [stood, ← ht.role, ← ht.term, ← ht.sequencer]
  by_cases hr : t.role = 2 ∨ t.role = 3
  · rw [if_pos hr, (show t' = t.wr 0x4401 1 1 from if_pos hr)]
    exact seat_wr_role (ht.wf hw) 1
  · rw [if_neg hr, (show t' = t from if_neg hr)]
    rfl

theorem seat_adoptTerm (hw : Map.wf s.dict = true) (h : s.grp.writes = []) (hlt : s.term < term) :
    (s.adoptTerm term).seat = (stood s.role, term, s.sequencer) := by
  have hseat := seat_standDown hw h
  simp only [State.seat, Prod.mk.injEq] at hseat
  obtain ⟨hrole, -, hseq⟩ := hseat
  rw [State.adoptTerm, if_neg (Nat.not_le.2 hlt), seat_wr_term ((Moves.standDown h).wf hw), hrole, hseq]

theorem seat_receiveKek (s : State) (i : Nat) : (s.receiveKek i).seat = s.seat := by
  refine seat_congr ?_
  unfold State.receiveKek
  split
  · rfl
  · dsimp only
    split <;> rfl

theorem commitTo_of_le (h : c ≤ s.grp.commit) : s.commitTo c = s := if_pos h

/-- A member that has applied what its sequencer had committed takes part as a FOLLOWER. -/
theorem caughtUp_spec (hw : Map.wf s.dict = true) (h : c ≤ s.grp.applied) : Moves s (s.caughtUp c) ∧
    (s.caughtUp c).seat = (if s.role = 4 then 1 else s.role, s.term, s.sequencer) := by
  rw [State.caughtUp, if_neg (Nat.not_lt.2 h)]
  extract_lets _ t
  have ht : Moves s t := .set rfl rfl rfl rfl rfl rfl rfl rfl
  have hr : t.role = s.role := rfl
  rw [hr]
  split
  · exact ⟨ht.trans (.wr (by decide)), seat_wr_role (ht.wf hw) 1⟩
  · exact ⟨ht, rfl⟩

/-- Following the quorate sequencer of this member's term or of a higher one, with nothing new committed (R385, R389). -/
theorem follow_spec (hw : Map.wf s.dict = true) (h : s.grp.writes = []) (hterm : s.term ≤ b.term) (h3 : s.role ≠ 3 ∨ s.term ≠ b.term) (h1 : 1 ≤ s.role)
    (h4 : s.role ≤ 4) (hc : b.commit ≤ s.grp.commit) (ha : b.commit ≤ s.grp.applied) : Moves s (s.follow i b) ∧ (s.follow i b).seat = (1, b.term, i) := by
  unfold State.follow
  extract_lets higher t₁ t₂ t₃ t₄ t₅
  have hm₁ : Moves s t₁ := ((Moves.adoptTerm h _).trans (.setSequencer i)).trans (.receiveKek i)
  have hs₁ : t₁.seat = (if s.term < b.term then stood s.role else s.role, b.term, i) := by
    have hseat : (s.adoptTerm b.term).role = (if s.term < b.term then stood s.role else s.role) ∧ (s.adoptTerm b.term).term = b.term := by
      by_cases hlt : s.term < b.term
      · have hseat := seat_adoptTerm hw h hlt
        simp only [State.seat, Prod.mk.injEq] at hseat
        rw [if_pos hlt]
        exact ⟨hseat.1, hseat.2.1⟩
      · rw [if_neg hlt, State.adoptTerm, if_pos (by omega)]
        exact ⟨rfl, by omega⟩
    refine (seat_receiveKek _ i).trans ((seat_setSequencer ((Moves.adoptTerm h _).wf hw) i).trans ?_)
    rw [hseat.1, hseat.2]
  have hrole₁ : t₁.role = if s.term < b.term then stood s.role else s.role := congrArg Prod.fst hs₁
  have hm₂ : Moves s t₂ := by
    by_cases hr : t₁.role = 2
    · exact (show t₂ = t₁.standDown from if_pos hr) ▸ hm₁.trans (.standDown (hm₁.writes.trans h))
    · exact (show t₂ = t₁ from if_neg hr) ▸ hm₁
  have hs₂ : t₂.seat = (if t₁.role = 2 then 1 else t₁.role, b.term, i) := by
    have ht : t₁.term = b.term ∧ t₁.sequencer = i := by
      simp only [State.seat, Prod.mk.injEq] at hs₁
      exact hs₁.2
    by_cases hr : t₁.role = 2
    · rw [(show t₂ = t₁.standDown from if_pos hr), seat_standDown (hm₁.wf hw) (hm₁.writes.trans h), if_pos hr, stood, if_pos (.inl hr), ht.1, ht.2]
    · rw [(show t₂ = t₁ from if_neg hr), if_neg hr, State.seat, ht.1, ht.2]
  have hm₃ : Moves s t₃ := by
    by_cases hh : higher = true
    · exact (show t₃ = t₂.wr 0x4401 1 4 from if_pos hh) ▸ hm₂.trans (.wr (by decide))
    · exact (show t₃ = t₂ from if_neg hh) ▸ hm₂
  have hs₃ : (t₃.role = 1 ∨ t₃.role = 4) ∧ t₃.term = b.term ∧ t₃.sequencer = i := by
    simp only [State.seat, Prod.mk.injEq] at hs₂
    obtain ⟨hr₂, ht₂, hq₂⟩ := hs₂
    by_cases hlt : s.term < b.term
    · have hseat := seat_wr_role (hm₂.wf hw) 4
      rw [ht₂, hq₂] at hseat
      rw [(show t₃ = t₂.wr 0x4401 1 4 from if_pos (decide_eq_true hlt))]
      simp only [State.seat, Prod.mk.injEq] at hseat
      exact ⟨.inr hseat.1, hseat.2⟩
    · rw [(show t₃ = t₂ from if_neg (by simpa [higher] using hlt)), hr₂, hrole₁, if_neg hlt]
      refine ⟨?_, ht₂, hq₂⟩
      split <;> omega
  have he₄ : t₄ = t₃ := commitTo_of_le ((Nat.min_le_left _ _).trans (hc.trans hm₃.commit.ge))
  obtain ⟨hm₅, hs₅⟩ := caughtUp_spec (hm₃.wf hw) (ha.trans hm₃.applied.ge)
  have he₅ : t₅ = t₃.caughtUp b.commit := congrArg (State.caughtUp · b.commit) he₄
  have hm : Moves s t₅ := he₅ ▸ hm₃.trans hm₅
  rw [if_neg (Nat.not_lt.2 (ha.trans hm.applied.ge))]
  refine ⟨hm, he₅ ▸ hs₅.trans ?_⟩
  obtain ⟨hr, ht, hq⟩ := hs₃
  rw [ht, hq]
  rcases hr with hr | hr <;> rw [hr] <;> rfl

end Machine
end Sys2Proof
end

section
/-! HEARTBEAT, CLAIM and GRANT (R381-R385). -/
namespace Sys2Proof
namespace Machine

variable {s t u : State} {h : PeerHdr} {i k c term lastTerm lastIndex : Nat} {b : HeartbeatBody} {m : PeerOut} {ok : Bytes → Bool} {op : Nat}

/-! ### HEARTBEAT -/

/-- What a heartbeat says of its sender, remembered. -/
def State.beatHeard (s : State) (i : Nat) (b : HeartbeatBody) : State :=
  s.setLink i { s.link i with commit := b.commit, lastTerm := b.lastTerm, lastIndex := b.lastIndex, hbTerm := b.term, hbFlags := b.flags }

theorem yieldTo_reviewed (s : State) (i : Nat) (b : HeartbeatBody) : Reviewed s (s.yieldTo i b) := by
  unfold State.yieldTo
  split
  · exact .stepDown
  · exact .refl

theorem yieldTo_reviewQuorum (hw : s.grp.writes = []) (i : Nat) (b : HeartbeatBody) : Reviewed s (s.yieldTo i b).reviewQuorum :=
  (yieldTo_reviewed s i b).trans (.reviewQuorum ((yieldTo_reviewed s i b).writes.trans hw))

/-- What a message that has arrived leaves, once it has been taken and the quorum reviewed. -/
theorem heard_moves (hw : s.grp.writes = []) : Moves s (heard s h op ok) ∧ (heard s h op ok).seat = s.seat ∧
    (heard s h op ok).grp.grants = s.grp.grants := by
  have ht : Moves s (s.takeMsg h op ok) := .set rfl rfl rfl rfl rfl rfl rfl rfl
  have hr := heard_reviewed (s := s) (p := h) (op := op) (ok := ok) hw
  exact ⟨ht.trans (.of_reviewed hr), hr.seat, hr.grants⟩

section
variable (hw : s.grp.writes = []) (hs : MessageStands s h 0x10 (heartbeatReads b))
include hw hs

theorem heartbeat_remembered (hn : bitAt b.flags 0 = false ∨ bitAt b.flags 1 = false ∨ b.term < s.term ∨ (s.role = 3 ∧ s.term = b.term)) :
    GoesTo (exec (.heartbeat h b) s) fun t => t.term = s.term ∧ t.role = s.role ∧ (t.link h.sender).commit = b.commit ∧
      (t.link h.sender).lastTerm = b.lastTerm ∧ (t.link h.sender).lastIndex = b.lastIndex ∧ (t.link h.sender).hbTerm = b.term ∧
      (t.link h.sender).hbFlags = b.flags ∧ (t.link h.sender).state = (s.link h.sender).state ∧
      (s.role = 3 → h.sender < s.me → bitAt b.flags 1 = true → bitAt b.flags 3 = false → b.term = s.term → s.grp.commit ≤ b.lastIndex →
        t.grp.stepDown = true) := by
  obtain ⟨hm, hseat, -⟩ := heard_moves (h := h) (op := 0x10) (ok := heartbeatReads b) hw
  generalize hu : heard s h 0x10 (heartbeatReads b) = u at hm hseat
  simp only [State.seat, Prod.mk.injEq] at hseat
  obtain ⟨hrole, hterm, -⟩ := hseat
  have hcond : ¬ (bitAt b.flags 0 && bitAt b.flags 1 && decide ((u.beatHeard h.sender b).term ≤ b.term) &&
      !((u.beatHeard h.sender b).role == 3 && (u.beatHeard h.sender b).term == b.term)) = true := by
    rw [show (u.beatHeard h.sender b).term = s.term from hterm, show (u.beatHeard h.sender b).role = s.role from hrole]
    rcases hn with hn | hn | hn | ⟨hn, hn'⟩
    · simp [hn]
    · simp [hn]
    · simp [Nat.not_le.2 hn]
    · simp [hn, hn']
  have hex : exec (.heartbeat h b) s = .next ((u.beatHeard h.sender b).yieldTo h.sender b).reviewQuorum := by
    rw [exec_heartbeat, execHeartbeat, onLink_acts hs, hu]
    exact congrArg (fun v : State => Host.Outcome.next (v.yieldTo h.sender b).reviewQuorum) (if_neg hcond)
  have hr := yieldTo_reviewQuorum (s := u.beatHeard h.sender b) (hm.writes.trans hw) h.sender b
  obtain ⟨n, hl⟩ := hr.link h.sender
  rw [State.beatHeard, link_setLink_self, ← State.beatHeard] at hl
  refine ⟨_, hex, hr.term.trans hterm, hr.role.trans hrole, by rw [hl], by rw [hl], by rw [hl], by rw [hl], by rw [hl], ?_, fun h3 hi h1 hb3 ht hc => ?_⟩
  · rw [hl]
    exact hm.state h.sender
  · have hy : ((u.beatHeard h.sender b).yieldTo h.sender b).grp.stepDown = true := by
      have hcy : (u.beatHeard h.sender b).role = 3 ∧ h.sender < (u.beatHeard h.sender b).me ∧ bitAt b.flags 1 = true ∧ (!bitAt b.flags 3) = true ∧
          b.term = (u.beatHeard h.sender b).term ∧ (u.beatHeard h.sender b).grp.commit ≤ b.lastIndex :=
        ⟨hrole.trans h3, hm.me.symm ▸ hi, h1, by rw [hb3]; rfl, ht.trans hterm.symm, hm.commit.symm ▸ hc⟩
      rw [State.yieldTo, if_pos hcy]
    exact (Reviewed.reviewQuorum ((yieldTo_reviewed (u.beatHeard h.sender b) _ _).writes.trans (hm.writes.trans hw))).step hy

theorem heartbeat_followed (hwf : Map.wf s.dict = true) (h0 : bitAt b.flags 0 = true) (h1 : bitAt b.flags 1 = true) (hle : s.term ≤ b.term) (h3 : s.role ≠ 3 ∨ s.term ≠ b.term)
    (hr1 : 1 ≤ s.role) (hr4 : s.role ≤ 4) (hc : b.commit ≤ s.grp.commit) (ha : b.commit ≤ s.grp.applied) :
    GoesTo (exec (.heartbeat h b) s) fun t => t.term = b.term ∧ t.sequencer = h.sender ∧ t.role = 1 ∧ t.grp.log = s.grp.log ∧ t.grp.commit = s.grp.commit := by
  obtain ⟨hm, hseat, -⟩ := heard_moves (h := h) (op := 0x10) (ok := heartbeatReads b) hw
  generalize hu : heard s h 0x10 (heartbeatReads b) = u at hm hseat
  simp only [State.seat, Prod.mk.injEq] at hseat
  obtain ⟨hrole, hterm, -⟩ := hseat
  have hrole' : (u.beatHeard h.sender b).role = s.role := hrole
  have hterm' : (u.beatHeard h.sender b).term = s.term := hterm
  have hcond : (bitAt b.flags 0 && bitAt b.flags 1 && decide ((u.beatHeard h.sender b).term ≤ b.term) &&
      !((u.beatHeard h.sender b).role == 3 && (u.beatHeard h.sender b).term == b.term)) = true := by
    rw [hterm', hrole', h0, h1]
    simp only [Bool.true_and, Bool.and_eq_true, decide_eq_true_eq, Bool.not_eq_true', Bool.and_eq_false_iff, beq_eq_false_iff_ne]
    exact ⟨hle, h3⟩
  obtain ⟨hf, hfs⟩ := follow_spec (s := u.beatHeard h.sender b) (i := h.sender) (b := b) (hm.wf hwf) (hm.writes.trans hw) (hterm'.trans_le hle)
    (by rw [hterm', hrole']; exact h3) (hr1.trans hrole'.ge) (hrole'.le.trans hr4) (hc.trans hm.commit.ge) (ha.trans hm.applied.ge)
  have hex : exec (.heartbeat h b) s = .next (((u.beatHeard h.sender b).follow h.sender b).yieldTo h.sender b).reviewQuorum := by
    rw [exec_heartbeat, execHeartbeat, onLink_acts hs, hu]
    exact congrArg (fun v : State => Host.Outcome.next (v.yieldTo h.sender b).reviewQuorum) (if_pos hcond)
  have hr := yieldTo_reviewQuorum (s := (u.beatHeard h.sender b).follow h.sender b) (hf.writes.trans (hm.writes.trans hw)) h.sender b
  simp only [State.seat, Prod.mk.injEq] at hfs
  obtain ⟨hfr, hft, hfq⟩ := hfs
  exact ⟨_, hex, hr.term.trans hft, hr.sequencer.trans hfq, hr.role.trans hfr, hr.log.trans (hf.log.trans hm.log), hr.commit.trans (hf.commit.trans hm.commit)⟩

end

/-! ### CLAIM -/

theorem stood_ne (r : Nat) : stood r ≠ 2 ∧ stood r ≠ 3 := by
  rw [stood]
  split <;> omega

/-- A member that takes a claim's term and gives its grant, both in BBRAM (R383). -/
def State.granting (s : State) (term : Nat) : State :=
  { (s.adoptTerm term).setSequencer 0xFF with grp := { ((s.adoptTerm term).setSequencer 0xFF).grp with grantedIn := term } }

theorem granting_spec (hwf : Map.wf s.dict = true) (hw : s.grp.writes = []) (hlt : s.term < term) : Moves s (s.granting term) ∧
    (s.granting term).seat = (stood s.role, term, 0xFF) := by
  have ha : Moves s (s.adoptTerm term) := .adoptTerm hw term
  have hseat := seat_adoptTerm hwf hw hlt
  simp only [State.seat, Prod.mk.injEq] at hseat
  refine ⟨(ha.trans (.setSequencer _)).trans (.set rfl rfl rfl rfl rfl rfl rfl rfl), ?_⟩
  refine (seat_congr (s := (s.adoptTerm term).setSequencer 0xFF) rfl).trans ((seat_setSequencer (ha.wf hwf) 0xFF).trans ?_)
  rw [hseat.1, hseat.2.1]

section
variable {claimant : Nat} (hs : MessageStands s h 0x13 fun o => o == claimBody term claimant lastTerm lastIndex)
include hs

theorem claim_refused (hg : ¬ (claimant = h.sender ∧
    (heard s h 0x13 fun o => o == claimBody term claimant lastTerm lastIndex).grants term claimant lastTerm lastIndex = true)) :
    exec (.claim h term claimant lastTerm lastIndex) s = .next ((heard s h 0x13 fun o => o == claimBody term claimant lastTerm lastIndex).post
      (.grant h.sender term false (heard s h 0x13 fun o => o == claimBody term claimant lastTerm lastIndex).grp.last.1
        (heard s h 0x13 fun o => o == claimBody term claimant lastTerm lastIndex).grp.last.2)) := by
  rw [exec_claim, execClaim, onLink_acts hs]
  exact congrArg Host.Outcome.next (if_neg hg)

theorem claim_granted (hwf : Map.wf s.dict = true) (hw : s.grp.writes = []) (hg : claimant = h.sender ∧
    (heard s h 0x13 fun o => o == claimBody term claimant lastTerm lastIndex).grants term claimant lastTerm lastIndex = true) :
    GoesTo (exec (.claim h term claimant lastTerm lastIndex) s) fun t => t.term = term ∧ t.grp.grantedIn = term ∧ t.sequencer = 0xFF ∧ t.role ≠ 2 ∧ t.role ≠ 3 ∧
      Posted t (.grant h.sender term true s.grp.last.1 s.grp.last.2) := by
  obtain ⟨hm, -, -⟩ := heard_moves (h := h) (op := 0x13) (ok := fun o => o == claimBody term claimant lastTerm lastIndex) hw
  generalize hu : (heard s h 0x13 fun o => o == claimBody term claimant lastTerm lastIndex) = u at hm hg
  have hlt : u.term < term := by
    have hgr := hg.2
    simp only [State.grants, Bool.and_eq_true, decide_eq_true_eq] at hgr
    exact hgr.1.1.1.1.1
  obtain ⟨hgm, hgs⟩ := granting_spec (hm.wf hwf) (hm.writes.trans hw) hlt
  have hex : exec (.claim h term claimant lastTerm lastIndex) s =
      .next ((u.granting term).post (.grant h.sender term true (u.granting term).grp.last.1 (u.granting term).grp.last.2)).reviewQuorum := by
    rw [exec_claim, execClaim, onLink_acts hs, hu]
    exact congrArg Host.Outcome.next (if_pos hg)
  rw [hgm.last, hm.last] at hex
  have hp : Reviewed (u.granting term) ((u.granting term).post (.grant h.sender term true s.grp.last.1 s.grp.last.2)) := .post
  have hq := Reviewed.reviewQuorum (hp.writes.trans (hgm.writes.trans (hm.writes.trans hw)))
  have hr := hp.trans hq
  simp only [State.seat, Prod.mk.injEq] at hgs
  obtain ⟨hgr, hgt, hgq⟩ := hgs
  refine ⟨_, hex, hr.term.trans hgt, hr.grantedIn.trans rfl, hr.sequencer.trans hgq, ?_, ?_, hq.posted (posted_post _ _)⟩
  · rw [hr.role, hgr]
    exact (stood_ne _).1
  · rw [hr.role, hgr]
    exact (stood_ne _).2

end

/-! ### A claimant that becomes sequencer -/

/-- The last entry of a log that is kept when what has been applied is trimmed. -/
theorem trim_getLast {g : Group} {l : List GEntry} {e : GEntry} (hl : g.log = l ++ [e]) (he : 0 < e.index) : g.trim.log.getLast? = some e := by
  have hlast : g.last = (e.term, e.index) := by rw [Group.last, hl, List.getLast?_concat]
  unfold Group.trim
  rw [hlast]
  dsimp only
  split
  · rw [hl, List.getLast?_concat]
  · dsimp only
    have hk : decide (Nat.min g.applied (e.index - 1024) < e.index) = true :=
      decide_eq_true ((Nat.min_le_right _ _).trans_lt (by omega))
    rw [hl, List.filter_append, List.filter_cons_of_pos (p := fun x : GEntry => decide (Nat.min g.applied (e.index - 1024) < x.index)) hk]
    exact List.getLast?_concat

theorem applyEntry_applied {e : GEntry} (h : e.index ≤ s.grp.applied) : s.applyEntry e = s := if_pos (.inr h)

/-- TERM_START changes nothing when it is applied, but what has been applied. -/
theorem applyEntry_termStart {e : GEntry} (hk : e.kind = 1) (hw : s.grp.writes = []) :
    ∃ a, s.applyEntry e = { s with grp := { s.grp with applied := a } } := by
  unfold State.applyEntry
  split
  · exact ⟨s.grp.applied, rfl⟩
  · refine ⟨e.index, ?_⟩
    rw [hk]
    dsimp only
    rw [State.endApplied]
    dsimp only
    rw [hw]
    rfl

/-- The commit of a TERM_START, where all before it has been applied. -/
theorem commitTo_termStart {l : List GEntry} {e : GEntry} (hl : s.grp.log = l ++ [e]) (ha : ∀ x ∈ l, x.index ≤ s.grp.applied) (hk : e.kind = 1)
    (he : 0 < e.index) (hw : s.grp.writes = []) (c : Nat) : (s.commitTo c).dict = s.dict ∧ (s.commitTo c).grp.log.getLast? = some e := by
  unfold State.commitTo
  split
  · exact ⟨rfl, by rw [hl]; exact List.getLast?_concat⟩
  · extract_lets _ t t'
    have hkeep : (l.filter fun x : GEntry => decide (x.index ≤ c)).foldl (fun u e => u.applyEntry e) t = t :=
      List.foldlRecOn (motive := fun u => u = t) _ _ rfl fun u hu x hx => by
        rw [hu]
        exact applyEntry_applied (ha x (List.mem_filter.1 hx).1)
    have ht' : ∃ a, t' = { t with grp := { t.grp with applied := a } } := by
      have hlog : t.grp.log = l ++ [e] := hl
      change ∃ a, (t.grp.log.filter fun x : GEntry => decide (x.index ≤ c)).foldl (fun u e => u.applyEntry e) t = _
      rw [hlog, List.filter_append, List.foldl_append, hkeep]
      by_cases hc : decide (e.index ≤ c) = true
      · rw [List.filter_cons_of_pos (p := fun x : GEntry => decide (x.index ≤ c)) hc]
        exact applyEntry_termStart hk hw
      · rw [List.filter_cons_of_neg (p := fun x : GEntry => decide (x.index ≤ c)) hc]
        exact ⟨t.grp.applied, rfl⟩
    obtain ⟨a, ha'⟩ := ht'
    rw [ha']
    exact ⟨rfl, trim_getLast (g := { t.grp with applied := a }) hl he⟩

theorem store_log (g : Group) (e : GEntry) : (g.store e).log = g.log ++ [e] := by
  unfold Group.store
  dsimp only
  split
  · rfl
  · split <;> rfl

theorem makeKek_grp (s : State) : ∃ k, s.makeKek.grp = { s.grp with kek := k } := by
  unfold State.makeKek
  split
  · exact ⟨s.grp.kek, rfl⟩
  · split
    · next t b he =>
      have hg : t.grp = s.grp := (Within.drawFrom (k := Machine.parts [.ent]) rfl .refl he).same .grp rfl
      exact ⟨some b, by rw [← hg]⟩
    · exact ⟨_, rfl⟩
end Machine
end Sys2Proof
end

section
/-! GRANT and HEARTBEAT_INSTANT: a quorum of grants makes the sequencer, and each instant a heartbeat goes out (R381-R384). -/
namespace Sys2Proof
namespace Machine

variable {s t u : State} {h : PeerHdr} {i k c term lastTerm lastIndex : Nat} {b : HeartbeatBody} {m : PeerOut} {f : Bool}

theorem store_kept (g : Group) (e : GEntry) : (g.store e).applied = g.applied ∧ (g.store e).writes = g.writes := by
  unfold Group.store
  dsimp only
  split
  · exact ⟨rfl, rfl⟩
  · split <;> exact ⟨rfl, rfl⟩

theorem Moves.makeKek : Moves s s.makeKek := by
  obtain ⟨k, hk⟩ := makeKek_grp s
  have hw : Within (Machine.parts [.free, .ent, .grp]) s s.makeKek := .makeKek rfl .refl
  have hd : s.makeKek.dict = s.dict := hw.same .dict rfl
  exact ⟨.of_grp (by rw [hk]) (by rw [hk]), hw.mono rfl, fun h => hd ▸ h, fun i a _ _ => State.rd_congr hd i a, by rw [hk], by rw [hk], by rw [hk], by rw [hk],
    by rw [hk], by rw [hk]⟩

theorem Reviewed.postAppend (s : State) (dst i : Nat) : Reviewed s (s.postAppend dst i) := foldl fun _ _ => post

/-- The group of a member that begins a term as its sequencer. -/
def Group.begun (g : Group) : Group :=
  { g with grants := [], stepDown := false, stepAt := 0, served := [], links := Map.mapVals (fun (l : Link) => { l with stored := 0 }) g.links }

/-- A claimant with a quorum of grants is sequencer of its term, and its log ends with TERM_START (R383). -/
theorem becomeSequencer_spec (hwf : Map.wf s.dict = true) (hw : s.grp.writes = []) (ha : ∀ e ∈ s.grp.log, e.index ≤ s.grp.applied) :
    s.becomeSequencer.seat = (3, s.term, s.me) ∧ s.becomeSequencer.grp.log.getLast? = some ⟨s.term, s.grp.last.2 + 1, 1, s.me, []⟩ := by
  have h1 : Moves s (s.wr 0x4401 1 3) := .wr (by decide)
  have hm : Moves s ((s.wr 0x4401 1 3).setSequencer s.me).makeKek := (h1.trans (.setSequencer _)).trans .makeKek
  have hs : ((s.wr 0x4401 1 3).setSequencer s.me).makeKek.seat = (3, s.term, s.me) := by
    have hr := seat_wr_role hwf 3
    simp only [State.seat, Prod.mk.injEq] at hr
    refine (seat_congr ((Within.makeKek (k := Machine.parts [.free, .ent, .grp]) rfl .refl).same .dict rfl)).trans ?_
    rw [seat_setSequencer (h1.wf hwf), hr.1, hr.2.1]
  have heq : s.becomeSequencer = State.tryCommit (State.reviewQuorum (State.appendEntry { ((s.wr 0x4401 1 3).setSequencer s.me).makeKek with
      grp := ((s.wr 0x4401 1 3).setSequencer s.me).makeKek.grp.begun } 1 ((s.wr 0x4401 1 3).setSequencer s.me).makeKek.me []).1) := rfl
  rw [heq]
  revert hm hs
  generalize ((s.wr 0x4401 1 3).setSequencer s.me).makeKek = v
  intro hm hs
  simp only [State.seat, Prod.mk.injEq] at hs
  obtain ⟨hrole, hterm, hseq⟩ := hs
  have hlast : v.grp.begun.last = s.grp.last := hm.last
  have hentry : (⟨v.term, v.grp.begun.last.2 + 1, 1, v.me, []⟩ : GEntry) = ⟨s.term, s.grp.last.2 + 1, 1, s.me, []⟩ := by rw [hterm, hlast, hm.me]
  generalize he : (⟨s.term, s.grp.last.2 + 1, 1, s.me, []⟩ : GEntry) = e at hentry ⊢
  have hr₁ : Reviewed { v with grp := v.grp.begun.store e } (State.appendEntry { v with grp := v.grp.begun } 1 v.me []).1 := by
    have hap : (State.appendEntry { v with grp := v.grp.begun } 1 v.me []).1 = (State.peersUp { v with grp := v.grp.begun.store e }).foldl
        (fun u i => u.postAppend i e.index) { v with grp := v.grp.begun.store e } := by
      rw [← hentry]
      rfl
    rw [hap]
    exact .foldl fun _ _ => .postAppend _ _ _
  have hkept := store_kept v.grp.begun e
  have hw₁ : (State.appendEntry { v with grp := v.grp.begun } 1 v.me []).1.grp.writes = [] := hr₁.writes.trans (hkept.2.trans (hm.writes.trans hw))
  have hr := hr₁.trans (.reviewQuorum hw₁)
  generalize hu : State.reviewQuorum (State.appendEntry { v with grp := v.grp.begun } 1 v.me []).1 = u at hr
  have hlog : u.grp.log = s.grp.log ++ [e] := hr.log.trans ((store_log _ _).trans (by rw [show v.grp.begun.log = s.grp.log from hm.log]))
  have happ : u.grp.applied = s.grp.applied := hr.applied.trans (hkept.1.trans hm.applied)
  have hc := commitTo_termStart hlog (fun x hx => happ ▸ ha x hx) (by rw [← he]) (by rw [← he]; exact Nat.succ_pos _)
    (hr.writes.trans (hkept.2.trans (hm.writes.trans hw))) u.commitFound
  have hrole' : u.role = 3 := hr.role.trans hrole
  rw [State.tryCommit, if_pos hrole']
  refine ⟨(seat_congr hc.1).trans (hr.seat.trans ?_), hc.2⟩
  rw [State.seat, show State.role { v with grp := v.grp.begun.store e } = 3 from hrole, show State.term { v with grp := v.grp.begun.store e } = s.term from hterm,
    show State.sequencer { v with grp := v.grp.begun.store e } = s.me from hseq]

/-! ### GRANT -/

/-- What a GRANT says of its sender's log, remembered. -/
def State.grantHeard (s : State) (i lastTerm lastIndex : Nat) : State := s.setLink i { s.link i with lastTerm := lastTerm, lastIndex := lastIndex }

/-- The grants of this member's claim with one more. -/
def Group.grantsWith (g : Group) (i : Nat) : List Nat := if g.grants.contains i then g.grants else g.grants ++ [i]

section
variable (hs : MessageStands s h 0x14 fun o => o == grantBody term f lastTerm lastIndex)
include hs

theorem grant_late (hw : s.grp.writes = []) (hr : s.role ≠ 2 ∨ s.term ≠ term) : exec (.grant h term f lastTerm lastIndex) s =
    .next (heard s h 0x14 fun o => o == grantBody term f lastTerm lastIndex) := by
  obtain ⟨-, hseat, -⟩ := heard_moves (h := h) (op := 0x14) (ok := fun o => o == grantBody term f lastTerm lastIndex) hw
  simp only [State.seat, Prod.mk.injEq] at hseat
  rw [exec_grant, execGrant, onLink_acts hs]
  exact congrArg Host.Outcome.next (if_pos (by rw [hseat.1, hseat.2.1]; exact hr))

end

section
variable (hw : s.grp.writes = []) (hr : s.role = 2) (ht : s.term = term)
include hw hr ht

theorem grant_counted (hs : MessageStands s h 0x14 fun o => o == grantBody term true lastTerm lastIndex) :
    exec (.grant h term true lastTerm lastIndex) s = .next (State.countGrants
      { (heard s h 0x14 fun o => o == grantBody term true lastTerm lastIndex).grantHeard h.sender lastTerm lastIndex with
        grp := { ((heard s h 0x14 fun o => o == grantBody term true lastTerm lastIndex).grantHeard h.sender lastTerm lastIndex).grp with
          grants := s.grp.grantsWith h.sender } }) := by
  obtain ⟨-, hseat, hg⟩ := heard_moves (h := h) (op := 0x14) (ok := fun o => o == grantBody term true lastTerm lastIndex) hw
  simp only [State.seat, Prod.mk.injEq] at hseat
  rw [exec_grant, execGrant, onLink_acts hs, Group.grantsWith, ← hg]
  refine congrArg Host.Outcome.next ((if_neg ?_).trans (if_pos rfl))
  rw [hseat.1, hseat.2.1]
  exact not_or.2 ⟨not_not.2 hr, not_not.2 ht⟩

theorem grant_refused (hs : MessageStands s h 0x14 fun o => o == grantBody term false lastTerm lastIndex) :
    exec (.grant h term false lastTerm lastIndex) s = .next (
      if (!atLeast s.grp.last (lastTerm, lastIndex)) = true then
        State.fetchBehind { (heard s h 0x14 fun o => o == grantBody term false lastTerm lastIndex).grantHeard h.sender lastTerm lastIndex with
          grp := { ((heard s h 0x14 fun o => o == grantBody term false lastTerm lastIndex).grantHeard h.sender lastTerm lastIndex).grp with needFetch := true } }
      else (heard s h 0x14 fun o => o == grantBody term false lastTerm lastIndex).grantHeard h.sender lastTerm lastIndex) := by
  obtain ⟨hm, hseat, -⟩ := heard_moves (h := h) (op := 0x14) (ok := fun o => o == grantBody term false lastTerm lastIndex) hw
  simp only [State.seat, Prod.mk.injEq] at hseat
  rw [exec_grant, execGrant, onLink_acts hs, ← hm.last]
  refine congrArg Host.Outcome.next ((if_neg ?_).trans (if_neg (by decide)))
  rw [hseat.1, hseat.2.1]
  exact not_or.2 ⟨not_not.2 hr, not_not.2 ht⟩

/-- A grant that makes the quorum makes the sequencer. -/
theorem grant_elects (hs : MessageStands s h 0x14 fun o => o == grantBody term true lastTerm lastIndex) (hwf : Map.wf s.dict = true)
    (ha : ∀ e ∈ s.grp.log, e.index ≤ s.grp.applied) (hq : s.quorum (s.grp.grantsWith h.sender) = true) :
    GoesTo (exec (.grant h term true lastTerm lastIndex) s) fun t => t.role = 3 ∧ t.term = term ∧ t.sequencer = s.me ∧
      t.grp.log.getLast? = some ⟨term, s.grp.last.2 + 1, 1, s.me, []⟩ := by
  obtain ⟨hm, hseat, -⟩ := heard_moves (h := h) (op := 0x14) (ok := fun o => o == grantBody term true lastTerm lastIndex) hw
  have hex := grant_counted hw hr ht hs
  generalize hu : (heard s h 0x14 fun o => o == grantBody term true lastTerm lastIndex) = u at hm hseat hex
  simp only [State.seat, Prod.mk.injEq] at hseat
  generalize hv : ({ u.grantHeard h.sender lastTerm lastIndex with
    grp := { (u.grantHeard h.sender lastTerm lastIndex).grp with grants := s.grp.grantsWith h.sender } } : State) = v at hex
  have hdict : v.dict = u.dict := by rw [← hv]; rfl
  have hgrants : v.grp.grants = s.grp.grantsWith h.sender := by rw [← hv]
  have hlog : v.grp.log = s.grp.log := by rw [← hv]; exact hm.log
  have happ : v.grp.applied = s.grp.applied := by rw [← hv]; exact hm.applied
  have hwr : v.grp.writes = [] := by rw [← hv]; exact hm.writes.trans hw
  have hlast : v.grp.last = s.grp.last := by rw [← hv]; exact hm.last
  have hme : v.me = s.me := by rw [← hv]; exact hm.me
  have hterm : v.term = term := (State.rd_congr hdict _ _).trans (hseat.2.1.trans ht)
  have hqv : v.quorum v.grp.grants = true := by
    rw [hgrants, quorum_congr (State.rd_congr hdict _ _) (fun i => State.rd_congr hdict _ _), hm.quorum]
    exact hq
  obtain ⟨hseat', hlog'⟩ := becomeSequencer_spec (s := v) (hdict ▸ hm.wf hwf) hwr (by rw [hlog, happ]; exact ha)
  rw [State.countGrants, if_pos hqv] at hex
  simp only [State.seat, Prod.mk.injEq] at hseat'
  rw [hterm, hlast, hme] at hlog'
  exact ⟨_, hex, hseat'.1, hseat'.2.1.trans hterm, hseat'.2.2.trans hme, hlog'⟩

/-- A grant short of the quorum is counted. -/
theorem grant_awaits (hs : MessageStands s h 0x14 fun o => o == grantBody term true lastTerm lastIndex)
    (hq : s.quorum (s.grp.grantsWith h.sender) ≠ true) : exec (.grant h term true lastTerm lastIndex) s = .next
      { (heard s h 0x14 fun o => o == grantBody term true lastTerm lastIndex).grantHeard h.sender lastTerm lastIndex with
        grp := { ((heard s h 0x14 fun o => o == grantBody term true lastTerm lastIndex).grantHeard h.sender lastTerm lastIndex).grp with
          grants := s.grp.grantsWith h.sender } } := by
  obtain ⟨hm, -, -⟩ := heard_moves (h := h) (op := 0x14) (ok := fun o => o == grantBody term true lastTerm lastIndex) hw
  refine (grant_counted hw hr ht hs).trans (congrArg Host.Outcome.next (if_neg ?_))
  have hqu := hm.quorum (s.grp.grantsWith h.sender)
  revert hqu
  generalize (heard s h 0x14 fun o => o == grantBody term true lastTerm lastIndex) = u
  intro hqu hc
  exact hq (hqu.symm.trans hc)

/-- A refusal by a member whose log goes further has its entries fetched. -/
theorem grant_behind (hs : MessageStands s h 0x14 fun o => o == grantBody term false lastTerm lastIndex)
    (hl : ¬ atLeast s.grp.last (lastTerm, lastIndex) = true) : GoesTo (exec (.grant h term false lastTerm lastIndex) s) fun t =>
      (t.link h.sender).lastTerm = lastTerm ∧ (t.link h.sender).lastIndex = lastIndex ∧ t.role = 2 ∧ t.term = term := by
  obtain ⟨hm, hseat, -⟩ := heard_moves (h := h) (op := 0x14) (ok := fun o => o == grantBody term false lastTerm lastIndex) hw
  have hex := grant_refused hw hr ht hs
  generalize hu : (heard s h 0x14 fun o => o == grantBody term false lastTerm lastIndex) = u at hm hseat hex
  simp only [State.seat, Prod.mk.injEq] at hseat
  rw [if_pos (by simpa using hl)] at hex
  have hn : Moves (u.grantHeard h.sender lastTerm lastIndex) { u.grantHeard h.sender lastTerm lastIndex with
      grp := { (u.grantHeard h.sender lastTerm lastIndex).grp with needFetch := true } } := .set rfl rfl rfl rfl rfl rfl rfl rfl
  have hf := hn.trans .fetchBehind
  obtain ⟨n, hlink⟩ := hf.link h.sender
  rw [State.grantHeard, link_setLink_self, ← State.grantHeard] at hlink
  have hd : ∀ v : State, v.fetchBehind.dict = v.dict := fun v => by
    unfold State.fetchBehind
    dsimp only
    split
    · rfl
    · split
      · split <;> rfl
      · rfl
  have hrd : ∀ i a, (State.fetchBehind { u.grantHeard h.sender lastTerm lastIndex with
      grp := { (u.grantHeard h.sender lastTerm lastIndex).grp with needFetch := true } }).rd i a = u.rd i a := State.rd_congr (hd _)
  exact ⟨_, hex, by rw [hlink], by rw [hlink], (hrd _ _).trans (hseat.1.trans hr), (hrd _ _).trans (hseat.2.1.trans ht)⟩

end
end Machine
end Sys2Proof
end

section
/-! HEARTBEAT_INSTANT: the links that fall silent, a claim, and the heartbeats (R379, R381, R383). -/
namespace Sys2Proof
namespace Machine

variable {s t u : State} {i k : Nat} {m : PeerOut}

/-- From `s` to `t` messages go out and links are made anew, and no link that was unreachable is reached by it. -/
structure Sends (s t : State) : Prop where
  within : Within (parts [.free, .tx, .grp]) s t
  out : s.grp.out <+: t.grp.out
  grp : t.grp = { s.grp with links := t.grp.links, out := t.grp.out, stepAt := t.grp.stepAt }
  down : ∀ k, (s.link k).state = 3 → (t.link k).state = 3

namespace Sends

theorem refl : Sends s s := ⟨.refl, List.prefix_rfl, rfl, fun _ => id⟩

theorem trans (h : Sends s t) (g : Sends t u) : Sends s u :=
  ⟨h.within.trans g.within, h.out.trans g.out, g.grp.trans (by rw [h.grp]), fun k hk => g.down k (h.down k hk)⟩

theorem foldl {α : Type} {f : State → α → State} {l : List α} (hf : ∀ v x, Sends v (f v x)) : Sends s (l.foldl f s) :=
  List.foldlRecOn (motive := Sends s) _ _ refl fun v hv x _ => hv.trans (hf v x)

theorem post : Sends s (s.post m) :=
  ⟨.post rfl .refl, Posting.post.out, rfl, fun k hk => (Posting.post.state k).trans hk⟩

theorem posted (h : Sends s t) (hm : Posted s m) : Posted t m := by
  obtain ⟨g, n, hmem⟩ := hm
  exact ⟨g, n, h.out.subset hmem⟩

theorem dict (h : Sends s t) : t.dict = s.dict := h.within.same .dict rfl

/-- A link whose numbers run out is up, so that making it again unmakes no unreachable one. -/
theorem renew : Sends s (if s.me < i ∧ (s.link i).renewDue = true then s.sendHello i else s) := by
  split
  · next h =>
    have hs := sendHello_sent s i
    refine ⟨hs.within, List.prefix_append _ _, rfl, fun k hk => ?_⟩
    by_cases hki : k = i
    · have hdue := h.2
      rw [Link.renewDue, ← hki, hk] at hdue
      exact absurd hdue (by simp)
    · rw [hs.others k hki]
      exact hk
  · exact refl

theorem renewLinks : Sends s s.renewLinks := foldl fun _ _ => renew

end Sends

/-- Of messages posted one by one, each was made from a state that the posts before it left. -/
theorem foldl_posted {f : State → Nat → PeerOut} : ∀ {l : List Nat} {s : State}, k ∈ l →
    ∃ w, Reviewed s w ∧ Posted (l.foldl (fun u i => u.post (f u i)) s) (f w k) := by
  intro l
  induction l with
  | nil => exact fun h => absurd h List.not_mem_nil
  | cons x l ih =>
    intro s h
    rcases List.mem_cons.1 h with rfl | h
    · have hp : Posting (s.post (f s k)) (l.foldl (fun u i => u.post (f u i)) (s.post (f s k))) := .foldl fun _ _ => .post
      exact ⟨s, .refl, hp.posted (posted_post _ _)⟩
    · obtain ⟨w, hw, hp⟩ := ih (s := s.post (f s x)) h
      exact ⟨w, Reviewed.post.trans hw, hp⟩

/-- The heartbeats that go out, before a sequencer that steps down starts its millisecond. -/
def State.beatsSent (s : State) : State := s.linksUp.foldl (fun u i => u.post (.heartbeat i u.beat)) s

theorem sendBeats_sends (s : State) : Sends s s.sendBeats ∧ s.sendBeats.grp.links = s.beatsSent.grp.links ∧ s.sendBeats.grp.out = s.beatsSent.grp.out := by
  have hs : Sends s s.beatsSent := .foldl fun _ _ => .post
  have hset : ∀ (v : State) n, Sends v { v with grp := { v.grp with stepAt := n } } := fun v n => ⟨.set rfl rfl .refl, List.prefix_rfl, rfl, fun _ => id⟩
  rw [State.sendBeats, ← State.beatsSent]
  dsimp only
  split
  · exact ⟨hs.trans (hset _ _), rfl, rfl⟩
  · exact ⟨hs, rfl, rfl⟩

/-- A heartbeat goes out on every link that carries frames. -/
theorem sendBeats_posted (hk : k < s.memberCount) (hm : some k ≠ s.myIndex) (hl : (s.sendBeats.link k).state = 2 ∨ (s.sendBeats.link k).state = 3) :
    ∃ b, Posted s.sendBeats (.heartbeat k b) ∧ b.term = s.term ∧ b.commit = s.grp.commit := by
  obtain ⟨-, hlinks, hout⟩ := sendBeats_sends s
  have hp : Posting s s.beatsSent := .foldl fun _ _ => .post
  rw [link_congr hlinks, hp.state] at hl
  have hmem : k ∈ s.linksUp := List.mem_filter.2 ⟨List.mem_range.2 hk, by simpa [hm] using hl⟩
  obtain ⟨w, hw, hpost⟩ := foldl_posted (f := fun u i => .heartbeat i u.beat) (s := s) hmem
  refine ⟨w.beat, ?_, hw.term, hw.commit⟩
  obtain ⟨g, n, hg⟩ := hpost
  exact ⟨g, n, hout ▸ hg⟩

/-! ### A claim -/

/-- The state of a member that claims the next term, before its claims go out (R383). -/
def State.claiming (s : State) : State :=
  { (((if s.role = 3 then s.endUncommitted else s).wr 0x4401 3 (s.term + 1)).wr 0x4401 1 2).setSequencer 0xFF with
    grp := { ((((if s.role = 3 then s.endUncommitted else s).wr 0x4401 3 (s.term + 1)).wr 0x4401 1 2).setSequencer 0xFF).grp with
      grantedIn := s.term + 1
      grants := [((((if s.role = 3 then s.endUncommitted else s).wr 0x4401 3 (s.term + 1)).wr 0x4401 1 2).setSequencer 0xFF).me]
      stepDown := false
      stepAt := 0 } }

/-- The claims have gone out. -/
def State.claimsSent (s : State) : State :=
  s.claiming.peersUp.foldl (fun u i => u.post (.claim i (s.term + 1) u.me u.grp.last.1 u.grp.last.2)) s.claiming

theorem claimTerm_eq (s : State) : s.claimTerm = s.claimsSent.reviewQuorum.countGrants := rfl

section
variable (hwf : Map.wf s.dict = true) (hw : s.grp.writes = [])
include hwf hw

theorem claiming_spec : Moves s s.claiming ∧ s.claiming.seat = (2, s.term + 1, 0xFF) ∧ s.claiming.grp.grantedIn = s.term + 1 ∧ s.claiming.grp.grants = [s.me] := by
  have h₀ : Reviewed s (if s.role = 3 then s.endUncommitted else s) := by
    split
    · exact .endUncommitted hw
    · exact .refl
  unfold State.claiming
  generalize (if s.role = 3 then s.endUncommitted else s) = t₀ at h₀
  have h₁ : Moves s (t₀.wr 0x4401 3 (s.term + 1)) := (Moves.of_reviewed h₀).trans (.wr (by decide))
  have h₂ := h₁.trans (.wr (a := 1) (v := 2) (by decide))
  have h₃ := h₂.trans (.setSequencer 0xFF)
  have hs₁ := seat_wr_term (h₀.wf hwf) (s.term + 1)
  have hs₂ := seat_wr_role (h₁.wf hwf) 2
  simp only [State.seat, Prod.mk.injEq] at hs₁ hs₂
  have hs₃ := seat_setSequencer (h₂.wf hwf) 0xFF
  rw [hs₂.1, hs₂.2.1, hs₁.2.1] at hs₃
  exact ⟨h₃.trans (.set rfl rfl rfl rfl rfl rfl rfl rfl), (seat_congr rfl).trans hs₃, rfl, congrArg (fun n => [n]) h₃.me⟩

/-- A claimant whose own grant makes no quorum waits for the others'. -/
theorem claimTerm_spec (hq : s.quorum [s.me] = false) : s.claimTerm.seat = (2, s.term + 1, 0xFF) ∧ s.claimTerm.grp.grantedIn = s.term + 1 ∧
    s.claimTerm.grp.grants = [s.me] ∧ ∀ k ∈ s.peersUp, Posted s.claimTerm (.claim k (s.term + 1) s.me s.grp.last.1 s.grp.last.2) := by
  obtain ⟨hm, hseat, hin, hgr⟩ := claiming_spec hwf hw
  have hp : Reviewed s.claiming s.claimsSent := .foldl fun _ _ => .post
  have hrev := Reviewed.reviewQuorum (hp.writes.trans (hm.writes.trans hw))
  have hr := hp.trans hrev
  have heq : s.claimTerm = s.claimsSent.reviewQuorum := by
    rw [claimTerm_eq, State.countGrants, hr.grants, hgr, hr.quorum, hm.quorum, hq, if_neg (by decide)]
  rw [heq]
  refine ⟨hr.seat.trans hseat, hr.grantedIn.trans hin, hr.grants.trans hgr, fun k hk => ?_⟩
  obtain ⟨w, hw', hpost⟩ := foldl_posted (f := fun u i => .claim i (s.term + 1) u.me u.grp.last.1 u.grp.last.2) (s := s.claiming) (hm.peersUp ▸ hk)
  rw [hw'.me, hm.me, hw'.last, hm.last] at hpost
  exact hrev.posted hpost

end

/-! ### HEARTBEAT_INSTANT -/

/-- The state at an instant, each link one instant more without a frame (R381). -/
def State.instant (s : State) : State :=
  { s with grp := { s.grp with lastInstant := s.clk.datum / 1000000, links := Map.mapVals Link.quiet s.grp.links } }

theorem link_instant (hk : (s.link k).state = 2) : s.instant.link k = (s.link k).quiet := by
  rw [State.link, Map.getD] at hk
  rw [State.link, State.link, State.instant, Map.getD, Map.getD, Map.find_mapVals]
  cases hf : Map.find s.grp.links k with
  | some l => rfl
  | none =>
    rw [hf] at hk
    exact absurd hk (by decide)

theorem quiet_state {l : Link} (h2 : l.state = 2) (hs : 2 ≤ l.silent) : l.quiet.state = 3 := by
  rw [Link.quiet, if_neg (fun h => h.1 h2)]
  exact if_pos (by omega)

theorem fetchBehind_kept (s : State) : s.fetchBehind.dict = s.dict ∧ s.fetchBehind.grp.lastInstant = s.grp.lastInstant := by
  unfold State.fetchBehind
  dsimp only
  split
  · exact ⟨rfl, rfl⟩
  · split
    · split <;> exact ⟨rfl, rfl⟩
    · exact ⟨rfl, rfl⟩

theorem instant_reviewed (hw : s.grp.writes = []) : Moves s.instant s.instant.reviewQuorum.fetchBehind ∧
    s.instant.reviewQuorum.fetchBehind.seat = s.seat ∧ s.instant.reviewQuorum.fetchBehind.grp.lastInstant = s.clk.datum / 1000000 := by
  have hr : Reviewed s.instant s.instant.reviewQuorum := .reviewQuorum hw
  obtain ⟨hd, hl⟩ := fetchBehind_kept s.instant.reviewQuorum
  exact ⟨(Moves.of_reviewed hr).trans .fetchBehind, (seat_congr hd).trans hr.seat, hl.trans ((congrArg Group.lastInstant hr.grp).trans rfl)⟩

section
variable (hr : s.runs = true) (hm : s.myIndex ≠ none) (hl : s.grp.lastInstant < s.clk.datum / 1000000)
include hr hm hl

theorem heartbeatInstant_eq : exec .heartbeatInstant s = .next
    (if s.instant.reviewQuorum.fetchBehind.mayClaim = true then s.instant.reviewQuorum.fetchBehind.claimTerm
      else s.instant.reviewQuorum.fetchBehind).renewLinks.sendBeats := by
  have hc : ¬ ((!s.runs) = true ∨ s.myIndex.isNone = true ∨ s.clk.datum / 1000000 ≤ s.grp.lastInstant) := by
    rintro (h | h | h)
    · exact absurd h (by rw [hr]; decide)
    · exact hm (Option.isNone_iff_eq_none.1 h)
    · omega
  rw [exec_heartbeatInstant, execHeartbeatInstant]
  exact if_neg hc

variable (hw : s.grp.writes = [])
include hw

/-- An instant at which no claim is made: silent peers become unreachable, and a heartbeat goes out on every link. -/
theorem heartbeatInstant_beats (hn : s.instant.reviewQuorum.fetchBehind.mayClaim = false) : GoesTo (exec .heartbeatInstant s) fun t =>
    t.grp.lastInstant = s.clk.datum / 1000000 ∧ t.term = s.term ∧ t.role = s.role ∧
      (∀ k, (s.link k).state = 2 → 2 ≤ (s.link k).silent → (t.link k).state = 3) ∧
      ∀ k, k < s.memberCount → some k ≠ s.myIndex → (t.link k).state = 2 ∨ (t.link k).state = 3 →
        ∃ b, Posted t (.heartbeat k b) ∧ b.term = s.term ∧ b.commit = s.grp.commit := by
  obtain ⟨hmv, hseat, hlast⟩ := instant_reviewed hw
  have hex := heartbeatInstant_eq hr hm hl
  rw [if_neg (ne_true_of_eq_false hn)] at hex
  generalize s.instant.reviewQuorum.fetchBehind = v at hmv hseat hlast hex
  simp only [State.seat, Prod.mk.injEq] at hseat
  have hren : Sends v v.renewLinks := .renewLinks
  have hsend := hren.trans (sendBeats_sends v.renewLinks).1
  have hrd : ∀ i a, v.renewLinks.sendBeats.rd i a = v.rd i a := State.rd_congr hsend.dict
  have hrd' : ∀ i a, v.renewLinks.rd i a = v.rd i a := State.rd_congr hren.dict
  refine ⟨_, hex, ((congrArg Group.lastInstant hsend.grp).trans rfl).trans hlast, (hrd _ _).trans hseat.2.1, (hrd _ _).trans hseat.1, fun k h2 hs => ?_,
    fun k hk hmy hst => ?_⟩
  · refine hsend.down k ((hmv.state k).trans ?_)
    rw [link_instant h2]
    exact quiet_state h2 hs
  · have hmy' : v.renewLinks.myIndex = s.myIndex := (myIndex_congr (hrd' _ _) (hrd' _ _) (fun i => hrd' _ _) (hren.within.same .lc rfl)
      (congrArg Keys.testRoot (hren.within.same .keys rfl))).trans hmv.myIndex
    have hcount : v.renewLinks.memberCount = s.memberCount := (hrd' _ _).trans hmv.memberCount
    obtain ⟨b, hb, ht, hc⟩ := sendBeats_posted (s := v.renewLinks) (hcount.symm ▸ hk) (hmy'.symm ▸ hmy) hst
    exact ⟨b, hb, ht.trans ((hrd' _ _).trans hseat.2.1), hc.trans (((congrArg Group.commit hren.grp).trans rfl).trans hmv.commit)⟩

/-- An instant at which a member claims the next term, and its own grant makes no quorum. -/
theorem heartbeatInstant_claims (hwf : Map.wf s.dict = true) (hc : s.instant.reviewQuorum.fetchBehind.mayClaim = true)
    (hq : s.instant.reviewQuorum.fetchBehind.quorum [s.instant.reviewQuorum.fetchBehind.me] = false) : GoesTo (exec .heartbeatInstant s) fun t =>
    t.role = 2 ∧ t.term = s.term + 1 ∧ t.grp.grantedIn = s.term + 1 ∧ t.grp.grants = [s.me] ∧
      ∀ k ∈ s.instant.reviewQuorum.fetchBehind.peersUp, Posted t (.claim k (s.term + 1) s.me s.grp.last.1 s.grp.last.2) := by
  obtain ⟨hmv, hseat, -⟩ := instant_reviewed hw
  have hex := heartbeatInstant_eq hr hm hl
  rw [if_pos hc] at hex
  generalize s.instant.reviewQuorum.fetchBehind = v at hmv hseat hex hq ⊢
  simp only [State.seat, Prod.mk.injEq] at hseat
  obtain ⟨hcs, hin, hgr, hposted⟩ := claimTerm_spec (hmv.wf hwf) (hmv.writes.trans hw) hq
  have hsend := (Sends.renewLinks (s := v.claimTerm)).trans (sendBeats_sends v.claimTerm.renewLinks).1
  have hrd : ∀ i a, v.claimTerm.renewLinks.sendBeats.rd i a = v.claimTerm.rd i a := State.rd_congr hsend.dict
  have hme : v.me = s.me := hmv.me
  have hlast : v.grp.last = s.grp.last := hmv.last
  have hterm : v.term = s.term := hseat.2.1
  rw [hterm] at hcs hin
  simp only [State.seat, Prod.mk.injEq] at hcs
  generalize v.claimTerm = c at hcs hin hgr hposted hsend hrd hex
  refine ⟨_, hex, (hrd _ _).trans hcs.1, (hrd _ _).trans hcs.2.1, ((congrArg Group.grantedIn hsend.grp).trans rfl).trans hin,
    (((congrArg Group.grants hsend.grp).trans rfl).trans hgr).trans (by rw [hme]), fun k hk => hsend.posted ?_⟩
  have hk' := hposted k hk
  rw [hterm, hme, hlast] at hk'
  exact hk'

end

/-- Settles O45: what posting to a link keeps, what a review of the quorum keeps, and the seat that following, claiming and granting leave. -/
theorem groupLinksAndSequencingComplete : Obligations.GroupLinksAndSequencingComplete := by
  unfold Obligations.GroupLinksAndSequencingComplete
  refine ⟨fun s hr => ⟨fun src body key cert m i ha hm hi => ?_, fun h hm hs => ?_, fun h hm hs hl hg hd => ?_, fun h b w es g x y z v f => ?_⟩,
    fun s h hwf hw => ⟨fun b hs => ⟨heartbeat_remembered hw hs, fun h0 h1 hle h3 hr1 hr4 hc ha _ => heartbeat_followed hw hs hwf h0 h1 hle h3 hr1 hr4 hc ha⟩,
      fun hr hm hl => ?_, fun term claimant lastTerm lastIndex => ?_, fun term lastTerm lastIndex f => ?_⟩⟩
  · intro rest o
    by_cases hc : s.linkUp src.port = true ∧ fieldAt body 100 16 = s.groupId ∧ announceOk ⟨src, body⟩ key cert = true ∧ m < i ∧ (s.link i).state ≠ 2
    · rw [if_pos hc]
      exact announceReceive_links hr ha hm hi hc
    · rw [if_neg hc]
      exact announceReceive_drops hr ha hm hi hc
  · cases hmsg : s.helloMsg false h with
    | none => exact helloInit_waits hmsg
    | some msg =>
      dsimp only
      split
      · next hbad => exact helloInit_refused hr hm hs hmsg hbad
      · next hbad =>
        obtain ⟨t, ht, hlink, hb⟩ := helloInit_links hr hm hs hmsg hbad
        exact ⟨t, ht, hlink.state, hlink.gen, hlink.heard, hlink.peer, hlink.port, hb⟩
  · cases hmsg : s.helloMsg true h with
    | none => exact helloReply_waits hmsg
    | some msg =>
      dsimp only
      split
      · next hbad => exact helloReply_refused hr hm hs hl hg hd hmsg hbad
      · next hbad =>
        obtain ⟨t, ht, hlink⟩ := helloReply_links hr hm hs hl hg hd hmsg hbad
        exact ⟨t, ht, hlink.state, hlink.gen, hlink.heard⟩
  · exact ⟨fun hn => (exec_heartbeat ..).trans (onLink_waits hn), fun hn => (exec_append ..).trans (onLink_waits hn),
      fun hn => (exec_ack ..).trans (onLink_waits hn), fun hn => (exec_claim ..).trans (onLink_waits hn), fun hn => (exec_grant ..).trans (onLink_waits hn),
      fun hn => (exec_forward ..).trans (onLink_waits hn), fun hn => (exec_result ..).trans (onLink_waits hn),
      fun hn => (exec_peerFetch ..).trans (onLink_waits hn), fun hn => (exec_entries ..).trans (onLink_waits hn),
      fun hn => (exec_readIndex ..).trans (onLink_waits hn), fun hn => (exec_readReply ..).trans (onLink_waits hn)⟩
  · intro quietened v
    split
    · next hn => exact heartbeatInstant_beats hr hm hl hw hn
    · next hc =>
      split
      · next hq => exact heartbeatInstant_claims hr hm hl hw hwf (eq_true_of_ne_false hc) hq
      · exact ⟨_, heartbeatInstant_eq hr hm hl⟩
  · intro ok u hs
    by_cases hg : claimant = h.sender ∧ u.grants term claimant lastTerm lastIndex = true
    · rw [if_pos hg]
      exact claim_granted hs hwf hw hg
    · rw [if_neg hg]
      exact claim_refused hs hg
  · intro ok u hs gs v
    refine ⟨grant_late hs hw, fun hf hr ht hlog => ?_, fun hf hr ht => ?_⟩
    · subst hf
      split
      · next hq => exact grant_elects hw hr ht hs hwf (fun e he => (hlog e he).2) hq
      · next hq => exact grant_awaits hw hr ht hs hq
    · subst hf
      split
      · next hl =>
        refine (grant_refused hw hr ht hs).trans (congrArg Host.Outcome.next (if_neg ?_))
        rw [hl]
        decide
      · next hl => exact grant_behind hw hr ht hs hl

end Machine
end Sys2Proof
end

section
/-! Opfel frames (03 R41-R67): the whole message of one frame, what a send leaves of a channel, and what the trim of its window keeps. -/

namespace Sys2Proof
namespace Machine

variable {s t : State} {f : OpfelIn} {slot : Nat} {c : Channel}

/-! ### A frame that its port takes -/

theorem frames_unheard (h : s.runs = false ∨ s.linkUp f.port = false ∨ s.taken f = false) :
    exec (.opfelFrame f) s = .next s ∧ exec (.credit f) s = .next s := by
  have hc : (s.runs && s.linkUp f.port && s.taken f) = false := by
    rcases h with h | h | h <;> simp [h]
  exact ⟨when_of_false hc, when_of_false (by rw [hc, Bool.false_and])⟩

/-- A frame that the running block takes at a port with a link. -/
def State.hearsFrame (s : State) (f : OpfelIn) : Prop := s.runs = true ∧ s.linkUp f.port = true ∧ s.taken f = true

theorem opfelFrame_heard (h : s.hearsFrame f) : exec (.opfelFrame f) s = .next (s.receive f) := by
  obtain ⟨hr, hl, ht⟩ := h
  exact when_of_true (by rw [hr, hl, ht]; rfl)

theorem credit_heard (h : s.hearsFrame f) (hk : f.kind = 0x6 ∨ f.badFormat = true) : exec (.credit f) s = .next (s.receive f) := by
  obtain ⟨hr, hl, ht⟩ := h
  exact when_of_true (by rcases hk with hk | hk <;> simp [hr, hl, ht, hk])

theorem receive_badFormat (h : f.badFormat = true) : s.receive f = s.inc 0x1600 0x10 1 := if_pos h

theorem receive_badCarrier (h : f.badFormat = false) (hc : f.badCarrier = true) : s.receive f = s.inc 0x1600 0x11 1 := by
  unfold State.receive
  rw [if_neg (Bool.eq_false_iff.mp h), if_pos hc]

/-- The kinds that travel on a channel. -/
def OnChannel (f : OpfelIn) : Prop := f.kind = 0x1 ∨ f.kind = 0x3 ∨ f.kind = 0x4 ∨ f.kind = 0x5 ∨ f.kind = 0x6

theorem receive_onChannel (h : f.badFormat = false) (hc : f.badCarrier = false) (hk : OnChannel f) : s.receive f = s.channelFrame f := by
  unfold State.receive
  rw [if_neg (Bool.eq_false_iff.mp h), if_neg (Bool.eq_false_iff.mp hc)]
  rcases hk with hk | hk | hk | hk | hk <;> simp [hk]

/-! ### A message whole in one frame -/

/-- A sound frame that is a whole message, of which nothing came before. -/
def State.WholeFrame (s : State) (f : OpfelIn) : Prop :=
  f.badFormat = false ∧ f.badCarrier = false ∧ s.findPart f.part = none ∧ f.segmentOk = true ∧ f.segCount = 1 ∧ f.length = f.inside.length ∧ f.length ≤ 65536

/-- The message of one frame that is whole. -/
def State.wholePart (s : State) (f : OpfelIn) : Partial := { newPartial s f with segs := [(f.segIndex, f.inside)] }

theorem join_whole (h : s.WholeFrame f) : ((s.findPart f.part).getD (newPartial s f)).join f f.inside = .whole (s.wholePart f) := by
  obtain ⟨-, -, hp, hok, hn, hlen, hmax⟩ := h
  have hm : (newPartial s f).matchesSegment f = true := by simp [Partial.matchesSegment, newPartial, hok]
  have ha : (s.wholePart f).arrived = f.inside.length := rfl
  rw [hp, Option.getD_none]
  unfold Partial.join
  rw [hm]
  refine (if_neg (by simp)).trans ((if_neg (Nat.not_lt.mpr hmax)).trans ((if_neg (by simp [newPartial, Map.find])).trans ?_))
  refine (if_neg ?_).trans ((if_neg ?_).trans (if_neg ?_))
  · exact Nat.not_lt.mpr (ha.trans hlen.symm).le
  · exact Nat.not_lt.mpr hn.le
  · exact Nat.not_lt.mpr (hlen.trans ha.symm).le

theorem body_wholePart (s : State) (f : OpfelIn) : (s.wholePart f).body = f.inside := List.append_nil _

theorem dropPart_absent {r : PartRef} (h : s.findPart r = none) : s.dropPart r = s := by
  have hp : s.parts.filter (fun p => !p.named r) = s.parts := List.filter_eq_self.mpr fun p hp => by
    simpa using List.find?_eq_none.mp h p hp
  unfold State.dropPart
  rw [hp]

theorem findPart_dropPart (s : State) (r : PartRef) : (s.dropPart r).findPart r = none :=
  List.find?_eq_none.mpr fun p hp => by simpa using (List.mem_filter.mp hp).2

theorem countRetry_eq (s : State) (f : OpfelIn) : s.countRetry f = { s with dict := (s.countRetry f).dict } := by
  unfold State.countRetry
  split <;> rfl

theorem countRetry_first (h : bitAt f.flags 3 = false) : s.countRetry f = s := if_neg (Bool.eq_false_iff.mp h)

theorem wholeFrame_countRetry (h : s.WholeFrame f) : (s.countRetry f).WholeFrame f := by
  rw [countRetry_eq]
  exact h

theorem handshake_whole (hh : s.hearsFrame f) (h : s.WholeFrame f) (hk : f.kind = 0xA) (hq : f.queue = 0) (hz : f.handle = 0) (ho : f.opcode = 0)
    (hkey : f.key = 0) (hs : f.seq ≠ 0) : GoesTo (exec (.opfelFrame f) s) (fun t =>
      t.hsIn = s.hsIn ++ [{ tenant := f.tenant, ident := f.seq, cookie := f.cookie, port := f.port, peer := f.peer, declared := f.length, body := f.inside }] ∧
        t = { s with hsIn := t.hsIn, dict := t.dict }) := by
  have hw := wholeFrame_countRetry h
  have hj := join_whole hw
  have hb := body_wholePart (s.countRetry f) f
  have hf : (s.countRetry f).findPart f.part = none := hw.2.2.1
  refine ⟨_, opfelFrame_heard hh, ?_⟩
  have hr : s.receive f = s.handshakeFrame f := by
    unfold State.receive
    rw [if_neg (Bool.eq_false_iff.mp h.1), if_neg (Bool.eq_false_iff.mp h.2.1)]
    simp [hk]
  rw [hr]
  unfold State.handshakeFrame
  rw [if_neg (by simp [hq, hz, ho, hkey, hs]), hj]
  dsimp only
  rw [hb, dropPart_absent hf, countRetry_eq]
  exact ⟨rfl, rfl⟩

theorem announce_whole (hh : s.hearsFrame f) (h : s.WholeFrame f) (hk : f.kind = 0x9) : GoesTo (exec (.opfelFrame f) s) (fun t =>
    t.grp = { s.grp with announced := s.grp.announced ++ [⟨⟨f.port, f.peer, f.seq⟩, f.inside⟩] } ∧ t = { s with grp := t.grp, dict := t.dict }) := by
  have hw := wholeFrame_countRetry h
  have hj := join_whole hw
  have hb := body_wholePart (s.countRetry f) f
  have hf : (s.countRetry f).findPart f.part = none := hw.2.2.1
  refine ⟨_, opfelFrame_heard hh, ?_⟩
  have hr : s.receive f = (s.countRetry f).announceFrame f := by
    unfold State.receive
    rw [if_neg (Bool.eq_false_iff.mp h.1), if_neg (Bool.eq_false_iff.mp h.2.1), if_pos hk]
  rw [hr]
  unfold State.announceFrame
  rw [hj]
  dsimp only
  rw [hb, dropPart_absent hf, countRetry_eq]
  exact ⟨rfl, rfl⟩

/-! ### What a send leaves of a channel -/

theorem length_framesOf_pos (size port src handle : Nat) (c : Channel) (kind role tenant queue seq opcode status detail cookie key : Nat) (payload : Bytes) :
    0 < (framesOf size port src handle c kind role tenant queue seq opcode status detail cookie key payload).length := by
  unfold framesOf
  rw [List.length_map, List.length_range]
  exact Nat.lt_of_lt_of_le Nat.one_pos (Nat.le_max_left _ _)

theorem tx_transmit_longer {fs : List TxFrame} (h : 0 < fs.length) : s.tx.length < (s.transmit fs).tx.length := by
  show _ < (s.tx ++ fs.map s.wire).length
  rw [List.length_append, List.length_map]
  exact Nat.lt_add_of_pos_right h

/-- The part of a channel that its window hangs on, and its life. -/
def Channel.window (c : Channel) : Nat × Nat × ChanState := (c.high, c.floor, c.state)

/-- The window of the channel in a slot. -/
def State.chanWindow (s : State) (slot : Nat) : Option (Nat × Nat × ChanState) := (Map.find s.chans slot).map Channel.window

theorem low_of_window {c d : Channel} (h : c.window = d.window) : c.low = d.low := by
  obtain ⟨hh, hf, -⟩ := by simpa [Channel.window] using h
  rw [Channel.low, Channel.low, hh, hf]

theorem window_put (h : t.chans = Map.put s.chans slot c) : t.chanWindow slot = some c.window := by
  rw [State.chanWindow, h, Map.find_put_self, Option.map_some]

theorem window_congr (h : t.chans = s.chans) (slot : Nat) : t.chanWindow slot = s.chanWindow slot := by rw [State.chanWindow, State.chanWindow, h]

theorem window_update {g : Channel → Channel} (hg : ∀ x, (g x).window = x.window) (h : t.chans = Map.update s.chans slot g) :
    t.chanWindow slot = s.chanWindow slot := by
  rw [State.chanWindow, h, Map.update]
  split
  next v hv => rw [Map.find_put_self, State.chanWindow, hv, Option.map_some, Option.map_some, hg]
  · rfl

section
variable {handle kind role tenant queue seq opcode status detail cookie key : Nat} {payload : Bytes}

theorem sendAs_longer : s.tx.length < (s.sendAs slot c tenant handle kind role queue seq opcode status detail cookie key payload).tx.length :=
  tx_transmit_longer (s := { s with chans := Map.put s.chans slot (s.raiseGrant c) }) (length_framesOf_pos ..)

theorem window_sendAs : (s.sendAs slot c tenant handle kind role queue seq opcode status detail cookie key payload).chanWindow slot = some c.window :=
  window_put (c := s.raiseGrant c) (s := s) rfl

theorem window_sendRefusal : (s.sendRefusal slot c tenant handle queue seq opcode status detail cookie key payload).chanWindow slot = some c.window := by
  unfold State.sendRefusal
  split
  · exact window_sendAs
  · exact window_put (s := s) rfl

theorem window_notice : (s.notice slot kind opcode status detail payload).chanWindow slot = s.chanWindow slot := by
  unfold State.notice
  split
  · rfl
  next c hc =>
    split
    · rfl
    · exact (window_sendAs).trans (by rw [State.chanWindow, hc]; rfl)

end

theorem window_trim : (s.trim slot).chanWindow slot = s.chanWindow slot := by
  unfold State.trim
  split
  · rfl
  next c hc => exact (window_put (s := s) rfl).trans (by rw [State.chanWindow, hc]; rfl)

theorem window_sendCredit : (s.sendCredit slot).chanWindow slot = s.chanWindow slot := by
  unfold State.sendCredit
  split
  · rfl
  · exact window_notice

theorem jobs_sendCredit : (s.sendCredit slot).jobs = s.jobs := (Within.sendCredit (k := parts [.tx, .chans]) rfl .refl).same .jobs rfl

/-- A channel that is not closing abortively gets the CREDIT it asked for. -/
theorem sendCredit_longer {w : Nat × Nat × ChanState} (h : s.chanWindow slot = some w) (hw : w.2.2 ≠ .closing) : s.tx.length < (s.sendCredit slot).tx.length := by
  obtain ⟨c, hc, rfl⟩ := Option.map_eq_some_iff.mp h
  unfold State.sendCredit State.notice
  rw [hc]
  dsimp only
  rw [if_neg (show c.state ≠ .closing from hw)]
  exact sendAs_longer

theorem emits_sendCredit : Emits s (s.sendCredit slot) := by
  unfold State.sendCredit
  split
  · exact .refl _
  · exact (Emits.refl s).notice

/-! ### Jobs whose messages are still in the window -/

/-- Of a list's elements the first of a kind is still the first once others have gone. -/
theorem find_filter_of_kept {α : Type} {p q : α → Bool} {a : α} {l : List α} (h : l.find? q = some a) (ha : p a = true) : (l.filter p).find? q = some a := by
  obtain ⟨hq, as, bs, rfl, has⟩ := List.find?_eq_some_iff_append.mp h
  rw [List.filter_append, List.filter_cons_of_pos ha]
  exact List.find?_eq_some_iff_append.mpr ⟨hq, _, _, rfl, fun x hx => has x (List.mem_of_mem_filter hx)⟩

theorem findJob_trim {r : JobRef} {j : Job} (h : s.findJob r = some j) (hk : j.state = .released → ∀ c, Map.find s.chans slot = some c → c.low < j.seq) :
    (s.trim slot).findJob r = some j := by
  unfold State.trim
  split
  · exact h
  next c hc =>
    refine find_filter_of_kept h ?_
    by_cases hs : j.state = .released
    · simp [Nat.not_le.mpr (hk hs c hc)]
    · simp [hs]

theorem jobs_trim : ∀ x ∈ (s.trim slot).jobs, x ∈ s.jobs := by
  unfold State.trim
  split
  · exact fun x hx => hx
  · exact fun x hx => List.mem_of_mem_filter hx

/-- A job replaced by another of the same message. -/
theorem findJob_mapJob_const {j x : Job} (h : s.findJob j.ref = some j) (hx : x.ref = j.ref) : (s.mapJob j.ref fun _ => x).findJob j.ref = some x := by
  have hp : (x.chan == j.chan && x.seq == j.seq) = true := by
    simpa [Job.ref] using hx
  have hm : ((fun y : Job => y.chan == j.chan && y.seq == j.seq) ∘ fun y => if y.chan == j.chan && y.seq == j.seq then x else y) =
      fun y : Job => y.chan == j.chan && y.seq == j.seq := by
    funext y
    dsimp only [Function.comp_apply]
    split
    next hy => rw [hp, hy]
    · rfl
  have hf : s.jobs.find? (fun y => y.chan == j.chan && y.seq == j.seq) = some j := h
  show List.find? (fun y : Job => y.chan == j.chan && y.seq == j.seq) (s.jobs.map fun y => if y.chan == j.chan && y.seq == j.seq then x else y) = some x
  rw [List.find?_map, hm, hf, Option.map_some, if_pos (by simp)]

/-- A new message's job is the one found under its sequence. -/
theorem findJob_append {r : JobRef} {j : Job} {l : List Job} (h : s.findJob r = none) (hl : l = s.jobs ++ [j]) (hc : j.chan = r.chan) (hq : j.seq = r.seq)
    (ht : t.jobs = l) : t.findJob r = some j := by
  rw [State.findJob, ht, hl, List.find?_append, show s.jobs.find? (fun j => j.chan == r.chan && j.seq == r.seq) = none from h]
  simp [hc, hq]

end Machine
end Sys2Proof
end

section
/-! A channel's frames (03 R43-R67): CREDIT, a completion asked for again, a refusal, and the first segment of a new message. -/

namespace Sys2Proof
namespace Machine

variable {s t : State} {f : OpfelIn} {slot : Nat} {c : Channel} {pl : Bytes} {status detail : Nat}

/-! ### The channel of a frame -/

theorem channelFrame_unknown (h : Map.find s.chans (f.handle % 2 ^ 16) = none) : s.channelFrame f = s.inc 0x1600 0x12 1 := by
  unfold State.channelFrame
  dsimp only
  rw [h]

theorem channelFrame_unauthentic (hc : Map.find s.chans (f.handle % 2 ^ 16) = some c) (h : c.gen ≠ f.handle / 2 ^ 16 % 1024 ∨ f.opened c.rxKey 0 = none) :
    s.channelFrame f = s.inc 0x1600 0x12 1 := by
  unfold State.channelFrame
  dsimp only
  rw [hc]
  by_cases hg : c.gen ≠ f.handle / 2 ^ 16 % 1024
  · exact if_pos hg
  · exact (if_neg hg).trans (by rw [h.resolve_left hg])

/-- A frame sent for the first time opens under a channel's key, and the channel takes frames. -/
def Authentic (s : State) (f : OpfelIn) (c : Channel) (pl : Bytes) : Prop :=
  Map.find s.chans (f.handle % 2 ^ 16) = some c ∧ c.gen = f.handle / 2 ^ 16 % 1024 ∧ f.opened c.rxKey 0 = some pl ∧ c.state ≠ .closing ∧ bitAt f.flags 3 = false

/-- The channel once it has heard a frame. -/
def State.heardOn (s : State) (f : OpfelIn) (c : Channel) : Channel := c.heard s.clk.datum f.peer f.port

/-- The state once the channel has heard a frame. -/
def State.hearing (s : State) (f : OpfelIn) (c : Channel) : State := { s with chans := Map.put s.chans (f.handle % 2 ^ 16) (s.heardOn f c) }

theorem channelFrame_authentic (h : Authentic s f c pl) : s.channelFrame f =
    if f.kind = 0x6 then (s.hearing f c).creditIn (f.handle % 2 ^ 16) f pl else (s.hearing f c).message (f.handle % 2 ^ 16) f pl := by
  obtain ⟨hc, hg, ho, hs, hr⟩ := h
  unfold State.channelFrame
  dsimp only
  rw [hc]
  refine (if_neg (not_not_intro hg)).trans ?_
  rw [ho]
  refine (if_neg hs).trans ?_
  rw [countRetry_first hr]
  rfl

theorem find_hearing (s : State) (f : OpfelIn) (c : Channel) : Map.find (s.hearing f c).chans (f.handle % 2 ^ 16) = some (s.heardOn f c) :=
  Map.find_put_self ..

theorem hearing_within (s : State) (f : OpfelIn) (c : Channel) : Within (parts [.chans]) s (s.hearing f c) := .update rfl .refl (.ofChans (Map.wf_put _ _ _))

theorem heardOn_state (h : c.state ≠ .closing) : (s.heardOn f c).state ≠ .closing := by
  show (if c.state = .pending then ChanState.opened else c.state) ≠ .closing
  split
  · decide
  · exact h

/-! ### CREDIT -/

theorem creditIn_refused (hc : Map.find s.chans slot = some c) (h : f.length ≠ 0 ∨ pl ≠ [] ∨ f.segCount ≠ 1) : s.creditIn slot f pl = s.inc 0x1600 0x14 1 := by
  unfold State.creditIn
  rw [hc]
  exact if_pos (h.imp_right fun h => h.imp_right .inl)

/-- The state once a CREDIT frame's sequence has been taken, where the channel takes new messages. -/
def State.credited (s : State) (slot : Nat) (c : Channel) (f : OpfelIn) : State :=
  if s.shut c then s else ({ s with chans := Map.put s.chans slot (c.accept f.seq) }).trim slot

theorem creditIn_accepted (hc : Map.find s.chans slot = some c) (hl : f.length = 0) (hp : pl = []) (hn : f.segCount = 1) (ho : f.segmentOk = true)
    (ht : f.tenant = f.handle / 2 ^ 26) (hm : f.tenant = c.tenant) (hr : c.inRange f.seq = true) :
    s.creditIn slot f pl = if f.needsAck then (s.credited slot c f).sendCredit slot else s.credited slot c f := by
  unfold State.creditIn
  rw [hc]
  exact if_neg (by simpa [hl, hp, hn, ho, ← hm, hr] using ht)

theorem credited_within (s : State) (slot : Nat) (c : Channel) (f : OpfelIn) : Within (parts [.chans, .jobs]) s (s.credited slot c f) :=
  .ite .refl (.trim rfl (.update rfl .refl (.ofChans (Map.wf_put _ _ _))))

theorem credited_window (hc : Map.find s.chans slot = some c) (hs : c.state ≠ .closing) : ∃ w, (s.credited slot c f).chanWindow slot = some w ∧ w.2.2 ≠ .closing := by
  unfold State.credited
  split
  · exact ⟨c.window, by rw [State.chanWindow, hc]; rfl, hs⟩
  · exact ⟨(c.accept f.seq).window, window_trim.trans (window_put (s := s) rfl), hs⟩

theorem credit_answered (hc : Map.find s.chans slot = some c) (hs : c.state ≠ .closing) :
    Within (parts [.chans, .jobs, .tx]) s ((s.credited slot c f).sendCredit slot) ∧ s.tx.length < ((s.credited slot c f).sendCredit slot).tx.length := by
  obtain ⟨w, hw, hl⟩ := credited_window (f := f) hc hs
  refine ⟨.sendCredit rfl ((credited_within s slot c f).mono rfl), ?_⟩
  have ht : (s.credited slot c f).tx = s.tx := (credited_within s slot c f).same .tx rfl
  exact ht ▸ sendCredit_longer hw hl

/-! ### A completion asked for again -/

theorem resend_longer {j : Job} {g : Nat × Nat} (hj : j.sentAs = some g) (hc : Map.find s.chans j.chan = some c) (he : (s.egress c.tenant).isSome = true) :
    Within (parts [.tx]) s (s.resend j) ∧ s.tx.length < (s.resend j).tx.length := by
  have h : ∃ fs, s.resend j = s.transmit fs ∧ 0 < fs.length := by
    unfold State.resend
    rw [hj, hc]
    refine ⟨_, if_neg ?_, length_framesOf_pos ..⟩
    rw [Option.isNone_iff_eq_none, ← Option.not_isSome_iff_eq_none, not_not]
    exact he
  obtain ⟨fs, h, hp⟩ := h
  rw [h]
  exact ⟨.transmit rfl .refl, tx_transmit_longer hp⟩

theorem message_resent {j : Job} (hc : Map.find s.chans slot = some c) (hj : s.findJob ⟨slot, f.seq⟩ = some j) (hr : j.state = .released)
    (hs : j.sentAs.isSome = true) (h0 : f.segIndex = 0) (hl : c.low < f.seq) : s.message slot f pl = s.resend j := by
  unfold State.message
  rw [hc]
  dsimp only
  rw [hj]
  dsimp only
  rw [if_neg (by rw [hr]; decide), if_neg (fun h => Nat.not_le.mpr hl h.2)]
  unfold State.repeated
  rw [hr]
  exact if_pos ⟨h0, hs⟩

/-! ### A new message -/

theorem message_new (hc : Map.find s.chans slot = some c) (hj : s.findJob ⟨slot, f.seq⟩ = none) (hs : c.seen.contains f.seq = false) :
    s.message slot f pl = match s.classify c f pl with
      | some (st, detail) => s.refuse slot c f st detail
      | none => s.admitMessage slot c f pl := by
  unfold State.message
  rw [hc]
  dsimp only
  rw [hj]
  exact if_neg (by rw [hs]; simp)

/-- The channel after the debit of a message refused. -/
def Channel.paid (c : Channel) (status n : Nat) : Channel := if status = 0x41 then c else c.debit n

theorem window_paid (c : Channel) (status n : Nat) : (c.paid status n).window = c.window := by
  unfold Channel.paid Channel.debit
  split
  · rfl
  · split <;> rfl

theorem inRange_of_window {d : Channel} (h : c.window = d.window) (q : Nat) : c.inRange q = d.inRange q := by
  have hh : c.high = d.high := congrArg Prod.fst h
  rw [Channel.inRange, Channel.inRange, low_of_window h, hh]

/-- A message that came whole in one segment is answered where it asks. -/
def State.acked (s : State) (slot : Nat) (f : OpfelIn) : State := if f.needsAck && f.segCount == 1 then s.sendCredit slot else s

theorem window_acked : (s.acked slot f).chanWindow slot = s.chanWindow slot := by
  unfold State.acked
  split
  · exact window_sendCredit
  · rfl

theorem acked_within : Within (parts [.tx, .chans]) s (s.acked slot f) := .ite (.sendCredit rfl .refl) .refl

theorem emits_acked : Emits s (s.acked slot f) := Emits.ite emits_sendCredit (.refl s)

theorem acked_unasked (h : f.needsAck = false) : s.acked slot f = s := if_neg (by simp [h])

/-- The completion of a refusal that no slot keeps. -/
def State.turnedAway (s : State) (slot : Nat) (c : Channel) (f : OpfelIn) (status detail : Nat) : State :=
  s.sendRefusal slot ((c.paid status (blocksOf f.length)).raise f.seq) f.tenant f.handle f.queue f.seq f.opcode status detail f.cookie f.key
    (s.resultOf f.kind status [])

/-- The slot that keeps a refusal. -/
def State.refusalJob (s : State) (slot : Nat) (c : Channel) (f : OpfelIn) (status detail : Nat) : Job :=
  { (newJob s slot (c.paid status (blocksOf f.length)) f none).ended status detail (s.resultOf f.kind status []) f.key with
    slotless := !s.queueFree (c.paid status (blocksOf f.length)).tenant f.queue }

/-- The state once a slot keeps a refusal. -/
def State.refusalKept (s : State) (slot : Nat) (c : Channel) (f : OpfelIn) (status detail : Nat) : State :=
  { s with
    jobs := s.jobs ++ [s.refusalJob slot c f status detail]
    order := s.order + 1
    chans := Map.put s.chans slot ((c.paid status (blocksOf f.length)).accept f.seq) }

theorem refuse_eq (s : State) (slot : Nat) (c : Channel) (f : OpfelIn) (status detail : Nat) : s.refuse slot c f status detail =
    (if uncached status || !(c.paid status (blocksOf f.length)).inRange f.seq then (s.turnedAway slot c f status detail).trim slot
      else (s.refusalKept slot c f status detail).trim slot).acked slot f := rfl

theorem refuse_sent (h : uncached status = true ∨ c.inRange f.seq = false) :
    s.refuse slot c f status detail = ((s.turnedAway slot c f status detail).trim slot).acked slot f := by
  rw [refuse_eq, inRange_of_window (window_paid c status _), if_pos (by rcases h with h | h <;> simp [h])]

theorem refuse_kept (hu : uncached status = false) (hr : c.inRange f.seq = true) :
    s.refuse slot c f status detail = ((s.refusalKept slot c f status detail).trim slot).acked slot f := by
  rw [refuse_eq, inRange_of_window (window_paid c status _), if_neg (by simp [hu, hr])]

theorem refuse_sent_within (h : uncached status = true ∨ c.inRange f.seq = false) :
    Within (parts [.tx, .waits, .chans, .jobs]) s (s.refuse slot c f status detail) := by
  rw [refuse_sent h]
  exact Within.trans (.trim rfl (.sendRefusal rfl .refl)) (acked_within.mono rfl)

theorem refuse_sent_longer (h : uncached status = true ∨ c.inRange f.seq = false) (he : (s.egress c.tenant).isSome = true) :
    s.tx.length < (s.refuse slot c f status detail).tx.length := by
  rw [refuse_sent h]
  have ht : ((c.paid status (blocksOf f.length)).raise f.seq).tenant = c.tenant := by
    unfold Channel.paid Channel.debit Channel.raise
    split
    · rfl
    · dsimp only
      split <;> rfl
  have hs : s.tx.length < (s.turnedAway slot c f status detail).tx.length := by
    unfold State.turnedAway State.sendRefusal
    rw [if_pos (ht ▸ he)]
    exact sendAs_longer
  have hk : ((s.turnedAway slot c f status detail).trim slot).tx = (s.turnedAway slot c f status detail).tx :=
    (Within.trim (k := parts [.chans, .jobs]) rfl .refl).same .tx rfl
  exact (hk ▸ hs : s.tx.length < ((s.turnedAway slot c f status detail).trim slot).tx.length).trans_le emits_acked.length_le

theorem refuse_sent_waits (h : uncached status = true ∨ c.inRange f.seq = false) (hn : f.needsAck = false) (he : (s.egress c.tenant).isSome = false) :
    (s.refuse slot c f status detail).waits.length = s.waits.length + 1 := by
  have hk : ((s.turnedAway slot c f status detail).trim slot).waits = (s.turnedAway slot c f status detail).waits :=
    (Within.trim (k := parts [.chans, .jobs]) rfl .refl).same .waits rfl
  rw [refuse_sent h, acked_unasked hn, hk]
  have ht : ((c.paid status (blocksOf f.length)).raise f.seq).tenant = c.tenant := by
    unfold Channel.paid Channel.debit Channel.raise
    split
    · rfl
    · dsimp only
      split <;> rfl
  unfold State.turnedAway State.sendRefusal
  rw [if_neg (by rw [ht, he]; simp)]
  exact List.length_append

theorem refuse_sent_high (h : uncached status = true ∨ c.inRange f.seq = false) {d : Channel}
    (hd : Map.find (s.refuse slot c f status detail).chans slot = some d) : d.high = if c.inRange f.seq then Nat.max c.high f.seq else c.high := by
  have hw := window_paid c status (blocksOf f.length)
  have hr : (s.refuse slot c f status detail).chanWindow slot = some ((c.paid status (blocksOf f.length)).raise f.seq).window := by
    rw [refuse_sent h]
    exact window_acked.trans (window_trim.trans window_sendRefusal)
  have hh : d.high = ((c.paid status (blocksOf f.length)).raise f.seq).high := by
    rw [State.chanWindow, hd] at hr
    exact congrArg Prod.fst (Option.some.inj hr)
  have hp : (c.paid status (blocksOf f.length)).high = c.high := congrArg Prod.fst hw
  rw [hh, Channel.raise, inRange_of_window hw, hp]

theorem refuse_kept_done (hu : uncached status = false) (hr : c.inRange f.seq = true) (hj : s.findJob ⟨slot, f.seq⟩ = none) :
    ∃ j, (s.refuse slot c f status detail).findJob ⟨slot, f.seq⟩ = some j ∧ j.state = .done ∧ j.status = status ∧ j.detail = detail := by
  rw [refuse_kept hu hr]
  refine ⟨s.refusalJob slot c f status detail, ?_, rfl, rfl, rfl⟩
  rw [State.findJob_congr (acked_within.same .jobs rfl)]
  exact findJob_trim (findJob_append hj rfl rfl rfl rfl) (fun h => by cases h)

/-! ### The first segment of a message that is admitted -/

/-- A message's slot before its first segment has been put in. -/
def Job.Awaits (j : Job) (f : OpfelIn) : Prop :=
  j.segs = [] ∧ j.state = .reassembling ∧ j.matchesSegment f = true ∧ j.needsAck = f.needsAck

/-- Two slots of one message. -/
def Job.SameMessage (j x : Job) : Prop := x.tenant = j.tenant ∧ x.queue = j.queue ∧ x.opcode = j.opcode ∧ x.key = j.key ∧ x.order = j.order

/-- The slot with the segment of a frame. -/
def Job.withSegment (j : Job) (f : OpfelIn) (pl : Bytes) : Job :=
  { j with segs := Map.put j.segs f.segIndex pl, needsAck := j.needsAck || f.needsAck }

theorem jobs_received_ite {p : Prop} [Decidable p] {j : Job} : (if p then s.received j else s).jobs = s.jobs := by
  have hr : (s.received j).jobs = s.jobs := (Within.received (k := parts [.tx, .chans]) rfl .refl).same .jobs rfl
  exact (apply_ite State.jobs _ _ _).trans (by rw [hr, ite_self])

/-- A segment refused with a status that is kept ends its message. -/
theorem segment_refused {j x : Job} {p : Prop} [Decidable p] (hj : s.findJob j.ref = some j) (hs : j.state = .reassembling) (hu : uncached status = false) :
    ∃ y, (if p then (s.finish j.ref status detail [] none).received x else s.finish j.ref status detail [] none).findJob j.ref = some y ∧
      j.SameMessage y ∧ y.state = .done ∧ y.status = status := by
  have hl : j.live = true := by rw [Job.live, hs]; rfl
  exact ⟨_, (State.findJob_congr jobs_received_ite _).trans (State.finish_jobs hj hl hu).1, ⟨rfl, rfl, rfl, rfl, rfl⟩, rfl, rfl⟩

/-- What the first segment of a message makes of its slot. -/
def FirstSegment (t : State) (j : Job) (f : OpfelIn) (pl : Bytes) : Prop :=
  ∃ x, t.findJob j.ref = some x ∧ j.SameMessage x ∧
    (f.segCount = 1 → pl.length = f.length → x.state = .queued ∧ x.payload = pl) ∧
    (1 < f.segCount → pl.length ≤ f.length → x.state = .reassembling ∧ Map.find x.segs f.segIndex = some pl) ∧
    (f.length < pl.length → x.state = .done ∧ x.status = 0x24) ∧
    (f.segCount = 1 → pl.length < f.length → x.state = .done ∧ x.status = 0x25)

theorem segs_matched {j : Job} (h : j.matchesSegment f = true) : j.length = f.length ∧ j.segCount = f.segCount ∧ 1 ≤ f.segCount := by
  simp only [Job.matchesSegment, OpfelIn.segmentOk, Bool.and_eq_true, beq_iff_eq, decide_eq_true_eq] at h
  omega

theorem addSegment_first {j : Job} (hj : s.findJob j.ref = some j) (hw : j.Awaits f) : FirstSegment (s.addSegment j f pl) j f pl := by
  obtain ⟨hsegs, hstate, hm, -⟩ := hw
  obtain ⟨hlen, hcount, hpos⟩ := segs_matched hm
  have hput : (j.withSegment f pl).segs = [(f.segIndex, pl)] := by
    show Map.put j.segs f.segIndex pl = _
    rw [hsegs]
    rfl
  have harr : (j.withSegment f pl).arrived = pl.length := by rw [Job.arrived, hput]; rfl
  have hpay : (j.withSegment f pl).payload = pl := by rw [Job.payload, hput]; exact List.append_nil _
  have hone : (j.withSegment f pl).segs.length = 1 := by rw [hput]; rfl
  have hnew : (Map.find j.segs f.segIndex).isSome = false := by rw [hsegs]; rfl
  have hlate : s.lateReserve j f pl = true := by simp [State.lateReserve, hsegs]
  have hadd : s.addSegment j f pl =
      if j.length < (j.withSegment f pl).arrived then
        (if j.segCount ≤ j.segs.length + 1 then (s.finish j.ref 0x24 0 [] none).received (j.withSegment f pl) else s.finish j.ref 0x24 0 [] none)
      else if (j.withSegment f pl).segs.length < j.segCount then s.mapJob j.ref (fun _ => j.withSegment f pl)
      else if (j.withSegment f pl).arrived < j.length then
        (if j.segCount ≤ j.segs.length + 1 then (s.finish j.ref 0x25 0 [] none).received (j.withSegment f pl) else s.finish j.ref 0x25 0 [] none)
      else (s.mapJob j.ref (fun _ => { j.withSegment f pl with state := .queued })).received (j.withSegment f pl) := by
    unfold State.addSegment
    rw [hm, hnew, hlate]
    rfl
  rw [harr, hone, hlen, hcount] at hadd
  rw [hadd]
  by_cases hover : f.length < pl.length
  · rw [if_pos hover]
    obtain ⟨x, hx, hs, hd, hst⟩ := segment_refused (x := j.withSegment f pl) (status := 0x24) (detail := 0) (p := f.segCount ≤ j.segs.length + 1) hj hstate rfl
    exact ⟨x, hx, hs, fun _ h => by omega, fun _ h => by omega, fun _ => ⟨hd, hst⟩, fun _ h => by omega⟩
  rw [if_neg hover]
  by_cases hmore : 1 < f.segCount
  · rw [if_pos hmore]
    exact ⟨_, findJob_mapJob_const hj rfl, ⟨rfl, rfl, rfl, rfl, rfl⟩, fun h => by omega,
      fun _ _ => ⟨hstate, by rw [hput]; simp [Map.find]⟩, fun h => absurd h hover, fun h => by omega⟩
  rw [if_neg hmore]
  by_cases hshort : pl.length < f.length
  · rw [if_pos hshort]
    obtain ⟨x, hx, hs, hd, hst⟩ := segment_refused (x := j.withSegment f pl) (status := 0x25) (detail := 0) (p := f.segCount ≤ j.segs.length + 1) hj hstate rfl
    exact ⟨x, hx, hs, fun _ h => by omega, fun h => absurd h hmore, fun h => absurd h hover, fun _ _ => ⟨hd, hst⟩⟩
  · rw [if_neg hshort]
    have hrec : ∀ u : State, (u.received (j.withSegment f pl)).jobs = u.jobs := fun u => (Within.received (k := parts [.tx, .chans]) rfl .refl).same .jobs rfl
    exact ⟨_, (State.findJob_congr (hrec _) _).trans (findJob_mapJob_const hj rfl), ⟨rfl, rfl, rfl, rfl, rfl⟩, fun _ _ => ⟨rfl, hpay⟩,
      fun h => absurd h hmore, fun h => absurd h hover, fun _ h => absurd h hshort⟩

end Machine
end Sys2Proof
end

section
/-! Messages (03 R41-R67): admission, the reassembly timeout, the release of a completion, and all of the obligation's clauses put together. -/

namespace Sys2Proof
namespace Machine

variable {s t : State} {f : OpfelIn} {slot : Nat} {c : Channel} {pl : Bytes} {status detail : Nat} {r : JobRef} {j : Job}

/-! ### A message that passes classification -/

theorem segmentOk_of_classified (h : s.classify c f pl = none) : f.segmentOk = true := by
  by_contra ho
  have hn : (!f.segmentOk) = true := by rw [Bool.eq_false_of_not_eq_true ho]; rfl
  unfold State.classify at h
  dsimp only at h
  rw [if_pos hn] at h
  split_ifs at h

/-- The state once a new message has its slot. -/
def State.admitting (s : State) (slot : Nat) (c : Channel) (f : OpfelIn) : State :=
  { s with
    jobs := s.jobs ++ [newJob s slot c f (s.boundKernel f.opcode)]
    order := s.order + 1
    chans := Map.put s.chans slot { (c.accept f.seq).debit (blocksOf f.length) with
      state := if f.kind = 0x5 ∧ f.opcode = 2 then .draining else c.state
      closeSeq := if f.kind = 0x5 ∧ f.opcode = 2 then some f.seq else c.closeSeq } }

theorem admitMessage_eq (s : State) (slot : Nat) (c : Channel) (f : OpfelIn) (pl : Bytes) : s.admitMessage slot c f pl =
    ((s.admitting slot c f).trim slot).addSegment (newJob s slot c f (s.boundKernel f.opcode)) f pl := rfl

theorem newJob_awaits (ho : f.segmentOk = true) (k : Option Kernel) : (newJob s slot c f k).Awaits f :=
  ⟨rfl, rfl, by simp [Job.matchesSegment, newJob, ho], rfl⟩

theorem admit_first (h : s.classify c f pl = none) (hj : s.findJob ⟨slot, f.seq⟩ = none) :
    FirstSegment (s.admitMessage slot c f pl) (newJob s slot c f (s.boundKernel f.opcode)) f pl := by
  rw [admitMessage_eq]
  have hn : (s.admitting slot c f).findJob ⟨slot, f.seq⟩ = some (newJob s slot c f (s.boundKernel f.opcode)) := findJob_append hj rfl rfl rfl rfl
  exact addSegment_first (findJob_trim hn fun h => by cases h) (newJob_awaits (segmentOk_of_classified h) _)

theorem order_admitMessage : (s.admitMessage slot c f pl).order = s.order + 1 := by
  have ht : ((s.admitting slot c f).trim slot).order = s.order + 1 := (Within.trim (k := parts [.chans, .jobs]) rfl .refl).same .order rfl
  rw [admitMessage_eq]
  exact ((Within.addSegment (k := parts [.dict, .dtx, .tx, .waits, .chans, .jobs, .units, .clus]) rfl .refl).same .order rfl).trans ht

theorem message_farSame : FarSame s ((s.hearing f c).message slot f pl) :=
  (Within.message (k := nearby) rfl ((hearing_within s f c).mono rfl)).farSame

/-! ### The reassembly timeout -/

theorem findJob_dropJob_self (s : State) (r : JobRef) : (s.dropJob r).findJob r = none :=
  List.find?_eq_none.mpr fun x hx => by simpa [imp_iff_not_or] using (List.mem_filter.mp hx).2

theorem findJob_dropJob_of_ne {x : JobRef} (h : x ≠ r) : (s.dropJob r).findJob x = s.findJob x := by
  unfold State.findJob State.dropJob
  dsimp only
  rw [List.find?_filter]
  refine List.find?_congr fun y _ => ?_
  cases hy : (y.chan == x.chan && y.seq == x.seq)
  · simp
  · simp only [Bool.and_eq_true, beq_iff_eq] at hy
    have hne : ¬ (y.chan = r.chan ∧ y.seq = r.seq) := fun ⟨hc, hs⟩ => h (by
      cases x; cases r
      simp_all)
    simpa [imp_iff_not_or] using hne

theorem seen_unsee (h : Map.find (s.unsee r).chans r.chan = some c) : r.seq ∉ c.seen := by
  have hu : Map.find (Map.update s.chans r.chan fun c => { c with seen := c.seen.filter fun q => q != r.seq }) r.chan = some c := h
  unfold Map.update at hu
  split at hu
  · rw [Map.find_put_self] at hu
    obtain rfl := Option.some.inj hu
    simp
  next hn => exact absurd (hn.symm.trans hu) (by simp)

theorem reassembly_message (hr : s.runs = true) (hj : s.findJob r = some j) (hs : j.state = .reassembling)
    (hd : s.rd 0x1600 2 * 1000000 ≤ s.clk.datum - j.firstAt) : GoesTo (exec (.reassemblyTimeout (.message r)) s) (fun t =>
      t.findJob r = none ∧ (∀ c, Map.find t.chans r.chan = some c → r.seq ∉ c.seen) ∧ t = { s with jobs := t.jobs, chans := t.chans, dict := t.dict } ∧
        ∀ x, x ≠ r → t.findJob x = s.findJob x) := by
  refine ⟨(s.unsee r).inc 0x1600 0x13 1, ?_, findJob_dropJob_self s r, fun c hc => seen_unsee hc, rfl, fun x hx => findJob_dropJob_of_ne hx⟩
  rw [exec_reassemblyTimeout]
  unfold execReassemblyTimeout
  dsimp only
  rw [hj]
  exact when_of_true (by simp [hr, hs, State.overdue, hd])

/-- The state once a partial message has been discarded and counted. -/
def State.partDropped (s : State) (r : PartRef) (x : Partial) : State :=
  let i := x.handle / 2 ^ 16 % 256
  let t := (s.dropPart r).inc 0x1600 0x13 1
  if x.kind = 0xA ∨ x.kind = 0x9 then t else t.setLink i { t.link i with seen := (t.link i).seen.filter (fun q => q != x.seq) }

theorem exec_partTimeout {r : PartRef} {x : Partial} (hx : s.findPart r = some x) :
    exec (.reassemblyTimeout r) s = when (s.runs && s.overdue x.firstAt) s (s.partDropped r x) := by
  rw [exec_reassemblyTimeout]
  unfold execReassemblyTimeout
  cases r with
  | message m => exact absurd (List.find?_some hx) Bool.false_ne_true
  | handshake src n ident =>
    dsimp only
    rw [hx]
    rfl
  | peer hello handle seq =>
    dsimp only
    rw [hx]
    rfl
  | announce src port seq =>
    dsimp only
    rw [hx]
    rfl

theorem partDropped_eq (s : State) (r : PartRef) (x : Partial) :
    s.partDropped r x = { (s.dropPart r).inc 0x1600 0x13 1 with grp := (s.partDropped r x).grp } := by
  unfold State.partDropped
  dsimp only
  split <;> rfl

theorem reassembly_part {r : PartRef} {x : Partial} (hr : s.runs = true) (hx : s.findPart r = some x)
    (hd : s.rd 0x1600 2 * 1000000 ≤ s.clk.datum - x.firstAt) (hw : Map.wf s.dict = true) : GoesTo (exec (.reassemblyTimeout r) s) (fun t =>
      t.findPart r = none ∧ t.rd 0x1600 0x13 = (s.rd 0x1600 0x13 + 1) % 2 ^ 64 ∧ t = { s with parts := t.parts, dict := t.dict, grp := t.grp }) := by
  refine ⟨s.partDropped r x, (exec_partTimeout hx).trans (when_of_true (by simp [hr, State.overdue, hd])), ?_⟩
  rw [partDropped_eq]
  exact ⟨findPart_dropPart s r, State.rd_inc (s := s.dropPart r) hw _ _ _, rfl⟩

/-! ### The release of a completion -/

theorem release_done (hj : s.findJob r = some j) (hc : Map.find s.chans r.chan = some c) (hs : j.state = .done) (hl : c.state ≠ .closing)
    (he : (s.egress c.tenant).isSome = true) (ho : s.orderReady r.chan r.seq c = true) : s.release r = s.sendCompletion j c := by
  unfold State.release
  rw [hj, hc]
  exact if_pos ⟨hs, hl, he, ho⟩

theorem sendCompletion_longer : s.tx.length < (s.sendCompletion j c).tx.length := sendAs_longer (s := s) (slot := j.chan)

theorem window_sendCompletion : (s.sendCompletion j c).chanWindow j.chan = some c.window :=
  (window_update (g := fun c => { c with released := Nat.max c.released j.seq }) (fun _ => rfl) rfl).trans (window_sendAs (s := s) (slot := j.chan))

theorem findJob_sendCompletion (hj : s.findJob j.ref = some j) : ∃ x, (s.sendCompletion j c).findJob j.ref = some x ∧ x.state = .released ∧
    x.sentAs.isSome = true ∧ x.seq = j.seq := by
  unfold State.sendCompletion
  extract_lets size u g v
  have hv : v.findJob j.ref = some j := hj
  exact ⟨_, State.findJob_mapJob_self (fun _ => rfl) hv, rfl, rfl, rfl⟩

theorem completionRelease_goes (hr : s.runs = true) (hj : s.findJob r = some j) (hs : j.state = .done) (hc : Map.find s.chans r.chan = some c)
    (hl : c.state ≠ .closing) (he : (s.egress c.tenant).isSome = true) (ho : s.orderReady r.chan r.seq c = true) :
    GoesTo (exec (.completionRelease r) s) (fun t => s.tx.length < t.tx.length ∧ FarSame s t ∧
      (c.low < r.seq → ∃ j', t.findJob r = some j' ∧ j'.state = .released ∧ j'.sentAs.isSome = true)) := by
  obtain rfl := State.ref_of_findJob hj
  refine ⟨(s.sendCompletion j c).trim j.chan, ?_, ?_, ?_, fun hq => ?_⟩
  · rw [← release_done hj hc hs hl he ho]
    exact when_of_true hr
  · have ht : ((s.sendCompletion j c).trim j.chan).tx = (s.sendCompletion j c).tx := (Within.trim (k := parts [.chans, .jobs]) rfl .refl).same .tx rfl
    exact ht ▸ sendCompletion_longer
  · exact (Within.trim (k := nearby) rfl (.sendCompletion rfl .refl)).farSame
  · obtain ⟨x, hx, hst, hsent, hseq⟩ := findJob_sendCompletion (c := c) hj
    refine ⟨x, findJob_trim hx fun _ d hd => ?_, hst, hsent⟩
    have hw := window_sendCompletion (s := s) (j := j) (c := c)
    rw [State.chanWindow, hd] at hw
    rw [low_of_window (Option.some.inj hw), hseq]
    exact hq

/-! ### A channel's frames, by kind -/

section
variable (hh : s.hearsFrame f) (hb : f.badFormat = false) (hcar : f.badCarrier = false) (ha : Authentic s f c pl)
include hh hb hcar

theorem opfelFrame_onChannel (hk : OnChannel f) : exec (.opfelFrame f) s = .next (s.channelFrame f) := by
  rw [opfelFrame_heard hh, receive_onChannel hb hcar hk]

include ha

theorem frame_credit (hk : f.kind = 0x6) : exec (.opfelFrame f) s = .next ((s.hearing f c).creditIn (f.handle % 2 ^ 16) f pl) ∧
    exec (.credit f) s = .next ((s.hearing f c).creditIn (f.handle % 2 ^ 16) f pl) := by
  have hr : s.receive f = (s.hearing f c).creditIn (f.handle % 2 ^ 16) f pl := by
    rw [receive_onChannel hb hcar (.inr (.inr (.inr (.inr hk)))), channelFrame_authentic ha, if_pos hk]
  exact ⟨hr ▸ opfelFrame_heard hh, hr ▸ credit_heard hh (.inl hk)⟩

theorem frame_message (hk : OnChannel f) (h6 : f.kind ≠ 0x6) :
    exec (.opfelFrame f) s = .next ((s.hearing f c).message (f.handle % 2 ^ 16) f pl) := by
  rw [opfelFrame_onChannel hh hb hcar hk, channelFrame_authentic ha, if_neg h6]

theorem credit_malformed (hk : f.kind = 0x6) (h : f.length ≠ 0 ∨ pl ≠ [] ∨ f.segCount ≠ 1) :
    exec (.opfelFrame f) s = .next ((s.hearing f c).inc 0x1600 0x14 1) ∧ exec (.credit f) s = .next ((s.hearing f c).inc 0x1600 0x14 1) :=
  creditIn_refused (find_hearing s f c) h ▸ frame_credit hh hb hcar ha hk

theorem credit_taken (hk : f.kind = 0x6) (hl : f.length = 0) (hp : pl = []) (hn : f.segCount = 1) (ho : f.segmentOk = true)
    (ht : f.tenant = f.handle / 2 ^ 26) (hm : f.tenant = c.tenant) (hr : (s.heardOn f c).inRange f.seq = true) :
    (f.needsAck = false → exec (.opfelFrame f) s = .next ((s.hearing f c).credited (f.handle % 2 ^ 16) (s.heardOn f c) f) ∧
      exec (.credit f) s = .next ((s.hearing f c).credited (f.handle % 2 ^ 16) (s.heardOn f c) f)) ∧
    (f.needsAck = true → GoesTo (exec (.credit f) s) (fun t => t = { s with chans := t.chans, jobs := t.jobs, tx := t.tx } ∧ s.tx.length < t.tx.length)) := by
  have hf := frame_credit hh hb hcar ha hk
  rw [creditIn_accepted (find_hearing s f c) hl hp hn ho ht hm hr] at hf
  obtain ⟨-, -, -, hs, -⟩ := ha
  refine ⟨fun hna => ?_, fun hna => ?_⟩
  · rw [hna] at hf
    exact hf
  · obtain ⟨hw, hlt⟩ := credit_answered (f := f) (find_hearing s f c) (heardOn_state hs)
    refine ⟨_, hf.2.trans (congrArg Host.Outcome.next (if_pos hna)), ?_, hlt⟩
    exact (Within.trans ((hearing_within s f c).mono rfl) hw).eq_keepBut

theorem frame_again {g : Nat × Nat} (hk : OnChannel f) (h6 : f.kind ≠ 0x6) (hj : s.findJob ⟨f.handle % 2 ^ 16, f.seq⟩ = some j) (hs : j.state = .released)
    (hg : j.sentAs = some g) (h0 : f.segIndex = 0) (hlow : c.low < f.seq) (he : (s.egress c.tenant).isSome = true) :
    GoesTo (exec (.opfelFrame f) s) (fun t => FarSame s t ∧ t.jobs = s.jobs ∧ s.tx.length < t.tx.length) := by
  have hm := message_resent (pl := pl) (find_hearing s f c) hj hs (by rw [hg]; rfl) h0 hlow
  have hjc : j.chan = f.handle % 2 ^ 16 := congrArg JobRef.chan (State.ref_of_findJob hj)
  obtain ⟨hw, hlt⟩ := resend_longer (s := s.hearing f c) (c := s.heardOn f c) hg (hjc ▸ find_hearing s f c) he
  refine ⟨_, frame_message hh hb hcar ha hk h6, message_farSame, ?_⟩
  rw [hm]
  exact ⟨hw.same .jobs rfl, hlt⟩

/-- What a refusal of the frame's message leaves. -/
def MessageRefused (s t : State) (f : OpfelIn) (c : Channel) (st d : Nat) : Prop :=
  (uncached st = true ∨ (s.heardOn f c).inRange f.seq = false →
    t = { s with chans := t.chans, jobs := t.jobs, tx := t.tx, waits := t.waits } ∧
    ((s.egress c.tenant).isSome = true → s.tx.length < t.tx.length) ∧
    (f.needsAck = false → (s.egress c.tenant).isSome = false → t.waits.length = s.waits.length + 1) ∧
    ∀ c'', Map.find t.chans (f.handle % 2 ^ 16) = some c'' → c''.high = if (s.heardOn f c).inRange f.seq then Nat.max c.high f.seq else c.high) ∧
  (uncached st = false → (s.heardOn f c).inRange f.seq = true →
    ∃ j, t.findJob ⟨f.handle % 2 ^ 16, f.seq⟩ = some j ∧ j.state = .done ∧ j.status = st ∧ j.detail = d)

theorem frame_refused (hk : OnChannel f) (h6 : f.kind ≠ 0x6) (hj : s.findJob ⟨f.handle % 2 ^ 16, f.seq⟩ = none) (hs : c.seen.contains f.seq = false)
    {st d : Nat} (hcl : (s.hearing f c).classify (s.heardOn f c) f pl = some (st, d)) :
    GoesTo (exec (.opfelFrame f) s) (fun t => FarSame s t ∧ MessageRefused s t f c st d) := by
  have hm := message_new (pl := pl) (find_hearing s f c) hj hs
  rw [hcl] at hm
  refine ⟨_, frame_message hh hb hcar ha hk h6, message_farSame, ?_⟩
  rw [hm]
  refine ⟨fun h => ⟨?_, ?_, ?_, fun _ => refuse_sent_high h⟩, fun hu hr => refuse_kept_done hu hr hj⟩
  · exact (Within.trans ((hearing_within s f c).mono rfl) (refuse_sent_within h)).eq_keepBut
  · exact refuse_sent_longer (s := s.hearing f c) (c := s.heardOn f c) h
  · exact refuse_sent_waits (s := s.hearing f c) (c := s.heardOn f c) h

theorem frame_admitted (hk : OnChannel f) (h6 : f.kind ≠ 0x6) (hj : s.findJob ⟨f.handle % 2 ^ 16, f.seq⟩ = none) (hs : c.seen.contains f.seq = false)
    (hcl : (s.hearing f c).classify (s.heardOn f c) f pl = none) : GoesTo (exec (.opfelFrame f) s) (fun t => FarSame s t ∧ t.order = s.order + 1 ∧
      ∃ j, t.findJob ⟨f.handle % 2 ^ 16, f.seq⟩ = some j ∧ j.tenant = c.tenant ∧ j.queue = f.queue ∧ j.opcode = f.opcode ∧ j.key = f.key ∧ j.order = s.order ∧
        (f.segCount = 1 → pl.length = f.length → j.state = .queued ∧ j.payload = pl) ∧
        (1 < f.segCount → pl.length ≤ f.length → j.state = .reassembling ∧ Map.find j.segs f.segIndex = some pl) ∧
        (f.length < pl.length → j.state = .done ∧ j.status = 0x24) ∧
        (f.segCount = 1 → pl.length < f.length → j.state = .done ∧ j.status = 0x25)) := by
  have hm := message_new (pl := pl) (find_hearing s f c) hj hs
  rw [hcl] at hm
  refine ⟨_, frame_message hh hb hcar ha hk h6, message_farSame, ?_⟩
  rw [hm]
  obtain ⟨x, hx, ⟨htn, hq, hop, hkey, hord⟩, hst⟩ := admit_first hcl hj
  exact ⟨order_admitMessage, x, hx, htn, hq, hop, hkey, hord, hst⟩

end

/-- Settles O29: frames by format, carrier, channel and kind; a message by its slot and its classification; then the timeouts and the release. -/
theorem messagesComplete : Obligations.MessagesComplete := by
  unfold Obligations.MessagesComplete
  refine ⟨fun s f => frames_unheard, fun s f hr hl ht => ?_, fun s hr => ⟨fun r j hj => ⟨reassembly_message hr hj, fun c hs hc hl he ho =>
    completionRelease_goes hr hj hs hc hl he ho⟩, fun r x hx hd hw => reassembly_part hr hx hd hw⟩⟩
  have hh : s.hearsFrame f := ⟨hr, hl, ht⟩
  extract_lets slot frame whole
  refine ⟨fun hw hk hq hz ho hkey hs => handshake_whole hh hw hk hq hz ho hkey hs, fun hw hk => announce_whole hh hw hk, fun hb => ?_, fun hb hc => ?_,
    fun hb hc hk => ⟨fun hn => ?_, fun c hfc h => ?_, fun c pl hfc hg ho hs hf => ?_⟩⟩
  · rw [← receive_badFormat hb]
    exact ⟨opfelFrame_heard hh, credit_heard hh (.inr hb)⟩
  · rw [← receive_badCarrier hb hc]
    exact opfelFrame_heard hh
  · exact (opfelFrame_onChannel hh hb hc hk).trans (congrArg Host.Outcome.next (channelFrame_unknown hn))
  · exact (opfelFrame_onChannel hh hb hc hk).trans (congrArg Host.Outcome.next (channelFrame_unauthentic hfc h))
  · have ha : Authentic s f c pl := ⟨hfc, hg, ho, hs, hf⟩
    extract_lets c' u
    exact ⟨fun h6 => ⟨credit_malformed hh hb hc ha h6, fun hl hp hn hok htn hm hrg => credit_taken hh hb hc ha h6 hl hp hn hok htn hm hrg⟩,
      fun h6 j g hj hst hse h0 hlow he => frame_again hh hb hc ha hk h6 hj hst hse h0 hlow he,
      fun h6 hj hseen => ⟨fun st d hcl => frame_refused hh hb hc ha hk h6 hj hseen hcl, fun hcl => frame_admitted hh hb hc ha hk h6 hj hseen hcl⟩⟩

end Machine
end Sys2Proof
end
